-- ==== Sys2Proof/Word.lean ====
section
/-! DEFINITION. Word.lean: the word and byte types of the block. Every register is 32 bits wide (18, before R435). -/

namespace Sys2Proof

/-- A register word. -/
abbrev Word := BitVec 32

/-- A byte of the capture memory, of the NOR flash or of a frame. -/
abbrev Byte := BitVec 8

end Sys2Proof
end

