-- ==== Sys2Proof/Syntax.lean ====
section
/-! DEFINITION. Syntax.lean: the commands of the block, one constructor of `Instr` for each row of opcode_table.json, with
the operands the row's rule gives it. What the world measures or delivers (samples, levels, loads, received bytes) comes as
operands; everything else is in the state. -/

namespace Sys2Proof

/-- The two control planes (R19). -/
inductive Plane where | A | B
deriving DecidableEq, Repr

/-- What the header of a Kolrok frame and of a command gives every command (R242, R243): the principal, the command's
sequence number and its FLAGS byte ([7] ORDERED). -/
structure CmdHead where
  principal : Nat
  cseq : Nat
  flags : Nat
deriving DecidableEq, Repr

/-- The body of PROTECT_ARM (R319), the port maps as numbers: bit i stands for port i. -/
structure ArmBody where
  target : Nat
  fields : Nat
  cfg : Nat
  lock : Nat
  floor : Nat
  inMap : Nat
  outMap : Nat
deriving DecidableEq, Repr

/-- The Kolrok commands with their bodies (R256). A STAGE entry is its two 16-bit halves. -/
inductive Cmd where
  | ping
  | summary (challenge : List Nat)
  | fence
  | read (addr words : Nat)
  | write (addr : Nat) (data : List Nat)
  | connect (inp out : Nat)
  | disconnect (inp out : Nat)
  | stage (id part parts : Nat) (entries : List (Nat × Nat))
  | setElement (element state : Nat)
  | commit (kind chip token mask frame : Nat)
  | abort (sFrame sChip : Nat)
  | remap (logical useAlt : Nat)
  | ctxRead (ctx first words : Nat)
  | ctxWrite (ctx first : Nat) (data : List Nat)
  | ctxState (ctx state : Nat)
  | guardWrite (tile offset value : Nat)
  | primerWrite (tile offset value : Nat)
  | primerApply (tiles : Nat)
  | tileResume (tiles : Nat)
  | hkaInject (channel tag : Nat)
  | calibrate (tiles : Nat)
  | stencilStart (gen : Nat)
  | mode (mode frame : Nat)
  | power (state : Nat)
  | drill (frame : Nat)
  | reboot (slot : Nat)
  | protectArm (body : ArmBody)
  | protectCommit (armId digest frame : Nat)
  | keyInstall (principal which : Nat) (wrapped : List Nat)
  | keyRoll (principal frame : Nat)
  | forward (pos : Nat) (frame : List Nat)
deriving DecidableEq, Repr

/-! ### What the world measures, delivered with the event that uses it -/

/-- The 128 conversion codes of one frame of a converter: a photodiode's slice (0 to 2,559) or a tile's spare (0 to 79). A
converter no list names converts the pedestal code, 256, throughout. -/
structure Codes where
  unit : Nat
  codes : List Nat
deriving DecidableEq, Repr

/-- What a heater channel's pin showed in the frame that ends (R203, R205, R207): channel 256·tile + c, the numbers of pulses
that met COMPLIANCE and SHORT, and whether it was at HEADROOM or at its current limit. -/
structure HeaterPin where
  channel : Nat
  compliance : Nat
  short : Nat
  headroom : Bool
  hvLoad : Bool
deriving DecidableEq, Repr

/-- What a calibration measures (chapter 9): the tile (80 for the HKA), the item as word offset of its CAL register from
0x6000, and the numbers measured. -/
structure CalValue where
  tile : Nat
  item : Nat
  values : List Int
deriving DecidableEq, Repr

/-- The SPP inputs over the frame that ends (R160): input, FCLK cycles high, rising edges. -/
structure SppCount where
  input : Nat
  high : Nat
  edges : Nat
deriving DecidableEq, Repr

/-- A time-stamp: seconds, nanoseconds, fraction in 2^-16 ns (R299). -/
structure Stamp where
  sec : Nat
  ns : Nat
  frac : Nat
deriving DecidableEq, Repr

/-- What FRAME_BOUNDARY takes from the world (R26): conversion codes, references found good for 20 μs (R111), the SPP inputs,
the heater pins, the levels of the EVT inputs at the boundary and those with a rising edge in the frame (R187), the phase
error of FCLK in 2^-32 ns (R296), the word in which each Cellar copy differs from the others (R364), calibration results,
the tiles the frame handshake did not reach (R220), the transmit stamps of the beacons a master sends on ports 0 and 1 (R300, R305). -/
structure FrameIn where
  slices : List Codes := []
  spares : List Codes := []
  refGood : List Nat := []
  spp : List SppCount := []
  heaters : List HeaterPin := []
  evtLevel : Nat := 0
  evtRise : Nat := 0
  phase : Int := 0
  copies : List Nat := [0, 0, 0]
  cal : List CalValue := []
  missed : List Nat := []
  beaconTx : List Stamp := []
deriving DecidableEq, Repr


/-- A time beacon as it arrives (R305): the master's frame number, its fabric time, hop count, correction in 2^-16 ns. -/
structure Beacon where
  frame : Nat
  time : Stamp
  hops : Nat
  corr : Int
deriving DecidableEq, Repr

/-- What the comparator finds different about a context (R347): the words plane A and plane B computed for its output, and what each
retained of U. -/
structure Mismatch where
  ctx : Nat
  wordA : Nat
  wordB : Nat
  uA : Nat
  uB : Nat
deriving DecidableEq, Repr

/-- Who reaches the registers (18, before R435). -/
inductive Requester where
  | principal (p : Nat)
  | sideband
  | firmware (p : Plane)
deriving DecidableEq, Repr

/-- The commands: one constructor for each row of opcode_table.json, in its order. -/
inductive Instr where
  /-- FRAME_BOUNDARY (R26): At each frame boundary every tile latches the input set of the frame, and the F-class shadows and boundary-timed actions apply. -/
  | frameBoundary (x : FrameIn)
  /-- OFFER_INSTANT (R27): 32 FCLK before each admission point, each plane offers the commands whose authentication it has completed, and its collector offers its fault messages. -/
  | offerInstant
  /-- ADMISSION_POINT (R27): At each admission point the merged batch is admitted to both planes, the sequence check runs and the scheduler releases commands. -/
  | admissionPoint (differ : Bool)
  /-- RELEASE_DEADLINE (R28): At 64 FCLK before a boundary the comparator and envelope guard act on the completed Standard words. -/
  | releaseDeadline (overran : List Nat) (margins : List (Nat × Nat)) (found : List Mismatch) (replayed : List Mismatch)
  /-- FEEDBACK_LOST (R147): The fourth consecutive set below the energy floor puts the context in HOLD with cause LOST. -/
  | feedbackLost (ctx : Nat)
  /-- FEEDBACK_FROZEN (R147): The eighth consecutive frozen set puts the context in HOLD with cause FROZEN. -/
  | feedbackFrozen (ctx : Nat)
  /-- INPUT_INVALID (R113): Sixteen consecutive INVALID feedback words put the context in HOLD with cause INPUT_INVALID. -/
  | inputInvalid (ctx : Nat)
  /-- FEEDBACK_OVERLOAD (R145): The sixteenth consecutive OVR word raises a feedback-overload fault once per run. -/
  | feedbackOverload (ctx : Nat)
  /-- FOLLOWING (R167): FE_CNT reaching FE_FRAMES raises a following-error fault and may put the context in HOLD. -/
  | following (ctx : Nat)
  /-- AUTO_RESUME (R158): The sixteenth consecutive good set returns a HOLD context to ACTIVE with XFER set. -/
  | autoResume (ctx : Nat)
  /-- EXPRESS_UPDATE (R31): An Express context computes its chip word from the chip's 8 samples, and the word is compared and applied. -/
  | expressUpdate (ctx : Nat) (chip : Nat) (codes : List Nat) (applied : Bool) (differ : Bool)
  /-- EXPRESS_OVERRUN (R31): An Express word not applied by the end of the next chip is discarded and counted. -/
  | expressOverrun (ctx : Nat) (chip : Nat)
  /-- EXP_JUDGED (R353): Four consecutive Express mismatches of one context judge the standby faulty. -/
  | expJudged (ctx : Nat)
  /-- KOLROK_FRAME_RX (R247): A received frame on a host lane passes the format, binding, authentication and command-header checks, or is discarded. -/
  | kolrokFrameRx (lane : Nat) (bytes : List Nat) (stamp : Stamp)
  /-- ARP_REQUEST (R241): A broadcast ARP request for the lane's IPv4 address is answered. -/
  | arpRequest (lane : Nat) (bytes : List Nat)
  /-- PTP_EVENT (R300): A PTP event message received on a lane is time-stamped at the PCS and then discarded by the filters. -/
  | ptpEvent (lane : Nat) (udp : Bool) (version : Nat) (messageType : Nat) (domain : Nat) (sequence : Nat) (port : Nat) (clock : Nat) (stamp : Stamp)
  /-- LANE_LINK_UP (R246): A lane's link comes up. -/
  | laneLinkUp (lane : Nat)
  /-- LANE_LINK_DOWN (R369): A lane loses block or FEC lock and raises LINK_DOWN. -/
  | laneLinkDown (lane : Nat) (fecOnly : Bool)
  /-- HI_BER (R369): A lane's PCS reports HI_BER. -/
  | hiBer (lane : Nat) (on : Bool)
  /-- FRAME_TRANSMIT (R265): A lane sends a waiting frame when it is free, round-robin or within the principal's SEALED window. -/
  | frameTransmit (lane : Nat) (pos : Nat) (stamp : Stamp)
  /-- PING (R256): PING command, answered with an empty response. -/
  | ping (h : CmdHead)
  /-- SUMMARY (R260): SUMMARY command returns the principal's view, optionally signed or full. -/
  | summary (h : CmdHead) (challenge : List Nat)
  /-- FENCE (R101): FENCE command, complete when every earlier command of the stream is complete. -/
  | fence (h : CmdHead)
  /-- READ (R256): READ command returns register words within the principal's scope. -/
  | read (h : CmdHead) (addr : Nat) (words : Nat)
  /-- WRITE (R256): WRITE command writes register words, refused as a whole if any word is refused. -/
  | write (h : CmdHead) (addr : Nat) (data : List Nat)
  /-- CONNECT (R54): CONNECT command requests a connection from an input to an output port. -/
  | connect (h : CmdHead) (inp : Nat) (out : Nat)
  /-- DISCONNECT (R54): DISCONNECT command removes a connection from the pending map. -/
  | disconnect (h : CmdHead) (inp : Nat) (out : Nat)
  /-- STAGE (R73): STAGE command, or one part of it, stages a list of connections or element settings. -/
  | stage (h : CmdHead) (id : Nat) (part : Nat) (parts : Nat) (entries : List (Nat × Nat))
  /-- SET_ELEMENT (R68): SET_ELEMENT command sets one element's state in direct element mode. -/
  | setElement (h : CmdHead) (element : Nat) (state : Nat)
  /-- COMMIT (R74): COMMIT command names a target boundary for the principal's commit set. -/
  | commit (h : CmdHead) (kind : Nat) (chip : Nat) (token : Nat) (mask : Nat) (frame : Nat)
  /-- ABORT (R77): ABORT command removes pending items and, with CANCEL, fixed commits whose close has not passed. -/
  | abort (h : CmdHead) (sFrame : Nat) (sChip : Nat)
  /-- REMAP (R48): REMAP command switches a logical cell to its alternate record from the next commit. -/
  | remap (h : CmdHead) (logical : Nat) (useAlt : Nat)
  /-- CTX_READ (R256): CTX_READ command returns context words from the active plane's copy. -/
  | ctxRead (h : CmdHead) (ctx : Nat) (first : Nat) (words : Nat)
  /-- CTX_WRITE (R149): CTX_WRITE command writes context words to both planes' copies. -/
  | ctxWrite (h : CmdHead) (ctx : Nat) (first : Nat) (data : List Nat)
  /-- CTX_STATE (R153): CTX_STATE command, or a window write changing STATE, makes a state request applied at a boundary. -/
  | ctxState (h : CmdHead) (ctx : Nat) (state : Nat)
  /-- GUARD_WRITE (R213): GUARD_WRITE command writes a guard field of a tile. -/
  | guardWrite (h : CmdHead) (tile : Nat) (offset : Nat) (value : Nat)
  /-- PRIMER_WRITE (R218): PRIMER_WRITE command writes a Primer entry of a tile. -/
  | primerWrite (h : CmdHead) (tile : Nat) (offset : Nat) (value : Nat)
  /-- PRIMER_APPLY (R219): PRIMER_APPLY command puts the named tiles on their Primer values from the next boundary. -/
  | primerApply (h : CmdHead) (tiles : Nat)
  /-- TILE_RESUME (R221): TILE_RESUME command ends starvation, PRIMER_APPLY or guard-integrity Primer for the named tiles. -/
  | tileResume (h : CmdHead) (tiles : Nat)
  /-- HKA_INJECT (R128): HKA_INJECT command queues an HKA injection and answers when the conversion completes. -/
  | hkaInject (h : CmdHead) (channel : Nat) (tag : Nat)
  /-- CALIBRATE (R225): CALIBRATE command requests tile runs and an HKA calibration. -/
  | calibrate (h : CmdHead) (tiles : Nat)
  /-- STENCIL_START (R184): STENCIL_START command triggers an armed generator. -/
  | stencilStart (h : CmdHead) (gen : Nat)
  /-- MODE (R5): MODE command selects a service mode at a frame boundary. -/
  | mode (h : CmdHead) (code : Nat) (frame : Nat)
  /-- POWER (R400): POWER command requests a power-state transition. -/
  | power (h : CmdHead) (state : Nat)
  /-- DRILL (R356): DRILL command schedules an exchange of plane roles at boundary X. -/
  | drill (h : CmdHead) (frame : Nat)
  /-- REBOOT (R434): REBOOT command resets the device with a slot preference. -/
  | reboot (h : CmdHead) (slot : Nat)
  /-- PROTECT_ARM (R319): PROTECT_ARM command arms or appends a target of a protection change and advances its digest. -/
  | protectArm (h : CmdHead) (body : ArmBody)
  /-- PROTECT_COMMIT (R320): PROTECT_COMMIT command commits, or with ARM_ID 0 disarms, the armed protection change. -/
  | protectCommit (h : CmdHead) (armId : Nat) (digest : Nat) (frame : Nat)
  /-- KEY_INSTALL (R315): KEY_INSTALL command unwraps and writes a next key or the owner KEK to MTP. -/
  | keyInstall (h : CmdHead) (principal : Nat) (which : Nat) (wrapped : List Nat)
  /-- KEY_ROLL (R316): KEY_ROLL command schedules the next key, or with CLEAR the erasure of a tenancy's keys, at a boundary. -/
  | keyRoll (h : CmdHead) (principal : Nat) (frame : Nat)
  /-- FORWARD (R268): FORWARD command sends an inner owner frame over the Apsin ring to another device. -/
  | forward (h : CmdHead) (pos : Nat) (frame : List Nat)
  /-- FORWARDED_FRAME_RX (R268): An inner frame forwarded over the ring reaches its target and is admitted as if received on the named lane. -/
  | forwardedFrameRx (pos : Nat) (bytes : List Nat)
  /-- FORWARDED_RESPONSE_RX (R268): An owner frame from a target is delivered to the owner in FORWARDED notices. -/
  | forwardedResponseRx (pos : Nat) (rseq : Nat) (bytes : List Nat)
  /-- SB_SET_ADDR (R270): Sideband SET_ADDR sets the register address and word count. -/
  | sbSetAddr (pecOk : Bool) (addr : Nat) (words : Nat)
  /-- SB_READ (R270): Sideband READ reads words at the address and advances it. -/
  | sbRead
  /-- SB_WRITE (R270): Sideband WRITE writes whole words at the address and advances it. -/
  | sbWrite (pecOk : Bool) (data : List Nat)
  /-- SB_LAST_STATUS (R270): Sideband LAST_STATUS returns the status code of the last READ or WRITE. -/
  | sbLastStatus
  /-- SB_SUMMARY (R270): Sideband SUMMARY returns the unsigned SUMMARY of scope 31. -/
  | sbSummary
  /-- SB_ALERT_CAUSE (R270): Sideband ALERT_CAUSE returns and clears the alert causes. -/
  | sbAlertCause
  /-- SB_FAULT_POP (R387): Sideband FAULT_POP removes the oldest fault message of the sideband queue. -/
  | sbFaultPop
  /-- ALERT_RESPONSE (R271): The device answers the Alert Response Address and releases ALERT_N. -/
  | alertResponse
  /-- SB_STRETCH_TIMEOUT (R269): A sideband access not complete within 5 ms returns 0xFF and sets LAST_STATUS to BUSY. -/
  | sbStretchTimeout (bytes : Nat)
  /-- INCREMENTAL_POST (R53): Up to four incremental route requests post their results at a + 112 FCLK. -/
  | incrementalPost (late : List (Nat × Nat × Plane)) (margins : List (Plane × Nat))
  /-- FULL_ROUTING_POST (R55): A full routing by the looping method posts, or is refused, at a + 1,600 FCLK after its start. -/
  | fullRoutingPost (late : List Plane) (margins : List (Plane × Nat))
  /-- DEFERRED_ROUTING_START (R53): An incremental request that found no feasible path starts its full routing at the next admission point. -/
  | deferredRoutingStart
  /-- REARRANGE_EXPIRED (R76): A pending rearrangement not committed within REARRANGE_HOLD frames is removed. -/
  | rearrangeExpired
  /-- STAGE_EXPIRED (R257): A STAGE assembly not complete 1,000 frames after its first part is discarded and notified. -/
  | stageExpired (principal : Nat)
  /-- YELLOW_EXPIRED (R279): A yellow command not released within YELLOW_HOLD frames is refused with RATE_REFUSED. -/
  | yellowExpired
  /-- COMMIT_FIX (R78): A commit set is fixed once its COMMIT has taken effect, its items are posted and its thermal buckets allow it. -/
  | commitFix
  /-- COMMIT_SWITCH (R82): At the switch instant S the drivers of each group change selection and Express trimming engages. -/
  | commitSwitch (chip : Nat) (late : List Nat) (differ : List Nat)
  /-- LATE_TILE_APPLY (R85): A tile whose commit words were late applies them at the next chip or frame boundary. -/
  | lateTileApply (tile : Nat)
  /-- COMMIT_DONE (R96): The COMMIT_DONE notice is sent when the last settled reference is latched. -/
  | commitDone
  /-- READY_RX (R98): A READY token message arrives, and the master chooses F and sends GO or ABANDON when it holds all. -/
  | readyRx (principal : Nat) (number : Nat) (mask : Nat) (pos : Nat) (named : Nat) (earliest : Nat) (slot : Nat) (fclk : Nat)
  /-- GO_RX (R99): A participant receives GO and commits at F if it arrived before F−1. -/
  | goRx (principal : Nat) (number : Nat) (frame : Nat)
  /-- ABANDON_RX (R98): A participant receives ABANDON and refuses its COMMIT with COMMIT_LATE. -/
  | abandonRx (principal : Nat) (number : Nat)
  /-- TOKEN_LOST (R99): A participant without GO or ABANDON within TOKEN_TIMEOUT frames closes the token and refuses its COMMIT. -/
  | tokenLost
  /-- BIAS_LIMIT (R104): A tile's bias current reaches 2.0 mA and the bias source becomes a current source. -/
  | biasLimit (tile : Nat)
  /-- REF_OUT (R111): The reference monitor finds the reference outside ±0.5 %, clearing REF_SETTLED. -/
  | refOut (tile : Nat) (sample : Nat)
  /-- REF_TIMEOUT (R111): REF_SETTLED not set within 16 frames raises a reference-timeout fault. -/
  | refTimeout (tile : Nat)
  /-- CAPTURE_RECORD_WRITE (R121): A capture record is written into the circular buffer within 60 FCLK of its last sample. -/
  | captureRecordWrite (channel : Nat) (last : Nat) (codes : List (List Nat))
  /-- CAP_RPTR_WRITE (R122): A write of RPTR advances the read pointer, clamping to WPTR if the fill would go negative. -/
  | capRptrWrite (r : Requester) (channel : Nat) (value : Nat)
  /-- HKA_SLOT (R127): Each HKA slot performs a calibration step, an injection or the next round conversion. -/
  | hkaSlot (slot : Nat) (code : Nat) (ofs : Int) (gain : Int)
  /-- HKA_INJECT_WRITE (R128): A write of HKA_INJECT queues an injection or refuses it when 8 are held. -/
  | hkaInjectWrite (r : Requester) (channel : Nat) (tag : Nat)
  /-- HKA_RESULT_POP (R128): A read of HKA_INJ_RESULT removes the oldest injection result. -/
  | hkaResultPop (r : Requester)
  /-- CAL_START (R127): HKA_CTRL.CAL_START requests an HKA calibration. -/
  | calStart (r : Requester)
  /-- CORR_RESIDUE (R146): A correlator residue mismatch makes the word INVALID and raises a fault. -/
  | corrResidue (tile : Nat) (slot : Nat)
  /-- STORE_ROOM_READ_ECC (R173): A Store Room read finds a single-bit or double-bit error and corrects or reports it. -/
  | storeRoomReadEcc (plane : Plane) (tile : Nat) (word : Nat) (double : Bool)
  /-- REFRESH_MISS (R174): A refresh missed by the sequencer sets REFRESH_MISS for the bank. -/
  | refreshMiss (plane : Plane) (tile : Nat)
  /-- ST_ARM (R184): ST_CTRL.ARM arms a generator, or sets STOP_CAUSE LATE for a passed frame trigger. -/
  | stArm (r : Requester) (gen : Nat)
  /-- ST_START (R184): ST_CTRL.START triggers an armed generator by command. -/
  | stStart (r : Requester) (gen : Nat)
  /-- ST_HALT (R185): ST_CTRL.HALT stops a generator at its next native tick. -/
  | stHalt (r : Requester) (gen : Nat)
  /-- EVT_EDGE_TRIGGER (R184): An edge on an EVT input starts an armed generator at the next admission point. -/
  | evtEdgeTrigger (evt : Nat) (rising : Bool)
  /-- FRAME_TRIGGER (R184): An armed generator with a frame trigger starts at boundary ST_TRIG_FRAME. -/
  | frameTrigger (inst : Nat)
  /-- STOP (R186): Stencil instruction STOP stops the generator. -/
  | stop (inst : Nat)
  /-- LDA (R186): Stencil instruction LDA loads the accumulator. -/
  | lda (inst : Nat)
  /-- LDD (R186): Stencil instruction LDD loads the step D. -/
  | ldd (inst : Nat)
  /-- ADDA (R186): Stencil instruction ADDA adds an immediate to the accumulator with saturation. -/
  | adda (inst : Nat)
  /-- EMIT (R186): Stencil instruction EMIT emits the accumulator N + 1 times. -/
  | emit (inst : Nat)
  /-- RAMP (R186): Stencil instruction RAMP emits and adds D, N + 1 times. -/
  | ramp (inst : Nat)
  /-- TABLE (R186): Stencil instruction TABLE emits wave table samples. -/
  | table (inst : Nat)
  /-- PRBS (R186): Stencil instruction PRBS emits the accumulator with pseudo-random sign. -/
  | prbs (inst : Nat)
  /-- LDC (R186): Stencil instruction LDC loads a counter. -/
  | ldc (inst : Nat)
  /-- LOOP (R186): Stencil instruction LOOP decrements a counter and jumps if not zero. -/
  | loop (inst : Nat)
  /-- JMP (R186): Stencil instruction JMP jumps to a program address. -/
  | jmp (inst : Nat)
  /-- BR (R187): Stencil instruction BR branches on a condition from the latest input set. -/
  | br (inst : Nat)
  /-- WAIT (R187): Stencil instruction WAIT emits until a condition becomes true. -/
  | wait (inst : Nat)
  /-- ILLEGAL (R185): An illegal opcode stops the generator with STOP_CAUSE ILLEGAL and raises a fault. -/
  | illegal (inst : Nat)
  /-- RUNAWAY (R185): 64 non-emitting instructions in a row stop the generator with STOP_CAUSE RUNAWAY. -/
  | runaway (inst : Nat)
  /-- MT_START (R191): MT_CTRL.START starts a memory test or refuses it with a cause. -/
  | mtStart (r : Requester)
  /-- MT_ABORT (R193): MT_CTRL.ABORT aborts a running memory test. -/
  | mtAbort (r : Requester)
  /-- MTEST_DONE (R192): A memory test completes, setting DONE and PASS or raising MTEST_FAIL. -/
  | mtestDone (plane : Plane) (fails : Nat) (addr : Nat) (element : Nat) (diff : Nat) (check : Nat)
  /-- HEATER_OPEN (R207): Sixteen consecutive frames with COMPLIANCE raise a heater-open fault. -/
  | heaterOpen (channel : Nat)
  /-- HEATER_SHORT (R207): Sixteen consecutive frames with SHORT latch the channel off and raise a heater-short fault. -/
  | heaterShort (channel : Nat)
  /-- HEATER_LOAD (R205): Sixteen consecutive frames with HV_LOAD latch a held-voltage channel off. -/
  | heaterLoad (channel : Nat)
  /-- DRIVER_OVERLOAD (R212): A driver side at its current limit for 1 µs latches the driver off. -/
  | driverOverload (driver : Nat)
  /-- GUARD_INTEGRITY (R217): A guard residue mismatch applies the tile's Primer values and raises a SEVERE fault. -/
  | guardIntegrity (tile : Nat)
  /-- STARVATION (R220): A tile's local timer passes 60 µs without a frame handshake and the tile applies Primer. -/
  | starvation (tile : Nat)
  /-- TRIM_APPLY (R202): A new pulse-current trim takes effect at the first idle run of the channel. -/
  | trimApply (channel : Nat)
  /-- HTR_OFF_RELEASE (R207): A write of TL_HTR_OFF releases latched heater channels at the next boundary. -/
  | htrOffRelease (r : Requester) (tile : Nat) (word : Nat) (mask : Nat)
  /-- FD_OFF_RELEASE (R212): A write of TL_FD_OFF releases latched drivers at the next boundary. -/
  | fdOffRelease (r : Requester) (tile : Nat) (word : Nat) (mask : Nat)
  /-- FD_LEVEL_WRITE (R210): A write of TL_FD_LEVEL sets unnamed driver levels or is refused with LEVEL_DRIVEN. -/
  | fdLevelWrite (r : Requester) (driver : Nat) (bar : Nat) (cross : Nat)
  /-- TL_CAL_REQ (R225): TL_CAL_CTRL.REQ requests a tile calibration run. -/
  | tlCalReq (r : Requester) (tile : Nat)
  /-- TIA_REQ (R223): TL_CAL_CTRL.TIA_REQ repeats pedestal calibration for disabled photodiodes. -/
  | tiaReq (r : Requester) (tile : Nat)
  /-- CAL_ALL (R225): CAL_CTRL.ALL requests a run in every tile and the HKA. -/
  | calAll (r : Requester)
  /-- TILE_RUN_START (R225): A tile run starts at the first boundary K after a request or temperature trigger. -/
  | tileRunStart (tile : Nat)
  /-- TILE_RUN_END (R225): A tile run ends at boundary K+771. -/
  | tileRunEnd (tile : Nat)
  /-- SV_START (R234): SV_CTRL.START starts a SURVEY sweep or refuses it. -/
  | svStart (r : Requester)
  /-- SV_ABORT (R234): SV_CTRL.ABORT ends the sweep at the next boundary without seeding. -/
  | svAbort (r : Requester)
  /-- SWEEP_POINT (R235): A sweep point applies its drive and records the averaged word. -/
  | sweepPoint
  /-- SWEEP_END (R236): A sweep ends and, with SEED, seeds the contexts and gain tables. -/
  | sweepEnd
  /-- TD_RATE_WRITE (R290): A write of FT_TD_INCR_LO applies a new domain increment and restarts the holdover timer. -/
  | tdRateWrite (r : Requester) (domain : Nat) (low : Nat)
  /-- TD_SET (R290): A write of FT_TD_SET_NS loads the domain's seconds and nanoseconds. -/
  | tdSet (r : Requester) (domain : Nat) (ns : Nat)
  /-- TD_ADJUST (R290): A write of FT_TD_ADJ steps the domain by a signed number of nanoseconds. -/
  | tdAdjust (r : Requester) (domain : Nat) (ns : Int)
  /-- TIME_CAPTURE (R291): FT_CTRL.CAPTURE copies the domains, fabric time and frame number at one tick. -/
  | timeCapture (r : Requester)
  /-- ALIGN (R297): FT_CTRL.ALIGN requests an alignment of fabric time, or is refused with BUSY. -/
  | align (r : Requester)
  /-- ALIGNMENT_GAP_END (R297): Frames resume when fabric time next reaches a multiple of 20,000 ns after an alignment step. -/
  | alignmentGapEnd
  /-- HOLDOVER (R294): A domain's holdover timer expires and the domain runs on at its last increment. -/
  | holdover (domain : Nat)
  /-- AUTO_SWITCH (R295): The device selects the other valid domain at the first boundary after holdover of the selected one. -/
  | autoSwitch
  /-- FCLK_LOCK (R296): FCLK_LOCK sets after 50 consecutive boundaries with small phase error. -/
  | fclkLock
  /-- PPS_EDGE (R303): A rising edge on PPS_IN is time-stamped. -/
  | ppsEdge (stamp : Stamp)
  /-- PPS_GAP (R303): PPS_IN without an edge for 1.5 s raises a PPS_GAP fault. -/
  | ppsGap
  /-- PPS_OUT_EDGE (R304): PPS_OUT rises at each whole second plus the offset of the chosen scale. -/
  | ppsOutEdge
  /-- TS_POP (R301): A read of word 0 of FT_TS_POP removes and holds the oldest time-stamp record. -/
  | tsPop (r : Requester) (source : Nat)
  /-- BEACON_RX (R305): A time beacon is stamped, corrected and passed on, and a RING domain follows it. -/
  | beaconRx (port : Nat) (b : Beacon) (rx : Stamp) (rx0 : Stamp) (rx1 : Stamp) (residence : Int) (tx : Stamp)
  /-- BEACON_PORT_SWITCH (R305): After 3 frames without a west beacon, or 50 valid ones, the beacon port changes. -/
  | beaconPortSwitch
  /-- LINK_MESSAGE_RX (R306): An Apsin link-delay message yields a new link delay value. -/
  | linkMessageRx (port : Nat) (t1 : Int) (t2 : Int) (t3 : Int) (t4 : Int) (frame : Nat) (hops : Nat) (rx : Stamp) (tx : Stamp)
  /-- RING_LOST (R306): An Apsin link with no exchange for 3 frames becomes LINK_DOWN. -/
  | ringLost (port : Nat)
  /-- RING_LOCK (R307): RING_LOCK sets after 50 consecutive beacons within 5 ns. -/
  | ringLock (domain : Nat)
  /-- APSIN_LINK_DOWN (R369): An Apsin port loses block lock. -/
  | apsinLinkDown (port : Nat)
  /-- MTP_WRITE_DONE (R315): An Attic MTP write completes and its key, KEK, floor or counter takes effect. -/
  | mtpWriteDone (good : Bool)
  /-- KEY_ROLL_APPLY (R316): At the roll boundary the next key becomes current, or a tenancy's keys are cleared. -/
  | keyRollApply (principal : Nat)
  /-- GRACE_END (R316): The grace copy of a rolled key ends 1,000 frames after the roll. -/
  | graceEnd (principal : Nat)
  /-- PROTECT_APPLY (R322): A committed protection change takes effect at its apply boundary. -/
  | protectApply
  /-- PROTECT_EXPIRE (R323): An armed change not committed by EXPIRES is disarmed. -/
  | protectExpire
  /-- ATTIC_PROV_GO (R318): ATTIC_PROV_GO stores the provisioning window and sets PROVISIONED. -/
  | atticProvGo (r : Requester)
  /-- DIVERGENCE_DECISION (R350): At boundary D the plane with the larger prediction score is judged faulty. -/
  | divergenceDecision
  /-- CENTRAL_AUDIT_END (R354): The audit after a central divergence judges a plane faulty. -/
  | centralAuditEnd (failA : Bool) (failB : Bool)
  /-- PLANE_FENCE (R345): A plane is fenced at Φ and leaves admission and comparison. -/
  | planeFence (plane : Plane)
  /-- DRILL_SWAP (R356): At boundary X the roles are exchanged without fencing and the tiles check the selector. -/
  | drillSwap
  /-- DRILL_CHECK (R357): At X+1 the DRILL completes or its roles revert and the failing plane is fenced. -/
  | drillCheck (failed : List Nat) (supervisor : Bool)
  /-- DRILL_DUE (R358): AGE_DAYS reaching 30 raises DRILL_DUE. -/
  | drillDue
  /-- RETURN (R359): PL_CTRL.RETURN starts the return of the fenced plane with a power cycle. -/
  | planeReturn (r : Requester)
  /-- RETURN_BANK_TEST (R359): When the returning domains are ready the March C− bank test runs, and its end starts the copy or ends the return. -/
  | returnBankTest (fail : Option (Nat × Nat))
  /-- LOCKSTEP (R359): After the copy sweep the returning plane joins admission at boundary J. -/
  | lockstep
  /-- RETURN_END (R360): Probation ends after 50,000 frames and the plane reads in service. -/
  | returnEnd
  /-- AUTO_RETURN (R361): A return starts automatically 1 s after a qualifying fence. -/
  | autoReturn
  /-- HEARTBEAT (R363): A plane supervisor missing two consecutive heartbeats is fenced. -/
  | heartbeat (plane : Plane)
  /-- FAULT_MESSAGE (R367): A source sends a fault message to the collectors. -/
  | faultMessage (cls : Nat) (inst : Nat) (kind : Nat) (plane : Nat) (count : Nat) (addr : Nat)
  /-- END_REPORT (R378): A source reports the end of a condition and matching records clear LIVE. -/
  | endReport (cls : Nat) (inst : Nat) (kind : Nat) (plane : Nat) (count : Nat) (addr : Nat)
  /-- CLEAR_FIRST (R377): FC_CTRL.CLEAR_FIRST clears the first-fault record. -/
  | clearFirst (r : Requester)
  /-- FC_ACK (R381): FC_ACK acknowledges an in-service slot, which takes the next queued record. -/
  | fcAck (r : Requester) (slots : Nat)
  /-- FC_UNFENCE (R384): FC_UNFENCE requests the end of a unit's fence at the next boundary. -/
  | fcUnfence (r : Requester) (unit : Nat) (index : Nat)
  /-- CORE_RESTART (R383): A fenced management core restarts after one frame, or stays stopped after its third restart. -/
  | coreRestart (plane : Plane)
  /-- WATCHDOG (R369): A core's firmware not serving its watchdog for 1,000 frames raises WATCHDOG. -/
  | watchdog (plane : Plane)
  /-- TRNG_HEALTH (R369): The TRNG fails its continuous health test. -/
  | trngHealth
  /-- SENSOR_ROUND (R389): Every 50 frames the temperature sensors are counted and zones, bands and throttle level are updated. -/
  | sensorRound (counts : List (Nat × Nat))
  /-- SENSOR_FAIL (R390): A sensor out of range, or off its zone median for 4 rounds, becomes Hot-Assumed. -/
  | sensorFail (sensor : Nat) (cause : Nat)
  /-- ANALOG_TRIP (R396): A zone's analogue comparator trips at 125 °C, asserting THERM_TRIP_N and starting shutdown. -/
  | analogTrip
  /-- TRIP_HALT (R397): At T0 + 12 ms unfinished writes are abandoned and the device halts. -/
  | tripHalt
  /-- DEEP_SLEEP_SENSOR (R403): In DEEP SLEEP sensor 95 is counted every 10 ms. -/
  | deepSleepSensor (count : Nat)
  /-- DOMAIN_STOP (R401): One domain per admission point is asked to stop during power-state entry. -/
  | domainStop (veto : Bool)
  /-- WAKE_N_LOW (R403): WAKE_N low wakes the device, or starts it from OFF. -/
  | wakeNLow (us : Nat)
  /-- CLOCK_ALARM (R403): The real-time clock reaches PW_ALARM and wakes the device. -/
  | clockAlarm
  /-- LANE_WAKE (R403): A valid frame on a listening lane wakes the device from SLEEP. -/
  | laneWake (lane : Nat)
  /-- LOOPS_RESUME (R405): The loops resume at the first boundary W after the restore. -/
  | loopsResume (banks : List (Plane × Nat)) (sets : List Nat)
  /-- DOMAIN_WAKE_ON_DEMAND (R399): The first access to a Held or Off domain wakes it and stalls the access. -/
  | domainWakeOnDemand (domain : Nat)
  /-- WAKE_STALL (R399): A wake stall longer than the domain's limit raises WAKE_STALL. -/
  | wakeStall (domain : Nat) (us : Nat)
  /-- RESET (R407): RESET_N or PWR_GOOD low puts the device in reset. -/
  | reset (resetN : Bool) (vaon : Bool)
  /-- START_UP (R407): At t0 the straps are sampled and start-up begins. -/
  | startUp (bootMode : Nat) (pos : Nat) (sba : Nat) (trust : Bool) (flash : List (Nat × List Nat))
  /-- SELFTEST_DONE (R425): A plane's bank test and core self-test complete, and a failing plane starts fenced. -/
  | selftestDone (plane : Plane) (bank : Option (Nat × Nat)) (core : Bool)
  /-- LOAD_IN_RISE (R423): LOAD_IN rises, driving LOAD_DONE or starting the head's first pass. -/
  | loadInRise
  /-- FIRST_PASS_TIMEOUT (R423): The head starts the first pass 100 ms after t0 if LOAD_IN has not risen. -/
  | firstPassTimeout
  /-- PASS_READ_END (R413): A slot read ends and the image is checked and accepted or rejected. -/
  | passReadEnd (slot : Nat) (density : Option Nat) (flash : List (Nat × List Nat))
  /-- SECOND_PASS (R423): The head reads the other slot if LOAD_IN is not high 25 ms after a pass. -/
  | secondPass
  /-- RUN_ENTRY (R426): The loops take their first input set, the mode comes into force and PW_STATE reads RUN. -/
  | runEntry (ms : Nat)
  /-- LOCKED (R429): BT_STATUS.LOCKED sets when every image-ACTIVE context has 16 good sets or updates. -/
  | locked (ms : Nat)
  /-- BOOT_STATUS_RX (R430): A boot-chain status arrives on the ring and updates AP_RING_NODE and CONFLICT. -/
  | bootStatusRx (pos : Nat) (serial : Nat) (state : Nat) (slot : Nat) (sec : Nat) (digest : Nat)
  /-- PASS_REQUEST_RX (R424): The head receives a request for a pass and performs it within 50 ms. -/
  | passRequestRx
  /-- PASS_REQUEST_RETRY (R424): A pass request not served within 1 s is repeated. -/
  | passRequestRetry
  /-- PM_ERASE (R431): The post-mortem pair after the newest record is erased within 1 s of RUN. -/
  | pmErase
  /-- NOR_READ (R433): BT_NOR_CTRL operation READ reads NOR bytes into the buffer. -/
  | norRead (r : Requester) (length : Nat)
  /-- NOR_PROGRAM (R433): BT_NOR_CTRL operation PROGRAM programs a NOR page from the buffer. -/
  | norProgram (r : Requester) (length : Nat)
  /-- NOR_ERASE (R433): BT_NOR_CTRL operation ERASE erases a 4 KiB NOR sector. -/
  | norErase (r : Requester) (length : Nat)
  /-- NOR_OP_DONE (R433): A NOR operation completes and DONE sets. -/
  | norOpDone (flash : List (Nat × List Nat))
  /-- BT_REBOOT (R434): BT_CTRL.REBOOT requests a reboot at the next boundary. -/
  | btReboot (r : Requester) (slot : Nat)
  /-- REBOOT_RESET (R434): The reset of a REBOOT follows at the next frame boundary. -/
  | rebootReset
  /-- MODE_APPLY (R5): A new service mode takes effect at a frame boundary, loading amplitudes and code settings. -/
  | modeApply
  /-- RT_REMAP_WRITE (R48): A write of RT_REMAP selects the alternate record of a logical cell. -/
  | rtRemapWrite (r : Requester) (logical : Nat) (useAlt : Bool)
  /-- SNAPSHOT_LO_READ (R444): A read of a pair's _LO loads the requester's snapshot holder with _HI. -/
  | snapshotLoRead (r : Requester) (addr : Nat)
  /-- RC_READ (R443): A read of an RC field by a requester that may write it returns and clears the field. -/
  | rcRead (r : Requester) (addr : Nat) (words : Nat)
  /-- REGISTER_WRITE (R440): A write to a register with no row of its own is checked and applied at an admission point by its field class. -/
  | registerWrite (r : Requester) (addr : Nat) (data : List Nat)
  /-- LOAD_IN_FALL (R423): LOAD_IN falls at the start of a pass, and a non-head device drives its LOAD_DONE low (in HALT, LOAD_DONE follows LOAD_IN down). -/
  | loadInFall
  /-- DEVICE_READY (R423): A device becomes ready within 1 ms of t0; the head then drives LOAD_DONE high, and any other device does so if its LOAD_IN is high. -/
  | deviceReady
  /-- DOMAIN_READY (R399): A woken Held or Off domain reports ready, ending the stalled access and making waiting commands eligible at the next offer instant. -/
  | domainReady (domain : Nat)
  /-- REFCLK_LOSS (R298): REFCLK becomes absent, the time domains stop counting, and the absence is recorded so that the domains are reloaded as at start-up at the next wake. -/
  | refclkLoss
deriving DecidableEq, Repr

end Sys2Proof
end

