-- ==== Sys2Proof/Decode.lean ====
section
/-! DEFINITION. Decode.lean: the command that a word spells by the bits of opcode_table.json. The table gives no row any bits, so no word
spells a command: the block takes its commands as they are (log entry 1). The bytes of a Kolrok frame are read by Machine/Parse.lean. -/

namespace Sys2Proof

def decodeTableWord (_nbits _w : Nat) : Option Instr := none

end Sys2Proof
end

