-- ==== Sys2Proof/Config.lean ====
section
/-! DEFINITION. Config.lean: what the spec leaves to the single die, to a standard's private computation or to nobody: opaque
constants. Nothing in Lean can evaluate one, so a statement holds whatever they are. Each is named in a log entry. -/

namespace Sys2Proof.Config

/-- A value the spec leaves open, the n-th one taken in a run (`State.freeCount` counts them). Log entry 2. -/
opaque freeValue : Nat → Nat

/-- The die's serial number, in OTP (R446, GL_SERIAL). Log entry 5. -/
opaque serial : Nat

/-- Words 0 to 15 of the die's identity public key (R336). Log entry 5. -/
opaque identityKey : Nat → Nat

/-- Words 0 to 15 of the endorsement Casdelis stored in OTP (R337). Log entry 5. -/
opaque endorsement : Nat → Nat

/-- The factory counts of temperature sensor d at 25 °C and 105 °C (R389). Log entry 5. -/
opaque trimN25 : Nat → Nat
opaque trimN105 : Nat → Nat

/-- The ECDSA P-256 signature by the die's identity key over a byte string: 64 bytes, r then s (R262). Log entry 6. -/
opaque sign : List Nat → List Nat

/-- Whether a 64-byte ECDSA P-256 signature over the byte string verifies under a key whose SHA-256 is the given hash
(R412, R413): the arguments are the key bytes, the message and the signature. Log entry 6. -/
opaque verify : List Nat → List Nat → List Nat → Bool

/-- The 32 interpolation taps of RESAMP POLY: tap k of phase j (R188 gives their sum and symmetry, not their values). Log
entry 7. -/
opaque polyTap : Nat → Nat → Int

/-- Which of TH_SENSOR and TH_TRIM a read of the 32 addresses that both tables claim reaches. Log entry 8. -/
opaque trimAnswersOverlap : Bool

/-- The feedback word that DIRECT feedback makes of an averaged word taken with AVG and SHIFT: the spec leaves its
normalisation open (R114, R144, R150). Log entry 31. -/
opaque directWord (word avg shift : Nat) : Int

/-- The generator that INJ_GEN values 8 to 15 name (CTX_SHAPE gives 0 to 7). Log entry 32. -/
opaque strayGen : Nat → Nat

/-- The feedback word a response record shows for a context to which no word is delivered (R179). Log entry 33. -/
opaque absentWord : Nat → Int

/-- 10^(−LOSS/1,000) with 16 fractional bits: R37 states no rounding. Log entry 15. -/
opaque lossScale (loss : Nat) : Nat

/-- The factor k_t or k_d where the cap is exceeded and the guarded words project nothing: R216 divides by 0. Log entry 51. -/
opaque emptyFactor (cap pfix : Nat) : Nat

/-- CRC-32 over a byte string: the spec names no polynomial (R432). Log entry 38. -/
opaque crc32 : List Nat → Nat

/-- Whether a FIRMWARE body's own signature verifies: the key and the body's layout are Casdelis's (R419). Log entry 39. -/
opaque firmwareOk : List Nat → Bool

end Sys2Proof.Config
end

