-- ==== Sys2Proof/Machine/Bits.lean ====
section
/-! DEFINITION. Machine/Bits.lean: bit fields of natural numbers, two's complement, byte orders, clamping. Computed values are
natural numbers and integers; they meet a register word only where a field is read or written. -/

namespace Sys2Proof.Machine

/-- Bits `hi` down to `lo` of `w`. -/
def bits (w hi lo : Nat) : Nat := w / 2 ^ lo % 2 ^ (hi + 1 - lo)

/-- `w` with bits `hi` down to `lo` replaced by `v`, cut to the field's width. -/
def putBits (w hi lo v : Nat) : Nat :=
  w - bits w hi lo * 2 ^ lo + v % 2 ^ (hi + 1 - lo) * 2 ^ lo

/-- Bit `i` of `w`. -/
def bit (w i : Nat) : Bool := w.testBit i

/-- The signed value of the low `n` bits of `w` (two's complement). -/
def signed (n w : Nat) : Int :=
  let v := w % 2 ^ n
  if 2 * v < 2 ^ n then (v : Int) else (v : Int) - 2 ^ n

/-- The low `n` bits of an integer in two's complement. -/
def unsigned (n : Nat) (i : Int) : Nat := (i % (2 ^ n : Int)).toNat

/-- Arithmetic shift right: division by 2^k rounded towards minus infinity. -/
def asr (i : Int) (k : Nat) : Int := i / (2 ^ k : Int)

/-- `i` confined to `lo … hi`. -/
def clamp (lo hi i : Int) : Int := if i < lo then lo else if hi < i then hi else i

/-- `i` confined to the signed range of `n` bits. -/
def satSigned (n : Nat) (i : Int) : Int := clamp (-(2 ^ (n - 1) : Int)) (2 ^ (n - 1) - 1) i

/-- Saturating sum of counts: never above `cap`. -/
def satAdd (cap a b : Nat) : Nat := min cap (a + b)

/-- Division rounded up; 0 for a zero divisor. -/
def divUp (a b : Nat) : Nat := if b = 0 then 0 else (a + b - 1) / b

/-- Bit by bit exclusive or. -/
def xorN (a b : Nat) : Nat := a ^^^ b

/-- The `n` low bytes of `v`, most significant first. -/
def be : Nat → Nat → List Nat
  | 0, _ => []
  | n + 1, v => v / 2 ^ (8 * n) % 256 :: be n v

/-- The `n` low bytes of `v`, least significant first. -/
def le : Nat → Nat → List Nat
  | 0, _ => []
  | n + 1, v => v % 256 :: le n (v / 256)

/-- The number a byte string spells, most significant first. -/
def ofBe (l : List Nat) : Nat := l.foldl (fun a b => a * 256 + b % 256) 0

/-- The number a byte string spells, least significant first. -/
def ofLe (l : List Nat) : Nat := ofBe l.reverse

/-- `n` elements of `l` from position `i`. -/
def slice {α : Type} (l : List α) (i n : Nat) : List α := (l.drop i).take n

/-- A big-endian field of a byte string: `n` bytes from offset `i`. -/
def beAt (l : List Nat) (i n : Nat) : Nat := ofBe (slice l i n)

/-- A little-endian field of a byte string: `n` bytes from offset `i`. -/
def leAt (l : List Nat) (i n : Nat) : Nat := ofLe (slice l i n)

/-- The indices of the bits of `w` that are 1, below `n`. -/
def onesBelow (n w : Nat) : List Nat := (List.range n).filter (w.testBit ·)

/-- The number whose set bits are the given indices. -/
def ofOnes (l : List Nat) : Nat := l.foldl (fun a i => a ||| 2 ^ i) 0

/-- `b` as a bit. -/
def b01 (b : Bool) : Nat := if b then 1 else 0

/-- The binary logarithm rounded down; 0 for 0. -/
def log2 (n : Nat) : Nat := n.log2

/-- Insert into a list ordered by `key`, after the entries with an equal key. -/
def insertBy {α : Type} (key : α → Nat) (x : α) : List α → List α
  | [] => [x]
  | y :: ys => if key x < key y then x :: y :: ys else y :: insertBy key x ys

/-- Stable sort by a numeric key. -/
def sortBy {α : Type} (key : α → Nat) (l : List α) : List α := l.foldl (fun acc x => insertBy key x acc) []

/-- The elements of `l` with repeats dropped, the first kept. -/
def dedup {α : Type} [DecidableEq α] (l : List α) : List α :=
  l.foldl (fun acc x => if x ∈ acc then acc else acc ++ [x]) []

/-- The chunks of `n` elements of `l`, the last one possibly shorter. `fuel` bounds their number. -/
def chunks {α : Type} (n : Nat) : Nat → List α → List (List α)
  | 0, _ => []
  | _, [] => []
  | fuel + 1, l => l.take n :: chunks n fuel (l.drop n)

/-- The largest element; 0 for the empty list. -/
def maxOf (l : List Nat) : Nat := l.foldl max 0

/-- Sum of naturals. -/
def sumOf (l : List Nat) : Nat := l.foldl (· + ·) 0

/-- Replace the element at `i` by `f` of it. -/
def modAt {α : Type} (l : List α) (i : Nat) (f : α → α) : List α := l.modify i f

end Sys2Proof.Machine
end

