-- ==== Sys2Proof/Machine/RegNames.lean ====
section
/-! DEFINITION. Machine/RegNames.lean: the names of every register of the register space (R435), and for every
register the byte address of each of its words and the position of each of its fields, as the register tables of
spec/01 to spec/18 give them. -/

namespace Sys2Proof.Machine

/-- Every register the chapters name, in the order of the chapters. -/
inductive Reg where
  | AV_LOSS | RT_FABRIC | RT_CTRL | RT_STATUS | RT_HIT_POLICY | RT_LAST_BLOCK | RT_EVENTS | RT_MARGIN 
  | RT_MAP_DIGEST_LO | RT_MAP_DIGEST_HI | RT_REMAP | RT_TEN_STATUS | RT_CELL_COMMITTED | RT_CELL_PENDING 
  | RT_CELL_FAILED | RT_CELL_RESERVED | CM_CTRL | CM_LAST_LO | CM_LAST_HI | CM_STATUS | CM_EVENTS 
  | CM_SETTLE_MAX | TL_PRECOMP | TL_SWITCH | TL_DP_LAST | AP_TOKEN_CTRL | AP_TOKEN_STATUS | TL_PD_CFG 
  | TL_REF | TL_BIAS | TL_SENSE_CTRL | TL_SPARE_STATUS | TL_SPARE_LOG | TL_PD_OVR | TL_PD_WORD | CAP_CTRL 
  | CAP_BASE | CAP_WMARK | CAP_WPTR | CAP_RPTR | CAP_STATUS | CAP_START_LO | CAP_START_HI | HKA_CTRL 
  | HKA_STATUS | HKA_INJECT | HKA_INJ_RESULT | HKA_RESULT | HKA_LIMIT | TL_DITHER | TL_CORR_CFG 
  | TL_CORR_STATUS | TL_SLOT_USE | TL_SLOT_LENT | TL_CORR_WORD | TL_CORR_ENERGY | CTX_CTL | CTX_BIND 
  | CTX_SP0 | CTX_SP1 | CTX_SPSRC | CTX_GAIN | CTX_SHAPE | CTX_LIMIT | CTX_SUPV | CTX_XTALK | CTX_ALT 
  | CTX_INTEG | CTX_OUT | CTX_PC | CTX_TPC | CTX_HIST | TL_LOOP_MARGIN | TL_LOOP_EVENTS | TL_LOOP_COUNTS 
  | TL_LOOP_COUNTS2 | TL_STORE_STATUS | TL_LUT | TL_LUT_SHIFT | LP_SPP_CFG | LP_SPP_VALUE | LP_EXPRESS 
  | ST_CTRL | ST_RATE | ST_TRIG_FRAME_LO | ST_TRIG_FRAME_HI | ST_STATUS | ST_START_LO | ST_START_HI 
  | ST_START_OFS | ST_OUT | ST_COND0 | ST_COND1 | ST_PROG | ST_WAVE | AUX_CFG | RSP_CTRL | MT_CTRL | MT_BASE 
  | MT_STATUS | MT_FAIL_ADDR | MT_FAIL_BITS | TL_HTR_CFG | TL_HTR_OUT | TL_HTR_OFF | TL_FD_OFF | TL_FD_CFG 
  | TL_FD_LEVEL | TL_GUARD_HTR_A | TL_GUARD_HTR_B | TL_GUARD_FD_A | TL_GUARD_FD_B | TL_GUARD_TILE 
  | TL_GUARD_STATUS | TL_GUARD_EVENTS | TL_PRIMER_HTR | TL_PRIMER_FD | EG_DEV_CAP | EG_DEV_STATUS 
  | TL_CAL_CTRL | TL_CAL_STATUS | TL_CAL_REF | TL_CAL_HV | TL_CAL_SLICE | TL_CAL_TIA | TL_CAL_HTR | CAL_CTRL 
  | CAL_STATUS | HKA_CAL | SV_CTRL | SV_LIST | SV_OUT | SV_STATUS | LK_CFG | LK_STATUS | LK_DROP | LK_FRAMES 
  | LK_DUP | LK_IPV4 | LK_MAC_LO | LK_MAC_HI | LK_PROTO | LK_SESSION | LK_BIND | LK_SEQ_RX_LO | LK_SEQ_RX_HI 
  | LK_SEQ_TX_LO | LK_SEQ_TX_HI | LK_TXWIN | SCH_CTRL | SCH_STATUS | SCH_EVENTS | SCH_EVENTS2 | SCH_QCFG 
  | SCH_QSTAT | SCH_METER_RATE | SCH_METER_BURST | SCH_METER_TC | SCH_METER_TP | SCH_TH_CFG | SCH_TH_DEBT 
  | SCH_TH_TOKENS | SCH_TH_STAT | SCH_HIST | SCH_HIST_MAX | FT_CTRL | FT_STATUS | FT_EVENTS | FT_PHASE 
  | FT_TD_CFG | FT_TD_INCR_LO | FT_TD_INCR_HI | FT_TD_SET_SEC_HI | FT_TD_SET_SEC_LO | FT_TD_SET_NS 
  | FT_TD_ADJ | FT_CAP_SEC_HI | FT_CAP_SEC_LO | FT_CAP_NS | FT_CAP_FRAC | FT_CAP_FRAME_LO | FT_CAP_FRAME_HI 
  | FT_PPS_CFG | FT_PPS_OFFSET | FT_TS_CFG | FT_TS_STATUS | FT_TS_POP | FT_RING_DELAY | FT_RING_ASYM 
  | PR_STATUS | PR_LOCK | PR_OWNER | PR_EPOCH | PR_TEN_CFG | PR_TEN_IN | PR_TEN_OUT | ATTIC_STATUS 
  | ATTIC_FLOOR | ATTIC_KEY | ATTIC_PROV | ATTIC_PROV_GO | PL_ROLE | PL_CTRL | PL_DRILL | PL_DRILL_FRAME_LO 
  | PL_DRILL_FRAME_HI | PL_DIV_STATUS | PL_DIV_LAST | PL_DIV_SCORE_A | PL_DIV_SCORE_B | PL_CELLAR 
  | TL_CMP_STATUS | TL_CMP_LAST | FC_CTRL | FC_STATUS | FC_FIRST | FC_LAST | FC_SLOT0 | FC_SLOT1 | FC_ACK 
  | FC_UNFENCE | FC_FENCED_TILE | FC_FENCED_MISC | FC_QUEUE | FC_SEV | FC_COUNT | TH_CFG | TH_STATUS 
  | TH_EVENTS | TH_MASK | TH_ZONE | TH_SENSOR | TH_TRIM | PW_STATE | PW_CFG | PW_DOMAIN_ON | PW_RET_FAIL 
  | PW_RTC_LO | PW_RTC_HI | PW_ALARM_LO | PW_ALARM_HI | PW_STALL | BT_STATUS | BT_FAIL | BT_REFUSED 
  | BT_TIMES | BT_IMAGE | BT_IMAGE_SEQ | BT_DIGEST | BT_CTRL | BT_PM_STATUS | BT_PM_SEQ | BT_NOR_CTRL 
  | BT_NOR_ADDR | BT_NOR_INFO | BT_NOR_BUF | AP_RING_STATUS | AP_RING_NODE | AP_RING_DIGEST_LO 
  | AP_RING_DIGEST_HI | GL_ID | GL_SERIAL_LO | GL_SERIAL_HI | GL_FRAME_LO | GL_FRAME_HI | GL_PLANE_SEL 
  | GL_ID_KEY | GL_ID_ENDORSE | MT_FAIL_CHECK | RSP_BASE | RSP_WMARK | RSP_WPTR | RSP_RPTR | RSP_STATUS 
  | RSP_START_LO | RSP_START_HI
deriving DecidableEq, Repr

/-- A field of one register word: the byte address of the word and the bits `hi` down to `lo`. -/
structure FieldAt where
  addr : Nat
  hi : Nat
  lo : Nat
deriving DecidableEq, Repr

end Sys2Proof.Machine

namespace Sys2Proof.Machine

/-! Registers of spec/01_stack_and_planes.md. -/

def A.AV_LOSS (p : Nat) : Nat := 0x800 + 4 * p
def R.AV_LOSS_LOSS (p : Nat) : FieldAt := ⟨A.AV_LOSS p, 9, 0⟩
/-! Registers of spec/02_fabric_and_routing.md. -/

def A.RT_FABRIC : Nat := 0x50000
def R.RT_FABRIC_TOPOLOGY : FieldAt := ⟨A.RT_FABRIC, 27, 24⟩
def R.RT_FABRIC_LOG2_PORTS : FieldAt := ⟨A.RT_FABRIC, 23, 20⟩
def R.RT_FABRIC_CELL_COUNT : FieldAt := ⟨A.RT_FABRIC, 13, 0⟩
def A.RT_CTRL : Nat := 0x50004
def R.RT_CTRL_HALT : FieldAt := ⟨A.RT_CTRL, 0, 0⟩
def A.RT_STATUS : Nat := 0x50008
def R.RT_STATUS_BUSY : FieldAt := ⟨A.RT_STATUS, 31, 31⟩
def R.RT_STATUS_FULL_RUN : FieldAt := ⟨A.RT_STATUS, 30, 30⟩
def R.RT_STATUS_PENDING : FieldAt := ⟨A.RT_STATUS, 26, 16⟩
def R.RT_STATUS_COMMITTED : FieldAt := ⟨A.RT_STATUS, 10, 0⟩
def A.RT_HIT_POLICY : Nat := 0x5000c
def R.RT_HIT_POLICY_MAY_MOVE : FieldAt := ⟨A.RT_HIT_POLICY, 15, 0⟩
def A.RT_LAST_BLOCK : Nat := 0x50010
def R.RT_LAST_BLOCK_CAUSE : FieldAt := ⟨A.RT_LAST_BLOCK, 31, 29⟩
def R.RT_LAST_BLOCK_PRINCIPAL : FieldAt := ⟨A.RT_LAST_BLOCK, 28, 24⟩
def R.RT_LAST_BLOCK_CELL : FieldAt := ⟨A.RT_LAST_BLOCK, 13, 0⟩
def A.RT_EVENTS : Nat := 0x50014
def R.RT_EVENTS_TIMEOUTS : FieldAt := ⟨A.RT_EVENTS, 29, 20⟩
def R.RT_EVENTS_BLOCKED : FieldAt := ⟨A.RT_EVENTS, 19, 10⟩
def R.RT_EVENTS_HITS : FieldAt := ⟨A.RT_EVENTS, 9, 0⟩
def A.RT_MARGIN : Nat := 0x50018
def R.RT_MARGIN_FULL_MIN : FieldAt := ⟨A.RT_MARGIN, 31, 16⟩
def R.RT_MARGIN_INC_MIN : FieldAt := ⟨A.RT_MARGIN, 15, 0⟩
def A.RT_MAP_DIGEST_LO : Nat := 0x50020
def R.RT_MAP_DIGEST_LO_DIGEST : FieldAt := ⟨A.RT_MAP_DIGEST_LO, 31, 0⟩
def A.RT_MAP_DIGEST_HI : Nat := 0x50024
def R.RT_MAP_DIGEST_HI_DIGEST : FieldAt := ⟨A.RT_MAP_DIGEST_HI, 31, 0⟩
def A.RT_REMAP : Nat := 0x50030
def R.RT_REMAP_USE_ALT : FieldAt := ⟨A.RT_REMAP, 31, 31⟩
def R.RT_REMAP_LOGICAL : FieldAt := ⟨A.RT_REMAP, 13, 0⟩
def A.RT_TEN_STATUS (t : Nat) : Nat := 0x50100 + 4 * t
def R.RT_TEN_STATUS_ALIGNED (t : Nat) : FieldAt := ⟨A.RT_TEN_STATUS t, 31, 31⟩
def R.RT_TEN_STATUS_ALIGN_PENDING (t : Nat) : FieldAt := ⟨A.RT_TEN_STATUS t, 30, 30⟩
def R.RT_TEN_STATUS_K (t : Nat) : FieldAt := ⟨A.RT_TEN_STATUS t, 27, 24⟩
def R.RT_TEN_STATUS_BLOCK (t : Nat) : FieldAt := ⟨A.RT_TEN_STATUS t, 22, 16⟩
def R.RT_TEN_STATUS_SHARE (t : Nat) : FieldAt := ⟨A.RT_TEN_STATUS t, 13, 0⟩
def A.RT_CELL_COMMITTED (k : Nat) : Nat := 0x51000 + 4 * k
def R.RT_CELL_COMMITTED_CELLS (k : Nat) : FieldAt := ⟨A.RT_CELL_COMMITTED k, 31, 0⟩
def A.RT_CELL_PENDING (k : Nat) : Nat := 0x52000 + 4 * k
def R.RT_CELL_PENDING_CELLS (k : Nat) : FieldAt := ⟨A.RT_CELL_PENDING k, 31, 0⟩
def A.RT_CELL_FAILED (k : Nat) : Nat := 0x53000 + 4 * k
def R.RT_CELL_FAILED_CELLS (k : Nat) : FieldAt := ⟨A.RT_CELL_FAILED k, 31, 0⟩
def A.RT_CELL_RESERVED (k : Nat) : Nat := 0x54000 + 4 * k
def R.RT_CELL_RESERVED_CELLS (k : Nat) : FieldAt := ⟨A.RT_CELL_RESERVED k, 31, 0⟩
/-! Registers of spec/03_commit_and_switching.md. -/

def A.CM_CTRL : Nat := 0x50040
def R.CM_CTRL_REARRANGE_HOLD : FieldAt := ⟨A.CM_CTRL, 23, 16⟩
def R.CM_CTRL_SETTLE_TOL : FieldAt := ⟨A.CM_CTRL, 12, 8⟩
def R.CM_CTRL_SETTLE_WIN : FieldAt := ⟨A.CM_CTRL, 3, 0⟩
def A.CM_LAST_LO : Nat := 0x50044
def R.CM_LAST_LO_FRAME : FieldAt := ⟨A.CM_LAST_LO, 31, 0⟩
def A.CM_LAST_HI : Nat := 0x50048
def R.CM_LAST_HI_FRAME : FieldAt := ⟨A.CM_LAST_HI, 31, 0⟩
def A.CM_STATUS : Nat := 0x5004c
def R.CM_STATUS_LAST_CHIP : FieldAt := ⟨A.CM_STATUS, 27, 24⟩
def R.CM_STATUS_WAITING : FieldAt := ⟨A.CM_STATUS, 23, 16⟩
def R.CM_STATUS_REARRANGE_PENDING : FieldAt := ⟨A.CM_STATUS, 15, 15⟩
def R.CM_STATUS_LAST_SWITCHED : FieldAt := ⟨A.CM_STATUS, 13, 0⟩
def A.CM_EVENTS : Nat := 0x50050
def R.CM_EVENTS_LATE : FieldAt := ⟨A.CM_EVENTS, 29, 20⟩
def R.CM_EVENTS_TRIM_SKIPPED : FieldAt := ⟨A.CM_EVENTS, 19, 10⟩
def R.CM_EVENTS_UNSETTLED : FieldAt := ⟨A.CM_EVENTS, 9, 0⟩
def A.CM_SETTLE_MAX : Nat := 0x50054
def R.CM_SETTLE_MAX_PD : FieldAt := ⟨A.CM_SETTLE_MAX, 27, 16⟩
def R.CM_SETTLE_MAX_UNSETTLED : FieldAt := ⟨A.CM_SETTLE_MAX, 15, 15⟩
def R.CM_SETTLE_MAX_SAMPLES : FieldAt := ⟨A.CM_SETTLE_MAX, 10, 0⟩
def A.TL_PRECOMP (t : Nat) : Nat := 0x10f000 + 0x10000 * t
def R.TL_PRECOMP_PC_LIMIT (t : Nat) : FieldAt := ⟨A.TL_PRECOMP t, 31, 12⟩
def R.TL_PRECOMP_BLEED_SHIFT (t : Nat) : FieldAt := ⟨A.TL_PRECOMP t, 11, 8⟩
def R.TL_PRECOMP_TAU_SHIFT (t : Nat) : FieldAt := ⟨A.TL_PRECOMP t, 2, 0⟩
def A.TL_SWITCH (t : Nat) : Nat := 0x10f004 + 0x10000 * t
def R.TL_SWITCH_STAGGER (t : Nat) : FieldAt := ⟨A.TL_SWITCH t, 0, 0⟩
def A.TL_DP_LAST (t : Nat) : Nat := 0x10f008 + 0x10000 * t
def R.TL_DP_LAST_DP (t : Nat) : FieldAt := ⟨A.TL_DP_LAST t, 31, 0⟩
def A.AP_TOKEN_CTRL : Nat := 0xc0100
def R.AP_TOKEN_CTRL_TOKEN_TIMEOUT : FieldAt := ⟨A.AP_TOKEN_CTRL, 15, 0⟩
def A.AP_TOKEN_STATUS : Nat := 0xc0104
def R.AP_TOKEN_STATUS_MASTER : FieldAt := ⟨A.AP_TOKEN_STATUS, 31, 31⟩
def R.AP_TOKEN_STATUS_OPEN : FieldAt := ⟨A.AP_TOKEN_STATUS, 23, 16⟩
def R.AP_TOKEN_STATUS_LOST : FieldAt := ⟨A.AP_TOKEN_STATUS, 9, 0⟩
/-! Registers of spec/04_monitor_sensing.md. -/

def A.TL_PD_CFG (t j : Nat) : Nat := 0x100800 + 0x10000 * t + 4 * j
def R.TL_PD_CFG_ENABLE (t j : Nat) : FieldAt := ⟨A.TL_PD_CFG t j, 31, 31⟩
def R.TL_PD_CFG_TIA_RANGE (t j : Nat) : FieldAt := ⟨A.TL_PD_CFG t j, 25, 24⟩
def R.TL_PD_CFG_SHIFT (t j : Nat) : FieldAt := ⟨A.TL_PD_CFG t j, 11, 8⟩
def R.TL_PD_CFG_AVG (t j : Nat) : FieldAt := ⟨A.TL_PD_CFG t j, 3, 0⟩
def A.TL_REF (t : Nat) : Nat := 0x100880 + 0x10000 * t
def R.TL_REF_REF_SETTLED (t : Nat) : FieldAt := ⟨A.TL_REF t, 31, 31⟩
def R.TL_REF_REF_OUT (t : Nat) : FieldAt := ⟨A.TL_REF t, 30, 30⟩
def R.TL_REF_SETTLE_LAST (t : Nat) : FieldAt := ⟨A.TL_REF t, 12, 8⟩
def R.TL_REF_REF_SEL (t : Nat) : FieldAt := ⟨A.TL_REF t, 1, 0⟩
def A.TL_BIAS (t : Nat) : Nat := 0x100884 + 0x10000 * t
def R.TL_BIAS_BIAS_SETTLED (t : Nat) : FieldAt := ⟨A.TL_BIAS t, 31, 31⟩
def R.TL_BIAS_BIAS_LIMIT (t : Nat) : FieldAt := ⟨A.TL_BIAS t, 30, 30⟩
def R.TL_BIAS_BIAS_NOW (t : Nat) : FieldAt := ⟨A.TL_BIAS t, 15, 8⟩
def R.TL_BIAS_BIAS (t : Nat) : FieldAt := ⟨A.TL_BIAS t, 7, 0⟩
def A.TL_SENSE_CTRL (t : Nat) : Nat := 0x100888 + 0x10000 * t
def R.TL_SENSE_CTRL_SPARE_TOL (t : Nat) : FieldAt := ⟨A.TL_SENSE_CTRL t, 13, 8⟩
def R.TL_SENSE_CTRL_ROTATE (t : Nat) : FieldAt := ⟨A.TL_SENSE_CTRL t, 0, 0⟩
def A.TL_SPARE_STATUS (t : Nat) : Nat := 0x10088c + 0x10000 * t
def R.TL_SPARE_STATUS_SUBSTITUTING (t : Nat) : FieldAt := ⟨A.TL_SPARE_STATUS t, 31, 31⟩
def R.TL_SPARE_STATUS_SLICE_FENCED (t : Nat) : FieldAt := ⟨A.TL_SPARE_STATUS t, 30, 30⟩
def R.TL_SPARE_STATUS_SPARE_FAILED (t : Nat) : FieldAt := ⟨A.TL_SPARE_STATUS t, 29, 29⟩
def R.TL_SPARE_STATUS_FENCED_SLICE (t : Nat) : FieldAt := ⟨A.TL_SPARE_STATUS t, 28, 24⟩
def R.TL_SPARE_STATUS_ROT_SLOT (t : Nat) : FieldAt := ⟨A.TL_SPARE_STATUS t, 21, 16⟩
def R.TL_SPARE_STATUS_ROT_FRAME (t : Nat) : FieldAt := ⟨A.TL_SPARE_STATUS t, 5, 0⟩
def A.TL_SPARE_LOG (t : Nat) : Nat := 0x100890 + 0x10000 * t
def R.TL_SPARE_LOG_DRIFT_EVENTS (t : Nat) : FieldAt := ⟨A.TL_SPARE_LOG t, 31, 24⟩
def R.TL_SPARE_LOG_LAST_SLICE (t : Nat) : FieldAt := ⟨A.TL_SPARE_LOG t, 20, 16⟩
def R.TL_SPARE_LOG_LAST_DIFF (t : Nat) : FieldAt := ⟨A.TL_SPARE_LOG t, 15, 0⟩
def A.TL_PD_OVR (t : Nat) : Nat := 0x100894 + 0x10000 * t
def R.TL_PD_OVR_OVR (t : Nat) : FieldAt := ⟨A.TL_PD_OVR t, 31, 0⟩
def A.TL_PD_WORD (t j : Nat) : Nat := 0x100900 + 0x10000 * t + 4 * j
def R.TL_PD_WORD_OVR (t j : Nat) : FieldAt := ⟨A.TL_PD_WORD t j, 31, 31⟩
def R.TL_PD_WORD_INVALID (t j : Nat) : FieldAt := ⟨A.TL_PD_WORD t j, 30, 30⟩
def R.TL_PD_WORD_WORD (t j : Nat) : FieldAt := ⟨A.TL_PD_WORD t j, 21, 0⟩
def A.CAP_CTRL (k : Nat) : Nat := 0x2400000 + 0x20 * k
def R.CAP_CTRL_ENABLE (k : Nat) : FieldAt := ⟨A.CAP_CTRL k, 31, 31⟩
def R.CAP_CTRL_POLICY (k : Nat) : FieldAt := ⟨A.CAP_CTRL k, 30, 30⟩
def R.CAP_CTRL_FORMAT (k : Nat) : FieldAt := ⟨A.CAP_CTRL k, 29, 28⟩
def R.CAP_CTRL_SIZE_LOG2 (k : Nat) : FieldAt := ⟨A.CAP_CTRL k, 27, 23⟩
def R.CAP_CTRL_OWNER (k : Nat) : FieldAt := ⟨A.CAP_CTRL k, 20, 16⟩
def R.CAP_CTRL_SOURCE (k : Nat) : FieldAt := ⟨A.CAP_CTRL k, 11, 0⟩
def A.CAP_BASE (k : Nat) : Nat := 0x2400004 + 0x20 * k
def R.CAP_BASE_BASE (k : Nat) : FieldAt := ⟨A.CAP_BASE k, 21, 12⟩
def A.CAP_WMARK (k : Nat) : Nat := 0x2400008 + 0x20 * k
def R.CAP_WMARK_WMARK (k : Nat) : FieldAt := ⟨A.CAP_WMARK k, 20, 0⟩
def A.CAP_WPTR (k : Nat) : Nat := 0x240000c + 0x20 * k
def R.CAP_WPTR_WPTR (k : Nat) : FieldAt := ⟨A.CAP_WPTR k, 31, 0⟩
def A.CAP_RPTR (k : Nat) : Nat := 0x2400010 + 0x20 * k
def R.CAP_RPTR_RPTR (k : Nat) : FieldAt := ⟨A.CAP_RPTR k, 31, 0⟩
def A.CAP_STATUS (k : Nat) : Nat := 0x2400014 + 0x20 * k
def R.CAP_STATUS_RUNNING (k : Nat) : FieldAt := ⟨A.CAP_STATUS k, 31, 31⟩
def R.CAP_STATUS_CAUSE (k : Nat) : FieldAt := ⟨A.CAP_STATUS k, 7, 5⟩
def R.CAP_STATUS_PTR_CLAMP (k : Nat) : FieldAt := ⟨A.CAP_STATUS k, 4, 4⟩
def R.CAP_STATUS_REFUSED (k : Nat) : FieldAt := ⟨A.CAP_STATUS k, 3, 3⟩
def R.CAP_STATUS_OVERWROTE (k : Nat) : FieldAt := ⟨A.CAP_STATUS k, 2, 2⟩
def R.CAP_STATUS_FULL (k : Nat) : FieldAt := ⟨A.CAP_STATUS k, 1, 1⟩
def R.CAP_STATUS_WMARK (k : Nat) : FieldAt := ⟨A.CAP_STATUS k, 0, 0⟩
def A.CAP_START_LO (k : Nat) : Nat := 0x2400018 + 0x20 * k
def R.CAP_START_LO_FRAME (k : Nat) : FieldAt := ⟨A.CAP_START_LO k, 31, 0⟩
def A.CAP_START_HI (k : Nat) : Nat := 0x240001c + 0x20 * k
def R.CAP_START_HI_FRAME (k : Nat) : FieldAt := ⟨A.CAP_START_HI k, 31, 0⟩
def A.HKA_CTRL : Nat := 0x90000
def R.HKA_CTRL_ROUND_EN : FieldAt := ⟨A.HKA_CTRL, 1, 1⟩
def R.HKA_CTRL_CAL_START : FieldAt := ⟨A.HKA_CTRL, 0, 0⟩
def A.HKA_STATUS : Nat := 0x90004
def R.HKA_STATUS_CAL_BUSY : FieldAt := ⟨A.HKA_STATUS, 31, 31⟩
def R.HKA_STATUS_CAL_PENDING : FieldAt := ⟨A.HKA_STATUS, 30, 30⟩
def R.HKA_STATUS_OCCUPANCY : FieldAt := ⟨A.HKA_STATUS, 27, 24⟩
def R.HKA_STATUS_ROUND : FieldAt := ⟨A.HKA_STATUS, 23, 16⟩
def R.HKA_STATUS_SKIPPED : FieldAt := ⟨A.HKA_STATUS, 15, 8⟩
def R.HKA_STATUS_INJ_REFUSED : FieldAt := ⟨A.HKA_STATUS, 7, 0⟩
def A.HKA_INJECT : Nat := 0x90008
def R.HKA_INJECT_TAG : FieldAt := ⟨A.HKA_INJECT, 31, 24⟩
def R.HKA_INJECT_CHANNEL : FieldAt := ⟨A.HKA_INJECT, 6, 0⟩
def A.HKA_INJ_RESULT : Nat := 0x9000c
def R.HKA_INJ_RESULT_VALID : FieldAt := ⟨A.HKA_INJ_RESULT, 31, 31⟩
def R.HKA_INJ_RESULT_CHANNEL : FieldAt := ⟨A.HKA_INJ_RESULT, 30, 24⟩
def R.HKA_INJ_RESULT_TAG : FieldAt := ⟨A.HKA_INJ_RESULT, 23, 16⟩
def R.HKA_INJ_RESULT_CODE : FieldAt := ⟨A.HKA_INJ_RESULT, 15, 0⟩
def A.HKA_RESULT (c : Nat) : Nat := 0x91000 + 4 * c
def R.HKA_RESULT_VALID (c : Nat) : FieldAt := ⟨A.HKA_RESULT c, 31, 31⟩
def R.HKA_RESULT_STALE (c : Nat) : FieldAt := ⟨A.HKA_RESULT c, 30, 30⟩
def R.HKA_RESULT_ROUND (c : Nat) : FieldAt := ⟨A.HKA_RESULT c, 23, 16⟩
def R.HKA_RESULT_CODE (c : Nat) : FieldAt := ⟨A.HKA_RESULT c, 15, 0⟩
def A.HKA_LIMIT (c : Nat) : Nat := 0x92000 + 4 * c
def R.HKA_LIMIT_HIGH (c : Nat) : FieldAt := ⟨A.HKA_LIMIT c, 31, 16⟩
def R.HKA_LIMIT_LOW (c : Nat) : FieldAt := ⟨A.HKA_LIMIT c, 15, 0⟩
/-! Registers of spec/05_dither_feedback.md. -/

def A.TL_DITHER (t : Nat) : Nat := 0x100a00 + 0x10000 * t
def R.TL_DITHER_TH_AMP_NOW (t : Nat) : FieldAt := ⟨A.TL_DITHER t, 31, 28⟩
def R.TL_DITHER_TH_AMP_LOG2 (t : Nat) : FieldAt := ⟨A.TL_DITHER t, 27, 24⟩
def R.TL_DITHER_TH_LEAD (t : Nat) : FieldAt := ⟨A.TL_DITHER t, 21, 16⟩
def R.TL_DITHER_EO_AMP_NOW (t : Nat) : FieldAt := ⟨A.TL_DITHER t, 10, 8⟩
def R.TL_DITHER_EO_AMP (t : Nat) : FieldAt := ⟨A.TL_DITHER t, 2, 0⟩
def A.TL_CORR_CFG (t : Nat) : Nat := 0x100a04 + 0x10000 * t
def R.TL_CORR_CFG_CODE_LEN (t : Nat) : FieldAt := ⟨A.TL_CORR_CFG t, 31, 31⟩
def R.TL_CORR_CFG_W_TH_EXT (t : Nat) : FieldAt := ⟨A.TL_CORR_CFG t, 14, 12⟩
def R.TL_CORR_CFG_W_TH (t : Nat) : FieldAt := ⟨A.TL_CORR_CFG t, 11, 9⟩
def R.TL_CORR_CFG_W_EO_EXT (t : Nat) : FieldAt := ⟨A.TL_CORR_CFG t, 8, 6⟩
def R.TL_CORR_CFG_W_EO (t : Nat) : FieldAt := ⟨A.TL_CORR_CFG t, 5, 3⟩
def A.TL_CORR_STATUS (t : Nat) : Nat := 0x100a08 + 0x10000 * t
def R.TL_CORR_STATUS_RESIDUE_ERR (t : Nat) : FieldAt := ⟨A.TL_CORR_STATUS t, 31, 31⟩
def R.TL_CORR_STATUS_RESIDUE_SLOT (t : Nat) : FieldAt := ⟨A.TL_CORR_STATUS t, 25, 16⟩
def R.TL_CORR_STATUS_LOST_EVENTS (t : Nat) : FieldAt := ⟨A.TL_CORR_STATUS t, 15, 8⟩
def R.TL_CORR_STATUS_FROZEN_EVENTS (t : Nat) : FieldAt := ⟨A.TL_CORR_STATUS t, 7, 0⟩
def A.TL_SLOT_USE (t p : Nat) : Nat := 0x100a40 + 0x10000 * t + 4 * p
def R.TL_SLOT_USE_BOUND (t p : Nat) : FieldAt := ⟨A.TL_SLOT_USE t p, 31, 0⟩
def A.TL_SLOT_LENT (t p : Nat) : Nat := 0x100ac0 + 0x10000 * t + 4 * p
def R.TL_SLOT_LENT_LENT (t p : Nat) : FieldAt := ⟨A.TL_SLOT_LENT t p, 31, 0⟩
def A.TL_CORR_WORD (t s : Nat) : Nat := 0x104000 + 0x10000 * t + 4 * s
def R.TL_CORR_WORD_INVALID (t s : Nat) : FieldAt := ⟨A.TL_CORR_WORD t s, 31, 31⟩
def R.TL_CORR_WORD_WARMING (t s : Nat) : FieldAt := ⟨A.TL_CORR_WORD t s, 30, 30⟩
def R.TL_CORR_WORD_OVR (t s : Nat) : FieldAt := ⟨A.TL_CORR_WORD t s, 29, 29⟩
def R.TL_CORR_WORD_CLIPPED (t s : Nat) : FieldAt := ⟨A.TL_CORR_WORD t s, 28, 28⟩
def R.TL_CORR_WORD_Y (t s : Nat) : FieldAt := ⟨A.TL_CORR_WORD t s, 23, 0⟩
def A.TL_CORR_ENERGY (t s : Nat) : Nat := 0x105000 + 0x10000 * t + 4 * s
def R.TL_CORR_ENERGY_E (t s : Nat) : FieldAt := ⟨A.TL_CORR_ENERGY t s, 23, 0⟩
/-! Registers of spec/06_loop_engine.md. -/

def A.CTX_CTL (n : Nat) : Nat := 0x1000000 + 0x40 * n
def R.CTX_CTL_CLASS (n : Nat) : FieldAt := ⟨A.CTX_CTL n, 31, 31⟩
def R.CTX_CTL_DITHER_PATH (n : Nat) : FieldAt := ⟨A.CTX_CTL n, 30, 29⟩
def R.CTX_CTL_FB_KIND (n : Nat) : FieldAt := ⟨A.CTX_CTL n, 28, 26⟩
def R.CTX_CTL_AUTO_RESUME (n : Nat) : FieldAt := ⟨A.CTX_CTL n, 25, 25⟩
def R.CTX_CTL_DUAL_SP (n : Nat) : FieldAt := ⟨A.CTX_CTL n, 24, 24⟩
def R.CTX_CTL_SP_SEL (n : Nat) : FieldAt := ⟨A.CTX_CTL n, 23, 23⟩
def R.CTX_CTL_TARGET (n : Nat) : FieldAt := ⟨A.CTX_CTL n, 22, 20⟩
def R.CTX_CTL_DECIM (n : Nat) : FieldAt := ⟨A.CTX_CTL n, 19, 14⟩
def R.CTX_CTL_GAIN_LUT (n : Nat) : FieldAt := ⟨A.CTX_CTL n, 13, 10⟩
def R.CTX_CTL_LAMBDA_LUT (n : Nat) : FieldAt := ⟨A.CTX_CTL n, 9, 6⟩
def R.CTX_CTL_INJ_POINT (n : Nat) : FieldAt := ⟨A.CTX_CTL n, 5, 3⟩
def R.CTX_CTL_FE_HOLD (n : Nat) : FieldAt := ⟨A.CTX_CTL n, 2, 2⟩
def A.CTX_BIND (n : Nat) : Nat := 0x1000004 + 0x40 * n
def R.CTX_BIND_ACT (n : Nat) : FieldAt := ⟨A.CTX_BIND n, 31, 24⟩
def R.CTX_BIND_PD (n : Nat) : FieldAt := ⟨A.CTX_BIND n, 23, 19⟩
def R.CTX_BIND_HOME_CODE (n : Nat) : FieldAt := ⟨A.CTX_BIND n, 18, 14⟩
def R.CTX_BIND_LEND_EN (n : Nat) : FieldAt := ⟨A.CTX_BIND n, 13, 13⟩
def R.CTX_BIND_LEND_CODE (n : Nat) : FieldAt := ⟨A.CTX_BIND n, 12, 8⟩
def A.CTX_SP0 (n : Nat) : Nat := 0x1000008 + 0x40 * n
def R.CTX_SP0_SP0 (n : Nat) : FieldAt := ⟨A.CTX_SP0 n, 31, 8⟩
def A.CTX_SP1 (n : Nat) : Nat := 0x100000c + 0x40 * n
def R.CTX_SP1_SP1 (n : Nat) : FieldAt := ⟨A.CTX_SP1 n, 31, 8⟩
def A.CTX_SPSRC (n : Nat) : Nat := 0x1000010 + 0x40 * n
def R.CTX_SPSRC_SRC (n : Nat) : FieldAt := ⟨A.CTX_SPSRC n, 31, 29⟩
def R.CTX_SPSRC_SRC_INDEX (n : Nat) : FieldAt := ⟨A.CTX_SPSRC n, 24, 16⟩
def R.CTX_SPSRC_SP_SCALE (n : Nat) : FieldAt := ⟨A.CTX_SPSRC n, 15, 0⟩
def A.CTX_GAIN (n : Nat) : Nat := 0x1000014 + 0x40 * n
def R.CTX_GAIN_KP (n : Nat) : FieldAt := ⟨A.CTX_GAIN n, 31, 16⟩
def R.CTX_GAIN_KI (n : Nat) : FieldAt := ⟨A.CTX_GAIN n, 15, 0⟩
def A.CTX_SHAPE (n : Nat) : Nat := 0x1000018 + 0x40 * n
def R.CTX_SHAPE_OUT_SHIFT (n : Nat) : FieldAt := ⟨A.CTX_SHAPE n, 31, 26⟩
def R.CTX_SHAPE_I_SHIFT (n : Nat) : FieldAt := ⟨A.CTX_SHAPE n, 25, 22⟩
def R.CTX_SHAPE_SLEW_LOG2 (n : Nat) : FieldAt := ⟨A.CTX_SHAPE n, 21, 17⟩
def R.CTX_SHAPE_INJ_GEN (n : Nat) : FieldAt := ⟨A.CTX_SHAPE n, 16, 13⟩
def R.CTX_SHAPE_MODEL (n : Nat) : FieldAt := ⟨A.CTX_SHAPE n, 11, 0⟩
def A.CTX_LIMIT (n : Nat) : Nat := 0x100001c + 0x40 * n
def R.CTX_LIMIT_OUT_HI (n : Nat) : FieldAt := ⟨A.CTX_LIMIT n, 31, 16⟩
def R.CTX_LIMIT_OUT_LO (n : Nat) : FieldAt := ⟨A.CTX_LIMIT n, 15, 0⟩
def A.CTX_SUPV (n : Nat) : Nat := 0x1000020 + 0x40 * n
def R.CTX_SUPV_FE_LIMIT (n : Nat) : FieldAt := ⟨A.CTX_SUPV n, 31, 16⟩
def R.CTX_SUPV_E_FLOOR (n : Nat) : FieldAt := ⟨A.CTX_SUPV n, 15, 0⟩
def A.CTX_XTALK (n : Nat) : Nat := 0x1000024 + 0x40 * n
def R.CTX_XTALK_KX_OWN (n : Nat) : FieldAt := ⟨A.CTX_XTALK n, 31, 16⟩
def R.CTX_XTALK_KX_NBR (n : Nat) : FieldAt := ⟨A.CTX_XTALK n, 15, 0⟩
def A.CTX_ALT (n : Nat) : Nat := 0x1000028 + 0x40 * n
def R.CTX_ALT_U_ALT (n : Nat) : FieldAt := ⟨A.CTX_ALT n, 31, 12⟩
def R.CTX_ALT_FE_FRAMES (n : Nat) : FieldAt := ⟨A.CTX_ALT n, 7, 0⟩
def A.CTX_INTEG (n : Nat) : Nat := 0x100002c + 0x40 * n
def R.CTX_INTEG_I (n : Nat) : FieldAt := ⟨A.CTX_INTEG n, 31, 0⟩
def A.CTX_OUT (n : Nat) : Nat := 0x1000030 + 0x40 * n
def R.CTX_OUT_U (n : Nat) : FieldAt := ⟨A.CTX_OUT n, 31, 12⟩
def R.CTX_OUT_STATE (n : Nat) : FieldAt := ⟨A.CTX_OUT n, 11, 9⟩
def R.CTX_OUT_CAUSE (n : Nat) : FieldAt := ⟨A.CTX_OUT n, 8, 5⟩
def R.CTX_OUT_SAT_HI (n : Nat) : FieldAt := ⟨A.CTX_OUT n, 4, 4⟩
def R.CTX_OUT_SAT_LO (n : Nat) : FieldAt := ⟨A.CTX_OUT n, 3, 3⟩
def R.CTX_OUT_COLD (n : Nat) : FieldAt := ⟨A.CTX_OUT n, 2, 2⟩
def R.CTX_OUT_FE_TRIP (n : Nat) : FieldAt := ⟨A.CTX_OUT n, 1, 1⟩
def R.CTX_OUT_XFER (n : Nat) : FieldAt := ⟨A.CTX_OUT n, 0, 0⟩
def A.CTX_PC (n : Nat) : Nat := 0x1000034 + 0x40 * n
def R.CTX_PC_PC (n : Nat) : FieldAt := ⟨A.CTX_PC n, 31, 11⟩
def R.CTX_PC_LOST_CNT (n : Nat) : FieldAt := ⟨A.CTX_PC n, 10, 9⟩
def R.CTX_PC_FROZEN_CNT (n : Nat) : FieldAt := ⟨A.CTX_PC n, 8, 6⟩
def R.CTX_PC_GOOD_CNT (n : Nat) : FieldAt := ⟨A.CTX_PC n, 5, 2⟩
def A.CTX_TPC (n : Nat) : Nat := 0x1000038 + 0x40 * n
def R.CTX_TPC_T_PC (n : Nat) : FieldAt := ⟨A.CTX_TPC n, 31, 11⟩
def R.CTX_TPC_OVR_CNT (n : Nat) : FieldAt := ⟨A.CTX_TPC n, 10, 7⟩
def R.CTX_TPC_INV_CNT (n : Nat) : FieldAt := ⟨A.CTX_TPC n, 6, 3⟩
def R.CTX_TPC_OVR_RAISED (n : Nat) : FieldAt := ⟨A.CTX_TPC n, 2, 2⟩
def A.CTX_HIST (n : Nat) : Nat := 0x100003c + 0x40 * n
def R.CTX_HIST_LAST_Y (n : Nat) : FieldAt := ⟨A.CTX_HIST n, 31, 8⟩
def R.CTX_HIST_FE_CNT (n : Nat) : FieldAt := ⟨A.CTX_HIST n, 7, 0⟩
def A.TL_LOOP_MARGIN (t : Nat) : Nat := 0x100c00 + 0x10000 * t
def R.TL_LOOP_MARGIN_MIN (t : Nat) : FieldAt := ⟨A.TL_LOOP_MARGIN t, 31, 16⟩
def R.TL_LOOP_MARGIN_LAST (t : Nat) : FieldAt := ⟨A.TL_LOOP_MARGIN t, 15, 0⟩
def A.TL_LOOP_EVENTS (t : Nat) : Nat := 0x100c04 + 0x10000 * t
def R.TL_LOOP_EVENTS_OVERRUNS (t : Nat) : FieldAt := ⟨A.TL_LOOP_EVENTS t, 31, 16⟩
def R.TL_LOOP_EVENTS_EXP_OVERRUNS (t : Nat) : FieldAt := ⟨A.TL_LOOP_EVENTS t, 15, 0⟩
def A.TL_LOOP_COUNTS (t : Nat) : Nat := 0x100c08 + 0x10000 * t
def R.TL_LOOP_COUNTS_ACTIVE (t : Nat) : FieldAt := ⟨A.TL_LOOP_COUNTS t, 29, 20⟩
def R.TL_LOOP_COUNTS_HOLD (t : Nat) : FieldAt := ⟨A.TL_LOOP_COUNTS t, 19, 10⟩
def R.TL_LOOP_COUNTS_DORMANT (t : Nat) : FieldAt := ⟨A.TL_LOOP_COUNTS t, 9, 0⟩
def A.TL_LOOP_COUNTS2 (t : Nat) : Nat := 0x100c0c + 0x10000 * t
def R.TL_LOOP_COUNTS2_OFF (t : Nat) : FieldAt := ⟨A.TL_LOOP_COUNTS2 t, 29, 20⟩
def R.TL_LOOP_COUNTS2_FENCED (t : Nat) : FieldAt := ⟨A.TL_LOOP_COUNTS2 t, 19, 10⟩
def R.TL_LOOP_COUNTS2_EXPRESS (t : Nat) : FieldAt := ⟨A.TL_LOOP_COUNTS2 t, 5, 0⟩
def A.TL_STORE_STATUS (t : Nat) : Nat := 0x100c10 + 0x10000 * t
def R.TL_STORE_STATUS_UNCORR (t : Nat) : FieldAt := ⟨A.TL_STORE_STATUS t, 31, 31⟩
def R.TL_STORE_STATUS_REFRESH_MISS (t : Nat) : FieldAt := ⟨A.TL_STORE_STATUS t, 30, 30⟩
def R.TL_STORE_STATUS_COLD_RELOAD (t : Nat) : FieldAt := ⟨A.TL_STORE_STATUS t, 29, 29⟩
def R.TL_STORE_STATUS_CORRECTED (t : Nat) : FieldAt := ⟨A.TL_STORE_STATUS t, 28, 21⟩
def R.TL_STORE_STATUS_LAST_WORD (t : Nat) : FieldAt := ⟨A.TL_STORE_STATUS t, 12, 0⟩
def A.TL_LUT (t m k : Nat) : Nat := 0x10b000 + 0x10000 * t + 0x100 * m + 4 * k
def R.TL_LUT_G (t m k : Nat) : FieldAt := ⟨A.TL_LUT t m k, 15, 0⟩
def A.TL_LUT_SHIFT (t m : Nat) : Nat := 0x10b084 + 0x10000 * t + 0x100 * m
def R.TL_LUT_SHIFT_SEG_SHIFT (t m : Nat) : FieldAt := ⟨A.TL_LUT_SHIFT t m, 4, 0⟩
def A.LP_SPP_CFG (k : Nat) : Nat := 0x300 + 4 * k
def R.LP_SPP_CFG_FS_LOG2 (k : Nat) : FieldAt := ⟨A.LP_SPP_CFG k, 11, 8⟩
def R.LP_SPP_CFG_MODE (k : Nat) : FieldAt := ⟨A.LP_SPP_CFG k, 1, 0⟩
def A.LP_SPP_VALUE (k : Nat) : Nat := 0x310 + 4 * k
def R.LP_SPP_VALUE_VALID (k : Nat) : FieldAt := ⟨A.LP_SPP_VALUE k, 31, 31⟩
def R.LP_SPP_VALUE_S (k : Nat) : FieldAt := ⟨A.LP_SPP_VALUE k, 23, 0⟩
def A.LP_EXPRESS : Nat := 0x320
def R.LP_EXPRESS_TRIMMING : FieldAt := ⟨A.LP_EXPRESS, 26, 16⟩
def R.LP_EXPRESS_TOTAL : FieldAt := ⟨A.LP_EXPRESS, 10, 0⟩
/-! Registers of spec/07_tuning_and_stencil.md. -/

def A.ST_CTRL (g : Nat) : Nat := 0xa0000 + 0x80 * g
def R.ST_CTRL_TRIG (g : Nat) : FieldAt := ⟨A.ST_CTRL g, 31, 30⟩
def R.ST_CTRL_EVT (g : Nat) : FieldAt := ⟨A.ST_CTRL g, 29, 27⟩
def R.ST_CTRL_RESAMP (g : Nat) : FieldAt := ⟨A.ST_CTRL g, 26, 25⟩
def R.ST_CTRL_ENTRY (g : Nat) : FieldAt := ⟨A.ST_CTRL g, 15, 8⟩
def R.ST_CTRL_ABORT_IGN (g : Nat) : FieldAt := ⟨A.ST_CTRL g, 3, 3⟩
def R.ST_CTRL_HALT (g : Nat) : FieldAt := ⟨A.ST_CTRL g, 2, 2⟩
def R.ST_CTRL_START (g : Nat) : FieldAt := ⟨A.ST_CTRL g, 1, 1⟩
def R.ST_CTRL_ARM (g : Nat) : FieldAt := ⟨A.ST_CTRL g, 0, 0⟩
def A.ST_RATE (g : Nat) : Nat := 0xa0004 + 0x80 * g
def R.ST_RATE_INC (g : Nat) : FieldAt := ⟨A.ST_RATE g, 31, 0⟩
def A.ST_TRIG_FRAME_LO (g : Nat) : Nat := 0xa0008 + 0x80 * g
def R.ST_TRIG_FRAME_LO_FRAME (g : Nat) : FieldAt := ⟨A.ST_TRIG_FRAME_LO g, 31, 0⟩
def A.ST_TRIG_FRAME_HI (g : Nat) : Nat := 0xa000c + 0x80 * g
def R.ST_TRIG_FRAME_HI_FRAME (g : Nat) : FieldAt := ⟨A.ST_TRIG_FRAME_HI g, 31, 0⟩
def A.ST_STATUS (g : Nat) : Nat := 0xa0010 + 0x80 * g
def R.ST_STATUS_RUNNING (g : Nat) : FieldAt := ⟨A.ST_STATUS g, 31, 31⟩
def R.ST_STATUS_MTEST (g : Nat) : FieldAt := ⟨A.ST_STATUS g, 30, 30⟩
def R.ST_STATUS_STOP_CAUSE (g : Nat) : FieldAt := ⟨A.ST_STATUS g, 29, 27⟩
def R.ST_STATUS_IGNORED (g : Nat) : FieldAt := ⟨A.ST_STATUS g, 23, 16⟩
def R.ST_STATUS_PC (g : Nat) : FieldAt := ⟨A.ST_STATUS g, 7, 0⟩
def A.ST_START_LO (g : Nat) : Nat := 0xa0014 + 0x80 * g
def R.ST_START_LO_FRAME (g : Nat) : FieldAt := ⟨A.ST_START_LO g, 31, 0⟩
def A.ST_START_HI (g : Nat) : Nat := 0xa0018 + 0x80 * g
def R.ST_START_HI_FRAME (g : Nat) : FieldAt := ⟨A.ST_START_HI g, 31, 0⟩
def A.ST_START_OFS (g : Nat) : Nat := 0xa001c + 0x80 * g
def R.ST_START_OFS_POINT (g : Nat) : FieldAt := ⟨A.ST_START_OFS g, 5, 0⟩
def A.ST_OUT (g : Nat) : Nat := 0xa0020 + 0x80 * g
def R.ST_OUT_NATIVE (g : Nat) : FieldAt := ⟨A.ST_OUT g, 31, 16⟩
def R.ST_OUT_FRAME (g : Nat) : FieldAt := ⟨A.ST_OUT g, 15, 0⟩
def A.ST_COND0 (g q : Nat) : Nat := 0xa0040 + 0x80 * g + 8 * q
def R.ST_COND0_TYPE (g q : Nat) : FieldAt := ⟨A.ST_COND0 g q, 31, 30⟩
def R.ST_COND0_EDGE (g q : Nat) : FieldAt := ⟨A.ST_COND0 g q, 29, 29⟩
def R.ST_COND0_ARG (g q : Nat) : FieldAt := ⟨A.ST_COND0 g q, 15, 0⟩
def A.ST_COND1 (g q : Nat) : Nat := 0xa0044 + 0x80 * g + 8 * q
def R.ST_COND1_LT (g q : Nat) : FieldAt := ⟨A.ST_COND1 g q, 31, 31⟩
def R.ST_COND1_STATE (g q : Nat) : FieldAt := ⟨A.ST_COND1 g q, 30, 28⟩
def R.ST_COND1_THRESH (g q : Nat) : FieldAt := ⟨A.ST_COND1 g q, 23, 0⟩
def A.ST_PROG (g i : Nat) : Nat := 0xa1000 + 0x400 * g + 4 * i
def R.ST_PROG_WORD (g i : Nat) : FieldAt := ⟨A.ST_PROG g i, 31, 0⟩
def A.ST_WAVE (g i : Nat) : Nat := 0xa4000 + 0x800 * g + 4 * i
def R.ST_WAVE_ODD (g i : Nat) : FieldAt := ⟨A.ST_WAVE g i, 31, 16⟩
def R.ST_WAVE_EVEN (g i : Nat) : FieldAt := ⟨A.ST_WAVE g i, 15, 0⟩
def A.AUX_CFG (a : Nat) : Nat := 0xa0600 + 4 * a
def R.AUX_CFG_ENABLE (a : Nat) : FieldAt := ⟨A.AUX_CFG a, 31, 31⟩
def R.AUX_CFG_NATIVE (a : Nat) : FieldAt := ⟨A.AUX_CFG a, 30, 30⟩
def R.AUX_CFG_GEN (a : Nat) : FieldAt := ⟨A.AUX_CFG a, 2, 0⟩
def A.RSP_CTRL (k : Nat) : Nat := 0xa0400 + 0x20 * k
def R.RSP_CTRL_ENABLE (k : Nat) : FieldAt := ⟨A.RSP_CTRL k, 31, 31⟩
def R.RSP_CTRL_POLICY (k : Nat) : FieldAt := ⟨A.RSP_CTRL k, 30, 30⟩
def R.RSP_CTRL_PLANE (k : Nat) : FieldAt := ⟨A.RSP_CTRL k, 29, 29⟩
def R.RSP_CTRL_SIZE_LOG2 (k : Nat) : FieldAt := ⟨A.RSP_CTRL k, 28, 24⟩
def R.RSP_CTRL_OWNER (k : Nat) : FieldAt := ⟨A.RSP_CTRL k, 20, 16⟩
def R.RSP_CTRL_CONTEXT (k : Nat) : FieldAt := ⟨A.RSP_CTRL k, 15, 0⟩
def A.MT_CTRL : Nat := 0xa0500
def R.MT_CTRL_START : FieldAt := ⟨A.MT_CTRL, 31, 31⟩
def R.MT_CTRL_ABORT : FieldAt := ⟨A.MT_CTRL, 30, 30⟩
def R.MT_CTRL_TARGET : FieldAt := ⟨A.MT_CTRL, 29, 28⟩
def R.MT_CTRL_ALG : FieldAt := ⟨A.MT_CTRL, 27, 26⟩
def R.MT_CTRL_BG : FieldAt := ⟨A.MT_CTRL, 25, 24⟩
def R.MT_CTRL_GEN : FieldAt := ⟨A.MT_CTRL, 23, 21⟩
def R.MT_CTRL_BANK_PLANE : FieldAt := ⟨A.MT_CTRL, 20, 20⟩
def R.MT_CTRL_TILE : FieldAt := ⟨A.MT_CTRL, 19, 13⟩
def R.MT_CTRL_SIZE_LOG2 : FieldAt := ⟨A.MT_CTRL, 12, 8⟩
def A.MT_BASE : Nat := 0xa0514
def R.MT_BASE_BASE : FieldAt := ⟨A.MT_BASE, 21, 12⟩
def A.MT_STATUS : Nat := 0xa0504
def R.MT_STATUS_BUSY : FieldAt := ⟨A.MT_STATUS, 31, 31⟩
def R.MT_STATUS_DONE : FieldAt := ⟨A.MT_STATUS, 30, 30⟩
def R.MT_STATUS_PASS : FieldAt := ⟨A.MT_STATUS, 29, 29⟩
def R.MT_STATUS_ABORTED : FieldAt := ⟨A.MT_STATUS, 28, 28⟩
def R.MT_STATUS_REFUSED : FieldAt := ⟨A.MT_STATUS, 27, 27⟩
def R.MT_STATUS_CAUSE : FieldAt := ⟨A.MT_STATUS, 26, 24⟩
def R.MT_STATUS_ELEMENT : FieldAt := ⟨A.MT_STATUS, 23, 20⟩
def R.MT_STATUS_FAILS : FieldAt := ⟨A.MT_STATUS, 19, 0⟩
def A.MT_FAIL_ADDR : Nat := 0xa0508
def R.MT_FAIL_ADDR_ADDR : FieldAt := ⟨A.MT_FAIL_ADDR, 31, 0⟩
def A.MT_FAIL_BITS : Nat := 0xa050c
def R.MT_FAIL_BITS_DIFF : FieldAt := ⟨A.MT_FAIL_BITS, 31, 0⟩
/-! Registers of spec/08_actuator_outputs.md. -/

def A.TL_HTR_CFG (t c : Nat) : Nat := 0x101000 + 0x10000 * t + 4 * c
def R.TL_HTR_CFG_MODE (t c : Nat) : FieldAt := ⟨A.TL_HTR_CFG t c, 31, 31⟩
def R.TL_HTR_CFG_RANGE (t c : Nat) : FieldAt := ⟨A.TL_HTR_CFG t c, 30, 30⟩
def R.TL_HTR_CFG_ISET (t c : Nat) : FieldAt := ⟨A.TL_HTR_CFG t c, 29, 23⟩
def R.TL_HTR_CFG_TRIM (t c : Nat) : FieldAt := ⟨A.TL_HTR_CFG t c, 15, 10⟩
def A.TL_HTR_OUT (t c : Nat) : Nat := 0x101400 + 0x10000 * t + 4 * c
def R.TL_HTR_OUT_GUARD_HI (t c : Nat) : FieldAt := ⟨A.TL_HTR_OUT t c, 31, 31⟩
def R.TL_HTR_OUT_GUARD_LO (t c : Nat) : FieldAt := ⟨A.TL_HTR_OUT t c, 30, 30⟩
def R.TL_HTR_OUT_ICLIP (t c : Nat) : FieldAt := ⟨A.TL_HTR_OUT t c, 29, 29⟩
def R.TL_HTR_OUT_COMPLIANCE (t c : Nat) : FieldAt := ⟨A.TL_HTR_OUT t c, 28, 28⟩
def R.TL_HTR_OUT_SHORT (t c : Nat) : FieldAt := ⟨A.TL_HTR_OUT t c, 27, 27⟩
def R.TL_HTR_OUT_HEADROOM (t c : Nat) : FieldAt := ⟨A.TL_HTR_OUT t c, 26, 26⟩
def R.TL_HTR_OUT_HV_LOAD (t c : Nat) : FieldAt := ⟨A.TL_HTR_OUT t c, 25, 25⟩
def R.TL_HTR_OUT_PRIMER (t c : Nat) : FieldAt := ⟨A.TL_HTR_OUT t c, 24, 24⟩
def R.TL_HTR_OUT_WORD (t c : Nat) : FieldAt := ⟨A.TL_HTR_OUT t c, 19, 0⟩
def A.TL_HTR_OFF (t k : Nat) : Nat := 0x101800 + 0x10000 * t + 4 * k
def R.TL_HTR_OFF_LATCHED (t k : Nat) : FieldAt := ⟨A.TL_HTR_OFF t k, 31, 0⟩
def A.TL_FD_OFF (t k : Nat) : Nat := 0x101820 + 0x10000 * t + 4 * k
def R.TL_FD_OFF_LATCHED (t k : Nat) : FieldAt := ⟨A.TL_FD_OFF t k, 31, 0⟩
def A.TL_FD_CFG (t d : Nat) : Nat := 0x101c00 + 0x10000 * t + 4 * d
def R.TL_FD_CFG_TRANS (t d : Nat) : FieldAt := ⟨A.TL_FD_CFG t d, 31, 30⟩
def R.TL_FD_CFG_PE_AMP (t d : Nat) : FieldAt := ⟨A.TL_FD_CFG t d, 28, 24⟩
def R.TL_FD_CFG_PE_LEN (t d : Nat) : FieldAt := ⟨A.TL_FD_CFG t d, 20, 16⟩
def R.TL_FD_CFG_VCM_CODE (t d : Nat) : FieldAt := ⟨A.TL_FD_CFG t d, 15, 8⟩
def R.TL_FD_CFG_SEL (t d : Nat) : FieldAt := ⟨A.TL_FD_CFG t d, 0, 0⟩
def A.TL_FD_LEVEL (t d : Nat) : Nat := 0x101e00 + 0x10000 * t + 4 * d
def R.TL_FD_LEVEL_CROSS (t d : Nat) : FieldAt := ⟨A.TL_FD_LEVEL t d, 27, 16⟩
def R.TL_FD_LEVEL_BAR (t d : Nat) : FieldAt := ⟨A.TL_FD_LEVEL t d, 11, 0⟩
def A.TL_GUARD_HTR_A (t c : Nat) : Nat := 0x102000 + 0x10000 * t + 4 * c
def R.TL_GUARD_HTR_A_HI (t c : Nat) : FieldAt := ⟨A.TL_GUARD_HTR_A t c, 31, 16⟩
def R.TL_GUARD_HTR_A_LO (t c : Nat) : FieldAt := ⟨A.TL_GUARD_HTR_A t c, 15, 0⟩
def A.TL_GUARD_HTR_B (t c : Nat) : Nat := 0x102400 + 0x10000 * t + 4 * c
def R.TL_GUARD_HTR_B_SLEW_LOG2 (t c : Nat) : FieldAt := ⟨A.TL_GUARD_HTR_B t c, 31, 27⟩
def R.TL_GUARD_HTR_B_IMAX (t c : Nat) : FieldAt := ⟨A.TL_GUARD_HTR_B t c, 26, 19⟩
def R.TL_GUARD_HTR_B_PRATED (t c : Nat) : FieldAt := ⟨A.TL_GUARD_HTR_B t c, 11, 0⟩
def A.TL_GUARD_FD_A (t d : Nat) : Nat := 0x102800 + 0x10000 * t + 4 * d
def R.TL_GUARD_FD_A_LV_HI (t d : Nat) : FieldAt := ⟨A.TL_GUARD_FD_A t d, 27, 16⟩
def R.TL_GUARD_FD_A_LV_LO (t d : Nat) : FieldAt := ⟨A.TL_GUARD_FD_A t d, 11, 0⟩
def A.TL_GUARD_FD_B (t d : Nat) : Nat := 0x102a00 + 0x10000 * t + 4 * d
def R.TL_GUARD_FD_B_PE_MAX (t d : Nat) : FieldAt := ⟨A.TL_GUARD_FD_B t d, 12, 8⟩
def R.TL_GUARD_FD_B_LV_SLEW_LOG2 (t d : Nat) : FieldAt := ⟨A.TL_GUARD_FD_B t d, 3, 0⟩
def A.TL_GUARD_TILE (t : Nat) : Nat := 0x102c00 + 0x10000 * t
def R.TL_GUARD_TILE_TILE_CAP (t : Nat) : FieldAt := ⟨A.TL_GUARD_TILE t, 12, 0⟩
def A.TL_GUARD_STATUS (t : Nat) : Nat := 0x102c04 + 0x10000 * t
def R.TL_GUARD_STATUS_TILE_SCALED (t : Nat) : FieldAt := ⟨A.TL_GUARD_STATUS t, 31, 31⟩
def R.TL_GUARD_STATUS_DEV_SCALED (t : Nat) : FieldAt := ⟨A.TL_GUARD_STATUS t, 30, 30⟩
def R.TL_GUARD_STATUS_STARVED (t : Nat) : FieldAt := ⟨A.TL_GUARD_STATUS t, 29, 29⟩
def R.TL_GUARD_STATUS_PRIMER_FORCED (t : Nat) : FieldAt := ⟨A.TL_GUARD_STATUS t, 28, 28⟩
def R.TL_GUARD_STATUS_K_LAST (t : Nat) : FieldAt := ⟨A.TL_GUARD_STATUS t, 15, 0⟩
def A.TL_GUARD_EVENTS (t : Nat) : Nat := 0x102c08 + 0x10000 * t
def R.TL_GUARD_EVENTS_PE_CLIPS (t : Nat) : FieldAt := ⟨A.TL_GUARD_EVENTS t, 31, 24⟩
def R.TL_GUARD_EVENTS_SCALED (t : Nat) : FieldAt := ⟨A.TL_GUARD_EVENTS t, 23, 12⟩
def R.TL_GUARD_EVENTS_CLIPPED (t : Nat) : FieldAt := ⟨A.TL_GUARD_EVENTS t, 11, 0⟩
def A.TL_PRIMER_HTR (t c : Nat) : Nat := 0x103000 + 0x10000 * t + 4 * c
def R.TL_PRIMER_HTR_MODE (t c : Nat) : FieldAt := ⟨A.TL_PRIMER_HTR t c, 31, 31⟩
def R.TL_PRIMER_HTR_WORD (t c : Nat) : FieldAt := ⟨A.TL_PRIMER_HTR t c, 19, 0⟩
def A.TL_PRIMER_FD (t d : Nat) : Nat := 0x103400 + 0x10000 * t + 4 * d
def R.TL_PRIMER_FD_VCM_CODE (t d : Nat) : FieldAt := ⟨A.TL_PRIMER_FD t d, 19, 12⟩
def R.TL_PRIMER_FD_LEVEL (t d : Nat) : FieldAt := ⟨A.TL_PRIMER_FD t d, 11, 0⟩
def A.EG_DEV_CAP : Nat := 0x400
def R.EG_DEV_CAP_DEV_CAP : FieldAt := ⟨A.EG_DEV_CAP, 14, 0⟩
def A.EG_DEV_STATUS : Nat := 0x404
def R.EG_DEV_STATUS_SCALED : FieldAt := ⟨A.EG_DEV_STATUS, 31, 31⟩
def R.EG_DEV_STATUS_TOTAL : FieldAt := ⟨A.EG_DEV_STATUS, 30, 16⟩
def R.EG_DEV_STATUS_K_DEV : FieldAt := ⟨A.EG_DEV_STATUS, 15, 0⟩
/-! Registers of spec/09_calibration.md. -/

def A.TL_CAL_CTRL (t : Nat) : Nat := 0x106000 + 0x10000 * t
def R.TL_CAL_CTRL_REQ (t : Nat) : FieldAt := ⟨A.TL_CAL_CTRL t, 31, 31⟩
def R.TL_CAL_CTRL_BUSY (t : Nat) : FieldAt := ⟨A.TL_CAL_CTRL t, 30, 30⟩
def R.TL_CAL_CTRL_PENDING (t : Nat) : FieldAt := ⟨A.TL_CAL_CTRL t, 29, 29⟩
def R.TL_CAL_CTRL_TIA_REQ (t : Nat) : FieldAt := ⟨A.TL_CAL_CTRL t, 28, 28⟩
def R.TL_CAL_CTRL_OVERRIDDEN (t : Nat) : FieldAt := ⟨A.TL_CAL_CTRL t, 23, 16⟩
def R.TL_CAL_CTRL_GEN (t : Nat) : FieldAt := ⟨A.TL_CAL_CTRL t, 15, 0⟩
def A.TL_CAL_STATUS (t : Nat) : Nat := 0x106004 + 0x10000 * t
def R.TL_CAL_STATUS_ABORTED (t : Nat) : FieldAt := ⟨A.TL_CAL_STATUS t, 31, 31⟩
def R.TL_CAL_STATUS_FAILED (t : Nat) : FieldAt := ⟨A.TL_CAL_STATUS t, 30, 30⟩
def R.TL_CAL_STATUS_T_LAST (t : Nat) : FieldAt := ⟨A.TL_CAL_STATUS t, 29, 20⟩
def R.TL_CAL_STATUS_SKIPPED (t : Nat) : FieldAt := ⟨A.TL_CAL_STATUS t, 15, 8⟩
def R.TL_CAL_STATUS_FAILS (t : Nat) : FieldAt := ⟨A.TL_CAL_STATUS t, 7, 0⟩
def A.TL_CAL_REF (t : Nat) : Nat := 0x106008 + 0x10000 * t
def R.TL_CAL_REF_FAIL (t : Nat) : FieldAt := ⟨A.TL_CAL_REF t, 31, 31⟩
def R.TL_CAL_REF_MEAS (t : Nat) : FieldAt := ⟨A.TL_CAL_REF t, 30, 30⟩
def R.TL_CAL_REF_DL_TRIM (t : Nat) : FieldAt := ⟨A.TL_CAL_REF t, 29, 24⟩
def R.TL_CAL_REF_BG_TRIM (t : Nat) : FieldAt := ⟨A.TL_CAL_REF t, 7, 0⟩
def A.TL_CAL_HV (t : Nat) : Nat := 0x10600c + 0x10000 * t
def R.TL_CAL_HV_FAIL (t : Nat) : FieldAt := ⟨A.TL_CAL_HV t, 31, 31⟩
def R.TL_CAL_HV_MEAS (t : Nat) : FieldAt := ⟨A.TL_CAL_HV t, 30, 30⟩
def R.TL_CAL_HV_GAIN (t : Nat) : FieldAt := ⟨A.TL_CAL_HV t, 25, 16⟩
def R.TL_CAL_HV_OFS (t : Nat) : FieldAt := ⟨A.TL_CAL_HV t, 7, 0⟩
def A.TL_CAL_SLICE (t j : Nat) : Nat := 0x106100 + 0x10000 * t + 4 * j
def R.TL_CAL_SLICE_FAIL (t j : Nat) : FieldAt := ⟨A.TL_CAL_SLICE t j, 31, 31⟩
def R.TL_CAL_SLICE_MEAS (t j : Nat) : FieldAt := ⟨A.TL_CAL_SLICE t j, 30, 30⟩
def R.TL_CAL_SLICE_GAIN (t j : Nat) : FieldAt := ⟨A.TL_CAL_SLICE t j, 25, 16⟩
def R.TL_CAL_SLICE_OFS (t j : Nat) : FieldAt := ⟨A.TL_CAL_SLICE t j, 7, 0⟩
def A.TL_CAL_TIA (t j : Nat) : Nat := 0x106200 + 0x10000 * t + 4 * j
def R.TL_CAL_TIA_PED3 (t j : Nat) : FieldAt := ⟨A.TL_CAL_TIA t j, 31, 25⟩
def R.TL_CAL_TIA_PED2 (t j : Nat) : FieldAt := ⟨A.TL_CAL_TIA t j, 24, 18⟩
def R.TL_CAL_TIA_PED1 (t j : Nat) : FieldAt := ⟨A.TL_CAL_TIA t j, 17, 11⟩
def R.TL_CAL_TIA_PED0 (t j : Nat) : FieldAt := ⟨A.TL_CAL_TIA t j, 10, 4⟩
def R.TL_CAL_TIA_FAIL (t j : Nat) : FieldAt := ⟨A.TL_CAL_TIA t j, 3, 3⟩
def R.TL_CAL_TIA_MEAS (t j : Nat) : FieldAt := ⟨A.TL_CAL_TIA t j, 2, 2⟩
def A.TL_CAL_HTR (t c : Nat) : Nat := 0x106400 + 0x10000 * t + 4 * c
def R.TL_CAL_HTR_MEAS (t c : Nat) : FieldAt := ⟨A.TL_CAL_HTR t c, 31, 31⟩
def R.TL_CAL_HTR_FAIL (t c : Nat) : FieldAt := ⟨A.TL_CAL_HTR t c, 30, 30⟩
def R.TL_CAL_HTR_SKIP (t c : Nat) : FieldAt := ⟨A.TL_CAL_HTR t c, 29, 29⟩
def R.TL_CAL_HTR_PRATED_LOW (t c : Nat) : FieldAt := ⟨A.TL_CAL_HTR t c, 28, 28⟩
def R.TL_CAL_HTR_TRIM (t c : Nat) : FieldAt := ⟨A.TL_CAL_HTR t c, 27, 22⟩
def R.TL_CAL_HTR_HV_OFS (t c : Nat) : FieldAt := ⟨A.TL_CAL_HTR t c, 21, 16⟩
def R.TL_CAL_HTR_PFULL (t c : Nat) : FieldAt := ⟨A.TL_CAL_HTR t c, 15, 0⟩
def A.CAL_CTRL : Nat := 0x500
def R.CAL_CTRL_ALL : FieldAt := ⟨A.CAL_CTRL, 31, 31⟩
def R.CAL_CTRL_AUTO : FieldAt := ⟨A.CAL_CTRL, 30, 30⟩
def R.CAL_CTRL_USE_REFIN : FieldAt := ⟨A.CAL_CTRL, 29, 29⟩
def R.CAL_CTRL_DT_CAL : FieldAt := ⟨A.CAL_CTRL, 7, 0⟩
def A.CAL_STATUS : Nat := 0x504
def R.CAL_STATUS_REFIN_OK : FieldAt := ⟨A.CAL_STATUS, 31, 31⟩
def R.CAL_STATUS_REXT_OK : FieldAt := ⟨A.CAL_STATUS, 30, 30⟩
def R.CAL_STATUS_HKA_T_LAST : FieldAt := ⟨A.CAL_STATUS, 25, 16⟩
def A.HKA_CAL : Nat := 0x90020
def R.HKA_CAL_FAIL : FieldAt := ⟨A.HKA_CAL, 31, 31⟩
def R.HKA_CAL_MEAS : FieldAt := ⟨A.HKA_CAL, 30, 30⟩
def R.HKA_CAL_GEN : FieldAt := ⟨A.HKA_CAL, 29, 26⟩
def R.HKA_CAL_GAIN : FieldAt := ⟨A.HKA_CAL, 25, 16⟩
def R.HKA_CAL_OFS : FieldAt := ⟨A.HKA_CAL, 7, 0⟩
def A.SV_CTRL : Nat := 0x540
def R.SV_CTRL_START : FieldAt := ⟨A.SV_CTRL, 31, 31⟩
def R.SV_CTRL_ABORT : FieldAt := ⟨A.SV_CTRL, 30, 30⟩
def R.SV_CTRL_KIND : FieldAt := ⟨A.SV_CTRL, 29, 28⟩
def R.SV_CTRL_BAR_IS_MAX : FieldAt := ⟨A.SV_CTRL, 27, 27⟩
def R.SV_CTRL_SEED : FieldAt := ⟨A.SV_CTRL, 26, 26⟩
def R.SV_CTRL_GEN : FieldAt := ⟨A.SV_CTRL, 25, 23⟩
def R.SV_CTRL_SETTLE : FieldAt := ⟨A.SV_CTRL, 22, 19⟩
def R.SV_CTRL_POINTS : FieldAt := ⟨A.SV_CTRL, 10, 0⟩
def A.SV_LIST : Nat := 0x544
def R.SV_LIST_COUNT : FieldAt := ⟨A.SV_LIST, 27, 16⟩
def R.SV_LIST_BASE : FieldAt := ⟨A.SV_LIST, 13, 0⟩
def A.SV_OUT : Nat := 0x548
def R.SV_OUT_SIZE_LOG2 : FieldAt := ⟨A.SV_OUT, 26, 22⟩
def R.SV_OUT_BASE : FieldAt := ⟨A.SV_OUT, 21, 12⟩
def A.SV_STATUS : Nat := 0x54c
def R.SV_STATUS_BUSY : FieldAt := ⟨A.SV_STATUS, 31, 31⟩
def R.SV_STATUS_DONE : FieldAt := ⟨A.SV_STATUS, 30, 30⟩
def R.SV_STATUS_ABORTED : FieldAt := ⟨A.SV_STATUS, 29, 29⟩
def R.SV_STATUS_REFUSED : FieldAt := ⟨A.SV_STATUS, 28, 28⟩
def R.SV_STATUS_CAUSE : FieldAt := ⟨A.SV_STATUS, 27, 25⟩
def R.SV_STATUS_SEEDED : FieldAt := ⟨A.SV_STATUS, 23, 12⟩
def R.SV_STATUS_POINT : FieldAt := ⟨A.SV_STATUS, 11, 0⟩
/-! Registers of spec/10_kolrok_protocol.md. -/

def A.LK_CFG (l : Nat) : Nat := 0x20000 + 4 * l
def R.LK_CFG_ENABLE (l : Nat) : FieldAt := ⟨A.LK_CFG l, 31, 31⟩
def R.LK_CFG_RATE (l : Nat) : FieldAt := ⟨A.LK_CFG l, 30, 30⟩
def R.LK_CFG_RS_FEC (l : Nat) : FieldAt := ⟨A.LK_CFG l, 29, 29⟩
def R.LK_CFG_ENCAP (l : Nat) : FieldAt := ⟨A.LK_CFG l, 28, 28⟩
def R.LK_CFG_TAGGED (l : Nat) : FieldAt := ⟨A.LK_CFG l, 27, 27⟩
def R.LK_CFG_PCP (l : Nat) : FieldAt := ⟨A.LK_CFG l, 23, 21⟩
def R.LK_CFG_VID (l : Nat) : FieldAt := ⟨A.LK_CFG l, 11, 0⟩
def A.LK_STATUS (l : Nat) : Nat := 0x20020 + 4 * l
def R.LK_STATUS_LINK_UP (l : Nat) : FieldAt := ⟨A.LK_STATUS l, 31, 31⟩
def R.LK_STATUS_BLOCK_LOCK (l : Nat) : FieldAt := ⟨A.LK_STATUS l, 30, 30⟩
def R.LK_STATUS_FEC_LOCK (l : Nat) : FieldAt := ⟨A.LK_STATUS l, 29, 29⟩
def R.LK_STATUS_HI_BER (l : Nat) : FieldAt := ⟨A.LK_STATUS l, 28, 28⟩
def R.LK_STATUS_POWERED (l : Nat) : FieldAt := ⟨A.LK_STATUS l, 27, 27⟩
def R.LK_STATUS_CARRYING (l : Nat) : FieldAt := ⟨A.LK_STATUS l, 26, 26⟩
def A.LK_DROP (l : Nat) : Nat := 0x20040 + 4 * l
def R.LK_DROP_FORMAT (l : Nat) : FieldAt := ⟨A.LK_DROP l, 31, 24⟩
def R.LK_DROP_BIND (l : Nat) : FieldAt := ⟨A.LK_DROP l, 23, 16⟩
def R.LK_DROP_AUTH (l : Nat) : FieldAt := ⟨A.LK_DROP l, 15, 8⟩
def R.LK_DROP_SEQ (l : Nat) : FieldAt := ⟨A.LK_DROP l, 7, 0⟩
def A.LK_FRAMES (l : Nat) : Nat := 0x20060 + 4 * l
def R.LK_FRAMES_RX (l : Nat) : FieldAt := ⟨A.LK_FRAMES l, 31, 16⟩
def R.LK_FRAMES_TX (l : Nat) : FieldAt := ⟨A.LK_FRAMES l, 15, 0⟩
def A.LK_DUP (l : Nat) : Nat := 0x20080 + 4 * l
def R.LK_DUP_TXDROP (l : Nat) : FieldAt := ⟨A.LK_DUP l, 31, 16⟩
def R.LK_DUP_DUP (l : Nat) : FieldAt := ⟨A.LK_DUP l, 15, 0⟩
def A.LK_IPV4 (l : Nat) : Nat := 0x200a0 + 4 * l
def R.LK_IPV4_ADDR (l : Nat) : FieldAt := ⟨A.LK_IPV4 l, 31, 0⟩
def A.LK_MAC_LO : Nat := 0x200c0
def R.LK_MAC_LO_MAC : FieldAt := ⟨A.LK_MAC_LO, 31, 0⟩
def A.LK_MAC_HI : Nat := 0x200c4
def R.LK_MAC_HI_MAC : FieldAt := ⟨A.LK_MAC_HI, 15, 0⟩
def A.LK_PROTO : Nat := 0x200c8
def R.LK_PROTO_ETHERTYPE : FieldAt := ⟨A.LK_PROTO, 31, 16⟩
def R.LK_PROTO_UDP_PORT : FieldAt := ⟨A.LK_PROTO, 15, 0⟩
def A.LK_SESSION : Nat := 0x200cc
def R.LK_SESSION_SESSION : FieldAt := ⟨A.LK_SESSION, 31, 0⟩
def A.LK_BIND (p : Nat) : Nat := 0x20100 + 4 * p
def R.LK_BIND_A_VALID (p : Nat) : FieldAt := ⟨A.LK_BIND p, 31, 31⟩
def R.LK_BIND_LANE_A (p : Nat) : FieldAt := ⟨A.LK_BIND p, 30, 28⟩
def R.LK_BIND_B_VALID (p : Nat) : FieldAt := ⟨A.LK_BIND p, 27, 27⟩
def R.LK_BIND_LANE_B (p : Nat) : FieldAt := ⟨A.LK_BIND p, 26, 24⟩
def A.LK_SEQ_RX_LO (p : Nat) : Nat := 0x20200 + 8 * p
def R.LK_SEQ_RX_LO_SEQ (p : Nat) : FieldAt := ⟨A.LK_SEQ_RX_LO p, 31, 0⟩
def A.LK_SEQ_RX_HI (p : Nat) : Nat := 0x20204 + 8 * p
def R.LK_SEQ_RX_HI_SEQ (p : Nat) : FieldAt := ⟨A.LK_SEQ_RX_HI p, 15, 0⟩
def A.LK_SEQ_TX_LO (p : Nat) : Nat := 0x20300 + 8 * p
def R.LK_SEQ_TX_LO_SEQ (p : Nat) : FieldAt := ⟨A.LK_SEQ_TX_LO p, 31, 0⟩
def A.LK_SEQ_TX_HI (p : Nat) : Nat := 0x20304 + 8 * p
def R.LK_SEQ_TX_HI_SEQ (p : Nat) : FieldAt := ⟨A.LK_SEQ_TX_HI p, 15, 0⟩
def A.LK_TXWIN (l w : Nat) : Nat := 0x20400 + 0x40 * l + 4 * w
def R.LK_TXWIN_VALID (l w : Nat) : FieldAt := ⟨A.LK_TXWIN l w, 31, 31⟩
def R.LK_TXWIN_PRINCIPAL (l w : Nat) : FieldAt := ⟨A.LK_TXWIN l w, 30, 26⟩
def R.LK_TXWIN_START (l w : Nat) : FieldAt := ⟨A.LK_TXWIN l w, 25, 13⟩
def R.LK_TXWIN_LENGTH (l w : Nat) : FieldAt := ⟨A.LK_TXWIN l w, 12, 0⟩
/-! Registers of spec/11_command_scheduling.md. -/

def A.SCH_CTRL : Nat := 0x40000
def R.SCH_CTRL_OWNER_WEIGHT : FieldAt := ⟨A.SCH_CTRL, 31, 24⟩
def R.SCH_CTRL_YELLOW_HOLD : FieldAt := ⟨A.SCH_CTRL, 23, 16⟩
def R.SCH_CTRL_SLOT_COST : FieldAt := ⟨A.SCH_CTRL, 7, 0⟩
def A.SCH_STATUS : Nat := 0x40004
def R.SCH_STATUS_TH_WAITING : FieldAt := ⟨A.SCH_STATUS, 31, 16⟩
def R.SCH_STATUS_OWNER_DEPTH : FieldAt := ⟨A.SCH_STATUS, 8, 0⟩
def A.SCH_EVENTS : Nat := 0x40008
def R.SCH_EVENTS_RED : FieldAt := ⟨A.SCH_EVENTS, 31, 24⟩
def R.SCH_EVENTS_YELLOW_EXPIRED : FieldAt := ⟨A.SCH_EVENTS, 23, 16⟩
def R.SCH_EVENTS_QUEUE_FULL : FieldAt := ⟨A.SCH_EVENTS, 15, 8⟩
def R.SCH_EVENTS_THROTTLED : FieldAt := ⟨A.SCH_EVENTS, 7, 0⟩
def A.SCH_EVENTS2 : Nat := 0x4000c
def R.SCH_EVENTS2_CLAMPED : FieldAt := ⟨A.SCH_EVENTS2, 31, 24⟩
def R.SCH_EVENTS2_SEALED_LATE : FieldAt := ⟨A.SCH_EVENTS2, 23, 16⟩
def A.SCH_QCFG (t : Nat) : Nat := 0x40100 + 4 * t
def R.SCH_QCFG_W_CTRL (t : Nat) : FieldAt := ⟨A.SCH_QCFG t, 31, 24⟩
def R.SCH_QCFG_W_BULK (t : Nat) : FieldAt := ⟨A.SCH_QCFG t, 23, 16⟩
def R.SCH_QCFG_DEPTH_CTRL (t : Nat) : FieldAt := ⟨A.SCH_QCFG t, 15, 8⟩
def R.SCH_QCFG_DEPTH_BULK (t : Nat) : FieldAt := ⟨A.SCH_QCFG t, 7, 0⟩
def A.SCH_QSTAT (t : Nat) : Nat := 0x40140 + 4 * t
def R.SCH_QSTAT_COLOUR_CTRL (t : Nat) : FieldAt := ⟨A.SCH_QSTAT t, 31, 30⟩
def R.SCH_QSTAT_COLOUR_BULK (t : Nat) : FieldAt := ⟨A.SCH_QSTAT t, 29, 28⟩
def R.SCH_QSTAT_DEPTH_C (t : Nat) : FieldAt := ⟨A.SCH_QSTAT t, 13, 7⟩
def R.SCH_QSTAT_DEPTH_B (t : Nat) : FieldAt := ⟨A.SCH_QSTAT t, 6, 0⟩
def A.SCH_METER_RATE (t c : Nat) : Nat := 0x40200 + 0x20 * t + 0x10 * c
def R.SCH_METER_RATE_PIR (t c : Nat) : FieldAt := ⟨A.SCH_METER_RATE t c, 31, 16⟩
def R.SCH_METER_RATE_CIR (t c : Nat) : FieldAt := ⟨A.SCH_METER_RATE t c, 15, 0⟩
def A.SCH_METER_BURST (t c : Nat) : Nat := 0x40204 + 0x20 * t + 0x10 * c
def R.SCH_METER_BURST_PBS (t c : Nat) : FieldAt := ⟨A.SCH_METER_BURST t c, 31, 16⟩
def R.SCH_METER_BURST_CBS (t c : Nat) : FieldAt := ⟨A.SCH_METER_BURST t c, 15, 0⟩
def A.SCH_METER_TC (t c : Nat) : Nat := 0x40208 + 0x20 * t + 0x10 * c
def R.SCH_METER_TC_TOKENS (t c : Nat) : FieldAt := ⟨A.SCH_METER_TC t c, 31, 0⟩
def A.SCH_METER_TP (t c : Nat) : Nat := 0x4020c + 0x20 * t + 0x10 * c
def R.SCH_METER_TP_TOKENS (t c : Nat) : FieldAt := ⟨A.SCH_METER_TP t c, 31, 0⟩
def A.SCH_TH_CFG (b : Nat) : Nat := 0x40800 + 0x10 * b
def R.SCH_TH_CFG_RATE (b : Nat) : FieldAt := ⟨A.SCH_TH_CFG b, 31, 16⟩
def R.SCH_TH_CFG_BURST (b : Nat) : FieldAt := ⟨A.SCH_TH_CFG b, 15, 0⟩
def A.SCH_TH_DEBT (b : Nat) : Nat := 0x40804 + 0x10 * b
def R.SCH_TH_DEBT_DEBT_MAX (b : Nat) : FieldAt := ⟨A.SCH_TH_DEBT b, 15, 0⟩
def A.SCH_TH_TOKENS (b : Nat) : Nat := 0x40808 + 0x10 * b
def R.SCH_TH_TOKENS_TOKENS (b : Nat) : FieldAt := ⟨A.SCH_TH_TOKENS b, 31, 0⟩
def A.SCH_TH_STAT (b : Nat) : Nat := 0x4080c + 0x10 * b
def R.SCH_TH_STAT_WAITING (b : Nat) : FieldAt := ⟨A.SCH_TH_STAT b, 31, 31⟩
def R.SCH_TH_STAT_RESERVED_BY (b : Nat) : FieldAt := ⟨A.SCH_TH_STAT b, 30, 30⟩
def A.SCH_HIST (q k : Nat) : Nat := 0x42000 + 0x100 * q + 4 * k
def R.SCH_HIST_DELAY (q k : Nat) : FieldAt := ⟨A.SCH_HIST q k, 31, 16⟩
def R.SCH_HIST_DEPTH (q k : Nat) : FieldAt := ⟨A.SCH_HIST q k, 15, 0⟩
def A.SCH_HIST_MAX (q : Nat) : Nat := 0x42040 + 0x100 * q
def R.SCH_HIST_MAX_DELAY_MAX (q : Nat) : FieldAt := ⟨A.SCH_HIST_MAX q, 31, 16⟩
def R.SCH_HIST_MAX_DEPTH_MAX (q : Nat) : FieldAt := ⟨A.SCH_HIST_MAX q, 15, 0⟩
/-! Registers of spec/12_fabric_time.md. -/

def A.FT_CTRL : Nat := 0x30000
def R.FT_CTRL_SEL : FieldAt := ⟨A.FT_CTRL, 31, 31⟩
def R.FT_CTRL_AUTO_SWITCH : FieldAt := ⟨A.FT_CTRL, 30, 30⟩
def R.FT_CTRL_ALIGN : FieldAt := ⟨A.FT_CTRL, 29, 29⟩
def R.FT_CTRL_CAPTURE : FieldAt := ⟨A.FT_CTRL, 28, 28⟩
def R.FT_CTRL_SLEW_PPB : FieldAt := ⟨A.FT_CTRL, 15, 0⟩
def A.FT_STATUS : Nat := 0x30004
def R.FT_STATUS_FCLK_LOCK : FieldAt := ⟨A.FT_STATUS, 31, 31⟩
def R.FT_STATUS_SLEWING : FieldAt := ⟨A.FT_STATUS, 30, 30⟩
def R.FT_STATUS_ALIGNING : FieldAt := ⟨A.FT_STATUS, 29, 29⟩
def R.FT_STATUS_MASTER_RING : FieldAt := ⟨A.FT_STATUS, 28, 28⟩
def R.FT_STATUS_VALID1 : FieldAt := ⟨A.FT_STATUS, 23, 23⟩
def R.FT_STATUS_HOLDOVER1 : FieldAt := ⟨A.FT_STATUS, 22, 22⟩
def R.FT_STATUS_RING_LOCK1 : FieldAt := ⟨A.FT_STATUS, 21, 21⟩
def R.FT_STATUS_VALID0 : FieldAt := ⟨A.FT_STATUS, 19, 19⟩
def R.FT_STATUS_HOLDOVER0 : FieldAt := ⟨A.FT_STATUS, 18, 18⟩
def R.FT_STATUS_RING_LOCK0 : FieldAt := ⟨A.FT_STATUS, 17, 17⟩
def R.FT_STATUS_RING_PORT : FieldAt := ⟨A.FT_STATUS, 1, 1⟩
def A.FT_EVENTS : Nat := 0x30008
def R.FT_EVENTS_SWITCHES : FieldAt := ⟨A.FT_EVENTS, 31, 24⟩
def R.FT_EVENTS_HOLDOVERS : FieldAt := ⟨A.FT_EVENTS, 23, 16⟩
def R.FT_EVENTS_ALIGNMENTS : FieldAt := ⟨A.FT_EVENTS, 15, 8⟩
def R.FT_EVENTS_PHASE_LOSS : FieldAt := ⟨A.FT_EVENTS, 7, 0⟩
def A.FT_PHASE : Nat := 0x3000c
def R.FT_PHASE_PHI : FieldAt := ⟨A.FT_PHASE, 31, 0⟩
def A.FT_TD_CFG (d : Nat) : Nat := 0x30100 + 0x40 * d
def R.FT_TD_CFG_SOURCE (d : Nat) : FieldAt := ⟨A.FT_TD_CFG d, 31, 31⟩
def R.FT_TD_CFG_HOLDOVER_TIMEOUT (d : Nat) : FieldAt := ⟨A.FT_TD_CFG d, 15, 0⟩
def A.FT_TD_INCR_LO (d : Nat) : Nat := 0x30104 + 0x40 * d
def R.FT_TD_INCR_LO_INCR (d : Nat) : FieldAt := ⟨A.FT_TD_INCR_LO d, 31, 0⟩
def A.FT_TD_INCR_HI (d : Nat) : Nat := 0x30108 + 0x40 * d
def R.FT_TD_INCR_HI_INCR (d : Nat) : FieldAt := ⟨A.FT_TD_INCR_HI d, 31, 0⟩
def A.FT_TD_SET_SEC_HI (d : Nat) : Nat := 0x3010c + 0x40 * d
def R.FT_TD_SET_SEC_HI_SEC (d : Nat) : FieldAt := ⟨A.FT_TD_SET_SEC_HI d, 15, 0⟩
def A.FT_TD_SET_SEC_LO (d : Nat) : Nat := 0x30110 + 0x40 * d
def R.FT_TD_SET_SEC_LO_SEC (d : Nat) : FieldAt := ⟨A.FT_TD_SET_SEC_LO d, 31, 0⟩
def A.FT_TD_SET_NS (d : Nat) : Nat := 0x30114 + 0x40 * d
def R.FT_TD_SET_NS_NS (d : Nat) : FieldAt := ⟨A.FT_TD_SET_NS d, 31, 0⟩
def A.FT_TD_ADJ (d : Nat) : Nat := 0x30118 + 0x40 * d
def R.FT_TD_ADJ_NS (d : Nat) : FieldAt := ⟨A.FT_TD_ADJ d, 31, 0⟩
def A.FT_CAP_SEC_HI (k : Nat) : Nat := 0x30200 + 0x10 * k
def R.FT_CAP_SEC_HI_SEC (k : Nat) : FieldAt := ⟨A.FT_CAP_SEC_HI k, 15, 0⟩
def A.FT_CAP_SEC_LO (k : Nat) : Nat := 0x30204 + 0x10 * k
def R.FT_CAP_SEC_LO_SEC (k : Nat) : FieldAt := ⟨A.FT_CAP_SEC_LO k, 31, 0⟩
def A.FT_CAP_NS (k : Nat) : Nat := 0x30208 + 0x10 * k
def R.FT_CAP_NS_NS (k : Nat) : FieldAt := ⟨A.FT_CAP_NS k, 31, 0⟩
def A.FT_CAP_FRAC (k : Nat) : Nat := 0x3020c + 0x10 * k
def R.FT_CAP_FRAC_FRAC (k : Nat) : FieldAt := ⟨A.FT_CAP_FRAC k, 31, 0⟩
def A.FT_CAP_FRAME_LO : Nat := 0x30230
def R.FT_CAP_FRAME_LO_FRAME : FieldAt := ⟨A.FT_CAP_FRAME_LO, 31, 0⟩
def A.FT_CAP_FRAME_HI : Nat := 0x30234
def R.FT_CAP_FRAME_HI_FRAME : FieldAt := ⟨A.FT_CAP_FRAME_HI, 31, 0⟩
def A.FT_PPS_CFG : Nat := 0x30300
def R.FT_PPS_CFG_OUT_EN : FieldAt := ⟨A.FT_PPS_CFG, 31, 31⟩
def R.FT_PPS_CFG_OUT_SCALE : FieldAt := ⟨A.FT_PPS_CFG, 30, 29⟩
def R.FT_PPS_CFG_OUT_WIDTH : FieldAt := ⟨A.FT_PPS_CFG, 7, 0⟩
def A.FT_PPS_OFFSET : Nat := 0x30304
def R.FT_PPS_OFFSET_OUT_OFFSET : FieldAt := ⟨A.FT_PPS_OFFSET, 31, 0⟩
def A.FT_TS_CFG (s : Nat) : Nat := 0x30400 + 4 * s
def R.FT_TS_CFG_SCALE (s : Nat) : FieldAt := ⟨A.FT_TS_CFG s, 31, 30⟩
def R.FT_TS_CFG_INBAND (s : Nat) : FieldAt := ⟨A.FT_TS_CFG s, 29, 29⟩
def R.FT_TS_CFG_RX_PTP (s : Nat) : FieldAt := ⟨A.FT_TS_CFG s, 3, 3⟩
def R.FT_TS_CFG_TX_KOLROK (s : Nat) : FieldAt := ⟨A.FT_TS_CFG s, 2, 2⟩
def R.FT_TS_CFG_RX_KOLROK (s : Nat) : FieldAt := ⟨A.FT_TS_CFG s, 1, 1⟩
def R.FT_TS_CFG_ENABLE (s : Nat) : FieldAt := ⟨A.FT_TS_CFG s, 0, 0⟩
def A.FT_TS_STATUS (s : Nat) : Nat := 0x30440 + 4 * s
def R.FT_TS_STATUS_LEVEL (s : Nat) : FieldAt := ⟨A.FT_TS_STATUS s, 22, 16⟩
def R.FT_TS_STATUS_LOST (s : Nat) : FieldAt := ⟨A.FT_TS_STATUS s, 15, 0⟩
def A.FT_TS_POP (s k : Nat) : Nat := 0x30500 + 0x20 * s + 4 * k
def R.FT_TS_POP_WORD (s k : Nat) : FieldAt := ⟨A.FT_TS_POP s k, 31, 0⟩
def A.FT_RING_DELAY (p : Nat) : Nat := 0x30700 + 4 * p
def R.FT_RING_DELAY_LINK_DOWN (p : Nat) : FieldAt := ⟨A.FT_RING_DELAY p, 31, 31⟩
def R.FT_RING_DELAY_D (p : Nat) : FieldAt := ⟨A.FT_RING_DELAY p, 30, 0⟩
def A.FT_RING_ASYM (p : Nat) : Nat := 0x30708 + 4 * p
def R.FT_RING_ASYM_ASYM (p : Nat) : FieldAt := ⟨A.FT_RING_ASYM p, 31, 0⟩
/-! Registers of spec/13_tenancy_secrecy.md. -/

def A.PR_STATUS : Nat := 0xb0000
def R.PR_STATUS_ARMED : FieldAt := ⟨A.PR_STATUS, 31, 31⟩
def R.PR_STATUS_COMMITTED : FieldAt := ⟨A.PR_STATUS, 30, 30⟩
def R.PR_STATUS_TARGETS : FieldAt := ⟨A.PR_STATUS, 28, 24⟩
def R.PR_STATUS_FW_REFUSED : FieldAt := ⟨A.PR_STATUS, 23, 16⟩
def R.PR_STATUS_ARM_ID : FieldAt := ⟨A.PR_STATUS, 15, 0⟩
def A.PR_LOCK : Nat := 0xb0004
def R.PR_LOCK_LOCK : FieldAt := ⟨A.PR_LOCK, 10, 0⟩
def A.PR_OWNER : Nat := 0xb0008
def R.PR_OWNER_A_VALID : FieldAt := ⟨A.PR_OWNER, 31, 31⟩
def R.PR_OWNER_LANE_A : FieldAt := ⟨A.PR_OWNER, 30, 28⟩
def R.PR_OWNER_B_VALID : FieldAt := ⟨A.PR_OWNER, 27, 27⟩
def R.PR_OWNER_LANE_B : FieldAt := ⟨A.PR_OWNER, 26, 24⟩
def R.PR_OWNER_SB_TRUSTED : FieldAt := ⟨A.PR_OWNER, 0, 0⟩
def A.PR_EPOCH (p : Nat) : Nat := 0xb0100 + 4 * p
def R.PR_EPOCH_EPOCH (p : Nat) : FieldAt := ⟨A.PR_EPOCH p, 31, 0⟩
def A.PR_TEN_CFG (t : Nat) : Nat := 0xb0200 + 4 * t
def R.PR_TEN_CFG_A_VALID (t : Nat) : FieldAt := ⟨A.PR_TEN_CFG t, 31, 31⟩
def R.PR_TEN_CFG_LANE_A (t : Nat) : FieldAt := ⟨A.PR_TEN_CFG t, 30, 28⟩
def R.PR_TEN_CFG_B_VALID (t : Nat) : FieldAt := ⟨A.PR_TEN_CFG t, 27, 27⟩
def R.PR_TEN_CFG_LANE_B (t : Nat) : FieldAt := ⟨A.PR_TEN_CFG t, 26, 24⟩
def R.PR_TEN_CFG_ENABLE (t : Nat) : FieldAt := ⟨A.PR_TEN_CFG t, 23, 23⟩
def R.PR_TEN_CFG_TIMING (t : Nat) : FieldAt := ⟨A.PR_TEN_CFG t, 4, 4⟩
def R.PR_TEN_CFG_ATTEST (t : Nat) : FieldAt := ⟨A.PR_TEN_CFG t, 3, 3⟩
def R.PR_TEN_CFG_CAPTURE (t : Nat) : FieldAt := ⟨A.PR_TEN_CFG t, 2, 2⟩
def R.PR_TEN_CFG_CTX_STATE (t : Nat) : FieldAt := ⟨A.PR_TEN_CFG t, 1, 1⟩
def R.PR_TEN_CFG_CTX_WRITE (t : Nat) : FieldAt := ⟨A.PR_TEN_CFG t, 0, 0⟩
def A.PR_TEN_IN (t k : Nat) : Nat := 0xb1000 + 0x100 * t + 4 * k
def R.PR_TEN_IN_PORTS (t k : Nat) : FieldAt := ⟨A.PR_TEN_IN t k, 31, 0⟩
def A.PR_TEN_OUT (t k : Nat) : Nat := 0xb1080 + 0x100 * t + 4 * k
def R.PR_TEN_OUT_PORTS (t k : Nat) : FieldAt := ⟨A.PR_TEN_OUT t k, 31, 0⟩
def A.ATTIC_STATUS : Nat := 0xb0010
def R.ATTIC_STATUS_PROVISIONED : FieldAt := ⟨A.ATTIC_STATUS, 31, 31⟩
def R.ATTIC_STATUS_ID_KEY : FieldAt := ⟨A.ATTIC_STATUS, 30, 30⟩
def R.ATTIC_STATUS_NV_WINDOW : FieldAt := ⟨A.ATTIC_STATUS, 29, 29⟩
def R.ATTIC_STATUS_NV_BUSY : FieldAt := ⟨A.ATTIC_STATUS, 28, 28⟩
def A.ATTIC_FLOOR : Nat := 0xb0014
def R.ATTIC_FLOOR_RUNNING : FieldAt := ⟨A.ATTIC_FLOOR, 31, 16⟩
def R.ATTIC_FLOOR_FLOOR : FieldAt := ⟨A.ATTIC_FLOOR, 15, 0⟩
def A.ATTIC_KEY (p : Nat) : Nat := 0xb0300 + 4 * p
def R.ATTIC_KEY_CURRENT (p : Nat) : FieldAt := ⟨A.ATTIC_KEY p, 31, 31⟩
def R.ATTIC_KEY_NEXT (p : Nat) : FieldAt := ⟨A.ATTIC_KEY p, 30, 30⟩
def R.ATTIC_KEY_GRACE (p : Nat) : FieldAt := ⟨A.ATTIC_KEY p, 29, 29⟩
def R.ATTIC_KEY_KEK (p : Nat) : FieldAt := ⟨A.ATTIC_KEY p, 28, 28⟩
def R.ATTIC_KEY_WRITES (p : Nat) : FieldAt := ⟨A.ATTIC_KEY p, 16, 0⟩
def A.ATTIC_PROV (k : Nat) : Nat := 0xb0400 + 4 * k
def R.ATTIC_PROV_WORD (k : Nat) : FieldAt := ⟨A.ATTIC_PROV k, 31, 0⟩
def A.ATTIC_PROV_GO : Nat := 0xb0460
def R.ATTIC_PROV_GO_GO : FieldAt := ⟨A.ATTIC_PROV_GO, 0, 0⟩
/-! Registers of spec/14_planes_takeover.md. -/

def A.PL_ROLE : Nat := 0x700
def R.PL_ROLE_ACTIVE : FieldAt := ⟨A.PL_ROLE, 31, 31⟩
def R.PL_ROLE_LAST_RESORT : FieldAt := ⟨A.PL_ROLE, 30, 30⟩
def R.PL_ROLE_HEALTH_A : FieldAt := ⟨A.PL_ROLE, 29, 28⟩
def R.PL_ROLE_HEALTH_B : FieldAt := ⟨A.PL_ROLE, 27, 26⟩
def R.PL_ROLE_SEQ_OPEN : FieldAt := ⟨A.PL_ROLE, 25, 25⟩
def R.PL_ROLE_RETURNING : FieldAt := ⟨A.PL_ROLE, 24, 24⟩
def R.PL_ROLE_SWAPS : FieldAt := ⟨A.PL_ROLE, 23, 16⟩
def A.PL_CTRL : Nat := 0x704
def R.PL_CTRL_RETURN : FieldAt := ⟨A.PL_CTRL, 31, 31⟩
def R.PL_CTRL_AUTO_RETURN : FieldAt := ⟨A.PL_CTRL, 30, 30⟩
def R.PL_CTRL_AUTO_COUNT : FieldAt := ⟨A.PL_CTRL, 23, 16⟩
def A.PL_DRILL : Nat := 0x708
def R.PL_DRILL_PENDING : FieldAt := ⟨A.PL_DRILL, 31, 31⟩
def R.PL_DRILL_LAST_OK : FieldAt := ⟨A.PL_DRILL, 30, 30⟩
def R.PL_DRILL_AGE_DAYS : FieldAt := ⟨A.PL_DRILL, 15, 0⟩
def A.PL_DRILL_FRAME_LO : Nat := 0x70c
def R.PL_DRILL_FRAME_LO_FRAME : FieldAt := ⟨A.PL_DRILL_FRAME_LO, 31, 0⟩
def A.PL_DRILL_FRAME_HI : Nat := 0x710
def R.PL_DRILL_FRAME_HI_FRAME : FieldAt := ⟨A.PL_DRILL_FRAME_HI, 31, 0⟩
def A.PL_DIV_STATUS : Nat := 0x714
def R.PL_DIV_STATUS_TRANSIENTS : FieldAt := ⟨A.PL_DIV_STATUS, 31, 24⟩
def R.PL_DIV_STATUS_JUDGED : FieldAt := ⟨A.PL_DIV_STATUS, 23, 16⟩
def R.PL_DIV_STATUS_TIES : FieldAt := ⟨A.PL_DIV_STATUS, 15, 8⟩
def R.PL_DIV_STATUS_CENTRAL : FieldAt := ⟨A.PL_DIV_STATUS, 7, 0⟩
def A.PL_DIV_LAST : Nat := 0x718
def R.PL_DIV_LAST_TILE : FieldAt := ⟨A.PL_DIV_LAST, 31, 25⟩
def R.PL_DIV_LAST_JUDGED_PLANE : FieldAt := ⟨A.PL_DIV_LAST, 24, 24⟩
def R.PL_DIV_LAST_CHANNELS : FieldAt := ⟨A.PL_DIV_LAST, 15, 0⟩
def A.PL_DIV_SCORE_A : Nat := 0x71c
def R.PL_DIV_SCORE_A_SCORE : FieldAt := ⟨A.PL_DIV_SCORE_A, 31, 0⟩
def A.PL_DIV_SCORE_B : Nat := 0x720
def R.PL_DIV_SCORE_B_SCORE : FieldAt := ⟨A.PL_DIV_SCORE_B, 31, 0⟩
def A.PL_CELLAR : Nat := 0x724
def R.PL_CELLAR_AGREE : FieldAt := ⟨A.PL_CELLAR, 31, 29⟩
def R.PL_CELLAR_RETIRED : FieldAt := ⟨A.PL_CELLAR, 28, 26⟩
def R.PL_CELLAR_RELOADS : FieldAt := ⟨A.PL_CELLAR, 7, 0⟩
def A.TL_CMP_STATUS (t : Nat) : Nat := 0x107000 + 0x10000 * t
def R.TL_CMP_STATUS_MASKED (t : Nat) : FieldAt := ⟨A.TL_CMP_STATUS t, 31, 31⟩
def R.TL_CMP_STATUS_DIVERGE (t : Nat) : FieldAt := ⟨A.TL_CMP_STATUS t, 23, 16⟩
def R.TL_CMP_STATUS_EXP_DIVERGE (t : Nat) : FieldAt := ⟨A.TL_CMP_STATUS t, 15, 8⟩
def R.TL_CMP_STATUS_SEL_FAIL (t : Nat) : FieldAt := ⟨A.TL_CMP_STATUS t, 7, 0⟩
def A.TL_CMP_LAST (t : Nat) : Nat := 0x107004 + 0x10000 * t
def R.TL_CMP_LAST_KIND (t : Nat) : FieldAt := ⟨A.TL_CMP_LAST t, 31, 30⟩
def R.TL_CMP_LAST_CHANNEL (t : Nat) : FieldAt := ⟨A.TL_CMP_LAST t, 8, 0⟩
/-! Registers of spec/15_fault_collection.md. -/

def A.FC_CTRL : Nat := 0x60000
def R.FC_CTRL_CLEAR_FIRST : FieldAt := ⟨A.FC_CTRL, 31, 31⟩
def R.FC_CTRL_PIN_SEV : FieldAt := ⟨A.FC_CTRL, 2, 0⟩
def A.FC_STATUS : Nat := 0x60004
def R.FC_STATUS_FIRST_VALID : FieldAt := ⟨A.FC_STATUS, 31, 31⟩
def R.FC_STATUS_LAST_VALID : FieldAt := ⟨A.FC_STATUS, 30, 30⟩
def R.FC_STATUS_SLOT0_FULL : FieldAt := ⟨A.FC_STATUS, 29, 29⟩
def R.FC_STATUS_SLOT1_FULL : FieldAt := ⟨A.FC_STATUS, 28, 28⟩
def R.FC_STATUS_SB_LEVEL : FieldAt := ⟨A.FC_STATUS, 27, 24⟩
def R.FC_STATUS_QUEUE_LEVEL : FieldAt := ⟨A.FC_STATUS, 23, 16⟩
def R.FC_STATUS_SB_LOST : FieldAt := ⟨A.FC_STATUS, 15, 8⟩
def R.FC_STATUS_OVERFLOW : FieldAt := ⟨A.FC_STATUS, 7, 0⟩
def A.FC_FIRST (k : Nat) : Nat := 0x60010 + 4 * k
def R.FC_FIRST_WORD (k : Nat) : FieldAt := ⟨A.FC_FIRST k, 31, 0⟩
def A.FC_LAST (k : Nat) : Nat := 0x60030 + 4 * k
def R.FC_LAST_WORD (k : Nat) : FieldAt := ⟨A.FC_LAST k, 31, 0⟩
def A.FC_SLOT0 (k : Nat) : Nat := 0x60050 + 4 * k
def R.FC_SLOT0_WORD (k : Nat) : FieldAt := ⟨A.FC_SLOT0 k, 31, 0⟩
def A.FC_SLOT1 (k : Nat) : Nat := 0x60070 + 4 * k
def R.FC_SLOT1_WORD (k : Nat) : FieldAt := ⟨A.FC_SLOT1 k, 31, 0⟩
def A.FC_ACK : Nat := 0x60090
def R.FC_ACK_SLOT1 : FieldAt := ⟨A.FC_ACK, 1, 1⟩
def R.FC_ACK_SLOT0 : FieldAt := ⟨A.FC_ACK, 0, 0⟩
def A.FC_UNFENCE : Nat := 0x600a0
def R.FC_UNFENCE_GO : FieldAt := ⟨A.FC_UNFENCE, 31, 31⟩
def R.FC_UNFENCE_UNIT : FieldAt := ⟨A.FC_UNFENCE, 26, 24⟩
def R.FC_UNFENCE_INDEX : FieldAt := ⟨A.FC_UNFENCE, 6, 0⟩
def A.FC_FENCED_TILE (k : Nat) : Nat := 0x600b0 + 4 * k
def R.FC_FENCED_TILE_TILES (k : Nat) : FieldAt := ⟨A.FC_FENCED_TILE k, 31, 0⟩
def A.FC_FENCED_MISC : Nat := 0x600bc
def R.FC_FENCED_MISC_GENERATORS : FieldAt := ⟨A.FC_FENCED_MISC, 31, 16⟩
def R.FC_FENCED_MISC_HKA : FieldAt := ⟨A.FC_FENCED_MISC, 10, 10⟩
def R.FC_FENCED_MISC_APSIN : FieldAt := ⟨A.FC_FENCED_MISC, 9, 8⟩
def R.FC_FENCED_MISC_LANES : FieldAt := ⟨A.FC_FENCED_MISC, 7, 0⟩
def A.FC_QUEUE (i k : Nat) : Nat := 0x60400 + 0x20 * i + 4 * k
def R.FC_QUEUE_WORD (i k : Nat) : FieldAt := ⟨A.FC_QUEUE i k, 31, 0⟩
def A.FC_SEV (c j : Nat) : Nat := 0x61000 + 0x80 * c + 4 * j
def R.FC_SEV_SEV7 (c j : Nat) : FieldAt := ⟨A.FC_SEV c j, 30, 28⟩
def R.FC_SEV_SEV6 (c j : Nat) : FieldAt := ⟨A.FC_SEV c j, 26, 24⟩
def R.FC_SEV_SEV5 (c j : Nat) : FieldAt := ⟨A.FC_SEV c j, 22, 20⟩
def R.FC_SEV_SEV4 (c j : Nat) : FieldAt := ⟨A.FC_SEV c j, 18, 16⟩
def R.FC_SEV_SEV3 (c j : Nat) : FieldAt := ⟨A.FC_SEV c j, 14, 12⟩
def R.FC_SEV_SEV2 (c j : Nat) : FieldAt := ⟨A.FC_SEV c j, 10, 8⟩
def R.FC_SEV_SEV1 (c j : Nat) : FieldAt := ⟨A.FC_SEV c j, 6, 4⟩
def R.FC_SEV_SEV0 (c j : Nat) : FieldAt := ⟨A.FC_SEV c j, 2, 0⟩
def A.FC_COUNT (s : Nat) : Nat := 0x68000 + 4 * s
def R.FC_COUNT_COUNT (s : Nat) : FieldAt := ⟨A.FC_COUNT s, 15, 0⟩
/-! Registers of spec/16_thermal_power.md. -/

def A.TH_CFG : Nat := 0x80000
def R.TH_CFG_HYST : FieldAt := ⟨A.TH_CFG, 27, 24⟩
def R.TH_CFG_L3_ON : FieldAt := ⟨A.TH_CFG, 23, 16⟩
def R.TH_CFG_L2_ON : FieldAt := ⟨A.TH_CFG, 15, 8⟩
def R.TH_CFG_L1_ON : FieldAt := ⟨A.TH_CFG, 7, 0⟩
def A.TH_STATUS : Nat := 0x80004
def R.TH_STATUS_TRIPPED : FieldAt := ⟨A.TH_STATUS, 31, 31⟩
def R.TH_STATUS_ANALOG : FieldAt := ⟨A.TH_STATUS, 30, 30⟩
def R.TH_STATUS_HOT_ASSUMED : FieldAt := ⟨A.TH_STATUS, 29, 29⟩
def R.TH_STATUS_LEVEL : FieldAt := ⟨A.TH_STATUS, 26, 24⟩
def R.TH_STATUS_BAND : FieldAt := ⟨A.TH_STATUS, 22, 20⟩
def R.TH_STATUS_ZONE : FieldAt := ⟨A.TH_STATUS, 19, 16⟩
def R.TH_STATUS_TJ : FieldAt := ⟨A.TH_STATUS, 11, 0⟩
def A.TH_EVENTS : Nat := 0x80008
def R.TH_EVENTS_LEVEL_UPS : FieldAt := ⟨A.TH_EVENTS, 31, 24⟩
def R.TH_EVENTS_SENSOR_FAILS : FieldAt := ⟨A.TH_EVENTS, 23, 16⟩
def R.TH_EVENTS_TRIP_COUNT : FieldAt := ⟨A.TH_EVENTS, 15, 0⟩
def A.TH_MASK (k : Nat) : Nat := 0x80010 + 4 * k
def R.TH_MASK_MASK (k : Nat) : FieldAt := ⟨A.TH_MASK k, 31, 0⟩
def A.TH_ZONE (z : Nat) : Nat := 0x80020 + 4 * z
def R.TH_ZONE_BAND (z : Nat) : FieldAt := ⟨A.TH_ZONE z, 31, 29⟩
def R.TH_ZONE_SENSORS (z : Nat) : FieldAt := ⟨A.TH_ZONE z, 28, 25⟩
def R.TH_ZONE_HOT_ASSUMED (z : Nat) : FieldAt := ⟨A.TH_ZONE z, 24, 24⟩
def R.TH_ZONE_TEMP (z : Nat) : FieldAt := ⟨A.TH_ZONE z, 11, 0⟩
def A.TH_SENSOR (d : Nat) : Nat := 0x80100 + 4 * d
def R.TH_SENSOR_FAIL (d : Nat) : FieldAt := ⟨A.TH_SENSOR d, 31, 31⟩
def R.TH_SENSOR_HOT_ASSUMED (d : Nat) : FieldAt := ⟨A.TH_SENSOR d, 30, 30⟩
def R.TH_SENSOR_MASKED (d : Nat) : FieldAt := ⟨A.TH_SENSOR d, 29, 29⟩
def R.TH_SENSOR_COUNTED (d : Nat) : FieldAt := ⟨A.TH_SENSOR d, 28, 28⟩
def R.TH_SENSOR_ZONE (d : Nat) : FieldAt := ⟨A.TH_SENSOR d, 27, 24⟩
def R.TH_SENSOR_CAUSE (d : Nat) : FieldAt := ⟨A.TH_SENSOR d, 23, 22⟩
def R.TH_SENSOR_TEMP (d : Nat) : FieldAt := ⟨A.TH_SENSOR d, 11, 0⟩
def A.TH_TRIM (d : Nat) : Nat := 0x80200 + 4 * d
def R.TH_TRIM_N105 (d : Nat) : FieldAt := ⟨A.TH_TRIM d, 31, 16⟩
def R.TH_TRIM_N25 (d : Nat) : FieldAt := ⟨A.TH_TRIM d, 15, 0⟩
def A.PW_STATE : Nat := 0x70000
def R.PW_STATE_BUSY : FieldAt := ⟨A.PW_STATE, 31, 31⟩
def R.PW_STATE_ABORTED : FieldAt := ⟨A.PW_STATE, 30, 30⟩
def R.PW_STATE_WAKE_CAUSE : FieldAt := ⟨A.PW_STATE, 26, 24⟩
def R.PW_STATE_REFUSER : FieldAt := ⟨A.PW_STATE, 22, 16⟩
def R.PW_STATE_STATE : FieldAt := ⟨A.PW_STATE, 2, 0⟩
def A.PW_CFG : Nat := 0x70004
def R.PW_CFG_FRUGAL_B : FieldAt := ⟨A.PW_CFG, 13, 12⟩
def R.PW_CFG_FRUGAL_A : FieldAt := ⟨A.PW_CFG, 9, 8⟩
def R.PW_CFG_LISTEN_B : FieldAt := ⟨A.PW_CFG, 5, 4⟩
def R.PW_CFG_LISTEN_A : FieldAt := ⟨A.PW_CFG, 1, 0⟩
def A.PW_DOMAIN_ON (k : Nat) : Nat := 0x70010 + 4 * k
def R.PW_DOMAIN_ON_ON (k : Nat) : FieldAt := ⟨A.PW_DOMAIN_ON k, 31, 0⟩
def A.PW_RET_FAIL (k : Nat) : Nat := 0x70020 + 4 * k
def R.PW_RET_FAIL_FAIL (k : Nat) : FieldAt := ⟨A.PW_RET_FAIL k, 31, 0⟩
def A.PW_RTC_LO : Nat := 0x70030
def R.PW_RTC_LO_SEC : FieldAt := ⟨A.PW_RTC_LO, 31, 0⟩
def A.PW_RTC_HI : Nat := 0x70034
def R.PW_RTC_HI_SEC : FieldAt := ⟨A.PW_RTC_HI, 15, 0⟩
def A.PW_ALARM_LO : Nat := 0x70038
def R.PW_ALARM_LO_SEC : FieldAt := ⟨A.PW_ALARM_LO, 31, 0⟩
def A.PW_ALARM_HI : Nat := 0x7003c
def R.PW_ALARM_HI_ENABLE : FieldAt := ⟨A.PW_ALARM_HI, 31, 31⟩
def R.PW_ALARM_HI_SEC : FieldAt := ⟨A.PW_ALARM_HI, 15, 0⟩
def A.PW_STALL : Nat := 0x70040
def R.PW_STALL_STALLS : FieldAt := ⟨A.PW_STALL, 31, 24⟩
def R.PW_STALL_DOMAIN : FieldAt := ⟨A.PW_STALL, 22, 16⟩
def R.PW_STALL_LONGEST : FieldAt := ⟨A.PW_STALL, 15, 0⟩
/-! Registers of spec/17_startup_image.md. -/

def A.BT_STATUS : Nat := 0x10000
def R.BT_STATUS_RESULT : FieldAt := ⟨A.BT_STATUS, 31, 28⟩
def R.BT_STATUS_SLOT : FieldAt := ⟨A.BT_STATUS, 27, 27⟩
def R.BT_STATUS_PASSES : FieldAt := ⟨A.BT_STATUS, 26, 25⟩
def R.BT_STATUS_SESSION_WAIT : FieldAt := ⟨A.BT_STATUS, 24, 24⟩
def R.BT_STATUS_LOCKED : FieldAt := ⟨A.BT_STATUS, 23, 23⟩
def R.BT_STATUS_FENCED_A : FieldAt := ⟨A.BT_STATUS, 22, 22⟩
def R.BT_STATUS_FENCED_B : FieldAt := ⟨A.BT_STATUS, 21, 21⟩
def R.BT_STATUS_HEAD : FieldAt := ⟨A.BT_STATUS, 20, 20⟩
def R.BT_STATUS_CHAIN_POS : FieldAt := ⟨A.BT_STATUS, 19, 16⟩
def R.BT_STATUS_BOOT_MODE : FieldAt := ⟨A.BT_STATUS, 15, 14⟩
def R.BT_STATUS_SB_TRUST : FieldAt := ⟨A.BT_STATUS, 13, 13⟩
def A.BT_FAIL (s : Nat) : Nat := 0x10004 + 4 * s
def R.BT_FAIL_STEP (s : Nat) : FieldAt := ⟨A.BT_FAIL s, 31, 28⟩
def R.BT_FAIL_SECTION (s : Nat) : FieldAt := ⟨A.BT_FAIL s, 27, 22⟩
def R.BT_FAIL_OFFSET (s : Nat) : FieldAt := ⟨A.BT_FAIL s, 21, 0⟩
def A.BT_REFUSED : Nat := 0x1000c
def R.BT_REFUSED_COUNT : FieldAt := ⟨A.BT_REFUSED, 31, 16⟩
def R.BT_REFUSED_FIRST : FieldAt := ⟨A.BT_REFUSED, 15, 0⟩
def A.BT_TIMES : Nat := 0x10010
def R.BT_TIMES_RUN_MS : FieldAt := ⟨A.BT_TIMES, 31, 16⟩
def R.BT_TIMES_LOCK_MS : FieldAt := ⟨A.BT_TIMES, 15, 0⟩
def A.BT_IMAGE : Nat := 0x10014
def R.BT_IMAGE_SEC_VERSION : FieldAt := ⟨A.BT_IMAGE, 31, 16⟩
def A.BT_IMAGE_SEQ : Nat := 0x10018
def R.BT_IMAGE_SEQ_IMAGE_SEQ : FieldAt := ⟨A.BT_IMAGE_SEQ, 31, 0⟩
def A.BT_DIGEST (k : Nat) : Nat := 0x10020 + 4 * k
def R.BT_DIGEST_DIGEST (k : Nat) : FieldAt := ⟨A.BT_DIGEST k, 31, 0⟩
def A.BT_CTRL : Nat := 0x10040
def R.BT_CTRL_REBOOT : FieldAt := ⟨A.BT_CTRL, 31, 31⟩
def R.BT_CTRL_SLOT : FieldAt := ⟨A.BT_CTRL, 1, 0⟩
def A.BT_PM_STATUS : Nat := 0x10050
def R.BT_PM_STATUS_VALID : FieldAt := ⟨A.BT_PM_STATUS, 31, 31⟩
def R.BT_PM_STATUS_CAUSE : FieldAt := ⟨A.BT_PM_STATUS, 30, 28⟩
def R.BT_PM_STATUS_PAIR : FieldAt := ⟨A.BT_PM_STATUS, 2, 0⟩
def A.BT_PM_SEQ : Nat := 0x10054
def R.BT_PM_SEQ_SEQ : FieldAt := ⟨A.BT_PM_SEQ, 31, 0⟩
def A.BT_NOR_CTRL : Nat := 0x10080
def R.BT_NOR_CTRL_GO : FieldAt := ⟨A.BT_NOR_CTRL, 31, 31⟩
def R.BT_NOR_CTRL_BUSY : FieldAt := ⟨A.BT_NOR_CTRL, 30, 30⟩
def R.BT_NOR_CTRL_DONE : FieldAt := ⟨A.BT_NOR_CTRL, 29, 29⟩
def R.BT_NOR_CTRL_REFUSED : FieldAt := ⟨A.BT_NOR_CTRL, 28, 28⟩
def R.BT_NOR_CTRL_OP : FieldAt := ⟨A.BT_NOR_CTRL, 27, 26⟩
def R.BT_NOR_CTRL_LENGTH : FieldAt := ⟨A.BT_NOR_CTRL, 8, 0⟩
def A.BT_NOR_ADDR : Nat := 0x10084
def R.BT_NOR_ADDR_ADDR : FieldAt := ⟨A.BT_NOR_ADDR, 31, 0⟩
def A.BT_NOR_INFO : Nat := 0x10088
def R.BT_NOR_INFO_SFDP_OK : FieldAt := ⟨A.BT_NOR_INFO, 31, 31⟩
def R.BT_NOR_INFO_DENSITY : FieldAt := ⟨A.BT_NOR_INFO, 15, 0⟩
def A.BT_NOR_BUF (k : Nat) : Nat := 0x10100 + 4 * k
def R.BT_NOR_BUF_DATA (k : Nat) : FieldAt := ⟨A.BT_NOR_BUF k, 31, 0⟩
def A.AP_RING_STATUS : Nat := 0xc0000
def R.AP_RING_STATUS_CONFLICT : FieldAt := ⟨A.AP_RING_STATUS, 31, 31⟩
def R.AP_RING_STATUS_PRESENT : FieldAt := ⟨A.AP_RING_STATUS, 15, 0⟩
def A.AP_RING_NODE (c : Nat) : Nat := 0xc0040 + 4 * c
def R.AP_RING_NODE_STATE (c : Nat) : FieldAt := ⟨A.AP_RING_NODE c, 31, 29⟩
def R.AP_RING_NODE_SLOT (c : Nat) : FieldAt := ⟨A.AP_RING_NODE c, 28, 28⟩
def R.AP_RING_NODE_SEC_VERSION (c : Nat) : FieldAt := ⟨A.AP_RING_NODE c, 15, 0⟩
def A.AP_RING_DIGEST_LO (c : Nat) : Nat := 0xc0080 + 8 * c
def R.AP_RING_DIGEST_LO_DIGEST (c : Nat) : FieldAt := ⟨A.AP_RING_DIGEST_LO c, 31, 0⟩
def A.AP_RING_DIGEST_HI (c : Nat) : Nat := 0xc0084 + 8 * c
def R.AP_RING_DIGEST_HI_DIGEST (c : Nat) : FieldAt := ⟨A.AP_RING_DIGEST_HI c, 31, 0⟩
/-! Registers of spec/18_register_access.md. -/

def A.GL_ID : Nat := 0x0
def R.GL_ID_PART_ID : FieldAt := ⟨A.GL_ID, 31, 16⟩
def R.GL_ID_STEP : FieldAt := ⟨A.GL_ID, 15, 0⟩
def A.GL_SERIAL_LO : Nat := 0x4
def R.GL_SERIAL_LO_SERIAL : FieldAt := ⟨A.GL_SERIAL_LO, 31, 0⟩
def A.GL_SERIAL_HI : Nat := 0x8
def R.GL_SERIAL_HI_SERIAL : FieldAt := ⟨A.GL_SERIAL_HI, 31, 0⟩
def A.GL_FRAME_LO : Nat := 0x10
def R.GL_FRAME_LO_FRAME : FieldAt := ⟨A.GL_FRAME_LO, 31, 0⟩
def A.GL_FRAME_HI : Nat := 0x14
def R.GL_FRAME_HI_FRAME : FieldAt := ⟨A.GL_FRAME_HI, 31, 0⟩
def A.GL_PLANE_SEL : Nat := 0x20
def R.GL_PLANE_SEL_SEL : FieldAt := ⟨A.GL_PLANE_SEL, 1, 0⟩
def A.GL_ID_KEY (k : Nat) : Nat := 0x100 + 4 * k
def R.GL_ID_KEY_KEY (k : Nat) : FieldAt := ⟨A.GL_ID_KEY k, 31, 0⟩
def A.GL_ID_ENDORSE (k : Nat) : Nat := 0x140 + 4 * k
def R.GL_ID_ENDORSE_SIG (k : Nat) : FieldAt := ⟨A.GL_ID_ENDORSE k, 31, 0⟩
def A.MT_FAIL_CHECK : Nat := 0xa0510
def R.MT_FAIL_CHECK_CHECK : FieldAt := ⟨A.MT_FAIL_CHECK, 6, 0⟩
/-! Registers of spec/07_tuning_and_stencil.md. -/

def A.RSP_BASE (k : Nat) : Nat := 0xa0404 + 0x20 * k
def R.RSP_BASE_BASE (k : Nat) : FieldAt := ⟨A.RSP_BASE k, 21, 12⟩
def A.RSP_WMARK (k : Nat) : Nat := 0xa0408 + 0x20 * k
def R.RSP_WMARK_WMARK (k : Nat) : FieldAt := ⟨A.RSP_WMARK k, 20, 0⟩
def A.RSP_WPTR (k : Nat) : Nat := 0xa040c + 0x20 * k
def R.RSP_WPTR_WPTR (k : Nat) : FieldAt := ⟨A.RSP_WPTR k, 31, 0⟩
def A.RSP_RPTR (k : Nat) : Nat := 0xa0410 + 0x20 * k
def R.RSP_RPTR_RPTR (k : Nat) : FieldAt := ⟨A.RSP_RPTR k, 31, 0⟩
def A.RSP_STATUS (k : Nat) : Nat := 0xa0414 + 0x20 * k
def R.RSP_STATUS_RUNNING (k : Nat) : FieldAt := ⟨A.RSP_STATUS k, 31, 31⟩
def R.RSP_STATUS_CAUSE (k : Nat) : FieldAt := ⟨A.RSP_STATUS k, 7, 5⟩
def R.RSP_STATUS_PTR_CLAMP (k : Nat) : FieldAt := ⟨A.RSP_STATUS k, 4, 4⟩
def R.RSP_STATUS_REFUSED (k : Nat) : FieldAt := ⟨A.RSP_STATUS k, 3, 3⟩
def R.RSP_STATUS_OVERWROTE (k : Nat) : FieldAt := ⟨A.RSP_STATUS k, 2, 2⟩
def R.RSP_STATUS_FULL (k : Nat) : FieldAt := ⟨A.RSP_STATUS k, 1, 1⟩
def R.RSP_STATUS_WMARK (k : Nat) : FieldAt := ⟨A.RSP_STATUS k, 0, 0⟩
def A.RSP_START_LO (k : Nat) : Nat := 0xa0418 + 0x20 * k
def R.RSP_START_LO_FRAME (k : Nat) : FieldAt := ⟨A.RSP_START_LO k, 31, 0⟩
def A.RSP_START_HI (k : Nat) : Nat := 0xa041c + 0x20 * k
def R.RSP_START_HI_FRAME (k : Nat) : FieldAt := ⟨A.RSP_START_HI k, 31, 0⟩

end Sys2Proof.Machine
end

