-- ==== Sys2Proof/Machine/RegTable.lean ====
section
/-! DEFINITION. Machine/RegTable.lean: the register tables of the chapters as data: for every register its base address,
its index ranges and strides, the kind of its copies (R435, R438) and its fields with access code (R13), class (R15)
and reset value (R446). Bits no row names are reserved (R447). -/

namespace Sys2Proof.Machine

/-- The access codes of R13. -/
inductive Access where | rw | ro | wo | w1c | w1s | rc
deriving DecidableEq, Repr

/-- The field classes of R15; `fixed` stands for a field the tables give no class. -/
inductive FieldClass where | live | framed | quiesced | fixed
deriving DecidableEq, Repr

/-- The meanings of the Reset column (R446). -/
inductive ResetKind where | number | image | mode | strap | stored | wired
deriving DecidableEq, Repr

/-- The kinds of copy a register has (R438): `priv` is written to both planes only, `privOwn` to the plane named. -/
inductive Copies where | shared | alike | faults | priv | privOwn | lane
deriving DecidableEq, Repr

/-- One row of a register table. `owner` marks a field that says "Owner only" (R439). -/
structure FieldSpec where
  hi : Nat
  lo : Nat
  acc : Access
  cls : FieldClass
  reset : Nat
  kind : ResetKind
  owner : Bool := false
deriving DecidableEq, Repr

/-- One register: `dims` lists (count, stride) of its indices, outermost first. -/
structure RegSpec where
  reg : Reg
  base : Nat
  dims : List (Nat × Nat)
  copies : Copies
  fields : List FieldSpec
deriving DecidableEq, Repr

def regs_b0_0 : List RegSpec := [
  ⟨.AV_LOSS, 0x800, [(17, 4)], .shared,
    [⟨9, 0, .rw, .framed, 0, .image, false⟩]⟩,
  ⟨.LP_SPP_CFG, 0x300, [(4, 4)], .shared,
    [⟨11, 8, .rw, .framed, 0, .image, false⟩,
     ⟨1, 0, .rw, .framed, 0, .image, false⟩]⟩,
  ⟨.LP_SPP_VALUE, 0x310, [(4, 4)], .shared,
    [⟨31, 31, .ro, .fixed, 0, .number, false⟩,
     ⟨23, 0, .ro, .fixed, 0, .number, false⟩]⟩,
  ⟨.LP_EXPRESS, 0x320, [], .shared,
    [⟨26, 16, .ro, .fixed, 0, .number, false⟩,
     ⟨10, 0, .ro, .fixed, 0, .number, false⟩]⟩,
  ⟨.EG_DEV_CAP, 0x400, [], .shared,
    [⟨14, 0, .rw, .framed, 0, .image, false⟩]⟩,
  ⟨.EG_DEV_STATUS, 0x404, [], .shared,
    [⟨31, 31, .ro, .fixed, 0, .number, false⟩,
     ⟨30, 16, .ro, .fixed, 0, .number, false⟩,
     ⟨15, 0, .ro, .fixed, 0, .number, false⟩]⟩,
  ⟨.CAL_CTRL, 0x500, [], .shared,
    [⟨31, 31, .w1s, .live, 0, .number, false⟩,
     ⟨30, 30, .rw, .framed, 1, .number, false⟩,
     ⟨29, 29, .rw, .framed, 0, .image, false⟩,
     ⟨7, 0, .rw, .framed, 8, .number, false⟩]⟩,
  ⟨.CAL_STATUS, 0x504, [], .shared,
    [⟨31, 31, .ro, .fixed, 0, .number, false⟩,
     ⟨30, 30, .ro, .fixed, 0, .number, false⟩,
     ⟨25, 16, .ro, .fixed, 0, .number, false⟩]⟩,
  ⟨.SV_CTRL, 0x540, [], .shared,
    [⟨31, 31, .w1s, .live, 0, .number, false⟩,
     ⟨30, 30, .w1s, .live, 0, .number, false⟩,
     ⟨29, 28, .rw, .quiesced, 0, .number, false⟩,
     ⟨27, 27, .rw, .quiesced, 0, .number, false⟩,
     ⟨26, 26, .rw, .quiesced, 0, .number, false⟩,
     ⟨25, 23, .rw, .quiesced, 0, .number, false⟩,
     ⟨22, 19, .rw, .quiesced, 0, .number, false⟩,
     ⟨10, 0, .rw, .quiesced, 1, .number, false⟩]⟩,
  ⟨.SV_LIST, 0x544, [], .shared,
    [⟨27, 16, .rw, .quiesced, 0, .number, false⟩,
     ⟨13, 0, .rw, .quiesced, 0, .number, false⟩]⟩,
  ⟨.SV_OUT, 0x548, [], .shared,
    [⟨26, 22, .rw, .quiesced, 0xc, .number, false⟩,
     ⟨21, 12, .rw, .quiesced, 0, .number, false⟩]⟩,
  ⟨.SV_STATUS, 0x54c, [], .shared,
    [⟨31, 31, .ro, .fixed, 0, .number, false⟩,
     ⟨30, 30, .w1c, .fixed, 0, .number, false⟩,
     ⟨29, 29, .w1c, .fixed, 0, .number, false⟩,
     ⟨28, 28, .w1c, .fixed, 0, .number, false⟩,
     ⟨27, 25, .ro, .fixed, 0, .number, false⟩,
     ⟨23, 12, .ro, .fixed, 0, .number, false⟩,
     ⟨11, 0, .ro, .fixed, 0, .number, false⟩]⟩
]

def regs_b0_1 : List RegSpec := [
  ⟨.PL_ROLE, 0x700, [], .shared,
    [⟨31, 31, .ro, .fixed, 0, .image, false⟩,
     ⟨30, 30, .ro, .fixed, 0, .number, false⟩,
     ⟨29, 28, .ro, .fixed, 0, .number, false⟩,
     ⟨27, 26, .ro, .fixed, 0, .number, false⟩,
     ⟨25, 25, .ro, .fixed, 0, .number, false⟩,
     ⟨24, 24, .ro, .fixed, 0, .number, false⟩,
     ⟨23, 16, .rc, .fixed, 0, .number, false⟩]⟩,
  ⟨.PL_CTRL, 0x704, [], .shared,
    [⟨31, 31, .w1s, .live, 0, .number, false⟩,
     ⟨30, 30, .rw, .framed, 0, .image, false⟩,
     ⟨23, 16, .ro, .fixed, 0, .number, false⟩]⟩,
  ⟨.PL_DRILL, 0x708, [], .shared,
    [⟨31, 31, .ro, .fixed, 0, .number, false⟩,
     ⟨30, 30, .ro, .fixed, 0, .number, false⟩,
     ⟨15, 0, .ro, .fixed, 0, .number, false⟩]⟩,
  ⟨.PL_DRILL_FRAME_LO, 0x70c, [], .shared,
    [⟨31, 0, .ro, .fixed, 0, .number, false⟩]⟩,
  ⟨.PL_DRILL_FRAME_HI, 0x710, [], .shared,
    [⟨31, 0, .ro, .fixed, 0, .number, false⟩]⟩,
  ⟨.PL_DIV_STATUS, 0x714, [], .shared,
    [⟨31, 24, .rc, .fixed, 0, .number, false⟩,
     ⟨23, 16, .rc, .fixed, 0, .number, false⟩,
     ⟨15, 8, .rc, .fixed, 0, .number, false⟩,
     ⟨7, 0, .rc, .fixed, 0, .number, false⟩]⟩,
  ⟨.PL_DIV_LAST, 0x718, [], .shared,
    [⟨31, 25, .ro, .fixed, 0, .number, false⟩,
     ⟨24, 24, .ro, .fixed, 0, .number, false⟩,
     ⟨15, 0, .ro, .fixed, 0, .number, false⟩]⟩,
  ⟨.PL_DIV_SCORE_A, 0x71c, [], .shared,
    [⟨31, 0, .ro, .fixed, 0, .number, false⟩]⟩,
  ⟨.PL_DIV_SCORE_B, 0x720, [], .shared,
    [⟨31, 0, .ro, .fixed, 0, .number, false⟩]⟩,
  ⟨.PL_CELLAR, 0x724, [], .shared,
    [⟨31, 29, .ro, .fixed, 7, .number, false⟩,
     ⟨28, 26, .ro, .fixed, 0, .number, false⟩,
     ⟨7, 0, .rc, .fixed, 0, .number, false⟩]⟩,
  ⟨.GL_ID, 0x0, [], .shared,
    [⟨31, 16, .ro, .fixed, 0x3024, .number, false⟩,
     ⟨15, 0, .ro, .fixed, 0xb0, .number, false⟩]⟩,
  ⟨.GL_SERIAL_LO, 0x4, [], .shared,
    [⟨31, 0, .ro, .fixed, 0, .stored, false⟩]⟩
]

def regs_b0_2 : List RegSpec := [
  ⟨.GL_SERIAL_HI, 0x8, [], .shared,
    [⟨31, 0, .ro, .fixed, 0, .stored, false⟩]⟩,
  ⟨.GL_FRAME_LO, 0x10, [], .shared,
    [⟨31, 0, .ro, .fixed, 0, .number, false⟩]⟩,
  ⟨.GL_FRAME_HI, 0x14, [], .shared,
    [⟨31, 0, .ro, .fixed, 0, .number, false⟩]⟩,
  ⟨.GL_PLANE_SEL, 0x20, [], .shared,
    [⟨1, 0, .rw, .live, 3, .number, false⟩]⟩,
  ⟨.GL_ID_KEY, 0x100, [(16, 4)], .shared,
    [⟨31, 0, .ro, .fixed, 0, .stored, false⟩]⟩,
  ⟨.GL_ID_ENDORSE, 0x140, [(16, 4)], .shared,
    [⟨31, 0, .ro, .fixed, 0, .stored, false⟩]⟩
]

def regs_b0 : List RegSpec := regs_b0_0 ++ regs_b0_1 ++ regs_b0_2

def regs_b1_0 : List RegSpec := [
  ⟨.BT_STATUS, 0x10000, [], .shared,
    [⟨31, 28, .ro, .fixed, 0, .number, false⟩,
     ⟨27, 27, .ro, .fixed, 0, .number, false⟩,
     ⟨26, 25, .ro, .fixed, 0, .number, false⟩,
     ⟨24, 24, .ro, .fixed, 0, .number, false⟩,
     ⟨23, 23, .ro, .fixed, 0, .number, false⟩,
     ⟨22, 22, .ro, .fixed, 0, .number, false⟩,
     ⟨21, 21, .ro, .fixed, 0, .number, false⟩,
     ⟨20, 20, .ro, .fixed, 0, .strap, false⟩,
     ⟨19, 16, .ro, .fixed, 0, .strap, false⟩,
     ⟨15, 14, .ro, .fixed, 0, .strap, false⟩,
     ⟨13, 13, .ro, .fixed, 0, .strap, false⟩]⟩,
  ⟨.BT_FAIL, 0x10004, [(2, 4)], .shared,
    [⟨31, 28, .ro, .fixed, 0xf, .number, false⟩,
     ⟨27, 22, .ro, .fixed, 0, .number, false⟩,
     ⟨21, 0, .ro, .fixed, 0, .number, false⟩]⟩,
  ⟨.BT_REFUSED, 0x1000c, [], .shared,
    [⟨31, 16, .ro, .fixed, 0, .number, false⟩,
     ⟨15, 0, .ro, .fixed, 0, .number, false⟩]⟩,
  ⟨.BT_TIMES, 0x10010, [], .shared,
    [⟨31, 16, .ro, .fixed, 0, .number, false⟩,
     ⟨15, 0, .ro, .fixed, 0, .number, false⟩]⟩,
  ⟨.BT_IMAGE, 0x10014, [], .shared,
    [⟨31, 16, .ro, .fixed, 0, .number, false⟩]⟩,
  ⟨.BT_IMAGE_SEQ, 0x10018, [], .shared,
    [⟨31, 0, .ro, .fixed, 0, .number, false⟩]⟩,
  ⟨.BT_DIGEST, 0x10020, [(8, 4)], .shared,
    [⟨31, 0, .ro, .fixed, 0, .number, false⟩]⟩,
  ⟨.BT_CTRL, 0x10040, [], .shared,
    [⟨31, 31, .w1s, .live, 0, .number, false⟩,
     ⟨1, 0, .rw, .live, 0, .number, false⟩]⟩,
  ⟨.BT_PM_STATUS, 0x10050, [], .shared,
    [⟨31, 31, .ro, .fixed, 0, .number, false⟩,
     ⟨30, 28, .ro, .fixed, 0, .number, false⟩,
     ⟨2, 0, .ro, .fixed, 0, .number, false⟩]⟩,
  ⟨.BT_PM_SEQ, 0x10054, [], .shared,
    [⟨31, 0, .ro, .fixed, 0, .number, false⟩]⟩,
  ⟨.BT_NOR_CTRL, 0x10080, [], .shared,
    [⟨31, 31, .w1s, .live, 0, .number, false⟩,
     ⟨30, 30, .ro, .fixed, 0, .number, false⟩,
     ⟨29, 29, .w1c, .fixed, 0, .number, false⟩,
     ⟨28, 28, .w1c, .fixed, 0, .number, false⟩,
     ⟨27, 26, .rw, .live, 0, .number, false⟩,
     ⟨8, 0, .rw, .live, 0x100, .number, false⟩]⟩,
  ⟨.BT_NOR_ADDR, 0x10084, [], .shared,
    [⟨31, 0, .rw, .live, 0, .number, false⟩]⟩
]

def regs_b1_1 : List RegSpec := [
  ⟨.BT_NOR_INFO, 0x10088, [], .shared,
    [⟨31, 31, .ro, .fixed, 0, .number, false⟩,
     ⟨15, 0, .ro, .fixed, 0, .number, false⟩]⟩,
  ⟨.BT_NOR_BUF, 0x10100, [(64, 4)], .shared,
    [⟨31, 0, .rw, .live, 0, .number, false⟩]⟩
]

def regs_b1 : List RegSpec := regs_b1_0 ++ regs_b1_1

def regs_b2_0 : List RegSpec := [
  ⟨.LK_CFG, 0x20000, [(8, 4)], .lane,
    [⟨31, 31, .rw, .live, 0, .image, false⟩,
     ⟨30, 30, .ro, .fixed, 0, .image, false⟩,
     ⟨29, 29, .ro, .fixed, 0, .image, false⟩,
     ⟨28, 28, .rw, .quiesced, 0, .image, false⟩,
     ⟨27, 27, .rw, .quiesced, 0, .image, false⟩,
     ⟨23, 21, .rw, .quiesced, 0, .image, false⟩,
     ⟨11, 0, .rw, .quiesced, 0, .image, false⟩]⟩,
  ⟨.LK_STATUS, 0x20020, [(8, 4)], .lane,
    [⟨31, 31, .ro, .fixed, 0, .number, false⟩,
     ⟨30, 30, .ro, .fixed, 0, .number, false⟩,
     ⟨29, 29, .ro, .fixed, 0, .number, false⟩,
     ⟨28, 28, .ro, .fixed, 0, .number, false⟩,
     ⟨27, 27, .ro, .fixed, 0, .number, false⟩,
     ⟨26, 26, .ro, .fixed, 0, .number, false⟩]⟩,
  ⟨.LK_DROP, 0x20040, [(8, 4)], .lane,
    [⟨31, 24, .rc, .fixed, 0, .number, false⟩,
     ⟨23, 16, .rc, .fixed, 0, .number, false⟩,
     ⟨15, 8, .rc, .fixed, 0, .number, false⟩,
     ⟨7, 0, .rc, .fixed, 0, .number, false⟩]⟩,
  ⟨.LK_FRAMES, 0x20060, [(8, 4)], .lane,
    [⟨31, 16, .rc, .fixed, 0, .number, false⟩,
     ⟨15, 0, .rc, .fixed, 0, .number, false⟩]⟩,
  ⟨.LK_DUP, 0x20080, [(8, 4)], .lane,
    [⟨31, 16, .rc, .fixed, 0, .number, false⟩,
     ⟨15, 0, .rc, .fixed, 0, .number, false⟩]⟩,
  ⟨.LK_IPV4, 0x200a0, [(8, 4)], .lane,
    [⟨31, 0, .rw, .quiesced, 0, .image, false⟩]⟩,
  ⟨.LK_MAC_LO, 0x200c0, [], .alike,
    [⟨31, 0, .ro, .fixed, 0, .image, false⟩]⟩,
  ⟨.LK_MAC_HI, 0x200c4, [], .alike,
    [⟨15, 0, .ro, .fixed, 0, .image, false⟩]⟩,
  ⟨.LK_PROTO, 0x200c8, [], .alike,
    [⟨31, 16, .rw, .quiesced, 0, .image, false⟩,
     ⟨15, 0, .rw, .quiesced, 0, .image, false⟩]⟩,
  ⟨.LK_SESSION, 0x200cc, [], .alike,
    [⟨31, 0, .ro, .fixed, 0, .number, false⟩]⟩,
  ⟨.LK_BIND, 0x20100, [(32, 4)], .alike,
    [⟨31, 31, .ro, .fixed, 0, .image, false⟩,
     ⟨30, 28, .ro, .fixed, 0, .image, false⟩,
     ⟨27, 27, .ro, .fixed, 0, .image, false⟩,
     ⟨26, 24, .ro, .fixed, 0, .image, false⟩]⟩,
  ⟨.LK_SEQ_RX_LO, 0x20200, [(32, 8)], .alike,
    [⟨31, 0, .ro, .fixed, 0, .number, false⟩]⟩
]

def regs_b2_1 : List RegSpec := [
  ⟨.LK_SEQ_RX_HI, 0x20204, [(32, 8)], .alike,
    [⟨15, 0, .ro, .fixed, 0, .number, false⟩]⟩,
  ⟨.LK_SEQ_TX_LO, 0x20300, [(32, 8)], .alike,
    [⟨31, 0, .ro, .fixed, 0, .number, false⟩]⟩,
  ⟨.LK_SEQ_TX_HI, 0x20304, [(32, 8)], .alike,
    [⟨15, 0, .ro, .fixed, 0, .number, false⟩]⟩,
  ⟨.LK_TXWIN, 0x20400, [(8, 0x40), (16, 4)], .lane,
    [⟨31, 31, .rw, .framed, 0, .image, false⟩,
     ⟨30, 26, .rw, .framed, 0, .image, false⟩,
     ⟨25, 13, .rw, .framed, 0, .image, false⟩,
     ⟨12, 0, .rw, .framed, 0, .image, false⟩]⟩
]

def regs_b2 : List RegSpec := regs_b2_0 ++ regs_b2_1

def regs_b3_0 : List RegSpec := [
  ⟨.FT_CTRL, 0x30000, [], .shared,
    [⟨31, 31, .rw, .framed, 0, .image, false⟩,
     ⟨30, 30, .rw, .framed, 0, .image, false⟩,
     ⟨29, 29, .w1s, .live, 0, .number, false⟩,
     ⟨28, 28, .w1s, .live, 0, .number, false⟩,
     ⟨15, 0, .rw, .framed, 0x3e8, .number, false⟩]⟩,
  ⟨.FT_STATUS, 0x30004, [], .shared,
    [⟨31, 31, .ro, .fixed, 0, .number, false⟩,
     ⟨30, 30, .ro, .fixed, 0, .number, false⟩,
     ⟨29, 29, .ro, .fixed, 0, .number, false⟩,
     ⟨28, 28, .ro, .fixed, 0, .number, false⟩,
     ⟨23, 23, .ro, .fixed, 0, .number, false⟩,
     ⟨22, 22, .ro, .fixed, 1, .number, false⟩,
     ⟨21, 21, .ro, .fixed, 0, .number, false⟩,
     ⟨19, 19, .ro, .fixed, 0, .number, false⟩,
     ⟨18, 18, .ro, .fixed, 1, .number, false⟩,
     ⟨17, 17, .ro, .fixed, 0, .number, false⟩,
     ⟨1, 1, .ro, .fixed, 0, .number, false⟩]⟩,
  ⟨.FT_EVENTS, 0x30008, [], .shared,
    [⟨31, 24, .rc, .fixed, 0, .number, false⟩,
     ⟨23, 16, .rc, .fixed, 0, .number, false⟩,
     ⟨15, 8, .rc, .fixed, 0, .number, false⟩,
     ⟨7, 0, .rc, .fixed, 0, .number, false⟩]⟩,
  ⟨.FT_PHASE, 0x3000c, [], .shared,
    [⟨31, 0, .ro, .fixed, 0, .number, false⟩]⟩,
  ⟨.FT_TD_CFG, 0x30100, [(2, 0x40)], .shared,
    [⟨31, 31, .rw, .framed, 0, .image, false⟩,
     ⟨15, 0, .rw, .framed, 0, .image, false⟩]⟩,
  ⟨.FT_TD_INCR_LO, 0x30104, [(2, 0x40)], .shared,
    [⟨31, 0, .rw, .live, 0x66666666, .number, false⟩]⟩,
  ⟨.FT_TD_INCR_HI, 0x30108, [(2, 0x40)], .shared,
    [⟨31, 0, .rw, .live, 6, .number, false⟩]⟩,
  ⟨.FT_TD_SET_SEC_HI, 0x3010c, [(2, 0x40)], .shared,
    [⟨15, 0, .wo, .live, 0, .number, false⟩]⟩,
  ⟨.FT_TD_SET_SEC_LO, 0x30110, [(2, 0x40)], .shared,
    [⟨31, 0, .wo, .live, 0, .number, false⟩]⟩,
  ⟨.FT_TD_SET_NS, 0x30114, [(2, 0x40)], .shared,
    [⟨31, 0, .wo, .live, 0, .number, false⟩]⟩,
  ⟨.FT_TD_ADJ, 0x30118, [(2, 0x40)], .shared,
    [⟨31, 0, .wo, .live, 0, .number, false⟩]⟩,
  ⟨.FT_CAP_SEC_HI, 0x30200, [(3, 0x10)], .shared,
    [⟨15, 0, .ro, .fixed, 0, .number, false⟩]⟩
]

def regs_b3_1 : List RegSpec := [
  ⟨.FT_CAP_SEC_LO, 0x30204, [(3, 0x10)], .shared,
    [⟨31, 0, .ro, .fixed, 0, .number, false⟩]⟩,
  ⟨.FT_CAP_NS, 0x30208, [(3, 0x10)], .shared,
    [⟨31, 0, .ro, .fixed, 0, .number, false⟩]⟩,
  ⟨.FT_CAP_FRAC, 0x3020c, [(3, 0x10)], .shared,
    [⟨31, 0, .ro, .fixed, 0, .number, false⟩]⟩,
  ⟨.FT_CAP_FRAME_LO, 0x30230, [], .shared,
    [⟨31, 0, .ro, .fixed, 0, .number, false⟩]⟩,
  ⟨.FT_CAP_FRAME_HI, 0x30234, [], .shared,
    [⟨31, 0, .ro, .fixed, 0, .number, false⟩]⟩,
  ⟨.FT_PPS_CFG, 0x30300, [], .shared,
    [⟨31, 31, .rw, .framed, 0, .image, false⟩,
     ⟨30, 29, .rw, .framed, 0, .image, false⟩,
     ⟨7, 0, .rw, .framed, 0, .image, false⟩]⟩,
  ⟨.FT_PPS_OFFSET, 0x30304, [], .shared,
    [⟨31, 0, .rw, .framed, 0, .number, false⟩]⟩,
  ⟨.FT_TS_CFG, 0x30400, [(11, 4)], .shared,
    [⟨31, 30, .rw, .framed, 2, .number, false⟩,
     ⟨29, 29, .rw, .framed, 0, .number, false⟩,
     ⟨3, 3, .rw, .framed, 0, .number, false⟩,
     ⟨2, 2, .rw, .framed, 0, .number, false⟩,
     ⟨1, 1, .rw, .framed, 0, .number, false⟩,
     ⟨0, 0, .rw, .framed, 0, .number, false⟩]⟩,
  ⟨.FT_TS_STATUS, 0x30440, [(11, 4)], .shared,
    [⟨22, 16, .ro, .fixed, 0, .number, false⟩,
     ⟨15, 0, .rc, .fixed, 0, .number, false⟩]⟩,
  ⟨.FT_TS_POP, 0x30500, [(11, 0x20), (6, 4)], .shared,
    [⟨31, 0, .rc, .fixed, 0, .number, false⟩]⟩,
  ⟨.FT_RING_DELAY, 0x30700, [(2, 4)], .shared,
    [⟨31, 31, .ro, .fixed, 1, .number, false⟩,
     ⟨30, 0, .ro, .fixed, 0, .number, false⟩]⟩,
  ⟨.FT_RING_ASYM, 0x30708, [(2, 4)], .shared,
    [⟨31, 0, .rw, .framed, 0, .number, false⟩]⟩
]

def regs_b3 : List RegSpec := regs_b3_0 ++ regs_b3_1

def regs_b4_0 : List RegSpec := [
  ⟨.SCH_CTRL, 0x40000, [], .alike,
    [⟨31, 24, .rw, .framed, 0xff, .number, false⟩,
     ⟨23, 16, .rw, .framed, 0x40, .number, false⟩,
     ⟨7, 0, .rw, .framed, 0x20, .number, false⟩]⟩,
  ⟨.SCH_STATUS, 0x40004, [], .alike,
    [⟨31, 16, .ro, .fixed, 0, .number, false⟩,
     ⟨8, 0, .ro, .fixed, 0, .number, false⟩]⟩,
  ⟨.SCH_EVENTS, 0x40008, [], .alike,
    [⟨31, 24, .rc, .fixed, 0, .number, false⟩,
     ⟨23, 16, .rc, .fixed, 0, .number, false⟩,
     ⟨15, 8, .rc, .fixed, 0, .number, false⟩,
     ⟨7, 0, .rc, .fixed, 0, .number, false⟩]⟩,
  ⟨.SCH_EVENTS2, 0x4000c, [], .alike,
    [⟨31, 24, .rc, .fixed, 0, .number, false⟩,
     ⟨23, 16, .rc, .fixed, 0, .number, false⟩]⟩,
  ⟨.SCH_QCFG, 0x40100, [(16, 4)], .alike,
    [⟨31, 24, .rw, .framed, 0, .image, false⟩,
     ⟨23, 16, .rw, .framed, 0, .image, false⟩,
     ⟨15, 8, .rw, .framed, 0x40, .number, false⟩,
     ⟨7, 0, .rw, .framed, 0x40, .number, false⟩]⟩,
  ⟨.SCH_QSTAT, 0x40140, [(16, 4)], .alike,
    [⟨31, 30, .ro, .fixed, 0, .number, false⟩,
     ⟨29, 28, .ro, .fixed, 0, .number, false⟩,
     ⟨13, 7, .ro, .fixed, 0, .number, false⟩,
     ⟨6, 0, .ro, .fixed, 0, .number, false⟩]⟩,
  ⟨.SCH_METER_RATE, 0x40200, [(16, 0x20), (2, 0x10)], .alike,
    [⟨31, 16, .rw, .framed, 0, .image, false⟩,
     ⟨15, 0, .rw, .framed, 0, .image, false⟩]⟩,
  ⟨.SCH_METER_BURST, 0x40204, [(16, 0x20), (2, 0x10)], .alike,
    [⟨31, 16, .rw, .framed, 0, .image, false⟩,
     ⟨15, 0, .rw, .framed, 0, .image, false⟩]⟩,
  ⟨.SCH_METER_TC, 0x40208, [(16, 0x20), (2, 0x10)], .alike,
    [⟨31, 0, .ro, .fixed, 0, .number, false⟩]⟩,
  ⟨.SCH_METER_TP, 0x4020c, [(16, 0x20), (2, 0x10)], .alike,
    [⟨31, 0, .ro, .fixed, 0, .number, false⟩]⟩,
  ⟨.SCH_TH_CFG, 0x40800, [(97, 0x10)], .alike,
    [⟨31, 16, .rw, .framed, 0, .image, false⟩,
     ⟨15, 0, .rw, .framed, 0, .image, false⟩]⟩,
  ⟨.SCH_TH_DEBT, 0x40804, [(97, 0x10)], .alike,
    [⟨15, 0, .rw, .framed, 0, .image, false⟩]⟩
]

def regs_b4_1 : List RegSpec := [
  ⟨.SCH_TH_TOKENS, 0x40808, [(97, 0x10)], .alike,
    [⟨31, 0, .ro, .fixed, 0, .number, false⟩]⟩,
  ⟨.SCH_TH_STAT, 0x4080c, [(97, 0x10)], .alike,
    [⟨31, 31, .ro, .fixed, 0, .number, false⟩,
     ⟨30, 30, .ro, .fixed, 0, .number, false⟩]⟩,
  ⟨.SCH_HIST, 0x42000, [(33, 0x100), (16, 4)], .alike,
    [⟨31, 16, .rc, .fixed, 0, .number, false⟩,
     ⟨15, 0, .rc, .fixed, 0, .number, false⟩]⟩,
  ⟨.SCH_HIST_MAX, 0x42040, [(33, 0x100)], .alike,
    [⟨31, 16, .rc, .fixed, 0, .number, false⟩,
     ⟨15, 0, .rc, .fixed, 0, .number, false⟩]⟩
]

def regs_b4 : List RegSpec := regs_b4_0 ++ regs_b4_1

def regs_b5_0 : List RegSpec := [
  ⟨.RT_FABRIC, 0x50000, [], .priv,
    [⟨27, 24, .ro, .fixed, 0, .image, false⟩,
     ⟨23, 20, .ro, .fixed, 0, .image, false⟩,
     ⟨13, 0, .ro, .fixed, 0, .image, false⟩]⟩,
  ⟨.RT_CTRL, 0x50004, [], .priv,
    [⟨0, 0, .rw, .live, 0, .number, false⟩]⟩,
  ⟨.RT_STATUS, 0x50008, [], .priv,
    [⟨31, 31, .ro, .fixed, 0, .number, false⟩,
     ⟨30, 30, .ro, .fixed, 0, .number, false⟩,
     ⟨26, 16, .ro, .fixed, 0, .number, false⟩,
     ⟨10, 0, .ro, .fixed, 0, .number, false⟩]⟩,
  ⟨.RT_HIT_POLICY, 0x5000c, [], .priv,
    [⟨15, 0, .rw, .framed, 0, .image, false⟩]⟩,
  ⟨.RT_LAST_BLOCK, 0x50010, [], .priv,
    [⟨31, 29, .ro, .fixed, 0, .number, false⟩,
     ⟨28, 24, .ro, .fixed, 0, .number, false⟩,
     ⟨13, 0, .ro, .fixed, 0, .number, false⟩]⟩,
  ⟨.RT_EVENTS, 0x50014, [], .priv,
    [⟨29, 20, .rc, .fixed, 0, .number, false⟩,
     ⟨19, 10, .rc, .fixed, 0, .number, false⟩,
     ⟨9, 0, .rc, .fixed, 0, .number, false⟩]⟩,
  ⟨.RT_MARGIN, 0x50018, [], .priv,
    [⟨31, 16, .ro, .fixed, 0xffff, .number, false⟩,
     ⟨15, 0, .ro, .fixed, 0xffff, .number, false⟩]⟩,
  ⟨.RT_MAP_DIGEST_LO, 0x50020, [], .priv,
    [⟨31, 0, .ro, .fixed, 0x98fc1c14, .number, false⟩]⟩,
  ⟨.RT_MAP_DIGEST_HI, 0x50024, [], .priv,
    [⟨31, 0, .ro, .fixed, 0xe3b0c442, .number, false⟩]⟩,
  ⟨.RT_REMAP, 0x50030, [], .priv,
    [⟨31, 31, .rw, .quiesced, 0, .number, false⟩,
     ⟨13, 0, .rw, .quiesced, 0, .number, false⟩]⟩,
  ⟨.RT_TEN_STATUS, 0x50100, [(16, 4)], .priv,
    [⟨31, 31, .ro, .fixed, 0, .number, false⟩,
     ⟨30, 30, .ro, .fixed, 0, .number, false⟩,
     ⟨27, 24, .ro, .fixed, 0, .number, false⟩,
     ⟨22, 16, .ro, .fixed, 0, .number, false⟩,
     ⟨13, 0, .ro, .fixed, 0, .number, false⟩]⟩,
  ⟨.RT_CELL_COMMITTED, 0x51000, [(320, 4)], .priv,
    [⟨31, 0, .ro, .fixed, 0, .number, false⟩]⟩
]

def regs_b5_1 : List RegSpec := [
  ⟨.RT_CELL_PENDING, 0x52000, [(320, 4)], .priv,
    [⟨31, 0, .ro, .fixed, 0, .number, false⟩]⟩,
  ⟨.RT_CELL_FAILED, 0x53000, [(320, 4)], .priv,
    [⟨31, 0, .ro, .fixed, 0, .number, false⟩]⟩,
  ⟨.RT_CELL_RESERVED, 0x54000, [(320, 4)], .priv,
    [⟨31, 0, .ro, .fixed, 0, .number, false⟩]⟩,
  ⟨.CM_CTRL, 0x50040, [], .priv,
    [⟨23, 16, .rw, .framed, 0x40, .number, false⟩,
     ⟨12, 8, .rw, .framed, 5, .number, false⟩,
     ⟨3, 0, .rw, .framed, 4, .number, false⟩]⟩,
  ⟨.CM_LAST_LO, 0x50044, [], .priv,
    [⟨31, 0, .ro, .fixed, 0, .number, false⟩]⟩,
  ⟨.CM_LAST_HI, 0x50048, [], .priv,
    [⟨31, 0, .ro, .fixed, 0, .number, false⟩]⟩,
  ⟨.CM_STATUS, 0x5004c, [], .priv,
    [⟨27, 24, .ro, .fixed, 0, .number, false⟩,
     ⟨23, 16, .ro, .fixed, 0, .number, false⟩,
     ⟨15, 15, .ro, .fixed, 0, .number, false⟩,
     ⟨13, 0, .ro, .fixed, 0, .number, false⟩]⟩,
  ⟨.CM_EVENTS, 0x50050, [], .priv,
    [⟨29, 20, .rc, .fixed, 0, .number, false⟩,
     ⟨19, 10, .rc, .fixed, 0, .number, false⟩,
     ⟨9, 0, .rc, .fixed, 0, .number, false⟩]⟩,
  ⟨.CM_SETTLE_MAX, 0x50054, [], .priv,
    [⟨27, 16, .ro, .fixed, 0, .number, false⟩,
     ⟨15, 15, .ro, .fixed, 0, .number, false⟩,
     ⟨10, 0, .ro, .fixed, 0, .number, false⟩]⟩
]

def regs_b5 : List RegSpec := regs_b5_0 ++ regs_b5_1

def regs_b6_0 : List RegSpec := [
  ⟨.FC_CTRL, 0x60000, [], .faults,
    [⟨31, 31, .w1s, .live, 0, .number, false⟩,
     ⟨2, 0, .rw, .framed, 3, .number, false⟩]⟩,
  ⟨.FC_STATUS, 0x60004, [], .faults,
    [⟨31, 31, .ro, .fixed, 0, .number, false⟩,
     ⟨30, 30, .ro, .fixed, 0, .number, false⟩,
     ⟨29, 29, .ro, .fixed, 0, .number, false⟩,
     ⟨28, 28, .ro, .fixed, 0, .number, false⟩,
     ⟨27, 24, .ro, .fixed, 0, .number, false⟩,
     ⟨23, 16, .ro, .fixed, 0, .number, false⟩,
     ⟨15, 8, .rc, .fixed, 0, .number, false⟩,
     ⟨7, 0, .rc, .fixed, 0, .number, false⟩]⟩,
  ⟨.FC_FIRST, 0x60010, [(6, 4)], .faults,
    [⟨31, 0, .ro, .fixed, 0, .number, false⟩]⟩,
  ⟨.FC_LAST, 0x60030, [(6, 4)], .faults,
    [⟨31, 0, .ro, .fixed, 0, .number, false⟩]⟩,
  ⟨.FC_SLOT0, 0x60050, [(6, 4)], .faults,
    [⟨31, 0, .ro, .fixed, 0, .number, false⟩]⟩,
  ⟨.FC_SLOT1, 0x60070, [(6, 4)], .faults,
    [⟨31, 0, .ro, .fixed, 0, .number, false⟩]⟩,
  ⟨.FC_ACK, 0x60090, [], .faults,
    [⟨1, 1, .w1s, .live, 0, .number, false⟩,
     ⟨0, 0, .w1s, .live, 0, .number, false⟩]⟩,
  ⟨.FC_UNFENCE, 0x600a0, [], .faults,
    [⟨31, 31, .w1s, .live, 0, .number, false⟩,
     ⟨26, 24, .rw, .live, 0, .number, false⟩,
     ⟨6, 0, .rw, .live, 0, .number, false⟩]⟩,
  ⟨.FC_FENCED_TILE, 0x600b0, [(3, 4)], .faults,
    [⟨31, 0, .ro, .fixed, 0, .number, false⟩]⟩,
  ⟨.FC_FENCED_MISC, 0x600bc, [], .faults,
    [⟨31, 16, .ro, .fixed, 0, .number, false⟩,
     ⟨10, 10, .ro, .fixed, 0, .number, false⟩,
     ⟨9, 8, .ro, .fixed, 0, .number, false⟩,
     ⟨7, 0, .ro, .fixed, 0, .number, false⟩]⟩,
  ⟨.FC_QUEUE, 0x60400, [(64, 0x20), (6, 4)], .faults,
    [⟨31, 0, .ro, .fixed, 0, .number, false⟩]⟩,
  ⟨.FC_SEV, 0x61000, [(16, 0x80), (32, 4)], .faults,
    [⟨30, 28, .rw, .framed, 0, .image, false⟩,
     ⟨26, 24, .rw, .framed, 0, .image, false⟩,
     ⟨22, 20, .rw, .framed, 0, .image, false⟩,
     ⟨18, 16, .rw, .framed, 0, .image, false⟩,
     ⟨14, 12, .rw, .framed, 0, .image, false⟩,
     ⟨10, 8, .rw, .framed, 0, .image, false⟩,
     ⟨6, 4, .rw, .framed, 0, .image, false⟩,
     ⟨2, 0, .rw, .framed, 0, .image, false⟩]⟩
]

def regs_b6_1 : List RegSpec := [
  ⟨.FC_COUNT, 0x68000, [(4096, 4)], .faults,
    [⟨15, 0, .rc, .fixed, 0, .number, false⟩]⟩
]

def regs_b6 : List RegSpec := regs_b6_0 ++ regs_b6_1

def regs_b7_0 : List RegSpec := [
  ⟨.PW_STATE, 0x70000, [], .shared,
    [⟨31, 31, .ro, .fixed, 0, .number, false⟩,
     ⟨30, 30, .w1c, .fixed, 0, .number, false⟩,
     ⟨26, 24, .ro, .fixed, 0, .number, false⟩,
     ⟨22, 16, .ro, .fixed, 0, .number, false⟩,
     ⟨2, 0, .ro, .fixed, 0, .number, false⟩]⟩,
  ⟨.PW_CFG, 0x70004, [], .shared,
    [⟨13, 12, .rw, .framed, 0, .image, false⟩,
     ⟨9, 8, .rw, .framed, 0, .image, false⟩,
     ⟨5, 4, .rw, .framed, 0, .image, false⟩,
     ⟨1, 0, .rw, .framed, 0, .image, false⟩]⟩,
  ⟨.PW_DOMAIN_ON, 0x70010, [(3, 4)], .shared,
    [⟨31, 0, .ro, .fixed, 0, .number, false⟩]⟩,
  ⟨.PW_RET_FAIL, 0x70020, [(3, 4)], .shared,
    [⟨31, 0, .w1c, .fixed, 0, .number, false⟩]⟩,
  ⟨.PW_RTC_LO, 0x70030, [], .shared,
    [⟨31, 0, .rw, .live, 0, .number, false⟩]⟩,
  ⟨.PW_RTC_HI, 0x70034, [], .shared,
    [⟨15, 0, .rw, .live, 0, .number, false⟩]⟩,
  ⟨.PW_ALARM_LO, 0x70038, [], .shared,
    [⟨31, 0, .rw, .live, 0, .number, false⟩]⟩,
  ⟨.PW_ALARM_HI, 0x7003c, [], .shared,
    [⟨31, 31, .rw, .live, 0, .number, false⟩,
     ⟨15, 0, .rw, .live, 0, .number, false⟩]⟩,
  ⟨.PW_STALL, 0x70040, [], .shared,
    [⟨31, 24, .rc, .fixed, 0, .number, false⟩,
     ⟨22, 16, .ro, .fixed, 0, .number, false⟩,
     ⟨15, 0, .ro, .fixed, 0, .number, false⟩]⟩
]

def regs_b7 : List RegSpec := regs_b7_0

def regs_b8_0 : List RegSpec := [
  ⟨.TH_CFG, 0x80000, [], .shared,
    [⟨27, 24, .rw, .framed, 3, .number, false⟩,
     ⟨23, 16, .rw, .framed, 0x69, .number, false⟩,
     ⟨15, 8, .rw, .framed, 0x64, .number, false⟩,
     ⟨7, 0, .rw, .framed, 0x5f, .number, false⟩]⟩,
  ⟨.TH_STATUS, 0x80004, [], .shared,
    [⟨31, 31, .ro, .fixed, 0, .number, false⟩,
     ⟨30, 30, .ro, .fixed, 0, .number, false⟩,
     ⟨29, 29, .ro, .fixed, 0, .number, false⟩,
     ⟨26, 24, .ro, .fixed, 0, .number, false⟩,
     ⟨22, 20, .ro, .fixed, 0, .number, false⟩,
     ⟨19, 16, .ro, .fixed, 0, .number, false⟩,
     ⟨11, 0, .ro, .fixed, 0, .number, false⟩]⟩,
  ⟨.TH_EVENTS, 0x80008, [], .shared,
    [⟨31, 24, .rc, .fixed, 0, .number, false⟩,
     ⟨23, 16, .rc, .fixed, 0, .number, false⟩,
     ⟨15, 0, .ro, .fixed, 0, .stored, false⟩]⟩,
  ⟨.TH_MASK, 0x80010, [(3, 4)], .shared,
    [⟨31, 0, .rw, .framed, 0, .number, false⟩]⟩,
  ⟨.TH_ZONE, 0x80020, [(10, 4)], .shared,
    [⟨31, 29, .ro, .fixed, 0, .number, false⟩,
     ⟨28, 25, .ro, .fixed, 0, .number, false⟩,
     ⟨24, 24, .ro, .fixed, 0, .number, false⟩,
     ⟨11, 0, .ro, .fixed, 0, .number, false⟩]⟩,
  ⟨.TH_SENSOR, 0x80100, [(96, 4)], .shared,
    [⟨31, 31, .ro, .fixed, 0, .number, false⟩,
     ⟨30, 30, .ro, .fixed, 0, .number, false⟩,
     ⟨29, 29, .ro, .fixed, 0, .number, false⟩,
     ⟨28, 28, .ro, .fixed, 0, .number, false⟩,
     ⟨27, 24, .ro, .fixed, 0, .wired, false⟩,
     ⟨23, 22, .ro, .fixed, 0, .number, false⟩,
     ⟨11, 0, .ro, .fixed, 0, .number, false⟩]⟩,
  ⟨.TH_TRIM, 0x80200, [(96, 4)], .shared,
    [⟨31, 16, .ro, .fixed, 0, .stored, false⟩,
     ⟨15, 0, .ro, .fixed, 0, .stored, false⟩]⟩
]

def regs_b8 : List RegSpec := regs_b8_0

def regs_b9_0 : List RegSpec := [
  ⟨.HKA_CTRL, 0x90000, [], .shared,
    [⟨1, 1, .rw, .framed, 1, .number, false⟩,
     ⟨0, 0, .w1s, .live, 0, .number, false⟩]⟩,
  ⟨.HKA_STATUS, 0x90004, [], .shared,
    [⟨31, 31, .ro, .fixed, 0, .number, false⟩,
     ⟨30, 30, .ro, .fixed, 0, .number, false⟩,
     ⟨27, 24, .ro, .fixed, 0, .number, false⟩,
     ⟨23, 16, .ro, .fixed, 0, .number, false⟩,
     ⟨15, 8, .rc, .fixed, 0, .number, false⟩,
     ⟨7, 0, .rc, .fixed, 0, .number, false⟩]⟩,
  ⟨.HKA_INJECT, 0x90008, [], .shared,
    [⟨31, 24, .wo, .live, 0, .number, false⟩,
     ⟨6, 0, .wo, .live, 0, .number, false⟩]⟩,
  ⟨.HKA_INJ_RESULT, 0x9000c, [], .shared,
    [⟨31, 31, .rc, .fixed, 0, .number, false⟩,
     ⟨30, 24, .rc, .fixed, 0, .number, false⟩,
     ⟨23, 16, .rc, .fixed, 0, .number, false⟩,
     ⟨15, 0, .rc, .fixed, 0, .number, false⟩]⟩,
  ⟨.HKA_RESULT, 0x91000, [(128, 4)], .shared,
    [⟨31, 31, .ro, .fixed, 0, .number, false⟩,
     ⟨30, 30, .ro, .fixed, 0, .number, false⟩,
     ⟨23, 16, .ro, .fixed, 0, .number, false⟩,
     ⟨15, 0, .ro, .fixed, 0, .number, false⟩]⟩,
  ⟨.HKA_LIMIT, 0x92000, [(128, 4)], .shared,
    [⟨31, 16, .rw, .framed, 0, .image, false⟩,
     ⟨15, 0, .rw, .framed, 0, .image, false⟩]⟩,
  ⟨.HKA_CAL, 0x90020, [], .shared,
    [⟨31, 31, .w1c, .fixed, 0, .number, false⟩,
     ⟨30, 30, .ro, .fixed, 0, .number, false⟩,
     ⟨29, 26, .ro, .fixed, 0, .number, false⟩,
     ⟨25, 16, .rw, .framed, 0, .image, false⟩,
     ⟨7, 0, .rw, .framed, 0, .image, false⟩]⟩
]

def regs_b9 : List RegSpec := regs_b9_0

def regs_bA_0 : List RegSpec := [
  ⟨.ST_CTRL, 0xa0000, [(8, 0x80)], .priv,
    [⟨31, 30, .rw, .quiesced, 0, .number, false⟩,
     ⟨29, 27, .rw, .quiesced, 0, .number, false⟩,
     ⟨26, 25, .rw, .quiesced, 0, .number, false⟩,
     ⟨15, 8, .rw, .quiesced, 0, .number, false⟩,
     ⟨3, 3, .ro, .fixed, 0, .number, false⟩,
     ⟨2, 2, .w1s, .live, 0, .number, false⟩,
     ⟨1, 1, .w1s, .live, 0, .number, false⟩,
     ⟨0, 0, .w1s, .live, 0, .number, false⟩]⟩,
  ⟨.ST_RATE, 0xa0004, [(8, 0x80)], .priv,
    [⟨31, 0, .rw, .quiesced, 0x80000, .number, false⟩]⟩,
  ⟨.ST_TRIG_FRAME_LO, 0xa0008, [(8, 0x80)], .priv,
    [⟨31, 0, .rw, .quiesced, 0, .number, false⟩]⟩,
  ⟨.ST_TRIG_FRAME_HI, 0xa000c, [(8, 0x80)], .priv,
    [⟨31, 0, .rw, .quiesced, 0, .number, false⟩]⟩,
  ⟨.ST_STATUS, 0xa0010, [(8, 0x80)], .priv,
    [⟨31, 31, .ro, .fixed, 0, .number, false⟩,
     ⟨30, 30, .ro, .fixed, 0, .number, false⟩,
     ⟨29, 27, .ro, .fixed, 0, .number, false⟩,
     ⟨23, 16, .rc, .fixed, 0, .number, false⟩,
     ⟨7, 0, .ro, .fixed, 0, .number, false⟩]⟩,
  ⟨.ST_START_LO, 0xa0014, [(8, 0x80)], .priv,
    [⟨31, 0, .ro, .fixed, 0, .number, false⟩]⟩,
  ⟨.ST_START_HI, 0xa0018, [(8, 0x80)], .priv,
    [⟨31, 0, .ro, .fixed, 0, .number, false⟩]⟩,
  ⟨.ST_START_OFS, 0xa001c, [(8, 0x80)], .priv,
    [⟨5, 0, .ro, .fixed, 0, .number, false⟩]⟩,
  ⟨.ST_OUT, 0xa0020, [(8, 0x80)], .priv,
    [⟨31, 16, .ro, .fixed, 0, .number, false⟩,
     ⟨15, 0, .ro, .fixed, 0, .number, false⟩]⟩,
  ⟨.ST_COND0, 0xa0040, [(8, 0x80), (4, 8)], .priv,
    [⟨31, 30, .rw, .framed, 0, .number, false⟩,
     ⟨29, 29, .rw, .framed, 0, .number, false⟩,
     ⟨15, 0, .rw, .framed, 0, .number, false⟩]⟩,
  ⟨.ST_COND1, 0xa0044, [(8, 0x80), (4, 8)], .priv,
    [⟨31, 31, .rw, .framed, 0, .number, false⟩,
     ⟨30, 28, .rw, .framed, 0, .number, false⟩,
     ⟨23, 0, .rw, .framed, 0, .number, false⟩]⟩,
  ⟨.ST_PROG, 0xa1000, [(8, 0x400), (256, 4)], .priv,
    [⟨31, 0, .rw, .quiesced, 0, .image, false⟩]⟩
]

def regs_bA_1 : List RegSpec := [
  ⟨.ST_WAVE, 0xa4000, [(8, 0x800), (256, 4)], .priv,
    [⟨31, 16, .rw, .quiesced, 0, .image, false⟩,
     ⟨15, 0, .rw, .quiesced, 0, .image, false⟩]⟩,
  ⟨.AUX_CFG, 0xa0600, [(4, 4)], .shared,
    [⟨31, 31, .rw, .framed, 0, .number, false⟩,
     ⟨30, 30, .rw, .framed, 0, .number, false⟩,
     ⟨2, 0, .rw, .framed, 0, .number, false⟩]⟩,
  ⟨.RSP_CTRL, 0xa0400, [(4, 0x20)], .shared,
    [⟨31, 31, .rw, .framed, 0, .number, false⟩,
     ⟨30, 30, .rw, .quiesced, 0, .number, false⟩,
     ⟨29, 29, .rw, .quiesced, 0, .number, false⟩,
     ⟨28, 24, .rw, .quiesced, 0xc, .number, false⟩,
     ⟨20, 16, .rw, .quiesced, 0x1e, .number, true⟩,
     ⟨15, 0, .rw, .quiesced, 0, .number, false⟩]⟩,
  ⟨.MT_CTRL, 0xa0500, [], .privOwn,
    [⟨31, 31, .w1s, .live, 0, .number, false⟩,
     ⟨30, 30, .w1s, .live, 0, .number, false⟩,
     ⟨29, 28, .rw, .quiesced, 0, .number, false⟩,
     ⟨27, 26, .rw, .quiesced, 1, .number, false⟩,
     ⟨25, 24, .rw, .quiesced, 0, .number, false⟩,
     ⟨23, 21, .rw, .quiesced, 0, .number, false⟩,
     ⟨20, 20, .rw, .quiesced, 0, .number, false⟩,
     ⟨19, 13, .rw, .quiesced, 0, .number, false⟩,
     ⟨12, 8, .rw, .quiesced, 0xc, .number, false⟩]⟩,
  ⟨.MT_BASE, 0xa0514, [], .privOwn,
    [⟨21, 12, .rw, .quiesced, 0, .number, false⟩]⟩,
  ⟨.MT_STATUS, 0xa0504, [], .privOwn,
    [⟨31, 31, .ro, .fixed, 0, .number, false⟩,
     ⟨30, 30, .w1c, .fixed, 0, .number, false⟩,
     ⟨29, 29, .ro, .fixed, 0, .number, false⟩,
     ⟨28, 28, .w1c, .fixed, 0, .number, false⟩,
     ⟨27, 27, .w1c, .fixed, 0, .number, false⟩,
     ⟨26, 24, .ro, .fixed, 0, .number, false⟩,
     ⟨23, 20, .ro, .fixed, 0, .number, false⟩,
     ⟨19, 0, .ro, .fixed, 0, .number, false⟩]⟩,
  ⟨.MT_FAIL_ADDR, 0xa0508, [], .privOwn,
    [⟨31, 0, .ro, .fixed, 0, .number, false⟩]⟩,
  ⟨.MT_FAIL_BITS, 0xa050c, [], .privOwn,
    [⟨31, 0, .ro, .fixed, 0, .number, false⟩]⟩,
  ⟨.MT_FAIL_CHECK, 0xa0510, [], .privOwn,
    [⟨6, 0, .ro, .fixed, 0, .number, false⟩]⟩,
  ⟨.RSP_BASE, 0xa0404, [(4, 0x20)], .shared,
    [⟨21, 12, .rw, .quiesced, 0, .number, false⟩]⟩,
  ⟨.RSP_WMARK, 0xa0408, [(4, 0x20)], .shared,
    [⟨20, 0, .rw, .live, 0, .number, false⟩]⟩,
  ⟨.RSP_WPTR, 0xa040c, [(4, 0x20)], .shared,
    [⟨31, 0, .ro, .fixed, 0, .number, false⟩]⟩
]

def regs_bA_2 : List RegSpec := [
  ⟨.RSP_RPTR, 0xa0410, [(4, 0x20)], .shared,
    [⟨31, 0, .rw, .live, 0, .number, false⟩]⟩,
  ⟨.RSP_STATUS, 0xa0414, [(4, 0x20)], .shared,
    [⟨31, 31, .ro, .fixed, 0, .number, false⟩,
     ⟨7, 5, .ro, .fixed, 0, .number, false⟩,
     ⟨4, 4, .w1c, .fixed, 0, .number, false⟩,
     ⟨3, 3, .w1c, .fixed, 0, .number, false⟩,
     ⟨2, 2, .w1c, .fixed, 0, .number, false⟩,
     ⟨1, 1, .w1c, .fixed, 0, .number, false⟩,
     ⟨0, 0, .w1c, .fixed, 0, .number, false⟩]⟩,
  ⟨.RSP_START_LO, 0xa0418, [(4, 0x20)], .shared,
    [⟨31, 0, .ro, .fixed, 0, .number, false⟩]⟩,
  ⟨.RSP_START_HI, 0xa041c, [(4, 0x20)], .shared,
    [⟨31, 0, .ro, .fixed, 0, .number, false⟩]⟩
]

def regs_bA : List RegSpec := regs_bA_0 ++ regs_bA_1 ++ regs_bA_2

def regs_bB_0 : List RegSpec := [
  ⟨.PR_STATUS, 0xb0000, [], .shared,
    [⟨31, 31, .ro, .fixed, 0, .number, false⟩,
     ⟨30, 30, .ro, .fixed, 0, .number, false⟩,
     ⟨28, 24, .ro, .fixed, 0, .number, false⟩,
     ⟨23, 16, .rc, .fixed, 0, .number, false⟩,
     ⟨15, 0, .ro, .fixed, 0, .number, false⟩]⟩,
  ⟨.PR_LOCK, 0xb0004, [], .shared,
    [⟨10, 0, .ro, .fixed, 0, .image, false⟩]⟩,
  ⟨.PR_OWNER, 0xb0008, [], .shared,
    [⟨31, 31, .ro, .fixed, 0, .image, false⟩,
     ⟨30, 28, .ro, .fixed, 0, .image, false⟩,
     ⟨27, 27, .ro, .fixed, 0, .image, false⟩,
     ⟨26, 24, .ro, .fixed, 0, .image, false⟩,
     ⟨0, 0, .ro, .fixed, 0, .strap, false⟩]⟩,
  ⟨.PR_EPOCH, 0xb0100, [(32, 4)], .shared,
    [⟨31, 0, .ro, .fixed, 0, .number, false⟩]⟩,
  ⟨.PR_TEN_CFG, 0xb0200, [(16, 4)], .shared,
    [⟨31, 31, .ro, .fixed, 0, .image, false⟩,
     ⟨30, 28, .ro, .fixed, 0, .image, false⟩,
     ⟨27, 27, .ro, .fixed, 0, .image, false⟩,
     ⟨26, 24, .ro, .fixed, 0, .image, false⟩,
     ⟨23, 23, .ro, .fixed, 0, .image, false⟩,
     ⟨4, 4, .ro, .fixed, 0, .image, false⟩,
     ⟨3, 3, .ro, .fixed, 0, .image, false⟩,
     ⟨2, 2, .ro, .fixed, 0, .image, false⟩,
     ⟨1, 1, .ro, .fixed, 0, .image, false⟩,
     ⟨0, 0, .ro, .fixed, 0, .image, false⟩]⟩,
  ⟨.PR_TEN_IN, 0xb1000, [(16, 0x100), (32, 4)], .shared,
    [⟨31, 0, .ro, .fixed, 0, .image, false⟩]⟩,
  ⟨.PR_TEN_OUT, 0xb1080, [(16, 0x100), (32, 4)], .shared,
    [⟨31, 0, .ro, .fixed, 0, .image, false⟩]⟩,
  ⟨.ATTIC_STATUS, 0xb0010, [], .shared,
    [⟨31, 31, .ro, .fixed, 0, .stored, false⟩,
     ⟨30, 30, .ro, .fixed, 0, .stored, false⟩,
     ⟨29, 29, .ro, .fixed, 0, .number, false⟩,
     ⟨28, 28, .ro, .fixed, 0, .number, false⟩]⟩,
  ⟨.ATTIC_FLOOR, 0xb0014, [], .shared,
    [⟨31, 16, .ro, .fixed, 0, .image, false⟩,
     ⟨15, 0, .ro, .fixed, 0, .stored, false⟩]⟩,
  ⟨.ATTIC_KEY, 0xb0300, [(32, 4)], .shared,
    [⟨31, 31, .ro, .fixed, 0, .stored, false⟩,
     ⟨30, 30, .ro, .fixed, 0, .stored, false⟩,
     ⟨29, 29, .ro, .fixed, 0, .number, false⟩,
     ⟨28, 28, .ro, .fixed, 0, .stored, false⟩,
     ⟨16, 0, .ro, .fixed, 0, .stored, false⟩]⟩,
  ⟨.ATTIC_PROV, 0xb0400, [(24, 4)], .shared,
    [⟨31, 0, .wo, .live, 0, .number, false⟩]⟩,
  ⟨.ATTIC_PROV_GO, 0xb0460, [], .shared,
    [⟨0, 0, .w1s, .live, 0, .number, false⟩]⟩
]

def regs_bB : List RegSpec := regs_bB_0

def regs_bC_0 : List RegSpec := [
  ⟨.AP_TOKEN_CTRL, 0xc0100, [], .shared,
    [⟨15, 0, .rw, .framed, 0x64, .number, false⟩]⟩,
  ⟨.AP_TOKEN_STATUS, 0xc0104, [], .shared,
    [⟨31, 31, .ro, .fixed, 0, .strap, false⟩,
     ⟨23, 16, .ro, .fixed, 0, .number, false⟩,
     ⟨9, 0, .rc, .fixed, 0, .number, false⟩]⟩,
  ⟨.AP_RING_STATUS, 0xc0000, [], .shared,
    [⟨31, 31, .ro, .fixed, 0, .number, false⟩,
     ⟨15, 0, .ro, .fixed, 0, .number, false⟩]⟩,
  ⟨.AP_RING_NODE, 0xc0040, [(16, 4)], .shared,
    [⟨31, 29, .ro, .fixed, 0, .number, false⟩,
     ⟨28, 28, .ro, .fixed, 0, .number, false⟩,
     ⟨15, 0, .ro, .fixed, 0, .number, false⟩]⟩,
  ⟨.AP_RING_DIGEST_LO, 0xc0080, [(16, 8)], .shared,
    [⟨31, 0, .ro, .fixed, 0, .number, false⟩]⟩,
  ⟨.AP_RING_DIGEST_HI, 0xc0084, [(16, 8)], .shared,
    [⟨31, 0, .ro, .fixed, 0, .number, false⟩]⟩
]

def regs_bC : List RegSpec := regs_bC_0

def regs_cap_0 : List RegSpec := [
  ⟨.CAP_CTRL, 0x2400000, [(32, 0x20)], .shared,
    [⟨31, 31, .rw, .framed, 0, .number, false⟩,
     ⟨30, 30, .rw, .quiesced, 0, .number, false⟩,
     ⟨29, 28, .rw, .quiesced, 0, .number, false⟩,
     ⟨27, 23, .rw, .quiesced, 0xc, .number, false⟩,
     ⟨20, 16, .rw, .quiesced, 0x1e, .number, true⟩,
     ⟨11, 0, .rw, .quiesced, 0, .number, false⟩]⟩,
  ⟨.CAP_BASE, 0x2400004, [(32, 0x20)], .shared,
    [⟨21, 12, .rw, .quiesced, 0, .number, false⟩]⟩,
  ⟨.CAP_WMARK, 0x2400008, [(32, 0x20)], .shared,
    [⟨20, 0, .rw, .live, 0, .number, false⟩]⟩,
  ⟨.CAP_WPTR, 0x240000c, [(32, 0x20)], .shared,
    [⟨31, 0, .ro, .fixed, 0, .number, false⟩]⟩,
  ⟨.CAP_RPTR, 0x2400010, [(32, 0x20)], .shared,
    [⟨31, 0, .rw, .live, 0, .number, false⟩]⟩,
  ⟨.CAP_STATUS, 0x2400014, [(32, 0x20)], .shared,
    [⟨31, 31, .ro, .fixed, 0, .number, false⟩,
     ⟨7, 5, .ro, .fixed, 0, .number, false⟩,
     ⟨4, 4, .w1c, .fixed, 0, .number, false⟩,
     ⟨3, 3, .w1c, .fixed, 0, .number, false⟩,
     ⟨2, 2, .w1c, .fixed, 0, .number, false⟩,
     ⟨1, 1, .w1c, .fixed, 0, .number, false⟩,
     ⟨0, 0, .w1c, .fixed, 0, .number, false⟩]⟩,
  ⟨.CAP_START_LO, 0x2400018, [(32, 0x20)], .shared,
    [⟨31, 0, .ro, .fixed, 0, .number, false⟩]⟩,
  ⟨.CAP_START_HI, 0x240001c, [(32, 0x20)], .shared,
    [⟨31, 0, .ro, .fixed, 0, .number, false⟩]⟩
]

def regs_cap : List RegSpec := regs_cap_0

def regs_ctx_0 : List RegSpec := [
  ⟨.CTX_CTL, 0x1000000, [(40960, 0x40)], .priv,
    [⟨31, 31, .rw, .quiesced, 0, .image, false⟩,
     ⟨30, 29, .rw, .quiesced, 0, .image, false⟩,
     ⟨28, 26, .rw, .quiesced, 0, .image, false⟩,
     ⟨25, 25, .rw, .framed, 0, .image, false⟩,
     ⟨24, 24, .rw, .quiesced, 0, .image, false⟩,
     ⟨23, 23, .rw, .framed, 0, .image, false⟩,
     ⟨22, 20, .rw, .quiesced, 0, .image, false⟩,
     ⟨19, 14, .rw, .framed, 0, .image, false⟩,
     ⟨13, 10, .rw, .framed, 0, .image, false⟩,
     ⟨9, 6, .rw, .framed, 0, .image, false⟩,
     ⟨5, 3, .rw, .framed, 0, .number, false⟩,
     ⟨2, 2, .rw, .framed, 0, .image, false⟩]⟩,
  ⟨.CTX_BIND, 0x1000004, [(40960, 0x40)], .priv,
    [⟨31, 24, .rw, .quiesced, 0, .image, false⟩,
     ⟨23, 19, .rw, .quiesced, 0, .image, false⟩,
     ⟨18, 14, .rw, .quiesced, 0, .image, false⟩,
     ⟨13, 13, .rw, .framed, 0, .number, true⟩,
     ⟨12, 8, .rw, .framed, 0, .number, true⟩]⟩,
  ⟨.CTX_SP0, 0x1000008, [(40960, 0x40)], .priv,
    [⟨31, 8, .rw, .framed, 0, .image, false⟩]⟩,
  ⟨.CTX_SP1, 0x100000c, [(40960, 0x40)], .priv,
    [⟨31, 8, .rw, .framed, 0, .image, false⟩]⟩,
  ⟨.CTX_SPSRC, 0x1000010, [(40960, 0x40)], .priv,
    [⟨31, 29, .rw, .framed, 0, .image, false⟩,
     ⟨24, 16, .rw, .framed, 0, .image, false⟩,
     ⟨15, 0, .rw, .framed, 0, .image, false⟩]⟩,
  ⟨.CTX_GAIN, 0x1000014, [(40960, 0x40)], .priv,
    [⟨31, 16, .rw, .framed, 0, .image, false⟩,
     ⟨15, 0, .rw, .framed, 0, .image, false⟩]⟩,
  ⟨.CTX_SHAPE, 0x1000018, [(40960, 0x40)], .priv,
    [⟨31, 26, .rw, .framed, 0, .image, false⟩,
     ⟨25, 22, .rw, .framed, 0, .image, false⟩,
     ⟨21, 17, .rw, .framed, 0, .image, false⟩,
     ⟨16, 13, .rw, .framed, 0, .number, false⟩,
     ⟨11, 0, .rw, .framed, 0, .image, false⟩]⟩,
  ⟨.CTX_LIMIT, 0x100001c, [(40960, 0x40)], .priv,
    [⟨31, 16, .rw, .framed, 0, .image, false⟩,
     ⟨15, 0, .rw, .framed, 0, .image, false⟩]⟩,
  ⟨.CTX_SUPV, 0x1000020, [(40960, 0x40)], .priv,
    [⟨31, 16, .rw, .framed, 0, .image, false⟩,
     ⟨15, 0, .rw, .framed, 0, .image, false⟩]⟩,
  ⟨.CTX_XTALK, 0x1000024, [(40960, 0x40)], .priv,
    [⟨31, 16, .rw, .framed, 0, .image, false⟩,
     ⟨15, 0, .rw, .framed, 0, .image, false⟩]⟩,
  ⟨.CTX_ALT, 0x1000028, [(40960, 0x40)], .priv,
    [⟨31, 12, .rw, .quiesced, 0, .image, false⟩,
     ⟨7, 0, .rw, .framed, 0, .image, false⟩]⟩,
  ⟨.CTX_INTEG, 0x100002c, [(40960, 0x40)], .priv,
    [⟨31, 0, .rw, .quiesced, 0, .image, false⟩]⟩
]

def regs_ctx_1 : List RegSpec := [
  ⟨.CTX_OUT, 0x1000030, [(40960, 0x40)], .priv,
    [⟨31, 12, .rw, .quiesced, 0, .image, false⟩,
     ⟨11, 9, .rw, .framed, 0, .image, false⟩,
     ⟨8, 5, .ro, .fixed, 0, .number, false⟩,
     ⟨4, 4, .ro, .fixed, 0, .number, false⟩,
     ⟨3, 3, .ro, .fixed, 0, .number, false⟩,
     ⟨2, 2, .w1c, .fixed, 0, .number, false⟩,
     ⟨1, 1, .ro, .fixed, 0, .number, false⟩,
     ⟨0, 0, .ro, .fixed, 0, .number, false⟩]⟩,
  ⟨.CTX_PC, 0x1000034, [(40960, 0x40)], .priv,
    [⟨31, 11, .ro, .fixed, 0, .number, false⟩,
     ⟨10, 9, .ro, .fixed, 0, .number, false⟩,
     ⟨8, 6, .ro, .fixed, 0, .number, false⟩,
     ⟨5, 2, .ro, .fixed, 0, .number, false⟩]⟩,
  ⟨.CTX_TPC, 0x1000038, [(40960, 0x40)], .priv,
    [⟨31, 11, .ro, .fixed, 0, .number, false⟩,
     ⟨10, 7, .ro, .fixed, 0, .number, false⟩,
     ⟨6, 3, .ro, .fixed, 0, .number, false⟩,
     ⟨2, 2, .ro, .fixed, 0, .number, false⟩]⟩,
  ⟨.CTX_HIST, 0x100003c, [(40960, 0x40)], .priv,
    [⟨31, 8, .ro, .fixed, 0, .number, false⟩,
     ⟨7, 0, .ro, .fixed, 0, .number, false⟩]⟩
]

def regs_ctx : List RegSpec := regs_ctx_0 ++ regs_ctx_1

def regs_tile_0 : List RegSpec := [
  ⟨.TL_PRECOMP, 0x10f000, [(80, 0x10000)], .shared,
    [⟨31, 12, .rw, .framed, 0x40000, .number, false⟩,
     ⟨11, 8, .rw, .framed, 6, .number, false⟩,
     ⟨2, 0, .rw, .framed, 2, .number, false⟩]⟩,
  ⟨.TL_SWITCH, 0x10f004, [(80, 0x10000)], .shared,
    [⟨0, 0, .rw, .framed, 1, .number, false⟩]⟩,
  ⟨.TL_DP_LAST, 0x10f008, [(80, 0x10000)], .shared,
    [⟨31, 0, .ro, .fixed, 0, .number, false⟩]⟩,
  ⟨.TL_PD_CFG, 0x100800, [(80, 0x10000), (32, 4)], .shared,
    [⟨31, 31, .rw, .framed, 0, .image, false⟩,
     ⟨25, 24, .rw, .framed, 0, .image, false⟩,
     ⟨11, 8, .rw, .framed, 0, .image, false⟩,
     ⟨3, 0, .rw, .framed, 0, .image, false⟩]⟩,
  ⟨.TL_REF, 0x100880, [(80, 0x10000)], .shared,
    [⟨31, 31, .ro, .fixed, 0, .number, false⟩,
     ⟨30, 30, .ro, .fixed, 0, .number, false⟩,
     ⟨12, 8, .ro, .fixed, 0, .number, false⟩,
     ⟨1, 0, .rw, .framed, 0, .image, false⟩]⟩,
  ⟨.TL_BIAS, 0x100884, [(80, 0x10000)], .shared,
    [⟨31, 31, .ro, .fixed, 0, .number, false⟩,
     ⟨30, 30, .w1c, .fixed, 0, .number, false⟩,
     ⟨15, 8, .ro, .fixed, 0, .number, false⟩,
     ⟨7, 0, .rw, .framed, 0, .image, false⟩]⟩,
  ⟨.TL_SENSE_CTRL, 0x100888, [(80, 0x10000)], .shared,
    [⟨13, 8, .rw, .framed, 4, .number, false⟩,
     ⟨0, 0, .rw, .framed, 1, .number, false⟩]⟩,
  ⟨.TL_SPARE_STATUS, 0x10088c, [(80, 0x10000)], .shared,
    [⟨31, 31, .ro, .fixed, 0, .number, false⟩,
     ⟨30, 30, .ro, .fixed, 0, .number, false⟩,
     ⟨29, 29, .ro, .fixed, 0, .number, false⟩,
     ⟨28, 24, .ro, .fixed, 0, .number, false⟩,
     ⟨21, 16, .ro, .fixed, 0, .number, false⟩,
     ⟨5, 0, .ro, .fixed, 0, .number, false⟩]⟩,
  ⟨.TL_SPARE_LOG, 0x100890, [(80, 0x10000)], .shared,
    [⟨31, 24, .rc, .fixed, 0, .number, false⟩,
     ⟨20, 16, .ro, .fixed, 0, .number, false⟩,
     ⟨15, 0, .ro, .fixed, 0, .number, false⟩]⟩,
  ⟨.TL_PD_OVR, 0x100894, [(80, 0x10000)], .shared,
    [⟨31, 0, .w1c, .fixed, 0, .number, false⟩]⟩,
  ⟨.TL_PD_WORD, 0x100900, [(80, 0x10000), (32, 4)], .shared,
    [⟨31, 31, .ro, .fixed, 0, .number, false⟩,
     ⟨30, 30, .ro, .fixed, 1, .number, false⟩,
     ⟨21, 0, .ro, .fixed, 0, .number, false⟩]⟩,
  ⟨.TL_DITHER, 0x100a00, [(80, 0x10000)], .shared,
    [⟨31, 28, .ro, .fixed, 8, .number, false⟩,
     ⟨27, 24, .rw, .framed, 0, .mode, false⟩,
     ⟨21, 16, .rw, .framed, 0, .image, false⟩,
     ⟨10, 8, .ro, .fixed, 2, .number, false⟩,
     ⟨2, 0, .rw, .framed, 0, .mode, false⟩]⟩
]

def regs_tile_1 : List RegSpec := [
  ⟨.TL_CORR_CFG, 0x100a04, [(80, 0x10000)], .shared,
    [⟨31, 31, .ro, .fixed, 0, .number, false⟩,
     ⟨14, 12, .ro, .fixed, 4, .number, false⟩,
     ⟨11, 9, .ro, .fixed, 3, .number, false⟩,
     ⟨8, 6, .ro, .fixed, 1, .number, false⟩,
     ⟨5, 3, .ro, .fixed, 0, .number, false⟩]⟩,
  ⟨.TL_CORR_STATUS, 0x100a08, [(80, 0x10000)], .shared,
    [⟨31, 31, .w1c, .fixed, 0, .number, false⟩,
     ⟨25, 16, .ro, .fixed, 0, .number, false⟩,
     ⟨15, 8, .rc, .fixed, 0, .number, false⟩,
     ⟨7, 0, .rc, .fixed, 0, .number, false⟩]⟩,
  ⟨.TL_SLOT_USE, 0x100a40, [(80, 0x10000), (32, 4)], .shared,
    [⟨31, 0, .ro, .fixed, 0, .number, false⟩]⟩,
  ⟨.TL_SLOT_LENT, 0x100ac0, [(80, 0x10000), (32, 4)], .shared,
    [⟨31, 0, .ro, .fixed, 0, .number, false⟩]⟩,
  ⟨.TL_CORR_WORD, 0x104000, [(80, 0x10000), (1024, 4)], .shared,
    [⟨31, 31, .ro, .fixed, 1, .number, false⟩,
     ⟨30, 30, .ro, .fixed, 0, .number, false⟩,
     ⟨29, 29, .ro, .fixed, 0, .number, false⟩,
     ⟨28, 28, .ro, .fixed, 0, .number, false⟩,
     ⟨23, 0, .ro, .fixed, 0, .number, false⟩]⟩,
  ⟨.TL_CORR_ENERGY, 0x105000, [(80, 0x10000), (1024, 4)], .shared,
    [⟨23, 0, .ro, .fixed, 0, .number, false⟩]⟩,
  ⟨.TL_LOOP_MARGIN, 0x100c00, [(80, 0x10000)], .shared,
    [⟨31, 16, .ro, .fixed, 0xffff, .number, false⟩,
     ⟨15, 0, .ro, .fixed, 0xffff, .number, false⟩]⟩,
  ⟨.TL_LOOP_EVENTS, 0x100c04, [(80, 0x10000)], .shared,
    [⟨31, 16, .rc, .fixed, 0, .number, false⟩,
     ⟨15, 0, .rc, .fixed, 0, .number, false⟩]⟩,
  ⟨.TL_LOOP_COUNTS, 0x100c08, [(80, 0x10000)], .privOwn,
    [⟨29, 20, .ro, .fixed, 0, .number, false⟩,
     ⟨19, 10, .ro, .fixed, 0, .number, false⟩,
     ⟨9, 0, .ro, .fixed, 0, .number, false⟩]⟩,
  ⟨.TL_LOOP_COUNTS2, 0x100c0c, [(80, 0x10000)], .privOwn,
    [⟨29, 20, .ro, .fixed, 0, .number, false⟩,
     ⟨19, 10, .ro, .fixed, 0, .number, false⟩,
     ⟨5, 0, .ro, .fixed, 0, .number, false⟩]⟩,
  ⟨.TL_STORE_STATUS, 0x100c10, [(80, 0x10000)], .privOwn,
    [⟨31, 31, .w1c, .fixed, 0, .number, false⟩,
     ⟨30, 30, .w1c, .fixed, 0, .number, false⟩,
     ⟨29, 29, .w1c, .fixed, 0, .number, false⟩,
     ⟨28, 21, .rc, .fixed, 0, .number, false⟩,
     ⟨12, 0, .ro, .fixed, 0, .number, false⟩]⟩,
  ⟨.TL_LUT, 0x10b000, [(80, 0x10000), (16, 0x100), (33, 4)], .priv,
    [⟨15, 0, .rw, .framed, 0, .image, false⟩]⟩
]

def regs_tile_2 : List RegSpec := [
  ⟨.TL_LUT_SHIFT, 0x10b084, [(80, 0x10000), (16, 0x100)], .priv,
    [⟨4, 0, .rw, .framed, 0, .image, false⟩]⟩,
  ⟨.TL_HTR_CFG, 0x101000, [(80, 0x10000), (256, 4)], .shared,
    [⟨31, 31, .rw, .quiesced, 0, .image, false⟩,
     ⟨30, 30, .rw, .quiesced, 0, .image, false⟩,
     ⟨29, 23, .rw, .quiesced, 0, .image, false⟩,
     ⟨15, 10, .rw, .framed, 0, .image, false⟩]⟩,
  ⟨.TL_HTR_OUT, 0x101400, [(80, 0x10000), (256, 4)], .shared,
    [⟨31, 31, .ro, .fixed, 0, .number, false⟩,
     ⟨30, 30, .ro, .fixed, 0, .number, false⟩,
     ⟨29, 29, .ro, .fixed, 0, .number, false⟩,
     ⟨28, 28, .ro, .fixed, 0, .number, false⟩,
     ⟨27, 27, .ro, .fixed, 0, .number, false⟩,
     ⟨26, 26, .ro, .fixed, 0, .number, false⟩,
     ⟨25, 25, .ro, .fixed, 0, .number, false⟩,
     ⟨24, 24, .ro, .fixed, 1, .number, false⟩,
     ⟨19, 0, .ro, .fixed, 0, .number, false⟩]⟩,
  ⟨.TL_HTR_OFF, 0x101800, [(80, 0x10000), (8, 4)], .shared,
    [⟨31, 0, .w1c, .framed, 0, .number, true⟩]⟩,
  ⟨.TL_FD_OFF, 0x101820, [(80, 0x10000), (4, 4)], .shared,
    [⟨31, 0, .w1c, .framed, 0, .number, true⟩]⟩,
  ⟨.TL_FD_CFG, 0x101c00, [(80, 0x10000), (128, 4)], .shared,
    [⟨31, 30, .rw, .framed, 0, .image, false⟩,
     ⟨28, 24, .rw, .framed, 0, .image, false⟩,
     ⟨20, 16, .rw, .framed, 0, .image, false⟩,
     ⟨15, 8, .rw, .quiesced, 0, .image, false⟩,
     ⟨0, 0, .ro, .fixed, 0, .number, false⟩]⟩,
  ⟨.TL_FD_LEVEL, 0x101e00, [(80, 0x10000), (128, 4)], .shared,
    [⟨27, 16, .rw, .framed, 0, .image, false⟩,
     ⟨11, 0, .rw, .framed, 0, .image, false⟩]⟩,
  ⟨.TL_GUARD_HTR_A, 0x102000, [(80, 0x10000), (256, 4)], .shared,
    [⟨31, 16, .rw, .framed, 0, .image, false⟩,
     ⟨15, 0, .rw, .framed, 0, .image, false⟩]⟩,
  ⟨.TL_GUARD_HTR_B, 0x102400, [(80, 0x10000), (256, 4)], .shared,
    [⟨31, 27, .rw, .framed, 0, .image, false⟩,
     ⟨26, 19, .rw, .framed, 0, .image, false⟩,
     ⟨11, 0, .rw, .framed, 0, .image, false⟩]⟩,
  ⟨.TL_GUARD_FD_A, 0x102800, [(80, 0x10000), (128, 4)], .shared,
    [⟨27, 16, .rw, .framed, 0, .image, false⟩,
     ⟨11, 0, .rw, .framed, 0, .image, false⟩]⟩,
  ⟨.TL_GUARD_FD_B, 0x102a00, [(80, 0x10000), (128, 4)], .shared,
    [⟨12, 8, .rw, .framed, 0, .image, false⟩,
     ⟨3, 0, .rw, .framed, 0, .image, false⟩]⟩,
  ⟨.TL_GUARD_TILE, 0x102c00, [(80, 0x10000)], .shared,
    [⟨12, 0, .rw, .framed, 0, .image, false⟩]⟩
]

def regs_tile_3 : List RegSpec := [
  ⟨.TL_GUARD_STATUS, 0x102c04, [(80, 0x10000)], .shared,
    [⟨31, 31, .ro, .fixed, 0, .number, false⟩,
     ⟨30, 30, .ro, .fixed, 0, .number, false⟩,
     ⟨29, 29, .ro, .fixed, 0, .number, false⟩,
     ⟨28, 28, .ro, .fixed, 0, .number, false⟩,
     ⟨15, 0, .ro, .fixed, 0, .number, false⟩]⟩,
  ⟨.TL_GUARD_EVENTS, 0x102c08, [(80, 0x10000)], .shared,
    [⟨31, 24, .rc, .fixed, 0, .number, false⟩,
     ⟨23, 12, .rc, .fixed, 0, .number, false⟩,
     ⟨11, 0, .rc, .fixed, 0, .number, false⟩]⟩,
  ⟨.TL_PRIMER_HTR, 0x103000, [(80, 0x10000), (256, 4)], .shared,
    [⟨31, 31, .rw, .framed, 0, .image, false⟩,
     ⟨19, 0, .rw, .framed, 0, .image, false⟩]⟩,
  ⟨.TL_PRIMER_FD, 0x103400, [(80, 0x10000), (128, 4)], .shared,
    [⟨19, 12, .rw, .framed, 0, .image, false⟩,
     ⟨11, 0, .rw, .framed, 0, .image, false⟩]⟩,
  ⟨.TL_CAL_CTRL, 0x106000, [(80, 0x10000)], .shared,
    [⟨31, 31, .w1s, .live, 0, .number, false⟩,
     ⟨30, 30, .ro, .fixed, 0, .number, false⟩,
     ⟨29, 29, .ro, .fixed, 0, .number, false⟩,
     ⟨28, 28, .w1s, .live, 0, .number, false⟩,
     ⟨23, 16, .rc, .fixed, 0, .number, false⟩,
     ⟨15, 0, .ro, .fixed, 0, .number, false⟩]⟩,
  ⟨.TL_CAL_STATUS, 0x106004, [(80, 0x10000)], .shared,
    [⟨31, 31, .w1c, .fixed, 0, .number, false⟩,
     ⟨30, 30, .w1c, .fixed, 0, .number, false⟩,
     ⟨29, 20, .ro, .fixed, 0, .number, false⟩,
     ⟨15, 8, .rc, .fixed, 0, .number, false⟩,
     ⟨7, 0, .rc, .fixed, 0, .number, false⟩]⟩,
  ⟨.TL_CAL_REF, 0x106008, [(80, 0x10000)], .shared,
    [⟨31, 31, .w1c, .fixed, 0, .number, false⟩,
     ⟨30, 30, .ro, .fixed, 0, .number, false⟩,
     ⟨29, 24, .rw, .framed, 0, .image, false⟩,
     ⟨7, 0, .rw, .framed, 0, .image, false⟩]⟩,
  ⟨.TL_CAL_HV, 0x10600c, [(80, 0x10000)], .shared,
    [⟨31, 31, .w1c, .fixed, 0, .number, false⟩,
     ⟨30, 30, .ro, .fixed, 0, .number, false⟩,
     ⟨25, 16, .rw, .framed, 0, .image, false⟩,
     ⟨7, 0, .rw, .framed, 0, .image, false⟩]⟩,
  ⟨.TL_CAL_SLICE, 0x106100, [(80, 0x10000), (33, 4)], .shared,
    [⟨31, 31, .w1c, .fixed, 0, .number, false⟩,
     ⟨30, 30, .ro, .fixed, 0, .number, false⟩,
     ⟨25, 16, .rw, .framed, 0, .image, false⟩,
     ⟨7, 0, .rw, .framed, 0, .image, false⟩]⟩,
  ⟨.TL_CAL_TIA, 0x106200, [(80, 0x10000), (32, 4)], .shared,
    [⟨31, 25, .rw, .framed, 0, .image, false⟩,
     ⟨24, 18, .rw, .framed, 0, .image, false⟩,
     ⟨17, 11, .rw, .framed, 0, .image, false⟩,
     ⟨10, 4, .rw, .framed, 0, .image, false⟩,
     ⟨3, 3, .w1c, .fixed, 0, .number, false⟩,
     ⟨2, 2, .ro, .fixed, 0, .number, false⟩]⟩,
  ⟨.TL_CAL_HTR, 0x106400, [(80, 0x10000), (256, 4)], .shared,
    [⟨31, 31, .ro, .fixed, 0, .number, false⟩,
     ⟨30, 30, .w1c, .fixed, 0, .number, false⟩,
     ⟨29, 29, .w1c, .fixed, 0, .number, false⟩,
     ⟨28, 28, .ro, .fixed, 0, .number, false⟩,
     ⟨27, 22, .rw, .framed, 0, .image, false⟩,
     ⟨21, 16, .rw, .framed, 0, .image, false⟩,
     ⟨15, 0, .rw, .framed, 0, .image, false⟩]⟩,
  ⟨.TL_CMP_STATUS, 0x107000, [(80, 0x10000)], .shared,
    [⟨31, 31, .ro, .fixed, 0, .number, false⟩,
     ⟨23, 16, .rc, .fixed, 0, .number, false⟩,
     ⟨15, 8, .rc, .fixed, 0, .number, false⟩,
     ⟨7, 0, .rc, .fixed, 0, .number, false⟩]⟩
]

def regs_tile_4 : List RegSpec := [
  ⟨.TL_CMP_LAST, 0x107004, [(80, 0x10000)], .shared,
    [⟨31, 30, .ro, .fixed, 0, .number, false⟩,
     ⟨8, 0, .ro, .fixed, 0, .number, false⟩]⟩
]

def regs_tile : List RegSpec := regs_tile_0 ++ regs_tile_1 ++ regs_tile_2 ++ regs_tile_3 ++ regs_tile_4

/-- The registers of the block that holds byte address `a` (the table of R435). -/
def blockOf (a : Nat) : List RegSpec :=
  if a < 0x100000 then
    match a / 0x10000 with
    | 0x0 => regs_b0
    | 0x1 => regs_b1
    | 0x2 => regs_b2
    | 0x3 => regs_b3
    | 0x4 => regs_b4
    | 0x5 => regs_b5
    | 0x6 => regs_b6
    | 0x7 => regs_b7
    | 0x8 => regs_b8
    | 0x9 => regs_b9
    | 0xA => regs_bA
    | 0xB => regs_bB
    | 0xC => regs_bC
    | _ => []
  else if a < 0x600000 then regs_tile
  else if 0x1000000 ≤ a ∧ a < 0x1280000 then regs_ctx
  else if 0x2400000 ≤ a ∧ a < 0x2400400 then regs_cap
  else []

/-- The indices that lead from a register's base to byte offset `d`, if any. -/
def indicesOf : List (Nat × Nat) → Nat → Option (List Nat)
  | [], d => if d = 0 then some [] else none
  | (c, st) :: rest, d =>
    if d / st < c then (indicesOf rest (d % st)).map (d / st :: ·) else none

/-- A register word found by its address: its table entry and its indices, widest stride first. -/
structure RegHit where
  spec : RegSpec
  idx : List Nat
deriving DecidableEq, Repr

def RegSpec.hit? (r : RegSpec) (a : Nat) : Option RegHit :=
  if r.base ≤ a then
    match indicesOf r.dims (a - r.base) with
    | some ix => if r.reg = .FC_SEV ∧ ix.head? = some 0 then none else some ⟨r, ix⟩
    | none => none
  else none

/-- The register at byte address `a`; none where the address is unmapped (R435, R436). Registers of a block are tried in
the order of their tables. -/
def regAt (a : Nat) : Option RegHit :=
  (blockOf a).findSome? (·.hit? a)

/-- The word a register holds after reset: every field at its reset value, reserved bits 0 (R446, R447). -/
def RegSpec.resetWord (r : RegSpec) : Nat :=
  r.fields.foldl (fun w f => w + f.reset * 2 ^ f.lo) 0

/-- The word at address `a` after reset; 0 where nothing is mapped. -/
def resetWord (a : Nat) : BitVec 32 :=
  match regAt a with
  | some h => BitVec.ofNat 32 h.spec.resetWord
  | none => 0

end Sys2Proof.Machine
end

