-- ==== Sys2Proof/Machine/SMap.lean ====
section
/-! DEFINITION. Machine/SMap.lean: sparse maps from natural-number keys to values, in ONE canonical form: keys strictly
rising, and no entry equal to what an unlisted key reads as (`d`). Register files, contexts, the capture memory and the NOR
flash are such maps. -/

namespace Sys2Proof.Machine

variable {α : Type}

/-- Read key `k`; an unlisted key reads as `d k`. -/
def smGet (d : Nat → α) : List (Nat × α) → Nat → α
  | [], k => d k
  | (j, v) :: rest, k => if k = j then v else smGet d rest k

/-- Write `v` at key `k` into a sorted list: keeps the order, drops an entry equal to the default. -/
def smSet [DecidableEq α] (d : Nat → α) : List (Nat × α) → Nat → α → List (Nat × α)
  | [], k, v => if v = d k then [] else [(k, v)]
  | (j, w) :: rest, k, v =>
    if k < j then (if v = d k then (j, w) :: rest else (k, v) :: (j, w) :: rest)
    else if k = j then (if v = d k then rest else (k, v) :: rest)
    else (j, w) :: smSet d rest k v

/-- Every key of the list is above `b`. -/
def smAbove : Nat → List (Nat × α) → Bool
  | _, [] => true
  | b, (j, _) :: rest => b < j && smAbove b rest

/-- The canonical form. -/
def smWf [DecidableEq α] (d : Nat → α) : List (Nat × α) → Bool
  | [] => true
  | (j, w) :: rest => smAbove j rest && !decide (w = d j) && smWf d rest

/-- What a byte of the capture memory that nothing has written reads as: reset clears every store (R407). DEDUCED, safe only
as far as R407's words reach; log entry 3. -/
def capDefault (_ : Nat) : Byte := 0

/-- What a NOR byte that nothing has programmed reads as: the erased state of a NOR flash. PRESUMED, unsafe; log entry 4. -/
def norDefault (_ : Nat) : Byte := 0xFF

/-- A byte store in canonical form (the capture memory, the NOR flash). -/
abbrev Memory := List Host.Cell

/-- The canonical form of a byte store whose unlisted bytes read as `d`. -/
abbrev Memory.wf (d : Nat → Byte) (m : Memory) : Bool := smWf d m

end Sys2Proof.Machine
end

