-- ==== Sys2Proof/Machine/State.lean ====
section
/-! DEFINITION. Machine/State.lean: everything the spec gives the block to hold, as plain data, the state right after reset,
and the reasons a step can stop. The registers of chapters 1 to 18 stand in three sparse register files (what is shared or
kept alike, plane A's private registers, plane B's); what is not a register stands in the structures below, one or more for
each chapter. -/

namespace Sys2Proof.Machine

open Sys2Proof

/-- Why the block stops with a fault. No rule of the spec stops the block: what goes wrong is a refusal code, a discarded
frame or a fault message, all of them next states. The one constructor is raised by nobody. Safe. -/
inductive Fault where
  /-- Raised by nobody. Safe. -/
  | none
deriving DecidableEq, Repr

/-- Why a command has no meaning. -/
inductive Refusal where
  /-- Raised by an arm of `exec` that has no meaning yet. Safe. -/
  | notModelled (mnemonic : String)
  /-- Raised by every meaning on operands that are not well-formed (`Instr.wf`): an index of a unit that the part does not
  have. No such command can reach the block. Safe. -/
  | badOperand (what : String)
deriving DecidableEq, Repr

/-- The other plane. -/
def other : Plane → Plane
  | .A => .B
  | .B => .A

/-- 0 for plane A, 1 for plane B. -/
def planeBit : Plane → Nat
  | .A => 0
  | .B => 1

/-- The service modes, coded as R256 codes them. -/
inductive Mode where | balanced | swift | exact | quiet | frugal | sealed | solo | survey
deriving DecidableEq, Repr

def Mode.code : Mode → Nat
  | .balanced => 0 | .swift => 1 | .exact => 2 | .quiet => 3 | .frugal => 4 | .sealed => 5 | .solo => 6 | .survey => 7

def Mode.ofCode? : Nat → Option Mode
  | 0 => some .balanced | 1 => some .swift | 2 => some .exact | 3 => some .quiet
  | 4 => some .frugal | 5 => some .sealed | 6 => some .solo | 7 => some .survey | _ => none

/-- The power states of R7. -/
inductive PowerState where | run | idle | sleep | deepSleep | off
deriving DecidableEq, Repr


/-! ### Response items and notices (R255, R258) -/

/-- A response item or a notice: the fields of R255's header and the body's bytes. -/
structure Item where
  opcode : Nat
  status : Nat
  cseq : Nat
  point : Nat
  frame : Nat
  body : List Nat
deriving DecidableEq, Repr

/-! ### Fabric and routing (chapter 2) -/

/-- A cell or auxiliary record of the fabric description (R43). -/
structure CellRec where
  phys : Nat
  alt : Nat
  htrU : Nat
  htrL : Nat
  ctx : Nat
  pd : Nat
  flags : Nat
  owner : Nat
deriving DecidableEq, Repr

/-- A port record (R45). -/
structure PortRec where
  outHtr : Nat
  outCtx : Nat
  inCtx : Nat
  outPd : Nat
  inPd : Nat
deriving DecidableEq, Repr

/-- The fabric description (R42): topology 0 while no image is applied, 1 BENES, 2 DIRECT. -/
structure Fabric where
  topology : Nat := 0
  n : Nat := 0
  placement : Nat := 0
  cellCount : Nat := 0
  hitPolicy : Nat := 0
  cells : List CellRec := []
  aux : List CellRec := []
  ports : List PortRec := []
deriving DecidableEq, Repr

/-- A connection with the principal that made it and its path index (R49, R50). -/
structure Conn where
  inp : Nat
  out : Nat
  owner : Nat
  path : Nat
deriving DecidableEq, Repr

/-- A pending item (R72): the posted result of one route request. `adds` are new connections, `removes` the connections it
removes, `moves` the connections rerouted with their new path, `sets` the cell or element states it sets. -/
structure PItem where
  principal : Nat
  cseq : Nat
  adds : List Conn := []
  removes : List (Nat × Nat) := []
  moves : List Conn := []
  sets : List (Nat × Nat) := []
  /-- cells that alignment moves hold at bar, on a path or not (R63) -/
  held : List Nat := []
  /-- FCLK instant of the posting, counted from frame 0 -/
  posted : Nat := 0
  /-- the number of the fixed commit that holds the item -/
  takenBy : Option Nat := none
deriving DecidableEq, Repr

/-- A route request in the engine (R53). -/
structure RouteReq where
  principal : Nat
  cseq : Nat
  flags : Nat
  cmd : Cmd
  entries : List (Nat × Nat)
  replace : Bool
  /-- removes connections instead of making them -/
  disconnect : Bool
  /-- entries are element settings -/
  elements : Bool
  /-- absolute admission point of its release -/
  since : Nat
deriving DecidableEq, Repr

/-- An aligned or align-pending tenancy (R58, R63). -/
structure Alignment where
  tenancy : Nat
  k : Nat
  m : Nat
  pending : Bool
deriving DecidableEq, Repr

structure Route where
  committed : List Conn := []
  /-- the logical cells and elements whose committed state is cross, ascending (R51, R68) -/
  crossed : List Nat := []
  items : List PItem := []
  /-- physical cells that are failed (R52) -/
  failed : List Nat := []
  /-- logical cells in force on their alternate record, and remaps that await the next commit (R48) -/
  remapped : List Nat := []
  remapPending : List (Nat × Bool) := []
  aligned : List Alignment := []
  /-- incremental requests that began at the latest admission point, in release order -/
  begun : List RouteReq := []
  /-- the full routing that runs, and the requests deferred to one of their own, in order -/
  full : Option RouteReq := none
  deferred : List RouteReq := []
  /-- absolute admission point at which the running full routing began, and the first at which requests begin again -/
  fullSince : Nat := 0
  freeAt : Nat := 0
  broken : List (Nat × Nat) := []
  /-- least margins of the running 1 s window: plane, of a full routing, FCLK (RT_MARGIN) -/
  margins : List (Plane × Bool × Nat) := []
deriving DecidableEq, Repr

/-! ### Commits (chapter 3) -/

/-- The phases of a commit. -/
inductive CommitPhase where | unfixed | waitGo | fixed | switched | settling
deriving DecidableEq, Repr

/-- A COMMIT from the point at which it takes effect to its COMMIT_DONE notice (R74 to R96). -/
structure Commit where
  num : Nat
  principal : Nat
  cseq : Nat
  opcode : Nat
  phase : CommitPhase
  kind : Nat
  chip : Nat
  frame : Nat
  all : Bool := false
  token : Option (Nat × Nat) := none
  /-- absolute admission point at which it took effect -/
  since : Nat := 0
  fixedAt : Nat := 0
  sFrame : Nat := 0
  sChip : Nat := 0
  bsFrame : Nat := 0
  /-- changes of cells: (logical cell or element, new state) -/
  cells : List (Nat × Nat) := []
  made : List Conn := []
  moved : List Conn := []
  removed : List Conn := []
  hits : List Conn := []
  /-- heater contexts that change set-point at B_s, with the new SP_SEL (R91) -/
  setpoints : List (Nat × Nat) := []
  /-- projected steps per tile, μW (R91) -/
  dp : List (Nat × Int) := []
  late : List Nat := []
  untrimmed : Nat := 0
  trimmed : List Nat := []
  /-- the boundary at which blanking ends, and the end of the settle allowance (R88, R95) -/
  blankEnd : Nat := 0
  allowEnd : Nat := 0
  settleMax : Nat := 0
  unsettled : List Nat := []
  /-- the COMMIT flag of a route command made it: it sends no ACCEPTED item (R252) -/
  implied : Bool := false
  /-- tenancies whose alignment moves the set includes (R63) -/
  aligns : List Nat := []
  /-- settled references latched so far: output port and feedback word -/
  references : List (Nat × Int) := []
  /-- raw samples since S of the output-tap photodiodes, and the settle index and level once the window is full (R94) -/
  samples : List (Nat × List Nat) := []
  settle : List (Nat × Nat) := []
  measured : Bool := false
  /-- the Standard consequences of B_s have been released -/
  bsDone : Bool := false
  /-- the remaps that come into force with it: cell, and whether its alternate record does (R48) -/
  remaps : List (Nat × Bool) := []
deriving DecidableEq, Repr

/-- A FABRIC token that is open at this device (R97 to R99); on the master also the READYs it holds. -/
structure Token where
  principal : Nat
  number : Nat
  mask : Nat
  commit : Nat
  readyFrame : Nat
deriving DecidableEq, Repr

/-- A READY held by the token master: position, named frame or 0, earliest frame, slot constraint (16 for none), and the
fabric instant of its arrival as frame and FCLK. -/
structure Ready where
  principal : Nat
  number : Nat
  mask : Nat
  pos : Nat
  named : Nat
  earliest : Nat
  slot : Nat
  arrFrame : Nat
  arrFclk : Nat
deriving DecidableEq, Repr

structure CommitState where
  nextNum : Nat := 1
  commits : List Commit := []
  tokens : List Token := []
  readies : List Ready := []
  /-- settled reference of each output port's connection (R95) -/
  refs : List (Nat × Int) := []
  /-- token messages put on the ring: (kind 0 READY 1 GO 2 ABANDON, principal, number, frame) -/
  ringSent : List (Nat × Nat × Nat × Nat) := []
deriving DecidableEq, Repr

/-! ### Links and the Kolrok protocol (chapter 10) -/

/-- Where a principal's frames go on a lane (R241). -/
structure Address where
  mac : Nat
  ip : Nat
  port : Nat
deriving DecidableEq, Repr

/-- A STAGE being assembled (R257): the parts held with their sequence numbers and entries. -/
structure Assembly where
  id : Nat
  parts : Nat
  flags : Nat
  firstCseq : Nat
  firstFrame : Nat
  held : List (Nat × Nat × List (Nat × Nat))
deriving DecidableEq, Repr

/-- A principal's protocol state (R248, R253, R257, R102). -/
structure PrinLink where
  h : Nat := 0
  window : List Nat := []
  /-- (SEQ, COUNT) of the frames accepted in the session -/
  frames : List (Nat × Nat) := []
  rseq : Nat := 0
  assembly : Option Assembly := none
  /-- the highest sequence number of an admitted COMMIT, and of an admitted FENCE (R102) -/
  commitSeq : Nat := 0
  fenceSeq : Nat := 0
  /-- addresses learnt on lanes 0 to 7 -/
  addrs : List (Nat × Address) := []
  /-- items completed since the last admission point -/
  completed : List Item := []
  /-- items that become ready at a later admission point (R285): (absolute point, item) -/
  delayed : List (Nat × Item) := []
  notices : List Item := []
deriving DecidableEq, Repr

/-- A built and sealed frame that waits on a lane. -/
structure TxFrame where
  principal : Nat
  rseq : Nat
  bytes : List Nat
deriving DecidableEq, Repr

/-- A frame that passed steps 1 to 4 of R247 and waits to be offered: SEQ, COUNT, EPOCH, and each command's opcode, FLAGS
and body. -/
structure RxFrame where
  lane : Nat
  principal : Nat
  seq : Nat
  epoch : Nat
  cmds : List (Nat × Nat × List Nat)
  /-- its receive stamp; none for a frame that came over the ring -/
  stamp : Option Stamp := none
deriving DecidableEq, Repr

structure LaneState where
  tx : List TxFrame := []
  /-- principal served last (R265); before any, the round begins at principal 0 -/
  last : Nat := 30
  /-- announcements (true) and ARP replies (false) that wait: whole MAC frames without the FCS -/
  raw : List (Bool × List Nat) := []
  /-- the MAC frame sent last, without padding and FCS -/
  wire : List Nat := []
  /-- SEQ and stamp of the latest owner frame accepted, RSEQ and stamp of the latest owner frame sent (R302) -/
  ownerRx : Option (Nat × Stamp) := none
  ownerTx : Option (Nat × Stamp) := none
deriving DecidableEq, Repr

/-- A command that sits in a queue or runs on after its release (R100, R273). `opcode` is the Kolrok opcode. -/
structure QCmd where
  head : CmdHead
  opcode : Nat
  cmd : Cmd
  cost : Nat
  yellow : Bool
  /-- absolute admission point that admitted it -/
  admitted : Nat
deriving DecidableEq, Repr

structure Links where
  session : Nat := 0
  open_ : Bool := false
  /-- the principals in the order 0 to 15, owner -/
  prin : List PrinLink := List.replicate 17 {}
  lanes : List LaneState := List.replicate 8 {}
  /-- frames whose authentication plane A, plane B has completed, and the offers of the last offer instant -/
  rxA : List RxFrame := []
  rxB : List RxFrame := []
  offered : List RxFrame := []
  /-- FORWARD frames not yet sent onto the ring, those sent last, and the position that forwarded the latest forwarded frame
  (R268) -/
  ringTx : List (Nat × List Nat) := []
  ringOut : List (Nat × List Nat) := []
  forwarder : Option Nat := none
  /-- owner frames sent over the ring to the forwarder at the latest admission point: position, RSEQ, bytes -/
  ringResp : List (Nat × Nat × List Nat) := []
deriving DecidableEq, Repr

/-- The SMBus sideband (R269 to R271, R387). -/
structure Sideband where
  /-- SBA[2:0], sampled at t0 (R465) -/
  sba : Nat := 0
  addr : Nat := 0
  words : Nat := 1
  lastStatus : Nat := 0
  /-- the recorded causes STATE [1] and SESSION [2]; FAULT [0] stands for a queue that is not empty -/
  alertCause : Nat := 0
  alertN : Bool := true
  /-- the bytes of the last block read -/
  reply : List Nat := []
deriving DecidableEq, Repr

/-! ### The scheduler (chapter 11) -/

structure Queue where
  items : List QCmd := []
  startTag : Nat := 0
  finishTag : Nat := 0
deriving DecidableEq, Repr

/-- A command released and not complete (R100): what it holds back (R101). -/
structure Flight where
  principal : Nat
  cseq : Nat
  opcode : Nat
  objects : List (Nat × Nat)
  /-- the boundary at which an F-class write completes; 0 for the other commands -/
  until_ : Nat := 0
deriving DecidableEq, Repr

structure Sched where
  queues : List Queue := List.replicate 33 {}
  vtime : Nat := 0
  flights : List Flight := []
  /-- flights that the running boundary completed: the point at the boundary judges them as it stood before (R277, R102's example) -/
  lately : List Flight := []
  /-- FENCE commands not complete: principal, cseq, absolute admission point of the release -/
  fences : List (Nat × Nat × Nat) := []
  /-- shaper buckets whose BURST was in force at the last boundary, to see a lowering -/
  bursts : List (Nat × Nat) := []
deriving DecidableEq, Repr

/-! ### Protection (chapter 13) -/

/-- A principal's key records (R314 to R316): 32-byte keys. -/
structure KeyRec where
  current : Option (List Nat) := none
  next : Option (List Nat) := none
  grace : Option (List Nat × Nat) := none
  writes : Nat := 0
  /-- an accepted roll: boundary, CLEAR, the command's cseq -/
  roll : Option (Nat × Bool × Nat) := none
deriving DecidableEq, Repr

/-- The armed or committed change (R319 to R322). -/
structure Change where
  armId : Nat
  bodies : List ArmBody
  digest : Nat
  expires : Nat
  lastArm : Nat
  committed : Option (Nat × Nat) := none
deriving DecidableEq, Repr

/-- An MTP write in progress (R315). -/
inductive MtpWrite where
  | key (principal which : Nat) (key : List Nat) (cseq : Nat)
  | roll (principal : Nat)
  | floor (value cseq : Nat) (body : List Nat)
  | session (value : Nat)
  | tripCount (value : Nat)
  | provision
deriving DecidableEq, Repr

structure Protect where
  keys : List KeyRec := List.replicate 17 {}
  kek : Option (List Nat) := none
  imageKeyHash : Option (List Nat) := none
  provisioned : Bool := false
  provWindow : List Nat := List.replicate 24 0
  floor : Nat := 0
  sessionCounter : Nat := 0
  tripCounter : Nat := 0
  lastArmId : Nat := 0
  change : Option Change := none
  mtp : List MtpWrite := []
deriving DecidableEq, Repr

/-! ### Faults (chapter 15) -/

/-- A fault message (R367) without its severity, which the collector fills in. -/
structure FaultMsg where
  cls : Nat
  inst : Nat
  kind : Nat
  plane : Nat := 0
  count : Nat := 1
  addr : Nat := 0
deriving DecidableEq, Repr

/-- A fault record (R376). -/
structure FaultRec where
  msg : FaultMsg
  severity : Nat
  frame : Nat
  point : Nat
  live : Bool := false
  simultaneous : Bool := false
  lostBefore : Bool := false
  preempted : Bool := false
  suppressed : Bool := false
  common : Bool := false
  seq : Nat
deriving DecidableEq, Repr

/-- A fence reaction that enters an input set (R374). -/
inductive Reaction where
  | fenceContext (ctx : Nat) (cause : Nat)
  | fenceSlice (tile slice : Nat)
  | fenceTile (tile : Nat)
deriving DecidableEq, Repr

/-- The collectors. Both hold the same (R372); one copy stands for both. -/
structure Faults where
  /-- messages and end reports the collectors have received since their latest offer -/
  incoming : List FaultMsg := []
  ended : List FaultMsg := []
  /-- the offers of the latest offer instant -/
  offered : List FaultMsg := []
  offeredEnds : List FaultMsg := []
  first : Option FaultRec := none
  last : Option FaultRec := none
  slot0 : Option FaultRec := none
  slot1 : Option FaultRec := none
  queue : List FaultRec := []
  seq : Nat := 0
  /-- a record was dropped and the next record to enter the queue says so (R382) -/
  lost : Bool := false
  acks : List Nat := []
  /-- the messages queued for the sideband (R387) -/
  sbQueue : List Nat := []
  /-- fault records by principal's scope and severity since reset (R260): (principal, severity, count) -/
  counts : List (Nat × Nat × Nat) := []
  /-- reactions with the absolute admission point at which they take effect -/
  react : List (Nat × Reaction) := []
  /-- plane fences handed to the Cellar supervisor: absolute point of Φ, plane, and whether an automatic return may follow (R374,
  R345, R361) -/
  fenceDue : List (Nat × Plane × Bool) := []
  /-- a CRITICAL entry handed to the Cellar supervisor: absolute point of the entry to Last Resort -/
  resortDue : Option Nat := none
  /-- FC_UNFENCE requests that await the boundary: (UNIT, INDEX) -/
  unfence : List (Nat × Nat) := []
  /-- restarts of core A, of core B in the last 24 h, as frame numbers, and cores held stopped: (plane, until frame) -/
  restarts : List (Nat × Nat) := []
  stopped : List (Nat × Nat) := []
  /-- suspended Attic functions: MTP writes, signatures (R383) -/
  mtpSuspended : Bool := false
  trngSuspended : Bool := false
deriving DecidableEq, Repr


/-! ### Sensing (chapter 4) -/

/-- One frame of a photodiode: the TL_PD_CFG word its samples were taken under, and its 128 sample words as a capture record
holds them (R120): [15] OVR, [14] INVALID, [13:0] code. -/
structure PdFrame where
  pd : Nat
  cfg : Nat
  words : List Nat
deriving DecidableEq, Repr

/-- A tile's sensing state beside its registers. -/
structure TileSense where
  /-- boundaries since REF_SETTLED cleared (R111) -/
  unsettled : Nat := 0
  /-- the first sample of the running frame that R111 marks INVALID; 128 for none -/
  refFrom : Nat := 0
  /-- the rotation in force, taken at slot boundaries (R119), and whether R117 has stopped it for good -/
  rotating : Bool := false
  stopped : Bool := false
  /-- the calibration of the running slot is abandoned (R118) -/
  abandoned : Bool := false
  /-- slices failed with no spare to serve their photodiode (R117) -/
  lost : List Nat := []
  /-- a reference timeout is due (R111) -/
  timeoutDue : Bool := false
deriving DecidableEq, Repr

structure Sense where
  /-- the latest two frames, the later one second (R33, R114) -/
  prev : List PdFrame := []
  cur : List PdFrame := []
  /-- photodiodes whose TIA_RANGE changed at the latest boundary (R107) -/
  rangeNew : List Nat := []
  tiles : List TileSense := List.replicate 80 {}
deriving DecidableEq, Repr

/-! ### Capture (R120 to R124, R179 to R181) -/

/-- What a capture descriptor (0 to 31) or response channel (32 to 35) holds beside its registers: whether its watermark event
is armed, a watermark notice that waits for the boundary, and the stop that follows FULL. -/
structure ChanState where
  armed : Bool := true
  noticeDue : Bool := false
  fullStop : Bool := false
  /-- the tenancy whose write set ENABLE (R328) -/
  by_ : Option Nat := none
deriving DecidableEq, Repr

/-- A range of the capture memory whose contents a memory test left undefined (R191): first byte, length, the number of the free
value its bytes come from, and the bytes written since. -/
structure Scrambled where
  lo : Nat
  size : Nat
  seed : Nat
  fresh : List Nat
deriving DecidableEq, Repr

structure Capture where
  mem : List Host.Cell := []
  scrambled : List Scrambled := []
  chans : List ChanState := List.replicate 36 {}
deriving DecidableEq, Repr

/-! ### The housekeeping converter (R125 to R129, R224) -/

/-- A queued injection: its channel and tag, the Kolrok command that waits for it, and the absolute admission point at which it
was queued. -/
structure HkaInj where
  channel : Nat
  tag : Nat
  head : Option CmdHead
  queued : Nat
deriving DecidableEq, Repr

structure Hka where
  /-- the round conversion that is next: channel (96 when the round is done), slots of it done, sum of its codes -/
  chan : Nat := 96
  done : Nat := 0
  sum : Nat := 0
  queue : List HkaInj := []
  /-- slots of the head of the queue done (2 settle slots for channels 0 to 63) -/
  injDone : Nat := 0
  /-- unread results: channel, tag, code -/
  results : List (Nat × Nat × Nat) := []
  /-- absolute admission point of the pending calibration request -/
  calAt : Option Nat := none
  /-- slots of the running calibration still to come, and the sum of its REXT codes -/
  calLeft : Nat := 0
  calRext : Nat := 0
  /-- a write of HKA_CAL has come into force since the calibration began (R232) -/
  overridden : Bool := false
  /-- measured trims that come into force at the next boundary: OFS, GAIN, and whether both were
  accepted -/
  trims : Option (Int × Int × Bool) := none
  /-- the temperature of D89 latched at the start of the calibration (R225) -/
  calTemp : Int := 0
  /-- channels whose last round result lay outside their window -/
  outside : List Nat := []
deriving DecidableEq, Repr

/-! ### Correlators (chapter 5) -/

/-- One frame's partial sum of a slot (R140), the flags of its samples, whether its period is even, whether all its samples had
one code, and that code. -/
structure FrameSum where
  p : Int
  invalid : Bool
  ovr : Bool
  clipped : Bool
  even : Bool
  same : Bool
  code : Nat
deriving DecidableEq, Repr

/-- A bound slot: the tile, the slot 32·p + c, the context it serves, whether it is lent (R139), the settings whose change clears
it (code length, W, amplitude: R145), and the partial sums of its last 32 frames, the newest first. -/
structure SlotHist where
  tile : Nat
  slot : Nat
  ctx : Nat
  lent : Bool
  key : Nat × Nat × Nat
  sums : List FrameSum
deriving DecidableEq, Repr

structure Dither where
  slots : List SlotHist := []
  /-- sums of the samples of photodiodes that GROUP contexts watch, the newest first -/
  groups : List (Nat × List FrameSum) := []
  /-- contexts whose dithered output was clipped in the running frame (R134) -/
  clips : List Nat := []
  /-- slots with a residue mismatch in the running frame (R146): tile, slot -/
  residues : List (Nat × Nat) := []
deriving DecidableEq, Repr

/-! ### Stencil generators (chapter 7) -/

/-- A generator of one plane: instance g is generator g of plane A, 8 + g of plane B (R194). -/
structure Gen where
  running : Bool := false
  armed : Bool := false
  /-- STOP_CAUSE -/
  cause : Nat := 0
  pc : Nat := 0
  a : Int := 0
  d : Int := 0
  c0 : Nat := 0
  c1 : Nat := 0
  prbs : Nat := 0
  /-- absolute admission point of the start instant; none before the first start -/
  a0 : Option Nat := none
  /-- the native samples since the start -/
  samples : List Int := []
  /-- the last native sample of all -/
  last : Int := 0
  /-- non-emitting instructions executed in a row -/
  idle : Nat := 0
  /-- the values of conditions 0 to 3 at the latest boundary, and while it runs those of each boundary since the start -/
  cond : Nat := 0
  conds : List (Nat × Nat) := []
  /-- a memory test uses it -/
  mtest : Bool := false
deriving DecidableEq, Repr


/-! ### The loop engine (chapter 6) -/

/-- What the validity pass or an update has found and the row of the table of that name carries out. -/
inductive LoopEvent where | lost | frozen | invalid | overload | following | resume
deriving DecidableEq, Repr

/-- The result of one pass over a context (R163): what its words become at the next release. `moved` is false where the pass
moved no output: only the following-error fields and T_PC change then. -/
structure Upd where
  ctx : Nat
  moved : Bool
  u : Nat
  i : Int
  pc : Int
  tpc : Int
  satHi : Bool
  satLo : Bool
  xfer : Bool
  feCnt : Nat
  feTrip : Bool
  /-- this pass made FE_CNT reach FE_FRAMES -/
  tripped : Bool
deriving DecidableEq, Repr

/-- A state request (R153) that awaits its boundary: the F-class fields of the same write, and the fields that the write has
changed already with their old values. -/
structure StateReq where
  ctx : Nat
  state : Nat
  head : Option CmdHead
  opcode : Nat
  owner : Bool
  writes : List (FieldAt × Nat)
  undo : List (FieldAt × Nat)
  /-- absolute admission point of the write -/
  since : Nat
deriving DecidableEq, Repr

structure Loop where
  /-- contexts that were FENCED in the frame that ended: their outputs show the Primer value (R374, the example after R382) -/
  primer : List Nat := []
  /-- events due: context, event -/
  due : List (Nat × LoopEvent) := []
  /-- the Standard work of the running frame is complete, and its results (R28) -/
  ready : Bool := false
  computed : List Upd := []
  /-- contexts whose latest input set is suspect (R157) -/
  suspect : List Nat := []
  /-- blanked contexts: context, chip number of S, last blanked boundary (R88) -/
  blank : List (Nat × Nat × Nat) := []
  requests : List StateReq := []
  /-- hand-back words: context, boundary that takes it, word (R90) -/
  handback : List (Nat × Nat × Nat) := []
  /-- SPA0 to SPA3 as latched, and the last valid s of SPP0 to SPP3 (R159, R160) -/
  spa : List Nat := [0, 0, 0, 0]
  sppLast : List Nat := [0, 0, 0, 0]
  /-- tiles whose latest frame overran (R29), and B_s consequences that wait for one: commit number, tile (R85) -/
  overran : List Nat := []
  bsLate : List (Nat × Nat) := []
  /-- contexts whose T_PC the latest deadline has raised (R92) -/
  raised : List Nat := []
  /-- Express words that wait to be applied: absolute chip number, update (R31) -/
  expWait : List (Nat × Upd) := []
  /-- the latest words of chip 15 of Express contexts (R161) -/
  chip15 : List (Nat × Nat) := []
  /-- least frame margin of each tile in the running 1 s window (R172) -/
  margins : List (Nat × Nat) := []
  /-- response records of the running frame: channel and bytes (R179) -/
  records : List (Nat × List Nat) := []
deriving DecidableEq, Repr

/-! ### Actuators (chapter 8): the part the loops read -/

/-- The clip status of the latest release: output keys clipped upwards and downwards (R163). A heater channel's key is
256·tile + c, a driver level's 20,480 + 2·(128·tile + d) + level. -/
structure Clips where
  hi : List Nat := []
  lo : List Nat := []
deriving DecidableEq, Repr

/-- A heater channel that has been in use: what stands beside its registers. Channel 256·tile + c. -/
structure HtrChan where
  ch : Nat
  /-- MODE in force, and inert since a change of it until a context releases a word (R206) -/
  mode : Nat
  inert : Bool
  /-- a context has released a word to it since start-up (R219) -/
  released : Bool
  /-- the stage-3 value of the latest release, and whether the pin took the guarded word then (R214) -/
  prev3 : Nat
  guarded : Bool
  /-- the PDM accumulator at the start of the running frame, and the pulses of that frame (R198) -/
  acc : Nat
  pulses : Nat
  /-- TRIM in force (R202), and whether a new one waits for an idle run -/
  trim : Nat
  trimWaits : Bool
  /-- consecutive frames with COMPLIANCE, SHORT, HV_LOAD, each up to 16 -/
  compl : Nat
  short : Nat
  load : Nat
  /-- the boundary at which it is latched off -/
  offAt : Option Nat
  /-- stage 2 or 3 clipped it upwards at the latest release (R326) -/
  own : Bool := false
deriving DecidableEq, Repr

/-- A driver level: its stored value and, where no context names it, the level the owner wrote (R210, R215). -/
structure LevelState where
  key : Nat
  stored : Nat
  direct : Option Nat
deriving DecidableEq, Repr

/-- A tile's Primer causes and what waits for the next boundary (R219 to R221), the consecutive frame handshakes (up to 16) and the
consecutive missed ones, and the latest release at which the guard acted (R217). -/
structure ActTile where
  starved : Bool := false
  applied : Bool := false
  guardLost : Bool := false
  applyDue : Bool := false
  guardDue : Bool := false
  resumeDue : Bool := false
  hand : Nat := 0
  missed : Nat := 0
  lastAct : Option Nat := none
deriving DecidableEq, Repr

structure Act where
  htr : List HtrChan := []
  levels : List LevelState := []
  tiles : List ActTile := List.replicate 80 {}
  /-- the Primer store is loaded and a boundary has followed (R196, R219) -/
  loaded : Bool := false
  /-- the first released words have been applied (R426) -/
  began : Bool := false
  /-- events due: 0 open, 1 short, 2 load, with the channel -/
  due : List (Nat × Nat) := []
  /-- releases asked for through TL_HTR_OFF and TL_FD_OFF: channel or driver -/
  htrRelease : List Nat := []
  fdRelease : List Nat := []
deriving DecidableEq, Repr

/-! ### Calibration and sweeps (chapter 9) -/

/-- A tile's calibration: a request and a temperature trigger that wait (R225, R226), the boundary K and the temperature of the
run in progress, whether the frame that ended cannot be measured, the trim of the channel before its slot, whether frame B is
still of use, and the boundary at which a pedestal calibration starts, with the photodiodes it failed for. -/
structure TileCal where
  req : Bool := false
  trig : Bool := false
  /-- the first boundary after the request or trigger -/
  first : Nat := 0
  start : Option Nat := none
  temp : Int := 0
  endDue : Bool := false
  aborting : Bool := false
  skip : Bool := false
  old : Int := 0
  live : Bool := false
  hvOk : Bool := false
  tia : Option Nat := none
  /-- the pedestal calibration of start-up takes every photodiode -/
  tiaAll : Bool := false
  tiaBad : List Nat := []
deriving DecidableEq, Repr

/-- A record of a sweep: entry, point, drive, averaged word as format 1 holds it (R235). -/
structure SweepRec where
  entry : Nat
  point : Nat
  drive : Nat
  word : Nat
deriving DecidableEq, Repr

/-- A SURVEY sweep while SV_STATUS.BUSY is 1: its entries, B_0, the drive in force at each output key, what is due, the records. -/
structure Sweep where
  entries : List Nat := []
  b0 : Nat := 0
  /-- entry, output key and drive of the point in force -/
  drives : List (Nat × Nat × Nat) := []
  /-- SWEEP_POINT is due for this point -/
  pointDue : Option Nat := none
  endDue : Bool := false
  aborting : Bool := false
  /-- entry and drive of the latest point that SWEEP_POINT has taken -/
  last : List (Nat × Nat) := []
  recs : List SweepRec := []
deriving DecidableEq, Repr

structure Cal where
  tiles : List TileCal := List.replicate 80 {}
  /-- items a host write has changed: tile, item, boundary (R232) -/
  written : List (Nat × Nat × Nat) := []
  /-- tiles in which a value came into force at this boundary -/
  touched : List Nat := []
  sweep : Sweep := {}
deriving DecidableEq, Repr

/-! ### Fabric time (chapter 12) -/

/-- A time domain (R289): its time in units of 2^-32 ns since second 0, what takes effect at the next REFCLK tick (R290), the held
seconds of a set, the frames since its holdover timer restarted, the consecutive beacons within 5 ns (R307). -/
structure Domain where
  t : Nat := 0
  set : Option Nat := none
  adj : Int := 0
  secHi : Nat := 0
  secLo : Nat := 0
  timer : Nat := 0
  holdDue : Bool := false
  ringRun : Nat := 0
  ringDue : Bool := false
deriving DecidableEq, Repr

/-- A time-stamp source (R301): records of six words, the oldest first, the record a read of word 0 holds, whether a record was
dropped since the last one kept. -/
structure TsSource where
  queue : List (List Nat) := []
  held : List Nat := [0, 0, 0, 0, 0, 0]
  lost : Bool := false
deriving DecidableEq, Repr

/-- What an Apsin port shows of the ring (R305, R306): the last 64 link delays in 2^-16 ns, frames since an exchange, whether
RING_LOST is due, the beacons sent on it: frame, time, hop count, correction. -/
structure RingPort where
  delays : List Int := []
  quiet : Nat := 0
  lostDue : Bool := false
  sent : List (Nat × Nat × Nat × Int) := []
deriving DecidableEq, Repr

structure Time where
  td : List Domain := [{}, {}]
  /-- fabric time in units of 2^-32 ns -/
  fab : Nat := 0
  alignReq : Bool := false
  aligning : Bool := false
  /-- the boundary whose input set is blanked for every context after an alignment (R297) -/
  blankAll : Option Nat := none
  switchDue : Bool := false
  autoDue : Bool := false
  lockRun : Nat := 0
  lockDue : Bool := false
  /-- frame of the latest PPS_IN edge, and whether its gap has been reported -/
  ppsEdge : Option Nat := none
  ppsGap : Bool := false
  /-- the second of the chosen scale that PPS_OUT last marked, and the FCLK instant at which it falls -/
  ppsMark : Nat := 0
  ppsFall : Nat := 0
  sources : List TsSource := List.replicate 11 {}
  ports : List RingPort := [{}, {}]
  /-- frames since a valid west beacon, consecutive valid west beacons, whether the change of port is due (R305) -/
  westMissed : Nat := 0
  westGood : Nat := 0
  portDue : Bool := false
  /-- REFCLK has been absent since the domains were loaded (R298) -/
  refclkLost : Bool := false
deriving DecidableEq, Repr
/-! ### Planes (chapter 14) -/

/-- A context of a divergence sequence (R347 to R350): the frame F of its mismatch, its output and the word of frame F − 1 held
there, Y_F, the words the two planes computed, what they retained of U and MODEL, the result of frame F; then whether it waits
for evidence, u_app, and its measurement Y_M. -/
structure DivItem where
  ctx : Nat
  frame : Nat
  key : Nat
  held : Nat
  y : Int
  words : Nat × Nat
  us : Nat × Nat
  models : Int × Int
  upd : Upd
  waits : Bool := false
  app : Nat := 0
  meas : Option Int := none
deriving DecidableEq, Repr

/-- A DRILL (R356): its command, boundary X, and whether the roles are exchanged. -/
structure DrillRec where
  head : CmdHead
  x : Nat
  swapped : Bool := false
deriving DecidableEq, Repr

/-- A return (R359, R360): the plane, its step (1 power cycle, 2 powered for the bank test, 3 copy, 4 probation), the absolute admission point at
which it began, the boundary J0 or J of its step. -/
structure Returning where
  plane : Plane
  step : Nat
  since : Nat
  bound : Nat := 0
deriving DecidableEq, Repr

structure PlaneSt where
  items : List DivItem := []
  /-- frame of the first mismatch of the open sequence, and its decision: due, and the boundary at which its contexts resume, with
  whether they are fenced there (R351) -/
  first : Option Nat := none
  decideDue : Bool := false
  resume : Option (Nat × Bool) := none
  /-- consecutive Express mismatches: context, latest chip, count (R353) -/
  expRuns : List (Nat × Nat × Nat) := []
  drill : Option DrillRec := none
  ret : Option Returning := none
  /-- automatic returns that wait: plane, boundary; and the boundaries at which the latest ones started (R361) -/
  autoAt : List (Plane × Nat) := []
  autoLog : List Nat := []
  /-- the boundary at which the running central audit began (R354) -/
  audit : Option Nat := none
  /-- drivers whose selections diverged, with the selection they wait for, and whether they may take it -/
  heldSel : List (Nat × Nat) := []
  selFree : Bool := false
  /-- latest reload of each Cellar copy: copy, boundary (R364) -/
  reloads : List (Nat × Nat) := []
  /-- seconds of the real-time clock since the last successful DRILL, and the plane whose supervisor has raised
  DRILL_DUE (R358) -/
  ageSec : Nat := 0
  dueRaised : Option Plane := none
deriving DecidableEq, Repr

/-! ### Temperature, trips, power (chapter 16) -/

structure Thermal where
  /-- consecutive rounds in which a sensor differed from its zone's median: sensor, rounds (R390) -/
  medians : List (Nat × Nat) := []
  /-- frame of the latest round taken, and the sensor whose THROTTLE condition is live (R394) -/
  taken : Option Nat := none
  throttler : Option Nat := none
  /-- a trip has fired: its cause of R432; THERM_TRIP_N, asserted is false; the device has halted (R397) -/
  trip : Option Nat := none
  tripN : Bool := true
  halted : Bool := false
deriving DecidableEq, Repr

/-- A power-state transition (R401): target, its POWER command, boundary E, the domains not yet asked, whether the lanes have agreed,
the boundary at which the tiles stop, whether they have. -/
structure Transition where
  target : PowerState
  head : CmdHead
  entry : Nat
  ask : List Nat
  lanes : Bool := false
  tilesAt : Nat := 0
  tiles : Bool := false
deriving DecidableEq, Repr

structure PowerSt where
  trans : Option Transition := none
  /-- lanes that the power state keeps stopped, and lanes that FRUGAL keeps without power (R239, R398) -/
  held : List Nat := []
  frugal : List Nat := []
  /-- a wake in progress: its cause (R405) -/
  wake : Option Nat := none
  /-- domains being woken (R399) -/
  waking : List Nat := []
  /-- frames since the last second of the real-time clock -/
  rtcSub : Nat := 0
  /-- banks whose refresh was missed during the sleep (R404) -/
  missed : List (Plane × Nat) := []
deriving DecidableEq, Repr

/-! ### The Dust Sheet (R329, R330) -/

/-- What one quantum of the Dust Sheet, a second or in SEALED 10 s, holds back: the hottest band and HOLDOVER at the latest quantum
boundary and at the one before, the shared condition at the latest one, SHARED_DEGRADED, and whether stage 4 or 5 has scaled
since. -/
structure DustQ where
  band : Nat := 0
  bandBefore : Nat := 0
  hold : Bool := false
  holdBefore : Bool := false
  cond : Bool := false
  flag : Bool := false
  scaled : Bool := false
deriving DecidableEq, Repr

structure Dust where
  second : DustQ := {}
  ten : DustQ := {}
  /-- the first boundary after start-up has come -/
  begun : Bool := false
deriving DecidableEq, Repr

/-! ### Control availability (R35) -/

/-- Counted time, and the frames of it in which a committed circuit was outside its loss window. -/
structure Avail where
  counted : Nat := 0
  lost : Nat := 0
deriving DecidableEq, Repr

/-! ### Start-up (chapter 17) -/

/-- Where the device stands between reset and RUN: in reset; in OFF; loading; its image applied, with the steps of R426 to come; in RUN; ended
without an image or in HALT. -/
inductive BootPhase where | reset | off | loading | applied | run | ended
deriving DecidableEq, Repr

structure Boot where
  phase : BootPhase := .reset
  /-- LOAD_IN, LOAD_DONE (R423) -/
  loadIn : Bool := false
  loadDone : Bool := false
  ready : Bool := false
  /-- a pass runs; passes of the head; the slots read so far and the reads asked for (R422 to R424) -/
  passing : Bool := false
  tried : List Nat := []
  wanted : Nat := 0
  /-- self-tests: planes that have completed theirs, planes that failed, with what they raise -/
  tested : List Plane := []
  failed : List (Plane × FaultMsg) := []
  /-- what the image gave: registers, a plane's private registers, its digest, its mode, its start plane -/
  shared : List (Nat × Word) := []
  priv : List (Nat × Word) := []
  digest : List Nat := []
  mode : Nat := 0
  startPlane : Nat := 0
  /-- contexts whose image STATE is ACTIVE, with their consecutive good sets or updates (R429) -/
  watch : List (Nat × Nat) := []
  pedestals : Bool := false
  session : Bool := false
  /-- a reboot asked for: its slot preference, the boundary of the reset (R434) -/
  reboot : Option (Nat × Nat) := none
  prefer : Nat := 0
  /-- a running NOR operation: its code, address, bytes (R433) -/
  norOp : Option (Nat × Nat × Nat) := none
  /-- post-mortem: the write in progress ends at this absolute point; the erase after RUN has been made (R431) -/
  pmUntil : Nat := 0
  pmErased : Bool := false
  /-- boot-chain statuses of the ring: position, serial, frame of arrival (R430) -/
  nodes : List (Nat × Nat × Nat) := []
  /-- a request for a pass that waits, with the slot wanted (R424) -/
  waitPass : Option Nat := none
deriving DecidableEq, Repr

/-! ### The block -/

/-- The frame number of the latest boundary, the m of the latest admission point and that of the next one (R10, R27); 64 once
the frame's last point has passed. -/
structure Clock where
  frame : Nat := 0
  point : Nat := 0
  next : Nat := 0
deriving DecidableEq, Repr

/-- An F-class write that awaits its boundary (R15): the field, its value, and whether it goes to both planes' private copies. -/
structure Shadow where
  field : FieldAt
  value : Nat
  priv : Bool
deriving DecidableEq, Repr

/-- The register files and what stands around them (R435 to R446). -/
structure RegState where
  /-- registers that are shared, kept alike, indexed by lane, or the collectors' -/
  shared : List (Nat × Word) := []
  /-- the private registers of plane A and of plane B -/
  privA : List (Nat × Word) := []
  privB : List (Nat × Word) := []
  shadows : List Shadow := []
  /-- plane select of each requester that has written it; 3 BOTH otherwise (R437) -/
  planeSel : List (Requester × Nat) := []
  /-- snapshot holders: the _HI address and its held value (R444) -/
  snapshot : List (Requester × Nat × Nat) := []
  /-- a write of _HI held for the write of _LO: the _HI address and its value (R445) -/
  heldHi : List (Requester × Nat × Nat) := []
deriving DecidableEq, Repr

/-- The whole block. -/
structure State where
  clk : Clock := {}
  reg : RegState := {}
  mode : Mode := .balanced
  /-- an accepted MODE command: mode and boundary (R5) -/
  modeNext : Option (Mode × Nat) := none
  power : PowerState := .off
  imageApplied : Bool := false
  fabric : Fabric := {}
  route : Route := {}
  com : CommitState := {}
  links : Links := {}
  sb : Sideband := {}
  sched : Sched := {}
  prot : Protect := {}
  faults : Faults := {}
  sense : Sense := {}
  cap : Capture := {}
  hka : Hka := {}
  dith : Dither := {}
  gens : List Gen := List.replicate 16 {}
  loop : Loop := {}
  clips : Clips := {}
  act : Act := {}
  cal : Cal := {}
  time : Time := {}
  pl : PlaneSt := {}
  therm : Thermal := {}
  pw : PowerSt := {}
  dust : Dust := {}
  avail : Avail := {}
  boot : Boot := {}
  /-- the NOR flash the device is wired to (R409, R410) -/
  nor : List Host.Cell := []
  /-- the levels of EVT0 to EVT7 at the latest boundary, and those with a rising edge in the frame before it (R187) -/
  evtLevel : Nat := 0
  evtRise : Nat := 0
  /-- how many free values the run has taken (log entry 2) -/
  freeCount : Nat := 0
  pending : List Instr := []
deriving DecidableEq, Repr

/-- The state right after reset. -/
def State.reset : State := {}

end Sys2Proof.Machine
end

