-- ==== Sys2Proof/Machine/Ops.lean ====
section
/-! DEFINITION. Machine/Ops.lean: the named operations over the register files and the other state that every chapter uses:
reading and writing fields, saturating counters, fault messages, response items, notices, free values. -/

namespace Sys2Proof.Machine

open Sys2Proof

/-! ### Register files -/

/-- The word at address `a` of the registers that are not private. -/
def State.word (s : State) (a : Nat) : Nat := (smGet resetWord s.reg.shared a).toNat

def State.setWord (s : State) (a w : Nat) : State :=
  { s with reg := { s.reg with shared := smSet resetWord s.reg.shared a (BitVec.ofNat 32 w) } }

/-- The private register file of a plane. -/
def RegState.file (r : RegState) : Plane → List (Nat × Word)
  | .A => r.privA
  | .B => r.privB

def RegState.setFile (r : RegState) (p : Plane) (m : List (Nat × Word)) : RegState :=
  match p with
  | .A => { r with privA := m }
  | .B => { r with privB := m }

/-- The word at address `a` of plane `p`'s private registers. -/
def State.wordP (s : State) (p : Plane) (a : Nat) : Nat := (smGet resetWord (s.reg.file p) a).toNat

def State.setWordP (s : State) (p : Plane) (a w : Nat) : State :=
  { s with reg := s.reg.setFile p (smSet resetWord (s.reg.file p) a (BitVec.ofNat 32 w)) }

/-- A field of a word. -/
def FieldAt.get (f : FieldAt) (w : Nat) : Nat := bits w f.hi f.lo

/-- The word with the field replaced. -/
def FieldAt.put (f : FieldAt) (w v : Nat) : Nat := putBits w f.hi f.lo v

/-- The field's largest value. -/
def FieldAt.top (f : FieldAt) : Nat := 2 ^ (f.hi + 1 - f.lo) - 1

/-- Read a field of the shared registers. -/
def State.rd (s : State) (f : FieldAt) : Nat := f.get (s.word f.addr)

/-- Write a field of the shared registers. -/
def State.wr (s : State) (f : FieldAt) (v : Nat) : State := s.setWord f.addr (f.put (s.word f.addr) v)

/-- Read a signed field of the shared registers. -/
def State.rdS (s : State) (f : FieldAt) : Int := signed (f.hi + 1 - f.lo) (s.rd f)

/-- Write a signed field of the shared registers in two's complement. -/
def State.wrS (s : State) (f : FieldAt) (v : Int) : State := s.wr f (unsigned (f.hi + 1 - f.lo) v)

/-- A one-bit field as a truth value. -/
def State.on (s : State) (f : FieldAt) : Bool := s.rd f != 0

/-- Read a field of a plane's private registers. -/
def State.rdP (s : State) (p : Plane) (f : FieldAt) : Nat := f.get (s.wordP p f.addr)

/-- Write a field of a plane's private registers. -/
def State.wrP (s : State) (p : Plane) (f : FieldAt) (v : Nat) : State :=
  s.setWordP p f.addr (f.put (s.wordP p f.addr) v)

def State.rdPS (s : State) (p : Plane) (f : FieldAt) : Int := signed (f.hi + 1 - f.lo) (s.rdP p f)

def State.wrPS (s : State) (p : Plane) (f : FieldAt) (v : Int) : State := s.wrP p f (unsigned (f.hi + 1 - f.lo) v)

/-- Write a field in both planes' private registers. -/
def State.wrB (s : State) (f : FieldAt) (v : Nat) : State := (s.wrP .A f v).wrP .B f v

def State.setWordB (s : State) (a w : Nat) : State := (s.setWordP .A a w).setWordP .B a w

/-- Add to a counter field, saturating at the field's largest value. -/
def State.bump (s : State) (f : FieldAt) (n : Nat) : State := s.wr f (satAdd f.top (s.rd f) n)

/-- The same in both planes' private registers. -/
def State.bumpB (s : State) (f : FieldAt) (n : Nat) : State :=
  (s.wrP .A f (satAdd f.top (s.rdP .A f) n)).wrP .B f (satAdd f.top (s.rdP .B f) n)

/-- Advance a wrapping counter field. -/
def State.advance (s : State) (f : FieldAt) : State := s.wr f (s.rd f + 1)

/-- Fold a state transformer over a list. -/
def State.over {α : Type} (s : State) (l : List α) (f : State → α → State) : State := l.foldl f s

/-- Apply a transformer only where a condition holds. -/
def State.when (s : State) (c : Bool) (f : State → State) : State := if c then f s else s

/-! ### Instants, planes, modes -/

/-- The absolute number of the latest admission point: 64 a frame (R27). -/
def State.now (s : State) : Nat := s.clk.frame * 64 + s.clk.point

/-- The active plane (PL_ROLE.ACTIVE, R341). -/
def State.active (s : State) : Plane := if s.on R.PL_ROLE_ACTIVE then .B else .A

def State.standby (s : State) : Plane := other s.active

/-- The health field of a plane: 0 in service, 1 fenced, 2 off, 3 returning (R341). -/
def healthField : Plane → FieldAt
  | .A => R.PL_ROLE_HEALTH_A
  | .B => R.PL_ROLE_HEALTH_B

def State.health (s : State) (p : Plane) : Nat := s.rd (healthField p)

def State.inService (s : State) (p : Plane) : Bool := s.health p == 0

/-- The planes in service. -/
def State.planesUp (s : State) : List Plane := [Plane.A, Plane.B].filter s.inService

def State.lastResort (s : State) : Bool := s.on R.PL_ROLE_LAST_RESORT

def State.isMode (s : State) (m : Mode) : Bool := decide (s.mode = m)

/-- The plane a lane belongs to (R239). -/
def lanePlane (l : Nat) : Plane := if l < 4 then .A else .B

/-! ### Free values -/

/-- Take the next free value: a value the spec leaves open (log entry 2). -/
def State.free (s : State) : Nat × State :=
  (Config.freeValue s.freeCount, { s with freeCount := s.freeCount + 1 })

/-! ### Principals -/

/-- Position of a principal in the per-principal lists: tenancies 0 to 15, the owner at 16. -/
def pIdx (p : Nat) : Nat := if p = 30 then 16 else p

def isTenancy (p : Nat) : Bool := p < 16

/-- The principals that may send frames (R9). -/
def isPrincipal (p : Nat) : Bool := p < 16 || p == 30

def principals : List Nat := List.range 16 ++ [30]

def State.prin (s : State) (p : Nat) : PrinLink := s.links.prin.getD (pIdx p) {}

def State.updPrin (s : State) (p : Nat) (f : PrinLink → PrinLink) : State :=
  { s with links := { s.links with prin := modAt s.links.prin (pIdx p) f } }

def State.lane (s : State) (l : Nat) : LaneState := s.links.lanes.getD l {}

def State.updLane (s : State) (l : Nat) (f : LaneState → LaneState) : State :=
  { s with links := { s.links with lanes := modAt s.links.lanes l f } }

/-- ENABLE of a tenancy; the owner is always enabled (R310). -/
def State.enabled (s : State) (p : Nat) : Bool := if isTenancy p then s.on (R.PR_TEN_CFG_ENABLE p) else p == 30

/-- The lanes a principal is bound to (R250, R310): LK_BIND shows the binding. -/
def State.boundLanes (s : State) (p : Nat) : List Nat :=
  if isTenancy p then
    (if s.on (R.PR_TEN_CFG_A_VALID p) then [s.rd (R.PR_TEN_CFG_LANE_A p) % 4] else []) ++
    (if s.on (R.PR_TEN_CFG_B_VALID p) then [4 + s.rd (R.PR_TEN_CFG_LANE_B p) % 4] else [])
  else if p = 30 then
    (if s.on R.PR_OWNER_A_VALID then [s.rd R.PR_OWNER_LANE_A % 4] else []) ++
    (if s.on R.PR_OWNER_B_VALID then [4 + s.rd R.PR_OWNER_LANE_B % 4] else [])
  else []

/-- The lanes that carry a binding of an enabled tenancy. -/
def State.tenancyLanes (s : State) : List Nat :=
  ((List.range 16).filter s.enabled).flatMap s.boundLanes

/-- A principal's epoch (R310). -/
def State.epoch (s : State) (p : Nat) : Nat := s.rd (R.PR_EPOCH_EPOCH p)

/-- Does an input port, an output port belong to tenancy t's port sets (R310)? -/
def State.ownsIn (s : State) (t i : Nat) : Bool := (s.rd (R.PR_TEN_IN_PORTS t (i / 32))).testBit (i % 32)
def State.ownsOut (s : State) (t j : Nat) : Bool := (s.rd (R.PR_TEN_OUT_PORTS t (j / 32))).testBit (j % 32)

/-- A tenancy's whole input or output port set as a number: bit i is port i. -/
def State.inSet (s : State) (t : Nat) : Nat :=
  (List.range 32).foldl (fun a k => a + s.rd (R.PR_TEN_IN_PORTS t k) * 2 ^ (32 * k)) 0
def State.outSet (s : State) (t : Nat) : Nat :=
  (List.range 32).foldl (fun a k => a + s.rd (R.PR_TEN_OUT_PORTS t k) * 2 ^ (32 * k)) 0

/-! ### Status codes (R70, R103, R176, R222, R237, R259, R340, R366) -/

namespace Code
def ok := 0x00
def partHeld := 0x01
def busy := 0x10
def badOpcode := 0x11
def badLength := 0x12
def badArg := 0x13
def notPermitted := 0x14
def epochStale := 0x15
def modeRefused := 0x16
def rateRefused := 0x17
def queueFull := 0x18
def throttled := 0x19
def stageBusy := 0x1A
def stageIncomplete := 0x1B
def badAddress := 0x1C
def locked := 0x1D
def powerAborted := 0x1E
def protectBusy := 0x20
def protectNone := 0x21
def protectMismatch := 0x22
def protectEarly := 0x23
def protectConflict := 0x24
def protectSealed := 0x25
def protectFloor := 0x26
def keyUnwrap := 0x27
def keySlot := 0x28
def keyWorn := 0x29
def nvTemp := 0x2A
def scopeField := 0x2B
def portBusy := 0x40
def notConnected := 0x41
def notOwner := 0x42
def routeBlocked := 0x43
def rearrangeNeeded := 0x44
def routeTimeout := 0x45
def wrongTopology := 0x46
def cellFailed := 0x47
def elementNotOwned := 0x48
def routeHalted := 0x49
def badPort := 0x4A
def commitLate := 0x50
def commitRange := 0x51
def commitOrder := 0x52
def commitLimit := 0x53
def wrongMode := 0x54
def commitSlot := 0x55
def commitPassed := 0x56
def fencePassed := 0x57
def abortTooLate := 0x58
def tokenLost := 0x59
def tokenConflict := 0x5A
def stageDropped := 0x5B
def rearrangeExpired := 0x5C
end Code

/-! ### Opcodes (R256) -/

/-- The opcode of a command. -/
def opcodeOf : Cmd → Nat
  | .ping => 0x01 | .summary _ => 0x02 | .fence => 0x03 | .read .. => 0x04 | .write .. => 0x05
  | .connect .. => 0x10 | .disconnect .. => 0x11 | .stage .. => 0x12 | .setElement .. => 0x13 | .commit .. => 0x14
  | .abort .. => 0x15 | .remap .. => 0x16 | .ctxRead .. => 0x20 | .ctxWrite .. => 0x21 | .ctxState .. => 0x22
  | .guardWrite .. => 0x28 | .primerWrite .. => 0x29 | .primerApply _ => 0x2A | .tileResume _ => 0x2B
  | .hkaInject .. => 0x30 | .calibrate _ => 0x31 | .stencilStart _ => 0x32 | .mode .. => 0x38 | .power _ => 0x39
  | .drill _ => 0x3A | .reboot _ => 0x3B | .protectArm _ => 0x40 | .protectCommit .. => 0x41
  | .keyInstall .. => 0x42 | .keyRoll .. => 0x43 | .forward .. => 0x44

/-! ### Fault messages (R367 to R369) -/

/-- Hand a fault message to the collectors; the next offer takes it (R372). -/
def State.raise (s : State) (m : FaultMsg) : State :=
  { s with faults := { s.faults with incoming := s.faults.incoming ++ [m] } }

/-- Hand an end report to the collectors (R378). -/
def State.endReport (s : State) (m : FaultMsg) : State :=
  { s with faults := { s.faults with ended := s.faults.ended ++ [m] } }

/-- A tile message about a unit: UNIT in [31:28], INDEX in [15:0] (R368). -/
def tileMsg (tile kind unit index : Nat) : FaultMsg :=
  { cls := 1, inst := tile, kind := kind, addr := unit * 2 ^ 28 + index % 65536 }

/-- A message about context n: UNIT 1 of its tile. -/
def ctxMsg (n kind : Nat) : FaultMsg := tileMsg (n / 512) kind 1 n

/-- A message of plane p about item `addr`. -/
def planeMsg (cls inst kind : Nat) (p : Plane) (addr : Nat) : FaultMsg :=
  { cls := cls, inst := inst, kind := kind, plane := planeBit p, addr := addr }

/-! ### Response items and notices (R252 to R258, R285) -/

/-- A frame of tenancy t's own admission points in SEALED: m mod 16 = t (R284). The first such absolute point at or after a. -/
def ownPoint (t a : Nat) : Nat := a + (16 + t - a % 16) % 16

/-- The fixed response latency of SEALED in admission points (R285); none for COMMIT and FENCE. -/
def sealedLatency (opcode flags : Nat) : Option Nat :=
  if opcode = 0x02 then some (if flags % 2 = 1 then 192 else 8)
  else if opcode = 0x01 ∨ opcode = 0x04 ∨ opcode = 0x20 then some 8
  else if opcode = 0x10 ∨ opcode = 0x11 ∨ opcode = 0x12 ∨ opcode = 0x13 then some 64
  else if opcode = 0x05 ∨ opcode = 0x21 ∨ opcode = 0x22 ∨ opcode = 0x15 then some 80
  else none

/-- Put an item on a principal's list for the coming admission point, or for the absolute point given. -/
def State.pushItem (s : State) (p : Nat) (readyAt : Option Nat) (it : Item) : State :=
  match readyAt with
  | none => s.updPrin p fun l => { l with completed := l.completed ++ [it] }
  | some a => s.updPrin p fun l => { l with delayed := l.delayed ++ [(a, it)] }

/-- The flight of a command ends (R100). One with a boundary of its own ends there. -/
def State.endFlight (s : State) (p cseq : Nat) : State :=
  { s with sched := { s.sched with
      flights := s.sched.flights.filter fun f => !(f.principal == p && f.cseq == cseq && f.until_ == 0) } }

/-- In SEALED a tenancy's item becomes ready a fixed time after the release point r; a late one waits for an own point, is
counted and raises a scheduler fault (R285). Every other item is ready at once. The command is complete with its response,
an accepted COMMIT apart (R100). -/
def State.answerAt (s : State) (r : Nat) (h : CmdHead) (opcode status : Nat) (body : List Nat) : State :=
  let s := if opcode = 0x14 ∧ status = Code.ok then s else s.endFlight h.principal h.cseq
  let it : Item := ⟨opcode, status, h.cseq, r % 64, r / 64, body⟩
  if s.isMode .sealed && isTenancy h.principal then
    match sealedLatency opcode h.flags with
    | some l =>
      if s.now ≤ r + l then s.pushItem h.principal (some (r + l)) it
      else
        let s := (s.bump R.SCH_EVENTS2_SEALED_LATE 1).raise
          { cls := 6, inst := 0, kind := 1, plane := planeBit s.active, addr := h.principal }
        s.pushItem h.principal (some (ownPoint h.principal s.now)) it
    | none =>
      let since := if opcode = 0x14 then max s.now (r + 80) else s.now
      s.pushItem h.principal (some (ownPoint h.principal since)) it
  else s.pushItem h.principal none it

/-- Answer a command that took effect at the latest admission point. -/
def State.answer (s : State) (h : CmdHead) (opcode status : Nat) (body : List Nat := []) : State :=
  s.answerAt s.now h opcode status body

/-- Send a notice at the current boundary: CSEQ 0 unless the notice concerns a command (R255). -/
def State.notice (s : State) (p code status cseq : Nat) (body : List Nat) : State :=
  s.updPrin p fun l => { l with notices := l.notices ++ [⟨code, status, cseq, s.clk.point, s.clk.frame, body⟩] }

/-- ALERT_CAUSE gains a cause; ALERT_N is asserted when the cause was not yet recorded (R271). -/
def State.alert (s : State) (cause : Nat) : State :=
  let old := s.sb.alertCause
  { s with sb := { s.sb with alertCause := old ||| cause, alertN := if old &&& cause = cause then s.sb.alertN else false } }

/-- The mode, the power state or a plane role has changed: cause STATE. -/
def State.alertState (s : State) : State := s.alert 2

/-! ### Locks and throttling -/

/-- Is lock bit b in force (R324)? -/
def State.locked (s : State) (b : Nat) : Bool := (s.rd R.PR_LOCK_LOCK).testBit b

/-- The throttle level (R394). -/
def State.throttle (s : State) : Nat := s.rd R.TH_STATUS_LEVEL

/-- The sideband is trusted while the strap is 1 and SB_OFF is not raised (R309). -/
def State.sbTrusted (s : State) : Bool := s.on R.PR_OWNER_SB_TRUSTED && !s.locked 9

/-- The requester has the owner's register rights: the owner, or a trusted sideband (R309). -/
def State.ownerLike (s : State) : Requester → Bool
  | .principal p => p == 30
  | .sideband => s.sbTrusted
  | .firmware _ => false

end Sys2Proof.Machine
end

