-- ==== Sys2Proof/Machine/Fabric.lean ====
section
/-! DEFINITION. Machine/Fabric.lean: the geometry of a Beneš fabric in cube form (R38 to R41), the records of the fabric
description and the formulas of linear placement (R42 to R46), the cells of a path (R50), reserved cells (R58 to R60), and
what belongs to a tenancy (R311, R312). -/

namespace Sys2Proof.Machine

open Sys2Proof

/-! ### Geometry -/

/-- The address bit that stage s switches (R38). -/
def stageBit (n s : Nat) : Nat := if s + 1 ≤ n then s else 2 * (n - 1) - s

/-- The row of the cell that takes position x at a stage of bit b (R39). -/
def rowOf (x b : Nat) : Nat := x / 2 ^ (b + 1) * 2 ^ b + x % 2 ^ b

/-- The lower position x0 of the cell in row r at a stage of bit b (R39). -/
def lowPos (r b : Nat) : Nat := r / 2 ^ b * 2 ^ (b + 1) + r % 2 ^ b

/-- The logical index of the cell at stage s, row r (R40). -/
def cellIndex (n s r : Nat) : Nat := s * 2 ^ (n - 1) + r

/-- The logical cell that takes position x at stage s. -/
def cellAt (n s x : Nat) : Nat := cellIndex n s (rowOf x (stageBit n s))

/-- Stage and row of a logical cell. -/
def stageOf (n c : Nat) : Nat := c / 2 ^ (n - 1)
def rowIn (n c : Nat) : Nat := c % 2 ^ (n - 1)

/-- Does the line from i to j with path index p cross at stage s (the table of R50)? -/
def crossesAt (n i j p s : Nat) : Bool :=
  let b := stageBit n s
  let differ := i.testBit b != j.testBit b
  if s = n - 1 then differ
  else if s < n - 1 then p.testBit b != differ
  else p.testBit b

/-- The cells of a path with the state each needs, in stage order: (logical cell, 0 bar or 1 cross) (R39, R50). -/
def pathCells (n i j p : Nat) : List (Nat × Nat) :=
  ((List.range (2 * n - 1)).foldl (fun (acc : List (Nat × Nat) × Nat) s =>
    let x := acc.2
    let c := crossesAt n i j p s
    (acc.1 ++ [(cellAt n s x, b01 c)], if c then x ^^^ 2 ^ stageBit n s else x)) ([], i)).1

/-! ### Records -/

def noRec : CellRec := ⟨0xFFFF, 0xFFFF, 0xFFFF, 0xFFFF, 0xFFFF, 0xFFFF, 0, 30⟩

/-- Linear placement of a cell (R46). -/
def linearCell (c : Nat) : CellRec := ⟨c, 0xFFFF, 2 * c, 2 * c + 1, 4 * c, c / 4, 2, 30⟩

/-- Linear placement of a port (R46). -/
def linearPort (j : Nat) : PortRec :=
  ⟨19456 + j, 38912 + 512 * (j / 256) + j % 256, 38912 + 512 * (j / 256) + 256 + j % 256, 2432 + j / 8, 2432 + j / 8⟩

/-- The number of ports; 0 in DIRECT topology. -/
def Fabric.portCount (f : Fabric) : Nat := if f.topology = 1 then 2 ^ f.n else 0

/-- The primary record of cell or element k; elements from CELL_COUNT on are the auxiliary records (R43, R68). -/
def Fabric.record (f : Fabric) (k : Nat) : CellRec :=
  if k < f.cellCount then (if f.placement = 0 then linearCell k else f.cells.getD k noRec)
  else f.aux.getD (k - f.cellCount) noRec

def Fabric.port (f : Fabric) (j : Nat) : PortRec :=
  if f.placement = 0 then linearPort j else f.ports.getD j ⟨0xFFFF, 0xFFFF, 0xFFFF, 0xFFFF, 0xFFFF⟩

def Fabric.elementCount (f : Fabric) : Nat := f.cellCount + f.aux.length

/-- The record in force of a cell or element: its alternate while it is remapped (R48). -/
def State.recordOf (s : State) (k : Nat) : CellRec :=
  let r := s.fabric.record k
  if k ∈ s.route.remapped ∧ r.alt ≠ 0xFFFF then s.fabric.aux.getD r.alt noRec else r

/-- The FLAGS of a record (R43). -/
def CellRec.primerCross (r : CellRec) : Bool := r.flags.testBit 0
def CellRec.primerKnown (r : CellRec) : Bool := r.flags.testBit 1
def CellRec.thermalOnly (r : CellRec) : Bool := r.flags.testBit 2

/-- The logical cells and elements whose record in force is the physical cell. -/
def State.cellsAtPhys (s : State) (phys : Nat) : List Nat :=
  if s.fabric.placement = 0 ∧ s.fabric.topology ≠ 0 ∧ phys < s.fabric.cellCount then [phys]
  else (List.range s.fabric.elementCount).filter fun k => (s.recordOf k).phys == phys

/-- Is the physical cell of a cell or element failed (R52)? -/
def State.cellFailed (s : State) (k : Nat) : Bool := (s.recordOf k).phys ∈ s.route.failed

/-- Is the state of a cell that fails known: PRIMER_KNOWN, and where its driver is latched at 0 V its Primer level is 0 V too (R52,
R212)? -/
def State.stateKnown (s : State) (k : Nat) : Bool :=
  let r := s.recordOf k
  let t := r.phys / 128
  let d := r.phys % 128
  r.primerKnown && (r.phys == 0xFFFF || !(s.rd (R.TL_FD_OFF_LATCHED t (d / 32))).testBit (d % 32) ||
    s.rd (R.TL_PRIMER_FD_LEVEL t d) == 2048)

/-! ### Reserved cells -/

/-- Is the cell exclusive to an aligned block k, m (R59)? -/
def exclusiveCell (n k m c : Nat) : Bool :=
  stageBit n (stageOf n c) < k && decide (rowIn n c / 2 ^ (k - 1) = m)

/-- Is the cell held by an aligned block k, m (R59)? -/
def heldCell (n k m c : Nat) : Bool :=
  let b := stageBit n (stageOf n c)
  let x0 := lowPos (rowIn n c) b
  k ≤ b && (decide (x0 / 2 ^ k = m) || decide ((x0 + 2 ^ b) / 2 ^ k = m))

/-- The aligned tenancies in force (R63). -/
def State.alignedNow (s : State) : List Alignment := s.route.aligned.filter (!·.pending)

/-- The alignment of tenancy t in force, if any. -/
def State.alignmentOf (s : State) (t : Nat) : Option Alignment := s.alignedNow.find? (·.tenancy == t)

/-- A tenancy counts as aligned: R58, R63, and R69 in DIRECT topology. -/
def State.isAligned (s : State) (t : Nat) : Bool := s.fabric.topology == 2 || (s.alignmentOf t).isSome

def State.isHeld (s : State) (c : Nat) : Bool := s.alignedNow.any fun a => heldCell s.fabric.n a.k a.m c

/-- The cell is exclusive to an aligned tenancy other than p, and p is not the owner (R61, R62). -/
def State.exclusiveToOther (s : State) (p c : Nat) : Bool :=
  p != 30 && s.alignedNow.any fun a => a.tenancy != p && exclusiveCell s.fabric.n a.k a.m c

/-- The exclusive cells of an alignment, ascending. -/
def exclusiveCells (n : Nat) (a : Alignment) : List Nat :=
  (List.range (2 * n - 1)).flatMap fun st =>
    if stageBit n st < a.k then (List.range (2 ^ (a.k - 1))).map fun r => cellIndex n st (a.m * 2 ^ (a.k - 1) + r) else []

/-- Tenancy t's ports form one aligned block on both sides: its k and m (R58). The same block size can arise for one k only. -/
def State.alignmentParams (s : State) (t : Nat) : Option (Nat × Nat) :=
  let n := s.fabric.n
  if s.fabric.topology = 1 then
    (List.range (n + 1)).findSome? fun k =>
      if k < 3 then none else
      (List.range (2 ^ (n - k))).findSome? fun m =>
        let block := (2 ^ 2 ^ k - 1) * 2 ^ (m * 2 ^ k)
        if s.inSet t = block ∧ s.outSet t = block then some (k, m) else none
  else none

/-! ### Contexts and what names them -/

/-- The contexts a plane's file lists: those with a word that differs from its reset word, ascending. Every other context is
OFF and untouched. -/
def State.listedCtx (s : State) (p : Plane) : List Nat :=
  dedup ((s.reg.file p).filterMap fun e =>
    if 0x1000000 ≤ e.1 ∧ e.1 < 0x1280000 then some ((e.1 - 0x1000000) / 64) else none)

/-- The context states of R151. -/
def stOff := 0
def stActive := 1
def stDormant := 2
def stHold := 3
def stFenced := 4

/-- The causes of CTX_OUT.CAUSE (R155). -/
def causeNone := 0
def causeLost := 1
def causeFrozen := 2
def causeInvalid := 3
def causeReclaimed := 4
def causeSlotWait := 5
def causeFollowing := 6
def causeRequested := 7
def causeFault := 8
def causeEcc := 9

def State.ctxState (s : State) (p : Plane) (n : Nat) : Nat := s.rdP p (R.CTX_OUT_STATE n)

/-- The contexts of a tile that a plane's file lists. -/
def State.tileCtx (s : State) (p : Plane) (t : Nat) : List Nat := (s.listedCtx p).filter fun n => n / 512 == t

/-- The contexts that drive heater channel c of tile t (TARGET 1). -/
def State.ctxOfHeater (s : State) (t c : Nat) : List Nat :=
  (s.tileCtx s.active t).filter fun n => s.rdP s.active (R.CTX_CTL_TARGET n) == 1 && s.rdP s.active (R.CTX_BIND_ACT n) == c

/-- The contexts that drive a level of driver d of tile t (TARGET 2 and 3). -/
def State.ctxOfDriver (s : State) (t d : Nat) : List Nat :=
  (s.tileCtx s.active t).filter fun n =>
    (s.rdP s.active (R.CTX_CTL_TARGET n) == 2 || s.rdP s.active (R.CTX_CTL_TARGET n) == 3) &&
      s.rdP s.active (R.CTX_BIND_ACT n) == d

/-- The contexts whose home slot lies on photodiode j of tile t; a lending slot lies on the same photodiode (CTX_BIND). -/
def State.ctxOfPd (s : State) (t j : Nat) : List Nat :=
  (s.tileCtx s.active t).filter fun n => s.rdP s.active (R.CTX_BIND_PD n) == j

/-! ### A tenancy's own objects (R311, R312) -/

/-- Does context n belong to tenancy t (R311)? -/
def State.ownsCtx (s : State) (t n : Nat) : Bool :=
  let f := s.fabric
  if f.topology = 1 then
    (List.range f.portCount).any (fun j =>
      (s.ownsOut t j && (f.port j).outCtx == n) || (s.ownsIn t j && (f.port j).inCtx == n)) ||
    (match s.alignmentOf t with
     | some a => (exclusiveCells f.n a).any fun c => (s.recordOf c).ctx / 4 == n / 4 && (s.recordOf c).ctx != 0xFFFF
     | none => false)
  else if f.topology = 2 then
    (List.range f.elementCount).any fun k => (f.record k).owner == t && (f.record k).ctx / 4 == n / 4
  else false

/-- A heater channel or fast driver is a tenancy's own when its own contexts name it. -/
def State.ownsHeater (s : State) (t tile c : Nat) : Bool := (s.ctxOfHeater tile c).any (s.ownsCtx t)
def State.ownsDriver (s : State) (t tile d : Nat) : Bool := (s.ctxOfDriver tile d).any (s.ownsCtx t)

/-- Photodiode D(32·tile + j) is wholly own to tenancy t: every context on it and every port tap on it is t's (R312). A
photodiode that nothing uses is nobody's. -/
def State.whollyOwn (s : State) (t tile j : Nat) : Bool :=
  let f := s.fabric
  let d := 32 * tile + j
  let taps := (List.range f.portCount).filter fun q => (f.port q).outPd == d || (f.port q).inPd == d
  let ctxs := s.ctxOfPd tile j
  (!taps.isEmpty || !ctxs.isEmpty) && ctxs.all (s.ownsCtx t) &&
    taps.all fun q => ((f.port q).outPd != d || s.ownsOut t q) && ((f.port q).inPd != d || s.ownsIn t q)

/-- The slot (p, c) of a tile is bound to an own context: its home slot, or its lending slot while it borrows. -/
def State.ownsSlot (s : State) (t tile slot : Nat) : Bool :=
  (s.ctxOfPd tile (slot / 32)).any fun n =>
    s.ownsCtx t n &&
      (s.rdP s.active (R.CTX_BIND_HOME_CODE n) == slot % 32 ||
        (s.rdP s.active (R.CTX_BIND_LEND_EN n) == 1 && s.rdP s.active (R.CTX_BIND_LEND_CODE n) == slot % 32))

/-- Does the ADDRESS of a fault message name an object of tenancy t (R311, R387)? -/
def State.ownsFault (s : State) (t : Nat) (m : FaultMsg) : Bool :=
  let unit := m.addr / 2 ^ 28
  let ix := m.addr % 65536
  if m.cls = 1 then
    if unit = 1 then s.ownsCtx t ix
    else if unit = 2 then s.ownsHeater t (ix / 256) (ix % 256)
    else if unit = 3 then s.ownsDriver t (ix / 128) (ix % 128)
    else if unit = 4 then s.whollyOwn t (ix / 32) (ix % 32)
    else if unit = 6 then s.ownsSlot t m.inst ix
    else false
  else if m.cls = 7 then s.ownsCtx t (m.inst * 512 + m.addr % 8192 / 16)
  else false

end Sys2Proof.Machine
end

