-- ==== Sys2Proof/Machine/Faults.lean ====
section
/-! DEFINITION. Machine/Faults.lean: fault collection and reaction (chapter 15): severities, rounds, records, slots and queue,
the reactions each severity starts, notices and the sideband queue. -/

namespace Sys2Proof.Machine

open Sys2Proof

/-! ### Severities (R369, R370) -/

/-- The kinds of R369: class, kind, default severity, whether the kind is a condition. -/
def faultKinds : List (Nat × Nat × Nat × Bool) := [
  (1, 0x01, 1, false), (1, 0x10, 1, true), (1, 0x11, 1, true), (1, 0x12, 1, false), (1, 0x13, 2, false),
  (1, 0x14, 2, false), (1, 0x15, 2, false), (1, 0x20, 1, false), (1, 0x21, 1, false), (1, 0x22, 1, false),
  (1, 0x23, 1, false), (1, 0x24, 1, false), (1, 0x30, 1, true), (1, 0x31, 2, false), (1, 0x32, 2, false),
  (1, 0x33, 2, false), (1, 0x34, 1, true), (1, 0x38, 0, false), (1, 0x39, 3, false), (1, 0x3A, 1, true),
  (1, 0x3B, 3, false), (1, 0x40, 1, false),
  (2, 0x01, 1, true), (2, 0x02, 1, true), (2, 0x03, 0, false),
  (3, 0x01, 1, true), (3, 0x02, 1, false),
  (4, 0x01, 0, false), (4, 0x02, 1, true), (4, 0x03, 1, true), (4, 0x04, 0, true), (4, 0x05, 1, true),
  (5, 0x01, 3, false), (5, 0x02, 3, false),
  (6, 0x01, 1, false), (6, 0x02, 3, false),
  (7, 0x01, 0, false), (7, 0x02, 3, false), (7, 0x03, 1, false), (7, 0x04, 3, false), (7, 0x05, 3, false),
  (8, 0x01, 1, true), (8, 0x02, 0, true),
  (9, 0x01, 1, false), (9, 0x02, 0, false), (9, 0x03, 1, false),
  (10, 0x01, 1, true), (10, 0x02, 1, true), (10, 0x03, 1, false),
  (11, 0x01, 1, false), (11, 0x02, 1, false), (11, 0x03, 1, false),
  (12, 0x01, 2, false), (12, 0x02, 2, false),
  (13, 0x01, 1, false), (13, 0x02, 2, true),
  (14, 0x01, 0, false), (14, 0x02, 0, false), (14, 0x03, 3, false), (14, 0x04, 3, false), (14, 0x05, 3, false),
  (14, 0x06, 3, false), (14, 0x07, 3, false), (14, 0x08, 1, true), (14, 0x09, 3, false), (14, 0x0A, 0, false),
  (14, 0x0B, 0, false), (14, 0x0C, 3, false),
  (15, 0x01, 0, false), (15, 0x02, 2, false), (15, 0x03, 4, false)]

def defaultSeverity (cls kind : Nat) : Nat :=
  match faultKinds.find? fun e => e.1 == cls && e.2.1 == kind with
  | some e => e.2.2.1
  | none => 0

def isCondition (cls kind : Nat) : Bool :=
  faultKinds.any fun e => e.1 == cls && e.2.1 == kind && e.2.2.2

/-- The plane takes part in admission, comparison, transmission and fault rounds: in service or on probation (R345, R359, R360, R372). -/
def State.joined (s : State) (p : Plane) : Bool :=
  s.inService p || match s.pl.ret with
    | some r => decide (r.plane = p) && r.step == 4
    | none => false

/-- Does the unit of a message belong to one plane (R368)? A supervisor's report about its own plane, and the bank test of a return, come
to every collector in service (R359). -/
def FaultMsg.private_ (m : FaultMsg) : Bool :=
  m.cls == 2 || m.cls == 5 || m.cls == 6 || (m.cls == 7 && m.kind != 5) || m.cls == 11 || m.cls == 12 || (m.cls == 1 && m.kind == 0x3B)

/-- Does the message reach a collector that takes part in the rounds (R372)? -/
def State.heard (s : State) (m : FaultMsg) : Bool := !m.private_ || s.joined (if m.plane = 0 then .A else .B)

/-- The entry of the severity table for a class and kind (R370). -/
def sevField (cls kind : Nat) : FieldAt := ⟨A.FC_SEV cls (kind / 8), 4 * (kind % 8) + 2, 4 * (kind % 8)⟩

/-- The severity the collector fills in; MAJORITY_LOST is always CRITICAL (R370). -/
def State.severityOf (s : State) (m : FaultMsg) : Nat :=
  if m.cls = 15 ∧ m.kind = 3 then 4 else s.rd (sevField m.cls m.kind)

/-! ### Messages and records -/

/-- The 64 bits of a message (R367). -/
def FaultMsg.word (m : FaultMsg) (severity : Nat) : Nat :=
  m.cls * 2 ^ 60 + m.inst * 2 ^ 52 + m.kind * 2 ^ 44 + severity * 2 ^ 41 + m.plane * 2 ^ 40 + m.count * 2 ^ 32 + m.addr

/-- The source number: CLASS and INSTANCE together (R367). -/
def FaultMsg.source (m : FaultMsg) : Nat := m.cls * 256 + m.inst

/-- Do two messages agree in CLASS, INSTANCE, KIND, PLANE and ADDRESS? -/
def FaultMsg.same (a b : FaultMsg) : Bool :=
  a.cls == b.cls && a.inst == b.inst && a.kind == b.kind && a.plane == b.plane && a.addr == b.addr

/-- The FLAGS word of a record (R376, word 4). -/
def FaultRec.flags (r : FaultRec) : Nat :=
  2 ^ 31 + b01 r.live * 2 ^ 30 + b01 r.simultaneous * 2 ^ 29 + b01 r.lostBefore * 2 ^ 28 + b01 r.preempted * 2 ^ 27 +
    b01 r.suppressed * 2 ^ 26 + b01 r.common * 2 ^ 25 + r.point * 2 ^ 16

/-- Word k of a record (R376). -/
def FaultRec.wordAt (r : FaultRec) (k : Nat) : Nat :=
  match k with
  | 0 => r.msg.word r.severity % 2 ^ 32
  | 1 => r.msg.word r.severity / 2 ^ 32
  | 2 => r.frame % 2 ^ 32
  | 3 => r.frame / 2 ^ 32 % 2 ^ 32
  | 4 => r.flags
  | 5 => r.seq % 2 ^ 32
  | _ => 0

/-- Word k of a record that may be empty: VALID = 0 then (FC_FIRST and the others). -/
def recWord (r : Option FaultRec) (k : Nat) : Nat := (r.map (·.wordAt k)).getD 0

/-- Merge messages that agree, adding their COUNTs up to 255 (R373). -/
def mergeMsgs (l : List FaultMsg) : List FaultMsg :=
  l.foldl (fun acc m =>
    if acc.any (·.same m) then acc.map fun x => if x.same m then { x with count := satAdd 255 x.count m.count } else x
    else acc ++ [m]) []

/-- Merge common-mode pairs: plane-private messages, the supervisors' own apart, that differ only in PLANE (R375). The flag
says that the message stands for a pair. -/
def pairMsgs (l : List FaultMsg) : List (FaultMsg × Bool) :=
  let twin (m : FaultMsg) := l.find? fun x => m.cls != 14 && x.same { m with plane := 1 - m.plane }
  l.filterMap fun m =>
    match twin m with
    | none => some (m, false)
    | some x => if m.plane = 0 then some ({ m with count := satAdd 255 m.count x.count }, true) else none

/-- The order of a round: severity highest first, then source number, PLANE, KIND, ADDRESS lowest first (R373). -/
def roundKey (severity : Nat) (m : FaultMsg) : Nat :=
  ((((7 - severity) * 4096 + m.source) * 2 + m.plane) * 256 + m.kind) * 2 ^ 32 + m.addr

/-! ### Slots and queue (R380 to R382) -/

/-- Is r the lower of two records: lower severity, or the same severity and the higher SEQ? -/
def FaultRec.below (r x : FaultRec) : Bool := r.severity < x.severity || (r.severity == x.severity && x.seq < r.seq)

/-- The lowest record of a list, the queued record that R382 compares with. -/
def lowestRec : List FaultRec → Option FaultRec
  | [] => none
  | r :: rest =>
    match lowestRec rest with
    | none => some r
    | some x => some (if r.below x then r else x)

/-- The record that enters a slot next: highest severity, then lowest SEQ (R381). -/
def nextRec : List FaultRec → Option FaultRec
  | [] => none
  | r :: rest =>
    match nextRec rest with
    | none => some r
    | some x => some (if r.below x then x else r)

/-- Put a record into the queue of 64; the flag says that a record was dropped (R382). -/
def Faults.enqueue (f : Faults) (r : FaultRec) : Faults × Bool :=
  if f.queue.length < 64 then
    ({ f with queue := f.queue ++ [{ r with lostBefore := r.lostBefore || f.lost }], lost := false }, false)
  else
    match lowestRec f.queue with
    | some x =>
      if x.severity < r.severity then
        ({ f with queue := f.queue.filter (fun y => y.seq != x.seq) ++ [{ r with lostBefore := true }], lost := false }, true)
      else ({ f with lost := true }, true)
    | none => (f, false)

/-- Place a new record: slot 0, slot 1, pre-emption of the lower slot, or the queue (R380). -/
def Faults.place (f : Faults) (r : FaultRec) : Faults × Bool :=
  match f.slot0, f.slot1 with
  | none, _ => ({ f with slot0 := some r }, false)
  | _, none => ({ f with slot1 := some r }, false)
  | some a, some b =>
    if a.below b then
      if a.severity < r.severity then { f with slot0 := some r }.enqueue { a with preempted := true } else f.enqueue r
    else
      if b.severity < r.severity then { f with slot1 := some r }.enqueue { b with preempted := true } else f.enqueue r

/-- Refill the slots that the owner has acknowledged (R381). -/
def Faults.takeAcks (f : Faults) : Faults :=
  let refill (f : Faults) : Option FaultRec × Faults :=
    match nextRec f.queue with
    | some r => (some r, { f with queue := f.queue.filter fun y => y.seq != r.seq })
    | none => (none, f)
  let f := if 0 ∈ f.acks ∧ f.slot0.isSome then let (r, g) := refill f; { g with slot0 := r } else f
  let f := if 1 ∈ f.acks ∧ f.slot1.isSome then let (r, g) := refill f; { g with slot1 := r } else f
  { f with acks := [] }

/-- The queue in the order in which its records will enter a slot (FC_QUEUE). `fuel` is its length. -/
def queueOrder : Nat → List FaultRec → List FaultRec
  | 0, _ => []
  | fuel + 1, q =>
    match nextRec q with
    | none => []
    | some r => r :: queueOrder fuel (q.filter fun y => y.seq != r.seq)

/-- Apply f to every held record (R378). -/
def Faults.mapRecs (f : Faults) (g : FaultRec → FaultRec) : Faults :=
  { f with first := f.first.map g, last := f.last.map g, slot0 := f.slot0.map g, slot1 := f.slot1.map g,
           queue := f.queue.map g }

/-- The records held in the slots and the queue. -/
def Faults.held (f : Faults) : List FaultRec := f.slot0.toList ++ f.slot1.toList ++ f.queue

/-! ### Reactions (R371, R374) -/

/-- The contexts of the context group of a tile message's ADDRESS (R371). -/
def State.contextGroup (s : State) (m : FaultMsg) : List Nat :=
  let unit := m.addr / 2 ^ 28
  let ix := m.addr % 65536
  if unit = 1 then [ix]
  else if unit = 2 then s.ctxOfHeater (ix / 256) (ix % 256)
  else if unit = 3 then s.ctxOfDriver (ix / 128) (ix % 128)
  else if unit = 4 then s.ctxOfPd (ix / 32) (ix % 32)
  else if unit = 6 then (s.ctxOfPd m.inst (ix / 32)).filter fun n =>
      let lent := (s.rd (R.TL_SLOT_LENT_LENT m.inst (ix / 32))).testBit (ix % 32)
      if lent then s.rdP s.active (R.CTX_BIND_LEND_EN n) == 1 && s.rdP s.active (R.CTX_BIND_LEND_CODE n) == ix % 32
      else s.rdP s.active (R.CTX_BIND_HOME_CODE n) == ix % 32
  else []

def State.addReactions (s : State) (l : List Reaction) : State :=
  { s with faults := { s.faults with react := s.faults.react ++ l.map fun r => (s.now + 1, r) } }

/-- Hand a plane fence to the Cellar supervisor for the absolute point `phi`; `auto`: an automatic return may follow (R361). -/
def State.fenceAt (s : State) (phi : Nat) (p : Plane) (auto : Bool) : State :=
  { s with faults := { s.faults with fenceDue := s.faults.fenceDue ++ [(phi, p, auto)] } }

/-- A fence that the collector hands over: Φ is the next admission point (R374). -/
def State.dueFence (s : State) (p : Plane) (auto : Bool) : State := s.fenceAt (s.now + 1) p auto

def planeOf (b : Nat) : Plane := if b = 0 then .A else .B

/-- The plane a power domain belongs to (R20), for the domains whose SEVERE reaction fences a plane. -/
def domainPlane (d : Nat) : Option Plane :=
  if d = 80 ∨ d = 82 ∨ d = 85 ∨ d = 87 then some .A
  else if d = 81 ∨ d = 83 ∨ d = 86 ∨ d = 88 then some .B else none

/-- The plane that the SEVERE reaction to a message fences, if it fences one (R371). -/
def fencedPlane (m : FaultMsg) : Option Plane :=
  if m.cls = 5 ∨ m.cls = 6 ∨ m.cls = 7 ∨ m.cls = 12 ∨ m.cls = 14 then some (planeOf m.plane)
  else if m.cls = 9 then domainPlane m.inst else none

/-- Does severity `sev` of this message ask for a plane fence? A CRITICAL entry takes no plane fence (R371). -/
def wantsFence (m : FaultMsg) (sev : Nat) : Option Plane := if sev = 3 then fencedPlane m else none

/-- Is a plane fence of this kind handed over by the round itself? DIVERGE_JUDGED and CENTRAL_JUDGED name a plane that the
supervisors fence at a boundary of their own (R350, R354). -/
def fencesAtRound (m : FaultMsg) : Bool := !(m.cls == 14 && (m.kind == 3 || m.kind == 5))

/-- Would the fence of p leave no plane in service (R362)? -/
def State.fenceLeavesNone (s : State) (p : Plane) : Bool := !s.inService (other p)

/-- The severity of a record: CRITICAL where its fence would leave no plane in service (R370). -/
def State.recordSeverity (s : State) (m : FaultMsg) (common : Bool) : Nat :=
  let sev := s.severityOf m
  match (if common then none else wantsFence m sev) with
  | some p => if s.fenceLeavesNone p then 4 else sev
  | none => sev

/-- Is the other plane's fence already handed over for the next point? Then a fence of p would be the second of its round. -/
def State.otherFenceDue (s : State) (p : Plane) : Bool := s.faults.fenceDue.any fun f => f.1 ≤ s.now + 1 && decide (f.2.1 = other p)

/-- Set a bit of FC_FENCED_MISC. -/
def State.fenceMisc (s : State) (b : Nat) : State := s.setWord A.FC_FENCED_MISC (s.word A.FC_FENCED_MISC ||| 2 ^ b)

/-- Is a bit of FC_FENCED_MISC set: lane l at b = l, Apsin port p at 8 + p, the HKA at 10, generator g at 16 + g? -/
def State.miscFenced (s : State) (b : Nat) : Bool := (s.word A.FC_FENCED_MISC).testBit b

def State.tileFenced (s : State) (t : Nat) : Bool := (s.word (A.FC_FENCED_TILE (t / 32))).testBit (t % 32)

/-- Hand an entry to Last Resort to the Cellar supervisor (R374). -/
def State.dueResort (s : State) : State :=
  if s.faults.resortDue.isSome then s else { s with faults := { s.faults with resortDue := some (s.now + 1) } }

/-- The actions of MAJOR and above that fence no plane (R371). -/
def State.reactUnit (s : State) (m : FaultMsg) (sev : Nat) (common : Bool) : State :=
  let unit := m.addr / 2 ^ 28
  if sev < 2 then s
  else if m.cls = 1 then
    if sev ≥ 3 ∨ unit = 0 ∨ unit = 7 then s.addReactions [.fenceTile m.inst]
    else if unit = 5 then s.addReactions [.fenceSlice m.inst (m.addr % 65536)]
    else s.addReactions ((s.contextGroup m).map fun n => .fenceContext n causeFault)
  else if m.cls = 2 then s.fenceMisc m.inst
  else if m.cls = 3 then s.fenceMisc (8 + m.inst)
  else if m.cls = 7 then
    if sev = 2 then s.addReactions [.fenceContext (m.inst * 512 + m.addr % 8192 / 16) causeEcc] else s
  else if m.cls = 9 then
    if sev ≥ 3 ∧ m.inst < 80 then s.addReactions [.fenceTile m.inst] else s
  else if m.cls = 10 then s.fenceMisc 10
  else if m.cls = 11 then
    -- the halt of the generator follows at its next native tick (R185, R383)
    s.fenceMisc (16 + m.inst)
  else if m.cls = 12 then
    if sev = 2 then
      let cores := if common then [0, 1] else [m.plane]
      { s with faults := { s.faults with stopped := s.faults.stopped ++ cores.map fun c => (c, s.clk.frame) } }
    else s
  else if m.cls = 13 then
    { s with faults := { s.faults with
        mtpSuspended := s.faults.mtpSuspended || m.kind == 1, trngSuspended := s.faults.trngSuspended || m.kind == 2 } }
  else s

/-- All reactions to one record of severity `sev`: unit fences, a plane fence (not for a common-mode pair, R375; not in Last
Resort, R385), Last Resort for CRITICAL. -/
def State.react (s : State) (m : FaultMsg) (sev : Nat) (common : Bool) : State :=
  let s := s.reactUnit m sev common
  if s.lastResort then s
  else
    let s := match (if common then none else wantsFence m sev) with
      | some p => if fencesAtRound m then s.dueFence p (m.cls != 14) else s
      | none => s
    if sev = 4 then s.dueResort else s

/-- Is a reaction of the record suppressed (R385): Last Resort holds and it would fence a plane or is a CRITICAL entry? The loss
of the Cellar's majority is itself the entry that holds. -/
def State.suppresses (s : State) (m : FaultMsg) (sev : Nat) (common : Bool) : Bool :=
  s.lastResort && ((!common && (wantsFence m sev).isSome) || (sev == 4 && m.cls != 15))

/-! ### Notices (R387) -/

/-- Queue a message for the sideband; a full queue of 16 drops it (R387). A new message asserts ALERT_N (R271). -/
def State.sbFault (s : State) (w : Nat) : State :=
  if s.faults.sbQueue.length < 16 then
    let s := { s with faults := { s.faults with sbQueue := s.faults.sbQueue ++ [w] } }
    { s with sb := { s.sb with alertN := false } }
  else s.bump R.FC_STATUS_SB_LOST 1

/-- FAULT notice body: MESSAGE, FLAGS, res (R258). -/
def faultBody (w flags : Nat) : List Nat := be 8 w ++ be 4 flags ++ be 4 0

/-- Count a record in a principal's FAULTS of SUMMARY (R260). -/
def addCount (l : List (Nat × Nat × Nat)) (p sev : Nat) : List (Nat × Nat × Nat) :=
  if l.any fun e => e.1 == p && e.2.1 == sev then
    l.map fun e => if e.1 == p && e.2.1 == sev then (p, sev, satAdd 65535 e.2.2 1) else e
  else l ++ [(p, sev, 1)]

/-- Tell the owner, the tenancies whose object the record names, and the sideband (R387). -/
def State.tellRecord (s : State) (r : FaultRec) : State :=
  let body := faultBody (r.msg.word r.severity) r.flags
  let who := 30 :: (List.range 16).filter fun t => s.enabled t && s.ownsFault t r.msg
  let s := s.over who fun s p =>
    let s := s.notice p 0x86 Code.ok 0 body
    { s with faults := { s.faults with counts := addCount s.faults.counts p r.severity } }
  s.sbFault (r.msg.word r.severity)

/-! ### The round (R372 to R379) -/

/-- The last-fault record follows every message of MINOR and above. -/
def State.setLast (s : State) (r : FaultRec) : State := { s with faults := { s.faults with last := some r } }

/-- Take one message of a round: count it; below MINOR no more, but a NOTE of a supervisor is told to the owner (R377). A
message that matches a LIVE record adds to it (R379); any other makes a record, takes its reaction and is told. -/
def State.takeMsg (s : State) (simultaneous : Bool) (x : FaultMsg × Nat × Bool) : State :=
  let (m, sev, common) := x
  let s := s.bump (R.FC_COUNT_COUNT m.source) m.count
  if sev = 0 then
    if m.cls = 14 then s.notice 30 0x86 Code.ok 0 (faultBody (m.word 0) 0) else s
  else
    match s.faults.held.find? fun r => r.live && r.msg.same m with
    | some r =>
      let up (y : FaultRec) : FaultRec :=
        if y.seq = r.seq then { y with msg := { y.msg with count := satAdd 255 y.msg.count m.count } } else y
      let s := { s with faults := s.faults.mapRecs up }
      (s.setLast (up r)).react m sev common
    | none =>
      let sev := match (if common then none else wantsFence m sev) with
        | some p => if s.otherFenceDue p then 4 else sev
        | none => sev
      let r : FaultRec :=
        { msg := m, severity := sev, frame := s.clk.frame, point := s.clk.point, live := isCondition m.cls m.kind,
          simultaneous := simultaneous, suppressed := s.suppresses m sev common, common := common,
          seq := s.faults.seq + 1 }
      let f := { s.faults with seq := s.faults.seq + 1 }
      let f := if f.first.isNone then { f with first := some r } else f
      let (f, dropped) := { f with last := some r }.place r
      let s := { s with faults := f }
      let s := if dropped then s.bump R.FC_STATUS_OVERFLOW 1 else s
      (s.react m sev common).tellRecord ((s.faults.held.find? fun x => x.seq == r.seq).getD r)

/-- The messages of a round in its order, each with its severity and whether it stands for a common-mode pair. -/
def State.orderRound (s : State) (l : List FaultMsg) : List (FaultMsg × Nat × Bool) :=
  sortBy (fun x => roundKey x.2.1 x.1) ((pairMsgs (mergeMsgs l)).map fun x => (x.1, s.recordSeverity x.1 x.2, x.2))

/-- How many records a round makes: messages of MINOR or above that match no LIVE record held (R373, R379). -/
def State.recordsOf (s : State) (l : List (FaultMsg × Nat × Bool)) : Nat :=
  (l.filter fun x => x.2.1 != 0 && !s.faults.held.any fun r => r.live && r.msg.same x.1).length

/-- Round a: acknowledged slots refill, end reports clear LIVE, the messages are taken in order. -/
def State.faultRound (s : State) : State :=
  let msgs := s.faults.offered
  let ends := s.faults.offeredEnds
  let s := { s with faults := { s.faults with offered := [], offeredEnds := [] }.takeAcks }
  let clear (r : FaultRec) : FaultRec := if ends.any (·.same r.msg) then { r with live := false } else r
  let order := s.orderRound msgs
  let many := decide (1 < s.recordsOf order)
  let s := s.over order fun s x => s.takeMsg many x
  { s with faults := s.faults.mapRecs clear }

/-- The offers of an offer instant: what the collectors have received since the last one (R372). -/
def State.offerFaults (s : State) : State :=
  { s with faults := { s.faults with
      offered := s.faults.offered ++ s.faults.incoming.filter s.heard,
      offeredEnds := s.faults.offeredEnds ++ s.faults.ended.filter s.heard,
      incoming := [], ended := [] } }

/-- FAULT_N is asserted: before RUN, after a trip, in Last Resort, and while a slot holds a record at or above PIN_SEV (R387, R365, R397,
R407, R422). The value is the pin's level, so asserted is false. -/
def State.faultN (s : State) : Bool :=
  let pin := min 4 (s.rd R.FC_CTRL_PIN_SEV)
  let hit (r : Option FaultRec) := match r with | some x => decide (pin ≤ x.severity) | none => false
  !(hit s.faults.slot0 || hit s.faults.slot1 || s.lastResort || s.therm.trip.isSome || decide (s.boot.phase ≠ .run))

end Sys2Proof.Machine
end

