-- ==== Sys2Proof/Machine/Sense.lean ====
section
/-! DEFINITION. Machine/Sense.lean: monitor sensing (chapter 4): which converter serves a photodiode, the marks of a sample, the
averaged word, references and bias, the rotation of the spare slice. -/

namespace Sys2Proof.Machine

open Sys2Proof

/-! ### Samples -/

/-- The code a converter no operand lists delivers: the pedestal (R105). -/
def pedestal : Nat := 256

/-- The 128 codes of a converter in the operand of FRAME_BOUNDARY. -/
def codesOf (l : List Codes) (unit : Nat) : List Nat :=
  match l.find? (·.unit == unit) with
  | some c => (c.codes ++ List.replicate (128 - c.codes.length) pedestal).take 128
  | none => List.replicate 128 pedestal

/-- A sample word (R106, R120): [15] OVR, [14] INVALID, [13:0] code. -/
def sampleWord (code : Nat) (invalid : Bool) : Nat :=
  let c := code % 16384
  c + b01 invalid * 2 ^ 14 + b01 (c == 0 || c == 16383) * 2 ^ 15

def wordCode (w : Nat) : Nat := w % 16384
def wordInvalid (w : Nat) : Bool := w.testBit 14
def wordOvr (w : Nat) : Bool := w.testBit 15

def State.tileSense (s : State) (t : Nat) : TileSense := s.sense.tiles.getD t {}

def State.updSense (s : State) (t : Nat) (f : TileSense → TileSense) : State :=
  { s with sense := { s.sense with tiles := modAt s.sense.tiles t f } }

/-! ### The rotation (R115 to R119) -/

/-- The rotation slot and the frame within it (R115). -/
def rotSlot (f : Nat) : Nat := f / 50 % 33
def rotFrame (f : Nat) : Nat := f % 50

/-- The slice of tile t whose photodiode the spare serves in frame f: the fenced slice, or the slice of the slot in frames 1 to
49 (R115, R117). -/
def State.substituted (s : State) (t f : Nat) : Option Nat :=
  if s.on (R.TL_SPARE_STATUS_SLICE_FENCED t) then some (s.rd (R.TL_SPARE_STATUS_FENCED_SLICE t))
  else if (s.tileSense t).rotating && rotSlot f < 32 && 1 ≤ rotFrame f then some (rotSlot f)
  else none

/-- The sample words of photodiode d in frame f with the marks of R112: R107, R111, ENABLE, a slice with nothing to serve it. -/
def State.frameWords (s : State) (x : FrameIn) (f d : Nat) : List Nat :=
  let t := d / 32
  let j := d % 32
  let ts := s.tileSense t
  let codes := if s.substituted t f = some j then codesOf x.spares t else codesOf x.slices d
  let off := s.rd (R.TL_PD_CFG_ENABLE t j) == 0 || decide (j ∈ ts.lost)
  codes.zipIdx.map fun c =>
    sampleWord c.1 (off || (decide (d ∈ s.sense.rangeNew) && c.2 < 16) || ts.refFrom ≤ c.2)

/-- The photodiodes whose TL_PD_CFG holds anything: those the image or the host has set. -/
def State.setPds (s : State) : List Nat :=
  s.reg.shared.filterMap fun e =>
    let a := e.1 - 0x100000
    if 0x100000 ≤ e.1 ∧ e.1 < 0x600000 ∧ 0x800 ≤ a % 0x10000 ∧ a % 0x10000 < 0x880 then
      some (32 * (a / 0x10000) + a % 0x10000 / 4 % 32) else none

/-- The photodiodes of the frame: the set ones and those the operand lists. -/
def State.framePds (s : State) (x : FrameIn) : List Nat :=
  dedup (s.setPds ++ (x.slices.map (·.unit)).filter (· < 2560))

/-- Take the samples of the frame that ends (R108, R112); TL_PD_OVR records overloads (R106). -/
def State.takeSamples (s : State) (x : FrameIn) : State :=
  let f := s.clk.frame
  let pds := s.framePds x
  let frames := pds.map fun d => (⟨d, s.word (A.TL_PD_CFG (d / 32) (d % 32)), s.frameWords x f d⟩ : PdFrame)
  let s := { s with sense := { s.sense with prev := s.sense.cur, cur := frames } }
  s.over frames fun s p =>
    if p.words.any wordOvr then
      let a := A.TL_PD_OVR (p.pd / 32)
      s.setWord a (s.word a ||| 2 ^ (p.pd % 32))
    else s

/-- The sample words of photodiode d in the latest frame and the one before. A photodiode with no samples held delivered
nothing valid. -/
def State.pdFrame (s : State) (d : Nat) : Option PdFrame := s.sense.cur.find? (·.pd == d)
def State.pdPrev (s : State) (d : Nat) : Option PdFrame := s.sense.prev.find? (·.pd == d)

/-! ### Averaging (R114) -/

/-- AVG and SHIFT of a TL_PD_CFG word: values above 8 act as 8. -/
def avgOf (cfg : Nat) : Nat := min 8 (cfg % 16)
def shiftOf (cfg : Nat) : Nat := min 8 (bits cfg 11 8)

/-- An averaged word: value, OVR, INVALID. -/
structure AvgWord where
  word : Nat
  ovr : Bool
  invalid : Bool
deriving DecidableEq, Repr

/-- The averaged word of a window of sample words. -/
def averageOf (shift : Nat) (l : List Nat) : AvgWord :=
  ⟨sumOf (l.map wordCode) / 2 ^ shift, l.any wordOvr, l.any wordInvalid⟩

/-- Do two TL_PD_CFG words agree in AVG, SHIFT and TIA_RANGE? -/
def sameAveraging (a b : Nat) : Bool := avgOf a == avgOf b && shiftOf a == shiftOf b && bits a 25 24 == bits b 25 24

/-- The averaged word of photodiode d at the latest boundary: the L samples just before it, under the settings they were taken
under. A window that reaches back to other settings, or to no samples, is INVALID. -/
def State.averageAt (s : State) (d : Nat) : AvgWord :=
  match s.pdFrame d with
  | none => ⟨0, false, true⟩
  | some p =>
    if avgOf p.cfg = 8 then
      match s.pdPrev d with
      | some q =>
        let a := averageOf (shiftOf p.cfg) (q.words ++ p.words)
        { a with invalid := a.invalid || !sameAveraging q.cfg p.cfg }
      | none => { averageOf (shiftOf p.cfg) p.words with invalid := true }
    else averageOf (shiftOf p.cfg) (p.words.drop (128 - 2 ^ avgOf p.cfg))

/-- An averaged word as TL_PD_WORD and a format 1 record hold it: [31] OVR, [30] INVALID, [21:0] word. -/
def AvgWord.bits (a : AvgWord) : Nat := b01 a.ovr * 2 ^ 31 + b01 a.invalid * 2 ^ 30 + a.word % 2 ^ 22

/-- TL_PD_WORD shows the averaged word of each photodiode of the latest input set. -/
def State.showAverages (s : State) : State :=
  s.over s.sense.cur fun s p => s.setWord (A.TL_PD_WORD (p.pd / 32) (p.pd % 32)) (s.averageAt p.pd).bits

/-! ### Rotation compares (R116 to R118) -/

/-- SPARE_TOL: 0 acts as 1. -/
def State.spareTol (s : State) (t : Nat) : Nat := max 1 (s.rd (R.TL_SENSE_CTRL_SPARE_TOL t))

/-- The difference of a compare: |Σa − Σb| >> 7. -/
def compareDiff (a b : List Nat) : Nat :=
  ((sumOf (a.map (· % 16384)) : Int) - sumOf (b.map (· % 16384))).natAbs / 128

/-- Record a compare in TL_SPARE_LOG. -/
def State.logCompare (s : State) (t j diff : Nat) : State :=
  (s.wr (R.TL_SPARE_LOG_LAST_SLICE t) j).wr (R.TL_SPARE_LOG_LAST_DIFF t) (min 65535 diff)

/-- The rotation of tile t at the boundary that ends frame f, before the boundary's writes apply: the entry compare after frame
0 of a slot, the exit compare after frame 49, the end of the spare's own calibration; then the rotation's state for frame
f + 1. A calibration of the spare that fails arrives as calibration item 0x0140 / 4 = slice 32 (chapter 9). -/
def State.rotateTile (s : State) (x : FrameIn) (t : Nat) : State :=
  let f := s.clk.frame
  let ts := s.tileSense t
  let j := rotSlot f
  let runs := ts.rotating && !ts.stopped
  let diff := compareDiff (codesOf x.slices (32 * t + j)) (codesOf x.spares t)
  -- R118: REF_SETTLED 0 in any of frames 1 to 48
  let gone := runs && 1 ≤ rotFrame f && rotFrame f ≤ 48 && (ts.refFrom < 128 || !s.on (R.TL_REF_REF_SETTLED t))
  let s := s.when gone (·.updSense t fun a => { a with abandoned := true })
  let s :=
    if runs && j < 32 && rotFrame f == 0 then
      let s := s.logCompare t j diff
      if s.spareTol t < diff then (s.bump (R.TL_SPARE_LOG_DRIFT_EVENTS t) 1).raise (tileMsg t 0x12 5 j) else s
    else if runs && j < 32 && rotFrame f == 49 && !ts.abandoned then
      let s := s.logCompare t j diff
      if s.spareTol t < diff then
        let s := (s.wr (R.TL_SPARE_STATUS_SLICE_FENCED t) 1).wr (R.TL_SPARE_STATUS_FENCED_SLICE t) j
        (s.updSense t fun a => { a with stopped := true }).raise (tileMsg t 0x13 5 j)
      else s
    else s
  if rotFrame (f + 1) = 0 then
    s.updSense t fun a => { a with
      rotating := !a.stopped && s.on (R.TL_SENSE_CTRL_ROTATE t), abandoned := false }
  else s

/-- What TL_SPARE_STATUS shows of the rotation: the running slot and frame, and whether the spare serves a photodiode. -/
def State.spareView (s : State) (t : Nat) : Nat :=
  let w := putBits (s.word (A.TL_SPARE_STATUS t)) 21 16 (rotSlot s.clk.frame)
  let w := putBits w 5 0 (rotFrame s.clk.frame)
  putBits w 31 31 (b01 (s.substituted t s.clk.frame).isSome)

/-- A slice of tile t fails with `d` its photodiode: the spare replaces it if it is free, otherwise the photodiode is lost
(R117). The failure itself reaches the block as a calibration or compare result. -/
def State.loseSlice (s : State) (t j : Nat) : State :=
  (s.updSense t fun a => { a with lost := dedup (a.lost ++ [j]) }).raise (tileMsg t 0x14 5 j)

/-- The spare fails its own calibration in slot 32: the rotation stops (R117). -/
def State.spareFails (s : State) (t : Nat) : State :=
  (s.wr (R.TL_SPARE_STATUS_SPARE_FAILED t) 1).updSense t fun a => { a with stopped := true, rotating := false }

/-! ### References and bias (R104, R110, R111) -/

/-- The reference in force: 3 acts as 0 (R110). -/
def refSel (v : Nat) : Nat := if v = 3 then 0 else v

/-- REF_SETTLED clears: every sample from `from` on is INVALID. -/
def State.unsettle (s : State) (t first : Nat) : State :=
  (s.wr (R.TL_REF_REF_SETTLED t) 0).updSense t fun a => { a with refFrom := min a.refFrom first, unsettled := 0 }

/-- The reference of tile t at a boundary: it settles where the monitor has found it good for 20 μs; after 16 boundaries
without, a timeout is due (R111). -/
def State.settleRef (s : State) (x : FrameIn) (t : Nat) : State :=
  let ts := s.tileSense t
  if s.on (R.TL_REF_REF_SETTLED t) then s
  else
    let n := ts.unsettled + 1
    if t ∈ x.refGood then
      let s := (s.wr (R.TL_REF_REF_SETTLED t) 1).wr (R.TL_REF_REF_OUT t) 0
      let s := s.wr (R.TL_REF_SETTLE_LAST t) (if 16 < n then 17 else n)
      let s := s.when (decide (16 ≤ ts.unsettled) && !ts.timeoutDue) (·.endReport (tileMsg t 0x11 0 0))
      s.updSense t fun a => { a with unsettled := 0, refFrom := 128, timeoutDue := false }
    else s.updSense t fun a => { a with unsettled := n, refFrom := 0, timeoutDue := a.timeoutDue || n == 16 }

/-- REF_OUT (R111): the monitor finds the reference of tile t outside ±0.5 % at sample k. -/
def State.refOut (s : State) (t k : Nat) : State := (s.unsettle t k).wr (R.TL_REF_REF_OUT t) 1

/-- REF_TIMEOUT (R111). -/
def State.refTimeout (s : State) (t : Nat) : State :=
  if (s.tileSense t).timeoutDue then
    let s := (s.wr (R.TL_REF_SETTLE_LAST t) 17).raise (tileMsg t 0x11 0 0)
    s.updSense t fun a => { a with timeoutDue := false }
  else s

/-- The bias target: values above 200 act as 200. -/
def State.biasTarget (s : State) (t : Nat) : Nat := min 200 (s.rd (R.TL_BIAS_BIAS t))

/-- One frame of the bias ramp: at most 20 mV, two units (R104). -/
def biasStep (now target : Nat) : Nat :=
  if now < target then min target (now + 2) else max target (now - 2)

def State.rampBias (s : State) (t : Nat) : State :=
  s.wr (R.TL_BIAS_BIAS_NOW t) (biasStep (s.rd (R.TL_BIAS_BIAS_NOW t)) (s.biasTarget t))

/-- What TL_BIAS shows: BIAS_SETTLED reads 0 while the ramp runs. -/
def State.biasView (s : State) (t : Nat) : Nat :=
  putBits (s.word (A.TL_BIAS t)) 31 31 (b01 (s.rd (R.TL_BIAS_BIAS_NOW t) == s.biasTarget t))

/-- BIAS_LIMIT (R104): the tile's bias current reaches 2.0 mA. -/
def State.biasLimit (s : State) (t : Nat) : State :=
  (s.wr (R.TL_BIAS_BIAS_LIMIT t) 1).raise (tileMsg t 0x10 0 0)

/-! ### Chop periods (R109) -/

/-- The chop period of a temperature band, in samples: 32 in COLD (0) and MILD (1), 16 in WARM (2), 8 above. -/
def chopPeriod (band : Nat) : Nat := if band ≤ 1 then 32 else if band = 2 then 16 else 8

/-! ### The boundary -/

/-- Sensing before the boundary's writes apply: samples, compares, the ramp of the frame that ends. -/
def State.senseBefore (s : State) (x : FrameIn) : State :=
  let s := (s.takeSamples x).showAverages
  (s.over (List.range 80) fun s t => (s.rotateTile x t).rampBias t)

/-- Sensing after the boundary's writes applied: `oldCfg` and `oldRef` are the values before. A new TIA_RANGE marks 16
samples, a new REF_SEL unsettles the reference. -/
def State.senseAfter (s : State) (x : FrameIn) (oldRanges : List (Nat × Nat)) (oldRefs : List Nat) : State :=
  let fresh := (oldRanges.filter fun e => s.rd (R.TL_PD_CFG_TIA_RANGE (e.1 / 32) (e.1 % 32)) != e.2).map (·.1)
  let s := { s with sense := { s.sense with rangeNew := fresh } }
  s.over (List.range 80) fun s t =>
    let s := s.settleRef x t
    if refSel (oldRefs.getD t 0) ≠ refSel (s.rd (R.TL_REF_REF_SEL t)) then s.unsettle t 0 else s

end Sys2Proof.Machine
end

