-- ==== Sys2Proof/Machine/Capture.lean ====
section
/-! DEFINITION. Machine/Capture.lean: the capture memory and what fills it (R120 to R124, R179 to R181). A channel number below
32 is a capture descriptor, 32 to 35 a response channel; their pointer registers agree field for field. -/

namespace Sys2Proof.Machine

open Sys2Proof

/-! ### The memory -/

def capSize : Nat := 4194304

/-- Does a scrambled range still hold byte a undefined? -/
def Scrambled.covers (r : Scrambled) (a : Nat) : Bool := r.lo ≤ a && a < r.lo + r.size && !r.fresh.contains a

/-- Byte a of the capture memory. A byte a memory test left undefined is a free value (log entry 2). -/
def State.capByte (s : State) (a : Nat) : Nat :=
  match s.cap.scrambled.find? (·.covers a) with
  | some r => Config.freeValue (r.seed + a) % 256
  | none => (smGet capDefault s.cap.mem a).toNat

def State.setCapByte (s : State) (a v : Nat) : State :=
  let scr := s.cap.scrambled.map fun (r : Scrambled) => if r.covers a then { r with fresh := r.fresh ++ [a] } else r
  { s with cap := { s.cap with mem := smSet capDefault s.cap.mem a (BitVec.ofNat 8 v), scrambled := scr } }

/-- Leave a range undefined (R191). It takes as many free values as it has bytes. -/
def State.scramble (s : State) (lo size : Nat) : State :=
  let rest := s.cap.scrambled.filter fun (r : Scrambled) => !(lo ≤ r.lo && r.lo + r.size ≤ lo + size)
  { s with
    cap := { s.cap with scrambled := ⟨lo, size, s.freeCount, []⟩ :: rest },
    freeCount := s.freeCount + lo + size }

/-- `n` bytes from address a. -/
def State.capBytes (s : State) (a n : Nat) : List Nat := (List.range n).map fun i => s.capByte (a + i)

/-- Write bytes from address a on. -/
def State.setCapBytes (s : State) : Nat → List Nat → State
  | _, [] => s
  | a, v :: vs => (s.setCapByte a v).setCapBytes (a + 1) vs

/-! ### The registers of a channel -/

def chBase (c : Nat) : Nat := if c < 32 then A.CAP_CTRL c else A.RSP_CTRL (c - 32)
def chField (c off hi lo : Nat) : FieldAt := ⟨chBase c + off, hi, lo⟩
def chEnable (c : Nat) := chField c 0 31 31
def chPolicy (c : Nat) := chField c 0 30 30
def chSizeLog (c : Nat) := if c < 32 then R.CAP_CTRL_SIZE_LOG2 c else R.RSP_CTRL_SIZE_LOG2 (c - 32)
def chOwner (c : Nat) := chField c 0 20 16
def chBufBase (c : Nat) := chField c 4 21 12
def chWmark (c : Nat) := chField c 8 20 0
def chWptr (c : Nat) := chField c 0xC 31 0
def chRptr (c : Nat) := chField c 0x10 31 0
def chRunning (c : Nat) := chField c 0x14 31 31
def chCause (c : Nat) := chField c 0x14 7 5
def chClamp (c : Nat) := chField c 0x14 4 4
def chRefused (c : Nat) := chField c 0x14 3 3
def chOverwrote (c : Nat) := chField c 0x14 2 2
def chFull (c : Nat) := chField c 0x14 1 1
def chMarked (c : Nat) := chField c 0x14 0 0
def chStartLo (c : Nat) := chField c 0x18 31 0
def chStartHi (c : Nat) := chField c 0x1C 31 0

def State.chan (s : State) (c : Nat) : ChanState := s.cap.chans.getD c {}

def State.updChan (s : State) (c : Nat) (f : ChanState → ChanState) : State :=
  { s with cap := { s.cap with chans := modAt s.cap.chans c f } }

def State.running (s : State) (c : Nat) : Bool := s.on (chRunning c)

/-- Buffer size and first byte of a channel's buffer. -/
def State.bufSize (s : State) (c : Nat) : Nat := 2 ^ s.rd (chSizeLog c)
def State.bufBase (s : State) (c : Nat) : Nat := s.rd (chBufBase c) * 4096

/-- The fill: WPTR − RPTR modulo 2^32 (R122). -/
def State.fill (s : State) (c : Nat) : Nat := (s.rd (chWptr c) + 2 ^ 32 - s.rd (chRptr c)) % 2 ^ 32

def overlap (a n b m : Nat) : Bool := a < b + m && b < a + n

/-- The start frame a channel recorded. -/
def State.chStart (s : State) (c : Nat) : Nat := s.rd (chStartHi c) * 2 ^ 32 + s.rd (chStartLo c)

/-! ### Rates and starting (R120, R124, R180) -/

/-- The formats' photodiodes: one, or the 32 of a tile. -/
def State.capPds (s : State) (k : Nat) : List Nat :=
  let src := s.rd (R.CAP_CTRL_SOURCE k)
  if s.rd (R.CAP_CTRL_FORMAT k) < 2 then [src] else (List.range 32).map (32 * src + ·)

/-- L of a photodiode's averager. -/
def State.avgLen (s : State) (d : Nat) : Nat := 2 ^ avgOf (s.word (A.TL_PD_CFG (d / 32) (d % 32)))

/-- Bytes per frame of a capture descriptor (R120). -/
def State.capRate (s : State) (k : Nat) : Nat :=
  let d := (s.capPds k).headD 0
  match s.rd (R.CAP_CTRL_FORMAT k) with
  | 0 => 256
  | 1 => 512 / s.avgLen d
  | 2 => 8192
  | _ => 16384 / s.avgLen d

/-- Does context n run as Express by its CLASS? -/
def State.classExpress (s : State) (n : Nat) : Bool := s.rdP s.active (R.CTX_CTL_CLASS n) == 1

/-- Bytes per frame of any channel; a response channel writes 32, or 512 for an Express context (R180). -/
def State.chRate (s : State) (c : Nat) : Nat :=
  if c < 32 then s.capRate c
  else if s.classExpress (s.rd (R.RSP_CTRL_CONTEXT (c - 32))) then 512 else 32

/-- The ranges of the capture memory that the running memory tests use (R193). -/
def State.testRanges (s : State) : List (Nat × Nat) :=
  [Plane.A, Plane.B].filterMap fun p =>
    if s.rdP p R.MT_STATUS_BUSY = 1 ∧ s.rdP p R.MT_CTRL_TARGET = 1 then
      some (s.rdP p R.MT_BASE_BASE * 4096, 2 ^ s.rdP p R.MT_CTRL_SIZE_LOG2) else none

/-- The bytes a running sweep counts for, 16 per entry and frame (R234). -/
def State.sweepRate (s : State) : Nat := if s.on R.SV_STATUS_BUSY then 16 * s.rd R.SV_LIST_COUNT else 0

/-- Why a channel may not start: the cause of R124, 0 for none. -/
def State.startCause (s : State) (c : Nat) : Nat :=
  let log := s.rd (chSizeLog c)
  let base := s.bufBase c
  let size := s.bufSize c
  let others := (List.range 36).filter fun d => d != c && s.running d
  if others.any (fun d => overlap base size (s.bufBase d) (s.bufSize d)) ||
      s.testRanges.any (fun r => overlap base size r.1 r.2) then 1
  else if 65536 < sumOf (others.map s.chRate) + s.chRate c + s.sweepRate then 2
  else if log < 12 ∨ 20 < log ∨ base % size ≠ 0 ∨ capSize < base + size then 3
  else if c < 32 then
    let src := s.rd (R.CAP_CTRL_SOURCE c)
    let fmt := s.rd (R.CAP_CTRL_FORMAT c)
    if (fmt < 2 ∧ 2560 ≤ src) ∨ (2 ≤ fmt ∧ 80 ≤ src) then 4
    else if fmt = 3 ∧ ¬ (s.capPds c).all (fun d => s.avgLen d == s.avgLen (32 * src)) then 4
    else match (s.chan c).by_ with
      | some t => if (s.capPds c).all fun d => s.whollyOwn t (d / 32) (d % 32) then 0 else 4
      | none => 0
  else
    let n := s.rd (R.RSP_CTRL_CONTEXT (c - 32))
    if 40960 ≤ n then 4
    else match (s.chan c).by_ with
      | some t => if s.ownsCtx t n then 0 else 4
      | none => 0

/-- A channel starts at boundary F, or is refused (R121, R124). -/
def State.startChan (s : State) (c f : Nat) : State :=
  let cause := s.startCause c
  if cause = 0 then
    let s := (((s.wr (chWptr c) 0).wr (chRptr c) 0).wr (chStartLo c) f).wr (chStartHi c) (f / 2 ^ 32)
    (s.wr (chRunning c) 1).updChan c fun a => { by_ := a.by_ }
  else (s.wr (chRefused c) 1).wr (chCause c) cause

/-- The boundary at which ENABLE applies, and the stop after FULL (R121, R122): channels in ascending order. `enabled` are the
channels whose ENABLE a write of 1 reached at this boundary; one that is refused keeps ENABLE and tries again only at the next
such write (R124). -/
def State.captureBoundary (s : State) (enabled : List Nat) : State :=
  s.over (List.range 36) fun s c =>
    let s := if (s.chan c).fullStop then
        ((s.wr (chRunning c) 0).when (!decide (c ∈ enabled)) (·.wr (chEnable c) 0)).updChan c fun a => { a with fullStop := false }
      else s
    if decide (c ∈ enabled) && !s.running c then s.startChan c s.clk.frame
    else if !s.on (chEnable c) && s.running c then s.wr (chRunning c) 0
    else s

/-! ### Records -/

/-- Put one record into a channel's buffer (R122, R123). -/
def State.putRecord (s : State) (c : Nat) (bytes : List Nat) : State :=
  let size := s.bufSize c
  let w := s.rd (chWptr c)
  if !s.running c || (s.chan c).fullStop then s
  else if s.rd (chPolicy c) = 1 ∧ size < s.fill c + bytes.length then
    (s.wr (chFull c) 1).updChan c fun a => { a with fullStop := true }
  else
    let s := (bytes.zipIdx).foldl (fun s b => s.setCapByte (s.bufBase c + (w + b.2) % size) b.1) s
    let s := s.wr (chWptr c) (w + bytes.length)
    let s := s.when (decide (size < s.fill c)) (·.wr (chOverwrote c) 1)
    let mark := s.rd (chWmark c)
    if mark ≠ 0 ∧ mark ≤ s.fill c ∧ (s.chan c).armed then
      (s.wr (chMarked c) 1).updChan c fun a => { a with armed := false, noticeDue := true }
    else s

/-- CAPTURE_WATERMARK notices at the boundary (R123, R258). -/
def State.watermarkNotices (s : State) : State :=
  s.over (List.range 36) fun s c =>
    if (s.chan c).noticeDue then
      let s := s.updChan c fun a => { a with noticeDue := false }
      let p := s.rd (chOwner c)
      if isPrincipal p then
        s.notice p 0x85 Code.ok 0
          (be 1 (c % 32) ++ be 1 (c / 32) ++ be 2 0 ++ be 4 (s.rd (chWptr c)))
      else s
    else s

/-- A write of RPTR (R122): clamped to WPTR where the fill would go negative; the watermark arms again below WMARK. -/
def State.writeRptr (s : State) (c v : Nat) : State :=
  let w := s.rd (chWptr c)
  let r := s.rd (chRptr c)
  -- the fill would go negative where the advance passes the bytes unread
  let s := if (w + 2 ^ 32 - r) % 2 ^ 32 < (v + 2 ^ 32 - r) % 2 ^ 32 then (s.wr (chRptr c) w).wr (chClamp c) 1
    else s.wr (chRptr c) v
  if s.fill c < s.rd (chWmark c) then s.updChan c fun a => { a with armed := true } else s

/-- The window of a record: its length and whether a window ends with sample `last` of the running frame, begun at or after
the descriptor's start (R114, R121). -/
def State.windowEnds (s : State) (k last : Nat) : Bool :=
  let fmt := s.rd (R.CAP_CTRL_FORMAT k)
  if fmt = 0 ∨ fmt = 2 then last < 128
  else
    let l := s.avgLen ((s.capPds k).headD 0)
    if l = 256 then last == 127 && s.clk.frame % 2 == 1 && s.chStart k < s.clk.frame
    else last < 128 && (last + 1) % l == 0

/-- The sample words of photodiode d behind a record: codes from the operand, marks of the running frame and, for a window of
256, of the frame before. -/
def State.recordWords (s : State) (d last : Nat) (codes : List Nat) : List Nat :=
  let t := d / 32
  let off := s.rd (R.TL_PD_CFG_ENABLE t (d % 32)) == 0 || decide (d % 32 ∈ (s.tileSense t).lost)
  let before := ((s.pdFrame d).map (·.words)).getD []
  codes.zipIdx.map fun c =>
    let pos : Int := (last : Int) - ((codes.length : Int) - 1 - c.2)
    let bad := if pos < 0 then ((before.drop (128 + pos).toNat).head?.map wordInvalid).getD true
      else off || (decide (d ∈ s.sense.rangeNew) && decide (pos < 16)) || decide ((s.tileSense t).refFrom ≤ pos.toNat)
    sampleWord c.1 bad

/-- The bytes of a record of descriptor k (R120): 2 bytes a sample in formats 0 and 2, 4 bytes an averaged word in 1 and 3. -/
def State.recordBytes (s : State) (k last : Nat) (codes : List (List Nat)) : List Nat :=
  let fmt := s.rd (R.CAP_CTRL_FORMAT k)
  ((s.capPds k).zipIdx).flatMap fun x =>
    let cs := codes.getD x.2 []
    if fmt = 0 ∨ fmt = 2 then le 2 ((s.recordWords x.1 last (cs.take 1)).headD (sampleWord pedestal true))
    else
      let cfg := s.word (A.TL_PD_CFG (x.1 / 32) (x.1 % 32))
      le 4 (averageOf (shiftOf cfg) (s.recordWords x.1 last (cs.take (s.avgLen x.1)))).bits

/-- CAPTURE_RECORD_WRITE (R121): a record of descriptor k whose last sample is sample `last` of the running frame. -/
def State.captureRecord (s : State) (k last : Nat) (codes : List (List Nat)) : State :=
  if s.running k && s.windowEnds k last then s.putRecord k (s.recordBytes k last codes) else s

end Sys2Proof.Machine
end

