-- ==== Sys2Proof/Machine/Hka.lean ====
section
/-! DEFINITION. Machine/Hka.lean: the housekeeping converter (R125 to R129) and its traceability checks (R224). A code is what the
converter delivers in a slot, after its trims. -/

namespace Sys2Proof.Machine

open Sys2Proof

/-- The FCLK at which slot k of a frame begins (R125). -/
def hkaSlotAt (k : Nat) : Nat := 2048 * k / 5

/-- log2 of the conversions per round of a channel, and its settle slots (R126). -/
def hkaConvLog (c : Nat) : Nat :=
  if c < 64 then 1 else if c < 76 then 4 else if c = 91 then 3 else 2
def hkaSettle (c : Nat) : Nat := if c < 64 then 2 else 0

/-- The slots a round spends on channel c. -/
def hkaSlots (c : Nat) : Nat := hkaSettle c + 2 ^ hkaConvLog c

/-- The mean of a channel's conversions, rounded to nearest (R126). -/
def hkaMean (c sum : Nat) : Nat := (sum + 2 ^ hkaConvLog c / 2) / 2 ^ hkaConvLog c

def State.setHka (s : State) (f : Hka → Hka) : State := { s with hka := f s.hka }

/-- Is the HKA fenced (R383)? -/
def State.hkaFenced (s : State) : Bool := s.miscFenced 10

/-- Queued injections plus unread results (R128). -/
def State.hkaHeld (s : State) : Nat := s.hka.queue.length + s.hka.results.length

/-- The round number of frame f (R125). -/
def hkaRound (f : Nat) : Nat := f / 50 % 256

/-- What HKA_STATUS shows: CAL_BUSY, CAL_PENDING, OCCUPANCY, ROUND. -/
def State.hkaStatusView (s : State) : Nat :=
  let w := s.word A.HKA_STATUS
  let w := putBits w 31 31 (b01 (s.hka.calLeft != 0))
  let w := putBits w 30 30 (b01 s.hka.calAt.isSome)
  let w := putBits w 27 24 s.hkaHeld
  putBits w 23 16 (hkaRound s.clk.frame)

/-- What HKA_CTRL shows: CAL_START reads 1 until the calibration starts. -/
def State.hkaCtrlView (s : State) : Nat := putBits (s.word A.HKA_CTRL) 0 0 (b01 s.hka.calAt.isSome)

/-- What HKA_RESULT[c] shows: STALE while the HKA is fenced (R383). -/
def State.hkaResultView (s : State) (c : Nat) : Nat :=
  let w := s.word (A.HKA_RESULT c)
  if s.hkaFenced then putBits w 30 30 1 else w

/-- What HKA_INJ_RESULT shows: the oldest entry. -/
def State.hkaInjView (s : State) : Nat :=
  match s.hka.results with
  | (c, t, v) :: _ => 2 ^ 31 + c % 128 * 2 ^ 24 + t % 256 * 2 ^ 16 + v % 65536
  | [] => 0

/-- A read of HKA_INJ_RESULT removes the oldest entry (R128). -/
def State.hkaPop (s : State) : State := s.setHka fun h => { h with results := h.results.drop 1 }

/-! ### Requests -/

/-- Queue an injection, or refuse it and count the refusal (R128): 8 held, a channel above 95. -/
def State.inject (s : State) (channel tag : Nat) (head : Option CmdHead) : State × Bool :=
  if 96 ≤ channel ∨ 8 ≤ s.hkaHeld then (s.bump R.HKA_STATUS_INJ_REFUSED 1, false)
  else (s.setHka fun h => { h with queue := h.queue ++ [⟨channel, tag, head, s.now⟩] }, true)

/-- HKA_INJECT (R128): answered BUSY where it is refused and BAD_ARG for a channel the converter does not have; otherwise when
the conversion completes. -/
def State.cmdInject (s : State) (h : CmdHead) (channel tag : Nat) : State :=
  if 96 ≤ channel then ((s.inject channel tag none).1.answer h 0x30 Code.badArg)
  else if s.hkaFenced then s.answer h 0x30 Code.busy
  else
    match s.inject channel tag (some h) with
    | (s, true) => s
    | (s, false) => s.answer h 0x30 Code.busy

/-- A request for an HKA calibration; one already pending or in progress takes it in (R127). -/
def State.requestHkaCal (s : State) : State :=
  if s.hka.calAt.isSome then s else s.setHka fun h => { h with calAt := some s.now }

/-! ### Traceability (R224) -/

/-- REFIN_OK: |code91 / code95 − 0.625| ≤ 0.003125, in whole numbers. -/
def refinOk (c91 c95 : Nat) : Bool := c95 != 0 && decide (((320 * c91 : Int) - 200 * c95).natAbs ≤ c95)

/-- REXT_OK: within 26,214 ± 262. -/
def rextOk (c92 : Nat) : Bool := 25952 ≤ c92 && c92 ≤ 26476

def State.setRefin (s : State) : State :=
  s.wr R.CAL_STATUS_REFIN_OK
    (b01 (s.on (R.HKA_RESULT_VALID 91) && s.on (R.HKA_RESULT_VALID 95) &&
      refinOk (s.rd (R.HKA_RESULT_CODE 91)) (s.rd (R.HKA_RESULT_CODE 95))))

/-- REXT_OK takes a new value; a fall raises a REXT fault, a rise ends it. -/
def State.setRext (s : State) (ok : Bool) : State :=
  let was := s.on R.CAL_STATUS_REXT_OK
  let s := s.wr R.CAL_STATUS_REXT_OK (b01 ok)
  let m : FaultMsg := { cls := 10, inst := 0, kind := 2 }
  if was && !ok then s.raise m else if !was && ok then s.endReport m else s

/-! ### The round (R126, R127, R129) -/

/-- A round result: HKA_RESULT takes it and it is held against its window. -/
def State.hkaResult (s : State) (c code : Nat) : State :=
  let s := s.setWord (A.HKA_RESULT c) (2 ^ 31 + hkaRound s.clk.frame * 2 ^ 16 + code % 65536)
  let bad := s.rd (R.HKA_LIMIT_HIGH c) < code || code < s.rd (R.HKA_LIMIT_LOW c)
  let m : FaultMsg := { cls := 10, inst := 0, kind := 1, addr := c }
  let was := decide (c ∈ s.hka.outside)
  let s := if bad then s.raise m else if was then s.endReport m else s
  let s := s.setHka fun h => { h with outside := if bad then (if was then h.outside else h.outside ++ [c])
                                                 else h.outside.filter (· != c) }
  if c = 91 ∨ c = 95 then s.setRefin else if c = 92 then s.setRext (rextOk code) else s

/-- One slot of the round: a settle slot or a conversion of the channel that is next. -/
def State.roundSlot (s : State) (code : Nat) : State :=
  let c := s.hka.chan
  if 96 ≤ c ∨ ¬ s.on R.HKA_CTRL_ROUND_EN ∨ s.hkaFenced then s
  else
    let done := s.hka.done + 1
    let sum := if done ≤ hkaSettle c then 0 else s.hka.sum + code % 65536
    if done = hkaSlots c then
      (s.hkaResult c (hkaMean c sum)).setHka fun h => { h with chan := c + 1, done := 0, sum := 0 }
    else s.setHka fun h => { h with done := done, sum := sum }

/-- Anything that interrupts a sense group makes it restart from its first settle slot (R127). -/
def State.interruptGroup (s : State) : State :=
  if s.hka.chan < 64 then s.setHka fun h => { h with done := 0, sum := 0 } else s

/-- A new round at a frame whose number is a multiple of 50: what has not run is dropped, each dropped result goes STALE
(R125, R127). -/
def State.hkaNewRound (s : State) : State :=
  let left := (List.range 96).filter fun c => s.hka.chan ≤ c
  let s := s.over left fun s c => s.wr (R.HKA_RESULT_STALE c) 1
  let s := s.bump R.HKA_STATUS_SKIPPED left.length
  s.setHka fun h => { h with chan := 0, done := 0, sum := 0 }

/-- With ROUND_EN 0 or the HKA fenced there is no round, and none is dropped. -/
def State.hkaFrame (s : State) : State :=
  if s.clk.frame % 50 = 0 then
    if s.on R.HKA_CTRL_ROUND_EN && !s.hkaFenced then s.hkaNewRound
    else s.setHka fun h => { h with chan := 96, done := 0, sum := 0 }
  else s

/-! ### Injections and calibration -/

/-- One slot of the injection at the head of the queue. -/
def State.injectionSlot (s : State) (inj : HkaInj) (code : Nat) : State :=
  let s := s.interruptGroup
  if s.hka.injDone < hkaSettle inj.channel then s.setHka fun h => { h with injDone := h.injDone + 1 }
  else
    let s := s.setHka fun h => { h with queue := h.queue.drop 1, injDone := 0 }
    match inj.head with
    | some h => s.answer h 0x30 Code.ok (be 2 code ++ be 1 inj.tag ++ be 1 inj.channel)
    | none => s.setHka fun h => { h with results := h.results ++ [(inj.channel, inj.tag, code % 65536)] }

/-- Does a measured HKA trim pass R230: within the absolute limit and, once measured, the change limit? -/
def hkaPlausible (meas : Bool) (old new lim change : Int) : Bool :=
  decide (-lim ≤ new ∧ new ≤ lim) && (!meas || decide ((new - old).natAbs ≤ change.natAbs))

/-- The end of an HKA calibration: plausible trims come into force at the next boundary, the REXT conversions decide REXT_OK
(R127, R230). -/
def State.hkaCalEnd (s : State) (ofs gain : Int) : State :=
  let s := s.setRext (rextOk ((s.hka.calRext + 8) / 16))
  let s := s.wrS R.CAL_STATUS_HKA_T_LAST s.hka.calTemp
  let meas := s.on R.HKA_CAL_MEAS
  let okO := hkaPlausible meas (s.rdS R.HKA_CAL_OFS) ofs 32 4
  let okG := hkaPlausible meas (s.rdS R.HKA_CAL_GAIN) gain 328 33
  if s.hka.overridden then s
  else
    let s := s.setHka fun h => { h with
      trims := some (if okO then ofs else s.rdS R.HKA_CAL_OFS, if okG then gain else s.rdS R.HKA_CAL_GAIN, okO && okG) }
    if okO && okG then s
    else (s.wr R.HKA_CAL_FAIL 1).raise { cls := 10, inst := 0, kind := 3 }

/-- One slot of a calibration; the last 16 convert REXT. -/
def State.calSlot (s : State) (code : Nat) (ofs gain : Int) : State :=
  let s := s.interruptGroup
  let s := s.setHka fun h => { h with
    calLeft := h.calLeft - 1, calRext := if h.calLeft ≤ 16 then h.calRext + code % 65536 else h.calRext }
  if s.hka.calLeft = 0 then s.hkaCalEnd ofs gain else s

/-- Trims of an HKA calibration come into force at a boundary; GEN advances (R127, R231). -/
def State.hkaTrims (s : State) : State :=
  match s.hka.trims with
  | some (o, g, ok) =>
    let s := (s.wrS R.HKA_CAL_OFS o).wrS R.HKA_CAL_GAIN g
    ((s.when ok (·.wr R.HKA_CAL_MEAS 1)).advance R.HKA_CAL_GEN).setHka
      fun h => { h with trims := none }
  | none => s

/-- Ready for slot k: queued at least 64 FCLK before it begins (R127). -/
def State.readyFor (s : State) (k queued : Nat) : Bool := queued * 128 + 64 ≤ s.clk.frame * 8192 + hkaSlotAt k

/-- HKA_SLOT (R127): slot k of the running frame does the first thing present. `code` is what the converter delivers; `ofs` and
`gain` are the trims a calibration that ends in this slot has found. -/
def State.hkaSlot (s : State) (k code : Nat) (ofs gain : Int) : State :=
  let inj := s.hka.queue.head?.filter fun i => s.hka.injDone != 0 || s.readyFor k i.queued
  let cal := s.hka.calAt.filter fun q => s.readyFor k q
  if s.hka.calLeft ≠ 0 then s.calSlot code ofs gain
  else
    match inj, cal with
    | some i, some q =>
      if i.queued < q || s.hka.injDone != 0 then s.injectionSlot i code
      else (s.setHka fun h => { h with
        calAt := none, calLeft := 64, calRext := 0, overridden := false, calTemp := s.rdS (R.TH_SENSOR_TEMP 89) }).calSlot
          code ofs gain
    | none, some _ =>
      (s.setHka fun h => { h with
        calAt := none, calLeft := 64, calRext := 0, overridden := false, calTemp := s.rdS (R.TH_SENSOR_TEMP 89) }).calSlot
          code ofs gain
    | some i, none => s.injectionSlot i code
    | none, none => s.roundSlot code

end Sys2Proof.Machine
end

