-- ==== Sys2Proof/Machine/Route.lean ====
section
/-! DEFINITION. Machine/Route.lean: the route engine (chapter 2): the pending map, incremental requests, the looping method of
a full routing, its refusals, DISCONNECT, element settings, the posting of results. -/

namespace Sys2Proof.Machine

open Sys2Proof

/-! ### The pending configuration (R51, R72) -/

/-- A map with one pending item applied: removals, moves, then new connections. -/
def applyItemMap (m : List Conn) (it : PItem) : List Conn :=
  let m := m.filter fun c => !it.removes.any fun r => r.1 == c.inp && r.2 == c.out
  let m := m.map fun c => match it.moves.find? fun x => x.inp == c.inp && x.out == c.out with
    | some x => { c with path := x.path }
    | none => c
  m ++ it.adds

/-- The set of cross cells with settings applied. -/
def applySets (cross : List Nat) (sets : List (Nat × Nat)) : List Nat :=
  sets.foldl (fun cr x =>
    if x.2 = 1 then (if x.1 ∈ cr then cr else insertBy id x.1 cr) else cr.filter (· != x.1)) cross

/-- The pending map: the committed map with every pending item applied in posting order (R72). -/
def State.pendingMap (s : State) : List Conn := s.route.items.foldl applyItemMap s.route.committed

/-- The cells and elements whose pending state is cross. -/
def State.pendingCross (s : State) : List Nat := s.route.items.foldl (fun cr it => applySets cr it.sets) s.route.crossed

/-- The configuration a routing works on: connections, cross cells, and the logical cells held at bar beside those of the
aligned tenancies in force (R63). -/
structure Conf where
  n : Nat
  conns : List Conn
  cross : List Nat
  held : List Nat := []
deriving DecidableEq, Repr

def State.conf (s : State) : Conf := ⟨s.fabric.n, s.pendingMap, s.pendingCross, []⟩

/-- The current state of a cell: a failed cell of known state is in PRIMER_CROSS, a cell to be held is bar (R52, R63). -/
def State.cellState (s : State) (f : Conf) (c : Nat) : Nat :=
  let r := s.recordOf c
  if s.cellFailed c && s.stateKnown c then b01 r.primerCross
  else if c ∈ f.held then 0
  else b01 (decide (c ∈ f.cross))

/-- The state that is fixed for each occupied cell by the connections through it: 0, 1, or 2 where free (R51). -/
def occupancy (n : Nat) (conns : List Conn) : Array Nat :=
  conns.foldl (fun arr c => (pathCells n c.inp c.out c.path).foldl (fun arr x => arr.setIfInBounds x.1 x.2) arr)
    (Array.replicate ((2 * n - 1) * 2 ^ (n - 1)) 2)

/-- Why a cell may not change (R55): 1 exclusive cell of another's alignment, 2 held, 3 failed; 0 none. -/
def State.blockKind (s : State) (f : Conf) (p c : Nat) : Nat :=
  if s.cellFailed c then 3
  else if s.isHeld c || decide (c ∈ f.held) then 2
  else if s.exclusiveToOther p c then 1 else 0

/-- May the path of a new line take cell c in state `need` (R54, step 2)? -/
def State.cellFits (s : State) (f : Conf) (occ : Array Nat) (p c need : Nat) : Bool :=
  let o := occ.getD c 2
  let now := s.cellState f c
  if s.cellFailed c then s.stateKnown c && now == need && (o == 2 || o == need)
  else if o = 2 then now == need || s.blockKind f p c == 0
  else o == need

/-- The feasible path of lowest index for a line of principal p (R54). -/
def State.findPath (s : State) (f : Conf) (p i j : Nat) : Option Nat :=
  let occ := occupancy f.n f.conns
  (List.range (2 ^ (f.n - 1))).find? fun k => (pathCells f.n i j k).all fun x => s.cellFits f occ p x.1 x.2

/-- Add a connection on a path: the cells take the states it needs. -/
def Conf.addConn (f : Conf) (c : Conn) : Conf :=
  { f with conns := f.conns ++ [c], cross := applySets f.cross (pathCells f.n c.inp c.out c.path) }

/-! ### The looping method (R55) -/

/-- A connection during a full routing: its positions on the input and on the output side at the current level, and the path
bits chosen so far. -/
structure Line where
  conn : Conn
  x : Nat
  y : Nat
  path : Nat
deriving DecidableEq, Repr

/-- Bit b of a position set to h. -/
def withBit (x b : Nat) (h : Bool) : Nat := if x.testBit b = h then x else x ^^^ 2 ^ b

/-- The lines of one loop or chain with the half each takes, by following pairings: `todo` holds lines assigned and not yet
followed. Two lines through one input cell or one output cell take opposite halves. -/
def followLoop (b : Nat) : Nat → List (Line × Bool) → List (Line × Bool) → List Line → List (Line × Bool) × List Line
  | 0, done, todo, rest => (done ++ todo, rest)
  | _, done, [], rest => (done, rest)
  | fuel + 1, done, (l, h) :: todo, rest =>
    let mate (m : Line) : Bool := m.x == l.x ^^^ 2 ^ b || m.y == l.y ^^^ 2 ^ b
    followLoop b fuel (done ++ [(l, h)]) (todo ++ (rest.filter mate).map (·, !h)) (rest.filter fun m => !mate m)

/-- The cells of a level that an oriented loop sets, with their states: the input-side stage b and the output-side stage. -/
def loopCells (n b : Nat) (loop : List (Line × Bool)) : List (Nat × Nat) :=
  dedup (loop.flatMap fun (l, h) =>
    [(cellAt n b l.x, b01 (l.x.testBit b != h)), (cellAt n (2 * n - 2 - b) l.y, b01 (l.y.testBit b != h))])

/-- The cells of the list that may not take the state given. -/
def State.blockers (s : State) (f : Conf) (p : Nat) (cells : List (Nat × Nat)) : List Nat :=
  (cells.filter fun x =>
    (s.cellFailed x.1 && !s.stateKnown x.1) ||
      (s.cellState f x.1 != x.2 && s.blockKind f p x.1 != 0)).map (·.1)

/-- A routing that fails: the CAUSE and the CELL that RT_LAST_BLOCK records. -/
structure Block where
  cause : Nat
  cell : Nat
deriving DecidableEq, Repr

/-- CAUSE for the cells that block either orientation, CELL for the orientation tried first (R55). -/
def State.blockOf (s : State) (f : Conf) (p : Nat) (first second : List Nat) : Block :=
  let kinds := dedup ((first ++ second).map (s.blockKind f p))
  let cause := match kinds with
    | [k] => k
    | _ => 5
  let phys := (first.map fun c => (s.recordOf c).phys)
  ⟨cause, phys.foldl min (phys.headD 0)⟩

/-- Route one level: loops and chains in ascending order of their lowest input position, each oriented so that its first
input cell keeps its state, or else the other way. `lines` is ordered by input position. -/
def State.routeLevel (s : State) (f : Conf) (p b : Nat) : Nat → List Line → List Line → Except Block (List Line)
  | 0, done, _ => .ok done
  | _, done, [] => .ok done
  | fuel + 1, done, l :: rest =>
    let n := f.n
    let keep := l.x.testBit b != (s.cellState f (cellAt n b l.x) == 1)
    let (loop, rest) := followLoop b (rest.length + 2) [] [(l, keep)] rest
    let flip := loop.map fun x => (x.1, !x.2)
    let b1 := s.blockers f p (loopCells n b loop)
    let b2 := s.blockers f p (loopCells n b flip)
    let take (lp : List (Line × Bool)) : List Line := lp.map fun (l, h) =>
      { l with x := withBit l.x b h, y := withBit l.y b h,
               path := l.path + (if h != l.conn.out.testBit b then 2 ^ b else 0) }
    if b1.isEmpty then s.routeLevel f p b fuel (done ++ take loop) rest
    else if b2.isEmpty then s.routeLevel f p b fuel (done ++ take flip) rest
    else .error (s.blockOf f p b1 b2)

/-- All levels from bit 0 inwards; then the middle stage crosses exactly where the bits differ. -/
def State.routeLevels (s : State) (f : Conf) (p : Nat) : Nat → Nat → List Line → Except Block (List Line)
  | 0, _, lines =>
    let mid := dedup (lines.map fun l => (cellAt f.n (f.n - 1) l.x, b01 (l.x != l.y)))
    let bl := s.blockers f p mid
    if bl.isEmpty then .ok lines else .error (s.blockOf f p bl bl)
  | left + 1, b, lines =>
    match s.routeLevel f p b (lines.length + 1) [] (sortBy (·.x) lines) with
    | .ok lines => s.routeLevels f p left (b + 1) lines
    | .error e => .error e

/-- A full routing of a configuration for principal p: every connection's new path, and the cells set (R55). -/
def State.fullRoute (s : State) (f : Conf) (p : Nat) : Except Block Conf :=
  match s.routeLevels f p (f.n - 1) 0 (f.conns.map fun c => ⟨c, c.inp, c.out, 0⟩) with
  | .error e => .error e
  | .ok lines =>
    let conns := sortBy (·.inp) (lines.map fun l => { l.conn with path := l.path })
    .ok { f with conns := conns,
                 cross := conns.foldl (fun cr c => applySets cr (pathCells f.n c.inp c.out c.path))
                   (f.cross.filter fun c => !decide (c ∈ f.held)) }

/-! ### Requests (R49, R54, R68, R73) -/

/-- What a route request comes to: refused with a code, the index of the refused entry and what RT_LAST_BLOCK records;
deferred to a full routing; or an item. -/
inductive RouteResult where
  | refused (code first : Nat) (block : Option Block)
  | deferred
  | posted (it : PItem) (moved : Nat)
deriving DecidableEq, Repr

/-- The check of one connection entry against R49 and the port sets. -/
def State.checkEntry (s : State) (p : Nat) (conns : List Conn) (e : Nat × Nat) : Nat :=
  if s.fabric.topology ≠ 1 then Code.wrongTopology
  else if e.1 ≥ s.fabric.portCount ∨ e.2 ≥ s.fabric.portCount then Code.badPort
  else if isTenancy p && !(s.ownsIn p e.1 && s.ownsOut p e.2) then Code.notOwner
  else if conns.any fun c => c.inp == e.1 || c.out == e.2 then Code.portBusy
  else Code.ok

/-- The check of one element setting: entry (element, state) (R68, R70). -/
def State.checkElement (s : State) (p : Nat) (e : Nat × Nat) : Nat :=
  if e.1 ≥ s.fabric.elementCount then Code.badPort
  else if s.fabric.topology = 1 ∧ e.1 < s.fabric.cellCount then Code.wrongTopology
  else if p ≠ 30 ∧ (s.fabric.record e.1).owner ≠ p then Code.elementNotOwned
  else if s.cellFailed e.1 then Code.cellFailed
  else if e.2 > 1 then Code.badArg
  else Code.ok

/-- The first entry a check refuses: its index and code. -/
def firstRefused {α : Type} (check : α → Nat) : List α → Nat → Option (Nat × Nat)
  | [], _ => none
  | e :: es, i => if check e = Code.ok then firstRefused check es (i + 1) else some (i, check e)

/-- Check the entries of a request in order, each seeing the ports the earlier ones take. -/
def State.checkEntries (s : State) (p : Nat) : List Conn → List (Nat × Nat) → Nat → Option (Nat × Nat)
  | _, [], _ => none
  | conns, e :: es, i =>
    let c := s.checkEntry p conns e
    if c = Code.ok then s.checkEntries p (conns ++ [⟨e.1, e.2, p, 0⟩]) es (i + 1) else some (i, c)

/-- Route the entries one after another along feasible paths; none where an entry finds none (R54). -/
def State.routeEntries (s : State) (p : Nat) : Conf → List (Nat × Nat) → Option Conf
  | f, [] => some f
  | f, e :: es =>
    match s.findPath f p e.1 e.2 with
    | some k => s.routeEntries p (f.addConn ⟨e.1, e.2, p, k⟩) es
    | none => none

/-- The item that leads from configuration f to g: the connections of g on the pairs `new` are its new ones. Its settings are
all the cells its new and moved connections need. -/
def itemBetween (r : RouteReq) (f g : Conf) (removes : List (Nat × Nat)) (new : List (Nat × Nat)) : PItem :=
  let adds := g.conns.filter fun c => (c.inp, c.out) ∈ new
  let moves := g.conns.filter fun c => !decide ((c.inp, c.out) ∈ new) &&
    f.conns.any fun o => o.inp == c.inp && o.out == c.out && o.path != c.path
  { principal := r.principal, cseq := r.cseq, adds := adds, removes := removes, moves := moves,
    sets := dedup ((adds ++ moves).flatMap fun c => pathCells g.n c.inp c.out c.path) }

def noHit (flags : Nat) : Bool := flags.testBit 5

/-- The connections a request removes before it adds its own: REPLACE takes the principal's own, the owner's the whole map
(R73). -/
def replaced (r : RouteReq) (conns : List Conn) : List (Nat × Nat) :=
  if r.replace then (conns.filter fun c => r.principal == 30 || c.owner == r.principal).map fun c => (c.inp, c.out) else []

/-- A DISCONNECT (R54). -/
def State.runDisconnect (s : State) (r : RouteReq) : RouteResult :=
  match r.entries with
  | e :: _ =>
    if s.fabric.topology ≠ 1 then .refused Code.wrongTopology 0 none
    else if e.1 ≥ s.fabric.portCount ∨ e.2 ≥ s.fabric.portCount then .refused Code.badPort 0 none
    else match s.pendingMap.find? fun c => c.inp == e.1 && c.out == e.2 with
      | some c =>
        if r.principal ≠ 30 ∧ c.owner ≠ r.principal then .refused Code.notOwner 0 none
        else .posted { principal := r.principal, cseq := r.cseq, removes := [e] } 0
      | none =>
        if isTenancy r.principal && !(s.ownsIn r.principal e.1 && s.ownsOut r.principal e.2) then
          .refused Code.notOwner 0 none
        else .refused Code.notConnected 0 none
  | [] => .refused Code.badArg 0 none

/-- Element settings (R68): every setting has a result. -/
def State.runElements (s : State) (r : RouteReq) : RouteResult :=
  match firstRefused (s.checkElement r.principal) r.entries 0 with
  | some (i, c) => .refused c i none
  | none =>
    let own (k : Nat) : Bool := r.principal == 30 || (s.fabric.record k).owner == r.principal
    -- REPLACE: the list replaces the principal's own settings; what it does not name returns to bar
    let cleared := if r.replace then (s.pendingCross.filter fun k => own k && !r.entries.any fun e => e.1 == k).map (·, 0) else []
    .posted { principal := r.principal, cseq := r.cseq, sets := cleared ++ r.entries } 0

/-- An incremental CONNECT or STAGE (R54). -/
def State.runIncremental (s : State) (r : RouteReq) : RouteResult :=
  let f := s.conf
  match s.checkEntries r.principal f.conns r.entries 0 with
  | some (i, c) => .refused c i none
  | none =>
    match s.routeEntries r.principal f r.entries with
    | some g => .posted (itemBetween r f g [] r.entries) 0
    | none => .deferred

/-- A full routing of a request: the looping method over the whole pending map, then NO_HIT and the hit policy (R55, R67). -/
def State.runFull (s : State) (r : RouteReq) : RouteResult :=
  let f := s.conf
  let gone := replaced r f.conns
  let kept := f.conns.filter fun c => !decide ((c.inp, c.out) ∈ gone)
  match s.checkEntries r.principal kept r.entries 0 with
  | some (i, c) => .refused c i none
  | none =>
    let f' := { f with conns := kept ++ r.entries.map fun e => ⟨e.1, e.2, r.principal, 0⟩ }
    match s.fullRoute f' r.principal with
    | .error b => .refused Code.routeBlocked 0 (some b)
    | .ok g =>
      let it := itemBetween r f g gone r.entries
      let mine := it.moves.filter fun c => c.owner == r.principal
      let others := it.moves.filter fun c => c.owner != r.principal
      if noHit r.flags && !mine.isEmpty then .refused Code.rearrangeNeeded 0 none
      else if isTenancy r.principal && !(s.rdP s.active R.RT_HIT_POLICY_MAY_MOVE).testBit r.principal && !others.isEmpty then
        let moved := others.flatMap fun c => (pathCells f.n c.inp c.out c.path).map fun x => (s.recordOf x.1).phys
        .refused Code.routeBlocked 0 (some ⟨4, moved.foldl min (moved.headD 0)⟩)
      else .posted it mine.length

/-- Does a request run a full routing, or take its place in DIRECT topology (R53, R68)? -/
def RouteReq.isFull (r : RouteReq) : Bool := r.replace || 4 < r.entries.length

/-- The result of a request at its posting. -/
def State.runRequest (s : State) (r : RouteReq) (full : Bool) : RouteResult :=
  if r.disconnect then s.runDisconnect r
  else if r.elements then s.runElements r
  else if full then s.runFull r else s.runIncremental r

/-! ### Posting (R53, R57, R70) -/

/-- Is the item a pending rearrangement: does it move another principal's connection (R76)? -/
def PItem.rearranges (it : PItem) : Bool := it.moves.any fun c => c.owner != it.principal

/-- RT_LAST_BLOCK and the BLOCKED counter, in both planes. -/
def State.recordBlock (s : State) (p : Nat) (b : Block) : State :=
  let s := s.wrB R.RT_LAST_BLOCK_CAUSE b.cause
  let s := s.wrB R.RT_LAST_BLOCK_PRINCIPAL p
  (s.wrB R.RT_LAST_BLOCK_CELL b.cell).bumpB R.RT_EVENTS_BLOCKED 1

/-- The response body of a route request: MOVED (2) with res (2) for CONNECT, with FIRST_REFUSED (2) for STAGE (R256). -/
def routeBody (opcode moved first : Nat) : List Nat :=
  if opcode = 0x10 then be 2 moved ++ be 2 0 else if opcode = 0x12 then be 2 moved ++ be 2 first else []

/-- The flight of a completed command ends (R100). -/
def State.complete (s : State) (p cseq : Nat) : State :=
  { s with sched := { s.sched with flights := s.sched.flights.filter fun f => !(f.principal == p && f.cseq == cseq) } }

/-- Answer a route request and end its flight. FIRST_REFUSED of a STAGE that nothing refuses is a value the spec does not
state: a free value (log entry 2). -/
def State.answerRoute (s : State) (r : RouteReq) (code moved first : Nat) : State :=
  let op := opcodeOf r.cmd
  let h : CmdHead := ⟨r.principal, r.cseq, r.flags⟩
  if code = Code.ok ∧ op = 0x12 then
    let (v, s) := s.free
    (s.answerAt r.since h op code (routeBody op moved (v % 65536))).complete r.principal r.cseq
  else (s.answerAt r.since h op code (routeBody op moved first)).complete r.principal r.cseq

/-- Post one result at the FCLK instant `at_`: the item joins the pending configuration, or the refusal is answered. -/
def State.post (s : State) (r : RouteReq) (at_ : Nat) (res : RouteResult) : State :=
  match res with
  | .posted it moved =>
    let s := { s with route := { s.route with items := s.route.items ++ [{ it with posted := at_ }] } }
    s.answerRoute r Code.ok moved 0
  | .refused code first block =>
    let s := match block with
      | some b => s.recordBlock r.principal b
      | none => s
    s.answerRoute r code 0 first
  | .deferred => { s with route := { s.route with deferred := s.route.deferred ++ [r] } }

/-- A request that no plane's engine completed in time is refused with ROUTE_TIMEOUT; each plane that failed raises its fault
and counts (R57). The result of a plane that did complete stands. -/
def State.timeouts (s : State) (r : RouteReq) (late : List Plane) : State :=
  s.over late fun s p =>
    let s := s.wrP p R.RT_EVENTS_TIMEOUTS (satAdd 1023 (s.rdP p R.RT_EVENTS_TIMEOUTS) 1)
    s.raise (planeMsg 5 0 1 p (r.principal * 2 ^ 24))

/-- Does every plane in service miss the posting point? -/
def State.allLate (s : State) (late : List Plane) : Bool := s.planesUp.all fun p => decide (p ∈ late)

/-- Post one incremental request of the latest admission point. -/
def State.postIncremental (s : State) (late : List (Nat × Nat × Plane)) (r : RouteReq) : State :=
  let mine := (late.filter fun x => x.1 == r.principal && x.2.1 == r.cseq).map (·.2.2)
  let s := s.timeouts r mine
  let at_ := s.now * 128 + 112
  if s.allLate mine then s.post r at_ (.refused Code.routeTimeout 0 none)
  else s.post r at_ (s.runRequest r false)

/-! ### Summaries for the registers (RT_STATUS, RT_CELL_*, RT_TEN_STATUS) -/

/-- The physical cells of a list of logical cells. -/
def State.physOf (s : State) (l : List Nat) : List Nat := l.map fun c => (s.recordOf c).phys

/-- Bit w of word k of RT_CELL_RESERVED: the physical cell is exclusive to or held for an aligned tenancy. -/
def State.cellReserved (s : State) (phys : Nat) : Bool :=
  s.fabric.topology == 1 && (s.cellsAtPhys phys).any fun c =>
    c < s.fabric.cellCount && s.alignedNow.any fun a =>
      exclusiveCell s.fabric.n a.k a.m c || heldCell s.fabric.n a.k a.m c

/-- The cell share of an aligned block: (2n − 1) × 2^(k − 1) (R60). -/
def cellShare (n k : Nat) : Nat := (2 * n - 1) * 2 ^ (k - 1)

end Sys2Proof.Machine
end

