-- ==== Sys2Proof/Machine/Commit.lean ====
section
/-! DEFINITION. Machine/Commit.lean: commits (chapter 3): commit sets, targets and closes, the thermal shaper's charges, fixing,
switching, ABORT, tokens of a FABRIC commit, settling and the COMMIT_DONE notice. -/

namespace Sys2Proof.Machine

open Sys2Proof

def fclkPerFrame : Nat := 8192

/-- The FCLK instant of the latest admission point, counted from frame 0. -/
def State.fclk (s : State) : Nat := s.now * 128

def State.updCommit (s : State) (num : Nat) (f : Commit → Commit) : State :=
  { s with com := { s.com with commits := s.com.commits.map fun c => if c.num = num then f c else c } }

def State.dropCommit (s : State) (num : Nat) : State :=
  { s with com := { s.com with commits := s.com.commits.filter (·.num != num) } }

def Commit.head (c : Commit) : CmdHead := ⟨c.principal, c.cseq, 0⟩

/-- A commit that is fixed and waits for S, tokens included (R80). -/
def Commit.waiting (c : Commit) : Bool := decide (c.phase = .fixed) || decide (c.phase = .waitGo)

/-- S as an absolute chip number. -/
def Commit.sChips (c : Commit) : Nat := c.sFrame * 16 + c.sChip

/-! ### Commit sets and their cells (R74, R75) -/

/-- The pending items of a commit. -/
def State.itemsOf (s : State) (num : Nat) : List PItem := s.route.items.filter fun it => it.takenBy == some num

/-- Does an earlier COMMIT of principal p that still waits to be fixed have what stands at place cseq of p's stream in its set (R74)? -/
def State.claimed (s : State) (c : Commit) (p cseq : Nat) : Bool :=
  s.com.commits.any fun d => decide (d.phase = .unfixed) && d.num < c.num && d.principal == p && cseq ≤ d.cseq

/-- Does the commit take the item: p's own earlier items that no earlier commit set holds, or with ALL every such item (R74)? -/
def State.takes (s : State) (c : Commit) (it : PItem) : Bool :=
  it.takenBy.isNone && (c.all || (it.principal == c.principal && it.cseq ≤ c.cseq)) && !s.claimed c it.principal it.cseq

/-- The commits fixed and not yet switched, in the order of S. -/
def State.fixedCommits (s : State) : List Commit := sortBy (·.sChips) (s.com.commits.filter (·.waiting))

/-- The committed map as the commits fixed so far will leave it. -/
def State.baseMap (s : State) : List Conn :=
  (s.fixedCommits.flatMap fun c => s.itemsOf c.num).foldl applyItemMap s.route.committed

/-- The committed cell states as the commits fixed so far will leave them. -/
def State.baseCross (s : State) : List Nat := s.fixedCommits.foldl (fun cr c => applySets cr c.cells) s.route.crossed

def Conn.cells (n : Nat) (c : Conn) : List Nat := (pathCells n c.inp c.out c.path).map (·.1)

def samePair (a b : Conn) : Bool := a.inp == b.inp && a.out == b.out

/-- What a set of items changes between two maps: connections made, removed, moved. -/
def mapDiff (old new : List Conn) : List Conn × List Conn × List Conn :=
  (new.filter fun c => !old.any (samePair c), old.filter fun c => !new.any (samePair c),
   new.filter fun c => old.any fun o => samePair c o && o.path != c.path)

/-- The cells on the old and the new paths of what the items change, and the elements they set; each takes its pending state
(R75). Only real changes against the base are listed. -/
def State.cellsToSwitch (s : State) (items : List PItem) : List (Nat × Nat) :=
  let old := s.baseMap
  let new := items.foldl applyItemMap old
  let (made, removed, moved) := mapDiff old new
  let oldMoved := old.filter fun o => moved.any (samePair o)
  let onPaths := (made ++ removed ++ moved ++ oldMoved).flatMap (Conn.cells s.fabric.n)
  let elements := (items.flatMap (·.sets)).filterMap fun x =>
    if s.fabric.topology = 2 ∨ s.fabric.cellCount ≤ x.1 then some x.1 else none
  let held := items.flatMap (·.held)
  let pend := s.pendingCross
  let base := s.baseCross
  ((dedup (onPaths ++ elements ++ held)).filter fun c => decide (c ∈ pend) != decide (c ∈ base)).map fun c =>
    (c, b01 (decide (c ∈ pend)))

/-- The cells a pending rearrangement uses. -/
def State.itemCells (s : State) (it : PItem) : List Nat :=
  it.sets.map (·.1) ++ it.moves.flatMap (Conn.cells s.fabric.n)

/-- A commit waits while a pending rearrangement of another principal shares a cell with its set (R76). -/
def State.rearrangementBlocks (s : State) (c : Commit) (items : List PItem) : Bool :=
  let mine := items.flatMap s.itemCells ++ (s.cellsToSwitch items).map (·.1)
  s.route.items.any fun it =>
    it.rearranges && it.principal != c.principal && !items.any (fun x => x == it) &&
      (match it.takenBy with
       | none => true
       | some k => s.com.commits.any fun d => d.num == k && d.waiting) &&
      (s.itemCells it).any fun x => decide (x ∈ mine)

/-- Are all route requests of the principal that precede the COMMIT posted? The items of a commit include the posting of the
last one (R78). -/
def State.allPosted (s : State) (c : Commit) : Bool :=
  let earlier (p cseq : Nat) : Bool :=
    (c.all || p == c.principal) && (cseq < c.cseq || (c.all && p != c.principal)) && !s.claimed c p cseq
  !(s.route.begun ++ s.route.full.toList ++ s.route.deferred).any fun r => earlier r.principal r.cseq

/-! ### Targets (R78 to R80) -/

/-- The earliest frame boundary whose close a commit fixed at the FCLK instant t meets: t ≤ (F − 1) × 8,192. -/
def earliestFrame (t : Nat) : Nat := divUp t fclkPerFrame + 1

/-- The first frame at or after F in the SEALED slot of a tenancy (R79). -/
def slotFrame (p f : Nat) : Nat := f + (16 + p - f % 16) % 16

/-- B_s of a chip target (R78). -/
def chipBs (t f k : Nat) : Nat := if k = 0 then (if t ≤ (f - 1) * fclkPerFrame then f else f + 1) else f + 2

/-- S and B_s for a commit set fixed at instant t; none where the named close has passed (R78, R79). -/
def State.target (s : State) (c : Commit) (t : Nat) : Option (Nat × Nat × Nat) :=
  let sealedT := s.isMode .sealed && isTenancy c.principal
  if c.kind = 1 then
    if t ≤ (c.frame - 1) * fclkPerFrame then some (c.frame, 0, c.frame) else none
  else if c.kind = 2 then
    if t + 128 ≤ c.frame * fclkPerFrame + 512 * c.chip then some (c.frame, c.chip, chipBs t c.frame c.chip) else none
  else if s.isMode .swift && c.token.isNone then
    let chip := divUp (t + 128) 512
    some (chip / 16, chip % 16, chipBs t (chip / 16) (chip % 16))
  else
    let f := earliestFrame t
    let f := if sealedT then slotFrame c.principal f else f
    some (f, 0, f)

/-- The refusals of a COMMIT when it takes effect (R79, R80, R97, R103). -/
def State.commitRefusal (s : State) (p kind chip token mask frame : Nat) (fabric : Bool) : Nat :=
  let named := kind = 1 ∨ kind = 2
  let waiting := s.com.commits.filter fun c => c.principal == p && c.waiting
  let latest := waiting.foldl (fun a c => max a c.sChips) 0
  let target := frame * 16 + (if kind = 2 then chip else 0)
  let close := if kind = 2 then frame * fclkPerFrame + 512 * chip - 128 else (frame - 1) * fclkPerFrame
  if kind > 2 ∨ chip > 15 ∨ (fabric ∧ kind = 2) then Code.badArg
  else if kind = 2 ∧ ¬ s.isMode .swift then Code.wrongMode
  else if kind = 1 ∧ s.isMode .sealed ∧ isTenancy p ∧ frame % 16 ≠ p then Code.commitSlot
  else if 4 ≤ waiting.length then Code.commitLimit
  else if named ∧ target < latest then Code.commitOrder
  else if named ∧ (frame = 0 ∨ close < s.fclk) then Code.commitLate
  else if named ∧ s.clk.frame + 1048576 < frame then Code.commitRange
  else if fabric ∧ (s.on R.AP_RING_STATUS_CONFLICT ∨ (s.com.tokens.any fun k => k.principal == p && k.number == token) ∨
      ¬ mask.testBit (s.rd R.BT_STATUS_CHAIN_POS)) then Code.tokenConflict
  else Code.ok

/-! ### Projected power and the thermal shaper (R91, R281 to R287) -/

/-- The output power contexts and thermal bias contexts that a commit's changes put on another set-point: (context, SP_SEL)
(R171). -/
def State.setpointsOf (s : State) (cells : List (Nat × Nat)) (made removed : List Conn) : List (Nat × Nat) :=
  (cells.filterMap fun x =>
    let r := s.recordOf x.1
    if r.thermalOnly ∧ r.ctx ≠ 0xFFFF then some (r.ctx, x.2) else none) ++
  (made.map fun c => ((s.fabric.port c.out).outCtx, 1)) ++
  ((removed.filter fun c => !made.any fun d => d.out == c.out).map fun c => ((s.fabric.port c.out).outCtx, 0))

/-- The projected step of one heater context that changes set-point, in μW (R91). -/
def State.stepOf (s : State) (x : Nat × Nat) : Int :=
  let n := x.1
  let p := s.active
  if s.rdP p (R.CTX_CTL_DUAL_SP n) = 1 ∧ s.rdP p (R.CTX_CTL_SP_SEL n) ≠ x.2 ∧ s.rdP p (R.CTX_CTL_TARGET n) = 1 then
    let dNew : Int := s.rdP p (R.CTX_ALT_U_ALT n)
    let dNow : Int := s.rdP p (R.CTX_OUT_U n)
    asr ((dNew - dNow) * (s.rd (R.TL_CAL_HTR_PFULL (n / 512) (s.rdP p (R.CTX_BIND_ACT n))) : Int)) 20
  else 0

/-- ΔP per tile and Σ|ΔP_h| per tile, for the tiles with a step. -/
def State.projection (s : State) (sp : List (Nat × Nat)) : List (Nat × Int) × List (Nat × Nat) :=
  let steps := (sp.map fun x => (x.1 / 512, s.stepOf x)).filter fun x => x.2 != 0
  let tiles := dedup (steps.map (·.1))
  (tiles.map fun t => (t, (steps.filter (·.1 == t)).foldl (fun a x => a + x.2) 0),
   tiles.map fun t => (t, (steps.filter (·.1 == t)).foldl (fun a x => a + x.2.natAbs) 0))

/-- The shaper buckets a cost is charged to: tiles, the device (80), and in SEALED the tenancy's own (81 + t). -/
def State.charges (s : State) (p : Nat) (costs : List (Nat × Nat)) : List (Nat × Nat) :=
  let total := sumOf (costs.map (·.2))
  if total = 0 then [] else
  costs ++ [(80, total)] ++ (if s.isMode .sealed && isTenancy p then [(81 + p, total)] else [])

/-- The buckets a commit waits on: in SEALED a tenancy's own bucket alone (R287). -/
def State.waitsOn (s : State) (p : Nat) (ch : List (Nat × Nat)) : List Nat :=
  if s.isMode .sealed && isTenancy p then (ch.map (·.1)).filter (· == 81 + p) else ch.map (·.1)

/-- Charge a bucket; the part below −1,000 × DEBT_MAX is cut off and counted (R282). -/
def State.charge (s : State) (x : Nat × Nat) : State :=
  let t := s.rdS (R.SCH_TH_TOKENS_TOKENS x.1)
  let low : Int := -(1000 * (s.rd (R.SCH_TH_DEBT_DEBT_MAX x.1) : Int))
  let new := t - x.2
  let s := s.wrS (R.SCH_TH_TOKENS_TOKENS x.1) (max low new)
  s.when (decide (new < low)) (·.bump R.SCH_EVENTS2_CLAMPED 1)

/-! ### Fixing (R78, R81, R283) -/

/-- ACCEPTED: S_FRAME, B_S_FRAME, S_CHIP, res, CELLS, res (R256). -/
def acceptedBody (c : Commit) : List Nat :=
  be 8 c.sFrame ++ be 8 c.bsFrame ++ be 1 c.sChip ++ be 1 0 ++ be 2 c.cells.length ++ be 4 0

def State.accept (s : State) (c : Commit) : State :=
  if c.implied then s else s.answerAt c.since c.head 0x14 Code.ok (acceptedBody c)

/-- Refuse a COMMIT that waits: its items stay pending. -/
def State.refuseCommit (s : State) (c : Commit) (code : Nat) : State :=
  let s := (s.dropCommit c.num).complete c.principal c.cseq
  let items := s.route.items.map fun (it : PItem) => if it.takenBy = some c.num then { it with takenBy := none } else it
  let s := { s with route := { s.route with items := items } }
  if c.implied then s else s.answerAt c.since c.head 0x14 code []

/-- The hits of a commit: connections in the map before and after with a cell on their path that changes (R64). -/
def State.hitsOf (s : State) (old new : List Conn) (cells : List (Nat × Nat)) : List Conn :=
  let changed := cells.map (·.1)
  new.filter fun c => old.any fun o => samePair c o &&
    ((Conn.cells s.fabric.n c).any (fun x => decide (x ∈ changed)) ||
      (Conn.cells s.fabric.n o).any fun x => decide (x ∈ changed))

/-- Tell the device's ring ports a token message (R98). -/
def State.sendToken (s : State) (kind p number frame : Nat) : State :=
  { s with com := { s.com with ringSent := s.com.ringSent ++ [(kind, p, number, frame)] } }

def State.chainPos (s : State) : Nat := s.rd R.BT_STATUS_CHAIN_POS

/-- The number of open tokens shows in AP_TOKEN_STATUS. -/
def State.showTokens (s : State) : State := s.wr R.AP_TOKEN_STATUS_OPEN s.com.tokens.length

/-- GO at a participant: if it arrives before boundary F − 1 the commit is fixed for F and accepted; a later GO is as none
(R99). -/
def State.goArrives (s : State) (p number f : Nat) : State :=
  match s.com.tokens.find? fun k => k.principal == p && k.number == number with
  | none => s
  | some k =>
    if s.clk.frame + 1 < f then
      let s := { s with com := { s.com with tokens := s.com.tokens.filter fun x => !(x.principal == p && x.number == number) } }
      let s := s.showTokens.updCommit k.commit fun c => { c with phase := .fixed, sFrame := f, sChip := 0, bsFrame := f }
      match s.com.commits.find? (·.num == k.commit) with
      | some c => s.accept c
      | none => s
    else s

/-- ABANDON at a participant: the COMMIT is refused with COMMIT_LATE (R98). -/
def State.abandonArrives (s : State) (p number : Nat) : State :=
  match s.com.tokens.find? fun k => k.principal == p && k.number == number with
  | none => s
  | some k =>
    let s := { s with com := { s.com with tokens := s.com.tokens.filter fun x => !(x.principal == p && x.number == number) } }
    match s.com.commits.find? (·.num == k.commit) with
    | some c => s.showTokens.refuseCommit c Code.commitLate
    | none => s.showTokens

/-- The frame the master chooses: at least 2,048 FCLK after the last READY before F − 1, no earlier than any participant's
earliest frame, in every slot, and the named frame where one is named; none means ABANDON (R98). Slots repeat every 16
frames, so 16 candidates decide. -/
def chooseFrame (l : List Ready) : Option Nat :=
  let last := maxOf (l.map fun r => r.arrFrame * fclkPerFrame + r.arrFclk)
  let low := max (divUp (last + 2048) fclkPerFrame + 1) (maxOf (l.map (·.earliest)))
  let fits (f : Nat) : Bool := low ≤ f && l.all fun r => (r.slot ≥ 16 || f % 16 == r.slot) && (r.named == 0 || r.named == f)
  match (l.map (·.named)).filter (· != 0) with
  | f :: _ => if fits f then some f else none
  | [] => ((List.range 16).map (low + ·)).find? fits

/-- The master, once it holds READY from every device of the mask, sends GO or ABANDON on both ports and acts on it itself
(R98). -/
def State.masterDecides (s : State) (p number : Nat) : State :=
  let mine := s.com.readies.filter fun r => r.principal == p && r.number == number
  match mine with
  | [] => s
  | r :: _ =>
    if s.chainPos = 0 ∧ (onesBelow 16 r.mask).all fun c => mine.any (·.pos == c) then
      let s := { s with com := { s.com with readies := s.com.readies.filter fun r => !(r.principal == p && r.number == number) } }
      match chooseFrame mine with
      | some f => (s.sendToken 1 p number f).goArrives p number f
      | none => (s.sendToken 2 p number 0).abandonArrives p number
    else s

/-- READY at the master is stored; any other device passes it on (R98). -/
def State.readyArrives (s : State) (r : Ready) : State :=
  if s.chainPos ≠ 0 then s
  else if s.com.readies.any fun x => x.principal == r.principal && x.number == r.number && x.pos == r.pos then s
  else ({ s with com := { s.com with readies := s.com.readies ++ [r] } }).masterDecides r.principal r.number

/-- A commit whose set is fixed at instant t: items, cells, connections, set-points and projection are settled; a FABRIC commit
sends READY and waits for GO; any other is accepted (R78, R81, R98). -/
def State.fixCommit (s : State) (c : Commit) (t : Nat) (tgt : Nat × Nat × Nat) (items : List PItem) : State :=
  let old := s.baseMap
  let new := items.foldl applyItemMap old
  let (made, removed, moved) := mapDiff old new
  let cells := s.cellsToSwitch items
  let sp := s.setpointsOf cells made removed
  let (dp, costs) := s.projection sp
  let s := s.over (s.charges c.principal costs) State.charge
  let c' : Commit := { c with
    phase := if c.token.isSome then .waitGo else .fixed, fixedAt := t, sFrame := tgt.1, sChip := tgt.2.1, bsFrame := tgt.2.2,
    cells := cells, made := made, moved := moved, removed := removed, hits := s.hitsOf old new cells, setpoints := sp, dp := dp }
  let held := s.route.items.map fun (it : PItem) => if s.takes c it then { it with takenBy := some c.num } else it
  let s := { s with route := { s.route with items := held } }
  let s := s.updCommit c.num fun _ => c'
  match c.token with
  | none => s.accept c'
  | some (number, mask) =>
    let slot := if s.isMode .sealed && isTenancy c.principal then c.principal else 16
    let s : State := { s with com := { s.com with tokens := s.com.tokens ++ [(⟨c.principal, number, mask, c.num, s.clk.frame⟩ : Token)] } }
    let s := (s.showTokens).sendToken 0 c.principal number (if c.kind = 1 then c.frame else 0)
    if s.chainPos = 0 then
      s.readyArrives ⟨c.principal, number, mask, 0, if c.kind = 1 then c.frame else 0, tgt.1, slot, s.clk.frame,
        t - s.clk.frame * fclkPerFrame⟩
    else s

/-- The instant at which a commit set is fixed: the admission point, or the last posting of its items (R78). -/
def State.fixInstant (s : State) (items : List PItem) : Nat := max s.fclk (maxOf (items.map (·.posted)))

/-- Is a commit kept back by a reservation: an earlier commit that has waited 16 frames or more for one of its buckets
(R283)? -/
def State.reserved (s : State) (earlier : List (Commit × List Nat)) (waits : List Nat) : Bool :=
  earlier.any fun x => x.1.since + 16 * 64 ≤ s.now && x.2.any fun b => decide (b ∈ waits)

/-- Try one waiting commit; returns the buckets it waits on where it still waits (R282, R283). -/
def State.tryFix (s : State) (earlier : List (Commit × List Nat)) (c : Commit) : State × Option (List Nat) :=
  let items := s.route.items.filter (s.takes c)
  if !s.allPosted c || s.rearrangementBlocks c items then (s, some [])
  else
    let t := s.fixInstant items
    match s.target c t with
    | none => (s.refuseCommit c Code.commitLate, none)
    | some tgt =>
      let old := s.baseMap
      let (made, removed, _) := mapDiff old (items.foldl applyItemMap old)
      let (_, costs) := s.projection (s.setpointsOf (s.cellsToSwitch items) made removed)
      let waits := s.waitsOn c.principal (s.charges c.principal costs)
      if waits.all (fun b => decide (0 ≤ s.rdS (R.SCH_TH_TOKENS_TOKENS b))) && !s.reserved earlier waits then
        (s.fixCommit c t tgt items, none)
      else (s, some waits)

/-- The commits not yet fixed in the order of R283: point of the COMMIT, principal, sequence number. -/
def State.unfixed (s : State) : List Commit :=
  sortBy (fun c => (c.since * 32 + c.principal) * 2 ^ 48 + c.cseq) (s.com.commits.filter fun c => decide (c.phase = .unfixed))

/-- Try every waiting commit; then show who waits: WAITING and RESERVED_BY of each bucket, TH_WAITING. -/
def State.tryAll (s : State) : State :=
  let r := s.unfixed.foldl (fun (acc : State × List (Commit × List Nat)) c =>
    match acc.1.tryFix acc.2 c with
    | (s, none) => (s, acc.2)
    | (s, some w) => (s, acc.2 ++ [(c, w)])) (s, [])
  let s := r.1
  let waits := r.2.filter fun x => !x.2.isEmpty
  let s := s.wr R.SCH_STATUS_TH_WAITING waits.length
  s.over (List.range 97) fun s b =>
    let w := waits.filter fun x => decide (b ∈ x.2)
    (s.wr (R.SCH_TH_STAT_WAITING b) (b01 !w.isEmpty)).wr (R.SCH_TH_STAT_RESERVED_BY b)
      (b01 (w.any fun x => x.1.since + 16 * 64 ≤ s.now))

/-! ### Alignment moves of the owner's COMMIT (R63) -/

/-- The moves that place a pending tenancy's connections within its exclusive cells and hold its held cells at bar, or the
block. Its held cells, and those placed by the same COMMIT for other tenancies, are treated as held and at bar during the routing. -/
def State.alignMoves (s : State) (a : Alignment) (placed : List Nat) : Except Block PItem :=
  let n := s.fabric.n
  let held := (List.range s.fabric.cellCount).filter (heldCell n a.k a.m)
  let stuck := held.filter fun c => s.cellFailed c &&
    !(s.stateKnown c && !(s.recordOf c).primerCross)
  if !stuck.isEmpty then
    let phys := s.physOf stuck
    .error ⟨3, phys.foldl min (phys.headD 0)⟩
  else
    let f := { s.conf with held := held ++ placed }
    match s.fullRoute f 30 with
    | .error b => .error b
    | .ok g =>
      let r : RouteReq := ⟨30, 0, 0, .fence, [], false, false, false, s.now⟩
      let it := itemBetween r s.conf g [] []
      .ok { it with sets := dedup (it.sets ++ held.map (·, 0)), held := held }

/-- The alignment moves of every pending tenancy, added to the owner's set as an item of its own; a tenancy without moves stays
pending and its block is recorded (R63). -/
def State.addAlignment (s : State) (cseq : Nat) : State × List Nat :=
  (s.route.aligned.filter (·.pending)).foldl (fun (acc : State × List Nat) a =>
    let s := acc.1
    let placed := (s.route.aligned.filter fun b => decide (b.tenancy ∈ acc.2)).flatMap fun b =>
      (List.range s.fabric.cellCount).filter (heldCell s.fabric.n b.k b.m)
    match s.alignMoves a placed with
    | .ok it =>
      ({ s with route := { s.route with items := s.route.items ++ [{ it with principal := 30, cseq := cseq, posted := s.fclk }] } },
        acc.2 ++ [a.tenancy])
    | .error b => (s.recordBlock 30 b, acc.2)) (s, [])

/-! ### A COMMIT takes effect -/

/-- Begin a commit: it is numbered and waits to be fixed. The owner's takes the alignment moves with it (R63). -/
def State.beginCommit (s : State) (c : Commit) : State :=
  let (s, aligns) := if c.principal = 30 then s.addAlignment c.cseq else (s, [])
  let num := s.com.nextNum
  { s with com := { s.com with nextNum := num + 1, commits := s.com.commits ++ [{ c with num := num, aligns := aligns }] } }

/-- A COMMIT command: refused, or waiting to be fixed. -/
def State.cmdCommit (s : State) (h : CmdHead) (kind chip token mask frame : Nat) : State :=
  let fabric := h.flags.testBit 3
  let code := s.commitRefusal h.principal kind chip token mask frame fabric
  if code = Code.ok then
    s.beginCommit {
      num := 0, principal := h.principal, cseq := h.cseq, opcode := 0x14, phase := .unfixed, kind := kind, chip := chip,
      frame := frame, all := h.flags.testBit 4, token := if fabric then some (token, mask) else none, since := s.now }
  else (s.answer h 0x14 code).complete h.principal h.cseq

/-- The implied COMMIT of a route command with the COMMIT flag, begun at its posting (target ASAP). -/
def State.impliedCommit (s : State) (r : RouteReq) : State :=
  s.beginCommit {
    num := 0, principal := r.principal, cseq := r.cseq, opcode := opcodeOf r.cmd, phase := .unfixed, kind := 0, chip := 0,
    frame := 0, since := s.now, implied := true }

/-! ### Switching (R75, R81 to R90) -/

/-- The physical driver of a cell, unless it is THERMAL_ONLY. -/
def State.driverOf (s : State) (c : Nat) : Option Nat :=
  let r := s.recordOf c
  if r.thermalOnly ∨ r.phys = 0xFFFF then none else some r.phys

/-- Show a selection on the driver of a physical cell. -/
def State.select (s : State) (phys st : Nat) : State := s.wr (R.TL_FD_CFG_SEL (phys / 128) (phys % 128)) st

/-- The end E of the commit's effects rounded up to a boundary: S + 8,192 FCLK, trimmed or not (R88). -/
def Commit.eFrame (c : Commit) : Nat := c.sFrame + 1 + (if c.sChip = 0 then 0 else 1)

/-- The last boundary whose input set is blanked for the affected contexts: max(B_s, E) (R88). -/
def Commit.lastBlank (c : Commit) : Nat := max c.bsFrame c.eFrame

/-- The four contexts of each cell. -/
def State.contextsOf (s : State) (cells : List Nat) : List Nat :=
  cells.flatMap fun k =>
    let r := s.recordOf k
    if r.ctx = 0xFFFF then [] else (List.range 4).map (r.ctx + ·)

/-- The affected contexts of a commit (R88). -/
def State.affected (s : State) (c : Commit) : List Nat :=
  dedup (s.contextsOf (c.cells.map (·.1)) ++
    (c.made ++ c.removed ++ c.moved).flatMap fun k => [(s.fabric.port k.out).outCtx, (s.fabric.port k.inp).inCtx])

/-- Do the rows of Express permit one more context in a tile and in the device (R170)? `engaged` counts them. -/
def mayEngage (perTile total : Nat) : Bool := perTile < 32 && total < 1024

/-- A CLASS = 1 context that is ACTIVE or in HOLD counts as Express (R170). -/
def State.isExpressClass (s : State) (n : Nat) : Bool :=
  let p := s.active
  s.rdP p (R.CTX_CTL_CLASS n) == 1 && (s.ctxState p n == stActive || s.ctxState p n == stHold)

/-- The contexts that trim now: the waking level contexts of the commits in their sixteen chips (R89). -/
def State.trimming (s : State) : List Nat := s.com.commits.flatMap fun c =>
  if decide (c.phase = .switched) && s.clk.frame * 16 < c.sChips + 16 then c.trimmed else []

/-- Engage trimming in ascending physical cell order until a limit is reached; the rest is untrimmed (R89). -/
def State.engage (s : State) (cells : List (Nat × Nat)) : List Nat × Nat :=
  let cand := sortBy (fun x : Nat × Nat => (s.recordOf x.1).phys) (cells.filter fun x => (s.driverOf x.1).isSome)
  let running := (s.listedCtx s.active).filter s.isExpressClass ++ s.trimming
  let r := cand.foldl (fun (acc : List Nat × Nat) x =>
    let n := (s.recordOf x.1).ctx + 1 + x.2
    let now := running ++ acc.1
    if mayEngage (now.filter fun m => m / 512 == n / 512).length now.length then (acc.1 ++ [n], acc.2)
    else (acc.1, acc.2 + 1)) ([], 0)
  r

/-- The moves of a commit reach the items of other principals that still add the moved connection. -/
def followMoves (moves : List Conn) (it : PItem) : PItem :=
  { it with adds := it.adds.map fun a => match moves.find? (samePair a) with
      | some m => { a with path := m.path }
      | none => a }

/-- The remaps that await a commit and change the record in force (R48). -/
def State.remapsDue (s : State) : List (Nat × Bool) :=
  s.route.remapPending.filter fun x => x.2 != decide (x.1 ∈ s.route.remapped)

/-- Remaps that await a commit come into force with commit `num`; the primary physical cell leaves its logical cell (R48). -/
def State.applyRemaps (s : State) (num : Nat) : State :=
  let due := s.remapsDue
  let s := s.updCommit num fun c => { c with remaps := c.remaps ++ due }
  let r := s.route
  { s with route := { r with
      remapped := r.remapPending.foldl (fun l x => if x.2 then (if x.1 ∈ l then l else l ++ [x.1]) else l.filter (· != x.1))
        r.remapped,
      remapPending := [] } }

/-- The switch of one commit at S: selections, the committed map and cells, trimming, registers (R75, R82, R89). `late` are
tiles whose selection words were incomplete: they switch at the next chip or frame boundary (R85). -/
def State.switchCommit (s : State) (late : List Nat) (c : Commit) : State :=
  let items := s.itemsOf c.num
  let old := s.route.committed
  let new := sortBy (·.inp) (items.foldl applyItemMap old)
  let lateTiles := dedup ((c.cells.map fun x => (s.recordOf x.1).phys / 128).filter fun t => decide (t ∈ late))
  let s := s.over c.cells fun s x => match s.driverOf x.1 with
    | some phys => if phys / 128 ∈ late then s else s.select phys x.2
    | none => s
  let moves := items.flatMap (·.moves)
  let s := { s with route := { s.route with
      committed := new, crossed := applySets s.route.crossed c.cells,
      items := (s.route.items.filter fun (it : PItem) => it.takenBy != some c.num).map (followMoves moves) } }
  let (trim, un) := if s.isMode .swift then s.engage c.cells else ([], 0)
  let s := s.updCommit c.num fun c => { c with
    phase := .switched, late := lateTiles, trimmed := trim, untrimmed := un, hits := s.hitsOf old new c.cells }
  let s := s.applyRemaps c.num
  let remaps := match s.com.commits.find? (·.num == c.num) with | some c => c.remaps | none => []
  let s := s.over remaps fun s x => match s.driverOf x.1 with
    | some phys => if phys / 128 ∈ late then s else s.select phys (b01 (decide (x.1 ∈ s.route.crossed)))
    | none => s
  let blank := (dedup (s.affected c ++ s.contextsOf (remaps.map (·.1)))).map fun n => (n, c.sChips, c.lastBlank)
  let s := { s with loop := { s.loop with blank := s.loop.blank ++ blank } }
  let s := s.wrB R.CM_LAST_LO_FRAME c.sFrame
  let s := s.wrB R.CM_LAST_HI_FRAME (c.sFrame / 2 ^ 32)
  let s := s.wrB R.CM_STATUS_LAST_CHIP c.sChip
  let s := s.wrB R.CM_STATUS_LAST_SWITCHED c.cells.length
  let s := s.bumpB R.CM_EVENTS_LATE lateTiles.length
  let s := s.bumpB R.CM_EVENTS_TRIM_SKIPPED un
  s.wr R.LP_EXPRESS_TRIMMING (s.rd R.LP_EXPRESS_TRIMMING + trim.length)

/-- The owner's commit that carries the alignment moves makes its pending tenancies aligned, if the moves were found
(R63). -/
def State.alignCommit (s : State) (num : Nat) : State :=
  match s.com.commits.find? (·.num == num) with
  | some c =>
    if c.principal = 30 then
      { s with route := { s.route with aligned := s.route.aligned.map fun a =>
          if a.pending && c.aligns.contains a.tenancy then { a with pending := false } else a } }
    else s
  | none => s

/-! ### Notices and settling (R65, R94 to R96) -/

/-- CM_CTRL with its ranges: SETTLE_TOL 2 to 10, REARRANGE_HOLD 1 to 255, SETTLE_WIN 1 to 8. -/
def State.settleTol (s : State) : Nat := max 2 (min 10 (s.rdP s.active R.CM_CTRL_SETTLE_TOL))
def State.rearrangeHold (s : State) : Nat := max 1 (s.rdP s.active R.CM_CTRL_REARRANGE_HOLD)
def State.settleWin (s : State) : Nat := max 1 (min 8 (s.rdP s.active R.CM_CTRL_SETTLE_WIN))

/-- The settle index of a window of samples: the smallest index from which every sample lies within the final level ± (level
>> tol); the final level is the mean of the last 16 samples (R94). -/
def settleIndex (tol : Nat) (samples : List Nat) : Nat :=
  let level := sumOf (samples.drop (samples.length - 16)) / 16
  let band := level / 2 ^ tol
  let bad (x : Nat) : Bool := level + band < x || x + band < level
  (samples.foldl (fun (acc : Nat × Nat) x => (acc.1 + 1, if bad x then acc.1 + 1 else acc.2)) (0, 0)).2

/-- The output ports whose connection the commit makes, moves or hits (R94). -/
def Commit.settlePorts (c : Commit) : List Nat := dedup ((c.made ++ c.moved ++ c.hits).map (·.out))

/-- The boundary at which the settle allowance ends (R95). -/
def Commit.allowanceEnd (c : Commit) (win : Nat) : Nat :=
  if c.unsettled.isEmpty then
    divUp (max (c.sChips * 512 + c.settleMax * 64) (c.eFrame * fclkPerFrame)) fclkPerFrame + 1
  else divUp (c.sChips * 512 + win * fclkPerFrame) fclkPerFrame + 1

/-- One entry of COMMIT_DONE: OUT, REFERENCE, FLAGS (R258). -/
def doneEntry (x : Nat × Nat × Nat) : List Nat := be 2 x.1 ++ be 4 x.2.1 ++ be 2 x.2.2

/-- COMMIT_DONE in parts of at most 128 entries (R96). LAST is 1 on the last part (log entry 21). -/
def State.commitDoneNotice (s : State) (c : Commit) : State :=
  let mine (o : Nat) : Bool :=
    let pd := (s.fabric.port o).outPd
    !isTenancy c.principal || s.whollyOwn c.principal (pd / 32) (pd % 32)
  let entries := (c.made ++ c.moved).map fun k =>
    let pd := (s.fabric.port k.out).outPd
    let ref := (((c.references.find? (·.1 == k.out)).map (·.2)).getD 0)
    (k.out, unsigned 32 ref,
      b01 (!mine k.out) + 2 * b01 (mine k.out && decide (pd ∈ c.unsettled)) + 4 * b01 (c.moved.any (samePair k)))
  let parts := if entries.isEmpty then [[]] else chunks 128 entries.length entries
  let seen := c.settle.filter fun x => c.settlePorts.any fun o => (s.fabric.port o).outPd == x.1 && mine o
  let settleMax := maxOf (seen.map (·.2))
  let uns := (c.unsettled.filter fun pd => seen.any (·.1 == pd)).length
  (parts.zipIdx).foldl (fun s x =>
    s.notice c.principal 0x81 Code.ok c.cseq
      (be 8 c.sFrame ++ be 8 c.bsFrame ++ be 1 c.sChip ++ be 1 x.2 ++ be 1 (b01 (x.2 + 1 == parts.length)) ++ be 1 0 ++
        be 2 c.cells.length ++ be 2 c.late.length ++ be 2 c.untrimmed ++ be 2 uns ++ be 2 settleMax ++
        be 2 x.1.length ++ x.1.flatMap doneEntry)) s

/-- REARRANGE notices of a commit, at the boundary after it (R65): one to the owner of each hit connection. -/
def State.rearrangeNotices (s : State) (c : Commit) : State :=
  let s := s.bumpB R.RT_EVENTS_HITS c.hits.length
  s.over c.hits fun s k =>
    let own := b01 (k.owner == c.principal)
    let body := be 2 k.inp ++ be 2 k.out ++ be 8 c.sFrame ++ be 1 c.sChip ++ be 1 own ++ be 2 0 ++
      be 8 (c.allowanceEnd s.settleWin)
    s.notice k.owner 0x82 Code.ok 0 body

/-! ### ABORT (R77) -/

/-- STAGE_DROPPED for the item: one notice for each of its connections or settings. -/
def State.dropNotice (s : State) (it : PItem) (status : Nat) : State :=
  let names := (it.adds.map fun c => (c.inp, c.out)) ++ it.removes ++ (if it.adds.isEmpty then it.sets else [])
  s.over names fun s x => s.notice it.principal 0x84 status it.cseq (be 2 x.1 ++ be 2 x.2)

/-- Reroute the remaining pending items in posting order with every committed connection on its committed path; what finds no
path is removed and notified (R77). -/
def State.rerouteItems (s : State) : State :=
  let todo := s.route.items
  let s := { s with route := { s.route with items := todo.filter fun it => it.takenBy.isSome } }
  let s := s.over (todo.filter fun it => it.takenBy.isNone) fun s it =>
    if it.adds.isEmpty then { s with route := { s.route with items := s.route.items ++ [{ it with moves := [] }] } }
    else
      let f := s.conf
      let f := { f with conns := f.conns.filter fun c => !it.removes.any fun r => r.1 == c.inp && r.2 == c.out }
      match s.routeEntries it.principal f (it.adds.map fun c => (c.inp, c.out)) with
      | some g =>
        let r : RouteReq := ⟨it.principal, it.cseq, 0, .fence, [], false, false, false, s.now⟩
        let new := itemBetween r f g it.removes (it.adds.map fun c => (c.inp, c.out))
        { s with route := { s.route with items := s.route.items ++ [{ new with posted := it.posted }] } }
      | none => s.dropNotice it Code.stageDropped
  { s with route := { s.route with freeAt := max s.route.freeAt (s.now + 13) } }

/-- Remove pending items; if a pending rearrangement was among them, the rest is rerouted (R77). -/
def State.removeItems (s : State) (gone : PItem → Bool) : State :=
  let had := s.route.items.any fun it => gone it && it.rearranges
  let s := { s with route := { s.route with items := s.route.items.filter fun it => !gone it } }
  if had then s.rerouteItems else s

/-- REARRANGE_EXPIRED (R76): pending rearrangements that no commit has taken within REARRANGE_HOLD frames of their posting are removed. -/
def State.rearrangeExpire (s : State) : State :=
  let due := s.route.items.filter fun it =>
    it.rearranges && it.takenBy.isNone && decide (it.posted + s.rearrangeHold * fclkPerFrame ≤ s.fclk)
  if due.isEmpty then s
  else (s.over due fun s it => s.dropNotice it Code.rearrangeExpired).removeItems fun it => decide (it ∈ due)

/-- The close of a fixed commit (R78). -/
def Commit.closeInstant (c : Commit) : Nat :=
  if c.sChip = 0 ∧ c.bsFrame = c.sFrame then (c.sFrame - 1) * fclkPerFrame
  else c.sFrame * fclkPerFrame + 512 * c.sChip - 128

/-- Cancel a fixed commit: its items are discarded and it ends (R77). -/
def State.cancelCommit (s : State) (c : Commit) : State :=
  let s := { s with com := { s.com with tokens := s.com.tokens.filter fun k => k.commit != c.num } }
  ((s.showTokens.removeItems fun it => it.takenBy == some c.num).dropCommit c.num).complete c.principal c.cseq

/-- ABORT: refused when it names a commit whose close has passed; otherwise p's pending items go, and with CANCEL its fixed
commits whose close has not passed (R77). -/
def State.cmdAbort (s : State) (h : CmdHead) (sFrame sChip : Nat) : State :=
  let named := s.com.commits.find? fun c => c.principal == h.principal && c.sFrame == sFrame && c.sChip == sChip && c.phase != .unfixed
  let past := sFrame != 0 && (match named with
    | some c => decide (c.closeInstant < s.fclk)
    | none => decide ((sFrame - 1) * fclkPerFrame < s.fclk))
  if past then (s.answer h 0x15 Code.abortTooLate).complete h.principal h.cseq
  else
    let s := if h.flags.testBit 4 then
        s.over (s.com.commits.filter fun c => c.principal == h.principal && c.waiting && s.fclk ≤ c.closeInstant)
          State.cancelCommit
      else s
    let s := s.removeItems fun it => it.principal == h.principal && it.takenBy.isNone
    (s.answer h 0x15 Code.ok).complete h.principal h.cseq

/-! ### A port or a tenancy goes (R322) -/

/-- Remove the pending items and unswitched commits of principal p that a predicate on connections names, with notices, as by
ABORT with CANCEL (R322). -/
def State.dropFor (s : State) (p : Nat) (hit : PItem → Bool) : State :=
  let gone (it : PItem) : Bool := it.principal == p && hit it
  let items := s.route.items.filter gone
  let s := s.over (s.com.commits.filter fun c => c.principal == p && c.waiting && items.any fun it => it.takenBy == some c.num)
    fun s c => ((s.over (s.itemsOf c.num) fun s it => s.dropNotice it Code.stageDropped)).cancelCommit c
  let rest := s.route.items.filter gone
  (s.over rest fun s it => s.dropNotice it Code.stageDropped).removeItems gone

end Sys2Proof.Machine
end

