-- ==== Sys2Proof/Machine/Dither.lean ====
section
/-! DEFINITION. Machine/Dither.lean: code-division dither (chapter 5): the code store, amplitudes, the binding of slots, partial
sums, correlation and energy words with their flags. -/

namespace Sys2Proof.Machine

open Sys2Proof

/-! ### The code store (R130 to R132) -/

/-- Parity of the set bits of a number below 32. -/
def oddOnes (x : Nat) : Bool :=
  ((x.testBit 0 != x.testBit 1) != (x.testBit 2 != x.testBit 3)) != x.testBit 4

/-- w_c(k) = (−1)^popcount(c AND k). -/
def walsh (c k : Nat) : Int := if oddOnes (c &&& k) then -1 else 1

/-- The code length is 32 in EXACT and 16 otherwise. -/
def State.longCode (s : State) : Bool := s.isMode .exact

/-- Frames per code period of the electro-optic and of the thermal path. -/
def periodFrames (thermal long : Bool) : Nat := if thermal then (if long then 16 else 8) else if long then 2 else 1

/-- The code chip index at chip `chip` of frame f. -/
def codeChip (thermal long : Bool) (f chip : Nat) : Nat :=
  if thermal then 2 * (f % periodFrames true long) + chip / 8
  else if long then 16 * (f % 2) + chip else chip

/-- The correlator's reference for sample n of frame f (R131, R132). -/
def reference (thermal long : Bool) (c f n : Nat) : Int :=
  let w := walsh c (codeChip thermal long f (n / 8))
  if thermal || n % 8 < 4 then w else -w

/-- The sign of the electro-optic dither in half-chip h of frame f (R131). -/
def eoSign (long : Bool) (c f h : Nat) : Int :=
  let w := walsh c (codeChip false long f (h / 2))
  if h % 2 = 0 then w else -w

/-- The sign of the impressed thermal code at sample n of frame f: it leads the reference by `lead` samples (R132). -/
def thermalSign (long : Bool) (c lead f n : Nat) : Int :=
  if n + lead < 128 then reference true long c f (n + lead) else reference true long c (f + 1) (n + lead - 128)

/-- The code a thermal-path context uses: at length 32 its code plus 16 where it is 8 to 15 (R132). -/
def thermalCode (long : Bool) (c : Nat) : Nat := if long && 8 ≤ c && c ≤ 15 then c + 16 else c

/-! ### Contexts' words -/

/-- A field of context n in the active plane's copy, and its signed value. -/
def State.cx (s : State) (f : Nat → FieldAt) (n : Nat) : Nat := s.rdP s.active (f n)
def State.cxS (s : State) (f : Nat → FieldAt) (n : Nat) : Int := s.rdPS s.active (f n)

/-- Write a field of context n in both planes' copies. -/
def State.setCx (s : State) (f : Nat → FieldAt) (n v : Nat) : State := s.wrB (f n) v

def State.thermalPath (s : State) (n : Nat) : Bool := s.cx R.CTX_CTL_DITHER_PATH n == 3
def State.extremum (s : State) (n : Nat) : Bool := s.cx R.CTX_CTL_FB_KIND n == 2 || s.cx R.CTX_CTL_FB_KIND n == 3
def State.stateOf (s : State) (n : Nat) : Nat := s.cx R.CTX_OUT_STATE n

/-- ACTIVE or in HOLD. -/
def State.live (s : State) (n : Nat) : Bool := s.stateOf n == stActive || s.stateOf n == stHold

/-- The slot a context names: its lending slot while LEND_EN is 1, its home slot otherwise (R138, R139). -/
def State.namedSlot (s : State) (n : Nat) : Nat :=
  let c := if s.cx R.CTX_BIND_LEND_EN n = 1 then s.cx R.CTX_BIND_LEND_CODE n else s.cx R.CTX_BIND_HOME_CODE n
  32 * s.cx R.CTX_BIND_PD n + (if s.thermalPath n then thermalCode s.longCode c else c)

/-- Its home slot at the code length in force. -/
def State.homeSlot (s : State) (n : Nat) : Nat :=
  let c := s.cx R.CTX_BIND_HOME_CODE n
  32 * s.cx R.CTX_BIND_PD n + (if s.thermalPath n then thermalCode s.longCode c else c)

def State.slotHist (s : State) (tile slot : Nat) : Option SlotHist :=
  s.dith.slots.find? fun h => h.tile == tile && h.slot == slot

/-- The slot bound to context n. -/
def State.slotOf (s : State) (n : Nat) : Option SlotHist := s.dith.slots.find? (·.ctx == n)

/-- A context that names a lending slot it has not bound is waiting (R139). -/
def State.slotWaits (s : State) (n : Nat) : Bool :=
  s.cx R.CTX_BIND_LEND_EN n == 1 && s.live n && (s.slotOf n).isNone

/-! ### Amplitudes (R135) -/

/-- A field value one step down at throttle level 2 and above. -/
def stepDown (level v : Nat) : Nat := if 2 ≤ level then v - 1 else v

/-- EO_AMP_NOW and TH_AMP_NOW of a tile: 6 and 7 act as 5, 13 to 15 as 12. -/
def State.eoAmpNow (s : State) (t : Nat) : Nat := stepDown s.throttle (min 5 (s.rd (R.TL_DITHER_EO_AMP t)))
def State.thAmpNow (s : State) (t : Nat) : Nat := stepDown s.throttle (min 12 (s.rd (R.TL_DITHER_TH_AMP_LOG2 t)))

/-- What TL_DITHER shows. -/
def State.ditherView (s : State) (t : Nat) : Nat :=
  let w := putBits (s.word (A.TL_DITHER t)) 31 28 (s.thAmpNow t)
  putBits w 10 8 (s.eoAmpNow t)

/-- EO_AMP and TH_AMP_LOG2 that a mode loads. -/
def modeAmps : Mode → Nat × Nat
  | .exact => (3, 9)
  | .quiet => (0, 6)
  | _ => (2, 8)

def State.loadAmps (s : State) (m : Mode) : State :=
  s.over (List.range 80) fun s t => (s.wr (R.TL_DITHER_EO_AMP t) (modeAmps m).1).wr (R.TL_DITHER_TH_AMP_LOG2 t) (modeAmps m).2

/-! ### Windows (R142) -/

/-- log2 of W. A context with no dither path takes the electro-optic column (log entry 30). -/
def windowLog (m : Mode) (thermal extremum : Bool) : Nat :=
  match m, thermal, extremum with
  | .exact, false, false => 1 | .exact, false, true => 2 | .exact, true, false => 4 | .exact, true, true => 5
  | .quiet, false, _ => 3 | .quiet, true, false => 3 | .quiet, true, true => 4
  | _, false, false => 0 | _, false, true => 1 | _, true, false => 3 | _, true, true => 4

def State.window (s : State) (n : Nat) : Nat := 2 ^ windowLog s.mode (s.thermalPath n) (s.extremum n)

/-- What TL_CORR_CFG shows: all fields follow the mode. -/
def State.corrCfgView (s : State) : Nat :=
  b01 s.longCode * 2 ^ 31 + windowLog s.mode true true * 2 ^ 12 + windowLog s.mode true false * 2 ^ 9 +
    windowLog s.mode false true * 2 ^ 6 + windowLog s.mode false false * 2 ^ 3

/-- The settings whose change clears a slot's history (R145). -/
def State.slotKey (s : State) (n : Nat) : Nat × Nat × Nat :=
  (b01 s.longCode, s.window n, if s.thermalPath n then s.thAmpNow (n / 512) else s.eoAmpNow (n / 512))

/-! ### Binding (R139) -/

/-- Does context n occupy its home slot: live, dithering, and not on a lending slot? -/
def State.occupiesHome (s : State) (n : Nat) : Bool :=
  s.live n && s.cx R.CTX_CTL_DITHER_PATH n != 0 && s.cx R.CTX_BIND_LEND_EN n == 0 && s.cx R.CTX_CTL_CLASS n == 0

/-- A live context with no dither that still takes a word of its home slot (R133); it hinders no borrower. -/
def State.listens (s : State) (n : Nat) : Bool :=
  s.live n && s.cx R.CTX_CTL_DITHER_PATH n == 0 && s.cx R.CTX_BIND_LEND_EN n == 0 && s.cx R.CTX_CTL_CLASS n == 0 &&
    1 ≤ s.cx R.CTX_CTL_FB_KIND n && s.cx R.CTX_CTL_FB_KIND n ≤ 4

def State.setSlots (s : State) (l : List SlotHist) : State := { s with dith := { s.dith with slots := l } }

def SlotHist.isAt (h : SlotHist) (tile slot : Nat) : Bool := h.tile == tile && h.slot == slot

/-- Bind a slot to a context with an empty history. -/
def State.bind (s : State) (n slot : Nat) (lent : Bool) : State :=
  s.setSlots ((s.dith.slots.filter fun h => !h.isAt (n / 512) slot) ++ [⟨n / 512, slot, n, lent, s.slotKey n, []⟩])

/-- Release the bindings that no longer stand: a context that is not live, or names another slot. -/
def State.unbind (s : State) : State :=
  s.setSlots (s.dith.slots.filter fun h =>
    s.live h.ctx && s.namedSlot h.ctx == h.slot && s.cx R.CTX_CTL_CLASS h.ctx == 0)

/-- A home context reclaims its slot: the borrower goes to HOLD with cause SLOT_RECLAIMED and impresses nothing (R139). A
borrower already in HOLD keeps its cause (R155). -/
def State.reclaim (s : State) (borrower : Nat) : State :=
  if s.stateOf borrower = stActive then
    (s.setCx R.CTX_OUT_STATE borrower stHold).setCx R.CTX_OUT_CAUSE borrower causeReclaimed
  else s

/-- The slots at a boundary: home contexts first, then borrowers in ascending context order, then listeners. -/
def State.bindSlots (s : State) : State :=
  let s := s.unbind
  let ctxs := s.listedCtx s.active
  let s := s.over (ctxs.filter s.occupiesHome) fun s n =>
    match s.slotHist (n / 512) (s.homeSlot n) with
    | some h => if h.ctx = n then s else (s.when h.lent (·.reclaim h.ctx)).bind n (s.homeSlot n) false
    | none => s.bind n (s.homeSlot n) false
  let s := s.over (ctxs.filter fun n => s.cx R.CTX_BIND_LEND_EN n == 1 && s.live n) fun s n =>
    if (s.slotOf n).isSome then s
    else
      let slot := s.namedSlot n
      let taken := match s.slotHist (n / 512) slot with
        | some h => h.lent || s.occupiesHome h.ctx
        | none => false
      if taken then (if s.stateOf n = stHold then s else s.setCx R.CTX_OUT_CAUSE n causeSlotWait)
      else
        let s := s.bind n slot true
        if s.cx R.CTX_OUT_CAUSE n = causeSlotWait then s.setCx R.CTX_OUT_CAUSE n causeNone else s
  s.over (ctxs.filter s.listens) fun s n =>
    if (s.slotHist (n / 512) (s.homeSlot n)).isSome then s else s.bind n (s.homeSlot n) false

/-- Clear the histories whose settings have changed (R145). -/
def State.clearChanged (s : State) : State :=
  s.setSlots (s.dith.slots.map fun h => if s.slotKey h.ctx = h.key then h else { h with key := s.slotKey h.ctx, sums := [] })

/-- Clear the histories of a list of contexts (R87, R145). -/
def State.clearSlots (s : State) (l : List Nat) : State :=
  s.setSlots (s.dith.slots.map fun h => if h.ctx ∈ l then { h with sums := [] } else h)

/-! ### Partial sums (R140) -/

/-- Rounded quotient, ties away from zero (R141). -/
def roundDiv (a : Int) (b : Nat) : Int :=
  let q : Nat := (2 * a.natAbs + b) / (2 * b)
  if a < 0 then -(q : Int) else q

/-- Sum of a list of integers. -/
def sumI (l : List Int) : Int := l.foldl (· + ·) 0

/-- The partial sum of a frame's sample words against a reference. -/
def frameSum (words : List Nat) (r : Nat → Int) (clip even : Bool) : FrameSum :=
  let codes := words.map wordCode
  { p := sumI (codes.zipIdx.map fun x => r x.2 * (x.1 : Int)), invalid := words.any wordInvalid, ovr := words.any wordOvr,
    clipped := clip, even := even, same := codes.all (· == codes.headD 0), code := codes.headD 0 }

/-- A photodiode with no samples held gives an INVALID frame. -/
def State.wordsOf (s : State) (d : Nat) : List Nat :=
  ((s.pdFrame d).map (·.words)).getD (List.replicate 128 (sampleWord pedestal true))

/-- The photodiodes that live GROUP contexts watch. -/
def State.groupPds (s : State) : List Nat :=
  dedup (((s.listedCtx s.active).filter fun n => s.live n && s.cx R.CTX_CTL_FB_KIND n == 5).map fun n =>
    32 * (n / 512) + s.cx R.CTX_BIND_PD n)

/-- Form the partial sums of the frame that ends (a residue mismatch makes one INVALID, R146), for every bound slot and every GROUP photodiode. -/
def State.pushSums (s : State) : State :=
  let f := s.clk.frame
  let long := s.longCode
  let slots := s.dith.slots.map fun h =>
    let th := s.thermalPath h.ctx
    let even := f / periodFrames th long % 2 == 0
    let new := frameSum (s.wordsOf (32 * h.tile + h.slot / 32)) (reference th long (h.slot % 32) f)
      (decide (h.ctx ∈ s.dith.clips)) even
    let new := { new with invalid := new.invalid || decide ((h.tile, h.slot) ∈ s.dith.residues) }
    { h with sums := (new :: h.sums).take 32 }
  let groups := s.groupPds.map fun d =>
    let old := ((s.dith.groups.find? (·.1 == d)).map (·.2)).getD []
    (d, (frameSum (s.wordsOf d) (fun _ => 1) false true :: old).take 32)
  { s with dith := { s.dith with slots := slots, groups := groups, residues := [] } }

/-! ### Words (R141 to R146) -/

/-- A feedback word with its flags and what the validity tests need. -/
structure FbWord where
  y : Int
  e : Int
  invalid : Bool
  warming : Bool
  ovr : Bool
  clipped : Bool
  constant : Bool
deriving DecidableEq, Repr

/-- Saturation to signed Q4.20. -/
def sat24 (i : Int) : Int := satSigned 24 i

/-- Multiplication by 2^n / 2^m, rounded to nearest with ties away from zero. -/
def scale2 (v : Int) (n m : Nat) : Int := roundDiv (v * (2 ^ n : Int)) (2 ^ m)

def constantWindow (l : List FrameSum) : Bool := l.all fun x => x.same && x.code == (l.map (·.code)).headD 0

/-- The correlation and energy word of a bound slot (R141, R143). -/
def State.slotWord (s : State) (h : SlotHist) : FbWord :=
  let n := h.ctx
  let w := s.window n
  let win := h.sums.take w
  let y0 := roundDiv (sumI (win.map (·.p))) w
  -- the amplitude in force against the reference amplitude: 4 mV is step 2, 256 LSB is k = 8
  let (up, down) := if s.thermalPath n then (8, s.thAmpNow (n / 512)) else (2, s.eoAmpNow (n / 512))
  let y := sat24 (scale2 y0 up down)
  let e := if s.extremum n then
      let e0 := roundDiv (sumI (win.map fun x => if x.even then x.p else -x.p)) w
      sat24 (scale2 e0 (2 * up) (2 * down))
    else sat24 y.natAbs
  { y := y, e := e, invalid := win.any (·.invalid),
    warming := decide (h.sums.length < w), ovr := win.any (·.ovr), clipped := win.any (·.clipped),
    constant := constantWindow win }

/-- TL_CORR_WORD and TL_CORR_ENERGY of the latest input set: bound slots show their words, a slot no longer bound reads
INVALID. -/
def State.showWords (s : State) (before : List SlotHist) : State :=
  let gone := before.filter fun h => (s.slotHist h.tile h.slot).isNone
  let s := s.over gone fun s h => (s.setWord (A.TL_CORR_WORD h.tile h.slot) (2 ^ 31)).setWord (A.TL_CORR_ENERGY h.tile h.slot) 0
  s.over s.dith.slots fun s h =>
    let x := s.slotWord h
    let w := b01 x.invalid * 2 ^ 31 + b01 x.warming * 2 ^ 30 + b01 x.ovr * 2 ^ 29 + b01 x.clipped * 2 ^ 28 + unsigned 24 x.y
    (s.setWord (A.TL_CORR_WORD h.tile h.slot) w).setWord (A.TL_CORR_ENERGY h.tile h.slot) (unsigned 24 x.e)

/-- TL_SLOT_USE and TL_SLOT_LENT of photodiode p of a tile. -/
def State.slotUseView (s : State) (t p : Nat) : Nat :=
  ofOnes ((s.dith.slots.filter fun h => h.tile == t && h.slot / 32 == p && s.live h.ctx).map (·.slot % 32))
def State.slotLentView (s : State) (t p : Nat) : Nat :=
  ofOnes ((s.dith.slots.filter fun h => h.tile == t && h.slot / 32 == p && h.lent).map (·.slot % 32))

/-- CORR_RESIDUE (R146): the partial sum of the running frame is INVALID, and so is every word with it in its window; the slot is recorded and the fault raised. -/
def State.corrResidue (s : State) (t slot : Nat) : State :=
  let s := (s.wr (R.TL_CORR_STATUS_RESIDUE_ERR t) 1).wr (R.TL_CORR_STATUS_RESIDUE_SLOT t) slot
  ({ s with dith := { s.dith with residues := dedup (s.dith.residues ++ [(t, slot)]) } }).raise (tileMsg t 0x15 6 slot)

/-! ### Code re-use across a mode change (R138) -/

/-- At a mode other than EXACT every live or DORMANT context with a home code of 16 or above goes to OFF, CAUSE cleared. Its
path decides nothing: a thermal home code of 8 to 15 stays below 16. -/
def State.dropExactOnly (s : State) : State :=
  s.over ((s.listedCtx s.active).filter fun n => 16 ≤ s.cx R.CTX_BIND_HOME_CODE n &&
      (s.live n || s.stateOf n == stDormant)) fun s n =>
    (s.setCx R.CTX_OUT_STATE n stOff).setCx R.CTX_OUT_CAUSE n causeNone

end Sys2Proof.Machine
end

