-- ==== Sys2Proof/Machine/Stencil.lean ====
section
/-! DEFINITION. Machine/Stencil.lean: the Stencil generators (chapter 7): starting and stopping, the thirteen instructions, the
streams, and the memory tests. An instance 0 to 15 is a generator of one plane (R194). -/

namespace Sys2Proof.Machine

open Sys2Proof

/-- Plane and number of an instance, and back. -/
def genPlane (i : Nat) : Plane := if i < 8 then .A else .B
def genInst (p : Plane) (g : Nat) : Nat := g + 8 * planeBit p

def State.gen (s : State) (i : Nat) : Gen := s.gens.getD i {}

def State.updGen (s : State) (i : Nat) (f : Gen → Gen) : State := { s with gens := modAt s.gens i f }

/-- A field of the generator's registers in its own plane. -/
def State.rdGen (s : State) (i : Nat) (f : Nat → FieldAt) : Nat := s.rdP (genPlane i) (f (i % 8))

/-- INC: 0 acts as 1, values above 2^26 as 2^26 (R183). -/
def State.genInc (s : State) (i : Nat) : Nat := max 1 (min (2 ^ 26) (s.rdGen i R.ST_RATE_INC))

/-- Is the generator fenced (R383)? -/
def State.genFenced (s : State) (i : Nat) : Bool := s.miscFenced (16 + i)

/-! ### Starting and stopping (R184, R185) -/

/-- A generator stops with a cause and keeps its last sample. -/
def State.stopGen (s : State) (i cause : Nat) : State := s.updGen i fun x => { x with running := false, cause := cause }

/-- The start of a generator at the absolute admission point a: what R184 clears, PRBS 0x7FFF, the program from ENTRY. -/
def State.startGen (s : State) (i a : Nat) : State :=
  let p := genPlane i
  let g := i % 8
  let s := s.updGen i fun x => { x with
    running := true, armed := false, cause := 0, pc := s.rdGen i R.ST_CTRL_ENTRY, a := 0, d := 0, c0 := 0, c1 := 0,
    prbs := 0x7FFF, a0 := some a, samples := [], idle := 0, conds := [(s.clk.frame, x.cond)] }
  let s := s.wrP p (R.ST_START_LO_FRAME g) (a / 64)
  let s := s.wrP p (R.ST_START_HI_FRAME g) (a / 64 / 2 ^ 32)
  s.wrP p (R.ST_START_OFS_POINT g) (a % 64)

/-- A trigger: it starts an armed generator that does not run; any other is ignored and counted. -/
def State.trigger (s : State) (i a : Nat) : State :=
  let x := s.gen i
  if x.armed && !x.running && !x.mtest then s.startGen i a
  else s.wrP (genPlane i) (R.ST_STATUS_IGNORED (i % 8)) (satAdd 255 (s.rdGen i R.ST_STATUS_IGNORED) 1)

/-- The frame of a frame trigger. -/
def State.trigFrame (s : State) (i : Nat) : Nat := s.rdGen i R.ST_TRIG_FRAME_HI_FRAME * 2 ^ 32 + s.rdGen i R.ST_TRIG_FRAME_LO_FRAME

/-- ST_CTRL.ARM (R184): LATE where the boundary of a frame trigger has passed. -/
def State.armGen (s : State) (i : Nat) : State :=
  if s.rdGen i R.ST_CTRL_TRIG = 3 ∧ s.trigFrame i * 64 < s.now then
    s.updGen i fun x => { x with armed := false, cause := 5 }
  else s.updGen i fun x => { x with armed := true }

/-- The command trigger: ST_CTRL.START or STENCIL_START, at the latest admission point. A generator with another trigger
ignores it. -/
def State.commandTrigger (s : State) (i : Nat) : State :=
  if s.rdGen i R.ST_CTRL_TRIG = 0 then s.trigger i s.now
  else s.wrP (genPlane i) (R.ST_STATUS_IGNORED (i % 8)) (satAdd 255 (s.rdGen i R.ST_STATUS_IGNORED) 1)

/-- Samples whose nominal instants are not after admission point a (R183): j with t_j ≤ a. -/
def State.samplesBy (s : State) (i a : Nat) : Nat :=
  match (s.gen i).a0 with
  | some a0 => if a < a0 then 0 else (a - a0) * 128 * s.genInc i / 2 ^ 32 + 1
  | none => 0

/-- ST_CTRL.HALT (R185): the generator stops at its next native tick; samples after it are not produced. -/
def State.haltGen (s : State) (i : Nat) : State :=
  if (s.gen i).running then
    let n := s.samplesBy i s.now
    (s.updGen i fun x => { x with samples := x.samples.take n, last := ((x.samples.take n).getLast?).getD x.last }).stopGen i 2
  else s

/-- An edge on an EVT input starts the armed generators that wait for it, at the first admission point after it. -/
def State.evtEdge (s : State) (evt : Nat) (rising : Bool) : State :=
  s.over ((List.range 16).filter fun i =>
      s.rdGen i R.ST_CTRL_TRIG == (if rising then 1 else 2) && s.rdGen i R.ST_CTRL_EVT == evt) fun s i =>
    s.trigger i (s.now + 1)

/-- An armed generator with a frame trigger starts at boundary ST_TRIG_FRAME. -/
def State.frameTrigger (s : State) (i : Nat) : State :=
  let x := s.gen i
  if s.rdGen i R.ST_CTRL_TRIG = 3 ∧ s.trigFrame i = s.clk.frame ∧ s.clk.point = 0 ∧ x.armed ∧ ¬ x.running then
    s.startGen i (s.clk.frame * 64)
  else s

/-! ### Streams (R188) -/

/-- Sample j: 0 before the start, the last sample after the end. -/
def Gen.sample (x : Gen) (j : Int) : Int :=
  if j < 0 then 0 else (x.samples[j.toNat]?).getD ((x.samples.getLast?).getD (if x.a0.isNone then x.last else 0))

/-- Rounded mean of the samples lo to hi. -/
def Gen.mean (x : Gen) (lo hi : Int) : Int :=
  let n := (hi - lo + 1).toNat
  if n = 0 then 0
  else
    let sum := (List.range n).foldl (fun (a : Int) (k : Nat) => a + x.sample (lo + (k : Int))) 0
    let q : Nat := (2 * sum.natAbs + n) / (2 * n)
    if sum < 0 then -(q : Int) else q

/-- The value of a stream at consumer instant T, in FCLK from frame 0, with consumer spacing P (R188). -/
def State.stream (s : State) (i T P : Nat) : Int :=
  let x := s.gen i
  let inc := s.genInc i
  match x.a0 with
  | none => x.last
  | some a0 =>
    let n : Int := ((T : Int) - a0 * 128) * inc
    let one : Int := 2 ^ 32
    if 2 ^ 32 < P * inc then x.mean ((n - P * inc - one) / one + 1) ((n - one) / one)
    else
      match s.rdGen i R.ST_CTRL_RESAMP with
      | 1 =>
        let m := n - 2 * one
        let j := m / one
        let phi := m % one / 2 ^ 26
        x.sample j + asr ((x.sample (j + 1) - x.sample j) * phi) 6
      | 2 =>
        let m := n - 5 * one
        let j := m / one
        let phi := (m % one / 2 ^ 27).toNat
        let sum := (List.range 8).foldl (fun (a : Int) (k : Nat) => a + Config.polyTap phi k * x.sample (j + (k : Int) - 3)) 0
        satSigned 16 (asr sum 15)
      | _ => x.sample (n / one - 1)

/-- The frame-stream value for the input set latched at the latest boundary. -/
def State.frameStream (s : State) (i : Nat) : Int := s.stream i (s.clk.frame * 8192) 8192

/-- The chip-stream value at the boundary that ends chip k of the running frame. -/
def State.chipStream (s : State) (i k : Nat) : Int := s.stream i (s.clk.frame * 8192 + 512 * (k + 1)) 512

/-- What AUX_OUTa carries at sample position n of the running frame (R190): none where the pin is held at 0 V. With NATIVE the
pin takes each native sample at its tick, a measurement of R32: the model shows the latest sample. -/
def State.auxOut (s : State) (a n : Nat) : Option Int :=
  if s.rd (R.AUX_CFG_ENABLE a) = 0 then none
  else
    let i := genInst s.active (s.rd (R.AUX_CFG_GEN a))
    if s.rd (R.AUX_CFG_NATIVE a) = 1 then some (s.gen i).last else some (s.stream i (s.clk.frame * 8192 + 64 * n) 64)

/-- ST_OUT.FRAME and the conditions of each boundary while a generator runs. -/
def State.latchStreams (s : State) : State :=
  s.over (List.range 16) fun s i =>
    let x := s.gen i
    let s := if x.running then s.updGen i fun x => { x with conds := x.conds ++ [(s.clk.frame, x.cond)] } else s
    if x.a0.isSome then s.wrPS (genPlane i) (R.ST_OUT_FRAME (i % 8)) (s.frameStream i) else s

/-! ### Instructions (R185 to R187) -/

/-- The instruction word at the program counter. -/
def State.genWord (s : State) (i : Nat) : Nat := s.wordP (genPlane i) (A.ST_PROG (i % 8) (s.gen i).pc)

def opOf (w : Nat) : Nat := w / 2 ^ 27 % 32

/-- A running generator that has not run away and stands at an instruction with the opcode given. -/
def State.canRun (s : State) (i op : Nat) : Bool :=
  let x := s.gen i
  x.running && x.idle < 64 && opOf (s.genWord i) == op

/-- The 32-bit accumulator saturates. -/
def sat32 (v : Int) : Int := satSigned 32 v

/-- Emit samples and go on with the next instruction. -/
def Gen.emit (x : Gen) (l : List Int) : Gen :=
  { x with samples := x.samples ++ l, last := (l.getLast?).getD x.last, idle := 0 }

def Gen.step (x : Gen) : Gen := { x with pc := (x.pc + 1) % 256 }
def Gen.jump (x : Gen) (t : Nat) : Gen := { x with pc := t % 256 }
def Gen.quiet (x : Gen) : Gen := { x with idle := x.idle + 1 }

/-- ST_OUT.NATIVE follows the last native sample. -/
def State.showNative (s : State) (i : Nat) : State := s.wrPS (genPlane i) (R.ST_OUT_NATIVE (i % 8)) (s.gen i).last

/-- Run one instruction of an instance where it stands at that opcode. -/
def State.runOp (s : State) (i op : Nat) (f : Nat → Gen → Gen) : State :=
  if s.canRun i op then (s.updGen i (f (s.genWord i))).showNative i else s

/-- STOP, LDA, LDD, ADDA. -/
def genLda (w : Nat) (x : Gen) : Gen := { x with a := signed 16 w * 2 ^ 16 }.quiet.step
def genLdd (w : Nat) (x : Gen) : Gen := { x with d := signed 24 w }.quiet.step
def genAdda (w : Nat) (x : Gen) : Gen := { x with a := sat32 (x.a + signed 24 w) }.quiet.step

/-- EMIT: A >> 16, N + 1 times. -/
def genEmit (w : Nat) (x : Gen) : Gen := (x.emit (List.replicate (w % 65536 + 1) (asr x.a 16))).step

/-- RAMP: emit, then A := sat(A + D), N + 1 times: the samples, the latest first, and the accumulator left. -/
def rampOut (d : Int) : Nat → Int → List Int → List Int × Int
  | 0, a, acc => (acc, a)
  | n + 1, a, acc => rampOut d n (sat32 (a + d)) (asr a 16 :: acc)

def genRamp (w : Nat) (x : Gen) : Gen :=
  let r := rampOut x.d (w % 65536 + 1) x.a []
  { x.emit r.1.reverse with a := r.2 }.step

/-- Sample k of a generator's wave table. -/
def State.waveSample (s : State) (i k : Nat) : Int :=
  let w := s.wordP (genPlane i) (A.ST_WAVE (i % 8) (k % 1024 / 2))
  if k % 2 = 0 then signed 16 w else signed 16 (w / 65536)

/-- TABLE: N + 1 table samples from BASE; A takes the last one. -/
def State.genTable (s : State) (i w : Nat) (x : Gen) : Gen :=
  let l := (List.range (w % 65536 + 1)).map fun k => s.waveSample i (bits w 25 16 + k)
  { x.emit l with a := (l.getLast?).getD 0 * 2 ^ 16 }.step

/-- PRBS: N + 1 samples of v = A >> 16 with pseudo-random sign, the latest first, and the register left. The negation of −32,768
has no place in a sample: `free` stands for it (log entry 2). -/
def prbsOut (free v : Int) : Nat → Nat → List Int → List Int × Nat
  | 0, p, acc => (acc, p)
  | n + 1, p, acc =>
    let f := p.testBit 14 != p.testBit 13
    let out := if f then (if v = -32768 then free else -v) else v
    prbsOut free v n ((2 * p + b01 f) % 2 ^ 15) (out :: acc)

def genPrbs (free : Int) (w : Nat) (x : Gen) : Gen :=
  let r := prbsOut free (asr x.a 16) (w % 65536 + 1) x.prbs []
  { x.emit r.1.reverse with prbs := r.2 }.step

/-- LDC, LOOP, JMP. -/
def genLdc (w : Nat) (x : Gen) : Gen :=
  (if w.testBit 24 then { x with c1 := w % 65536 } else { x with c0 := w % 65536 }).quiet.step

def genLoop (w : Nat) (x : Gen) : Gen :=
  let c := ((if w.testBit 24 then x.c1 else x.c0) + 65535) % 65536
  let x := if w.testBit 24 then { x with c1 := c } else { x with c0 := c }
  if c = 0 then x.quiet.step else x.quiet.jump (w % 256)

def genJmp (w : Nat) (x : Gen) : Gen := x.quiet.jump (w % 256)

/-- The frame whose input set decides a test made before the next sample: the latest boundary at or before t_j (R187). -/
def State.testFrame (s : State) (i : Nat) : Nat :=
  let x := s.gen i
  (x.a0.getD 0 * 128 * s.genInc i + x.samples.length * 2 ^ 32) / (s.genInc i * 8192)

/-- The value of condition q there; none before that set is latched. -/
def State.condAt (s : State) (i q : Nat) : Option Bool :=
  ((s.gen i).conds.find? fun c => c.1 == s.testFrame i).map fun c => c.2.testBit q

/-- The condition an instruction tests: condition Q xor NEG. -/
def State.tested (s : State) (i w : Nat) : Option Bool := (s.condAt i (bits w 25 24)).map fun c => c != w.testBit 26

/-- BR: it waits for the input set that decides it. -/
def State.genBr (s : State) (i : Nat) : State :=
  if s.canRun i 0x0B then
    let w := s.genWord i
    match s.tested i w with
    | some true => s.updGen i fun x => x.quiet.jump (w % 256)
    | some false => s.updGen i fun x => x.quiet.step
    | none => s
  else s

/-- WAIT: one test; false emits one sample and stays, true goes on. -/
def State.genWait (s : State) (i : Nat) : State :=
  if s.canRun i 0x0C then
    match s.tested i (s.genWord i) with
    | some true => s.updGen i fun x => x.quiet.step
    | some false => (s.updGen i fun x => x.emit [asr x.a 16]).showNative i
    | none => s
  else s

def State.genStop (s : State) (i : Nat) : State := if s.canRun i 0x00 then s.stopGen i 1 else s

/-- ILLEGAL (R185, R194): opcodes 0x0D to 0x1F. -/
def State.genIllegal (s : State) (i : Nat) : State :=
  let x := s.gen i
  if x.running && x.idle < 64 && 0x0D ≤ opOf (s.genWord i) then
    (s.stopGen i 3).raise { cls := 11, inst := i, kind := 1, plane := i / 8, addr := x.pc }
  else s

/-- RUNAWAY (R185): 64 non-emitting instructions in a row. -/
def State.genRunaway (s : State) (i : Nat) : State :=
  let x := s.gen i
  if x.running && 64 ≤ x.idle then
    (s.stopGen i 4).raise { cls := 11, inst := i, kind := 2, plane := i / 8, addr := x.pc }
  else s

/-- What ST_STATUS and ST_CTRL show. -/
def State.genStatusView (s : State) (p : Plane) (g : Nat) : Nat :=
  let x := s.gen (genInst p g)
  let w := putBits (s.wordP p (A.ST_STATUS g)) 31 31 (b01 x.running)
  let w := putBits w 30 30 (b01 x.mtest)
  putBits (putBits w 29 27 x.cause) 7 0 x.pc

def State.genCtrlView (s : State) (p : Plane) (g : Nat) : Nat :=
  putBits (s.wordP p (A.ST_CTRL g)) 2 0 (b01 (s.gen (genInst p g)).armed)

/-! ### Memory tests (R191 to R193) -/

def State.mtBusy (s : State) (p : Plane) : Bool := s.rdP p R.MT_STATUS_BUSY == 1

/-- The condition of R191 for the target: the cause it fails with, 0 where it holds. `noReturn` says that no resynchronisation
is in progress, `restored` that the restore from the last wake is complete. -/
def State.mtCause (s : State) (p : Plane) (noReturn restored : Bool) : Nat :=
  let lo := s.rdP p R.MT_BASE_BASE * 4096
  let size := 2 ^ s.rdP p R.MT_CTRL_SIZE_LOG2
  let target := match s.rdP p R.MT_CTRL_TARGET with
    | 0 => if s.health (planeOf (s.rdP p R.MT_CTRL_BANK_PLANE)) = 1 ∧ noReturn ∧ s.rdP p R.MT_CTRL_TILE < 80 then 0 else 1
    | 1 =>
      if lo % size = 0 ∧ 12 ≤ s.rdP p R.MT_CTRL_SIZE_LOG2 ∧ s.rdP p R.MT_CTRL_SIZE_LOG2 ≤ 22 ∧ lo + size ≤ capSize ∧
          ¬ (List.range 36).any (fun c => s.running c && overlap lo size (s.bufBase c) (s.bufSize c)) then 0 else 2
    | 2 => if s.power = .run ∧ restored then 0 else 3
    | _ => 3
  if target ≠ 0 then target
  else if (s.gen (genInst p (s.rdP p R.MT_CTRL_GEN))).running ∨ s.mtBusy .A ∨ s.mtBusy .B then 4
  else 0

/-- MT_CTRL.START in plane p (R191). -/
def State.mtStart (s : State) (p : Plane) (noReturn restored : Bool) : State :=
  let cause := s.mtCause p noReturn restored
  if cause = 0 then
    let s := s.setWordP p A.MT_STATUS (2 ^ 31)
    let s := ((s.setWordP p A.MT_FAIL_ADDR 0).setWordP p A.MT_FAIL_BITS 0).setWordP p A.MT_FAIL_CHECK 0
    s.updGen (genInst p (s.rdP p R.MT_CTRL_GEN)) fun x => { x with mtest := true }
  else (s.wrP p R.MT_STATUS_REFUSED 1).wrP p R.MT_STATUS_CAUSE cause

/-- The contents that a test leaves undefined. A Store Room bank of a fenced plane and the Cellar SRAM in RUN are written again
before anything reads them; the capture memory can be read. -/
def State.mtLeaves (s : State) (p : Plane) : State :=
  if s.rdP p R.MT_CTRL_TARGET = 1 then s.scramble (s.rdP p R.MT_BASE_BASE * 4096) (2 ^ s.rdP p R.MT_CTRL_SIZE_LOG2) else s

def State.mtEnd (s : State) (p : Plane) : State :=
  let s := (s.mtLeaves p).wrP p R.MT_STATUS_BUSY 0
  s.updGen (genInst p (s.rdP p R.MT_CTRL_GEN)) fun x => { x with mtest := false }

/-- MT_CTRL.ABORT in plane p, or an event of R193. -/
def State.mtAbort (s : State) (p : Plane) : State :=
  if s.mtBusy p then (s.mtEnd p).wrP p R.MT_STATUS_ABORTED 1 else s

/-- MTEST_DONE (R192): the miscompares found; of the first its word address, March element, data bits and check bits. -/
def State.mtDone (s : State) (p : Plane) (fails addr element diff check : Nat) : State :=
  if s.mtBusy p then
    let s := (s.mtEnd p).wrP p R.MT_STATUS_DONE 1
    if fails = 0 then s.wrP p R.MT_STATUS_PASS 1
    else
      let s := (s.wrP p R.MT_STATUS_FAILS (min (2 ^ 20 - 1) fails)).wrP p R.MT_STATUS_ELEMENT element
      let s := (s.setWordP p A.MT_FAIL_ADDR addr).setWordP p A.MT_FAIL_BITS diff
      let i := genInst p (s.rdP p R.MT_CTRL_GEN)
      (s.wrP p R.MT_FAIL_CHECK_CHECK check).raise { cls := 11, inst := i, kind := 3, plane := planeBit p, addr := 0 }
  else s

end Sys2Proof.Machine
end

