-- ==== Sys2Proof/Machine/Loop.lean ====
section
/-! DEFINITION. Machine/Loop.lean: the loop engine (chapter 6) and the context side of a commit (R86 to R93): states and requests,
validity, set-points, gain tables, the Standard and the Express update. Both planes compute alike (log entry 34): one
computation on the active plane's copy is written to both. -/

namespace Sys2Proof.Machine

open Sys2Proof

def State.setLoop (s : State) (f : Loop → Loop) : State := { s with loop := f s.loop }

/-! ### What a context names -/

/-- The element whose record names context n, and which of its four contexts n is (R34, R43). -/
def State.roleOf (s : State) (n : Nat) : Option (Nat × Nat) :=
  if s.fabric.placement = 0 ∧ n / 4 < s.fabric.cellCount then some (n / 4, n % 4)
  else
    (List.range s.fabric.elementCount).findSome? fun k =>
      let r := s.fabric.record k
      if r.ctx ≠ 0xFFFF ∧ r.ctx ≤ n ∧ n < r.ctx + 4 then some (k, n - r.ctx) else none

/-- Does the fabric description name context n: a cell or element, or a port (CTX_CTL.SP_SEL)? -/
def State.fabricNames (s : State) (n : Nat) : Bool :=
  (s.roleOf n).isSome || (List.range s.fabric.portCount).any fun j => (s.fabric.port j).outCtx == n || (s.fabric.port j).inCtx == n

/-- Is a level context selected by its cell's current state (R153)? Every other context is. -/
def State.selectedNow (s : State) (n : Nat) : Bool :=
  match s.roleOf n with
  | some (k, 1) => decide (k ∉ s.route.crossed)
  | some (k, 2) => decide (k ∈ s.route.crossed)
  | _ => true

/-- The output a context drives: its heater channel, or one level of its driver; none for TARGET NONE. -/
def State.outKey (s : State) (n : Nat) : Option Nat :=
  let t := n / 512
  let a := s.cx R.CTX_BIND_ACT n
  match s.cx R.CTX_CTL_TARGET n with
  | 1 => some (256 * t + a)
  | 2 => if a < 128 then some (20480 + 2 * (128 * t + a)) else none
  | 3 => if a < 128 then some (20480 + 2 * (128 * t + a) + 1) else none
  | _ => none

/-- The output width w (R150). -/
def State.widthOf (s : State) (n : Nat) : Nat :=
  match s.cx R.CTX_CTL_TARGET n with
  | 1 => if s.rd (R.TL_HTR_CFG_MODE (n / 512) (s.cx R.CTX_BIND_ACT n)) = 1 then 14 else 20
  | 2 => 12
  | 3 => 12
  | _ => 20

/-- An output limit (R152). -/
def limitOf (w v : Nat) : Nat := if w = 20 then (if v = 0xFFFF then 1048575 else v * 16) else min v (2 ^ w - 1)

/-- The lower and the upper output limit of a context; OUT_LO above OUT_HI acts as OUT_HI. -/
def State.limits (s : State) (n : Nat) : Nat × Nat :=
  let w := s.widthOf n
  let hi := limitOf w (s.cx R.CTX_LIMIT_OUT_HI n)
  (min (limitOf w (s.cx R.CTX_LIMIT_OUT_LO n)) hi, hi)

/-! ### Gain tables (R162) -/

/-- The value of table m of tile t at a. -/
def State.table (s : State) (t m a : Nat) : Int :=
  let p := s.active
  let sh := min 18 (s.rdP p (R.TL_LUT_SHIFT_SEG_SHIFT t m))
  let g (k : Nat) : Int := s.rdP p (R.TL_LUT_G t m k)
  let k := a / 2 ^ sh
  if 32 ≤ k then g 32 else g k + asr ((g (k + 1) - g k) * (a % 2 ^ sh)) sh

/-- λ(u) of a LEVEL context at its own output (R144, R162). -/
def State.lambda (s : State) (n : Nat) : Int :=
  s.table (n / 512) (s.cx R.CTX_CTL_LAMBDA_LUT n) (s.cx R.CTX_OUT_U n * 2 ^ (20 - s.widthOf n))

/-- The LEVEL feedback word of a correlation word. -/
def State.levelWord (s : State) (n : Nat) (y : Int) : Int := sat24 (asr (y * s.lambda n) 14)

/-! ### Feedback (R144) -/

/-- The LEVEL contexts that a GROUP word subtracts: those live on the photodiode, with the word of their slot. -/
def State.levelsOn (s : State) (t pd : Nat) : List (Nat × FbWord) :=
  (s.tileCtx s.active t).filterMap fun m =>
    if s.live m && s.cx R.CTX_CTL_FB_KIND m == 4 && s.cx R.CTX_BIND_PD m == pd then
      (s.slotOf m).map fun h => (m, s.slotWord h) else none

/-- The word of a GROUP context: D, with every flag of its window and of the LEVEL words subtracted (R144). -/
def State.groupFeedback (s : State) (n : Nat) : FbWord :=
  let t := n / 512
  let pd := s.cx R.CTX_BIND_PD n
  let w := s.window n
  let sums := ((s.dith.groups.find? (·.1 == 32 * t + pd)).map (·.2)).getD []
  let win := sums.take w
  let d := sat24 (roundDiv (sumI (win.map (·.p)) - 256 * 128 * w) w)
  let lv := (s.levelsOn t pd).map (·.2)
  { y := d, e := d, invalid := win.any (·.invalid) || lv.any (·.invalid),
    warming := decide (sums.length < w) || lv.any (·.warming), ovr := win.any (·.ovr) || lv.any (·.ovr),
    clipped := lv.any (·.clipped), constant := constantWindow win }

/-- The averaged word as DIRECT feedback; the normalisation is open (log entry 31). -/
def State.directFeedback (s : State) (n : Nat) : FbWord :=
  let d := 32 * (n / 512) + s.cx R.CTX_BIND_PD n
  let cfg := ((s.pdFrame d).map (·.cfg)).getD 0
  let a := s.averageAt d
  { y := sat24 (Config.directWord a.word (avgOf cfg) (shiftOf cfg)), e := 0, invalid := a.invalid, warming := false,
    ovr := a.ovr, clipped := false, constant := false }

/-- What the validity pass sees of a CLASS = 1 context: the frame is INVALID where every sample is (R113; log entry 35). -/
def State.expressFeedback (s : State) (n : Nat) : FbWord :=
  let words := s.wordsOf (32 * (n / 512) + s.cx R.CTX_BIND_PD n)
  { y := 0, e := 0, invalid := words.all wordInvalid, warming := false, ovr := words.any wordOvr, clipped := false,
    constant := false }

/-- feedback(c, b) at the latest boundary; none where no word is delivered: no slot is bound. -/
def State.feedback (s : State) (n : Nat) : Option FbWord :=
  if s.cx R.CTX_CTL_CLASS n = 1 then some (s.expressFeedback n)
  else
    match s.cx R.CTX_CTL_FB_KIND n with
    | 0 => some (s.directFeedback n)
    | 5 => some (s.groupFeedback n)
    | _ => (s.slotOf n).map s.slotWord

/-- The value a feedback word is tested by (R144). -/
def State.testValue (s : State) (n : Nat) (x : FbWord) : Int :=
  match s.cx R.CTX_CTL_FB_KIND n with
  | 3 => -x.e
  | 5 => x.y
  | _ => x.e

/-- The feedback word the control law takes (R144). -/
def State.lawWord (s : State) (n : Nat) (x : FbWord) : Int :=
  match s.cx R.CTX_CTL_FB_KIND n with
  | 4 => s.levelWord n x.y
  | 5 => sat24 (x.y - sumI ((s.levelsOn (n / 512) (s.cx R.CTX_BIND_PD n)).map fun m => s.levelWord m.1 m.2.y))
  | _ => x.y

/-! ### Validity (R157, R158) -/

/-- Is the latest input set blanked for context n by a commit (R88) or an alignment (R297)? -/
def State.commitBlank (s : State) (n : Nat) : Bool :=
  s.time.blankAll == some s.clk.frame || s.loop.blank.any fun b => b.1 == n && b.2.1 < s.clk.frame * 16 && s.clk.frame ≤ b.2.2

/-- Is it blanked by a divergence: the set after the mismatch, and for a waiting context every set up to its measurement (R347,
R349)? -/
def State.divBlank (s : State) (n : Nat) : Bool :=
  s.pl.items.any fun d => d.ctx == n && (if d.waits then d.meas.isNone else d.frame + 1 == s.clk.frame)

def State.blankedNow (s : State) (n : Nat) : Bool := s.commitBlank n || s.divBlank n

/-- Does context n wait for the decision of a divergence sequence (R349)? -/
def State.divWaits (s : State) (n : Nat) : Bool := s.pl.items.any fun d => d.ctx == n && d.waits

def State.due (s : State) (n : Nat) (e : LoopEvent) : State := s.setLoop fun l => { l with due := l.due ++ [(n, e)] }

def State.suspectOn (s : State) (n : Nat) : State := s.setLoop fun l => { l with suspect := l.suspect ++ [n] }

def State.isSuspect (s : State) (n : Nat) : Bool := decide (n ∈ s.loop.suspect)

/-- The causes after which a context may resume by itself (R158). -/
def resumable (c : Nat) : Bool := 1 ≤ c && c ≤ 4

/-- One good set in HOLD (R158). -/
def State.resumeCheck (s : State) (n : Nat) : State :=
  let g := s.cx R.CTX_PC_GOOD_CNT n
  if g = 15 ∧ s.cx R.CTX_CTL_AUTO_RESUME n = 1 ∧ resumable (s.cx R.CTX_OUT_CAUSE n) then s.due n .resume
  else s.setCx R.CTX_PC_GOOD_CNT n (min 15 (g + 1))

/-- The energy and frozen tests of FB_KIND 1 to 5, and what they leave due. -/
def State.energyTests (s : State) (n : Nat) (x : FbWord) : State × Bool :=
  let k := s.cx R.CTX_CTL_FB_KIND n
  if s.cx R.CTX_CTL_CLASS n = 1 ∨ k = 0 then (s, false)
  else
    let low := decide (s.testValue n x < (s.cx R.CTX_SUPV_E_FLOOR n : Int))
    let frz := x.constant || decide (x.y = s.cxS R.CTX_HIST_LAST_Y n)
    let fz := s.cx R.CTX_PC_FROZEN_CNT n
    let lost := s.cx R.CTX_PC_LOST_CNT n
    let act := decide (s.stateOf n = stActive)
    let s := s.setCx R.CTX_HIST_LAST_Y n (unsigned 24 x.y)
    let s := if act && frz && fz == 7 then s.due n .frozen
      else if act && low && lost == 3 then s.due n .lost else s
    let s := s.setCx R.CTX_PC_FROZEN_CNT n (if frz then min 7 (fz + 1) else 0)
    (s.setCx R.CTX_PC_LOST_CNT n (if low then min 3 (lost + 1) else 0), low || frz)

/-- The validity of one context on the latest input set (R157). -/
def State.validate (s : State) (n : Nat) : State :=
  match s.feedback n with
  | none => s
  | some x =>
    let inv := s.cx R.CTX_TPC_INV_CNT n
    let ov := s.cx R.CTX_TPC_OVR_CNT n
    if x.invalid then
      let s := s.when (decide (inv = 15 ∧ s.stateOf n = stActive)) (·.due n .invalid)
      (s.setCx R.CTX_TPC_INV_CNT n (min 15 (inv + 1))).suspectOn n
    else
      let s := s.setCx R.CTX_TPC_INV_CNT n 0
      if x.warming || x.clipped then s.suspectOn n
      else
        let s := if x.ovr then
            let s := s.when (decide (ov = 15 ∧ s.cx R.CTX_TPC_OVR_RAISED n = 0)) fun s =>
              (s.due n .overload).setCx R.CTX_TPC_OVR_RAISED n 1
            s.setCx R.CTX_TPC_OVR_CNT n (min 15 (ov + 1))
          else (s.setCx R.CTX_TPC_OVR_CNT n 0).setCx R.CTX_TPC_OVR_RAISED n 0
        let (s, bad) := s.energyTests n x
        let s := s.when bad (·.suspectOn n)
        if s.stateOf n = stHold then (if bad then s.setCx R.CTX_PC_GOOD_CNT n 0 else s.resumeCheck n) else s

/-- The validity pass over every live context that is neither waiting for a slot nor blanked (R157). -/
def State.validityPass (s : State) : State :=
  let s := s.setLoop fun l => { l with suspect := [], due := l.due.filter fun d => decide (d.2 = LoopEvent.following) }
  s.over (s.listedCtx s.active) fun s n =>
    if s.live n && !s.slotWaits n && !s.blankedNow n then s.validate n else s

/-- hold(cause): an ACTIVE context goes to HOLD; one in HOLD keeps its cause (R155). -/
def State.holdCtx (s : State) (n cause : Nat) : State :=
  if s.stateOf n = stActive then
    ((s.setCx R.CTX_OUT_STATE n stHold).setCx R.CTX_OUT_CAUSE n cause).setCx R.CTX_PC_GOOD_CNT n 0
  else s

/-- Is an event due? Carry out f and strike it. -/
def State.takeDue (s : State) (n : Nat) (e : LoopEvent) (f : State → State) : State :=
  if (n, e) ∈ s.loop.due then f (s.setLoop fun l => { l with due := l.due.filter fun d => decide (d ≠ (n, e)) }) else s

/-- FEEDBACK_LOST, FEEDBACK_FROZEN, INPUT_INVALID: HOLD with the cause, and the fault. -/
def State.feedbackLost (s : State) (n : Nat) : State :=
  s.takeDue n .lost fun s =>
    ((s.holdCtx n causeLost).bump (R.TL_CORR_STATUS_LOST_EVENTS (n / 512)) 1).raise (ctxMsg n 0x20)
def State.feedbackFrozen (s : State) (n : Nat) : State :=
  s.takeDue n .frozen fun s =>
    ((s.holdCtx n causeFrozen).bump (R.TL_CORR_STATUS_FROZEN_EVENTS (n / 512)) 1).raise (ctxMsg n 0x21)
def State.inputInvalid (s : State) (n : Nat) : State :=
  s.takeDue n .invalid fun s => (s.holdCtx n causeInvalid).raise (ctxMsg n 0x22)

/-- FEEDBACK_OVERLOAD: the fault; the context keeps running (R145). -/
def State.feedbackOverload (s : State) (n : Nat) : State := s.takeDue n .overload fun s => s.raise (ctxMsg n 0x23)

/-- FOLLOWING: the fault, and with FE_HOLD the HOLD (R167). -/
def State.following (s : State) (n : Nat) : State :=
  s.takeDue n .following fun s =>
    let s := s.raise (ctxMsg n 0x24)
    if s.cx R.CTX_CTL_FE_HOLD n = 1 then s.holdCtx n causeFollowing else s

/-- AUTO_RESUME (R158): back to ACTIVE with XFER set. The update of the same set follows with the Standard work of the frame. -/
def State.autoResume (s : State) (n : Nat) : State :=
  s.takeDue n .resume fun s =>
    let s := (s.setCx R.CTX_OUT_STATE n stActive).setCx R.CTX_OUT_CAUSE n causeNone
    let s := ((s.setCx R.CTX_PC_GOOD_CNT n 0).setCx R.CTX_PC_LOST_CNT n 0).setCx R.CTX_PC_FROZEN_CNT n 0
    s.setCx R.CTX_OUT_XFER n 1

/-! ### Set-points (R159 to R161) -/

/-- The measurement of an SPP input over a frame (R160). -/
def sppValue (mode fs high edges : Nat) : Nat :=
  match mode with
  | 1 => high * 128
  | 2 => min (edges * 2 ^ (20 - min 12 fs)) (2 ^ 23 - 1)
  | _ => 0

/-- MODE 3 acts as OFF. -/
def sppMode (m : Nat) : Nat := if m = 3 then 0 else m

/-- LP_SPP_VALUE at a boundary: the frame that ends, in the settings it was measured under; VALID reads 0 while MODE is OFF and
in the frame after a change (`old` are the settings before the boundary's writes). -/
def State.latchSpp (s : State) (x : FrameIn) (old : List Nat) : State :=
  s.over (List.range 4) fun s k =>
    let o := old.getD k 0
    let now := s.word (A.LP_SPP_CFG k)
    let mode := sppMode (o % 4)
    let c := ((x.spp.find? (·.input == k)).map fun c => (c.high, c.edges)).getD (0, 0)
    let v := sppValue mode (bits o 11 8) c.1 c.2
    let valid := mode != 0 && sppMode (now % 4) == mode && bits now 11 8 == bits o 11 8
    let s := s.setWord (A.LP_SPP_VALUE k) (b01 valid * 2 ^ 31 + v)
    if valid then s.setLoop fun l => { l with sppLast := modAt l.sppLast k fun _ => v } else s

/-- SPA0 to SPA3 of the input set: the latest round results. -/
def State.latchSpa (s : State) : State :=
  let v := (List.range 4).map fun k => s.rd (R.HKA_RESULT_CODE (64 + k))
  s.setLoop fun l => { l with spa := v }

/-- Does context n run as Express by its class, its state aside? -/
def State.runsExpress (s : State) (n : Nat) : Bool := s.isExpressClass n || decide (n ∈ s.trimming)

/-- The value a cascade source puts in: its U in force, an Express source's word of chip 15 (R161). -/
def State.cascade (s : State) (m : Nat) : Int :=
  let u := if s.runsExpress m then ((s.loop.chip15.find? (·.1 == m)).map (·.2)).getD (s.cx R.CTX_OUT_U m) else s.cx R.CTX_OUT_U m
  ((u * 2 ^ (20 - s.widthOf m) : Nat) : Int)

/-- The source value s of a context, `sample` being that of the generator SRC_INDEX names. -/
def State.source (s : State) (n : Nat) (sample : Nat → Int) : Int :=
  let ix := s.cx R.CTX_SPSRC_SRC_INDEX n
  match s.cx R.CTX_SPSRC_SRC n with
  | 1 => ((s.loop.spa.getD (ix % 4) 0 * 16 : Nat) : Int)
  | 2 => (s.loop.sppLast.getD (ix % 4) 0 : Int)
  | 3 => sample (ix % 8) * 32
  | 4 => s.cascade (512 * (n / 512) + ix)
  | _ => 0

/-- setpoint(c, b) (R159). -/
def State.setpoint (s : State) (n : Nat) (express : Bool) (sample : Nat → Int) : Int :=
  let sp1 := express || (s.cx R.CTX_CTL_DUAL_SP n == 1 && s.cx R.CTX_CTL_SP_SEL n == 1)
  let base := if sp1 then s.cxS R.CTX_SP1_SP1 n else s.cxS R.CTX_SP0_SP0 n
  sat24 (base + asr (s.cxS R.CTX_SPSRC_SP_SCALE n * s.source n sample) 12)

/-! ### Injection (R177, R178) -/

/-- The generator that feeds a context's injection. -/
def State.injGen (s : State) (n : Nat) : Nat :=
  let v := s.cx R.CTX_SHAPE_INJ_GEN n
  if v < 8 then v else Config.strayGen v % 8

/-- The injection point: 5 to 7 act as 0. -/
def State.injPoint (s : State) (n : Nat) : Nat :=
  let p := s.cx R.CTX_CTL_INJ_POINT n
  if p ≤ 4 then p else 0

/-- inj(k). -/
def State.inj (s : State) (n k : Nat) (sample : Nat → Int) : Int :=
  if s.injPoint n ≠ k then 0
  else if k = 4 then asr (sample (s.injGen n) * (2 ^ s.widthOf n : Nat)) 16
  else sample (s.injGen n) * 32

/-- The samples of the frame stream latched for the input set (R178). -/
def State.frameSample (s : State) (g : Nat) : Int := s.rdPS s.active (R.ST_OUT_FRAME g)

/-- The samples of the chip stream at the boundary that ends chip `chip` of the frame. -/
def State.chipSample (s : State) (chip g : Nat) : Int :=
  s.stream (genInst s.active g) ((chip + 1) * 512) 512

/-! ### Precompensation (R92, R93) -/

/-- shr(x, k) = sign(x) · ceil(|x| / 2^k). -/
def shrAway (x : Int) (k : Nat) : Int :=
  let q : Nat := divUp x.natAbs (2 ^ k)
  if x < 0 then -(q : Int) else q

/-- The tiles that share an edge with tile t (R92). -/
def neighbours (t : Nat) : List Nat :=
  (List.range 80).filter fun u =>
    (u / 10 == t / 10 && (u % 10 + 1 == t % 10 || t % 10 + 1 == u % 10)) ||
      (u % 10 == t % 10 && (u / 10 + 1 == t / 10 || t / 10 + 1 == u / 10))

/-- D of a context for the projected steps of one commit (R92). -/
def State.crosstalk (s : State) (n : Nat) (dp : List (Nat × Int)) : Int :=
  let at_ (t : Nat) : Int := ((dp.find? (·.1 == t)).map (·.2)).getD 0
  shrAway (s.cxS R.CTX_XTALK_KX_OWN n * at_ (n / 512) +
    s.cxS R.CTX_XTALK_KX_NBR n * sumI ((neighbours (n / 512)).map at_)) 16

/-- T_PC after a step D, saturating at ±PC_LIMIT. -/
def State.raisedTpc (s : State) (n : Nat) (tpc d : Int) : Int :=
  let lim : Int := s.rd (R.TL_PRECOMP_PC_LIMIT (n / 512))
  clamp (-lim) lim (tpc + d)

/-- Does a context take precompensation (R92)? -/
def State.takesPrecomp (s : State) (n : Nat) : Bool :=
  s.live n && s.cx R.CTX_CTL_CLASS n == 0 &&
    (s.cx R.CTX_XTALK_KX_OWN n != 0 || s.cx R.CTX_XTALK_KX_NBR n != 0)

/-- T_PC of context n with the steps of the commits given. -/
def State.tpcWith (s : State) (n : Nat) (cs : List Commit) : Int :=
  cs.foldl (fun v c => s.raisedTpc n v (s.crosstalk n c.dp)) (s.cxS R.CTX_TPC_T_PC n)

/-- BLEED_SHIFT: values below 2 act as 2. -/
def State.bleed (s : State) (t : Nat) : Nat := max 2 (s.rd (R.TL_PRECOMP_BLEED_SHIFT t))

/-! ### The update (R163 to R167) -/

/-- sp, fb and e of a pass (R163). -/
def State.errorOf (s : State) (n : Nat) (express : Bool) (word : Int) (sample : Nat → Int) : Int × Int × Int :=
  let sp := s.setpoint n express sample + s.inj n 1 sample
  let fb := word + s.inj n 3 sample
  (sp, fb, sat24 (sp - fb + s.inj n 2 sample))

/-- The words of a context as they are, as the result of a pass that moves nothing. -/
def State.keep (s : State) (n : Nat) (tpc : Int) : Upd :=
  { ctx := n, moved := false, u := s.cx R.CTX_OUT_U n, i := s.cxS R.CTX_INTEG_I n, pc := s.cxS R.CTX_PC_PC n, tpc := tpc,
    satHi := s.cx R.CTX_OUT_SAT_HI n == 1, satLo := s.cx R.CTX_OUT_SAT_LO n == 1, xfer := s.cx R.CTX_OUT_XFER n == 1,
    feCnt := s.cx R.CTX_HIST_FE_CNT n, feTrip := s.cx R.CTX_OUT_FE_TRIP n == 1, tripped := false }

/-- fe_check (R167): the fields of the following-error timer after this update. -/
def State.feCheck (s : State) (n : Nat) (e : Int) (x : Upd) : Upd :=
  let fr := s.cx R.CTX_ALT_FE_FRAMES n
  if fr = 0 then x
  else if s.cx R.CTX_SUPV_FE_LIMIT n * 256 < e.natAbs then
    let c := min 255 (x.feCnt + 1)
    let trip := decide (x.feCnt < fr ∧ c = fr)
    { x with feCnt := c, feTrip := x.feTrip || trip, tripped := trip }
  else { x with feCnt := 0, feTrip := false }

/-- The guard's clip status of the context's output, latched with the input set (R26). -/
def State.clipHi (s : State) (n : Nat) : Bool := match s.outKey n with | some k => decide (k ∈ s.clips.hi) | none => false
def State.clipLo (s : State) (n : Nat) : Bool := match s.outKey n with | some k => decide (k ∈ s.clips.lo) | none => false

/-- The control law of R163 from a feedback word; `express` leaves out the precompensation lines and shifts the integral term by
4 more (R169). `tpc` is T_PC with the steps of this frame. -/
def State.law (s : State) (n : Nat) (express : Bool) (word : Int) (sample : Nat → Int) (tpc : Int) : Upd :=
  let t := n / 512
  let e := (s.errorOf n express word sample).2.2
  let x := s.feCheck n e (s.keep n tpc)
  if x.tripped && s.cx R.CTX_CTL_FE_HOLD n == 1 then x
  else
    let (lo, hi) := s.limits n
    let lo : Int := lo
    let hi : Int := hi
    let g := s.table t (s.cx R.CTX_CTL_GAIN_LUT n) e.natAbs
    let shift := s.cx R.CTX_SHAPE_OUT_SHIFT n
    let p := asr (g * s.cxS R.CTX_GAIN_KP n * e) shift
    let u : Int := x.u
    let pc := if express then x.pc else x.pc + shrAway (x.tpc - x.pc) (s.rd (R.TL_PRECOMP_TAU_SHIFT t))
    let bl := if express || x.satHi || x.satLo then 0 else shrAway pc (s.bleed t)
    let pc := pc - bl
    let i := x.i + bl * 256
    let i := if x.xfer then clamp lo hi u * 256 - p - pc * 256 else i
    let v := p + i + pc * 256 + s.inj n 4 sample * 256
    let w := asr (v + 128) 8
    let k := s.cx R.CTX_SHAPE_SLEW_LOG2 n
    let limited := decide (k ≤ 20)
    let st : Int := 2 ^ k
    let up := limited && decide (u + st < w)
    let dn := limited && decide (w < u - st)
    let w := if limited then clamp (u - st) (u + st) w else w
    let w := clamp lo hi w
    let satHi := decide (w = hi) || up || s.clipHi n
    let satLo := decide (w = lo) || dn || s.clipLo n
    let di := asr (g * s.cxS R.CTX_GAIN_KI n * e) (shift + s.cx R.CTX_SHAPE_I_SHIFT n + (if express then 4 else 0))
    let i := if (decide (0 < di) && satHi) || (decide (di < 0) && satLo) then i else i + di
    { x with moved := true, u := w.toNat, i := sat32 i, pc := satSigned 21 pc, tpc := satSigned 21 (x.tpc - bl),
             satHi := satHi, satLo := satLo, xfer := false }

/-- A context's words take the result of a pass (R28, R163). -/
def State.store (s : State) (x : Upd) : State :=
  let n := x.ctx
  let s := s.setCx R.CTX_TPC_T_PC n (unsigned 21 x.tpc)
  let s := (s.setCx R.CTX_HIST_FE_CNT n x.feCnt).setCx R.CTX_OUT_FE_TRIP n (b01 x.feTrip)
  if x.moved then
    let s := ((s.setCx R.CTX_OUT_U n x.u).setCx R.CTX_INTEG_I n (unsigned 32 x.i)).setCx R.CTX_PC_PC n (unsigned 21 x.pc)
    let s := (s.setCx R.CTX_OUT_SAT_HI n (b01 x.satHi)).setCx R.CTX_OUT_SAT_LO n (b01 x.satLo)
    s.setCx R.CTX_OUT_XFER n (b01 x.xfer)
  else s

/-! ### Standard work of a frame (R28, R163, R168) -/

/-- N_eff (R168). -/
def State.nEff (s : State) (n : Nat) : Nat :=
  let d := s.cx R.CTX_CTL_DECIM n + 1
  if s.cx R.CTX_CTL_TARGET n = 1 then
    min 64 (max d (max (if s.isMode .frugal then 8 else 1) (if 2 ≤ s.throttle then 4 else 1)))
  else d

def State.updateFrame (s : State) (n : Nat) : Bool := s.clk.frame % s.nEff n == n % 512 % s.nEff n

/-- Does context n compute a Standard update from the latest input set? -/
def State.updatesNow (s : State) (n : Nat) : Bool :=
  s.stateOf n == stActive && s.cx R.CTX_CTL_CLASS n == 0 && !decide (n ∈ s.trimming) && !s.slotWaits n && !s.blankedNow n &&
    !s.divWaits n && !s.isSuspect n && s.updateFrame n

/-- The commits whose first precompensation step is released at the next boundary (R78, R82). -/
def State.stepsDue (s : State) : List Commit :=
  s.com.commits.filter fun c => (decide (c.phase = .fixed) || decide (c.phase = .switched)) && c.bsFrame == s.clk.frame + 1 &&
    !c.bsDone && !c.dp.isEmpty

/-- The result of the frame for one context: a hand-back word (R90), an update, or T_PC alone. -/
def State.frameResult (s : State) (n : Nat) (steps : List Commit) : Option Upd :=
  let tpc := if steps.isEmpty || !s.takesPrecomp n then s.cxS R.CTX_TPC_T_PC n else s.tpcWith n steps
  match s.loop.handback.find? fun h => h.1 == n && h.2.1 ≤ s.clk.frame with
  | some h => some { s.keep n tpc with moved := true, u := h.2.2, xfer := true }
  | none =>
    if s.updatesNow n then
      match s.feedback n with
      | some x => some (s.law n false (s.lawWord n x) s.frameSample tpc)
      | none => none
    else if tpc ≠ s.cxS R.CTX_TPC_T_PC n then some (s.keep n tpc) else none

/-- The FLAGS word of a response record (R179). -/
def State.recordFlags (s : State) (n : Nat) (updated express down : Bool) (chip : Nat) (x : Upd) : Nat :=
  s.stateOf n * 2 ^ 29 + b01 updated * 2 ^ 28 + b01 (s.blankedNow n) * 2 ^ 27 + b01 (s.isSuspect n) * 2 ^ 26 +
    b01 x.satHi * 2 ^ 25 + b01 x.satLo * 2 ^ 24 + s.cx R.CTX_OUT_XFER n * 2 ^ 23 + b01 x.feTrip * 2 ^ 22 + b01 down * 2 ^ 21 +
    b01 express * 2 ^ 20 + (if express then chip * 2 ^ 16 else 0)

/-- A 32-byte response record; a record of a plane that is down holds its FRAME and FLAGS alone (R181). -/
def State.responseRecord (s : State) (n frame chip : Nat) (express down : Bool) (word : Int) (sample : Nat → Int)
    (r : Option Upd) : List Nat :=
  let x := r.getD (s.keep n (s.cxS R.CTX_TPC_T_PC n))
  let updated := (r.map (·.moved)).getD false
  if down then le 4 frame ++ le 4 (2 ^ 21 + b01 express * 2 ^ 20 + (if express then chip * 2 ^ 16 else 0)) ++ List.replicate 24 0
  else
    let (sp, fb, e) := s.errorOf n express word sample
    let inj := if s.injPoint n = 0 then 0 else s.inj n (s.injPoint n) sample
    le 4 frame ++ le 4 (s.recordFlags n updated express down chip x) ++ le 4 (unsigned 32 sp) ++ le 4 (unsigned 32 fb) ++
      le 4 (unsigned 32 e) ++ le 4 (unsigned 32 inj) ++ le 4 x.u ++ le 4 (unsigned 32 x.i)

/-- The response channels that watch a context. -/
def State.watchers (s : State) (n : Nat) : List Nat :=
  (List.range 4).filter fun k => s.running (32 + k) && s.rd (R.RSP_CTRL_CONTEXT k) == n

/-- Is the plane that a response channel names out of service (R181)? -/
def State.rspDown (s : State) (k : Nat) : Bool :=
  let h := s.health (if s.rd (R.RSP_CTRL_PLANE k) = 1 then .B else .A)
  h == 1 || h == 2

/-- The records of the frame for the channels that watch a Standard context. -/
def State.frameRecords (s : State) (results : List Upd) : List (Nat × List Nat) :=
  ((List.range 4).filter fun k => s.running (32 + k)).filterMap fun k =>
    let n := s.rd (R.RSP_CTRL_CONTEXT k)
    if n < 40960 ∧ s.cx R.CTX_CTL_CLASS n = 0 then
      let word := match s.feedback n with | some x => s.lawWord n x | none => Config.absentWord n
      some (k, s.responseRecord n s.clk.frame 0 false (s.rspDown k) word s.frameSample (results.find? (·.ctx == n)))
    else none

/-- Complete the Standard work of the running frame (R28): every context's result, except in the tiles that overran (R29). -/
def State.completeFrame (s : State) (overran : List Nat) : State :=
  if s.loop.ready then s
  else
    let steps := s.stepsDue
    let ctxs := (s.listedCtx s.active).filter fun n => !decide (n / 512 ∈ overran)
    let results := ctxs.filterMap fun n => s.frameResult n steps
    let raised := if steps.isEmpty then [] else ctxs.filter s.takesPrecomp
    let trips := (results.filter (·.tripped)).map fun x => (x.ctx, LoopEvent.following)
    let recs := s.frameRecords results
    s.setLoop fun l => { l with
      ready := true, computed := results, overran := overran, raised := raised, due := l.due ++ trips, records := recs,
      handback := l.handback.filter fun h => s.clk.frame < h.2.1 || decide (h.1 / 512 ∈ overran) }

/-- The release at a boundary: the results come into force, the response records are written (R28, R180). -/
def State.releaseFrame (s : State) : State :=
  let s := s.over s.loop.computed State.store
  let s := s.over s.loop.records fun s r => s.putRecord (32 + r.1) r.2
  s.setLoop fun l => { l with computed := [], records := [], ready := false }

/-! ### Context states at a commit's B_s (R86 to R88, R92, R171) -/

/-- A level context that its cell no longer selects goes dormant; a HOLD cause is kept. -/
def State.sleepCtx (s : State) (n : Nat) : State :=
  if s.stateOf n = stActive then (s.setCx R.CTX_OUT_STATE n stDormant).setCx R.CTX_OUT_CAUSE n causeNone
  else if s.stateOf n = stHold then s.setCx R.CTX_OUT_STATE n stDormant else s

/-- A waking context returns to ACTIVE, or to HOLD if a cause is kept; XFER sets, its lost and frozen counts restart. -/
def State.wakeCtx (s : State) (n : Nat) : State :=
  if s.stateOf n = stDormant then
    let s := s.setCx R.CTX_OUT_STATE n (if s.cx R.CTX_OUT_CAUSE n = 0 then stActive else stHold)
    ((s.setCx R.CTX_OUT_XFER n 1).setCx R.CTX_PC_LOST_CNT n 0).setCx R.CTX_PC_FROZEN_CNT n 0
  else s

/-- The exchange of U and U_ALT when SP_SEL has changed (R171). -/
def State.exchange (s : State) (n : Nat) : State :=
  if s.cx R.CTX_CTL_DUAL_SP n = 1 then
    let u := s.cx R.CTX_OUT_U n
    ((s.setCx R.CTX_OUT_U n (s.cx R.CTX_ALT_U_ALT n)).setCx R.CTX_ALT_U_ALT n u).setCx R.CTX_OUT_XFER n 1
  else s

/-- A commit sets SP_SEL; a FENCED context is not changed. -/
def State.selectSp (s : State) (n sel : Nat) : State :=
  if s.stateOf n = stFenced ∨ s.cx R.CTX_CTL_SP_SEL n = sel then s
  else (s.setCx R.CTX_CTL_SP_SEL n sel).exchange n

/-- The contexts of a record that has come into force by a remap enter as waking contexts, for state st of the cell (R48). -/
def State.wakeCell (s : State) (r : CellRec) (st : Nat) : State :=
  let s := (s.wakeCtx r.ctx).wakeCtx (r.ctx + 3)
  if r.thermalOnly then s.selectSp r.ctx st else (s.sleepCtx (r.ctx + 2 - st)).wakeCtx (r.ctx + 1 + st)

/-- The Standard consequences of a commit in the tiles given: context states, set-points, precompensation targets that the
deadline has not raised, the projected step (R86, R91, R92). -/
def State.commitBs (s : State) (c : Commit) (tiles : Nat → Bool) : State :=
  let s := s.over c.cells fun s x =>
    let r := s.recordOf x.1
    if r.thermalOnly ∨ r.ctx = 0xFFFF ∨ ¬ tiles (r.ctx / 512) then s
    else (s.sleepCtx (r.ctx + 2 - x.2)).wakeCtx (r.ctx + 1 + x.2)
  let s := s.over c.setpoints fun s x => if tiles (x.1 / 512) then s.selectSp x.1 x.2 else s
  let s := s.over c.remaps fun s x =>
    let r := s.recordOf x.1
    if r.ctx = 0xFFFF ∨ ¬ tiles (r.ctx / 512) then s else s.wakeCell r (b01 (decide (x.1 ∈ s.route.crossed ∨ (x.1, 1) ∈ c.cells) &&
      !decide ((x.1, 0) ∈ c.cells)))
  let late := if c.dp.isEmpty then [] else
    (s.listedCtx s.active).filter fun n => tiles (n / 512) && s.takesPrecomp n && !decide (n ∈ s.loop.raised)
  let s := s.over late fun s n =>
    s.setCx R.CTX_TPC_T_PC n (unsigned 21 (s.raisedTpc n (s.cxS R.CTX_TPC_T_PC n) (s.crosstalk n c.dp)))
  s.over (c.dp.filter fun d => tiles d.1) fun s d => s.wrS (R.TL_DP_LAST_DP d.1) d.2

/-- The commits whose B_s is the latest boundary, and those that wait for a tile that overran (R85). -/
def State.allBs (s : State) : State :=
  let late := s.loop.bsLate
  let s := s.setLoop fun l => { l with bsLate := [] }
  let s := s.over late fun s x =>
    match s.com.commits.find? (·.num == x.1) with
    | some c => s.commitBs c (· == x.2)
    | none => s
  let now := s.com.commits.filter fun c => (decide (c.phase = .fixed) || decide (c.phase = .switched)) && c.bsFrame ≤ s.clk.frame &&
    !c.bsDone && 0 < c.bsFrame
  let s := s.over now fun s c =>
    let s := if c.phase = .fixed then s.applyRemaps c.num else s
    let c := (s.com.commits.find? (·.num == c.num)).getD c
    let s := s.commitBs c fun t => !decide (t ∈ s.loop.overran)
    let s := s.setLoop fun l => { l with bsLate := l.bsLate ++ s.loop.overran.map fun t => (c.num, t) }
    s.updCommit c.num fun c => { c with bsDone := true }
  s.setLoop fun l => { l with raised := [] }

/-- At the last blanked boundary of a commit the partial sums of its affected contexts are discarded (R145), and entries that
have ended are dropped. -/
def State.endBlanking (s : State) : State :=
  let ending := (s.loop.blank.filter fun b => b.2.2 == s.clk.frame).map (·.1)
  (s.clearSlots ending).setLoop fun l => { l with blank := l.blank.filter fun b => s.clk.frame ≤ b.2.2 }

/-! ### State requests (R153, R154) -/

namespace Code
def ctxState := 0x60
def ctxLimit := 0x61
def ctxField := 0x62
def ctxConflict := 0x63
end Code

/-- The code a context uses at the code length in force: thermal codes are mapped (R132). -/
def State.codeOf (s : State) (n : Nat) : Nat :=
  if s.thermalPath n then thermalCode s.longCode (s.cx R.CTX_BIND_HOME_CODE n) else s.cx R.CTX_BIND_HOME_CODE n

/-- The fast driver whose dither a context carries: its cell's (R133). -/
def State.ditherDriver (s : State) (n : Nat) : Option Nat :=
  if s.cx R.CTX_CTL_DITHER_PATH n = 1 ∨ s.cx R.CTX_CTL_DITHER_PATH n = 2 then (s.roleOf n).map fun r => (s.fabric.record r.1).phys
  else none

/-- CTX_FIELD checks (R154). -/
def State.fieldsBad (s : State) (n : Nat) : Bool :=
  let src := s.cx R.CTX_SPSRC_SRC n
  let ix := s.cx R.CTX_SPSRC_SRC_INDEX n
  let path := s.cx R.CTX_CTL_DITHER_PATH n
  let target := s.cx R.CTX_CTL_TARGET n
  6 ≤ s.cx R.CTX_CTL_FB_KIND n || 4 ≤ target || 5 ≤ src ||
    ((src == 1 || src == 2) && 4 ≤ ix) || (src == 3 && 8 ≤ ix) || (src == 4 && ix == n % 512) ||
    ((target == 2 || target == 3) && 128 ≤ s.cx R.CTX_BIND_ACT n) ||
    ((path == 1 || path == 2) && (match s.roleOf n with | some r => (s.fabric.record r.1).thermalOnly | none => true)) ||
    (path == 3 && (target != 1 || s.cx R.CTX_BIND_HOME_CODE n < 8 ||
      (s.cx R.CTX_BIND_LEND_EN n == 1 && s.cx R.CTX_BIND_LEND_CODE n < 8))) ||
    (s.cx R.CTX_CTL_CLASS n == 1 && (path != 0 || s.cx R.CTX_CTL_FB_KIND n != 0 || s.cx R.CTX_CTL_DUAL_SP n == 1)) ||
    (16 ≤ s.cx R.CTX_BIND_HOME_CODE n && !s.longCode)

/-- CTX_CONFLICT checks (R154). The two level contexts of one cell are never ACTIVE together. -/
def State.conflicts (s : State) (n : Nat) : Bool :=
  let key := s.outKey n
  let drv := s.ditherDriver n
  let code := s.codeOf n
  let path := s.cx R.CTX_CTL_DITHER_PATH n
  let pair (m : Nat) : Bool := match s.roleOf n, s.roleOf m with
    | some (a, i), some (b, j) => a == b && ((i == 1 && j == 2) || (i == 2 && j == 1))
    | _, _ => false
  (s.tileCtx s.active (n / 512)).any fun m =>
    m != n && (s.live m || s.stateOf m == stDormant) &&
      ((key.isSome && s.outKey m == key) ||
       (drv.isSome && s.cx R.CTX_CTL_DITHER_PATH m == path && s.ditherDriver m == drv && !pair m) ||
       (path != 0 && s.cx R.CTX_CTL_DITHER_PATH m != 0 && s.cx R.CTX_BIND_PD m == s.cx R.CTX_BIND_PD n && s.codeOf m == code))

/-- CTX_LIMIT (R170). -/
def State.expressFull (s : State) (n : Nat) : Bool :=
  let running := (s.listedCtx s.active).filter s.isExpressClass ++ s.trimming
  s.cx R.CTX_CTL_CLASS n == 1 && !mayEngage (running.filter fun m => m / 512 == n / 512).length running.length

/-- The checks of R154 on context n, made ACTIVE from OFF. -/
def State.activationCode (s : State) (n : Nat) : Nat :=
  if s.fieldsBad n then Code.ctxField else if s.conflicts n then Code.ctxConflict
  else if s.expressFull n then Code.ctxLimit else Code.ok

/-- Put a context into a state with a cause. -/
def State.putState (s : State) (n st cause : Nat) : State := (s.setCx R.CTX_OUT_STATE n st).setCx R.CTX_OUT_CAUSE n cause

/-- A context that passes the checks becomes ACTIVE, or DORMANT where its cell does not select it; XFER sets (R153, R166). -/
def State.activate (s : State) (n : Nat) : State :=
  (s.putState n (if s.selectedNow n then stActive else stDormant) causeNone).setCx R.CTX_OUT_XFER n 1

/-- The code a state request gets now (R153). -/
def State.requestCode (s : State) (n want : Nat) (owner : Bool) : Nat :=
  let cur := s.stateOf n
  match want with
  | 0 => if cur = stActive ∨ cur = stHold ∨ cur = stDormant ∨ (cur = stFenced ∧ owner) then Code.ok else Code.ctxState
  | 1 =>
    if cur = stOff then s.activationCode n
    else if cur = stHold then (if 16 ≤ s.cx R.CTX_BIND_HOME_CODE n ∧ ¬ s.longCode then Code.ctxField else Code.ok)
    else Code.ctxState
  | 3 => if cur = stActive then Code.ok else Code.ctxState
  | 4 => if owner then Code.ok else Code.ctxState
  | _ => Code.ctxState

/-- A permitted request takes its result. -/
def State.applyRequest (s : State) (n want : Nat) : State :=
  match want with
  | 0 => s.putState n stOff causeNone
  | 1 =>
    if s.stateOf n = stHold then (s.putState n stActive causeNone).setCx R.CTX_OUT_XFER n 1 else s.activate n
  | 3 => (s.putState n stHold causeRequested).setCx R.CTX_PC_GOOD_CNT n 0
  | 4 => s.putState n stFenced causeRequested
  | _ => s

/-- The requests of one context at a boundary: the last decides, all get its status, and the fields of their writes apply with it
or are taken back (R15, R153, R149). -/
def State.decideRequests (s : State) (n : Nat) (reqs : List StateReq) : State :=
  match reqs.getLast? with
  | none => s
  | some r =>
    let fields := reqs.flatMap (·.writes)
    let s1 := s.over fields fun s w => s.wrB w.1 w.2
    let code := s1.requestCode n r.state r.owner
    let s := if code = Code.ok then s1.applyRequest n r.state
      else s.over (reqs.flatMap (·.undo)).reverse fun s w => s.wrB w.1 w.2
    s.over reqs fun s r =>
      match r.head with
      | some h => s.answerAt r.since h r.opcode code []
      | none => s

/-- All state requests, in ascending context order (R153, R170). -/
def State.applyRequests (s : State) : State :=
  let reqs := s.loop.requests
  let ctxs := sortBy id (dedup (reqs.map (·.ctx)))
  let s := s.setLoop fun l => { l with requests := [] }
  s.over ctxs fun s n => s.decideRequests n (reqs.filter (·.ctx == n))

/-- The STATE a read of CTX_OUT returns: a pending request's value, or the state (R15). -/
def State.shownState (s : State) (n : Nat) : Nat :=
  match (s.loop.requests.filter (·.ctx == n)).getLast? with
  | some r => r.state
  | none => s.stateOf n

/-- Put a state request. -/
def State.request (s : State) (r : StateReq) : State := s.setLoop fun l => { l with requests := l.requests ++ [r] }

/-- A context is fenced by a reaction (R155): any state except OFF. One already FENCED keeps its cause. -/
def State.fenceCtx (s : State) (n cause : Nat) : State :=
  if s.stateOf n = stOff ∨ s.stateOf n = stFenced then s else s.putState n stFenced cause

/-! ### Coefficient changes (R165, R171) -/

/-- What a change of sets XFER: the coefficient fields of a context's words. -/
def State.coefficients (s : State) (n : Nat) : List Nat :=
  [s.cx R.CTX_GAIN_KP n, s.cx R.CTX_GAIN_KI n, s.cx R.CTX_SHAPE_OUT_SHIFT n, s.cx R.CTX_SHAPE_I_SHIFT n,
   s.cx R.CTX_LIMIT_OUT_HI n, s.cx R.CTX_LIMIT_OUT_LO n, s.cx R.CTX_CTL_GAIN_LUT n]

/-- What the boundary's writes must be compared with: the coefficients and SP_SEL of the contexts they touch, before them. -/
def State.beforeWrites (s : State) (ctxs : List Nat) : List (Nat × List Nat × Nat) :=
  ctxs.map fun n => (n, s.coefficients n, s.cx R.CTX_CTL_SP_SEL n)

/-- After the writes: XFER where a coefficient, or a point of the table in use, changed; the exchange where SP_SEL changed. -/
def State.afterWrites (s : State) (before : List (Nat × List Nat × Nat)) (tables : List (Nat × Nat)) : State :=
  let s := s.over before fun s b =>
    let s := if s.coefficients b.1 ≠ b.2.1 then s.setCx R.CTX_OUT_XFER b.1 1 else s
    if s.cx R.CTX_CTL_SP_SEL b.1 ≠ b.2.2 then s.exchange b.1 else s
  if tables.isEmpty then s
  else
    s.over ((s.listedCtx s.active).filter fun n => decide ((n / 512, s.cx R.CTX_CTL_GAIN_LUT n) ∈ tables)) fun s n =>
      s.setCx R.CTX_OUT_XFER n 1

/-! ### Express (R31, R169, R170) -/

/-- Does context n trim in the chip numbered absolutely (R89)? -/
def State.trimsIn (s : State) (n chip : Nat) : Option Commit :=
  s.com.commits.find? fun c => decide (n ∈ c.trimmed) && c.sChips ≤ chip && chip < c.sChips + 16

/-- Does context n compute an Express word for a chip: a CLASS = 1 context that is ACTIVE, not in QUIET nor at throttle level 2 and
above, or a trimming one? -/
def State.computesExpress (s : State) (n chip : Nat) : Bool :=
  (s.cx R.CTX_CTL_CLASS n == 1 && s.stateOf n == stActive && !s.isMode .quiet && s.throttle < 2) ||
    ((s.trimsIn n chip).isSome && s.stateOf n != stOff && s.stateOf n != stFenced)

/-- Does the chip contain an INVALID sample of context n's photodiode? The chip is of the running frame or the one before. -/
def State.chipInvalid (s : State) (n chip : Nat) : Bool :=
  let d := 32 * (n / 512) + s.cx R.CTX_BIND_PD n
  let k := chip % 16
  if chip / 16 = s.clk.frame then
    (s.recordWords d (8 * k + 7) (List.replicate 8 pedestal)).any wordInvalid
  else (slice (s.wordsOf d) (8 * k) 8).any wordInvalid

/-- The feedback of a chip: 16 · Σ(x − 256). -/
def expressWord (codes : List Nat) : Int := 16 * sumI (codes.map fun c => ((c % 16384 : Nat) : Int) - 256)

/-- The chip update of context n, none where it computes nothing. -/
def State.expressResult (s : State) (n chip : Nat) (codes : List Nat) : Option Upd :=
  if s.computesExpress n chip && !s.chipInvalid n chip then
    some (s.law n true (expressWord codes) (s.chipSample chip) (s.cxS R.CTX_TPC_T_PC n))
  else none

/-- What a computed chip word leaves beside its application: the hand-back word of the sixteenth chip, the word of chip 15, a
following-error trip. -/
def State.noteExpress (s : State) (chip : Nat) (x : Upd) : State :=
  let n := x.ctx
  let s := match s.trimsIn n chip with
    | some c => if chip = c.sChips + 15 then
        s.setLoop fun l => { l with handback := l.handback ++ [(n, c.eFrame, x.u)] } else s
    | none => s
  let s := if chip % 16 = 15 then
      s.setLoop fun l => { l with chip15 := l.chip15.filter (·.1 != n) ++ [(n, x.u)] } else s
  if x.tripped then s.due n .following else s

/-- The records of an Express chip (R179). -/
def State.chipRecords (s : State) (n chip : Nat) (codes : List Nat) (r : Option Upd) : State :=
  if s.cx R.CTX_CTL_CLASS n = 1 then
    s.over (s.watchers n) fun s k =>
      s.putRecord (32 + k) (s.responseRecord n (chip / 16) (chip % 16) true (s.rspDown k) (expressWord codes)
        (s.chipSample chip) r)
  else s

/-- EXPRESS_OVERRUN (R31): a word not applied by the end of the next chip is discarded and counted. -/
def State.expressOverrun (s : State) (n chip : Nat) : State :=
  if s.loop.expWait.any (fun w => w.1 == chip && w.2.ctx == n) && chip + 2 ≤ s.now / 4 then
    let s := s.setLoop fun l => { l with expWait := l.expWait.filter fun w => !(w.1 == chip && w.2.ctx == n) }
    s.bump (R.TL_LOOP_EVENTS_EXP_OVERRUNS (n / 512)) 1
  else s

/-! ### Margins and the Store Room (R172 to R174) -/

/-- The frame margin of a tile: LAST now, MIN at the end of the 1 s window. -/
def State.noteMargin (s : State) (t m : Nat) : State :=
  let old := ((s.loop.margins.find? (·.1 == t)).map (·.2)).getD 0xFFFF
  (s.wr (R.TL_LOOP_MARGIN_LAST t) (min m 0xFFFF)).setLoop fun l => { l with
    margins := l.margins.filter (·.1 != t) ++ [(t, min old m)] }

/-- A 1 s window ends at a frame whose number is a multiple of 50,000. -/
def State.endMarginWindow (s : State) : State :=
  if s.clk.frame % 50000 = 0 then
    (s.over s.loop.margins fun s m => s.wr (R.TL_LOOP_MARGIN_MIN m.1) (min m.2 0xFFFF)).setLoop fun l => { l with margins := [] }
  else s

/-- STORE_ROOM_READ_ECC (R173): an error in word `ix` of plane p's bank of tile t. -/
def State.storeEcc (s : State) (p : Plane) (t ix : Nat) (double : Bool) : State :=
  let s := s.wrP p (R.TL_STORE_STATUS_LAST_WORD t) ix
  if double then
    (s.wrP p (R.TL_STORE_STATUS_UNCORR t) 1).raise (planeMsg 7 t 2 p ix)
  else
    let f := R.TL_STORE_STATUS_CORRECTED t
    (s.wrP p f (satAdd f.top (s.rdP p f) 1)).raise (planeMsg 7 t 1 p ix)

/-- REFRESH_MISS (R174). -/
def State.refreshMiss (s : State) (p : Plane) (t : Nat) : State :=
  (s.wrP p (R.TL_STORE_STATUS_REFRESH_MISS t) 1).raise (planeMsg 7 t 3 p 0)

/-! ### Views -/

/-- The contexts of a tile in a state, counted on plane p's copy. -/
def State.countState (s : State) (p : Plane) (t st : Nat) : Nat := ((s.tileCtx p t).filter fun n => s.ctxState p n == st).length

/-- TL_LOOP_COUNTS and TL_LOOP_COUNTS2 of plane p. -/
def State.loopCountsView (s : State) (p : Plane) (t : Nat) : Nat :=
  s.countState p t stActive * 2 ^ 20 + s.countState p t stHold * 2 ^ 10 + s.countState p t stDormant
def State.loopCounts2View (s : State) (p : Plane) (t : Nat) : Nat :=
  let off := 512 - ((s.tileCtx p t).filter fun n => s.ctxState p n != stOff).length
  let ex := ((s.tileCtx p t).filter s.runsExpress).length
  off % 1024 * 2 ^ 20 + s.countState p t stFenced * 2 ^ 10 + min 32 ex

/-- LP_EXPRESS: TRIMMING and TOTAL. -/
def State.expressView (s : State) : Nat :=
  let trim := s.trimming.length
  min 1024 trim * 2 ^ 16 + min 1024 (((s.listedCtx s.active).filter s.isExpressClass).length + trim)

end Sys2Proof.Machine
end

