-- ==== Sys2Proof/Machine/Actuator.lean ====
section
/-! DEFINITION. Machine/Actuator.lean: actuator outputs (chapter 8): sources and precedence, heater channels, fast drivers, the
envelope guard, Primer safe values. Everything here happens at release boundaries; edges, ramps and refresh slots within a frame
change no state (log entry 36). -/

namespace Sys2Proof.Machine

open Sys2Proof

namespace Code
def guardAuth := 0x70
def guardPrimer := 0x71
def levelDriven := 0x72
end Code

def State.setAct (s : State) (f : Act → Act) : State := { s with act := f s.act }

def State.actTile (s : State) (t : Nat) : ActTile := s.act.tiles.getD t {}
def State.updTile (s : State) (t : Nat) (f : ActTile → ActTile) : State :=
  s.setAct fun a => { a with tiles := modAt a.tiles t f }

/-- The state of heater channel h; one not used yet starts in the mode, trim and accumulator of its registers (R198). -/
def State.chan_ (s : State) (h : Nat) : HtrChan :=
  (s.act.htr.find? (·.ch == h)).getD
    { ch := h, mode := s.rd (R.TL_HTR_CFG_MODE (h / 256) (h % 256)), inert := false, released := false, prev3 := 0,
      guarded := false, acc := h % 16 * 65536, pulses := 0, trim := s.rd (R.TL_HTR_CFG_TRIM (h / 256) (h % 256)),
      trimWaits := false, compl := 0, short := 0, load := 0, offAt := none }

def State.putChan (s : State) (c : HtrChan) : State :=
  s.setAct fun a => { a with htr := insertBy (·.ch) c (a.htr.filter (·.ch != c.ch)) }

def State.updHtr (s : State) (h : Nat) (f : HtrChan → HtrChan) : State := s.putChan (f (s.chan_ h))

/-! ### Latches (R205, R207, R212) -/

def State.htrLatched (s : State) (h : Nat) : Bool :=
  (s.rd (R.TL_HTR_OFF_LATCHED (h / 256) (h % 256 / 32))).testBit (h % 32)
def State.fdLatched (s : State) (d : Nat) : Bool :=
  (s.rd (R.TL_FD_OFF_LATCHED (d / 128) (d % 128 / 32))).testBit (d % 32)

def setBit (w i : Nat) : Nat := w ||| 2 ^ i
def clearBit (w i : Nat) : Nat := if w.testBit i then w - 2 ^ i else w

def State.latchHtr (s : State) (h : Nat) (on : Bool) : State :=
  let f := R.TL_HTR_OFF_LATCHED (h / 256) (h % 256 / 32)
  s.wr f (if on then setBit (s.rd f) (h % 32) else clearBit (s.rd f) (h % 32))
def State.latchFd (s : State) (d : Nat) (on : Bool) : State :=
  let f := R.TL_FD_OFF_LATCHED (d / 128) (d % 128 / 32)
  s.wr f (if on then setBit (s.rd f) (d % 32) else clearBit (s.rd f) (d % 32))

/-! ### The frame status of a channel (R205, R207, R208) -/

/-- One more frame of a condition. -/
def runOf (n : Nat) (on : Bool) : Nat := if on then min 16 (n + 1) else 0

/-- Status and counts of channel h at the boundary that ends a frame. -/
def State.frameStatus (s : State) (pins : List HeaterPin) (h : Nat) : State :=
  let t := h / 256
  let c := h % 256
  let x := s.chan_ h
  let pin : HeaterPin := (pins.find? (·.channel == h)).getD ⟨h, 0, 0, false, false⟩
  if x.mode = 0 then
    if x.pulses < 4 then s
    else
      let co := decide (4 ≤ pin.compliance)
      let sh := decide (4 ≤ pin.short)
      let s := (s.wr (R.TL_HTR_OUT_COMPLIANCE t c) (b01 co)).wr (R.TL_HTR_OUT_SHORT t c) (b01 sh)
      let y := { x with compl := runOf x.compl co, short := runOf x.short sh }
      let s := s.putChan y
      let s := if x.compl < 16 ∧ y.compl = 16 then s.setAct fun a => { a with due := a.due ++ [(0, h)] } else s
      let s := if x.compl = 16 ∧ y.compl = 0 then s.endReport (tileMsg t 0x30 2 h) else s
      if x.short < 16 ∧ y.short = 16 then s.setAct fun a => { a with due := a.due ++ [(1, h)] } else s
  else
    let s := (s.wr (R.TL_HTR_OUT_HEADROOM t c) (b01 pin.headroom)).wr (R.TL_HTR_OUT_HV_LOAD t c) (b01 pin.hvLoad)
    let y := { x with load := runOf x.load pin.hvLoad }
    let s := s.putChan y
    if x.load < 16 ∧ y.load = 16 then s.setAct fun a => { a with due := a.due ++ [(2, h)] } else s

def State.allStatus (s : State) (pins : List HeaterPin) : State :=
  s.over (dedup (s.act.htr.map (·.ch) ++ pins.map (·.channel))) fun s h => s.frameStatus pins h

/-- Is an actuator event due? Strike it and carry out f. -/
def State.takeActDue (s : State) (k h : Nat) (f : State → State) : State :=
  if (k, h) ∈ s.act.due then f (s.setAct fun a => { a with due := a.due.filter fun d => decide (d ≠ (k, h)) }) else s

/-- HEATER_OPEN (R207). -/
def State.heaterOpen (s : State) (h : Nat) : State := s.takeActDue 0 h fun s => s.raise (tileMsg (h / 256) 0x30 2 h)

/-- HEATER_SHORT and HEATER_LOAD: the fault, and the latch from the next boundary (R205, R207). -/
def State.heaterShort (s : State) (h : Nat) : State :=
  s.takeActDue 1 h fun s => (s.updHtr h fun c => { c with offAt := some (s.clk.frame + 1) }).raise (tileMsg (h / 256) 0x31 2 h)
def State.heaterLoad (s : State) (h : Nat) : State :=
  s.takeActDue 2 h fun s => (s.updHtr h fun c => { c with offAt := some (s.clk.frame + 1) }).raise (tileMsg (h / 256) 0x32 2 h)

/-- DRIVER_OVERLOAD: the driver is latched off at once, both sides at 0 V (R212). One latched already carries no current. -/
def State.driverOverload (s : State) (d : Nat) : State :=
  if s.fdLatched d then s else (s.latchFd d true).raise (tileMsg (d / 128) 0x33 3 d)

/-- Releases and latches at a boundary: a release first, so that a latch of the same boundary stays (R14, R207). -/
def State.applyLatches (s : State) : State :=
  let s := s.over s.act.htrRelease fun s h =>
    (s.latchHtr h false).updHtr h fun c => { c with compl := 0, short := 0, load := 0 }
  let s := s.over s.act.fdRelease fun s d => s.latchFd d false
  let s := s.setAct fun a => { a with htrRelease := [], fdRelease := [] }
  s.over (s.act.htr.filter fun c => match c.offAt with | some b => b ≤ s.clk.frame | none => false) fun s c =>
    (s.latchHtr c.ch true).updHtr c.ch fun c => { c with offAt := none }

/-! ### Modes and trims (R202, R206) -/

/-- A write of MODE: the mode in force stays until the next boundary. -/
def State.noteMode (s : State) (h : Nat) : State := s.putChan (s.chan_ h)

/-- At a boundary a changed MODE comes into force and the channel goes inert; the status of the mode it leaves goes with it (DEDUCED, log
entry 50). -/
def State.applyModes (s : State) : State :=
  s.over s.act.htr fun s c =>
    let m := s.rd (R.TL_HTR_CFG_MODE (c.ch / 256) (c.ch % 256))
    if m ≠ c.mode then
      let a := A.TL_HTR_OUT (c.ch / 256) (c.ch % 256)
      (s.putChan { c with mode := m, inert := true, compl := 0, short := 0, load := 0 }).setWord a (putBits (s.word a) 28 25 0)
    else s

/-- A new TRIM waits for the first idle run; one that has waited a frame takes effect at the boundary. `before` are the channels
whose TRIM the boundary's writes changed. -/
def State.applyTrims (s : State) (changed : List Nat) : State :=
  let s := s.over (s.act.htr.filter (·.trimWaits)) fun s c =>
    s.putChan { c with trimWaits := false, trim := s.rd (R.TL_HTR_CFG_TRIM (c.ch / 256) (c.ch % 256)) }
  s.over changed fun s h => s.updHtr h fun c => { c with trimWaits := c.mode == 0 }

/-- TRIM_APPLY (R202): an idle run begins. -/
def State.trimApply (s : State) (h : Nat) : State :=
  if (s.chan_ h).trimWaits then
    s.updHtr h fun c => { c with trimWaits := false, trim := s.rd (R.TL_HTR_CFG_TRIM (h / 256) (h % 256)) }
  else s

/-- ISET: 121 to 127 act as 120. The pulse current in nA before trim (R197). -/
def State.pulseCurrent (s : State) (h : Nat) : Nat :=
  let i := 500000 + min 120 (s.rd (R.TL_HTR_CFG_ISET (h / 256) (h % 256))) * 12500
  if s.on (R.TL_HTR_CFG_RANGE (h / 256) (h % 256)) then 2 * i else i

/-- The guard's current limit in nA: values above 160 act as 160 (R214). -/
def State.currentLimit (s : State) (h : Nat) : Nat := min 160 (s.rd (R.TL_GUARD_HTR_B_IMAX (h / 256) (h % 256))) * 25000

/-- The applied pulse current: the smaller of the two. -/
def State.appliedCurrent (s : State) (h : Nat) : Nat := min (s.pulseCurrent h) (s.currentLimit h)

/-! ### Sources (R196, R219) -/

/-- A tile is wholly at Primer. -/
def State.tilePrimer (s : State) (t : Nat) : Bool :=
  let a := s.actTile t
  let sinks := match s.pw.trans with | some x => x.tiles && !decide (x.target = .sleep) | none => false
  a.starved || a.applied || a.guardLost || s.tileFenced t || decide (s.power = .deepSleep) || sinks ||
    (s.isMode .frugal && (s.tileCtx s.active t).all fun n => s.stateOf n == stOff)

/-- The cells and elements whose physical cell is failed (R48). -/
def State.listedFailed (s : State) : List Nat := s.route.failed.flatMap s.cellsAtPhys

/-- The physical cells at Primer: failed cells, and primary cells after a remap (R48, R52). -/
def State.primerCells (s : State) : List CellRec :=
  ((s.listedFailed).map fun k => s.recordOf k) ++ s.route.remapped.map fun k => s.fabric.record k

/-- Heater channels and drivers at Primer for their cell. -/
def State.forcedHtr (s : State) : List Nat := s.primerCells.flatMap fun r => [r.htrU, r.htrL].filter (· != 0xFFFF)
def State.forcedFd (s : State) : List Nat := (s.primerCells.map (·.phys)).filter (· != 0xFFFF)

/-- Do the outputs of a FENCED context show the Primer value? The state stands in the input set of its boundary, the outputs follow
at the next release (R374, the example after R382; log entry 70). -/
def State.holdsPrimer (s : State) (n : Nat) : Bool := decide (n ∈ s.loop.primer)

/-- The outputs of the coming release follow the FENCED states of the frame that ends. -/
def State.latchFenced (s : State) : State :=
  s.setLoop fun l => { l with primer := (s.listedCtx s.active).filter fun n => s.stateOf n == stFenced }

/-- The word a heater channel takes: 1 inert, 2 Primer, 4 the guarded word. An entry whose mode differs from the channel's is
applied as inert (R206). -/
def State.htrSource (s : State) (forced : List Nat) (h : Nat) : Nat :=
  let t := h / 256
  let c := h % 256
  let x := s.chan_ h
  let fenced := (s.ctxOfHeater t c).any s.holdsPrimer
  if !s.act.loaded || s.htrLatched h || x.inert || s.therm.trip.isSome then 1
  else if s.tilePrimer t || fenced || decide (h ∈ forced) || !x.released then
    (if s.rd (R.TL_PRIMER_HTR_MODE t c) = x.mode then 2 else 1)
  else 4

/-- The context that drives a channel or level: one that is not OFF, else one that is OFF and holds its U (R156). -/
def State.driving (s : State) (l : List Nat) : Option Nat :=
  match l.find? fun n => s.stateOf n != stOff && s.stateOf n != stFenced with
  | some n => some n
  | none => l.head?

/-- The drive a SURVEY sweep puts on an output (R235), or the word that a divergence holds there for one release (R347). -/
def State.sweepDrive (s : State) (key : Nat) : Option Nat :=
  match s.cal.sweep.drives.find? (·.2.1 == key) with
  | some d => some d.2.2
  | none => (s.pl.items.find? fun d => d.key == key && d.frame + 1 == s.clk.frame && !d.waits).map (·.held)

/-! ### The guard on heater words (R214, R216) -/

/-- The channel limits of stage 2 (R152, R214). -/
def State.guardLimits (s : State) (h w : Nat) : Nat × Nat :=
  let hi := limitOf w (s.rd (R.TL_GUARD_HTR_A_HI (h / 256) (h % 256)))
  (min (limitOf w (s.rd (R.TL_GUARD_HTR_A_LO (h / 256) (h % 256)))) hi, hi)

def clampN (lo hi v : Nat) : Nat := max lo (min hi v)

/-- Stage 3: at most 2^k away from the reference. -/
def slewTo (limited : Bool) (k ref v : Nat) : Nat := if limited then clampN (ref - 2 ^ k) (ref + 2 ^ k) v else v

/-- A heater word on its way through the guard. -/
structure HtrRel where
  h : Nat
  src : Nat
  pdm : Bool
  word : Nat
  hi : Bool
  lo : Bool
  iclip : Bool
  own : Bool := false
deriving DecidableEq, Repr

/-- Stages 1 to 3 for one channel. A channel no context names keeps the word it has. -/
def State.htrStage3 (s : State) (forced : List Nat) (h : Nat) : HtrRel :=
  let t := h / 256
  let c := h % 256
  let x := s.chan_ h
  let src := s.htrSource forced h
  let wd := if x.mode = 1 then 14 else 20
  let w1 := match s.sweepDrive h, s.driving (s.ctxOfHeater t c) with
    | some w, _ => min w (2 ^ wd - 1)
    | none, some n => min (s.cx R.CTX_OUT_U n) (2 ^ wd - 1)
    | none, none => x.prev3
  let (lo, hi) := s.guardLimits h wd
  let w2 := clampN lo hi w1
  let ref := if x.guarded then x.prev3
    else if src = 1 ∨ s.rd (R.TL_PRIMER_HTR_MODE t c) ≠ x.mode then 0 else s.rd (R.TL_PRIMER_HTR_WORD t c)
  let k := s.rd (R.TL_GUARD_HTR_B_SLEW_LOG2 t c)
  let w3 := slewTo (k ≤ 20) k ref w2
  { h := h, src := src, pdm := x.mode == 0, word := w3, hi := w2 < w1 || w3 < w2, own := w2 < w1 || w3 < w2, lo := w1 < w2 || w2 < w3,
    iclip := x.mode == 0 && s.currentLimit h < s.pulseCurrent h }

/-- PRATED of a channel, in units of 16 μW... P = (Σ d × PRATED) >> 16 (R216). -/
def State.prated (s : State) (h : Nat) : Nat := s.rd (R.TL_GUARD_HTR_B_PRATED (h / 256) (h % 256))

/-- P_g of a list of words. -/
def State.projectWords (s : State) (l : List (Nat × Nat)) : Nat := sumOf (l.map fun x => x.2 * s.prated x.1) / 65536

/-- A cap in force, in mW: 70 % of it at throttle level 3. -/
def State.capNow (s : State) (cap : Nat) : Nat := if s.throttle = 3 then cap * 45875 / 65536 else cap

/-- The factor that brings `pg` under a cap: 65,536 where it already is. Where the Primer words alone exceed the cap and `pg` is 0 the spec
states no factor: an open value (log entry 51). -/
def capFactor (cap pfix pg : Nat) : Nat :=
  if cap * 1000 < pfix + pg then
    if pg = 0 then Config.emptyFactor cap pfix % 65536 else (cap * 1000 - pfix) * 65536 / pg
  else 65536

/-- Scale the guarded PDM words. -/
def scaleRel (k : Nat) (r : HtrRel) : HtrRel :=
  if r.src = 4 ∧ r.pdm ∧ k ≠ 65536 then { r with word := r.word * k / 65536, hi := true } else r

/-- What a list of words projects: P_fix and P_g. -/
def State.projections (s : State) (l : List HtrRel) : Nat × Nat :=
  (s.projectWords ((l.filter fun r => r.src == 2 && r.pdm).map fun r => (r.h, s.rd (R.TL_PRIMER_HTR_WORD (r.h / 256) (r.h % 256)))),
   s.projectWords ((l.filter fun r => r.src == 4 && r.pdm).map fun r => (r.h, r.word)))

/-- Stages 4 and 5: the words scaled, k_t of each tile, k_d, and P_d in μW. -/
def State.applyCaps (s : State) (l : List HtrRel) : List HtrRel × List (Nat × Nat) × Nat × Nat :=
  let tiles := dedup (l.map (·.h / 256))
  let per := tiles.map fun t =>
    let mine := l.filter fun r => r.h / 256 == t
    let (pf, pg) := s.projections mine
    let k := capFactor (s.capNow (s.rd (R.TL_GUARD_TILE_TILE_CAP t))) pf pg
    let mine := mine.map (scaleRel k)
    (t, k, mine, pf, (s.projections mine).2)
  let pfix := sumOf (per.map fun x => x.2.2.2.1)
  let pg := sumOf (per.map fun x => x.2.2.2.2)
  let kd := capFactor (s.capNow (min 24000 (s.rd R.EG_DEV_CAP_DEV_CAP))) pfix pg
  (per.flatMap fun x => x.2.2.1.map (scaleRel kd), per.map fun x => (x.1, x.2.1), kd, pfix + pg)

/-! ### Thermal dither at stage 6 (R132, R134 to R136, R205) -/

/-- The thermal offset of a context at sample n of frame f, for amplitude a: the code's sign and the wobble of an extremum kind. -/
def State.thermalOffset (s : State) (n f i : Nat) (a : Int) : Int :=
  let t := n / 512
  let long := s.longCode
  let lead := s.rd (R.TL_DITHER_TH_LEAD t)
  let c := s.namedSlot n % 32
  let at_ := if i + lead < 128 then f else f + 1
  let wob := if s.extremum n then (if at_ / periodFrames true long % 2 = 0 then a else -a) else 0
  a * thermalSign long c lead f i + wob

/-- The contexts that impress a thermal dither on channel h: live, bound to their slot, not Express. -/
def State.dithering (s : State) (h : Nat) : List Nat :=
  (s.ctxOfHeater (h / 256) (h % 256)).filter fun n =>
    s.live n && s.thermalPath n && (s.slotOf n).isSome && !s.runsExpress n

/-- The words a guarded channel carries at the 128 sample positions of frame f, each clipped to the stage-2 limits, and whether one
was clipped. -/
def State.ditheredWords (s : State) (r : HtrRel) (f : Nat) : List Nat × Bool :=
  match s.dithering r.h with
  | [] => (List.replicate 128 r.word, false)
  | n :: _ =>
    let a : Nat := 2 ^ s.thAmpNow (r.h / 256)
    let a : Int := if r.pdm then a else max 1 (a / 64)
    let (lo, hi) := s.guardLimits r.h (if r.pdm then 20 else 14)
    let raw := (List.range 128).map fun i => (r.word : Int) + s.thermalOffset n f i a
    let cut := raw.map fun v => (clamp lo hi v).toNat
    (cut, raw.any fun v => decide (clamp lo hi v ≠ v))

/-- The accumulator after a frame and the pulses in it, for the densities at the 128 sample positions (R198). -/
def pdmFrame (acc : Nat) (words : List Nat) : Nat × Nat :=
  let total := acc + 16 * sumOf words
  (total % 2 ^ 20, total / 2 ^ 20)

/-- The pulse train itself: does slot k carry a pulse, for an accumulator `acc` at slot 0 and a density d throughout (R198)? -/
def pdmPulse (acc d k : Nat) : Bool := (acc + (k + 1) * d) / 2 ^ 20 != (acc + k * d) / 2 ^ 20

/-! ### The release of heater words -/

/-- The channels a release works on: those a context names, those with a Primer word, those in use. -/
def State.channelsInPlay (s : State) : List Nat :=
  let named := (s.listedCtx s.active).filterMap fun n => match s.outKey n with | some k => if k < 20480 then some k else none | none => none
  let primer := s.reg.shared.filterMap fun e =>
    let a := e.1 - 0x100000
    if 0x100000 ≤ e.1 ∧ e.1 < 0x600000 ∧ 0x3000 ≤ a % 0x10000 ∧ a % 0x10000 < 0x3400 then
      some (256 * (a / 0x10000) + a % 0x10000 % 0x400 / 4) else none
  let swept := (s.cal.sweep.drives.map (·.2.1)).filter (· < 20480)
  sortBy id (dedup (s.act.htr.map (·.ch) ++ named ++ primer ++ swept))

/-- Show a released heater word, advance the channel's accumulator, note a clipped dither (R134). -/
def State.showHtr (s : State) (r : HtrRel) : State :=
  let t := r.h / 256
  let c := r.h % 256
  let x := s.chan_ r.h
  let (words, clip) := if r.src = 4 then s.ditheredWords r s.clk.frame
    else (List.replicate 128 (if r.src = 2 then s.rd (R.TL_PRIMER_HTR_WORD t c) else 0), false)
  let (acc, pulses) := if r.pdm ∧ r.src ≠ 1 then pdmFrame x.acc words else (x.acc, 0)
  let s := s.putChan { x with prev3 := r.word, guarded := r.src == 4, acc := acc, pulses := pulses, own := r.own }
  let s := ((s.wr (R.TL_HTR_OUT_GUARD_HI t c) (b01 (r.hi || r.iclip))).wr (R.TL_HTR_OUT_GUARD_LO t c) (b01 r.lo)).wr
    (R.TL_HTR_OUT_ICLIP t c) (b01 r.iclip)
  let s := (s.wr (R.TL_HTR_OUT_PRIMER t c) (b01 (r.src != 4))).wr (R.TL_HTR_OUT_WORD t c) r.word
  if clip then { s with dith := { s.dith with clips := dedup (s.dith.clips ++ s.dithering r.h) } } else s

/-- A context, or a sweep, releases a word to its channel: from then on the channel leaves its start-up Primer and a mode
change's inert state (R206, R219). That a sweep's drive counts as a release is DEDUCED from R235; log entry 37. -/
def State.markReleased (s : State) : State :=
  let keys := ((s.listedCtx s.active).filter s.live).filterMap s.outKey ++ s.cal.sweep.drives.map (·.2.1)
  s.over keys fun s k =>
    if k < 20480 ∧ (¬ (s.chan_ k).released ∨ (s.chan_ k).inert) then
      s.updHtr k fun c => { c with released := true, inert := false } else s

/-- TL_GUARD_EVENTS and the ENVELOPE fault of a tile at this release: SCALED counts stage 4 and stage 5, the fault goes by stages 2 to 4
(R217). -/
def State.envelope (s : State) (t : Nat) (clipped scaled devScaled : Bool) : State :=
  let s := s.when clipped (·.bump (R.TL_GUARD_EVENTS_CLIPPED t) 1)
  let s := s.when (scaled || devScaled) (·.bump (R.TL_GUARD_EVENTS_SCALED t) 1)
  if !clipped && !scaled then s
  else
    let quiet := match (s.actTile t).lastAct with
      | some f => decide (50000 < s.clk.frame - f)
      | none => true
    let s := s.updTile t fun a => { a with lastAct := some s.clk.frame }
    s.when quiet (·.raise (tileMsg t 0x38 0 0))

/-! ### The guard on driver levels (R210, R215) -/

/-- The key of a driver level. -/
def levelKey (t d cross : Nat) : Nat := 20480 + 2 * (128 * t + d) + cross

/-- A level of a driver's register. -/
def levelField (t d cross : Nat) : FieldAt := if cross = 1 then R.TL_FD_LEVEL_CROSS t d else R.TL_FD_LEVEL_BAR t d

/-- The state of a level; one not released yet stands at its register's value, the image's (R215). -/
def State.level (s : State) (k : Nat) : LevelState :=
  (s.act.levels.find? (·.key == k)).getD ⟨k, s.rd (levelField ((k - 20480) / 256) ((k - 20480) % 256 / 2) (k % 2)), none⟩
def State.putLevel (s : State) (l : LevelState) : State :=
  s.setAct fun a => { a with levels := insertBy (·.key) l (a.levels.filter (·.key != l.key)) }

/-- The contexts that name a level. -/
def State.ctxOfLevel (s : State) (k : Nat) : List Nat :=
  (s.tileCtx s.active ((k - 20480) / 256)).filter fun n => s.outKey n == some k

/-- The level limits; LV_LO above LV_HI acts as LV_HI. -/
def State.levelLimits (s : State) (t d : Nat) : Nat × Nat :=
  let hi := s.rd (R.TL_GUARD_FD_A_LV_HI t d)
  (min (s.rd (R.TL_GUARD_FD_A_LV_LO t d)) hi, hi)

/-- A level through stages 2 and 3: the stored level, clipped downwards, clipped upwards. -/
def State.guardLevel (s : State) (t d old w1 : Nat) : Nat × Bool × Bool :=
  let (lo, hi) := s.levelLimits t d
  let w1 := min w1 4095
  let w2 := clampN lo hi w1
  let k := s.rd (R.TL_GUARD_FD_B_LV_SLEW_LOG2 t d)
  let w3 := slewTo (k ≤ 11) k old w2
  (w3, w2 < w1 || w3 < w2, w1 < w2 || w2 < w3)

/-- Release one level; its clip status as (key, hi, lo). -/
def State.releaseLevel (s : State) (k : Nat) : State × (Nat × Bool × Bool) :=
  let t := (k - 20480) / 256
  let d := (k - 20480) % 256 / 2
  let cross := k % 2
  let l := s.level k
  let want := match s.sweepDrive k, s.driving (s.ctxOfLevel k) with
    | some w, _ => some w
    | none, some n => some (s.cx R.CTX_OUT_U n)
    | none, none => l.direct
  match want with
  | none => (s, (k, false, false))
  | some w =>
    let (v, hi, lo) := s.guardLevel t d l.stored w
    ((s.putLevel { l with stored := v }).wr (levelField t d cross) v, (k, hi, lo))

def State.releaseLevels (s : State) : State × List (Nat × Bool × Bool) :=
  let named := (s.listedCtx s.active).filterMap fun n => match s.outKey n with | some k => if 20480 ≤ k then some k else none | none => none
  let swept := (s.cal.sweep.drives.map (·.2.1)).filter (20480 ≤ ·)
  (sortBy id (dedup (named ++ swept ++ (s.act.levels.filter (·.direct.isSome)).map (·.key)))).foldl (fun acc k =>
    let (s, c) := acc.1.releaseLevel k
    (s, acc.2 ++ [c])) (s, [])

/-! ### The release (R195, R208, R216) -/

/-- The words of a boundary pass the guard and come into force; the clip status of the input set follows (R208). Before the first
released words of R426 only the Primer values apply (R219). -/
def State.releaseOutputs (s : State) : State :=
  if !s.imageApplied then s
  else
    let s := s.setAct fun a => { a with loaded := true, began := decide (s.boot.phase = .run) }
    if s.boot.phase ≠ .run then s else
    let s := s.markReleased
    let s := { s with dith := { s.dith with clips := [] } }
    let forced := s.forcedHtr
    let stage3 := s.channelsInPlay.map fun h => s.htrStage3 forced h
    let (rels, kts, kd, pd) := s.applyCaps stage3
    let s := s.over rels State.showHtr
    let (s, levels) := s.releaseLevels
    let tiles := dedup (stage3.map (·.h / 256) ++ levels.map fun x => (x.1 - 20480) / 256)
    let s := s.over tiles fun s t =>
      let kt := ((kts.find? (·.1 == t)).map (·.2)).getD 65536
      let clipped := (stage3.any fun r => r.h / 256 == t && (r.hi || r.lo)) ||
        levels.any fun x => (x.1 - 20480) / 256 == t && (x.2.1 || x.2.2)
      let s := (s.wr (R.TL_GUARD_STATUS_TILE_SCALED t) (b01 (kt != 65536))).wr (R.TL_GUARD_STATUS_DEV_SCALED t) (b01 (kd != 65536))
      let s := s.when (kt != 65536 || kd != 65536) (·.wr (R.TL_GUARD_STATUS_K_LAST t) (kt * kd / 65536))
      s.envelope t clipped (kt != 65536) (kd != 65536)
    let s := (s.wr R.EG_DEV_STATUS_SCALED (b01 (kd != 65536))).wr R.EG_DEV_STATUS_TOTAL (min 32767 (pd / 1000))
    let s := s.when (kd != 65536) (·.wr R.EG_DEV_STATUS_K_DEV kd)
    let pinned (h : Nat) : Bool := bits (s.word (A.TL_HTR_OUT (h / 256) (h % 256))) 28 25 != 0
    { s with clips := {
        hi := ((rels.filter fun r => r.hi || r.iclip || pinned r.h).map (·.h)) ++ (levels.filter (·.2.1)).map (·.1),
        lo := ((rels.filter (·.lo)).map (·.h)) ++ (levels.filter (·.2.2)).map (·.1) } }

/-! ### What a pin carries -/

/-- The word at a heater pin in the running frame, before dither, with its source (R196). -/
def State.htrPin (s : State) (h : Nat) : Nat × Nat :=
  let src := s.htrSource s.forcedHtr h
  (src, if src = 1 then 0 else if src = 2 then s.rd (R.TL_PRIMER_HTR_WORD (h / 256) (h % 256)) else s.rd (R.TL_HTR_OUT_WORD (h / 256) (h % 256)))

/-- The source of a driver: 1 inert, 2 Primer, 4 its selected level. -/
def State.fdSource (s : State) (d : Nat) : Nat :=
  let t := d / 128
  let k := levelKey t (d % 128) (s.rd (R.TL_FD_CFG_SEL t (d % 128)))
  if !s.act.loaded || s.fdLatched d || s.therm.trip.isSome then 1
  else if !s.act.began || s.tilePrimer t || decide (d ∈ s.forcedFd) || (s.ctxOfLevel k).any s.holdsPrimer ||
      ((s.act.levels.find? (·.key == k)).isNone && (s.ctxOfLevel k).all fun n => !s.live n) then 2
  else 4

/-- The level and the common mode a driver shows. -/
def State.fdShown (s : State) (d : Nat) : Nat × Nat :=
  let t := d / 128
  let i := d % 128
  if s.fdSource d = 2 then (s.rd (R.TL_PRIMER_FD_LEVEL t i), s.rd (R.TL_PRIMER_FD_VCM_CODE t i))
  else (s.rd (levelField t i (s.rd (R.TL_FD_CFG_SEL t i))), s.rd (R.TL_FD_CFG_VCM_CODE t i))

/-- A side of a driver in units of 3.3 V / 4,096, before dither, confined to 0 V and VFAST (R209): P for `sign` 1, N for −1. -/
def sideOf (vcm level : Nat) (sign : Int) : Int := clamp 0 4096 (16 * (vcm : Int) + sign * ((level : Int) - 2048))

def State.fdPin (s : State) (d : Nat) (sign : Int) : Int :=
  if s.fdSource d = 1 then 0 else sideOf (s.fdShown d).2 (s.fdShown d).1 sign

/-- Pre-emphasis of a transition from one level to another: does a side saturate (R211, R215)? -/
def State.emphasisClips (s : State) (d old new : Nat) : Nat :=
  let t := d / 128
  let i := d % 128
  let amp := min (min 16 (s.rd (R.TL_FD_CFG_PE_AMP t i))) (s.rd (R.TL_GUARD_FD_B_PE_MAX t i))
  let target : Int := 64 * ((new : Int) - 2048) + ((new : Int) - old) * amp
  let vcm : Int := 1024 * s.rd (R.TL_FD_CFG_VCM_CODE t i)
  if s.rd (R.TL_FD_CFG_PE_LEN t i) = 0 ∨ amp = 0 then 0
  else ([vcm + target, vcm - target].filter fun v => decide (v < 0 ∨ 262144 < v)).length

/-- Count the pre-emphasis saturations of the drivers that a commit switches (R211). -/
def State.countEmphasis (s : State) (before : State) (cells : List (Nat × Nat)) : State :=
  s.over cells fun s x =>
    match s.driverOf x.1 with
    | some d =>
      if before.rd (R.TL_FD_CFG_SEL (d / 128) (d % 128)) ≠ s.rd (R.TL_FD_CFG_SEL (d / 128) (d % 128)) ∧ s.fdSource d = 4 then
        s.bump (R.TL_GUARD_EVENTS_PE_CLIPS (d / 128)) (s.emphasisClips d (before.fdShown d).1 (s.fdShown d).1)
      else s
    | none => s

/-! ### Primer (R218 to R221) -/

/-- Frame handshakes of a boundary: consecutive ones and missed ones (R220, R221). A starved tile whose handshakes resume reports
the end (R386). -/
def State.handshakes (s : State) (missed : List Nat) : State :=
  s.over (List.range 80) fun s t =>
    if t ∈ missed then s.updTile t fun a => { a with hand := 0, missed := a.missed + 1 }
    else
      let s := s.when ((s.actTile t).starved && (s.actTile t).missed != 0) (·.endReport (tileMsg t 0x3A 0 0))
      s.updTile t fun a => { a with hand := min 16 (a.hand + 1), missed := 0 }

/-- STARVATION (R220): the tile's own timer has passed 60 μs. -/
def State.starvation (s : State) (t : Nat) : State :=
  if (s.actTile t).starved then s
  else
    let s := s.updTile t fun a => { a with starved := true }
    (s.wr (R.TL_GUARD_STATUS_STARVED t) 1).raise (tileMsg t 0x3A 0 0)

/-- GUARD_INTEGRITY (R217): Primer from the next boundary, and the fault. -/
def State.guardIntegrity (s : State) (t : Nat) : State :=
  (s.updTile t fun a => { a with guardDue := true }).raise (tileMsg t 0x39 0 0)

/-- Primer causes that apply or end at a boundary; a tile that leaves Primer sets XFER in its ACTIVE contexts (R219, R221). -/
def State.applyPrimer (s : State) : State :=
  s.over (List.range 80) fun s t =>
    let a := s.actTile t
    if !a.applyDue && !a.guardDue && !a.resumeDue then s
    else
      let s := if a.resumeDue && !(a.starved || a.applied || a.guardLost) then s.updTile t fun a => { a with resumeDue := false }
        else if a.resumeDue then
          let s := s.updTile t fun a => { a with starved := false, applied := false, guardLost := false, resumeDue := false }
          s.over ((s.tileCtx s.active t).filter fun n => s.stateOf n == stActive) fun s n => s.setCx R.CTX_OUT_XFER n 1
        else s
      let s := s.updTile t fun a => { a with
        applied := a.applied || a.applyDue, guardLost := a.guardLost || a.guardDue, applyDue := false, guardDue := false }
      let b := s.actTile t
      (s.wr (R.TL_GUARD_STATUS_STARVED t) (b01 b.starved)).wr (R.TL_GUARD_STATUS_PRIMER_FORCED t) (b01 (b.applied || b.guardLost))

/-- The tiles of an 80-bit mask. -/
def maskTiles (m : Nat) : List Nat := onesBelow 80 m

/-- PRIMER_APPLY (R219). -/
def State.cmdPrimerApply (s : State) (h : CmdHead) (tiles : Nat) : State :=
  (s.over (maskTiles tiles) fun s t => s.updTile t fun a => { a with applyDue := true }).answer h 0x2A Code.ok

/-- TILE_RESUME (R221): it ends a PRIMER_APPLY that waits for the same boundary too (log entry 52); refused with BUSY unless handshakes have reached every named tile at 16 consecutive boundaries. -/
def State.cmdTileResume (s : State) (h : CmdHead) (tiles : Nat) : State :=
  if (maskTiles tiles).all fun t => (s.actTile t).hand == 16 then
    (s.over (maskTiles tiles) fun s t => s.updTile t fun a => { a with resumeDue := true, applyDue := false }).answer h 0x2B
      Code.ok
  else s.answer h 0x2B Code.busy

/-- The channels and drivers whose Primer entry or guard limits are listed. -/
def State.guardedUnits (s : State) (lo hi size : Nat) : List Nat :=
  dedup (s.reg.shared.filterMap fun e =>
    let a := (e.1 - 0x100000) % 0x10000
    if 0x100000 ≤ e.1 ∧ e.1 < 0x600000 ∧ lo ≤ a ∧ a < hi then
      some (size * ((e.1 - 0x100000) / 0x10000) + (a - lo) % (4 * size) / 4) else none)

/-- Does a heater entry, a driver entry lie within its guard limits (R218)? -/
def State.primerHtrOk (s : State) (h : Nat) : Bool :=
  let w := s.rd (R.TL_PRIMER_HTR_WORD (h / 256) (h % 256))
  let (lo, hi) := s.guardLimits h (if s.rd (R.TL_PRIMER_HTR_MODE (h / 256) (h % 256)) = 1 then 14 else 20)
  lo ≤ w && w ≤ hi
def State.primerFdOk (s : State) (d : Nat) : Bool :=
  let w := s.rd (R.TL_PRIMER_FD_LEVEL (d / 128) (d % 128))
  let (lo, hi) := s.levelLimits (d / 128) (d % 128)
  lo ≤ w && w ≤ hi

/-- Every entry lies within the guard, and the Primer power of every tile and of the device within the caps (R218). A channel with
nothing listed has entry 0 and limits 0. -/
def State.primerFits (s : State) : Bool :=
  let hs := dedup (s.guardedUnits 0x2000 0x2400 256 ++ s.guardedUnits 0x2400 0x2800 256 ++ s.guardedUnits 0x3000 0x3400 256)
  let ds := dedup (s.guardedUnits 0x2800 0x2A00 128 ++ s.guardedUnits 0x3400 0x3600 128)
  let power (l : List Nat) : Nat := s.projectWords ((l.filter fun h => s.rd (R.TL_PRIMER_HTR_MODE (h / 256) (h % 256)) == 0).map fun h =>
    (h, s.rd (R.TL_PRIMER_HTR_WORD (h / 256) (h % 256))))
  let tiles := dedup (hs.map (· / 256))
  hs.all s.primerHtrOk && ds.all s.primerFdOk &&
    tiles.all (fun t => power (hs.filter (· / 256 == t)) ≤ s.rd (R.TL_GUARD_TILE_TILE_CAP t) * 1000) &&
    sumOf (tiles.map fun t => power (hs.filter (· / 256 == t))) ≤ min 24000 (s.rd R.EG_DEV_CAP_DEV_CAP) * 1000

/-! ### Failed cells (R52, R212) -/

/-- Is a cell or element failed: its tile fenced, its driver latched, or a context that a fault reaction fenced holds its level (a
THERMAL_ONLY cell: its bias) at Primer? -/
def State.failsNow (s : State) (k : Nat) : Bool :=
  let r := s.recordOf k
  let byFault (n : Nat) : Bool := s.holdsPrimer n && s.stateOf n == stFenced &&
    (s.cx R.CTX_OUT_CAUSE n == causeFault || s.cx R.CTX_OUT_CAUSE n == causeEcc)
  (r.phys != 0xFFFF && (s.tileFenced (r.phys / 128) || s.fdLatched r.phys)) ||
    (r.ctx != 0xFFFF && (if r.thermalOnly then byFault r.ctx else byFault (r.ctx + 1) || byFault (r.ctx + 2)))

/-- The cells that can be failed: nothing needs a look while no tile is fenced, no driver latched and no context fenced. -/
def State.anyFailure (s : State) : Bool :=
  (List.range 80).any (fun t => s.tileFenced t) ||
    s.reg.shared.any (fun e => 0x100000 ≤ e.1 && e.1 < 0x600000 && 0x1820 ≤ (e.1 - 0x100000) % 0x10000 &&
      (e.1 - 0x100000) % 0x10000 < 0x1830) ||
    (s.listedCtx s.active).any fun n => s.stateOf n == stFenced

/-- The committed connections that are BROKEN (R52). -/
def State.brokenNow (s : State) : List (Nat × Nat) :=
  (s.route.committed.filter fun c =>
    (pathCells s.fabric.n c.inp c.out c.path).any fun x =>
      s.cellFailed x.1 && (!s.stateKnown x.1 || b01 (s.recordOf x.1).primerCross != x.2)).map fun c => (c.inp, c.out)

/-- BROKEN notices: to the owner of the connection and to the device owner (R52, R258). -/
def State.brokenNotice (s : State) (x : Nat × Nat) : State :=
  let body := be 2 x.1 ++ be 2 x.2
  match s.route.committed.find? fun c => c.inp == x.1 && c.out == x.2 with
  | some c => s.over (dedup [c.owner, 30]) fun s p => s.notice p 0x83 Code.ok 0 body
  | none => s

/-- The failed cells and the broken connections at a boundary. -/
def State.updateFailed (s : State) : State :=
  let failed := if s.anyFailure then ((List.range s.fabric.elementCount).filter s.failsNow).map fun k => (s.recordOf k).phys else []
  let s := { s with route := { s.route with failed := sortBy id (dedup failed) } }
  let broken := if s.route.failed.isEmpty then [] else s.brokenNow
  let s := s.over (broken.filter fun x => !decide (x ∈ s.route.broken)) State.brokenNotice
  { s with route := { s.route with broken := broken } }

end Sys2Proof.Machine
end

