-- ==== Sys2Proof/Machine/Calibration.lean ====
section
/-! DEFINITION. Machine/Calibration.lean: tile runs, slice and pedestal calibration, plausibility, temperature triggers, host
writes to CAL registers, and the SURVEY sweeps (chapter 9). What a comparator or converter measures arrives with
FRAME_BOUNDARY, named by tile and by the word offset of its CAL register. -/

namespace Sys2Proof.Machine

open Sys2Proof

def calRange := 0x78
def calMode := 0x79
def calDenied := 0x7A

def State.tileCal (s : State) (t : Nat) : TileCal := s.cal.tiles.getD t {}
def State.updCal (s : State) (t : Nat) (f : TileCal → TileCal) : State :=
  { s with cal := { s.cal with tiles := modAt s.cal.tiles t f } }

/-- The calibration items as word offsets from 0x6000 (R368, UNIT 7). -/
def itemRef := 2
def itemHv := 3
def itemSlice (j : Nat) := 0x40 + j
def itemTia (j : Nat) := 0x80 + j
def itemHtr (c : Nat) := 0x100 + c

/-- What the boundary's operand brings for an item. -/
def calVals (x : FrameIn) (t item : Nat) : List Int :=
  match x.cal.find? fun v => v.tile == t && v.item == item with
  | some v => v.values
  | none => []

/-- A value of tile t comes into force at this boundary: GEN advances once for it (R231). -/
def State.touchCal (s : State) (t : Nat) : State := { s with cal := { s.cal with touched := dedup (s.cal.touched ++ [t]) } }

/-- GEN of the tiles in which a value came into force. -/
def State.advanceGens (s : State) : State :=
  let s := s.over s.cal.touched fun s t => s.advance (R.TL_CAL_CTRL_GEN t)
  { s with cal := { s.cal with touched := [] } }

/-- A measured result fails: FAIL, FAILS, FAILED in a run, and the fault (R230). -/
def State.calFails (s : State) (t item : Nat) (fail : FieldAt) (inRun : Bool) : State :=
  let s := (s.wr fail 1).bump (R.TL_CAL_STATUS_FAILS t) 1
  (s.when inRun (·.wr (R.TL_CAL_STATUS_FAILED t) 1)).raise (tileMsg t 0x40 7 item)

/-- Does a result pass R230: within the absolute limits and, once measured, the change limit? -/
def plausible (meas : Bool) (lo hi change old new : Int) : Bool :=
  decide (lo ≤ new ∧ new ≤ hi) && (!meas || decide ((new - old).natAbs ≤ change.natAbs))

/-! ### Host writes (R232) -/

/-- Has a host write of the item come into force since the boundary `since`? -/
def State.overridden (s : State) (t item since : Nat) : Bool :=
  s.cal.written.any fun w => w.1 == t && w.2.1 == item && since < w.2.2

/-- A host write of an item comes into force at this boundary: MEAS clears, and a measurement in progress is discarded when it
ends. -/
def State.hostCal (s : State) (t item : Nat) (meas : FieldAt) : State :=
  let s := (s.wr meas 0).touchCal t
  { s with cal := { s.cal with
      written := s.cal.written.filter (fun w => s.clk.frame < w.2.2 + 60) ++ [(t, item, s.clk.frame)] } }

/-- A result is discarded under R232. -/
def State.discardCal (s : State) (t : Nat) : State := s.bump (R.TL_CAL_CTRL_OVERRIDDEN t) 1

/-- The limits of R230 for a field of a CAL register, none where the item has none. -/
def calLimits (off hi : Nat) : Option (Int × Int) :=
  if off = 8 then (if hi = 7 then some (-127, 127) else none)
  else if off = 12 then (if hi = 7 then some (-127, 127) else some (-328, 328))
  else if 0x100 ≤ off ∧ off ≤ 0x180 then (if hi = 7 then some (-48, 48) else some (-245, 245))
  else if 0x400 ≤ off ∧ off < 0x800 then (if hi = 21 then some (-31, 31) else none)
  else none

/-! ### Tile runs (R225 to R229) -/

/-- A request: remembered once; the run starts at the first boundary that follows (R225, R226). -/
def State.requestRun (s : State) (t : Nat) : State := s.updCal t fun c => { c with req := true, first := if c.req || c.trig then c.first else s.clk.frame + 1 }

/-- A temperature trigger is remembered likewise. -/
def State.triggerRun (s : State) (t : Nat) : State :=
  s.updCal t fun c => { c with trig := true, first := if c.req || c.trig then c.first else s.clk.frame + 1 }

/-- The state permits runs: RUN and IDLE (R226). -/
def State.runsAllowed (s : State) : Bool := decide (s.power = .run) || decide (s.power = .idle)

/-- What TL_CAL_CTRL.PENDING shows: a run is remembered that cannot start yet (R226). -/
def State.calPending (s : State) (t : Nat) : Bool :=
  let c := s.tileCal t
  (c.req || c.trig) && (c.start.isSome || !s.runsAllowed || (!c.req && s.isMode .survey))

/-- TL_CAL_CTRL as it reads. -/
def State.calCtrlView (s : State) (t : Nat) : Nat :=
  putBits (putBits (s.word (A.TL_CAL_CTRL t)) 30 30 (b01 (s.tileCal t).start.isSome)) 29 29 (b01 (s.calPending t))

/-- TILE_RUN_START (R225): the run starts at the boundary just passed. -/
def State.tileRunStart (s : State) (t : Nat) : State :=
  let c := s.tileCal t
  if c.start.isSome || !s.runsAllowed || !(c.req || (c.trig && !s.isMode .survey)) || s.clk.frame < c.first then s
  else s.updCal t fun c => { c with
    req := false, trig := false, start := some s.clk.frame, temp := s.rdS (R.TH_SENSOR_TEMP t), endDue := false,
    aborting := false, skip := false, live := false, hvOk := false }

/-- TILE_RUN_END (R225): boundary K + 771. -/
def State.tileRunEnd (s : State) (t : Nat) : State :=
  let c := s.tileCal t
  if !c.endDue then s
  else (s.wrS (R.TL_CAL_STATUS_T_LAST t) c.temp).updCal t fun c => { c with start := none, endDue := false }

/-- Can channel h be measured in the running frame (R226)? -/
def State.measurable (s : State) (h : Nat) : Bool :=
  let t := h / 256
  let src := s.htrSource s.forcedHtr h
  let w := s.rd (R.TL_HTR_OUT_WORD t (h % 256))
  src == 4 && !s.tilePrimer t &&
    (if (s.chan_ h).mode = 0 then decide (16384 ≤ w) else decide (64 ≤ w) && !s.on (R.TL_HTR_OUT_HEADROOM t (h % 256)))

/-- Before the boundary's actions: the channel whose frame A or B ends, can it be measured? -/
def State.calBefore (s : State) : State :=
  s.over (List.range 80) fun s t =>
    match (s.tileCal t).start with
    | none => s
    | some k =>
      let o := s.clk.frame - k
      if 3 ≤ o ∧ o < 771 ∧ (o - 3) % 3 ≠ 1 then
        let ok := s.measurable (256 * t + (o - 3) / 3)
        s.updCal t fun c => { c with skip := !ok }
      else s

/-- PRATED_LOW follows PFULL > 16 × PRATED; each rise raises the fault, a fall ends it (R227). -/
def State.checkPrated (s : State) (h : Nat) : State :=
  let t := h / 256
  let c := h % 256
  let low := decide (16 * s.prated h < s.rd (R.TL_CAL_HTR_PFULL t c))
  let was := s.on (R.TL_CAL_HTR_PRATED_LOW t c)
  let s := s.wr (R.TL_CAL_HTR_PRATED_LOW t c) (b01 low)
  if low && !was then s.raise (tileMsg t 0x34 2 h) else if !low && was then s.endReport (tileMsg t 0x34 2 h) else s

/-- Frame K: bandgap and delay line. `values`: the correction of BG_TRIM in steps of 0.01 %, DL_TRIM. -/
def State.calRef (s : State) (t k : Nat) (values : List Int) : State :=
  match values with
  | [corr, dl] =>
    if s.overridden t itemRef k then s.discardCal t
    else
      let meas := s.on (R.TL_CAL_REF_MEAS t)
      let traced := s.on R.CAL_CTRL_USE_REFIN && s.on R.CAL_STATUS_REFIN_OK
      let corr := if meas then clamp (-5) 5 corr else corr
      let bg := s.rdS (R.TL_CAL_REF_BG_TRIM t) + corr
      let s := if !traced then s
        else if plausible false (-127) 127 0 0 bg then
          ((s.wrS (R.TL_CAL_REF_BG_TRIM t) bg).wr (R.TL_CAL_REF_MEAS t) 1).touchCal t
        else s.calFails t itemRef (R.TL_CAL_REF_FAIL t) true
      if plausible false 0 63 0 0 dl then (s.wr (R.TL_CAL_REF_DL_TRIM t) dl.toNat).touchCal t
      else s.calFails t itemRef (R.TL_CAL_REF_FAIL t) true
  | _ => s

/-- Frames K+1 and K+2: offset and gain of the held-voltage DAC. MEAS sets once both were accepted. -/
def State.calHv (s : State) (t k : Nat) (gain : Bool) (values : List Int) : State :=
  match values with
  | [v] =>
    if s.overridden t itemHv k then s.discardCal t
    else
      let meas := s.on (R.TL_CAL_HV_MEAS t)
      if gain then
        if plausible meas (-328) 328 33 (s.rdS (R.TL_CAL_HV_GAIN t)) v then
          let s := (s.wrS (R.TL_CAL_HV_GAIN t) v).touchCal t
          s.when (s.tileCal t).hvOk (·.wr (R.TL_CAL_HV_MEAS t) 1)
        else s.calFails t itemHv (R.TL_CAL_HV_FAIL t) true
      else if plausible meas (-127) 127 8 (s.rdS (R.TL_CAL_HV_OFS t)) v then
        ((s.wrS (R.TL_CAL_HV_OFS t) v).touchCal t).updCal t fun c => { c with hvOk := true }
      else s.calFails t itemHv (R.TL_CAL_HV_FAIL t) true
  | _ => s

/-- Put a TRIM into force; it acts under R202. -/
def State.putTrim (s : State) (h : Nat) (v : Int) : State :=
  let s := (s.wrS (R.TL_HTR_CFG_TRIM (h / 256) (h % 256)) v).touchCal (h / 256)
  s.updHtr h fun c => { c with trimWaits := c.mode == 0 }

def State.putHvOfs (s : State) (h : Nat) (v : Int) : State :=
  (s.wrS (R.TL_CAL_HTR_HV_OFS (h / 256) (h % 256)) v).touchCal (h / 256)

/-- A channel is skipped in its slot. -/
def State.skipChan (s : State) (t c : Nat) : State :=
  (s.wr (R.TL_CAL_HTR_SKIP t c) 1).bump (R.TL_CAL_STATUS_SKIPPED t) 1

/-- Boundary K+4+3c: the result of frame A (R227, R228). `values`: ε_A, or the error in half LSB. -/
def State.frameA (s : State) (t c k : Nat) (values : List Int) : State :=
  let h := 256 * t + c
  let pdm := (s.chan_ h).mode == 0
  let old := if pdm then s.rdS (R.TL_HTR_CFG_TRIM t c) else s.rdS (R.TL_CAL_HTR_HV_OFS t c)
  let s := s.updCal t fun x => { x with live := false, old := old }
  if (s.tileCal t).skip then s.skipChan t c
  else
    match values with
    | [e] =>
      if s.overridden t (itemHtr c) (k + 3 + 3 * c) then s.discardCal t
      else
        let new := if pdm then old - roundDiv e 4 else -e
        let ok := if pdm then plausible false (-32) 31 0 old new
          else plausible (s.on (R.TL_CAL_HTR_MEAS t c)) (-31) 31 4 old new
        if ok then
          let s := if pdm then s.putTrim h new else s.putHvOfs h new
          s.updCal t fun x => { x with live := true }
        else s.calFails t (itemHtr c) (R.TL_CAL_HTR_FAIL t c) true
    | _ => s

/-- The nominal current times 200 × 4,096, in μA, corrected by ε: what R227 multiplies and divides by. -/
def currentX (range iset : Nat) (eps : Int) : Nat := 2500 * 2 ^ range * (40 + min 120 iset) * (4096 + eps).toNat

/-- PFULL′ in μW (R227). -/
def pfullOf (range iset : Nat) (eps : Int) (v : Nat) : Nat :=
  let num := currentX range iset eps * v * 5000000
  let den := 200 * 4096 * 4096 * 1000000
  (2 * num + den) / (2 * den)

/-- R_path within 360 to 1,650 Ω. -/
def pathOk (range iset : Nat) (eps : Int) (v : Nat) : Bool :=
  let x := currentX range iset eps
  decide (360 * x ≤ v * 1000000000 ∧ v * 1000000000 ≤ 1650 * x)

/-- The old trim comes back at K+6+3c. -/
def State.restoreTrim (s : State) (h : Nat) (pdm : Bool) : State :=
  let old := (s.tileCal (h / 256)).old
  if pdm then s.putTrim h old else s.putHvOfs h old

/-- Boundary K+6+3c: the result of frame B (R227, R228). `values`: ε_B and the pin code v, or the residual in half LSB. -/
def State.frameB (s : State) (t c k : Nat) (values : List Int) : State :=
  let h := 256 * t + c
  let pdm := (s.chan_ h).mode == 0
  if !(s.tileCal t).live then s
  else
    let s := s.updCal t fun x => { x with live := false }
    if s.overridden t (itemHtr c) (k + 3 + 3 * c) then s.discardCal t
    else if (s.tileCal t).skip then (s.restoreTrim h pdm).skipChan t c
    else
      match values with
      | [e, v] =>
        if !pdm then s
        else if 4 < e.natAbs then (s.restoreTrim h pdm).calFails t (itemHtr c) (R.TL_CAL_HTR_FAIL t c) true
        else
          let range := s.rd (R.TL_HTR_CFG_RANGE t c)
          let iset := s.rd (R.TL_HTR_CFG_ISET t c)
          let v := v.toNat % 4096
          if pathOk range iset e v then
            let s := ((s.wr (R.TL_CAL_HTR_PFULL t c) (min 65535 (pfullOf range iset e v))).touchCal t).checkPrated h
            s.wr (R.TL_CAL_HTR_MEAS t c) (b01 (s.on R.CAL_STATUS_REXT_OK))
          else s.calFails t (itemHtr c) (R.TL_CAL_HTR_FAIL t c) true
      | [r] =>
        if pdm then s
        else if 2 < r.natAbs then (s.restoreTrim h pdm).calFails t (itemHtr c) (R.TL_CAL_HTR_FAIL t c) true
        else s.wr (R.TL_CAL_HTR_MEAS t c) 1
      | _ => s

/-- The step of a run at the boundary n frames after K. -/
def State.runStep (s : State) (x : FrameIn) (t k n : Nat) : State :=
  if n = 0 ∨ 771 < n then s
  else if n = 1 then s.calRef t k (calVals x t itemRef)
  else if n = 2 then s.calHv t (k + 1) false (calVals x t itemHv)
  else if n = 3 then s.calHv t (k + 2) true (calVals x t itemHv)
  else
    let c := (n - 4) / 3
    let s := if (n - 4) % 3 = 0 then s.frameA t c k (calVals x t (itemHtr c))
      else if (n - 4) % 3 = 2 then s.frameB t c k (calVals x t (itemHtr c)) else s
    if n = 771 then s.updCal t fun c => { c with endDue := true } else s

/-- A power-state transition is requested: every run is aborted at the next boundary (R226). -/
def State.abortRuns (s : State) : State :=
  { s with cal := { s.cal with tiles := s.cal.tiles.map fun c => { c with aborting := c.start.isSome } } }

/-- The runs at a boundary. -/
def State.runsFrame (s : State) (x : FrameIn) : State :=
  s.over (List.range 80) fun s t =>
    let c := s.tileCal t
    match c.start with
    | none => s
    | some k =>
      if c.aborting then
        (s.wr (R.TL_CAL_STATUS_ABORTED t) 1).updCal t fun c => { c with start := none, aborting := false, endDue := false }
      else s.runStep x t k (s.clk.frame - k)

/-- The temperature triggers after a 1 ms round: a tile's sensor, and D89 for the HKA, against T_LAST (R225). -/
def State.calTriggers (s : State) : State :=
  if !s.on R.CAL_CTRL_AUTO then s
  else
    let dt := 4 * max 1 (s.rd R.CAL_CTRL_DT_CAL)
    let s := s.over (List.range 80) fun s t =>
      if dt < (s.rdS (R.TH_SENSOR_TEMP t) - s.rdS (R.TL_CAL_STATUS_T_LAST t)).natAbs then
        s.triggerRun t else s
    if dt < (s.rdS (R.TH_SENSOR_TEMP 89) - s.rdS R.CAL_STATUS_HKA_T_LAST).natAbs then s.requestHkaCal else s

/-- CALIBRATE and CAL_CTRL.ALL: the tiles of the mask, bit 80 the HKA. -/
def State.requestCals (s : State) (tiles : List Nat) (hka : Bool) : State :=
  let s := s.over tiles State.requestRun
  s.when hka State.requestHkaCal

/-! ### Slices (R115 to R118, R230) -/

/-- A slice's result, OFS and GAIN, at the boundary that begins frame 49 of its slot; the spare's at the end of frame 47 of slot
32. Both keep their old trims where one is implausible. -/
def State.sliceResult (s : State) (x : FrameIn) (t : Nat) : State :=
  let f := s.clk.frame - 1
  let j := rotSlot f
  let ts := s.tileSense t
  let due := ts.rotating && !ts.stopped && (if j < 32 then rotFrame f == 48 && !ts.abandoned else rotFrame f == 47)
  match (if due then calVals x t (itemSlice j) else []) with
  | [ofs, gain] =>
    if s.overridden t (itemSlice j) (f - rotFrame f + (if j < 32 then 1 else 0)) then s.discardCal t
    else
      let meas := s.on (R.TL_CAL_SLICE_MEAS t j)
      if plausible meas (-48) 48 4 (s.rdS (R.TL_CAL_SLICE_OFS t j)) ofs &&
          plausible meas (-245) 245 16 (s.rdS (R.TL_CAL_SLICE_GAIN t j)) gain then
        (((s.wrS (R.TL_CAL_SLICE_OFS t j) ofs).wrS (R.TL_CAL_SLICE_GAIN t j) gain).wr (R.TL_CAL_SLICE_MEAS t j) 1).touchCal t
      else
        let s := s.calFails t (itemSlice j) (R.TL_CAL_SLICE_FAIL t j) false
        if j = 32 then s.spareFails t else s
  | _ => s

/-! ### Pedestals (R223, R230) -/

/-- PED k of a photodiode. -/
def pedField (t j k : Nat) : FieldAt :=
  match k with
  | 0 => R.TL_CAL_TIA_PED0 t j
  | 1 => R.TL_CAL_TIA_PED1 t j
  | 2 => R.TL_CAL_TIA_PED2 t j
  | _ => R.TL_CAL_TIA_PED3 t j

/-- TIA_REQ: four frames from the first boundary that follows, for the photodiodes that are disabled. -/
def State.requestTia (s : State) (t : Nat) : State :=
  if (s.tileCal t).tia.isSome then s
  else s.updCal t fun c => { c with tia := some (s.clk.frame + 1), tiaAll := false, tiaBad := [] }

/-- One photodiode's pedestal of range k: `values` is the sum of the 128 samples. MEAS sets after the fourth range if none has
failed. -/
def State.pedestal (s : State) (t j k since : Nat) (values : List Int) : State :=
  match values with
  | [sum] =>
    if s.overridden t (itemTia j) since then s.discardCal t
    else
      let meas := s.on (R.TL_CAL_TIA_MEAS t j)
      let old := s.rdS (pedField t j k)
      let new := old + (256 - roundDiv sum 128)
      if plausible meas (-64) 63 16 old new then
        let s := (s.wrS (pedField t j k) new).touchCal t
        s.when (k == 3 && !(s.tileCal t).tiaBad.contains j) (·.wr (R.TL_CAL_TIA_MEAS t j) 1)
      else
        (s.calFails t (itemTia j) (R.TL_CAL_TIA_FAIL t j) false).updCal t fun c => { c with tiaBad := c.tiaBad ++ [j] }
  | _ => s

/-- The pedestal calibrations at a boundary: range k's frame has ended. -/
def State.tiaFrame (s : State) (x : FrameIn) (t : Nat) : State :=
  let c := s.tileCal t
  match c.tia with
  | some b =>
    if s.clk.frame ≤ b then s
    else
      let k := s.clk.frame - b - 1
      let pds := (List.range 32).filter fun j => c.tiaAll || s.rd (R.TL_PD_CFG_ENABLE t j) == 0
      let s := s.over pds fun s j => s.pedestal t j k b (calVals x t (itemTia j))
      if 3 ≤ k then s.updCal t fun c => { c with tia := none, tiaAll := false } else s
  | none => s

/-- All calibration at a boundary, after the boundary's writes. -/
def State.calFrame (s : State) (x : FrameIn) : State :=
  let s := s.runsFrame x
  (s.over (List.range 80) fun s t => (s.sliceResult x t).tiaFrame x t).advanceGens

/-! ### SURVEY sweeps (R234 to R236) -/

def State.updSweep (s : State) (f : Sweep → Sweep) : State := { s with cal := { s.cal with sweep := f s.cal.sweep } }

def State.sweepKind (s : State) : Nat := if s.rd R.SV_CTRL_KIND = 3 then 0 else s.rd R.SV_CTRL_KIND
def State.sweepPoints (s : State) : Nat := max 1 (min 1024 (s.rd R.SV_CTRL_POINTS))
def State.sweepPeriod (s : State) : Nat := s.rd R.SV_CTRL_SETTLE + 1

/-- Entry i of the list: 16 bits, least significant byte first as the records are. -/
def State.sweepEntry (s : State) (i : Nat) : Nat :=
  let a := s.rd R.SV_LIST_BASE * 256 + 2 * i
  s.capByte a + 256 * s.capByte (a + 1)

/-- Does an entry name a cell, element or port that the fabric description has? -/
def State.sweepNames (s : State) (kind e : Nat) : Bool :=
  if kind = 2 then e < s.fabric.portCount else e < s.fabric.elementCount

/-- The contexts and the photodiode of an entry. -/
def State.sweepCtx (s : State) (kind e : Nat) : List Nat :=
  if kind = 2 then [(s.fabric.port e).outCtx, (s.fabric.port e).inCtx].filter (· < 40960)
  else
    let c := (s.recordOf e).ctx
    if c < 40957 then [c, c + 1, c + 2, c + 3] else []

def State.sweepPd (s : State) (kind e : Nat) : Nat := if kind = 2 then (s.fabric.port e).outPd else (s.recordOf e).pd

/-- The causes of R234, 0 for none. -/
def State.sweepCause (s : State) (kind : Nat) (l : List Nat) : Nat :=
  let count := s.rd R.SV_LIST_COUNT
  let list := s.rd R.SV_LIST_BASE * 256
  let log := s.rd R.SV_OUT_SIZE_LOG2
  let base := s.rd R.SV_OUT_BASE * 4096
  let size := 2 ^ log
  let chans := (List.range 36).filter s.running
  let pds := (l.map (s.sweepPd kind)).filter (· != 0xFFFF)
  if l.any fun e => s.sweepNames kind e && (s.sweepCtx kind e).any fun n => s.stateOf n != stOff then 1
  else if (dedup pds).length < pds.length then 2
  else if count = 0 ∨ 2560 < count ∨ capSize < list + 2 * count ∨ log < 12 ∨ 20 < log ∨ base % size ≠ 0 ∨
      capSize < base + size ∨ ¬ l.all (s.sweepNames kind) ∨
      chans.any (fun c => overlap base size (s.bufBase c) (s.bufSize c) ||
        overlap list (2 * count) (s.bufBase c) (s.bufSize c)) then 3
  else if 65536 < sumOf (chans.map s.chRate) + 16 * count then 4
  else if kind = 0 ∧ l.any (fun e => (s.recordOf e).thermalOnly) then 5
  else if kind = 2 ∧ l.any (fun e => (s.fabric.port e).outHtr == 0xFFFF) then 5
  else 0

/-- SV_CTRL.START in SURVEY: the sweep starts at the next boundary, or is refused with its cause. A START while a sweep runs has
no effect. -/
def State.sweepStart (s : State) : State :=
  if s.on R.SV_STATUS_BUSY then s
  else
    let kind := s.sweepKind
    let l := (List.range (min 2560 (s.rd R.SV_LIST_COUNT))).map s.sweepEntry
    match s.sweepCause kind l with
    | 0 =>
      let s := ((s.wr R.SV_STATUS_BUSY 1).wr R.SV_STATUS_POINT 0).wr R.SV_STATUS_SEEDED 0
      s.updSweep fun _ => { entries := l, b0 := s.clk.frame + 1 }
    | c => (s.wr R.SV_STATUS_REFUSED 1).wr R.SV_STATUS_CAUSE c

/-- SV_CTRL.ABORT: the sweep ends at the next boundary. -/
def State.sweepAbort (s : State) : State :=
  if s.on R.SV_STATUS_BUSY then s.updSweep fun w => { w with aborting := true } else s

/-- The output keys of an entry and the word a sample gives each (R235). -/
def State.sweepKeys (s : State) (kind e : Nat) (x : Int) : List (Nat × Nat) :=
  let v := (x + 32768).toNat
  let heater (h : Nat) : Nat × Nat :=
    (h, if s.rd (R.TL_HTR_CFG_MODE (h / 256) (h % 256)) = 1 then v / 4 else v * 16)
  if kind = 0 then
    let d := (s.recordOf e).phys
    [(20480 + 2 * d, v / 16), (20480 + 2 * d + 1, v / 16)]
  else if kind = 1 then
    match (s.sweepCtx 1 e).head?.bind s.outKey with
    | some k => if k < 20480 then [heater k] else []
    | none => let h := (s.recordOf e).htrU; if h = 0xFFFF then [] else [heater h]
  else [heater (s.fabric.port e).outHtr]

/-- The sweep at a boundary, before the release: it ends where the mode has left SURVEY, ABORT was written, the points are done
or the buffer is full; at a point's boundary the drives of that point come into force. -/
def State.sweepFrame (s : State) : State :=
  let w := s.cal.sweep
  if !s.on R.SV_STATUS_BUSY || w.endDue then s
  else if w.aborting || !s.isMode .survey then s.updSweep fun w => { w with drives := [], endDue := true, aborting := true }
  else if s.clk.frame < w.b0 ∨ (s.clk.frame - w.b0) % s.sweepPeriod ≠ 0 then s
  else
    let p := (s.clk.frame - w.b0) / s.sweepPeriod
    if s.sweepPoints ≤ p ∨ 2 ^ s.rd R.SV_OUT_SIZE_LOG2 ≤ 16 * w.entries.length * p then
      s.updSweep fun w => { w with drives := [], endDue := true }
    else
      let kind := s.sweepKind
      let x := s.frameSample (s.rd R.SV_CTRL_GEN)
      let drives := w.entries.flatMap fun e => (s.sweepKeys kind e x).map fun k => (e, k.1, k.2)
      s.updSweep fun w => { w with drives := drives, pointDue := some p }

/-- The bytes of a sweep record. -/
def sweepBytes (frame : Nat) (r : SweepRec) : List Nat :=
  le 4 frame ++ le 2 r.entry ++ le 2 r.point ++ le 4 r.drive ++ le 4 r.word

/-- The records of point p, from the words latched at this boundary, as far as the buffer reaches. `drives` are those the point
had. -/
def State.sweepRecord (s : State) (p : Nat) (drives : List (Nat × Nat)) : State :=
  let kind := s.sweepKind
  let base := s.rd R.SV_OUT_BASE * 4096
  let size := 2 ^ s.rd R.SV_OUT_SIZE_LOG2
  s.over s.cal.sweep.entries fun s e =>
    let at_ := 16 * s.cal.sweep.recs.length
    if size < at_ + 16 then s
    else
      let drive := ((drives.find? (·.1 == e)).map (·.2)).getD 0
      let r : SweepRec := ⟨e, p, drive, (s.averageAt (s.sweepPd kind e)).bits⟩
      (s.setCapBytes (base + at_) (sweepBytes s.clk.frame r)).updSweep fun w => { w with recs := w.recs ++ [r] }

/-- A record is valid where its word is. -/
def SweepRec.valid (r : SweepRec) : Bool := !r.word.testBit 30
def SweepRec.value (r : SweepRec) : Nat := r.word % 2 ^ 22

/-- The records of largest and of smallest word, the lower point first among equals. -/
def extremes (l : List SweepRec) : Option (SweepRec × SweepRec) :=
  match l with
  | [] => none
  | r :: rest => some (rest.foldl (fun (a : SweepRec × SweepRec) x =>
      (if a.1.value < x.value then x else a.1, if x.value < a.2.value then x else a.2)) (r, r))

/-- Seed a level or heater entry (R236). -/
def State.seedCell (s : State) (kind e : Nat) : State :=
  let l := s.cal.sweep.recs.filter fun r => r.entry == e && r.valid
  match (if l.length < 2 then none else extremes l) with
  | none => s
  | some (hi, lo) =>
    let (bar, cross) := if s.on R.SV_CTRL_BAR_IS_MAX then (hi.drive, lo.drive) else (lo.drive, hi.drive)
    let r := s.recordOf e
    let s := if kind = 0 then (s.setCx R.CTX_OUT_U (r.ctx + 1) bar).setCx R.CTX_OUT_U (r.ctx + 2) cross
      else if r.thermalOnly then
        let (u, alt) := if s.cx R.CTX_CTL_SP_SEL r.ctx = 1 then (cross, bar) else (bar, cross)
        (s.setCx R.CTX_OUT_U r.ctx u).setCx R.CTX_ALT_U_ALT r.ctx alt
      else s.setCx R.CTX_OUT_U r.ctx bar
    s.wr R.SV_STATUS_SEEDED (s.rd R.SV_STATUS_SEEDED + 1)

/-- The 33 table elements built from the 65 words of a port (R236). -/
def lambdaTable (word : Nat → Nat) : List Nat :=
  let diff (j : Nat) : Nat := ((word (min 64 (2 * j + 1)) : Int) - word (2 * j - 1)).natAbs
  let top := maxOf ((List.range 33).map diff)
  (List.range 33).map fun j => if diff j = 0 then 65535 else min 65535 ((2 ^ 15 * top + diff j) / (2 * diff j))

/-- Seed a port entry: the table of its output power context, in both planes. -/
def State.seedPort (s : State) (e : Nat) (build : Bool) : State :=
  let l := s.cal.sweep.recs.filter (·.entry == e)
  if (l.filter (·.valid)).length < 2 ∨ s.sweepPoints ≠ 65 ∨ l.length ≠ 65 then s
  else
    let s := s.wr R.SV_STATUS_SEEDED (s.rd R.SV_STATUS_SEEDED + 1)
    if !build then s
    else
      let n := (s.fabric.port e).outCtx
      let t := n / 512
      let m := s.cx R.CTX_CTL_LAMBDA_LUT n
      let s := s.over ((lambdaTable fun p => ((l[p]?).map (·.value)).getD 0).zipIdx) fun s g => s.wrB (R.TL_LUT_G t m g.2) g.1
      s.wrB (R.TL_LUT_SHIFT_SEG_SHIFT t m) 15

/-- The table a port entry names: tile and number. -/
def State.portTable (s : State) (e : Nat) : Nat × Nat :=
  let n := (s.fabric.port e).outCtx
  (n / 512, s.cx R.CTX_CTL_LAMBDA_LUT n)

/-- Seed every entry; of ports that name one table the lowest builds it. -/
def State.seedAll (s : State) : State :=
  let kind := s.sweepKind
  let l := s.cal.sweep.entries
  if kind = 2 then
    s.over l fun s e => s.seedPort e (l.all fun x => e ≤ x || s.portTable x != s.portTable e)
  else s.over l fun s e => s.seedCell kind e

/-- SWEEP_POINT (R235): the records of the point before, and POINT. `drives` of that point were latched with it. -/
def State.sweepPoint (s : State) : State :=
  match s.cal.sweep.pointDue with
  | none => s
  | some p =>
    let s := if p = 0 then s else s.sweepRecord (p - 1) s.cal.sweep.last
    let now := s.cal.sweep.entries.filterMap fun e => (s.cal.sweep.drives.find? (·.1 == e)).map fun d => (e, d.2.2)
    (s.wr R.SV_STATUS_POINT p).updSweep fun w => { w with pointDue := none, last := now }

/-- SWEEP_END (R235, R236): the records of the last point and, with SEED, the seeds; an aborted sweep seeds nothing. -/
def State.sweepEnd (s : State) : State :=
  let w := s.cal.sweep
  if !w.endDue then s
  else
    let s := if w.aborting then s.wr R.SV_STATUS_ABORTED 1
      else
        let s := s.sweepRecord (s.rd R.SV_STATUS_POINT) w.last
        (s.when (s.on R.SV_CTRL_SEED) State.seedAll).wr R.SV_STATUS_DONE 1
    (s.wr R.SV_STATUS_BUSY 0).updSweep fun _ => {}

end Sys2Proof.Machine
end

