-- ==== Sys2Proof/Machine/Crypto.lean ====
section
/-! DEFINITION. Machine/Crypto.lean: the standard functions the spec names: AES-256 (FIPS 197), GCM with a 96-bit nonce and a
128-bit tag (R244), the key wrap of RFC 3394 (R315) and SHA-256 (R262, R319, R413). Byte strings are lists of numbers below
256. -/

namespace Sys2Proof.Machine

/-! ### AES-256 -/

/-- Multiplication by x in GF(2^8). -/
def xtime (a : Nat) : Nat := if a < 128 then 2 * a else xorN (2 * a - 256) 0x1B

/-- Multiplication in GF(2^8), over the low bits of b. -/
def gmulBits : Nat → Nat → Nat → Nat
  | 0, _, _ => 0
  | n + 1, a, b => xorN (if b % 2 = 1 then a else 0) (gmulBits n (xtime a) (b / 2))
def gmul (a b : Nat) : Nat := gmulBits 8 a b

/-- a^254, the inverse; 0 for 0. -/
def ginv (a : Nat) : Nat :=
  let a2 := gmul a a
  let a3 := gmul a2 a
  let a12 := let b := gmul a3 a3; gmul b b
  let a15 := gmul a12 a3
  let a240 := let b := gmul a15 a15; let c := gmul b b; let d := gmul c c; gmul d d
  gmul a240 (gmul a12 a2)

def rotl8 (a k : Nat) : Nat := (a * 2 ^ k) % 256 + a / 2 ^ (8 - k)

def sboxOf (a : Nat) : Nat :=
  let b := ginv a
  xorN (xorN (xorN b (rotl8 b 1)) (xorN (rotl8 b 2) (rotl8 b 3))) (xorN (rotl8 b 4) 0x63)

/-- The substitution table and its inverse. -/
def sboxTab : Array Nat := ((List.range 256).map sboxOf).toArray
def invTab : Array Nat := sboxTab.toList.zipIdx.foldl (fun t e => t.set! e.1 e.2) (Array.replicate 256 0)

def sub (a : Nat) : Nat := sboxTab.getD a 0
def invSub (a : Nat) : Nat := invTab.getD a 0

def xorBytes (a b : List Nat) : List Nat := List.zipWith xorN a b

/-- The next key word from the eight before it, newest first (w[i−1] … w[i−8]). -/
def nextKeyWord (i : Nat) (prev : List (List Nat)) : List Nat :=
  let t := prev.getD 0 []
  let t := if i % 8 = 0 then
      xorBytes ((t.drop 1 ++ t.take 1).map sub) [(List.range (i / 8 - 1)).foldl (fun a _ => xtime a) 1, 0, 0, 0]
    else if i % 8 = 4 then t.map sub else t
  xorBytes (prev.getD 7 []) t

/-- The 60 words of the key schedule, newest first. -/
def expandFrom : Nat → Nat → List (List Nat) → List (List Nat)
  | 0, _, w => w
  | n + 1, i, w => expandFrom n (i + 1) (nextKeyWord i w :: w)

/-- The 15 round keys. -/
def roundKeys (key : List Nat) : List (List Nat) :=
  chunks 16 15 (((expandFrom 52 8 (chunks 4 8 key).reverse).reverse).flatten)

def shiftRows (s : List Nat) : List Nat := (List.range 16).map fun i => s.getD ((i + 4 * (i % 4)) % 16) 0
def invShiftRows (s : List Nat) : List Nat := (List.range 16).map fun i => s.getD ((i + 12 * (i % 4)) % 16) 0

/-- A column times the circulant matrix with first row m. -/
def mixColumn (m : List Nat) (c : List Nat) : List Nat :=
  (List.range 4).map fun r => (List.range 4).foldl (fun a k => xorN a (gmul (m.getD ((k + 4 - r) % 4) 0) (c.getD k 0))) 0

def mixColumns (m s : List Nat) : List Nat := (chunks 4 4 s).flatMap (mixColumn m)

/-- One block under the round keys. -/
def aesBlock (rk : List (List Nat)) (block : List Nat) : List Nat :=
  let s := xorBytes block (rk.getD 0 [])
  let s := ((rk.drop 1).take 13).foldl (fun s k => xorBytes (mixColumns [2, 3, 1, 1] (shiftRows (s.map sub))) k) s
  xorBytes (shiftRows (s.map sub)) (rk.getD 14 [])

def aesInvBlock (rk : List (List Nat)) (block : List Nat) : List Nat :=
  let s := (invShiftRows (xorBytes block (rk.getD 14 []))).map invSub
  let s := (((rk.drop 1).take 13).reverse).foldl (fun s k =>
    (invShiftRows (mixColumns [14, 11, 13, 9] (xorBytes s k))).map invSub) s
  xorBytes s (rk.getD 0 [])

def aes256 (key block : List Nat) : List Nat := aesBlock (roundKeys key) block

/-! ### GCM -/

/-- Multiplication in GF(2^128): the bits of x from the most significant on. -/
def ghashMulBits : Nat → Nat → Nat → Nat → Nat
  | 0, _, _, z => z
  | n + 1, x, v, z =>
    ghashMulBits n x (if v % 2 = 1 then xorN (v / 2) (0xE1 * 2 ^ 120) else v / 2) (if x.testBit n then xorN z v else z)
def ghashMul (x y : Nat) : Nat := ghashMulBits 128 x y 0

/-- A byte string filled up with zeros to whole blocks. -/
def padBlocks (l : List Nat) : List Nat := l ++ List.replicate ((16 - l.length % 16) % 16) 0

def ghash (h : Nat) (aad cipher : List Nat) : Nat :=
  let data := padBlocks aad ++ padBlocks cipher ++ be 8 (8 * aad.length) ++ be 8 (8 * cipher.length)
  (chunks 16 (data.length / 16 + 1) data).foldl (fun y b => ghashMul (xorN y (ofBe b)) h) 0

/-- Counter mode from counter value 2. -/
def gcmCrypt (rk : List (List Nat)) (nonce data : List Nat) : List Nat :=
  ((chunks 16 (data.length / 16 + 1) data).zipIdx.map fun b =>
    xorBytes b.1 (aesBlock rk (nonce ++ be 4 (b.2 + 2)))).flatten

def gcmTag (rk : List (List Nat)) (nonce aad cipher : List Nat) : List Nat :=
  let h := ofBe (aesBlock rk (List.replicate 16 0))
  xorBytes (be 16 (ghash h aad cipher)) (aesBlock rk (nonce ++ [0, 0, 0, 1]))

/-- Seal: ciphertext and tag. -/
def gcmSeal (key nonce aad plain : List Nat) : List Nat × List Nat :=
  let rk := roundKeys key
  let c := gcmCrypt rk nonce plain
  (c, gcmTag rk nonce aad c)

/-- Open: the plaintext if the tag verifies. -/
def gcmOpen (key nonce aad cipher tag : List Nat) : Option (List Nat) :=
  let rk := roundKeys key
  if gcmTag rk nonce aad cipher = tag then some (gcmCrypt rk nonce cipher) else none

/-! ### RFC 3394 -/

/-- The default initial value. -/
def wrapIv : List Nat := List.replicate 8 0xA6

/-- The unwrap steps t from n × 6 down to 1 over the semiblocks (A, R[1..n]). -/
def unwrapSteps (rk : List (List Nat)) (n : Nat) : Nat → List Nat → List (List Nat) → List Nat × List (List Nat)
  | 0, a, r => (a, r)
  | t + 1, a, r =>
    let i := t % n
    let b := aesInvBlock rk (be 8 (xorN (ofBe a) (t + 1)) ++ r.getD i [])
    unwrapSteps rk n t (b.take 8) (r.set i (b.drop 8))

/-- The key inside a 40-byte wrapping, if its integrity check holds. -/
def keyUnwrap (kek wrapped : List Nat) : Option (List Nat) :=
  let blocks := chunks 8 5 wrapped
  let (a, r) := unwrapSteps (roundKeys kek) 4 24 (blocks.headD []) (blocks.drop 1)
  if a = wrapIv then some r.flatten else none

/-! ### SHA-256 -/

def shaK : List Nat :=
  [0x428a2f98, 0x71374491, 0xb5c0fbcf, 0xe9b5dba5, 0x3956c25b, 0x59f111f1, 0x923f82a4, 0xab1c5ed5] ++
  [0xd807aa98, 0x12835b01, 0x243185be, 0x550c7dc3, 0x72be5d74, 0x80deb1fe, 0x9bdc06a7, 0xc19bf174] ++
  [0xe49b69c1, 0xefbe4786, 0x0fc19dc6, 0x240ca1cc, 0x2de92c6f, 0x4a7484aa, 0x5cb0a9dc, 0x76f988da] ++
  [0x983e5152, 0xa831c66d, 0xb00327c8, 0xbf597fc7, 0xc6e00bf3, 0xd5a79147, 0x06ca6351, 0x14292967] ++
  [0x27b70a85, 0x2e1b2138, 0x4d2c6dfc, 0x53380d13, 0x650a7354, 0x766a0abb, 0x81c2c92e, 0x92722c85] ++
  [0xa2bfe8a1, 0xa81a664b, 0xc24b8b70, 0xc76c51a3, 0xd192e819, 0xd6990624, 0xf40e3585, 0x106aa070] ++
  [0x19a4c116, 0x1e376c08, 0x2748774c, 0x34b0bcb5, 0x391c0cb3, 0x4ed8aa4a, 0x5b9cca4f, 0x682e6ff3] ++
  [0x748f82ee, 0x78a5636f, 0x84c87814, 0x8cc70208, 0x90befffa, 0xa4506ceb, 0xbef9a3f7, 0xc67178f2]

def m32 (a : Nat) : Nat := a % 2 ^ 32
def rotr (a k : Nat) : Nat := a / 2 ^ k + a % 2 ^ k * 2 ^ (32 - k)
def sig (a i j k : Nat) : Nat := xorN (xorN (rotr a i) (rotr a j)) (rotr a k)
def sigS (a i j k : Nat) : Nat := xorN (xorN (rotr a i) (rotr a j)) (a / 2 ^ k)

/-- The message schedule, newest first. -/
def schedule : Nat → List Nat → List Nat
  | 0, w => w
  | n + 1, w =>
    schedule n (m32 (sigS (w.getD 1 0) 17 19 10 + w.getD 6 0 + sigS (w.getD 14 0) 7 18 3 + w.getD 15 0) :: w)

/-- One round over the eight working variables. -/
def shaRound (v : List Nat) (kw : Nat) : List Nat :=
  match v with
  | [a, b, c, d, e, f, g, h] =>
    let t1 := h + sig e 6 11 25 + xorN (e &&& f) ((2 ^ 32 - 1 - e) &&& g) + kw
    let t2 := sig a 2 13 22 + xorN (xorN (a &&& b) (a &&& c)) (b &&& c)
    [m32 (t1 + t2), a, b, c, m32 (d + t1), e, f, g]
  | _ => v

def shaBlock (hash block : List Nat) : List Nat :=
  let w := (schedule 48 ((chunks 4 16 block).map ofBe).reverse).reverse
  let v := (List.zipWith (· + ·) shaK w).foldl shaRound hash
  List.zipWith (fun a b => m32 (a + b)) hash v

def shaInit : List Nat :=
  [0x6a09e667, 0xbb67ae85, 0x3c6ef372, 0xa54ff53a, 0x510e527f, 0x9b05688c, 0x1f83d9ab, 0x5be0cd19]

/-- SHA-256 of a byte string: 32 bytes. -/
def sha256 (msg : List Nat) : List Nat :=
  let len := msg.length
  let data := msg ++ [0x80] ++ List.replicate ((119 - len % 64) % 64) 0 ++ be 8 (8 * len)
  ((chunks 64 (data.length / 64 + 1) data).foldl shaBlock shaInit).flatMap (be 4)

end Sys2Proof.Machine
end

