-- ==== Sys2Proof/Machine/Protect.lean ====
section
/-! DEFINITION. Machine/Protect.lean: keys and their MTP records, the armed and committed protection change, alignment after it,
the conditions of SEALED (chapter 13). -/

namespace Sys2Proof.Machine

open Sys2Proof

def State.setProt (s : State) (f : Protect → Protect) : State := { s with prot := f s.prot }
def State.keyRec (s : State) (p : Nat) : KeyRec := s.prot.keys.getD (pIdx p) {}
def State.updKey (s : State) (p : Nat) (f : KeyRec → KeyRec) : State :=
  s.setProt fun x => { x with keys := modAt x.keys (pIdx p) f }

/-- The legacy write window (R393) as the latest round left it. -/
def State.nvWindow (s : State) : Bool := s.on R.ATTIC_STATUS_NV_WINDOW

/-! ### Views -/

/-- PR_STATUS: ARMED, COMMITTED, TARGETS, ARM_ID. -/
def State.protStatusView (s : State) : Nat :=
  let w := s.word A.PR_STATUS
  match s.prot.change with
  | none => putBits w 15 0 s.prot.lastArmId
  | some c =>
    putBits (putBits (putBits (putBits w 31 31 (b01 c.committed.isNone)) 30 30 (b01 c.committed.isSome)) 28 24 c.bodies.length)
      15 0 c.armId

/-- ATTIC_STATUS: PROVISIONED, ID_KEY, NV_BUSY. -/
def State.atticStatusView (s : State) : Nat :=
  putBits (putBits (putBits (s.word A.ATTIC_STATUS) 31 31 (b01 s.prot.provisioned)) 30 30 1) 28 28 (b01 (!s.prot.mtp.isEmpty))

/-- ATTIC_FLOOR: FLOOR from MTP. -/
def State.floorView (s : State) : Nat := putBits (s.word A.ATTIC_FLOOR) 15 0 s.prot.floor

/-- ATTIC_KEY[p]; the entries of no principal read 0. -/
def State.keyView (s : State) (p : Nat) : Nat :=
  if !isPrincipal p then 0
  else
    let k := s.keyRec p
    b01 k.current.isSome * 2 ^ 31 + b01 k.next.isSome * 2 ^ 30 + b01 k.grace.isSome * 2 ^ 29 +
      b01 (p == 30 && s.prot.kek.isSome) * 2 ^ 28 + min 100000 k.writes

/-! ### MTP writes (R314, R315, R317, R383) -/

/-- Why an MTP write is refused: a suspended function, the legacy window, the write limit. `worn` is the count it would add to. -/
def State.mtpCode (s : State) (worn : Option Nat) : Nat :=
  if s.faults.mtpSuspended then Code.busy
  else if !s.nvWindow then Code.nvTemp
  else match worn with
    | some w => if 100000 ≤ w then Code.keyWorn else Code.ok
    | none => Code.ok

def State.startMtp (s : State) (w : MtpWrite) : State := s.setProt fun x => { x with mtp := x.mtp ++ [w] }

/-- The first four bytes of the encryption of a zero block (R315). -/
def kcv (key : List Nat) : List Nat := (aes256 key (List.replicate 16 0)).take 4

/-- KEY_INSTALL (R315). -/
def State.cmdKeyInstall (s : State) (h : CmdHead) (p which : Nat) (wrapped : List Nat) : State :=
  if ¬ isPrincipal p ∨ 1 < which ∨ (which = 1 ∧ p ≠ 30) then s.answer h 0x42 Code.badArg
  else if isTenancy p ∧ s.locked 8 then s.answer h 0x42 Code.locked
  else
    match s.prot.kek.bind fun k => keyUnwrap k wrapped with
    | none => s.answer h 0x42 Code.keyUnwrap
    | some key =>
      match s.mtpCode (some (s.keyRec p).writes) with
      | 0 => s.startMtp (.key p which key h.cseq)
      | code => s.answer h 0x42 code

/-- One more MTP write of a principal's records. -/
def State.countWrite (s : State) (p : Nat) : State := s.updKey p fun k => { k with writes := satAdd 100000 k.writes 1 }

def ownerHead (cseq : Nat) : CmdHead := ⟨30, cseq, 0⟩

/-- MTP_WRITE_DONE (R315): the oldest write completes. `good`: its read-back agrees; a write that fails leaves the old value and
raises MTP_FAIL. The floor never decreases (R339), so of two floor writes in progress the higher stays. The response is built at the next admission point; the status it carries after a failed write is a value the spec does
not state (log entry 2). -/
def State.mtpDone (s : State) (good : Bool) : State :=
  match s.prot.mtp with
  | [] => s
  | w :: rest =>
    let s := s.setProt fun x => { x with mtp := rest }
    let fail (s : State) (p : Nat) : State := s.raise { cls := 13, inst := 0, kind := 1, addr := p }
    match w with
    | .key p which key cseq =>
      if !good then
        let (v, s) := (fail s p).free
        s.answerAt (s.now + 1) (ownerHead cseq) 0x42 (v % 256) []
      else
        let s := s.countWrite p
        let s := if which = 1 then s.setProt fun x => { x with kek := some key }
          else s.updKey p fun k => { k with next := some key, grace := none }
        s.answerAt (s.now + 1) (ownerHead cseq) 0x42 Code.ok (kcv key ++ be 4 0)
    | .roll p => if good then s.countWrite p else fail s p
    | .floor v cseq body =>
      if !good then
        let (v, s) := (fail s 30).free
        s.answerAt (s.now + 1) (ownerHead cseq) 0x41 (v % 256) []
      else (s.setProt fun x => { x with floor := max x.floor v }).answerAt (s.now + 1) (ownerHead cseq) 0x41 Code.ok body
    | .session v => if good then s.setProt fun x => { x with sessionCounter := v } else fail s 0
    | .tripCount v => if good then s.setProt fun x => { x with tripCounter := v } else fail s 0
    | .provision => if good then s else fail s 30

/-! ### Frame targets (R78, R80) -/

/-- The boundary that a FRAME field names, or the code that refuses it. -/
def State.frameTarget (s : State) (frame : Nat) : Except Nat Nat :=
  if frame = 0 then .ok (earliestFrame s.fclk)
  else if (frame - 1) * fclkPerFrame < s.fclk then .error Code.commitLate
  else if s.clk.frame + 1048576 < frame then .error Code.commitRange
  else .ok frame

/-! ### Key rolls (R316) -/

/-- KEY_ROLL: refused, or waiting for its boundary, where the response is built. -/
def State.cmdKeyRoll (s : State) (h : CmdHead) (p frame : Nat) : State :=
  let clear := h.flags.testBit 0
  if ¬ isPrincipal p then s.answer h 0x43 Code.badArg
  else if isTenancy p ∧ s.locked 8 then s.answer h 0x43 Code.locked
  else if (s.keyRec p).roll.isSome then s.answer h 0x43 Code.busy
  else if (clear ∧ p = 30) ∨ (¬ clear ∧ (s.keyRec p).next.isNone) then s.answer h 0x43 Code.keySlot
  else
    match s.mtpCode (some (s.keyRec p).writes), s.frameTarget frame with
    | 0, .ok b => s.updKey p fun k => { k with roll := some (b, clear, h.cseq) }
    | 0, .error code => s.answer h 0x43 code
    | code, _ => s.answer h 0x43 code

/-- KEY_ROLL_APPLY (R316): at its boundary the next key becomes current and a copy stays 1,000 frames; CLEAR erases both. -/
def State.keyRollApply (s : State) (p : Nat) : State :=
  match (s.keyRec p).roll with
  | none => s
  | some (b, clear, cseq) =>
    if s.clk.frame < b then s
    else
      let s := s.updKey p fun k =>
        if clear then { k with current := none, next := none, grace := none, roll := none }
        else { k with current := k.next, next := none, grace := k.next.map fun x => (x, b + 1000), roll := none }
      (s.startMtp (.roll p)).answer (ownerHead cseq) 0x43 Code.ok

/-- GRACE_END (R316). -/
def State.graceEnd (s : State) (p : Nat) : State :=
  match (s.keyRec p).grace with
  | some (_, e) => if e ≤ s.clk.frame then s.updKey p fun k => { k with grace := none } else s
  | none => s

/-- The key that opens a received frame: KEY_SEL 1 takes the next key, or the grace copy (R244, R316). -/
def State.rxKey (s : State) (p : Nat) (sel : Bool) : Option (List Nat) :=
  let k := s.keyRec p
  if sel then k.next.orElse fun _ => k.grace.map (·.1) else k.current

/-! ### Arming (R319) -/

/-- The 272 bytes of a body, as the digest takes them. -/
def armBytes (b : ArmBody) : List Nat :=
  [b.target, 0] ++ be 2 b.fields ++ be 4 b.cfg ++ be 4 b.lock ++ be 4 b.floor ++ le 128 b.inMap ++ le 128 b.outMap

/-- D_n: the first 8 bytes of SHA-256 over D_(n−1) and the body. -/
def nextDigest (d : Nat) (b : ArmBody) : Nat := ofBe ((sha256 (be 8 d ++ armBytes b)).take 8)

/-- Does a body keep the rules of R319? -/
def armFits (b : ArmBody) : Bool :=
  let f := b.fields
  let ten := isTenancy b.target
  let lanes := b.cfg / 2 ^ 24 % 256
  let scope := b.cfg % 32
  let enable := b.cfg / 2 ^ 23 % 2
  (ten || b.target == 30) && decide (f < 128) &&
    (ten || (f &&& 0b0011101 == 0)) && (!ten || (f &&& 0b1100000 == 0)) &&
    b.cfg / 2 ^ 5 % 2 ^ 18 == 0 &&
    (f.testBit 0 || enable == 0) && (f.testBit 1 || lanes == 0) && (f.testBit 2 || scope == 0) &&
    (f.testBit 3 || b.inMap == 0) && (f.testBit 4 || b.outMap == 0) && (f.testBit 5 || b.lock == 0) &&
    (f.testBit 6 || b.floor == 0) && decide (b.floor < 65536) && decide (b.lock < 2048)

/-- PROTECT_ARM (R319). -/
def State.cmdProtectArm (s : State) (h : CmdHead) (b : ArmBody) : State :=
  let append := h.flags.testBit 0
  let targets := (s.prot.change.map fun c => c.bodies.map (·.target)).getD []
  if !armFits b || (append && targets.contains b.target) then s.answer h 0x40 Code.badArg
  else
    match s.prot.change, append with
    | some c, true =>
      if c.committed.isSome then s.answer h 0x40 Code.protectBusy
      else
        let c := { c with bodies := c.bodies ++ [b], digest := nextDigest c.digest b, lastArm := s.now }
        (s.setProt fun x => { x with change := some c }).answer h 0x40 Code.ok
          (be 4 c.armId ++ be 1 c.bodies.length ++ be 3 0 ++ be 8 c.digest ++ be 8 c.expires)
    | none, true => s.answer h 0x40 Code.protectNone
    | some _, false => s.answer h 0x40 Code.protectBusy
    | none, false =>
      let id := (s.prot.lastArmId + 1) % 2 ^ 32
      let c : Change := { armId := id, bodies := [b], digest := nextDigest 0 b, expires := s.clk.frame + 1000, lastArm := s.now }
      (s.setProt fun x => { x with change := some c, lastArmId := id }).answer h 0x40 Code.ok
        (be 4 id ++ be 1 1 ++ be 3 0 ++ be 8 c.digest ++ be 8 c.expires)

def State.disarm (s : State) : State := s.setProt fun x => { x with change := none }

/-- PROTECT_EXPIRE (R319, R323). -/
def State.protectExpire (s : State) : State :=
  match s.prot.change with
  | some c => if c.committed.isNone ∧ c.expires ≤ s.clk.frame then s.disarm else s
  | none => s

/-- A power-state transition to SLEEP or below is requested: a change that is armed disarms (R323). -/
def State.disarmForSleep (s : State) : State :=
  match s.prot.change with
  | some c => if c.committed.isNone then s.disarm else s
  | none => s

/-! ### Records, bindings and alignment -/

/-- Write one target's fields into its record. -/
def State.putRecord13 (s : State) (b : ArmBody) : State :=
  let t := b.target
  let on (k : Nat) : Bool := b.fields.testBit k
  let cfg := if isTenancy t then A.PR_TEN_CFG t else A.PR_OWNER
  let part (s : State) (hi lo : Nat) : State := s.setWord cfg (putBits (s.word cfg) hi lo (bits b.cfg hi lo))
  let s := if on 0 then part s 23 23 else s
  let s := if on 1 then part s 31 24 else s
  let s := if on 2 then part s 4 0 else s
  let s := if on 3 then s.over (List.range 32) fun s k => s.wr (R.PR_TEN_IN_PORTS t k) (b.inMap / 2 ^ (32 * k) % 2 ^ 32) else s
  let s := if on 4 then s.over (List.range 32) fun s k => s.wr (R.PR_TEN_OUT_PORTS t k) (b.outMap / 2 ^ (32 * k) % 2 ^ 32) else s
  if on 5 then s.setWord A.PR_LOCK (s.word A.PR_LOCK ||| b.lock) else s

/-- Alignment as R58 and R63 evaluate it after a change: enabled tenancies whose sets form one block; one whose block is new is
pending. -/
def State.evalAlignment (s : State) : State :=
  let l := (List.range 16).filterMap fun t =>
    if !s.enabled t then none
    else (s.alignmentParams t).map fun km =>
      match s.route.aligned.find? fun a => a.tenancy == t && a.k == km.1 && a.m == km.2 with
      | some a => a
      | none => ⟨t, km.1, km.2, true⟩
  { s with route := { s.route with aligned := l } }

/-- The photodiodes of an aligned tenancy's exclusive cells and ports. -/
def State.alignedPds (s : State) (t : Nat) : List Nat :=
  let cells := match s.alignmentOf t with
    | some a => (exclusiveCells s.fabric.n a).map fun c => (s.recordOf c).pd
    | none => ((List.range s.fabric.elementCount).filter fun e => (s.recordOf e).owner == t).map fun e => (s.recordOf e).pd
  let ports := (List.range s.fabric.portCount).flatMap fun j =>
    (if s.ownsIn t j then [(s.fabric.port j).inPd] else []) ++ (if s.ownsOut t j then [(s.fabric.port j).outPd] else [])
  (dedup (cells ++ ports)).filter (· < 2560)

/-- Does lane l have a valid transmit window for principal p (R266)? -/
def State.hasWindow (s : State) (l p : Nat) : Bool :=
  (List.range 16).any fun w => s.on (R.LK_TXWIN_VALID l w) && s.rd (R.LK_TXWIN_PRINCIPAL l w) == p

/-- The conditions of SEALED (R331). -/
def State.sealedOk (s : State) : Bool :=
  let ten := (List.range 16).filter s.enabled
  (ten.all fun t => s.isAligned t && !(s.route.aligned.any fun a => a.tenancy == t && a.pending)) &&
    (ten.all fun t => (s.alignedPds t).all fun d => s.whollyOwn t (d / 32) (d % 32)) &&
    (ten.all fun t => (s.boundLanes t).all fun l => s.hasWindow l t) &&
    ((s.boundLanes 30).all fun l => !s.tenancyLanes.contains l)

/-- Do the enabled tenancies' port sets overlap, or does a binding name a lane of the wrong plane (R313)? -/
def State.bindingsBad (s : State) (bodies : List ArmBody) : Bool :=
  let ten := (List.range 16).filter s.enabled
  (ten.any fun t => ten.any fun u => t < u && (s.inSet t &&& s.inSet u != 0 || s.outSet t &&& s.outSet u != 0)) ||
    bodies.any fun b => b.fields.testBit 1 &&
      ((b.cfg.testBit 31 && 3 < bits b.cfg 30 28) || (b.cfg.testBit 27 && bits b.cfg 26 24 < 4))

/-- Does a body name a field that a lock in force fixes (R324)? -/
def State.bodyLocked (s : State) (b : ArmBody) : Bool :=
  (b.fields.testBit 0 && s.locked 3) || (b.fields.testBit 1 && s.locked 1) || (b.fields.testBit 2 && s.locked 2) ||
    ((b.fields.testBit 3 || b.fields.testBit 4) && s.locked 0)

/-- The checks of R321 on the combined result. -/
def State.changeCode (s : State) (bodies : List ArmBody) : Nat :=
  let r := (s.over bodies State.putRecord13).evalAlignment
  let floors := bodies.filter fun b => b.fields.testBit 6
  if bodies.any s.bodyLocked then Code.locked
  else if r.bindingsBad bodies then Code.protectConflict
  else if s.isMode .sealed && !r.sealedOk then Code.protectSealed
  else if floors.any (fun b => b.floor < s.prot.floor || s.rd R.ATTIC_FLOOR_RUNNING < b.floor) then Code.protectFloor
  else if floors.any (fun b => s.prot.floor < b.floor) then s.mtpCode none
  else Code.ok

/-- PROTECT_COMMIT (R320, R321). An accepted one is answered at its apply boundary. -/
def State.cmdProtectCommit (s : State) (h : CmdHead) (armId digest frame : Nat) : State :=
  match s.prot.change with
  | none => s.answer h 0x41 (if armId = 0 then Code.ok else Code.protectNone)
  | some c =>
    if c.committed.isSome then s.answer h 0x41 Code.protectBusy
    else if armId = 0 then s.disarm.answer h 0x41 Code.ok
    else if armId ≠ c.armId ∨ digest ≠ c.digest then s.disarm.answer h 0x41 Code.protectMismatch
    else if s.now = c.lastArm then s.disarm.answer h 0x41 Code.protectEarly
    else
      match s.frameTarget frame with
      | .error code => s.answer h 0x41 code
      | .ok b =>
        match s.changeCode c.bodies with
        | 0 => s.setProt fun x => { x with change := some { c with committed := some (b, h.cseq) } }
        | code => s.disarm.answer h 0x41 code

/-! ### The apply boundary (R322) -/

/-- A tenancy's committed connections that a predicate names pass to the owner. -/
def State.passToOwner (s : State) (t : Nat) (hit : Conn → Bool) : State :=
  let pass (c : Conn) : Conn := if c.owner == t && hit c then { c with owner := 30 } else c
  { s with route := { s.route with committed := s.route.committed.map pass } }

/-- What happens to tenancy t's connections, items and queues, given what it held before. -/
def State.stripTenancy (s before : State) (t : Nat) : State :=
  let gone (i j : Nat) : Bool := (before.ownsIn t i && !s.ownsIn t i) || (before.ownsOut t j && !s.ownsOut t j)
  let off := before.enabled t && !s.enabled t
  let s := s.passToOwner t fun c => off || gone c.inp c.out
  let names (it : PItem) : Bool := off || it.adds.any (fun c => gone c.inp c.out) || it.moves.any (fun c => gone c.inp c.out) || it.removes.any fun x => gone x.1 x.2
  let s := s.dropFor t names
  if !off then s
  else
    let open_ := s.com.commits.filter fun c => c.principal == t && c.phase == .unfixed
    let s := s.over open_ fun s c => (s.dropCommit c.num).endFlight c.principal c.cseq
    { s with sched := { s.sched with
        queues := (s.sched.queues.zipIdx.map fun q => if q.2 / 2 == t then { q.1 with items := [] } else q.1),
        flights := s.sched.flights.filter fun f => f.principal != t, fences := s.sched.fences.filter fun f => f.1 != t } }

/-- An epoch advances and its principal is told (R251, R322). -/
def State.newEpoch (s : State) (p : Nat) : State :=
  let e := (s.epoch p + 1) % 2 ^ 32
  (s.wr (R.PR_EPOCH_EPOCH p) e).notice p 0x87 Code.ok 0 (be 4 e)

/-- LK_BIND shows the bindings (R250). -/
def State.bindView (s : State) (p : Nat) : Nat :=
  if isTenancy p then s.word (A.PR_TEN_CFG p) / 2 ^ 24 * 2 ^ 24
  else if p = 30 then s.word A.PR_OWNER / 2 ^ 24 * 2 ^ 24 else 0

/-- The whole change takes effect at boundary B. -/
def State.applyChange (s : State) (c : Change) (cseq : Nat) : State :=
  let before := s
  let s := s.over c.bodies State.putRecord13
  let named := (c.bodies.map (·.target)).filter isTenancy
  let s := s.over named fun s t => s.stripTenancy before t
  let s := s.over (30 :: named) State.newEpoch
  let s := s.evalAlignment.disarm
  let body := be 8 s.clk.frame ++ be 4 (s.epoch 30) ++ be 2 (ofOnes named) ++ be 2 0
  match (c.bodies.find? fun b => b.fields.testBit 6 && s.prot.floor < b.floor) with
  | some b => s.startMtp (.floor b.floor cseq body)
  | none => s.answer (ownerHead cseq) 0x41 Code.ok body

/-- PROTECT_APPLY (R321, R322): the checks run again; a change that fails them is discarded. -/
def State.protectApply (s : State) : State :=
  match s.prot.change with
  | some c =>
    match c.committed with
    | some (b, cseq) =>
      if s.clk.frame < b then s
      else
        match s.changeCode c.bodies with
        | 0 => s.applyChange c cseq
        | code => s.disarm.answer (ownerHead cseq) 0x41 code
    | none => s
  | none => s

/-! ### Provisioning (R318) -/

/-- A word of the provisioning window. -/
def State.writeProv (s : State) (k w : Nat) : State := s.setProt fun x => { x with provWindow := x.provWindow.set k (w % 2 ^ 32) }

/-- ATTIC_PROV_GO: the three values are stored, PROVISIONED sets, the window is erased. -/
def State.provGo (s : State) : State :=
  let words (i : Nat) : List Nat := (slice s.prot.provWindow i 8).flatMap (be 4)
  let s := s.setProt fun x => { x with
    imageKeyHash := some (words 0), kek := some (words 8), provisioned := true, provWindow := List.replicate 24 0 }
  (s.updKey 30 fun k => { k with current := some (words 16) }).startMtp .provision

end Sys2Proof.Machine
end

