-- ==== Sys2Proof/Machine/Planes.lean ====
section
/-! DEFINITION. Machine/Planes.lean: roles, comparison, divergence, fences, drills, returns, the Cellar's copies (chapter 14). A
divergence arrives as an operand: the words the two planes computed (log entry 34). -/

namespace Sys2Proof.Machine

open Sys2Proof

namespace Code
def planeUnavailable := 0x7C
def drillBusy := 0x7D
def drillFailed := 0x7E
end Code

def State.setPl (s : State) (f : PlaneSt → PlaneSt) : State := { s with pl := f s.pl }

def State.setHealth (s : State) (p : Plane) (h : Nat) : State := (s.wr (healthField p) h).alertState

/-- Admission points in a time given in μs: 3.2 for each (R27). -/
def pointsIn (us : Nat) : Nat := us * 16 / 5

/-- A message of plane p's supervisor (R368). -/
def supMsg (p : Plane) (kind addr : Nat) : FaultMsg := planeMsg 14 (planeBit p) kind p addr

/-- Does the severity table let a fault fence a plane (R371)? -/
def State.fencing (s : State) (m : FaultMsg) : Bool := s.severityOf m == 3

/-! ### Sequences, views -/

def State.seqOpen (s : State) : Bool := !s.pl.items.isEmpty
def State.auditOpen (s : State) : Bool := s.pl.audit.isSome

def State.roleView (s : State) : Nat :=
  putBits (putBits (s.word A.PL_ROLE) 25 25 (b01 (s.seqOpen || s.auditOpen))) 24 24 (b01 s.pl.ret.isSome)

/-- Automatic returns of the last 24 h (R361). -/
def State.autoCount (s : State) : Nat := (s.pl.autoLog.filter fun f => s.clk.frame < f + 86400 * 50000).length

def State.plCtrlView (s : State) : Nat :=
  let ret := match s.pl.ret with | some r => r.step != 4 | none => false
  putBits (putBits (s.word A.PL_CTRL) 31 31 (b01 ret)) 23 16 s.autoCount

def State.drillView (s : State) : Nat :=
  let wait := match s.pl.drill with | some d => !d.swapped | none => false
  putBits (putBits (s.word A.PL_DRILL) 31 31 (b01 wait)) 15 0 (min 65535 (s.pl.ageSec / 86400))

/-- MASKED of TL_CMP_STATUS (R349). -/
def State.cmpView (s : State) (t : Nat) : Nat :=
  putBits (s.word (A.TL_CMP_STATUS t)) 31 31 (b01 (s.pl.items.any fun d => d.waits && d.ctx / 512 == t))

/-! ### Fence and swap (R345, R346, R362) -/

/-- The roles are exchanged. -/
def State.swapRoles (s : State) : State :=
  ((s.wr R.PL_ROLE_ACTIVE (1 - s.rd R.PL_ROLE_ACTIVE)).bump R.PL_ROLE_SWAPS 1).alertState

/-- A divergence sequence ends (R352): its channels follow the active plane again and its contexts resume. -/
def State.endSequence (s : State) : State :=
  s.setPl fun x => { x with items := [], first := none, decideDue := false, resume := none }

/-- An open DRILL ends with PLANE_UNAVAILABLE (R357). -/
def State.endDrill (s : State) : State :=
  match s.pl.drill with
  | some d => (s.setPl fun x => { x with drill := none }).answer d.head 0x3A Code.planeUnavailable
  | none => s

/-- A return or probation ends without success; the returning plane reads fenced. -/
def State.endReturn (s : State) : State :=
  match s.pl.ret with
  | some r => (s.setPl fun x => { x with ret := none }).setHealth r.plane 1
  | none => s

/-- A plane's lanes carry no frames any more (R239): what waits on them is gone, and what they had authenticated. -/
def State.silence (s : State) (p : Plane) : State :=
  let s := s.over ((List.range 8).filter fun l => lanePlane l == p) fun s l => s.updLane l fun x => { x with tx := [] }
  match p with
  | .A => { s with links := { s.links with rxA := [] } }
  | .B => { s with links := { s.links with rxB := [] } }

/-- Is plane p the one on probation or returning? -/
def State.isReturning (s : State) (p : Plane) : Bool := match s.pl.ret with | some r => decide (r.plane = p) | none => false

/-- The fence of plane p at Φ, with the swap if it was active. `auto`: R361 lets an automatic return follow. A fence that would
leave no plane in service is not executed (R362), nor any in Last Resort (R365). -/
def State.fencePlane (s : State) (p : Plane) (auto : Bool) : State :=
  if s.lastResort ∨ ¬ (s.inService p ∨ s.isReturning p) ∨ (s.inService p ∧ s.fenceLeavesNone p) then s
  else
    let swap := decide (s.active = p)
    let s := s.endDrill.endSequence
    let s := if s.isReturning p then s.endReturn else s.setHealth p 1
    let s := (s.silence p).setPl fun x => { x with audit := none, selFree := !x.heldSel.isEmpty, expRuns := [] }
    let s := if auto then s.setPl fun x => { x with autoAt := x.autoAt ++ [(p, s.clk.frame + 50000)] } else s
    if swap then s.swapRoles else s

/-- PLANE_FENCE: the fences of plane p whose Φ has come; one whose Φ is the next admission point is carried out before it. One that would
leave no plane, and whose record says no more so, starts Last Resort (R362). -/
def State.fenceRow (s : State) (p : Plane) : State :=
  let due := s.faults.fenceDue.filter fun f => f.1 ≤ s.now + 1 && decide (f.2.1 = p)
  if due.isEmpty then s
  else
    let rest := s.faults.fenceDue.filter fun f => !(f.1 ≤ s.now + 1 && decide (f.2.1 = p))
    let s := { s with faults := { s.faults with fenceDue := rest } }
    let told := (s.faults.incoming ++ s.faults.offered).any fun m => m.cls == 14 && decide (planeOf m.plane = p)
    let s := if s.inService p && s.fenceLeavesNone p && !s.lastResort && !told then s.dueResort else s
    s.fencePlane p (due.any (·.2.2))

/-- Enter Last Resort: roles frozen, a return or probation stops, a sequence ends, FAULT_N asserted (R365, R352). A DRILL that waits
is not executed. -/
def State.enterLastResort (s : State) : State :=
  if s.lastResort then s
  else
    let s := s.endDrill.endSequence.endReturn
    let s := s.setPl fun x => { x with audit := none, autoAt := [], selFree := !x.heldSel.isEmpty }
    { s with faults := { s.faults with fenceDue := [], resortDue := none } }.wr R.PL_ROLE_LAST_RESORT 1 |>.alertState

/-- The entry to Last Resort that the collectors have handed over (R374). -/
def State.takeResort (s : State) : State :=
  match s.faults.resortDue with
  | some a => if a ≤ s.now then s.enterLastResort else s
  | none => s

/-! ### Divergence (R347 to R352) -/

/-- Are the planes compared: both in service or one on probation, not in Last Resort (R343, R365)? -/
def State.compares (s : State) : Bool := s.joined .A && s.joined .B && !s.lastResort

/-- The comparator's count and last mismatch for an output key (TL_CMP_STATUS, TL_CMP_LAST). -/
def State.countMismatch (s : State) (key : Nat) : State :=
  let t := if key < 20480 then key / 256 else (key - 20480) / 256
  let kind := if key < 20480 then 0 else 1 + key % 2
  let ch := if key < 20480 then key % 256 else (key - 20480) % 256 / 2
  (s.bump (R.TL_CMP_STATUS_DIVERGE t) 1).setWord (A.TL_CMP_LAST t) (kind * 2 ^ 30 + ch)

/-- The plane on probation fails it (R360): fenced at once, with the fault. -/
def State.probationFail (s : State) : State :=
  match s.pl.ret with
  | some r =>
    if r.step = 4 then
      let m := supMsg r.plane 9 0
      let s := s.raise m
      if s.fencing m then s.fenceAt s.now r.plane false else s
    else s
  | none => s

/-- What the tile comparator finds at the release deadline of frame F about one context (R347): an item that holds its output. -/
def State.holdItem (s : State) (m : Mismatch) : Option DivItem :=
  match s.outKey m.ctx with
  | none => none
  | some key =>
    let y := match s.feedback m.ctx with | some x => s.lawWord m.ctx x | none => Config.absentWord m.ctx
    let upd := (s.loop.computed.find? (·.ctx == m.ctx)).getD (s.keep m.ctx (s.cxS R.CTX_TPC_T_PC m.ctx))
    some { ctx := m.ctx, frame := s.clk.frame, key := key, held := s.cx R.CTX_OUT_U m.ctx, y := y, words := (m.wordA, m.wordB),
           us := (m.uA, m.uB), models := (s.rdPS .A (R.CTX_SHAPE_MODEL m.ctx), s.rdPS .B (R.CTX_SHAPE_MODEL m.ctx)), upd := upd }

/-- The contexts that take part in the comparison of this deadline: neither waiting nor masked. -/
def State.newMismatches (s : State) (l : List Mismatch) : List Mismatch :=
  l.filter fun m => m.wordA != m.wordB && !(s.pl.items.any fun d => d.ctx == m.ctx || some d.key == s.outKey m.ctx)

/-- Mismatches at the release deadline: in Last Resort they are only counted, on probation they fence, otherwise each holds its
channel and starts a replay (R347, R360, R365). -/
def State.divHold (s : State) (l : List Mismatch) : State :=
  let new := s.newMismatches l
  if new.isEmpty then s
  else
    let keys := dedup (new.filterMap fun m => s.outKey m.ctx)
    let s := s.over keys State.countMismatch
    if s.lastResort then s
    else if s.pl.ret.isSome then s.probationFail
    else if !s.compares then s
    else
      let items := new.filterMap s.holdItem
      let s := if s.seqOpen then s else s.setWord A.PL_DIV_LAST (putBits (s.word A.PL_DIV_LAST) 31 25 ((items.map (·.ctx / 512)).headD 0))
      let s := s.wr R.PL_DIV_LAST_CHANNELS (s.pl.items.length + items.length)
      s.setPl fun x => { x with items := x.items ++ items, first := some (x.first.getD s.clk.frame) }

/-- Replay words at the deadline of frame F + 1 (R347): an item whose words still differ waits for evidence, with them. -/
def State.divReplay (s : State) (l : List Mismatch) : State :=
  let step (d : DivItem) : DivItem :=
    if d.waits ∨ d.frame + 1 ≠ s.clk.frame then d
    else
      match l.find? fun m => m.ctx == d.ctx && m.wordA != m.wordB with
      | some m => { d with waits := true, words := (m.wordA, m.wordB) }
      | none => { d with words := (d.upd.u, d.upd.u) }
  s.setPl fun x => { x with items := x.items.map step }

def pick (p : Plane) {α : Type} (x : α × α) : α := match p with | .A => x.1 | .B => x.2

/-- An item's words come into its plane's copies: the result of frame F with each plane's own word. -/
def State.storeItem (s : State) (d : DivItem) : State :=
  let s := s.store { d.upd with moved := true }
  (s.wrP .A (R.CTX_OUT_U d.ctx) d.words.1).wrP .B (R.CTX_OUT_U d.ctx) d.words.2

/-- At a boundary: new items come into their contexts; the replay words of the batch of two frames before apply, and the batch is
transient or starts, or joins, the evidence (R348, R349). -/
def State.divRelease (s : State) : State :=
  let s := s.over (s.pl.items.filter fun d => d.frame + 1 == s.clk.frame) State.storeItem
  let batch := s.pl.items.filter fun d => d.frame + 2 == s.clk.frame
  if batch.isEmpty then s
  else
    let s := s.over batch State.storeItem
    let tile := (batch.map (·.ctx / 512)).headD 0
    let app (d : DivItem) : DivItem := if d.frame + 2 = s.clk.frame then { d with app := pick s.active d.words } else d
    let s := s.setPl fun x => { x with items := (x.items.filter fun d => d.waits || d.frame + 2 != s.clk.frame).map app }
    if batch.any (·.waits) then s.raise (supMsg s.active 2 tile)
    else
      let s := if s.pl.items.isEmpty then s.setPl fun x => { x with first := none } else s
      (s.bump R.PL_DIV_STATUS_TRANSIENTS 1).raise (supMsg s.active 1 tile)

/-- The window of a context's feedback word, in frames. -/
def State.fbWindow (s : State) (n : Nat) : Nat := if s.cx R.CTX_CTL_FB_KIND n = 0 then 1 else s.window n

/-- Measurement sets at a boundary, after the validity pass (R349), and the decision boundary (R350, R352). -/
def State.divMeasure (s : State) : State :=
  let s := s.over s.pl.items fun s d =>
    if ¬ d.waits ∨ d.meas.isSome ∨ s.pl.resume.isSome ∨ s.clk.frame < d.frame + 2 + s.fbWindow d.ctx ∨ s.commitBlank d.ctx ∨
        ¬ s.live d.ctx ∨ s.slotWaits d.ctx then s
    else
      let t := s.validate d.ctx
      match t.feedback d.ctx with
      | some x =>
        if t.isSuspect d.ctx then s
        else
          let put (e : DivItem) : DivItem := if e.ctx = d.ctx then { e with meas := some (s.lawWord d.ctx x) } else e
          t.setPl fun x => { x with items := x.items.map put }
      | none => s
  let waiting := s.pl.items.filter (·.waits)
  let late := match s.pl.first with | some f => decide (f + 34 ≤ s.clk.frame) | none => false
  if waiting.isEmpty ∨ s.pl.resume.isSome then s
  else if waiting.all (·.meas.isSome) || late then s.setPl fun x => { x with decideDue := true } else s

/-- |Y_M − pred_p| of an item (R350); nothing without a measurement. -/
def DivItem.miss (d : DivItem) (p : Plane) : Nat :=
  match d.meas with
  | some y => (y - (d.y + asr (pick p d.models * ((d.app : Int) - pick p d.us)) 6)).natAbs
  | none => 0

/-- DIVERGENCE_DECISION (R350, R351): the larger score is judged, the standby at equal scores. -/
def State.divDecide (s : State) : State :=
  if !s.pl.decideDue then s
  else
    let w := s.pl.items.filter (·.waits)
    let a := sumOf (w.map fun d => d.miss .A)
    let b := sumOf (w.map fun d => d.miss .B)
    let judged := if a = b then s.standby else if b < a then .A else .B
    let s := (s.wr R.PL_DIV_SCORE_A_SCORE (min a (2 ^ 32 - 1))).wr R.PL_DIV_SCORE_B_SCORE (min b (2 ^ 32 - 1))
    let s := s.wr R.PL_DIV_LAST_JUDGED_PLANE (planeBit judged)
    let s := if a = b then s.bump R.PL_DIV_STATUS_TIES 1 else s.bump R.PL_DIV_STATUS_JUDGED 1
    let m := supMsg judged 3 (s.rd R.PL_DIV_LAST_TILE)
    let s := s.raise m
    let s := s.setPl fun x => { x with decideDue := false, resume := some (s.clk.frame + 1, decide (s.severityOf m < 3)) }
    if s.fencing m then s.fenceAt ((s.clk.frame + 1) * 64) judged false else s

/-- At boundary D + 1 the waiting contexts resume, or go to FENCED where nothing is fenced (R350, R351). -/
def State.divResume (s : State) : State :=
  match s.pl.resume with
  | some (b, fence) =>
    if s.clk.frame < b then s
    else
      let ctxs := (s.pl.items.filter (·.waits)).map (·.ctx)
      let t := s.setPl fun x => { x with items := x.items.filter (!·.waits), resume := none,
                                         first := (x.items.find? (!·.waits)).map (·.frame) }
      if fence then t.over ctxs fun s n => s.fenceCtx n causeFault else t
  | none => s

/-! ### Express mismatches (R353) -/

/-- The planes' words of a chip differ: both are discarded and counted; four in consecutive chips judge the standby. -/
def State.expressMismatch (s : State) (n chip : Nat) : State :=
  let s := s.bump (R.TL_CMP_STATUS_EXP_DIVERGE (n / 512)) 1
  let run := match s.pl.expRuns.find? (·.1 == n) with
    | some r => if r.2.1 + 1 = chip then r.2.2 + 1 else 1
    | none => 1
  let s := s.setPl fun x => { x with expRuns := x.expRuns.filter (·.1 != n) ++ [(n, chip, run)] }
  if s.pl.ret.isSome then s.probationFail else s

/-- EXP_JUDGED: the standby, fenced at the next admission point. -/
def State.expJudged (s : State) (n : Nat) : State :=
  match s.pl.expRuns.find? fun r => r.1 == n && 4 ≤ r.2.2 with
  | some _ =>
    let s := s.setPl fun x => { x with expRuns := x.expRuns.filter (·.1 != n) }
    if s.compares then
      let m := supMsg s.standby 4 (n / 512)
      let s := s.raise m
      if s.fencing m then s.fenceAt (s.now + 1) s.standby false else s
    else s
  | none => s

/-! ### Central divergence (R354) -/

/-- A mismatch at the admission exchange, or of driver selections at S: counted; an audit starts unless one runs. -/
def State.centralDivergence (s : State) : State :=
  if s.pl.ret.isSome then s.probationFail
  else if !s.compares then s
  else
    let s := (s.bump R.PL_DIV_STATUS_CENTRAL 1).wr R.PL_DIV_LAST_TILE 127
    if s.auditOpen then s else s.setPl fun x => { x with audit := some s.clk.frame }

/-- CENTRAL_AUDIT_END: a plane that fails alone is judged, otherwise the standby; fenced at the next boundary. -/
def State.auditEnd (s : State) (failA failB : Bool) : State :=
  if !s.auditOpen then s
  else
    let judged := if failA && !failB then .A else if failB && !failA then .B else s.standby
    let m := supMsg judged 5 127
    let s := (s.setPl fun x => { x with audit := none, selFree := !s.fencing m && !x.heldSel.isEmpty }).wr R.PL_DIV_LAST_JUDGED_PLANE (planeBit judged)
    let s := s.raise m
    if s.fencing m then s.fenceAt ((s.clk.frame + 1) * 64) judged false else s

/-- Driver selections of the planes differ at S (R354): the driver keeps `old`. -/
def State.holdSelection (s : State) (d old : Nat) : State :=
  let want := s.rd (R.TL_FD_CFG_SEL (d / 128) (d % 128))
  let s := (s.select d old).setWord (A.TL_CMP_LAST (d / 128)) (3 * 2 ^ 30 + d % 128)
  s.setPl fun x => { x with heldSel := x.heldSel ++ [(d, want)], selFree := false }

/-- The held selections of tile t follow the remaining plane after Φ. -/
def State.freeSelection (s : State) (t : Nat) : State :=
  if !s.pl.selFree then s
  else
    let mine := s.pl.heldSel.filter fun h => h.1 / 128 == t
    let s := s.over mine fun s h => s.select h.1 h.2
    s.setPl fun x => { x with heldSel := x.heldSel.filter fun h => h.1 / 128 != t }

/-! ### Drills (R356 to R358) -/

/-- DRILL (R356). -/
def State.cmdDrill (s : State) (h : CmdHead) (frame : Nat) : State :=
  match s.frameTarget frame with
  | .error code => s.answer h 0x3A code
  | .ok x =>
    if s.lastResort then s.answer h 0x3A Code.planeUnavailable
    else if s.seqOpen || s.auditOpen || s.pl.ret.isSome || s.pl.drill.isSome then s.answer h 0x3A Code.drillBusy
    else if !s.inService s.standby then s.answer h 0x3A Code.planeUnavailable
    else
      let s := s.setPl fun p => { p with drill := some { head := h, x := x } }
      (s.wr R.PL_DRILL_FRAME_LO_FRAME x).wr R.PL_DRILL_FRAME_HI_FRAME (x / 2 ^ 32)

/-- DRILL_SWAP: at X the roles are exchanged. -/
def State.drillSwap (s : State) : State :=
  match s.pl.drill with
  | some d =>
    if d.swapped ∨ s.clk.frame < d.x then s
    else s.swapRoles.setPl fun p => { p with drill := some { d with swapped := true } }
  | none => s

/-- The body of a DRILL response (R357). -/
def drillBody (x : Nat) (active : Plane) (result failed : Nat) : List Nat :=
  be 8 x ++ be 1 (planeBit active) ++ be 1 result ++ be 2 failed ++ be 4 0

/-- DRILL_CHECK: at X + 1 the drill completes, or the roles revert and the plane that failed is fenced. `failed` are the tiles whose
check failed, `sup` a supervisor's failure. -/
def State.drillCheck (s : State) (failed : List Nat) (sup : Bool) : State :=
  match s.pl.drill with
  | none => s
  | some d =>
    if ¬ d.swapped ∨ s.clk.frame ≤ d.x then s
    else
      let s := s.setPl fun p => { p with drill := none }
      if failed.isEmpty && !sup then
        let s := match s.pl.dueRaised with | some p => s.endReport (supMsg p 8 0) | none => s
        let s := (s.wr R.PL_DRILL_LAST_OK 1).setPl fun p => { p with ageSec := 0, dueRaised := none }
        s.answer d.head 0x3A Code.ok (drillBody d.x s.active 0 0)
      else
        let bad := s.active
        let s := s.over (dedup failed) fun s t => s.bump (R.TL_CMP_STATUS_SEL_FAIL t) 1
        let s := (s.wr R.PL_ROLE_ACTIVE (1 - s.rd R.PL_ROLE_ACTIVE)).alertState
        let s := s.wr R.PL_DRILL_LAST_OK 0
        let m := supMsg bad 7 0
        let s := s.raise m
        let s := if s.fencing m then s.fenceAt s.now bad false else s
        let low := if sup then 0xFFFF else failed.foldl min 0xFFFF
        s.answer d.head 0x3A Code.drillFailed (drillBody d.x s.active 1 low)

/-- DRILL_DUE (R358). -/
def State.drillDue (s : State) : State :=
  if 30 ≤ s.pl.ageSec / 86400 ∧ s.pl.dueRaised.isNone then
    (s.setPl fun p => { p with dueRaised := some s.active }).raise (supMsg s.active 8 0)
  else s

/-! ### Return of a fenced plane (R359 to R362) -/

/-- The domains of a plane (R359). -/
def planeDomains : Plane → List Nat
  | .A => [80, 82, 85, 87]
  | .B => [81, 83, 86, 88]

/-- A domain's bit of PW_DOMAIN_ON. -/
def State.powerDomain (s : State) (d : Nat) (on : Bool) : State :=
  let w := s.word (A.PW_DOMAIN_ON (d / 32))
  s.setWord (A.PW_DOMAIN_ON (d / 32)) (putBits w (d % 32) (d % 32) (b01 on))

def State.domainOn (s : State) (d : Nat) : Bool := (s.word (A.PW_DOMAIN_ON (d / 32))).testBit (d % 32)

/-- The fenced plane, if there is one. -/
def State.fencedOne (s : State) : Option Plane := [Plane.A, Plane.B].find? fun p => s.health p == 1

/-- The code of a write of PL_CTRL.RETURN (R359). -/
def State.returnCode (s : State) : Nat :=
  if s.isMode .solo ∨ s.lastResort then Code.planeUnavailable
  else if s.fencedOne.isNone ∨ s.pl.ret.isSome then Code.busy else Code.ok

/-- A return of plane p starts with its power cycle. -/
def State.startReturn (s : State) (p : Plane) : State :=
  let s := s.over (planeDomains p) fun s d => s.powerDomain d false
  let s := (s.setHealth p 3).setPl fun x => { x with
    ret := some { plane := p, step := 1, since := s.now }, autoAt := x.autoAt.filter fun a => decide (a.1 ≠ p) }
  { s with faults := { s.faults with fenceDue := s.faults.fenceDue.filter fun f => decide (f.2.1 ≠ p) } }.raise (supMsg p 10 0)

/-- RETURN. -/
def State.returnPlane (s : State) : State :=
  match s.fencedOne with
  | some p => if s.returnCode = Code.ok then s.startReturn p else s
  | none => s

/-- 500 μs after a return's power cycle began its domains are powered again. -/
def State.returnPower (s : State) : State :=
  match s.pl.ret with
  | some r =>
    if r.step ≠ 1 ∨ s.now < r.since + pointsIn 500 then s
    else
      (s.over (planeDomains r.plane) fun s d => s.powerDomain d true).setPl fun x => { x with ret := some { r with step := 2 } }
  | none => s

/-- RETURN_BANK_TEST: 500 μs without power, then the test of 800 μs (R359, R192). `fail` is the lowest failing tile and the word
index of its first miscompare. The copy starts at the next boundary, J0. -/
def State.returnTest (s : State) (fail : Option (Nat × Nat)) : State :=
  match s.pl.ret with
  | some r =>
    if r.step ≠ 2 ∨ s.now < r.since + pointsIn 1300 then s
    else
      match fail with
      | some (t, ix) => s.endReturn.raise (planeMsg 7 t 5 r.plane ix)
      | none => s.setPl fun x => { x with ret := some { r with step := 3, bound := s.clk.frame + 1 } }
  | none => s

/-- Plane p holds what the active plane holds. -/
def State.copyPlane (s : State) (p : Plane) : State :=
  let s := { s with reg := s.reg.setFile p (s.reg.file (other p)) }
  let half := (List.range 8).map fun g => s.gen (genInst (other p) g)
  { s with gens := half ++ half }

/-- LOCKSTEP: after the sweep the plane joins admission at boundary J, on probation. -/
def State.lockstep (s : State) : State :=
  match s.pl.ret with
  | some r =>
    if r.step ≠ 3 ∨ s.clk.frame ≤ r.bound then s
    else
      let s := s.copyPlane r.plane
      s.setPl fun x => { x with ret := some { r with step := 4, bound := s.clk.frame } }
  | none => s

/-- RETURN_END: 50,000 frames of probation are over (R360). -/
def State.returnEnd (s : State) : State :=
  match s.pl.ret with
  | some r =>
    if r.step ≠ 4 ∨ s.clk.frame < r.bound + 50000 then s
    else ((s.setPl fun x => { x with ret := none }).setHealth r.plane 0).raise (supMsg r.plane 11 0)
  | none => s

/-- AUTO_RETURN (R361): one second after a qualifying fence, at most three in 24 h. -/
def State.autoReturn (s : State) : State :=
  match s.pl.autoAt.find? fun a => a.2 ≤ s.clk.frame with
  | none => s
  | some (p, b) =>
    let s := s.setPl fun x => { x with autoAt := x.autoAt.filter fun a => decide (a ≠ (p, b)) }
    if s.on R.PL_CTRL_AUTO_RETURN && s.returnCode == Code.ok && s.health p == 1 && s.autoCount < 3 then
      (s.startReturn p).setPl fun x => { x with autoLog := x.autoLog.filter (fun f => s.clk.frame < f + 86400 * 50000) ++ [s.clk.frame] }
    else s

/-- SOLO comes into force: the standby is powered off (R362). -/
def State.enterSolo (s : State) : State :=
  let p := s.standby
  let s := s.endDrill.endSequence
  let s := (s.silence p).setPl fun x => { x with ret := none, audit := none, autoAt := [], selFree := !x.heldSel.isEmpty }
  let s := s.over (planeDomains p) fun s d => s.powerDomain d false
  s.setHealth p 2

/-- SOLO is left: the off plane returns. -/
def State.leaveSolo (s : State) : State :=
  match [Plane.A, Plane.B].find? fun p => s.health p == 2 with
  | some p => if s.lastResort then s else s.startReturn p
  | none => s

/-! ### The supervisors (R363 to R365) -/

/-- HEARTBEAT: plane p's supervisor has missed two boundaries in a row. -/
def State.heartbeat (s : State) (p : Plane) : State :=
  if s.inService p || s.isReturning p then
    let m := supMsg p 6 0
    let s := s.raise m
    if s.fencing m then s.fenceAt s.now p false else s
  else s

/-- The vote of the Cellar's copies; `copies` are the digests of their states (R364). -/
def State.cellarVote (s : State) (copies : List Nat) : State :=
  if s.lastResort then s
  else
    let retired := s.rd R.PL_CELLAR_RETIRED
    let up := (List.range 3).filter fun k => !retired.testBit k
    let v (k : Nat) : Nat := copies.getD k 0
    match up.find? fun k => 2 ≤ (up.filter fun j => v j == v k).length with
    | none => ((s.wr R.PL_CELLAR_AGREE 0).raise { cls := 15, inst := 0, kind := 3 }).enterLastResort
    | some k =>
      let s := s.wr R.PL_CELLAR_AGREE (ofOnes (up.filter fun j => v j == v k))
      s.over (up.filter fun j => v j != v k) fun s j =>
        let again := s.pl.reloads.any fun r => r.1 == j && s.clk.frame ≤ r.2 + 16
        if again then
          (s.wr R.PL_CELLAR_RETIRED (setBit (s.rd R.PL_CELLAR_RETIRED) j)).raise { cls := 15, inst := j, kind := 2, addr := j }
        else
          let s := s.setPl fun x => { x with reloads := x.reloads.filter (·.1 != j) ++ [(j, s.clk.frame)] }
          (s.bump R.PL_CELLAR_RELOADS 1).raise { cls := 15, inst := j, kind := 1, addr := j }

end Sys2Proof.Machine
end

