-- ==== Sys2Proof/Machine/Thermal.lean ====
section
/-! DEFINITION. Machine/Thermal.lean: temperature sensors, zones, bands, throttling, the legacy write window, trips (R388 to R397).
Temperatures are in units of 0.25 °C. -/

namespace Sys2Proof.Machine

open Sys2Proof

def State.setTherm (s : State) (f : Thermal → Thermal) : State := { s with therm := f s.therm }

/-- The zone of sensor d (R388). -/
def zoneOf (d : Nat) : Nat := if d < 80 then d / 10 else if d < 88 then 8 else 9

/-- The temperature of a count (R389). -/
def countTemp (d n : Nat) : Int :=
  let lo : Int := Config.trimN25 d
  let hi : Int := Config.trimN105 d
  100 + (if hi - lo ≤ 0 then 0 else roundDiv (320 * ((n : Int) - lo)) (hi - lo).toNat)

def State.masked (s : State) (d : Nat) : Bool := (s.rd (R.TH_MASK_MASK (d / 32))).testBit (d % 32)
def State.sensorFailed (s : State) (d : Nat) : Bool := s.on (R.TH_SENSOR_FAIL d)
def State.counted (s : State) (d : Nat) : Bool := s.on (R.TH_SENSOR_COUNTED d)
def State.reading (s : State) (d : Nat) : Int := s.rdS (R.TH_SENSOR_TEMP d)

/-- A sensor that plays its part in its zone: counted in the latest round and unmasked (R391). -/
def State.serves (s : State) (d : Nat) : Bool := s.counted d && !s.masked d

/-- The median of a list, the mean of the two middle values for an even number of them; in units of 0.125 °C (R390). -/
def median2 (l : List Int) : Int :=
  let v := (sortBy (fun (x : Int) => (x + 4096).toNat) l)
  let n := v.length
  if n % 2 = 1 then 2 * v.getD (n / 2) 0 else v.getD (n / 2 - 1) 0 + v.getD (n / 2) 0

/-- A sensor fails: FAIL, Hot-Assumed, the fault (R390). -/
def State.failSensor (s : State) (d cause : Nat) : State :=
  let s := ((s.wr (R.TH_SENSOR_FAIL d) 1).wr (R.TH_SENSOR_HOT_ASSUMED d) 1).wr (R.TH_SENSOR_CAUSE d) cause
  (s.bump R.TH_EVENTS_SENSOR_FAILS 1).raise { cls := 8, inst := d, kind := 1 }

/-- Does sensor d lie more than 20 °C from the median of the others of its zone, at least three of them? -/
def State.offMedian (s : State) (d : Nat) : Bool :=
  let others := (List.range 96).filter fun e => e != d && zoneOf e == zoneOf d && s.serves e && !s.sensorFailed e
  3 ≤ others.length && 160 < (2 * s.reading d - median2 (others.map s.reading)).natAbs

/-- Take the counts of a round: every counted sensor's reading, then the range test, then the median test (R389, R390). -/
def State.takeCounts (s : State) (counts : List (Nat × Nat)) : State :=
  let counts := counts.filter fun c => c.1 < 96 && s.domainOn c.1
  let s := s.over (List.range 96) fun s d => if s.counted d then s.wr (R.TH_SENSOR_COUNTED d) 0 else s
  let s := s.over counts fun s c =>
    (s.wr (R.TH_SENSOR_COUNTED c.1) 1).wrS (R.TH_SENSOR_TEMP c.1) (clamp (-2048) 2047 (countTemp c.1 c.2))
  let s := s.over counts fun s c =>
    let t := countTemp c.1 c.2
    if s.serves c.1 && !s.sensorFailed c.1 && (c.2 == 0 || c.2 == 65535 || t < -220 || 600 < t) then s.failSensor c.1 1 else s
  let judged := (counts.map (·.1)).filter fun d => s.serves d && !s.sensorFailed d
  let runs := judged.map fun d =>
    (d, if s.offMedian d then ((s.therm.medians.find? (·.1 == d)).map (·.2)).getD 0 + 1 else 0)
  let s := s.setTherm fun x => { x with medians := runs.filter fun r => 0 < r.2 && r.2 < 4 }
  let s := s.over (runs.filter (4 ≤ ·.2)) fun s r => s.failSensor r.1 2
  s.over (List.range 96) fun s d =>
    if s.on (R.TH_SENSOR_HOT_ASSUMED d) then s.wrS (R.TH_SENSOR_TEMP d) (4 * s.rd R.TH_CFG_L3_ON : Nat) else s

/-! ### Zones and bands (R391, R392) -/

/-- The band a temperature reaches. -/
def bandAt (t : Int) : Nat := if 420 < t then 4 else if 360 ≤ t then 3 else if 260 ≤ t then 2 else if 100 ≤ t then 1 else 0

/-- The threshold below a band. -/
def bandFloor (b : Nat) : Int := [-4096, 100, 260, 360, 420].getD b 0

/-- The band after a band b: it rises at once and falls where the temperature is more than 2 °C below the threshold it crossed. -/
def nextBand (b : Nat) (t : Int) : Nat :=
  if b ≤ bandAt t then bandAt t
  else maxOf ((List.range (b + 1)).filter fun k => decide (bandAt t = k ∨ bandFloor k - 8 ≤ t))

/-- The largest of a list. -/
def maxInt : List Int → Option Int
  | [] => none
  | x :: rest => some (rest.foldl max x)

/-- Temperatures and bands of the zones, and Tj (R391, R392). -/
def State.takeZones (s : State) : State :=
  let own (z : Nat) : Option Int := maxInt (((List.range 96).filter fun d => zoneOf d == z && s.serves d).map s.reading)
  match maxInt ((List.range 10).filterMap own) with
  | none => s
  | some tj =>
    let s := s.over (List.range 10) fun s z =>
      let t := (own z).getD tj
      let mine := (List.range 96).filter fun d => zoneOf d == z && s.serves d
      let s := (s.wrS (R.TH_ZONE_TEMP z) t).wr (R.TH_ZONE_BAND z) (nextBand (s.rd (R.TH_ZONE_BAND z)) t)
      (s.wr (R.TH_ZONE_SENSORS z) mine.length).wr (R.TH_ZONE_HOT_ASSUMED z) (b01 (mine.any fun d => s.on (R.TH_SENSOR_HOT_ASSUMED d)))
    let hot := ((List.range 10).find? fun z => own z == some tj).getD 0
    let s := ((s.wrS R.TH_STATUS_TJ tj).wr R.TH_STATUS_ZONE hot).wr R.TH_STATUS_BAND (s.rd (R.TH_ZONE_BAND hot))
    s.wr R.TH_STATUS_HOT_ASSUMED (b01 ((List.range 96).any fun d => s.on (R.TH_SENSOR_HOT_ASSUMED d)))

/-! ### Throttling (R394) -/

/-- Lk_ON in 0.25 °C. -/
def State.throttleOn (s : State) (k : Nat) : Int :=
  4 * (if k = 1 then s.rd R.TH_CFG_L1_ON else if k = 2 then s.rd R.TH_CFG_L2_ON else s.rd R.TH_CFG_L3_ON)

def throttleMsg (d : Nat) : FaultMsg := { cls := 8, inst := d, kind := 2 }

def State.takeThrottle (s : State) : State :=
  let tj := s.rdS R.TH_STATUS_TJ
  let k := s.throttle
  let top := maxOf ([1, 2, 3].filter fun j => s.throttleOn j ≤ tj)
  if k < top then
    let d := ((List.range 96).find? fun d => s.serves d && s.reading d == tj).getD 0
    let s := (s.wr R.TH_STATUS_LEVEL top).bump R.TH_EVENTS_LEVEL_UPS 1
    let moved := s.therm.throttler != some d
    let s := match s.therm.throttler with
      | some o => if moved then s.endReport (throttleMsg o) else s
      | none => s
    let s := s.setTherm fun x => { x with throttler := some d }
    s.when moved (·.raise (throttleMsg d))
  else if 0 < k ∧ tj < s.throttleOn k - 4 * max 1 (s.rd R.TH_CFG_HYST) then
    let s := s.wr R.TH_STATUS_LEVEL (k - 1)
    if k = 1 then
      let s := match s.therm.throttler with | some o => s.endReport (throttleMsg o) | none => s
      s.setTherm fun x => { x with throttler := none }
    else s
  else s

/-! ### Trips (R395 to R397) -/

/-- A trip fires: pins asserted, outputs inert, loops, lanes and ports stopped; the trip counter's write is due (R397). Whether at most
3 ms of an MTP write in progress remain the spec leaves to the write; a free value decides (log entry 2). -/
def State.tripNow (s : State) (analog : Bool) : State :=
  if s.therm.trip.isSome then s
  else
    let s := (s.wr R.TH_STATUS_TRIPPED 1).wr R.TH_STATUS_ANALOG (b01 analog)
    let s := s.setTherm fun x => { x with trip := some (if analog then 2 else 1), tripN := false }
    let s := s.over [92, 94] fun s d => s.powerDomain d true
    let (v, s) := s.free
    let going := if v % 2 = 0 then s.prot.mtp.take 1 else []
    s.setProt fun x => { x with mtp := going ++ [.tripCount (x.tripCounter + 1)] ++ x.mtp.drop 1 }

/-- The digital trip: two sensors of a zone, neither failed, at 120 °C or more (R395). -/
def State.digitalTrip (s : State) : Bool :=
  (List.range 10).any fun z =>
    2 ≤ ((List.range 96).filter fun d => zoneOf d == z && s.serves d && !s.sensorFailed d && 480 ≤ s.reading d).length

/-- The legacy write window (R393). -/
def State.windowMet (s : State) : Bool :=
  !((List.range 96).any fun d => s.serves d && (s.on (R.TH_SENSOR_HOT_ASSUMED d) || s.reading d < 0 || 340 < s.reading d))

/-- TRIP_HALT: what is not written is abandoned; the device halts (R397). -/
def State.tripHalt (s : State) : State :=
  if s.therm.trip.isSome then
    ((s.setTherm fun x => { x with halted := true }).setProt fun x => { x with mtp := [] })
  else s

/-! ### The round (R389) -/

/-- Is a round due: at R + 3 for a boundary R divisible by 50, once; or the one before the first boundary? -/
def State.roundDue (s : State) : Bool :=
  (s.clk.frame % 50 == 3 && s.therm.taken != some s.clk.frame) || (s.therm.taken.isNone && decide (s.boot.phase ≠ BootPhase.reset))

def State.sensorRound (s : State) (counts : List (Nat × Nat)) : State :=
  if !s.roundDue || s.therm.trip.isSome || decide (s.power = .deepSleep) then s
  else
    let s := s.setTherm fun x => { x with taken := some s.clk.frame }
    let s := ((s.takeCounts counts).takeZones).takeThrottle
    let s := s.wr R.ATTIC_STATUS_NV_WINDOW (b01 s.windowMet)
    let s := s.calTriggers
    s.when s.digitalTrip (·.tripNow false)

/-- The masks that a boundary has changed: FAIL and Hot-Assumed end; a masked failed sensor reports its end (R390). -/
def State.masksApplied (s : State) (old : List Nat) : State :=
  s.over (List.range 96) fun s d =>
    let was := (old.getD (d / 32) 0).testBit (d % 32)
    if was = s.masked d then s
    else
      let s := s.when (!was && s.sensorFailed d) (·.endReport { cls := 8, inst := d, kind := 1 })
      let s := ((s.wr (R.TH_SENSOR_FAIL d) 0).wr (R.TH_SENSOR_HOT_ASSUMED d) 0).wr (R.TH_SENSOR_CAUSE d) 0
      s.wr (R.TH_SENSOR_MASKED d) (b01 (s.masked d))

/-- DEEP_SLEEP_SENSOR: sensor 95 alone is counted (R403). -/
def State.deepSensor (s : State) (count : Nat) : State :=
  (s.wr (R.TH_SENSOR_COUNTED 95) 1).wrS (R.TH_SENSOR_TEMP 95) (clamp (-2048) 2047 (countTemp 95 count))

end Sys2Proof.Machine
end

