-- ==== Sys2Proof/Machine/Time.lean ====
section
/-! DEFINITION. Machine/Time.lean: the time domains, fabric time, the frame clock's lock, alignment, time-stamp records, the
pulse per second and time on the Apsin ring (chapter 12). Times are natural numbers in units of 2^-32 ns. -/

namespace Sys2Proof.Machine

open Sys2Proof

def nsUnit : Nat := 2 ^ 32
def secUnit : Nat := 1000000000 * 2 ^ 32
/-- 20,000 ns, and a domain's range of 2^48 seconds. -/
def frameUnit : Nat := 20000 * 2 ^ 32
/-- The time between two admission points: 312.5 ns. -/
def pointUnit : Nat := 20000 * 2 ^ 26
def timeWrap : Nat := 2 ^ 48 * secUnit

def State.setTime (s : State) (f : Time → Time) : State := { s with time := f s.time }
def State.domain (s : State) (d : Nat) : Domain := s.time.td.getD d {}
def State.updDomain (s : State) (d : Nat) (f : Domain → Domain) : State :=
  s.setTime fun x => { x with td := modAt x.td d f }

/-- Seconds, nanoseconds and fraction of a time. -/
def secOf (t : Nat) : Nat := t / secUnit
def nsOf (t : Nat) : Nat := t % secUnit / nsUnit
def fracOf (t : Nat) : Nat := t % nsUnit

/-- A stamp as a time. -/
def stampUnits (x : Stamp) : Nat := x.sec * secUnit + x.ns * nsUnit + x.frac * 2 ^ 16

/-- INCR of a domain: 2^-32 ns a tick. -/
def State.incr (s : State) (d : Nat) : Nat := s.rd (R.FT_TD_INCR_HI_INCR d) * 2 ^ 32 + s.rd (R.FT_TD_INCR_LO_INCR d)

/-- The selected domain. -/
def State.sel (s : State) : Nat := s.rd R.FT_CTRL_SEL

/-- The largest slew correction per tick (R292). -/
def State.slewMax (s : State) : Nat := max 1 (min 50000 (s.rd R.FT_CTRL_SLEW_PPB)) * 1801440 / 65536

/-- The selected domain's time less fabric time. -/
def State.delta (s : State) : Int := ((s.domain s.sel).t : Int) - s.time.fab

/-- Δ after n ticks of correction. -/
def slewed (delta : Int) (m n : Nat) : Int :=
  if 0 ≤ delta then max 0 (delta - (n * m : Nat)) else min 0 (delta + (n * m : Nat))

/-- The writes that wait for the next tick: the set, then the adjust (R290). -/
def Domain.pending (x : Domain) : Domain :=
  let t := x.set.getD x.t
  { x with t := ((t : Int) + x.adj).toNat % timeWrap, set := none, adj := 0 }

/-- n ticks of REFCLK for both domains (R289). -/
def State.tickDomains (s : State) (n : Nat) : State :=
  if n = 0 ∨ s.time.refclkLost then s
  else
    (s.updDomain 0 fun x => let y := x.pending; { y with t := (y.t + n * s.incr 0) % timeWrap }).updDomain 1
      fun x => let y := x.pending; { y with t := (y.t + n * s.incr 1) % timeWrap }

/-- n ticks of REFCLK: domains and fabric time (R289, R292). -/
def State.ticks (s : State) (n : Nat) : State :=
  if n = 0 then s
  else
    let before := s.setTime fun x => { x with td := x.td.map Domain.pending }
    let d := slewed before.delta s.slewMax n
    let s := s.tickDomains n
    s.setTime fun x => { x with fab := (((s.domain s.sel).t : Int) - d).toNat }

/-- The ticks until fabric time reaches T: the quotient, corrected by one either way for the slew. -/
def State.ticksTo (s : State) (target : Nat) : Nat :=
  let before := s.setTime fun x => { x with td := x.td.map Domain.pending }
  let inc := s.incr s.sel
  let reach (n : Nat) : Bool :=
    (target : Int) ≤ ((before.domain s.sel).t : Int) + n * inc - slewed before.delta s.slewMax n
  let n := divUp (target - s.time.fab) inc
  if target ≤ s.time.fab then 0 else if reach (n - 1) then n - 1 else if reach n then n else n + 1

/-- Bring the time domains to the instant at which fabric time reaches T. -/
def State.timeTo (s : State) (target : Nat) : State := s.ticks (s.ticksTo target)

/-- A time scale: 0 TD0, 1 TD1, 2 fabric; 3 acts as 2. -/
def State.scaleTime (s : State) (k : Nat) : Nat := if k < 2 then (s.domain k).pending.t else s.time.fab

/-- The second that the chosen scale less OUT_OFFSET stands in. -/
def State.ppsSecond (s : State) : Nat :=
  (((s.scaleTime (s.rd R.FT_PPS_CFG_OUT_SCALE) : Int) - s.rdS R.FT_PPS_OFFSET_OUT_OFFSET * nsUnit) / secUnit).toNat

/-- Seconds of the chosen scale already passed are not marked any more (R304). -/
def State.ppsMarkNow (s : State) : State := s.setTime fun x => { x with ppsMark := s.ppsSecond }

/-- Scale k was stepped: where it is the one that PPS_OUT follows, its next edge falls at the next second (R304). -/
def State.ppsStep (s : State) (k : Nat) : State := if min 2 (s.rd R.FT_PPS_CFG_OUT_SCALE) = k then s.ppsMarkNow else s

/-! ### Writes of a domain (R290, R307) -/

def validField (d : Nat) : FieldAt := if d = 0 then R.FT_STATUS_VALID0 else R.FT_STATUS_VALID1
def holdField (d : Nat) : FieldAt := if d = 0 then R.FT_STATUS_HOLDOVER0 else R.FT_STATUS_HOLDOVER1
def ringField (d : Nat) : FieldAt := if d = 0 then R.FT_STATUS_RING_LOCK0 else R.FT_STATUS_RING_LOCK1

/-- Does a domain follow the ring? On the master RING acts as HOST. -/
def State.onRing (s : State) (d : Nat) : Bool := s.on (R.FT_TD_CFG_SOURCE d) && s.chainPos != 0

def minIncr : Nat := 0x666128391
def maxIncr : Nat := 0x666BA493C

def holdMsg (d : Nat) : FaultMsg := { cls := 4, inst := 0, kind := 2, addr := d }

/-- The holdover timer restarts and holdover ends (R294). -/
def State.restartHold (s : State) (d : Nat) : State :=
  let s := s.when (s.on (holdField d) && s.sel == d) (·.endReport (holdMsg d))
  (s.wr (holdField d) 0).updDomain d fun x => { x with timer := 0, holdDue := false }

/-- Why a write of a domain is refused: BUSY for a RING domain, BAD_ARG outside the range. -/
def State.rateCode (s : State) (d incr : Nat) : Nat :=
  if s.onRing d then Code.busy else if incr < minIncr ∨ maxIncr < incr then Code.badArg else Code.ok
def State.setCode (s : State) (d ns : Nat) : Nat :=
  if s.onRing d then Code.busy else if 999999999 < ns then Code.badArg else Code.ok
def State.adjCode (s : State) (d : Nat) (ns : Int) : Nat :=
  if s.onRing d then Code.busy else if 999999999 < ns.natAbs then Code.badArg else Code.ok

/-- A new increment (R290, Rate). -/
def State.putIncr (s : State) (d incr : Nat) : State :=
  (s.wr (R.FT_TD_INCR_HI_INCR d) (incr / 2 ^ 32)).wr (R.FT_TD_INCR_LO_INCR d) (incr % 2 ^ 32)

def State.writeRate (s : State) (d incr : Nat) : State := (s.putIncr d incr).restartHold d

/-- Set: seconds held before, nanoseconds now, fraction 0. The domain is valid from then on (R295). -/
def State.writeSet (s : State) (d ns : Nat) : State :=
  ((s.wr (validField d) 1).updDomain d fun x =>
    { x with set := some ((x.secHi % 65536 * 2 ^ 32 + x.secLo) * secUnit + ns * nsUnit) }).ppsStep d

def State.writeAdjust (s : State) (d : Nat) (ns : Int) : State :=
  (s.updDomain d fun x => { x with adj := x.adj + ns * nsUnit }).ppsStep d

/-- FT_CTRL.CAPTURE (R291): all scales at one tick, and the frame number. -/
def State.captureTime (s : State) : State :=
  let s := s.over [0, 1, 2] fun s k =>
    let t := s.scaleTime k
    (((s.wr (R.FT_CAP_SEC_HI_SEC k) (secOf t / 2 ^ 32)).wr (R.FT_CAP_SEC_LO_SEC k) (secOf t)).wr (R.FT_CAP_NS_NS k) (nsOf t)).wr
      (R.FT_CAP_FRAC_FRAC k) (fracOf t)
  (s.wr R.FT_CAP_FRAME_LO_FRAME s.clk.frame).wr R.FT_CAP_FRAME_HI_FRAME (s.clk.frame / 2 ^ 32)

/-- What FT_STATUS shows beside what is stored: SLEWING, ALIGNING, MASTER_RING. -/
def State.timeStatusView (s : State) : Nat :=
  let w := putBits (s.word A.FT_STATUS) 30 30 (b01 (s.delta != 0))
  let w := putBits w 29 29 (b01 s.time.aligning)
  putBits w 28 28 (b01 (s.chainPos == 0 && (s.on (R.FT_TD_CFG_SOURCE 0) || s.on (R.FT_TD_CFG_SOURCE 1))))

/-- What FT_CTRL shows: ALIGN reads 1 until the alignment takes place. -/
def State.timeCtrlView (s : State) : Nat := putBits (putBits (s.word A.FT_CTRL) 29 29 (b01 s.time.alignReq)) 28 28 0

/-- Fabric time less the selected domain in ns, as SUMMARY reports it; a fraction is cut towards zero. -/
def State.timeOffset (s : State) : Int := -(s.delta.tdiv nsUnit)

/-! ### Selection and holdover (R293 to R295) -/

/-- The selection has changed from `old` (R293). -/
def State.selected (s : State) (old : Nat) : State :=
  if s.sel = old then s
  else
    let s := (s.bump R.FT_EVENTS_SWITCHES 1).raise { cls := 4, inst := 0, kind := 1, addr := s.sel }
    let s := s.when (s.on (holdField old)) (·.endReport (holdMsg old))
    s.when (s.on (holdField s.sel)) (·.raise (holdMsg s.sel))

/-- HOLDOVER (R294): the timer of domain d has expired. -/
def State.holdover (s : State) (d : Nat) : State :=
  if !(s.domain d).holdDue then s
  else
    let s := ((s.wr (holdField d) 1).bump R.FT_EVENTS_HOLDOVERS 1).updDomain d fun x => { x with holdDue := false }
    if s.sel = d then (s.raise (holdMsg d)).setTime fun x => { x with switchDue := true } else s

/-- AUTO_SWITCH (R295). -/
def State.autoSwitch (s : State) : State :=
  if !s.time.autoDue then s
  else
    let old := s.sel
    ((s.setTime fun x => { x with autoDue := false }).wr R.FT_CTRL_SEL (1 - old)).selected old

/-- FCLK_LOCK (R296). -/
def State.fclkLock (s : State) : State :=
  if !s.time.lockDue then s
  else
    ((s.setTime fun x => { x with lockDue := false }).wr R.FT_STATUS_FCLK_LOCK 1).endReport { cls := 4, inst := 0, kind := 3 }

/-! ### Alignment (R297, R298) -/

/-- May an alignment be requested? -/
def State.mayAlign (s : State) : Bool :=
  !(s.com.commits.any (·.waiting)) && s.com.tokens.isEmpty &&
    ((List.range 16).all fun g => !((s.gens.getD g {}).armed && s.rdP (if g < 8 then .A else .B) (R.ST_CTRL_TRIG (g % 8)) == 3)) &&
    ((List.range 36).all fun c => !s.on ⟨(if c < 32 then A.CAP_CTRL c else A.RSP_CTRL (c - 32)) + 0x14, 31, 31⟩) &&
    !s.on R.SV_STATUS_BUSY && !s.time.aligning

/-- Fabric time takes the selected domain's time and no frame runs until it reaches a multiple of 20,000 ns. -/
def State.beginGap (s : State) : State :=
  (s.bump R.FT_EVENTS_ALIGNMENTS 1).setTime fun x =>
    { x with fab := (s.domain s.sel).pending.t, alignReq := false, aligning := true }

/-- Frames resume with boundary n as the next one; no loop result waits. -/
def State.restartFrames (s : State) (n : Nat) : State :=
  let s := { s with clk := { frame := n - 1, point := 63, next := 64 } }
  let s := { s with loop := { s.loop with ready := true, computed := [], records := [] } }
  s.setTime fun x => { x with aligning := false, blankAll := some n }

/-- Frames resume at fabric time n × 20,000 ns. -/
def State.resumeFrames (s : State) (n : Nat) : State := (s.timeTo (n * frameUnit)).restartFrames n

/-- ALIGNMENT_GAP_END (R297): the next boundary takes its number from fabric time; its input set is blanked and no Standard word
is released with it. -/
def State.gapEnd (s : State) : State := if !s.time.aligning then s else s.resumeFrames (divUp s.time.fab frameUnit)

/-- The domains are loaded with the real-time clock's seconds, 0 ns and the nominal increment; fabric time follows (R298). -/
def State.loadDomains (s : State) (sec : Nat) : State :=
  let s := s.over [0, 1] fun s d =>
    let s := ((s.putIncr d 0x666666666).wr (validField d) 0).wr (holdField d) 1
    s.updDomain d fun x => { x with t := sec * secUnit, set := none, adj := 0, timer := 0, holdDue := false, ringRun := 0 }
  ((s.wr (ringField 0) 0).wr (ringField 1) 0).ppsMarkNow

/-- Fabric time is loaded from the selected domain and frames resume at the next multiple of 20,000 ns. -/
def State.loadFabric (s : State) : State :=
  let t := (s.domain s.sel).pending.t
  let n := divUp t frameUnit
  ({ (s.setTime fun x => { x with fab := n * frameUnit, td := x.td.map Domain.pending }) with
    clk := { frame := n - 1, point := 63, next := 64 } }).ppsStep 2

/-! ### Time-stamp records (R299 to R301) -/

def State.updSource (s : State) (k : Nat) (f : TsSource → TsSource) : State :=
  s.setTime fun x => { x with sources := modAt x.sources k f }
def State.tsSource (s : State) (k : Nat) : TsSource := s.time.sources.getD k {}

/-- Words 0 to 2 of a record. -/
def stampWords (scale kind dir : Nat) (lost : Bool) (t : Stamp) : List Nat :=
  [2 ^ 31 + dir * 2 ^ 30 + scale * 2 ^ 28 + kind * 2 ^ 25 + b01 lost * 2 ^ 24 + t.frac / 256 % 256 * 2 ^ 16 + t.sec / 2 ^ 32 % 65536,
   t.sec % 2 ^ 32, t.ns % 2 ^ 32]

/-- SCALE of a source: 3 acts as 2. -/
def State.tsScale (s : State) (k : Nat) : Nat := min 2 (s.rd (R.FT_TS_CFG_SCALE k))

/-- Keep a record with its words 3 to 5, or drop it where the queue is full (R301). -/
def State.keepRecord (s : State) (k kind dir : Nat) (t : Stamp) (rest : List Nat) : State :=
  let q := s.tsSource k
  if 64 ≤ q.queue.length then (s.bump (R.FT_TS_STATUS_LOST k) 1).updSource k fun x => { x with lost := true }
  else s.updSource k fun x => { x with
    queue := x.queue ++ [stampWords (s.tsScale k) kind dir x.lost t ++ rest], lost := false }

/-- Kinds 3 to 5 need ENABLE alone, kinds 0 to 2 their own bit as well. -/
def State.keeps (s : State) (k : Nat) (own : Bool) : Bool := s.on (R.FT_TS_CFG_ENABLE k) && own

/-- A read of word 0 removes the oldest record and holds it; an empty queue gives VALID 0 (R301). -/
def State.tsPop (s : State) (k : Nat) : Nat × State :=
  match (s.tsSource k).queue with
  | [] => (0, s.updSource k fun x => { x with held := [0, 0, 0, 0, 0, 0] })
  | r :: rest => (r.headD 0, s.updSource k fun x => { x with queue := rest, held := r })

/-- PTP_EVENT (R300): an event message is stamped at the PCS; the message itself is discarded. `udp` tells kind 2 from kind 1. -/
def State.ptpEvent (s : State) (lane : Nat) (udp : Bool) (version messageType domain sequence port clock : Nat) (t : Stamp) : State :=
  if messageType ≤ 3 ∧ version = 2 ∧ s.keeps lane (s.on (R.FT_TS_CFG_RX_PTP lane)) then
    s.keepRecord lane (if udp then 2 else 1) 0 t
      [messageType * 2 ^ 28 + domain % 256 * 2 ^ 20 + sequence % 65536, port % 65536 * 65536 + clock % 65536, 0]
  else s

/-! ### Pulse per second (R303, R304) -/

def ppsMsg : FaultMsg := { cls := 4, inst := 0, kind := 4 }

/-- PPS_EDGE (R303). -/
def State.ppsEdge (s : State) (t : Stamp) : State :=
  let s := if s.keeps 10 true then s.keepRecord 10 5 0 t [0, 0, 0] else s
  let s := s.when s.time.ppsGap (·.endReport ppsMsg)
  s.setTime fun x => { x with ppsEdge := some s.clk.frame, ppsGap := false }

/-- PPS_GAP (R303): no edge for 1.5 s, which is 75,000 frames, after one. -/
def State.ppsGap (s : State) : State :=
  match s.time.ppsEdge with
  | some f => if 75000 ≤ s.clk.frame - f ∧ ¬ s.time.ppsGap then
      (s.raise ppsMsg).setTime fun x => { x with ppsGap := true } else s
  | none => s

/-- PPS_OUT_EDGE (R304): the chosen scale has passed a whole second plus the offset that it has not marked yet. The pin falls
after (OUT_WIDTH + 1) μs. -/
def State.ppsOutEdge (s : State) : State :=
  let k := s.ppsSecond
  if s.on R.FT_PPS_CFG_OUT_EN ∧ s.time.ppsMark < k then
    s.setTime fun x => { x with ppsMark := k, ppsFall := s.fclk + divUp ((s.rd R.FT_PPS_CFG_OUT_WIDTH + 1) * 2048) 5 }
  else s

/-- The level of PPS_OUT. -/
def State.ppsOut (s : State) : Bool := s.on R.FT_PPS_CFG_OUT_EN && decide (s.fclk < s.time.ppsFall)

/-! ### The ring (R305 to R307) -/

def State.ringPort (s : State) (p : Nat) : RingPort := s.time.ports.getD p {}
def State.updPort (s : State) (p : Nat) (f : RingPort → RingPort) : State :=
  s.setTime fun x => { x with ports := modAt x.ports p f }

/-- The beacon the master sends on both ports at its boundary, with its transmit record (R300, R305). -/
def State.sendBeacons (s : State) (tx : List Stamp) : State :=
  if s.chainPos ≠ 0 ∨ ¬ s.imageApplied then s
  else s.over [0, 1] fun s p =>
    let s := s.updPort p fun x => { x with sent := [(s.clk.frame, s.time.fab, 0, 0)] }
    match tx[p]? with
    | some t => if s.keeps (8 + p) true then s.keepRecord (8 + p) 3 1 t [0, s.clk.frame % 2 ^ 32, 0] else s
    | none => s

/-- The mean of the delays held. -/
def meanInt (l : List Int) : Int := if l.isEmpty then 0 else (l.foldl (· + ·) 0) / l.length

/-- The link delay of a port: the mean of the last 64 (R306). -/
def State.linkDelay (s : State) (p : Nat) : Int := meanInt (s.ringPort p).delays

/-- A domain on the ring takes an accepted beacon: `e` in 2^-32 ns, `target` the beacon time plus the correction (R307). -/
def State.followRing (s : State) (d : Nat) (e : Int) (target : Nat) : State :=
  let s := s.restartHold d
  let s := if (1000000 * nsUnit : Nat) < e.natAbs then s.updDomain d fun x => { x with set := some target }
    else
      let inc := clamp minIncr maxIncr ((s.incr d : Int) + roundDiv e 200000)
      (s.putIncr d inc.toNat).updDomain d fun x => { x with adj := x.adj + asr e 3 }
  let run := if e.natAbs ≤ 5 * nsUnit then min 50 ((s.domain d).ringRun + 1) else 0
  let s := s.updDomain d fun x => { x with ringRun := run, ringDue := x.ringDue || (run == 50 && x.ringRun != 50) }
  let s := s.ppsStep d
  if 20 * nsUnit < e.natAbs then (s.wr (ringField d) 0).updDomain d fun x => { x with ringDue := false } else s

/-- BEACON_RX (R305, R307): a beacon on port p with its receive stamp in the port's scale and in each domain, the residence time
in 2^-16 ns and the transmit stamp on the other port. -/
def State.beaconRx (s : State) (p : Nat) (b : Beacon) (rx : Stamp) (rxTd : List Stamp) (residence : Int) (tx : Stamp) : State :=
  let words (hops : Nat) : List Nat := [hops % 16 * 2 ^ 28, b.frame % 2 ^ 32, 0]
  let s := if s.keeps (8 + p) true then s.keepRecord (8 + p) 3 0 rx (words b.hops) else s
  let due := s.time.portDue || (s.time.westGood + 1 == 50 && s.on R.FT_STATUS_RING_PORT)
  let good := min 50 (s.time.westGood + 1)
  let s := if p = 0 then s.setTime fun x => { x with westMissed := 0, westGood := good, portDue := due } else s
  if s.chainPos = 0 then s
  else
    let corr := b.corr + s.linkDelay p + residence
    let s := if b.hops + 1 ≤ 15 then
        let s := s.updPort (1 - p) fun x => { x with sent := [(b.frame, stampUnits b.time, b.hops + 1, corr)] }
        if s.keeps (9 - p) true then s.keepRecord (9 - p) 3 1 tx (words (b.hops + 1)) else s
      else s
    if s.rd R.FT_STATUS_RING_PORT ≠ p then s
    else
      let corr := b.corr + s.linkDelay p
      let target : Nat := ((stampUnits b.time : Int) + corr * 2 ^ 16).toNat
      s.over ([0, 1].filter s.onRing) fun s (d : Nat) =>
        s.followRing d (Int.ofNat target - (stampUnits (rxTd.getD d ⟨0, 0, 0⟩) : Int)) target

/-- RING_LOCK (R307). -/
def State.ringLock (s : State) (d : Nat) : State :=
  if !(s.domain d).ringDue then s
  else ((s.wr (ringField d) 1).wr (validField d) 1).updDomain d fun x => { x with ringDue := false }

/-- BEACON_PORT_SWITCH (R305). -/
def State.beaconSwitch (s : State) : State :=
  if !s.time.portDue then s
  else
    (s.wr R.FT_STATUS_RING_PORT (1 - s.rd R.FT_STATUS_RING_PORT)).setTime
      fun x => { x with portDue := false, westGood := 0, westMissed := 0 }

/-- A RING_LOST message names the domain that follows the ring (R368). -/
def State.ringMsg (s : State) : FaultMsg := { cls := 4, inst := 0, kind := 5, addr := b01 (s.onRing 1 && !s.onRing 0) }

/-- LINK_MESSAGE_RX (R306): the four stamps of one exchange in 2^-16 ns; the transmit and receive records are kept. -/
def State.linkMessage (s : State) (p : Nat) (t1 t2 t3 t4 : Int) (frame hops : Nat) (rx tx : Stamp) : State :=
  let words : List Nat := [hops % 16 * 2 ^ 28, frame % 2 ^ 32, 0]
  let s := if s.keeps (8 + p) true then (s.keepRecord (8 + p) 4 0 rx words).keepRecord (8 + p) 4 1 tx words else s
  let d := ((t4 - t1) - (t3 - t2)) / 2 + s.rdS (R.FT_RING_ASYM_ASYM p)
  let s := s.updPort p fun x => { x with delays := (d :: x.delays).take 64, quiet := 0, lostDue := false }
  let s := s.when (s.on (R.FT_RING_DELAY_LINK_DOWN p)) (·.endReport s.ringMsg)
  (s.wr (R.FT_RING_DELAY_LINK_DOWN p) 0).wr (R.FT_RING_DELAY_D p) (unsigned 31 (s.linkDelay p))

/-- RING_LOST (R306). -/
def State.ringLost (s : State) (p : Nat) : State :=
  if !(s.ringPort p).lostDue then s
  else ((s.wr (R.FT_RING_DELAY_LINK_DOWN p) 1).raise s.ringMsg).updPort p fun x => { x with lostDue := false }

/-- APSIN_LINK_DOWN (R369): an Apsin port loses block lock. -/
def State.apsinDown (s : State) (p : Nat) : State := s.raise { cls := 3, inst := p, kind := 1 }

/-! ### The boundary -/

/-- The phase error of the boundary: FT_PHASE, FCLK_LOCK (R296). `phase` is in 2^-32 ns. -/
def State.phaseStep (s : State) (phase : Int) : State :=
  let s := s.wrS R.FT_PHASE_PHI (satSigned 32 (asr phase 24))
  let run := if phase.natAbs ≤ nsUnit then min 50 (s.time.lockRun + 1) else 0
  let s := s.setTime fun x => { x with lockRun := run, lockDue := x.lockDue || (run == 50 && x.lockRun != 50 && !s.on R.FT_STATUS_FCLK_LOCK) }
  if 10 * nsUnit < phase.natAbs ∧ s.on R.FT_STATUS_FCLK_LOCK then
    ((s.wr R.FT_STATUS_FCLK_LOCK 0).bump R.FT_EVENTS_PHASE_LOSS 1).raise { cls := 4, inst := 0, kind := 3 }
  else s

/-- The holdover timers, the ring's counts and an automatic switch that falls due, at a boundary. -/
def State.timeFrame (s : State) (phase : Int) (tx : List Stamp) : State :=
  let s := s.phaseStep phase
  let s := s.over [0, 1] fun s d =>
    let x := s.domain d
    let limit := max 1 (s.rd (R.FT_TD_CFG_HOLDOVER_TIMEOUT d))
    s.updDomain d fun y => { y with
      timer := min limit (x.timer + 1), holdDue := y.holdDue || (limit ≤ x.timer + 1 && !s.on (holdField d)) }
  let s := s.over [0, 1] fun s p => s.updPort p fun x => { x with
    quiet := min 3 (x.quiet + 1), lostDue := x.lostDue || (x.quiet + 1 == 3 && !s.on (R.FT_RING_DELAY_LINK_DOWN p)) }
  let other := 1 - s.sel
  let s := s.setTime fun x => { x with
    westMissed := min 3 (x.westMissed + 1), westGood := if x.westMissed + 1 ≤ 1 then x.westGood else 0,
    portDue := x.portDue || (x.westMissed + 1 == 3 && !s.on R.FT_STATUS_RING_PORT && s.chainPos != 0),
    autoDue := x.autoDue || (x.switchDue && s.on R.FT_CTRL_AUTO_SWITCH && s.on (validField other) && !s.on (holdField other)),
    switchDue := false }
  s.sendBeacons tx

/-- REFCLK_LOSS (R298): the domains stop counting until they are loaded again. -/
def State.refclkLoss (s : State) : State := s.setTime fun x => { x with refclkLost := true }

end Sys2Proof.Machine
end

