-- ==== Sys2Proof/Machine/Power.lean ====
section
/-! DEFINITION. Machine/Power.lean: power states, domains, transitions, wakes, the real-time clock, the store of each Store Room bank at
a wake (R398 to R405, R175). Stalls are timing and change no state but their record. -/

namespace Sys2Proof.Machine

open Sys2Proof

def State.setPw (s : State) (f : PowerSt → PowerSt) : State := { s with pw := f s.pw }

def PowerState.code : PowerState → Nat
  | .run => 0 | .idle => 1 | .sleep => 2 | .deepSleep => 3 | .off => 4

def PowerState.ofCode? : Nat → Option PowerState
  | 0 => some .run | 1 => some .idle | 2 => some .sleep | 3 => some .deepSleep | 4 => some .off | _ => none

/-- Do the loops run: RUN has been entered, in RUN or IDLE, the tiles not stopped, no trip (R401, R397)? -/
def State.loopsOn (s : State) : Bool :=
  decide (s.boot.phase = .run) && (decide (s.power = .run) || decide (s.power = .idle)) && s.therm.trip.isNone &&
    !(match s.pw.trans with | some t => t.tiles | none => false)

/-- The code that VID[5:0] drives (R451, R407): 20 in FRUGAL, SLEEP and DEEP SLEEP, otherwise 30. -/
def State.vid (s : State) : Nat :=
  if decide (s.boot.phase = .run) && (s.isMode .frugal || decide (s.power = .sleep) || decide (s.power = .deepSleep)) then 20 else 30

/-- The VDD target of a VID code, in mV (R451). -/
def vidTarget (code : Nat) : Nat := 600 + 5 * code

/-! ### The real-time clock (R403, R405) -/

def State.rtc (s : State) : Nat := s.rd R.PW_RTC_HI_SEC * 2 ^ 32 + s.rd R.PW_RTC_LO_SEC
def State.setRtc (s : State) (v : Nat) : State := (s.wr R.PW_RTC_LO_SEC v).wr R.PW_RTC_HI_SEC (v / 2 ^ 32)

/-- n frames pass on the real-time clock: 50,000 to the second. -/
def State.rtcFrames (s : State) (n : Nat) : State :=
  let k := s.pw.rtcSub + n
  let s := s.setPw fun x => { x with rtcSub := k % 50000 }
  if k < 50000 then s else (s.setRtc (s.rtc + k / 50000)).setPl fun x => { x with ageSec := x.ageSec + k / 50000 }

/-- The alarm is due: enabled, and its seconds are the clock's (R403). -/
def State.alarmDue (s : State) : Bool :=
  s.on R.PW_ALARM_HI_ENABLE && s.rtc == s.rd R.PW_ALARM_HI_SEC * 2 ^ 32 + s.rd R.PW_ALARM_LO_SEC

/-! ### Lanes that the power state stops (R398, R239) -/

/-- The listening lane of each plane. -/
def State.listeners (s : State) : List Nat := [s.rd R.PW_CFG_LISTEN_A, 4 + s.rd R.PW_CFG_LISTEN_B]

/-- The lanes that a target stops. -/
def State.lanesToStop (s : State) (t : PowerState) : List Nat :=
  match t with
  | .run => []
  | .idle => (List.range 8).filter fun l => !(principals.any fun p => s.enabled p && l ∈ s.boundLanes p)
  | .sleep => (List.range 8).filter fun l => !decide (l ∈ s.listeners)
  | _ => List.range 8

/-! ### Entry (R400 to R402) -/

/-- The domains a target asks one at a time before the tiles (R401, R398). -/
def domainsAsked : PowerState → List Nat
  | .idle => [87, 88, 94, 85, 86, 82, 83]
  | .sleep => [87, 88, 90, 89, 91, 94, 85, 86, 82, 83]
  | .run => []
  | _ => [87, 88, 90, 89, 91, 94, 85, 86, 84, 82, 83]

/-- POWER (R400). -/
def State.cmdPower (s : State) (h : CmdHead) (code : Nat) : State :=
  match PowerState.ofCode? code with
  | none => s.answer h 0x39 Code.badArg
  | some t =>
    let deep := decide (t = .sleep) || decide (t = .deepSleep) || decide (t = .off)
    let open_ := s.com.commits.any (·.waiting) || s.seqOpen || s.auditOpen || s.pl.ret.isSome || s.pl.drill.isSome ||
      (match s.prot.change with | some c => c.committed.isSome | none => false)
    if s.pw.trans.isSome || (deep && open_) then s.answer h 0x39 Code.busy
    else if t = s.power then s.answer h 0x39 Code.ok
    else
      let s := ((s.abortRuns.mtAbort .A).mtAbort .B).endReturn.disarmForSleep
      if t = .run then
        let s := (s.wr R.PW_STATE_STATE 0).wr R.PW_STATE_WAKE_CAUSE 4
        let s := s.setPw fun x => { x with held := [] }
        { s with power := .run }.alertState.answer h 0x39 Code.ok
      else
        (s.wr R.PW_STATE_BUSY 1).setPw fun x => { x with
          trans := some { target := t, head := h, entry := s.clk.frame + 1, ask := domainsAsked t } }

/-- Does domain d refuse to stop (R398)? `veto` is the management cores' sleep veto. -/
def State.refuses (s : State) (t : PowerState) (d : Nat) (veto : Bool) : Bool :=
  if d = 82 ∨ d = 83 then
    (s.lanesToStop t).any fun l => decide (lanePlane l = if d = 82 then Plane.A else .B) && !(s.lane l).tx.isEmpty
  else if d = 84 then !s.com.tokens.isEmpty
  else if d = 85 ∨ d = 86 then !s.route.begun.isEmpty || s.route.full.isSome || !s.route.deferred.isEmpty
  else if d = 87 ∨ d = 88 then veto
  else if d = 89 then !s.hka.queue.isEmpty || !s.hka.results.isEmpty || s.hka.calAt.isSome || s.hka.calLeft != 0
  else if d = 90 then s.gens.any (fun g => g.armed || g.running || g.mtest) || s.mtBusy .A || s.mtBusy .B
  else if d = 91 then (List.range 36).any s.running || s.on R.SV_STATUS_BUSY
  else if d = 94 then s.boot.norOp.isSome
  else false

/-- The transition is aborted at a refusal (R402). -/
def State.abortTransition (s : State) (t : Transition) (d : Nat) : State :=
  let s := ((s.wr R.PW_STATE_BUSY 0).wr R.PW_STATE_ABORTED 1).wr R.PW_STATE_REFUSER d
  let s := (s.wr R.PW_STATE_STATE 0).setPw fun x => { x with trans := none, held := [] }
  ({ s with power := .run }.raise { cls := 9, inst := d, kind := 2 }).alertState.answer t.head 0x39 Code.powerAborted

/-- A target is reached. -/
def State.reach (s : State) (t : PowerState) : State :=
  let s := (s.wr R.PW_STATE_BUSY 0).wr R.PW_STATE_STATE (t.code % 8)
  ({ s with power := t }.setPw fun x => { x with trans := none }).alertState

/-- Both lane domains have agreed: the response is built; IDLE is reached, other targets go on at the next boundary (R401). -/
def State.lanesAgreed (s : State) (t : Transition) : State :=
  let s := s.answer t.head 0x39 Code.ok
  let s := s.setPw fun x => { x with held := s.lanesToStop t.target }
  if t.target = .idle then s.reach .idle
  else s.setPw fun x => { x with trans := some { t with ask := [], lanes := true, tilesAt := s.clk.frame + 1 } }

/-- Does a domain lose its power when it stops? D91 is held in SLEEP, the lane domains keep what still runs. -/
def losesPower (t : PowerState) (d : Nat) : Bool :=
  if d = 82 ∨ d = 83 then decide (t = .deepSleep ∨ t = .off) else if d = 91 then decide (t ≠ .sleep) else true

/-- DOMAIN_STOP: the next domain in order is asked to stop. D92 waits for an MTP write. -/
def State.domainStop (s : State) (veto : Bool) : State :=
  match s.pw.trans with
  | none => s
  | some t =>
    if s.now < t.entry * 64 ∨ (t.lanes ∧ ¬ t.tiles) then s
    else
      match t.ask.dropWhile fun d => !s.domainOn d with
      | [] => if t.lanes then s.reach t.target else s.lanesAgreed t
      | d :: rest =>
        if !t.lanes && s.refuses t.target d veto then s.abortTransition t d
        else if d = 92 ∧ ¬ s.prot.mtp.isEmpty then s
        else
          let s := if losesPower t.target d then s.powerDomain d false else s
          let rest := rest.dropWhile fun d => !s.domainOn d
          let t := { t with ask := rest }
          if rest.isEmpty then (if t.lanes then s.reach t.target else s.lanesAgreed t)
          else s.setPw fun x => { x with trans := some t }

/-- The tiles stop at their boundary: loops are suspended, contexts keep their state (R401). -/
def State.stopTiles (s : State) : State :=
  match s.pw.trans with
  | some t =>
    if t.lanes ∧ ¬ t.tiles ∧ t.tilesAt ≤ s.clk.frame then
      if t.target = .sleep then s.reach .sleep
      else s.setPw fun x => { x with trans := some { t with tiles := true, ask := [80, 81, 92, 93] } }
    else s
  | none => s

/-! ### Wakes (R403 to R405) -/

/-- A wake begins (R405): clocks, plane cores, tiles and the bound lanes are powered; fabric time is loaded after DEEP SLEEP. -/
def State.startWake (s : State) (cause : Nat) : State :=
  if s.pw.wake.isSome then s
  else
    let deep := decide (s.power = .deepSleep)
    let s := s.over (List.range 80 ++ [92, 93, 95] ++ ([Plane.A, .B].filter fun p => s.health p != 2).flatMap fun p =>
      (planeDomains p).take 2) fun s d => if s.domainOn d then s else s.powerDomain d true
    let s := if !deep then s
      else
        let s := if s.time.refclkLost then (s.loadDomains s.rtc).setTime fun x => { x with refclkLost := false } else s
        s.loadFabric
    s.setPw fun x => { x with wake := some cause, held := [] }

/-- WAKE_N_LOW: from IDLE and SLEEP at once, from DEEP SLEEP after 10 μs, from OFF after 1 ms, where the device starts as after
RESET_N. `us` is how long the pin has been low. -/
def State.wakeN (s : State) (us : Nat) : State :=
  if s.boot.phase = .off then (if 1000 ≤ us then { s with boot := { s.boot with phase := .reset } } else s)
  else match s.power with
    | .idle => (({ s with power := .run }.wr R.PW_STATE_STATE 0).wr R.PW_STATE_WAKE_CAUSE 2).setPw (fun x => { x with held := [] })
      |>.alertState
    | .sleep => s.startWake 2
    | .deepSleep => if 10 ≤ us then s.startWake 2 else s
    | _ => s

/-- CLOCK_ALARM: ENABLE clears; SLEEP and DEEP SLEEP wake. -/
def State.clockAlarm (s : State) : State :=
  if !s.alarmDue then s
  else
    let s := s.wr R.PW_ALARM_HI_ENABLE 0
    if s.power = .sleep ∨ s.power = .deepSleep then s.startWake 3 else s

/-- LANE_WAKE: a valid frame on a listening lane. -/
def State.laneWake (s : State) (l : Nat) : State :=
  if decide (s.power = .sleep) && decide (l ∈ s.listeners) then s.startWake 1 else s

/-! ### Banks and saved sets at a wake (R175, R404) -/

/-- The image's value of a register. -/
def State.imageWord (s : State) (a : Nat) : BitVec 32 := smGet resetWord s.boot.shared a
def State.imagePriv (s : State) (a : Nat) : BitVec 32 := smGet resetWord s.boot.priv a

/-- Plane p's bank of tile t is reloaded with the image's contexts, COLD and XFER set (R175). -/
def State.reloadBank (s : State) (p : Plane) (t : Nat) : State :=
  let lo := 0x1000000 + 32768 * t
  let inBank (e : Nat × Word) : Bool := lo ≤ e.1 && e.1 < lo + 32768
  let file := (s.reg.file p).filter (fun e => e.1 < lo) ++ s.boot.priv.filter inBank ++ (s.reg.file p).filter fun e => lo + 32768 ≤ e.1
  let s := { s with reg := s.reg.setFile p file }
  let s := s.over ((List.range 512).map (512 * t + ·)) fun s n => (s.wrP p (R.CTX_OUT_COLD n) 1).wrP p (R.CTX_OUT_XFER n) 1
  s.wrP p (R.TL_STORE_STATUS_COLD_RELOAD t) 1

/-- The banks that failed the wake check, by plane and tile (R175). -/
def State.banksFailed (s : State) (l : List (Plane × Nat)) : State :=
  let a := (l.filter fun x => decide (x.1 = .A)).map (·.2)
  let b := (l.filter fun x => decide (x.1 = .B)).map (·.2)
  let tiles := dedup (a ++ b)
  let reloadAll (s : State) (ts : List Nat) : State := s.over ts fun s t => (s.reloadBank .A t).reloadBank .B t
  let crc (s : State) (ts : List Nat) : State := s.over ts fun s t => s.raise { cls := 9, inst := t, kind := 3 }
  let fence (s : State) (p : Plane) (ts : List Nat) : State :=
    let s := s.over ts fun s t => (s.reloadBank p t).raise (planeMsg 7 t 4 p 0)
    s.fencePlane p true
  if tiles.isEmpty then s
  else if s.inService .A && s.inService .B then
    if b.isEmpty then fence s .A a else if a.isEmpty then fence s .B b else crc (reloadAll s tiles) tiles
  else crc (s.over l fun s x => s.reloadBank x.1 x.2) tiles

/-- The addresses of the registers that a domain's saved set holds (R398), as ranges from low to high. The role record stays in the Cellar
(R342). -/
def savedRanges (d : Nat) : List (Nat × Nat) :=
  if d < 80 then
    [(A.TL_PD_CFG d 0, A.TL_SENSE_CTRL d + 4), (A.TL_DITHER d, A.TL_DITHER d + 4), (A.TL_PRECOMP d, A.TL_SWITCH d + 4),
     (A.TL_CAL_REF d, A.TL_CAL_REF d + 4), (A.TL_CAL_SLICE d 0, A.TL_CAL_HTR d 0)]
  else if d = 80 ∨ d = 81 then [(0x40000, 0x50000), (0x60000, 0x70000), (A.PL_CTRL, A.PL_CELLAR + 4)]
  else if d = 82 ∨ d = 83 then [(0x20000, 0x30000)]
  else if d = 84 then [(0xC0000, 0xD0000)]
  else if d = 85 ∨ d = 86 then [(0x50000, 0x60000)]
  else if d = 89 then [(0x90000, 0xA0000)]
  else if d = 90 then [(0xA0000, 0xB0000)]
  else if d = 91 then [(0x2400000, 0x2400400)]
  else if d = 93 then [(0x30000, 0x40000)]
  else []

def inRanges (r : List (Nat × Nat)) (a : Nat) : Bool := r.any fun x => x.1 ≤ a && a < x.2

/-- The entries of a register file outside ranges, with another file's inside them, in address order. -/
def spliceFile (r : List (Nat × Nat)) (file from_ : List (Nat × Word)) : List (Nat × Word) :=
  let keep := file.filter fun e => !inRanges r e.1
  (from_.filter fun e => inRanges r e.1).foldl (fun m e => smSet resetWord m e.1 e.2) keep

/-- A saved set whose CRC differs is discarded: its registers take their reset values; a tile's CAL registers read MEAS = 0 (R404). -/
def State.setFailed (s : State) (d : Nat) : State :=
  let r := savedRanges d
  let reg := { s.reg with
    shared := spliceFile r s.reg.shared s.boot.shared
    privA := if d = 86 then s.reg.privA else spliceFile r s.reg.privA s.boot.priv
    privB := if d = 85 then s.reg.privB else spliceFile r s.reg.privB s.boot.priv }
  let s := { s with reg := reg }
  let s := if d < 80 then
      let s := s.over (List.range 33) fun s j => s.wr (R.TL_CAL_SLICE_MEAS d j) 0
      (s.over (List.range 32) fun s j => s.wr (R.TL_CAL_TIA_MEAS d j) 0).wr (R.TL_CAL_REF_MEAS d) 0
    else s
  let s := if d = 80 ∨ d = 81 then
      { s with faults := { s.faults with first := none, last := none, slot0 := none, slot1 := none, queue := [], acks := [] } }
    else s
  let s := s.setWord (A.PW_RET_FAIL (d / 32)) (setBit (s.word (A.PW_RET_FAIL (d / 32))) (d % 32))
  s.raise { cls := 9, inst := d, kind := 3 }

/-- What a sleep cost: after DEEP SLEEP the capture memory's contents are lost (R398). -/
def State.loseCapture (s : State) : State :=
  let (v, s) := s.free
  { s with cap := { s.cap with scrambled := [{ lo := 0, size := 0x400000, seed := v, fresh := [] }], mem := [] } }

/-- LOOPS_RESUME at boundary W (R405): banks and sets are checked and restored, slot histories cleared, every ACTIVE context sets
XFER. No frame of samples precedes W, so no context updates from it: the words released at W + 1 are those held. -/
def State.loopsResume (s : State) (banks : List (Plane × Nat)) (sets : List Nat) : State :=
  match s.pw.wake with
  | none => s
  | some cause =>
    let s := if s.power = .deepSleep then s.loseCapture else s
    let s := s.over sets State.setFailed
    let s := s.banksFailed (dedup (banks ++ s.pw.missed.filter fun x => s.inService x.1))
    let s := s.setSlots (s.dith.slots.map fun h => { h with sums := [] })
    let s := s.over ((s.listedCtx s.active).filter fun n => s.stateOf n == stActive) fun s n => s.setCx R.CTX_OUT_XFER n 1
    let s := ((s.wr R.PW_STATE_STATE 0).wr R.PW_STATE_WAKE_CAUSE cause).setPw fun x => { x with wake := none, missed := [] }
    let s := { s with power := .run, sense := { s.sense with prev := [], cur := [] } }
    (s.setLoop fun l => { l with ready := false, computed := [], suspect := (s.listedCtx s.active).filter s.live }).alertState

/-! ### Domains on demand (R399) -/

/-- DOMAIN_WAKE_ON_DEMAND: the first access to a held or off domain. -/
def State.wakeDomain (s : State) (d : Nat) : State :=
  if s.domainOn d ∨ d ∈ s.pw.waking then s else s.setPw fun x => { x with waking := x.waking ++ [d] }

/-- DOMAIN_READY. -/
def State.domainReady (s : State) (d : Nat) : State :=
  if d ∈ s.pw.waking then (s.powerDomain d true).setPw fun x => { x with waking := x.waking.filter (· != d) } else s

/-- The longest stall of a domain in μs (R398). -/
def stallLimit (d : Nat) : Nat :=
  if d < 80 then 180 else if d < 82 then 40 else if d < 85 then 2000 else if d < 87 then 20 else if d < 89 then 500
  else if d = 89 then 100 else if d = 90 then 20 else if d = 91 then 50 else if d = 92 then 200 else if d = 93 then 1000 else 50

/-- WAKE_STALL: a stall of `us` μs in domain d beyond its limit. PW_STALL keeps the longest one. -/
def State.wakeStall (s : State) (d us : Nat) : State :=
  if us ≤ stallLimit d then s
  else
    let s := s.bump R.PW_STALL_STALLS 1
    let s := if s.rd R.PW_STALL_LONGEST < us then (s.wr R.PW_STALL_LONGEST (min us 65535)).wr R.PW_STALL_DOMAIN d else s
    s.raise { cls := 9, inst := d, kind := 1 }

/-- The domains a queued command needs (R399). -/
def domainsNeeded : Cmd → List Nat
  | .connect .. => [85, 86]
  | .disconnect .. => [85, 86]
  | .stage .. => [85, 86]
  | .setElement .. => [85, 86]
  | .hkaInject .. => [89]
  | .stencilStart _ => [90]
  | .write a data =>
    let enables (i w : Nat) : Bool := match regAt (a + 4 * i) with
      | some h => (h.spec.reg == .CAP_CTRL || h.spec.reg == .RSP_CTRL) && w.testBit 31
      | none => false
    if (List.range data.length).any fun i => enables i (data.getD i 0) then [91] else []
  | _ => []

/-- Are the domains that a command needs on, in the planes that run? -/
def State.domainsReady (s : State) (c : Cmd) : Bool :=
  (domainsNeeded c).all fun d => s.domainOn d || match domainPlane d with
    | some p => !s.joined p
    | none => false

end Sys2Proof.Machine
end

