-- ==== Sys2Proof/Machine/RegRules.lean ====
section
/-! DEFINITION. Machine/RegRules.lean: who may reach which register, what a written value must satisfy, and when a Q-class field
may change (R326 to R328, R334, R436 to R441). -/

namespace Sys2Proof.Machine

open Sys2Proof

/-- A field of the table, at the word it stands in. -/
def FieldSpec.loc (f : FieldSpec) (a : Nat) : FieldAt := ⟨a, f.hi, f.lo⟩

def RegHit.i (h : RegHit) (k : Nat) : Nat := h.idx.getD k 0

/-- The capture memory's window (R435). -/
def inCapture (a : Nat) : Bool := 0x2000000 ≤ a && a < 0x2400000

/-- The address is mapped (R436). -/
def mapped (a : Nat) : Bool := a % 4 == 0 && (inCapture a || (regAt a).isSome)

/-! ### Shadows (R15) -/

def State.shadowOf (s : State) (f : FieldAt) : Option Nat := (s.reg.shadows.find? fun x => decide (x.field = f)).map (·.value)

/-- Record an F-class write; a later one of the same field replaces it. -/
def State.addShadow (s : State) (f : FieldAt) (v : Nat) (priv : Bool) : State :=
  { s with reg := { s.reg with shadows := s.reg.shadows.filter (fun x => !decide (x.field = f)) ++ [⟨f, v, priv⟩] } }

/-- Apply shadows to the fields they stand for. -/
def State.putShadows (s : State) (l : List Shadow) : State :=
  s.over l fun s x => if x.priv then s.wrB x.field x.value else s.wr x.field x.value

/-- The state with every shadow in force: what the next boundary brings. -/
def State.ahead (s : State) : State := s.putShadows s.reg.shadows

/-- Is a register's copy private to a plane? -/
def Copies.isPriv : Copies → Bool
  | .priv => true
  | .privOwn => true
  | _ => false

/-- The stored word of a register, of plane p where it is private. -/
def State.stored (s : State) (p : Plane) (c : Copies) (a : Nat) : Nat := if c.isPriv then s.wordP p a else s.word a

/-- The word with the shadows of its F-class fields, and the STATE a read of CTX_OUT returns (R15, R153). -/
def State.ownShown (s : State) (p : Plane) (h : RegHit) (a : Nat) : Nat :=
  let w := h.spec.fields.foldl (fun w f =>
    match (if f.cls = .framed then s.shadowOf (f.loc a) else none) with
    | some v => (f.loc a).put w v
    | none => w) (s.stored p h.spec.copies a)
  let w := (s.loop.requests.flatMap (·.writes)).foldl (fun w x => if x.1.addr = a then x.1.put w x.2 else w) w
  if h.spec.reg = .CTX_OUT then (R.CTX_OUT_STATE (h.i 0)).put w (s.shownState (h.i 0)) else w

/-- TRIM of a heater channel with a write that awaits its boundary. It stands in TL_HTR_CFG and shows in TL_CAL_HTR too (R223). -/
def State.shownTrim (s : State) (t c : Nat) : Nat :=
  let f := R.TL_HTR_CFG_TRIM t c
  (s.shadowOf f).getD (s.rd f)

def State.shownWord (s : State) (p : Plane) (h : RegHit) (a : Nat) : Nat :=
  let w := s.ownShown p h a
  if h.spec.reg = .TL_CAL_HTR then (R.TL_CAL_HTR_TRIM (h.i 0) (h.i 1)).put w (s.shownTrim (h.i 0) (h.i 1)) else w

/-! ### Plane select (R437, R438) -/

def State.planeSel (s : State) (r : Requester) : Nat := ((s.reg.planeSel.find? fun x => decide (x.1 = r)).map (·.2)).getD 3

/-- The plane whose copy a read or a write of own-plane registers takes. -/
def State.selPlane (s : State) (r : Requester) : Plane :=
  match s.planeSel r with
  | 1 => .A
  | 2 => .B
  | _ => s.active

def State.planeDown (s : State) (p : Plane) : Bool := s.health p == 1 || s.health p == 2

/-- A read of the register names a fenced or powered-off plane (R438). -/
def State.readsDown (s : State) (r : Requester) (c : Copies) : Bool :=
  match c with
  | .shared => false
  | .lane => false
  | _ => (s.planeSel r == 1 || s.planeSel r == 2) && s.planeDown (s.selPlane r)

/-- Plane select forbids the write (R438). -/
def State.selForbids (s : State) (r : Requester) (c : Copies) : Bool :=
  match c with
  | .alike => s.planeSel r == 1 || s.planeSel r == 2
  | .faults => s.planeSel r == 1 || s.planeSel r == 2
  | .priv => s.planeSel r != 3
  | _ => false

/-- The planes an own-plane write reaches. -/
def State.ownPlanes (s : State) (r : Requester) : List Plane := if s.planeSel r = 3 then [.A, .B] else [s.selPlane r]

/-! ### Scope (R309, R326 to R328, R334) -/

def identityReg : Reg → Bool
  | .GL_ID => true | .GL_SERIAL_LO => true | .GL_SERIAL_HI => true | .GL_ID_KEY => true | .GL_ID_ENDORSE => true
  | .GL_FRAME_LO => true | .GL_FRAME_HI => true
  | _ => false

def contextReg : Reg → Bool
  | .CTX_CTL => true | .CTX_BIND => true | .CTX_SP0 => true | .CTX_SP1 => true | .CTX_SPSRC => true | .CTX_GAIN => true
  | .CTX_SHAPE => true | .CTX_LIMIT => true | .CTX_SUPV => true | .CTX_XTALK => true | .CTX_ALT => true | .CTX_INTEG => true
  | .CTX_OUT => true | .CTX_PC => true | .CTX_TPC => true | .CTX_HIST => true
  | _ => false

/-- The capture descriptor (0 to 31) or response channel (32 to 35) a register belongs to. -/
def chanOfReg (h : RegHit) : Option Nat :=
  match h.spec.reg with
  | .CAP_CTRL => some (h.i 0) | .CAP_BASE => some (h.i 0) | .CAP_WMARK => some (h.i 0) | .CAP_WPTR => some (h.i 0)
  | .CAP_RPTR => some (h.i 0) | .CAP_STATUS => some (h.i 0) | .CAP_START_LO => some (h.i 0) | .CAP_START_HI => some (h.i 0)
  | .RSP_CTRL => some (32 + h.i 0) | .RSP_BASE => some (32 + h.i 0) | .RSP_WMARK => some (32 + h.i 0)
  | .RSP_WPTR => some (32 + h.i 0) | .RSP_RPTR => some (32 + h.i 0) | .RSP_STATUS => some (32 + h.i 0)
  | .RSP_START_LO => some (32 + h.i 0) | .RSP_START_HI => some (32 + h.i 0)
  | _ => none

/-- Does tenancy t own the descriptor or channel a register belongs to, with the CAPTURE scope (R328)? -/
def State.ownsChan (s : State) (t : Nat) (h : RegHit) : Bool :=
  s.on (R.PR_TEN_CFG_CAPTURE t) && (match chanOfReg h with | some c => s.rd (chOwner c) == t | none => false)

/-- What a tenancy may read (R326). -/
def State.tenancyReads (s : State) (t : Nat) (h : RegHit) : Bool :=
  if identityReg h.spec.reg then true
  else if contextReg h.spec.reg then s.ownsCtx t (h.i 0)
  else if (chanOfReg h).isSome then s.ownsChan t h
  else match h.spec.reg with
    | .GL_PLANE_SEL => true
    | .LK_BIND => h.i 0 == t
    | .LK_SEQ_RX_LO => h.i 0 == t
    | .LK_SEQ_RX_HI => h.i 0 == t
    | .LK_SEQ_TX_LO => h.i 0 == t
    | .LK_SEQ_TX_HI => h.i 0 == t
    | .LK_STATUS => decide (h.i 0 ∈ s.boundLanes t)
    | .FT_STATUS => !s.isMode .sealed
    | .SCH_QCFG => h.i 0 == t
    | .SCH_QSTAT => h.i 0 == t
    | .SCH_METER_RATE => h.i 0 == t
    | .SCH_METER_BURST => h.i 0 == t
    | .SCH_METER_TC => h.i 0 == t
    | .SCH_METER_TP => h.i 0 == t
    | .SCH_HIST => s.on (R.PR_TEN_CFG_TIMING t) && h.i 0 / 2 == t
    | .SCH_HIST_MAX => s.on (R.PR_TEN_CFG_TIMING t) && h.i 0 / 2 == t
    | .SCH_TH_CFG => s.on (R.PR_TEN_CFG_TIMING t) && h.i 0 == 81 + t
    | .SCH_TH_DEBT => s.on (R.PR_TEN_CFG_TIMING t) && h.i 0 == 81 + t
    | .SCH_TH_TOKENS => s.on (R.PR_TEN_CFG_TIMING t) && h.i 0 == 81 + t
    | .SCH_TH_STAT => s.on (R.PR_TEN_CFG_TIMING t) && h.i 0 == 81 + t
    | .RT_FABRIC => true
    | .RT_TEN_STATUS => h.i 0 == t
    | .TL_HTR_OUT => s.ownsHeater t (h.i 0) (h.i 1)
    | .TL_CAL_HTR => s.ownsHeater t (h.i 0) (h.i 1)
    | .TL_FD_CFG => s.ownsDriver t (h.i 0) (h.i 1)
    | .TL_PD_WORD => s.on (R.PR_TEN_CFG_CAPTURE t) && s.whollyOwn t (h.i 0) (h.i 1)
    | .TL_CORR_WORD => s.ownsSlot t (h.i 0) (h.i 1)
    | .TL_CORR_ENERGY => s.ownsSlot t (h.i 0) (h.i 1)
    | _ => false

/-- What a tenancy may write (R326 to R328): its contexts with CTX_WRITE; ENABLE, FORMAT and SOURCE, the watermark and the read
pointer of its descriptors. -/
def State.tenancyWrites (s : State) (t : Nat) (h : RegHit) : Bool :=
  if contextReg h.spec.reg then s.ownsCtx t (h.i 0) && s.on (R.PR_TEN_CFG_CTX_WRITE t)
  else match h.spec.reg with
    | .GL_PLANE_SEL => true
    | .CAP_CTRL => s.ownsChan t h
    | .CAP_WMARK => s.ownsChan t h
    | .CAP_RPTR => s.ownsChan t h
    | .RSP_CTRL => s.ownsChan t h
    | .RSP_WMARK => s.ownsChan t h
    | .RSP_RPTR => s.ownsChan t h
    | _ => false

/-- A field that a write can set: what makes a register more than a status register. -/
def FieldSpec.settable (f : FieldSpec) : Bool := f.acc == .rw || f.acc == .wo || f.acc == .w1s

/-- What an untrusted sideband may read (R309): identity, LK_STATUS, LK_SESSION, and of the global, power, thermal and fault blocks
the registers without a settable field. -/
def untrustedReads (h : RegHit) : Bool :=
  identityReg h.spec.reg || h.spec.reg == .GL_PLANE_SEL || h.spec.reg == .LK_STATUS || h.spec.reg == .LK_SESSION ||
  (decide (h.spec.base / 0x10000 ∈ [0x0, 0x6, 0x7, 0x8]) && !h.spec.fields.any (·.settable))

def isStencilReg : Reg → Bool
  | .ST_CTRL => true | .ST_RATE => true | .ST_TRIG_FRAME_LO => true | .ST_TRIG_FRAME_HI => true | .ST_STATUS => true
  | .ST_COND0 => true | .ST_COND1 => true | .ST_PROG => true | .ST_WAVE => true
  | _ => false

def isSurveyReg : Reg → Bool
  | .SV_CTRL => true | .SV_LIST => true | .SV_OUT => true | .SV_STATUS => true
  | _ => false

/-- The writable fields of word w at address a that would change. -/
def State.changes (s : State) (p : Plane) (h : RegHit) (a w : Nat) : List FieldSpec :=
  h.spec.fields.filter fun f => f.acc == .rw && (f.loc a).get w != (f.loc a).get (s.shownWord p h a)

/-- What a management core may write (R334); of the registers with a request bit, the request bits only. -/
def State.firmwareWrites (s : State) (h : RegHit) (a w : Nat) : Bool :=
  let onlyBits := (s.changes s.active h a w).isEmpty
  if isSurveyReg h.spec.reg || isStencilReg h.spec.reg then s.isMode .survey
  else match h.spec.reg with
    | .GL_PLANE_SEL => true
    | .TL_CAL_CTRL => onlyBits
    | .CAL_CTRL => onlyBits
    | .HKA_CTRL => onlyBits
    | .HKA_INJECT => true
    | _ => (match chanOfReg h with | some c => s.rd (chOwner c) == 30 | none => false)

/-- Step 2 for a read. -/
def State.readScope (s : State) (r : Requester) (h : RegHit) : Nat :=
  match r with
  | .principal p => if p = 30 ∨ s.tenancyReads p h then Code.ok else Code.badAddress
  | .sideband => if s.sbTrusted ∨ untrustedReads h then Code.ok else Code.badAddress
  | .firmware _ => Code.ok

/-- The protection block. -/
def inProtection (a : Nat) : Bool := 0xB0000 ≤ a && a < 0xC0000

/-- The provisioning window of R318. -/
def provReg : Reg → Bool
  | .ATTIC_PROV => true | .ATTIC_PROV_GO => true
  | _ => false

/-- Fields of a descriptor that the owner alone sets (R328): OWNER, and for a tenancy BASE, SIZE_LOG2, POLICY. -/
def ownerField (r : Requester) (h : RegHit) (f : FieldSpec) : Bool :=
  f.owner ||
  (match r, h.spec.reg with
   | .principal p, .CAP_CTRL => p != 30 && (f.lo == 30 || f.lo == 23)
   | .principal p, .RSP_CTRL => p != 30 && (f.lo == 30 || f.lo == 24)
   | _, _ => false)

/-- Steps 2 and 3 for a write. -/
def State.writeScope (s : State) (r : Requester) (h : RegHit) (a w : Nat) : Nat :=
  let reach :=
    match r with
    | .principal p => if p = 30 ∨ s.tenancyWrites p h then Code.ok else Code.badAddress
    | .sideband => if s.sbTrusted || h.spec.reg == .GL_PLANE_SEL then Code.ok else Code.notPermitted
    | .firmware _ => if s.firmwareWrites h a w then Code.ok else Code.notPermitted
  if reach ≠ Code.ok then reach
  else if inProtection a then
    (if provReg h.spec.reg && r == .sideband && s.sbTrusted && !s.prot.provisioned then Code.ok else Code.notPermitted)
  else if !s.ownerLike r && (s.changes s.active h a w).any (ownerField r h) then Code.notPermitted
  else Code.ok

/-! ### Locks (R324) -/

def guardReg : Reg → Bool
  | .TL_GUARD_HTR_A => true | .TL_GUARD_HTR_B => true | .TL_GUARD_FD_A => true | .TL_GUARD_FD_B => true
  | .TL_GUARD_TILE => true | .TL_PRIMER_HTR => true | .TL_PRIMER_FD => true | .EG_DEV_CAP => true
  | _ => false

/-- The field is a CAL value (R223, R224): TL_HTR_CFG.TRIM is the same field as TL_CAL_HTR.TRIM. -/
def calField (r : Reg) (f : FieldSpec) : Bool :=
  match r with
  | .TL_CAL_REF => f.acc == .rw
  | .TL_CAL_HV => f.acc == .rw
  | .TL_CAL_SLICE => f.acc == .rw
  | .TL_CAL_TIA => f.acc == .rw
  | .TL_CAL_HTR => f.acc == .rw
  | .HKA_CAL => f.acc == .rw
  | .TL_HTR_CFG => f.lo == 10
  | _ => false

/-- Step 4: a lock fixes a field the write would alter; the TIME lock fixes the time block but for owner frames, FW_READONLY every
firmware write. -/
def State.writeLocked (s : State) (r : Requester) (h : RegHit) (a w : Nat) : Bool :=
  let ch := s.changes s.active h a w
  (s.locked 4 && guardReg h.spec.reg && !ch.isEmpty) ||
  (s.locked 5 && ch.any (calField h.spec.reg)) ||
  (s.locked 6 && h.spec.base / 0x10000 == 3 && r != .principal 30) ||
  (match r with | .firmware _ => s.locked 10 && h.spec.reg != .GL_PLANE_SEL | _ => false)

/-! ### Values -/

/-- The fields of its own contexts a tenancy may write (R327), by register and lowest bit. -/
def tenancyField (r : Reg) (f : FieldSpec) (stateScope : Bool) : Bool :=
  match r with
  | .CTX_SP0 => true
  | .CTX_SP1 => true
  | .CTX_SPSRC => true
  | .CTX_GAIN => true
  | .CTX_SHAPE => f.lo == 26 || f.lo == 22
  | .CTX_CTL => f.lo == 10 || f.lo == 14 || f.lo == 25 || f.lo == 2
  | .CTX_SUPV => f.lo == 16
  | .CTX_ALT => f.lo == 0
  | .CTX_OUT => f.lo == 9 && stateScope
  | _ => false

/-- R327 for a written word: a fixed field that would change, a source other than CONST or a cascade of an own context, a state that
a tenancy may not ask for. -/
def State.tenancyWord (s : State) (t : Nat) (h : RegHit) (a w : Nat) : Nat :=
  let ch := s.changes s.active h a w
  let n := h.i 0
  if ch.any fun f => !tenancyField h.spec.reg f (s.on (R.PR_TEN_CFG_CTX_STATE t)) then Code.scopeField
  else if h.spec.reg = .CTX_OUT ∧ (R.CTX_OUT_COLD n).get w = 1 then Code.scopeField
  else if h.spec.reg = .CTX_SPSRC ∧ ch.any (fun f => 16 ≤ f.lo) then
    let src := (R.CTX_SPSRC_SRC n).get w
    let m := n / 512 * 512 + (R.CTX_SPSRC_SRC_INDEX n).get w
    if src = 0 ∨ (src = 4 ∧ s.ownsCtx t m) then Code.ok else Code.scopeField
  else Code.ok

/-- The bounds of a CAL value (R230). -/
def calBounds (h : RegHit) (f : FieldSpec) (a : Nat) : Option (Int × Int) :=
  match h.spec.reg with
  | .HKA_CAL => if f.lo = 0 then some (-32, 32) else some (-328, 328)
  | .TL_HTR_CFG => none
  | _ => calLimits (a % 0x1000) f.hi

/-- R_path that a written PFULL stands for, at the channel's nominal full current, lies within 360 to 1,650 Ω (R230); a held-voltage
channel has none. -/
def State.pfullOk (s : State) (t c v : Nat) : Bool :=
  let j := 2500 * 2 ^ s.rd (R.TL_HTR_CFG_RANGE t c) * (40 + min 120 (s.rd (R.TL_HTR_CFG_ISET t c)))
  s.on (R.TL_HTR_CFG_MODE t c) || (360 * j * j ≤ v * 40000000000 && v * 40000000000 ≤ 1650 * j * j)

def State.calWord (s : State) (h : RegHit) (a w : Nat) : Nat :=
  let ch := (s.changes s.active h a w).filter (calField h.spec.reg)
  let bad := ch.any fun f =>
    let v := (f.loc a).get w
    if h.spec.reg = .TL_CAL_HTR ∧ f.lo = 0 then !s.pfullOk (h.i 0) (h.i 1) v
    else match calBounds h f a with
      | some (lo, hi) => let x := signed (f.hi + 1 - f.lo) v; x < lo || hi < x
      | none => false
  if bad then calRange else Code.ok

/-- The level fields of TL_FD_LEVEL that would change and that a context names (R210). -/
def State.levelWord_ (s : State) (h : RegHit) (a w : Nat) : Nat :=
  let ch := s.changes s.active h a w
  if ch.any fun f => !(s.ctxOfLevel (levelKey (h.i 0) (h.i 1) (if f.lo = 16 then 1 else 0))).isEmpty then Code.levelDriven else Code.ok

/-- The transmit windows of a lane satisfy R266. -/
def State.txwinOk (s : State) (l : Nat) : Bool :=
  let ws := ((List.range 16).filter fun w => s.on (R.LK_TXWIN_VALID l w)).map fun w =>
    (s.rd (R.LK_TXWIN_START l w), s.rd (R.LK_TXWIN_LENGTH l w), s.rd (R.LK_TXWIN_PRINCIPAL l w))
  let least := if s.on (R.LK_CFG_RATE l) then 203 else 506
  let sorted := sortBy (·.1) ws
  ws.all (fun x => least ≤ x.2.1 && x.1 + x.2.1 ≤ 8192 && isPrincipal x.2.2) &&
    (sorted.zip (sorted.drop 1)).all fun p => p.1.1 + p.1.2.1 ≤ p.2.1

/-- A unit that an FC_UNFENCE index may name (R384, FC_UNFENCE). -/
def unfenceIndexOk (unit index : Nat) : Bool := index < [80, 8, 2, 1, 16].getD unit 0

def inRange (v lo hi : Nat) : Bool := lo ≤ v && v ≤ hi

/-- What a register's own rules say of a value to be set, whoever writes it (R439 step 5). -/
def State.settingCode (s : State) (h : RegHit) (a w : Nat) : Nat :=
  let arg (c : Bool) : Nat := if c then Code.ok else Code.badArg
  match h.spec.reg with
  | .AV_LOSS => arg (w % 1024 ≤ 1000)
  | .CM_CTRL => arg (R.CM_CTRL_REARRANGE_HOLD.get w != 0 && inRange (R.CM_CTRL_SETTLE_TOL.get w) 2 10 &&
      inRange (R.CM_CTRL_SETTLE_WIN.get w) 1 8)
  | .AP_TOKEN_CTRL => arg (R.AP_TOKEN_CTRL_TOKEN_TIMEOUT.get w != 0)
  | .FT_PPS_OFFSET => let v := signed 32 w; arg (-500000000 ≤ v && v ≤ 499999999)
  | .FC_SEV => arg ((List.range 8).all fun k => bits w (4 * k + 2) (4 * k) ≤ 4)
  | .TH_CFG => arg (80 ≤ R.TH_CFG_L1_ON.get w && R.TH_CFG_L1_ON.get w ≤ R.TH_CFG_L2_ON.get w &&
      R.TH_CFG_L2_ON.get w ≤ R.TH_CFG_L3_ON.get w && R.TH_CFG_L3_ON.get w ≤ 110)
  | .FC_UNFENCE => arg (unfenceIndexOk (R.FC_UNFENCE_UNIT.get w) (R.FC_UNFENCE_INDEX.get w))
  | .BT_NOR_CTRL => arg (R.BT_NOR_CTRL_OP.get w != 3)
  | .RSP_CTRL => arg (R.RSP_CTRL_CONTEXT (h.i 0) |>.get w |> (· < 40960))
  | .RT_REMAP =>
    let k := R.RT_REMAP_LOGICAL.get w
    if k < s.fabric.elementCount ∧ (s.fabric.record k).alt ≠ 0xFFFF then Code.ok else Code.badPort
  | _ => s.calWord h a w

/-! ### The stopped table (R441) -/

/-- Every context of the list is OFF or FENCED. -/
def State.allStopped (s : State) (l : List Nat) : Bool := l.all fun n => s.stateOf n == stOff || s.stateOf n == stFenced

def State.routeBusy (s : State) : Bool := !s.route.begun.isEmpty || s.route.full.isSome || !s.route.deferred.isEmpty

/-- The block of the register's Q-class fields is stopped. -/
def State.blockStopped (s : State) (r : Requester) (h : RegHit) : Bool :=
  if contextReg h.spec.reg then s.allStopped [h.i 0]
  else if isSurveyReg h.spec.reg then !s.on R.SV_STATUS_BUSY
  else if isStencilReg h.spec.reg then !(s.gen (h.i 0)).running && !(s.gen (8 + h.i 0)).running
  else match chanOfReg h with
    | some c => !s.running c
    | none =>
      match h.spec.reg with
      | .RT_REMAP => s.rdP s.active R.RT_CTRL_HALT == 1 && !s.routeBusy
      | .TL_HTR_CFG => s.allStopped (s.ctxOfHeater (h.i 0) (h.i 1))
      | .TL_FD_CFG => s.allStopped (s.ctxOfDriver (h.i 0) (h.i 1))
      | .MT_CTRL => (s.ownPlanes r).all fun p => !s.mtBusy p
      | .MT_BASE => (s.ownPlanes r).all fun p => !s.mtBusy p
      | .LK_PROTO => (List.range 8).all fun l => !s.on (R.LK_CFG_ENABLE l)
      | _ => if h.spec.copies = .lane then !s.on (R.LK_CFG_ENABLE (h.i 0)) else true

/-- Step 6: a Q-class field would change while its block runs. RT_REMAP is refused whatever it holds (R48). -/
def State.quiesceBad (s : State) (r : Requester) (h : RegHit) (a w : Nat) : Bool :=
  let p := if h.spec.copies = .privOwn then s.selPlane r else s.active
  ((s.changes p h a w).any (fun f => f.cls == .quiesced) || h.spec.reg == .RT_REMAP) && !s.blockStopped r h

end Sys2Proof.Machine
end

