-- ==== Sys2Proof/Machine/Image.lean ====
section
/-! DEFINITION. Machine/Image.lean: the NOR flash, the configuration image in it, its checks and what it gives the device (R409 to
R421, R42 to R47, R233). -/

namespace Sys2Proof.Machine

open Sys2Proof

/-! ### The NOR flash -/

/-- The bytes of a store from address a on; an unlisted one reads as 0xFF. -/
def flashFill : Nat → Nat → Memory → List Nat
  | 0, _, _ => []
  | n + 1, a, [] => 0xFF :: flashFill n (a + 1) []
  | n + 1, a, (k, v) :: rest =>
    if k = a then v.toNat :: flashFill n (a + 1) rest else 0xFF :: flashFill n (a + 1) ((k, v) :: rest)

/-- n bytes of the NOR from address a. -/
def State.norBytes (s : State) (a n : Nat) : List Nat := flashFill n a (s.nor.filter fun c => a ≤ c.1 && c.1 < a + n)

/-- The listed cells of a byte string at address a. -/
def flashCells : Nat → List Nat → Memory
  | _, [] => []
  | a, b :: rest =>
    if b % 256 = 0xFF then flashCells (a + 1) rest else (a, BitVec.ofNat 8 b) :: flashCells (a + 1) rest

/-- Replace the bytes from address a on. -/
def flashPut (m : Memory) (a : Nat) (bytes : List Nat) : Memory :=
  let top := a + bytes.length
  m.filter (fun c => c.1 < a) ++ flashCells a bytes ++ m.filter (fun c => top ≤ c.1)

def State.norPut (s : State) (a : Nat) (bytes : List Nat) : State := { s with nor := flashPut s.nor a bytes }

/-- Programming a NOR clears bits and sets none (log entry 4). -/
def State.norProgram (s : State) (a : Nat) (bytes : List Nat) : State :=
  s.norPut a (List.zipWith (fun x y => x &&& y) (s.norBytes a bytes.length) bytes)

/-- What others have written into the NOR since the device last read it. -/
def State.norOthers (s : State) (flash : List (Nat × List Nat)) : State := s.over flash fun s x => s.norPut x.1 x.2

/-- The device drives the NOR: PRIVATE or HALT, or the head of a chain (R408, R423, R433). -/
def State.drivesNor (s : State) : Bool := s.rd R.BT_STATUS_BOOT_MODE != 1 || s.chainPos == 0

def slotBase (k : Nat) : Nat := k * 0x800000

/-! ### Header and directory (R411 to R413) -/

/-- The first of steps 1 to 3 that a header fails; 0 for none. -/
def State.headerStep (s : State) (h : List Nat) : Nat :=
  if h.take 4 ≠ [0x43, 0x54, 0x33, 0x49] ∨ leAt h 4 2 ≠ 1 ∨ leAt h 6 2 ≠ 0x3024 then 1
  else if 0x00B0 < leAt h 8 2 then 2
  else if some (sha256 (slice h 0x20 64)) ≠ s.prot.imageKeyHash then 3
  else 0

/-- A section of the directory: its index, type, whether it is REQUIRED, its positions, offset, length. -/
structure Section where
  index : Nat
  kind : Nat
  required : Bool
  positions : Nat
  offset : Nat
  length : Nat

def directory (img : List Nat) : List Section :=
  (List.range (leAt img 0x14 2)).map fun i =>
    let e := slice img (0x80 + 16 * i) 16
    ⟨i, leAt e 0 2, (leAt e 2 2).testBit 0, leAt e 4 2, leAt e 8 4, leAt e 12 4⟩

/-- Step 4. -/
def layoutOk (img : List Nat) : Bool :=
  let len := leAt img 0x10 4
  let n := leAt img 0x14 2
  let l := (directory img).filter fun x => 0 < x.length
  len % 4 == 0 && len ≤ 8388544 && inRange n 1 64 && 0x80 + 16 * n ≤ len &&
    ((directory img).all fun x => x.offset % 4 == 0 && x.length % 4 == 0 && 0x80 + 16 * n ≤ x.offset && x.offset + x.length ≤ len) &&
    (l.all fun x => l.all fun y => x.index == y.index || !overlap x.offset x.length y.offset y.length)

/-! ### Contents (R414 to R421) -/

/-- Where an image fails step 7: section and word offset; none where its fault stands at no place. -/
abbrev Place := Option (Nat × Nat)

/-- What the image gives beside registers: MODE, START_PLANE, the addresses that its REGISTERS records name, and the contexts that its
Thilith-2 records name. -/
structure Gift where
  mode : Nat := 0
  startPlane : Nat := 0
  named : List Nat := []

/-- Step through a section's records of n bytes, with the word offset of each. -/
def records (sec : Section) (n : Nat) (body : List Nat) : List (Place × List Nat) :=
  let l := chunks n (body.length + 1) body
  (List.range l.length).zip l |>.map fun x => (some (sec.index, n * x.1 / 4), x.2)

def need (c : Bool) (at_ : Place) : Except Place Unit := if c then .ok () else .error at_

/-- DEVICE. -/
def State.loadDevice (s : State) (g : Gift) (sec : Section) (b : List Nat) : Except Place (State × Gift) := do
  need (b.length == 16 && leAt b 0 1 ≤ 7 && leAt b 1 1 ≤ 1) (some (sec.index, 0))
  let mac := beAt b 4 6
  let s := (s.setWord A.LK_MAC_LO (mac % 2 ^ 32)).setWord A.LK_MAC_HI (mac / 2 ^ 32)
  pure (s, { g with mode := leAt b 0 1, startPlane := leAt b 1 1 })

def readCell (b : List Nat) : CellRec :=
  ⟨leAt b 0 2, leAt b 2 2, leAt b 4 2, leAt b 6 2, leAt b 8 2, leAt b 10 2, leAt b 12 1, leAt b 13 1⟩

def readPort (b : List Nat) : PortRec := ⟨leAt b 0 2, leAt b 2 2, leAt b 4 2, leAt b 6 2, leAt b 8 2⟩

/-- A list without repeats. -/
def distinct (l : List Nat) : Bool := let m := sortBy id l; (m.zip (m.drop 1)).all fun p => p.1 != p.2

def CellRec.heaters (r : CellRec) : List Nat := [r.htrU, r.htrL].filter (· != 0xFFFF)

/-- A cell's heaters, contexts and photodiode lie in the tile that owns its physical cell, and its fields in their ranges (R43, R47). -/
def CellRec.placed (r : CellRec) : Bool :=
  let t := r.phys / 128
  r.phys < 10240 && r.ctx % 4 == 0 && r.ctx / 512 == t && r.pd / 32 == t && r.heaters.all (· / 256 == t) && r.flags < 8 &&
    (r.owner < 16 || r.owner == 30)

def PortRec.placed (r : PortRec) : Bool :=
  let t := r.outCtx / 512
  t < 80 && r.inCtx / 512 == t && r.outPd / 32 == t && r.inPd / 32 == t && (r.outHtr == 0xFFFF || r.outHtr / 256 == t)

/-- The rules of R47 on the fabric description. -/
def Fabric.valid (f : Fabric) : Bool :=
  let recs := f.cells ++ f.aux
  let alts := (f.cells.map (·.alt)).filter (· != 0xFFFF)
  distinct (recs.map (·.phys)) && distinct (recs.flatMap (·.heaters) ++ (f.ports.map (·.outHtr)).filter (· != 0xFFFF)) &&
    distinct (recs.flatMap (fun r => [r.ctx, r.ctx + 1, r.ctx + 2, r.ctx + 3]) ++ f.ports.flatMap fun r => [r.outCtx, r.inCtx]) &&
    recs.all (·.placed) && f.ports.all (·.placed) && f.aux.all (·.alt == 0xFFFF) && alts.all (· < f.aux.length) && distinct alts &&
    alts.all (fun a => (f.aux.getD a noRec).owner == 30) && (f.topology != 1 || f.cells.all (·.owner == 30))

/-- FABRIC (R42 to R47). -/
def State.loadFabricSection (s : State) (sec : Section) (b : List Nat) : Except Place State := do
  let topo := leAt b 2 1
  let n := leAt b 3 1
  let place := leAt b 4 1
  let count := leAt b 6 2
  let auxCount := leAt b 8 2
  let ct := leAt b 12 4
  let pt := leAt b 16 4
  let aut := leAt b 20 4
  need (32 ≤ b.length && leAt b 0 2 == 1 && (topo == 1 || topo == 2) && place ≤ 1 && (topo == 1 || place == 1) &&
    (if topo = 1 then inRange n 4 10 && count == (2 * n - 1) * 2 ^ (n - 1) else n == 0 && inRange count 1 10240) &&
    auxCount + count ≤ 10240 &&
    (if place = 1 then ct != 0 && (if topo = 1 then pt != 0 else pt == 0) else ct == 0 && pt == 0) &&
    ((auxCount == 0) == (aut == 0)) && leAt b 5 1 == 0 && leAt b 24 8 == 0) (some (sec.index, 0))
  let ports := if topo = 1 ∧ place = 1 then 2 ^ n else 0
  let tables := [(ct, if place = 1 then 16 * count else 0), (pt, 12 * ports), (aut, 16 * auxCount)].filter (0 < ·.2)
  need (tables.all (fun x => 32 ≤ x.1 && x.1 + x.2 ≤ b.length) &&
    tables.all (fun x => tables.all fun y => x.1 == y.1 || !overlap x.1 x.2 y.1 y.2) && distinct (tables.map (·.1))) (some (sec.index, 3))
  let f : Fabric := {
    topology := topo, n := n, placement := place, cellCount := count, hitPolicy := leAt b 10 2
    cells := if place = 1 then (chunks 16 (count + 1) (slice b ct (16 * count))).map readCell else (List.range count).map linearCell
    aux := (chunks 16 (auxCount + 1) (slice b aut (16 * auxCount))).map readCell
    ports := if topo = 1 then
        (if place = 1 then (chunks 12 (ports + 1) (slice b pt (12 * ports))).map readPort else (List.range (2 ^ n)).map linearPort)
      else [] }
  need f.valid (some (sec.index, ct / 4))
  let f := if place = 1 then f else { f with cells := [], ports := [] }
  let s := { s with fabric := f }
  pure ((s.setWordB A.RT_FABRIC (topo * 2 ^ 24 + n * 2 ^ 20 + count)).setWordB A.RT_HIT_POLICY (leAt b 10 2))

/-- The bits of a register word that have a field. -/
def RegSpec.fieldMask (r : RegSpec) : Nat := r.fields.foldl (fun m f => (f.loc 0).put m (2 ^ (f.hi + 1 - f.lo) - 1)) 0

/-- Replace the words of a register file in a range of addresses. -/
def fileSplice (m : List (Nat × Word)) (lo hi : Nat) (l : List (Nat × Word)) : List (Nat × Word) :=
  m.filter (fun e => e.1 < lo) ++ l.filter (fun e => decide (e.2 ≠ resetWord e.1)) ++ m.filter fun e => hi ≤ e.1

/-- A context word as it is held: reserved bits 0. -/
def contextWord (a w : Nat) : Nat × Word :=
  (a, BitVec.ofNat 32 (match regAt a with | some h => w &&& h.spec.fieldMask | none => 0))

/-- The sixteen words of contexts from n on. -/
def State.putContexts (s : State) (n : Nat) (words : List Nat) : State :=
  let lo := 0x1000000 + 64 * n
  let hi := lo + 4 * words.length
  let l := ((List.range words.length).zip words).map fun x => contextWord (lo + 4 * x.1) x.2
  { s with reg := { s.reg with privA := fileSplice s.reg.privA lo hi l, privB := fileSplice s.reg.privB lo hi l } }

/-- The runs of a CONTEXTS body: word offset, first context, count, bytes. -/
def contextRuns : Nat → Nat → List Nat → List (Nat × Nat × Nat × List Nat)
  | 0, _, _ => []
  | _, _, [] => []
  | fuel + 1, off, b =>
    let n := leAt b 2 2
    (off, leAt b 0 2, n, slice b 4 (64 * n)) :: contextRuns fuel (off + 1 + 16 * n) (b.drop (4 + 64 * n))

def wordsOfBytes (b : List Nat) : List Nat := (chunks 4 (b.length + 1) b).map ofLe

/-- CONTEXTS. -/
def State.loadContexts (s : State) (sec : Section) (b : List Nat) : Except Place State :=
  (contextRuns (b.length + 1) 0 b).foldlM (init := s) fun s r => do
    need (r.2.2.2.length == 64 * r.2.2.1 && r.2.1 + r.2.2.1 ≤ 40960) (some (sec.index, r.1))
    pure (s.putContexts r.2.1 (wordsOfBytes r.2.2.2))

/-- A field of a register that the image gives through a REGISTERS record (R446). -/
def recordField (r : RegSpec) (f : FieldSpec) : Bool := f.kind == .image && !calField r.reg f

/-- A register that another section holds, or that no record may name (R415, R446). -/
def recordForbidden (r : Reg) : Bool :=
  contextReg r || (match r with
    | .LK_MAC_LO => true | .LK_MAC_HI => true | .LK_BIND => true | .PL_ROLE => true | .RT_FABRIC => true | .RT_HIT_POLICY => true
    | _ => false)

/-- One REGISTERS record. The bits of the record that are not the image's must stand as after reset. -/
def State.loadRegister (s : State) (p : Place) (a w : Nat) : Except Place State :=
  match (if a % 4 = 0 then regAt a else none) with
  | none => .error p
  | some h => do
    let fs := h.spec.fields.filter (recordField h.spec)
    let kept := fs.foldl (fun m f => (f.loc a).put m 0) w
    let base := fs.foldl (fun m f => (f.loc a).put m 0) h.spec.resetWord
    need (!inProtection a && !recordForbidden h.spec.reg && !fs.isEmpty && (kept == 0 || kept == base)) p
    need (s.settingCode h a w == Code.ok) p
    let v := fs.foldl (fun m f => (f.loc a).put m ((f.loc a).get w)) ((if h.spec.copies.isPriv then s.wordP .A a else s.word a))
    pure (if h.spec.copies.isPriv then s.setWordB a v else s.setWord a v)

/-- PROTECTION (R417). -/
def State.loadProtection (s : State) (sec : Section) (b : List Nat) : Except Place State := do
  need (b.length == 4168) (some (sec.index, 0))
  let owner := leAt b 0 4
  let s := (s.setWord A.PR_OWNER (putBits (s.word A.PR_OWNER) 31 24 (bits owner 31 24))).wr R.PR_LOCK_LOCK (leAt b 4 4)
  let bodies := (List.range 16).map fun t =>
    let x := slice b (8 + 260 * t) 260
    ({ target := t, fields := 31, cfg := leAt x 0 4, lock := 0, floor := 0, inMap := leAt x 4 128, outMap := leAt x 132 128 } : ArmBody)
  let s := s.over bodies fun s x => s.putRecord13 x
  let own : ArmBody := { target := 30, fields := 2, cfg := owner, lock := 0, floor := 0, inMap := 0, outMap := 0 }
  need (!s.bindingsBad (own :: bodies)) (some (sec.index, 0))
  pure s

/-- A record of a CAL register that the image holds (R418): checked against the absolute limits, applied if `mine`. -/
def State.loadCal (s : State) (p : Place) (mine : Bool) (a w : Nat) : Except Place State :=
  match (if a % 4 = 0 then regAt a else none) with
  | none => .error p
  | some h => do
    let fs := h.spec.fields.filter (calField h.spec.reg)
    need (!fs.isEmpty && h.spec.reg != .TL_HTR_CFG && s.calWord h a w == Code.ok) p
    if !mine then pure s
    else
      let s := s.setWord a (fs.foldl (fun m f => (f.loc a).put m ((f.loc a).get w)) (s.word a))
      pure (if h.spec.reg = .TL_CAL_HTR then s.wr (R.TL_HTR_CFG_TRIM (h.i 0) (h.i 1)) ((R.TL_CAL_HTR_TRIM 0 0).get w) else s)

/-- The entries of a CALIBRATION body: serial, word offset, records. -/
def calEntries : Nat → Nat → List Nat → List (Nat × Nat × List Nat)
  | 0, _, _ => []
  | n + 1, off, b =>
    let k := leAt b 8 2
    (leAt b 0 8, off + 3, slice b 12 (8 * k)) :: calEntries n (off + 3 + 2 * k) (b.drop (12 + 8 * k))

def State.loadCalibration (s : State) (sec : Section) (b : List Nat) : Except Place State :=
  (calEntries (leAt b 0 2) 1 (b.drop 4)).foldlM (init := s) fun s e =>
    let l := chunks 8 (e.2.2.length + 1) e.2.2
    ((List.range l.length).zip l).foldlM (init := s) fun s x =>
      s.loadCal (some (sec.index, e.2.1 + 2 * x.1)) (e.1 == Config.serial) (leAt x.2 0 4) (leAt x.2 4 4)

/-- T2_HEATER. -/
def State.loadT2Heater (s : State) (g : Gift) (p : Place) (b : List Nat) : Except Place (State × Gift) := do
  let h := leAt b 0 2
  let c := A.TL_HTR_CFG (h / 256) (h % 256)
  let ga := A.TL_GUARD_HTR_A (h / 256) (h % 256)
  need (b.length == 8 && h < 20480 && leAt b 2 1 ≤ 1 && leAt b 3 1 ≤ 127 && !g.named.contains c && !g.named.contains ga) p
  let s := (s.setWord c (leAt b 2 1 * 2 ^ 30 + leAt b 3 1 * 2 ^ 23)).setWord ga (leAt b 4 2 * 2 ^ 16 + leAt b 6 2)
  pure (s, { g with named := c :: ga :: g.named })

/-- T2_PRIMER. -/
def State.loadT2Primer (s : State) (g : Gift) (p : Place) (b : List Nat) : Except Place (State × Gift) := do
  let h := leAt b 0 2
  let a := A.TL_PRIMER_HTR (h / 256) (h % 256)
  need (b.length == 8 && h < 20480 && leAt b 4 4 < 2 ^ 20 && !g.named.contains a) p
  pure (s.setWord a (leAt b 4 4), { g with named := a :: g.named })

/-- T2_LOOP (R421). -/
def State.loadT2Loop (s : State) (g : Gift) (p : Place) (b : List Nat) : Except Place (State × Gift) := do
  let n := leAt b 0 2
  let h := leAt b 2 2
  let pd := leAt b 4 1
  let code := leAt b 5 1
  let a := A.CTX_CTL n
  need (b.length == 20 && n < 40960 && h / 256 == n / 512 && pd < 32 && inRange code 8 31 && !g.named.contains a) p
  let sp := unsigned 24 (sat24 (asr (signed 32 (leAt b 10 4)) 4))
  let words := [3 * 2 ^ 29 + 1 * 2 ^ 26 + 1 * 2 ^ 20, h % 256 * 2 ^ 24 + pd * 2 ^ 19 + code * 2 ^ 14, sp * 2 ^ 8, 0, 0,
    leAt b 6 2 * 2 ^ 16 + leAt b 8 2, 22 * 2 ^ 26 + 31 * 2 ^ 17, leAt b 14 2 * 2 ^ 16 + leAt b 16 2, 0, 0, 0, 0, 1 * 2 ^ 9, 0, 0, 0]
  pure (s.putContexts n words, { g with named := a :: g.named })

/-! ### The whole image -/

/-- The type is one that this device knows (R414, R420). -/
def knownType (k : Nat) : Bool := inRange k 1 7 || inRange k 0x101 0x103

/-- Fields that no record names (R415, R233, R241). -/
def State.imageDefaults (s : State) (named : List Nat) : State :=
  let s := s.over (List.range 17) fun s p => if named.contains (A.AV_LOSS p) then s else s.wr (R.AV_LOSS_LOSS p) 50
  let s := if named.contains A.LK_PROTO then s else (s.wr R.LK_PROTO_ETHERTYPE 0x88B5).wr R.LK_PROTO_UDP_PORT 50211
  s.over (s.guardedUnits 0x2400 0x2800 256) fun s h =>
    s.wr (R.TL_CAL_HTR_PFULL (h / 256) (h % 256)) (min 65535 (16 * s.prated h))

/-- A loaded context's dither path, photodiode and home code, as its words stand. -/
def State.imgPath (s : State) (n : Nat) : Nat := s.rdP .A (R.CTX_CTL_DITHER_PATH n)
def State.imgCode (s : State) (n : Nat) : Nat := s.rdP .A (R.CTX_BIND_HOME_CODE n)
def State.imgPd (s : State) (n : Nat) : Nat := s.rdP .A (R.CTX_BIND_PD n)

/-- The code of a context at length 32 (R132). -/
def State.imgLongCode (s : State) (n : Nat) : Nat :=
  if s.imgPath n = 3 then thermalCode true (s.imgCode n) else s.imgCode n

/-- Two contexts that can be ACTIVE together: every two but the bar and the cross level context of one cell (log entry 42). -/
def State.together (s : State) (m n : Nat) : Bool :=
  match s.roleOf m, s.roleOf n with
  | some (a, i), some (b, j) => !(a == b && i + j == 3 && i != j && i != 0 && j != 0)
  | _, _ => true

/-- Two contexts with dither stand against each other: one home code, one code at length 32, or one driver and sense (R134, R138). -/
def State.imgClash (s : State) (m n : Nat) : Bool :=
  m != n && m / 512 == n / 512 &&
    ((s.imgPd m == s.imgPd n && (s.imgCode m == s.imgCode n || (s.imgLongCode m == s.imgLongCode n && s.together m n))) ||
     (s.imgPath m == s.imgPath n && s.imgPath n != 3 &&
        (match s.roleOf m, s.roleOf n with
          | some (a, _), some (b, _) => (s.fabric.record a).phys == (s.fabric.record b).phys && s.together m n
          | _, _ => false)))

/-- A context's own code (R132, R138). -/
def State.imgCodeBad (s : State) (mode n : Nat) : Bool :=
  (s.imgPath n == 3 && !inRange (s.imgCode n) 8 31) || (16 ≤ s.imgCode n && s.rdP .A (R.CTX_OUT_STATE n) != 0 && Mode.ofCode? mode != some .exact)

/-- The lowest context whose dither makes the image be rejected (R132, R134, R138). -/
def State.imgDitherBad (s : State) (mode : Nat) : Option Nat :=
  let l := (s.listedCtx .A).filter fun n => s.imgPath n != 0
  l.find? fun n => s.imgCodeBad mode n || l.any fun m => m < n && s.imgClash m n

/-- Where a context's words stand in the image: its CONTEXTS section and word offset. -/
def contextPlace (secs : List (Nat × List (Nat × Nat × Nat × List Nat))) (n : Nat) : Place :=
  secs.findSome? fun x => x.2.findSome? fun r =>
    if r.2.1 ≤ n ∧ n < r.2.1 + r.2.2.1 then some (x.1, r.1 + 1 + 16 * (n - r.2.1)) else none

/-- The checks on the whole of what has been loaded: R218, R210, R266, R331. -/
def State.loadedOk (s : State) (g : Gift) : Bool :=
  s.primerFits && (List.range 8).all s.txwinOk && (g.mode != 5 || s.sealedOk)

/-- Alignment at start-up: the map is empty, so nothing is pending (R417). -/
def State.alignAtStart (s : State) : State :=
  let s := s.evalAlignment
  { s with route := { s.route with aligned := s.route.aligned.map fun a => { a with pending := false } } }

/-- Contexts given: every one exactly once, by a run or a T2_LOOP record (R414). -/
def contextsCovered (runs : List (Nat × Nat)) (t2 : List Nat) : Bool :=
  let l := sortBy (·.1) (runs.filter (0 < ·.2) ++ t2.map fun n => (n, 1))
  (l.zip (l.drop 1)).all (fun p => p.1.1 + p.1.2 ≤ p.2.1) && sumOf (l.map (·.2)) == 40960

/-- Step 7, and what the image gives: the state with everything of the image in it, and its Gift. -/
def State.loadImage (s : State) (img : List Nat) : Except Place (State × Gift) := do
  let secs := (directory img).filter fun x => x.positions.testBit s.chainPos
  let body (x : Section) : List Nat := slice img x.offset x.length
  let of (k : Nat) : List Section := secs.filter fun x => x.kind == k
  need (!secs.any fun x => x.required && !knownType x.kind) ((secs.find? fun x => x.required && !knownType x.kind).map fun x => (x.index, 0))
  need ((of 1).length == 1 && (of 2).length == 1 && 1 ≤ (of 3).length && (of 5).length == 1 && (of 6).length ≤ 1 && (of 7).length == 1) none
  let (s, g) ← (of 1).foldlM (init := (s, ({} : Gift))) fun x sec => x.1.loadDevice x.2 sec (body sec)
  let s ← (of 2).foldlM (init := s) fun s sec => s.loadFabricSection sec (body sec)
  let s ← (of 3).foldlM (init := s) fun s sec => s.loadContexts sec (body sec)
  let (s, g) ← (of 4).foldlM (init := (s, g)) fun x sec =>
    (records sec 8 (body sec)).foldlM (init := x) fun x r => do
      let s ← x.1.loadRegister r.1 (leAt r.2 0 4) (leAt r.2 4 4)
      need (r.2.length == 8) r.1
      pure (s, { x.2 with named := leAt r.2 0 4 :: x.2.named })
  let (s, g) ← (of 0x101).foldlM (init := (s, g)) fun x sec => (records sec 8 (body sec)).foldlM (init := x) fun x r => x.1.loadT2Heater x.2 r.1 r.2
  let (s, g) ← (of 0x102).foldlM (init := (s, g)) fun x sec => (records sec 20 (body sec)).foldlM (init := x) fun x r => x.1.loadT2Loop x.2 r.1 r.2
  let (s, g) ← (of 0x103).foldlM (init := (s, g)) fun x sec => (records sec 8 (body sec)).foldlM (init := x) fun x r => x.1.loadT2Primer x.2 r.1 r.2
  let ctxSecs := (of 3).map fun sec => (sec.index, contextRuns (sec.length + 1) 0 (body sec))
  let runs := ctxSecs.flatMap fun x => x.2.map fun r => (r.2.1, r.2.2.1)
  let t2 := (g.named.filter fun a => 0x1000000 ≤ a && a < 0x2000000).map fun a => (a - 0x1000000) / 64
  need (contextsCovered runs t2) none
  let s := s.imageDefaults g.named
  let s ← (of 6).foldlM (init := s) fun s sec => s.loadCalibration sec (body sec)
  let s ← (of 5).foldlM (init := s) fun s sec => s.loadProtection sec (body sec)
  let s := s.alignAtStart
  need ((of 7).all fun sec => Config.firmwareOk (body sec)) ((of 7).head?.map fun x => (x.index, 0))
  need (s.imgDitherBad g.mode).isNone ((s.imgDitherBad g.mode).bind (contextPlace ctxSecs))
  need (s.loadedOk g) none
  pure (s, g)

end Sys2Proof.Machine
end

