-- ==== Sys2Proof/Machine/Boot.lean ====
section
/-! DEFINITION. Machine/Boot.lean: reset, start-up, load chains, the way from an image to RUN, the ring's boot statuses, post-mortem
records, the NOR in service, REBOOT (R407 to R409, R413, R416, R422 to R434). -/

namespace Sys2Proof.Machine

open Sys2Proof

def State.setBoot (s : State) (f : Boot → Boot) : State := { s with boot := f s.boot }

/-! ### Results of BT_STATUS -/

def bootLoading := 0
def bootOk := 1
def bootNoImage := 2
def bootSelftest := 3
def bootUnprovisioned := 4
def bootHalt := 5
def bootWaitPass := 6

/-! ### Reset (R407, R434) -/

/-- A device in reset: everything cleared but the Attic's OTP and MTP, the NOR, with VAON the real-time clock and its alarm, and
THERM_TRIP_N unless RESET_N is what resets. -/
def State.inReset (s : State) (vaon resetN : Bool) (phase : BootPhase) : State :=
  let r : State := { pending := s.pending, freeCount := s.freeCount, nor := s.nor }
  let r := { r with
    prot := { keys := s.prot.keys.map fun k => { k with grace := none, roll := none }, kek := s.prot.kek
              imageKeyHash := s.prot.imageKeyHash, provisioned := s.prot.provisioned, floor := s.prot.floor
              sessionCounter := s.prot.sessionCounter, tripCounter := s.prot.tripCounter }
    therm := { tripN := resetN || s.therm.tripN }
    boot := { phase := phase, loadIn := s.boot.loadIn } }
  if vaon then
    ([A.PW_RTC_LO, A.PW_RTC_HI, A.PW_ALARM_LO, A.PW_ALARM_HI].foldl (fun r a => r.setWord a (s.word a)) r).setPw fun x =>
      { x with rtcSub := s.pw.rtcSub }
  else r

/-- OFF has been reached: what is not stored in OTP, MTP or the NOR is lost (R403). -/
def State.enterOff (s : State) : State :=
  if s.power = .off ∧ s.boot.phase = .run then s.inReset false true .off else s

/-! ### Post-mortem records (R431, R432) -/

def pmBase (pair : Nat) : Nat := 0x1000000 + 8192 * pair

/-- A copy of a record, if it is valid: SEQ, CAUSE. -/
def pmCopy (b : List Nat) : Option (Nat × Nat) :=
  if b.take 4 = [0x43, 0x54, 0x33, 0x50] ∧ Config.crc32 (b.take 1020) % 2 ^ 32 = leAt b 1020 4 then some (leAt b 4 4, leAt b 8 1) else none

/-- The newest valid record: pair, SEQ, CAUSE. -/
def State.pmNewest (s : State) : Option (Nat × Nat × Nat) :=
  (List.range 8).foldl (fun best k =>
    match (pmCopy (s.norBytes (pmBase k) 1024)).or (pmCopy (s.norBytes (pmBase k + 4096) 1024)) with
    | none => best
    | some x =>
      match best with
      | some b => if b.2.1 < x.1 then some (k, x) else best
      | none => some (k, x)) none

/-- BT_PM_STATUS and BT_PM_SEQ. -/
def State.showPm (s : State) : State :=
  match s.pmNewest with
  | none => s
  | some (k, seq, cause) =>
    (((s.wr R.BT_PM_STATUS_VALID 1).wr R.BT_PM_STATUS_CAUSE cause).wr R.BT_PM_STATUS_PAIR k).wr R.BT_PM_SEQ_SEQ seq

def recBytes (r : Option FaultRec) : List Nat := (List.range 6).flatMap fun k => le 4 (recWord r k)

/-- The record of an event with this cause. -/
def State.pmRecord (s : State) (seq cause : Nat) : List Nat :=
  let words (l : List Nat) : List Nat := l.flatMap (le 4 ·)
  let head := [0x43, 0x54, 0x33, 0x50] ++ le 4 seq ++ [cause, 0, 0, 0] ++ le 4 s.links.session ++ le 8 s.clk.frame ++ le 8 s.rtc ++
    words (s.word A.TH_STATUS :: (List.range 10).map (fun z => s.word (A.TH_ZONE z)) ++
      (List.range 96).map fun d => putBits (s.word (A.TH_SENSOR d)) 27 24 (zoneOf d)) ++
    recBytes s.faults.first ++ recBytes s.faults.last ++ recBytes s.faults.slot0 ++ recBytes s.faults.slot1 ++
    words [s.roleView, s.word A.PW_STATE] ++ s.boot.digest
  let body := (head ++ List.replicate 1020 0).take 1020
  body ++ le 4 (Config.crc32 body)

/-- The device writes a record into the pair after the newest one, where it writes records at all. The write takes 6 ms. -/
def State.postMortem (s : State) (cause : Nat) : State :=
  if !s.drivesNor || s.rd R.BT_STATUS_BOOT_MODE ≥ 2 then s
  else
    let (k, seq) := match s.pmNewest with
      | some x => ((x.1 + 1) % 8, (x.2.1 + 1) % 2 ^ 32)
      | none => (0, 1)
    let b := s.pmRecord seq cause
    let s := (s.norProgram (pmBase k) b).norProgram (pmBase k + 4096) b
    (s.setBoot fun x => { x with pmUntil := s.now + pointsIn 6000, pmErased := false }).showPm

/-- A page program in progress when a trip fires ends: with all its bits, or aborted with some of them, which a free value decides (R397,
log entry 2). -/
def State.tripNor (s : State) : State :=
  match s.boot.norOp with
  | some (1, addr, len) =>
    let (v, s) := s.free
    let whole := (List.range 64).flatMap (fun k => le 4 (s.word (A.BT_NOR_BUF k))) |>.take len
    let part := ((List.range len).zip whole).map fun x => if v % 2 = 0 then x.2 else x.2 ||| v / 2 / 256 ^ x.1 % 256
    ((s.norProgram addr part).wr R.BT_NOR_CTRL_BUSY 0).setBoot fun x => { x with norOp := none }
  | _ => s

/-- A step that has fired a trip or entered Last Resort writes its record. -/
def State.noteMortem (s before : State) : State :=
  if s.therm.trip.isSome && before.therm.trip.isNone then s.tripNor.postMortem (s.therm.trip.getD 0)
  else if s.lastResort && !before.lastResort then s.postMortem 3
  else s

/-- PM_ERASE: the pair after the newest record is erased. -/
def State.pmErase (s : State) : State :=
  if s.boot.phase ≠ .run ∨ s.boot.pmErased ∨ ¬ s.drivesNor then s
  else
    let k := match s.pmNewest with | some x => (x.1 + 1) % 8 | none => 0
    (s.norPut (pmBase k) (List.replicate 8192 0xFF)).setBoot fun x => { x with pmErased := true }

/-! ### Start-up (R407, R408, R422, R423) -/

/-- START_UP: t0, with the straps and what the NOR holds by now. -/
def State.startUp (s : State) (bootMode pos sba : Nat) (trust : Bool) (flash : List (Nat × List Nat)) : State :=
  if s.boot.phase ≠ .reset then s
  else
    let s := s.norOthers flash
    let s := (((s.wr R.BT_STATUS_BOOT_MODE bootMode).wr R.BT_STATUS_CHAIN_POS pos).wr R.BT_STATUS_HEAD (b01 (pos == 0))).wr
      R.BT_STATUS_SB_TRUST (b01 trust)
    let s := s.wr R.PR_OWNER_SB_TRUSTED (b01 trust)
    let s := { s with sb := { s.sb with sba := sba }, power := .run }
    let s := (s.over (List.range 96) fun s d => s.powerDomain d true)
    let s := (s.loadDomains s.rtc).loadFabric
    let s := if s.drivesNor && bootMode ≤ 1 then s.showPm else s
    let s := s.setBoot fun x => { x with
      phase := .loading
      waitPass := if bootMode = 1 ∧ pos ≠ 0 then x.waitPass else none }
    if 2 ≤ bootMode then (s.wr R.BT_STATUS_RESULT bootHalt).setBoot fun x => { x with phase := .ended, loadDone := x.loadIn }
    else if s.prot.imageKeyHash.isNone then (s.wr R.BT_STATUS_RESULT bootUnprovisioned).setBoot fun x => { x with phase := .ended }
    else s

def State.inChain (s : State) : Bool := s.rd R.BT_STATUS_BOOT_MODE == 1
def State.chainHead (s : State) : Bool := s.inChain && s.chainPos == 0
def State.halted (s : State) : Bool := 2 ≤ s.rd R.BT_STATUS_BOOT_MODE

/-- The device holds an accepted image. -/
def State.hasImage (s : State) : Bool := s.imageApplied

/-- DEVICE_READY: within 1 ms of t0. A device with its own NOR begins to read; one that waits for a pass asks for it. -/
def State.deviceReady (s : State) : State :=
  if s.boot.phase = .reset ∨ s.boot.phase = .off ∨ s.boot.ready ∨ s.halted then s
  else
    let s := s.setBoot fun x => { x with
      ready := true
      passing := !s.inChain && decide (x.phase = .loading)
      loadDone := s.chainHead || (s.inChain && x.loadIn)
      wanted := if x.waitPass.isSome then 1 else 0 }
    if s.boot.waitPass.isSome then s.wr R.BT_STATUS_RESULT bootWaitPass else s

/-- The head begins a pass: LOAD_DONE goes low. -/
def State.beginPass (s : State) : State := s.setBoot fun x => { x with passing := true, loadDone := false }

/-- LOAD_IN_RISE: it starts the head's first pass; another device drives LOAD_DONE high when it is ready for the first pass or holds an
image; in HALT LOAD_DONE follows. -/
def State.loadInRise (s : State) : State :=
  let s := s.setBoot fun x => { x with loadIn := true }
  if s.halted then s.setBoot fun x => { x with loadDone := true }
  else if !s.inChain || !s.boot.ready then s
  else if s.chainHead then (if s.boot.tried.isEmpty ∧ ¬ s.boot.passing ∧ s.boot.phase ≠ .run then s.beginPass else s)
  else if s.hasImage || (s.boot.tried.isEmpty && !s.boot.passing) then s.setBoot fun x => { x with loadDone := true } else s

/-- LOAD_IN_FALL: a pass begins; a device that is not the head drives its LOAD_DONE low. -/
def State.loadInFall (s : State) : State :=
  let s := s.setBoot fun x => { x with loadIn := false }
  if s.halted then s.setBoot fun x => { x with loadDone := false }
  else if s.inChain && !s.chainHead then s.setBoot fun x => { x with loadDone := false, passing := x.passing || decide (x.phase = .loading) }
  else s

/-- FIRST_PASS_TIMEOUT: 100 ms after t0 with LOAD_IN still low. -/
def State.firstPassTimeout (s : State) : State :=
  if s.chainHead && s.boot.ready && s.boot.tried.isEmpty && !s.boot.passing && decide (s.boot.phase ≠ .run) then s.beginPass else s

/-- SECOND_PASS: 25 ms after a pass's read, with LOAD_IN not high and the other slot unread. -/
def State.secondPass (s : State) : State :=
  if s.chainHead && s.boot.tried.length == 1 && !s.boot.passing && !s.boot.loadIn && decide (s.boot.phase ≠ .run) then s.beginPass else s

/-- SELFTEST_DONE: the plane's March C− on its banks and its core self-test are complete; `bank` is the lowest failing tile with the
word index of its first miscompare. Both planes failing ends the start-up (R425). -/
def State.selftestDone (s : State) (p : Plane) (bank : Option (Nat × Nat)) (core : Bool) : State :=
  if s.boot.phase ≠ .loading ∨ p ∈ s.boot.tested then s
  else
    let msgs := (match bank with
      | some (t, w) => [(p, ({ cls := 7, inst := t, kind := 5, plane := planeBit p, addr := w } : FaultMsg))]
      | none => []) ++
      (if core then [(p, ({ cls := 14, inst := planeBit p, kind := 0x0C, plane := planeBit p } : FaultMsg))] else [])
    let s := s.setBoot fun x => { x with tested := x.tested ++ [p], failed := x.failed ++ msgs }
    let s := if msgs.isEmpty then s else s.wr (if p = .A then R.BT_STATUS_FENCED_A else R.BT_STATUS_FENCED_B) 1
    if s.on R.BT_STATUS_FENCED_A && s.on R.BT_STATUS_FENCED_B then
      (s.wr R.BT_STATUS_RESULT bootSelftest).setBoot fun x => { x with phase := .ended }
    else s

/-! ### Reading a slot (R413, R422, R423) -/

def State.header (s : State) (slot : Nat) : List Nat := s.norBytes (slotBase slot) 128

/-- The slots in the order in which they are tried: those whose headers pass steps 1 to 3. -/
def State.slotOrder (s : State) : List Nat :=
  let ok (k : Nat) : Bool := s.headerStep (s.header k) == 0
  let seq (k : Nat) : Nat := leAt (s.header k) 0x0C 4
  let order := match s.boot.prefer with
    | 1 => [0, 1]
    | 2 => [1, 0]
    | _ => if seq 0 < seq 1 ∨ ¬ ok 0 then [1, 0] else [0, 1]
  order.filter ok

/-- The record of a slot's checks (R428). -/
def State.slotResult (s : State) (slot step sec off : Nat) : State :=
  ((s.wr (R.BT_FAIL_STEP slot) step).wr (R.BT_FAIL_SECTION slot) sec).wr (R.BT_FAIL_OFFSET slot) off

def State.showHeaders (s : State) : State :=
  s.over [0, 1] fun s k => if s.headerStep (s.header k) = 0 ∨ k ∈ s.boot.tried then s else s.slotResult k (s.headerStep (s.header k)) 0 0

/-- No image (R422). -/
def State.noImage (s : State) : State :=
  (s.wr R.BT_STATUS_RESULT bootNoImage).setBoot fun x => { x with phase := .ended, passing := false }

/-- The checks of R413 on an image: the failing step with its place, or the loaded state. -/
def State.checkImage (s : State) (img : List Nat) : Except (Nat × Place) (State × Gift) :=
  let len := leAt img 0x10 4
  if s.headerStep img ≠ 0 then .error (s.headerStep img, some (0, 0))
  else if !layoutOk img then .error (4, some (0, 0))
  else if !Config.verify (slice img 0x20 64) (img.take len) (slice img len 64) then .error (5, some (0, 0))
  else if leAt img 0x0A 2 < s.prot.floor then .error (6, some (0, 0))
  else match s.loadImage img with
    | .ok x => .ok x
    | .error p => .error (7, p)

/-- The session number's write is begun, or waits for the legacy window (R427). -/
def State.trySession (s : State) : State :=
  if s.boot.session || s.prot.mtp.any (fun w => match w with | .session _ => true | _ => false) then s
  else if s.mtpCode none = Code.ok then (s.startMtp (.session (s.prot.sessionCounter + 1))).wr R.BT_STATUS_SESSION_WAIT 0
  else s.wr R.BT_STATUS_SESSION_WAIT 1

/-- The session number is fixed once its write is complete. -/
def State.sessionFixed (s before : State) : State :=
  if s.boot.session || s.prot.sessionCounter = before.prot.sessionCounter then s
  else
    let n := s.prot.sessionCounter % 2 ^ 32
    let s := ((s.wr R.LK_SESSION_SESSION n).wr R.BT_STATUS_SESSION_WAIT 0).setBoot fun x => { x with session := true }
    { s with links := { s.links with session := n } }.alert 4

/-- The contexts wait, OFF, for the first boundary (R416). -/
def State.holdContexts (s : State) : State :=
  let off (m : List (Nat × Word)) : List (Nat × Word) :=
    (m.map fun e => if 0x1000000 ≤ e.1 ∧ e.1 < 0x1280000 ∧ e.1 % 64 = 0x30 then (e.1, BitVec.ofNat 32 (putBits e.2.toNat 11 9 0)) else e).filter
      fun e => decide (e.2 ≠ resetWord e.1)
  { s with reg := { s.reg with privA := off s.reg.privA, privB := off s.reg.privB } }

/-- What the owner's level words of the image stand for (R210). -/
def State.imageLevels (s : State) : State :=
  s.over (s.guardedUnits 0x1E00 0x2000 128) fun s d =>
    s.over [0, 1] fun s c =>
      let k := levelKey (d / 128) (d % 128) c
      if (s.ctxOfLevel k).isEmpty then s.putLevel { s.level k with direct := some (s.rd (levelField (d / 128) (d % 128) c)) } else s

/-- The meters and the shaper buckets start full, at the image's bursts (R276, R282). -/
def State.fillBuckets (s : State) : State :=
  let s := s.over (List.range 32) fun s q =>
    let cbs := s.rd (R.SCH_METER_BURST_CBS (q / 2) (q % 2))
    let pbs := max cbs (s.rd (R.SCH_METER_BURST_PBS (q / 2) (q % 2)))
    (s.wr (R.SCH_METER_TC_TOKENS (q / 2) (q % 2)) (64 * cbs)).wr (R.SCH_METER_TP_TOKENS (q / 2) (q % 2)) (64 * pbs)
  s.over (List.range 97) fun s b => s.wr (R.SCH_TH_TOKENS_TOKENS b) (1000 * s.rd (R.SCH_TH_CFG_BURST b))

/-- The image is accepted and applied (R426 steps 1 to 4). -/
def State.accept_ (s : State) (slot : Nat) (img : List Nat) (g : Gift) : State :=
  let digest := sha256 (img.take (leAt img 0x10 4))
  let s := (s.slotResult slot 8 0 0).wr R.BT_STATUS_RESULT bootOk |>.wr R.BT_STATUS_SLOT slot
  let s := (s.wr R.BT_IMAGE_SEC_VERSION (leAt img 0x0A 2)).wr R.ATTIC_FLOOR_RUNNING (leAt img 0x0A 2)
  let s := s.setWord A.BT_IMAGE_SEQ (leAt img 0x0C 4)
  let s := s.over (List.range 8) fun s k => s.setWord (A.BT_DIGEST k) (beAt digest (4 * k) 4)
  let s := s.setBoot fun x => { x with
    phase := .applied, passing := false, waitPass := none, shared := s.reg.shared, priv := s.reg.privA, digest := digest
    mode := g.mode, startPlane := g.startPlane, loadDone := s.chainHead || (s.inChain && x.loadIn) }
  let s := { s.holdContexts.imageLevels.fillBuckets with imageApplied := true }
  let bad (p : Plane) : Bool := s.boot.failed.any fun x => decide (x.1 = p)
  let start := if g.startPlane = 1 then Plane.B else Plane.A
  let s := s.wr R.PL_ROLE_ACTIVE (planeBit (if bad start then other start else start))
  let s := s.over ([Plane.A, .B].filter bad) fun s p => s.wr (healthField p) 1
  let s := s.over (s.guardedUnits 0x2400 0x2800 256) State.checkPrated
  let s := s.over (List.range 80) fun s t => s.updCal t fun c => { c with tia := some s.clk.frame, tiaAll := true, tiaBad := [] }
  s.trySession

/-- A slot has been read by a device that loads. -/
def State.readSlot (s : State) (slot : Nat) : State :=
  let len := leAt (s.header slot) 0x10 4
  let img := s.norBytes (slotBase slot) (min 0x800000 (len + 64))
  let s := (s.bump R.BT_STATUS_PASSES 1).setBoot fun x => { x with tried := x.tried ++ [slot], waitPass := none }
  let s := s.wr R.BT_STATUS_RESULT bootLoading
  match s.checkImage img with
  | .ok (s', g) => s'.accept_ slot img g
  | .error (step, place) =>
    let (sec, off, s) := match place with
      | some (sec, off) => (sec, off, s)
      | none => let (v, s) := s.free; (v % 64, v / 64 % 2 ^ 22, s)
    let s := s.slotResult slot step sec off
    if s.inChain then
      let s := s.setBoot fun x => { x with passing := false }
      if 2 ≤ s.boot.tried.length then s.noImage else s
    else if (s.slotOrder.filter fun k => k ∉ s.boot.tried).isEmpty then s.noImage else s

/-- PASS_READ_END: a slot's read has ended. `density` is what SFDP gives, none where the part is not supported (R409). A device that
reads its own NOR reads the slot of R422; a device of a chain takes what the head reads. -/
def State.passReadEnd (s : State) (slot : Nat) (density : Option Nat) (flash : List (Nat × List Nat)) : State :=
  let s := s.norOthers flash
  if s.boot.phase ≠ .loading then
    s.setBoot fun x => { x with passing := false, tried := if x.phase = .run then x.tried else x.tried ++ [slot], loadDone := x.loadDone || (s.chainHead && s.hasImage) }
  else if !s.boot.ready || s.boot.tested.length < 2 then s
  else
    let good := match density with | some d => 256 ≤ d | none => false
    let s := (s.wr R.BT_NOR_INFO_SFDP_OK (b01 good)).wr R.BT_NOR_INFO_DENSITY (density.getD 0)
    if !good then ((s.slotResult 0 0 0 0).slotResult 1 0 0 0).noImage
    else
      let s := s.showHeaders
      let order := s.slotOrder.filter fun k => k ∉ s.boot.tried
      if s.inChain then
        if s.slotOrder.isEmpty ∧ s.chainHead then s.noImage
        else if slot ∈ s.boot.tried then s else s.readSlot slot
      else match order with
        | [] => s.noImage
        | k :: _ => if k = slot then s.readSlot slot else s

/-! ### Passes for devices of a chain in service (R424) -/

/-- PASS_REQUEST_RX: the head in RUN performs the pass. -/
def State.passRequest (s : State) : State :=
  if s.chainHead && decide (s.boot.phase = .run) then s.setBoot fun x => { x with passing := true } else s

/-- PASS_REQUEST_RETRY: a device of a chain without an image asks, or asks again. -/
def State.passRetry (s : State) : State :=
  if s.inChain && !s.chainHead && s.boot.ready && decide (s.boot.phase = .loading) && !s.boot.passing && s.boot.tried.isEmpty then
    (s.wr R.BT_STATUS_RESULT bootWaitPass).setBoot fun x => { x with waitPass := some x.prefer, wanted := x.wanted + 1 }
  else s

/-! ### From image to RUN (R416, R426, R429) -/

/-- A context takes the state the image gives it, after the checks of R154. -/
def State.startContext (s : State) (n : Nat) : State :=
  let want := bits (s.imagePriv (A.CTX_OUT n)).toNat 11 9
  if want = stOff then s
  else if want = stFenced then s.putState n stFenced causeRequested
  else if want < 5 ∧ s.activationCode n = Code.ok then
    (if want = stHold then s.putState n stHold causeRequested else s.activate n)
  else
    let s := if s.rd R.BT_REFUSED_COUNT = 0 then s.wr R.BT_REFUSED_FIRST n else s
    s.bump R.BT_REFUSED_COUNT 1

/-- The contexts that the image lists. -/
def State.imageContexts (s : State) : List Nat :=
  dedup ((s.boot.priv.filter fun e => 0x1000000 ≤ e.1 ∧ e.1 < 0x1280000).map fun e => (e.1 - 0x1000000) / 64)

/-- RUN_ENTRY, at the boundary that has just passed: the loops take their first input set, the mode comes into force, PW_STATE reads
RUN, the runs are requested. -/
def State.runEntry (s : State) (ms : Nat) : State :=
  let waiting := (List.range 80).any fun t => (s.tileCal t).tia.isSome
  if s.boot.phase ≠ .applied ∨ waiting ∨ ¬ (s.boot.session || s.on R.BT_STATUS_SESSION_WAIT) ∨ ¬ s.act.loaded then s
  else
    let m := (Mode.ofCode? s.boot.mode).getD .balanced
    let s := { s with mode := m, power := .run }.loadAmps m
    let s := (s.wr R.PW_STATE_STATE 0).wr R.PW_STATE_WAKE_CAUSE 0
    let s := (s.wr R.BT_TIMES_RUN_MS (min 65535 ms)).setBoot fun x => { x with phase := .run }
    let s := s.over (s.boot.failed.map (·.2)) State.raise
    let s := if m = .solo then s.enterSolo else s
    let s := s.over s.imageContexts State.startContext
    let s := s.setBoot fun x => { x with
      watch := (s.imageContexts.filter fun n => bits (s.imagePriv (A.CTX_OUT n)).toNat 11 9 == stActive).map fun n => (n, 0) }
    let s := s.bindSlots.clearChanged
    (s.requestCals (List.range 80) true).validityPass.alertState

/-- A boundary's part in R429: consecutive good sets, or updates within FE_LIMIT, of the watched contexts. `updated` are those that
the frame before has updated. -/
def State.watchStep (s : State) (updated : List Nat) : State :=
  if s.on R.BT_STATUS_LOCKED then s
  else
    let next (w : Nat × Nat) : Nat × Nat :=
      let n := w.1
      let byError := s.cx R.CTX_ALT_FE_FRAMES n != 0
      let good := if byError then s.cx R.CTX_HIST_FE_CNT n == 0 else !s.isSuspect n && !s.blankedNow n
      if s.stateOf n != stActive then (n, 0)
      else if byError && !updated.contains n then w
      else (n, if good then min 16 (w.2 + 1) else 0)
    s.setBoot fun x => { x with watch := x.watch.map next }

/-- LOCKED. `ms` is the time since RUN. -/
def State.lockedNow (s : State) (ms : Nat) : State :=
  if s.boot.phase = .run ∧ ¬ s.on R.BT_STATUS_LOCKED ∧ (s.boot.watch.all fun w => s.stateOf w.1 == stActive && w.2 == 16) then
    (s.wr R.BT_STATUS_LOCKED 1).wr R.BT_TIMES_LOCK_MS (min 65535 ms)
  else s

/-! ### The ring (R430) -/

/-- This device's own STATE on the ring. -/
def State.ringState (s : State) : Nat :=
  match s.rd R.BT_STATUS_RESULT with
  | 6 => 1
  | 2 => 3
  | 4 => 3
  | 5 => 3
  | 3 => 4
  | _ => if s.boot.phase = .run then 2 else 0

/-- The latest status of a position is shown; two serial numbers at one position are a conflict. -/
def State.bootStatus (s : State) (c serial state slot sec digest : Nat) : State :=
  let clash := s.boot.nodes.any (fun n => n.1 == c && n.2.1 != serial) || (c == s.chainPos && serial != Config.serial)
  let s := s.setBoot fun x => { x with nodes := x.nodes.filter (fun n => n.1 != c) ++ [(c, serial, s.clk.frame)] }
  let s := ((s.wr (R.AP_RING_NODE_STATE c) state).wr (R.AP_RING_NODE_SLOT c) slot).wr (R.AP_RING_NODE_SEC_VERSION c) sec
  let s := (s.wr (R.AP_RING_DIGEST_LO_DIGEST c) digest).wr (R.AP_RING_DIGEST_HI_DIGEST c) (digest / 2 ^ 32)
  let s := s.wr R.AP_RING_STATUS_PRESENT (s.rd R.AP_RING_STATUS_PRESENT ||| 2 ^ c)
  if clash then s.wr R.AP_RING_STATUS_CONFLICT 1 else s

/-- A boundary: the device's own status comes round, positions silent for 3 frames are absent. -/
def State.ringFrame (s : State) : State :=
  let live := s.boot.nodes.filter fun n => s.clk.frame < n.2.2 + 3
  let s := s.setBoot fun x => { x with nodes := live }
  let s := s.wr R.AP_RING_STATUS_PRESENT (ofOnes (live.map (·.1)))
  let d := ofBe ((s.boot.digest ++ List.replicate 8 0).take 8)
  s.bootStatus s.chainPos Config.serial s.ringState (s.rd R.BT_STATUS_SLOT) (s.rd R.BT_IMAGE_SEC_VERSION) d

/-! ### The NOR in service (R433) -/

def norReadOp := 0
def norProgramOp := 1
def norEraseOp := 2

def norLength (v : Nat) : Nat := if v % 512 = 0 then 256 else min 256 (v % 512)

/-- The code an operation gets. -/
def State.norCode (s : State) (op addr len : Nat) : Nat :=
  let size := if op = norEraseOp then 4096 else len
  let own := s.imageApplied && overlap addr size (slotBase (s.rd R.BT_STATUS_SLOT)) 0x800000
  let writes := op = norProgramOp ∨ op = norEraseOp
  if !s.drivesNor then Code.notPermitted
  else if 3 ≤ op then Code.badArg
  else if (writes ∧ (own ∨ overlap addr size 0x1000000 0x10000)) ∨ (op = norProgramOp ∧ 256 < addr % 256 + len) ∨
      (op = norEraseOp ∧ addr % 4096 ≠ 0) then Code.badAddress
  else if s.boot.passing ∨ s.now < s.boot.pmUntil ∨ s.boot.norOp.isSome then Code.busy
  else Code.ok

/-- An accepted operation begins. -/
def State.norStart (s : State) (op addr len : Nat) : State :=
  (s.wr R.BT_NOR_CTRL_BUSY 1).setBoot fun x => { x with norOp := some (op, addr, len) }

def State.norBuffer (s : State) (n : Nat) : List Nat := ((List.range 64).flatMap fun k => le 4 (s.word (A.BT_NOR_BUF k))).take n

def State.putBuffer (s : State) (b : List Nat) : State :=
  let full := b ++ (s.norBuffer 256).drop b.length
  s.over (List.range 64) fun s k => s.setWord (A.BT_NOR_BUF k) (leAt full (4 * k) 4)

/-- NOR_OP_DONE: the operation has its effect and DONE sets. `flash` is what the NOR held that the device had not written. -/
def State.norDone (s : State) (flash : List (Nat × List Nat)) : State :=
  match s.boot.norOp with
  | none => s
  | some (op, addr, len) =>
    let s := s.norOthers flash
    let s := match op with
      | 0 => s.putBuffer (s.norBytes addr len)
      | 1 => s.norProgram addr (s.norBuffer len)
      | _ => s.norPut addr (List.replicate 4096 0xFF)
    ((s.wr R.BT_NOR_CTRL_BUSY 0).wr R.BT_NOR_CTRL_DONE 1).setBoot fun x => { x with norOp := none }

/-! ### REBOOT (R434) -/

def State.rebootCode (s : State) : Nat :=
  if !s.prot.mtp.isEmpty || s.boot.norOp.isSome || s.now < s.boot.pmUntil || s.boot.passing then Code.busy else Code.ok

def State.askReboot (s : State) (slot : Nat) : State := s.setBoot fun x => { x with reboot := some (slot % 4 % 3, s.clk.frame + 1) }

def State.cmdReboot (s : State) (h : CmdHead) (slot : Nat) : State :=
  if 2 < slot then s.answer h 0x3B Code.badArg
  else if s.rebootCode ≠ Code.ok then s.answer h 0x3B s.rebootCode
  else (s.askReboot slot).answer h 0x3B Code.ok

/-- REBOOT_RESET, at the frame boundary that follows. -/
def State.rebootReset (s : State) : State :=
  match s.boot.reboot with
  | some (slot, b) =>
    if b ≤ s.clk.frame then
      (s.inReset true true .reset).setBoot fun x => { x with prefer := slot, waitPass := some slot }
    else s
  | none => s

end Sys2Proof.Machine
end

