-- ==== Sys2Proof/Machine/Views.lean ====
section
/-! DEFINITION. Machine/Views.lean: what a read of a register shows where that is not the stored word: summaries of the state,
fields that read 1 while something is in progress, records, what the Dust Sheet leaves a tenancy (R13, R71, R326 to R330, R446). -/

namespace Sys2Proof.Machine

open Sys2Proof

/-! ### The map digest (R71) -/

/-- The bytes a principal's digest covers: connections by input port, or element settings by index in DIRECT topology. -/
def State.digestBytes (s : State) (p : Nat) : List Nat :=
  if s.fabric.topology = 2 then
    ((List.range s.fabric.elementCount).filter fun k => p == 30 || (s.fabric.record k).owner == p).flatMap fun k =>
      be 2 k ++ be 2 (b01 (decide (k ∈ s.route.crossed)))
  else (sortBy (·.inp) (s.route.committed.filter fun c => p == 30 || c.owner == p)).flatMap fun c => be 2 c.inp ++ be 2 c.out

/-- A principal's map digest. -/
def State.mapDigest (s : State) (p : Nat) : Nat := ofBe ((sha256 (s.digestBytes p)).take 8)

/-! ### Route and commit registers -/

def State.routeStatusView (s : State) : Nat :=
  b01 s.routeBusy * 2 ^ 31 + b01 s.route.full.isSome * 2 ^ 30 + s.pendingMap.length % 2048 * 2 ^ 16 + s.route.committed.length % 2048

/-- RT_TEN_STATUS: in DIRECT topology every tenancy shows ALIGNED (R69). -/
def State.tenStatusView (s : State) (t : Nat) : Nat :=
  if s.fabric.topology = 2 then 2 ^ 31
  else match s.route.aligned.find? (·.tenancy == t) with
    | some a => b01 (!a.pending) * 2 ^ 31 + b01 a.pending * 2 ^ 30 + a.k % 16 * 2 ^ 24 + a.m % 128 * 2 ^ 16 +
        cellShare s.fabric.n a.k % 16384
    | none => 0

/-- The physical cells 32k to 32k + 31 for which f holds, as a word. -/
def physWord (k : Nat) (f : Nat → Bool) : Nat := ofOnes ((List.range 32).filter fun w => f (32 * k + w))

/-- Does a logical cell of the list lie on the physical cell? -/
def State.onPhys (s : State) (l : List Nat) (phys : Nat) : Bool := (s.cellsAtPhys phys).any fun c => decide (c ∈ l)

/-- CM_STATUS: WAITING and REARRANGE_PENDING. -/
def State.commitStatusView (s : State) (w : Nat) : Nat :=
  putBits (putBits w 23 16 (s.com.commits.filter (·.waiting)).length) 15 15 (b01 (s.route.items.any (·.rearranges)))

/-! ### Lanes (R239) -/

/-- The lane's domain is powered, and neither the power state nor FRUGAL keeps it without power. -/
def State.lanePowered (s : State) (l : Nat) : Bool :=
  s.domainOn (if l < 4 then 82 else 83) && !decide (l ∈ s.pw.held) && !decide (l ∈ s.pw.frugal)

/-- The lane may have a link: it is powered, enabled and not fenced (R383, LK_CFG), and no trip has fired (R397). -/
def State.laneAllowed (s : State) (l : Nat) : Bool := s.lanePowered l && s.on (R.LK_CFG_ENABLE l) && !s.miscFenced l && s.therm.trip.isNone

/-- The lane has block lock, and FEC lock where RS-FEC is on; a lane held down or without power has none. -/
def State.laneUp (s : State) (l : Nat) : Bool :=
  s.laneAllowed l && s.on (R.LK_STATUS_BLOCK_LOCK l) &&
    (!s.on (R.LK_CFG_RS_FEC l) || s.on (R.LK_STATUS_FEC_LOCK l))

def State.laneStatusView (s : State) (l : Nat) : Nat :=
  let w := if s.laneAllowed l then s.word (A.LK_STATUS l) else 0
  putBits (putBits (putBits w 31 31 (b01 (s.laneUp l))) 27 27 (b01 (s.lanePowered l))) 26 26 (b01 (s.joined (lanePlane l)))

/-! ### Queues and meters (chapter 11) -/

def State.queue (s : State) (q : Nat) : Queue := s.sched.queues.getD q {}

def State.queueStatusView (s : State) (t w : Nat) : Nat :=
  putBits (putBits w 13 7 (s.queue (2 * t)).items.length) 6 0 (s.queue (2 * t + 1)).items.length

/-! ### Fault registers (chapter 15) -/

/-- The records in the order in which they will enter a slot. -/
def State.queuedRecs (s : State) : List FaultRec := queueOrder s.faults.queue.length s.faults.queue

def State.faultStatusView (s : State) (w : Nat) : Nat :=
  let f := s.faults
  let w := putBits (putBits (putBits w 31 31 (b01 f.first.isSome)) 30 30 (b01 f.last.isSome)) 29 29 (b01 f.slot0.isSome)
  putBits (putBits (putBits w 28 28 (b01 f.slot1.isSome)) 27 24 (min 15 f.sbQueue.length)) 23 16 f.queue.length

/-! ### The Dust Sheet (R329, R330) -/

/-- The quantum in force. -/
def State.dustQ (s : State) : DustQ := if s.isMode .sealed then s.dust.ten else s.dust.second

/-- The condition that SHARED_DEGRADED reports. -/
def State.sharedCond (s : State) (scaled : Bool) : Bool :=
  let heavy (r : FaultRec) : Bool := r.live && (r.msg.cls == 4 || r.msg.cls == 10) && 2 ≤ r.severity
  let bad (h : Nat) : Bool := h == 1 || h == 3
  bad (s.health .A) || bad (s.health .B) || (List.range 80).any s.tileFenced || (List.range 8).any s.miscFenced ||
  (List.range 80).any (fun t => !(s.tileSense t).lost.isEmpty || s.on (R.TL_SPARE_STATUS_SLICE_FENCED t)) ||
  decide (1 ≤ s.throttle) || s.lastResort || s.faults.held.any heavy || scaled

/-! ### Before the image (R446) -/

/-- Until the image is applied a field whose Reset column holds a word reads 0. -/
def unapplied (h : RegHit) (w : Nat) : Nat :=
  h.spec.fields.foldl (fun w f => if f.kind = .number then w else (f.loc 0).put w 0) w

/-! ### The word a read shows -/

/-- The word with the fields of v that software does not set. -/
def mixViews (h : RegHit) (w v : Nat) : Nat :=
  h.spec.fields.foldl (fun x f => if f.acc = .rw then x else (f.loc 0).put x ((f.loc 0).get v)) w

/-- The fields that are computed at the read, over the word shown otherwise. -/
def State.computed (s : State) (r : Requester) (p : Plane) (h : RegHit) (w : Nat) : Nat :=
  let i := h.i 0
  let j := h.i 1
  let hi32 (v : Nat) : Nat := v / 2 ^ 32
  match h.spec.reg with
  | .GL_PLANE_SEL => s.planeSel r
  | .GL_SERIAL_LO => Config.serial
  | .GL_SERIAL_HI => hi32 Config.serial
  | .GL_FRAME_LO => s.clk.frame
  | .GL_FRAME_HI => hi32 s.clk.frame
  | .GL_ID_KEY => Config.identityKey i
  | .GL_ID_ENDORSE => Config.endorsement i
  | .LP_EXPRESS => s.expressView
  | .RT_STATUS => s.routeStatusView
  | .RT_MAP_DIGEST_LO => s.mapDigest 30
  | .RT_MAP_DIGEST_HI => hi32 (s.mapDigest 30)
  | .RT_TEN_STATUS => s.tenStatusView i
  | .RT_CELL_COMMITTED => physWord i (s.onPhys s.route.crossed)
  | .RT_CELL_PENDING => physWord i (s.onPhys s.pendingCross)
  | .RT_CELL_FAILED => physWord i fun c => decide (c ∈ s.route.failed)
  | .RT_CELL_RESERVED => physWord i s.cellReserved
  | .CM_STATUS => s.commitStatusView w
  | .AP_TOKEN_STATUS => putBits w 31 31 (b01 (s.chainPos == 0))
  | .TL_BIAS => s.biasView i
  | .TL_SPARE_STATUS => s.spareView i
  | .TL_DITHER => s.ditherView i
  | .TL_CORR_CFG => s.corrCfgView
  | .TL_SLOT_USE => s.slotUseView i j
  | .TL_SLOT_LENT => s.slotLentView i j
  | .TL_LOOP_COUNTS => s.loopCountsView p i
  | .TL_LOOP_COUNTS2 => s.loopCounts2View p i
  | .TL_CAL_CTRL => s.calCtrlView i
  | .TL_CMP_STATUS => s.cmpView i
  | .HKA_CTRL => s.hkaCtrlView
  | .HKA_STATUS => s.hkaStatusView
  | .HKA_RESULT => s.hkaResultView i
  | .HKA_INJ_RESULT => s.hkaInjView
  | .ST_CTRL => s.genCtrlView p i
  | .ST_STATUS => s.genStatusView p i
  | .LK_STATUS => s.laneStatusView i
  | .LK_BIND => s.bindView i
  | .LK_SEQ_RX_LO => if isPrincipal i then (s.prin i).h else 0
  | .LK_SEQ_RX_HI => if isPrincipal i then hi32 (s.prin i).h else 0
  | .LK_SEQ_TX_LO => if isPrincipal i then (s.prin i).rseq else 0
  | .LK_SEQ_TX_HI => if isPrincipal i then hi32 (s.prin i).rseq else 0
  | .SCH_STATUS => putBits w 8 0 (s.queue 32).items.length
  | .SCH_QSTAT => s.queueStatusView i w
  | .FT_CTRL => s.timeCtrlView
  | .FT_STATUS => s.timeStatusView
  | .FT_TS_STATUS => putBits w 22 16 (s.tsSource i).queue.length
  | .FT_TS_POP => (s.tsSource i).held.getD j 0
  | .PR_STATUS => s.protStatusView
  | .PR_OWNER => putBits w 0 0 (b01 s.sbTrusted)
  | .ATTIC_STATUS => s.atticStatusView
  | .ATTIC_FLOOR => s.floorView
  | .ATTIC_KEY => s.keyView i
  | .PL_ROLE => s.roleView
  | .PL_CTRL => s.plCtrlView
  | .PL_DRILL => s.drillView
  | .FC_STATUS => s.faultStatusView w
  | .FC_FIRST => recWord s.faults.first i
  | .FC_LAST => recWord s.faults.last i
  | .FC_SLOT0 => recWord s.faults.slot0 i
  | .FC_SLOT1 => recWord s.faults.slot1 i
  | .FC_QUEUE => recWord (s.queuedRecs[i]?) j
  | .FC_UNFENCE => putBits w 31 31 (b01 (!s.faults.unfence.isEmpty))
  | .TH_EVENTS => putBits w 15 0 s.prot.tripCounter
  | .TH_SENSOR => putBits w 27 24 (zoneOf i)
  | .TH_TRIM => Config.trimN105 i % 65536 * 65536 + Config.trimN25 i % 65536
  | .BT_CTRL => putBits w 31 31 (b01 s.boot.reboot.isSome)
  | _ => w

/-- What the Dust Sheet and R326, R327 leave a tenancy of a register. -/
def State.forTenancy (s : State) (h : RegHit) (w : Nat) : Nat :=
  let n := h.i 0
  match h.spec.reg with
  | .CTX_PC => (R.CTX_PC_PC n).put w 0
  | .CTX_TPC => (R.CTX_TPC_INV_CNT n).put ((R.CTX_TPC_OVR_CNT n).put ((R.CTX_TPC_T_PC n).put w 0) 0) 0
  | .TL_FD_CFG =>
    let f := R.TL_FD_CFG_SEL n (h.i 1)
    f.put 0 (f.get w)
  | .TL_HTR_OUT =>
    let x := s.chan_ (256 * n + h.i 1)
    (R.TL_HTR_OUT_GUARD_HI n (h.i 1)).put w (b01 (x.own || (R.TL_HTR_OUT_ICLIP n (h.i 1)).get w == 1))
  | .FT_STATUS => w
  | _ => w

/-- The word requester r reads at a mapped register: computed fields, nothing for a write-only field, what a tenancy may see, 0
where the image is still to come. -/
def State.viewWord (s : State) (r : Requester) (p : Plane) (h : RegHit) (a : Nat) : Nat :=
  let w := s.shownWord p h a
  let w := mixViews h w (s.computed r p h w)
  let w := h.spec.fields.foldl (fun w f => if f.acc = .wo then (f.loc 0).put w 0 else w) w
  let w := if s.imageApplied then w else unapplied h w
  match r with
  | .principal q => if isTenancy q then s.forTenancy h w else w
  | _ => w

end Sys2Proof.Machine
end

