-- ==== Sys2Proof/Machine/Summary.lean ====
section
/-! DEFINITION. Machine/Summary.lean: SUMMARY (R260 to R263, R338), and the quantum boundaries of the Dust Sheet (R329, R330). -/

namespace Sys2Proof.Machine

open Sys2Proof

/-! ### Whose view a SUMMARY is (R261) -/

/-- The view that is built: its scope, the principal whose objects it holds, whether the Dust Sheet coarsens it, and whether it is the
untrusted sideband's. -/
structure Scope where
  code : Nat
  who : Nat
  dust : Bool
  bare : Bool
deriving DecidableEq, Repr

/-- The view of a principal's own SUMMARY. -/
def scopeOf (p : Nat) : Scope := ⟨p, p, isTenancy p, false⟩

/-- A tenancy's objects as the owner sees them (R263). -/
def ownerOver (t : Nat) : Scope := ⟨t, t, false, false⟩

/-- The sideband's view: the owner's, less what an untrusted sideband may not see. -/
def State.sidebandScope (s : State) : Scope := ⟨31, 30, false, !s.sbTrusted⟩

/-! ### Parts of the body (R260) -/

/-- HOLDOVER of the selected domain. -/
def State.holdNow (s : State) : Bool := s.on (holdField s.sel)

def State.summaryFlags (s : State) (v : Scope) (signed : Bool) : Nat :=
  let st := if isTenancy v.who then s.tenStatusView v.who else 0
  let hold := if v.dust && s.isMode .sealed then s.dust.ten.holdBefore else s.holdNow
  ofOnes ((if signed then [0] else []) ++ (if st.testBit 31 then [1] else []) ++ (if st.testBit 30 then [2] else []) ++
    (if hold then [3] else []) ++ (if s.dustQ.flag then [4] else []))

/-- POWER of a SUMMARY. -/
def State.summaryPower (s : State) : Nat := min 2 s.power.code

def State.summaryHealth (s : State) (v : Scope) : Nat := if v.dust then 0 else s.health .A + 4 * s.health .B

/-- THERMAL: the band and the throttle level, or the band of the quantum before. -/
def State.summaryThermal (s : State) (v : Scope) : Nat :=
  if v.dust then s.dustQ.bandBefore % 8 else s.rd R.TH_STATUS_BAND + s.throttle % 8 * 16

/-- TIME_OFFSET; a difference outside the field is a value the spec does not state (log entry 2). -/
def State.summaryOffset (s : State) (v : Scope) : Nat × State :=
  let o := s.timeOffset
  let o := if v.dust && s.isMode .sealed then o.tdiv 1000 * 1000 else o
  if -2147483648 ≤ o ∧ o ≤ 2147483647 then (unsigned 32 o, s) else (s.free.1 % 2 ^ 32, s.free.2)

/-- RX_MAP: bit k stands for H − k. -/
def State.rxMap (s : State) (p : Nat) : Nat :=
  let l := s.prin p
  ofOnes ((List.range 256).filter fun k => k < l.h && decide (l.h - k ∈ l.window))

/-- The fault records in scope by severity. -/
def State.faultCounts (s : State) (p : Nat) : List Nat :=
  (List.range 5).flatMap fun sev =>
    be 2 (match s.faults.counts.find? fun e => e.1 == p && e.2.1 == sev with | some e => e.2.2 | none => 0)

/-- A meter: TC, TP, COLOUR, res, DEPTH; the owner has none. -/
def State.meterBytes (s : State) (p c : Nat) : List Nat :=
  if isTenancy p then
    let colour := s.rd (if c = 0 then R.SCH_QSTAT_COLOUR_CTRL p else R.SCH_QSTAT_COLOUR_BULK p)
    be 4 (s.rd (R.SCH_METER_TC_TOKENS p c)) ++ be 4 (s.rd (R.SCH_METER_TP_TOKENS p c)) ++ [colour, 0] ++
      be 2 (s.queue (2 * p + c)).items.length
  else List.replicate 12 0

/-- LOOPS: the contexts in scope by state, COLD, EXPRESS, and HOLD with cause LOST or FROZEN. -/
def State.loopBytes (s : State) (p : Nat) : List Nat :=
  let a := s.active
  let listed := s.listedCtx a
  let mine := if isTenancy p then listed.filter (s.ownsCtx p) else listed
  let all := if isTenancy p then ((List.range 40960).filter (s.ownsCtx p)).length else 40960
  let inState (st : Nat) : Nat := (mine.filter fun n => s.ctxState a n == st).length
  let off := all - (mine.filter fun n => s.ctxState a n != stOff).length
  let cold := (mine.filter fun n => s.rdP a (R.CTX_OUT_COLD n) == 1).length
  let express := (mine.filter fun n => s.isExpressClass n || decide (n ∈ s.trimming)).length
  let dark := (mine.filter fun n => s.ctxState a n == stHold &&
    (s.cx R.CTX_OUT_CAUSE n == causeLost || s.cx R.CTX_OUT_CAUSE n == causeFrozen)).length
  [inState stActive, inState stHold, inState stDormant, off, inState stFenced, cold, express, dark].flatMap (be 2)

/-- The first 208 bytes of a SUMMARY. -/
def State.summaryBody (s : State) (v : Scope) (challenge : Option (List Nat)) : List Nat × State :=
  let p := v.who
  let ten := isTenancy p
  let (offset, s) := s.summaryOffset v
  let bare (l : List Nat) : List Nat := if v.bare then List.replicate l.length 0 else l
  let st := if ten then s.tenStatusView p else 0
  let waiting := (s.com.commits.filter fun c => c.waiting && (!ten || c.principal == p)).length
  let committed := (s.route.committed.filter fun c => !ten || c.owner == p).length
  let pend := (s.route.items.filter fun it => !ten || it.principal == p).length
  let dust (l : List Nat) : List Nat := if v.dust then List.replicate l.length 0 else l
  let active := if v.dust && s.isMode .sealed then 0 else planeBit s.active
  (be 2 1 ++ [v.code, s.summaryFlags v challenge.isSome] ++ be 8 Config.serial ++ be 2 0x3024 ++ be 2 0x00B0 ++
    (s.boot.digest ++ List.replicate 32 0).take 32 ++ be 4 s.links.session ++
    [s.mode.code, s.summaryPower, active, s.summaryHealth v, s.sel, s.summaryThermal v] ++ be 2 0 ++ be 4 offset ++
    be 8 s.clk.frame ++ bare (be 4 (s.epoch p)) ++ bare (dust (be 4 (s.epoch 30))) ++ bare (be 8 (s.mapDigest p)) ++
    bare (be 2 committed) ++ bare (be 2 pend) ++ bare (be 1 waiting) ++ [bits st 27 24] ++ be 2 (bits st 22 16) ++
    bare (be 8 (s.prin p).h) ++ bare (be 32 (s.rxMap p)) ++ s.faultCounts p ++ be 2 0 ++
    bare (s.meterBytes p 0) ++ bare (s.meterBytes p 1) ++ dust (be 4 (s.rd (R.SCH_TH_TOKENS_TOKENS 80))) ++
    s.loopBytes p ++ (challenge.getD (List.replicate 16 0) ++ List.replicate 16 0).take 16, s)

/-- A SUMMARY body, signed where a challenge stands in it (R262). -/
def State.summaryItem (s : State) (v : Scope) (challenge : Option (List Nat)) : List Nat × State :=
  let (b, s) := s.summaryBody v challenge
  (if challenge.isSome then b ++ (Config.sign b ++ List.replicate 64 0).take 64 else b, s)

/-! ### SUMMARY (R256, R260 to R263, R338) -/

/-- SUMMARY. FLAGS [0] SIGN, [1] FULL, which is the owner's. A tenancy's SIGN needs ATTEST; while the random number source is
suspended nothing can be signed (R383). With FULL every item stands under one CSEQ. -/
def State.cmdSummary (s : State) (h : CmdHead) (challenge : List Nat) : State :=
  let sign := h.flags.testBit 0
  let full := h.flags.testBit 1
  let c := if sign then some challenge else none
  if sign && isTenancy h.principal && !s.on (R.PR_TEN_CFG_ATTEST h.principal) then s.answer h 0x02 Code.notPermitted
  else if sign && s.faults.trngSuspended then s.answer h 0x02 Code.busy
  else
    let (b, s) := s.summaryItem (scopeOf h.principal) c
    let s := s.answer h 0x02 Code.ok b
    if full then
      s.over (List.range 16) fun s t =>
        let (b, s) := s.summaryItem (ownerOver t) c
        s.answer h 0x02 Code.ok b
    else s

/-! ### The quanta of the Dust Sheet (R329, R330) -/

/-- A quantum boundary: what held at the latest one moves back, SHARED_DEGRADED is evaluated for the condition that held then. -/
def DustQ.roll (q : DustQ) (band : Nat) (hold cond : Bool) : DustQ :=
  { band := band, bandBefore := q.band, hold := hold, holdBefore := q.hold, cond := cond, flag := q.cond, scaled := false }

/-- The notice of a change of SHARED_DEGRADED: class 0, instance 0, kind 1 degraded or 2 restored, address 0. -/
def sharedMsg (flag : Bool) : FaultMsg := { cls := 0, inst := 0, kind := if flag then 1 else 2 }

/-- The Dust Sheet at a frame boundary. At the first one after start-up the bands are those of the start-up round. -/
def State.dustFrame (s : State) : State :=
  let band := s.rd R.TH_STATUS_BAND
  let s := if s.dust.begun then s else
    let q : DustQ := { band := band, bandBefore := band, hold := s.holdNow, holdBefore := s.holdNow }
    { s with dust := { second := q, ten := q, begun := true } }
  let was := s.dustQ.flag
  let one := s.dust.second.scaled
  let ten := s.dust.ten.scaled
  let s := if s.clk.frame % 50000 = 0 then
    { s with dust := { s.dust with second := s.dust.second.roll band s.holdNow (s.sharedCond one) } } else s
  let s := if s.clk.frame % 500000 = 0 then
    { s with dust := { s.dust with ten := s.dust.ten.roll band s.holdNow (s.sharedCond ten) } } else s
  let now := s.dustQ.flag
  if now = was then s
  else s.over ((List.range 16).filter s.enabled) fun s t =>
    s.notice t 0x86 Code.ok 0 (faultBody ((sharedMsg now).word 0) 0)

/-- Stage 4 or 5 of the guard has scaled at the latest release. -/
def State.dustScaled (s : State) (scaled : Bool) : State :=
  if scaled then
    { s with dust := { s.dust with second := { s.dust.second with scaled := true }, ten := { s.dust.ten with scaled := true } } }
  else s

end Sys2Proof.Machine
end

