-- ==== Sys2Proof/Machine/Links.lean ====
section
/-! DEFINITION. Machine/Links.lean: the host lanes and the frames on them: what a received frame must pass, what an offer brings, how
response items and notices are packed, sealed and sent, announcements, ARP, frames that cross the ring (R238 to R255, R265 to R268,
R299 to R302). -/

namespace Sys2Proof.Machine

open Sys2Proof

/-! ### Lanes and bindings (R239, R250) -/

def State.setLinks (s : State) (f : Links → Links) : State := { s with links := f s.links }

/-- The powered lane of a plane in FRUGAL (PW_CFG). -/
def State.frugalLane (s : State) (p : Plane) : Nat :=
  match p with | .A => s.rd R.PW_CFG_FRUGAL_A % 4 | .B => 4 + s.rd R.PW_CFG_FRUGAL_B % 4

/-- The lanes on which a principal is served: its bound lanes, or the powered lane of the plane where FRUGAL keeps one without
power. -/
def State.servedLanes (s : State) (p : Nat) : List Nat :=
  (s.boundLanes p).map fun l => if l ∈ s.pw.frugal then s.frugalLane (lanePlane l) else l

/-- A lane carries frames: the session is open, it has link, its plane takes part. -/
def State.carries (s : State) (l : Nat) : Bool := s.links.open_ && s.laneUp l && s.joined (lanePlane l)

def State.isUdp (s : State) (l : Nat) : Bool := s.on (R.LK_CFG_ENCAP l)

/-- The largest Kolrok frame on a lane (R241). -/
def State.largestFrame (s : State) (l : Nat) : Nat := if s.isUdp l then 1472 else 1500

/-- MAC address of a lane: the base address plus l (R240). -/
def State.laneMac (s : State) (l : Nat) : Nat := (s.rd R.LK_MAC_HI_MAC * 2 ^ 32 + s.rd R.LK_MAC_LO_MAC + l) % 2 ^ 48

def broadcastMac : Nat := 2 ^ 48 - 1

/-! ### The MAC filters (R240, R241) -/

/-- A received MAC frame: destination, source, EtherType, payload. -/
structure MacFrame where
  dst : Nat
  src : Nat
  etype : Nat
  payload : List Nat
deriving DecidableEq, Repr

/-- The frame's parts, if its length (FCS included) and its tag pass R238 and R240. `b` is the frame without its FCS. -/
def State.macFrame (s : State) (l : Nat) (b : List Nat) : Option MacFrame :=
  if b.length + 4 < 64 ∨ 1522 < b.length + 4 then none
  else if beAt b 12 2 = 0x8100 then
    if beAt b 14 2 % 4096 = s.rd (R.LK_CFG_VID l) then some ⟨beAt b 0 6, beAt b 6 6, beAt b 16 2, b.drop 18⟩ else none
  else if s.on (R.LK_CFG_TAGGED l) then none
  else some ⟨beAt b 0 6, beAt b 6 6, beAt b 12 2, b.drop 14⟩

/-- The ones' complement sum of the 16-bit words of a byte string. -/
def onesSum (b : List Nat) : Nat :=
  let t := sumOf ((chunks 2 b.length b).map fun c => c.headD 0 * 256 + c.getD 1 0)
  let t := t % 65536 + t / 65536
  t % 65536 + t / 65536

/-- The UDP pseudo-header, then the datagram. -/
def udpCovered (src dst : List Nat) (udp : List Nat) : List Nat := src ++ dst ++ [0, 17] ++ be 2 udp.length ++ udp

/-- The Kolrok bytes of a datagram with its source address and port (R241). -/
def State.udpPayload (s : State) (l : Nat) (b : List Nat) : Option (Nat × Nat × List Nat) :=
  let total := beAt b 2 2
  let udp := slice b 20 (total - 20)
  let size := beAt udp 4 2
  if b.headD 0 = 0x45 ∧ 28 ≤ total ∧ total ≤ b.length ∧ beAt b 6 2 % 16384 = 0 ∧ onesSum (b.take 20) = 65535 ∧
      b.getD 9 0 = 17 ∧ beAt b 16 4 = s.rd (R.LK_IPV4_ADDR l) ∧ beAt udp 2 2 = s.rd R.LK_PROTO_UDP_PORT ∧ 8 ≤ size ∧
      size ≤ udp.length ∧
      (beAt udp 6 2 = 0 ∨ onesSum (udpCovered (slice b 12 4) (slice b 16 4) (udp.take size)) = 65535) then
    some (beAt b 12 4, beAt udp 0 2, slice udp 8 (size - 8))
  else none

/-- The Kolrok bytes of a frame that passes the filters, where its sender is reached, and whether padding may follow the Kolrok
frame. -/
def State.kolrokBytes (s : State) (l : Nat) (b : List Nat) : Option (List Nat × Address × Bool) :=
  match s.macFrame l b with
  | none => none
  | some m =>
    if m.dst ≠ s.laneMac l then none
    else if s.isUdp l then
      if m.etype ≠ 0x0800 then none
      else (s.udpPayload l m.payload).map fun x => (x.2.2, ⟨m.src, x.1, x.2.1⟩, false)
    else if m.etype = s.rd R.LK_PROTO_ETHERTYPE then some (m.payload, ⟨m.src, 0, 0⟩, decide (b.length ≤ 64)) else none

/-! ### The checks of a Kolrok frame (R242 to R247) -/

/-- The GCM nonce of a header (R244). -/
def nonceOf (dir lane principal session seq : Nat) : List Nat := [dir * 128 + lane, principal] ++ be 4 session ++ be 6 seq

/-- Step 1. `lanes` are the lanes that LANE may name, `most` is the largest payload. -/
def headerOk (b : List Nat) (padded : Bool) (lanes : List Nat) (most : Nat) : Bool :=
  let control := b.getD 1 0
  let principal := b.getD 2 0
  let seq := beAt b 8 6
  let count := b.getD 14 0
  let length := beAt b 16 2
  b.headD 0 == 1 && control / 128 == 0 && control / 16 % 4 == 0 && control % 16 == 0 && lanes.contains (b.getD 3 255) &&
    isPrincipal principal && 1 ≤ count && count ≤ 64 && seq != 0 && seq + count ≤ 2 ^ 48 && b.getD 15 0 == 0 &&
    beAt b 18 2 == 0 && length % 4 == 0 && 4 ≤ length && length ≤ most &&
    (if padded then 40 + length ≤ b.length else 40 + length == b.length)

/-- Step 4: COUNT command headers with their bodies account for every byte. -/
def splitCommands : Nat → List Nat → Option (List (Nat × Nat × List Nat))
  | 0, [] => some []
  | n + 1, op :: fl :: b1 :: b0 :: rest =>
    let k := b1 * 256 + b0
    if rest.length < k then none else (splitCommands n (rest.drop k)).map ((op, fl, rest.take k) :: ·)
  | _, _ => none

/-- Step 2: the principal is bound to the lane; in SEALED the owner's frames come on lanes without a tenancy binding alone
(R250). -/
def State.boundHere (s : State) (p l : Nat) : Bool :=
  decide (l ∈ s.servedLanes p) && !(p == 30 && s.isMode .sealed && decide (l ∈ s.tenancyLanes)) && s.enabled p

/-- A check that a frame fails, and a frame that authenticates with its payload. -/
inductive Checked where
  | format
  | bind
  | auth
  | good (principal : Nat) (plain : List Nat)
deriving DecidableEq, Repr

/-- Steps 1 to 3 of R247. -/
def State.checkFrame (s : State) (b : List Nat) (padded : Bool) (lanes : List Nat) (most : Nat) : Checked :=
  let p := b.getD 2 0
  let l := b.getD 3 0
  if !headerOk b padded lanes most then .format
  else if !s.boundHere p l then .bind
  else if beAt b 4 4 ≠ s.links.session then .auth
  else
    let n := beAt b 16 2
    match s.rxKey p (b.getD 1 0 / 64 % 2 == 1) with
    | none => .auth
    | some key =>
      match gcmOpen key (nonceOf 0 l p s.links.session (beAt b 8 6)) (b.take 24) (slice b 24 n) (slice b (24 + n) 16) with
      | none => .auth
      | some plain => .good p plain

/-- A frame joins those that its plane offers next. -/
def State.enterRx (s : State) (f : RxFrame) : State :=
  match lanePlane f.lane with
  | .A => s.setLinks fun x => { x with rxA := x.rxA ++ [f] }
  | .B => s.setLinks fun x => { x with rxB := x.rxB ++ [f] }

def frameOf (b : List Nat) (cmds : List (Nat × Nat × List Nat)) (stamp : Option Stamp) : RxFrame :=
  { lane := b.getD 3 0, principal := b.getD 2 0, seq := beAt b 8 6, epoch := beAt b 20 4, cmds := cmds, stamp := stamp }

/-- KOLROK_FRAME_RX: a frame is received on lane l and its authentication is complete. A frame that passes step 3 gives the address
to which the device sends the principal's frames on the lane (R241). -/
def State.frameRx (s : State) (l : Nat) (b : List Nat) (stamp : Stamp) : State :=
  if !s.carries l then s
  else match s.kolrokBytes l b with
    | none => s
    | some (k, from_, padded) =>
      match s.checkFrame k padded [l] (s.largestFrame l - 40) with
      | .format => s.bump (R.LK_DROP_FORMAT l) 1
      | .bind => s.bump (R.LK_DROP_BIND l) 1
      | .auth => s.bump (R.LK_DROP_AUTH l) 1
      | .good p plain =>
        let s := s.updPrin p fun x => { x with addrs := (x.addrs.filter fun a => a.1 != l) ++ [(l, from_)] }
        match splitCommands (k.getD 14 0) plain with
        | none => s.bump (R.LK_DROP_FORMAT l) 1
        | some cmds => s.enterRx (frameOf k cmds (some stamp))

/-- FORWARDED_FRAME_RX: an inner frame reaches its target; `pos` forwarded it. LANE is a lane to which the owner is bound, and owner frames
alone are forwarded (R268). -/
def State.forwardedRx (s : State) (pos : Nat) (k : List Nat) : State :=
  if !s.links.open_ || 1400 < k.length then s
  else
    let s := s.setLinks fun x => { x with forwarder := some pos }
    let l := k.getD 3 0
    let count (s : State) (f : Nat → FieldAt) : State := if l < 8 then s.bump (f l) 1 else s
    match if k.getD 2 0 = 30 then s.checkFrame k false (s.servedLanes 30) 1360 else .bind with
    | .format => count s R.LK_DROP_FORMAT
    | .bind => count s R.LK_DROP_BIND
    | .auth => count s R.LK_DROP_AUTH
    | .good _ plain =>
      match splitCommands (k.getD 14 0) plain with
      | none => count s R.LK_DROP_FORMAT
      | some cmds => s.enterRx (frameOf k cmds none)

/-! ### Offers and the sequence check (R27, R248) -/

/-- OFFER_INSTANT: each plane that takes part offers what it has authenticated; the collectors offer their messages (R372). -/
def State.offer (s : State) : State :=
  let mine (p : Plane) (l : List RxFrame) : List RxFrame := if s.joined p then l else []
  let s := s.setLinks fun x => { x with offered := x.offered ++ mine .A x.rxA ++ mine .B x.rxB, rxA := [], rxB := [] }
  s.offerFaults

/-- A Kolrok receive record (R300, R301): kept for frames that pass step 4, with the frame number of their admission point. -/
def State.keepRx (s : State) (f : RxFrame) : State :=
  match f.stamp with
  | some t =>
    if s.keeps f.lane (s.on (R.FT_TS_CFG_RX_KOLROK f.lane)) then
      s.keepRecord f.lane 0 0 t [f.principal * 2 ^ 24 + f.seq / 2 ^ 32, f.seq % 2 ^ 32, s.clk.frame % 2 ^ 32]
    else s
  | none => s

/-- The sequence check of one frame: the flag says whether it is accepted. -/
def State.sequence (s : State) (f : RxFrame) : State × Bool :=
  let l := s.prin f.principal
  let count := f.cmds.length
  let nums := (List.range count).map (f.seq + ·)
  if (f.seq, count) ∈ l.frames then (s.bump (R.LK_DUP_DUP f.lane) 1, false)
  else if nums.any fun n => n + 256 ≤ l.h || decide (n ∈ l.window) then (s.bump (R.LK_DROP_SEQ f.lane) 1, false)
  else
    let h := max l.h (f.seq + count - 1)
    let s := s.updPrin f.principal fun x => { x with
      h := h, window := (x.window ++ nums).filter fun n => h < n + 256, frames := x.frames ++ [(f.seq, count)] }
    let s := s.bump (R.LK_FRAMES_RX f.lane) 1
    let s := match f.principal == 30, f.stamp with
      | true, some t => s.updLane f.lane fun x => { x with ownerRx := some (f.seq, t) }
      | _, _ => s
    (s, true)

/-- A frame comes before another in a batch: by principal, then SEQ. -/
def batchKey (f : RxFrame) : Nat := pIdx f.principal * 2 ^ 48 + f.seq

/-- The frames of the batch that are accepted, in order. -/
def State.takeBatch (s : State) : List RxFrame → State × List RxFrame
  | [] => (s, [])
  | f :: rest =>
    let (s, ok) := (s.keepRx f).sequence f
    let (s, l) := s.takeBatch rest
    (s, if ok then f :: l else l)

/-! ### Building frames (R253, R255) -/

/-- The bytes of a response item or notice. -/
def itemBytes (it : Item) : List Nat :=
  [it.opcode, it.status] ++ be 2 it.body.length ++ be 6 it.cseq ++ [it.point, 0] ++ be 8 it.frame ++ it.body

/-- How many bytes the first field of a notice's body has. -/
def firstField (code : Nat) : Nat :=
  if code = 0x81 ∨ code = 0x86 then 8 else if code = 0x87 then 4 else if code = 0x85 ∨ code = 0x88 then 1 else 2

def noticeKey (it : Item) : Nat := it.opcode * 2 ^ 64 + beAt it.body 0 (firstField it.opcode)

/-- The payload limit of a principal's frames. -/
def State.payloadLimit (s : State) (p : Nat) : Nat := if (s.servedLanes p).any s.isUdp then 1432 else 1460

/-- Pack items into payloads: each is filled before the next begins, and holds at most 64 items. -/
def packItems (limit : Nat) : List Item → List Nat → Nat → List (Nat × List Nat)
  | [], cur, n => if n = 0 then [] else [(n, cur)]
  | it :: rest, cur, n =>
    let b := itemBytes it
    if n ≠ 0 ∧ (limit < cur.length + b.length ∨ n = 64) then (n, cur) :: packItems limit rest b 1
    else packItems limit rest (cur ++ b) (n + 1)

/-- A sealed device frame for a lane; none where the principal has no current key (R244, R316). -/
def State.sealFrame (s : State) (p l rseq count : Nat) (payload : List Nat) : Option (List Nat) :=
  (s.rxKey p false).map fun key =>
    let head := [1, 128 + 32 * planeBit (lanePlane l), p, l] ++ be 4 s.links.session ++ be 6 rseq ++ [count, 0] ++
      be 2 payload.length ++ be 2 0 ++ be 4 (s.epoch p)
    let (c, tag) := gcmSeal key (nonceOf 1 l p s.links.session rseq) head payload
    head ++ c ++ tag

/-- A built frame waits on a lane; beyond 64 of one principal the oldest is discarded. -/
def State.waitOn (s : State) (l : Nat) (f : TxFrame) : State :=
  let s := s.updLane l fun x => { x with tx := x.tx ++ [f] }
  let mine := (s.lane l).tx.filter fun x => x.principal == f.principal
  if mine.length ≤ 64 then s
  else
    let old := (mine.map (·.rseq)).headD 0
    let s := s.updLane l fun x => { x with tx := x.tx.filter fun y => !(y.principal == f.principal && y.rseq == old) }
    (s.bump (R.LK_DUP_TXDROP l) 1).raise { cls := 2, inst := l, kind := 3, plane := planeBit (lanePlane l) }

/-- While none of the owner's lanes has link, its frames also go over the ring to the latest forwarder (R268). -/
def State.overRing (s : State) (rseq count : Nat) (payload : List Nat) : State :=
  match s.links.forwarder with
  | none => s
  | some pos =>
    if (s.servedLanes 30).any s.laneUp then s
    else
      let lanes := s.servedLanes 30
      match (lanes.find? fun l => lanePlane l == s.active).orElse fun _ => lanes.head? with
      | none => s
      | some l => match s.sealFrame 30 l rseq count payload with
        | some b => s.setLinks fun x => { x with ringResp := x.ringResp ++ [(pos, rseq, b)] }
        | none => s

/-- One frame of a principal: the next RSEQ, a sealed copy on every lane of a plane that takes part; where the planes' digests `differ`, on
the active plane's lanes only (R354). -/
def State.sendFrame (s : State) (differ : Bool) (p : Nat) (x : Nat × List Nat) : State :=
  let rseq := (s.prin p).rseq + 1
  let s := s.updPrin p fun y => { y with rseq := rseq }
  let s := s.over (s.servedLanes p) fun s l =>
    if s.joined (lanePlane l) && !(differ && lanePlane l != s.active) then
      match s.sealFrame p l rseq x.1 x.2 with
      | some b => s.waitOn l ⟨p, rseq, b⟩
      | none => s
    else s
  if p = 30 then s.overRing rseq x.1 x.2 else s

/-- What a principal is sent at this admission point: completed items by sequence number, and at a frame boundary its notices. -/
def State.buildFor (s : State) (differ : Bool) (p : Nat) : State :=
  let l := s.prin p
  let items := sortBy (·.cseq) ((l.delayed.filter fun x => x.1 ≤ s.now).map (·.2) ++ l.completed)
  let due : List Item := if s.clk.point = 0 then
    sortBy noticeKey (l.notices.map fun (it : Item) => { it with point := 0, frame := s.clk.frame }) else []
  let s := s.updPrin p fun x => { x with
    completed := [], delayed := x.delayed.filter fun y => s.now < y.1, notices := if s.clk.point = 0 then [] else x.notices }
  s.over (packItems (s.payloadLimit p) (items ++ due) [] 0) fun s x => s.sendFrame differ p x

/-- RESPONSE_BUILD (R253) for every principal. -/
def State.buildAll (s : State) (differ : Bool) : State :=
  (s.setLinks fun x => { x with ringResp := [] }).over principals fun s p => s.buildFor differ p

/-! ### Sending (R241, R265 to R267, R302) -/

/-- The MAC frame around a payload. -/
def State.macBytes (s : State) (l dst etype : Nat) (payload : List Nat) : List Nat :=
  let tag := if s.on (R.LK_CFG_TAGGED l) then
    be 2 0x8100 ++ be 2 (s.rd (R.LK_CFG_PCP l) * 8192 + s.rd (R.LK_CFG_VID l)) else []
  be 6 dst ++ be 6 (s.laneMac l) ++ tag ++ be 2 etype ++ payload

/-- A datagram with DF set and valid checksums. The type of service, the identification and the time to live are values the spec does
not state (log entry 2). -/
def State.datagram (s : State) (l ip port : Nat) (data : List Nat) : List Nat × State :=
  let (v, s) := s.free
  let src := be 4 (s.rd (R.LK_IPV4_ADDR l))
  let dst := be 4 ip
  let head (sum : Nat) : List Nat :=
    [0x45, v % 256] ++ be 2 (28 + data.length) ++ be 2 (v / 256) ++ be 2 0x4000 ++ [v / 2 ^ 24 % 256, 17] ++ be 2 sum ++ src ++ dst
  let udp (sum : Nat) : List Nat := be 2 (s.rd R.LK_PROTO_UDP_PORT) ++ be 2 port ++ be 2 (8 + data.length) ++ be 2 sum ++ data
  let u := 65535 - onesSum (udpCovered src dst (udp 0))
  (head (65535 - onesSum (head 0)) ++ udp (if u = 0 then 65535 else u), s)

/-- The trailer of an owner frame with INBAND (R302). -/
def State.trailer (s : State) (l : Nat) : List Nat :=
  let x := s.lane l
  let part (v : Option (Nat × Stamp)) : List Nat :=
    match v with | some (n, t) => be 6 n ++ be 6 t.sec ++ be 4 t.ns ++ be 2 t.frac | none => List.replicate 18 0
  be 2 1 ++ [s.tsScale l, b01 x.ownerRx.isSome + 2 * b01 x.ownerTx.isSome] ++ part x.ownerRx ++ part x.ownerTx

/-- The wire time of a frame in FCLK (R267): MAC bytes with FCS plus 20, at 0.32768 or 0.131072 FCLK a byte, rounded up. -/
def State.wireTime (s : State) (l macBytes : Nat) : Nat :=
  if s.on (R.LK_CFG_RATE l) then divUp ((macBytes + 20) * 131072) 1000000 else divUp ((macBytes + 20) * 32768) 100000

/-- The FCLK that remain at position `pos` in a window of the principal on the lane; none outside its windows. -/
def State.windowLeft (s : State) (l p pos : Nat) : Option Nat :=
  ((List.range 16).find? fun w => s.on (R.LK_TXWIN_VALID l w) && s.rd (R.LK_TXWIN_PRINCIPAL l w) == p &&
    s.rd (R.LK_TXWIN_START l w) ≤ pos && pos < s.rd (R.LK_TXWIN_START l w) + s.rd (R.LK_TXWIN_LENGTH l w)).map fun w =>
      s.rd (R.LK_TXWIN_START l w) + s.rd (R.LK_TXWIN_LENGTH l w) - pos

/-- Does the lane keep to transmit windows (R266)? -/
def State.windowed (s : State) (l : Nat) : Bool := s.isMode .sealed && decide (l ∈ s.tenancyLanes)

/-- The MAC payload that carries a Kolrok frame to its receiver. -/
def State.carryTo (s : State) (l : Nat) (a : Address) (data : List Nat) : List Nat × State :=
  if s.isUdp l then
    let (d, s) := s.datagram l a.ip a.port data
    (s.macBytes l a.mac 0x0800 d, s)
  else (s.macBytes l a.mac (s.rd R.LK_PROTO_ETHERTYPE) data, s)

/-- A Kolrok transmit record (R300, R301). -/
def State.keepTx (s : State) (l p rseq : Nat) (t : Stamp) : State :=
  if s.keeps l (s.on (R.FT_TS_CFG_TX_KOLROK l)) then
    s.keepRecord l 0 1 t [p * 2 ^ 24 + rseq / 2 ^ 32, rseq % 2 ^ 32, 0]
  else s

/-- Does a waiting frame carry the trailer of INBAND (R302)? -/
def State.trailed (s : State) (l : Nat) (f : TxFrame) : Bool :=
  f.principal == 30 && s.on (R.FT_TS_CFG_INBAND l) && f.bytes.length + 40 ≤ s.largestFrame l

/-- Send a waiting frame of a principal. -/
def State.transmit (s : State) (l : Nat) (f : TxFrame) (a : Address) (t : Stamp) : State :=
  let (m, s) := s.carryTo l a (if s.trailed l f then f.bytes ++ s.trailer l else f.bytes)
  let s := s.updLane l fun x => { x with
    wire := m, last := f.principal, tx := x.tx.filter fun y => !(y.principal == f.principal && y.rseq == f.rseq)
    ownerTx := if f.principal = 30 then some (f.rseq, t) else x.ownerTx }
  (s.bump (R.LK_FRAMES_TX l) 1).keepTx l f.principal f.rseq t

/-- The frame that may begin at position `pos`: round-robin by principal number, each principal's frames in RSEQ order, in SEALED
within the principal's window and whole. -/
def State.nextFrame (s : State) (l pos : Nat) : Option (TxFrame × Address) :=
  let x := s.lane l
  let order := (principals.filter fun p => x.last < p) ++ principals.filter fun p => p ≤ x.last
  let head (p : Nat) : Option (TxFrame × Address) :=
    match x.tx.find? fun f => f.principal == p, (s.prin p).addrs.find? fun a => a.1 == l with
    | some f, some a =>
      let mac := f.bytes.length + (if s.trailed l f then 40 else 0) + 4 + (if s.on (R.LK_CFG_TAGGED l) then 18 else 14) + (if s.isUdp l then 28 else 0)
      if !s.windowed l || (match s.windowLeft l p pos with | some left => s.wireTime l (max 64 mac) ≤ left | none => false) then
        some (f, a.2)
      else none
    | _, _ => none
  order.findSome? head

/-- FRAME_TRANSMIT: lane l is free at FCLK position `pos` of the frame; `t` is the transmit stamp of what begins. Announcements and
ARP replies go first; a lane that keeps to windows has none for them. -/
def State.frameTransmit (s : State) (l pos : Nat) (t : Stamp) : State :=
  if !s.carries l then s
  else match if s.windowed l then none else (s.lane l).raw.head? with
    | some (ann, m) =>
      let s := s.updLane l fun x => { x with wire := m, raw := x.raw.drop 1 }
      if ann then s.keepTx l 0xFF 0 t else s
    | none =>
      match s.nextFrame l pos with
      | some (f, a) => s.transmit l f a t
      | none => s

/-! ### Announcements, ARP, links (R246, R241, R369) -/

/-- An announcement frame of a lane. -/
def State.announcement (s : State) (l : Nat) : List Nat :=
  [1, 144 + 32 * planeBit (lanePlane l), 0xFF, l] ++ be 4 s.links.session ++ be 6 0 ++ [0, 0] ++ be 2 24 ++ be 2 0 ++ be 4 0 ++
    be 8 Config.serial ++ be 4 s.links.session ++ [planeBit (lanePlane l), planeBit s.active] ++ be 2 0 ++ be 8 s.clk.frame

/-- A lane announces the session; in SEALED a lane with a tenancy binding does not. -/
def State.announce (s : State) (l : Nat) : State :=
  if !s.carries l || s.windowed l then s
  else
    let (m, s) := s.carryTo l ⟨broadcastMac, 2 ^ 32 - 1, s.rd R.LK_PROTO_UDP_PORT⟩ (s.announcement l)
    s.updLane l fun x => { x with raw := x.raw ++ [(true, m)] }

/-- ARP_REQUEST: a broadcast request for the lane's IPv4 address is answered (RFC 826). -/
def State.arpRequest (s : State) (l : Nat) (b : List Nat) : State :=
  if !s.carries l || !s.isUdp l then s
  else match s.macFrame l b with
    | none => s
    | some m =>
      let q := m.payload
      let ip := s.rd (R.LK_IPV4_ADDR l)
      if m.dst = broadcastMac ∧ m.etype = 0x0806 ∧ beAt q 0 8 = 0x0001080006040001 ∧ beAt q 24 4 = ip then
        let reply := be 8 0x0001080006040002 ++ be 6 (s.laneMac l) ++ be 4 ip ++ slice q 8 10
        let f := s.macBytes l (beAt q 8 6) 0x0806 reply
        s.updLane l fun x => { x with raw := x.raw ++ [(false, f)] }
      else s

def laneMsg (l kind : Nat) : FaultMsg := { cls := 2, inst := l, kind := kind, plane := planeBit (lanePlane l) }

/-- LANE_LINK_UP: block lock, and FEC lock where RS-FEC is on; the lane announces the session. A fenced lane is held without link, but
its receiver's lock ends the LINK_DOWN condition that R384 asks to be over (log entry 71). -/
def State.linkUp (s : State) (l : Nat) : State :=
  if s.lanePowered l && s.on (R.LK_CFG_ENABLE l) && s.miscFenced l then s.endReport (laneMsg l 1)
  else if !s.laneAllowed l || s.laneUp l then s
  else
    let s := s.wr (R.LK_STATUS_BLOCK_LOCK l) 1
    let s := if s.on (R.LK_CFG_RS_FEC l) then s.wr (R.LK_STATUS_FEC_LOCK l) 1 else s
    (s.endReport (laneMsg l 1)).announce l

/-- LANE_LINK_DOWN: a lane that has link loses its FEC lock alone, or its block lock and with it the FEC lock. -/
def State.linkDown (s : State) (l : Nat) (fecOnly : Bool) : State :=
  if !s.laneUp l then s
  else
    let s := s.wr (R.LK_STATUS_FEC_LOCK l) 0
    let s := if fecOnly && s.on (R.LK_CFG_RS_FEC l) then s else s.wr (R.LK_STATUS_BLOCK_LOCK l) 0
    s.raise (laneMsg l 1)

/-- HI_BER: the PCS reports it, or its end. -/
def State.hiBer (s : State) (l : Nat) (on : Bool) : State :=
  if !s.laneAllowed l || s.on (R.LK_STATUS_HI_BER l) == on then s
  else
    let s := s.wr (R.LK_STATUS_HI_BER l) (b01 on)
    if on then s.raise (laneMsg l 2) else s.endReport (laneMsg l 2)

/-- A lane without power, not enabled or fenced has no lock (R239, LK_CFG). -/
def State.clearLocks (s : State) : State :=
  s.over (List.range 8) fun s l => if s.laneAllowed l || s.word (A.LK_STATUS l) == 0 then s else s.setWord (A.LK_STATUS l) 0

/-! ### Forwarding (R268) -/

/-- A ring port is up: no LINK_DOWN, not fenced (R383), no trip (R397). -/
def State.ringUp (s : State) : Bool := s.therm.trip.isNone && [0, 1].any fun p => !s.on (R.FT_RING_DELAY_LINK_DOWN p) && !s.miscFenced (8 + p)

/-- Frames that wait go onto the ring while a port is up. -/
def State.drainRing (s : State) : State :=
  if s.ringUp && !s.links.ringTx.isEmpty then s.setLinks fun x => { x with ringOut := x.ringTx, ringTx := [] } else s

/-- FORWARD. -/
def State.cmdForward (s : State) (h : CmdHead) (pos : Nat) (frame : List Nat) : State :=
  if pos = s.chainPos ∨ 15 < pos ∨ ¬ (s.rd R.AP_RING_STATUS_PRESENT).testBit pos ∨ 1400 < frame.length then
    s.answer h 0x44 Code.badArg
  else if 16 ≤ s.links.ringTx.length then s.answer h 0x44 Code.busy
  else ((s.setLinks fun x => { x with ringTx := x.ringTx ++ [(pos, frame)] }).drainRing).answer h 0x44 Code.ok

/-- FORWARDED_RESPONSE_RX: an owner frame of the target at `pos` is delivered to the owner in notices of at most 1,024 bytes. -/
def State.forwardedResponse (s : State) (pos rseq : Nat) (bytes : List Nat) : State :=
  let parts := chunks 1024 (bytes.length + 1) bytes
  s.over parts.zipIdx fun s x => s.notice 30 0x88 Code.ok 0 ([pos, x.2, parts.length, 0] ++ be 8 rseq ++ x.1)

end Sys2Proof.Machine
end

