-- ==== Sys2Proof/Machine/Parse.lean ====
section
/-! DEFINITION. Machine/Parse.lean: from the OPCODE, FLAGS and body of a command (R243) to the command it stands for: which opcodes
there are, the body lengths, the fields of each body, the reserved bits, and who may send what (R256, R259, R315 to R320). -/

namespace Sys2Proof.Machine

open Sys2Proof

/-- The fields of a body for an opcode of R256; none for another opcode. The length is taken to be right. -/
def parseBody (op : Nat) (b : List Nat) : Option Cmd :=
  let n (i k : Nat) : Nat := beAt b i k
  -- TILES (12) is one big-endian number: its bit t is tile t (R242, R256)
  let words (from_ : Nat) : List Nat := (chunks 4 b.length (b.drop from_)).map ofBe
  match op with
  | 0x01 => some .ping
  | 0x02 => some (.summary b)
  | 0x03 => some .fence
  | 0x04 => some (.read (n 0 4) (n 4 2))
  | 0x05 => some (.write (n 0 4) (words 8))
  | 0x10 => some (.connect (n 0 2) (n 2 2))
  | 0x11 => some (.disconnect (n 0 2) (n 2 2))
  | 0x12 => some (.stage (n 0 2) (n 2 1) (n 3 1) ((words 4).map fun w => (w / 65536, w % 65536)))
  | 0x13 => some (.setElement (n 0 2) (n 2 1))
  | 0x14 => some (.commit (n 0 1) (n 1 1) (n 2 2) (n 4 2) (n 8 8))
  | 0x15 => some (.abort (n 0 8) (n 8 1))
  | 0x16 => some (.remap (n 0 2) (n 2 1))
  | 0x20 => some (.ctxRead (n 0 2) (n 2 1) (n 3 1))
  | 0x21 => some (.ctxWrite (n 0 2) (n 2 1) (words 4))
  | 0x22 => some (.ctxState (n 0 2) (n 2 1))
  | 0x28 => some (.guardWrite (n 0 1) (n 2 2) (n 4 4))
  | 0x29 => some (.primerWrite (n 0 1) (n 2 2) (n 4 4))
  | 0x2A => some (.primerApply (n 0 12))
  | 0x2B => some (.tileResume (n 0 12))
  | 0x30 => some (.hkaInject (n 0 1) (n 1 1))
  | 0x31 => some (.calibrate (n 0 12))
  | 0x32 => some (.stencilStart (n 0 1))
  | 0x38 => some (.mode (n 0 1) (n 8 8))
  | 0x39 => some (.power (n 0 1))
  | 0x3A => some (.drill (n 0 8))
  | 0x3B => some (.reboot (n 0 1))
  | 0x40 => some (.protectArm ⟨n 0 1, n 2 2, n 4 4, n 8 4, n 12 4, leAt b 16 128, leAt b 144 128⟩)
  | 0x41 => some (.protectCommit (n 0 4) (n 8 8) (n 16 8))
  | 0x42 => some (.keyInstall (n 0 1) (n 1 1) (slice b 4 40))
  | 0x43 => some (.keyRoll (n 0 1) (n 4 8))
  | 0x44 => some (.forward (n 0 1) (b.drop 4))
  | _ => none

/-! ### The encoder -/

/-- `n` reserved bytes. -/
def zeros (n : Nat) : List Nat := List.replicate n 0

/-- The body of a command, its reserved bytes 0 (R256, R315 to R320). -/
def bodyOf : Cmd → List Nat
  | .ping => []
  | .summary challenge => challenge
  | .fence => []
  | .read addr words => be 4 addr ++ be 2 words ++ zeros 2
  | .write addr data => be 4 addr ++ be 2 data.length ++ zeros 2 ++ data.flatMap (be 4)
  | .connect inp out => be 2 inp ++ be 2 out
  | .disconnect inp out => be 2 inp ++ be 2 out
  | .stage id part parts entries => be 2 id ++ be 1 part ++ be 1 parts ++ entries.flatMap fun e => be 2 e.1 ++ be 2 e.2
  | .setElement element state => be 2 element ++ be 1 state ++ zeros 1
  | .commit kind chip token mask frame => be 1 kind ++ be 1 chip ++ be 2 token ++ be 2 mask ++ zeros 2 ++ be 8 frame
  | .abort sFrame sChip => be 8 sFrame ++ be 1 sChip ++ zeros 3
  | .remap logical useAlt => be 2 logical ++ be 1 useAlt ++ zeros 1
  | .ctxRead ctx first words => be 2 ctx ++ be 1 first ++ be 1 words
  | .ctxWrite ctx first data => be 2 ctx ++ be 1 first ++ be 1 data.length ++ data.flatMap (be 4)
  | .ctxState ctx state => be 2 ctx ++ be 1 state ++ zeros 1
  | .guardWrite tile offset value => be 1 tile ++ zeros 1 ++ be 2 offset ++ be 4 value
  | .primerWrite tile offset value => be 1 tile ++ zeros 1 ++ be 2 offset ++ be 4 value
  | .primerApply tiles => be 12 tiles
  | .tileResume tiles => be 12 tiles
  | .hkaInject channel tag => be 1 channel ++ be 1 tag ++ zeros 2
  | .calibrate tiles => be 12 tiles
  | .stencilStart gen => be 1 gen ++ zeros 3
  | .mode mode frame => be 1 mode ++ zeros 7 ++ be 8 frame
  | .power state => be 1 state ++ zeros 3
  | .drill frame => be 8 frame
  | .reboot slot => be 1 slot ++ zeros 3
  | .protectArm b =>
    be 1 b.target ++ zeros 1 ++ be 2 b.fields ++ be 4 b.cfg ++ be 4 b.lock ++ be 4 b.floor ++ le 128 b.inMap ++ le 128 b.outMap
  | .protectCommit armId digest frame => be 4 armId ++ zeros 4 ++ be 8 digest ++ be 8 frame
  | .keyInstall principal which wrapped => be 1 principal ++ be 1 which ++ zeros 2 ++ wrapped
  | .keyRoll principal frame => be 1 principal ++ zeros 3 ++ be 8 frame
  | .forward pos frame => be 1 pos ++ zeros 3 ++ frame

/-- Is BLEN right for the command (R256)? -/
def lengthOk (op flags : Nat) (b : List Nat) : Bool :=
  let k := b.length
  k % 4 == 0 && match op with
  | 0x01 | 0x03 => k == 0
  | 0x02 => k == if flags.testBit 0 then 16 else 0
  | 0x04 => k == 8
  | 0x05 => k == 8 + 4 * beAt b 4 2
  | 0x10 | 0x11 | 0x13 | 0x16 | 0x20 | 0x22 | 0x30 | 0x32 | 0x39 | 0x3B => k == 4
  | 0x12 => 8 ≤ k && k ≤ 4 + 4 * 256
  | 0x14 | 0x38 => k == 16
  | 0x15 | 0x2A | 0x2B | 0x31 | 0x43 => k == 12
  | 0x21 => k == 4 + 4 * beAt b 3 1
  | 0x28 | 0x29 | 0x3A => k == 8
  | 0x40 => k == 272
  | 0x41 => k == 24
  | 0x42 => k == 44
  | 0x44 => 4 < k && k ≤ 1404
  | _ => true

/-- The FLAGS bits that a command defines, ORDERED among them. -/
def flagBits (op : Nat) : List Nat :=
  7 :: match op with
  | 0x02 => [0, 1]
  | 0x10 => [6, 5]
  | 0x11 => [6]
  | 0x12 => [6, 5, 4]
  | 0x13 => [6]
  | 0x14 => [4, 3]
  | 0x15 => [4]
  | 0x31 => [4]
  | 0x40 | 0x43 => [0]
  | _ => []

/-- The reserved bytes of a body. -/
def reservedBytes (op : Nat) : List Nat :=
  match op with
  | 0x04 | 0x05 => [6, 7]
  | 0x13 | 0x16 | 0x22 => [3]
  | 0x14 => [6, 7]
  | 0x15 => [9, 10, 11]
  | 0x28 | 0x29 => [1]
  | 0x30 => [2, 3]
  | 0x32 | 0x39 | 0x3B | 0x43 | 0x44 => [1, 2, 3]
  | 0x38 => [1, 2, 3, 4, 5, 6, 7]
  | 0x40 => [1]
  | 0x41 => [4, 5, 6, 7]
  | 0x42 => [2, 3]
  | _ => []

/-- Reserved bytes and undefined FLAGS bits are 0. -/
def reservedOk (op flags : Nat) (b : List Nat) : Bool :=
  ((onesBelow 8 flags).all fun k => decide (k ∈ flagBits op)) && (reservedBytes op).all fun i => b.getD i 0 == 0

/-- The commands of the owner alone, with the flags that are the owner's: FULL, ALL (R256). -/
def ownerOnly (op flags : Nat) : Bool :=
  op == 0x16 || 0x28 ≤ op || (op == 0x02 && flags.testBit 1) || (op == 0x14 && flags.testBit 4)

/-- The commands that a stale epoch does not refuse (R251). -/
def epochFree (op : Nat) : Bool := 1 ≤ op && op ≤ 3

/-- The cost of a command (R274); `assembled` is the number of entries of the STAGE that this part completes, 0 for another part. -/
def costOf (c : Cmd) (flags assembled : Nat) : Nat :=
  match c with
  | .ping | .fence => 1
  | .summary _ =>
    if flags.testBit 1 then (if flags.testBit 0 then 272 else 64) else if flags.testBit 0 then 16 else 4
  | .connect .. | .disconnect .. | .setElement .. => 4
  | .stage _ _ _ entries =>
    4 + divUp entries.length 8 + (if 0 < assembled ∧ (flags.testBit 4 ∨ 4 < assembled) then 64 else 0)
  | .commit .. => if flags.testBit 3 then 16 else 8
  | .abort .. => if flags.testBit 4 then 64 else 8
  | .ctxState .. => 2
  | .read _ words => 1 + words / 16
  | .ctxRead _ _ words => 1 + words / 16
  | .write _ data => 2 + data.length / 8
  | .ctxWrite _ _ data => 2 + data.length / 8
  | _ => 4

/-- Does a tenancy's command go to its bulk queue (R274)? -/
def isBulk : Cmd → Bool
  | .read .. | .write .. | .ctxRead .. | .ctxWrite .. => true
  | _ => false

/-- Is a command a route request (R277)? -/
def isRoute : Cmd → Bool
  | .connect .. | .disconnect .. | .stage .. | .setElement .. => true
  | _ => false

end Sys2Proof.Machine
end

