-- ==== Sys2Proof/Machine/RegAccess.lean ====
section
/-! DEFINITION. Machine/RegAccess.lean: reads and writes of the register space (R13 to R15, R256, R435 to R447). Every requester goes
through `readMany` and `writeMany`. -/

namespace Sys2Proof.Machine

open Sys2Proof

/-! ### Pairs (R444, R445) -/

/-- The address of the other half of a pair read from its low half. -/
def hiOf (h : RegHit) (a : Nat) : Option Nat :=
  match h.spec.reg with
  | .GL_SERIAL_LO => some (a + 4) | .GL_FRAME_LO => some (a + 4) | .RT_MAP_DIGEST_LO => some (a + 4) | .CM_LAST_LO => some (a + 4)
  | .LK_MAC_LO => some (a + 4) | .LK_SEQ_RX_LO => some (a + 4) | .LK_SEQ_TX_LO => some (a + 4) | .FT_TD_INCR_LO => some (a + 4)
  | .FT_CAP_FRAME_LO => some (a + 4) | .FT_CAP_SEC_LO => some (a - 4) | .PW_RTC_LO => some (a + 4) | .PW_ALARM_LO => some (a + 4)
  | .AP_RING_DIGEST_LO => some (a + 4) | .CAP_START_LO => some (a + 4) | .RSP_START_LO => some (a + 4)
  | .ST_TRIG_FRAME_LO => some (a + 4) | .ST_START_LO => some (a + 4) | .PL_DRILL_FRAME_LO => some (a + 4)
  | .FC_FIRST => if h.i 0 = 0 ∨ h.i 0 = 2 then some (a + 4) else none
  | .FC_LAST => if h.i 0 = 0 ∨ h.i 0 = 2 then some (a + 4) else none
  | .FC_SLOT0 => if h.i 0 = 0 ∨ h.i 0 = 2 then some (a + 4) else none
  | .FC_SLOT1 => if h.i 0 = 0 ∨ h.i 0 = 2 then some (a + 4) else none
  | .FC_QUEUE => if h.i 1 = 0 ∨ h.i 1 = 2 then some (a + 4) else none
  | _ => none

/-- The registers whose write is held for the low half (R445). -/
def heldReg : Reg → Bool
  | .FT_TD_INCR_HI => true | .PW_RTC_HI => true | .PW_ALARM_HI => true | .ST_TRIG_FRAME_HI => true
  | _ => false

def State.setReg (s : State) (f : RegState → RegState) : State := { s with reg := f s.reg }

/-- What requester r's holder gives for the address: the held word of a pair's high half. -/
def State.heldRead (s : State) (r : Requester) (a : Nat) : Option Nat :=
  (s.reg.snapshot.find? fun x => decide (x.1 = r ∧ x.2.1 = a)).map (·.2.2)

def State.dropHolder (s : State) (r : Requester) : State :=
  s.setReg fun g => { g with snapshot := g.snapshot.filter fun x => !decide (x.1 = r) }

/-- The held write of a requester for the address of a high half. -/
def State.heldWrite (s : State) (r : Requester) (a : Nat) : Option Nat :=
  (s.reg.heldHi.find? fun x => decide (x.1 = r ∧ x.2.1 = a)).map (·.2.2)

def State.dropHeld (s : State) (r : Requester) : State :=
  s.setReg fun g => { g with heldHi := g.heldHi.filter fun x => !decide (x.1 = r) }

/-! ### Reads -/

/-- Does byte address a lie in the buffer of a channel of tenancy t (R328)? -/
def State.ownBuffer (s : State) (t a : Nat) : Bool :=
  s.on (R.PR_TEN_CFG_CAPTURE t) && (List.range 36).any fun c =>
    s.rd (chOwner c) == t && s.bufBase c ≤ a - 0x2000000 && a + 4 ≤ 0x2000000 + s.bufBase c + s.bufSize c

/-- Steps 1 and 2 of R439 for a read, and R438. -/
def State.readCode (s : State) (r : Requester) (a : Nat) : Nat :=
  if a % 4 ≠ 0 then Code.badAddress
  else if inCapture a then
    match r with
    | .principal p => if p = 30 ∨ s.ownBuffer p a then Code.ok else Code.badAddress
    | .sideband => if s.sbTrusted then Code.ok else Code.badAddress
    | .firmware _ => Code.ok
  else match regAt a with
    | none => Code.badAddress
    | some h =>
      if s.readScope r h ≠ Code.ok then s.readScope r h
      else if s.readsDown r h.spec.copies then Code.busy else Code.ok

/-- The fields that a read clears (R13, R443), and what a read removes: an injection result (R128), a time-stamp record (R301), the
longest stall. -/
def State.readEffect (s : State) (r : Requester) (p : Plane) (h : RegHit) (a : Nat) : State :=
  if !s.ownerLike r then s
  else
    let w := s.stored p h.spec.copies a
    let w := h.spec.fields.foldl (fun w f => if f.acc = .rc then (f.loc a).put w 0 else w) w
    let s := if h.spec.copies.isPriv then s.setWordP p a w else s.setWord a w
    match h.spec.reg with
    | .HKA_INJ_RESULT => s.hkaPop
    | .FT_TS_POP => if h.i 1 = 0 then (s.tsPop (h.i 0)).2 else s
    | .PW_STALL => (s.wr R.PW_STALL_LONGEST 0).wr R.PW_STALL_DOMAIN 0
    | _ => s

/-- One word: its value and what the read leaves behind. The word popped is the one FT_TS_POP returns. -/
def State.readOne (s : State) (r : Requester) (p : Plane) (h : RegHit) (a : Nat) : Nat × State :=
  let v := if h.spec.reg = .FT_TS_POP ∧ h.i 1 = 0 then
      (if s.ownerLike r then (s.tsPop (h.i 0)).1 else (((s.tsSource (h.i 0)).queue.head?).getD []).headD 0)
    else s.viewWord r p h a
  match s.heldRead r a with
  | some held => (held, s.dropHolder r)
  | none =>
    let s1 := match hiOf h a with
      | some b => match regAt b with
        | some g => (s.dropHolder r).setReg fun x => { x with snapshot := x.snapshot ++ [(r, b, s.viewWord r p g b)] }
        | none => s
      | none => s
    (v, s1.readEffect r p h a)

/-- One word of an access whose checks have passed. `plane` is the copy that CTX_READ names. -/
def State.readWord (s : State) (r : Requester) (plane : Option Plane) (a : Nat) : Nat × State :=
  if inCapture a then (ofLe (s.capBytes (a - 0x2000000) 4), s)
  else match regAt a with
    | some h => s.readOne r (plane.getD (s.selPlane r)) h a
    | none => (0, s)

/-- The words of an access, one after another, at one instant. -/
def State.readAll (s : State) (r : Requester) (plane : Option Plane) : List Nat → List Nat × State
  | [] => ([], s)
  | a :: as =>
    let (v, s) := s.readWord r plane a
    let (vs, s) := s.readAll r plane as
    (v :: vs, s)

def wordsAt (a n : Nat) : List Nat := (List.range n).map fun i => a + 4 * i

/-- The first code of a list that is not OK. -/
def firstCode (l : List Nat) : Nat := (l.find? (· != Code.ok)).getD Code.ok

/-- Both halves of the pair that the requester's holder names lie in the access: they come from this instant (R256, R444). -/
def State.coversHeld (s : State) (r : Requester) (l : List Nat) : Bool :=
  l.any fun b => match (regAt b).bind fun h => hiOf h b with
    | some a => decide (a ∈ l) && (s.heldRead r a).isSome
    | none => false

/-- A read of n words at a: the code, and words of 0 where it is refused (R256, R436, R438). -/
def State.readMany (s : State) (r : Requester) (plane : Option Plane) (a n : Nat) : Nat × List Nat × State :=
  let l := wordsAt a n
  let code := firstCode (l.map fun a =>
    let c := s.readCode r a
    if plane.isSome ∧ c = Code.busy then Code.ok else c)
  if code = Code.ok then
    let s := if s.coversHeld r l then s.dropHolder r else s
    let (v, s) := s.readAll r plane l
    (Code.ok, v, s)
  else (code, List.replicate n 0, s)

/-! ### Codes of the action bits -/

/-- Does a record of MAJOR or above with LIVE name the unit (R384)? -/
def State.liveFault (s : State) (unit index : Nat) : Bool :=
  s.faults.held.any fun r => r.live && 2 ≤ r.severity &&
    (match unit with
     | 0 => r.msg.cls == 1 && r.msg.inst == index
     | 1 => r.msg.cls == 2 && r.msg.inst == index
     | 2 => r.msg.cls == 3 && r.msg.inst == index
     | 3 => r.msg.cls == 10
     | _ => r.msg.cls == 11 && r.msg.inst == index)

/-- Is the unit of FC_UNFENCE fenced? -/
def State.unitFenced (s : State) (unit index : Nat) : Bool :=
  match unit with
  | 0 => s.tileFenced index
  | 1 => s.miscFenced index
  | 2 => s.miscFenced (8 + index)
  | 3 => s.miscFenced 10
  | _ => s.miscFenced (16 + index)

/-- FC_UNFENCE.GO (R384). -/
def State.unfenceCode (s : State) (unit index : Nat) : Nat :=
  if !s.unitFenced unit index || s.liveFault unit index || (unit == 0 && (s.actTile index).hand != 16) then Code.busy else Code.ok

/-- What an action of the word is answered with now. -/
def State.actionCode (s : State) (r : Requester) (h : RegHit) (a w : Nat) : Nat :=
  let i := h.i 0
  let go (f : FieldAt) (c : Nat) : Nat := if f.get w = 1 then c else Code.ok
  match h.spec.reg with
  | .HKA_CTRL => if w % 2 = 1 ∧ s.hkaFenced then Code.busy else Code.ok
  | .HKA_INJECT => if s.hkaFenced then Code.busy else Code.ok
  | .ST_CTRL => if w % 4 ≠ 0 ∧ (s.genFenced i ∨ s.genFenced (8 + i)) then Code.busy else Code.ok
  | .SV_CTRL => if w.testBit 31 ∧ ¬ s.isMode .survey then calMode else Code.ok
  | .PL_CTRL => if w.testBit 31 then s.returnCode else Code.ok
  | .FT_CTRL => if w.testBit 29 ∧ ¬ s.mayAlign then Code.busy else Code.ok
  | .FT_TD_INCR_LO =>
    s.rateCode i ((s.heldWrite r (a + 4)).getD (s.rd (R.FT_TD_INCR_HI_INCR i)) * 2 ^ 32 + w)
  | .FT_TD_SET_NS => s.setCode i w
  | .FT_TD_ADJ => s.adjCode i (signed 32 w)
  | .FC_UNFENCE => go ⟨a, 31, 31⟩ (s.unfenceCode (R.FC_UNFENCE_UNIT.get w) (R.FC_UNFENCE_INDEX.get w))
  | .BT_CTRL => go ⟨a, 31, 31⟩ s.rebootCode
  | .BT_NOR_CTRL => go ⟨a, 31, 31⟩ (s.norCode (R.BT_NOR_CTRL_OP.get w) (s.word A.BT_NOR_ADDR) (norLength w))
  | .ATTIC_PROV_GO => if w % 2 = 1 then s.mtpCode none else Code.ok
  | _ => Code.ok

/-! ### Checks of a write (R439) -/

/-- All checks of one word, in the order of R439. -/
def State.writeCode (s : State) (r : Requester) (a w : Nat) : Nat :=
  if a % 4 ≠ 0 then Code.badAddress
  else if inCapture a then
    match r with
    | .principal p => if p = 30 then Code.ok else Code.badAddress
    | .sideband => if s.sbTrusted then Code.ok else Code.notPermitted
    | .firmware _ => Code.notPermitted
  else match regAt a with
    | none => Code.badAddress
    | some h =>
      firstCode [s.writeScope r h a w,
        if s.writeLocked r h a w then Code.locked else Code.ok,
        if s.selForbids r h.spec.copies then Code.badArg else Code.ok,
        (match r with
          | .principal p => if isTenancy p && contextReg h.spec.reg then s.tenancyWord p h a w else Code.ok
          | _ => Code.ok),
        s.settingCode h a w,
        if h.spec.reg = .TL_FD_LEVEL then s.levelWord_ h a w else Code.ok,
        if s.quiesceBad r h a w then Code.busy else Code.ok,
        s.actionCode r h a w]

/-! ### Effects of a write -/

/-- Store a field at once, in the copies the register has. -/
def State.storeField (s : State) (r : Requester) (c : Copies) (f : FieldAt) (v : Nat) : State :=
  match c with
  | .priv => s.wrB f v
  | .privOwn => s.over (s.ownPlanes r) fun s p => s.wrP p f v
  | _ => s.wr f v

/-- Clear the bits of a W1C field that the word has as 1. -/
def State.clearField (s : State) (r : Requester) (c : Copies) (f : FieldAt) (v : Nat) : State :=
  let off (x : Nat) : Nat := x - (x &&& v)
  match c with
  | .priv => (s.wrP .A f (off (s.rdP .A f))).wrP .B f (off (s.rdP .B f))
  | .privOwn => s.over (s.ownPlanes r) fun s p => s.wrP p f (off (s.rdP p f))
  | _ => s.wr f (off (s.rd f))

/-- The plain effect of one field of a written word (R13, R15). `carry`: its F-class fields go with a state request. -/
def State.putField (s : State) (r : Requester) (h : RegHit) (a w : Nat) (carry : Bool) (f : FieldSpec) : State :=
  let v := (f.loc a).get w
  match f.acc with
  | .rw =>
    if h.spec.reg = .TL_CAL_HTR ∧ f.lo = 22 then s.addShadow (R.TL_HTR_CFG_TRIM (h.i 0) (h.i 1)) v false
    else if h.spec.reg = .CTX_OUT ∧ f.lo = 9 then s
    -- the read pointer moves with its action, which looks at where it stands
    else if h.spec.reg = .CAP_RPTR ∨ h.spec.reg = .RSP_RPTR then s
    else if f.cls = .framed then (if carry then s else s.addShadow (f.loc a) v h.spec.copies.isPriv)
    else s.storeField r h.spec.copies (f.loc a) v
  | .w1c => if f.cls = .framed then s else s.clearField r h.spec.copies (f.loc a) v
  | _ => s

def State.setSel (s : State) (r : Requester) (v : Nat) : State :=
  s.setReg fun g => { g with planeSel := g.planeSel.filter (fun x => !decide (x.1 = r)) ++ [(r, v % 4)] }

/-- FC_CTRL.CLEAR_FIRST (R377). -/
def State.clearFirst (s : State) : State := { s with faults := { s.faults with first := none } }

/-- FC_ACK (R381): the next round refills the slot. -/
def State.ackSlot (s : State) (k : Nat) : State := { s with faults := { s.faults with acks := s.faults.acks ++ [k] } }

/-- FC_UNFENCE.GO, accepted. -/
def State.askUnfence (s : State) (unit index : Nat) : State :=
  { s with faults := { s.faults with unfence := s.faults.unfence ++ [(unit, index)] } }

/-- A remap that awaits the next commit (R48). -/
def State.askRemap (s : State) (k : Nat) (alt : Bool) : State :=
  { s with route := { s.route with remapPending := s.route.remapPending.filter (·.1 != k) ++ [(k, alt)] } }

/-- A lane that is held down loses its locks. -/
def State.dropLink (s : State) (l : Nat) : State := s.setWord (A.LK_STATUS l) 0

/-- The units whose latch a W1C word clears: `per` units of a tile, 32 a word. -/
def latchedBits (tile word per w : Nat) : List Nat := (onesBelow 32 w).map fun b => per * tile + 32 * word + b

/-- The action of a written word, after its fields. -/
def State.writeAction (s : State) (r : Requester) (h : RegHit) (w : Nat) : State :=
  let i := h.i 0
  let when_ (b : Nat) (f : State → State) (s : State) : State := if w.testBit b then f s else s
  match h.spec.reg with
  | .GL_PLANE_SEL => s.setSel r w
  | .RT_REMAP => s.askRemap (R.RT_REMAP_LOGICAL.get w) (w.testBit 31)
  | .CAP_RPTR => s.writeRptr i w
  | .RSP_RPTR => s.writeRptr (32 + i) w
  | .CAP_CTRL => s.updChan i fun c => { c with by_ := match r with | .principal p => if isTenancy p then some p else none | _ => none }
  | .RSP_CTRL => s.updChan (32 + i) fun c => { c with by_ := match r with | .principal p => if isTenancy p then some p else none | _ => none }
  | .HKA_CTRL => when_ 0 State.requestHkaCal s
  | .HKA_INJECT => (s.inject (R.HKA_INJECT_CHANNEL.get w) (R.HKA_INJECT_TAG.get w) none).1
  | .TL_HTR_OFF => s.setAct fun x => { x with htrRelease := x.htrRelease ++ latchedBits i (h.i 1) 256 w }
  | .TL_FD_OFF => s.setAct fun x => { x with fdRelease := x.fdRelease ++ latchedBits i (h.i 1) 128 w }
  | .TL_CAL_CTRL => when_ 28 (·.requestTia i) (when_ 31 (·.requestRun i) s)
  | .CAL_CTRL => when_ 31 (·.requestCals (List.range 80) true) s
  | .SV_CTRL => when_ 30 State.sweepAbort (when_ 31 State.sweepStart s)
  | .ST_CTRL =>
    let both (f : State → Nat → State) (s : State) : State := f (f s i) (8 + i)
    when_ 1 (both State.commandTrigger) (when_ 0 (both State.armGen) (when_ 2 (both State.haltGen) s))
  | .MT_CTRL =>
    let start (s : State) : State := s.over (s.ownPlanes r) fun s p => s.mtStart p s.pl.ret.isNone s.pw.wake.isNone
    let abort (s : State) : State := s.over (s.ownPlanes r) State.mtAbort
    when_ 30 abort (when_ 31 start s)
  | .PL_CTRL => when_ 31 State.returnPlane s
  | .FT_CTRL => when_ 28 State.captureTime (when_ 29 (·.setTime fun x => { x with alignReq := true }) s)
  | .FT_TD_INCR_LO => s.writeRate i (s.rd (R.FT_TD_INCR_HI_INCR i) * 2 ^ 32 + w)
  | .FT_TD_SET_SEC_HI => s.updDomain i fun x => { x with secHi := w % 65536 }
  | .FT_TD_SET_SEC_LO => s.updDomain i fun x => { x with secLo := w }
  | .FT_TD_SET_NS => s.writeSet i w
  | .FT_TD_ADJ => s.writeAdjust i (signed 32 w)
  | .FC_CTRL => when_ 31 State.clearFirst s
  | .FC_ACK => when_ 1 (·.ackSlot 1) (when_ 0 (·.ackSlot 0) s)
  | .FC_UNFENCE => when_ 31 (·.askUnfence (R.FC_UNFENCE_UNIT.get w) (R.FC_UNFENCE_INDEX.get w)) s
  | .BT_CTRL => when_ 31 (·.askReboot (w % 4)) s
  | .BT_NOR_CTRL => when_ 31 (·.norStart (R.BT_NOR_CTRL_OP.get w) (s.word A.BT_NOR_ADDR) (norLength w)) s
  | .LK_CFG => if w.testBit 31 then s else s.dropLink i
  | .ATTIC_PROV => s.writeProv i w
  | .ATTIC_PROV_GO => when_ 0 State.provGo s
  | _ => s

/-- One written word. A write of a high half is held; the low half takes it along; any other write of the requester drops it. -/
def State.writeOne (s : State) (r : Requester) (carry : Nat → Bool) (a w : Nat) : State :=
  if inCapture a then (s.setCapBytes (a - 0x2000000) (le 4 w)).dropHeld r
  else match regAt a with
    | none => s
    | some h =>
      if heldReg h.spec.reg then (s.dropHeld r).setReg fun g => { g with heldHi := g.heldHi ++ [(r, a, w)] }
      else
        let c := contextReg h.spec.reg && carry (h.i 0)
        let s := match hiOf h a with
          | some b => match s.heldWrite r b, regAt b with
            | some v, some g => g.spec.fields.foldl (fun (s : State) f => s.putField r g b v false f) s
            | _, _ => s
          | none => s
        -- the mode in force stays until the next boundary (R206)
        let s := if h.spec.reg = .TL_HTR_CFG then s.noteMode (256 * h.i 0 + h.i 1) else s
        let s := h.spec.fields.foldl (fun (s : State) f => s.putField r h a w c f) (s.dropHeld r)
        s.writeAction r h w

/-! ### State requests (R153) -/

/-- The contexts whose STATE a list of written words would change. -/
def State.requested (s : State) (l : List (Nat × Nat)) : List (Nat × Nat) :=
  l.filterMap fun x =>
    match regAt x.1 with
    | some h =>
      let v := (R.CTX_OUT_STATE (h.i 0)).get x.2
      if h.spec.reg = .CTX_OUT ∧ v ≠ s.shownState (h.i 0) then some (h.i 0, v) else none
    | none => none

/-- The fields of a class that the words write in context n. -/
def classFields (n : Nat) (cls : FieldClass) (l : List (Nat × Nat)) : List (FieldAt × Nat) :=
  l.flatMap fun x =>
    match regAt x.1 with
    | some h =>
      if contextReg h.spec.reg ∧ h.i 0 = n then
        (h.spec.fields.filter fun f => f.acc == .rw && f.cls == cls && !(h.spec.reg == .CTX_OUT && f.lo == 9)).map fun f =>
          (f.loc x.1, (f.loc x.1).get x.2)
      else []
    | none => []

/-- The state request a write makes: its F-class fields, and what its Q-class fields held. -/
def State.makeRequest (s before : State) (r : Requester) (head : Option CmdHead) (opcode : Nat) (l : List (Nat × Nat)) (x : Nat × Nat) :
    State :=
  s.request {
    ctx := x.1, state := x.2, head := head, opcode := opcode, owner := s.ownerLike r,
    writes := classFields x.1 .framed l,
    undo := (classFields x.1 .quiesced l).map fun f => (f.1, before.rdP before.active f.1),
    since := s.now }

/-! ### An access -/

/-- Does a written word change the guard or a Primer entry; the lane of a transmit window. -/
def guardWord (a : Nat) : Bool := match regAt a with | some h => guardReg h.spec.reg | none => false
def windowLane (a : Nat) : Option Nat := match regAt a with | some h => if h.spec.reg = .LK_TXWIN then some (h.i 0) else none | none => none

/-- The checks that look at what the whole access brings: Primer entries against the guard (R218), transmit windows (R266). -/
def State.afterCode (s : State) (l : List (Nat × Nat)) : Nat :=
  let t := s.ahead
  if (l.any fun x => guardWord x.1) && !t.primerFits then Code.guardPrimer
  else if (l.filterMap fun x => windowLane x.1).any fun k => !t.txwinOk k then Code.badArg
  else Code.ok

/-- The words take effect. -/
def State.applyWords (s : State) (r : Requester) (head : Option CmdHead) (opcode : Nat) (l : List (Nat × Nat)) : State :=
  let reqs := s.requested l
  let t := s.over l fun s x => s.writeOne r (fun n => reqs.any (·.1 == n)) x.1 x.2
  t.over reqs fun t x => t.makeRequest s r head opcode l x

/-- What a refusal leaves behind: a refused firmware write is counted (R334), a refused NOR operation shows (R433). -/
def State.noteRefused (s : State) (r : Requester) (code : Nat) (l : List (Nat × Nat)) : State :=
  let s := match r with
    | .firmware _ => if code = Code.notPermitted ∨ code = Code.locked then s.bump R.PR_STATUS_FW_REFUSED 1 else s
    | _ => s
  if l.any fun x => x.1 == A.BT_NOR_CTRL && x.2.testBit 31 then s.wr R.BT_NOR_CTRL_REFUSED 1 else s

/-- A write of words from address a on: refused as a whole with the first refusal, or carried out (R256, R439). The flag says that
it makes a state request, which answers its command at the boundary. -/
def State.writeMany (s : State) (r : Requester) (head : Option CmdHead) (opcode a : Nat) (data : List Nat) : Nat × Bool × State :=
  let l := (wordsAt a data.length).zip data
  let code := firstCode (l.map fun x => s.writeCode r x.1 x.2)
  if code ≠ Code.ok then (code, false, s.noteRefused r code l)
  else
    let t := s.applyWords r head opcode l
    let after := t.afterCode l
    if after ≠ Code.ok then (after, false, s.noteRefused r after l)
    else (Code.ok, !(s.requested l).isEmpty, t)

/-- The words bring an F-class field: the command completes at the next boundary (R100). -/
def framedWrite (a : Nat) (data : List Nat) : Bool :=
  (wordsAt a data.length).any fun a => match regAt a with | some h => h.spec.fields.any fun f => f.cls == .framed && f.acc != .ro | none => false

end Sys2Proof.Machine
end

