-- ==== Sys2Proof/Machine/Commands.lean ====
section
/-! DEFINITION. Machine/Commands.lean: what each Kolrok command does when it takes effect (R256), over the operations of the chapters,
and the beginning, posting and deferral of route requests (R53). -/

namespace Sys2Proof.Machine

open Sys2Proof

/-! ### PING, FENCE (R100, R101) -/

def State.cmdPing (s : State) (h : CmdHead) : State := s.answer h 0x01 Code.ok

/-- The sequence numbers of a principal's commands that are not complete: queued ones and those in flight (R100). -/
def State.incomplete (s : State) (p : Nat) : List Nat :=
  ((s.sched.flights.filter fun f => f.principal == p).map fun f => f.cseq) ++
    (s.sched.queues.flatMap (·.items)).filterMap fun q => if q.head.principal = p then some q.head.cseq else none

/-- A FENCE is complete when every earlier command of its stream is. -/
def State.fenceDone (s : State) (f : Nat × Nat × Nat) : Bool := !(s.incomplete f.1).any fun x => x < f.2.1

/-- Answer the FENCE commands that have become complete. -/
def State.settleFences (s : State) : State :=
  let done := s.sched.fences.filter s.fenceDone
  let s := { s with sched := { s.sched with fences := s.sched.fences.filter fun f => !decide (f ∈ done) } }
  s.over done fun s f => s.answerAt f.2.2 ⟨f.1, f.2.1, 0⟩ 0x03 Code.ok []

def State.cmdFence (s : State) (h : CmdHead) : State :=
  ({ s with sched := { s.sched with fences := s.sched.fences ++ [(h.principal, h.cseq, s.now)] } }).settleFences

/-! ### READ and WRITE, contexts, guard fields (R256, R149, R153, R213) -/

def wordBytes (l : List Nat) : List Nat := l.flatMap (be 4)

def State.cmdRead (s : State) (h : CmdHead) (addr words : Nat) : State :=
  if words = 0 ∨ 64 < words then s.answer h 0x04 Code.badArg
  else
    let (code, l, s) := s.readMany (.principal h.principal) none addr words
    s.answer h 0x04 code (if code = Code.ok then wordBytes l else [])

/-- The write of a command ends: refused, answered at the boundary with its state request, complete at the boundary that applies it,
or complete. -/
def State.endWrite (s : State) (h : CmdHead) (opcode : Nat) (framed : Bool) (r : Nat × Bool × State) : State :=
  if r.1 ≠ Code.ok then r.2.2.answer h opcode r.1
  else if r.2.1 then r.2.2
  else if framed then
    let upd (f : Flight) : Flight :=
      if f.principal = h.principal ∧ f.cseq = h.cseq then { f with until_ := s.clk.frame + 1 } else f
    ({ r.2.2 with sched := { r.2.2.sched with flights := r.2.2.sched.flights.map upd } }).answer h opcode Code.ok
  else r.2.2.answer h opcode Code.ok

def State.cmdWrite (s : State) (h : CmdHead) (addr : Nat) (data : List Nat) : State :=
  if data.isEmpty then s.answer h 0x05 Code.badArg
  else s.endWrite h 0x05 (framedWrite addr data) (s.writeMany (.principal h.principal) (some h) 0x05 addr data)

/-- A write that reaches both copies whatever the plane select says (R149, R438). -/
def State.writeBoth (s : State) (r : Requester) (h : CmdHead) (opcode addr : Nat) (data : List Nat) : Nat × Bool × State :=
  let sel := s.planeSel r
  let (code, req, t) := (s.setSel r 3).writeMany r (some h) opcode addr data
  (code, req, t.setSel r sel)

def ctxAddr (n word : Nat) : Nat := 0x1000000 + 64 * n + 4 * word

def State.cmdCtxRead (s : State) (h : CmdHead) (ctx first words : Nat) : State :=
  if 40960 ≤ ctx ∨ words = 0 ∨ 16 < first + words then s.answer h 0x20 Code.badArg
  else
    let (code, l, s) := s.readMany (.principal h.principal) (some s.active) (ctxAddr ctx first) words
    s.answer h 0x20 code (if code = Code.ok then wordBytes l else [])

def State.cmdCtxWrite (s : State) (h : CmdHead) (ctx first : Nat) (data : List Nat) : State :=
  if 40960 ≤ ctx ∨ data.isEmpty ∨ 16 < first + data.length then s.answer h 0x21 Code.badArg
  else
    let a := ctxAddr ctx first
    s.endWrite h 0x21 (framedWrite a data) (s.writeBoth (.principal h.principal) h 0x21 a data)

/-- CTX_STATE: a state request of its own; a STATE that the field shows already makes none (R153). -/
def State.cmdCtxState (s : State) (h : CmdHead) (ctx st : Nat) : State :=
  if 40960 ≤ ctx ∨ 4 < st then s.answer h 0x22 Code.badArg
  else if isTenancy h.principal && !s.ownsCtx h.principal ctx then s.answer h 0x22 Code.badAddress
  else if st = s.shownState ctx then s.answer h 0x22 Code.ok
  else s.request {
    ctx := ctx, state := st, head := some h, opcode := 0x22, owner := h.principal == 30, writes := [], undo := [], since := s.now }

/-- The offsets of a tile block that hold its guard fields, its Primer entries. -/
def guardOffset (a : Nat) : Bool :=
  match regAt a with
  | some h => match h.spec.reg with
    | .TL_GUARD_HTR_A => true | .TL_GUARD_HTR_B => true | .TL_GUARD_FD_A => true | .TL_GUARD_FD_B => true
    | .TL_GUARD_TILE => true
    | _ => false
  | none => false
def primerOffset (a : Nat) : Bool :=
  match regAt a with
  | some h => match h.spec.reg with | .TL_PRIMER_HTR => true | .TL_PRIMER_FD => true | _ => false
  | none => false

/-- GUARD_WRITE, PRIMER_WRITE: one word of a tile block. -/
def State.cmdTileWrite (s : State) (h : CmdHead) (opcode : Nat) (fits : Nat → Bool) (tile offset value : Nat) : State :=
  let a := 0x100000 + 0x10000 * tile + offset
  if 80 ≤ tile then s.answer h opcode Code.badArg
  else if !fits a then s.answer h opcode Code.badAddress
  else s.endWrite h opcode (framedWrite a [value]) (s.writeBoth (.principal h.principal) h opcode a [value])

def State.cmdGuardWrite (s : State) (h : CmdHead) (tile offset value : Nat) : State :=
  s.cmdTileWrite h 0x28 guardOffset tile offset value
def State.cmdPrimerWrite (s : State) (h : CmdHead) (tile offset value : Nat) : State :=
  s.cmdTileWrite h 0x29 primerOffset tile offset value

/-! ### The other owner commands -/

/-- REMAP is RT_REMAP by another way (R48). -/
def State.cmdRemap (s : State) (h : CmdHead) (logical useAlt : Nat) : State :=
  if 1 < useAlt ∨ 16383 < logical then s.answer h 0x16 Code.badArg
  else s.endWrite h 0x16 false (s.writeBoth (.principal h.principal) h 0x16 A.RT_REMAP [useAlt * 2 ^ 31 + logical])

/-- PRIMER_APPLY and TILE_RESUME name tiles 0 to 79. -/
def State.cmdPrimerTiles (s : State) (h : CmdHead) (tiles : Nat) : State :=
  if 2 ^ 80 ≤ tiles then s.answer h 0x2A Code.badArg else s.cmdPrimerApply h tiles
def State.cmdResumeTiles (s : State) (h : CmdHead) (tiles : Nat) : State :=
  if 2 ^ 80 ≤ tiles then s.answer h 0x2B Code.badArg else s.cmdTileResume h tiles

/-- CALIBRATE: the tiles named, bit 80 the HKA; FLAGS [4] ALL names them all. A fenced HKA answers BUSY (R383). -/
def State.cmdCalibrate (s : State) (h : CmdHead) (tiles : Nat) : State :=
  let hka := h.flags.testBit 4 || tiles.testBit 80
  if 2 ^ 81 ≤ tiles then s.answer h 0x31 Code.badArg
  else if hka && s.hkaFenced then s.answer h 0x31 Code.busy
  else (s.requestCals (if h.flags.testBit 4 then List.range 80 else onesBelow 80 tiles) hka).answer h 0x31 Code.ok

/-- STENCIL_START: the command trigger of both planes' generator (R184). A fenced one answers BUSY (R383). -/
def State.cmdStencilStart (s : State) (h : CmdHead) (gen : Nat) : State :=
  if 8 ≤ gen then s.answer h 0x32 Code.badArg
  else if s.genFenced gen || s.genFenced (8 + gen) then s.answer h 0x32 Code.busy
  else ((s.commandTrigger gen).commandTrigger (8 + gen)).answer h 0x32 Code.ok

/-- MODE (R5): lock 7 fixes the mode (R324), SEALED has its conditions (R331); FRAME 0 is the next boundary. -/
def State.cmdMode (s : State) (h : CmdHead) (mode frame : Nat) : State :=
  match Mode.ofCode? mode with
  | none => s.answer h 0x38 Code.badArg
  | some m =>
    if s.locked 7 then s.answer h 0x38 Code.locked
    else if frame ≠ 0 ∧ frame ≤ s.clk.frame then s.answer h 0x38 Code.badArg
    else if decide (m = .sealed) && !s.sealedOk then s.answer h 0x38 Code.modeRefused
    else ({ s with modeNext := some (m, if frame = 0 then s.clk.frame + 1 else frame) }).answer h 0x38 Code.ok

/-! ### Route requests (R53) -/

def State.setRoute (s : State) (f : Route → Route) : State := { s with route := f s.route }

/-- The request a route command makes. A STAGE entry in DIRECT topology is ELEMENT (2), STATE (1), res (1). -/
def State.routeReq (s : State) (h : CmdHead) (c : Cmd) : RouteReq :=
  let direct := s.fabric.topology == 2
  let base : RouteReq := {
    principal := h.principal, cseq := h.cseq, flags := h.flags, cmd := c, entries := [], replace := false, disconnect := false,
    elements := false, since := s.now }
  match c with
  | .connect i j => { base with entries := [(i, j)] }
  | .disconnect i j => { base with entries := [(i, j)], disconnect := true }
  | .setElement e st => { base with entries := [(e, st)], elements := true }
  | .stage _ _ _ entries =>
    { base with
      entries := if direct then entries.map fun e => (e.1, e.2 / 256 + e.2 % 256 * 256) else entries
      replace := h.flags.testBit 4, elements := direct }
  | _ => base

/-- A route request begins: in the next incremental posting or as a full routing. Admission points: a + 1,664 FCLK is 13 of them. -/
def State.cmdRoute (s : State) (h : CmdHead) (c : Cmd) : State :=
  let r := s.routeReq h c
  if s.rdP s.active R.RT_CTRL_HALT = 1 then s.answerRoute r Code.routeHalted 0 0
  else if r.isFull then s.setRoute fun x => { x with full := some r, fullSince := s.now, freeAt := s.now + 13 }
  else s.setRoute fun x => { x with begun := x.begun ++ [r] }

/-- Post a result, and begin the commit that the COMMIT flag implies (R252). -/
def State.postResult (s : State) (r : RouteReq) (at_ : Nat) (res : RouteResult) : State :=
  let s := s.post r at_ res
  match res with
  | .posted _ _ => if r.flags.testBit 6 then s.impliedCommit r else s
  | _ => s

/-- The least margin of a plane's engine in the running second (RT_MARGIN, R57). -/
def State.noteRouteMargins (s : State) (full : Bool) (l : List (Plane × Nat)) : State :=
  s.over l fun s x =>
    let old := (s.route.margins.find? fun m => m.1 == x.1 && m.2.1 == full).map (·.2.2)
    s.setRoute fun y => { y with
      margins := (y.margins.filter fun m => !(m.1 == x.1 && m.2.1 == full)) ++ [(x.1, full, min x.2 (old.getD x.2))] }

/-- INCREMENTAL_POST: the requests that began at the latest admission point post in release order. `late` names the requests that a
plane's engine has not completed (R57), `margins` is what the planes had left. -/
def State.incrementalPost (s : State) (late : List (Nat × Nat × Plane)) (margins : List (Plane × Nat)) : State :=
  if s.route.begun.isEmpty then s
  else
    let reqs := s.route.begun
    let s := (s.noteRouteMargins false margins).setRoute fun x => { x with begun := [] }
    let s := s.over reqs fun s r =>
      let mine := (late.filter fun x => x.1 == r.principal && x.2.1 == r.cseq).map (·.2.2)
      let s := s.timeouts r mine
      let at_ := s.now * 128 + 112
      if s.allLate mine then s.postResult r at_ (.refused Code.routeTimeout 0 none)
      else s.postResult r at_ (s.runRequest r false)
    s.tryAll

/-- FULL_ROUTING_POST: the running full routing posts at 1,600 FCLK after its start. -/
def State.fullPost (s : State) (late : List Plane) (margins : List (Plane × Nat)) : State :=
  match s.route.full with
  | none => s
  | some r =>
    if s.now < s.route.fullSince + 12 then s else
    let s := (s.noteRouteMargins true margins).setRoute fun x => { x with full := none }
    let s := s.timeouts r late
    let at_ := s.route.fullSince * 128 + 1600
    let s := if s.allLate late then s.postResult r at_ (.refused Code.routeTimeout 0 none)
      else s.postResult r at_ (s.runRequest r true)
    s.tryAll

/-- DEFERRED_ROUTING_START: a deferred request starts its full routing at the admission point after it began, as the only route
request there (R53). -/
def State.deferredStart (s : State) : State :=
  match s.route.deferred with
  | [] => s
  | r :: rest =>
    if s.route.full.isSome || s.now < s.route.freeAt || s.now ≤ r.since then s
    else s.setRoute fun x => { x with full := some r, fullSince := s.now, freeAt := s.now + 13, deferred := rest }

/-! ### All of them -/

/-- What a command does when it takes effect. -/
def State.runCmd (s : State) (h : CmdHead) (c : Cmd) : State :=
  match c with
  | .ping => s.cmdPing h
  | .summary challenge => s.cmdSummary h challenge
  | .fence => s.cmdFence h
  | .read addr words => s.cmdRead h addr words
  | .write addr data => s.cmdWrite h addr data
  | .connect .. => s.cmdRoute h c
  | .disconnect .. => s.cmdRoute h c
  | .stage .. => s.cmdRoute h c
  | .setElement .. => s.cmdRoute h c
  | .commit kind chip token mask frame => (s.cmdCommit h kind chip token mask frame).tryAll
  | .abort sFrame sChip => s.cmdAbort h sFrame sChip
  | .remap logical useAlt => s.cmdRemap h logical useAlt
  | .ctxRead ctx first words => s.cmdCtxRead h ctx first words
  | .ctxWrite ctx first data => s.cmdCtxWrite h ctx first data
  | .ctxState ctx st => s.cmdCtxState h ctx st
  | .guardWrite tile offset value => s.cmdGuardWrite h tile offset value
  | .primerWrite tile offset value => s.cmdPrimerWrite h tile offset value
  | .primerApply tiles => s.cmdPrimerTiles h tiles
  | .tileResume tiles => s.cmdResumeTiles h tiles
  | .hkaInject channel tag => s.cmdInject h channel tag
  | .calibrate tiles => s.cmdCalibrate h tiles
  | .stencilStart gen => s.cmdStencilStart h gen
  | .mode mode frame => s.cmdMode h mode frame
  | .power state => s.cmdPower h state
  | .drill frame => s.cmdDrill h frame
  | .reboot slot => s.cmdReboot h slot
  | .protectArm body => s.cmdProtectArm h body
  | .protectCommit armId digest frame => s.cmdProtectCommit h armId digest frame
  | .keyInstall principal which wrapped => s.cmdKeyInstall h principal which wrapped
  | .keyRoll principal frame => s.cmdKeyRoll h principal frame
  | .forward pos frame => s.cmdForward h pos frame

end Sys2Proof.Machine
end

