-- ==== Sys2Proof/Machine/Sched.lean ====
section
/-! DEFINITION. Machine/Sched.lean: chapter 11: metering, the checks at admission, the queues, the release rounds by virtual-time tags,
SEALED service, the statistics; and the admission point itself (R27). -/

namespace Sys2Proof.Machine

open Sys2Proof

def State.setSched (s : State) (f : Sched → Sched) : State := { s with sched := f s.sched }
def State.updQueue (s : State) (q : Nat) (f : Queue → Queue) : State :=
  s.setSched fun x => { x with queues := x.queues.modify q f }

/-- The device's clocks make admission points and boundaries: not in reset, OFF or DEEP SLEEP, not after TRIP_HALT, not in an alignment
gap (R297). -/
def State.clocked (s : State) : Bool :=
  !(decide (s.boot.phase = .reset) || decide (s.boot.phase = .off) || decide (s.power = .deepSleep) || s.therm.halted ||
    s.time.aligning)

/-! ### Settings: 0 acts as 1 in weights, SLOT_COST and YELLOW_HOLD (chapter 11, registers) -/

def State.slotCost (s : State) : Nat := max 1 (s.rd R.SCH_CTRL_SLOT_COST)
def State.yellowHold (s : State) : Nat := max 1 (s.rd R.SCH_CTRL_YELLOW_HOLD)
def State.weight (s : State) (q : Nat) : Nat :=
  max 1 (if q = 32 then s.rd R.SCH_CTRL_OWNER_WEIGHT
    else s.rd (if q % 2 = 0 then R.SCH_QCFG_W_CTRL (q / 2) else R.SCH_QCFG_W_BULK (q / 2)))

/-- The depth limit of a queue (R273): 0 and values above 64 act as 64. -/
def State.depthLimit (s : State) (q : Nat) : Nat :=
  if q = 32 then 256
  else
    let d := s.rd (if q % 2 = 0 then R.SCH_QCFG_DEPTH_CTRL (q / 2) else R.SCH_QCFG_DEPTH_BULK (q / 2))
    if d = 0 ∨ 64 < d then 64 else d

/-- The queue of a command (R273, R274). -/
def queueOf (p : Nat) (c : Cmd) : Nat := if isTenancy p then 2 * p + b01 (isBulk c) else 32

/-! ### Metering (R275, R276) -/

/-- The bursts of TC and TP in 1/64 cost units. -/
def State.burstC (s : State) (t c : Nat) : Nat := 64 * s.rd (R.SCH_METER_BURST_CBS t c)
def State.burstP (s : State) (t c : Nat) : Nat := 64 * max (s.rd (R.SCH_METER_BURST_PBS t c)) (s.rd (R.SCH_METER_BURST_CBS t c))

def State.refillMeter (s : State) (t c : Nat) : State :=
  let cir := s.rd (R.SCH_METER_RATE_CIR t c)
  let pir := max (s.rd (R.SCH_METER_RATE_PIR t c)) cir
  (s.wr (R.SCH_METER_TC_TOKENS t c) (min (s.burstC t c) (s.rd (R.SCH_METER_TC_TOKENS t c) + cir))).wr
    (R.SCH_METER_TP_TOKENS t c) (min (s.burstP t c) (s.rd (R.SCH_METER_TP_TOKENS t c) + pir))

/-- The refill of every meter at an admission point, before any metering. -/
def State.refillMeters (s : State) : State :=
  s.over (List.range 16) fun s t => (s.refillMeter t 0).refillMeter t 1

/-- The colour of a command of cost k: 0 green, 1 yellow, 2 red. -/
def State.colour (s : State) (t c k : Nat) : Nat × State :=
  let tc := s.rd (R.SCH_METER_TC_TOKENS t c)
  let tp := s.rd (R.SCH_METER_TP_TOKENS t c)
  if tp < 64 * k then (2, s)
  else
    let s := s.wr (R.SCH_METER_TP_TOKENS t c) (tp - 64 * k)
    if tc < 64 * k then (1, s) else (0, s.wr (R.SCH_METER_TC_TOKENS t c) (tc - 64 * k))

/-- A command refused by a check that precedes RATE_REFUSED is charged one unit to the control meter (R274). -/
def State.chargeRefused (s : State) (p : Nat) : State := if isTenancy p then (s.colour p 0 1).2 else s

/-- Meter a tenancy's command and show its colour; the owner queue has no meter. -/
def State.meter (s : State) (p : Nat) (c : Cmd) (cost : Nat) : Nat × State :=
  if isTenancy p then
    let k := b01 (isBulk c)
    let (col, s) := s.colour p k cost
    (col, s.wr (if k = 0 then R.SCH_QSTAT_COLOUR_CTRL p else R.SCH_QSTAT_COLOUR_BULK p) col)
  else (0, s)

/-- Where new bursts are lower than the tokens held, the tokens are clamped (R276). -/
def State.clampMeters (s : State) : State :=
  s.over (List.range 32) fun s i =>
    let t := i / 2
    let c := i % 2
    let s := if s.burstC t c < s.rd (R.SCH_METER_TC_TOKENS t c) then s.wr (R.SCH_METER_TC_TOKENS t c) (s.burstC t c) else s
    if s.burstP t c < s.rd (R.SCH_METER_TP_TOKENS t c) then s.wr (R.SCH_METER_TP_TOKENS t c) (s.burstP t c) else s

/-! ### STAGE parts (R257) -/

/-- The entries of the STAGE that this part would complete; 0 for another part. -/
def stageTotal (a : Option Assembly) (flags id part parts entries : Nat) : Nat :=
  match a with
  | none => if parts = 1 ∧ part = 0 then entries else 0
  | some a =>
    if id ≠ a.id ∨ parts ≠ a.parts ∨ flags ≠ a.flags ∨ parts ≤ part ∨ (a.held.any fun h => h.1 == part) ∨ a.held.length + 1 < parts then 0
    else entries + (a.held.map fun h => h.2.2.length).foldl (· + ·) 0

/-- Take a part: its status code, and the whole STAGE when it completes one: the stream position is that of the part with the
highest sequence number. -/
def State.stagePart (s : State) (h : CmdHead) (id part parts : Nat) (entries : List (Nat × Nat)) :
    Nat × Option (CmdHead × Cmd) × State :=
  match (s.prin h.principal).assembly with
  | some a =>
    if id ≠ a.id then (Code.stageBusy, none, s)
    else if parts ≠ a.parts ∨ h.flags ≠ a.flags ∨ parts ≤ part ∨ (a.held.any fun x => x.1 == part) then (Code.badArg, none, s)
    else
      let held := a.held ++ [(part, h.cseq, entries)]
      if held.length < parts then
        (Code.partHeld, none, s.updPrin h.principal fun x => { x with assembly := some { a with held := held } })
      else
        let seq := held.foldl (fun m x => max m x.2.1) 0
        let all := (sortBy (fun x => x.1) held).flatMap fun x => x.2.2
        (Code.ok, some ({ h with cseq := seq }, .stage id part parts all),
          s.updPrin h.principal fun x => { x with assembly := none })
  | none =>
    if parts = 0 ∨ 4 < parts ∨ parts ≤ part then (Code.badArg, none, s)
    else if parts = 1 then (Code.ok, some (h, .stage id part parts entries), s)
    else
      (Code.partHeld, none, s.updPrin h.principal fun x => { x with assembly := some {
        id := id, parts := parts, flags := h.flags, firstCseq := h.cseq
        firstFrame := divUp s.now 64, held := [(part, h.cseq, entries)] } })

/-- STAGE_EXPIRED (R257): 1,000 frames after its first part was admitted an assembly is discarded and its principal told. -/
def State.stageExpire (s : State) (p : Nat) : State :=
  match (s.prin p).assembly with
  | some a =>
    if s.clk.frame < a.firstFrame + 1000 then s
    else (s.updPrin p fun x => { x with assembly := none }).notice p 0x89 Code.stageIncomplete a.firstCseq
      (be 2 a.id ++ [a.held.length, a.parts])
  | none => s

/-! ### Admission (R259, R27) -/

/-- Does a route command carry the COMMIT flag, and so act as its own COMMIT (R78)? -/
def ownCommit (op flags : Nat) : Bool := (0x10 ≤ op && op ≤ 0x13) && flags.testBit 6

/-- The checks that precede metering (R259): the first failing one gives its code. -/
def State.admitCode (s : State) (p epoch op flags : Nat) (body : List Nat) : Nat :=
  let bare := isTenancy p && ((op == 0x02 && flags.testBit 0 && !s.on (R.PR_TEN_CFG_ATTEST p)) ||
    (op == 0x21 && !s.on (R.PR_TEN_CFG_CTX_WRITE p)) || (op == 0x22 && !s.on (R.PR_TEN_CFG_CTX_STATE p)))
  if (parseBody op body).isNone then Code.badOpcode
  else if !lengthOk op flags body then Code.badLength
  else if isTenancy p && (ownerOnly op flags || bare) then Code.notPermitted
  else if epoch ≠ s.epoch p ∧ !epochFree op then Code.epochStale
  else if isTenancy p && s.isMode .survey then Code.modeRefused
  else Code.ok

/-- Has a COMMIT or FENCE passed the command's stream position (R102)? -/
def State.passedCode (s : State) (p cseq op : Nat) : Nat :=
  let l := s.prin p
  if cseq < l.fenceSeq then Code.fencePassed
  else if cseq < l.commitSeq ∧ (op = 0x10 ∨ op = 0x11 ∨ op = 0x12) then Code.commitPassed
  else Code.ok

/-- A command joins its queue; a waking queue never starts in the past (R278). -/
def State.enqueue (s : State) (q : Nat) (c : QCmd) : State :=
  let v := s.sched.vtime
  let s := s.updQueue q fun x =>
    { x with items := x.items ++ [c], startTag := if x.items.isEmpty then max v x.finishTag else x.startTag }
  s.updPrin c.head.principal fun x => { x with
    commitSeq := if c.opcode = 0x14 ∨ ownCommit c.opcode c.head.flags then max x.commitSeq c.head.cseq else x.commitSeq
    fenceSeq := if c.opcode = 0x03 then max x.fenceSeq c.head.cseq else x.fenceSeq }

/-- The checks from RATE_REFUSED on, and the queue. -/
def State.admitMetered (s : State) (h : CmdHead) (op : Nat) (body : List Nat) (c : Cmd) : State :=
  let p := h.principal
  let total := match c with
    | .stage id part parts entries => stageTotal (s.prin p).assembly h.flags id part parts entries.length
    | _ => 0
  let cost := costOf c h.flags total
  let (col, s) := s.meter p c cost
  let q := queueOf p c
  let fits (h : CmdHead) (c : Cmd) : QCmd := { head := h, opcode := op, cmd := c, cost := cost, yellow := col == 1, admitted := s.now }
  if col = 2 then (s.bump R.SCH_EVENTS_RED 1).answer h op Code.rateRefused
  else if s.depthLimit q ≤ (s.queue q).items.length then (s.bump R.SCH_EVENTS_QUEUE_FULL 1).answer h op Code.queueFull
  else if 3 ≤ s.throttle ∧ (op = 0x10 ∨ op = 0x12) then (s.bump R.SCH_EVENTS_THROTTLED 1).answer h op Code.throttled
  else if !reservedOk op h.flags body then s.answer h op Code.badArg
  else if s.passedCode p h.cseq op ≠ Code.ok then s.answer h op (s.passedCode p h.cseq op)
  else match c with
    | .stage id part parts entries =>
      match s.stagePart h id part parts entries with
      | (_, some (h', c'), s) =>
        let s := if h'.cseq = h.cseq then s else s.answer h op Code.partHeld
        s.enqueue q (fits h' c')
      | (code, none, s) => s.answer h op code
    | _ => s.enqueue q (fits h c)

/-- Admit one command of an accepted frame. -/
def State.admitCmd (s : State) (epoch : Nat) (h : CmdHead) (op : Nat) (body : List Nat) : State :=
  let code := s.admitCode h.principal epoch op h.flags body
  if code ≠ Code.ok then (s.chargeRefused h.principal).answer h op code
  else match parseBody op body with
    | some c => s.admitMetered h op body c
    | none => s

/-- The commands of an accepted frame, numbered from SEQ. -/
def State.admitFrame (s : State) (f : RxFrame) : State :=
  s.over f.cmds.zipIdx fun s x => s.admitCmd f.epoch ⟨f.principal, f.seq + x.2, x.1.2.1⟩ x.1.1 x.1.2.2

/-- The batch of this admission point: sequence check, then admission in order of principal and sequence number. -/
def State.admitBatch (s : State) : State :=
  let (s, l) := s.takeBatch (sortBy batchKey s.links.offered)
  (s.setLinks fun x => { x with offered := [] }).over l State.admitFrame

/-! ### Eligibility (R277, R101, R53) -/

/-- The contexts and meters that a range of register addresses names. -/
def rangeObjects (addr words : Nat) : List (Nat × Nat) :=
  (wordsAt addr words).filterMap fun a =>
    if 0x1000000 ≤ a ∧ a < 0x1280000 then some (3, (a - 0x1000000) / 64)
    else if 0x40200 ≤ a ∧ a < 0x40400 then some (4, (a - 0x40200) / 16) else none

/-- The objects a command names (R101): ports 0 and 1, elements 2, contexts 3, meters 4, key slots 5. -/
def State.objects (s : State) (c : Cmd) : List (Nat × Nat) :=
  match c with
  | .connect i j => [(0, i), (1, j)]
  | .disconnect i j => [(0, i), (1, j)]
  | .stage _ _ _ entries =>
    if s.fabric.topology = 2 then entries.map fun e => (2, e.1) else entries.flatMap fun e => [(0, e.1), (1, e.2)]
  | .setElement e _ => [(2, e)]
  | .ctxRead n _ _ => [(3, n)]
  | .ctxWrite n _ _ => [(3, n)]
  | .ctxState n _ => [(3, n)]
  | .read addr words => rangeObjects addr (min words 64)
  | .write addr data => rangeObjects addr data.length
  | .keyInstall p _ _ => [(5, p)]
  | .keyRoll p _ => [(5, p)]
  | _ => []

/-- The incomplete commands of a principal with what they hold back: sequence number, opcode, objects. -/
def State.holding (s : State) (p : Nat) : List (Nat × Nat × List (Nat × Nat)) :=
  (((s.sched.flights ++ s.sched.lately).filter fun f => f.principal == p).map fun f => (f.cseq, f.opcode, f.objects)) ++
    (s.sched.queues.flatMap (·.items)).filterMap fun q =>
      if q.head.principal = p then some (q.head.cseq, q.opcode, s.objects q.cmd) else none

/-- May the command begin by R101, as things stand in s? An ORDERED command waits for every earlier one. -/
def State.ordered (s : State) (c : QCmd) : Bool :=
  let mine := s.objects c.cmd
  (s.holding c.head.principal).all fun x =>
    c.head.cseq ≤ x.1 || !(x.2.1 == 0x03 || c.head.flags.testBit 7 || x.2.2.any fun o => decide (o ∈ mine))

/-- May a route request begin at this point (R53)? In SEALED the owner's begins only where the tenancy has begun none (R284). -/
def State.routeOpen (s : State) (c : QCmd) : Bool :=
  if !isRoute c.cmd then true
  else
    let none_ := s.route.begun.isEmpty
    !s.route.full.isSome && s.route.freeAt ≤ s.now && s.route.deferred.isEmpty && s.route.begun.length < 4 &&
      (none_ || !(s.routeReq c.head c.cmd).isFull) &&
      (none_ || !(s.isMode .sealed && c.head.principal == 30))

/-! ### Release (R277 to R279) -/

/-- A YELLOW command not released within YELLOW_HOLD frames of its admission is refused (R279). -/
def State.yellowExpire (s : State) : State :=
  let due (c : QCmd) : Bool := c.yellow && c.admitted + 64 * s.yellowHold ≤ s.now
  let gone := s.sched.queues.flatMap fun q => q.items.filter due
  let s := s.setSched fun x => { x with queues := x.queues.map fun q => { q with items := q.items.filter fun c => !due c } }
  s.over gone fun s c => (s.bump R.SCH_EVENTS_YELLOW_EXPIRED 1).answer c.head c.opcode Code.rateRefused

/-- The head of queue q that this round may serve. -/
def State.servable (s : State) (held : List Nat) (yellow : Bool) (q : Nat) : Option QCmd :=
  if decide (q ∈ held) then none
  else (s.queue q).items.head?.filter fun c => c.yellow == yellow && decide (c.admitted < s.now)

/-- Where a queue stands in a round: its start tag; ties to the owner queue, then the lower tenancy, then control before bulk. -/
def State.roundKey (s : State) (q : Nat) : Nat := (s.queue q).startTag * 64 + (if q = 32 then 0 else q + 1)

/-- Release the head of queue q: tags, flight, effect. -/
def State.release (s : State) (q : Nat) (c : QCmd) : State :=
  let w := s.weight q
  let start := (s.queue q).startTag
  let finish := start + c.cost * 65536 / w
  let s := s.updQueue q fun x =>
    { x with items := x.items.tail, finishTag := finish, startTag := if x.items.tail.isEmpty then start else finish }
  let fl : Flight := { principal := c.head.principal, cseq := c.head.cseq, opcode := c.opcode, objects := s.objects c.cmd }
  let s := s.setSched fun x => { x with vtime := start, flights := x.flights ++ [fl] }
  s.runCmd c.head c.cmd

/-- A round over some queues: what completeness means is judged in `s0`, the start of the point; `budget` may go below 0 once. A
queue found ineligible is held for the rest of the point. -/
def releaseRound (s0 : State) (qs : List Nat) (slot : Int) (yellow : Bool) : Nat → State × Int × List Nat → State × Int × List Nat
  | 0, x => x
  | n + 1, (s, budget, held) =>
    match sortBy s.roundKey (qs.filter fun q => (s.servable held yellow q).isSome) with
    | [] => (s, budget, held)
    | q :: _ =>
      match s.servable held yellow q with
      | none => (s, budget, held)
      | some c =>
        if !(s0.ordered c && s.routeOpen c && s.domainsReady c.cmd) then releaseRound s0 qs slot yellow n (s, budget, q :: held)
        else if budget < c.cost ∧ budget < slot then (s, budget, held)
        else releaseRound s0 qs slot yellow n (s.release q c, budget - c.cost, held)

/-- The green round, then the yellow one, over some queues; 300 turns suffice for 255 releases and 33 held queues. -/
def releaseRounds (s0 : State) (qs : List Nat) (slot : Int) (x : State × Int × List Nat) : State × Int × List Nat :=
  releaseRound s0 qs slot true 300 (releaseRound s0 qs slot false 300 x)

/-- The releases of this admission point. In SEALED tenancy m mod 16 is served first and the owner after it, at the point of a tenancy that
is not enabled the owner alone (R284). -/
def State.releaseAll (s : State) : State :=
  let slot : Int := s.slotCost
  let t := s.clk.point % 16
  if s.isMode .sealed then
    let x : State × Int × List Nat := (s, slot, [])
    let x := if s.enabled t then releaseRounds s [2 * t, 2 * t + 1] slot x else x
    (releaseRounds s [32] slot x).1
  else (releaseRounds s (List.range 33) slot (s, slot, [])).1

/-! ### The admission point (R27) -/

/-- Units that the round has fenced, `before` the word of fences before it: a lane loses its link, a generator halts with STOP_CAUSE =
HALT (R374, R383). -/
def State.unitsFenced (s : State) (before : Nat) : State :=
  let new (b : Nat) : Bool := s.miscFenced b && !before.testBit b
  let s := s.over ((List.range 8).filter new) State.dropLink
  s.over ((List.range 16).filter fun i => new (16 + i)) fun s i =>
    ((s.haltGen i).updGen i fun x => { x with armed := false }).stopGen i 2

/-- The next admission point of the frame has come. -/
def State.toPoint (s : State) : State := { s with clk := { s.clk with point := s.clk.next, next := s.clk.next + 1 } }

/-- The work of an admission point, once the clocks stand at it. -/
def State.pointWork (s : State) (differ : Bool) : State :=
  let s := s.refillMeters.drainRing.admitBatch
  let s := (s.settleFences.yellowExpire.releaseAll.setSched fun x => { x with lately := [] }).settleFences.tryAll
  let fenced := s.word A.FC_FENCED_MISC
  let s := (s.faultRound.unitsFenced fenced).takeResort
  let s := s.returnPower
  let away := differ && s.compares
  let s := if away then s.centralDivergence else s
  s.buildAll away

/-- ADMISSION_POINT: the next point of the frame comes. `differ` says that the planes' digests of the exchange differ (R354). -/
def State.admissionPoint (s : State) (differ : Bool) : State :=
  if !s.clocked || 64 ≤ s.clk.next then s
  else (s.toPoint.timeTo (s.toPoint.now * pointUnit)).pointWork differ

/-! ### Boundary work: the shaper's refill and the statistics (R282, R288) -/

/-- The refill of the thermal buckets, after the F-class writes of the boundary. -/
def State.refillBuckets (s : State) : State :=
  s.over (List.range 97) fun s b =>
    let rate := s.rd (R.SCH_TH_CFG_RATE b)
    let eff := if 1 ≤ s.throttle then rate / 2 else rate
    let top : Int := 1000 * s.rd (R.SCH_TH_CFG_BURST b)
    let old := s.rdS (R.SCH_TH_TOKENS_TOKENS b)
    let new_ := min top (old + 1000 * eff)
    if new_ = old then s else s.wrS (R.SCH_TH_TOKENS_TOKENS b) new_

/-- The bin of a value (R288). -/
def histBin (v : Nat) : Nat := if v = 0 then 0 else min 15 (v.log2 + 1)

/-- Sample every queue. -/
def State.sampleQueues (s : State) : State :=
  s.over (List.range 33) fun s q =>
    let l := (s.queue q).items
    let depth := l.length
    let delay := match l with | [] => 0 | c :: _ => s.now - c.admitted
    let s := (s.bump (R.SCH_HIST_DEPTH q (histBin depth)) 1).bump (R.SCH_HIST_DELAY q (histBin delay)) 1
    (s.wr (R.SCH_HIST_MAX_DEPTH_MAX q) (max (s.rd (R.SCH_HIST_MAX_DEPTH_MAX q)) (min 65535 depth))).wr
      (R.SCH_HIST_MAX_DELAY_MAX q) (max (s.rd (R.SCH_HIST_MAX_DELAY_MAX q)) (min 65535 delay))

end Sys2Proof.Machine
end

