-- ==== Sys2Proof/Machine/Frame.lean ====
section
/-! DEFINITION. Machine/Frame.lean: what comes about at the release deadline and at a frame boundary, in order (R11, R26, R28): the rows
RELEASE_DEADLINE, MODE_APPLY, FRAME_BOUNDARY, and COMMIT_SWITCH, LATE_TILE_APPLY, COMMIT_DONE, TOKEN_LOST. -/

namespace Sys2Proof.Machine

open Sys2Proof

/-! ### RELEASE_DEADLINE (R28, R29) -/

/-- At the deadline of the running frame: `overran` are the tiles with incomplete work, `margins` the frame margins in FCLK, `found` what
the comparators find, `replayed` what still differs in the replays of the frame before. -/
def State.releaseDeadline (s : State) (overran : List Nat) (margins : List (Nat × Nat)) (found replayed : List Mismatch) : State :=
  if !s.clocked || !s.loopsOn || s.loop.ready then s
  else
    let s := s.completeFrame overran
    let s := s.over overran fun s t => ((s.bump (R.TL_LOOP_EVENTS_OVERRUNS t) 1).noteMargin t 0).raise (tileMsg t 0x01 0 0)
    let s := s.over margins fun s m => if m.1 ∈ overran then s else s.noteMargin m.1 m.2
    (s.divReplay replayed).divHold found

/-! ### MODE_APPLY (R5) -/

/-- A chip commit that waits when the mode leaves SWIFT becomes a frame commit (R81). -/
def leaveSwift (m : Nat) (c : Commit) : Commit :=
  if c.phase = .fixed ∧ m ≤ c.sFrame ∧ c.sChip ≠ 0 then { c with sFrame := c.sFrame + 1, sChip := 0, bsFrame := c.sFrame + 1 } else c

/-- The new mode takes effect with the coming boundary: amplitudes are loaded over whatever the frame wrote (R135, R442), home codes that need
EXACT go (R138), chip commits become frame commits (R81), SOLO and FRUGAL power planes and lanes (R362, R239). -/
def State.modeApply (s : State) : State :=
  match s.modeNext with
  | none => s
  | some (m, f) =>
    if s.clk.frame + 1 < f then s
    else
      let was := s.mode
      let s := { s with mode := m, modeNext := none }
      let amp (x : Shadow) : Bool := (List.range 80).any fun t =>
        decide (x.field = R.TL_DITHER_EO_AMP t) || decide (x.field = R.TL_DITHER_TH_AMP_LOG2 t)
      let s := { s with reg := { s.reg with shadows := s.reg.shadows.filter fun x => !amp x } }
      let s := s.loadAmps m
      let s := if m = .exact then s else s.dropExactOnly
      let s := if was = .swift ∧ m ≠ .swift then
          { s with com := { s.com with commits := s.com.commits.map (leaveSwift (s.clk.frame + 1)) } } else s
      let s := if m = .solo ∧ was ≠ .solo then s.enterSolo else if was = .solo ∧ m ≠ .solo then s.leaveSolo else s
      let off := if m = .frugal then (List.range 8).filter fun l => s.frugalLane (lanePlane l) != l else []
      let s := s.over off State.dropLink
      (s.setPw fun x => { x with frugal := off }).alertState

/-! ### The writes of a boundary (R15, R26, R442) -/

/-- The shadows with the registers they stand in. -/
def State.shadowHits (s : State) : List (Shadow × RegHit) :=
  s.reg.shadows.filterMap fun x => (regAt x.field.addr).map fun h => (x, h)

/-- The heater channels whose TRIM the boundary changes (R202). -/
def State.trimsChanged (s : State) : List Nat :=
  s.shadowHits.filterMap fun x =>
    let f := R.TL_HTR_CFG_TRIM (x.2.i 0) (x.2.i 1)
    if x.2.spec.reg = .TL_HTR_CFG ∧ x.1.field = f ∧ s.rd f ≠ x.1.value then some (256 * x.2.i 0 + x.2.i 1) else none

/-- A host write of a calibration item comes into force (R231, R232). -/
def State.hostItem (s : State) (h : RegHit) : State :=
  let t := h.i 0
  let j := h.i 1
  match h.spec.reg with
  | .TL_CAL_REF => s.hostCal t itemRef (R.TL_CAL_REF_MEAS t)
  | .TL_CAL_HV => s.hostCal t itemHv (R.TL_CAL_HV_MEAS t)
  | .TL_CAL_SLICE => s.hostCal t (itemSlice j) (R.TL_CAL_SLICE_MEAS t j)
  | .TL_CAL_TIA => s.hostCal t (itemTia j) (R.TL_CAL_TIA_MEAS t j)
  | .TL_CAL_HTR => (s.hostCal t (itemHtr j) (R.TL_CAL_HTR_MEAS t j)).checkPrated (256 * t + j)
  | .TL_GUARD_HTR_B => s.checkPrated (256 * t + j)
  | .HKA_CAL => ((s.wr R.HKA_CAL_MEAS 0).advance R.HKA_CAL_GEN).setHka fun x => { x with overridden := true, trims := none }
  | _ => s

/-- The level the owner wrote drives a driver level that no context names (R210). -/
def State.hostLevel (s : State) (x : Shadow × RegHit) : State :=
  if x.2.spec.reg = .TL_FD_LEVEL then
    let t := x.2.i 0
    let d := x.2.i 1
    let k := levelKey t d (b01 (decide (x.1.field = levelField t d 1)))
    if (s.ctxOfLevel k).isEmpty then s.putLevel { s.level k with direct := some x.1.value } else s
  else s

/-- The F-class writes apply together, with what their changes bring: XFER and the exchange of set-points in contexts, host calibration,
driver levels, sensor masks, the time selection, clamped meters; then the state requests (R153). -/
def State.applyWrites (s : State) : State :=
  let hits := s.shadowHits
  let ctxs := dedup ((hits.filterMap fun x => if contextReg x.2.spec.reg then some (x.2.i 0) else none) ++ s.loop.requests.map (·.ctx))
  let tables := dedup (hits.filterMap fun x =>
    if x.2.spec.reg = .TL_LUT ∨ x.2.spec.reg = .TL_LUT_SHIFT then some (x.2.i 0, x.2.i 1) else none)
  let before := s.beforeWrites ctxs
  let masks := (List.range 3).map fun k => s.word (A.TH_MASK k)
  let sel := s.sel
  let trims := s.trimsChanged
  let s := s.ahead
  let s := { s with reg := { s.reg with shadows := [] } }
  let s := s.over (dedup (hits.map (·.2))) State.hostItem
  let s := s.over trims fun s h => s.hostCal (h / 256) (itemHtr (h % 256)) (R.TL_CAL_HTR_MEAS (h / 256) (h % 256))
  let s := s.over hits State.hostLevel
  let s := if hits.any (fun x => decide (x.2.spec.reg = .TH_MASK)) then s.masksApplied masks else s
  let s := if hits.any (fun x => decide (x.2.spec.reg = .FT_CTRL)) then s.selected sel else s
  let s := if hits.any (fun x => decide (x.2.spec.reg = .FT_PPS_CFG) || decide (x.2.spec.reg = .FT_PPS_OFFSET)) then s.ppsMarkNow else s
  let s := if hits.any (fun x => decide (x.2.spec.reg = .SCH_METER_BURST)) then s.clampMeters else s
  s.applyRequests.afterWrites before tables

/-- The channels whose ENABLE a write of 1 reaches at this boundary (R121). -/
def State.enabledNow (s : State) : List Nat :=
  (List.range 36).filter fun c => s.reg.shadows.any fun x => decide (x.field = chEnable c) && x.value == 1

/-! ### Reactions and fences that end (R374, R383, R384) -/

/-- A slice that a reaction fences is replaced as R117 says; one already replaced or lost changes nothing. -/
def State.fenceSlice (s : State) (t j : Nat) : State :=
  let fenced := s.on (R.TL_SPARE_STATUS_SLICE_FENCED t)
  if j ∈ (s.tileSense t).lost ∨ (fenced ∧ s.rd (R.TL_SPARE_STATUS_FENCED_SLICE t) = j) then s
  else if 32 ≤ j then s.spareFails t
  else if !fenced && !s.on (R.TL_SPARE_STATUS_SPARE_FAILED t) then
    ((s.wr (R.TL_SPARE_STATUS_SLICE_FENCED t) 1).wr (R.TL_SPARE_STATUS_FENCED_SLICE t) j).updSense t fun a => { a with stopped := true }
  else s.loseSlice t j

def State.fenceTile (s : State) (t : Nat) : State :=
  if s.tileFenced t then s
  else
    let a := A.FC_FENCED_TILE (t / 32)
    (s.setWord a (setBit (s.word a) (t % 32))).over (s.tileCtx s.active t) fun s n => s.fenceCtx n causeFault

def State.takeReaction (s : State) (r : Reaction) : State :=
  match r with
  | .fenceContext n cause => s.fenceCtx n cause
  | .fenceSlice t j => s.fenceSlice t j
  | .fenceTile t => s.fenceTile t

/-- The reactions whose admission point lies at or before this boundary. -/
def State.takeReactions (s : State) : State :=
  let due := (s.faults.react.filter fun r => r.1 ≤ s.now).map (·.2)
  ({ s with faults := { s.faults with react := s.faults.react.filter fun r => s.now < r.1 } }).over due State.takeReaction

/-- An accepted FC_UNFENCE takes effect. A tile's contexts stay FENCED until the owner requests OFF. -/
def State.unfenceOne (s : State) (x : Nat × Nat) : State :=
  let clear (b : Nat) : State := s.setWord A.FC_FENCED_MISC (clearBit (s.word A.FC_FENCED_MISC) b)
  match x.1 with
  | 0 => s.setWord (A.FC_FENCED_TILE (x.2 / 32)) (clearBit (s.word (A.FC_FENCED_TILE (x.2 / 32))) (x.2 % 32))
  | 1 => clear x.2
  | 2 => clear (8 + x.2)
  | 3 => clear 10
  | _ => clear (16 + x.2)

def State.takeUnfences (s : State) : State :=
  ({ s with faults := { s.faults with unfence := [] } }).over s.faults.unfence State.unfenceOne

/-! ### Stencil conditions (R187) -/

/-- Condition q of generator instance i in the input set of the latest boundary; an ARG that names nothing is false. -/
def State.condValue (s : State) (i q : Nat) : Bool :=
  let p := genPlane i
  let g := i % 8
  let a := s.rdP p (R.ST_COND0_ARG g q)
  let lt := s.rdP p (R.ST_COND1_LT g q) == 1
  match s.rdP p (R.ST_COND0_TYPE g q) with
  | 0 => decide (a < 8) && (if s.rdP p (R.ST_COND0_EDGE g q) = 1 then s.evtRise.testBit a else s.evtLevel.testBit a)
  | 1 => decide (a < 40960) && s.stateOf a == s.rdP p (R.ST_COND1_STATE g q)
  | 2 =>
    let v := match s.feedback a with | some x => s.lawWord a x | none => Config.absentWord s.freeCount
    decide (a < 40960) && (decide (v < s.rdPS p (R.ST_COND1_THRESH g q)) == lt)
  | _ => decide (a < 96) && (decide (s.rd (R.HKA_RESULT_CODE a) < s.rdP p (R.ST_COND1_THRESH g q) % 65536) == lt)

def State.latchConds (s : State) : State :=
  s.over (List.range 16) fun s i =>
    let c := ofOnes ((List.range 4).filter fun q => s.condValue i q)
    if (s.gen i).cond = c then s else s.updGen i fun x => { x with cond := c }

/-! ### Settling and settled references (R94 to R96) -/

/-- The settle measurement of a commit takes the samples of the frame that has ended; once the window is full it is decided. -/
def State.settleOne (s : State) (c : Commit) : State :=
  let pds := dedup (((c.settlePorts.map fun o => (s.fabric.port o).outPd)).filter (· != 0xFFFF))
  let from_ := if s.clk.frame = c.sFrame + 1 then 8 * c.sChip else 0
  let win := s.settleWin * 128
  let samples := pds.map fun d =>
    (d, ((((c.samples.find? (·.1 == d)).map (·.2)).getD []) ++ ((s.wordsOf d).map wordCode).drop from_).take win)
  if samples.any fun x => x.2.length < win then s.updCommit c.num fun c => { c with samples := samples }
  else
    let settle := samples.map fun x => (x.1, settleIndex s.settleTol x.2)
    let uns := (settle.filter fun x => win ≤ x.2 + 16).map (·.1)
    let most := maxOf (settle.map (·.2))
    let s := s.updCommit c.num fun c => { c with
      samples := [], settle := settle, settleMax := most, unsettled := uns, measured := true }
    match (sortBy (·.1) settle).find? fun x => x.2 == most with
    | some x =>
      let s := (s.wrB R.CM_SETTLE_MAX_PD x.1).wrB R.CM_SETTLE_MAX_UNSETTLED (b01 (decide (x.1 ∈ uns)))
      (s.wrB R.CM_SETTLE_MAX_SAMPLES x.2).bumpB R.CM_EVENTS_UNSETTLED uns.length
    | none => s

/-- After the allowance each new connection takes its reference from the first valid input set of its output power context. Where a port has no
live output power context the spec gives the reference no value: a free one stands in its place. -/
def State.referenceOne (s : State) (num : Nat) (k : Conn) : State :=
  let n := (s.fabric.port k.out).outCtx
  let put (s : State) (v : Int) : State :=
    { (s.updCommit num fun c => { c with references := c.references ++ [(k.out, v)] }) with
      com := { (s.updCommit num fun c => { c with references := c.references ++ [(k.out, v)] }).com with
        refs := (s.com.refs.filter fun r => r.1 != k.out) ++ [(k.out, v)] } }
  if 40960 ≤ n ∨ !s.live n then let (v, s) := s.free; put s v
  else if s.blankedNow n || s.slotWaits n || s.isSuspect n then s
  else match s.feedback n with
    | some x => if x.invalid || x.warming then s else put s (s.lawWord n x)
    | none => s

/-- A boundary's part in the settling of every switched commit. -/
def State.settleFrame (s : State) : State :=
  s.over ((s.com.commits.filter fun c => decide (c.phase = .switched)).map (·.num)) fun s num =>
    let s := match s.com.commits.find? (·.num == num) with
      | some c => if !c.measured && c.sFrame < s.clk.frame then s.settleOne c else s
      | none => s
    match s.com.commits.find? (·.num == num) with
    | some c =>
      if c.measured && c.allowanceEnd s.settleWin ≤ s.clk.frame then
        let s := s.over ((c.made ++ c.moved).filter fun k => !c.references.any (·.1 == k.out)) fun s k => s.referenceOne num k
        s.updCommit num fun c => { c with
          phase := if (c.made ++ c.moved).all fun k => c.references.any (·.1 == k.out) then .settling else .switched }
      else s
    | none => s

/-! ### Control availability (R35, R37) -/

/-- The loss window of a connection's owner, in units of 0.01 dB (R37). -/
def State.lossOf (s : State) (k : Conn) : Nat := max 1 (s.rd (R.AV_LOSS_LOSS (pIdx k.owner)))

/-- Is the circuit's output power below its settled reference by more than its loss window? -/
def State.outsideWindow (s : State) (k : Conn) : Bool :=
  let n := (s.fabric.port k.out).outCtx
  match s.com.refs.find? fun r => r.1 == k.out with
  | none => false
  | some r =>
    if 40960 ≤ n ∨ !s.live n then false
    else match s.feedback n with
      | some x => !x.invalid && !x.warming && decide (s.lawWord n x * 65536 < r.2 * Config.lossScale (s.lossOf k))
      | none => false

/-- Does one of R35's exceptions cover the circuit: the settle allowance of a commit that changed it, an announced hit, a failed cell on
its path? -/
def State.excused (s : State) (k : Conn) : Bool :=
  (s.com.commits.any fun c => decide (c.phase = .switched) && s.clk.frame < c.allowanceEnd s.settleWin &&
    (c.made ++ c.moved ++ c.hits).any (samePair k)) ||
  (pathCells s.fabric.n k.inp k.out k.path).any fun x => s.cellFailed x.1

/-- Count the frame: RUN or IDLE, neither SOLO nor SURVEY, at least one committed circuit. -/
def State.availFrame (s : State) : State :=
  if !(decide (s.power = .run) || decide (s.power = .idle)) || s.isMode .solo || s.isMode .survey || s.route.committed.isEmpty then s
  else
    let bad := s.route.committed.any fun k => s.outsideWindow k && !s.excused k
    { s with avail := { counted := s.avail.counted + 1, lost := s.avail.lost + b01 bad } }

/-! ### COMMIT_DONE -/

/-- COMMIT_DONE (R96): the notice of every commit whose last settled reference is latched. -/
def State.commitDone (s : State) : State :=
  s.over (s.com.commits.filter fun c => decide (c.phase = .settling)) fun s c => (s.commitDoneNotice c).dropCommit c.num

/-! ### COMMIT_SWITCH, LATE_TILE_APPLY, TOKEN_LOST (R82, R85, R99) -/

/-- COMMIT_SWITCH at chip boundary `chip` of the running frame: the commits fixed for it switch. `late` are tiles whose chip selections were
incomplete; a frame commit is late in the tiles that overran. `differ` are drivers whose selections differ between the planes. -/
def State.commitSwitch (s : State) (chip : Nat) (late differ : List Nat) : State :=
  let due := (sortBy (·.num) s.com.commits).filter fun c => decide (c.phase = .fixed) && decide (c.sChips ≤ s.clk.frame * 16 + chip)
  s.over due fun s c =>
    let before := s
    let tiles := if c.sChip = 0 ∧ c.sFrame = c.bsFrame then s.loop.overran else late
    let s := ((s.switchCommit tiles c).alignCommit c.num).countEmphasis before c.cells
    let unequal := (c.cells.filterMap fun x => s.driverOf x.1).filter fun d => decide (d ∈ differ) && s.compares
    let held := if s.pl.ret.isSome then [] else unequal
    let s := s.over held fun s d => s.holdSelection d (before.rd (R.TL_FD_CFG_SEL (d / 128) (d % 128)))
    let s := s.bumpB R.CM_EVENTS_LATE (dedup (held.map (· / 128))).length
    s.when (!unequal.isEmpty) State.centralDivergence

/-- LATE_TILE_APPLY (R85): tile t takes the selections it was late with, and those a central divergence held there (R354). A frame
commit's wait for the boundary after its own. -/
def State.lateTileApply (s : State) (t : Nat) : State :=
  let mine := s.com.commits.filter fun c => decide (t ∈ c.late) && (c.sChip != 0 || c.sFrame != c.bsFrame || decide (c.sFrame < s.clk.frame))
  let s := s.over mine fun s c =>
    s.over c.cells fun s x => match s.driverOf x.1 with
      | some phys => if phys / 128 = t then s.select phys (b01 (decide (x.1 ∈ s.route.crossed))) else s
      | none => s
  s.freeSelection t

/-- TOKEN_LOST (R99): tokens with neither GO nor ABANDON within TOKEN_TIMEOUT frames of their READY. -/
def State.tokenLost (s : State) : State :=
  let limit := max 1 (s.rd R.AP_TOKEN_CTRL_TOKEN_TIMEOUT)
  s.over (s.com.tokens.filter fun k => k.readyFrame + limit ≤ s.clk.frame) fun s k =>
    let s := { s with com := { s.com with tokens := s.com.tokens.filter fun x => !decide (x = k) } }.showTokens
    let s := (s.bump R.AP_TOKEN_STATUS_LOST 1).raise { cls := 3, inst := 0, kind := 2 }
    match s.com.commits.find? (·.num == k.commit) with
    | some c => s.refuseCommit c Code.tokenLost
    | none => s

/-! ### FRAME_BOUNDARY (R26) -/

/-- Commands that a boundary completes: F-class writes, and COMMITs whose B_s has passed (R100). -/
def State.endFlights (s : State) : State :=
  let s := s.setSched fun x => { x with flights := x.flights.filter fun f => f.until_ == 0 || s.clk.frame < f.until_ }
  s.over (s.com.commits.filter fun c => c.bsDone && !c.implied) fun s c => s.endFlight c.principal c.cseq

/-- The lanes open at the first boundary after the session number is fixed (R427); announcements then, and once a second (R246). -/
def State.openLanes (s : State) : State :=
  let first := s.boot.session && !s.links.open_ && decide (s.boot.phase = .run)
  let s := if first then s.setLinks fun x => { x with open_ := true } else s
  if first || s.clk.frame % 50000 == 0 then s.over ((List.range 8).filter s.carries) State.announce else s

/-- RT_MARGIN shows the least margins of the second that has ended (R57). -/
def State.endRouteWindow (s : State) : State :=
  if s.clk.frame % 50000 = 0 then
    let least (p : Plane) (full : Bool) : Nat :=
      ((s.route.margins.find? fun m => decide (m.1 = p) && m.2.1 == full).map (·.2.2)).getD 0xFFFF
    let s := s.over [Plane.A, Plane.B] fun s p =>
      (s.wrP p R.RT_MARGIN_FULL_MIN (min 0xFFFF (least p true))).wrP p R.RT_MARGIN_INC_MIN (min 0xFFFF (least p false))
    s.setRoute fun x => { x with margins := [] }
  else s

/-- What the frame that ends leaves: results not yet complete, samples, partial sums, pin status. -/
def State.endFrame (s : State) (x : FrameIn) : State :=
  let s := if s.loopsOn then s.completeFrame [] else s
  let s := s.senseBefore x
  let s := if s.loopsOn then s.pushSums else s
  (s.allStatus x.heaters).calBefore

/-- The correlators of a frame after an alignment start afresh (R297). -/
def State.afterGap (s : State) : State :=
  match s.time.blankAll with
  | none => s
  | some n =>
    if s.clk.frame = n then { s with dith := { s.dith with groups := [], slots := s.dith.slots.map fun h => { h with sums := [] } } }
    else s.setTime fun x => { x with blankAll := none }

/-- The work of the tiles at the new boundary: release, writes, reactions, calibration, commits, the words on the pins, the input set and its
validity, capture. -/
def State.tileBoundary (s : State) (x : FrameIn) : State :=
  let ranges := s.setPds.map fun d => (d, s.rd (R.TL_PD_CFG_TIA_RANGE (d / 32) (d % 32)))
  let refs := (List.range 80).map fun t => s.rd (R.TL_REF_REF_SEL t)
  let spp := (List.range 4).map fun k => s.word (A.LP_SPP_CFG k)
  let enabled := s.enabledNow
  let trims := s.trimsChanged
  let updated := s.loop.computed.map (·.ctx)
  let slots := s.dith.slots
  let s := if s.loopsOn then s.releaseFrame.divRelease.divResume else s
  let s := s.latchFenced.applyWrites.takeReactions.takeUnfences
  let s := ((((s.handshakes x.missed).applyLatches).applyModes).applyTrims trims).applyPrimer
  let s := (s.calFrame x).hkaTrims
  let s := if s.loopsOn then s.allBs else s
  let s := { s with evtLevel := x.evtLevel, evtRise := x.evtRise }
  let s := s.latchStreams.sweepFrame
  let s := s.releaseOutputs
  let s := s.dustScaled (s.on R.EG_DEV_STATUS_SCALED || (List.range 80).any fun t => s.on (R.TL_GUARD_STATUS_TILE_SCALED t))
  let s := s.updateFailed
  let s := if s.loopsOn then s.bindSlots.clearChanged.endBlanking.afterGap else s
  let s := ((s.showWords slots).senseAfter x ranges refs).latchSpp x spp
  let s := s.latchSpa
  let s := if s.loopsOn then s.validityPass.divMeasure else s
  let s := s.latchConds
  let s := if s.loopsOn then (s.settleFrame.availFrame).watchStep updated else s
  (s.captureBoundary enabled).watermarkNotices

/-- What a boundary does outside the tiles. -/
def State.centralBoundary (s : State) (x : FrameIn) : State :=
  let hit := s.com.commits.filter fun c => (decide (c.phase = .switched) || decide (c.phase = .settling)) && c.sFrame + 1 == s.clk.frame
  let s := s.over hit State.rearrangeNotices
  let s := s.endFlights.settleFences.refillBuckets.sampleQueues
  let s := ((s.cellarVote x.copies).timeFrame x.phase x.beaconTx).rtcFrames 1
  let s := s.stopTiles.ringFrame.endMarginWindow.endRouteWindow
  let s := s.dustFrame.clearLocks.openLanes
  if s.time.alignReq then (s.beginGap).ppsStep 2 else s

/-- FRAME_BOUNDARY: the running frame ends and the next begins; no command takes effect here. While the tiles sleep only what is outside them
has a boundary. -/
def State.frameBoundary (s : State) (x : FrameIn) : State :=
  if !s.clocked then s
  else
    let awake := !decide (s.power = .sleep)
    let s := if awake then s.endFrame x else s
    let s := { s with clk := { frame := s.clk.frame + 1, point := 0, next := 0 } }
    let s := s.timeTo (s.clk.frame * frameUnit)
    let before := s.sched.flights
    let s := if awake then s.tileBoundary x else s.applyWrites.takeReactions.takeUnfences
    let s := s.centralBoundary x
    s.setSched fun q => { q with
      lately := before.filter fun f => !q.flights.any fun g => g.principal == f.principal && g.cseq == f.cseq }

end Sys2Proof.Machine
end

