-- ==== Sys2Proof/Machine/Sideband.lean ====
section
/-! DEFINITION. Machine/Sideband.lean: the commands of the SMBus sideband (R269 to R271, R387, R403). -/

namespace Sys2Proof.Machine

open Sys2Proof

/-- The sideband answers: in every state except reset, OFF and a halt. -/
def State.sbAnswers (s : State) : Bool :=
  !(decide (s.boot.phase = .reset) || decide (s.boot.phase = .off) || decide (s.power = .off) || s.therm.halted)

def State.setSb (s : State) (f : Sideband → Sideband) : State := { s with sb := f s.sb }

/-- In DEEP SLEEP the identity registers, PW_STATE and ALERT_CAUSE are reached, nothing else (R403). -/
def deepReach (a : Nat) : Bool := match regAt a with
  | some h => identityReg h.spec.reg || h.spec.reg == .PW_STATE
  | none => false

def State.sbReaches (s : State) (a n : Nat) : Bool := !decide (s.power = .deepSleep) || (wordsAt a n).all deepReach

/-- ALERT_CAUSE (R270): FAULT while the queue holds a message (R387), STATE, SESSION. -/
def State.alertWord (s : State) : Nat := s.sb.alertCause ||| b01 (!s.faults.sbQueue.isEmpty)

/-- ALERT_N is released once no cause is left (R271). -/
def State.quietAlert (s : State) : State := if s.alertWord = 0 then s.setSb fun x => { x with alertN := true } else s

/-- SET_ADDR: WORDS outside 1 to 8 is not acknowledged; a wrong PEC changes nothing. -/
def State.sbSetAddr (s : State) (pecOk : Bool) (a words : Nat) : State :=
  if !s.sbAnswers || !pecOk || words = 0 || 8 < words then s
  else s.setSb fun x => { x with addr := a, words := words, reply := [] }

/-- READ: words of 0 where it is refused (R436). -/
def State.sbRead (s : State) : State :=
  if !s.sbAnswers then s
  else
    let a := s.sb.addr
    let n := s.sb.words
    let (c, v, s) := if s.sbReaches a n then s.readMany .sideband none a n else (Code.busy, List.replicate n 0, s)
    s.setSb fun x => { x with addr := (a + 4 * n) % 2 ^ 32, lastStatus := c, reply := v.flatMap (le 4) }

/-- WRITE of 1 to 8 whole words; any other length is not acknowledged. -/
def State.sbWrite (s : State) (pecOk : Bool) (data : List Nat) : State :=
  let n := data.length
  if !s.sbAnswers || !pecOk || n = 0 || 8 < n then s
  else
    let a := s.sb.addr
    let (c, _, s) := if s.sbReaches a n then s.writeMany .sideband none 0 a data else (Code.busy, false, s)
    s.setSb fun x => { x with addr := (a + 4 * n) % 2 ^ 32, lastStatus := c, reply := [] }

/-- LAST_STATUS. -/
def State.sbLastStatus (s : State) : State := if s.sbAnswers then s.setSb fun x => { x with reply := [x.lastStatus] } else s

/-- SUMMARY of scope 31, unsigned. -/
def State.sbSummary (s : State) : State :=
  if !s.sbAnswers then s
  else if s.power = .deepSleep then s.setSb fun x => { x with lastStatus := Code.busy, reply := List.replicate 208 0 }
  else
    let (b, s) := s.summaryItem s.sidebandScope none
    s.setSb fun x => { x with reply := b }

/-- ALERT_CAUSE: the causes that are recorded clear; FAULT follows the queue. -/
def State.sbAlertCause (s : State) : State :=
  if !s.sbAnswers then s
  else
    let w := s.alertWord
    (s.setSb fun x => { x with alertCause := 0, reply := le 2 w }).quietAlert

/-- FAULT_POP: the oldest message, or 8 bytes of 0. -/
def State.sbFaultPop (s : State) : State :=
  if !s.sbAnswers then s
  else if s.power = .deepSleep then s.setSb fun x => { x with lastStatus := Code.busy, reply := List.replicate 8 0 }
  else match s.faults.sbQueue with
    | [] => s.setSb fun x => { x with reply := List.replicate 8 0 }
    | w :: rest =>
      (({ s with faults := { s.faults with sbQueue := rest } }).setSb fun x => { x with reply := le 8 w }).quietAlert

/-- The answer to the Alert Response Address: the device's own address, and ALERT_N is released. -/
def State.alertResponse (s : State) : State :=
  if !s.sbAnswers || s.sb.alertN then s else s.setSb fun x => { x with alertN := true, reply := [2 * (0x58 + x.sba % 8)] }

/-- An access that has stretched SCL for 5 ms: 0xFF in every data byte, BUSY in LAST_STATUS (R269). -/
def State.sbStretchTimeout (s : State) (bytes : Nat) : State :=
  if !s.sbAnswers then s else s.setSb fun x => { x with lastStatus := Code.busy, reply := List.replicate bytes 0xFF }

end Sys2Proof.Machine
end

