-- ==== Sys2Proof/Machine/RowOps.lean ====
section
/-! DEFINITION. Machine/RowOps.lean: what the rows of the table share: an Express update, a Kolrok command that takes effect by itself, an
access to one register, the messages of units that the model does not hold, the management cores. -/

namespace Sys2Proof.Machine

open Sys2Proof

/-- The answer of a meaning: the next state for operands that the part has, a refusal for others. -/
def gated (ok : Bool) (name : String) (t : State) : Host.Outcome State Fault Refusal :=
  if ok then .next t else .refused (.badOperand name)

/-- The device is powered, out of reset and not in DEEP SLEEP: what happens at its pins reaches it. -/
def State.awake (s : State) : Bool := s.sbAnswers && !decide (s.power = .deepSleep)

/-! ### Express (R31, R169, R353) -/

/-- The chip is complete and the next one has not ended, in points of 128 FCLK. -/
def State.chipOpen (s : State) (chip : Nat) : Bool := 4 * (chip + 1) ≤ s.now && s.now ≤ 4 * (chip + 2)

/-- A chip word is applied: it comes into its context, and a level of a driver passes the guard at once (R195, R215). A heater takes it
from slot 0 of the next frame (R198). -/
def State.applyExpress (s : State) (x : Upd) : State :=
  let s := s.store x
  match s.outKey x.ctx with
  | some k => if 20480 ≤ k then (s.releaseLevel k).1 else s
  | none => s

/-- EXPRESS_UPDATE: context n computes its word from the codes of chip `chip`, counted from frame 0. `applied`: it is applied by the end of
the next chip. `differ`: the planes' words differ. -/
def State.expressUpdate (s : State) (n chip : Nat) (codes : List Nat) (applied differ : Bool) : State :=
  if !s.loopsOn || !s.chipOpen chip || !s.runsExpress n then s
  else
    let r := s.expressResult n chip codes
    let s := s.chipRecords n chip codes r
    match r with
    | none => s
    | some x =>
      if differ && s.compares then s.expressMismatch n chip
      else
        let s := s.noteExpress chip x
        if applied then s.applyExpress x else s.setLoop fun l => { l with expWait := l.expWait ++ [(chip, x)] }

/-! ### A Kolrok command by itself (R256, R259, R277) -/

/-- The checks of R259 that a command meets beside its length and its meter: who may send it, the mode, throttling, flags, the stream. -/
def State.commandCode (s : State) (h : CmdHead) (c : Cmd) : Nat :=
  let p := h.principal
  let op := opcodeOf c
  let bare := (op == 0x02 && h.flags.testBit 0 && !s.on (R.PR_TEN_CFG_ATTEST p)) ||
    (op == 0x21 && !s.on (R.PR_TEN_CFG_CTX_WRITE p)) || (op == 0x22 && !s.on (R.PR_TEN_CFG_CTX_STATE p))
  if isTenancy p && (ownerOnly op h.flags || bare) then Code.notPermitted
  else if isTenancy p && s.isMode .survey then Code.modeRefused
  else if 3 ≤ s.throttle && (op == 0x10 || op == 0x12) then Code.throttled
  else if !((onesBelow 8 h.flags).all fun k => decide (k ∈ flagBits op)) then Code.badArg
  else s.passedCode p h.cseq op

/-- Commands are taken while lanes are open. -/
def State.takesCommands (s : State) (p : Nat) : Bool :=
  s.clocked && s.links.open_ && (p == 30 || s.enabled p)

/-- What the admission of a command leaves beside its queue: the stream's last COMMIT and FENCE (R102). -/
def State.noteStream (s : State) (h : CmdHead) (op : Nat) : State :=
  s.updPrin h.principal fun x => { x with
    commitSeq := if op = 0x14 ∨ ownCommit op h.flags then max x.commitSeq h.cseq else x.commitSeq
    fenceSeq := if op = 0x03 then max x.fenceSeq h.cseq else x.fenceSeq }

/-- A command takes effect at the latest admission point: its flight begins (R100), its effect follows. -/
def State.effect (s : State) (h : CmdHead) (c : Cmd) : State :=
  let op := opcodeOf c
  let fl : Flight := { principal := h.principal, cseq := h.cseq, opcode := op, objects := s.objects c }
  ((s.noteStream h op).setSched fun x => { x with flights := x.flights ++ [fl] }).runCmd h c

/-- May the command take effect at this admission point: nothing stands before it in its queue, in SEALED the point is its tenancy's, and
R101, R53 and its power domains let it begin (R277, R284)? -/
def State.begins (s : State) (c : QCmd) : Bool :=
  let p := c.head.principal
  (s.queue (queueOf p c.cmd)).items.isEmpty && !(s.isMode .sealed && isTenancy p && s.clk.point % 16 != p) && s.ordered c &&
    s.routeOpen c && s.domainsReady c.cmd

/-- A command whose checks are passed takes effect now or waits in its queue, admitted at this point. -/
def State.effectOrWait (s : State) (h : CmdHead) (c : Cmd) (cost : Nat) : State :=
  let q : QCmd := { head := h, opcode := opcodeOf c, cmd := c, cost := cost, yellow := false, admitted := s.now }
  if s.begins q then s.effect h c
  else if s.depthLimit (queueOf h.principal c) ≤ (s.queue (queueOf h.principal c)).items.length then
    (s.bump R.SCH_EVENTS_QUEUE_FULL 1).answer h (opcodeOf c) Code.queueFull
  else s.enqueue (queueOf h.principal c) q

/-- A command row: the command, with its checks, at the latest admission point. Parts of a STAGE are assembled first (R257). -/
def State.command (s : State) (h : CmdHead) (c : Cmd) : State :=
  let op := opcodeOf c
  if !s.takesCommands h.principal then s
  else
    let code := s.commandCode h c
    if code ≠ Code.ok then s.answer h op code
    else match c with
      | .stage id part parts entries =>
        let total := stageTotal (s.prin h.principal).assembly h.flags id part parts entries.length
        match s.stagePart h id part parts entries with
        | (_, some (h', c'), s) =>
          (if h'.cseq = h.cseq then s else s.answer h op Code.partHeld).effectOrWait h' c' (costOf c h.flags total)
        | (code, none, s) => s.answer h op code
      | _ => s.effectOrWait h c (costOf c h.flags 0)

/-! ### One register (R439, R440) -/

/-- May the requester reach the register space now: in DEEP SLEEP the sideband alone, and little of it; a stopped core not at all. -/
def State.mayAccess (s : State) (r : Requester) (a n : Nat) : Bool :=
  match r with
  | .principal p => s.takesCommands p
  | .sideband => s.sbAnswers && s.sbReaches a n
  | .firmware p => s.clocked && !s.faults.stopped.any fun x => x.1 == planeBit p

/-- The status of a sideband access shows in LAST_STATUS. -/
def State.noteStatus (s : State) (r : Requester) (code : Nat) : State :=
  match r with
  | .sideband => s.setSb fun x => { x with lastStatus := code }
  | _ => s

/-- A write takes effect at the latest admission point. -/
def State.regWrite (s : State) (r : Requester) (a : Nat) (data : List Nat) : State :=
  if s.mayAccess r a data.length then
    let (code, _, t) := s.writeMany r none 0 a data
    t.noteStatus r code
  else s

/-- A read by a requester, for what it leaves behind; the sideband gets the bytes. -/
def State.regRead (s : State) (r : Requester) (a n : Nat) : State :=
  if s.mayAccess r a n then
    let (code, v, t) := s.readMany r none a n
    match r with
    | .sideband => t.setSb fun x => { x with lastStatus := code, reply := v.flatMap (le 4) }
    | _ => t
  else s

/-- The word whose writable fields are as they stand and whose action bits are 0. -/
def State.restWord (s : State) (a : Nat) : Nat :=
  match regAt a with
  | some h => h.spec.fields.foldl (fun w f =>
      if f.acc = .rw then (f.loc a).put w ((f.loc a).get (s.shownWord s.active h a)) else w) 0
  | none => 0

/-- Write fields of one register, its other fields as they stand. -/
def State.writeFields (s : State) (r : Requester) (a : Nat) (l : List (FieldAt × Nat)) : State :=
  s.regWrite r a [l.foldl (fun w x => x.1.put w x.2) (s.restWord a)]

/-! ### Fault messages of other sources, the management cores (R367, R378, R383) -/

/-- How many instances a class has (R368). -/
def instancesOf (cls : Nat) : Nat :=
  [0, 80, 8, 2, 1, 1, 1, 80, 96, 96, 1, 16, 1, 1, 2, 3].getD cls 0

/-- Is PLANE what R368 says of the unit: a plane where the unit is private, its own where the instance names it, else 0? -/
def planeFits (m : FaultMsg) : Bool :=
  if m.cls = 14 then m.plane == m.inst
  else if m.cls = 11 then m.plane == m.inst / 8
  else if m.cls = 2 then m.plane == planeBit (lanePlane m.inst)
  else m.plane == 0 || (m.plane == 1 && (m.private_ || m.cls == 7))

/-- Is the message one that R368 and R369 list? -/
def knownMsg (m : FaultMsg) : Bool :=
  planeFits m && decide (m.inst < instancesOf m.cls) && (faultKinds.any fun k => k.1 == m.cls && k.2.1 == m.kind) && 1 ≤ m.count && m.count ≤ 255

/-- FAULT_MESSAGE: a source sends a message to the collectors. -/
def State.faultMessage (s : State) (m : FaultMsg) : State := if s.clocked && knownMsg m then s.raise m else s

/-- END_REPORT: a source reports the end of a condition. -/
def State.endMessage (s : State) (m : FaultMsg) : State :=
  if s.clocked && knownMsg m && isCondition m.cls m.kind then s.endReport m else s

/-- CORE_RESTART: a core held stopped for one frame restarts; after three restarts within 24 h it stays stopped (R383). -/
def State.coreRestart (s : State) (p : Plane) : State :=
  let b := planeBit p
  match s.faults.stopped.find? fun x => x.1 == b with
  | some (_, since) =>
    let mine := s.faults.restarts.filter fun x => x.1 == b && since < x.2 + 86400 * 50000
    if since + 1 ≤ s.clk.frame && mine.length < 3 then
      { s with faults := { s.faults with
          stopped := s.faults.stopped.filter fun x => x.1 != b
          restarts := (s.faults.restarts.filter fun x => x.1 != b) ++ mine ++ [(b, s.clk.frame)] } }
    else s
  | none => s

/-- WATCHDOG: plane p's core has not served its watchdog for 1,000 frames. -/
def State.watchdog (s : State) (p : Plane) : State :=
  if s.clocked && !s.faults.stopped.any (fun x => x.1 == planeBit p) then s.raise (planeMsg 12 0 1 p 0) else s

/-- TRNG_HEALTH: the random number source fails its continuous health test. -/
def State.trngHealth (s : State) : State := if s.clocked then s.raise { cls := 13, inst := 0, kind := 2 } else s

/-! ### Ring messages -/

/-- A token message reaches the device over the ring. -/
def State.ringMessage (s : State) (f : State → State) : State := if s.clocked && s.ringUp then f s else s

/-! ### The way to RUN, a round of the sensors -/

/-- RUN_ENTRY, where the lanes open at once if the session is fixed by then (R426, R427). -/
def State.enterRun (s : State) (ms : Nat) : State :=
  let t := s.runEntry ms
  if t.boot.phase = .run ∧ s.boot.phase ≠ .run then t.openLanes else t

/-- SENSOR_ROUND, with the session number's write tried again where the legacy window held it back (R427). -/
def State.roundRow (s : State) (counts : List (Nat × Nat)) : State :=
  let t := s.sensorRound counts
  if t.on R.BT_STATUS_SESSION_WAIT then t.trySession else t

end Sys2Proof.Machine
end

