-- ==== Sys2Proof/WellFormed.lean ====
section
/-! DEFINITION. WellFormed.lean: the operands a command may have. Each check is the range of a number of units, or the width of a field that the
spec gives the operand; values that a field can carry and a rule refuses are well-formed. -/

namespace Sys2Proof

/-! ### Units (chapter 1) -/

def isTile (t : Nat) : Bool := decide (t < 80)
def isCtx (n : Nat) : Bool := decide (n < 40960)
def isHeater (h : Nat) : Bool := decide (h < 20480)
def isDriver (d : Nat) : Bool := decide (d < 10240)
def isLane (l : Nat) : Bool := decide (l < 8)
def isInst (i : Nat) : Bool := decide (i < 16)

/-- A principal that sends commands: a tenancy or the owner (R308). -/
def isSender (p : Nat) : Bool := decide (p < 16) || p == 30

/-! ### Widths -/

def isByte (b : Nat) : Bool := decide (b < 256)
def isHalf (w : Nat) : Bool := decide (w < 65536)
def isWord (w : Nat) : Bool := decide (w < 2 ^ 32)
def isLong (w : Nat) : Bool := decide (w < 2 ^ 64)

/-- A conversion code of 14 bits (R105). -/
def isCode (c : Nat) : Bool := decide (c < 16384)

/-- Bytes that the NOR holds from an address on. -/
def isFlash (x : Nat × List Nat) : Bool := isWord x.1 && x.2.all isByte

/-! ### What the world delivers -/

def Stamp.wf (x : Stamp) : Bool := decide (x.sec < 2 ^ 48) && decide (x.ns < 1000000000) && decide (x.frac < 65536)

def Beacon.wf (b : Beacon) : Bool := isLong b.frame && b.time.wf && decide (b.hops < 16)

def Mismatch.wf (m : Mismatch) : Bool := isCtx m.ctx

def Codes.wf (units : Nat) (c : Codes) : Bool := decide (c.unit < units) && c.codes.length == 128 && c.codes.all isCode

def HeaterPin.wf (x : HeaterPin) : Bool := isHeater x.channel && decide (x.compliance ≤ 2048) && decide (x.short ≤ 2048)

def SppCount.wf (x : SppCount) : Bool := decide (x.input < 4) && decide (x.high ≤ 8192) && decide (x.edges ≤ 8192)

/-- Three copies of the Cellar; the units of each list. -/
def FrameIn.wf (x : FrameIn) : Bool :=
  x.slices.all (Codes.wf 2560) && x.spares.all (Codes.wf 80) && x.refGood.all isTile && x.spp.all SppCount.wf &&
    x.heaters.all HeaterPin.wf && isByte x.evtLevel && isByte x.evtRise && x.copies.length == 3 && decide (x.beaconTx.length ≤ 2) && x.beaconTx.all Stamp.wf &&
    x.cal.all (fun c => decide (c.tile ≤ 80)) && x.missed.all isTile

def Requester.wf (r : Requester) : Bool := match r with | .principal p => isSender p | _ => true

/-! ### Kolrok commands (R243, R256) -/

/-- A principal that sends commands, a sequence number of 48 bits, FLAGS of 8. -/
def CmdHead.wf (h : CmdHead) : Bool := isSender h.principal && decide (h.cseq < 2 ^ 48) && isByte h.flags

def ArmBody.wf (b : ArmBody) : Bool :=
  isByte b.target && isHalf b.fields && isWord b.cfg && isWord b.lock && isWord b.floor && decide (b.inMap < 2 ^ 1024) &&
    decide (b.outMap < 2 ^ 1024)

/-- Every field of the body within its width, lists within what BLEN allows. -/
def Cmd.wf (c : Cmd) : Bool :=
  match c with
  | .ping => true
  | .summary challenge => (challenge.length == 0 || challenge.length == 16) && challenge.all isByte
  | .fence => true
  | .read addr words => isWord addr && isHalf words
  | .write addr data => isWord addr && decide (data.length < 16384) && data.all isWord
  | .connect inp out => isHalf inp && isHalf out
  | .disconnect inp out => isHalf inp && isHalf out
  | .stage id part parts entries =>
    isHalf id && isByte part && isByte parts && decide (1 ≤ entries.length) && decide (entries.length ≤ 256) &&
      entries.all fun e => isHalf e.1 && isHalf e.2
  | .setElement element state => isHalf element && isByte state
  | .commit kind chip token mask frame => isByte kind && isByte chip && isHalf token && isHalf mask && isLong frame
  | .abort sFrame sChip => isLong sFrame && isByte sChip
  | .remap logical useAlt => isHalf logical && isByte useAlt
  | .ctxRead ctx first words => isHalf ctx && isByte first && isByte words
  | .ctxWrite ctx first data => isHalf ctx && isByte first && decide (data.length < 256) && data.all isWord
  | .ctxState ctx state => isHalf ctx && isByte state
  | .guardWrite tile offset value => isByte tile && isHalf offset && isWord value
  | .primerWrite tile offset value => isByte tile && isHalf offset && isWord value
  | .primerApply tiles => decide (tiles < 2 ^ 96)
  | .tileResume tiles => decide (tiles < 2 ^ 96)
  | .hkaInject channel tag => isByte channel && isByte tag
  | .calibrate tiles => decide (tiles < 2 ^ 96)
  | .stencilStart gen => isByte gen
  | .mode code frame => isByte code && isLong frame
  | .power state => isByte state
  | .drill frame => isLong frame
  | .reboot slot => isByte slot
  | .protectArm body => body.wf
  | .protectCommit armId digest frame => isWord armId && isLong digest && isLong frame
  | .keyInstall principal which wrapped => isByte principal && isByte which && wrapped.length == 40 && wrapped.all isByte
  | .keyRoll principal frame => isByte principal && isLong frame
  | .forward pos frame => isByte pos && decide (1 ≤ frame.length) && decide (frame.length ≤ 1400) && frame.all isByte

/-! ### Every row -/


/-- The operands are ones that the part has: an index of a unit it has, a field within its width. -/
def Instr.wf (i : Instr) : Bool :=
  match i with
  | .frameBoundary x => x.wf
  | .offerInstant => true
  | .admissionPoint _ => true
  | .releaseDeadline overran margins found replayed => overran.all isTile && margins.all (fun m => isTile m.1) && found.all Mismatch.wf && replayed.all Mismatch.wf
  | .feedbackLost ctx => isCtx ctx
  | .feedbackFrozen ctx => isCtx ctx
  | .inputInvalid ctx => isCtx ctx
  | .feedbackOverload ctx => isCtx ctx
  | .following ctx => isCtx ctx
  | .autoResume ctx => isCtx ctx
  | .expressUpdate ctx _ codes _ _ => isCtx ctx && codes.length == 8 && codes.all isCode
  | .expressOverrun ctx _ => isCtx ctx
  | .expJudged ctx => isCtx ctx
  | .kolrokFrameRx lane bytes stamp => isLane lane && bytes.all isByte && stamp.wf
  | .arpRequest lane bytes => isLane lane && bytes.all isByte
  | .ptpEvent lane _ _ _ _ _ _ _ stamp => isLane lane && stamp.wf
  | .laneLinkUp lane => isLane lane
  | .laneLinkDown lane _ => isLane lane
  | .hiBer lane _ => isLane lane
  | .frameTransmit lane pos stamp => isLane lane && decide (pos < 8192) && stamp.wf
  | .ping h => h.wf && Cmd.wf (.ping)
  | .summary h challenge => h.wf && Cmd.wf (.summary challenge)
  | .fence h => h.wf && Cmd.wf (.fence)
  | .read h addr words => h.wf && Cmd.wf (.read addr words)
  | .write h addr data => h.wf && Cmd.wf (.write addr data)
  | .connect h inp out => h.wf && Cmd.wf (.connect inp out)
  | .disconnect h inp out => h.wf && Cmd.wf (.disconnect inp out)
  | .stage h id part parts entries => h.wf && Cmd.wf (.stage id part parts entries)
  | .setElement h element state => h.wf && Cmd.wf (.setElement element state)
  | .commit h kind chip token mask frame => h.wf && Cmd.wf (.commit kind chip token mask frame)
  | .abort h sFrame sChip => h.wf && Cmd.wf (.abort sFrame sChip)
  | .remap h logical useAlt => h.wf && Cmd.wf (.remap logical useAlt)
  | .ctxRead h ctx first words => h.wf && Cmd.wf (.ctxRead ctx first words)
  | .ctxWrite h ctx first data => h.wf && Cmd.wf (.ctxWrite ctx first data)
  | .ctxState h ctx state => h.wf && Cmd.wf (.ctxState ctx state)
  | .guardWrite h tile offset value => h.wf && Cmd.wf (.guardWrite tile offset value)
  | .primerWrite h tile offset value => h.wf && Cmd.wf (.primerWrite tile offset value)
  | .primerApply h tiles => h.wf && Cmd.wf (.primerApply tiles)
  | .tileResume h tiles => h.wf && Cmd.wf (.tileResume tiles)
  | .hkaInject h channel tag => h.wf && Cmd.wf (.hkaInject channel tag)
  | .calibrate h tiles => h.wf && Cmd.wf (.calibrate tiles)
  | .stencilStart h gen => h.wf && Cmd.wf (.stencilStart gen)
  | .mode h code frame => h.wf && Cmd.wf (.mode code frame)
  | .power h state => h.wf && Cmd.wf (.power state)
  | .drill h frame => h.wf && Cmd.wf (.drill frame)
  | .reboot h slot => h.wf && Cmd.wf (.reboot slot)
  | .protectArm h body => h.wf && Cmd.wf (.protectArm body)
  | .protectCommit h armId digest frame => h.wf && Cmd.wf (.protectCommit armId digest frame)
  | .keyInstall h principal which wrapped => h.wf && Cmd.wf (.keyInstall principal which wrapped)
  | .keyRoll h principal frame => h.wf && Cmd.wf (.keyRoll principal frame)
  | .forward h pos frame => h.wf && Cmd.wf (.forward pos frame)
  | .forwardedFrameRx pos bytes => decide (pos < 16) && bytes.all isByte
  | .forwardedResponseRx pos rseq bytes => decide (pos < 16) && decide (rseq < 2 ^ 48) && bytes.all isByte
  | .sbSetAddr _ addr words => isWord addr && isByte words
  | .sbRead => true
  | .sbWrite _ data => data.all isWord
  | .sbLastStatus => true
  | .sbSummary => true
  | .sbAlertCause => true
  | .sbFaultPop => true
  | .alertResponse => true
  | .sbStretchTimeout bytes => decide (bytes ≤ 208)
  | .incrementalPost _ _ => true
  | .fullRoutingPost _ _ => true
  | .deferredRoutingStart => true
  | .rearrangeExpired => true
  | .stageExpired principal => isSender principal
  | .yellowExpired => true
  | .commitFix => true
  | .commitSwitch chip late differ => decide (chip < 16) && late.all isTile && differ.all isDriver
  | .lateTileApply tile => isTile tile
  | .commitDone => true
  | .readyRx principal number mask pos _ _ slot fclk => isSender principal && decide (number < 65536) && decide (mask < 65536) && decide (pos < 16) && decide (slot ≤ 16) && decide (fclk < 8192)
  | .goRx principal number _ => isSender principal && decide (number < 65536)
  | .abandonRx principal number => isSender principal && decide (number < 65536)
  | .tokenLost => true
  | .biasLimit tile => isTile tile
  | .refOut tile sample => isTile tile && decide (sample < 128)
  | .refTimeout tile => isTile tile
  | .captureRecordWrite channel last codes => decide (channel < 32) && decide (last < 128) && codes.all (·.all isCode)
  | .capRptrWrite r channel value => r.wf && decide (channel < 36) && isWord value
  | .hkaSlot slot code _ _ => decide (slot < 20) && decide (code < 65536)
  | .hkaInjectWrite r channel tag => r.wf && decide (channel < 128) && isByte tag
  | .hkaResultPop r => r.wf
  | .calStart r => r.wf
  | .corrResidue tile slot => isTile tile && decide (slot < 1024)
  | .storeRoomReadEcc _ tile word _ => isTile tile && decide (word < 8192)
  | .refreshMiss _ tile => isTile tile
  | .stArm r gen => r.wf && decide (gen < 8)
  | .stStart r gen => r.wf && decide (gen < 8)
  | .stHalt r gen => r.wf && decide (gen < 8)
  | .evtEdgeTrigger evt _ => decide (evt < 8)
  | .frameTrigger inst => isInst inst
  | .stop inst => isInst inst
  | .lda inst => isInst inst
  | .ldd inst => isInst inst
  | .adda inst => isInst inst
  | .emit inst => isInst inst
  | .ramp inst => isInst inst
  | .table inst => isInst inst
  | .prbs inst => isInst inst
  | .ldc inst => isInst inst
  | .loop inst => isInst inst
  | .jmp inst => isInst inst
  | .br inst => isInst inst
  | .wait inst => isInst inst
  | .illegal inst => isInst inst
  | .runaway inst => isInst inst
  | .mtStart r => r.wf
  | .mtAbort r => r.wf
  | .mtestDone _ _ addr element diff check => isWord addr && decide (element < 8) && isWord diff && decide (check < 128)
  | .heaterOpen channel => isHeater channel
  | .heaterShort channel => isHeater channel
  | .heaterLoad channel => isHeater channel
  | .driverOverload driver => isDriver driver
  | .guardIntegrity tile => isTile tile
  | .starvation tile => isTile tile
  | .trimApply channel => isHeater channel
  | .htrOffRelease r tile word mask => r.wf && isTile tile && decide (word < 8) && isWord mask
  | .fdOffRelease r tile word mask => r.wf && isTile tile && decide (word < 4) && isWord mask
  | .fdLevelWrite r driver bar cross => r.wf && isDriver driver && decide (bar < 4096) && decide (cross < 4096)
  | .tlCalReq r tile => r.wf && isTile tile
  | .tiaReq r tile => r.wf && isTile tile
  | .calAll r => r.wf
  | .tileRunStart tile => isTile tile
  | .tileRunEnd tile => isTile tile
  | .svStart r => r.wf
  | .svAbort r => r.wf
  | .sweepPoint => true
  | .sweepEnd => true
  | .tdRateWrite r domain low => r.wf && decide (domain < 2) && isWord low
  | .tdSet r domain ns => r.wf && decide (domain < 2) && isWord ns
  | .tdAdjust r domain ns => r.wf && decide (domain < 2) && decide (-2147483648 ≤ ns) && decide (ns ≤ 2147483647)
  | .timeCapture r => r.wf
  | .align r => r.wf
  | .alignmentGapEnd => true
  | .holdover domain => decide (domain < 2)
  | .autoSwitch => true
  | .fclkLock => true
  | .ppsEdge stamp => stamp.wf
  | .ppsGap => true
  | .ppsOutEdge => true
  | .tsPop r source => r.wf && decide (source < 11)
  | .beaconRx port b rx rx0 rx1 _ tx => decide (port < 2) && b.wf && rx.wf && rx0.wf && rx1.wf && tx.wf
  | .beaconPortSwitch => true
  | .linkMessageRx port _ _ _ _ _ hops rx tx => decide (port < 2) && decide (hops < 16) && rx.wf && tx.wf
  | .ringLost port => decide (port < 2)
  | .ringLock domain => decide (domain < 2)
  | .apsinLinkDown port => decide (port < 2)
  | .mtpWriteDone _ => true
  | .keyRollApply principal => isSender principal
  | .graceEnd principal => isSender principal
  | .protectApply => true
  | .protectExpire => true
  | .atticProvGo r => r.wf
  | .divergenceDecision => true
  | .centralAuditEnd _ _ => true
  | .planeFence _ => true
  | .drillSwap => true
  | .drillCheck failed _ => failed.all isTile
  | .drillDue => true
  | .planeReturn r => r.wf
  | .returnBankTest fail => fail.all (fun x => isTile x.1 && decide (x.2 < 8192))
  | .lockstep => true
  | .returnEnd => true
  | .autoReturn => true
  | .heartbeat _ => true
  | .faultMessage cls inst kind plane count addr => decide (cls < 16) && decide (inst < 256) && decide (kind < 256) && decide (plane < 2) && isByte count && isWord addr
  | .endReport cls inst kind plane count addr => decide (cls < 16) && decide (inst < 256) && decide (kind < 256) && decide (plane < 2) && isByte count && isWord addr
  | .clearFirst r => r.wf
  | .fcAck r slots => r.wf && decide (slots < 4)
  | .fcUnfence r unit index => r.wf && decide (unit < 8) && decide (index < 128)
  | .coreRestart _ => true
  | .watchdog _ => true
  | .trngHealth => true
  | .sensorRound counts => counts.all (fun x => decide (x.1 < 96) && decide (x.2 < 65536))
  | .sensorFail sensor cause => decide (sensor < 96) && decide (cause < 4)
  | .analogTrip => true
  | .tripHalt => true
  | .deepSleepSensor count => decide (count < 65536)
  | .domainStop _ => true
  | .wakeNLow _ => true
  | .clockAlarm => true
  | .laneWake lane => isLane lane
  | .loopsResume banks sets => banks.all (fun x => isTile x.2) && sets.all (decide <| · < 96)
  | .domainWakeOnDemand domain => decide (domain < 96)
  | .wakeStall domain _ => decide (domain < 96)
  | .reset _ _ => true
  | .startUp bootMode pos sba _ flash => decide (bootMode < 4) && decide (pos < 16) && decide (sba < 8) && flash.all isFlash
  | .selftestDone _ bank _ => bank.all (fun x => isTile x.1 && decide (x.2 < 8192))
  | .loadInRise => true
  | .firstPassTimeout => true
  | .passReadEnd slot _ flash => decide (slot < 2) && flash.all isFlash
  | .secondPass => true
  | .runEntry _ => true
  | .locked _ => true
  | .bootStatusRx pos serial state slot sec digest => decide (pos < 16) && decide (serial < 2 ^ 64) && decide (state < 8) && decide (slot < 4) && decide (sec < 65536) && decide (digest < 2 ^ 64)
  | .passRequestRx => true
  | .passRequestRetry => true
  | .pmErase => true
  | .norRead r length => r.wf && decide (length < 512)
  | .norProgram r length => r.wf && decide (length < 512)
  | .norErase r length => r.wf && decide (length < 512)
  | .norOpDone flash => flash.all isFlash
  | .btReboot r slot => r.wf && decide (slot < 4)
  | .rebootReset => true
  | .modeApply => true
  | .rtRemapWrite r logical _ => r.wf && decide (logical < 16384)
  | .snapshotLoRead r addr => r.wf && isWord addr
  | .rcRead r addr words => r.wf && isWord addr && decide (words ≤ 64)
  | .registerWrite r addr data => r.wf && isWord addr && data.all isWord && decide (data.length ≤ 64)
  | .loadInFall => true
  | .deviceReady => true
  | .domainReady domain => decide (domain < 96)
  | .refclkLoss => true

end Sys2Proof
end

