-- ==== Sys2Proof/Machine/RowsBoundary.lean ====
section
/-! DEFINITION. Machine/RowsBoundary.lean: the boundary of a frame, the admission points, the release deadline, a mode that comes into force (chapters 1 and 2). -/

namespace Sys2Proof.Machine

open Sys2Proof

/-- FRAME_BOUNDARY (R26). -/
def execFrameBoundary (x : FrameIn) (s : State) : Host.Outcome State Fault Refusal :=
  gated (Instr.frameBoundary x).wf "FRAME_BOUNDARY" ((s.frameBoundary x).noteMortem s)

/-- OFFER_INSTANT (R27). -/
def execOfferInstant (s : State) : Host.Outcome State Fault Refusal :=
  gated Instr.offerInstant.wf "OFFER_INSTANT" (s.when s.clocked State.offer)

/-- ADMISSION_POINT (R27). -/
def execAdmissionPoint (differ : Bool) (s : State) : Host.Outcome State Fault Refusal :=
  gated (Instr.admissionPoint differ).wf "ADMISSION_POINT" ((s.admissionPoint differ).noteMortem s)

/-- RELEASE_DEADLINE (R28). -/
def execReleaseDeadline (overran : List Nat) (margins : List (Nat × Nat)) (found : List Mismatch) (replayed : List Mismatch) (s : State) : Host.Outcome State Fault Refusal :=
  gated (Instr.releaseDeadline overran margins found replayed).wf "RELEASE_DEADLINE" (s.releaseDeadline overran margins found replayed)

/-- MODE_APPLY (R5). -/
def execModeApply (s : State) : Host.Outcome State Fault Refusal :=
  gated Instr.modeApply.wf "MODE_APPLY" (s.when s.clocked State.modeApply)

end Sys2Proof.Machine
end

