-- ==== Sys2Proof/Machine/RowsCalibrate.lean ====
section
/-! DEFINITION. Machine/RowsCalibrate.lean: calibration runs and SURVEY sweeps (chapter 9). -/

namespace Sys2Proof.Machine

open Sys2Proof

/-- TL_CAL_REQ (R225). -/
def execTlCalReq (r : Requester) (tile : Nat) (s : State) : Host.Outcome State Fault Refusal :=
  gated (Instr.tlCalReq r tile).wf "TL_CAL_REQ" (s.writeFields r (A.TL_CAL_CTRL tile) [(R.TL_CAL_CTRL_REQ tile, 1)])

/-- TIA_REQ (R223). -/
def execTiaReq (r : Requester) (tile : Nat) (s : State) : Host.Outcome State Fault Refusal :=
  gated (Instr.tiaReq r tile).wf "TIA_REQ" (s.writeFields r (A.TL_CAL_CTRL tile) [(R.TL_CAL_CTRL_TIA_REQ tile, 1)])

/-- CAL_ALL (R225). -/
def execCalAll (r : Requester) (s : State) : Host.Outcome State Fault Refusal :=
  gated (Instr.calAll r).wf "CAL_ALL" (s.writeFields r A.CAL_CTRL [(R.CAL_CTRL_ALL, 1)])

/-- TILE_RUN_START (R225). -/
def execTileRunStart (tile : Nat) (s : State) : Host.Outcome State Fault Refusal :=
  gated (Instr.tileRunStart tile).wf "TILE_RUN_START" (s.when s.clocked (·.tileRunStart tile))

/-- TILE_RUN_END (R225). -/
def execTileRunEnd (tile : Nat) (s : State) : Host.Outcome State Fault Refusal :=
  gated (Instr.tileRunEnd tile).wf "TILE_RUN_END" (s.tileRunEnd tile)

/-- SV_START (R234). -/
def execSvStart (r : Requester) (s : State) : Host.Outcome State Fault Refusal :=
  gated (Instr.svStart r).wf "SV_START" (s.writeFields r A.SV_CTRL [(R.SV_CTRL_START, 1)])

/-- SV_ABORT (R234). -/
def execSvAbort (r : Requester) (s : State) : Host.Outcome State Fault Refusal :=
  gated (Instr.svAbort r).wf "SV_ABORT" (s.writeFields r A.SV_CTRL [(R.SV_CTRL_ABORT, 1)])

/-- SWEEP_POINT (R235). -/
def execSweepPoint (s : State) : Host.Outcome State Fault Refusal :=
  gated Instr.sweepPoint.wf "SWEEP_POINT" (s.sweepPoint)

/-- SWEEP_END (R236). -/
def execSweepEnd (s : State) : Host.Outcome State Fault Refusal :=
  gated Instr.sweepEnd.wf "SWEEP_END" (s.sweepEnd)

end Sys2Proof.Machine
end

