-- ==== Sys2Proof/Machine/RowsClimate.lean ====
section
/-! DEFINITION. Machine/RowsClimate.lean: temperature, trips, power states (chapter 16). -/

namespace Sys2Proof.Machine

open Sys2Proof

/-- SENSOR_ROUND (R389). -/
def execSensorRound (counts : List (Nat × Nat)) (s : State) : Host.Outcome State Fault Refusal :=
  gated (Instr.sensorRound counts).wf "SENSOR_ROUND" ((s.when s.awake (·.roundRow counts)).noteMortem s)

/-- SENSOR_FAIL (R390). -/
def execSensorFail (sensor : Nat) (cause : Nat) (s : State) : Host.Outcome State Fault Refusal :=
  gated (Instr.sensorFail sensor cause).wf "SENSOR_FAIL"
    (s.when (s.awake && !s.sensorFailed sensor && !s.masked sensor) (·.failSensor sensor cause))

/-- ANALOG_TRIP (R396). -/
def execAnalogTrip (s : State) : Host.Outcome State Fault Refusal :=
  gated Instr.analogTrip.wf "ANALOG_TRIP" ((s.when s.sbAnswers (·.tripNow true)).noteMortem s)

/-- TRIP_HALT (R397). -/
def execTripHalt (s : State) : Host.Outcome State Fault Refusal :=
  gated Instr.tripHalt.wf "TRIP_HALT" (s.tripHalt)

/-- DEEP_SLEEP_SENSOR (R403). -/
def execDeepSleepSensor (count : Nat) (s : State) : Host.Outcome State Fault Refusal :=
  gated (Instr.deepSleepSensor count).wf "DEEP_SLEEP_SENSOR" (s.when (decide (s.power = .deepSleep)) (·.deepSensor count))

/-- DOMAIN_STOP (R401). -/
def execDomainStop (veto : Bool) (s : State) : Host.Outcome State Fault Refusal :=
  gated (Instr.domainStop veto).wf "DOMAIN_STOP" (s.domainStop veto).enterOff

/-- WAKE_N_LOW (R403). -/
def execWakeNLow (us : Nat) (s : State) : Host.Outcome State Fault Refusal :=
  gated (Instr.wakeNLow us).wf "WAKE_N_LOW" (s.wakeN us)

/-- CLOCK_ALARM (R403). -/
def execClockAlarm (s : State) : Host.Outcome State Fault Refusal :=
  gated Instr.clockAlarm.wf "CLOCK_ALARM" (s.when s.sbAnswers State.clockAlarm)

/-- LANE_WAKE (R403). -/
def execLaneWake (lane : Nat) (s : State) : Host.Outcome State Fault Refusal :=
  gated (Instr.laneWake lane).wf "LANE_WAKE" (s.laneWake lane)

/-- LOOPS_RESUME (R405). -/
def execLoopsResume (banks : List (Plane × Nat)) (sets : List Nat) (s : State) : Host.Outcome State Fault Refusal :=
  gated (Instr.loopsResume banks sets).wf "LOOPS_RESUME" (s.loopsResume banks sets)

/-- DOMAIN_WAKE_ON_DEMAND (R399). -/
def execDomainWakeOnDemand (domain : Nat) (s : State) : Host.Outcome State Fault Refusal :=
  gated (Instr.domainWakeOnDemand domain).wf "DOMAIN_WAKE_ON_DEMAND" (s.when s.awake (·.wakeDomain domain))

/-- WAKE_STALL (R399). -/
def execWakeStall (domain : Nat) (us : Nat) (s : State) : Host.Outcome State Fault Refusal :=
  gated (Instr.wakeStall domain us).wf "WAKE_STALL" (s.when s.awake (·.wakeStall domain us))

/-- DOMAIN_READY (R399). -/
def execDomainReady (domain : Nat) (s : State) : Host.Outcome State Fault Refusal :=
  gated (Instr.domainReady domain).wf "DOMAIN_READY" (s.when s.awake (·.domainReady domain))

end Sys2Proof.Machine
end

