-- ==== Sys2Proof/Machine/RowsClocks.lean ====
section
/-! DEFINITION. Machine/RowsClocks.lean: time domains, fabric time, time-stamps, the Apsin ring (chapter 12). -/

namespace Sys2Proof.Machine

open Sys2Proof

/-- TD_RATE_WRITE (R290). -/
def execTdRateWrite (r : Requester) (domain : Nat) (low : Nat) (s : State) : Host.Outcome State Fault Refusal :=
  gated (Instr.tdRateWrite r domain low).wf "TD_RATE_WRITE" (s.regWrite r (A.FT_TD_INCR_LO domain) [low])

/-- TD_SET (R290). -/
def execTdSet (r : Requester) (domain : Nat) (ns : Nat) (s : State) : Host.Outcome State Fault Refusal :=
  gated (Instr.tdSet r domain ns).wf "TD_SET" (s.regWrite r (A.FT_TD_SET_NS domain) [ns])

/-- TD_ADJUST (R290). -/
def execTdAdjust (r : Requester) (domain : Nat) (ns : Int) (s : State) : Host.Outcome State Fault Refusal :=
  gated (Instr.tdAdjust r domain ns).wf "TD_ADJUST" (s.regWrite r (A.FT_TD_ADJ domain) [unsigned 32 ns])

/-- TIME_CAPTURE (R291). -/
def execTimeCapture (r : Requester) (s : State) : Host.Outcome State Fault Refusal :=
  gated (Instr.timeCapture r).wf "TIME_CAPTURE" (s.writeFields r A.FT_CTRL [(R.FT_CTRL_CAPTURE, 1)])

/-- ALIGN (R297). -/
def execAlign (r : Requester) (s : State) : Host.Outcome State Fault Refusal :=
  gated (Instr.align r).wf "ALIGN" (s.writeFields r A.FT_CTRL [(R.FT_CTRL_ALIGN, 1)])

/-- ALIGNMENT_GAP_END (R297). -/
def execAlignmentGapEnd (s : State) : Host.Outcome State Fault Refusal :=
  gated Instr.alignmentGapEnd.wf "ALIGNMENT_GAP_END" (s.gapEnd)

/-- HOLDOVER (R294). -/
def execHoldover (domain : Nat) (s : State) : Host.Outcome State Fault Refusal :=
  gated (Instr.holdover domain).wf "HOLDOVER" (s.holdover domain)

/-- AUTO_SWITCH (R295). -/
def execAutoSwitch (s : State) : Host.Outcome State Fault Refusal :=
  gated Instr.autoSwitch.wf "AUTO_SWITCH" (s.autoSwitch)

/-- FCLK_LOCK (R296). -/
def execFclkLock (s : State) : Host.Outcome State Fault Refusal :=
  gated Instr.fclkLock.wf "FCLK_LOCK" (s.fclkLock)

/-- PPS_EDGE (R303). -/
def execPpsEdge (stamp : Stamp) (s : State) : Host.Outcome State Fault Refusal :=
  gated (Instr.ppsEdge stamp).wf "PPS_EDGE" (s.when s.awake (·.ppsEdge stamp))

/-- PPS_GAP (R303). -/
def execPpsGap (s : State) : Host.Outcome State Fault Refusal :=
  gated Instr.ppsGap.wf "PPS_GAP" (s.when s.awake State.ppsGap)

/-- PPS_OUT_EDGE (R304). -/
def execPpsOutEdge (s : State) : Host.Outcome State Fault Refusal :=
  gated Instr.ppsOutEdge.wf "PPS_OUT_EDGE" (s.when s.awake State.ppsOutEdge)

/-- TS_POP (R301). -/
def execTsPop (r : Requester) (source : Nat) (s : State) : Host.Outcome State Fault Refusal :=
  gated (Instr.tsPop r source).wf "TS_POP" (s.regRead r (A.FT_TS_POP source 0) 1)

/-- BEACON_RX (R305). -/
def execBeaconRx (port : Nat) (b : Beacon) (rx : Stamp) (rx0 : Stamp) (rx1 : Stamp) (residence : Int) (tx : Stamp) (s : State) : Host.Outcome State Fault Refusal :=
  gated (Instr.beaconRx port b rx rx0 rx1 residence tx).wf "BEACON_RX"
    (s.when (s.awake && !s.miscFenced (8 + port)) (·.beaconRx port b rx [rx0, rx1] residence tx))

/-- BEACON_PORT_SWITCH (R305). -/
def execBeaconPortSwitch (s : State) : Host.Outcome State Fault Refusal :=
  gated Instr.beaconPortSwitch.wf "BEACON_PORT_SWITCH" (s.beaconSwitch)

/-- LINK_MESSAGE_RX (R306). -/
def execLinkMessageRx (port : Nat) (t1 : Int) (t2 : Int) (t3 : Int) (t4 : Int) (frame : Nat) (hops : Nat) (rx : Stamp) (tx : Stamp) (s : State) : Host.Outcome State Fault Refusal :=
  gated (Instr.linkMessageRx port t1 t2 t3 t4 frame hops rx tx).wf "LINK_MESSAGE_RX"
    (s.when (s.awake && !s.miscFenced (8 + port)) (·.linkMessage port t1 t2 t3 t4 frame hops rx tx))

/-- RING_LOST (R306). -/
def execRingLost (port : Nat) (s : State) : Host.Outcome State Fault Refusal :=
  gated (Instr.ringLost port).wf "RING_LOST" (s.ringLost port)

/-- RING_LOCK (R307). -/
def execRingLock (domain : Nat) (s : State) : Host.Outcome State Fault Refusal :=
  gated (Instr.ringLock domain).wf "RING_LOCK" (s.ringLock domain)

/-- APSIN_LINK_DOWN (R369). -/
def execApsinLinkDown (port : Nat) (s : State) : Host.Outcome State Fault Refusal :=
  gated (Instr.apsinLinkDown port).wf "APSIN_LINK_DOWN" (s.when s.awake (·.apsinDown port))

/-- REFCLK_LOSS (R298). -/
def execRefclkLoss (s : State) : Host.Outcome State Fault Refusal :=
  gated Instr.refclkLoss.wf "REFCLK_LOSS" (s.refclkLoss)

end Sys2Proof.Machine
end

