-- ==== Sys2Proof/Machine/RowsCollectors.lean ====
section
/-! DEFINITION. Machine/RowsCollectors.lean: fault messages and their collection (chapter 15). -/

namespace Sys2Proof.Machine

open Sys2Proof

/-- FAULT_MESSAGE (R367). -/
def execFaultMessage (cls : Nat) (inst : Nat) (kind : Nat) (plane : Nat) (count : Nat) (addr : Nat) (s : State) : Host.Outcome State Fault Refusal :=
  gated (Instr.faultMessage cls inst kind plane count addr).wf "FAULT_MESSAGE"
    (s.faultMessage { cls := cls, inst := inst, kind := kind, plane := plane, count := count, addr := addr })

/-- END_REPORT (R378). -/
def execEndReport (cls : Nat) (inst : Nat) (kind : Nat) (plane : Nat) (count : Nat) (addr : Nat) (s : State) : Host.Outcome State Fault Refusal :=
  gated (Instr.endReport cls inst kind plane count addr).wf "END_REPORT"
    (s.endMessage { cls := cls, inst := inst, kind := kind, plane := plane, count := count, addr := addr })

/-- CLEAR_FIRST (R377). -/
def execClearFirst (r : Requester) (s : State) : Host.Outcome State Fault Refusal :=
  gated (Instr.clearFirst r).wf "CLEAR_FIRST" (s.writeFields r A.FC_CTRL [(R.FC_CTRL_CLEAR_FIRST, 1)])

/-- FC_ACK (R381). -/
def execFcAck (r : Requester) (slots : Nat) (s : State) : Host.Outcome State Fault Refusal :=
  gated (Instr.fcAck r slots).wf "FC_ACK" (s.regWrite r A.FC_ACK [slots])

/-- FC_UNFENCE (R384). -/
def execFcUnfence (r : Requester) (unit : Nat) (index : Nat) (s : State) : Host.Outcome State Fault Refusal :=
  gated (Instr.fcUnfence r unit index).wf "FC_UNFENCE"
    (s.writeFields r A.FC_UNFENCE [(R.FC_UNFENCE_UNIT, unit), (R.FC_UNFENCE_INDEX, index), (R.FC_UNFENCE_GO, 1)])

/-- CORE_RESTART (R383). -/
def execCoreRestart (plane : Plane) (s : State) : Host.Outcome State Fault Refusal :=
  gated (Instr.coreRestart plane).wf "CORE_RESTART" (s.coreRestart plane)

/-- WATCHDOG (R369). -/
def execWatchdog (plane : Plane) (s : State) : Host.Outcome State Fault Refusal :=
  gated (Instr.watchdog plane).wf "WATCHDOG" (s.watchdog plane)

/-- TRNG_HEALTH (R369). -/
def execTrngHealth (s : State) : Host.Outcome State Fault Refusal :=
  gated Instr.trngHealth.wf "TRNG_HEALTH" (s.trngHealth)

end Sys2Proof.Machine
end

