-- ==== Sys2Proof/Machine/RowsGenerators.lean ====
section
/-! DEFINITION. Machine/RowsGenerators.lean: the Stencil generators, their instructions, memory tests (chapter 7). -/

namespace Sys2Proof.Machine

open Sys2Proof

/-- ST_ARM (R184). -/
def execStArm (r : Requester) (gen : Nat) (s : State) : Host.Outcome State Fault Refusal :=
  gated (Instr.stArm r gen).wf "ST_ARM" (s.writeFields r (A.ST_CTRL gen) [(R.ST_CTRL_ARM gen, 1)])

/-- ST_START (R184). -/
def execStStart (r : Requester) (gen : Nat) (s : State) : Host.Outcome State Fault Refusal :=
  gated (Instr.stStart r gen).wf "ST_START" (s.writeFields r (A.ST_CTRL gen) [(R.ST_CTRL_START gen, 1)])

/-- ST_HALT (R185). -/
def execStHalt (r : Requester) (gen : Nat) (s : State) : Host.Outcome State Fault Refusal :=
  gated (Instr.stHalt r gen).wf "ST_HALT" (s.writeFields r (A.ST_CTRL gen) [(R.ST_CTRL_HALT gen, 1)])

/-- EVT_EDGE_TRIGGER (R184). -/
def execEvtEdgeTrigger (evt : Nat) (rising : Bool) (s : State) : Host.Outcome State Fault Refusal :=
  gated (Instr.evtEdgeTrigger evt rising).wf "EVT_EDGE_TRIGGER" (s.when s.clocked (·.evtEdge evt rising))

/-- FRAME_TRIGGER (R184). -/
def execFrameTrigger (inst : Nat) (s : State) : Host.Outcome State Fault Refusal :=
  gated (Instr.frameTrigger inst).wf "FRAME_TRIGGER" (s.when s.clocked (·.frameTrigger inst))

/-- STOP (R186). -/
def execStop (inst : Nat) (s : State) : Host.Outcome State Fault Refusal :=
  gated (Instr.stop inst).wf "STOP" (s.genStop inst)

/-- LDA (R186). -/
def execLda (inst : Nat) (s : State) : Host.Outcome State Fault Refusal :=
  gated (Instr.lda inst).wf "LDA" (s.runOp inst 0x01 genLda)

/-- LDD (R186). -/
def execLdd (inst : Nat) (s : State) : Host.Outcome State Fault Refusal :=
  gated (Instr.ldd inst).wf "LDD" (s.runOp inst 0x02 genLdd)

/-- ADDA (R186). -/
def execAdda (inst : Nat) (s : State) : Host.Outcome State Fault Refusal :=
  gated (Instr.adda inst).wf "ADDA" (s.runOp inst 0x03 genAdda)

/-- EMIT (R186). -/
def execEmit (inst : Nat) (s : State) : Host.Outcome State Fault Refusal :=
  gated (Instr.emit inst).wf "EMIT" (s.runOp inst 0x04 genEmit)

/-- RAMP (R186). -/
def execRamp (inst : Nat) (s : State) : Host.Outcome State Fault Refusal :=
  gated (Instr.ramp inst).wf "RAMP" (s.runOp inst 0x05 genRamp)

/-- TABLE (R186). -/
def execTable (inst : Nat) (s : State) : Host.Outcome State Fault Refusal :=
  gated (Instr.table inst).wf "TABLE" (s.runOp inst 0x06 (s.genTable inst))

/-- PRBS (R186). -/
def execPrbs (inst : Nat) (s : State) : Host.Outcome State Fault Refusal :=
  gated (Instr.prbs inst).wf "PRBS" (s.free.2.runOp inst 0x07 (genPrbs (signed 16 s.free.1)))

/-- LDC (R186). -/
def execLdc (inst : Nat) (s : State) : Host.Outcome State Fault Refusal :=
  gated (Instr.ldc inst).wf "LDC" (s.runOp inst 0x08 genLdc)

/-- LOOP (R186). -/
def execLoop (inst : Nat) (s : State) : Host.Outcome State Fault Refusal :=
  gated (Instr.loop inst).wf "LOOP" (s.runOp inst 0x09 genLoop)

/-- JMP (R186). -/
def execJmp (inst : Nat) (s : State) : Host.Outcome State Fault Refusal :=
  gated (Instr.jmp inst).wf "JMP" (s.runOp inst 0x0A genJmp)

/-- BR (R187). -/
def execBr (inst : Nat) (s : State) : Host.Outcome State Fault Refusal :=
  gated (Instr.br inst).wf "BR" (s.genBr inst)

/-- WAIT (R187). -/
def execWait (inst : Nat) (s : State) : Host.Outcome State Fault Refusal :=
  gated (Instr.wait inst).wf "WAIT" (s.genWait inst)

/-- ILLEGAL (R185). -/
def execIllegal (inst : Nat) (s : State) : Host.Outcome State Fault Refusal :=
  gated (Instr.illegal inst).wf "ILLEGAL" (s.genIllegal inst)

/-- RUNAWAY (R185). -/
def execRunaway (inst : Nat) (s : State) : Host.Outcome State Fault Refusal :=
  gated (Instr.runaway inst).wf "RUNAWAY" (s.genRunaway inst)

/-- MT_START (R191). -/
def execMtStart (r : Requester) (s : State) : Host.Outcome State Fault Refusal :=
  gated (Instr.mtStart r).wf "MT_START" (s.writeFields r A.MT_CTRL [(R.MT_CTRL_START, 1)])

/-- MT_ABORT (R193). -/
def execMtAbort (r : Requester) (s : State) : Host.Outcome State Fault Refusal :=
  gated (Instr.mtAbort r).wf "MT_ABORT" (s.writeFields r A.MT_CTRL [(R.MT_CTRL_ABORT, 1)])

/-- MTEST_DONE (R192). -/
def execMtestDone (plane : Plane) (fails : Nat) (addr : Nat) (element : Nat) (diff : Nat) (check : Nat) (s : State) : Host.Outcome State Fault Refusal :=
  gated (Instr.mtestDone plane fails addr element diff check).wf "MTEST_DONE" (s.mtDone plane fails addr element diff check)

end Sys2Proof.Machine
end

