-- ==== Sys2Proof/Machine/RowsKeys.lean ====
section
/-! DEFINITION. Machine/RowsKeys.lean: keys, protection changes, provisioning (chapter 13). -/

namespace Sys2Proof.Machine

open Sys2Proof

/-- MTP_WRITE_DONE (R315). -/
def execMtpWriteDone (good : Bool) (s : State) : Host.Outcome State Fault Refusal :=
  gated (Instr.mtpWriteDone good).wf "MTP_WRITE_DONE" ((s.mtpDone good).sessionFixed s)

/-- KEY_ROLL_APPLY (R316). -/
def execKeyRollApply (principal : Nat) (s : State) : Host.Outcome State Fault Refusal :=
  gated (Instr.keyRollApply principal).wf "KEY_ROLL_APPLY" (s.keyRollApply principal)

/-- GRACE_END (R316). -/
def execGraceEnd (principal : Nat) (s : State) : Host.Outcome State Fault Refusal :=
  gated (Instr.graceEnd principal).wf "GRACE_END" (s.graceEnd principal)

/-- PROTECT_APPLY (R322). -/
def execProtectApply (s : State) : Host.Outcome State Fault Refusal :=
  gated Instr.protectApply.wf "PROTECT_APPLY" (s.protectApply)

/-- PROTECT_EXPIRE (R323). -/
def execProtectExpire (s : State) : Host.Outcome State Fault Refusal :=
  gated Instr.protectExpire.wf "PROTECT_EXPIRE" (s.protectExpire)

/-- ATTIC_PROV_GO (R318). -/
def execAtticProvGo (r : Requester) (s : State) : Host.Outcome State Fault Refusal :=
  gated (Instr.atticProvGo r).wf "ATTIC_PROV_GO" (s.regWrite r A.ATTIC_PROV_GO [1])

end Sys2Proof.Machine
end

