-- ==== Sys2Proof/Machine/RowsKolrok.lean ====
section
/-! DEFINITION. Machine/RowsKolrok.lean: the Kolrok commands (chapter 10 and the chapters of their subjects). -/

namespace Sys2Proof.Machine

open Sys2Proof

/-- PING (R256). -/
def execPing (h : CmdHead) (s : State) : Host.Outcome State Fault Refusal :=
  gated (Instr.ping h).wf "PING" (s.command h (.ping))

/-- SUMMARY (R260). -/
def execSummary (h : CmdHead) (challenge : List Nat) (s : State) : Host.Outcome State Fault Refusal :=
  gated (Instr.summary h challenge).wf "SUMMARY" (s.command h (.summary challenge))

/-- FENCE (R101). -/
def execFence (h : CmdHead) (s : State) : Host.Outcome State Fault Refusal :=
  gated (Instr.fence h).wf "FENCE" (s.command h (.fence))

/-- READ (R256). -/
def execRead (h : CmdHead) (addr : Nat) (words : Nat) (s : State) : Host.Outcome State Fault Refusal :=
  gated (Instr.read h addr words).wf "READ" (s.command h (.read addr words))

/-- WRITE (R256). -/
def execWrite (h : CmdHead) (addr : Nat) (data : List Nat) (s : State) : Host.Outcome State Fault Refusal :=
  gated (Instr.write h addr data).wf "WRITE" (s.command h (.write addr data))

/-- CONNECT (R54). -/
def execConnect (h : CmdHead) (inp : Nat) (out : Nat) (s : State) : Host.Outcome State Fault Refusal :=
  gated (Instr.connect h inp out).wf "CONNECT" (s.command h (.connect inp out))

/-- DISCONNECT (R54). -/
def execDisconnect (h : CmdHead) (inp : Nat) (out : Nat) (s : State) : Host.Outcome State Fault Refusal :=
  gated (Instr.disconnect h inp out).wf "DISCONNECT" (s.command h (.disconnect inp out))

/-- STAGE (R73). -/
def execStage (h : CmdHead) (id : Nat) (part : Nat) (parts : Nat) (entries : List (Nat × Nat)) (s : State) : Host.Outcome State Fault Refusal :=
  gated (Instr.stage h id part parts entries).wf "STAGE" (s.command h (.stage id part parts entries))

/-- SET_ELEMENT (R68). -/
def execSetElement (h : CmdHead) (element : Nat) (state : Nat) (s : State) : Host.Outcome State Fault Refusal :=
  gated (Instr.setElement h element state).wf "SET_ELEMENT" (s.command h (.setElement element state))

/-- COMMIT (R74). -/
def execCommit (h : CmdHead) (kind : Nat) (chip : Nat) (token : Nat) (mask : Nat) (frame : Nat) (s : State) : Host.Outcome State Fault Refusal :=
  gated (Instr.commit h kind chip token mask frame).wf "COMMIT" (s.command h (.commit kind chip token mask frame))

/-- ABORT (R77). -/
def execAbort (h : CmdHead) (sFrame : Nat) (sChip : Nat) (s : State) : Host.Outcome State Fault Refusal :=
  gated (Instr.abort h sFrame sChip).wf "ABORT" (s.command h (.abort sFrame sChip))

/-- REMAP (R48). -/
def execRemap (h : CmdHead) (logical : Nat) (useAlt : Nat) (s : State) : Host.Outcome State Fault Refusal :=
  gated (Instr.remap h logical useAlt).wf "REMAP" (s.command h (.remap logical useAlt))

/-- CTX_READ (R256). -/
def execCtxRead (h : CmdHead) (ctx : Nat) (first : Nat) (words : Nat) (s : State) : Host.Outcome State Fault Refusal :=
  gated (Instr.ctxRead h ctx first words).wf "CTX_READ" (s.command h (.ctxRead ctx first words))

/-- CTX_WRITE (R149). -/
def execCtxWrite (h : CmdHead) (ctx : Nat) (first : Nat) (data : List Nat) (s : State) : Host.Outcome State Fault Refusal :=
  gated (Instr.ctxWrite h ctx first data).wf "CTX_WRITE" (s.command h (.ctxWrite ctx first data))

/-- CTX_STATE (R153). -/
def execCtxState (h : CmdHead) (ctx : Nat) (state : Nat) (s : State) : Host.Outcome State Fault Refusal :=
  gated (Instr.ctxState h ctx state).wf "CTX_STATE" (s.command h (.ctxState ctx state))

/-- GUARD_WRITE (R213). -/
def execGuardWrite (h : CmdHead) (tile : Nat) (offset : Nat) (value : Nat) (s : State) : Host.Outcome State Fault Refusal :=
  gated (Instr.guardWrite h tile offset value).wf "GUARD_WRITE" (s.command h (.guardWrite tile offset value))

/-- PRIMER_WRITE (R218). -/
def execPrimerWrite (h : CmdHead) (tile : Nat) (offset : Nat) (value : Nat) (s : State) : Host.Outcome State Fault Refusal :=
  gated (Instr.primerWrite h tile offset value).wf "PRIMER_WRITE" (s.command h (.primerWrite tile offset value))

/-- PRIMER_APPLY (R219). -/
def execPrimerApply (h : CmdHead) (tiles : Nat) (s : State) : Host.Outcome State Fault Refusal :=
  gated (Instr.primerApply h tiles).wf "PRIMER_APPLY" (s.command h (.primerApply tiles))

/-- TILE_RESUME (R221). -/
def execTileResume (h : CmdHead) (tiles : Nat) (s : State) : Host.Outcome State Fault Refusal :=
  gated (Instr.tileResume h tiles).wf "TILE_RESUME" (s.command h (.tileResume tiles))

/-- HKA_INJECT (R128). -/
def execHkaInject (h : CmdHead) (channel : Nat) (tag : Nat) (s : State) : Host.Outcome State Fault Refusal :=
  gated (Instr.hkaInject h channel tag).wf "HKA_INJECT" (s.command h (.hkaInject channel tag))

/-- CALIBRATE (R225). -/
def execCalibrate (h : CmdHead) (tiles : Nat) (s : State) : Host.Outcome State Fault Refusal :=
  gated (Instr.calibrate h tiles).wf "CALIBRATE" (s.command h (.calibrate tiles))

/-- STENCIL_START (R184). -/
def execStencilStart (h : CmdHead) (gen : Nat) (s : State) : Host.Outcome State Fault Refusal :=
  gated (Instr.stencilStart h gen).wf "STENCIL_START" (s.command h (.stencilStart gen))

/-- MODE (R5). -/
def execMode (h : CmdHead) (code : Nat) (frame : Nat) (s : State) : Host.Outcome State Fault Refusal :=
  gated (Instr.mode h code frame).wf "MODE" (s.command h (.mode code frame))

/-- POWER (R400). -/
def execPower (h : CmdHead) (state : Nat) (s : State) : Host.Outcome State Fault Refusal :=
  gated (Instr.power h state).wf "POWER" (s.command h (.power state))

/-- DRILL (R356). -/
def execDrill (h : CmdHead) (frame : Nat) (s : State) : Host.Outcome State Fault Refusal :=
  gated (Instr.drill h frame).wf "DRILL" (s.command h (.drill frame))

/-- REBOOT (R434). -/
def execReboot (h : CmdHead) (slot : Nat) (s : State) : Host.Outcome State Fault Refusal :=
  gated (Instr.reboot h slot).wf "REBOOT" (s.command h (.reboot slot))

/-- PROTECT_ARM (R319). -/
def execProtectArm (h : CmdHead) (body : ArmBody) (s : State) : Host.Outcome State Fault Refusal :=
  gated (Instr.protectArm h body).wf "PROTECT_ARM" (s.command h (.protectArm body))

/-- PROTECT_COMMIT (R320). -/
def execProtectCommit (h : CmdHead) (armId : Nat) (digest : Nat) (frame : Nat) (s : State) : Host.Outcome State Fault Refusal :=
  gated (Instr.protectCommit h armId digest frame).wf "PROTECT_COMMIT" (s.command h (.protectCommit armId digest frame))

/-- KEY_INSTALL (R315). -/
def execKeyInstall (h : CmdHead) (principal : Nat) (which : Nat) (wrapped : List Nat) (s : State) : Host.Outcome State Fault Refusal :=
  gated (Instr.keyInstall h principal which wrapped).wf "KEY_INSTALL" (s.command h (.keyInstall principal which wrapped))

/-- KEY_ROLL (R316). -/
def execKeyRoll (h : CmdHead) (principal : Nat) (frame : Nat) (s : State) : Host.Outcome State Fault Refusal :=
  gated (Instr.keyRoll h principal frame).wf "KEY_ROLL" (s.command h (.keyRoll principal frame))

/-- FORWARD (R268). -/
def execForward (h : CmdHead) (pos : Nat) (frame : List Nat) (s : State) : Host.Outcome State Fault Refusal :=
  gated (Instr.forward h pos frame).wf "FORWARD" (s.command h (.forward pos frame))

end Sys2Proof.Machine
end

