-- ==== Sys2Proof/Machine/RowsLanes.lean ====
section
/-! DEFINITION. Machine/RowsLanes.lean: the host lanes and the frames forwarded over the ring (chapter 10). -/

namespace Sys2Proof.Machine

open Sys2Proof

/-- KOLROK_FRAME_RX (R247). -/
def execKolrokFrameRx (lane : Nat) (bytes : List Nat) (stamp : Stamp) (s : State) : Host.Outcome State Fault Refusal :=
  gated (Instr.kolrokFrameRx lane bytes stamp).wf "KOLROK_FRAME_RX" (s.when s.awake (·.frameRx lane bytes stamp))

/-- ARP_REQUEST (R241). -/
def execArpRequest (lane : Nat) (bytes : List Nat) (s : State) : Host.Outcome State Fault Refusal :=
  gated (Instr.arpRequest lane bytes).wf "ARP_REQUEST" (s.when s.awake (·.arpRequest lane bytes))

/-- PTP_EVENT (R300). -/
def execPtpEvent (lane : Nat) (udp : Bool) (version : Nat) (messageType : Nat) (domain : Nat) (sequence : Nat) (port : Nat) (clock : Nat) (stamp : Stamp) (s : State) : Host.Outcome State Fault Refusal :=
  gated (Instr.ptpEvent lane udp version messageType domain sequence port clock stamp).wf "PTP_EVENT"
    (s.when s.awake (·.ptpEvent lane udp version messageType domain sequence port clock stamp))

/-- LANE_LINK_UP (R246). -/
def execLaneLinkUp (lane : Nat) (s : State) : Host.Outcome State Fault Refusal :=
  gated (Instr.laneLinkUp lane).wf "LANE_LINK_UP" (s.when s.awake (·.linkUp lane))

/-- LANE_LINK_DOWN (R369). -/
def execLaneLinkDown (lane : Nat) (fecOnly : Bool) (s : State) : Host.Outcome State Fault Refusal :=
  gated (Instr.laneLinkDown lane fecOnly).wf "LANE_LINK_DOWN" (s.when s.awake (·.linkDown lane fecOnly))

/-- HI_BER (R369). -/
def execHiBer (lane : Nat) (on : Bool) (s : State) : Host.Outcome State Fault Refusal :=
  gated (Instr.hiBer lane on).wf "HI_BER" (s.when s.awake (·.hiBer lane on))

/-- FRAME_TRANSMIT (R265). -/
def execFrameTransmit (lane : Nat) (pos : Nat) (stamp : Stamp) (s : State) : Host.Outcome State Fault Refusal :=
  gated (Instr.frameTransmit lane pos stamp).wf "FRAME_TRANSMIT" (s.when s.awake (·.frameTransmit lane pos stamp))

/-- FORWARDED_FRAME_RX (R268). -/
def execForwardedFrameRx (pos : Nat) (bytes : List Nat) (s : State) : Host.Outcome State Fault Refusal :=
  gated (Instr.forwardedFrameRx pos bytes).wf "FORWARDED_FRAME_RX" (s.ringMessage (·.forwardedRx pos bytes))

/-- FORWARDED_RESPONSE_RX (R268). -/
def execForwardedResponseRx (pos : Nat) (rseq : Nat) (bytes : List Nat) (s : State) : Host.Outcome State Fault Refusal :=
  gated (Instr.forwardedResponseRx pos rseq bytes).wf "FORWARDED_RESPONSE_RX" (s.ringMessage (·.forwardedResponse pos rseq bytes))

end Sys2Proof.Machine
end

