-- ==== Sys2Proof/Machine/RowsLoops.lean ====
section
/-! DEFINITION. Machine/RowsLoops.lean: what the loops find, and the Express words (chapters 1, 5, 6, 14). -/

namespace Sys2Proof.Machine

open Sys2Proof

/-- FEEDBACK_LOST (R147). -/
def execFeedbackLost (ctx : Nat) (s : State) : Host.Outcome State Fault Refusal :=
  gated (Instr.feedbackLost ctx).wf "FEEDBACK_LOST" (s.feedbackLost ctx)

/-- FEEDBACK_FROZEN (R147). -/
def execFeedbackFrozen (ctx : Nat) (s : State) : Host.Outcome State Fault Refusal :=
  gated (Instr.feedbackFrozen ctx).wf "FEEDBACK_FROZEN" (s.feedbackFrozen ctx)

/-- INPUT_INVALID (R113). -/
def execInputInvalid (ctx : Nat) (s : State) : Host.Outcome State Fault Refusal :=
  gated (Instr.inputInvalid ctx).wf "INPUT_INVALID" (s.inputInvalid ctx)

/-- FEEDBACK_OVERLOAD (R145). -/
def execFeedbackOverload (ctx : Nat) (s : State) : Host.Outcome State Fault Refusal :=
  gated (Instr.feedbackOverload ctx).wf "FEEDBACK_OVERLOAD" (s.feedbackOverload ctx)

/-- FOLLOWING (R167). -/
def execFollowing (ctx : Nat) (s : State) : Host.Outcome State Fault Refusal :=
  gated (Instr.following ctx).wf "FOLLOWING" (s.following ctx)

/-- AUTO_RESUME (R158). -/
def execAutoResume (ctx : Nat) (s : State) : Host.Outcome State Fault Refusal :=
  gated (Instr.autoResume ctx).wf "AUTO_RESUME" (s.autoResume ctx)

/-- EXPRESS_UPDATE (R31). -/
def execExpressUpdate (ctx : Nat) (chip : Nat) (codes : List Nat) (applied : Bool) (differ : Bool) (s : State) : Host.Outcome State Fault Refusal :=
  gated (Instr.expressUpdate ctx chip codes applied differ).wf "EXPRESS_UPDATE" (s.expressUpdate ctx chip codes applied differ)

/-- EXPRESS_OVERRUN (R31). -/
def execExpressOverrun (ctx : Nat) (chip : Nat) (s : State) : Host.Outcome State Fault Refusal :=
  gated (Instr.expressOverrun ctx chip).wf "EXPRESS_OVERRUN" (s.expressOverrun ctx chip)

/-- EXP_JUDGED (R353). -/
def execExpJudged (ctx : Nat) (s : State) : Host.Outcome State Fault Refusal :=
  gated (Instr.expJudged ctx).wf "EXP_JUDGED" (s.expJudged ctx)

end Sys2Proof.Machine
end

