-- ==== Sys2Proof/Machine/RowsOutputs.lean ====
section
/-! DEFINITION. Machine/RowsOutputs.lean: heater channels, fast drivers, the guard (chapter 8). -/

namespace Sys2Proof.Machine

open Sys2Proof

/-- HEATER_OPEN (R207). -/
def execHeaterOpen (channel : Nat) (s : State) : Host.Outcome State Fault Refusal :=
  gated (Instr.heaterOpen channel).wf "HEATER_OPEN" (s.heaterOpen channel)

/-- HEATER_SHORT (R207). -/
def execHeaterShort (channel : Nat) (s : State) : Host.Outcome State Fault Refusal :=
  gated (Instr.heaterShort channel).wf "HEATER_SHORT" (s.heaterShort channel)

/-- HEATER_LOAD (R205). -/
def execHeaterLoad (channel : Nat) (s : State) : Host.Outcome State Fault Refusal :=
  gated (Instr.heaterLoad channel).wf "HEATER_LOAD" (s.heaterLoad channel)

/-- DRIVER_OVERLOAD (R212). -/
def execDriverOverload (driver : Nat) (s : State) : Host.Outcome State Fault Refusal :=
  gated (Instr.driverOverload driver).wf "DRIVER_OVERLOAD" (s.when s.awake (·.driverOverload driver))

/-- GUARD_INTEGRITY (R217). -/
def execGuardIntegrity (tile : Nat) (s : State) : Host.Outcome State Fault Refusal :=
  gated (Instr.guardIntegrity tile).wf "GUARD_INTEGRITY" (s.when s.awake (·.guardIntegrity tile))

/-- STARVATION (R220). -/
def execStarvation (tile : Nat) (s : State) : Host.Outcome State Fault Refusal :=
  gated (Instr.starvation tile).wf "STARVATION" (s.when s.awake (·.starvation tile))

/-- TRIM_APPLY (R202). -/
def execTrimApply (channel : Nat) (s : State) : Host.Outcome State Fault Refusal :=
  gated (Instr.trimApply channel).wf "TRIM_APPLY" (s.trimApply channel)

/-- HTR_OFF_RELEASE (R207). -/
def execHtrOffRelease (r : Requester) (tile : Nat) (word : Nat) (mask : Nat) (s : State) : Host.Outcome State Fault Refusal :=
  gated (Instr.htrOffRelease r tile word mask).wf "HTR_OFF_RELEASE" (s.regWrite r (A.TL_HTR_OFF tile word) [mask])

/-- FD_OFF_RELEASE (R212). -/
def execFdOffRelease (r : Requester) (tile : Nat) (word : Nat) (mask : Nat) (s : State) : Host.Outcome State Fault Refusal :=
  gated (Instr.fdOffRelease r tile word mask).wf "FD_OFF_RELEASE" (s.regWrite r (A.TL_FD_OFF tile word) [mask])

/-- FD_LEVEL_WRITE (R210). -/
def execFdLevelWrite (r : Requester) (driver : Nat) (bar : Nat) (cross : Nat) (s : State) : Host.Outcome State Fault Refusal :=
  gated (Instr.fdLevelWrite r driver bar cross).wf "FD_LEVEL_WRITE"
    (s.regWrite r (A.TL_FD_LEVEL (driver / 128) (driver % 128)) [cross * 65536 + bar])

end Sys2Proof.Machine
end

