-- ==== Sys2Proof/Machine/RowsRegisters.lean ====
section
/-! DEFINITION. Machine/RowsRegisters.lean: register accesses with no row of their own (chapter 18). -/

namespace Sys2Proof.Machine

open Sys2Proof

/-- RT_REMAP_WRITE (R48). -/
def execRtRemapWrite (r : Requester) (logical : Nat) (useAlt : Bool) (s : State) : Host.Outcome State Fault Refusal :=
  gated (Instr.rtRemapWrite r logical useAlt).wf "RT_REMAP_WRITE" (s.regWrite r A.RT_REMAP [(if useAlt then 2 ^ 31 else 0) + logical])

/-- SNAPSHOT_LO_READ (R444). -/
def execSnapshotLoRead (r : Requester) (addr : Nat) (s : State) : Host.Outcome State Fault Refusal :=
  gated (Instr.snapshotLoRead r addr).wf "SNAPSHOT_LO_READ" (s.regRead r addr 1)

/-- RC_READ (R443). -/
def execRcRead (r : Requester) (addr : Nat) (words : Nat) (s : State) : Host.Outcome State Fault Refusal :=
  gated (Instr.rcRead r addr words).wf "RC_READ" (s.regRead r addr words)

/-- REGISTER_WRITE (R440). -/
def execRegisterWrite (r : Requester) (addr : Nat) (data : List Nat) (s : State) : Host.Outcome State Fault Refusal :=
  gated (Instr.registerWrite r addr data).wf "REGISTER_WRITE" (s.regWrite r addr data)

end Sys2Proof.Machine
end

