-- ==== Sys2Proof/Machine/RowsRouting.lean ====
section
/-! DEFINITION. Machine/RowsRouting.lean: route postings, commits and tokens (chapters 2 and 3). -/

namespace Sys2Proof.Machine

open Sys2Proof

/-- INCREMENTAL_POST (R53). -/
def execIncrementalPost (late : List (Nat × Nat × Plane)) (margins : List (Plane × Nat)) (s : State) : Host.Outcome State Fault Refusal :=
  gated (Instr.incrementalPost late margins).wf "INCREMENTAL_POST" (s.incrementalPost late margins)

/-- FULL_ROUTING_POST (R55). -/
def execFullRoutingPost (late : List Plane) (margins : List (Plane × Nat)) (s : State) : Host.Outcome State Fault Refusal :=
  gated (Instr.fullRoutingPost late margins).wf "FULL_ROUTING_POST" (s.fullPost late margins)

/-- DEFERRED_ROUTING_START (R53). -/
def execDeferredRoutingStart (s : State) : Host.Outcome State Fault Refusal :=
  gated Instr.deferredRoutingStart.wf "DEFERRED_ROUTING_START" (s.deferredStart)

/-- REARRANGE_EXPIRED (R76). -/
def execRearrangeExpired (s : State) : Host.Outcome State Fault Refusal :=
  gated Instr.rearrangeExpired.wf "REARRANGE_EXPIRED" (s.rearrangeExpire)

/-- STAGE_EXPIRED (R257). -/
def execStageExpired (principal : Nat) (s : State) : Host.Outcome State Fault Refusal :=
  gated (Instr.stageExpired principal).wf "STAGE_EXPIRED" (s.stageExpire principal)

/-- YELLOW_EXPIRED (R279). -/
def execYellowExpired (s : State) : Host.Outcome State Fault Refusal :=
  gated Instr.yellowExpired.wf "YELLOW_EXPIRED" (s.yellowExpire)

/-- COMMIT_FIX (R78). -/
def execCommitFix (s : State) : Host.Outcome State Fault Refusal :=
  gated Instr.commitFix.wf "COMMIT_FIX" (s.when s.clocked State.tryAll)

/-- COMMIT_SWITCH (R82). -/
def execCommitSwitch (chip : Nat) (late : List Nat) (differ : List Nat) (s : State) : Host.Outcome State Fault Refusal :=
  gated (Instr.commitSwitch chip late differ).wf "COMMIT_SWITCH" (s.commitSwitch chip late differ)

/-- LATE_TILE_APPLY (R85). -/
def execLateTileApply (tile : Nat) (s : State) : Host.Outcome State Fault Refusal :=
  gated (Instr.lateTileApply tile).wf "LATE_TILE_APPLY" (s.lateTileApply tile)

/-- COMMIT_DONE (R96). -/
def execCommitDone (s : State) : Host.Outcome State Fault Refusal :=
  gated Instr.commitDone.wf "COMMIT_DONE" (s.commitDone)

/-- READY_RX (R98). -/
def execReadyRx (principal : Nat) (number : Nat) (mask : Nat) (pos : Nat) (named : Nat) (earliest : Nat) (slot : Nat) (fclk : Nat) (s : State) : Host.Outcome State Fault Refusal :=
  gated (Instr.readyRx principal number mask pos named earliest slot fclk).wf "READY_RX"
    (s.ringMessage (·.readyArrives ⟨principal, number, mask, pos, named, earliest, slot, s.clk.frame, fclk⟩))

/-- GO_RX (R99). -/
def execGoRx (principal : Nat) (number : Nat) (frame : Nat) (s : State) : Host.Outcome State Fault Refusal :=
  gated (Instr.goRx principal number frame).wf "GO_RX" (s.ringMessage (·.goArrives principal number frame))

/-- ABANDON_RX (R98). -/
def execAbandonRx (principal : Nat) (number : Nat) (s : State) : Host.Outcome State Fault Refusal :=
  gated (Instr.abandonRx principal number).wf "ABANDON_RX" (s.ringMessage (·.abandonArrives principal number))

/-- TOKEN_LOST (R99). -/
def execTokenLost (s : State) : Host.Outcome State Fault Refusal :=
  gated Instr.tokenLost.wf "TOKEN_LOST" (s.tokenLost)

end Sys2Proof.Machine
end

