-- ==== Sys2Proof/Machine/RowsSensing.lean ====
section
/-! DEFINITION. Machine/RowsSensing.lean: monitor sensing, capture, the housekeeping converter, correlators, the Store Room (chapters 4 to 6). -/

namespace Sys2Proof.Machine

open Sys2Proof

/-- BIAS_LIMIT (R104). -/
def execBiasLimit (tile : Nat) (s : State) : Host.Outcome State Fault Refusal :=
  gated (Instr.biasLimit tile).wf "BIAS_LIMIT" (s.when s.awake (·.biasLimit tile))

/-- REF_OUT (R111). -/
def execRefOut (tile : Nat) (sample : Nat) (s : State) : Host.Outcome State Fault Refusal :=
  gated (Instr.refOut tile sample).wf "REF_OUT" (s.when s.awake (·.refOut tile sample))

/-- REF_TIMEOUT (R111). -/
def execRefTimeout (tile : Nat) (s : State) : Host.Outcome State Fault Refusal :=
  gated (Instr.refTimeout tile).wf "REF_TIMEOUT" (s.refTimeout tile)

/-- CAPTURE_RECORD_WRITE (R121). -/
def execCaptureRecordWrite (channel : Nat) (last : Nat) (codes : List (List Nat)) (s : State) : Host.Outcome State Fault Refusal :=
  gated (Instr.captureRecordWrite channel last codes).wf "CAPTURE_RECORD_WRITE" (s.when s.clocked (·.captureRecord channel last codes))

/-- CAP_RPTR_WRITE (R122). -/
def execCapRptrWrite (r : Requester) (channel : Nat) (value : Nat) (s : State) : Host.Outcome State Fault Refusal :=
  gated (Instr.capRptrWrite r channel value).wf "CAP_RPTR_WRITE"
    (s.regWrite r (if channel < 32 then A.CAP_RPTR channel else A.RSP_RPTR (channel - 32)) [value])

/-- HKA_SLOT (R127). -/
def execHkaSlot (slot : Nat) (code : Nat) (ofs : Int) (gain : Int) (s : State) : Host.Outcome State Fault Refusal :=
  gated (Instr.hkaSlot slot code ofs gain).wf "HKA_SLOT" (s.when s.clocked (·.hkaSlot slot code ofs gain))

/-- HKA_INJECT_WRITE (R128). -/
def execHkaInjectWrite (r : Requester) (channel : Nat) (tag : Nat) (s : State) : Host.Outcome State Fault Refusal :=
  gated (Instr.hkaInjectWrite r channel tag).wf "HKA_INJECT_WRITE"
    (s.writeFields r A.HKA_INJECT [(R.HKA_INJECT_CHANNEL, channel), (R.HKA_INJECT_TAG, tag)])

/-- HKA_RESULT_POP (R128). -/
def execHkaResultPop (r : Requester) (s : State) : Host.Outcome State Fault Refusal :=
  gated (Instr.hkaResultPop r).wf "HKA_RESULT_POP" (s.regRead r A.HKA_INJ_RESULT 1)

/-- CAL_START (R127). -/
def execCalStart (r : Requester) (s : State) : Host.Outcome State Fault Refusal :=
  gated (Instr.calStart r).wf "CAL_START" (s.writeFields r A.HKA_CTRL [(R.HKA_CTRL_CAL_START, 1)])

/-- CORR_RESIDUE (R146). -/
def execCorrResidue (tile : Nat) (slot : Nat) (s : State) : Host.Outcome State Fault Refusal :=
  gated (Instr.corrResidue tile slot).wf "CORR_RESIDUE" (s.when s.clocked (·.corrResidue tile slot))

/-- STORE_ROOM_READ_ECC (R173). -/
def execStoreRoomReadEcc (plane : Plane) (tile : Nat) (word : Nat) (double : Bool) (s : State) : Host.Outcome State Fault Refusal :=
  gated (Instr.storeRoomReadEcc plane tile word double).wf "STORE_ROOM_READ_ECC" (s.when s.clocked (·.storeEcc plane tile word double))

/-- REFRESH_MISS (R174). -/
def execRefreshMiss (plane : Plane) (tile : Nat) (s : State) : Host.Outcome State Fault Refusal :=
  gated (Instr.refreshMiss plane tile).wf "REFRESH_MISS" (s.when s.clocked (·.refreshMiss plane tile))

end Sys2Proof.Machine
end

