-- ==== Sys2Proof/Machine/RowsSidebandBus.lean ====
section
/-! DEFINITION. Machine/RowsSidebandBus.lean: the SMBus sideband (chapter 10). -/

namespace Sys2Proof.Machine

open Sys2Proof

/-- SB_SET_ADDR (R270). -/
def execSbSetAddr (pecOk : Bool) (addr : Nat) (words : Nat) (s : State) : Host.Outcome State Fault Refusal :=
  gated (Instr.sbSetAddr pecOk addr words).wf "SB_SET_ADDR" (s.sbSetAddr pecOk addr words)

/-- SB_READ (R270). -/
def execSbRead (s : State) : Host.Outcome State Fault Refusal :=
  gated Instr.sbRead.wf "SB_READ" (s.sbRead)

/-- SB_WRITE (R270). -/
def execSbWrite (pecOk : Bool) (data : List Nat) (s : State) : Host.Outcome State Fault Refusal :=
  gated (Instr.sbWrite pecOk data).wf "SB_WRITE" (s.sbWrite pecOk data)

/-- SB_LAST_STATUS (R270). -/
def execSbLastStatus (s : State) : Host.Outcome State Fault Refusal :=
  gated Instr.sbLastStatus.wf "SB_LAST_STATUS" (s.sbLastStatus)

/-- SB_SUMMARY (R270). -/
def execSbSummary (s : State) : Host.Outcome State Fault Refusal :=
  gated Instr.sbSummary.wf "SB_SUMMARY" (s.sbSummary)

/-- SB_ALERT_CAUSE (R270). -/
def execSbAlertCause (s : State) : Host.Outcome State Fault Refusal :=
  gated Instr.sbAlertCause.wf "SB_ALERT_CAUSE" (s.sbAlertCause)

/-- SB_FAULT_POP (R387). -/
def execSbFaultPop (s : State) : Host.Outcome State Fault Refusal :=
  gated Instr.sbFaultPop.wf "SB_FAULT_POP" (s.sbFaultPop)

/-- ALERT_RESPONSE (R271). -/
def execAlertResponse (s : State) : Host.Outcome State Fault Refusal :=
  gated Instr.alertResponse.wf "ALERT_RESPONSE" (s.alertResponse)

/-- SB_STRETCH_TIMEOUT (R269). -/
def execSbStretchTimeout (bytes : Nat) (s : State) : Host.Outcome State Fault Refusal :=
  gated (Instr.sbStretchTimeout bytes).wf "SB_STRETCH_TIMEOUT" (s.sbStretchTimeout bytes)

end Sys2Proof.Machine
end

