-- ==== Sys2Proof/Machine/RowsStarting.lean ====
section
/-! DEFINITION. Machine/RowsStarting.lean: reset, start-up, the load chain, the NOR (chapter 17). -/

namespace Sys2Proof.Machine

open Sys2Proof

/-- RESET (R407). -/
def execReset (resetN : Bool) (vaon : Bool) (s : State) : Host.Outcome State Fault Refusal :=
  gated (Instr.reset resetN vaon).wf "RESET" (s.inReset vaon resetN .reset)

/-- START_UP (R407). -/
def execStartUp (bootMode : Nat) (pos : Nat) (sba : Nat) (trust : Bool) (flash : List (Nat × List Nat)) (s : State) : Host.Outcome State Fault Refusal :=
  gated (Instr.startUp bootMode pos sba trust flash).wf "START_UP" (s.startUp bootMode pos sba trust flash)

/-- SELFTEST_DONE (R425). -/
def execSelftestDone (plane : Plane) (bank : Option (Nat × Nat)) (core : Bool) (s : State) : Host.Outcome State Fault Refusal :=
  gated (Instr.selftestDone plane bank core).wf "SELFTEST_DONE" (s.selftestDone plane bank core)

/-- LOAD_IN_RISE (R423). -/
def execLoadInRise (s : State) : Host.Outcome State Fault Refusal :=
  gated Instr.loadInRise.wf "LOAD_IN_RISE" (s.loadInRise)

/-- FIRST_PASS_TIMEOUT (R423). -/
def execFirstPassTimeout (s : State) : Host.Outcome State Fault Refusal :=
  gated Instr.firstPassTimeout.wf "FIRST_PASS_TIMEOUT" (s.firstPassTimeout)

/-- PASS_READ_END (R413). -/
def execPassReadEnd (slot : Nat) (density : Option Nat) (flash : List (Nat × List Nat)) (s : State) : Host.Outcome State Fault Refusal :=
  gated (Instr.passReadEnd slot density flash).wf "PASS_READ_END" (s.passReadEnd slot density flash)

/-- SECOND_PASS (R423). -/
def execSecondPass (s : State) : Host.Outcome State Fault Refusal :=
  gated Instr.secondPass.wf "SECOND_PASS" (s.secondPass)

/-- RUN_ENTRY (R426). -/
def execRunEntry (ms : Nat) (s : State) : Host.Outcome State Fault Refusal :=
  gated (Instr.runEntry ms).wf "RUN_ENTRY" (s.enterRun ms)

/-- LOCKED (R429). -/
def execLocked (ms : Nat) (s : State) : Host.Outcome State Fault Refusal :=
  gated (Instr.locked ms).wf "LOCKED" (s.lockedNow ms)

/-- BOOT_STATUS_RX (R430). -/
def execBootStatusRx (pos : Nat) (serial : Nat) (state : Nat) (slot : Nat) (sec : Nat) (digest : Nat) (s : State) : Host.Outcome State Fault Refusal :=
  gated (Instr.bootStatusRx pos serial state slot sec digest).wf "BOOT_STATUS_RX"
    (s.ringMessage (·.bootStatus pos serial state slot sec digest))

/-- PASS_REQUEST_RX (R424). -/
def execPassRequestRx (s : State) : Host.Outcome State Fault Refusal :=
  gated Instr.passRequestRx.wf "PASS_REQUEST_RX" (s.passRequest)

/-- PASS_REQUEST_RETRY (R424). -/
def execPassRequestRetry (s : State) : Host.Outcome State Fault Refusal :=
  gated Instr.passRequestRetry.wf "PASS_REQUEST_RETRY" (s.passRetry)

/-- PM_ERASE (R431). -/
def execPmErase (s : State) : Host.Outcome State Fault Refusal :=
  gated Instr.pmErase.wf "PM_ERASE" (s.pmErase)

/-- NOR_READ (R433). -/
def execNorRead (r : Requester) (length : Nat) (s : State) : Host.Outcome State Fault Refusal :=
  gated (Instr.norRead r length).wf "NOR_READ"
    (s.writeFields r A.BT_NOR_CTRL [(R.BT_NOR_CTRL_OP, 0), (R.BT_NOR_CTRL_LENGTH, length), (R.BT_NOR_CTRL_GO, 1)])

/-- NOR_PROGRAM (R433). -/
def execNorProgram (r : Requester) (length : Nat) (s : State) : Host.Outcome State Fault Refusal :=
  gated (Instr.norProgram r length).wf "NOR_PROGRAM"
    (s.writeFields r A.BT_NOR_CTRL [(R.BT_NOR_CTRL_OP, 1), (R.BT_NOR_CTRL_LENGTH, length), (R.BT_NOR_CTRL_GO, 1)])

/-- NOR_ERASE (R433). -/
def execNorErase (r : Requester) (length : Nat) (s : State) : Host.Outcome State Fault Refusal :=
  gated (Instr.norErase r length).wf "NOR_ERASE"
    (s.writeFields r A.BT_NOR_CTRL [(R.BT_NOR_CTRL_OP, 2), (R.BT_NOR_CTRL_LENGTH, length), (R.BT_NOR_CTRL_GO, 1)])

/-- NOR_OP_DONE (R433). -/
def execNorOpDone (flash : List (Nat × List Nat)) (s : State) : Host.Outcome State Fault Refusal :=
  gated (Instr.norOpDone flash).wf "NOR_OP_DONE" (s.norDone flash)

/-- BT_REBOOT (R434). -/
def execBtReboot (r : Requester) (slot : Nat) (s : State) : Host.Outcome State Fault Refusal :=
  gated (Instr.btReboot r slot).wf "BT_REBOOT" (s.writeFields r A.BT_CTRL [(R.BT_CTRL_SLOT, slot), (R.BT_CTRL_REBOOT, 1)])

/-- REBOOT_RESET (R434). -/
def execRebootReset (s : State) : Host.Outcome State Fault Refusal :=
  gated Instr.rebootReset.wf "REBOOT_RESET" (s.rebootReset)

/-- LOAD_IN_FALL (R423). -/
def execLoadInFall (s : State) : Host.Outcome State Fault Refusal :=
  gated Instr.loadInFall.wf "LOAD_IN_FALL" (s.loadInFall)

/-- DEVICE_READY (R423). -/
def execDeviceReady (s : State) : Host.Outcome State Fault Refusal :=
  gated Instr.deviceReady.wf "DEVICE_READY" (s.deviceReady)

end Sys2Proof.Machine
end

