-- ==== Sys2Proof/Machine/RowsTakeover.lean ====
section
/-! DEFINITION. Machine/RowsTakeover.lean: planes, divergence, DRILL, return (chapter 14). -/

namespace Sys2Proof.Machine

open Sys2Proof

/-- DIVERGENCE_DECISION (R350). -/
def execDivergenceDecision (s : State) : Host.Outcome State Fault Refusal :=
  gated Instr.divergenceDecision.wf "DIVERGENCE_DECISION" (s.divDecide)

/-- CENTRAL_AUDIT_END (R354). -/
def execCentralAuditEnd (failA : Bool) (failB : Bool) (s : State) : Host.Outcome State Fault Refusal :=
  gated (Instr.centralAuditEnd failA failB).wf "CENTRAL_AUDIT_END" (s.auditEnd failA failB)

/-- PLANE_FENCE (R345). -/
def execPlaneFence (plane : Plane) (s : State) : Host.Outcome State Fault Refusal :=
  gated (Instr.planeFence plane).wf "PLANE_FENCE" ((s.fenceRow plane).noteMortem s)

/-- DRILL_SWAP (R356). -/
def execDrillSwap (s : State) : Host.Outcome State Fault Refusal :=
  gated Instr.drillSwap.wf "DRILL_SWAP" (s.drillSwap)

/-- DRILL_CHECK (R357). -/
def execDrillCheck (failed : List Nat) (supervisor : Bool) (s : State) : Host.Outcome State Fault Refusal :=
  gated (Instr.drillCheck failed supervisor).wf "DRILL_CHECK" (s.drillCheck failed supervisor)

/-- DRILL_DUE (R358). -/
def execDrillDue (s : State) : Host.Outcome State Fault Refusal :=
  gated Instr.drillDue.wf "DRILL_DUE" (s.when s.clocked State.drillDue)

/-- RETURN (R359). -/
def execPlaneReturn (r : Requester) (s : State) : Host.Outcome State Fault Refusal :=
  gated (Instr.planeReturn r).wf "RETURN" (s.writeFields r A.PL_CTRL [(R.PL_CTRL_RETURN, 1)])

/-- RETURN_BANK_TEST (R359). -/
def execReturnBankTest (fail : Option (Nat × Nat)) (s : State) : Host.Outcome State Fault Refusal :=
  gated (Instr.returnBankTest fail).wf "RETURN_BANK_TEST" (s.returnTest fail)

/-- LOCKSTEP (R359). -/
def execLockstep (s : State) : Host.Outcome State Fault Refusal :=
  gated Instr.lockstep.wf "LOCKSTEP" (s.lockstep)

/-- RETURN_END (R360). -/
def execReturnEnd (s : State) : Host.Outcome State Fault Refusal :=
  gated Instr.returnEnd.wf "RETURN_END" (s.returnEnd)

/-- AUTO_RETURN (R361). -/
def execAutoReturn (s : State) : Host.Outcome State Fault Refusal :=
  gated Instr.autoReturn.wf "AUTO_RETURN" (s.autoReturn)

/-- HEARTBEAT (R363). -/
def execHeartbeat (plane : Plane) (s : State) : Host.Outcome State Fault Refusal :=
  gated (Instr.heartbeat plane).wf "HEARTBEAT" (s.when s.clocked (·.heartbeat plane))

end Sys2Proof.Machine
end

