-- ==== Sys2Proof/Machine/Dispatch.lean ====
section
/-! DEFINITION. Machine/Dispatch.lean: one arm per command, each one call of its meaning. -/

namespace Sys2Proof.Machine

open Sys2Proof

def exec (i : Instr) (s : State) : Host.Outcome State Fault Refusal :=
  match i with
  | .frameBoundary x => Sys2Proof.Machine.execFrameBoundary x s
  | .offerInstant => Sys2Proof.Machine.execOfferInstant s
  | .admissionPoint differ => Sys2Proof.Machine.execAdmissionPoint differ s
  | .releaseDeadline overran margins found replayed => Sys2Proof.Machine.execReleaseDeadline overran margins found replayed s
  | .feedbackLost ctx => Sys2Proof.Machine.execFeedbackLost ctx s
  | .feedbackFrozen ctx => Sys2Proof.Machine.execFeedbackFrozen ctx s
  | .inputInvalid ctx => Sys2Proof.Machine.execInputInvalid ctx s
  | .feedbackOverload ctx => Sys2Proof.Machine.execFeedbackOverload ctx s
  | .following ctx => Sys2Proof.Machine.execFollowing ctx s
  | .autoResume ctx => Sys2Proof.Machine.execAutoResume ctx s
  | .expressUpdate ctx chip codes applied differ => Sys2Proof.Machine.execExpressUpdate ctx chip codes applied differ s
  | .expressOverrun ctx chip => Sys2Proof.Machine.execExpressOverrun ctx chip s
  | .expJudged ctx => Sys2Proof.Machine.execExpJudged ctx s
  | .kolrokFrameRx lane bytes stamp => Sys2Proof.Machine.execKolrokFrameRx lane bytes stamp s
  | .arpRequest lane bytes => Sys2Proof.Machine.execArpRequest lane bytes s
  | .ptpEvent lane udp version messageType domain sequence port clock stamp => Sys2Proof.Machine.execPtpEvent lane udp version messageType domain sequence port clock stamp s
  | .laneLinkUp lane => Sys2Proof.Machine.execLaneLinkUp lane s
  | .laneLinkDown lane fecOnly => Sys2Proof.Machine.execLaneLinkDown lane fecOnly s
  | .hiBer lane on => Sys2Proof.Machine.execHiBer lane on s
  | .frameTransmit lane pos stamp => Sys2Proof.Machine.execFrameTransmit lane pos stamp s
  | .ping h => Sys2Proof.Machine.execPing h s
  | .summary h challenge => Sys2Proof.Machine.execSummary h challenge s
  | .fence h => Sys2Proof.Machine.execFence h s
  | .read h addr words => Sys2Proof.Machine.execRead h addr words s
  | .write h addr data => Sys2Proof.Machine.execWrite h addr data s
  | .connect h inp out => Sys2Proof.Machine.execConnect h inp out s
  | .disconnect h inp out => Sys2Proof.Machine.execDisconnect h inp out s
  | .stage h id part parts entries => Sys2Proof.Machine.execStage h id part parts entries s
  | .setElement h element state => Sys2Proof.Machine.execSetElement h element state s
  | .commit h kind chip token mask frame => Sys2Proof.Machine.execCommit h kind chip token mask frame s
  | .abort h sFrame sChip => Sys2Proof.Machine.execAbort h sFrame sChip s
  | .remap h logical useAlt => Sys2Proof.Machine.execRemap h logical useAlt s
  | .ctxRead h ctx first words => Sys2Proof.Machine.execCtxRead h ctx first words s
  | .ctxWrite h ctx first data => Sys2Proof.Machine.execCtxWrite h ctx first data s
  | .ctxState h ctx state => Sys2Proof.Machine.execCtxState h ctx state s
  | .guardWrite h tile offset value => Sys2Proof.Machine.execGuardWrite h tile offset value s
  | .primerWrite h tile offset value => Sys2Proof.Machine.execPrimerWrite h tile offset value s
  | .primerApply h tiles => Sys2Proof.Machine.execPrimerApply h tiles s
  | .tileResume h tiles => Sys2Proof.Machine.execTileResume h tiles s
  | .hkaInject h channel tag => Sys2Proof.Machine.execHkaInject h channel tag s
  | .calibrate h tiles => Sys2Proof.Machine.execCalibrate h tiles s
  | .stencilStart h gen => Sys2Proof.Machine.execStencilStart h gen s
  | .mode h code frame => Sys2Proof.Machine.execMode h code frame s
  | .power h state => Sys2Proof.Machine.execPower h state s
  | .drill h frame => Sys2Proof.Machine.execDrill h frame s
  | .reboot h slot => Sys2Proof.Machine.execReboot h slot s
  | .protectArm h body => Sys2Proof.Machine.execProtectArm h body s
  | .protectCommit h armId digest frame => Sys2Proof.Machine.execProtectCommit h armId digest frame s
  | .keyInstall h principal which wrapped => Sys2Proof.Machine.execKeyInstall h principal which wrapped s
  | .keyRoll h principal frame => Sys2Proof.Machine.execKeyRoll h principal frame s
  | .forward h pos frame => Sys2Proof.Machine.execForward h pos frame s
  | .forwardedFrameRx pos bytes => Sys2Proof.Machine.execForwardedFrameRx pos bytes s
  | .forwardedResponseRx pos rseq bytes => Sys2Proof.Machine.execForwardedResponseRx pos rseq bytes s
  | .sbSetAddr pecOk addr words => Sys2Proof.Machine.execSbSetAddr pecOk addr words s
  | .sbRead => Sys2Proof.Machine.execSbRead s
  | .sbWrite pecOk data => Sys2Proof.Machine.execSbWrite pecOk data s
  | .sbLastStatus => Sys2Proof.Machine.execSbLastStatus s
  | .sbSummary => Sys2Proof.Machine.execSbSummary s
  | .sbAlertCause => Sys2Proof.Machine.execSbAlertCause s
  | .sbFaultPop => Sys2Proof.Machine.execSbFaultPop s
  | .alertResponse => Sys2Proof.Machine.execAlertResponse s
  | .sbStretchTimeout bytes => Sys2Proof.Machine.execSbStretchTimeout bytes s
  | .incrementalPost late margins => Sys2Proof.Machine.execIncrementalPost late margins s
  | .fullRoutingPost late margins => Sys2Proof.Machine.execFullRoutingPost late margins s
  | .deferredRoutingStart => Sys2Proof.Machine.execDeferredRoutingStart s
  | .rearrangeExpired => Sys2Proof.Machine.execRearrangeExpired s
  | .stageExpired principal => Sys2Proof.Machine.execStageExpired principal s
  | .yellowExpired => Sys2Proof.Machine.execYellowExpired s
  | .commitFix => Sys2Proof.Machine.execCommitFix s
  | .commitSwitch chip late differ => Sys2Proof.Machine.execCommitSwitch chip late differ s
  | .lateTileApply tile => Sys2Proof.Machine.execLateTileApply tile s
  | .commitDone => Sys2Proof.Machine.execCommitDone s
  | .readyRx principal number mask pos named earliest slot fclk => Sys2Proof.Machine.execReadyRx principal number mask pos named earliest slot fclk s
  | .goRx principal number frame => Sys2Proof.Machine.execGoRx principal number frame s
  | .abandonRx principal number => Sys2Proof.Machine.execAbandonRx principal number s
  | .tokenLost => Sys2Proof.Machine.execTokenLost s
  | .biasLimit tile => Sys2Proof.Machine.execBiasLimit tile s
  | .refOut tile sample => Sys2Proof.Machine.execRefOut tile sample s
  | .refTimeout tile => Sys2Proof.Machine.execRefTimeout tile s
  | .captureRecordWrite channel last codes => Sys2Proof.Machine.execCaptureRecordWrite channel last codes s
  | .capRptrWrite r channel value => Sys2Proof.Machine.execCapRptrWrite r channel value s
  | .hkaSlot slot code ofs gain => Sys2Proof.Machine.execHkaSlot slot code ofs gain s
  | .hkaInjectWrite r channel tag => Sys2Proof.Machine.execHkaInjectWrite r channel tag s
  | .hkaResultPop r => Sys2Proof.Machine.execHkaResultPop r s
  | .calStart r => Sys2Proof.Machine.execCalStart r s
  | .corrResidue tile slot => Sys2Proof.Machine.execCorrResidue tile slot s
  | .storeRoomReadEcc plane tile word double => Sys2Proof.Machine.execStoreRoomReadEcc plane tile word double s
  | .refreshMiss plane tile => Sys2Proof.Machine.execRefreshMiss plane tile s
  | .stArm r gen => Sys2Proof.Machine.execStArm r gen s
  | .stStart r gen => Sys2Proof.Machine.execStStart r gen s
  | .stHalt r gen => Sys2Proof.Machine.execStHalt r gen s
  | .evtEdgeTrigger evt rising => Sys2Proof.Machine.execEvtEdgeTrigger evt rising s
  | .frameTrigger inst => Sys2Proof.Machine.execFrameTrigger inst s
  | .stop inst => Sys2Proof.Machine.execStop inst s
  | .lda inst => Sys2Proof.Machine.execLda inst s
  | .ldd inst => Sys2Proof.Machine.execLdd inst s
  | .adda inst => Sys2Proof.Machine.execAdda inst s
  | .emit inst => Sys2Proof.Machine.execEmit inst s
  | .ramp inst => Sys2Proof.Machine.execRamp inst s
  | .table inst => Sys2Proof.Machine.execTable inst s
  | .prbs inst => Sys2Proof.Machine.execPrbs inst s
  | .ldc inst => Sys2Proof.Machine.execLdc inst s
  | .loop inst => Sys2Proof.Machine.execLoop inst s
  | .jmp inst => Sys2Proof.Machine.execJmp inst s
  | .br inst => Sys2Proof.Machine.execBr inst s
  | .wait inst => Sys2Proof.Machine.execWait inst s
  | .illegal inst => Sys2Proof.Machine.execIllegal inst s
  | .runaway inst => Sys2Proof.Machine.execRunaway inst s
  | .mtStart r => Sys2Proof.Machine.execMtStart r s
  | .mtAbort r => Sys2Proof.Machine.execMtAbort r s
  | .mtestDone plane fails addr element diff check => Sys2Proof.Machine.execMtestDone plane fails addr element diff check s
  | .heaterOpen channel => Sys2Proof.Machine.execHeaterOpen channel s
  | .heaterShort channel => Sys2Proof.Machine.execHeaterShort channel s
  | .heaterLoad channel => Sys2Proof.Machine.execHeaterLoad channel s
  | .driverOverload driver => Sys2Proof.Machine.execDriverOverload driver s
  | .guardIntegrity tile => Sys2Proof.Machine.execGuardIntegrity tile s
  | .starvation tile => Sys2Proof.Machine.execStarvation tile s
  | .trimApply channel => Sys2Proof.Machine.execTrimApply channel s
  | .htrOffRelease r tile word mask => Sys2Proof.Machine.execHtrOffRelease r tile word mask s
  | .fdOffRelease r tile word mask => Sys2Proof.Machine.execFdOffRelease r tile word mask s
  | .fdLevelWrite r driver bar cross => Sys2Proof.Machine.execFdLevelWrite r driver bar cross s
  | .tlCalReq r tile => Sys2Proof.Machine.execTlCalReq r tile s
  | .tiaReq r tile => Sys2Proof.Machine.execTiaReq r tile s
  | .calAll r => Sys2Proof.Machine.execCalAll r s
  | .tileRunStart tile => Sys2Proof.Machine.execTileRunStart tile s
  | .tileRunEnd tile => Sys2Proof.Machine.execTileRunEnd tile s
  | .svStart r => Sys2Proof.Machine.execSvStart r s
  | .svAbort r => Sys2Proof.Machine.execSvAbort r s
  | .sweepPoint => Sys2Proof.Machine.execSweepPoint s
  | .sweepEnd => Sys2Proof.Machine.execSweepEnd s
  | .tdRateWrite r domain low => Sys2Proof.Machine.execTdRateWrite r domain low s
  | .tdSet r domain ns => Sys2Proof.Machine.execTdSet r domain ns s
  | .tdAdjust r domain ns => Sys2Proof.Machine.execTdAdjust r domain ns s
  | .timeCapture r => Sys2Proof.Machine.execTimeCapture r s
  | .align r => Sys2Proof.Machine.execAlign r s
  | .alignmentGapEnd => Sys2Proof.Machine.execAlignmentGapEnd s
  | .holdover domain => Sys2Proof.Machine.execHoldover domain s
  | .autoSwitch => Sys2Proof.Machine.execAutoSwitch s
  | .fclkLock => Sys2Proof.Machine.execFclkLock s
  | .ppsEdge stamp => Sys2Proof.Machine.execPpsEdge stamp s
  | .ppsGap => Sys2Proof.Machine.execPpsGap s
  | .ppsOutEdge => Sys2Proof.Machine.execPpsOutEdge s
  | .tsPop r source => Sys2Proof.Machine.execTsPop r source s
  | .beaconRx port b rx rx0 rx1 residence tx => Sys2Proof.Machine.execBeaconRx port b rx rx0 rx1 residence tx s
  | .beaconPortSwitch => Sys2Proof.Machine.execBeaconPortSwitch s
  | .linkMessageRx port t1 t2 t3 t4 frame hops rx tx => Sys2Proof.Machine.execLinkMessageRx port t1 t2 t3 t4 frame hops rx tx s
  | .ringLost port => Sys2Proof.Machine.execRingLost port s
  | .ringLock domain => Sys2Proof.Machine.execRingLock domain s
  | .apsinLinkDown port => Sys2Proof.Machine.execApsinLinkDown port s
  | .mtpWriteDone good => Sys2Proof.Machine.execMtpWriteDone good s
  | .keyRollApply principal => Sys2Proof.Machine.execKeyRollApply principal s
  | .graceEnd principal => Sys2Proof.Machine.execGraceEnd principal s
  | .protectApply => Sys2Proof.Machine.execProtectApply s
  | .protectExpire => Sys2Proof.Machine.execProtectExpire s
  | .atticProvGo r => Sys2Proof.Machine.execAtticProvGo r s
  | .divergenceDecision => Sys2Proof.Machine.execDivergenceDecision s
  | .centralAuditEnd failA failB => Sys2Proof.Machine.execCentralAuditEnd failA failB s
  | .planeFence plane => Sys2Proof.Machine.execPlaneFence plane s
  | .drillSwap => Sys2Proof.Machine.execDrillSwap s
  | .drillCheck failed supervisor => Sys2Proof.Machine.execDrillCheck failed supervisor s
  | .drillDue => Sys2Proof.Machine.execDrillDue s
  | .planeReturn r => Sys2Proof.Machine.execPlaneReturn r s
  | .returnBankTest fail => Sys2Proof.Machine.execReturnBankTest fail s
  | .lockstep => Sys2Proof.Machine.execLockstep s
  | .returnEnd => Sys2Proof.Machine.execReturnEnd s
  | .autoReturn => Sys2Proof.Machine.execAutoReturn s
  | .heartbeat plane => Sys2Proof.Machine.execHeartbeat plane s
  | .faultMessage cls inst kind plane count addr => Sys2Proof.Machine.execFaultMessage cls inst kind plane count addr s
  | .endReport cls inst kind plane count addr => Sys2Proof.Machine.execEndReport cls inst kind plane count addr s
  | .clearFirst r => Sys2Proof.Machine.execClearFirst r s
  | .fcAck r slots => Sys2Proof.Machine.execFcAck r slots s
  | .fcUnfence r unit index => Sys2Proof.Machine.execFcUnfence r unit index s
  | .coreRestart plane => Sys2Proof.Machine.execCoreRestart plane s
  | .watchdog plane => Sys2Proof.Machine.execWatchdog plane s
  | .trngHealth => Sys2Proof.Machine.execTrngHealth s
  | .sensorRound counts => Sys2Proof.Machine.execSensorRound counts s
  | .sensorFail sensor cause => Sys2Proof.Machine.execSensorFail sensor cause s
  | .analogTrip => Sys2Proof.Machine.execAnalogTrip s
  | .tripHalt => Sys2Proof.Machine.execTripHalt s
  | .deepSleepSensor count => Sys2Proof.Machine.execDeepSleepSensor count s
  | .domainStop veto => Sys2Proof.Machine.execDomainStop veto s
  | .wakeNLow us => Sys2Proof.Machine.execWakeNLow us s
  | .clockAlarm => Sys2Proof.Machine.execClockAlarm s
  | .laneWake lane => Sys2Proof.Machine.execLaneWake lane s
  | .loopsResume banks sets => Sys2Proof.Machine.execLoopsResume banks sets s
  | .domainWakeOnDemand domain => Sys2Proof.Machine.execDomainWakeOnDemand domain s
  | .wakeStall domain us => Sys2Proof.Machine.execWakeStall domain us s
  | .reset resetN vaon => Sys2Proof.Machine.execReset resetN vaon s
  | .startUp bootMode pos sba trust flash => Sys2Proof.Machine.execStartUp bootMode pos sba trust flash s
  | .selftestDone plane bank core => Sys2Proof.Machine.execSelftestDone plane bank core s
  | .loadInRise => Sys2Proof.Machine.execLoadInRise s
  | .firstPassTimeout => Sys2Proof.Machine.execFirstPassTimeout s
  | .passReadEnd slot density flash => Sys2Proof.Machine.execPassReadEnd slot density flash s
  | .secondPass => Sys2Proof.Machine.execSecondPass s
  | .runEntry ms => Sys2Proof.Machine.execRunEntry ms s
  | .locked ms => Sys2Proof.Machine.execLocked ms s
  | .bootStatusRx pos serial state slot sec digest => Sys2Proof.Machine.execBootStatusRx pos serial state slot sec digest s
  | .passRequestRx => Sys2Proof.Machine.execPassRequestRx s
  | .passRequestRetry => Sys2Proof.Machine.execPassRequestRetry s
  | .pmErase => Sys2Proof.Machine.execPmErase s
  | .norRead r length => Sys2Proof.Machine.execNorRead r length s
  | .norProgram r length => Sys2Proof.Machine.execNorProgram r length s
  | .norErase r length => Sys2Proof.Machine.execNorErase r length s
  | .norOpDone flash => Sys2Proof.Machine.execNorOpDone flash s
  | .btReboot r slot => Sys2Proof.Machine.execBtReboot r slot s
  | .rebootReset => Sys2Proof.Machine.execRebootReset s
  | .modeApply => Sys2Proof.Machine.execModeApply s
  | .rtRemapWrite r logical useAlt => Sys2Proof.Machine.execRtRemapWrite r logical useAlt s
  | .snapshotLoRead r addr => Sys2Proof.Machine.execSnapshotLoRead r addr s
  | .rcRead r addr words => Sys2Proof.Machine.execRcRead r addr words s
  | .registerWrite r addr data => Sys2Proof.Machine.execRegisterWrite r addr data s
  | .loadInFall => Sys2Proof.Machine.execLoadInFall s
  | .deviceReady => Sys2Proof.Machine.execDeviceReady s
  | .domainReady domain => Sys2Proof.Machine.execDomainReady domain s
  | .refclkLoss => Sys2Proof.Machine.execRefclkLoss s

end Sys2Proof.Machine
end

