-- ==== Sys2Proof/Safety.lean ====
section
/-! DEFINITION. Safety.lean: what a safe run is, the invariants of the state, and the words in which statements say what a command does. -/

namespace Sys2Proof.Machine

open Sys2Proof

/-- A step is safe where it neither faults nor refuses. -/
def Safe (o : Host.Outcome State Fault Refusal) : Prop := ∃ s, o = .next s

/-- Every command of a queue has operands that the part has. -/
def queueFits (l : List Instr) : Prop := ∀ i ∈ l, i.wf = true

/-- The command answers a next state, of which `P` holds. -/
def Yields (i : Instr) (s : State) (P : State → Prop) : Prop := ∃ t, exec i s = .next t ∧ P t

/-! ### The invariants -/

/-- Every sparse map of the state has the one canonical form (Machine/SMap.lean): the register files, the capture memory, the NOR flash, the
registers of the image. -/
def State.canonical (s : State) : Bool :=
  smWf resetWord s.reg.shared && smWf resetWord s.reg.privA && smWf resetWord s.reg.privB && smWf capDefault s.cap.mem &&
    smWf norDefault s.nor && smWf resetWord s.boot.shared && smWf resetWord s.boot.priv

/-- Every list that stands for the part's units has one entry for each: 17 principals, 8 lanes, 33 queues, 17 key records, 80 tiles, 36 capture
channels, 16 generators, 2 time domains, 11 time-stamp sources, 2 Apsin ports. -/
def State.shaped (s : State) : Bool :=
  decide (s.links.prin.length = 17) && decide (s.links.lanes.length = 8) && decide (s.sched.queues.length = 33) &&
    decide (s.prot.keys.length = 17) && decide (s.sense.tiles.length = 80) && decide (s.cap.chans.length = 36) &&
    decide (s.gens.length = 16) && decide (s.act.tiles.length = 80) && decide (s.cal.tiles.length = 80) && decide (s.time.td.length = 2) &&
    decide (s.time.sources.length = 11) && decide (s.time.ports.length = 2)

/-- The invariants that every step keeps. -/
def State.sound (s : State) : Bool := s.canonical && s.shaped

/-! ### The parts of the state -/

/-- The parts of the state, to say what a command may change. -/
inductive Part where
  /-- the clock -/
  | clk
  /-- the registers that are shared or kept alike -/
  | shared
  /-- plane A's private registers -/
  | privA
  /-- plane B's private registers -/
  | privB
  /-- the writes that wait for a boundary -/
  | shadows
  /-- plane select, snapshots and held words of the requesters -/
  | access
  /-- the service mode -/
  | mode
  /-- the accepted MODE command -/
  | modeNext
  /-- the power state -/
  | power
  /-- whether an image is applied -/
  | image
  /-- the fabric description -/
  | fabric
  /-- the connection map and the routing engines -/
  | route
  /-- commits and tokens -/
  | com
  /-- lanes, principals, frames -/
  | links
  /-- the sideband -/
  | sb
  /-- queues and flights -/
  | sched
  /-- keys, MTP, protection changes -/
  | prot
  /-- collectors and supervisors -/
  | faults
  /-- the input chain -/
  | sense
  /-- captures -/
  | cap
  /-- the HKA -/
  | hka
  /-- dither and correlators -/
  | dith
  /-- the Stencil generators -/
  | gens
  /-- the loops -/
  | loop
  /-- the counts of clipped levels -/
  | clips
  /-- actuators and the guard -/
  | act
  /-- calibration and sweeps -/
  | cal
  /-- fabric time -/
  | time
  /-- the planes -/
  | pl
  /-- temperature and trips -/
  | therm
  /-- power-state transitions -/
  | pw
  /-- the Dust Sheet -/
  | dust
  /-- control availability -/
  | avail
  /-- start-up -/
  | boot
  /-- the NOR flash -/
  | nor
  /-- the EVT inputs -/
  | evt
  /-- the count of free values (log entry 2) -/
  | free
  /-- the queue of commands -/
  | pending
deriving DecidableEq, Repr

/-- The two states agree on a part. -/
def State.agree (p : Part) (s t : State) : Prop :=
  match p with
  | .clk => t.clk = s.clk
  | .shared => t.reg.shared = s.reg.shared
  | .privA => t.reg.privA = s.reg.privA
  | .privB => t.reg.privB = s.reg.privB
  | .shadows => t.reg.shadows = s.reg.shadows
  | .access => t.reg.planeSel = s.reg.planeSel ∧ t.reg.snapshot = s.reg.snapshot ∧ t.reg.heldHi = s.reg.heldHi
  | .mode => t.mode = s.mode
  | .modeNext => t.modeNext = s.modeNext
  | .power => t.power = s.power
  | .image => t.imageApplied = s.imageApplied
  | .fabric => t.fabric = s.fabric
  | .route => t.route = s.route
  | .com => t.com = s.com
  | .links => t.links = s.links
  | .sb => t.sb = s.sb
  | .sched => t.sched = s.sched
  | .prot => t.prot = s.prot
  | .faults => t.faults = s.faults
  | .sense => t.sense = s.sense
  | .cap => t.cap = s.cap
  | .hka => t.hka = s.hka
  | .dith => t.dith = s.dith
  | .gens => t.gens = s.gens
  | .loop => t.loop = s.loop
  | .clips => t.clips = s.clips
  | .act => t.act = s.act
  | .cal => t.cal = s.cal
  | .time => t.time = s.time
  | .pl => t.pl = s.pl
  | .therm => t.therm = s.therm
  | .pw => t.pw = s.pw
  | .dust => t.dust = s.dust
  | .avail => t.avail = s.avail
  | .boot => t.boot = s.boot
  | .nor => t.nor = s.nor
  | .evt => t.evtLevel = s.evtLevel ∧ t.evtRise = s.evtRise
  | .free => t.freeCount = s.freeCount
  | .pending => t.pending = s.pending

/-! ### What each command may change -/

/-- What a write of a register may change: the register itself, at once or as a write that waits for the boundary, what the requester holds, and what
the actions of the action registers change. -/
def writeParts : List Part :=
  [.shared, .privA, .privB, .shadows, .access, .route, .sb, .prot, .faults, .cap, .hka, .gens, .loop, .act, .cal, .time, .pl, .boot, .free]

/-- What a reset may change: everything but the NOR, the count of free values, the queue. -/
def resetParts : List Part :=
  [.clk, .shared, .privA, .privB, .shadows, .access, .mode, .modeNext, .power, .image, .fabric, .route, .com, .links, .sb, .sched, .prot, .faults, .sense, .cap, .hka, .dith, .gens, .loop, .clips, .act, .cal, .time, .pl, .therm, .pw, .dust, .avail, .boot, .evt]

/-- What a frame boundary may change. -/
def boundaryParts : List Part :=
  [.clk, .shared, .privA, .privB, .shadows, .power, .route, .com, .links, .sb, .sched, .faults, .sense, .cap, .hka, .dith, .gens, .loop, .clips, .act, .cal, .time, .pl, .pw, .dust, .avail, .boot, .nor, .evt, .free]

/-- The parts of the state that a command may change; it leaves every other part as it is. -/
def mayChange : Instr → List Part
  | .frameBoundary .. => boundaryParts
  | .offerInstant .. => [.links, .faults]
  | .admissionPoint .. => [.clk, .shared, .privA, .privB, .shadows, .access, .modeNext, .power, .route, .com, .links, .sb, .sched, .prot, .faults, .cap, .hka, .gens, .loop, .act, .cal, .time, .pl, .pw, .boot, .nor, .free]
  | .releaseDeadline .. => [.shared, .faults, .loop, .pl]
  | .feedbackLost .. => [.shared, .privA, .privB, .faults, .loop]
  | .feedbackFrozen .. => [.shared, .privA, .privB, .faults, .loop]
  | .inputInvalid .. => [.privA, .privB, .faults, .loop]
  | .feedbackOverload .. => [.faults, .loop]
  | .following .. => [.privA, .privB, .faults, .loop]
  | .autoResume .. => [.privA, .privB, .loop]
  | .expressUpdate .. => [.shared, .privA, .privB, .faults, .cap, .loop, .act, .pl]
  | .expressOverrun .. => [.shared, .loop]
  | .expJudged .. => [.faults, .pl]
  | .kolrokFrameRx .. => [.shared, .links]
  | .arpRequest .. => [.links]
  | .ptpEvent .. => [.shared, .time]
  | .laneLinkUp .. => [.shared, .links, .faults, .free]
  | .laneLinkDown .. => [.shared, .faults]
  | .hiBer .. => [.shared, .faults]
  | .frameTransmit .. => [.shared, .links, .time, .free]
  | .ping .. => [.shared, .links, .sched, .faults]
  | .summary .. => [.shared, .links, .sched, .faults, .free]
  | .fence .. => [.shared, .links, .sched, .faults]
  | .read .. => [.shared, .privA, .privB, .access, .links, .sched, .faults, .hka, .time]
  | .write .. => [.shared, .privA, .privB, .shadows, .access, .route, .links, .sb, .sched, .prot, .faults, .cap, .hka, .gens, .loop, .act, .cal, .time, .pl, .boot, .free]
  | .connect .. => [.shared, .route, .links, .sched, .faults, .free]
  | .disconnect .. => [.shared, .route, .links, .sched, .faults, .free]
  | .stage .. => [.shared, .route, .links, .sched, .faults, .free]
  | .setElement .. => [.shared, .route, .links, .sched, .faults, .free]
  | .commit .. => [.shared, .privA, .privB, .route, .com, .links, .sched, .faults]
  | .abort .. => [.shared, .route, .com, .links, .sched, .faults]
  | .remap .. => [.shared, .privA, .privB, .shadows, .access, .route, .links, .sb, .sched, .prot, .faults, .cap, .hka, .gens, .loop, .act, .cal, .time, .pl, .boot, .free]
  | .ctxRead .. => [.shared, .privA, .privB, .access, .links, .sched, .faults, .hka, .time]
  | .ctxWrite .. => [.shared, .privA, .privB, .shadows, .access, .route, .links, .sb, .sched, .prot, .faults, .cap, .hka, .gens, .loop, .act, .cal, .time, .pl, .boot, .free]
  | .ctxState .. => [.shared, .links, .sched, .faults, .loop]
  | .guardWrite .. => [.shared, .privA, .privB, .shadows, .access, .route, .links, .sb, .sched, .prot, .faults, .cap, .hka, .gens, .loop, .act, .cal, .time, .pl, .boot, .free]
  | .primerWrite .. => [.shared, .privA, .privB, .shadows, .access, .route, .links, .sb, .sched, .prot, .faults, .cap, .hka, .gens, .loop, .act, .cal, .time, .pl, .boot, .free]
  | .primerApply .. => [.shared, .links, .sched, .faults, .act]
  | .tileResume .. => [.shared, .links, .sched, .faults, .act]
  | .hkaInject .. => [.shared, .links, .sched, .faults, .hka]
  | .calibrate .. => [.shared, .links, .sched, .faults, .hka, .cal]
  | .stencilStart .. => [.shared, .privA, .privB, .links, .sched, .faults, .gens]
  | .mode .. => [.shared, .modeNext, .links, .sched, .faults]
  | .power .. => [.shared, .privA, .privB, .power, .links, .sb, .sched, .prot, .faults, .cap, .gens, .cal, .pl, .pw, .free]
  | .drill .. => [.shared, .links, .sched, .faults, .pl]
  | .reboot .. => [.shared, .links, .sched, .faults, .boot]
  | .protectArm .. => [.shared, .links, .sched, .prot, .faults]
  | .protectCommit .. => [.shared, .links, .sched, .prot, .faults]
  | .keyInstall .. => [.shared, .links, .sched, .prot, .faults]
  | .keyRoll .. => [.shared, .links, .sched, .prot, .faults]
  | .forward .. => [.shared, .links, .sched, .faults]
  | .forwardedFrameRx .. => [.shared, .links]
  | .forwardedResponseRx .. => [.links]
  | .sbSetAddr .. => [.sb]
  | .sbRead .. => [.shared, .privA, .privB, .access, .sb, .hka, .time]
  | .sbWrite .. => writeParts
  | .sbLastStatus .. => [.sb]
  | .sbSummary .. => [.sb, .free]
  | .sbAlertCause .. => [.sb]
  | .sbFaultPop .. => [.sb, .faults]
  | .alertResponse .. => [.sb]
  | .sbStretchTimeout .. => [.sb]
  | .incrementalPost .. => [.shared, .privA, .privB, .route, .com, .links, .sched, .faults, .free]
  | .fullRoutingPost .. => [.shared, .privA, .privB, .route, .com, .links, .sched, .faults, .free]
  | .deferredRoutingStart .. => [.route]
  | .rearrangeExpired .. => [.route, .links]
  | .stageExpired .. => [.links]
  | .yellowExpired .. => [.shared, .links, .sched, .faults]
  | .commitFix .. => [.shared, .route, .com, .links, .sched, .faults]
  | .commitSwitch .. => [.shared, .privA, .privB, .route, .com, .faults, .loop, .pl]
  | .lateTileApply .. => [.shared, .pl]
  | .commitDone .. => [.com, .links]
  | .readyRx .. => [.shared, .route, .com, .links, .sched, .faults]
  | .goRx .. => [.shared, .com, .links, .sched, .faults]
  | .abandonRx .. => [.shared, .route, .com, .links, .sched, .faults]
  | .tokenLost .. => [.shared, .route, .com, .links, .sched, .faults]
  | .biasLimit .. => [.shared, .faults]
  | .refOut .. => [.shared, .sense]
  | .refTimeout .. => [.shared, .faults, .sense]
  | .captureRecordWrite .. => [.shared, .cap]
  | .capRptrWrite .. => writeParts
  | .hkaSlot .. => [.shared, .links, .sched, .faults, .hka]
  | .hkaInjectWrite .. => writeParts
  | .hkaResultPop .. => [.shared, .privA, .privB, .access, .sb, .hka, .time]
  | .calStart .. => writeParts
  | .corrResidue .. => [.shared, .faults, .dith]
  | .storeRoomReadEcc .. => [.privA, .privB, .faults]
  | .refreshMiss .. => [.privA, .privB, .faults]
  | .stArm .. => writeParts
  | .stStart .. => writeParts
  | .stHalt .. => writeParts
  | .evtEdgeTrigger .. => [.privA, .privB, .gens]
  | .frameTrigger .. => [.privA, .privB, .gens]
  | .stop .. => [.gens]
  | .lda .. => [.privA, .privB, .gens]
  | .ldd .. => [.privA, .privB, .gens]
  | .adda .. => [.privA, .privB, .gens]
  | .emit .. => [.privA, .privB, .gens]
  | .ramp .. => [.privA, .privB, .gens]
  | .table .. => [.privA, .privB, .gens]
  | .prbs .. => [.privA, .privB, .gens, .free]
  | .ldc .. => [.privA, .privB, .gens]
  | .loop .. => [.privA, .privB, .gens]
  | .jmp .. => [.privA, .privB, .gens]
  | .br .. => [.gens]
  | .wait .. => [.privA, .privB, .gens]
  | .illegal .. => [.faults, .gens]
  | .runaway .. => [.faults, .gens]
  | .mtStart .. => writeParts
  | .mtAbort .. => writeParts
  | .mtestDone .. => [.privA, .privB, .faults, .cap, .gens, .free]
  | .heaterOpen .. => [.faults, .act]
  | .heaterShort .. => [.faults, .act]
  | .heaterLoad .. => [.faults, .act]
  | .driverOverload .. => [.shared, .faults]
  | .guardIntegrity .. => [.faults, .act]
  | .starvation .. => [.shared, .faults, .act]
  | .trimApply .. => [.act]
  | .htrOffRelease .. => writeParts
  | .fdOffRelease .. => writeParts
  | .fdLevelWrite .. => writeParts
  | .tlCalReq .. => writeParts
  | .tiaReq .. => writeParts
  | .calAll .. => writeParts
  | .tileRunStart .. => [.cal]
  | .tileRunEnd .. => [.shared, .cal]
  | .svStart .. => writeParts
  | .svAbort .. => writeParts
  | .sweepPoint .. => [.shared, .cap, .cal]
  | .sweepEnd .. => [.shared, .privA, .privB, .cap, .cal]
  | .tdRateWrite .. => writeParts
  | .tdSet .. => writeParts
  | .tdAdjust .. => writeParts
  | .timeCapture .. => writeParts
  | .align .. => writeParts
  | .alignmentGapEnd .. => [.clk, .loop, .time]
  | .holdover .. => [.shared, .faults, .time]
  | .autoSwitch .. => [.shared, .faults, .time]
  | .fclkLock .. => [.shared, .faults, .time]
  | .ppsEdge .. => [.shared, .faults, .time]
  | .ppsGap .. => [.faults, .time]
  | .ppsOutEdge .. => [.time]
  | .tsPop .. => [.shared, .privA, .privB, .access, .sb, .hka, .time]
  | .beaconRx .. => [.shared, .faults, .time]
  | .beaconPortSwitch .. => [.shared, .time]
  | .linkMessageRx .. => [.shared, .faults, .time]
  | .ringLost .. => [.shared, .faults, .time]
  | .ringLock .. => [.shared, .time]
  | .apsinLinkDown .. => [.faults]
  | .mtpWriteDone .. => [.shared, .links, .sb, .sched, .prot, .faults, .boot, .free]
  | .keyRollApply .. => [.shared, .links, .sched, .prot, .faults]
  | .graceEnd .. => [.prot]
  | .protectApply .. => [.shared, .route, .com, .links, .sched, .prot, .faults]
  | .protectExpire .. => [.prot]
  | .atticProvGo .. => writeParts
  | .divergenceDecision .. => [.shared, .faults, .pl]
  | .centralAuditEnd .. => [.shared, .faults, .pl]
  | .planeFence .. => [.shared, .links, .sb, .sched, .faults, .pl, .boot, .nor, .free]
  | .drillSwap .. => [.shared, .sb, .pl]
  | .drillCheck .. => [.shared, .links, .sb, .sched, .faults, .pl]
  | .drillDue .. => [.faults, .pl]
  | .planeReturn .. => writeParts
  | .returnBankTest .. => [.shared, .sb, .faults, .pl]
  | .lockstep .. => [.privA, .privB, .gens, .pl]
  | .returnEnd .. => [.shared, .sb, .faults, .pl]
  | .autoReturn .. => [.shared, .sb, .faults, .pl]
  | .heartbeat .. => [.faults]
  | .faultMessage .. => [.faults]
  | .endReport .. => [.faults]
  | .clearFirst .. => writeParts
  | .fcAck .. => writeParts
  | .fcUnfence .. => writeParts
  | .coreRestart .. => [.faults]
  | .watchdog .. => [.faults]
  | .trngHealth .. => [.faults]
  | .sensorRound .. => [.shared, .prot, .faults, .hka, .cal, .therm, .boot, .nor, .free]
  | .sensorFail .. => [.shared, .faults]
  | .analogTrip .. => [.shared, .prot, .therm, .boot, .nor, .free]
  | .tripHalt .. => [.prot, .therm]
  | .deepSleepSensor .. => [.shared]
  | .domainStop .. => resetParts
  | .wakeNLow .. => [.clk, .shared, .power, .sb, .time, .pw, .boot]
  | .clockAlarm .. => [.clk, .shared, .time, .pw]
  | .laneWake .. => [.clk, .shared, .time, .pw]
  | .loopsResume .. => [.shared, .privA, .privB, .power, .links, .sb, .sched, .faults, .sense, .cap, .dith, .loop, .pl, .pw, .free]
  | .domainWakeOnDemand .. => [.pw]
  | .wakeStall .. => [.shared, .faults]
  | .reset .. => resetParts
  | .startUp .. => [.clk, .shared, .power, .sb, .time, .boot, .nor]
  | .selftestDone .. => [.shared, .boot]
  | .loadInRise .. => [.boot]
  | .firstPassTimeout .. => [.boot]
  | .passReadEnd .. => [.shared, .privA, .privB, .image, .fabric, .route, .prot, .faults, .act, .cal, .boot, .nor, .free]
  | .secondPass .. => [.boot]
  | .runEntry .. => [.shared, .privA, .privB, .mode, .power, .links, .sb, .sched, .faults, .hka, .dith, .loop, .cal, .pl, .boot, .free]
  | .locked .. => [.shared]
  | .bootStatusRx .. => [.shared, .boot]
  | .passRequestRx .. => [.boot]
  | .passRequestRetry .. => [.shared, .boot]
  | .pmErase .. => [.boot, .nor]
  | .norRead .. => writeParts
  | .norProgram .. => writeParts
  | .norErase .. => writeParts
  | .norOpDone .. => [.shared, .boot, .nor]
  | .btReboot .. => writeParts
  | .rebootReset .. => resetParts
  | .modeApply .. => [.shared, .privA, .privB, .shadows, .mode, .modeNext, .com, .links, .sb, .sched, .faults, .pl, .pw]
  | .rtRemapWrite .. => writeParts
  | .snapshotLoRead .. => [.shared, .privA, .privB, .access, .sb, .hka, .time]
  | .rcRead .. => [.shared, .privA, .privB, .access, .sb, .hka, .time]
  | .registerWrite .. => writeParts
  | .loadInFall .. => [.boot]
  | .deviceReady .. => [.shared, .boot]
  | .domainReady .. => [.shared, .pw]
  | .refclkLoss .. => [.time]

/-! ### Who may change what: the commands outside which the clock, the mode, the fabric description, the NOR stay -/

/-- The commands that set the clock: a boundary, an admission point, the end of an alignment gap, and those that start the clocks anew (R10, R297,
R403, R405, R407). -/
def setsClock : Instr → Bool
  | .frameBoundary .. => true
  | .admissionPoint .. => true
  | .alignmentGapEnd .. => true
  | .domainStop .. => true
  | .wakeNLow .. => true
  | .clockAlarm .. => true
  | .laneWake .. => true
  | .reset .. => true
  | .startUp .. => true
  | .rebootReset .. => true
  | _ => false

/-- The commands that set the service mode: MODE_APPLY, RUN_ENTRY, and those that reset the device (R5, R426, R403, R407). -/
def setsMode : Instr → Bool
  | .modeApply .. => true
  | .runEntry .. => true
  | .domainStop .. => true
  | .reset .. => true
  | .rebootReset .. => true
  | _ => false

/-- The commands that apply an image or take it away (R426, R403, R407). -/
def setsImage : Instr → Bool
  | .passReadEnd .. => true
  | .domainStop .. => true
  | .reset .. => true
  | .rebootReset .. => true
  | _ => false

/-- The commands with which the NOR may change: the end of an operation on it, the reads of a device that start up, and those with which a
post-mortem record is written or erased (R410, R431, R433). -/
def writesNor : Instr → Bool
  | .norOpDone .. => true
  | .pmErase .. => true
  | .frameBoundary .. => true
  | .admissionPoint .. => true
  | .planeFence .. => true
  | .sensorRound .. => true
  | .analogTrip .. => true
  | .startUp .. => true
  | .passReadEnd .. => true
  | _ => false

/-! ### Kolrok commands -/

/-- The row of a Kolrok command. -/
def rowFor (h : CmdHead) : Cmd → Instr
  | .ping => .ping h
  | .summary challenge => .summary h challenge
  | .fence => .fence h
  | .read addr words => .read h addr words
  | .write addr data => .write h addr data
  | .connect inp out => .connect h inp out
  | .disconnect inp out => .disconnect h inp out
  | .stage id part parts entries => .stage h id part parts entries
  | .setElement element state => .setElement h element state
  | .commit kind chip token mask frame => .commit h kind chip token mask frame
  | .abort sFrame sChip => .abort h sFrame sChip
  | .remap logical useAlt => .remap h logical useAlt
  | .ctxRead ctx first words => .ctxRead h ctx first words
  | .ctxWrite ctx first data => .ctxWrite h ctx first data
  | .ctxState ctx state => .ctxState h ctx state
  | .guardWrite tile offset value => .guardWrite h tile offset value
  | .primerWrite tile offset value => .primerWrite h tile offset value
  | .primerApply tiles => .primerApply h tiles
  | .tileResume tiles => .tileResume h tiles
  | .hkaInject channel tag => .hkaInject h channel tag
  | .calibrate tiles => .calibrate h tiles
  | .stencilStart gen => .stencilStart h gen
  | .mode code frame => .mode h code frame
  | .power state => .power h state
  | .drill frame => .drill h frame
  | .reboot slot => .reboot h slot
  | .protectArm body => .protectArm h body
  | .protectCommit armId digest frame => .protectCommit h armId digest frame
  | .keyInstall principal which wrapped => .keyInstall h principal which wrapped
  | .keyRoll principal frame => .keyRoll h principal frame
  | .forward pos frame => .forward h pos frame

/-- The command meets none of the refusals of R259 that come before its effect, and begins at once (R277). -/
def State.accepts (s : State) (h : CmdHead) (c : Cmd) : Bool :=
  (rowFor h c).wf && s.takesCommands h.principal && decide (s.commandCode h c = Code.ok) &&
    s.begins { head := h, opcode := opcodeOf c, cmd := c, cost := costOf c h.flags 0, yellow := false, admitted := s.now }

/-- The owner's response item: built at once, whatever the mode (R255, R285). -/
def State.itemOf (s : State) (h : CmdHead) (opcode status : Nat) (body : List Nat) : Item :=
  ⟨opcode, status, h.cseq, s.now % 64, s.now / 64, body⟩

/-- The state in which an accepted command has its effect: its flight has begun and its stream has noted it (R100, R102). -/
def State.started (s : State) (h : CmdHead) (c : Cmd) : State :=
  (s.noteStream h (opcodeOf c)).setSched fun x => { x with
    flights := x.flights ++ [{ principal := h.principal, cseq := h.cseq, opcode := opcodeOf c, objects := s.objects c }] }

/-- The sender's items are built at once: not those of a tenancy in SEALED (R285). -/
def State.atOnce (s : State) (h : CmdHead) : Bool := !(s.isMode .sealed && isTenancy h.principal)

/-- The command answers a next state, of which `P` holds; the last item completed for its sender is its response (R255). -/
def Replies (i : Instr) (h : CmdHead) (opcode code : Nat) (body : List Nat) (s : State) (P : State → Prop) : Prop :=
  Yields i s fun t => (t.prin h.principal).completed = (s.prin h.principal).completed ++ [s.itemOf h opcode code body] ∧ P t

/-- The word that sets fields of a register and leaves its others as they stand. -/
def State.setting (s : State) (a : Nat) (l : List (FieldAt × Nat)) : Nat := l.foldl (fun w x => x.1.put w x.2) (s.restWord a)

/-- The requester reaches the registers and its word passes every check of R439. -/
def State.mayWrite (s : State) (r : Requester) (a w : Nat) : Bool := s.mayAccess r a 1 && decide (s.writeCode r a w = Code.ok)

end Sys2Proof.Machine
end

