-- ==== Sys2Proof/Certificates/Slice0/Obligations.lean ====
section
/-! DEFINITION. Certificates/Slice0/Obligations.lean: the statements about the block, from the numbered rules of spec/. -/

open Sys2Proof Sys2Proof.Machine

/-- What stands at the front of the queue runs on the state with the rest of the queue; with nothing pending the block idles. The queue is the model's own
(log entry 1). -/
def Obligations.FrontCommandRuns : Prop :=
  (∀ (c : Instr) (rest : List Instr) (s : State), step (s.withPending (c :: rest)) = exec c (s.withPending rest)) ∧
    ∀ s : State, s.pending = [] → step s = .next s

/-- A command whose operands the part has is carried out, whatever the state, and leaves the queue as it is; one with an operand that the part does not have
is refused by name; nothing faults. -/
def Obligations.EveryFittingCommandIsCarriedOut : Prop :=
  ∀ (i : Instr) (s : State),
    (i.wf = true → ∃ t, exec i s = .next t ∧ t.pending = s.pending) ∧ (i.wf = false → ∃ n, exec i s = .refused (.badOperand n))

/-- The invariants hold after reset. -/
def Obligations.ResetIsSound : Prop := State.reset.sound = true

/-- Every step keeps the invariants: the sparse maps stay canonical, the lists of units keep their lengths. -/
def Obligations.StepKeepsSound : Prop := ∀ s t : State, s.sound = true → step s = .next t → t.sound = true

/-- PROVISIONED never clears, and the floor never decreases, whatever the step. -/
def Obligations.ProvisionedAndFloorStay : Prop :=
  ∀ s t : State, s.sound = true → step s = .next t →
    (s.prot.provisioned = true → t.prot.provisioned = true) ∧ s.prot.floor ≤ t.prot.floor

/-- The sideband's commands, while it answers: SET_ADDR with a good PEC (or none) and 1 to 8 words sets the address and the count; LAST_STATUS gives the
code of the last READ or WRITE; ALERT_CAUSE gives and clears the recorded causes; FAULT_POP gives the oldest message of the queue, or 8 bytes of 0;
the answer to the Alert Response Address releases ALERT_N; an access stretched for 5 ms gives 0xFF in every byte and BUSY. Nothing else changes. -/
def Obligations.SidebandCommands : Prop :=
  ∀ s : State, s.sbAnswers = true →
    (∀ addr words, addr < 2 ^ 32 → 1 ≤ words → words ≤ 8 →
      exec (.sbSetAddr true addr words) s = .next { s with sb := { s.sb with addr := addr, words := words, reply := [] } }) ∧
    exec .sbLastStatus s = .next { s with sb := { s.sb with reply := [s.sb.lastStatus] } } ∧
    exec .sbAlertCause s = .next { s with sb := { s.sb with
      alertCause := 0, reply := le 2 (s.sb.alertCause ||| b01 (!s.faults.sbQueue.isEmpty)),
      alertN := s.faults.sbQueue.isEmpty || s.sb.alertN } } ∧
    (s.power ≠ .deepSleep → s.faults.sbQueue = [] →
      exec .sbFaultPop s = .next { s with sb := { s.sb with reply := List.replicate 8 0 } }) ∧
    (∀ w rest, s.power ≠ .deepSleep → s.faults.sbQueue = w :: rest →
      exec .sbFaultPop s = .next { s with
        faults := { s.faults with sbQueue := rest },
        sb := { s.sb with reply := le 8 w, alertN := (s.sb.alertCause == 0 && rest.isEmpty) || s.sb.alertN } }) ∧
    (s.sb.alertN = false →
      exec .alertResponse s = .next { s with sb := { s.sb with alertN := true, reply := [2 * (0x58 + s.sb.sba % 8)] } }) ∧
    (∀ bytes, bytes ≤ 208 →
      exec (.sbStretchTimeout bytes) s = .next { s with sb := { s.sb with lastStatus := Code.busy, reply := List.replicate bytes 0xFF } })

/-- READ, WRITE and SUMMARY of the sideband, while it answers and the device is not in DEEP SLEEP: a READ gives 4 bytes for each of WORDS words and
advances the address by 4 × WORDS; a WRITE of 1 to 8 words advances it by 4 for each word; LAST_STATUS takes the code of the access; SUMMARY gives
the 208 bytes of scope 31, unsigned, whose first four bytes are the version 1, the scope and the flags, with bit 0 SIGNED clear. -/
def Obligations.SidebandAccesses : Prop :=
  ∀ s : State, s.sbAnswers = true → s.power ≠ .deepSleep →
    Yields .sbRead s (fun t => t.sb.addr = (s.sb.addr + 4 * s.sb.words) % 2 ^ 32 ∧ t.sb.words = s.sb.words ∧
      t.sb.reply.length = 4 * s.sb.words ∧ t.sb.lastStatus = (s.readMany .sideband none s.sb.addr s.sb.words).1 ∧ t.sb.alertN = s.sb.alertN ∧
      t.sb.alertCause = s.sb.alertCause) ∧
    (∀ data : List Nat, 1 ≤ data.length → data.length ≤ 8 → (data.all fun w => decide (w < 2 ^ 32)) = true →
      Yields (.sbWrite true data) s fun t => t.sb.addr = (s.sb.addr + 4 * data.length) % 2 ^ 32 ∧ t.sb.reply = [] ∧
        t.sb.lastStatus = (s.writeMany .sideband none 0 s.sb.addr data).1) ∧
    Yields .sbSummary s (fun t => t = { s with sb := t.sb, freeCount := t.freeCount } ∧ t.sb = { s.sb with reply := t.sb.reply } ∧
      t.sb.reply.length = 208 ∧ t.sb.reply.take 3 = [0, 1, 31] ∧ (t.sb.reply.getD 3 0).testBit 0 = false)

/-- THE FRAME OF EVERY COMMAND. Where a command answers a next state, it leaves every part of the state that `mayChange` (Safety.lean) does not list
for it; the queue is in no list. -/
def Obligations.CommandsLeaveTheRest : Prop :=
  ∀ (i : Instr) (s t : State), exec i s = .next t → ∀ p : Part, p ∉ mayChange i → s.agree p t

/-- The clock. A boundary of a running block counts the frame and starts its points anew (R10, R26); an admission point takes the next point of the
frame (R27), of which there are 64; outside the commands of `setsClock` nothing moves the clock. -/
def Obligations.ClockMovesAtBoundariesAndPoints : Prop :=
  ∀ s : State, s.sound = true →
    (∀ x : FrameIn, (Instr.frameBoundary x).wf = true → s.clocked = true →
      Yields (.frameBoundary x) s fun t => t.clk = { frame := s.clk.frame + 1, point := 0, next := 0 }) ∧
    (∀ x : FrameIn, (Instr.frameBoundary x).wf = true → s.clocked = false → exec (.frameBoundary x) s = .next s) ∧
    (∀ d : Bool, s.clocked = true → s.clk.next < 64 →
      Yields (.admissionPoint d) s fun t => t.clk = { frame := s.clk.frame, point := s.clk.next, next := s.clk.next + 1 }) ∧
    (∀ (i : Instr) (t : State), setsClock i = false → exec i s = .next t → t.clk = s.clk)

/-- The service mode is set by MODE_APPLY, by RUN_ENTRY and by what resets the device, by nothing else (R5); MODE_APPLY at the boundary before frame f
brings the accepted mode into force. -/
def Obligations.ModeIsSetByModeApply : Prop :=
  ∀ s : State, s.sound = true →
    (∀ (i : Instr) (t : State), setsMode i = false → exec i s = .next t → t.mode = s.mode) ∧
    (∀ m f, s.clocked = true → s.modeNext = some (m, f) → f ≤ s.clk.frame + 1 →
      Yields .modeApply s fun t => t.mode = m ∧ t.modeNext = none ∧ t.clk = s.clk) ∧
    (∀ m f, s.modeNext = some (m, f) → s.clk.frame + 1 < f → exec .modeApply s = .next s) ∧
    (s.modeNext = none → exec .modeApply s = .next s)

/-- The fabric description, and whether an image is applied, change only where an image is read to its end or the device is reset; the NOR
changes only with the commands of `writesNor`: the end of an operation on it, the reads of start-up, post-mortem records. -/
def Obligations.ImageAndNorStay : Prop :=
  ∀ (i : Instr) (s t : State), s.sound = true → exec i s = .next t →
    (setsImage i = false → t.fabric = s.fabric ∧ t.imageApplied = s.imageApplied) ∧ (writesNor i = false → t.nor = s.nor)

/-- The input tests (R113, R147): a context that is ACTIVE goes to HOLD with the cause of the test that trips, and its tile raises the message; the
event is struck from those due. Where it is not due nothing changes. -/
def Obligations.LostFrozenInvalidHold : Prop :=
  ∀ (s : State) (n : Nat), s.sound = true → n < 40960 →
    (s.stateOf n = 1 → (n, LoopEvent.lost) ∈ s.loop.due → Yields (.feedbackLost n) s fun t =>
      t.stateOf n = 3 ∧ t.cx R.CTX_OUT_CAUSE n = 1 ∧ (n, LoopEvent.lost) ∉ t.loop.due ∧
      t.faults = { s.faults with incoming := s.faults.incoming ++ [ctxMsg n 0x20] }) ∧
    (s.stateOf n = 1 → (n, LoopEvent.frozen) ∈ s.loop.due → Yields (.feedbackFrozen n) s fun t =>
      t.stateOf n = 3 ∧ t.cx R.CTX_OUT_CAUSE n = 2 ∧ (n, LoopEvent.frozen) ∉ t.loop.due ∧
      t.faults = { s.faults with incoming := s.faults.incoming ++ [ctxMsg n 0x21] }) ∧
    (s.stateOf n = 1 → (n, LoopEvent.invalid) ∈ s.loop.due → Yields (.inputInvalid n) s fun t =>
      t.stateOf n = 3 ∧ t.cx R.CTX_OUT_CAUSE n = 3 ∧ (n, LoopEvent.invalid) ∉ t.loop.due ∧
      t.faults = { s.faults with incoming := s.faults.incoming ++ [ctxMsg n 0x22] }) ∧
    ((n, LoopEvent.lost) ∉ s.loop.due → exec (.feedbackLost n) s = .next s) ∧
    ((n, LoopEvent.frozen) ∉ s.loop.due → exec (.feedbackFrozen n) s = .next s) ∧
    ((n, LoopEvent.invalid) ∉ s.loop.due → exec (.inputInvalid n) s = .next s)

/-- Overload, the following error, the resumption (R145, R158, R167): the overload raises its message and changes nothing else; the following error
raises its message and, with FE_HOLD and an ACTIVE context, holds the context with cause 6; the sixteenth good set brings a context back to ACTIVE with
no cause and XFER set. -/
def Obligations.OverloadFollowingResume : Prop :=
  ∀ (s : State) (n : Nat), s.sound = true → n < 40960 →
    ((n, LoopEvent.overload) ∈ s.loop.due → exec (.feedbackOverload n) s = .next { s with
      loop := { s.loop with due := s.loop.due.filter fun d => decide (d ≠ (n, LoopEvent.overload)) }
      faults := { s.faults with incoming := s.faults.incoming ++ [ctxMsg n 0x23] } }) ∧
    ((n, LoopEvent.following) ∈ s.loop.due → s.cx R.CTX_CTL_FE_HOLD n = 0 → exec (.following n) s = .next { s with
      loop := { s.loop with due := s.loop.due.filter fun d => decide (d ≠ (n, LoopEvent.following)) }
      faults := { s.faults with incoming := s.faults.incoming ++ [ctxMsg n 0x24] } }) ∧
    ((n, LoopEvent.following) ∈ s.loop.due → s.cx R.CTX_CTL_FE_HOLD n = 1 → s.stateOf n = 1 → Yields (.following n) s fun t =>
      t.stateOf n = 3 ∧ t.cx R.CTX_OUT_CAUSE n = 6 ∧ t.faults = { s.faults with incoming := s.faults.incoming ++ [ctxMsg n 0x24] }) ∧
    ((n, LoopEvent.resume) ∈ s.loop.due → Yields (.autoResume n) s fun t =>
      t.stateOf n = 1 ∧ t.cx R.CTX_OUT_CAUSE n = 0 ∧ t.cx R.CTX_OUT_XFER n = 1 ∧ (n, LoopEvent.resume) ∉ t.loop.due)

/-- Express (R31, R353). A chip word that the planes agree on and that is applied in time stands in both copies of its context; one that is not applied
waits; one on which the planes differ is discarded and counted, and the comparator's run of the context grows. A word that still waits at the end of the
next chip is discarded and counted. The fourth mismatch in consecutive chips judges the standby faulty. -/
def Obligations.ExpressWords : Prop :=
  ∀ (s : State) (n chip : Nat) (codes : List Nat) (x : Upd), s.sound = true →
    (∀ applied differ, (Instr.expressUpdate n chip codes applied differ).wf = true → s.loopsOn = true → s.chipOpen chip = true →
      s.runsExpress n = true → s.expressResult n chip codes = some x →
      ((differ = false ∨ s.compares = false) → applied = true → x.moved = true → Yields (.expressUpdate n chip codes applied differ) s fun t =>
        ∀ p : Plane, t.rdP p (R.CTX_OUT_U x.ctx) = x.u % 2 ^ 20) ∧
      ((differ = false ∨ s.compares = false) → applied = false → Yields (.expressUpdate n chip codes applied differ) s fun t =>
        t.loop.expWait = s.loop.expWait ++ [(chip, x)]) ∧
      (differ = true → s.compares = true → Yields (.expressUpdate n chip codes applied differ) s fun t =>
        t.loop = s.loop ∧ t.pl.expRuns ≠ [])) ∧
    (n < 40960 → s.loop.expWait = [(chip, x)] → x.ctx = n → chip + 2 ≤ s.now / 4 → Yields (.expressOverrun n chip) s fun t =>
      t.loop = { s.loop with expWait := [] }) ∧
    (n < 40960 → s.loop.expWait = [] → exec (.expressOverrun n chip) s = .next s) ∧
    (∀ k, n < 40960 → s.pl.expRuns = [(n, chip, k)] → 4 ≤ k → s.compares = true → Yields (.expJudged n) s fun t =>
      t.pl = { s.pl with expRuns := [] } ∧
      t.faults.incoming = s.faults.incoming ++ [supMsg s.standby 4 (n / 512)] ∧
      (s.fencing (supMsg s.standby 4 (n / 512)) = true → t.faults.fenceDue = s.faults.fenceDue ++ [(s.now + 1, s.standby, false)]))

/-- The offer instant (R27, R372): each plane that takes part offers the frames whose authentication it has completed; the collectors offer what has
reached them. -/
def Obligations.OffersAreMade : Prop :=
  ∀ s : State, (s.clocked = true → Yields .offerInstant s fun t =>
      t.links = { s.links with
        offered := s.links.offered ++ (if s.joined .A then s.links.rxA else []) ++ (if s.joined .B then s.links.rxB else []), rxA := [], rxB := [] } ∧
      t.faults.incoming = [] ∧ t.faults.ended = []) ∧
    (s.clocked = false → exec .offerInstant s = .next s)

/-- The release deadline (R28, R29): the Standard work of the frame is complete but in the tiles that overran; once it is complete, a second deadline
in the frame changes nothing. -/
def Obligations.DeadlineCompletesTheFrame : Prop :=
  ∀ (s : State) (overran : List Nat) (margins : List (Nat × Nat)) (found replayed : List Mismatch),
    (Instr.releaseDeadline overran margins found replayed).wf = true →
    (s.clocked = true → s.loopsOn = true → s.loop.ready = false → Yields (.releaseDeadline overran margins found replayed) s fun t =>
      t.loop.ready = true ∧ t.loop.overran = overran ∧ t.clk = s.clk ∧ t.route = s.route) ∧
    (s.loop.ready = true → exec (.releaseDeadline overran margins found replayed) s = .next s)

/-- Every Kolrok command but STAGE (R256, R259, R277): while the lanes are not open to its sender it changes nothing; one that a check of R259 refuses is
answered with that check's code; one that is accepted has its effect, in the state in which its flight has begun; one that may not begin waits in its
queue, or is answered QUEUE_FULL and counted where the queue is full. -/
def Obligations.CommandsAreCheckedQueuedCarriedOut : Prop :=
  ∀ (s : State) (h : CmdHead) (c : Cmd), opcodeOf c ≠ 0x12 → (rowFor h c).wf = true →
    (s.takesCommands h.principal = false → exec (rowFor h c) s = .next s) ∧
    (s.takesCommands h.principal = true → s.commandCode h c ≠ Code.ok →
      exec (rowFor h c) s = .next (s.answer h (opcodeOf c) (s.commandCode h c))) ∧
    (s.accepts h c = true → exec (rowFor h c) s = .next ((s.started h c).runCmd h c)) ∧
    (∀ q : QCmd, q = { head := h, opcode := opcodeOf c, cmd := c, cost := costOf c h.flags 0, yellow := false, admitted := s.now } →
      s.takesCommands h.principal = true → s.commandCode h c = Code.ok → s.begins q = false →
      ((s.queue (queueOf h.principal c)).items.length < s.depthLimit (queueOf h.principal c) →
        exec (rowFor h c) s = .next (s.enqueue (queueOf h.principal c) q)) ∧
      (s.depthLimit (queueOf h.principal c) ≤ (s.queue (queueOf h.principal c)).items.length →
        exec (rowFor h c) s = .next ((s.bump R.SCH_EVENTS_QUEUE_FULL 1).answer h (opcodeOf c) Code.queueFull)))

/-- PING, MODE, CALIBRATE, REBOOT, PRIMER_APPLY, TILE_RESUME: each is answered OK at the point at which it takes effect, and leaves what it asked for: the
accepted mode with its boundary, the tiles' requests, the slot and the boundary of the restart. -/
def Obligations.OwnerCommandsAnswer : Prop :=
  ∀ (s : State) (h : CmdHead), s.sound = true → s.atOnce h = true →
    (s.accepts h .ping = true → Replies (.ping h) h 0x01 Code.ok [] s fun _ => True) ∧
    (∀ code frame m, s.accepts h (.mode code frame) = true → Mode.ofCode? code = some m → s.locked 7 = false →
      (frame = 0 ∨ s.clk.frame < frame) → (m = .sealed → s.sealedOk = true) →
      Replies (.mode h code frame) h 0x38 Code.ok [] s fun t => t.modeNext = some (m, if frame = 0 then s.clk.frame + 1 else frame)) ∧
    (∀ tiles, s.accepts h (.calibrate tiles) = true → tiles < 2 ^ 80 → h.flags.testBit 4 = false →
      Replies (.calibrate h tiles) h 0x31 Code.ok [] s fun t => ∀ k, k < 80 → tiles.testBit k = true → (t.tileCal k).req = true) ∧
    (∀ slot, s.accepts h (.reboot slot) = true → slot ≤ 2 → s.rebootCode = Code.ok →
      Replies (.reboot h slot) h 0x3B Code.ok [] s fun t => t.boot.reboot = some (slot, s.clk.frame + 1)) ∧
    (∀ tiles, s.accepts h (.primerApply tiles) = true → tiles < 2 ^ 80 →
      Replies (.primerApply h tiles) h 0x2A Code.ok [] s fun t => ∀ k, k < 80 → tiles.testBit k = true → (t.actTile k).applyDue = true) ∧
    (∀ tiles, s.accepts h (.tileResume tiles) = true → tiles < 2 ^ 80 → (∀ k, k < 80 → tiles.testBit k = true → (s.actTile k).hand = 16) →
      Replies (.tileResume h tiles) h 0x2B Code.ok [] s fun t => ∀ k, k < 80 → tiles.testBit k = true →
        (t.actTile k).resumeDue = true ∧ (t.actTile k).applyDue = false)

/-- DRILL, POWER, HKA_INJECT, STENCIL_START (R356, R400, R128, R184). A drill is accepted for its boundary and answered later; POWER begins the transition
to a lower state; an injection joins the converter's queue, and is answered BUSY where 8 are held; STENCIL_START triggers the generator of both planes. -/
def Obligations.LongCommandsBegin : Prop :=
  ∀ (s : State) (h : CmdHead), s.sound = true → s.atOnce h = true →
    (∀ frame x, s.accepts h (.drill frame) = true → s.frameTarget frame = .ok x → s.lastResort = false → s.seqOpen = false → s.auditOpen = false →
      s.pl.ret = none → s.pl.drill = none → s.inService s.standby = true →
      Yields (.drill h frame) s fun t => t.pl = { s.pl with drill := some { head := h, x := x } } ∧ t.rd R.PL_DRILL_FRAME_LO_FRAME = x % 2 ^ 32) ∧
    (∀ code p, s.accepts h (.power code) = true → PowerState.ofCode? code = some p → p ≠ .run → p ≠ s.power → s.pw.trans = none →
      (s.com.commits.any (·.waiting)) = false → s.seqOpen = false → s.auditOpen = false → s.pl.ret = none → s.pl.drill = none → s.prot.change = none →
      Yields (.power h code) s fun t => t.pw.trans = some { target := p, head := h, entry := s.clk.frame + 1, ask := domainsAsked p } ∧
        t.rd R.PW_STATE_BUSY = 1) ∧
    (∀ channel tag, s.accepts h (.hkaInject channel tag) = true → channel < 96 → s.hkaFenced = false →
      (s.hkaHeld < 8 → Yields (.hkaInject h channel tag) s fun t =>
        t.hka = { s.hka with queue := s.hka.queue ++ [⟨channel, tag, some h, s.now⟩] }) ∧
      (8 ≤ s.hkaHeld → Replies (.hkaInject h channel tag) h 0x30 Code.busy [] s fun t => t.hka = s.hka)) ∧
    (∀ gen, s.accepts h (.stencilStart gen) = true → gen < 8 → s.genFenced gen = false → s.genFenced (8 + gen) = false →
      Replies (.stencilStart h gen) h 0x32 Code.ok [] s fun t =>
        ∀ i, i = gen ∨ i = 8 + gen → s.rdGen i R.ST_CTRL_TRIG = 0 → (s.gen i).armed = true → (s.gen i).running = false → (s.gen i).mtest = false →
          (t.gen i).running = true ∧ (t.gen i).a0 = some s.now)

/-- READ, CTX_READ, SUMMARY (R256, R149, R262): the response carries the code of the access and, where it is OK, the words of the registers as they stand
when the command takes effect, most significant byte first; a plain SUMMARY is answered with 208 bytes. -/
def Obligations.ReadingCommandsAnswer : Prop :=
  ∀ (s : State) (h : CmdHead), s.sound = true → s.atOnce h = true →
    (∀ addr words r, s.accepts h (.read addr words) = true → 1 ≤ words → words ≤ 64 →
      r = (s.started h (.read addr words)).readMany (.principal h.principal) none addr words →
      Replies (.read h addr words) h 0x04 r.1 (if r.1 = Code.ok then wordBytes r.2.1 else []) s fun t => t.reg = r.2.2.reg) ∧
    (∀ ctx first words r, s.accepts h (.ctxRead ctx first words) = true → ctx < 40960 → 1 ≤ words → first + words ≤ 16 →
      r = (s.started h (.ctxRead ctx first words)).readMany (.principal h.principal) (some s.active) (0x1000000 + 64 * ctx + 4 * first) words →
      Replies (.ctxRead h ctx first words) h 0x20 r.1 (if r.1 = Code.ok then wordBytes r.2.1 else []) s fun t => t.reg = r.2.2.reg) ∧
    (∀ addr words, s.accepts h (.read addr words) = true → words = 0 ∨ 64 < words →
      Replies (.read h addr words) h 0x04 Code.badArg [] s fun t => t.reg = s.reg) ∧
    (s.accepts h (.summary []) = true → h.flags = 0 → Yields (.summary h []) s fun t => ∃ b : List Nat, b.length = 208 ∧
      (t.prin h.principal).completed = (s.prin h.principal).completed ++ [s.itemOf h 0x02 Code.ok b])

/-- WRITE, CTX_WRITE, GUARD_WRITE, PRIMER_WRITE, REMAP, CTX_STATE (R256, R149, R153, R213, R48): the registers are as the checks and the write of their
words leave them, and the response carries the code; a CTX_STATE that names another state than the one that shows is a state request that waits for its
boundary. -/
def Obligations.WritingCommandsAnswer : Prop :=
  ∀ (s : State) (h : CmdHead), s.sound = true → s.atOnce h = true →
    (∀ addr data r, s.accepts h (.write addr data) = true → data ≠ [] →
      r = (s.started h (.write addr data)).writeMany (.principal h.principal) (some h) 0x05 addr data → (r.1 = Code.ok → r.2.1 = false) →
      Replies (.write h addr data) h 0x05 r.1 [] s fun t => t.reg = r.2.2.reg) ∧
    (∀ ctx first data r, s.accepts h (.ctxWrite ctx first data) = true → ctx < 40960 → data ≠ [] → first + data.length ≤ 16 →
      r = (s.started h (.ctxWrite ctx first data)).writeBoth (.principal h.principal) h 0x21 (0x1000000 + 64 * ctx + 4 * first) data →
      (r.1 = Code.ok → r.2.1 = false) → Replies (.ctxWrite h ctx first data) h 0x21 r.1 [] s fun t => t.reg = r.2.2.reg) ∧
    (∀ tile offset value r, s.accepts h (.guardWrite tile offset value) = true → tile < 80 → guardOffset (0x100000 + 0x10000 * tile + offset) = true →
      r = (s.started h (.guardWrite tile offset value)).writeBoth (.principal h.principal) h 0x28 (0x100000 + 0x10000 * tile + offset) [value] →
      (r.1 = Code.ok → r.2.1 = false) → Replies (.guardWrite h tile offset value) h 0x28 r.1 [] s fun t => t.reg = r.2.2.reg) ∧
    (∀ tile offset value r, s.accepts h (.primerWrite tile offset value) = true → tile < 80 → primerOffset (0x100000 + 0x10000 * tile + offset) = true →
      r = (s.started h (.primerWrite tile offset value)).writeBoth (.principal h.principal) h 0x29 (0x100000 + 0x10000 * tile + offset) [value] →
      (r.1 = Code.ok → r.2.1 = false) → Replies (.primerWrite h tile offset value) h 0x29 r.1 [] s fun t => t.reg = r.2.2.reg) ∧
    (∀ logical useAlt r, s.accepts h (.remap logical useAlt) = true → logical < 16384 → useAlt ≤ 1 →
      r = (s.started h (.remap logical useAlt)).writeBoth (.principal h.principal) h 0x16 A.RT_REMAP [useAlt * 2 ^ 31 + logical] →
      (r.1 = Code.ok → r.2.1 = false) → Replies (.remap h logical useAlt) h 0x16 r.1 [] s fun t => t.route.remapPending = r.2.2.route.remapPending) ∧
    (∀ ctx st, s.accepts h (.ctxState ctx st) = true → ctx < 40960 → st ≤ 4 → (isTenancy h.principal = true → s.ownsCtx h.principal ctx = true) →
      (st = s.shownState ctx → Replies (.ctxState h ctx st) h 0x22 Code.ok [] s fun t => t.loop = s.loop) ∧
      (st ≠ s.shownState ctx → Yields (.ctxState h ctx st) s fun t => t.loop.requests = s.loop.requests ++ [{
        ctx := ctx, state := st, head := some h, opcode := 0x22, owner := h.principal == 30, writes := [], undo := [], since := s.now }]))

/-- CONNECT, DISCONNECT, SET_ELEMENT, STAGE in one part (R53, R257): a request joins those that post incrementally; one of more than four entries, or
with REPLACE, starts a full routing that posts before 13 points have passed; with the engine halted it is refused ROUTE_HALTED. -/
def Obligations.RouteCommandsBegin : Prop :=
  ∀ (s : State) (h : CmdHead) (c : Cmd) (r : RouteReq), s.sound = true → s.accepts h c = true → r = s.routeReq h c →
    ((∃ i o, c = .connect i o) ∨ (∃ i o, c = .disconnect i o) ∨ (∃ e x, c = .setElement e x) ∨
      (∃ id entries, c = .stage id 0 1 entries ∧ (s.prin h.principal).assembly = none ∧
        s.begins { head := h, opcode := 0x12, cmd := c, cost := costOf c h.flags entries.length, yellow := false, admitted := s.now } = true)) →
    (s.rdP s.active R.RT_CTRL_HALT ≠ 1 → r.isFull = false → Yields (rowFor h c) s fun t =>
      t.route = { s.route with begun := s.route.begun ++ [r] }) ∧
    (s.rdP s.active R.RT_CTRL_HALT ≠ 1 → r.isFull = true → Yields (rowFor h c) s fun t =>
      t.route = { s.route with full := some r, fullSince := s.now, freeAt := s.now + 13 }) ∧
    (s.rdP s.active R.RT_CTRL_HALT = 1 → s.atOnce h = true → Replies (rowFor h c) h (opcodeOf c) Code.routeHalted (routeBody (opcodeOf c) 0 0) s fun t =>
      t.route = s.route)

/-- COMMIT, ABORT, FENCE (R74, R77, R100): a refused COMMIT is answered with its code; one with nothing pending is fixed
at once for the earliest boundary and accepted with that boundary; an ABORT that names no
commit leaves the sender none of its uncommitted pending items; a FENCE before which nothing is incomplete is answered at once, any other waits. -/
def Obligations.StreamCommands : Prop :=
  ∀ (s : State) (h : CmdHead), s.sound = true → s.atOnce h = true →
    (∀ kind chip token mask frame, s.accepts h (.commit kind chip token mask frame) = true → s.unfixed = [] →
      s.commitRefusal h.principal kind chip token mask frame (h.flags.testBit 3) ≠ Code.ok →
      Replies (.commit h kind chip token mask frame) h 0x14 (s.commitRefusal h.principal kind chip token mask frame (h.flags.testBit 3)) [] s fun t =>
        t.com = s.com) ∧
    (∀ chip token mask frame F, s.accepts h (.commit 0 chip token mask frame) = true → s.commitRefusal h.principal 0 chip token mask frame false = Code.ok →
      h.flags = 0 → s.com.commits = [] → s.route.items = [] → s.route.aligned = [] → s.route.begun = [] → s.route.full = none → s.route.deferred = [] →
      s.mode ≠ .swift → s.mode ≠ .sealed → F = earliestFrame s.fclk →
      Replies (.commit h 0 chip token mask frame) h 0x14 Code.ok (be 8 F ++ be 8 F ++ be 1 0 ++ be 1 0 ++ be 2 0 ++ be 4 0) s fun t =>
        ∃ c, t.com.commits = [c] ∧ c.phase = .fixed ∧ c.sFrame = F ∧ c.bsFrame = F ∧ c.sChip = 0 ∧ c.principal = h.principal ∧ c.cseq = h.cseq) ∧
    (s.accepts h (.abort 0 0) = true → h.flags = 0 → (s.route.items.any fun it => it.principal == h.principal && it.takenBy.isNone && it.rearranges) = false →
      Replies (.abort h 0 0) h 0x15 Code.ok [] s fun t =>
        t.route = { s.route with items := s.route.items.filter fun it => !(it.principal == h.principal && it.takenBy.isNone) } ∧ t.com = s.com) ∧
    (s.accepts h .fence = true → ((s.incomplete h.principal).any fun x => decide (x < h.cseq)) = true → Yields (.fence h) s fun t =>
      (h.principal, h.cseq, s.now) ∈ t.sched.fences) ∧
    (s.accepts h .fence = true → ((s.incomplete h.principal).any fun x => decide (x < h.cseq)) = false → s.sched.fences = [] →
      Replies (.fence h) h 0x03 Code.ok [] s fun t => t.sched.fences = [])

/-- PROTECT_ARM, PROTECT_COMMIT, KEY_INSTALL, KEY_ROLL, FORWARD (R319 to R321, R315, R316, R268): an armed body with its digest and expiry; a commit of the
armed change at its boundary; a key that unwraps goes to its MTP write, one that does not is answered KEY_UNWRAP; a roll waits for its boundary; a frame
for a device that the ring shows is taken. -/
def Obligations.ProtectionCommands : Prop :=
  ∀ (s : State) (h : CmdHead), s.sound = true → s.atOnce h = true →
    (∀ b, s.accepts h (.protectArm b) = true → armFits b = true → h.flags.testBit 0 = false → s.prot.change = none →
      Replies (.protectArm h b) h 0x40 Code.ok
        (be 4 ((s.prot.lastArmId + 1) % 2 ^ 32) ++ be 1 1 ++ be 3 0 ++ be 8 (nextDigest 0 b) ++ be 8 (s.clk.frame + 1000)) s fun t =>
        t.prot = { s.prot with lastArmId := (s.prot.lastArmId + 1) % 2 ^ 32, change := some {
          armId := (s.prot.lastArmId + 1) % 2 ^ 32, bodies := [b], digest := nextDigest 0 b, expires := s.clk.frame + 1000, lastArm := s.now } }) ∧
    (∀ armId digest frame c b, s.accepts h (.protectCommit armId digest frame) = true → s.prot.change = some c → c.committed = none → armId ≠ 0 →
      armId = c.armId → digest = c.digest → s.now ≠ c.lastArm → s.frameTarget frame = .ok b →
      (s.started h (.protectCommit armId digest frame)).changeCode c.bodies = 0 → Yields (.protectCommit h armId digest frame) s fun t =>
        t.prot = { s.prot with change := some { c with committed := some (b, h.cseq) } }) ∧
    (∀ digest frame, s.accepts h (.protectCommit 0 digest frame) = true → (s.prot.change.all fun c => c.committed.isNone) = true →
      Replies (.protectCommit h 0 digest frame) h 0x41 Code.ok [] s fun t => t.prot = { s.prot with change := none }) ∧
    (∀ p which w, s.accepts h (.keyInstall p which w) = true → isPrincipal p = true → which = 0 → s.locked 8 = false →
      ((s.prot.kek.bind fun k => keyUnwrap k w) = none → Replies (.keyInstall h p which w) h 0x42 Code.keyUnwrap [] s fun t => t.prot = s.prot) ∧
      (∀ key, (s.prot.kek.bind fun k => keyUnwrap k w) = some key → s.mtpCode (some (s.keyRec p).writes) = 0 →
        Yields (.keyInstall h p which w) s fun t => t.prot = { s.prot with mtp := s.prot.mtp ++ [.key p which key h.cseq] })) ∧
    (∀ p frame b, s.accepts h (.keyRoll p frame) = true → isPrincipal p = true → s.locked 8 = false → (s.keyRec p).roll = none →
      h.flags.testBit 0 = false → (s.keyRec p).next.isSome = true → s.mtpCode (some (s.keyRec p).writes) = 0 → s.frameTarget frame = .ok b →
      Yields (.keyRoll h p frame) s fun t => t.keyRec p = { s.keyRec p with roll := some (b, false, h.cseq) }) ∧
    (∀ pos frame, s.accepts h (.forward pos frame) = true → pos ≠ s.chainPos → pos ≤ 15 → (s.rd R.AP_RING_STATUS_PRESENT).testBit pos = true →
      frame.length ≤ 1400 → s.links.ringTx.length < 16 → Replies (.forward h pos frame) h 0x44 Code.ok [] s fun t =>
        (s.ringUp = true → t.links.ringOut = s.links.ringTx ++ [(pos, frame)] ∧ t.links.ringTx = []) ∧
        (s.ringUp = false → t.links.ringTx = s.links.ringTx ++ [(pos, frame)] ∧ t.links.ringOut = s.links.ringOut))

/-- A lane's link (R239, R246, R369): with link up it has block lock, FEC lock too where RS-FEC is on, and ends its LINK_DOWN condition; with link down
it loses FEC lock, and block lock unless the loss is of FEC alone on a lane with RS-FEC, and raises LINK_DOWN; HI_BER shows and raises or ends its
condition. -/
def Obligations.LaneLinks : Prop :=
  ∀ (s : State) (l : Nat), s.sound = true → s.awake = true → l < 8 →
    (s.laneAllowed l = true → s.laneUp l = false → s.miscFenced l = false → Yields (.laneLinkUp l) s fun t =>
      t.rd (R.LK_STATUS_BLOCK_LOCK l) = 1 ∧ (s.on (R.LK_CFG_RS_FEC l) = true → t.rd (R.LK_STATUS_FEC_LOCK l) = 1) ∧
      t.faults = { s.faults with ended := s.faults.ended ++ [laneMsg l 1] }) ∧
    (∀ fecOnly, s.laneUp l = true → Yields (.laneLinkDown l fecOnly) s fun t =>
      t.rd (R.LK_STATUS_FEC_LOCK l) = 0 ∧
      t.rd (R.LK_STATUS_BLOCK_LOCK l) = (if fecOnly && s.on (R.LK_CFG_RS_FEC l) then s.rd (R.LK_STATUS_BLOCK_LOCK l) else 0) ∧
      t.faults = { s.faults with incoming := s.faults.incoming ++ [laneMsg l 1] }) ∧
    (∀ fecOnly, s.laneUp l = false → exec (.laneLinkDown l fecOnly) s = .next s) ∧
    (s.laneAllowed l = true → s.on (R.LK_STATUS_HI_BER l) = false → Yields (.hiBer l true) s fun t =>
      t.rd (R.LK_STATUS_HI_BER l) = 1 ∧ t.faults = { s.faults with incoming := s.faults.incoming ++ [laneMsg l 2] }) ∧
    (s.laneAllowed l = true → s.on (R.LK_STATUS_HI_BER l) = true → Yields (.hiBer l false) s fun t =>
      t.rd (R.LK_STATUS_HI_BER l) = 0 ∧ t.faults = { s.faults with ended := s.faults.ended ++ [laneMsg l 2] })

/-- What a lane receives and sends (R247, R241, R240, R300, R265): a Kolrok frame that fails a check is counted by the check's kind; a good one gives
the sender's address on the lane and waits for the next offer; an ARP request for the lane's address is answered; an event message of PTP is
stamped; what waits first on a free lane without windows goes out. -/
def Obligations.LaneTraffic : Prop :=
  ∀ (s : State) (l : Nat), s.sound = true → s.awake = true → l < 8 →
    (∀ (bytes : List Nat) (stamp : Stamp) k from_ padded, (Instr.kolrokFrameRx l bytes stamp).wf = true → s.carries l = true →
      s.kolrokBytes l bytes = some (k, from_, padded) →
      (s.checkFrame k padded [l] (s.largestFrame l - 40) = .format → exec (.kolrokFrameRx l bytes stamp) s = .next (s.bump (R.LK_DROP_FORMAT l) 1)) ∧
      (s.checkFrame k padded [l] (s.largestFrame l - 40) = .bind → exec (.kolrokFrameRx l bytes stamp) s = .next (s.bump (R.LK_DROP_BIND l) 1)) ∧
      (s.checkFrame k padded [l] (s.largestFrame l - 40) = .auth → exec (.kolrokFrameRx l bytes stamp) s = .next (s.bump (R.LK_DROP_AUTH l) 1)) ∧
      (∀ p plain cmds, p < 16 ∨ p = 30 → s.checkFrame k padded [l] (s.largestFrame l - 40) = .good p plain → splitCommands (k.getD 14 0) plain = some cmds →
        Yields (.kolrokFrameRx l bytes stamp) s fun t => (l, from_) ∈ (t.prin p).addrs ∧
          (lanePlane (frameOf k cmds (some stamp)).lane = .A → t.links.rxA = s.links.rxA ++ [frameOf k cmds (some stamp)]) ∧
          (lanePlane (frameOf k cmds (some stamp)).lane = .B → t.links.rxB = s.links.rxB ++ [frameOf k cmds (some stamp)]))) ∧
    (∀ (bytes : List Nat) (stamp : Stamp), (Instr.kolrokFrameRx l bytes stamp).wf = true → s.carries l = false →
      exec (.kolrokFrameRx l bytes stamp) s = .next s) ∧
    (∀ (bytes : List Nat) m, (Instr.arpRequest l bytes).wf = true → s.carries l = true → s.isUdp l = true → s.macFrame l bytes = some m →
      m.dst = broadcastMac → m.etype = 0x0806 → beAt m.payload 0 8 = 0x0001080006040001 → beAt m.payload 24 4 = s.rd (R.LK_IPV4_ADDR l) →
      Yields (.arpRequest l bytes) s fun t => (t.lane l).raw = (s.lane l).raw ++ [(false, s.macBytes l (beAt m.payload 8 6) 0x0806
        (be 8 0x0001080006040002 ++ be 6 (s.laneMac l) ++ be 4 (s.rd (R.LK_IPV4_ADDR l)) ++ slice m.payload 8 10))]) ∧
    (∀ udp messageType domain sequence port clock (stamp : Stamp), stamp.wf = true → messageType ≤ 3 → s.on (R.FT_TS_CFG_ENABLE l) = true →
      s.on (R.FT_TS_CFG_RX_PTP l) = true → (s.tsSource l).queue.length < 64 →
      Yields (.ptpEvent l udp 2 messageType domain sequence port clock stamp) s fun t => (t.tsSource l).queue = (s.tsSource l).queue ++
        [stampWords (s.tsScale l) (if udp then 2 else 1) 0 (s.tsSource l).lost stamp ++
          [messageType * 2 ^ 28 + domain % 256 * 2 ^ 20 + sequence % 65536, port % 65536 * 65536 + clock % 65536, 0]]) ∧
    (∀ pos m rest (stamp : Stamp), (Instr.frameTransmit l pos stamp).wf = true → s.carries l = true → s.windowed l = false →
      (s.lane l).raw = (false, m) :: rest → Yields (.frameTransmit l pos stamp) s fun t => (t.lane l).wire = m ∧ (t.lane l).raw = rest)

/-- The ring's frames (R268): a forwarded frame that is not the owner's counts as a drop of its lane, a good one is offered; a forwarded response goes to
the owner in notices of at most 1,024 bytes with the RSEQ. -/
def Obligations.ForwardedFrames : Prop :=
  ∀ (s : State) (pos : Nat), s.sound = true → s.clocked = true → s.ringUp = true → pos < 16 →
    (∀ k : List Nat, (k.all isByte) = true → s.links.open_ = true → k.length ≤ 1400 → k.getD 2 0 ≠ 30 → k.getD 3 0 < 8 →
      Yields (.forwardedFrameRx pos k) s fun t => t.links = { s.links with forwarder := some pos } ∧
        t.rd (R.LK_DROP_BIND (k.getD 3 0)) = satAdd (R.LK_DROP_BIND (k.getD 3 0)).top (s.rd (R.LK_DROP_BIND (k.getD 3 0))) 1) ∧
    (∀ k : List Nat, (k.all isByte) = true → s.links.open_ = true → k.length ≤ 1400 → k.getD 2 0 = 30 →
      Yields (.forwardedFrameRx pos k) s fun t => t.links.forwarder = some pos) ∧
    (∀ rseq (bytes : List Nat), rseq < 2 ^ 48 → (bytes.all isByte) = true → 1 ≤ bytes.length → bytes.length ≤ 1024 →
      Yields (.forwardedResponseRx pos rseq bytes) s fun t => (t.prin 30).notices = (s.prin 30).notices ++
        [⟨0x88, Code.ok, 0, s.clk.point, s.clk.frame, [pos, 0, 1, 0] ++ be 8 rseq ++ bytes⟩])

/-- Route requests post (R53): an incremental request at 112 FCLK after its point, a full routing at 1,600 FCLK after its start and no earlier than 12
points on; the item joins the pending configuration, and a request that finds no path is deferred to a full routing of its own, which begins at a later
point and keeps other requests back for 13 points. -/
def Obligations.RouteRequestsPost : Prop :=
  ∀ (s : State) (r : RouteReq), s.sound = true → s.com.commits = [] → s.planesUp ≠ [] → r.flags = 0 →
    (∀ it moved, s.route.begun = [r] → ({ s with route := { s.route with begun := [] } }).runRequest r false = .posted it moved →
      Yields (.incrementalPost [] []) s fun t => t.route = { s.route with
        begun := [], items := s.route.items ++ [{ it with posted := s.now * 128 + 112 }] }) ∧
    (s.route.begun = [r] → ({ s with route := { s.route with begun := [] } }).runRequest r false = .deferred →
      Yields (.incrementalPost [] []) s fun t => t.route = { s.route with begun := [], deferred := s.route.deferred ++ [r] }) ∧
    (s.route.begun = [] → exec (.incrementalPost [] []) s = .next s) ∧
    (∀ it moved, s.route.full = some r → s.route.fullSince + 12 ≤ s.now →
      ({ s with route := { s.route with full := none } }).runRequest r true = .posted it moved →
      Yields (.fullRoutingPost [] []) s fun t => t.route = { s.route with
        full := none, items := s.route.items ++ [{ it with posted := s.route.fullSince * 128 + 1600 }] }) ∧
    (s.now < s.route.fullSince + 12 → exec (.fullRoutingPost [] []) s = .next s) ∧
    (∀ rest, s.route.deferred = r :: rest → s.route.full = none → s.route.freeAt ≤ s.now → r.since < s.now →
      exec .deferredRoutingStart s = .next { s with route := { s.route with
        full := some r, fullSince := s.now, freeAt := s.now + 13, deferred := rest } })

/-- What expires (R76, R257, R279): a pending rearrangement that no commit has taken within REARRANGE_HOLD frames of its posting goes, with a notice; an
assembly 1,000 frames after its first part goes, with a notice; a yellow command YELLOW_HOLD frames after its admission is refused and counted. -/
def Obligations.WaitsExpire : Prop :=
  ∀ s : State, s.sound = true →
    (∀ it, s.route.items = [it] → it.rearranges = true → it.takenBy = none → it.posted + s.rearrangeHold * 8192 ≤ s.fclk →
      Yields .rearrangeExpired s fun t => t.route.items = []) ∧
    (∀ it, s.route.items = [it] → s.fclk < it.posted + s.rearrangeHold * 8192 → exec .rearrangeExpired s = .next s) ∧
    (∀ p a, (p < 16 ∨ p = 30) → (s.prin p).assembly = some a → a.firstFrame + 1000 ≤ s.clk.frame → Yields (.stageExpired p) s fun t =>
      (t.prin p).assembly = none ∧ (t.prin p).notices = (s.prin p).notices ++
        [⟨0x89, Code.stageIncomplete, a.firstCseq, s.clk.point, s.clk.frame, be 2 a.id ++ [a.held.length, a.parts]⟩]) ∧
    (∀ p a, (p < 16 ∨ p = 30) → (s.prin p).assembly = some a → s.clk.frame < a.firstFrame + 1000 → exec (.stageExpired p) s = .next s) ∧
    (∀ c, (s.sched.queues.flatMap fun q => q.items.filter fun x => x.yellow && x.admitted + 64 * s.yellowHold ≤ s.now) = [c] →
      isSender c.head.principal = true → s.atOnce c.head = true → Yields .yellowExpired s fun t =>
        t.sched.queues = s.sched.queues.map (fun q => { q with items := q.items.filter fun x => !(x.yellow && x.admitted + 64 * s.yellowHold ≤ s.now) }) ∧
        t.rd R.SCH_EVENTS_YELLOW_EXPIRED = satAdd R.SCH_EVENTS_YELLOW_EXPIRED.top (s.rd R.SCH_EVENTS_YELLOW_EXPIRED) 1 ∧
        (t.prin c.head.principal).completed = (s.prin c.head.principal).completed ++ [s.itemOf c.head c.opcode Code.rateRefused []])

/-- A commit's way (R78, R82, R85, R96): an unfixed commit with nothing pending is fixed for the earliest boundary; at S the committed map and the crossed
cells are those of its items and the registers name its instant; a tile that was late takes its selections; the last settled reference brings
COMMIT_DONE. -/
def Obligations.CommitsProceed : Prop :=
  ∀ (s : State) (c : Commit), s.sound = true → s.com.commits = [c] →
    (s.clocked = true → c.phase = .unfixed → c.kind = 0 → c.token = none → s.route.items = [] → s.route.begun = [] → s.route.full = none →
      s.route.deferred = [] → s.mode ≠ .swift → s.mode ≠ .sealed → Yields .commitFix s fun t =>
        ∃ d, t.com.commits = [d] ∧ d.num = c.num ∧ d.phase = .fixed ∧ d.sFrame = earliestFrame s.fclk ∧ d.sChip = 0 ∧ d.bsFrame = earliestFrame s.fclk) ∧
    (∀ chip, chip < 16 → c.phase = .fixed → c.sFrame * 16 + c.sChip ≤ s.clk.frame * 16 + chip → Yields (.commitSwitch chip [] []) s fun t =>
      t.route.committed = sortBy (fun k => k.inp) ((s.itemsOf c.num).foldl applyItemMap s.route.committed) ∧
      t.route.crossed = applySets s.route.crossed c.cells ∧ (∃ d, t.com.commits = [d] ∧ d.num = c.num ∧ d.phase = .switched) ∧
      (∀ p : Plane, t.rdP p R.CM_LAST_LO_FRAME = c.sFrame % 2 ^ 32)) ∧
    (∀ chip, chip < 16 → s.clk.frame * 16 + chip < c.sFrame * 16 + c.sChip → exec (.commitSwitch chip [] []) s = .next s) ∧
    (∀ x st phys, c.phase = .switched → c.cells = [(x, st)] → s.driverOf x = some phys → c.late = [phys / 128] → phys / 128 < 80 → c.sChip ≠ 0 →
      s.pl.selFree = false → Yields (.lateTileApply (phys / 128)) s fun t =>
        t.rd (R.TL_FD_CFG_SEL (phys / 128) (phys % 128)) = (if x ∈ s.route.crossed then 1 else 0)) ∧
    (c.phase = .settling → c.made = [] → c.moved = [] → c.hits = [] → isSender c.principal = true → Yields .commitDone s fun t =>
      t.com.commits = [] ∧ (t.prin c.principal).notices = (s.prin c.principal).notices ++ [⟨0x81, Code.ok, c.cseq, s.clk.point, s.clk.frame,
        be 8 c.sFrame ++ be 8 c.bsFrame ++ be 1 c.sChip ++ be 1 0 ++ be 1 1 ++ be 1 0 ++ be 2 c.cells.length ++ be 2 c.late.length ++
          be 2 c.untrimmed ++ be 2 0 ++ be 2 0 ++ be 2 0⟩]) ∧
    (c.phase ≠ .settling → exec .commitDone s = .next s)

/-- Tokens of a FABRIC commit (R98, R99): the master stores a READY while another device of the mask is missing, any other device passes it on; GO fixes the
commit for its frame and accepts it; ABANDON refuses it with COMMIT_LATE; TOKEN_TIMEOUT frames after READY it is refused with TOKEN_LOST, counted and
raised. -/
def Obligations.TokensDecide : Prop :=
  ∀ (s : State) (p number : Nat), s.sound = true → s.clocked = true → s.ringUp = true → isSender p = true → number < 65536 →
    (∀ mask pos named earliest slot fclk, (Instr.readyRx p number mask pos named earliest slot fclk).wf = true →
      (s.chainPos ≠ 0 → exec (.readyRx p number mask pos named earliest slot fclk) s = .next s) ∧
      (s.chainPos = 0 → s.com.readies = [] → (∃ k, k < 16 ∧ k ≠ pos ∧ mask.testBit k = true) →
        Yields (.readyRx p number mask pos named earliest slot fclk) s fun t =>
          t.com = { s.com with readies := [⟨p, number, mask, pos, named, earliest, slot, s.clk.frame, fclk⟩] })) ∧
    (∀ k c f, s.com.tokens = [k] → k.principal = p → k.number = number → s.com.commits = [c] → c.num = k.commit → c.implied = false →
      c.principal = p → s.atOnce c.head = true →
      (s.clk.frame + 1 < f → Yields (.goRx p number f) s fun t => t.com = { s.com with
          tokens := [], commits := [{ c with phase := .fixed, sFrame := f, sChip := 0, bsFrame := f }] } ∧
        (∃ it, (t.prin p).completed = (s.prin p).completed ++ [it] ∧ it.opcode = 0x14 ∧ it.status = Code.ok ∧ it.cseq = c.cseq)) ∧
      (f ≤ s.clk.frame + 1 → exec (.goRx p number f) s = .next s) ∧
      (Yields (.abandonRx p number) s fun t => t.com = { s.com with tokens := [], commits := [] } ∧
        (∃ it, (t.prin p).completed = (s.prin p).completed ++ [it] ∧ it.opcode = 0x14 ∧ it.status = Code.commitLate ∧ it.cseq = c.cseq)) ∧
      (k.readyFrame + max 1 (s.rd R.AP_TOKEN_CTRL_TOKEN_TIMEOUT) ≤ s.clk.frame → Yields .tokenLost s fun t =>
        t.com = { s.com with tokens := [], commits := [] } ∧
        t.faults = { s.faults with incoming := s.faults.incoming ++ [{ cls := 3, inst := 0, kind := 2 }] } ∧
        (∃ it, (t.prin p).completed = (s.prin p).completed ++ [it] ∧ it.opcode = 0x14 ∧ it.status = Code.tokenLost ∧ it.cseq = c.cseq)) ∧
      (s.clk.frame < k.readyFrame + max 1 (s.rd R.AP_TOKEN_CTRL_TOKEN_TIMEOUT) → exec .tokenLost s = .next s))

/-- The tile's sensing (R104, R111, R146): a bias current at its limit shows and is raised; a reference out of bounds clears REF_SETTLED, and from that
sample on the frame's samples are invalid; a reference that does not settle in time shows 17 and is raised, once; a residue mismatch of a correlator
shows its slot and is raised. -/
def Obligations.SensingEvents : Prop :=
  ∀ (s : State) (k : Nat), s.sound = true → k < 80 →
    (s.awake = true → Yields (.biasLimit k) s fun t => t.rd (R.TL_BIAS_BIAS_LIMIT k) = 1 ∧
      t.faults = { s.faults with incoming := s.faults.incoming ++ [tileMsg k 0x10 0 0] }) ∧
    (∀ sample, sample < 128 → s.awake = true → Yields (.refOut k sample) s fun t => t.rd (R.TL_REF_REF_SETTLED k) = 0 ∧
      t.rd (R.TL_REF_REF_OUT k) = 1 ∧ (t.tileSense k).refFrom = min (s.tileSense k).refFrom sample) ∧
    ((s.tileSense k).timeoutDue = true → Yields (.refTimeout k) s fun t => t.rd (R.TL_REF_SETTLE_LAST k) = 17 ∧
      (t.tileSense k).timeoutDue = false ∧ t.faults = { s.faults with incoming := s.faults.incoming ++ [tileMsg k 0x11 0 0] }) ∧
    ((s.tileSense k).timeoutDue = false → exec (.refTimeout k) s = .next s) ∧
    (∀ slot, slot < 1024 → s.clocked = true → Yields (.corrResidue k slot) s fun t => t.rd (R.TL_CORR_STATUS_RESIDUE_ERR k) = 1 ∧
      t.rd (R.TL_CORR_STATUS_RESIDUE_SLOT k) = slot ∧ (k, slot) ∈ t.dith.residues ∧
      t.faults = { s.faults with incoming := s.faults.incoming ++ [tileMsg k 0x15 6 slot] })

/-- A plane's bank of a tile (R173, R174): a read error shows its word in that plane; a single one is corrected and counted, a double one shows UNCORR; a
missed refresh shows; each is raised with its kind. -/
def Obligations.StoreRoomErrors : Prop :=
  ∀ (s : State) (p : Plane) (k : Nat), s.sound = true → s.clocked = true → k < 80 →
    (∀ word, word < 8192 → Yields (.storeRoomReadEcc p k word true) s fun t => t.rdP p (R.TL_STORE_STATUS_LAST_WORD k) = word ∧
      t.rdP p (R.TL_STORE_STATUS_UNCORR k) = 1 ∧
      t.faults = { s.faults with incoming := s.faults.incoming ++ [planeMsg 7 k 2 p word] }) ∧
    (∀ word, word < 8192 → Yields (.storeRoomReadEcc p k word false) s fun t => t.rdP p (R.TL_STORE_STATUS_LAST_WORD k) = word ∧
      t.rdP p (R.TL_STORE_STATUS_CORRECTED k) =
        satAdd (R.TL_STORE_STATUS_CORRECTED k).top (s.rdP p (R.TL_STORE_STATUS_CORRECTED k)) 1 ∧
      t.faults = { s.faults with incoming := s.faults.incoming ++ [planeMsg 7 k 1 p word] }) ∧
    Yields (.refreshMiss p k) s fun t => t.rdP p (R.TL_STORE_STATUS_REFRESH_MISS k) = 1 ∧
      t.faults = { s.faults with incoming := s.faults.incoming ++ [planeMsg 7 k 3 p 0] }

/-- Capture (R120 to R123): a record that ends its window in a running channel with room moves the write pointer by its length, modulo 2³²; nothing is
written outside a window or by a channel that does not run; a write of the read pointer takes the value, but never past the write pointer, which shows
CLAMPED. -/
def Obligations.CaptureRecords : Prop :=
  ∀ (s : State) (c : Nat), s.sound = true → c < 32 →
    (∀ last codes, (Instr.captureRecordWrite c last codes).wf = true → s.clocked = true → s.running c = true → s.windowEnds c last = true →
      (s.chan c).fullStop = false → (s.rd (chPolicy c) ≠ 1 ∨ s.fill c + (s.recordBytes c last codes).length ≤ s.bufSize c) →
      Yields (.captureRecordWrite c last codes) s fun t => t.rd (chWptr c) = (s.rd (chWptr c) + (s.recordBytes c last codes).length) % 2 ^ 32) ∧
    (∀ last codes, (Instr.captureRecordWrite c last codes).wf = true → s.clocked = true → s.running c = true → s.windowEnds c last = true →
      (s.chan c).fullStop = false → s.rd (chPolicy c) = 1 → s.bufSize c < s.fill c + (s.recordBytes c last codes).length →
      Yields (.captureRecordWrite c last codes) s fun t => t.rd (chFull c) = 1 ∧ (t.chan c).fullStop = true ∧ t.cap.mem = s.cap.mem) ∧
    (∀ last codes, (Instr.captureRecordWrite c last codes).wf = true → s.running c = false ∨ s.windowEnds c last = false →
      exec (.captureRecordWrite c last codes) s = .next s) ∧
    (∀ r value, (Instr.capRptrWrite r c value).wf = true → s.mayWrite r (A.CAP_RPTR c) value = true →
      Yields (.capRptrWrite r c value) s fun t =>
        if (s.rd (chWptr c) + 2 ^ 32 - s.rd (chRptr c)) % 2 ^ 32 < (value + 2 ^ 32 - s.rd (chRptr c)) % 2 ^ 32 then
          t.rd (chRptr c) = s.rd (chWptr c) ∧ t.rd (chClamp c) = 1
        else t.rd (chRptr c) = value)

/-- The housekeeping converter (R126 to R128): a conversion of an injection's last slot answers its command, or leaves its result for HKA_INJ_RESULT; the
last slot of a round channel gives HKA_RESULT the mean of its conversions and goes on to the next channel; a settle slot or an earlier conversion counts;
a request of a calibration waits from this point on; a write of HKA_INJECT queues an injection, refused and counted where 8 are held; a read of
HKA_INJ_RESULT takes the oldest result. -/
def Obligations.ConverterSlots : Prop :=
  ∀ s : State, s.sound = true →
    (∀ slot code ofs gain inj rest, slot < 20 → code < 65536 → s.clocked = true → s.hka.calLeft = 0 → s.hka.calAt = none →
      s.hka.queue = inj :: rest → s.readyFor slot inj.queued = true → hkaSettle inj.channel ≤ s.hka.injDone → inj.head = none →
      Yields (.hkaSlot slot code ofs gain) s fun t => t.hka.queue = rest ∧ t.hka.injDone = 0 ∧
        t.hka.results = s.hka.results ++ [(inj.channel, inj.tag, code)]) ∧
    (∀ slot code ofs gain, slot < 20 → code < 65536 → s.clocked = true → s.hka.calLeft = 0 → s.hka.calAt = none → s.hka.queue = [] →
      s.hka.chan < 96 → s.on R.HKA_CTRL_ROUND_EN = true → s.hkaFenced = false →
      (s.hka.done + 1 ≠ hkaSlots s.hka.chan → Yields (.hkaSlot slot code ofs gain) s fun t => t.hka = { s.hka with
        done := s.hka.done + 1, sum := if s.hka.done + 1 ≤ hkaSettle s.hka.chan then 0 else s.hka.sum + code } ∧ t.reg = s.reg) ∧
      (s.hka.done + 1 = hkaSlots s.hka.chan → Yields (.hkaSlot slot code ofs gain) s fun t => t.hka.chan = s.hka.chan + 1 ∧ t.hka.done = 0 ∧
        t.rd (R.HKA_RESULT_CODE s.hka.chan) = hkaMean s.hka.chan (s.hka.sum + code) % 65536)) ∧
    (∀ r, r.wf = true → s.mayWrite r A.HKA_CTRL (s.setting A.HKA_CTRL [(R.HKA_CTRL_CAL_START, 1)]) = true → s.hka.calAt = none →
      Yields (.calStart r) s fun t => t.hka = { s.hka with calAt := some s.now }) ∧
    (∀ r channel tag, (Instr.hkaInjectWrite r channel tag).wf = true →
      s.mayWrite r A.HKA_INJECT (s.setting A.HKA_INJECT [(R.HKA_INJECT_CHANNEL, channel), (R.HKA_INJECT_TAG, tag)]) = true →
      (channel < 96 → s.hkaHeld < 8 → Yields (.hkaInjectWrite r channel tag) s fun t => t.hka = { s.hka with
        queue := s.hka.queue ++ [⟨channel, tag, none, s.now⟩] }) ∧
      (96 ≤ channel ∨ 8 ≤ s.hkaHeld → Yields (.hkaInjectWrite r channel tag) s fun t => t.hka = s.hka ∧
        t.rd R.HKA_STATUS_INJ_REFUSED = satAdd R.HKA_STATUS_INJ_REFUSED.top (s.rd R.HKA_STATUS_INJ_REFUSED) 1)) ∧
    (∀ r, r.wf = true → s.ownerLike r = true → s.mayAccess r A.HKA_INJ_RESULT 1 = true → s.heldRead r A.HKA_INJ_RESULT = none → Yields (.hkaResultPop r) s fun t =>
      t.hka = { s.hka with results := s.hka.results.drop 1 })

/-- Arming, starting, halting (R184, R185): ARM arms the generator of both planes; the command trigger starts an armed generator whose trigger is the
command at this point, in the state that a start gives: A, D, the counters 0, PRBS 0x7FFF, the program from ENTRY; HALT stops a running one with cause 2;
an edge of its EVT input starts an armed one at the next point; its trigger frame starts an armed one at that boundary. -/
def Obligations.GeneratorsStart : Prop :=
  ∀ (s : State) (g : Nat), s.sound = true →
    (∀ r w i, (Instr.stArm r g).wf = true → w = s.setting (A.ST_CTRL g) [(R.ST_CTRL_ARM g, 1)] → s.mayWrite r (A.ST_CTRL g) w = true →
      (R.ST_CTRL_TRIG g).get w ≠ 3 → i = g ∨ i = 8 + g → Yields (.stArm r g) s fun t => (t.gen i).armed = true) ∧
    (∀ r i, (Instr.stHalt r g).wf = true → s.mayWrite r (A.ST_CTRL g) (s.setting (A.ST_CTRL g) [(R.ST_CTRL_HALT g, 1)]) = true →
      i = g ∨ i = 8 + g → (s.gen i).running = true → Yields (.stHalt r g) s fun t => (t.gen i).running = false ∧ (t.gen i).cause = 2) ∧
    (∀ r w i, (Instr.stStart r g).wf = true → w = s.setting (A.ST_CTRL g) [(R.ST_CTRL_START g, 1)] → s.mayWrite r (A.ST_CTRL g) w = true →
      (R.ST_CTRL_TRIG g).get w = 0 → i = g ∨ i = 8 + g → (s.gen i).armed = true → (s.gen i).running = false → (s.gen i).mtest = false →
      Yields (.stStart r g) s fun t => (t.gen i).running = true ∧ (t.gen i).armed = false ∧ (t.gen i).a0 = some s.now ∧ (t.gen i).a = 0 ∧
        (t.gen i).d = 0 ∧ (t.gen i).c0 = 0 ∧ (t.gen i).c1 = 0 ∧ (t.gen i).prbs = 0x7FFF ∧ (t.gen i).pc = (R.ST_CTRL_ENTRY g).get w) ∧
    (∀ evt rising, evt < 8 → s.clocked = true → g < 16 → s.rdGen g R.ST_CTRL_TRIG = (if rising then 1 else 2) → s.rdGen g R.ST_CTRL_EVT = evt →
      (s.gen g).armed = true → (s.gen g).running = false → (s.gen g).mtest = false →
      Yields (.evtEdgeTrigger evt rising) s fun t => (t.gen g).running = true ∧ (t.gen g).a0 = some (s.now + 1)) ∧
    (g < 16 → s.clocked = true → s.rdGen g R.ST_CTRL_TRIG = 3 → s.trigFrame g = s.clk.frame → s.clk.point = 0 → (s.gen g).armed = true →
      (s.gen g).running = false → Yields (.frameTrigger g) s fun t => (t.gen g).running = true ∧ (t.gen g).a0 = some (64 * s.clk.frame)) ∧
    (g < 16 → s.trigFrame g ≠ s.clk.frame → exec (.frameTrigger g) s = .next s)

/-- The instructions that emit nothing (R186): STOP ends with cause 1; LDA, LDD, ADDA, LDC set the accumulator, the increment, a counter and go on; LOOP
takes the counter down by one modulo 65,536 and jumps unless it is 0; JMP jumps. Each but STOP counts as one more that emits nothing. -/
def Obligations.GeneratorRegisters : Prop :=
  ∀ (s : State) (i w : Nat) (x : Gen), s.sound = true → i < 16 → s.gen i = x → s.genWord i = w → x.running = true → x.idle < 64 →
    (opOf w = 0x00 → Yields (.stop i) s fun t => t.gen i = { x with running := false, cause := 1 }) ∧
    (opOf w = 0x01 → Yields (.lda i) s fun t => t.gen i = { x with a := signed 16 w * 2 ^ 16, idle := x.idle + 1, pc := (x.pc + 1) % 256 }) ∧
    (opOf w = 0x02 → Yields (.ldd i) s fun t => t.gen i = { x with d := signed 24 w, idle := x.idle + 1, pc := (x.pc + 1) % 256 }) ∧
    (opOf w = 0x03 → Yields (.adda i) s fun t => t.gen i = { x with
      a := sat32 (x.a + signed 24 w), idle := x.idle + 1, pc := (x.pc + 1) % 256 }) ∧
    (opOf w = 0x08 → w.testBit 24 = false → Yields (.ldc i) s fun t => t.gen i = { x with
      c0 := w % 65536, idle := x.idle + 1, pc := (x.pc + 1) % 256 }) ∧
    (opOf w = 0x08 → w.testBit 24 = true → Yields (.ldc i) s fun t => t.gen i = { x with
      c1 := w % 65536, idle := x.idle + 1, pc := (x.pc + 1) % 256 }) ∧
    (opOf w = 0x09 → w.testBit 24 = false → Yields (.loop i) s fun t => t.gen i = { x with
      c0 := (x.c0 + 65535) % 65536, idle := x.idle + 1, pc := if (x.c0 + 65535) % 65536 = 0 then (x.pc + 1) % 256 else w % 256 }) ∧
    (opOf w = 0x09 → w.testBit 24 = true → Yields (.loop i) s fun t => t.gen i = { x with
      c1 := (x.c1 + 65535) % 65536, idle := x.idle + 1, pc := if (x.c1 + 65535) % 65536 = 0 then (x.pc + 1) % 256 else w % 256 }) ∧
    (opOf w = 0x0A → Yields (.jmp i) s fun t => t.gen i = { x with idle := x.idle + 1, pc := w % 256 })

/-- The instructions that emit (R186, R188): EMIT gives A's upper half N + 1 times; RAMP gives it and adds D each time, with saturation; TABLE gives N + 1
samples of the wave table from BASE and A takes the last; PRBS gives N + 1 samples with pseudo-random signs. Each sample counts, and the emitting clears
the count of the instructions that emit nothing. -/
def Obligations.GeneratorSamples : Prop :=
  ∀ (s : State) (i w : Nat) (x : Gen), s.sound = true → i < 16 → s.gen i = x → s.genWord i = w → x.running = true → x.idle < 64 →
    (opOf w = 0x04 → Yields (.emit i) s fun t => t.gen i = { x with
      samples := x.samples ++ List.replicate (w % 65536 + 1) (asr x.a 16), last := asr x.a 16, idle := 0, pc := (x.pc + 1) % 256 }) ∧
    (opOf w = 0x05 → w % 65536 = 1 → Yields (.ramp i) s fun t => t.gen i = { x with
      samples := x.samples ++ [asr x.a 16, asr (sat32 (x.a + x.d)) 16], last := asr (sat32 (x.a + x.d)) 16, a := sat32 (sat32 (x.a + x.d) + x.d),
      idle := 0, pc := (x.pc + 1) % 256 }) ∧
    (opOf w = 0x05 → Yields (.ramp i) s fun t => (t.gen i).samples.length = x.samples.length + (w % 65536 + 1) ∧ (t.gen i).pc = (x.pc + 1) % 256 ∧
      (t.gen i).idle = 0) ∧
    (opOf w = 0x06 → Yields (.table i) s fun t => (t.gen i).samples = x.samples ++ (List.range (w % 65536 + 1)).map (fun k => s.waveSample i (bits w 25 16 + k)) ∧
      (t.gen i).a = s.waveSample i (bits w 25 16 + w % 65536) * 2 ^ 16 ∧ (t.gen i).pc = (x.pc + 1) % 256) ∧
    (opOf w = 0x07 → Yields (.prbs i) s fun t => (t.gen i).samples.length = x.samples.length + (w % 65536 + 1) ∧ (t.gen i).a = x.a ∧
      (t.gen i).prbs < 2 ^ 15 ∧ (t.gen i).pc = (x.pc + 1) % 256)

/-- Branches, waits, and what stops a program (R185, R186): BR goes where its condition says; WAIT goes on with its condition, or gives one sample and
stays; opcodes 0x0D to 0x1F stop the generator with cause 3, 64 instructions in a row that emit nothing with cause 4, and both are raised; where the
generator does not stand at the instruction nothing changes. -/
def Obligations.GeneratorBranches : Prop :=
  ∀ (s : State) (i w : Nat) (x : Gen), s.sound = true → i < 16 → s.gen i = x → s.genWord i = w → x.running = true →
    (x.idle < 64 → opOf w = 0x0B → s.tested i w = some true → Yields (.br i) s fun t => t.gen i = { x with idle := x.idle + 1, pc := w % 256 }) ∧
    (x.idle < 64 → opOf w = 0x0B → s.tested i w = some false → Yields (.br i) s fun t => t.gen i = { x with
      idle := x.idle + 1, pc := (x.pc + 1) % 256 }) ∧
    (x.idle < 64 → opOf w = 0x0C → s.tested i w = some true → Yields (.wait i) s fun t => t.gen i = { x with
      idle := x.idle + 1, pc := (x.pc + 1) % 256 }) ∧
    (x.idle < 64 → opOf w = 0x0C → s.tested i w = some false → Yields (.wait i) s fun t => t.gen i = { x with
      samples := x.samples ++ [asr x.a 16], last := asr x.a 16, idle := 0 }) ∧
    (x.idle < 64 → 0x0D ≤ opOf w → Yields (.illegal i) s fun t => t.gen i = { x with running := false, cause := 3 } ∧
      t.faults = { s.faults with incoming := s.faults.incoming ++ [{ cls := 11, inst := i, kind := 1, plane := i / 8, addr := x.pc }] }) ∧
    (64 ≤ x.idle → Yields (.runaway i) s fun t => t.gen i = { x with running := false, cause := 4 } ∧
      t.faults = { s.faults with incoming := s.faults.incoming ++ [{ cls := 11, inst := i, kind := 2, plane := i / 8, addr := x.pc }] }) ∧
    (opOf w ≠ 0x0B → exec (.br i) s = .next s) ∧ (opOf w ≠ 0x0C → exec (.wait i) s = .next s) ∧ (opOf w < 0x0D → exec (.illegal i) s = .next s) ∧
    (x.idle < 64 → exec (.runaway i) s = .next s)

/-- The memory test (R191, R192): START with its condition met shows BUSY and gives the generator to the test, else it is refused with a cause; ABORT ends a
running test with ABORTED; the end of a test shows DONE, and PASS or the number of fails, the element and the place of the first, which is raised. -/
def Obligations.MemoryTests : Prop :=
  ∀ (s : State) (p : Plane), s.sound = true →
    (∀ r, (Instr.mtAbort r).wf = true → s.mayWrite r A.MT_CTRL (s.setting A.MT_CTRL [(R.MT_CTRL_ABORT, 1)]) = true → p ∈ s.ownPlanes r →
      s.mtBusy p = true → Yields (.mtAbort r) s fun t => t.rdP p R.MT_STATUS_BUSY = 0 ∧ t.rdP p R.MT_STATUS_ABORTED = 1) ∧
    (∀ r w, (Instr.mtStart r).wf = true → w = s.setting A.MT_CTRL [(R.MT_CTRL_START, 1)] → s.mayWrite r A.MT_CTRL w = true → s.ownPlanes r = [p] →
      (∀ f ∈ [R.MT_CTRL_TARGET, R.MT_CTRL_GEN, R.MT_CTRL_BANK_PLANE, R.MT_CTRL_TILE, R.MT_CTRL_SIZE_LOG2], f.get w = s.rdP p f) →
      (s.mtCause p s.pl.ret.isNone s.pw.wake.isNone = 0 → Yields (.mtStart r) s fun t => t.rdP p R.MT_STATUS_BUSY = 1 ∧
        (t.gen (genInst p (s.rdP p R.MT_CTRL_GEN))).mtest = true) ∧
      (s.mtCause p s.pl.ret.isNone s.pw.wake.isNone ≠ 0 → Yields (.mtStart r) s fun t => t.rdP p R.MT_STATUS_REFUSED = 1 ∧
        t.rdP p R.MT_STATUS_CAUSE = s.mtCause p s.pl.ret.isNone s.pw.wake.isNone)) ∧
    (∀ addr element diff check, (Instr.mtestDone p 0 addr element diff check).wf = true → s.mtBusy p = true →
      Yields (.mtestDone p 0 addr element diff check) s fun t => t.rdP p R.MT_STATUS_DONE = 1 ∧ t.rdP p R.MT_STATUS_PASS = 1 ∧
        t.rdP p R.MT_STATUS_BUSY = 0 ∧ t.faults = s.faults) ∧
    (∀ fails addr element diff check, (Instr.mtestDone p fails addr element diff check).wf = true → 0 < fails → s.mtBusy p = true →
      Yields (.mtestDone p fails addr element diff check) s fun t => t.rdP p R.MT_STATUS_DONE = 1 ∧ t.rdP p R.MT_STATUS_FAILS = min (2 ^ 20 - 1) fails ∧
        t.rdP p R.MT_STATUS_ELEMENT = element ∧ t.wordP p A.MT_FAIL_ADDR = addr ∧ t.wordP p A.MT_FAIL_BITS = diff ∧
        t.faults = { s.faults with incoming := s.faults.incoming ++ [{
          cls := 11, inst := genInst p (s.rdP p R.MT_CTRL_GEN), kind := 3, plane := planeBit p, addr := 0 }] }) ∧
    (∀ fails addr element diff check, (Instr.mtestDone p fails addr element diff check).wf = true → s.mtBusy p = false →
      exec (.mtestDone p fails addr element diff check) s = .next s)

/-- What the pins show (R205, R207, R212): an open channel is raised; a shorted channel and one at its load limit are raised and latched off from the next
boundary; an overload latches its driver off at once and is raised, once. What is not due changes nothing. -/
def Obligations.PinFaults : Prop :=
  ∀ (s : State) (h : Nat), s.sound = true →
    (h < 20480 → (0, h) ∈ s.act.due → Yields (.heaterOpen h) s fun t => (0, h) ∉ t.act.due ∧
      t.faults = { s.faults with incoming := s.faults.incoming ++ [tileMsg (h / 256) 0x30 2 h] }) ∧
    (h < 20480 → (1, h) ∈ s.act.due → Yields (.heaterShort h) s fun t => (1, h) ∉ t.act.due ∧ (t.chan_ h).offAt = some (s.clk.frame + 1) ∧
      t.faults = { s.faults with incoming := s.faults.incoming ++ [tileMsg (h / 256) 0x31 2 h] }) ∧
    (h < 20480 → (2, h) ∈ s.act.due → Yields (.heaterLoad h) s fun t => (2, h) ∉ t.act.due ∧ (t.chan_ h).offAt = some (s.clk.frame + 1) ∧
      t.faults = { s.faults with incoming := s.faults.incoming ++ [tileMsg (h / 256) 0x32 2 h] }) ∧
    (h < 20480 → (0, h) ∉ s.act.due → exec (.heaterOpen h) s = .next s) ∧
    (h < 20480 → (1, h) ∉ s.act.due → exec (.heaterShort h) s = .next s) ∧
    (h < 20480 → (2, h) ∉ s.act.due → exec (.heaterLoad h) s = .next s) ∧
    (h < 10240 → s.awake = true → s.fdLatched h = false → Yields (.driverOverload h) s fun t => t.fdLatched h = true ∧
      t.faults = { s.faults with incoming := s.faults.incoming ++ [tileMsg (h / 128) 0x33 3 h] }) ∧
    (h < 10240 → s.fdLatched h = true → exec (.driverOverload h) s = .next s)

/-- The guard and the latches (R202, R210, R212, R217, R220): a guard error puts its tile under Primer from the next boundary and is raised; a tile that
starves shows it and raises it, once; a changed TRIM that waits comes into force; releases are kept for the boundary; a level written for a driver is an
F-class write of both its levels. -/
def Obligations.OutputRequests : Prop :=
  ∀ (s : State) (k : Nat), s.sound = true →
    (k < 80 → s.awake = true → Yields (.guardIntegrity k) s fun t => (t.actTile k).guardDue = true ∧
      t.faults = { s.faults with incoming := s.faults.incoming ++ [tileMsg k 0x39 0 0] }) ∧
    (k < 80 → s.awake = true → (s.actTile k).starved = false → Yields (.starvation k) s fun t => (t.actTile k).starved = true ∧
      t.rd (R.TL_GUARD_STATUS_STARVED k) = 1 ∧ t.faults = { s.faults with incoming := s.faults.incoming ++ [tileMsg k 0x3A 0 0] }) ∧
    (k < 80 → (s.actTile k).starved = true → exec (.starvation k) s = .next s) ∧
    (k < 20480 → (s.chan_ k).trimWaits = true → Yields (.trimApply k) s fun t => (t.chan_ k).trimWaits = false ∧
      (t.chan_ k).trim = s.rd (R.TL_HTR_CFG_TRIM (k / 256) (k % 256))) ∧
    (∀ r w mask, (Instr.htrOffRelease r k w mask).wf = true → s.mayWrite r (A.TL_HTR_OFF k w) mask = true →
      Yields (.htrOffRelease r k w mask) s fun t => ∀ b, b < 32 → mask.testBit b = true → 256 * k + 32 * w + b ∈ t.act.htrRelease) ∧
    (∀ r w mask, (Instr.fdOffRelease r k w mask).wf = true → s.mayWrite r (A.TL_FD_OFF k w) mask = true →
      Yields (.fdOffRelease r k w mask) s fun t => ∀ b, b < 32 → mask.testBit b = true → 128 * k + 32 * w + b ∈ t.act.fdRelease) ∧
    (∀ r bar cross, (Instr.fdLevelWrite r k bar cross).wf = true → s.mayWrite r (A.TL_FD_LEVEL (k / 128) (k % 128)) (cross * 65536 + bar) = true →
      Yields (.fdLevelWrite r k bar cross) s fun t => t.shadowOf (R.TL_FD_LEVEL_BAR (k / 128) (k % 128)) = some bar ∧
        t.shadowOf (R.TL_FD_LEVEL_CROSS (k / 128) (k % 128)) = some cross)

/-- Calibration runs (R225, R226): a request of a run or of a pedestal calibration is remembered for its tile, a request of all for every tile and the
converter; a requested run starts where the power state permits it, at the boundary just passed, and its end shows the temperature it started at. -/
def Obligations.CalibrationRuns : Prop :=
  ∀ (s : State) (k : Nat), s.sound = true → k < 80 →
    (∀ r, r.wf = true → s.mayWrite r (A.TL_CAL_CTRL k) (s.setting (A.TL_CAL_CTRL k) [(R.TL_CAL_CTRL_REQ k, 1)]) = true →
      Yields (.tlCalReq r k) s fun t => (t.tileCal k).req = true) ∧
    (∀ r, r.wf = true → s.mayWrite r (A.TL_CAL_CTRL k) (s.setting (A.TL_CAL_CTRL k) [(R.TL_CAL_CTRL_TIA_REQ k, 1)]) = true →
      (s.tileCal k).tia = none → Yields (.tiaReq r k) s fun t => (t.tileCal k).tia = some (s.clk.frame + 1)) ∧
    (∀ r, r.wf = true → s.mayWrite r A.CAL_CTRL (s.setting A.CAL_CTRL [(R.CAL_CTRL_ALL, 1)]) = true → Yields (.calAll r) s fun t =>
      (t.tileCal k).req = true ∧ t.hka.calAt.isSome = true) ∧
    (s.clocked = true → (s.tileCal k).start = none → (s.power = .run ∨ s.power = .idle) → (s.tileCal k).req = true → (s.tileCal k).first ≤ s.clk.frame →
      Yields (.tileRunStart k) s fun t => (t.tileCal k).start = some s.clk.frame ∧ (t.tileCal k).req = false ∧ (t.tileCal k).trig = false ∧
        (t.tileCal k).temp = s.rdS (R.TH_SENSOR_TEMP k)) ∧
    (s.clocked = true → (s.tileCal k).req = false → (s.tileCal k).trig = false → exec (.tileRunStart k) s = .next s) ∧
    ((s.tileCal k).endDue = true → Yields (.tileRunEnd k) s fun t => (t.tileCal k).start = none ∧ (t.tileCal k).endDue = false ∧
      t.rd (R.TL_CAL_STATUS_T_LAST k) = unsigned ((R.TL_CAL_STATUS_T_LAST k).hi + 1 - (R.TL_CAL_STATUS_T_LAST k).lo) (s.tileCal k).temp) ∧
    ((s.tileCal k).endDue = false → exec (.tileRunEnd k) s = .next s)

/-- Sweeps (R234, R235): in SURVEY a START without a cause of refusal shows BUSY and starts at the next boundary, one with a cause shows it; ABORT ends a
sweep at the next boundary; a point that is due shows in POINT; the end of an aborted sweep shows ABORTED and clears BUSY. -/
def Obligations.Sweeps : Prop :=
  ∀ s : State, s.sound = true →
    (∀ r w, r.wf = true → w = s.setting A.SV_CTRL [(R.SV_CTRL_START, 1)] → s.mayWrite r A.SV_CTRL w = true →
      (∀ f ∈ [R.SV_CTRL_KIND, R.SV_CTRL_SEED, R.SV_CTRL_POINTS, R.SV_CTRL_SETTLE], f.get w = s.rd f) → s.on R.SV_STATUS_BUSY = false →
      (s.sweepCause s.sweepKind ((List.range (min 2560 (s.rd R.SV_LIST_COUNT))).map s.sweepEntry) = 0 → Yields (.svStart r) s fun t =>
        t.rd R.SV_STATUS_BUSY = 1 ∧ t.rd R.SV_STATUS_POINT = 0 ∧ t.cal.sweep.b0 = s.clk.frame + 1 ∧
        t.cal.sweep.entries = (List.range (min 2560 (s.rd R.SV_LIST_COUNT))).map s.sweepEntry) ∧
      (s.sweepCause s.sweepKind ((List.range (min 2560 (s.rd R.SV_LIST_COUNT))).map s.sweepEntry) ≠ 0 → Yields (.svStart r) s fun t =>
        t.rd R.SV_STATUS_REFUSED = 1 ∧
        t.rd R.SV_STATUS_CAUSE = s.sweepCause s.sweepKind ((List.range (min 2560 (s.rd R.SV_LIST_COUNT))).map s.sweepEntry))) ∧
    (∀ r, r.wf = true → s.mayWrite r A.SV_CTRL (s.setting A.SV_CTRL [(R.SV_CTRL_ABORT, 1)]) = true → s.on R.SV_STATUS_BUSY = true →
      Yields (.svAbort r) s fun t => t.cal.sweep = { s.cal.sweep with aborting := true }) ∧
    (s.cal.sweep.pointDue = some 0 → Yields .sweepPoint s fun t => t.rd R.SV_STATUS_POINT = 0 ∧ t.cal.sweep.pointDue = none ∧
      t.cal.sweep.recs = s.cal.sweep.recs ∧ t.cap = s.cap) ∧
    (∀ p, s.cal.sweep.pointDue = some p → p < 1024 → Yields .sweepPoint s fun t => t.rd R.SV_STATUS_POINT = p ∧ t.cal.sweep.pointDue = none) ∧
    (s.cal.sweep.pointDue = none → exec .sweepPoint s = .next s) ∧
    (s.cal.sweep.endDue = true → s.cal.sweep.aborting = true → Yields .sweepEnd s fun t => t.rd R.SV_STATUS_ABORTED = 1 ∧ t.rd R.SV_STATUS_BUSY = 0 ∧
      t.cal.sweep = {} ∧ t.cap = s.cap) ∧
    (s.cal.sweep.endDue = true → s.cal.sweep.aborting = false → Yields .sweepEnd s fun t => t.rd R.SV_STATUS_DONE = 1 ∧ t.rd R.SV_STATUS_BUSY = 0 ∧
      t.cal.sweep = {}) ∧
    (s.cal.sweep.endDue = false → exec .sweepEnd s = .next s)

/-- Writes of the time domains (R290, R291, R294, R297): the write of INCR_LO takes the whole increment, the held INCR_HI included, and ends the domain's
holdover; the write of SET_NS makes the set wait for the next tick and the domain valid; an adjust adds to the one that waits; CAPTURE stores all three
scales and the frame number at one instant; ALIGN asks for an alignment; no frame runs in the gap, and its end makes the next boundary the next multiple
of 20,000 ns, its input set blanked; without REFCLK no domain counts (R298). -/
def Obligations.DomainWrites : Prop :=
  ∀ (s : State) (r : Requester) (d : Nat), s.sound = true → d < 2 →
    (∀ low, (Instr.tdRateWrite r d low).wf = true → s.mayWrite r (A.FT_TD_INCR_LO d) low = true →
      Yields (.tdRateWrite r d low) s fun t => t.rd (holdField d) = 0 ∧ (t.domain d).timer = 0 ∧ (t.domain d).holdDue = false ∧
        t.incr d = ((s.heldWrite r (A.FT_TD_INCR_HI d)).getD (s.rd (R.FT_TD_INCR_HI_INCR d))) * 2 ^ 32 + low) ∧
    (∀ ns, (Instr.tdSet r d ns).wf = true → s.mayWrite r (A.FT_TD_SET_NS d) ns = true → Yields (.tdSet r d ns) s fun t =>
      t.rd (validField d) = 1 ∧
      (t.domain d).set = some (((s.domain d).secHi % 65536 * 2 ^ 32 + (s.domain d).secLo) * secUnit + ns * nsUnit)) ∧
    (∀ ns, (Instr.tdAdjust r d ns).wf = true → s.mayWrite r (A.FT_TD_ADJ d) (unsigned 32 ns) = true → Yields (.tdAdjust r d ns) s fun t =>
      (t.domain d).adj = (s.domain d).adj + ns * nsUnit ∧ (t.domain d).set = (s.domain d).set) ∧
    (r.wf = true → s.mayWrite r A.FT_CTRL (s.setting A.FT_CTRL [(R.FT_CTRL_CAPTURE, 1)]) = true → Yields (.timeCapture r) s fun t =>
      ∀ k, k < 3 → t.rd (R.FT_CAP_SEC_LO_SEC k) = secOf (s.scaleTime k) % 2 ^ 32 ∧ t.rd (R.FT_CAP_NS_NS k) = nsOf (s.scaleTime k) ∧
        t.rd (R.FT_CAP_FRAC_FRAC k) = fracOf (s.scaleTime k) ∧ t.rd R.FT_CAP_FRAME_LO_FRAME = s.clk.frame % 2 ^ 32) ∧
    (r.wf = true → s.mayWrite r A.FT_CTRL (s.setting A.FT_CTRL [(R.FT_CTRL_ALIGN, 1)]) = true → Yields (.align r) s fun t =>
      t.time = { s.time with alignReq := true }) ∧
    (s.time.aligning = true → Yields .alignmentGapEnd s fun t => t.clk = ⟨divUp s.time.fab frameUnit - 1, 63, 64⟩ ∧ t.time.aligning = false ∧
      t.time.blankAll = some (divUp s.time.fab frameUnit) ∧ t.loop.computed = []) ∧
    (s.time.aligning = false → exec .alignmentGapEnd s = .next s) ∧
    Yields .refclkLoss s fun t => t.time.refclkLost = true ∧ ∀ n, t.tickDomains n = t

/-- What the clock's conditions do once they hold (R293 to R296, R303, R304): holdover and, where the domain is selected, its report; the automatic
switch to the other domain; the lock of the frame clock; the edge, the gap and the output edge of the pulse per second. What is not due changes
nothing. -/
def Obligations.ClockConditions : Prop :=
  ∀ (s : State) (d : Nat), s.sound = true → d < 2 →
    ((s.domain d).holdDue = true → Yields (.holdover d) s fun t => t.rd (holdField d) = 1 ∧ (t.domain d).holdDue = false ∧
      t.rd R.FT_EVENTS_HOLDOVERS = satAdd R.FT_EVENTS_HOLDOVERS.top (s.rd R.FT_EVENTS_HOLDOVERS) 1 ∧
      t.faults.incoming = s.faults.incoming ++ (if s.sel = d then [holdMsg d] else [])) ∧
    ((s.domain d).holdDue = false → exec (.holdover d) s = .next s) ∧
    (s.time.autoDue = true → Yields .autoSwitch s fun t => t.sel = 1 - s.sel ∧ t.time.autoDue = false ∧
      t.rd R.FT_EVENTS_SWITCHES = satAdd R.FT_EVENTS_SWITCHES.top (s.rd R.FT_EVENTS_SWITCHES) 1 ∧
      ({ cls := 4, inst := 0, kind := 1, addr := 1 - s.sel } : FaultMsg) ∈ t.faults.incoming) ∧
    (s.time.autoDue = false → exec .autoSwitch s = .next s) ∧
    (s.time.lockDue = true → Yields .fclkLock s fun t => t.rd R.FT_STATUS_FCLK_LOCK = 1 ∧ t.time.lockDue = false ∧
      t.faults = { s.faults with ended := s.faults.ended ++ [{ cls := 4, inst := 0, kind := 3 }] }) ∧
    (s.time.lockDue = false → exec .fclkLock s = .next s) ∧
    (∀ stamp, (Instr.ppsEdge stamp).wf = true → s.awake = true → Yields (.ppsEdge stamp) s fun t => t.time.ppsEdge = some s.clk.frame ∧
      t.time.ppsGap = false ∧ t.faults.ended = s.faults.ended ++ (if s.time.ppsGap then [ppsMsg] else [])) ∧
    (∀ f, s.awake = true → s.time.ppsEdge = some f → s.time.ppsGap = false → 75000 ≤ s.clk.frame - f → Yields .ppsGap s fun t =>
      t.time.ppsGap = true ∧ t.faults = { s.faults with incoming := s.faults.incoming ++ [ppsMsg] }) ∧
    (s.time.ppsEdge = none ∨ s.time.ppsGap = true → exec .ppsGap s = .next s) ∧
    (s.awake = true → s.on R.FT_PPS_CFG_OUT_EN = true → s.time.ppsMark < s.ppsSecond → Yields .ppsOutEdge s fun t =>
      t.time.ppsMark = s.ppsSecond ∧ t.time.ppsFall = s.fclk + divUp ((s.rd R.FT_PPS_CFG_OUT_WIDTH + 1) * 2048) 5 ∧ t.ppsOut = true) ∧
    (s.ppsSecond ≤ s.time.ppsMark → exec .ppsOutEdge s = .next s)

/-- Time on the ring (R301, R305 to R307, R369): a read takes the oldest time-stamp record; a beacon is sent on with one hop and its correction, a domain that
follows the ring takes the rate of its error, or is set where the error is large; the exchange of a link gives its delay and ends a loss; what falls due
shows and is raised. -/
def Obligations.RingTime : Prop :=
  ∀ (s : State) (p : Nat), s.sound = true → p < 2 →
    (∀ r k, (Instr.tsPop r k).wf = true → s.ownerLike r = true → s.mayAccess r (A.FT_TS_POP k 0) 1 = true → s.heldRead r (A.FT_TS_POP k 0) = none →
      Yields (.tsPop r k) s fun t => (t.tsSource k).queue = (s.tsSource k).queue.drop 1 ∧
        (t.tsSource k).held = (s.tsSource k).queue.headD [0, 0, 0, 0, 0, 0]) ∧
    (∀ b rx rx0 rx1 residence tx, (Instr.beaconRx p b rx rx0 rx1 residence tx).wf = true → s.awake = true → s.miscFenced (8 + p) = false →
      s.chainPos ≠ 0 → Yields (.beaconRx p b rx rx0 rx1 residence tx) s fun t =>
        (b.hops + 1 ≤ 15 → (t.ringPort (1 - p)).sent = [(b.frame, stampUnits b.time, b.hops + 1, b.corr + s.linkDelay p + residence)]) ∧
        ∀ d, d < 2 → s.onRing d = true → s.rd R.FT_STATUS_RING_PORT = p →
          let target := ((stampUnits b.time : Int) + (b.corr + s.linkDelay p) * 2 ^ 16).toNat
          let e : Int := Int.ofNat target - (stampUnits (if d = 0 then rx0 else rx1) : Int)
          t.rd (holdField d) = 0 ∧ (t.domain d).timer = 0 ∧
            (1000000 * nsUnit < e.natAbs → (t.domain d).set = some target ∧ t.incr d = s.incr d) ∧
            (e.natAbs ≤ 1000000 * nsUnit → (t.domain d).adj = (s.domain d).adj + asr e 3 ∧
              t.incr d = (clamp minIncr maxIncr ((s.incr d : Int) + roundDiv e 200000)).toNat)) ∧
    (∀ b rx rx0 rx1 residence tx, (Instr.beaconRx p b rx rx0 rx1 residence tx).wf = true → s.awake = false ∨ s.miscFenced (8 + p) = true →
      exec (.beaconRx p b rx rx0 rx1 residence tx) s = .next s) ∧
    (s.time.portDue = true → Yields .beaconPortSwitch s fun t => t.rd R.FT_STATUS_RING_PORT = 1 - s.rd R.FT_STATUS_RING_PORT ∧
      t.time.portDue = false) ∧
    (s.time.portDue = false → exec .beaconPortSwitch s = .next s) ∧
    (∀ t1 t2 t3 t4 frame hops rx tx, (Instr.linkMessageRx p t1 t2 t3 t4 frame hops rx tx).wf = true → s.awake = true → s.miscFenced (8 + p) = false →
      Yields (.linkMessageRx p t1 t2 t3 t4 frame hops rx tx) s fun t =>
        (t.ringPort p).delays = ((((t4 - t1) - (t3 - t2)) / 2 + s.rdS (R.FT_RING_ASYM_ASYM p)) :: (s.ringPort p).delays).take 64 ∧
        (t.ringPort p).quiet = 0 ∧ t.rd (R.FT_RING_DELAY_LINK_DOWN p) = 0) ∧
    ((s.ringPort p).lostDue = true → Yields (.ringLost p) s fun t => t.rd (R.FT_RING_DELAY_LINK_DOWN p) = 1 ∧ (t.ringPort p).lostDue = false ∧
      t.faults = { s.faults with incoming := s.faults.incoming ++ [s.ringMsg] }) ∧
    ((s.ringPort p).lostDue = false → exec (.ringLost p) s = .next s) ∧
    ((s.domain p).ringDue = true → Yields (.ringLock p) s fun t => t.rd (ringField p) = 1 ∧ t.rd (validField p) = 1 ∧ (t.domain p).ringDue = false) ∧
    ((s.domain p).ringDue = false → exec (.ringLock p) s = .next s) ∧
    (s.awake = true → Yields (.apsinLinkDown p) s fun t =>
      t.faults = { s.faults with incoming := s.faults.incoming ++ [{ cls := 3, inst := p, kind := 1 }] })

/-- The MTP writes (R314 to R318, R339): the oldest one completes; a good key write is counted and becomes the next key, and the owner is answered; a good floor
never lowers the floor; a failed write leaves the old value and raises MTP_FAIL; with none in progress nothing changes. GO stores the three provisioned
values, sets PROVISIONED and erases the window. -/
def Obligations.MtpWrites : Prop :=
  ∀ s : State, s.sound = true →
    (∀ p which key cseq rest, isPrincipal p = true → which ≠ 1 → s.prot.mtp = .key p which key cseq :: rest → Yields (.mtpWriteDone true) s fun t =>
      t.prot.mtp = rest ∧ t.keyRec p = { s.keyRec p with next := some key, grace := none, writes := satAdd 100000 (s.keyRec p).writes 1 } ∧
      (t.prin 30).completed = (s.prin 30).completed ++ [⟨0x42, Code.ok, cseq, (s.now + 1) % 64, (s.now + 1) / 64, kcv key ++ be 4 0⟩]) ∧
    (∀ v cseq body rest, s.prot.mtp = .floor v cseq body :: rest → Yields (.mtpWriteDone true) s fun t => t.prot.mtp = rest ∧
      t.prot.floor = max s.prot.floor v ∧
      (t.prin 30).completed = (s.prin 30).completed ++ [⟨0x41, Code.ok, cseq, (s.now + 1) % 64, (s.now + 1) / 64, body⟩]) ∧
    (∀ v rest, s.prot.mtp = .session v :: rest → Yields (.mtpWriteDone true) s fun t => t.prot = { s.prot with mtp := rest, sessionCounter := v } ∧
      (s.boot.session = false → v ≠ s.prot.sessionCounter → t.boot.session = true ∧ t.rd R.LK_SESSION_SESSION = v % 2 ^ 32 ∧
        t.links.session = v % 2 ^ 32)) ∧
    (∀ v rest, s.prot.mtp = .tripCount v :: rest → Yields (.mtpWriteDone true) s fun t =>
      t.prot = { s.prot with mtp := rest, tripCounter := v } ∧ t.faults = s.faults) ∧
    (∀ w rest, s.prot.mtp = w :: rest → Yields (.mtpWriteDone false) s fun t => t.prot = { s.prot with mtp := rest } ∧
      t.faults.incoming.length = s.faults.incoming.length + 1 ∧
      ∃ a, t.faults.incoming.getLast? = some { cls := 13, inst := 0, kind := 1, addr := a }) ∧
    (∀ good, s.prot.mtp = [] → exec (.mtpWriteDone good) s = .next s) ∧
    (∀ r, r.wf = true → s.mayWrite r A.ATTIC_PROV_GO 1 = true → Yields (.atticProvGo r) s fun t => t.prot.provisioned = true ∧
      t.prot.provWindow = List.replicate 24 0 ∧ t.prot.imageKeyHash = some ((slice s.prot.provWindow 0 8).flatMap (be 4)) ∧
      t.prot.kek = some ((slice s.prot.provWindow 8 8).flatMap (be 4)) ∧
      (t.keyRec 30).current = some ((slice s.prot.provWindow 16 8).flatMap (be 4)) ∧ t.prot.mtp = s.prot.mtp ++ [.provision])

/-- What waits for its boundary (R316, R319, R321 to R323): a key roll makes the next key the current one, with a grace copy of 1,000 frames, or erases the
keys, and the owner is answered; a committed protection change is checked again and applied, where its target's ENABLE and the owner's epoch follow, or
is discarded with its refusal; an armed one expires. Nothing of it happens before its frame. -/
def Obligations.ChangesApply : Prop :=
  ∀ (s : State) (p : Nat), s.sound = true → isPrincipal p = true →
    (∀ b clear cseq, (s.keyRec p).roll = some (b, clear, cseq) → b ≤ s.clk.frame → Yields (.keyRollApply p) s fun t =>
      t.keyRec p = (if clear then { s.keyRec p with current := none, next := none, grace := none, roll := none }
        else { s.keyRec p with current := (s.keyRec p).next, next := none, grace := (s.keyRec p).next.map fun x => (x, b + 1000), roll := none }) ∧
      t.prot.mtp = s.prot.mtp ++ [.roll p] ∧
      (t.prin 30).completed = (s.prin 30).completed ++ [s.itemOf (ownerHead cseq) 0x43 Code.ok []]) ∧
    (((s.keyRec p).roll.all fun x => decide (s.clk.frame < x.1)) = true → exec (.keyRollApply p) s = .next s) ∧
    (∀ k e, (s.keyRec p).grace = some (k, e) → e ≤ s.clk.frame → Yields (.graceEnd p) s fun t =>
      t.keyRec p = { s.keyRec p with grace := none }) ∧
    (((s.keyRec p).grace.all fun x => decide (s.clk.frame < x.2)) = true → exec (.graceEnd p) s = .next s) ∧
    (∀ c b cseq, s.prot.change = some c → c.committed = some (b, cseq) → b ≤ s.clk.frame → s.changeCode c.bodies ≠ 0 →
      Yields .protectApply s fun t => t.prot = { s.prot with change := none } ∧ t.reg = s.reg ∧
        (t.prin 30).completed = (s.prin 30).completed ++ [s.itemOf (ownerHead cseq) 0x41 (s.changeCode c.bodies) []]) ∧
    (∀ c b cseq, s.prot.change = some c → c.committed = some (b, cseq) → b ≤ s.clk.frame → s.changeCode c.bodies = 0 → c.bodies.all armFits = true →
      Yields .protectApply s fun t => t.prot.change = none ∧ t.epoch 30 = (s.epoch 30 + 1) % 2 ^ 32 ∧
        ∀ x, c.bodies = [x] → isTenancy x.target = true → x.fields.testBit 0 = true →
          t.rd (R.PR_TEN_CFG_ENABLE x.target) = bits x.cfg 23 23 ∧ t.epoch x.target = (s.epoch x.target + 1) % 2 ^ 32) ∧
    ((s.prot.change.all fun c => c.committed.all fun x => decide (s.clk.frame < x.1)) = true → exec .protectApply s = .next s) ∧
    (∀ c, s.prot.change = some c → c.committed = none → c.expires ≤ s.clk.frame →
      exec .protectExpire s = .next { s with prot := { s.prot with change := none } }) ∧
    ((s.prot.change.all fun c => c.committed.isSome || decide (s.clk.frame < c.expires)) = true → exec .protectExpire s = .next s)

/-- Divergence and the supervisors (R345, R346, R350, R351, R354, R363): at the decision the plane with the larger score is judged, the standby at equal scores;
an audit judges a plane that fails alone, otherwise the standby; the judged plane is raised, and fenced where its severity says so; a fence that leaves a
plane in service takes its plane out and the other plane is active from then on; two missed heartbeats are raised. -/
def Obligations.PlanesAreJudged : Prop :=
  ∀ s : State, s.sound = true →
    (∀ a b judged, a = sumOf ((s.pl.items.filter (·.waits)).map fun d => d.miss .A) → b = sumOf ((s.pl.items.filter (·.waits)).map fun d => d.miss .B) →
      judged = (if a = b then s.standby else if b < a then .A else .B) → s.pl.decideDue = true → Yields .divergenceDecision s fun t =>
        t.pl.decideDue = false ∧ t.rd R.PL_DIV_LAST_JUDGED_PLANE = planeBit judged ∧ t.rd R.PL_DIV_SCORE_A_SCORE = min a (2 ^ 32 - 1) ∧
        t.rd R.PL_DIV_SCORE_B_SCORE = min b (2 ^ 32 - 1) ∧
        t.faults = { s.faults with
          incoming := s.faults.incoming ++ [supMsg judged 3 (s.rd R.PL_DIV_LAST_TILE)]
          fenceDue := s.faults.fenceDue ++
            if s.severityOf (supMsg judged 3 (s.rd R.PL_DIV_LAST_TILE)) = 3 then [((s.clk.frame + 1) * 64, judged, false)] else [] }) ∧
    (s.pl.decideDue = false → exec .divergenceDecision s = .next s) ∧
    (∀ failA failB judged, s.pl.audit.isSome = true → judged = (if failA && !failB then .A else if failB && !failA then .B else s.standby) →
      Yields (.centralAuditEnd failA failB) s fun t => t.pl.audit = none ∧ t.rd R.PL_DIV_LAST_JUDGED_PLANE = planeBit judged ∧
        t.faults = { s.faults with
          incoming := s.faults.incoming ++ [supMsg judged 5 127]
          fenceDue := s.faults.fenceDue ++ if s.severityOf (supMsg judged 5 127) = 3 then [((s.clk.frame + 1) * 64, judged, false)] else [] }) ∧
    (∀ failA failB, s.pl.audit = none → exec (.centralAuditEnd failA failB) s = .next s) ∧
    (∀ p f, f ∈ s.faults.fenceDue → f.1 ≤ s.now + 1 → f.2.1 = p → s.lastResort = false → s.inService p = true → s.inService (other p) = true →
      Yields (.planeFence p) s fun t => t.health p = 1 ∧ t.inService (other p) = true ∧ t.active = other p ∧ t.pl.items = [] ∧ t.pl.drill = none ∧
        t.pl.audit = none ∧ ∀ g ∈ t.faults.fenceDue, g.1 ≤ s.now + 1 → g.2.1 ≠ p) ∧
    (∀ p, (∀ f ∈ s.faults.fenceDue, f.1 ≤ s.now + 1 → f.2.1 ≠ p) → exec (.planeFence p) s = .next s) ∧
    (∀ p, s.clocked = true → s.inService p = true ∨ s.isReturning p = true → Yields (.heartbeat p) s fun t => t.faults = { s.faults with
      incoming := s.faults.incoming ++ [supMsg p 6 0]
      fenceDue := s.faults.fenceDue ++ if s.severityOf (supMsg p 6 0) = 3 then [(s.now, p, false)] else [] }) ∧
    (∀ p, s.inService p = false → s.isReturning p = false → exec (.heartbeat p) s = .next s)

/-- Drills (R356 to R358): at its boundary the roles are exchanged; at the next one the drill completes and is answered, or the roles revert, the plane that
failed is raised and the owner is told; after 30 days without one it is due, once. Nothing of it happens before its frame. -/
def Obligations.Drills : Prop :=
  ∀ s : State, s.sound = true →
    (∀ d, s.pl.drill = some d → d.swapped = false → d.x ≤ s.clk.frame → Yields .drillSwap s fun t => t.active = s.standby ∧
      t.pl = { s.pl with drill := some { d with swapped := true } } ∧
      t.rd R.PL_ROLE_SWAPS = satAdd R.PL_ROLE_SWAPS.top (s.rd R.PL_ROLE_SWAPS) 1) ∧
    ((s.pl.drill.all fun d => d.swapped || decide (s.clk.frame < d.x)) = true → exec .drillSwap s = .next s) ∧
    (∀ d, s.pl.drill = some d → d.swapped = true → d.x < s.clk.frame → isPrincipal d.head.principal = true → s.atOnce d.head = true →
      (Yields (.drillCheck [] false) s fun t => t.pl.drill = none ∧ t.pl.ageSec = 0 ∧ t.pl.dueRaised = none ∧ t.active = s.active ∧
        t.rd R.PL_DRILL_LAST_OK = 1 ∧ (t.prin d.head.principal).completed =
          (s.prin d.head.principal).completed ++ [s.itemOf d.head 0x3A Code.ok (drillBody d.x s.active 0 0)]) ∧
      ∀ failed, (Instr.drillCheck failed true).wf = true → Yields (.drillCheck failed true) s fun t => t.pl.drill = none ∧ t.active = s.standby ∧
        t.rd R.PL_DRILL_LAST_OK = 0 ∧ supMsg s.active 7 0 ∈ t.faults.incoming ∧
        (t.prin d.head.principal).completed =
          (s.prin d.head.principal).completed ++ [s.itemOf d.head 0x3A Code.drillFailed (drillBody d.x s.standby 1 0xFFFF)]) ∧
    (∀ failed sup, (Instr.drillCheck failed sup).wf = true → (s.pl.drill.all fun d => !d.swapped || decide (s.clk.frame ≤ d.x)) = true →
      exec (.drillCheck failed sup) s = .next s) ∧
    (s.clocked = true → 30 ≤ s.pl.ageSec / 86400 → s.pl.dueRaised = none → Yields .drillDue s fun t => t.pl = { s.pl with dueRaised := some s.active } ∧
      t.faults = { s.faults with incoming := s.faults.incoming ++ [supMsg s.active 8 0] }) ∧
    (s.pl.ageSec / 86400 < 30 ∨ s.pl.dueRaised.isSome = true → exec .drillDue s = .next s)

/-- The return of a fenced plane (R359 to R361): RETURN powers its domains off and it reads returning; after the bank test it copies, or fails and reads fenced;
with LOCKSTEP it holds what the active plane holds and is on probation, whose end puts it in service; an automatic return that is due starts one where
all lets it, and is dropped otherwise. Nothing of it happens before its time. -/
def Obligations.PlaneReturns : Prop :=
  ∀ s : State, s.sound = true →
    (∀ r p, r.wf = true → s.mayWrite r A.PL_CTRL (s.setting A.PL_CTRL [(R.PL_CTRL_RETURN, 1)]) = true → s.fencedOne = some p →
      Yields (.planeReturn r) s fun t => t.health p = 3 ∧ t.pl.ret = some { plane := p, step := 1, since := s.now } ∧
        (∀ d ∈ planeDomains p, t.domainOn d = false) ∧ t.faults.incoming = s.faults.incoming ++ [supMsg p 10 0]) ∧
    (∀ r, s.pl.ret = some r → r.step = 2 → r.since + pointsIn 1300 ≤ s.now →
      (Yields (.returnBankTest none) s fun t => t.pl = { s.pl with ret := some { r with step := 3, bound := s.clk.frame + 1 } }) ∧
      ∀ k ix, (Instr.returnBankTest (some (k, ix))).wf = true → Yields (.returnBankTest (some (k, ix))) s fun t => t.pl.ret = none ∧
        t.health r.plane = 1 ∧ t.faults.incoming = s.faults.incoming ++ [planeMsg 7 k 5 r.plane ix]) ∧
    (∀ f, (Instr.returnBankTest f).wf = true → (s.pl.ret.all fun r => r.step != 2 || decide (s.now < r.since + pointsIn 1300)) = true →
      exec (.returnBankTest f) s = .next s) ∧
    (∀ r, s.pl.ret = some r → r.step = 3 → r.bound < s.clk.frame → Yields .lockstep s fun t =>
      t.pl = { s.pl with ret := some { r with step := 4, bound := s.clk.frame } } ∧ t.reg.file r.plane = s.reg.file (other r.plane) ∧
      t.reg.file (other r.plane) = s.reg.file (other r.plane) ∧
      ∀ g, g < 8 → t.gen (genInst r.plane g) = s.gen (genInst (other r.plane) g)) ∧
    ((s.pl.ret.all fun r => r.step != 3 || decide (s.clk.frame ≤ r.bound)) = true → exec .lockstep s = .next s) ∧
    (∀ r, s.pl.ret = some r → r.step = 4 → r.bound + 50000 ≤ s.clk.frame → Yields .returnEnd s fun t => t.pl = { s.pl with ret := none } ∧
      t.health r.plane = 0 ∧ t.faults = { s.faults with incoming := s.faults.incoming ++ [supMsg r.plane 11 0] }) ∧
    ((s.pl.ret.all fun r => r.step != 4 || decide (s.clk.frame < r.bound + 50000)) = true → exec .returnEnd s = .next s) ∧
    (∀ p b, s.pl.autoAt.find? (fun a => decide (a.2 ≤ s.clk.frame)) = some (p, b) →
      (s.on R.PL_CTRL_AUTO_RETURN = true → s.returnCode = Code.ok → s.health p = 1 → s.autoCount < 3 → Yields .autoReturn s fun t =>
        t.health p = 3 ∧ t.pl.ret = some { plane := p, step := 1, since := s.now } ∧ t.pl.autoLog.getLast? = some s.clk.frame) ∧
      (s.on R.PL_CTRL_AUTO_RETURN = false ∨ s.returnCode ≠ Code.ok ∨ s.health p ≠ 1 ∨ 3 ≤ s.autoCount →
        exec .autoReturn s = .next { s with pl := { s.pl with autoAt := s.pl.autoAt.filter fun a => decide (a ≠ (p, b)) } })) ∧
    ((∀ a ∈ s.pl.autoAt, s.clk.frame < a.2) → exec .autoReturn s = .next s)

/-- Fault messages and the collectors' registers (R367 to R369, R377, R378, R381, R383, R384): a message that R368 and R369 list reaches the collectors, another
changes nothing; an end report is taken for a condition; CLEAR_FIRST empties the first record, FC_ACK and FC_UNFENCE are remembered for the next round; a
stopped core restarts after a frame, at most three times within 24 h; a watchdog and a failed health test are raised. -/
def Obligations.FaultsAreCollected : Prop :=
  ∀ s : State, s.sound = true →
    (∀ cls inst kind plane count addr m, m = (⟨cls, inst, kind, plane, count, addr⟩ : FaultMsg) →
      (Instr.faultMessage cls inst kind plane count addr).wf = true →
      exec (.faultMessage cls inst kind plane count addr) s = .next (if s.clocked && knownMsg m then
        { s with faults := { s.faults with incoming := s.faults.incoming ++ [m] } } else s) ∧
      exec (.endReport cls inst kind plane count addr) s = .next (if s.clocked && knownMsg m && isCondition cls kind then
        { s with faults := { s.faults with ended := s.faults.ended ++ [m] } } else s)) ∧
    (∀ r, r.wf = true → s.mayWrite r A.FC_CTRL (s.setting A.FC_CTRL [(R.FC_CTRL_CLEAR_FIRST, 1)]) = true → Yields (.clearFirst r) s fun t =>
      t.faults = { s.faults with first := none }) ∧
    (∀ r slots, (Instr.fcAck r slots).wf = true → s.mayWrite r A.FC_ACK slots = true → Yields (.fcAck r slots) s fun t =>
      t.faults = { s.faults with acks := s.faults.acks ++ (if slots.testBit 0 then [0] else []) ++ if slots.testBit 1 then [1] else [] }) ∧
    (∀ r unit index, (Instr.fcUnfence r unit index).wf = true →
      s.mayWrite r A.FC_UNFENCE (s.setting A.FC_UNFENCE [(R.FC_UNFENCE_UNIT, unit), (R.FC_UNFENCE_INDEX, index), (R.FC_UNFENCE_GO, 1)]) = true →
      Yields (.fcUnfence r unit index) s fun t => t.faults = { s.faults with unfence := s.faults.unfence ++ [(unit, index)] }) ∧
    (∀ p since, s.faults.stopped.find? (fun x => x.1 == planeBit p) = some (planeBit p, since) → since + 1 ≤ s.clk.frame →
      (s.faults.restarts.filter fun x => x.1 == planeBit p && since < x.2 + 86400 * 50000).length < 3 → Yields (.coreRestart p) s fun t =>
        (∀ x ∈ t.faults.stopped, x.1 ≠ planeBit p) ∧ t.faults.restarts.getLast? = some (planeBit p, s.clk.frame) ∧
        t.faults.held = s.faults.held) ∧
    (∀ p since, s.faults.stopped.find? (fun x => x.1 == planeBit p) = some (planeBit p, since) →
      3 ≤ (s.faults.restarts.filter fun x => x.1 == planeBit p && since < x.2 + 86400 * 50000).length → exec (.coreRestart p) s = .next s) ∧
    (∀ p, (∀ x ∈ s.faults.stopped, x.1 ≠ planeBit p) → exec (.coreRestart p) s = .next s ∧ (s.clocked = true → Yields (.watchdog p) s fun t =>
      t.faults = { s.faults with incoming := s.faults.incoming ++ [planeMsg 12 0 1 p 0] })) ∧
    (s.clocked = true → Yields .trngHealth s fun t =>
      t.faults = { s.faults with incoming := s.faults.incoming ++ [{ cls := 13, inst := 0, kind := 2 }] })

/-- Temperature and trips (R389, R390, R395 to R397, R403): a round that is due is taken once and gives each counted sensor its temperature, unless it reads
Hot-Assumed; a sensor that fails shows it with its cause, reads Hot-Assumed and is raised, once; the analog trip shows, asserts its pin and asks for the trip
counter's write, once; TRIP_HALT halts the device; in DEEP SLEEP sensor 95 alone is counted. -/
def Obligations.TemperaturesAndTrips : Prop :=
  ∀ s : State, s.sound = true →
    (∀ counts, (Instr.sensorRound counts).wf = true → s.awake = true → s.roundDue = true → s.therm.trip = none → (counts.map (·.1)).Nodup →
      Yields (.sensorRound counts) s fun t => t.therm.taken = some s.clk.frame ∧
        ∀ x ∈ counts, s.domainOn x.1 = true → t.rd (R.TH_SENSOR_COUNTED x.1) = 1 ∧
          (t.rd (R.TH_SENSOR_HOT_ASSUMED x.1) = 0 → t.reading x.1 = clamp (-2048) 2047 (countTemp x.1 x.2))) ∧
    (∀ counts, (Instr.sensorRound counts).wf = true → s.awake = true → s.roundDue = false ∨ s.therm.trip.isSome = true →
      s.on R.BT_STATUS_SESSION_WAIT = false → exec (.sensorRound counts) s = .next s) ∧
    (∀ d cause, (Instr.sensorFail d cause).wf = true → s.awake = true → s.sensorFailed d = false → s.masked d = false →
      Yields (.sensorFail d cause) s fun t => t.rd (R.TH_SENSOR_FAIL d) = 1 ∧ t.rd (R.TH_SENSOR_HOT_ASSUMED d) = 1 ∧
        t.rd (R.TH_SENSOR_CAUSE d) = cause ∧ t.faults = { s.faults with incoming := s.faults.incoming ++ [{ cls := 8, inst := d, kind := 1 }] }) ∧
    (∀ d cause, (Instr.sensorFail d cause).wf = true → s.sensorFailed d = true ∨ s.masked d = true → exec (.sensorFail d cause) s = .next s) ∧
    (s.sbAnswers = true → s.therm.trip = none → Yields .analogTrip s fun t => t.therm = { s.therm with trip := some 2, tripN := false } ∧
      t.rd R.TH_STATUS_TRIPPED = 1 ∧ t.rd R.TH_STATUS_ANALOG = 1 ∧ .tripCount (s.prot.tripCounter + 1) ∈ t.prot.mtp) ∧
    (s.therm.trip.isSome = true → exec .analogTrip s = .next s ∧
      exec .tripHalt s = .next { s with therm := { s.therm with halted := true }, prot := { s.prot with mtp := [] } }) ∧
    (s.therm.trip = none → exec .tripHalt s = .next s) ∧
    (∀ count, count < 65536 → s.power = .deepSleep → Yields (.deepSleepSensor count) s fun t => t.rd (R.TH_SENSOR_COUNTED 95) = 1 ∧
      t.reading 95 = clamp (-2048) 2047 (countTemp 95 count) ∧ t.therm = s.therm) ∧
    (∀ count, count < 65536 → s.power ≠ .deepSleep → exec (.deepSleepSensor count) s = .next s)

/-- Power states (R399, R401 to R405): a domain that refuses ends the transition in RUN, shows its number and answers POWER_ABORTED; one that agrees stops; WAKE_N,
the alarm and a frame on a listening lane wake the device with their cause; the loops resume with nothing computed; a domain wakes on demand, is ready once;
a stall beyond its domain's limit is counted and raised. -/
def Obligations.PowerMoves : Prop :=
  ∀ s : State, s.sound = true →
    (∀ tr d rest veto, s.pw.trans = some tr → tr.entry * 64 ≤ s.now → tr.lanes = false → (tr.ask.dropWhile fun d => !s.domainOn d) = d :: rest →
      s.refuses tr.target d veto = true → isPrincipal tr.head.principal = true → s.atOnce tr.head = true → Yields (.domainStop veto) s fun t =>
        t.power = .run ∧ t.pw.trans = none ∧ t.rd R.PW_STATE_STATE = 0 ∧ t.rd R.PW_STATE_BUSY = 0 ∧ t.rd R.PW_STATE_ABORTED = 1 ∧
        t.rd R.PW_STATE_REFUSER = d ∧ t.faults = { s.faults with incoming := s.faults.incoming ++ [{ cls := 9, inst := d, kind := 2 }] } ∧
        (t.prin tr.head.principal).completed = (s.prin tr.head.principal).completed ++ [s.itemOf tr.head 0x39 Code.powerAborted []]) ∧
    (∀ tr d rest veto, s.pw.trans = some tr → tr.entry * 64 ≤ s.now → tr.lanes = false → (tr.ask.dropWhile fun d => !s.domainOn d) = d :: rest →
      s.refuses tr.target d veto = false → d < 92 → losesPower tr.target d = true → tr.target ≠ .off → s.power ≠ .off →
      Yields (.domainStop veto) s fun t => t.domainOn d = false) ∧
    (∀ veto, s.pw.trans = none → s.power ≠ .off → exec (.domainStop veto) s = .next s) ∧
    (∀ us, s.boot.phase ≠ .off → s.power = .idle → Yields (.wakeNLow us) s fun t => t.power = .run ∧ t.rd R.PW_STATE_STATE = 0 ∧
      t.rd R.PW_STATE_WAKE_CAUSE = 2 ∧ t.pw = { s.pw with held := [] }) ∧
    (∀ us, s.boot.phase ≠ .off → s.power = .sleep ∨ (s.power = .deepSleep ∧ 10 ≤ us) → s.pw.wake = none → Yields (.wakeNLow us) s fun t =>
      t.pw.wake = some 2 ∧ t.power = s.power) ∧
    (∀ us, s.boot.phase ≠ .off → s.power = .run ∨ (s.power = .deepSleep ∧ us < 10) → exec (.wakeNLow us) s = .next s) ∧
    (∀ us, s.boot.phase = .off → 1000 ≤ us → exec (.wakeNLow us) s = .next { s with boot := { s.boot with phase := .reset } }) ∧
    (s.sbAnswers = true → s.alarmDue = true → Yields .clockAlarm s fun t => t.on R.PW_ALARM_HI_ENABLE = false ∧
      (s.power = .sleep ∨ s.power = .deepSleep → s.pw.wake = none → t.pw.wake = some 3)) ∧
    (s.alarmDue = false → exec .clockAlarm s = .next s) ∧
    (∀ l, l < 8 → s.power = .sleep → l ∈ s.listeners → s.pw.wake = none → Yields (.laneWake l) s fun t => t.pw.wake = some 1) ∧
    (∀ l, l < 8 → s.power ≠ .sleep ∨ l ∉ s.listeners → exec (.laneWake l) s = .next s) ∧
    (∀ banks sets cause, (Instr.loopsResume banks sets).wf = true → s.pw.wake = some cause → cause < 5 → Yields (.loopsResume banks sets) s fun t =>
      t.power = .run ∧ t.rd R.PW_STATE_STATE = 0 ∧ t.rd R.PW_STATE_WAKE_CAUSE = cause ∧ t.pw.wake = none ∧ t.loop.computed = []) ∧
    (∀ banks sets, (Instr.loopsResume banks sets).wf = true → s.pw.wake = none → exec (.loopsResume banks sets) s = .next s) ∧
    (∀ d, d < 96 → s.awake = true → s.domainOn d = false → d ∉ s.pw.waking → exec (.domainWakeOnDemand d) s =
      .next { s with pw := { s.pw with waking := s.pw.waking ++ [d] } }) ∧
    (∀ d, d < 96 → s.awake = true → d ∈ s.pw.waking → Yields (.domainReady d) s fun t => t.domainOn d = true ∧ d ∉ t.pw.waking) ∧
    (∀ d us, d < 96 → s.awake = true → stallLimit d < us → Yields (.wakeStall d us) s fun t =>
      t.rd R.PW_STALL_LONGEST = max (s.rd R.PW_STALL_LONGEST) (min us 65535) ∧
      t.rd R.PW_STALL_STALLS = satAdd R.PW_STALL_STALLS.top (s.rd R.PW_STALL_STALLS) 1 ∧
      t.faults = { s.faults with incoming := s.faults.incoming ++ [{ cls := 9, inst := d, kind := 1 }] }) ∧
    (∀ d us, d < 96 → us ≤ stallLimit d → exec (.wakeStall d us) s = .next s)

/-- The way to an image (R407, R408, R413, R422 to R425): a reset keeps the NOR and what OTP and MTP hold, and with VAON the real-time clock; START_UP takes the straps;
a self-test that fails is remembered and shows, both ending the start-up; the chain's LOAD pins begin the passes; without a supported NOR there is no image; a
slot whose checks pass is applied, one that fails shows its step and leaves what is applied. -/
def Obligations.StartsUp : Prop :=
  ∀ s : State, s.sound = true →
    (∀ resetN vaon, Yields (.reset resetN vaon) s fun t => t.boot.phase = .reset ∧ t.imageApplied = false ∧ t.nor = s.nor ∧
      t.prot.provisioned = s.prot.provisioned ∧ t.prot.floor = s.prot.floor ∧ t.prot.kek = s.prot.kek ∧ t.therm.tripN = (resetN || s.therm.tripN) ∧
      (vaon = true → t.rtc = s.rtc) ∧ (vaon = false → t.reg = State.reset.reg)) ∧
    (∀ bootMode pos sba trust flash, (Instr.startUp bootMode pos sba trust flash).wf = true → s.boot.phase = .reset →
      Yields (.startUp bootMode pos sba trust flash) s fun t => t.rd R.BT_STATUS_BOOT_MODE = bootMode ∧ t.rd R.BT_STATUS_CHAIN_POS = pos ∧
        t.sb.sba = sba ∧ t.rd R.PR_OWNER_SB_TRUSTED = b01 trust ∧ t.power = .run ∧
        (2 ≤ bootMode → t.boot.phase = .ended ∧ t.rd R.BT_STATUS_RESULT = bootHalt) ∧
        (bootMode ≤ 1 → s.prot.imageKeyHash = none → t.boot.phase = .ended ∧ t.rd R.BT_STATUS_RESULT = bootUnprovisioned) ∧
        (bootMode ≤ 1 → s.prot.imageKeyHash.isSome = true → t.boot.phase = .loading)) ∧
    (∀ bootMode pos sba trust flash, (Instr.startUp bootMode pos sba trust flash).wf = true → s.boot.phase ≠ .reset →
      exec (.startUp bootMode pos sba trust flash) s = .next s) ∧
    (∀ p bank core, (Instr.selftestDone p bank core).wf = true → s.boot.phase = .loading → p ∉ s.boot.tested → Yields (.selftestDone p bank core) s fun t =>
      t.boot.tested = s.boot.tested ++ [p] ∧
      (bank.isSome || core = true → t.rd (if p = .A then R.BT_STATUS_FENCED_A else R.BT_STATUS_FENCED_B) = 1 ∧
        (s.on (if p = .A then R.BT_STATUS_FENCED_B else R.BT_STATUS_FENCED_A) = true →
          t.boot.phase = .ended ∧ t.rd R.BT_STATUS_RESULT = bootSelftest)) ∧
      (bank = none → core = false → t.reg = s.reg ∨ t.boot.phase = .ended)) ∧
    (∀ p bank core, (Instr.selftestDone p bank core).wf = true → s.boot.phase ≠ .loading ∨ p ∈ s.boot.tested →
      exec (.selftestDone p bank core) s = .next s) ∧
    (s.boot.phase ≠ .reset → s.boot.phase ≠ .off → s.boot.ready = false → s.halted = false → Yields .deviceReady s fun t => t.boot.ready = true ∧
      t.boot.passing = (!s.inChain && decide (s.boot.phase = .loading)) ∧ t.boot.loadDone = (s.chainHead || (s.inChain && s.boot.loadIn)) ∧
      (s.boot.waitPass.isSome = true → t.rd R.BT_STATUS_RESULT = bootWaitPass)) ∧
    (s.boot.ready = true ∨ s.halted = true → exec .deviceReady s = .next s) ∧
    (Yields .loadInRise s fun t => t.boot.loadIn = true ∧ (s.halted = true → t.boot.loadDone = true) ∧
      (s.halted = false → s.chainHead = true → s.boot.ready = true → s.boot.tried = [] → s.boot.passing = false → s.boot.phase ≠ .run →
        t.boot.passing = true ∧ t.boot.loadDone = false)) ∧
    (Yields .loadInFall s fun t => t.boot.loadIn = false ∧ (s.halted = true → t.boot.loadDone = false) ∧
      (s.inChain = true → s.chainHead = false → t.boot.loadDone = false)) ∧
    (s.chainHead = true → s.boot.passing = false → s.boot.phase ≠ .run →
      (s.boot.ready = true → s.boot.tried = [] → Yields .firstPassTimeout s fun t => t.boot = { s.boot with passing := true, loadDone := false }) ∧
      (∀ k, s.boot.tried = [k] → s.boot.loadIn = false → Yields .secondPass s fun t => t.boot = { s.boot with passing := true, loadDone := false })) ∧
    (s.chainHead = false ∨ s.boot.passing = true → exec .firstPassTimeout s = .next s ∧ exec .secondPass s = .next s) ∧
    (∀ slot flash, (Instr.passReadEnd slot none flash).wf = true → s.boot.phase = .loading → s.boot.ready = true → 2 ≤ s.boot.tested.length →
      Yields (.passReadEnd slot none flash) s fun t => t.boot.phase = .ended ∧ t.boot.passing = false ∧ t.rd R.BT_STATUS_RESULT = bootNoImage ∧
        t.rd (R.BT_FAIL_STEP 0) = 0 ∧ t.rd (R.BT_FAIL_STEP 1) = 0 ∧ t.rd R.BT_NOR_INFO_SFDP_OK = 0) ∧
    (∀ slot density flash u v, (Instr.passReadEnd slot (some density) flash).wf = true → s.boot.phase = .loading → s.boot.ready = true →
      2 ≤ s.boot.tested.length → 256 ≤ density → s.inChain = false →
      u = (((s.norOthers flash).wr R.BT_NOR_INFO_SFDP_OK 1).wr R.BT_NOR_INFO_DENSITY density).showHeaders →
      v = ((u.bump R.BT_STATUS_PASSES 1).setBoot fun x => { x with tried := x.tried ++ [slot], waitPass := none }).wr R.BT_STATUS_RESULT bootLoading →
      (u.slotOrder.filter fun k => decide (k ∉ u.boot.tried)).head? = some slot →
      (∀ r, v.checkImage (u.norBytes (slotBase slot) (min 0x800000 (leAt (u.header slot) 0x10 4 + 64))) = .ok r →
        Yields (.passReadEnd slot (some density) flash) s fun t => t.imageApplied = true ∧ t.boot.phase = .applied ∧ t.boot.passing = false) ∧
      (∀ step place, v.checkImage (u.norBytes (slotBase slot) (min 0x800000 (leAt (u.header slot) 0x10 4 + 64))) = .error (step, place) →
        Yields (.passReadEnd slot (some density) flash) s fun t => t.imageApplied = s.imageApplied ∧ t.rd (R.BT_FAIL_STEP slot) = step))

/-- The way to RUN, the ring, the NOR and REBOOT (R424, R426, R429 to R431, R433, R434): RUN is entered once all it waits for is there, with the image's mode; LOCKED
shows once every watched context has held for 16 sets; a boot status shows its position; a requested pass begins; the NOR's operations begin where the
write is accepted and end with DONE; an accepted REBOOT resets the device at the next boundary. -/
def Obligations.RunsAndReboots : Prop :=
  ∀ s : State, s.sound = true →
    (∀ ms, s.boot.phase = .applied → ((List.range 80).any fun k => (s.tileCal k).tia.isSome) = false →
      s.boot.session = true ∨ s.on R.BT_STATUS_SESSION_WAIT = true → s.act.loaded = true → Yields (.runEntry ms) s fun t =>
        t.boot.phase = .run ∧ t.power = .run ∧ t.mode = (Mode.ofCode? s.boot.mode).getD .balanced ∧ t.rd R.BT_TIMES_RUN_MS = min 65535 ms ∧
        t.rd R.PW_STATE_STATE = 0) ∧
    (∀ ms, s.boot.phase ≠ .applied ∨ s.act.loaded = false ∨ ((List.range 80).any fun k => (s.tileCal k).tia.isSome) = true →
      exec (.runEntry ms) s = .next s) ∧
    (∀ ms, s.boot.phase = .run → s.on R.BT_STATUS_LOCKED = false → (∀ w ∈ s.boot.watch, s.stateOf w.1 = stActive ∧ w.2 = 16) →
      Yields (.locked ms) s fun t => t.rd R.BT_STATUS_LOCKED = 1 ∧ t.rd R.BT_TIMES_LOCK_MS = min 65535 ms) ∧
    (∀ ms, s.boot.phase ≠ .run ∨ s.on R.BT_STATUS_LOCKED = true → exec (.locked ms) s = .next s) ∧
    (∀ c serial state slot sec digest, (Instr.bootStatusRx c serial state slot sec digest).wf = true → s.clocked = true → s.ringUp = true →
      Yields (.bootStatusRx c serial state slot sec digest) s fun t => t.rd (R.AP_RING_NODE_STATE c) = state ∧ t.rd (R.AP_RING_NODE_SLOT c) = slot % 2 ∧
        t.rd (R.AP_RING_NODE_SEC_VERSION c) = sec ∧ (t.rd R.AP_RING_STATUS_PRESENT).testBit c = true ∧ (c, serial, s.clk.frame) ∈ t.boot.nodes) ∧
    (∀ c serial state slot sec digest, (Instr.bootStatusRx c serial state slot sec digest).wf = true → s.ringUp = false →
      exec (.bootStatusRx c serial state slot sec digest) s = .next s) ∧
    exec .passRequestRx s = .next (if s.chainHead && decide (s.boot.phase = .run) then { s with boot := { s.boot with passing := true } } else s) ∧
    (s.inChain = true → s.chainHead = false → s.boot.ready = true → s.boot.phase = .loading → s.boot.passing = false → s.boot.tried = [] →
      Yields .passRequestRetry s fun t => t.boot = { s.boot with waitPass := some s.boot.prefer, wanted := s.boot.wanted + 1 } ∧
        t.rd R.BT_STATUS_RESULT = bootWaitPass) ∧
    (s.chainHead = true ∨ s.boot.phase ≠ .loading → exec .passRequestRetry s = .next s) ∧
    (s.boot.phase = .run → s.boot.pmErased = false → s.drivesNor = true → Yields .pmErase s fun t => t.boot = { s.boot with pmErased := true } ∧
      t.nor = (s.norPut (pmBase (match s.pmNewest with | some x => (x.1 + 1) % 8 | none => 0)) (List.replicate 8192 0xFF)).nor) ∧
    (s.boot.phase ≠ .run ∨ s.boot.pmErased = true → exec .pmErase s = .next s) ∧
    (∀ i r op length, (i, op) ∈ [(Instr.norRead r length, 0), (.norProgram r length, 1), (.norErase r length, 2)] → i.wf = true →
      s.mayWrite r A.BT_NOR_CTRL (s.setting A.BT_NOR_CTRL
        [(R.BT_NOR_CTRL_OP, op), (R.BT_NOR_CTRL_LENGTH, length), (R.BT_NOR_CTRL_GO, 1)]) = true →
      Yields i s fun t => t.boot.norOp = some (op, s.word A.BT_NOR_ADDR, norLength length) ∧ t.rd R.BT_NOR_CTRL_BUSY = 1 ∧ t.nor = s.nor) ∧
    (∀ flash op addr len, (Instr.norOpDone flash).wf = true → s.boot.norOp = some (op, addr, len) → Yields (.norOpDone flash) s fun t =>
      t.boot.norOp = none ∧ t.rd R.BT_NOR_CTRL_BUSY = 0 ∧ t.rd R.BT_NOR_CTRL_DONE = 1 ∧
      (op = 2 → t.nor = ((s.norOthers flash).norPut addr (List.replicate 4096 0xFF)).nor) ∧
      (op = 0 → t.nor = (s.norOthers flash).nor)) ∧
    (∀ flash, (Instr.norOpDone flash).wf = true → s.boot.norOp = none → exec (.norOpDone flash) s = .next s) ∧
    (∀ r slot, (Instr.btReboot r slot).wf = true → s.mayWrite r A.BT_CTRL (s.setting A.BT_CTRL [(R.BT_CTRL_SLOT, slot), (R.BT_CTRL_REBOOT, 1)]) = true →
      Yields (.btReboot r slot) s fun t => t.boot = { s.boot with reboot := some (slot % 3, s.clk.frame + 1) }) ∧
    (∀ slot b, s.boot.reboot = some (slot, b) → b ≤ s.clk.frame → Yields .rebootReset s fun t => t.boot.phase = .reset ∧ t.boot.prefer = slot ∧
      t.boot.waitPass = some slot ∧ t.imageApplied = false ∧ t.nor = s.nor ∧ t.rtc = s.rtc) ∧
    ((s.boot.reboot.all fun x => decide (s.clk.frame < x.2)) = true → exec .rebootReset s = .next s)

/-- Accesses of the register space (R14, R15, R48, R439, R440, R444): a write that a check refuses changes nothing, and LAST_STATUS shows it to the sideband;
an immediate field changes at once, an F-class field waits for its boundary; RT_REMAP is remembered for the next commit; a read of a low half keeps the high half
of the same instant for its requester, whose next read gives it. -/
def Obligations.RegisterAccesses : Prop :=
  ∀ (s : State) (r : Requester), s.sound = true →
    (∀ a data, (Instr.registerWrite r a data).wf = true → s.mayAccess r a data.length = false → exec (.registerWrite r a data) s = .next s) ∧
    (∀ p a data, (Instr.registerWrite (.principal p) a data).wf = true → (∀ b ∈ wordsAt a data.length, b ≠ A.BT_NOR_CTRL) →
      firstCode (((wordsAt a data.length).zip data).map fun x => s.writeCode (.principal p) x.1 x.2) ≠ Code.ok →
      exec (.registerWrite (.principal p) a data) s = .next s) ∧
    (∀ a data code, (Instr.registerWrite .sideband a data).wf = true → s.mayAccess .sideband a data.length = true →
      (∀ b ∈ wordsAt a data.length, b ≠ A.BT_NOR_CTRL) →
      code = firstCode (((wordsAt a data.length).zip data).map fun x => s.writeCode .sideband x.1 x.2) → code ≠ Code.ok →
      exec (.registerWrite .sideband a data) s = .next { s with sb := { s.sb with lastStatus := code } }) ∧
    (∀ v, (Instr.registerWrite r A.BT_NOR_ADDR [v]).wf = true → s.mayWrite r A.BT_NOR_ADDR v = true →
      Yields (.registerWrite r A.BT_NOR_ADDR [v]) s fun t => t.word A.BT_NOR_ADDR = v ∧ t.reg.shadows = s.reg.shadows) ∧
    (∀ k v, k < 3 → (Instr.registerWrite r (A.TH_MASK k) [v]).wf = true → s.mayWrite r (A.TH_MASK k) v = true →
      Yields (.registerWrite r (A.TH_MASK k) [v]) s fun t => t.shadowOf (R.TH_MASK_MASK k) = some v ∧ t.reg.shared = s.reg.shared) ∧
    (∀ v, (Instr.registerWrite r A.GL_PLANE_SEL [v]).wf = true → s.mayWrite r A.GL_PLANE_SEL v = true →
      Yields (.registerWrite r A.GL_PLANE_SEL [v]) s fun t => (r, v % 4) ∈ t.reg.planeSel) ∧
    (∀ logical useAlt, (Instr.rtRemapWrite r logical useAlt).wf = true →
      s.mayWrite r A.RT_REMAP ((if useAlt then 2 ^ 31 else 0) + logical) = true → Yields (.rtRemapWrite r logical useAlt) s fun t =>
        t.route = { s.route with remapPending := s.route.remapPending.filter (·.1 != logical) ++ [(logical, useAlt)] }) ∧
    (∀ a b h g, (Instr.snapshotLoRead r a).wf = true → s.mayAccess r a 1 = true → s.readCode r a = Code.ok → inCapture a = false →
      regAt a = some h → hiOf h a = some b → regAt b = some g → s.heldRead r a = none → Yields (.snapshotLoRead r a) s fun t =>
        t.heldRead r b = some (s.viewWord r (s.selPlane r) g b)) ∧
    (∀ a v, (Instr.snapshotLoRead r a).wf = true → s.mayAccess r a 1 = true → s.readCode r a = Code.ok → inCapture a = false →
      s.heldRead r a = some v → Yields (.snapshotLoRead r a) s fun t => t.heldRead r a = none ∧ t.reg.shared = s.reg.shared ∧
        t.reg.privA = s.reg.privA ∧ t.reg.privB = s.reg.privB)

/-- Unmapped addresses and RC fields (R436, R443). A read of an unmapped address is refused with BAD_ADDRESS, on the sideband with four bytes of 0 and the
code in LAST_STATUS; a write there is refused with BAD_ADDRESS and changes nothing. A read clears an RC field where its requester may write the register, and
clears nothing where it may not; a tenancy, the firmware and an untrusted sideband may not, and the untrusted sideband still gets the value. -/
def Obligations.UnmappedAndReadClear : Prop :=
  ∀ (s : State) (r : Requester) (a : Nat), s.sound = true → (Instr.rcRead r a 1).wf = true → s.mayAccess r a 1 = true →
    (inCapture a = false → regAt a = none → s.readCode r a = Code.badAddress ∧
      exec (.rcRead r a 1) s = .next (if r = .sideband then
        { s with sb := { s.sb with lastStatus := Code.badAddress, reply := [0, 0, 0, 0] } } else s) ∧
      ∀ w, w < 2 ^ 32 → s.writeCode r a w = Code.badAddress ∧ exec (.registerWrite r a [w]) s = .next (if r = .sideband then
        { s with sb := { s.sb with lastStatus := Code.badAddress } } else s)) ∧
    (∀ h f, inCapture a = false → s.readCode r a = Code.ok → s.ownerLike r = true → s.heldRead r a = none → regAt a = some h →
      f ∈ h.spec.fields → f.acc = .rc → Yields (.rcRead r a 1) s fun t => (f.loc a).get (t.stored (s.selPlane r) h.spec.copies a) = 0) ∧
    (s.ownerLike r = false → Yields (.rcRead r a 1) s fun t =>
      t.reg.shared = s.reg.shared ∧ t.reg.privA = s.reg.privA ∧ t.reg.privB = s.reg.privB ∧ t.hka = s.hka ∧ t.time = s.time) ∧
    (∀ h, inCapture a = false → s.readCode r a = Code.ok → r = .sideband → s.sbTrusted = false → s.heldRead r a = none → regAt a = some h →
      h.spec.reg ≠ .FT_TS_POP → Yields (.rcRead r a 1) s fun t => t.sb.reply = le 4 (s.viewWord r (s.selPlane r) h a)) ∧
    ((∃ p, r = .principal p ∧ p ≠ 30) ∨ (∃ p, r = .firmware p) ∨ (r = .sideband ∧ s.sbTrusted = false) → s.ownerLike r = false)

/-- Writable pairs (R445): a write of a high half is held and nothing else changes; the requester's following write of the low half applies both together, for the
clock, its alarm, the increments, and for a generator's start frame in both planes; any other write of the requester
discards what it held, and the holds of other requesters stay. -/
def Obligations.PairedWrites : Prop :=
  ∀ (s : State) (r : Requester) (a w : Nat) (h : RegHit), s.sound = true → (Instr.registerWrite r a [w]).wf = true → inCapture a = false →
    regAt a = some h → s.mayWrite r a w = true →
    (heldReg h.spec.reg = true → Yields (.registerWrite r a [w]) s fun t => t.heldWrite r a = some w ∧ (∀ b, b ≠ a → t.heldWrite r b = none) ∧
      t.reg.shared = s.reg.shared ∧ t.reg.privA = s.reg.privA ∧ t.reg.privB = s.reg.privB ∧ t.reg.shadows = s.reg.shadows ∧ t.pw = s.pw ∧
      t.time = s.time ∧ t.gens = s.gens) ∧
    (∀ b v d, (a, b) ∈ [(A.PW_RTC_LO, A.PW_RTC_HI), (A.PW_ALARM_LO, A.PW_ALARM_HI), (A.FT_TD_INCR_LO (d % 2), A.FT_TD_INCR_HI (d % 2))] →
      s.heldWrite r b = some v → Yields (.registerWrite r a [w]) s fun t => t.heldWrite r b = none ∧
        (∀ f ∈ h.spec.fields, t.rd (f.loc a) = (f.loc a).get w) ∧
        ∀ g, regAt b = some g → ∀ f ∈ g.spec.fields, t.rd (f.loc b) = (f.loc b).get v) ∧
    (∀ g v, g < 8 → a = A.ST_TRIG_FRAME_LO g → s.heldWrite r (A.ST_TRIG_FRAME_HI g) = some v → Yields (.registerWrite r a [w]) s fun t =>
      t.heldWrite r (A.ST_TRIG_FRAME_HI g) = none ∧ ∀ p : Plane,
        t.rdP p (R.ST_TRIG_FRAME_LO_FRAME g) = w ∧ t.rdP p (R.ST_TRIG_FRAME_HI_FRAME g) = v % 2 ^ 32) ∧
    (heldReg h.spec.reg = false → guardWord a = false → windowLane a = none → Yields (.registerWrite r a [w]) s fun t =>
      (∀ b, t.heldWrite r b = none) ∧ ∀ q b, q ≠ r → t.heldWrite q b = s.heldWrite q b)
end

