-- ==== Sys2Proof/Laws/SMap.lean ====
section
/-! SUPPORT. Laws/SMap.lean: reading after writing in a sparse map, and that every operation on one keeps its canonical form. -/

set_option Elab.async false

namespace Sys2Proof.Machine

variable {α : Type}
theorem smAbove_iff (b : Nat) (m : List (Nat × α)) : smAbove b m = true ↔ ∀ e ∈ m, b < e.1 := by
  induction m with
  | nil => simp [smAbove]
  | cons e m ih => simp [smAbove, ih]

theorem smWf_iff [DecidableEq α] (d : Nat → α) (m : List (Nat × α)) :
    smWf d m = true ↔ m.Pairwise (fun x y => x.1 < y.1) ∧ ∀ e ∈ m, e.2 ≠ d e.1 := by
  induction m with
  | nil => simp [smWf]
  | cons e m ih =>
    simp only [smWf, Bool.and_eq_true, Bool.not_eq_true', decide_eq_false_iff_not, ih, smAbove_iff, List.pairwise_cons, List.mem_cons,
      forall_eq_or_imp]
    constructor
    · rintro ⟨⟨h1, h2⟩, h3, h4⟩
      exact ⟨⟨h1, h3⟩, h2, h4⟩
    · rintro ⟨⟨h1, h3⟩, h2, h4⟩
      exact ⟨⟨h1, h2⟩, h3, h4⟩

theorem smSet_mem [DecidableEq α] (d : Nat → α) (m : List (Nat × α)) (k : Nat) (v : α) (e : Nat × α) (h : e ∈ smSet d m k v) : e = (k, v) ∨ e ∈ m := by
  induction m with
  | nil =>
    unfold smSet at h
    split at h <;> simp_all
  | cons c m ih =>
    unfold smSet at h
    (repeat' split at h) <;> simp_all
    · rcases h with h | h
      · exact .inl h
      · exact .inr (.inr h)
    · rcases h with h | h
      · exact .inr (.inl h)
      · rcases ih h with h | h
        · exact .inl h
        · exact .inr (.inr h)

theorem smSet_wf [DecidableEq α] (d : Nat → α) (m : List (Nat × α)) (k : Nat) (v : α) (h : smWf d m = true) : smWf d (smSet d m k v) = true := by
  induction m with
  | nil => unfold smSet; split <;> simp_all [smWf, smAbove]
  | cons c m ih =>
    obtain ⟨j, w⟩ := c
    rw [smWf_iff] at h
    obtain ⟨hp, hd⟩ := h
    rw [List.pairwise_cons] at hp
    have hm : smWf d m = true := (smWf_iff d m).2 ⟨hp.2, fun e he => hd e (List.mem_cons_of_mem _ he)⟩
    have hj := hd (j, w) (List.mem_cons_self ..)
    rw [smWf_iff]
    unfold smSet
    split
    · next hk =>
      split
      · exact ⟨List.pairwise_cons.2 hp, hd⟩
      · next hv =>
        refine ⟨List.pairwise_cons.2 ⟨?_, List.pairwise_cons.2 hp⟩, ?_⟩
        · intro e he
          rcases List.mem_cons.1 he with h | h
          · subst h; exact hk
          · exact Nat.lt_trans hk (hp.1 e h)
        · intro e he
          rcases List.mem_cons.1 he with h | h
          · subst h; exact hv
          · exact hd e h
    · split
      · next hkj =>
        subst hkj
        split
        · exact (smWf_iff d m).1 hm
        · next hv =>
          refine ⟨List.pairwise_cons.2 ⟨hp.1, hp.2⟩, ?_⟩
          intro e he
          rcases List.mem_cons.1 he with h | h
          · subst h; exact hv
          · exact hd e (List.mem_cons_of_mem _ h)
      · next hlt hne =>
        obtain ⟨h1, h2⟩ := (smWf_iff d _).1 (ih hm)
        refine ⟨List.pairwise_cons.2 ⟨?_, h1⟩, ?_⟩
        · intro e he
          rcases smSet_mem d m k v e he with h | h
          · subst h; show j < k; omega
          · exact hp.1 e h
        · intro e he
          rcases List.mem_cons.1 he with h | h
          · subst h; exact hj
          · exact h2 e h

/-- Read after write. -/
theorem smGet_set [DecidableEq α] (d : Nat → α) (m : List (Nat × α)) (k : Nat) (v : α) (h : smWf d m = true) (a : Nat) :
    smGet d (smSet d m k v) a = if a = k then v else smGet d m a := by
  induction m with
  | nil =>
    unfold smSet
    split
    · next hv => simp only [smGet]; split <;> simp_all
    · simp only [smGet]
  | cons c m ih =>
    obtain ⟨j, w⟩ := c
    rw [smWf_iff, List.pairwise_cons] at h
    obtain ⟨⟨hp1, hp2⟩, hd⟩ := h
    have hm : smWf d m = true := (smWf_iff d m).2 ⟨hp2, fun e he => hd e (List.mem_cons_of_mem _ he)⟩
    have hout : ∀ (l : List (Nat × α)) (a : Nat), (∀ e ∈ l, a < e.1) → smGet d l a = d a := by
      intro l a hl
      induction l with
      | nil => rfl
      | cons e l ihl =>
        have h1 := hl e (List.mem_cons_self ..)
        simp only [smGet]
        rw [if_neg (by omega)]
        exact ihl fun e he => hl e (List.mem_cons_of_mem _ he)
    unfold smSet
    split
    · next hk =>
      split
      · next hv =>
        split
        · next ha =>
          subst ha
          rw [hout ((j, w) :: m) a (by
            intro e he
            rcases List.mem_cons.1 he with h | h
            · subst h; exact hk
            · exact Nat.lt_trans hk (hp1 e h))]
          exact hv.symm
        · rfl
      · simp only [smGet]
    · split
      · next hkj =>
        subst hkj
        split
        · next hv =>
          split
          · next ha =>
            subst ha
            rw [hout m a hp1]
            exact hv.symm
          · next ha => simp only [smGet]; rw [if_neg ha]
        · simp only [smGet]
          split <;> rfl
      · next hlt hne =>
        simp only [smGet]
        rw [ih hm]
        split
        · next ha => subst ha; rw [if_neg (fun h => hne h.symm)]
        · rfl

theorem smWf_filter [DecidableEq α] (d : Nat → α) (m : List (Nat × α)) (p : Nat × α → Bool) (h : smWf d m = true) : smWf d (m.filter p) = true := by
  rw [smWf_iff] at h ⊢
  exact ⟨h.1.filter p, fun e he => h.2 e ((List.mem_filter.1 he).1)⟩

theorem smWf_append [DecidableEq α] (d : Nat → α) (l m : List (Nat × α)) (hl : smWf d l = true) (hm : smWf d m = true)
    (h : ∀ x ∈ l, ∀ y ∈ m, x.1 < y.1) : smWf d (l ++ m) = true := by
  rw [smWf_iff] at hl hm ⊢
  refine ⟨List.pairwise_append.2 ⟨hl.1, hm.1, h⟩, fun e he => ?_⟩
  rcases List.mem_append.1 he with h | h
  · exact hl.2 e h
  · exact hm.2 e h

theorem smWf_splice [DecidableEq α] (d : Nat → α) (m l n : List (Nat × α)) (lo hi : Nat) (p q : Nat × α → Bool) (hm : smWf d m = true)
    (hl : smWf d l = true) (hn : smWf d n = true) (h : ∀ e ∈ l, lo ≤ e.1 ∧ e.1 < hi) (hlo : lo ≤ hi)
    (hp : ∀ e, p e = true → e.1 < lo) (hq : ∀ e, q e = true → hi ≤ e.1) : smWf d (m.filter p ++ l ++ n.filter q) = true := by
  refine smWf_append d _ _ (smWf_append d _ _ (smWf_filter d m p hm) hl ?_) (smWf_filter d n q hn) ?_
  · intro x hx y hy
    have := hp x (List.mem_filter.1 hx).2
    have := h y hy
    omega
  · intro x hx y hy
    have h2 := hq y (List.mem_filter.1 hy).2
    rcases List.mem_append.1 hx with hx | hx
    · have := hp x (List.mem_filter.1 hx).2
      omega
    · have := h x hx
      omega

theorem foldl_smSet_wf [DecidableEq α] (d : Nat → α) (l m : List (Nat × α)) (h : smWf d m = true) :
    smWf d (l.foldl (fun m e => smSet d m e.1 e.2) m) = true := by
  induction l generalizing m with
  | nil => exact h
  | cons e l ih => exact ih _ (smSet_wf d m e.1 e.2 h)

theorem flashCells_bounds (a : Nat) (l : List Nat) (e : Host.Cell) (h : e ∈ flashCells a l) : a ≤ e.1 ∧ e.1 < a + l.length := by
  induction l generalizing a with
  | nil => simp [flashCells] at h
  | cons b l ih =>
    simp only [flashCells] at h
    simp only [List.length_cons]
    split at h
    · have := ih (a + 1) h; omega
    · rcases List.mem_cons.1 h with h | h
      · subst h; simp
      · have := ih (a + 1) h; omega

theorem flashCells_wf (a : Nat) (l : List Nat) : smWf norDefault (flashCells a l) = true := by
  induction l generalizing a with
  | nil => rfl
  | cons b l ih =>
    simp only [flashCells]
    split
    · exact ih (a + 1)
    · next hb =>
      have h := (smWf_iff norDefault _).1 (ih (a + 1))
      rw [smWf_iff]
      refine ⟨List.pairwise_cons.2 ⟨fun e he => ?_, h.1⟩, fun e he => ?_⟩
      · have := flashCells_bounds (a + 1) l e he
        show a < e.1
        omega
      · rcases List.mem_cons.1 he with h1 | h1
        · subst h1
          intro hc
          apply hb
          have := congrArg BitVec.toNat hc
          simpa [norDefault] using this
        · exact h.2 e h1

theorem flashPut_wf (m : Memory) (a : Nat) (l : List Nat) (h : smWf norDefault m = true) : smWf norDefault (flashPut m a l) = true := by
  unfold flashPut
  exact smWf_splice norDefault m _ m a (a + l.length) _ _ h (flashCells_wf a l) h (fun e he => flashCells_bounds a l e he) (by omega)
    (fun e he => by simpa using he) (fun e he => by simpa using he)

theorem fileSplice_wf (m : List (Nat × Word)) (lo hi : Nat) (l : List (Nat × Word)) (hm : smWf resetWord m = true)
    (hl : l.Pairwise fun x y => x.1 < y.1) (hb : ∀ e ∈ l, lo ≤ e.1 ∧ e.1 < hi) (hlo : lo ≤ hi) : smWf resetWord (fileSplice m lo hi l) = true := by
  unfold fileSplice
  refine smWf_splice resetWord m _ m lo hi _ _ hm ?_ hm (fun e he => hb e ((List.mem_filter.1 he).1)) hlo (fun e he => by simpa using he)
    (fun e he => by simpa using he)
  rw [smWf_iff]
  exact ⟨hl.filter _, fun e he => by simpa using (List.mem_filter.1 he).2⟩

theorem spliceFile_wf (r : List (Nat × Nat)) (m l : List (Nat × Word)) (hm : smWf resetWord m = true) : smWf resetWord (spliceFile r m l) = true := by
  unfold spliceFile
  exact foldl_smSet_wf resetWord _ _ (smWf_filter resetWord m _ hm)

end Sys2Proof.Machine
end

