-- ==== Sys2Proof/Laws/Registers.lean ====
section
/-! SUPPORT. Laws/Registers.lean: reading a field after writing one, in the register files. -/

set_option Elab.async false

namespace Sys2Proof.Machine

open Sys2Proof

/-- A word is what stands above a field, the field, and what stands below. -/
theorem split_word (w m n : Nat) : w = w / (m * n) * (m * n) + w / m % n * m + w % m := by
  have h1 := Nat.div_add_mod w m
  have h2 := Nat.div_add_mod (w / m) n
  rw [Nat.div_div_eq_div_mul] at h2
  calc w = m * (w / m) + w % m := h1.symm
    _ = m * (n * (w / (m * n)) + w / m % n) + w % m := by rw [h2]
    _ = _ := by ring

theorem putBits_eq (w hi lo v : Nat) :
    putBits w hi lo v =
      w / (2 ^ lo * 2 ^ (hi + 1 - lo)) * (2 ^ lo * 2 ^ (hi + 1 - lo)) + v % 2 ^ (hi + 1 - lo) * 2 ^ lo + w % 2 ^ lo := by
  have h := split_word w (2 ^ lo) (2 ^ (hi + 1 - lo))
  unfold putBits bits
  omega

theorem putBits_div (w hi lo v : Nat) :
    putBits w hi lo v / 2 ^ lo = w / (2 ^ lo * 2 ^ (hi + 1 - lo)) * 2 ^ (hi + 1 - lo) + v % 2 ^ (hi + 1 - lo) := by
  have hp : 0 < 2 ^ lo := Nat.two_pow_pos lo
  rw [putBits_eq, show w / (2 ^ lo * 2 ^ (hi + 1 - lo)) * (2 ^ lo * 2 ^ (hi + 1 - lo)) + v % 2 ^ (hi + 1 - lo) * 2 ^ lo + w % 2 ^ lo =
    w % 2 ^ lo + (w / (2 ^ lo * 2 ^ (hi + 1 - lo)) * 2 ^ (hi + 1 - lo) + v % 2 ^ (hi + 1 - lo)) * 2 ^ lo by ring,
    Nat.add_mul_div_right _ _ hp, Nat.div_eq_of_lt (Nat.mod_lt _ hp), Nat.zero_add]

/-- A field reads as it was written. -/
theorem bits_putBits (w hi lo v : Nat) : bits (putBits w hi lo v) hi lo = v % 2 ^ (hi + 1 - lo) := by
  rw [bits, putBits_div, Nat.mul_comm, Nat.mul_add_mod, Nat.mod_mod]

/-- A field below the one written reads as before. -/
theorem bits_putBits_below (w hi lo v hi' lo' : Nat) (h : hi' < lo) (h' : lo' ≤ hi') :
    bits (putBits w hi lo v) hi' lo' = bits w hi' lo' := by
  obtain ⟨k, rfl⟩ : ∃ k, lo = hi' + 1 + k := ⟨lo - (hi' + 1), by omega⟩
  have hm : ∀ x y : Nat, x % 2 ^ (hi' + 1 + k) = y % 2 ^ (hi' + 1 + k) → bits x hi' lo' = bits y hi' lo' := by
    intro x y hxy
    have hb : ∀ z : Nat, bits z hi' lo' = z % 2 ^ (hi' + 1) / 2 ^ lo' := by
      intro z
      unfold bits
      rw [show (2 : Nat) ^ (hi' + 1) = 2 ^ lo' * 2 ^ (hi' + 1 - lo') by rw [← Nat.pow_add]; congr 1; omega, Nat.mod_mul_right_div_self]
    have hd : (2 : Nat) ^ (hi' + 1) ∣ 2 ^ (hi' + 1 + k) := Nat.pow_dvd_pow 2 (by omega)
    rw [hb, hb, ← Nat.mod_mod_of_dvd x hd, hxy, Nat.mod_mod_of_dvd y hd]
  refine hm _ _ ?_
  rw [putBits_eq, show w / (2 ^ (hi' + 1 + k) * 2 ^ (hi + 1 - (hi' + 1 + k))) * (2 ^ (hi' + 1 + k) * 2 ^ (hi + 1 - (hi' + 1 + k))) +
      v % 2 ^ (hi + 1 - (hi' + 1 + k)) * 2 ^ (hi' + 1 + k) + w % 2 ^ (hi' + 1 + k) =
    w % 2 ^ (hi' + 1 + k) + 2 ^ (hi' + 1 + k) * (w / (2 ^ (hi' + 1 + k) * 2 ^ (hi + 1 - (hi' + 1 + k))) * 2 ^ (hi + 1 - (hi' + 1 + k)) +
      v % 2 ^ (hi + 1 - (hi' + 1 + k))) by ring, Nat.add_mul_mod_self_left, Nat.mod_mod]

/-- A field above the one written reads as before. -/
theorem bits_putBits_above (w hi lo v hi' lo' : Nat) (h : hi < lo') (h' : lo ≤ hi) :
    bits (putBits w hi lo v) hi' lo' = bits w hi' lo' := by
  have hd : ∀ z : Nat, z / 2 ^ lo' = z / (2 ^ lo * 2 ^ (hi + 1 - lo)) / 2 ^ (lo' - (hi + 1)) := by
    intro z
    rw [Nat.div_div_eq_div_mul, ← Nat.pow_add, ← Nat.pow_add]
    congr 2
    omega
  unfold bits
  rw [hd, hd w]
  congr 2
  rw [← Nat.div_div_eq_div_mul, putBits_div, Nat.mul_comm, Nat.mul_add_div (Nat.two_pow_pos _),
    Nat.div_eq_of_lt (Nat.mod_lt _ (Nat.two_pow_pos _)), Nat.add_zero]

theorem putBits_lt (w hi lo v : Nat) (hw : w < 2 ^ 32) (h : hi < 32) (h' : lo ≤ hi) : putBits w hi lo v < 2 ^ 32 := by
  have hlo : 0 < 2 ^ lo := Nat.two_pow_pos lo
  have hn : 0 < 2 ^ (hi + 1 - lo) := Nat.two_pow_pos _
  have e : (2 : Nat) ^ 32 = 2 ^ (32 - (hi + 1)) * (2 ^ lo * 2 ^ (hi + 1 - lo)) := by
    rw [← Nat.pow_add, ← Nat.pow_add]; congr 1; omega
  have h1 : w / (2 ^ lo * 2 ^ (hi + 1 - lo)) < 2 ^ (32 - (hi + 1)) := by
    rw [Nat.div_lt_iff_lt_mul (Nat.mul_pos hlo hn), ← e]; exact hw
  have h2 : v % 2 ^ (hi + 1 - lo) * 2 ^ lo + w % 2 ^ lo < 2 ^ lo * 2 ^ (hi + 1 - lo) := by
    have a := Nat.mod_lt v hn
    have b := Nat.mod_lt w hlo
    have c : (v % 2 ^ (hi + 1 - lo) + 1) * 2 ^ lo ≤ 2 ^ (hi + 1 - lo) * 2 ^ lo := Nat.mul_le_mul_right _ a
    rw [Nat.mul_comm (2 ^ lo)]
    rw [Nat.add_mul, Nat.one_mul] at c
    omega
  rw [putBits_eq, e]
  have h3 : (w / (2 ^ lo * 2 ^ (hi + 1 - lo)) + 1) * (2 ^ lo * 2 ^ (hi + 1 - lo)) ≤ 2 ^ (32 - (hi + 1)) * (2 ^ lo * 2 ^ (hi + 1 - lo)) :=
    Nat.mul_le_mul_right _ h1
  rw [Nat.add_mul, Nat.one_mul] at h3
  omega

theorem State.word_lt (s : State) (a : Nat) : s.word a < 2 ^ 32 := (smGet resetWord s.reg.shared a).isLt

theorem State.wordP_lt (s : State) (p : Plane) (a : Nat) : s.wordP p a < 2 ^ 32 := (smGet resetWord (s.reg.file p) a).isLt

/-- A word reads as it was written, and every other word as before. -/
theorem State.word_setWord (s : State) (a w b : Nat) (h : smWf resetWord s.reg.shared = true) :
    (s.setWord a w).word b = if b = a then w % 2 ^ 32 else s.word b := by
  show (smGet resetWord (smSet resetWord s.reg.shared a (BitVec.ofNat 32 w)) b).toNat = _
  rw [smGet_set _ _ _ _ h]
  split
  · exact BitVec.toNat_ofNat _ _
  · rfl

theorem State.file_setFile (r : RegState) (p q : Plane) (m : List (Nat × Word)) : (r.setFile p m).file q = if q = p then m else r.file q := by
  cases p <;> cases q <;> rfl

theorem State.wordP_setWordP (s : State) (p q : Plane) (a w b : Nat) (h : smWf resetWord (s.reg.file p) = true) :
    (s.setWordP p a w).wordP q b = if q = p ∧ b = a then w % 2 ^ 32 else s.wordP q b := by
  show (smGet resetWord ((s.reg.setFile p (smSet resetWord (s.reg.file p) a (BitVec.ofNat 32 w))).file q) b).toNat = _
  rw [State.file_setFile]
  by_cases hq : q = p
  · subst hq
    rw [if_pos rfl, smGet_set _ _ _ _ h]
    by_cases hb : b = a
    · rw [if_pos hb, if_pos ⟨rfl, hb⟩]; exact BitVec.toNat_ofNat _ _
    · rw [if_neg hb, if_neg (fun x => hb x.2)]; rfl
  · rw [if_neg hq, if_neg (fun x => hq x.1)]; rfl

@[simp] theorem State.wordP_setWord (s : State) (p : Plane) (a w b : Nat) : (s.setWord a w).wordP p b = s.wordP p b := by
  cases p <;> rfl

@[simp] theorem State.word_setWordP (s : State) (p : Plane) (a w b : Nat) : (s.setWordP p a w).word b = s.word b := by
  cases p <;> rfl

/-- A field of a register reads as it was written. -/
theorem State.rd_wr (s : State) (f : FieldAt) (v : Nat) (h : smWf resetWord s.reg.shared = true) (h1 : f.hi < 32) (h2 : f.lo ≤ f.hi) :
    (s.wr f v).rd f = v % 2 ^ (f.hi + 1 - f.lo) := by
  show bits ((s.setWord f.addr (putBits (s.word f.addr) f.hi f.lo v)).word f.addr) f.hi f.lo = _
  rw [State.word_setWord _ _ _ _ h, if_pos rfl, Nat.mod_eq_of_lt (putBits_lt _ _ _ _ (s.word_lt _) h1 h2), bits_putBits]

/-- A field of another register reads as before. -/
theorem State.rd_wr_addr (s : State) (f g : FieldAt) (v : Nat) (h : smWf resetWord s.reg.shared = true) (ha : g.addr ≠ f.addr) :
    (s.wr f v).rd g = s.rd g := by
  show bits ((s.setWord f.addr (putBits (s.word f.addr) f.hi f.lo v)).word g.addr) g.hi g.lo = _
  rw [State.word_setWord _ _ _ _ h, if_neg ha]
  rfl

/-- Another field of the same register reads as before. -/
theorem State.rd_wr_bits (s : State) (f g : FieldAt) (v : Nat) (h : smWf resetWord s.reg.shared = true) (h1 : f.hi < 32) (h2 : f.lo ≤ f.hi)
    (h3 : g.lo ≤ g.hi) (hd : g.hi < f.lo ∨ f.hi < g.lo) : (s.wr f v).rd g = s.rd g := by
  by_cases ha : g.addr = f.addr
  · show bits ((s.setWord f.addr (putBits (s.word f.addr) f.hi f.lo v)).word g.addr) g.hi g.lo = bits (s.word g.addr) g.hi g.lo
    rw [State.word_setWord _ _ _ _ h, if_pos ha, Nat.mod_eq_of_lt (putBits_lt _ _ _ _ (s.word_lt _) h1 h2), ha]
    rcases hd with hd | hd
    · exact bits_putBits_below _ _ _ _ _ _ hd h3
    · exact bits_putBits_above _ _ _ _ _ _ hd h2
  · exact State.rd_wr_addr s f g v h ha

end Sys2Proof.Machine
end

