-- ==== Sys2Proof/Laws/Kept.lean ====
section
/-! SUPPORT. Laws/Kept.lean: the invariants that every step keeps, with what a step must leave: the sparse maps are canonical, the lists of units have
their lengths, the queue of commands is untouched, PROVISIONED stays set (R318), the floor does not fall (R339). -/

set_option linter.all false
set_option Elab.async false

namespace Sys2Proof.Machine

open Sys2Proof

/-- What a step must leave: the queue it began with, PROVISIONED, a floor no lower than before; and what may be asked of the clock, the mode, the
fabric description, whether an image is applied, the NOR: an operation that sets one of these needs it of the new value. -/
structure Keep where
  queue : List Instr
  provisioned : Bool
  floor : Nat
  clk : Clock → Prop := fun _ => True
  mode : Mode → Prop := fun _ => True
  fabric : Fabric → Prop := fun _ => True
  image : Bool → Prop := fun _ => True
  norIs : List Host.Cell → Prop := fun _ => True

/-- The invariants of the state and what a step must leave, in one. -/
structure Kept (k : Keep) (s : State) : Prop where
  queue : s.pending = k.queue
  shared : smWf resetWord s.reg.shared = true
  privA : smWf resetWord s.reg.privA = true
  privB : smWf resetWord s.reg.privB = true
  prin : s.links.prin.length = 17
  lanes : s.links.lanes.length = 8
  queues : s.sched.queues.length = 33
  provisioned : k.provisioned = true → s.prot.provisioned = true
  floor : k.floor ≤ s.prot.floor
  keys : s.prot.keys.length = 17
  senseTiles : s.sense.tiles.length = 80
  mem : smWf capDefault s.cap.mem = true
  chans : s.cap.chans.length = 36
  gens : s.gens.length = 16
  actTiles : s.act.tiles.length = 80
  calTiles : s.cal.tiles.length = 80
  td : s.time.td.length = 2
  sources : s.time.sources.length = 11
  ports : s.time.ports.length = 2
  bootShared : smWf resetWord s.boot.shared = true
  bootPriv : smWf resetWord s.boot.priv = true
  nor : smWf norDefault s.nor = true
  clk : k.clk s.clk
  mode : k.mode s.mode
  fabric : k.fabric s.fabric
  image : k.image s.imageApplied
  norIs : k.norIs s.nor

/-- A state that differs only in what `Kept` does not speak of. -/
theorem Kept.rest {k : Keep} {s : State} {x_modeNext : Option (Mode × Nat)} {x_power : PowerState} {x_route : Route} {x_com : CommitState} {x_sb : Sideband} {x_faults : Faults} {x_hka : Hka} {x_dith : Dither} {x_loop : Loop} {x_clips : Clips} {x_pl : PlaneSt} {x_therm : Thermal} {x_pw : PowerSt} {x_dust : Dust} {x_avail : Avail} {x_evtLevel : Nat} {x_evtRise : Nat} {x_freeCount : Nat} (h : Kept k s) :
    Kept k (State.mk s.clk s.reg s.mode x_modeNext x_power s.imageApplied s.fabric x_route x_com s.links x_sb s.sched s.prot x_faults s.sense s.cap x_hka x_dith s.gens x_loop x_clips s.act s.cal s.time x_pl x_therm x_pw x_dust x_avail s.boot s.nor x_evtLevel x_evtRise x_freeCount s.pending) := { h with }

theorem Kept.clk_ {k : Keep} {s : State} {x : Clock} {x_modeNext : Option (Mode × Nat)} {x_power : PowerState} {x_route : Route} {x_com : CommitState} {x_sb : Sideband} {x_faults : Faults} {x_hka : Hka} {x_dith : Dither} {x_loop : Loop} {x_clips : Clips} {x_pl : PlaneSt} {x_therm : Thermal} {x_pw : PowerSt} {x_dust : Dust} {x_avail : Avail} {x_evtLevel : Nat} {x_evtRise : Nat} {x_freeCount : Nat} (h : Kept k s) (h0 : k.clk s.clk → k.clk x) :
    Kept k (State.mk x s.reg s.mode x_modeNext x_power s.imageApplied s.fabric x_route x_com s.links x_sb s.sched s.prot x_faults s.sense s.cap x_hka x_dith s.gens x_loop x_clips s.act s.cal s.time x_pl x_therm x_pw x_dust x_avail s.boot s.nor x_evtLevel x_evtRise x_freeCount s.pending) := { h with clk := h0 h.clk }

theorem Kept.mode_ {k : Keep} {s : State} {x : Mode} {x_modeNext : Option (Mode × Nat)} {x_power : PowerState} {x_route : Route} {x_com : CommitState} {x_sb : Sideband} {x_faults : Faults} {x_hka : Hka} {x_dith : Dither} {x_loop : Loop} {x_clips : Clips} {x_pl : PlaneSt} {x_therm : Thermal} {x_pw : PowerSt} {x_dust : Dust} {x_avail : Avail} {x_evtLevel : Nat} {x_evtRise : Nat} {x_freeCount : Nat} (h : Kept k s) (h0 : k.mode s.mode → k.mode x) :
    Kept k (State.mk s.clk s.reg x x_modeNext x_power s.imageApplied s.fabric x_route x_com s.links x_sb s.sched s.prot x_faults s.sense s.cap x_hka x_dith s.gens x_loop x_clips s.act s.cal s.time x_pl x_therm x_pw x_dust x_avail s.boot s.nor x_evtLevel x_evtRise x_freeCount s.pending) := { h with mode := h0 h.mode }

theorem Kept.image_ {k : Keep} {s : State} {x : Bool} {x_modeNext : Option (Mode × Nat)} {x_power : PowerState} {x_route : Route} {x_com : CommitState} {x_sb : Sideband} {x_faults : Faults} {x_hka : Hka} {x_dith : Dither} {x_loop : Loop} {x_clips : Clips} {x_pl : PlaneSt} {x_therm : Thermal} {x_pw : PowerSt} {x_dust : Dust} {x_avail : Avail} {x_evtLevel : Nat} {x_evtRise : Nat} {x_freeCount : Nat} (h : Kept k s) (h0 : k.image s.imageApplied → k.image x) :
    Kept k (State.mk s.clk s.reg s.mode x_modeNext x_power x s.fabric x_route x_com s.links x_sb s.sched s.prot x_faults s.sense s.cap x_hka x_dith s.gens x_loop x_clips s.act s.cal s.time x_pl x_therm x_pw x_dust x_avail s.boot s.nor x_evtLevel x_evtRise x_freeCount s.pending) := { h with image := h0 h.image }

theorem Kept.fabric_ {k : Keep} {s : State} {x : Fabric} {x_modeNext : Option (Mode × Nat)} {x_power : PowerState} {x_route : Route} {x_com : CommitState} {x_sb : Sideband} {x_faults : Faults} {x_hka : Hka} {x_dith : Dither} {x_loop : Loop} {x_clips : Clips} {x_pl : PlaneSt} {x_therm : Thermal} {x_pw : PowerSt} {x_dust : Dust} {x_avail : Avail} {x_evtLevel : Nat} {x_evtRise : Nat} {x_freeCount : Nat} (h : Kept k s) (h0 : k.fabric s.fabric → k.fabric x) :
    Kept k (State.mk s.clk s.reg s.mode x_modeNext x_power s.imageApplied x x_route x_com s.links x_sb s.sched s.prot x_faults s.sense s.cap x_hka x_dith s.gens x_loop x_clips s.act s.cal s.time x_pl x_therm x_pw x_dust x_avail s.boot s.nor x_evtLevel x_evtRise x_freeCount s.pending) := { h with fabric := h0 h.fabric }

theorem Kept.reg_ {k : Keep} {s : State} {x : RegState} {x_modeNext : Option (Mode × Nat)} {x_power : PowerState} {x_route : Route} {x_com : CommitState} {x_sb : Sideband} {x_faults : Faults} {x_hka : Hka} {x_dith : Dither} {x_loop : Loop} {x_clips : Clips} {x_pl : PlaneSt} {x_therm : Thermal} {x_pw : PowerSt} {x_dust : Dust} {x_avail : Avail} {x_evtLevel : Nat} {x_evtRise : Nat} {x_freeCount : Nat} (h : Kept k s)
    (h0 : (smWf resetWord s.reg.shared = true) → smWf resetWord x.shared = true) (h1 : (smWf resetWord s.reg.privA = true) → smWf resetWord x.privA = true) (h2 : (smWf resetWord s.reg.privB = true) → smWf resetWord x.privB = true) : Kept k (State.mk s.clk x s.mode x_modeNext x_power s.imageApplied s.fabric x_route x_com s.links x_sb s.sched s.prot x_faults s.sense s.cap x_hka x_dith s.gens x_loop x_clips s.act s.cal s.time x_pl x_therm x_pw x_dust x_avail s.boot s.nor x_evtLevel x_evtRise x_freeCount s.pending) :=
  { h with shared := h0 h.shared, privA := h1 h.privA, privB := h2 h.privB }

theorem Kept.links_ {k : Keep} {s : State} {x : Links} {x_modeNext : Option (Mode × Nat)} {x_power : PowerState} {x_route : Route} {x_com : CommitState} {x_sb : Sideband} {x_faults : Faults} {x_hka : Hka} {x_dith : Dither} {x_loop : Loop} {x_clips : Clips} {x_pl : PlaneSt} {x_therm : Thermal} {x_pw : PowerSt} {x_dust : Dust} {x_avail : Avail} {x_evtLevel : Nat} {x_evtRise : Nat} {x_freeCount : Nat} (h : Kept k s)
    (h0 : (s.links.prin.length = 17) → x.prin.length = 17) (h1 : (s.links.lanes.length = 8) → x.lanes.length = 8) : Kept k (State.mk s.clk s.reg s.mode x_modeNext x_power s.imageApplied s.fabric x_route x_com x x_sb s.sched s.prot x_faults s.sense s.cap x_hka x_dith s.gens x_loop x_clips s.act s.cal s.time x_pl x_therm x_pw x_dust x_avail s.boot s.nor x_evtLevel x_evtRise x_freeCount s.pending) :=
  { h with prin := h0 h.prin, lanes := h1 h.lanes }

theorem Kept.sched_ {k : Keep} {s : State} {x : Sched} {x_modeNext : Option (Mode × Nat)} {x_power : PowerState} {x_route : Route} {x_com : CommitState} {x_sb : Sideband} {x_faults : Faults} {x_hka : Hka} {x_dith : Dither} {x_loop : Loop} {x_clips : Clips} {x_pl : PlaneSt} {x_therm : Thermal} {x_pw : PowerSt} {x_dust : Dust} {x_avail : Avail} {x_evtLevel : Nat} {x_evtRise : Nat} {x_freeCount : Nat} (h : Kept k s)
    (h0 : (s.sched.queues.length = 33) → x.queues.length = 33) : Kept k (State.mk s.clk s.reg s.mode x_modeNext x_power s.imageApplied s.fabric x_route x_com s.links x_sb x s.prot x_faults s.sense s.cap x_hka x_dith s.gens x_loop x_clips s.act s.cal s.time x_pl x_therm x_pw x_dust x_avail s.boot s.nor x_evtLevel x_evtRise x_freeCount s.pending) :=
  { h with queues := h0 h.queues }

theorem Kept.prot_ {k : Keep} {s : State} {x : Protect} {x_modeNext : Option (Mode × Nat)} {x_power : PowerState} {x_route : Route} {x_com : CommitState} {x_sb : Sideband} {x_faults : Faults} {x_hka : Hka} {x_dith : Dither} {x_loop : Loop} {x_clips : Clips} {x_pl : PlaneSt} {x_therm : Thermal} {x_pw : PowerSt} {x_dust : Dust} {x_avail : Avail} {x_evtLevel : Nat} {x_evtRise : Nat} {x_freeCount : Nat} (h : Kept k s)
    (h0 : (k.provisioned = true → s.prot.provisioned = true) → (k.provisioned = true → x.provisioned = true)) (h1 : (k.floor ≤ s.prot.floor) → k.floor ≤ x.floor) (h2 : (s.prot.keys.length = 17) → x.keys.length = 17) : Kept k (State.mk s.clk s.reg s.mode x_modeNext x_power s.imageApplied s.fabric x_route x_com s.links x_sb s.sched x x_faults s.sense s.cap x_hka x_dith s.gens x_loop x_clips s.act s.cal s.time x_pl x_therm x_pw x_dust x_avail s.boot s.nor x_evtLevel x_evtRise x_freeCount s.pending) :=
  { h with provisioned := h0 h.provisioned, floor := h1 h.floor, keys := h2 h.keys }

theorem Kept.sense_ {k : Keep} {s : State} {x : Sense} {x_modeNext : Option (Mode × Nat)} {x_power : PowerState} {x_route : Route} {x_com : CommitState} {x_sb : Sideband} {x_faults : Faults} {x_hka : Hka} {x_dith : Dither} {x_loop : Loop} {x_clips : Clips} {x_pl : PlaneSt} {x_therm : Thermal} {x_pw : PowerSt} {x_dust : Dust} {x_avail : Avail} {x_evtLevel : Nat} {x_evtRise : Nat} {x_freeCount : Nat} (h : Kept k s)
    (h0 : (s.sense.tiles.length = 80) → x.tiles.length = 80) : Kept k (State.mk s.clk s.reg s.mode x_modeNext x_power s.imageApplied s.fabric x_route x_com s.links x_sb s.sched s.prot x_faults x s.cap x_hka x_dith s.gens x_loop x_clips s.act s.cal s.time x_pl x_therm x_pw x_dust x_avail s.boot s.nor x_evtLevel x_evtRise x_freeCount s.pending) :=
  { h with senseTiles := h0 h.senseTiles }

theorem Kept.cap_ {k : Keep} {s : State} {x : Capture} {x_modeNext : Option (Mode × Nat)} {x_power : PowerState} {x_route : Route} {x_com : CommitState} {x_sb : Sideband} {x_faults : Faults} {x_hka : Hka} {x_dith : Dither} {x_loop : Loop} {x_clips : Clips} {x_pl : PlaneSt} {x_therm : Thermal} {x_pw : PowerSt} {x_dust : Dust} {x_avail : Avail} {x_evtLevel : Nat} {x_evtRise : Nat} {x_freeCount : Nat} (h : Kept k s)
    (h0 : (smWf capDefault s.cap.mem = true) → smWf capDefault x.mem = true) (h1 : (s.cap.chans.length = 36) → x.chans.length = 36) : Kept k (State.mk s.clk s.reg s.mode x_modeNext x_power s.imageApplied s.fabric x_route x_com s.links x_sb s.sched s.prot x_faults s.sense x x_hka x_dith s.gens x_loop x_clips s.act s.cal s.time x_pl x_therm x_pw x_dust x_avail s.boot s.nor x_evtLevel x_evtRise x_freeCount s.pending) :=
  { h with mem := h0 h.mem, chans := h1 h.chans }

theorem Kept.gens_ {k : Keep} {s : State} {x : List Gen} {x_modeNext : Option (Mode × Nat)} {x_power : PowerState} {x_route : Route} {x_com : CommitState} {x_sb : Sideband} {x_faults : Faults} {x_hka : Hka} {x_dith : Dither} {x_loop : Loop} {x_clips : Clips} {x_pl : PlaneSt} {x_therm : Thermal} {x_pw : PowerSt} {x_dust : Dust} {x_avail : Avail} {x_evtLevel : Nat} {x_evtRise : Nat} {x_freeCount : Nat} (h : Kept k s)
    (h0 : (s.gens.length = 16) → x.length = 16) : Kept k (State.mk s.clk s.reg s.mode x_modeNext x_power s.imageApplied s.fabric x_route x_com s.links x_sb s.sched s.prot x_faults s.sense s.cap x_hka x_dith x x_loop x_clips s.act s.cal s.time x_pl x_therm x_pw x_dust x_avail s.boot s.nor x_evtLevel x_evtRise x_freeCount s.pending) :=
  { h with gens := h0 h.gens }

theorem Kept.act_ {k : Keep} {s : State} {x : Act} {x_modeNext : Option (Mode × Nat)} {x_power : PowerState} {x_route : Route} {x_com : CommitState} {x_sb : Sideband} {x_faults : Faults} {x_hka : Hka} {x_dith : Dither} {x_loop : Loop} {x_clips : Clips} {x_pl : PlaneSt} {x_therm : Thermal} {x_pw : PowerSt} {x_dust : Dust} {x_avail : Avail} {x_evtLevel : Nat} {x_evtRise : Nat} {x_freeCount : Nat} (h : Kept k s)
    (h0 : (s.act.tiles.length = 80) → x.tiles.length = 80) : Kept k (State.mk s.clk s.reg s.mode x_modeNext x_power s.imageApplied s.fabric x_route x_com s.links x_sb s.sched s.prot x_faults s.sense s.cap x_hka x_dith s.gens x_loop x_clips x s.cal s.time x_pl x_therm x_pw x_dust x_avail s.boot s.nor x_evtLevel x_evtRise x_freeCount s.pending) :=
  { h with actTiles := h0 h.actTiles }

theorem Kept.cal_ {k : Keep} {s : State} {x : Cal} {x_modeNext : Option (Mode × Nat)} {x_power : PowerState} {x_route : Route} {x_com : CommitState} {x_sb : Sideband} {x_faults : Faults} {x_hka : Hka} {x_dith : Dither} {x_loop : Loop} {x_clips : Clips} {x_pl : PlaneSt} {x_therm : Thermal} {x_pw : PowerSt} {x_dust : Dust} {x_avail : Avail} {x_evtLevel : Nat} {x_evtRise : Nat} {x_freeCount : Nat} (h : Kept k s)
    (h0 : (s.cal.tiles.length = 80) → x.tiles.length = 80) : Kept k (State.mk s.clk s.reg s.mode x_modeNext x_power s.imageApplied s.fabric x_route x_com s.links x_sb s.sched s.prot x_faults s.sense s.cap x_hka x_dith s.gens x_loop x_clips s.act x s.time x_pl x_therm x_pw x_dust x_avail s.boot s.nor x_evtLevel x_evtRise x_freeCount s.pending) :=
  { h with calTiles := h0 h.calTiles }

theorem Kept.time_ {k : Keep} {s : State} {x : Time} {x_modeNext : Option (Mode × Nat)} {x_power : PowerState} {x_route : Route} {x_com : CommitState} {x_sb : Sideband} {x_faults : Faults} {x_hka : Hka} {x_dith : Dither} {x_loop : Loop} {x_clips : Clips} {x_pl : PlaneSt} {x_therm : Thermal} {x_pw : PowerSt} {x_dust : Dust} {x_avail : Avail} {x_evtLevel : Nat} {x_evtRise : Nat} {x_freeCount : Nat} (h : Kept k s)
    (h0 : (s.time.td.length = 2) → x.td.length = 2) (h1 : (s.time.sources.length = 11) → x.sources.length = 11) (h2 : (s.time.ports.length = 2) → x.ports.length = 2) : Kept k (State.mk s.clk s.reg s.mode x_modeNext x_power s.imageApplied s.fabric x_route x_com s.links x_sb s.sched s.prot x_faults s.sense s.cap x_hka x_dith s.gens x_loop x_clips s.act s.cal x x_pl x_therm x_pw x_dust x_avail s.boot s.nor x_evtLevel x_evtRise x_freeCount s.pending) :=
  { h with td := h0 h.td, sources := h1 h.sources, ports := h2 h.ports }

theorem Kept.boot_ {k : Keep} {s : State} {x : Boot} {x_modeNext : Option (Mode × Nat)} {x_power : PowerState} {x_route : Route} {x_com : CommitState} {x_sb : Sideband} {x_faults : Faults} {x_hka : Hka} {x_dith : Dither} {x_loop : Loop} {x_clips : Clips} {x_pl : PlaneSt} {x_therm : Thermal} {x_pw : PowerSt} {x_dust : Dust} {x_avail : Avail} {x_evtLevel : Nat} {x_evtRise : Nat} {x_freeCount : Nat} (h : Kept k s)
    (h0 : (smWf resetWord s.boot.shared = true) → smWf resetWord x.shared = true) (h1 : (smWf resetWord s.boot.priv = true) → smWf resetWord x.priv = true) : Kept k (State.mk s.clk s.reg s.mode x_modeNext x_power s.imageApplied s.fabric x_route x_com s.links x_sb s.sched s.prot x_faults s.sense s.cap x_hka x_dith s.gens x_loop x_clips s.act s.cal s.time x_pl x_therm x_pw x_dust x_avail x s.nor x_evtLevel x_evtRise x_freeCount s.pending) :=
  { h with bootShared := h0 h.bootShared, bootPriv := h1 h.bootPriv }

theorem Kept.nor_ {k : Keep} {s : State} {x : List Host.Cell} {x_modeNext : Option (Mode × Nat)} {x_power : PowerState} {x_route : Route} {x_com : CommitState} {x_sb : Sideband} {x_faults : Faults} {x_hka : Hka} {x_dith : Dither} {x_loop : Loop} {x_clips : Clips} {x_pl : PlaneSt} {x_therm : Thermal} {x_pw : PowerSt} {x_dust : Dust} {x_avail : Avail} {x_evtLevel : Nat} {x_evtRise : Nat} {x_freeCount : Nat} (h : Kept k s)
    (h0 : (smWf norDefault s.nor = true) → smWf norDefault x = true) (h1 : k.norIs s.nor → k.norIs x) : Kept k (State.mk s.clk s.reg s.mode x_modeNext x_power s.imageApplied s.fabric x_route x_com s.links x_sb s.sched s.prot x_faults s.sense s.cap x_hka x_dith s.gens x_loop x_clips s.act s.cal s.time x_pl x_therm x_pw x_dust x_avail s.boot x x_evtLevel x_evtRise x_freeCount s.pending) :=
  { h with nor := h0 h.nor, norIs := h1 h.norIs }

theorem modAt_length {α : Type} (l : List α) (i : Nat) (f : α → α) : (modAt l i f).length = l.length := by
  unfold modAt; simp
theorem State.setReg_kept {k : Keep} {s : State} {f : RegState → RegState} (h : Kept k s)
    (h1 : smWf resetWord s.reg.shared = true → smWf resetWord (f s.reg).shared = true)
    (h2 : smWf resetWord s.reg.privA = true → smWf resetWord (f s.reg).privA = true)
    (h3 : smWf resetWord s.reg.privB = true → smWf resetWord (f s.reg).privB = true) : Kept k (s.setReg f) := h.reg_ h1 h2 h3
theorem State.setLinks_kept {k : Keep} {s : State} {f : Links → Links} (h : Kept k s)
    (h1 : s.links.prin.length = 17 → (f s.links).prin.length = 17) (h2 : s.links.lanes.length = 8 → (f s.links).lanes.length = 8) :
    Kept k (s.setLinks f) := h.links_ h1 h2
theorem State.setSched_kept {k : Keep} {s : State} {f : Sched → Sched} (h : Kept k s)
    (h1 : s.sched.queues.length = 33 → (f s.sched).queues.length = 33) : Kept k (s.setSched f) := h.sched_ h1
theorem State.setProt_kept {k : Keep} {s : State} {f : Protect → Protect} (h : Kept k s)
    (h1 : (k.provisioned = true → s.prot.provisioned = true) → (k.provisioned = true → (f s.prot).provisioned = true))
    (h2 : k.floor ≤ s.prot.floor → k.floor ≤ (f s.prot).floor) (h3 : s.prot.keys.length = 17 → (f s.prot).keys.length = 17) :
    Kept k (s.setProt f) := h.prot_ h1 h2 h3
theorem State.setAct_kept {k : Keep} {s : State} {f : Act → Act} (h : Kept k s)
    (h1 : s.act.tiles.length = 80 → (f s.act).tiles.length = 80) : Kept k (s.setAct f) := h.act_ h1
theorem State.setTime_kept {k : Keep} {s : State} {f : Time → Time} (h : Kept k s)
    (h1 : s.time.td.length = 2 → (f s.time).td.length = 2) (h2 : s.time.sources.length = 11 → (f s.time).sources.length = 11)
    (h3 : s.time.ports.length = 2 → (f s.time).ports.length = 2) : Kept k (s.setTime f) := h.time_ h1 h2 h3
theorem State.setBoot_kept {k : Keep} {s : State} {f : Boot → Boot} (h : Kept k s)
    (h1 : smWf resetWord s.boot.shared = true → smWf resetWord (f s.boot).shared = true)
    (h2 : smWf resetWord s.boot.priv = true → smWf resetWord (f s.boot).priv = true) : Kept k (s.setBoot f) := h.boot_ h1 h2
theorem State.setWord_kept {k : Keep} {s : State} {a w : Nat} (h : Kept k s) : Kept k (s.setWord a w) :=
  h.reg_ (smSet_wf _ _ _ _) id id
theorem State.setWordP_kept {k : Keep} {s : State} {p : Plane} {a w : Nat} (h : Kept k s) : Kept k (s.setWordP p a w) := by
  cases p
  · exact h.reg_ id (smSet_wf _ _ _ _) id
  · exact h.reg_ id id (smSet_wf _ _ _ _)
theorem State.when_kept {k : Keep} {s : State} {c : Bool} {f : State → State} (h : Kept k s) (hf : Kept k (f s)) : Kept k (s.when c f) := by
  unfold State.when; split <;> assumption
theorem foldl_kept {α : Type} {k : Keep} {s : State} {l : List α} {f : State → α → State} (hf : ∀ s x, Kept k s → Kept k (f s x)) (h : Kept k s) :
    Kept k (l.foldl f s) := by
  induction l generalizing s with
  | nil => exact h
  | cons a l ih => exact ih (hf _ _ h)
theorem State.over_kept {α : Type} {k : Keep} {s : State} {l : List α} {f : State → α → State} (hf : ∀ s x, Kept k s → Kept k (f s x))
    (h : Kept k s) : Kept k (s.over l f) := foldl_kept hf h
theorem foldl_fst_kept {α β : Type} {k : Keep} {a : State × β} {l : List α} {f : State × β → α → State × β}
    (hf : ∀ a x, Kept k a.1 → Kept k (f a x).1) (h : Kept k a.1) : Kept k (l.foldl f a).1 := by
  induction l generalizing a with
  | nil => exact h
  | cons x l ih => exact ih (hf _ _ h)
theorem foldl_snd_kept {α β : Type} {k : Keep} {a : β × State} {l : List α} {f : β × State → α → β × State}
    (hf : ∀ a x, Kept k a.2 → Kept k (f a x).2) (h : Kept k a.2) : Kept k (l.foldl f a).2 := by
  induction l generalizing a with
  | nil => exact h
  | cons x l ih => exact ih (hf _ _ h)
theorem ite_kept {k : Keep} {c : Prop} [Decidable c] {a b : State} (ha : Kept k a) (hb : Kept k b) : Kept k (if c then a else b) := by
  split <;> assumption
theorem pair_snd {α : Type} {k : Keep} {x : α × State} {a : α} {b : State} (e : x = (a, b)) (h : Kept k x.2) : Kept k b := by rw [e] at h; exact h
theorem pair_fst {α : Type} {k : Keep} {x : State × α} {a : State} {b : α} (e : x = (a, b)) (h : Kept k x.1) : Kept k a := by rw [e] at h; exact h
theorem pair_trd {α β : Type} {k : Keep} {x : α × β × State} {a : α} {c : β} {b : State} (e : x = (a, c, b)) (h : Kept k x.2.2) : Kept k b := by rw [e] at h; exact h

end Sys2Proof.Machine
end

