-- ==== Sys2Proof/Laws/KeptOps.lean ====
section
/-! SUPPORT. Laws/KeptOps.lean: every operation of Machine/Ops.lean keeps the invariants of the state (Laws/Kept.lean). -/

set_option linter.all false
set_option Elab.async false

namespace Sys2Proof.Machine

open Sys2Proof

theorem State.wr_kept {κ : Keep} {s : State} {f : FieldAt} {v : Nat} (hk : Kept κ s) :
    Kept κ (State.wr s f v) := by
  unfold State.wr
  (try simp only [])
  with_reducible repeat' (first | exact hk | exact id | apply State.setWord_kept | split)

theorem State.wrS_kept {κ : Keep} {s : State} {f : FieldAt} {v : Int} (hk : Kept κ s) :
    Kept κ (State.wrS s f v) := by
  unfold State.wrS
  (try simp only [])
  with_reducible repeat' (first | exact hk | apply State.wr_kept | split)

theorem State.wrP_kept {κ : Keep} {s : State} {p : Plane} {f : FieldAt} {v : Nat} (hk : Kept κ s) :
    Kept κ (State.wrP s p f v) := by
  unfold State.wrP
  (try simp only [])
  with_reducible repeat' (first | exact hk | exact id | apply State.setWordP_kept | split)

theorem State.wrPS_kept {κ : Keep} {s : State} {p : Plane} {f : FieldAt} {v : Int} (hk : Kept κ s) :
    Kept κ (State.wrPS s p f v) := by
  unfold State.wrPS
  (try simp only [])
  with_reducible repeat' (first | exact hk | apply State.wrP_kept | split)

theorem State.wrB_kept {κ : Keep} {s : State} {f : FieldAt} {v : Nat} (hk : Kept κ s) :
    Kept κ (State.wrB s f v) := by
  unfold State.wrB
  (try simp only [])
  with_reducible repeat' (first | exact hk | apply State.wrP_kept | split)

theorem State.setWordB_kept {κ : Keep} {s : State} {a w : Nat} (hk : Kept κ s) :
    Kept κ (State.setWordB s a w) := by
  unfold State.setWordB
  (try simp only [])
  with_reducible repeat' (first | exact hk | exact id | apply State.setWordP_kept | split)

theorem State.bump_kept {κ : Keep} {s : State} {f : FieldAt} {n : Nat} (hk : Kept κ s) :
    Kept κ (State.bump s f n) := by
  unfold State.bump
  (try simp only [])
  with_reducible repeat' (first | exact hk | apply State.wr_kept | split)

theorem State.bumpB_kept {κ : Keep} {s : State} {f : FieldAt} {n : Nat} (hk : Kept κ s) :
    Kept κ (State.bumpB s f n) := by
  unfold State.bumpB
  (try simp only [])
  with_reducible repeat' (first | exact hk | apply State.wrP_kept | split)

theorem State.advance_kept {κ : Keep} {s : State} {f : FieldAt} (hk : Kept κ s) :
    Kept κ (State.advance s f) := by
  unfold State.advance
  (try simp only [])
  with_reducible repeat' (first | exact hk | apply State.wr_kept | split)

theorem State.free_kept {κ : Keep} {s : State} (hk : Kept κ s) :
    Kept κ ((State.free s).2) := by
  unfold State.free
  (try simp only [])
  with_reducible repeat' (first | exact hk | split | fail_if_no_progress apply Kept.rest)

theorem State.updPrin_kept {κ : Keep} {s : State} {p : Nat} {f : PrinLink → PrinLink} (hk : Kept κ s) :
    Kept κ (State.updPrin s p f) := by
  unfold State.updPrin
  (try simp only [])
  with_reducible repeat' (first | exact hk | exact id | exact (modAt_length _ _ _).trans | split | fail_if_no_progress apply Kept.rest | apply Kept.links_)

theorem State.updLane_kept {κ : Keep} {s : State} {l : Nat} {f : LaneState → LaneState} (hk : Kept κ s) :
    Kept κ (State.updLane s l f) := by
  unfold State.updLane
  (try simp only [])
  with_reducible repeat' (first | exact hk | exact id | exact (modAt_length _ _ _).trans | split | fail_if_no_progress apply Kept.rest | apply Kept.links_)

theorem State.raise_kept {κ : Keep} {s : State} {m : FaultMsg} (hk : Kept κ s) :
    Kept κ (State.raise s m) := by
  unfold State.raise
  (try simp only [])
  with_reducible repeat' (first | exact hk | split | fail_if_no_progress apply Kept.rest)

theorem State.endReport_kept {κ : Keep} {s : State} {m : FaultMsg} (hk : Kept κ s) :
    Kept κ (State.endReport s m) := by
  unfold State.endReport
  (try simp only [])
  with_reducible repeat' (first | exact hk | split | fail_if_no_progress apply Kept.rest)

theorem State.pushItem_kept {κ : Keep} {s : State} {p : Nat} {readyAt : Option Nat} {it : Item} (hk : Kept κ s) :
    Kept κ (State.pushItem s p readyAt it) := by
  unfold State.pushItem
  (try simp only [])
  with_reducible repeat' (first | exact hk | apply State.updPrin_kept | (rename_i e; refine pair_snd e ?_) | (rename_i e; refine pair_fst e ?_) | (rename_i e; refine pair_trd e ?_) | split | fail_if_no_progress apply Kept.rest)

theorem State.endFlight_kept {κ : Keep} {s : State} {p cseq : Nat} (hk : Kept κ s) :
    Kept κ (State.endFlight s p cseq) := by
  unfold State.endFlight
  (try simp only [])
  with_reducible repeat' (first | exact hk | exact id | split | fail_if_no_progress apply Kept.rest | apply Kept.sched_)

theorem State.answerAt_kept {κ : Keep} {s : State} {r : Nat} {h : CmdHead} {opcode status : Nat} {body : List Nat} (hk : Kept κ s) :
    Kept κ (State.answerAt s r h opcode status body) := by
  unfold State.answerAt
  (try simp only [])
  with_reducible repeat' (first | exact hk | apply State.endFlight_kept | apply State.pushItem_kept | apply State.raise_kept | apply State.bump_kept | apply ite_kept | (rename_i e; refine pair_snd e ?_) | (rename_i e; refine pair_fst e ?_) | (rename_i e; refine pair_trd e ?_) | split | fail_if_no_progress apply Kept.rest)

theorem State.answer_kept {κ : Keep} {s : State} {h : CmdHead} {opcode status : Nat} {body : List Nat } (hk : Kept κ s) :
    Kept κ (State.answer s h opcode status body) := by
  unfold State.answer
  (try simp only [])
  with_reducible repeat' (first | exact hk | apply State.answerAt_kept | split)

theorem State.notice_kept {κ : Keep} {s : State} {p code status cseq : Nat} {body : List Nat} (hk : Kept κ s) :
    Kept κ (State.notice s p code status cseq body) := by
  unfold State.notice
  (try simp only [])
  with_reducible repeat' (first | exact hk | apply State.updPrin_kept | split | fail_if_no_progress apply Kept.rest)

theorem State.alert_kept {κ : Keep} {s : State} {cause : Nat} (hk : Kept κ s) :
    Kept κ (State.alert s cause) := by
  unfold State.alert
  (try simp only [])
  with_reducible repeat' (first | exact hk | apply ite_kept | split | fail_if_no_progress apply Kept.rest)

theorem State.alertState_kept {κ : Keep} {s : State} (hk : Kept κ s) :
    Kept κ (State.alertState s) := by
  unfold State.alertState
  (try simp only [])
  with_reducible repeat' (first | exact hk | apply State.alert_kept | split)

end Sys2Proof.Machine
end

