-- ==== Sys2Proof/Laws/KeptFaults.lean ====
section
/-! SUPPORT. Laws/KeptFaults.lean: every operation of Machine/Faults.lean keeps the invariants of the state (Laws/Kept.lean). -/

set_option linter.all false
set_option Elab.async false

namespace Sys2Proof.Machine

open Sys2Proof

theorem State.addReactions_kept {κ : Keep} {s : State} {l : List Reaction} (hk : Kept κ s) :
    Kept κ (State.addReactions s l) := by
  unfold State.addReactions
  (try simp only [])
  with_reducible repeat' (first | exact hk | split | fail_if_no_progress apply Kept.rest)

theorem State.fenceAt_kept {κ : Keep} {s : State} {phi : Nat} {p : Plane} {auto : Bool} (hk : Kept κ s) :
    Kept κ (State.fenceAt s phi p auto) := by
  unfold State.fenceAt
  (try simp only [])
  with_reducible repeat' (first | exact hk | split | fail_if_no_progress apply Kept.rest)

theorem State.dueFence_kept {κ : Keep} {s : State} {p : Plane} {auto : Bool} (hk : Kept κ s) :
    Kept κ (State.dueFence s p auto) := by
  unfold State.dueFence
  (try simp only [])
  with_reducible repeat' (first | exact hk | apply State.fenceAt_kept | split)

theorem State.fenceMisc_kept {κ : Keep} {s : State} {b : Nat} (hk : Kept κ s) :
    Kept κ (State.fenceMisc s b) := by
  unfold State.fenceMisc
  (try simp only [])
  with_reducible repeat' (first | exact hk | exact id | apply State.setWord_kept | split)

theorem State.dueResort_kept {κ : Keep} {s : State} (hk : Kept κ s) :
    Kept κ (State.dueResort s) := by
  unfold State.dueResort
  (try simp only [])
  with_reducible repeat' (first | exact hk | apply ite_kept | split | fail_if_no_progress apply Kept.rest)

theorem State.reactUnit_kept {κ : Keep} {s : State} {m : FaultMsg} {sev : Nat} {common : Bool} (hk : Kept κ s) :
    Kept κ (State.reactUnit s m sev common) := by
  unfold State.reactUnit
  (try simp only [])
  with_reducible repeat' (first | exact hk | apply State.fenceMisc_kept | apply State.addReactions_kept | apply ite_kept | split | fail_if_no_progress apply Kept.rest)

theorem State.react_kept {κ : Keep} {s : State} {m : FaultMsg} {sev : Nat} {common : Bool} (hk : Kept κ s) :
    Kept κ (State.react s m sev common) := by
  unfold State.react
  (try simp only [])
  with_reducible repeat' (first | exact hk | apply State.reactUnit_kept | apply State.dueResort_kept | apply State.dueFence_kept | apply ite_kept | (rename_i e; refine pair_snd e ?_) | (rename_i e; refine pair_fst e ?_) | (rename_i e; refine pair_trd e ?_) | split)

theorem State.sbFault_kept {κ : Keep} {s : State} {w : Nat} (hk : Kept κ s) :
    Kept κ (State.sbFault s w) := by
  unfold State.sbFault
  (try simp only [])
  with_reducible repeat' (first | exact hk | apply State.bump_kept | apply ite_kept | split | fail_if_no_progress apply Kept.rest)

theorem State.tellRecord_kept {κ : Keep} {s : State} {r : FaultRec} (hk : Kept κ s) :
    Kept κ (State.tellRecord s r) := by
  unfold State.tellRecord
  (try simp only [])
  with_reducible repeat' (first | exact hk | exact id | apply State.sbFault_kept | apply State.notice_kept | refine State.over_kept (fun _ _ hk => ?_) ?_ | split | fail_if_no_progress apply Kept.rest)

theorem State.setLast_kept {κ : Keep} {s : State} {r : FaultRec} (hk : Kept κ s) :
    Kept κ (State.setLast s r) := by
  unfold State.setLast
  (try simp only [])
  with_reducible repeat' (first | exact hk | split | fail_if_no_progress apply Kept.rest)

theorem State.takeMsg_kept {κ : Keep} {s : State} {simultaneous : Bool} {x : FaultMsg × Nat × Bool} (hk : Kept κ s) :
    Kept κ (State.takeMsg s simultaneous x) := by
  unfold State.takeMsg
  (try simp only [])
  with_reducible repeat' (first | exact hk | apply State.setLast_kept | apply State.tellRecord_kept | apply State.react_kept | apply State.notice_kept | apply State.bump_kept | apply ite_kept | (rename_i e; refine pair_snd e ?_) | (rename_i e; refine pair_fst e ?_) | (rename_i e; refine pair_trd e ?_) | split | fail_if_no_progress apply Kept.rest)

theorem State.faultRound_kept {κ : Keep} {s : State} (hk : Kept κ s) :
    Kept κ (State.faultRound s) := by
  unfold State.faultRound
  (try simp only [])
  with_reducible repeat' (first | exact hk | exact id | apply State.takeMsg_kept | refine State.over_kept (fun _ _ hk => ?_) ?_ | apply ite_kept | split | fail_if_no_progress apply Kept.rest)

theorem State.offerFaults_kept {κ : Keep} {s : State} (hk : Kept κ s) :
    Kept κ (State.offerFaults s) := by
  unfold State.offerFaults
  (try simp only [])
  with_reducible repeat' (first | exact hk | split | fail_if_no_progress apply Kept.rest)

end Sys2Proof.Machine
end

