-- ==== Sys2Proof/Laws/KeptRoute.lean ====
section
/-! SUPPORT. Laws/KeptRoute.lean: every operation of Machine/Route.lean keeps the invariants of the state (Laws/Kept.lean). -/

set_option linter.all false
set_option Elab.async false

namespace Sys2Proof.Machine

open Sys2Proof

theorem State.recordBlock_kept {κ : Keep} {s : State} {p : Nat} {b : Block} (hk : Kept κ s) :
    Kept κ (State.recordBlock s p b) := by
  unfold State.recordBlock
  (try simp only [])
  with_reducible repeat' (first | exact hk | apply State.bumpB_kept | apply State.wrB_kept | split)

theorem State.complete_kept {κ : Keep} {s : State} {p cseq : Nat} (hk : Kept κ s) :
    Kept κ (State.complete s p cseq) := by
  unfold State.complete
  (try simp only [])
  with_reducible repeat' (first | exact hk | exact id | split | fail_if_no_progress apply Kept.rest | apply Kept.sched_)

theorem State.answerRoute_kept {κ : Keep} {s : State} {r : RouteReq} {code moved first : Nat} (hk : Kept κ s) :
    Kept κ (State.answerRoute s r code moved first) := by
  unfold State.answerRoute
  (try simp only [])
  with_reducible repeat' (first | exact hk | apply State.complete_kept | apply State.answerAt_kept | apply State.free_kept | apply ite_kept | (rename_i e; refine pair_snd e ?_) | (rename_i e; refine pair_fst e ?_) | (rename_i e; refine pair_trd e ?_) | split)

theorem State.post_kept {κ : Keep} {s : State} {r : RouteReq} {at_ : Nat} {res : RouteResult} (hk : Kept κ s) :
    Kept κ (State.post s r at_ res) := by
  unfold State.post
  (try simp only [])
  with_reducible repeat' (first | exact hk | apply State.answerRoute_kept | apply State.recordBlock_kept | (rename_i e; refine pair_snd e ?_) | (rename_i e; refine pair_fst e ?_) | (rename_i e; refine pair_trd e ?_) | split | fail_if_no_progress apply Kept.rest)

theorem State.timeouts_kept {κ : Keep} {s : State} {r : RouteReq} {late : List Plane} (hk : Kept κ s) :
    Kept κ (State.timeouts s r late) := by
  unfold State.timeouts
  (try simp only [])
  with_reducible repeat' (first | exact hk | exact id | apply State.raise_kept | apply State.wrP_kept | refine State.over_kept (fun _ _ hk => ?_) ?_ | split)

theorem State.postIncremental_kept {κ : Keep} {s : State} {late : List (Nat × Nat × Plane)} {r : RouteReq} (hk : Kept κ s) :
    Kept κ (State.postIncremental s late r) := by
  unfold State.postIncremental
  (try simp only [])
  with_reducible repeat' (first | exact hk | apply State.timeouts_kept | apply State.post_kept | apply ite_kept | split)

end Sys2Proof.Machine
end

