-- ==== Sys2Proof/Laws/KeptCommit.lean ====
section
/-! SUPPORT. Laws/KeptCommit.lean: every operation of Machine/Commit.lean keeps the invariants of the state (Laws/Kept.lean). -/

set_option linter.all false
set_option Elab.async false

namespace Sys2Proof.Machine

open Sys2Proof

theorem State.updCommit_kept {κ : Keep} {s : State} {num : Nat} {f : Commit → Commit} (hk : Kept κ s) :
    Kept κ (State.updCommit s num f) := by
  unfold State.updCommit
  (try simp only [])
  with_reducible repeat' (first | exact hk | apply ite_kept | split | fail_if_no_progress apply Kept.rest)

theorem State.dropCommit_kept {κ : Keep} {s : State} {num : Nat} (hk : Kept κ s) :
    Kept κ (State.dropCommit s num) := by
  unfold State.dropCommit
  (try simp only [])
  with_reducible repeat' (first | exact hk | split | fail_if_no_progress apply Kept.rest)

theorem State.charge_kept {κ : Keep} {s : State} {x : Nat × Nat} (hk : Kept κ s) :
    Kept κ (State.charge s x) := by
  unfold State.charge
  (try simp only [])
  with_reducible repeat' (first | exact hk | exact id | apply State.bump_kept | apply State.wrS_kept | apply State.when_kept | split)

theorem State.accept_kept {κ : Keep} {s : State} {c : Commit} (hk : Kept κ s) :
    Kept κ (State.accept s c) := by
  unfold State.accept
  (try simp only [])
  with_reducible repeat' (first | exact hk | apply State.answerAt_kept | apply ite_kept | split)

theorem State.refuseCommit_kept {κ : Keep} {s : State} {c : Commit} {code : Nat} (hk : Kept κ s) :
    Kept κ (State.refuseCommit s c code) := by
  unfold State.refuseCommit
  (try simp only [])
  with_reducible repeat' (first | exact hk | apply State.dropCommit_kept | apply State.complete_kept | apply State.answerAt_kept | apply ite_kept | split | fail_if_no_progress apply Kept.rest)

theorem State.sendToken_kept {κ : Keep} {s : State} {kind p number frame : Nat} (hk : Kept κ s) :
    Kept κ (State.sendToken s kind p number frame) := by
  unfold State.sendToken
  (try simp only [])
  with_reducible repeat' (first | exact hk | split | fail_if_no_progress apply Kept.rest)

theorem State.showTokens_kept {κ : Keep} {s : State} (hk : Kept κ s) :
    Kept κ (State.showTokens s) := by
  unfold State.showTokens
  (try simp only [])
  with_reducible repeat' (first | exact hk | apply State.wr_kept | split)

theorem State.goArrives_kept {κ : Keep} {s : State} {p number f : Nat} (hk : Kept κ s) :
    Kept κ (State.goArrives s p number f) := by
  unfold State.goArrives
  (try simp only [])
  with_reducible repeat' (first | exact hk | apply State.showTokens_kept | apply State.accept_kept | apply State.updCommit_kept | apply ite_kept | (rename_i e; refine pair_snd e ?_) | (rename_i e; refine pair_fst e ?_) | (rename_i e; refine pair_trd e ?_) | split | fail_if_no_progress apply Kept.rest)

theorem State.abandonArrives_kept {κ : Keep} {s : State} {p number : Nat} (hk : Kept κ s) :
    Kept κ (State.abandonArrives s p number) := by
  unfold State.abandonArrives
  (try simp only [])
  with_reducible repeat' (first | exact hk | apply State.showTokens_kept | apply State.refuseCommit_kept | (rename_i e; refine pair_snd e ?_) | (rename_i e; refine pair_fst e ?_) | (rename_i e; refine pair_trd e ?_) | split | fail_if_no_progress apply Kept.rest)

theorem State.masterDecides_kept {κ : Keep} {s : State} {p number : Nat} (hk : Kept κ s) :
    Kept κ (State.masterDecides s p number) := by
  unfold State.masterDecides
  (try simp only [])
  with_reducible repeat' (first | exact hk | apply State.abandonArrives_kept | apply State.goArrives_kept | apply State.sendToken_kept | apply ite_kept | (rename_i e; refine pair_snd e ?_) | (rename_i e; refine pair_fst e ?_) | (rename_i e; refine pair_trd e ?_) | split | fail_if_no_progress apply Kept.rest)

theorem State.readyArrives_kept {κ : Keep} {s : State} {r : Ready} (hk : Kept κ s) :
    Kept κ (State.readyArrives s r) := by
  unfold State.readyArrives
  (try simp only [])
  with_reducible repeat' (first | exact hk | apply State.masterDecides_kept | apply ite_kept | split | fail_if_no_progress apply Kept.rest)

theorem State.fixCommit_kept {κ : Keep} {s : State} {c : Commit} {t : Nat} {tgt : Nat × Nat × Nat} {items : List PItem} (hk : Kept κ s) :
    Kept κ (State.fixCommit s c t tgt items) := by
  unfold State.fixCommit
  (try simp only [])
  with_reducible repeat' (first | exact hk | exact id | apply State.readyArrives_kept | apply State.showTokens_kept | apply State.sendToken_kept | apply State.accept_kept | apply State.charge_kept | apply State.updCommit_kept | refine State.over_kept (fun _ _ hk => ?_) ?_ | refine foldl_kept (fun _ _ hk => ?_) ?_ | refine foldl_fst_kept (fun _ _ hk => ?_) ?_ | refine foldl_snd_kept (fun _ _ hk => ?_) ?_ | apply ite_kept | exact (List.length_map _).trans | (rename_i e; refine pair_snd e ?_) | (rename_i e; refine pair_fst e ?_) | (rename_i e; refine pair_trd e ?_) | split | fail_if_no_progress apply Kept.rest)

theorem State.tryFix_kept {κ : Keep} {s : State} {earlier : List (Commit × List Nat)} {c : Commit} (hk : Kept κ s) :
    Kept κ ((State.tryFix s earlier c).1) := by
  unfold State.tryFix
  (try simp only [])
  with_reducible repeat' (first | exact hk | apply State.fixCommit_kept | apply State.refuseCommit_kept | refine foldl_kept (fun _ _ hk => ?_) ?_ | refine foldl_fst_kept (fun _ _ hk => ?_) ?_ | refine foldl_snd_kept (fun _ _ hk => ?_) ?_ | apply ite_kept | (rename_i e; refine pair_snd e ?_) | (rename_i e; refine pair_fst e ?_) | (rename_i e; refine pair_trd e ?_) | split)

theorem State.tryAll_kept {κ : Keep} {s : State} (hk : Kept κ s) :
    Kept κ (State.tryAll s) := by
  unfold State.tryAll
  (try simp only [])
  with_reducible repeat' (first | exact hk | exact id | apply State.tryFix_kept | apply State.wr_kept | refine State.over_kept (fun _ _ hk => ?_) ?_ | refine foldl_kept (fun _ _ hk => ?_) ?_ | refine foldl_fst_kept (fun _ _ hk => ?_) ?_ | refine foldl_snd_kept (fun _ _ hk => ?_) ?_ | (rename_i e; refine pair_snd e ?_) | (rename_i e; refine pair_fst e ?_) | (rename_i e; refine pair_trd e ?_) | split)

theorem State.addAlignment_kept {κ : Keep} {s : State} {cseq : Nat} (hk : Kept κ s) :
    Kept κ ((State.addAlignment s cseq).1) := by
  unfold State.addAlignment
  (try simp only [])
  with_reducible repeat' (first | exact hk | apply State.recordBlock_kept | refine foldl_kept (fun _ _ hk => ?_) ?_ | refine foldl_fst_kept (fun _ _ hk => ?_) ?_ | refine foldl_snd_kept (fun _ _ hk => ?_) ?_ | (rename_i e; refine pair_snd e ?_) | (rename_i e; refine pair_fst e ?_) | (rename_i e; refine pair_trd e ?_) | split | fail_if_no_progress apply Kept.rest)

theorem State.beginCommit_kept {κ : Keep} {s : State} {c : Commit} (hk : Kept κ s) :
    Kept κ (State.beginCommit s c) := by
  unfold State.beginCommit
  (try simp only [])
  with_reducible repeat' (first | exact hk | apply State.addAlignment_kept | apply ite_kept | (rename_i e; refine pair_snd e ?_) | (rename_i e; refine pair_fst e ?_) | (rename_i e; refine pair_trd e ?_) | split | fail_if_no_progress apply Kept.rest)

theorem State.cmdCommit_kept {κ : Keep} {s : State} {h : CmdHead} {kind chip token mask frame : Nat} (hk : Kept κ s) :
    Kept κ (State.cmdCommit s h kind chip token mask frame) := by
  unfold State.cmdCommit
  (try simp only [])
  with_reducible repeat' (first | exact hk | apply State.beginCommit_kept | apply State.complete_kept | apply State.answer_kept | apply ite_kept | split | fail_if_no_progress apply Kept.rest)

theorem State.impliedCommit_kept {κ : Keep} {s : State} {r : RouteReq} (hk : Kept κ s) :
    Kept κ (State.impliedCommit s r) := by
  unfold State.impliedCommit
  (try simp only [])
  with_reducible repeat' (first | exact hk | apply State.beginCommit_kept | split | fail_if_no_progress apply Kept.rest)

theorem State.select_kept {κ : Keep} {s : State} {phys st : Nat} (hk : Kept κ s) :
    Kept κ (State.select s phys st) := by
  unfold State.select
  (try simp only [])
  with_reducible repeat' (first | exact hk | apply State.wr_kept | split)

theorem State.applyRemaps_kept {κ : Keep} {s : State} {num : Nat} (hk : Kept κ s) :
    Kept κ (State.applyRemaps s num) := by
  unfold State.applyRemaps
  (try simp only [])
  with_reducible repeat' (first | exact hk | apply State.updCommit_kept | refine foldl_kept (fun _ _ hk => ?_) ?_ | refine foldl_fst_kept (fun _ _ hk => ?_) ?_ | refine foldl_snd_kept (fun _ _ hk => ?_) ?_ | apply ite_kept | split | fail_if_no_progress apply Kept.rest)

theorem State.switchCommit_kept {κ : Keep} {s : State} {late : List Nat} {c : Commit} (hk : Kept κ s) :
    Kept κ (State.switchCommit s late c) := by
  unfold State.switchCommit
  (try simp only [])
  with_reducible repeat' (first | exact hk | exact id | apply State.applyRemaps_kept | apply State.select_kept | apply State.updCommit_kept | apply State.bumpB_kept | apply State.wrB_kept | apply State.wr_kept | refine State.over_kept (fun _ _ hk => ?_) ?_ | refine foldl_kept (fun _ _ hk => ?_) ?_ | refine foldl_fst_kept (fun _ _ hk => ?_) ?_ | refine foldl_snd_kept (fun _ _ hk => ?_) ?_ | apply ite_kept | exact (List.length_map _).trans | (rename_i e; refine pair_snd e ?_) | (rename_i e; refine pair_fst e ?_) | (rename_i e; refine pair_trd e ?_) | split | fail_if_no_progress apply Kept.rest)

theorem State.alignCommit_kept {κ : Keep} {s : State} {num : Nat} (hk : Kept κ s) :
    Kept κ (State.alignCommit s num) := by
  unfold State.alignCommit
  (try simp only [])
  with_reducible repeat' (first | exact hk | apply ite_kept | (rename_i e; refine pair_snd e ?_) | (rename_i e; refine pair_fst e ?_) | (rename_i e; refine pair_trd e ?_) | split | fail_if_no_progress apply Kept.rest)

theorem State.commitDoneNotice_kept {κ : Keep} {s : State} {c : Commit} (hk : Kept κ s) :
    Kept κ (State.commitDoneNotice s c) := by
  unfold State.commitDoneNotice
  (try simp only [])
  with_reducible repeat' (first | exact hk | apply State.notice_kept | refine foldl_kept (fun _ _ hk => ?_) ?_ | refine foldl_fst_kept (fun _ _ hk => ?_) ?_ | refine foldl_snd_kept (fun _ _ hk => ?_) ?_ | apply ite_kept | exact fun h => by simpa using h | split)

theorem State.rearrangeNotices_kept {κ : Keep} {s : State} {c : Commit} (hk : Kept κ s) :
    Kept κ (State.rearrangeNotices s c) := by
  unfold State.rearrangeNotices
  (try simp only [])
  with_reducible repeat' (first | exact hk | exact id | apply State.notice_kept | apply State.bumpB_kept | refine State.over_kept (fun _ _ hk => ?_) ?_ | split)

theorem State.dropNotice_kept {κ : Keep} {s : State} {it : PItem} {status : Nat} (hk : Kept κ s) :
    Kept κ (State.dropNotice s it status) := by
  unfold State.dropNotice
  (try simp only [])
  with_reducible repeat' (first | exact hk | exact id | apply State.notice_kept | refine State.over_kept (fun _ _ hk => ?_) ?_ | apply ite_kept | exact (List.length_map _).trans | split)

theorem State.rerouteItems_kept {κ : Keep} {s : State} (hk : Kept κ s) :
    Kept κ (State.rerouteItems s) := by
  unfold State.rerouteItems
  (try simp only [])
  with_reducible repeat' (first | exact hk | exact id | apply State.dropNotice_kept | refine State.over_kept (fun _ _ hk => ?_) ?_ | apply ite_kept | exact (List.length_map _).trans | (rename_i e; refine pair_snd e ?_) | (rename_i e; refine pair_fst e ?_) | (rename_i e; refine pair_trd e ?_) | split | fail_if_no_progress apply Kept.rest)

theorem State.removeItems_kept {κ : Keep} {s : State} {gone : PItem → Bool} (hk : Kept κ s) :
    Kept κ (State.removeItems s gone) := by
  unfold State.removeItems
  (try simp only [])
  with_reducible repeat' (first | exact hk | apply State.rerouteItems_kept | apply ite_kept | split | fail_if_no_progress apply Kept.rest)

theorem State.rearrangeExpire_kept {κ : Keep} {s : State} (hk : Kept κ s) :
    Kept κ (State.rearrangeExpire s) := by
  unfold State.rearrangeExpire
  (try simp only [])
  with_reducible repeat' (first | exact hk | exact id | apply State.removeItems_kept | apply State.dropNotice_kept | refine State.over_kept (fun _ _ hk => ?_) ?_ | apply ite_kept | split)

theorem State.cancelCommit_kept {κ : Keep} {s : State} {c : Commit} (hk : Kept κ s) :
    Kept κ (State.cancelCommit s c) := by
  unfold State.cancelCommit
  (try simp only [])
  with_reducible repeat' (first | exact hk | apply State.removeItems_kept | apply State.showTokens_kept | apply State.dropCommit_kept | apply State.complete_kept | split | fail_if_no_progress apply Kept.rest)

theorem State.cmdAbort_kept {κ : Keep} {s : State} {h : CmdHead} {sFrame sChip : Nat} (hk : Kept κ s) :
    Kept κ (State.cmdAbort s h sFrame sChip) := by
  unfold State.cmdAbort
  (try simp only [])
  with_reducible repeat' (first | exact hk | exact id | apply State.cancelCommit_kept | apply State.removeItems_kept | apply State.complete_kept | apply State.answer_kept | refine State.over_kept (fun _ _ hk => ?_) ?_ | apply ite_kept | (rename_i e; refine pair_snd e ?_) | (rename_i e; refine pair_fst e ?_) | (rename_i e; refine pair_trd e ?_) | split)

theorem State.dropFor_kept {κ : Keep} {s : State} {p : Nat} {hit : PItem → Bool} (hk : Kept κ s) :
    Kept κ (State.dropFor s p hit) := by
  unfold State.dropFor
  (try simp only [])
  with_reducible repeat' (first | exact hk | exact id | apply State.cancelCommit_kept | apply State.removeItems_kept | apply State.dropNotice_kept | refine State.over_kept (fun _ _ hk => ?_) ?_ | split)

end Sys2Proof.Machine
end

