-- ==== Sys2Proof/Laws/KeptSense.lean ====
section
/-! SUPPORT. Laws/KeptSense.lean: every operation of Machine/Sense.lean keeps the invariants of the state (Laws/Kept.lean). -/

set_option linter.all false
set_option Elab.async false

namespace Sys2Proof.Machine

open Sys2Proof

theorem State.updSense_kept {κ : Keep} {s : State} {t : Nat} {f : TileSense → TileSense} (hk : Kept κ s) :
    Kept κ (State.updSense s t f) := by
  unfold State.updSense
  (try simp only [])
  with_reducible repeat' (first | exact hk | exact id | exact (modAt_length _ _ _).trans | split | fail_if_no_progress apply Kept.rest | apply Kept.sense_)

theorem State.takeSamples_kept {κ : Keep} {s : State} {x : FrameIn} (hk : Kept κ s) :
    Kept κ (State.takeSamples s x) := by
  unfold State.takeSamples
  (try simp only [])
  with_reducible repeat' (first | exact hk | exact id | apply State.setWord_kept | refine State.over_kept (fun _ _ hk => ?_) ?_ | apply ite_kept | exact (List.length_map _).trans | split | fail_if_no_progress apply Kept.rest | apply Kept.sense_)

theorem State.showAverages_kept {κ : Keep} {s : State} (hk : Kept κ s) :
    Kept κ (State.showAverages s) := by
  unfold State.showAverages
  (try simp only [])
  with_reducible repeat' (first | exact hk | exact id | apply State.setWord_kept | refine State.over_kept (fun _ _ hk => ?_) ?_ | split)

theorem State.logCompare_kept {κ : Keep} {s : State} {t j diff : Nat} (hk : Kept κ s) :
    Kept κ (State.logCompare s t j diff) := by
  unfold State.logCompare
  (try simp only [])
  with_reducible repeat' (first | exact hk | apply State.wr_kept | split)

theorem State.rotateTile_kept {κ : Keep} {s : State} {x : FrameIn} {t : Nat} (hk : Kept κ s) :
    Kept κ (State.rotateTile s x t) := by
  unfold State.rotateTile
  (try simp only [])
  with_reducible repeat' (first | exact hk | exact id | apply State.logCompare_kept | apply State.updSense_kept | apply State.raise_kept | apply State.bump_kept | apply State.wr_kept | apply State.when_kept | apply ite_kept | split | fail_if_no_progress apply Kept.rest)

theorem State.loseSlice_kept {κ : Keep} {s : State} {t j : Nat} (hk : Kept κ s) :
    Kept κ (State.loseSlice s t j) := by
  unfold State.loseSlice
  (try simp only [])
  with_reducible repeat' (first | exact hk | apply State.updSense_kept | apply State.raise_kept | split | fail_if_no_progress apply Kept.rest)

theorem State.spareFails_kept {κ : Keep} {s : State} {t : Nat} (hk : Kept κ s) :
    Kept κ (State.spareFails s t) := by
  unfold State.spareFails
  (try simp only [])
  with_reducible repeat' (first | exact hk | apply State.updSense_kept | apply State.wr_kept | split | fail_if_no_progress apply Kept.rest)

theorem State.unsettle_kept {κ : Keep} {s : State} {t first : Nat} (hk : Kept κ s) :
    Kept κ (State.unsettle s t first) := by
  unfold State.unsettle
  (try simp only [])
  with_reducible repeat' (first | exact hk | apply State.updSense_kept | apply State.wr_kept | split | fail_if_no_progress apply Kept.rest)

theorem State.settleRef_kept {κ : Keep} {s : State} {x : FrameIn} {t : Nat} (hk : Kept κ s) :
    Kept κ (State.settleRef s x t) := by
  unfold State.settleRef
  (try simp only [])
  with_reducible repeat' (first | exact hk | exact id | apply State.updSense_kept | apply State.endReport_kept | apply State.wr_kept | apply State.when_kept | apply ite_kept | split | fail_if_no_progress apply Kept.rest)

theorem State.refOut_kept {κ : Keep} {s : State} {t k : Nat} (hk : Kept κ s) :
    Kept κ (State.refOut s t k) := by
  unfold State.refOut
  (try simp only [])
  with_reducible repeat' (first | exact hk | apply State.unsettle_kept | apply State.wr_kept | split)

theorem State.refTimeout_kept {κ : Keep} {s : State} {t : Nat} (hk : Kept κ s) :
    Kept κ (State.refTimeout s t) := by
  unfold State.refTimeout
  (try simp only [])
  with_reducible repeat' (first | exact hk | apply State.updSense_kept | apply State.raise_kept | apply State.wr_kept | apply ite_kept | split | fail_if_no_progress apply Kept.rest)

theorem State.rampBias_kept {κ : Keep} {s : State} {t : Nat} (hk : Kept κ s) :
    Kept κ (State.rampBias s t) := by
  unfold State.rampBias
  (try simp only [])
  with_reducible repeat' (first | exact hk | apply State.wr_kept | split)

theorem State.biasLimit_kept {κ : Keep} {s : State} {t : Nat} (hk : Kept κ s) :
    Kept κ (State.biasLimit s t) := by
  unfold State.biasLimit
  (try simp only [])
  with_reducible repeat' (first | exact hk | apply State.raise_kept | apply State.wr_kept | split)

theorem State.senseBefore_kept {κ : Keep} {s : State} {x : FrameIn} (hk : Kept κ s) :
    Kept κ (State.senseBefore s x) := by
  unfold State.senseBefore
  (try simp only [])
  with_reducible repeat' (first | exact hk | exact id | apply State.rampBias_kept | apply State.rotateTile_kept | apply State.showAverages_kept | apply State.takeSamples_kept | refine State.over_kept (fun _ _ hk => ?_) ?_ | split)

theorem State.senseAfter_kept {κ : Keep} {s : State} {x : FrameIn} {oldRanges : List (Nat × Nat)} {oldRefs : List Nat} (hk : Kept κ s) :
    Kept κ (State.senseAfter s x oldRanges oldRefs) := by
  unfold State.senseAfter
  (try simp only [])
  with_reducible repeat' (first | exact hk | exact id | apply State.settleRef_kept | apply State.unsettle_kept | refine State.over_kept (fun _ _ hk => ?_) ?_ | apply ite_kept | exact (List.length_map _).trans | split | fail_if_no_progress apply Kept.rest | apply Kept.sense_)

end Sys2Proof.Machine
end

