-- ==== Sys2Proof/Laws/KeptCapture.lean ====
section
/-! SUPPORT. Laws/KeptCapture.lean: every operation of Machine/Capture.lean keeps the invariants of the state (Laws/Kept.lean). -/

set_option linter.all false
set_option Elab.async false

namespace Sys2Proof.Machine

open Sys2Proof

theorem State.setCapByte_kept {κ : Keep} {s : State} {a v : Nat} (hk : Kept κ s) :
    Kept κ (State.setCapByte s a v) := by
  unfold State.setCapByte
  (try simp only [])
  with_reducible repeat' (first | exact hk | exact id | apply ite_kept | exact (List.length_map _).trans | exact smSet_wf _ _ _ _ | split | fail_if_no_progress apply Kept.rest | apply Kept.cap_)

theorem State.setCapBytes_kept {κ : Keep} {s : State} {a : Nat} {l : List Nat} (hk : Kept κ s) : Kept κ (s.setCapBytes a l) := by
  induction l generalizing s a with
  | nil => exact hk
  | cons v vs ih => exact ih (State.setCapByte_kept hk)

theorem State.scramble_kept {κ : Keep} {s : State} {lo size : Nat} (hk : Kept κ s) :
    Kept κ (State.scramble s lo size) := by
  unfold State.scramble
  (try simp only [])
  with_reducible repeat' (first | exact hk | exact id | split | fail_if_no_progress apply Kept.rest | apply Kept.cap_)

theorem State.updChan_kept {κ : Keep} {s : State} {c : Nat} {f : ChanState → ChanState} (hk : Kept κ s) :
    Kept κ (State.updChan s c f) := by
  unfold State.updChan
  (try simp only [])
  with_reducible repeat' (first | exact hk | exact id | exact (modAt_length _ _ _).trans | split | fail_if_no_progress apply Kept.rest | apply Kept.cap_)

theorem State.startChan_kept {κ : Keep} {s : State} {c f : Nat} (hk : Kept κ s) :
    Kept κ (State.startChan s c f) := by
  unfold State.startChan
  (try simp only [])
  with_reducible repeat' (first | exact hk | apply State.updChan_kept | apply State.wr_kept | apply ite_kept | split | fail_if_no_progress apply Kept.rest)

theorem State.captureBoundary_kept {κ : Keep} {s : State} {enabled : List Nat} (hk : Kept κ s) :
    Kept κ (State.captureBoundary s enabled) := by
  unfold State.captureBoundary
  (try simp only [])
  with_reducible repeat' (first | exact hk | exact id | apply State.startChan_kept | apply State.updChan_kept | apply State.wr_kept | refine State.over_kept (fun _ _ hk => ?_) ?_ | apply State.when_kept | apply ite_kept | split | fail_if_no_progress apply Kept.rest)

theorem State.putRecord_kept {κ : Keep} {s : State} {c : Nat} {bytes : List Nat} (hk : Kept κ s) :
    Kept κ (State.putRecord s c bytes) := by
  unfold State.putRecord
  (try simp only [])
  with_reducible repeat' (first | exact hk | exact id | apply State.updChan_kept | apply State.setCapByte_kept | apply State.wr_kept | apply State.when_kept | refine foldl_kept (fun _ _ hk => ?_) ?_ | refine foldl_fst_kept (fun _ _ hk => ?_) ?_ | refine foldl_snd_kept (fun _ _ hk => ?_) ?_ | apply ite_kept | exact fun h => by simpa using h | split | fail_if_no_progress apply Kept.rest)

theorem State.watermarkNotices_kept {κ : Keep} {s : State} (hk : Kept κ s) :
    Kept κ (State.watermarkNotices s) := by
  unfold State.watermarkNotices
  (try simp only [])
  with_reducible repeat' (first | exact hk | exact id | apply State.updChan_kept | apply State.notice_kept | refine State.over_kept (fun _ _ hk => ?_) ?_ | apply ite_kept | split | fail_if_no_progress apply Kept.rest)

theorem State.writeRptr_kept {κ : Keep} {s : State} {c v : Nat} (hk : Kept κ s) :
    Kept κ (State.writeRptr s c v) := by
  unfold State.writeRptr
  (try simp only [])
  with_reducible repeat' (first | exact hk | apply State.updChan_kept | apply State.advance_kept | apply State.wr_kept | apply ite_kept | split | fail_if_no_progress apply Kept.rest)

theorem State.captureRecord_kept {κ : Keep} {s : State} {k last : Nat} {codes : List (List Nat)} (hk : Kept κ s) :
    Kept κ (State.captureRecord s k last codes) := by
  unfold State.captureRecord
  (try simp only [])
  with_reducible repeat' (first | exact hk | apply State.putRecord_kept | apply ite_kept | split)

end Sys2Proof.Machine
end

