-- ==== Sys2Proof/Laws/KeptHka.lean ====
section
/-! SUPPORT. Laws/KeptHka.lean: every operation of Machine/Hka.lean keeps the invariants of the state (Laws/Kept.lean). -/

set_option linter.all false
set_option Elab.async false

namespace Sys2Proof.Machine

open Sys2Proof

theorem State.setHka_kept {κ : Keep} {s : State} {f : Hka → Hka} (hk : Kept κ s) :
    Kept κ (State.setHka s f) := by
  unfold State.setHka
  (try simp only [])
  with_reducible repeat' (first | exact hk | split | fail_if_no_progress apply Kept.rest)

theorem State.hkaPop_kept {κ : Keep} {s : State} (hk : Kept κ s) :
    Kept κ (State.hkaPop s) := by
  unfold State.hkaPop
  (try simp only [])
  with_reducible repeat' (first | exact hk | apply State.setHka_kept | split | fail_if_no_progress apply Kept.rest)

theorem State.inject_kept {κ : Keep} {s : State} {channel tag : Nat} {head : Option CmdHead} (hk : Kept κ s) :
    Kept κ ((State.inject s channel tag head).1) := by
  unfold State.inject
  (try simp only [])
  with_reducible repeat' (first | exact hk | apply State.setHka_kept | apply State.bump_kept | apply ite_kept | split | fail_if_no_progress apply Kept.rest)

theorem State.cmdInject_kept {κ : Keep} {s : State} {h : CmdHead} {channel tag : Nat} (hk : Kept κ s) :
    Kept κ (State.cmdInject s h channel tag) := by
  unfold State.cmdInject
  (try simp only [])
  with_reducible repeat' (first | exact hk | apply State.inject_kept | apply State.answer_kept | apply ite_kept | (rename_i e; refine pair_snd e ?_) | (rename_i e; refine pair_fst e ?_) | (rename_i e; refine pair_trd e ?_) | split)

theorem State.requestHkaCal_kept {κ : Keep} {s : State} (hk : Kept κ s) :
    Kept κ (State.requestHkaCal s) := by
  unfold State.requestHkaCal
  (try simp only [])
  with_reducible repeat' (first | exact hk | apply State.setHka_kept | apply ite_kept | split | fail_if_no_progress apply Kept.rest)

theorem State.setRefin_kept {κ : Keep} {s : State} (hk : Kept κ s) :
    Kept κ (State.setRefin s) := by
  unfold State.setRefin
  (try simp only [])
  with_reducible repeat' (first | exact hk | apply State.wr_kept | split)

theorem State.setRext_kept {κ : Keep} {s : State} {ok : Bool} (hk : Kept κ s) :
    Kept κ (State.setRext s ok) := by
  unfold State.setRext
  (try simp only [])
  with_reducible repeat' (first | exact hk | apply State.endReport_kept | apply State.raise_kept | apply State.wr_kept | apply ite_kept | split | fail_if_no_progress apply Kept.rest)

theorem State.hkaResult_kept {κ : Keep} {s : State} {c code : Nat} (hk : Kept κ s) :
    Kept κ (State.hkaResult s c code) := by
  unfold State.hkaResult
  (try simp only [])
  with_reducible repeat' (first | exact hk | exact id | apply State.setRext_kept | apply State.setRefin_kept | apply State.setHka_kept | apply State.endReport_kept | apply State.raise_kept | apply State.setWord_kept | apply ite_kept | split | fail_if_no_progress apply Kept.rest)

theorem State.roundSlot_kept {κ : Keep} {s : State} {code : Nat} (hk : Kept κ s) :
    Kept κ (State.roundSlot s code) := by
  unfold State.roundSlot
  (try simp only [])
  with_reducible repeat' (first | exact hk | apply State.hkaResult_kept | apply State.setHka_kept | apply ite_kept | split | fail_if_no_progress apply Kept.rest)

theorem State.interruptGroup_kept {κ : Keep} {s : State} (hk : Kept κ s) :
    Kept κ (State.interruptGroup s) := by
  unfold State.interruptGroup
  (try simp only [])
  with_reducible repeat' (first | exact hk | apply State.setHka_kept | apply ite_kept | split | fail_if_no_progress apply Kept.rest)

theorem State.hkaNewRound_kept {κ : Keep} {s : State} (hk : Kept κ s) :
    Kept κ (State.hkaNewRound s) := by
  unfold State.hkaNewRound
  (try simp only [])
  with_reducible repeat' (first | exact hk | exact id | apply State.setHka_kept | apply State.bump_kept | apply State.wr_kept | refine State.over_kept (fun _ _ hk => ?_) ?_ | split | fail_if_no_progress apply Kept.rest)

theorem State.hkaFrame_kept {κ : Keep} {s : State} (hk : Kept κ s) :
    Kept κ (State.hkaFrame s) := by
  unfold State.hkaFrame
  (try simp only [])
  with_reducible repeat' (first | exact hk | apply State.hkaNewRound_kept | apply State.setHka_kept | apply ite_kept | split | fail_if_no_progress apply Kept.rest)

theorem State.injectionSlot_kept {κ : Keep} {s : State} {inj : HkaInj} {code : Nat} (hk : Kept κ s) :
    Kept κ (State.injectionSlot s inj code) := by
  unfold State.injectionSlot
  (try simp only [])
  with_reducible repeat' (first | exact hk | apply State.interruptGroup_kept | apply State.setHka_kept | apply State.answer_kept | apply ite_kept | (rename_i e; refine pair_snd e ?_) | (rename_i e; refine pair_fst e ?_) | (rename_i e; refine pair_trd e ?_) | split | fail_if_no_progress apply Kept.rest)

theorem State.hkaCalEnd_kept {κ : Keep} {s : State} {ofs gain : Int} (hk : Kept κ s) :
    Kept κ (State.hkaCalEnd s ofs gain) := by
  unfold State.hkaCalEnd
  (try simp only [])
  with_reducible repeat' (first | exact hk | apply State.setRext_kept | apply State.setHka_kept | apply State.raise_kept | apply State.wrS_kept | apply State.wr_kept | apply ite_kept | split | fail_if_no_progress apply Kept.rest)

theorem State.calSlot_kept {κ : Keep} {s : State} {code : Nat} {ofs gain : Int} (hk : Kept κ s) :
    Kept κ (State.calSlot s code ofs gain) := by
  unfold State.calSlot
  (try simp only [])
  with_reducible repeat' (first | exact hk | apply State.hkaCalEnd_kept | apply State.interruptGroup_kept | apply State.setHka_kept | apply ite_kept | split | fail_if_no_progress apply Kept.rest)

theorem State.hkaTrims_kept {κ : Keep} {s : State} (hk : Kept κ s) :
    Kept κ (State.hkaTrims s) := by
  unfold State.hkaTrims
  (try simp only [])
  with_reducible repeat' (first | exact hk | exact id | apply State.setHka_kept | apply State.advance_kept | apply State.wrS_kept | apply State.wr_kept | apply State.when_kept | (rename_i e; refine pair_snd e ?_) | (rename_i e; refine pair_fst e ?_) | (rename_i e; refine pair_trd e ?_) | split | fail_if_no_progress apply Kept.rest)

theorem State.hkaSlot_kept {κ : Keep} {s : State} {k code : Nat} {ofs gain : Int} (hk : Kept κ s) :
    Kept κ (State.hkaSlot s k code ofs gain) := by
  unfold State.hkaSlot
  (try simp only [])
  with_reducible repeat' (first | exact hk | exact id | apply State.calSlot_kept | apply State.injectionSlot_kept | apply State.roundSlot_kept | apply State.setHka_kept | apply ite_kept | (rename_i e; refine pair_snd e ?_) | (rename_i e; refine pair_fst e ?_) | (rename_i e; refine pair_trd e ?_) | split | fail_if_no_progress apply Kept.rest | apply Kept.cal_)

end Sys2Proof.Machine
end

