-- ==== Sys2Proof/Laws/KeptDither.lean ====
section
/-! SUPPORT. Laws/KeptDither.lean: every operation of Machine/Dither.lean keeps the invariants of the state (Laws/Kept.lean). -/

set_option linter.all false
set_option Elab.async false

namespace Sys2Proof.Machine

open Sys2Proof

theorem State.setCx_kept {κ : Keep} {s : State} {f : Nat → FieldAt} {n v : Nat} (hk : Kept κ s) :
    Kept κ (State.setCx s f n v) := by
  unfold State.setCx
  (try simp only [])
  with_reducible repeat' (first | exact hk | apply State.wrB_kept | split)

theorem State.loadAmps_kept {κ : Keep} {s : State} {m : Mode} (hk : Kept κ s) :
    Kept κ (State.loadAmps s m) := by
  unfold State.loadAmps
  (try simp only [])
  with_reducible repeat' (first | exact hk | exact id | apply State.wr_kept | refine State.over_kept (fun _ _ hk => ?_) ?_ | split)

theorem State.setSlots_kept {κ : Keep} {s : State} {l : List SlotHist} (hk : Kept κ s) :
    Kept κ (State.setSlots s l) := by
  unfold State.setSlots
  (try simp only [])
  with_reducible repeat' (first | exact hk | split | fail_if_no_progress apply Kept.rest)

theorem State.bind_kept {κ : Keep} {s : State} {n slot : Nat} {lent : Bool} (hk : Kept κ s) :
    Kept κ (State.bind s n slot lent) := by
  unfold State.bind
  (try simp only [])
  with_reducible repeat' (first | exact hk | apply State.setSlots_kept | split)

theorem State.unbind_kept {κ : Keep} {s : State} (hk : Kept κ s) :
    Kept κ (State.unbind s) := by
  unfold State.unbind
  (try simp only [])
  with_reducible repeat' (first | exact hk | apply State.setSlots_kept | split)

theorem State.reclaim_kept {κ : Keep} {s : State} {borrower : Nat} (hk : Kept κ s) :
    Kept κ (State.reclaim s borrower) := by
  unfold State.reclaim
  (try simp only [])
  with_reducible repeat' (first | exact hk | apply State.setCx_kept | apply ite_kept | split)

theorem State.bindSlots_kept {κ : Keep} {s : State} (hk : Kept κ s) :
    Kept κ (State.bindSlots s) := by
  unfold State.bindSlots
  (try simp only [])
  with_reducible repeat' (first | exact hk | exact id | apply State.reclaim_kept | apply State.unbind_kept | apply State.bind_kept | apply State.setCx_kept | refine State.over_kept (fun _ _ hk => ?_) ?_ | apply State.when_kept | apply ite_kept | (rename_i e; refine pair_snd e ?_) | (rename_i e; refine pair_fst e ?_) | (rename_i e; refine pair_trd e ?_) | split)

theorem State.clearChanged_kept {κ : Keep} {s : State} (hk : Kept κ s) :
    Kept κ (State.clearChanged s) := by
  unfold State.clearChanged
  (try simp only [])
  with_reducible repeat' (first | exact hk | apply State.setSlots_kept | apply ite_kept | split | fail_if_no_progress apply Kept.rest)

theorem State.clearSlots_kept {κ : Keep} {s : State} {l : List Nat} (hk : Kept κ s) :
    Kept κ (State.clearSlots s l) := by
  unfold State.clearSlots
  (try simp only [])
  with_reducible repeat' (first | exact hk | apply State.setSlots_kept | apply ite_kept | split | fail_if_no_progress apply Kept.rest)

theorem State.pushSums_kept {κ : Keep} {s : State} (hk : Kept κ s) :
    Kept κ (State.pushSums s) := by
  unfold State.pushSums
  (try simp only [])
  with_reducible repeat' (first | exact hk | split | fail_if_no_progress apply Kept.rest)

theorem State.showWords_kept {κ : Keep} {s : State} {before : List SlotHist} (hk : Kept κ s) :
    Kept κ (State.showWords s before) := by
  unfold State.showWords
  (try simp only [])
  with_reducible repeat' (first | exact hk | exact id | apply State.setWord_kept | refine State.over_kept (fun _ _ hk => ?_) ?_ | split)

theorem State.corrResidue_kept {κ : Keep} {s : State} {t slot : Nat} (hk : Kept κ s) :
    Kept κ (State.corrResidue s t slot) := by
  unfold State.corrResidue
  (try simp only [])
  with_reducible repeat' (first | exact hk | apply State.raise_kept | apply State.wr_kept | split | fail_if_no_progress apply Kept.rest)

theorem State.dropExactOnly_kept {κ : Keep} {s : State} (hk : Kept κ s) :
    Kept κ (State.dropExactOnly s) := by
  unfold State.dropExactOnly
  (try simp only [])
  with_reducible repeat' (first | exact hk | exact id | apply State.setCx_kept | refine State.over_kept (fun _ _ hk => ?_) ?_ | split)

end Sys2Proof.Machine
end

