-- ==== Sys2Proof/Laws/KeptStencil.lean ====
section
/-! SUPPORT. Laws/KeptStencil.lean: every operation of Machine/Stencil.lean keeps the invariants of the state (Laws/Kept.lean). -/

set_option linter.all false
set_option Elab.async false

namespace Sys2Proof.Machine

open Sys2Proof

theorem State.updGen_kept {κ : Keep} {s : State} {i : Nat} {f : Gen → Gen} (hk : Kept κ s) :
    Kept κ (State.updGen s i f) := by
  unfold State.updGen
  (try simp only [])
  with_reducible repeat' (first | exact hk | exact id | exact (modAt_length _ _ _).trans | split | fail_if_no_progress apply Kept.rest | apply Kept.gens_)

theorem State.stopGen_kept {κ : Keep} {s : State} {i cause : Nat} (hk : Kept κ s) :
    Kept κ (State.stopGen s i cause) := by
  unfold State.stopGen
  (try simp only [])
  with_reducible repeat' (first | exact hk | apply State.updGen_kept | split | fail_if_no_progress apply Kept.rest)

theorem State.startGen_kept {κ : Keep} {s : State} {i a : Nat} (hk : Kept κ s) :
    Kept κ (State.startGen s i a) := by
  unfold State.startGen
  (try simp only [])
  with_reducible repeat' (first | exact hk | apply State.updGen_kept | apply State.wrP_kept | split | fail_if_no_progress apply Kept.rest)

theorem State.trigger_kept {κ : Keep} {s : State} {i a : Nat} (hk : Kept κ s) :
    Kept κ (State.trigger s i a) := by
  unfold State.trigger
  (try simp only [])
  with_reducible repeat' (first | exact hk | apply State.startGen_kept | apply State.wrP_kept | apply ite_kept | split)

theorem State.armGen_kept {κ : Keep} {s : State} {i : Nat} (hk : Kept κ s) :
    Kept κ (State.armGen s i) := by
  unfold State.armGen
  (try simp only [])
  with_reducible repeat' (first | exact hk | apply State.updGen_kept | apply ite_kept | split | fail_if_no_progress apply Kept.rest)

theorem State.commandTrigger_kept {κ : Keep} {s : State} {i : Nat} (hk : Kept κ s) :
    Kept κ (State.commandTrigger s i) := by
  unfold State.commandTrigger
  (try simp only [])
  with_reducible repeat' (first | exact hk | apply State.trigger_kept | apply State.wrP_kept | apply ite_kept | split)

theorem State.haltGen_kept {κ : Keep} {s : State} {i : Nat} (hk : Kept κ s) :
    Kept κ (State.haltGen s i) := by
  unfold State.haltGen
  (try simp only [])
  with_reducible repeat' (first | exact hk | apply State.stopGen_kept | apply State.updGen_kept | apply ite_kept | split | fail_if_no_progress apply Kept.rest)

theorem State.evtEdge_kept {κ : Keep} {s : State} {evt : Nat} {rising : Bool} (hk : Kept κ s) :
    Kept κ (State.evtEdge s evt rising) := by
  unfold State.evtEdge
  (try simp only [])
  with_reducible repeat' (first | exact hk | exact id | apply State.trigger_kept | refine State.over_kept (fun _ _ hk => ?_) ?_ | apply ite_kept | split)

theorem State.frameTrigger_kept {κ : Keep} {s : State} {i : Nat} (hk : Kept κ s) :
    Kept κ (State.frameTrigger s i) := by
  unfold State.frameTrigger
  (try simp only [])
  with_reducible repeat' (first | exact hk | apply State.startGen_kept | apply ite_kept | split)

theorem State.latchStreams_kept {κ : Keep} {s : State} (hk : Kept κ s) :
    Kept κ (State.latchStreams s) := by
  unfold State.latchStreams
  (try simp only [])
  with_reducible repeat' (first | exact hk | exact id | apply State.updGen_kept | apply State.wrPS_kept | refine State.over_kept (fun _ _ hk => ?_) ?_ | apply ite_kept | split | fail_if_no_progress apply Kept.rest)

theorem State.showNative_kept {κ : Keep} {s : State} {i : Nat} (hk : Kept κ s) :
    Kept κ (State.showNative s i) := by
  unfold State.showNative
  (try simp only [])
  with_reducible repeat' (first | exact hk | apply State.wrPS_kept | split)

theorem State.runOp_kept {κ : Keep} {s : State} {i op : Nat} {f : Nat → Gen → Gen} (hk : Kept κ s) :
    Kept κ (State.runOp s i op f) := by
  unfold State.runOp
  (try simp only [])
  with_reducible repeat' (first | exact hk | apply State.showNative_kept | apply State.updGen_kept | apply ite_kept | split)

theorem State.genBr_kept {κ : Keep} {s : State} {i : Nat} (hk : Kept κ s) :
    Kept κ (State.genBr s i) := by
  unfold State.genBr
  (try simp only [])
  with_reducible repeat' (first | exact hk | apply State.updGen_kept | apply ite_kept | (rename_i e; refine pair_snd e ?_) | (rename_i e; refine pair_fst e ?_) | (rename_i e; refine pair_trd e ?_) | split)

theorem State.genWait_kept {κ : Keep} {s : State} {i : Nat} (hk : Kept κ s) :
    Kept κ (State.genWait s i) := by
  unfold State.genWait
  (try simp only [])
  with_reducible repeat' (first | exact hk | apply State.showNative_kept | apply State.updGen_kept | apply ite_kept | (rename_i e; refine pair_snd e ?_) | (rename_i e; refine pair_fst e ?_) | (rename_i e; refine pair_trd e ?_) | split)

theorem State.genStop_kept {κ : Keep} {s : State} {i : Nat} (hk : Kept κ s) :
    Kept κ (State.genStop s i) := by
  unfold State.genStop
  (try simp only [])
  with_reducible repeat' (first | exact hk | apply State.stopGen_kept | apply ite_kept | split)

theorem State.genIllegal_kept {κ : Keep} {s : State} {i : Nat} (hk : Kept κ s) :
    Kept κ (State.genIllegal s i) := by
  unfold State.genIllegal
  (try simp only [])
  with_reducible repeat' (first | exact hk | apply State.stopGen_kept | apply State.raise_kept | apply ite_kept | split | fail_if_no_progress apply Kept.rest)

theorem State.genRunaway_kept {κ : Keep} {s : State} {i : Nat} (hk : Kept κ s) :
    Kept κ (State.genRunaway s i) := by
  unfold State.genRunaway
  (try simp only [])
  with_reducible repeat' (first | exact hk | apply State.stopGen_kept | apply State.raise_kept | apply ite_kept | split | fail_if_no_progress apply Kept.rest)

theorem State.mtStart_kept {κ : Keep} {s : State} {p : Plane} {noReturn restored : Bool} (hk : Kept κ s) :
    Kept κ (State.mtStart s p noReturn restored) := by
  unfold State.mtStart
  (try simp only [])
  with_reducible repeat' (first | exact hk | exact id | apply State.updGen_kept | apply State.wrP_kept | apply State.setWordP_kept | apply ite_kept | split | fail_if_no_progress apply Kept.rest)

theorem State.mtLeaves_kept {κ : Keep} {s : State} {p : Plane} (hk : Kept κ s) :
    Kept κ (State.mtLeaves s p) := by
  unfold State.mtLeaves
  (try simp only [])
  with_reducible repeat' (first | exact hk | apply State.scramble_kept | apply ite_kept | split)

theorem State.mtEnd_kept {κ : Keep} {s : State} {p : Plane} (hk : Kept κ s) :
    Kept κ (State.mtEnd s p) := by
  unfold State.mtEnd
  (try simp only [])
  with_reducible repeat' (first | exact hk | apply State.mtLeaves_kept | apply State.updGen_kept | apply State.wrP_kept | split | fail_if_no_progress apply Kept.rest)

theorem State.mtAbort_kept {κ : Keep} {s : State} {p : Plane} (hk : Kept κ s) :
    Kept κ (State.mtAbort s p) := by
  unfold State.mtAbort
  (try simp only [])
  with_reducible repeat' (first | exact hk | apply State.mtEnd_kept | apply State.wrP_kept | apply ite_kept | split)

theorem State.mtDone_kept {κ : Keep} {s : State} {p : Plane} {fails addr element diff check : Nat} (hk : Kept κ s) :
    Kept κ (State.mtDone s p fails addr element diff check) := by
  unfold State.mtDone
  (try simp only [])
  with_reducible repeat' (first | exact hk | exact id | apply State.mtEnd_kept | apply State.raise_kept | apply State.wrP_kept | apply State.setWordP_kept | apply ite_kept | split | fail_if_no_progress apply Kept.rest)

end Sys2Proof.Machine
end

