-- ==== Sys2Proof/Laws/KeptLoop.lean ====
section
/-! SUPPORT. Laws/KeptLoop.lean: every operation of Machine/Loop.lean keeps the invariants of the state (Laws/Kept.lean). -/

set_option linter.all false
set_option Elab.async false

namespace Sys2Proof.Machine

open Sys2Proof

theorem State.setLoop_kept {κ : Keep} {s : State} {f : Loop → Loop} (hk : Kept κ s) :
    Kept κ (State.setLoop s f) := by
  unfold State.setLoop
  (try simp only [])
  with_reducible repeat' (first | exact hk | split | fail_if_no_progress apply Kept.rest)

theorem State.due_kept {κ : Keep} {s : State} {n : Nat} {e : LoopEvent} (hk : Kept κ s) :
    Kept κ (State.due s n e) := by
  unfold State.due
  (try simp only [])
  with_reducible repeat' (first | exact hk | apply State.setLoop_kept | split | fail_if_no_progress apply Kept.rest)

theorem State.suspectOn_kept {κ : Keep} {s : State} {n : Nat} (hk : Kept κ s) :
    Kept κ (State.suspectOn s n) := by
  unfold State.suspectOn
  (try simp only [])
  with_reducible repeat' (first | exact hk | apply State.setLoop_kept | split | fail_if_no_progress apply Kept.rest)

theorem State.resumeCheck_kept {κ : Keep} {s : State} {n : Nat} (hk : Kept κ s) :
    Kept κ (State.resumeCheck s n) := by
  unfold State.resumeCheck
  (try simp only [])
  with_reducible repeat' (first | exact hk | apply State.due_kept | apply State.setCx_kept | apply ite_kept | split)

theorem State.energyTests_kept {κ : Keep} {s : State} {n : Nat} {x : FbWord} (hk : Kept κ s) :
    Kept κ ((State.energyTests s n x).1) := by
  unfold State.energyTests
  (try simp only [])
  with_reducible repeat' (first | exact hk | exact id | apply State.due_kept | apply State.setCx_kept | apply ite_kept | split)

theorem State.validate_kept {κ : Keep} {s : State} {n : Nat} (hk : Kept κ s) :
    Kept κ (State.validate s n) := by
  unfold State.validate
  (try simp only [])
  with_reducible repeat' (first | exact hk | exact id | apply State.energyTests_kept | apply State.resumeCheck_kept | apply State.suspectOn_kept | apply State.due_kept | apply State.setCx_kept | apply State.when_kept | apply ite_kept | (rename_i e; refine pair_snd e ?_) | (rename_i e; refine pair_fst e ?_) | (rename_i e; refine pair_trd e ?_) | split)

theorem State.validityPass_kept {κ : Keep} {s : State} (hk : Kept κ s) :
    Kept κ (State.validityPass s) := by
  unfold State.validityPass
  (try simp only [])
  with_reducible repeat' (first | exact hk | exact id | apply State.validate_kept | apply State.due_kept | apply State.setLoop_kept | refine State.over_kept (fun _ _ hk => ?_) ?_ | apply ite_kept | split | fail_if_no_progress apply Kept.rest)

theorem State.holdCtx_kept {κ : Keep} {s : State} {n cause : Nat} (hk : Kept κ s) :
    Kept κ (State.holdCtx s n cause) := by
  unfold State.holdCtx
  (try simp only [])
  with_reducible repeat' (first | exact hk | apply State.setCx_kept | apply ite_kept | split)

theorem State.takeDue_kept {κ : Keep} {s : State} {n : Nat} {e : LoopEvent} {f : State → State} (hf : ∀ s, Kept κ s → Kept κ (f s)) (hk : Kept κ s) :
    Kept κ (State.takeDue s n e f) := by
  unfold State.takeDue
  split
  · exact hf _ (State.setLoop_kept hk)
  · exact hk

theorem State.feedbackLost_kept {κ : Keep} {s : State} {n : Nat} (hk : Kept κ s) :
    Kept κ (State.feedbackLost s n) := by
  unfold State.feedbackLost
  (try simp only [])
  with_reducible repeat' (first | exact hk | refine State.takeDue_kept (fun _ hk => ?_) ?_ | apply State.holdCtx_kept | apply State.raise_kept | apply State.bump_kept | split)

theorem State.feedbackFrozen_kept {κ : Keep} {s : State} {n : Nat} (hk : Kept κ s) :
    Kept κ (State.feedbackFrozen s n) := by
  unfold State.feedbackFrozen
  (try simp only [])
  with_reducible repeat' (first | exact hk | refine State.takeDue_kept (fun _ hk => ?_) ?_ | apply State.holdCtx_kept | apply State.raise_kept | apply State.bump_kept | split)

theorem State.inputInvalid_kept {κ : Keep} {s : State} {n : Nat} (hk : Kept κ s) :
    Kept κ (State.inputInvalid s n) := by
  unfold State.inputInvalid
  (try simp only [])
  with_reducible repeat' (first | exact hk | refine State.takeDue_kept (fun _ hk => ?_) ?_ | apply State.holdCtx_kept | apply State.raise_kept | split)

theorem State.feedbackOverload_kept {κ : Keep} {s : State} {n : Nat} (hk : Kept κ s) :
    Kept κ (State.feedbackOverload s n) := by
  unfold State.feedbackOverload
  (try simp only [])
  with_reducible repeat' (first | exact hk | refine State.takeDue_kept (fun _ hk => ?_) ?_ | apply State.raise_kept | split)

theorem State.following_kept {κ : Keep} {s : State} {n : Nat} (hk : Kept κ s) :
    Kept κ (State.following s n) := by
  unfold State.following
  (try simp only [])
  with_reducible repeat' (first | exact hk | refine State.takeDue_kept (fun _ hk => ?_) ?_ | apply State.holdCtx_kept | apply State.raise_kept | apply ite_kept | split)

theorem State.autoResume_kept {κ : Keep} {s : State} {n : Nat} (hk : Kept κ s) :
    Kept κ (State.autoResume s n) := by
  unfold State.autoResume
  (try simp only [])
  with_reducible repeat' (first | exact hk | refine State.takeDue_kept (fun _ hk => ?_) ?_ | apply State.setCx_kept | split)

theorem State.latchSpp_kept {κ : Keep} {s : State} {x : FrameIn} {old : List Nat} (hk : Kept κ s) :
    Kept κ (State.latchSpp s x old) := by
  unfold State.latchSpp
  (try simp only [])
  with_reducible repeat' (first | exact hk | exact id | apply State.setLoop_kept | apply State.setWord_kept | refine State.over_kept (fun _ _ hk => ?_) ?_ | apply ite_kept | exact (modAt_length _ _ _).trans | exact (List.length_map _).trans | split | fail_if_no_progress apply Kept.rest)

theorem State.latchSpa_kept {κ : Keep} {s : State} (hk : Kept κ s) :
    Kept κ (State.latchSpa s) := by
  unfold State.latchSpa
  (try simp only [])
  with_reducible repeat' (first | exact hk | apply State.setLoop_kept | split | fail_if_no_progress apply Kept.rest)

theorem State.store_kept {κ : Keep} {s : State} {x : Upd} (hk : Kept κ s) :
    Kept κ (State.store s x) := by
  unfold State.store
  (try simp only [])
  with_reducible repeat' (first | exact hk | apply State.setCx_kept | apply ite_kept | split)

theorem State.completeFrame_kept {κ : Keep} {s : State} {overran : List Nat} (hk : Kept κ s) :
    Kept κ (State.completeFrame s overran) := by
  unfold State.completeFrame
  (try simp only [])
  with_reducible repeat' (first | exact hk | apply State.following_kept | apply State.due_kept | apply State.setLoop_kept | apply ite_kept | split | fail_if_no_progress apply Kept.rest)

theorem State.releaseFrame_kept {κ : Keep} {s : State} (hk : Kept κ s) :
    Kept κ (State.releaseFrame s) := by
  unfold State.releaseFrame
  (try simp only [])
  with_reducible repeat' (first | exact hk | exact id | apply State.store_kept | apply State.setLoop_kept | apply State.putRecord_kept | refine State.over_kept (fun _ _ hk => ?_) ?_ | split | fail_if_no_progress apply Kept.rest)

theorem State.sleepCtx_kept {κ : Keep} {s : State} {n : Nat} (hk : Kept κ s) :
    Kept κ (State.sleepCtx s n) := by
  unfold State.sleepCtx
  (try simp only [])
  with_reducible repeat' (first | exact hk | apply State.setCx_kept | apply ite_kept | split)

theorem State.wakeCtx_kept {κ : Keep} {s : State} {n : Nat} (hk : Kept κ s) :
    Kept κ (State.wakeCtx s n) := by
  unfold State.wakeCtx
  (try simp only [])
  with_reducible repeat' (first | exact hk | apply State.setCx_kept | apply ite_kept | split)

theorem State.exchange_kept {κ : Keep} {s : State} {n : Nat} (hk : Kept κ s) :
    Kept κ (State.exchange s n) := by
  unfold State.exchange
  (try simp only [])
  with_reducible repeat' (first | exact hk | apply State.setCx_kept | apply ite_kept | split)

theorem State.selectSp_kept {κ : Keep} {s : State} {n sel : Nat} (hk : Kept κ s) :
    Kept κ (State.selectSp s n sel) := by
  unfold State.selectSp
  (try simp only [])
  with_reducible repeat' (first | exact hk | apply State.exchange_kept | apply State.setCx_kept | apply ite_kept | split)

theorem State.wakeCell_kept {κ : Keep} {s : State} {r : CellRec} {st : Nat} (hk : Kept κ s) :
    Kept κ (State.wakeCell s r st) := by
  unfold State.wakeCell
  (try simp only [])
  with_reducible repeat' (first | exact hk | apply State.selectSp_kept | apply State.wakeCtx_kept | apply State.sleepCtx_kept | apply ite_kept | split)

theorem State.commitBs_kept {κ : Keep} {s : State} {c : Commit} {tiles : Nat → Bool} (hk : Kept κ s) :
    Kept κ (State.commitBs s c tiles) := by
  unfold State.commitBs
  (try simp only [])
  with_reducible repeat' (first | exact hk | exact id | apply State.wakeCell_kept | apply State.selectSp_kept | apply State.wakeCtx_kept | apply State.sleepCtx_kept | apply State.setCx_kept | apply State.wrS_kept | refine State.over_kept (fun _ _ hk => ?_) ?_ | apply ite_kept | split)

theorem State.allBs_kept {κ : Keep} {s : State} (hk : Kept κ s) :
    Kept κ (State.allBs s) := by
  unfold State.allBs
  (try simp only [])
  with_reducible repeat' (first | exact hk | exact id | apply State.commitBs_kept | apply State.setLoop_kept | apply State.applyRemaps_kept | apply State.updCommit_kept | refine State.over_kept (fun _ _ hk => ?_) ?_ | apply ite_kept | exact (List.length_map _).trans | (rename_i e; refine pair_snd e ?_) | (rename_i e; refine pair_fst e ?_) | (rename_i e; refine pair_trd e ?_) | split | fail_if_no_progress apply Kept.rest)

theorem State.endBlanking_kept {κ : Keep} {s : State} (hk : Kept κ s) :
    Kept κ (State.endBlanking s) := by
  unfold State.endBlanking
  (try simp only [])
  with_reducible repeat' (first | exact hk | apply State.setLoop_kept | apply State.clearSlots_kept | split | fail_if_no_progress apply Kept.rest)

theorem State.putState_kept {κ : Keep} {s : State} {n st cause : Nat} (hk : Kept κ s) :
    Kept κ (State.putState s n st cause) := by
  unfold State.putState
  (try simp only [])
  with_reducible repeat' (first | exact hk | apply State.setCx_kept | split)

theorem State.activate_kept {κ : Keep} {s : State} {n : Nat} (hk : Kept κ s) :
    Kept κ (State.activate s n) := by
  unfold State.activate
  (try simp only [])
  with_reducible repeat' (first | exact hk | apply State.putState_kept | apply State.setCx_kept | apply ite_kept | split)

theorem State.applyRequest_kept {κ : Keep} {s : State} {n want : Nat} (hk : Kept κ s) :
    Kept κ (State.applyRequest s n want) := by
  unfold State.applyRequest
  (try simp only [])
  with_reducible repeat' (first | exact hk | apply State.activate_kept | apply State.putState_kept | apply State.setCx_kept | apply ite_kept | (rename_i e; refine pair_snd e ?_) | (rename_i e; refine pair_fst e ?_) | (rename_i e; refine pair_trd e ?_) | split)

theorem State.decideRequests_kept {κ : Keep} {s : State} {n : Nat} {reqs : List StateReq} (hk : Kept κ s) :
    Kept κ (State.decideRequests s n reqs) := by
  unfold State.decideRequests
  (try simp only [])
  with_reducible repeat' (first | exact hk | exact id | apply State.applyRequest_kept | apply State.answerAt_kept | apply State.wrB_kept | refine State.over_kept (fun _ _ hk => ?_) ?_ | apply ite_kept | (rename_i e; refine pair_snd e ?_) | (rename_i e; refine pair_fst e ?_) | (rename_i e; refine pair_trd e ?_) | split)

theorem State.applyRequests_kept {κ : Keep} {s : State} (hk : Kept κ s) :
    Kept κ (State.applyRequests s) := by
  unfold State.applyRequests
  (try simp only [])
  with_reducible repeat' (first | exact hk | exact id | apply State.decideRequests_kept | apply State.setLoop_kept | refine State.over_kept (fun _ _ hk => ?_) ?_ | exact (List.length_map _).trans | split | fail_if_no_progress apply Kept.rest)

theorem State.request_kept {κ : Keep} {s : State} {r : StateReq} (hk : Kept κ s) :
    Kept κ (State.request s r) := by
  unfold State.request
  (try simp only [])
  with_reducible repeat' (first | exact hk | apply State.setLoop_kept | split | fail_if_no_progress apply Kept.rest)

theorem State.fenceCtx_kept {κ : Keep} {s : State} {n cause : Nat} (hk : Kept κ s) :
    Kept κ (State.fenceCtx s n cause) := by
  unfold State.fenceCtx
  (try simp only [])
  with_reducible repeat' (first | exact hk | apply State.putState_kept | apply ite_kept | split)

theorem State.afterWrites_kept {κ : Keep} {s : State} {before : List (Nat × List Nat × Nat)} {tables : List (Nat × Nat)} (hk : Kept κ s) :
    Kept κ (State.afterWrites s before tables) := by
  unfold State.afterWrites
  (try simp only [])
  with_reducible repeat' (first | exact hk | exact id | apply State.exchange_kept | apply State.setCx_kept | refine State.over_kept (fun _ _ hk => ?_) ?_ | apply ite_kept | split)

theorem State.noteExpress_kept {κ : Keep} {s : State} {chip : Nat} {x : Upd} (hk : Kept κ s) :
    Kept κ (State.noteExpress s chip x) := by
  unfold State.noteExpress
  (try simp only [])
  with_reducible repeat' (first | exact hk | apply State.following_kept | apply State.due_kept | apply State.setLoop_kept | apply ite_kept | (rename_i e; refine pair_snd e ?_) | (rename_i e; refine pair_fst e ?_) | (rename_i e; refine pair_trd e ?_) | split | fail_if_no_progress apply Kept.rest)

theorem State.chipRecords_kept {κ : Keep} {s : State} {n chip : Nat} {codes : List Nat} {r : Option Upd} (hk : Kept κ s) :
    Kept κ (State.chipRecords s n chip codes r) := by
  unfold State.chipRecords
  (try simp only [])
  with_reducible repeat' (first | exact hk | exact id | apply State.putRecord_kept | refine State.over_kept (fun _ _ hk => ?_) ?_ | apply ite_kept | split)

theorem State.expressOverrun_kept {κ : Keep} {s : State} {n chip : Nat} (hk : Kept κ s) :
    Kept κ (State.expressOverrun s n chip) := by
  unfold State.expressOverrun
  (try simp only [])
  with_reducible repeat' (first | exact hk | apply State.setLoop_kept | apply State.bump_kept | apply ite_kept | split | fail_if_no_progress apply Kept.rest)

theorem State.noteMargin_kept {κ : Keep} {s : State} {t m : Nat} (hk : Kept κ s) :
    Kept κ (State.noteMargin s t m) := by
  unfold State.noteMargin
  (try simp only [])
  with_reducible repeat' (first | exact hk | apply State.setLoop_kept | apply State.wr_kept | split | fail_if_no_progress apply Kept.rest)

theorem State.endMarginWindow_kept {κ : Keep} {s : State} (hk : Kept κ s) :
    Kept κ (State.endMarginWindow s) := by
  unfold State.endMarginWindow
  (try simp only [])
  with_reducible repeat' (first | exact hk | exact id | apply State.setLoop_kept | apply State.wr_kept | refine State.over_kept (fun _ _ hk => ?_) ?_ | apply ite_kept | split | fail_if_no_progress apply Kept.rest)

theorem State.storeEcc_kept {κ : Keep} {s : State} {p : Plane} {t ix : Nat} {double : Bool} (hk : Kept κ s) :
    Kept κ (State.storeEcc s p t ix double) := by
  unfold State.storeEcc
  (try simp only [])
  with_reducible repeat' (first | exact hk | apply State.raise_kept | apply State.wrP_kept | apply ite_kept | split)

theorem State.refreshMiss_kept {κ : Keep} {s : State} {p : Plane} {t : Nat} (hk : Kept κ s) :
    Kept κ (State.refreshMiss s p t) := by
  unfold State.refreshMiss
  (try simp only [])
  with_reducible repeat' (first | exact hk | apply State.raise_kept | apply State.wrP_kept | split)

end Sys2Proof.Machine
end

