-- ==== Sys2Proof/Laws/KeptActuator.lean ====
section
/-! SUPPORT. Laws/KeptActuator.lean: every operation of Machine/Actuator.lean keeps the invariants of the state (Laws/Kept.lean). -/

set_option linter.all false
set_option Elab.async false

namespace Sys2Proof.Machine

open Sys2Proof

theorem State.updTile_kept {κ : Keep} {s : State} {t : Nat} {f : ActTile → ActTile} (hk : Kept κ s) :
    Kept κ (State.updTile s t f) := by
  unfold State.updTile
  (try simp only [])
  with_reducible repeat' (first | exact hk | exact id | apply State.setAct_kept | exact (modAt_length _ _ _).trans | split | fail_if_no_progress apply Kept.rest)

theorem State.putChan_kept {κ : Keep} {s : State} {c : HtrChan} (hk : Kept κ s) :
    Kept κ (State.putChan s c) := by
  unfold State.putChan
  (try simp only [])
  with_reducible repeat' (first | exact hk | exact id | apply State.setAct_kept | split | fail_if_no_progress apply Kept.rest)

theorem State.updHtr_kept {κ : Keep} {s : State} {h : Nat} {f : HtrChan → HtrChan} (hk : Kept κ s) :
    Kept κ (State.updHtr s h f) := by
  unfold State.updHtr
  (try simp only [])
  with_reducible repeat' (first | exact hk | apply State.putChan_kept | split)

theorem State.latchHtr_kept {κ : Keep} {s : State} {h : Nat} {on : Bool} (hk : Kept κ s) :
    Kept κ (State.latchHtr s h on) := by
  unfold State.latchHtr
  (try simp only [])
  with_reducible repeat' (first | exact hk | apply State.wr_kept | apply ite_kept | split)

theorem State.latchFd_kept {κ : Keep} {s : State} {d : Nat} {on : Bool} (hk : Kept κ s) :
    Kept κ (State.latchFd s d on) := by
  unfold State.latchFd
  (try simp only [])
  with_reducible repeat' (first | exact hk | apply State.wr_kept | apply ite_kept | split)

theorem State.frameStatus_kept {κ : Keep} {s : State} {pins : List HeaterPin} {h : Nat} (hk : Kept κ s) :
    Kept κ (State.frameStatus s pins h) := by
  unfold State.frameStatus
  (try simp only [])
  with_reducible repeat' (first | exact hk | exact id | apply State.putChan_kept | apply State.due_kept | apply State.endReport_kept | apply State.wr_kept | apply State.setAct_kept | apply ite_kept | split | fail_if_no_progress apply Kept.rest)

theorem State.allStatus_kept {κ : Keep} {s : State} {pins : List HeaterPin} (hk : Kept κ s) :
    Kept κ (State.allStatus s pins) := by
  unfold State.allStatus
  (try simp only [])
  with_reducible repeat' (first | exact hk | exact id | apply State.frameStatus_kept | refine State.over_kept (fun _ _ hk => ?_) ?_ | exact (List.length_map _).trans | split)

theorem State.takeActDue_kept {κ : Keep} {s : State} {k h : Nat} {f : State → State} (hf : ∀ s, Kept κ s → Kept κ (f s)) (hk : Kept κ s) :
    Kept κ (State.takeActDue s k h f) := by
  unfold State.takeActDue
  split
  · exact hf _ (State.setAct_kept hk id)
  · exact hk

theorem State.heaterOpen_kept {κ : Keep} {s : State} {h : Nat} (hk : Kept κ s) :
    Kept κ (State.heaterOpen s h) := by
  unfold State.heaterOpen
  (try simp only [])
  with_reducible repeat' (first | exact hk | refine State.takeActDue_kept (fun _ hk => ?_) ?_ | apply State.raise_kept | split)

theorem State.heaterShort_kept {κ : Keep} {s : State} {h : Nat} (hk : Kept κ s) :
    Kept κ (State.heaterShort s h) := by
  unfold State.heaterShort
  (try simp only [])
  with_reducible repeat' (first | exact hk | refine State.takeActDue_kept (fun _ hk => ?_) ?_ | apply State.updHtr_kept | apply State.raise_kept | split | fail_if_no_progress apply Kept.rest)

theorem State.heaterLoad_kept {κ : Keep} {s : State} {h : Nat} (hk : Kept κ s) :
    Kept κ (State.heaterLoad s h) := by
  unfold State.heaterLoad
  (try simp only [])
  with_reducible repeat' (first | exact hk | refine State.takeActDue_kept (fun _ hk => ?_) ?_ | apply State.updHtr_kept | apply State.raise_kept | split | fail_if_no_progress apply Kept.rest)

theorem State.driverOverload_kept {κ : Keep} {s : State} {d : Nat} (hk : Kept κ s) :
    Kept κ (State.driverOverload s d) := by
  unfold State.driverOverload
  (try simp only [])
  with_reducible repeat' (first | exact hk | apply State.latchFd_kept | apply State.raise_kept | apply ite_kept | split)

theorem State.applyLatches_kept {κ : Keep} {s : State} (hk : Kept κ s) :
    Kept κ (State.applyLatches s) := by
  unfold State.applyLatches
  (try simp only [])
  with_reducible repeat' (first | exact hk | exact id | apply State.latchFd_kept | apply State.latchHtr_kept | apply State.updHtr_kept | apply State.setAct_kept | refine State.over_kept (fun _ _ hk => ?_) ?_ | (rename_i e; refine pair_snd e ?_) | (rename_i e; refine pair_fst e ?_) | (rename_i e; refine pair_trd e ?_) | split | fail_if_no_progress apply Kept.rest)

theorem State.noteMode_kept {κ : Keep} {s : State} {h : Nat} (hk : Kept κ s) :
    Kept κ (State.noteMode s h) := by
  unfold State.noteMode
  (try simp only [])
  with_reducible repeat' (first | exact hk | apply State.putChan_kept | split)

theorem State.applyModes_kept {κ : Keep} {s : State} (hk : Kept κ s) :
    Kept κ (State.applyModes s) := by
  unfold State.applyModes
  (try simp only [])
  with_reducible repeat' (first | exact hk | exact id | apply State.putChan_kept | apply State.setWord_kept | refine State.over_kept (fun _ _ hk => ?_) ?_ | apply ite_kept | split | fail_if_no_progress apply Kept.rest)

theorem State.applyTrims_kept {κ : Keep} {s : State} {changed : List Nat} (hk : Kept κ s) :
    Kept κ (State.applyTrims s changed) := by
  unfold State.applyTrims
  (try simp only [])
  with_reducible repeat' (first | exact hk | exact id | apply State.updHtr_kept | apply State.putChan_kept | refine State.over_kept (fun _ _ hk => ?_) ?_ | split | fail_if_no_progress apply Kept.rest)

theorem State.trimApply_kept {κ : Keep} {s : State} {h : Nat} (hk : Kept κ s) :
    Kept κ (State.trimApply s h) := by
  unfold State.trimApply
  (try simp only [])
  with_reducible repeat' (first | exact hk | apply State.updHtr_kept | apply ite_kept | split | fail_if_no_progress apply Kept.rest)

theorem State.latchFenced_kept {κ : Keep} {s : State} (hk : Kept κ s) :
    Kept κ (State.latchFenced s) := by
  unfold State.latchFenced
  (try simp only [])
  with_reducible repeat' (first | exact hk | apply State.setLoop_kept | split | fail_if_no_progress apply Kept.rest)

theorem State.showHtr_kept {κ : Keep} {s : State} {r : HtrRel} (hk : Kept κ s) :
    Kept κ (State.showHtr s r) := by
  unfold State.showHtr
  (try simp only [])
  with_reducible repeat' (first | exact hk | apply State.putChan_kept | apply State.wr_kept | apply ite_kept | (rename_i e; refine pair_snd e ?_) | (rename_i e; refine pair_fst e ?_) | (rename_i e; refine pair_trd e ?_) | split | fail_if_no_progress apply Kept.rest)

theorem State.markReleased_kept {κ : Keep} {s : State} (hk : Kept κ s) :
    Kept κ (State.markReleased s) := by
  unfold State.markReleased
  (try simp only [])
  with_reducible repeat' (first | exact hk | exact id | apply State.updHtr_kept | refine State.over_kept (fun _ _ hk => ?_) ?_ | apply ite_kept | exact (List.length_map _).trans | split | fail_if_no_progress apply Kept.rest)

theorem State.envelope_kept {κ : Keep} {s : State} {t : Nat} {clipped scaled devScaled : Bool} (hk : Kept κ s) :
    Kept κ (State.envelope s t clipped scaled devScaled) := by
  unfold State.envelope
  (try simp only [])
  with_reducible repeat' (first | exact hk | exact id | apply State.updTile_kept | apply State.raise_kept | apply State.bump_kept | apply State.when_kept | apply ite_kept | (rename_i e; refine pair_snd e ?_) | (rename_i e; refine pair_fst e ?_) | (rename_i e; refine pair_trd e ?_) | split | fail_if_no_progress apply Kept.rest)

theorem State.putLevel_kept {κ : Keep} {s : State} {l : LevelState} (hk : Kept κ s) :
    Kept κ (State.putLevel s l) := by
  unfold State.putLevel
  (try simp only [])
  with_reducible repeat' (first | exact hk | exact id | apply State.setAct_kept | split | fail_if_no_progress apply Kept.rest)

theorem State.releaseLevel_kept {κ : Keep} {s : State} {k : Nat} (hk : Kept κ s) :
    Kept κ ((State.releaseLevel s k).1) := by
  unfold State.releaseLevel
  (try simp only [])
  with_reducible repeat' (first | exact hk | apply State.putLevel_kept | apply State.wr_kept | (rename_i e; refine pair_snd e ?_) | (rename_i e; refine pair_fst e ?_) | (rename_i e; refine pair_trd e ?_) | split | fail_if_no_progress apply Kept.rest)

theorem State.releaseLevels_kept {κ : Keep} {s : State} (hk : Kept κ s) :
    Kept κ ((State.releaseLevels s).1) := by
  unfold State.releaseLevels
  (try simp only [])
  with_reducible repeat' (first | exact hk | exact id | apply State.releaseLevel_kept | refine foldl_kept (fun _ _ hk => ?_) ?_ | refine foldl_fst_kept (fun _ _ hk => ?_) ?_ | refine foldl_snd_kept (fun _ _ hk => ?_) ?_ | apply ite_kept | exact (List.length_map _).trans | (rename_i e; refine pair_snd e ?_) | (rename_i e; refine pair_fst e ?_) | (rename_i e; refine pair_trd e ?_) | split)

theorem State.releaseOutputs_kept {κ : Keep} {s : State} (hk : Kept κ s) :
    Kept κ (State.releaseOutputs s) := by
  unfold State.releaseOutputs
  (try simp only [])
  with_reducible repeat' (first | exact hk | exact id | apply State.releaseLevels_kept | apply State.envelope_kept | apply State.markReleased_kept | apply State.showHtr_kept | apply State.wr_kept | apply State.setAct_kept | refine State.over_kept (fun _ _ hk => ?_) ?_ | apply State.when_kept | apply ite_kept | exact (List.length_map _).trans | (rename_i e; refine pair_snd e ?_) | (rename_i e; refine pair_fst e ?_) | (rename_i e; refine pair_trd e ?_) | split | fail_if_no_progress apply Kept.rest)

theorem State.countEmphasis_kept {κ : Keep} {s : State} {before : State} {cells : List (Nat × Nat)} (hk : Kept κ s) :
    Kept κ (State.countEmphasis s before cells) := by
  unfold State.countEmphasis
  (try simp only [])
  with_reducible repeat' (first | exact hk | exact id | apply State.bump_kept | refine State.over_kept (fun _ _ hk => ?_) ?_ | apply ite_kept | (rename_i e; refine pair_snd e ?_) | (rename_i e; refine pair_fst e ?_) | (rename_i e; refine pair_trd e ?_) | split)

theorem State.handshakes_kept {κ : Keep} {s : State} {missed : List Nat} (hk : Kept κ s) :
    Kept κ (State.handshakes s missed) := by
  unfold State.handshakes
  (try simp only [])
  with_reducible repeat' (first | exact hk | exact id | apply State.updTile_kept | apply State.endReport_kept | refine State.over_kept (fun _ _ hk => ?_) ?_ | apply State.when_kept | apply ite_kept | split | fail_if_no_progress apply Kept.rest)

theorem State.starvation_kept {κ : Keep} {s : State} {t : Nat} (hk : Kept κ s) :
    Kept κ (State.starvation s t) := by
  unfold State.starvation
  (try simp only [])
  with_reducible repeat' (first | exact hk | apply State.updTile_kept | apply State.raise_kept | apply State.wr_kept | apply ite_kept | split | fail_if_no_progress apply Kept.rest)

theorem State.guardIntegrity_kept {κ : Keep} {s : State} {t : Nat} (hk : Kept κ s) :
    Kept κ (State.guardIntegrity s t) := by
  unfold State.guardIntegrity
  (try simp only [])
  with_reducible repeat' (first | exact hk | apply State.updTile_kept | apply State.raise_kept | split | fail_if_no_progress apply Kept.rest)

theorem State.applyPrimer_kept {κ : Keep} {s : State} (hk : Kept κ s) :
    Kept κ (State.applyPrimer s) := by
  unfold State.applyPrimer
  (try simp only [])
  with_reducible repeat' (first | exact hk | exact id | apply State.updTile_kept | apply State.setCx_kept | apply State.wr_kept | refine State.over_kept (fun _ _ hk => ?_) ?_ | apply ite_kept | split | fail_if_no_progress apply Kept.rest)

theorem State.cmdPrimerApply_kept {κ : Keep} {s : State} {h : CmdHead} {tiles : Nat} (hk : Kept κ s) :
    Kept κ (State.cmdPrimerApply s h tiles) := by
  unfold State.cmdPrimerApply
  (try simp only [])
  with_reducible repeat' (first | exact hk | exact id | apply State.updTile_kept | apply State.answer_kept | refine State.over_kept (fun _ _ hk => ?_) ?_ | split | fail_if_no_progress apply Kept.rest)

theorem State.cmdTileResume_kept {κ : Keep} {s : State} {h : CmdHead} {tiles : Nat} (hk : Kept κ s) :
    Kept κ (State.cmdTileResume s h tiles) := by
  unfold State.cmdTileResume
  (try simp only [])
  with_reducible repeat' (first | exact hk | exact id | apply State.updTile_kept | apply State.answer_kept | refine State.over_kept (fun _ _ hk => ?_) ?_ | apply ite_kept | split | fail_if_no_progress apply Kept.rest)

theorem State.brokenNotice_kept {κ : Keep} {s : State} {x : Nat × Nat} (hk : Kept κ s) :
    Kept κ (State.brokenNotice s x) := by
  unfold State.brokenNotice
  (try simp only [])
  with_reducible repeat' (first | exact hk | exact id | apply State.notice_kept | refine State.over_kept (fun _ _ hk => ?_) ?_ | (rename_i e; refine pair_snd e ?_) | (rename_i e; refine pair_fst e ?_) | (rename_i e; refine pair_trd e ?_) | split)

theorem State.updateFailed_kept {κ : Keep} {s : State} (hk : Kept κ s) :
    Kept κ (State.updateFailed s) := by
  unfold State.updateFailed
  (try simp only [])
  with_reducible repeat' (first | exact hk | exact id | apply State.brokenNotice_kept | refine State.over_kept (fun _ _ hk => ?_) ?_ | apply ite_kept | exact (List.length_map _).trans | split | fail_if_no_progress apply Kept.rest)

end Sys2Proof.Machine
end

