-- ==== Sys2Proof/Laws/KeptCalibration.lean ====
section
/-! SUPPORT. Laws/KeptCalibration.lean: every operation of Machine/Calibration.lean keeps the invariants of the state (Laws/Kept.lean). -/

set_option linter.all false
set_option Elab.async false

namespace Sys2Proof.Machine

open Sys2Proof

theorem State.updCal_kept {κ : Keep} {s : State} {t : Nat} {f : TileCal → TileCal} (hk : Kept κ s) :
    Kept κ (State.updCal s t f) := by
  unfold State.updCal
  (try simp only [])
  with_reducible repeat' (first | exact hk | exact id | exact (modAt_length _ _ _).trans | split | fail_if_no_progress apply Kept.rest | apply Kept.cal_)

theorem State.touchCal_kept {κ : Keep} {s : State} {t : Nat} (hk : Kept κ s) :
    Kept κ (State.touchCal s t) := by
  unfold State.touchCal
  (try simp only [])
  with_reducible repeat' (first | exact hk | exact id | split | fail_if_no_progress apply Kept.rest | apply Kept.cal_)

theorem State.advanceGens_kept {κ : Keep} {s : State} (hk : Kept κ s) :
    Kept κ (State.advanceGens s) := by
  unfold State.advanceGens
  (try simp only [])
  with_reducible repeat' (first | exact hk | exact id | apply State.advance_kept | refine State.over_kept (fun _ _ hk => ?_) ?_ | split | fail_if_no_progress apply Kept.rest | apply Kept.cal_)

theorem State.calFails_kept {κ : Keep} {s : State} {t item : Nat} {fail : FieldAt} {inRun : Bool} (hk : Kept κ s) :
    Kept κ (State.calFails s t item fail inRun) := by
  unfold State.calFails
  (try simp only [])
  with_reducible repeat' (first | exact hk | exact id | apply State.raise_kept | apply State.bump_kept | apply State.wr_kept | apply State.when_kept | split)

theorem State.hostCal_kept {κ : Keep} {s : State} {t item : Nat} {meas : FieldAt} (hk : Kept κ s) :
    Kept κ (State.hostCal s t item meas) := by
  unfold State.hostCal
  (try simp only [])
  with_reducible repeat' (first | exact hk | exact id | apply State.touchCal_kept | apply State.wr_kept | split | fail_if_no_progress apply Kept.rest | apply Kept.cal_)

theorem State.discardCal_kept {κ : Keep} {s : State} {t : Nat} (hk : Kept κ s) :
    Kept κ (State.discardCal s t) := by
  unfold State.discardCal
  (try simp only [])
  with_reducible repeat' (first | exact hk | apply State.bump_kept | split)

theorem State.requestRun_kept {κ : Keep} {s : State} {t : Nat} (hk : Kept κ s) :
    Kept κ (State.requestRun s t) := by
  unfold State.requestRun
  (try simp only [])
  with_reducible repeat' (first | exact hk | apply State.updCal_kept | apply ite_kept | split | fail_if_no_progress apply Kept.rest)

theorem State.triggerRun_kept {κ : Keep} {s : State} {t : Nat} (hk : Kept κ s) :
    Kept κ (State.triggerRun s t) := by
  unfold State.triggerRun
  (try simp only [])
  with_reducible repeat' (first | exact hk | apply State.updCal_kept | apply ite_kept | split | fail_if_no_progress apply Kept.rest)

theorem State.tileRunStart_kept {κ : Keep} {s : State} {t : Nat} (hk : Kept κ s) :
    Kept κ (State.tileRunStart s t) := by
  unfold State.tileRunStart
  (try simp only [])
  with_reducible repeat' (first | exact hk | apply State.updCal_kept | apply ite_kept | split | fail_if_no_progress apply Kept.rest)

theorem State.tileRunEnd_kept {κ : Keep} {s : State} {t : Nat} (hk : Kept κ s) :
    Kept κ (State.tileRunEnd s t) := by
  unfold State.tileRunEnd
  (try simp only [])
  with_reducible repeat' (first | exact hk | apply State.updCal_kept | apply State.wrS_kept | apply ite_kept | split | fail_if_no_progress apply Kept.rest)

theorem State.calBefore_kept {κ : Keep} {s : State} (hk : Kept κ s) :
    Kept κ (State.calBefore s) := by
  unfold State.calBefore
  (try simp only [])
  with_reducible repeat' (first | exact hk | exact id | apply State.updCal_kept | refine State.over_kept (fun _ _ hk => ?_) ?_ | apply ite_kept | (rename_i e; refine pair_snd e ?_) | (rename_i e; refine pair_fst e ?_) | (rename_i e; refine pair_trd e ?_) | split | fail_if_no_progress apply Kept.rest)

theorem State.checkPrated_kept {κ : Keep} {s : State} {h : Nat} (hk : Kept κ s) :
    Kept κ (State.checkPrated s h) := by
  unfold State.checkPrated
  (try simp only [])
  with_reducible repeat' (first | exact hk | apply State.endReport_kept | apply State.raise_kept | apply State.wr_kept | apply ite_kept | split)

theorem State.calRef_kept {κ : Keep} {s : State} {t k : Nat} {values : List Int} (hk : Kept κ s) :
    Kept κ (State.calRef s t k values) := by
  unfold State.calRef
  (try simp only [])
  with_reducible repeat' (first | exact hk | apply State.discardCal_kept | apply State.calFails_kept | apply State.touchCal_kept | apply State.wrS_kept | apply State.wr_kept | apply ite_kept | (rename_i e; refine pair_snd e ?_) | (rename_i e; refine pair_fst e ?_) | (rename_i e; refine pair_trd e ?_) | split)

theorem State.calHv_kept {κ : Keep} {s : State} {t k : Nat} {gain : Bool} {values : List Int} (hk : Kept κ s) :
    Kept κ (State.calHv s t k gain values) := by
  unfold State.calHv
  (try simp only [])
  with_reducible repeat' (first | exact hk | exact id | apply State.discardCal_kept | apply State.calFails_kept | apply State.touchCal_kept | apply State.updCal_kept | apply State.wrS_kept | apply State.wr_kept | apply State.when_kept | apply ite_kept | (rename_i e; refine pair_snd e ?_) | (rename_i e; refine pair_fst e ?_) | (rename_i e; refine pair_trd e ?_) | split | fail_if_no_progress apply Kept.rest)

theorem State.putTrim_kept {κ : Keep} {s : State} {h : Nat} {v : Int} (hk : Kept κ s) :
    Kept κ (State.putTrim s h v) := by
  unfold State.putTrim
  (try simp only [])
  with_reducible repeat' (first | exact hk | apply State.touchCal_kept | apply State.updHtr_kept | apply State.wrS_kept | split | fail_if_no_progress apply Kept.rest)

theorem State.putHvOfs_kept {κ : Keep} {s : State} {h : Nat} {v : Int} (hk : Kept κ s) :
    Kept κ (State.putHvOfs s h v) := by
  unfold State.putHvOfs
  (try simp only [])
  with_reducible repeat' (first | exact hk | apply State.touchCal_kept | apply State.wrS_kept | split)

theorem State.skipChan_kept {κ : Keep} {s : State} {t c : Nat} (hk : Kept κ s) :
    Kept κ (State.skipChan s t c) := by
  unfold State.skipChan
  (try simp only [])
  with_reducible repeat' (first | exact hk | apply State.bump_kept | apply State.wr_kept | split)

theorem State.frameA_kept {κ : Keep} {s : State} {t c k : Nat} {values : List Int} (hk : Kept κ s) :
    Kept κ (State.frameA s t c k values) := by
  unfold State.frameA
  (try simp only [])
  with_reducible repeat' (first | exact hk | apply State.skipChan_kept | apply State.putHvOfs_kept | apply State.putTrim_kept | apply State.discardCal_kept | apply State.calFails_kept | apply State.updCal_kept | apply ite_kept | (rename_i e; refine pair_snd e ?_) | (rename_i e; refine pair_fst e ?_) | (rename_i e; refine pair_trd e ?_) | split | fail_if_no_progress apply Kept.rest)

theorem State.restoreTrim_kept {κ : Keep} {s : State} {h : Nat} {pdm : Bool} (hk : Kept κ s) :
    Kept κ (State.restoreTrim s h pdm) := by
  unfold State.restoreTrim
  (try simp only [])
  with_reducible repeat' (first | exact hk | apply State.putHvOfs_kept | apply State.putTrim_kept | apply ite_kept | split)

theorem State.frameB_kept {κ : Keep} {s : State} {t c k : Nat} {values : List Int} (hk : Kept κ s) :
    Kept κ (State.frameB s t c k values) := by
  unfold State.frameB
  (try simp only [])
  with_reducible repeat' (first | exact hk | apply State.restoreTrim_kept | apply State.skipChan_kept | apply State.checkPrated_kept | apply State.discardCal_kept | apply State.calFails_kept | apply State.touchCal_kept | apply State.updCal_kept | apply State.wr_kept | apply ite_kept | (rename_i e; refine pair_snd e ?_) | (rename_i e; refine pair_fst e ?_) | (rename_i e; refine pair_trd e ?_) | split | fail_if_no_progress apply Kept.rest)

theorem State.runStep_kept {κ : Keep} {s : State} {x : FrameIn} {t k n : Nat} (hk : Kept κ s) :
    Kept κ (State.runStep s x t k n) := by
  unfold State.runStep
  (try simp only [])
  with_reducible repeat' (first | exact hk | apply State.frameB_kept | apply State.frameA_kept | apply State.calHv_kept | apply State.calRef_kept | apply State.updCal_kept | apply ite_kept | split | fail_if_no_progress apply Kept.rest)

theorem State.abortRuns_kept {κ : Keep} {s : State} (hk : Kept κ s) :
    Kept κ (State.abortRuns s) := by
  unfold State.abortRuns
  (try simp only [])
  with_reducible repeat' (first | exact hk | exact id | exact (List.length_map _).trans | split | fail_if_no_progress apply Kept.rest | apply Kept.cal_)

theorem State.runsFrame_kept {κ : Keep} {s : State} {x : FrameIn} (hk : Kept κ s) :
    Kept κ (State.runsFrame s x) := by
  unfold State.runsFrame
  (try simp only [])
  with_reducible repeat' (first | exact hk | exact id | apply State.runStep_kept | apply State.updCal_kept | apply State.wr_kept | refine State.over_kept (fun _ _ hk => ?_) ?_ | apply ite_kept | (rename_i e; refine pair_snd e ?_) | (rename_i e; refine pair_fst e ?_) | (rename_i e; refine pair_trd e ?_) | split | fail_if_no_progress apply Kept.rest)

theorem State.calTriggers_kept {κ : Keep} {s : State} (hk : Kept κ s) :
    Kept κ (State.calTriggers s) := by
  unfold State.calTriggers
  (try simp only [])
  with_reducible repeat' (first | exact hk | exact id | apply State.triggerRun_kept | apply State.requestHkaCal_kept | refine State.over_kept (fun _ _ hk => ?_) ?_ | apply ite_kept | split)

theorem State.requestCals_kept {κ : Keep} {s : State} {tiles : List Nat} {hka : Bool} (hk : Kept κ s) :
    Kept κ (State.requestCals s tiles hka) := by
  unfold State.requestCals
  (try simp only [])
  with_reducible repeat' (first | exact hk | exact id | apply State.requestRun_kept | apply State.requestHkaCal_kept | refine State.over_kept (fun _ _ hk => ?_) ?_ | apply State.when_kept | split)

theorem State.sliceResult_kept {κ : Keep} {s : State} {x : FrameIn} {t : Nat} (hk : Kept κ s) :
    Kept κ (State.sliceResult s x t) := by
  unfold State.sliceResult
  (try simp only [])
  with_reducible repeat' (first | exact hk | apply State.discardCal_kept | apply State.calFails_kept | apply State.touchCal_kept | apply State.due_kept | apply State.spareFails_kept | apply State.wrS_kept | apply State.wr_kept | apply ite_kept | (rename_i e; refine pair_snd e ?_) | (rename_i e; refine pair_fst e ?_) | (rename_i e; refine pair_trd e ?_) | split)

theorem State.requestTia_kept {κ : Keep} {s : State} {t : Nat} (hk : Kept κ s) :
    Kept κ (State.requestTia s t) := by
  unfold State.requestTia
  (try simp only [])
  with_reducible repeat' (first | exact hk | apply State.updCal_kept | apply ite_kept | split | fail_if_no_progress apply Kept.rest)

theorem State.pedestal_kept {κ : Keep} {s : State} {t j k since : Nat} {values : List Int} (hk : Kept κ s) :
    Kept κ (State.pedestal s t j k since values) := by
  unfold State.pedestal
  (try simp only [])
  with_reducible repeat' (first | exact hk | exact id | apply State.discardCal_kept | apply State.calFails_kept | apply State.touchCal_kept | apply State.updCal_kept | apply State.wrS_kept | apply State.wr_kept | apply State.when_kept | apply ite_kept | (rename_i e; refine pair_snd e ?_) | (rename_i e; refine pair_fst e ?_) | (rename_i e; refine pair_trd e ?_) | split | fail_if_no_progress apply Kept.rest)

theorem State.tiaFrame_kept {κ : Keep} {s : State} {x : FrameIn} {t : Nat} (hk : Kept κ s) :
    Kept κ (State.tiaFrame s x t) := by
  unfold State.tiaFrame
  (try simp only [])
  with_reducible repeat' (first | exact hk | exact id | apply State.pedestal_kept | apply State.updCal_kept | refine State.over_kept (fun _ _ hk => ?_) ?_ | apply ite_kept | (rename_i e; refine pair_snd e ?_) | (rename_i e; refine pair_fst e ?_) | (rename_i e; refine pair_trd e ?_) | split | fail_if_no_progress apply Kept.rest)

theorem State.calFrame_kept {κ : Keep} {s : State} {x : FrameIn} (hk : Kept κ s) :
    Kept κ (State.calFrame s x) := by
  unfold State.calFrame
  (try simp only [])
  with_reducible repeat' (first | exact hk | exact id | apply State.tiaFrame_kept | apply State.sliceResult_kept | apply State.runsFrame_kept | apply State.advanceGens_kept | refine State.over_kept (fun _ _ hk => ?_) ?_ | split)

theorem State.updSweep_kept {κ : Keep} {s : State} {f : Sweep → Sweep} (hk : Kept κ s) :
    Kept κ (State.updSweep s f) := by
  unfold State.updSweep
  (try simp only [])
  with_reducible repeat' (first | exact hk | exact id | split | fail_if_no_progress apply Kept.rest | apply Kept.cal_)

theorem State.sweepStart_kept {κ : Keep} {s : State} (hk : Kept κ s) :
    Kept κ (State.sweepStart s) := by
  unfold State.sweepStart
  (try simp only [])
  with_reducible repeat' (first | exact hk | apply State.updSweep_kept | apply State.wr_kept | apply ite_kept | (rename_i e; refine pair_snd e ?_) | (rename_i e; refine pair_fst e ?_) | (rename_i e; refine pair_trd e ?_) | split | fail_if_no_progress apply Kept.rest)

theorem State.sweepAbort_kept {κ : Keep} {s : State} (hk : Kept κ s) :
    Kept κ (State.sweepAbort s) := by
  unfold State.sweepAbort
  (try simp only [])
  with_reducible repeat' (first | exact hk | apply State.updSweep_kept | apply ite_kept | split | fail_if_no_progress apply Kept.rest)

theorem State.sweepFrame_kept {κ : Keep} {s : State} (hk : Kept κ s) :
    Kept κ (State.sweepFrame s) := by
  unfold State.sweepFrame
  (try simp only [])
  with_reducible repeat' (first | exact hk | exact id | apply State.updSweep_kept | apply ite_kept | exact (List.length_map _).trans | split | fail_if_no_progress apply Kept.rest)

theorem State.sweepRecord_kept {κ : Keep} {s : State} {p : Nat} {drives : List (Nat × Nat)} (hk : Kept κ s) :
    Kept κ (State.sweepRecord s p drives) := by
  unfold State.sweepRecord
  refine State.over_kept (fun t e hk => ?_) hk
  simp only []
  split
  · exact hk
  · exact State.updSweep_kept (State.setCapBytes_kept hk)

theorem State.seedCell_kept {κ : Keep} {s : State} {kind e : Nat} (hk : Kept κ s) :
    Kept κ (State.seedCell s kind e) := by
  unfold State.seedCell
  (try simp only [])
  with_reducible repeat' (first | exact hk | exact id | apply State.setCx_kept | apply State.wr_kept | apply ite_kept | (rename_i e; refine pair_snd e ?_) | (rename_i e; refine pair_fst e ?_) | (rename_i e; refine pair_trd e ?_) | split)

theorem State.seedPort_kept {κ : Keep} {s : State} {e : Nat} {build : Bool} (hk : Kept κ s) :
    Kept κ (State.seedPort s e build) := by
  unfold State.seedPort
  (try simp only [])
  with_reducible repeat' (first | exact hk | exact id | apply State.wrB_kept | apply State.wr_kept | refine State.over_kept (fun _ _ hk => ?_) ?_ | apply ite_kept | exact fun h => by simpa using h | exact (List.length_map _).trans | split)

theorem State.seedAll_kept {κ : Keep} {s : State} (hk : Kept κ s) :
    Kept κ (State.seedAll s) := by
  unfold State.seedAll
  (try simp only [])
  with_reducible repeat' (first | exact hk | exact id | apply State.seedPort_kept | apply State.seedCell_kept | refine State.over_kept (fun _ _ hk => ?_) ?_ | apply ite_kept | split)

theorem State.sweepPoint_kept {κ : Keep} {s : State} (hk : Kept κ s) :
    Kept κ (State.sweepPoint s) := by
  unfold State.sweepPoint
  (try simp only [])
  with_reducible repeat' (first | exact hk | exact id | apply State.sweepRecord_kept | apply State.updSweep_kept | apply State.wr_kept | apply ite_kept | exact (List.length_map _).trans | (rename_i e; refine pair_snd e ?_) | (rename_i e; refine pair_fst e ?_) | (rename_i e; refine pair_trd e ?_) | split | fail_if_no_progress apply Kept.rest)

theorem State.sweepEnd_kept {κ : Keep} {s : State} (hk : Kept κ s) :
    Kept κ (State.sweepEnd s) := by
  unfold State.sweepEnd
  (try simp only [])
  with_reducible repeat' (first | exact hk | exact id | apply State.seedAll_kept | apply State.sweepRecord_kept | apply State.updSweep_kept | apply State.wr_kept | apply State.when_kept | apply ite_kept | split | fail_if_no_progress apply Kept.rest)

end Sys2Proof.Machine
end

