-- ==== Sys2Proof/Laws/KeptTime.lean ====
section
/-! SUPPORT. Laws/KeptTime.lean: every operation of Machine/Time.lean keeps the invariants of the state (Laws/Kept.lean). -/

set_option linter.all false
set_option Elab.async false

namespace Sys2Proof.Machine

open Sys2Proof

theorem State.updDomain_kept {κ : Keep} {s : State} {d : Nat} {f : Domain → Domain} (hk : Kept κ s) :
    Kept κ (State.updDomain s d f) := by
  unfold State.updDomain
  (try simp only [])
  with_reducible repeat' (first | exact hk | exact id | apply State.setTime_kept | exact (modAt_length _ _ _).trans | split | fail_if_no_progress apply Kept.rest)

theorem State.tickDomains_kept {κ : Keep} {s : State} {n : Nat} (hk : Kept κ s) :
    Kept κ (State.tickDomains s n) := by
  unfold State.tickDomains
  (try simp only [])
  with_reducible repeat' (first | exact hk | exact id | apply State.updDomain_kept | apply ite_kept | split | fail_if_no_progress apply Kept.rest)

theorem State.ticks_kept {κ : Keep} {s : State} {n : Nat} (hk : Kept κ s) :
    Kept κ (State.ticks s n) := by
  unfold State.ticks
  (try simp only [])
  with_reducible repeat' (first | exact hk | exact id | apply State.tickDomains_kept | apply State.setTime_kept | apply ite_kept | exact (List.length_map _).trans | split | fail_if_no_progress apply Kept.rest)

theorem State.timeTo_kept {κ : Keep} {s : State} {target : Nat} (hk : Kept κ s) :
    Kept κ (State.timeTo s target) := by
  unfold State.timeTo
  (try simp only [])
  with_reducible repeat' (first | exact hk | apply State.ticks_kept | split)

theorem State.ppsMarkNow_kept {κ : Keep} {s : State} (hk : Kept κ s) :
    Kept κ (State.ppsMarkNow s) := by
  unfold State.ppsMarkNow
  (try simp only [])
  with_reducible repeat' (first | exact hk | exact id | apply State.setTime_kept | split | fail_if_no_progress apply Kept.rest)

theorem State.ppsStep_kept {κ : Keep} {s : State} {k : Nat} (hk : Kept κ s) :
    Kept κ (State.ppsStep s k) := by
  unfold State.ppsStep
  (try simp only [])
  with_reducible repeat' (first | exact hk | apply State.ppsMarkNow_kept | apply ite_kept | split)

theorem State.restartHold_kept {κ : Keep} {s : State} {d : Nat} (hk : Kept κ s) :
    Kept κ (State.restartHold s d) := by
  unfold State.restartHold
  (try simp only [])
  with_reducible repeat' (first | exact hk | exact id | apply State.updDomain_kept | apply State.endReport_kept | apply State.wr_kept | apply State.when_kept | split | fail_if_no_progress apply Kept.rest)

theorem State.putIncr_kept {κ : Keep} {s : State} {d incr : Nat} (hk : Kept κ s) :
    Kept κ (State.putIncr s d incr) := by
  unfold State.putIncr
  (try simp only [])
  with_reducible repeat' (first | exact hk | apply State.wr_kept | split)

theorem State.writeRate_kept {κ : Keep} {s : State} {d incr : Nat} (hk : Kept κ s) :
    Kept κ (State.writeRate s d incr) := by
  unfold State.writeRate
  (try simp only [])
  with_reducible repeat' (first | exact hk | apply State.putIncr_kept | apply State.restartHold_kept | split)

theorem State.writeSet_kept {κ : Keep} {s : State} {d ns : Nat} (hk : Kept κ s) :
    Kept κ (State.writeSet s d ns) := by
  unfold State.writeSet
  (try simp only [])
  with_reducible repeat' (first | exact hk | apply State.ppsStep_kept | apply State.updDomain_kept | apply State.wr_kept | split | fail_if_no_progress apply Kept.rest)

theorem State.writeAdjust_kept {κ : Keep} {s : State} {d : Nat} {ns : Int} (hk : Kept κ s) :
    Kept κ (State.writeAdjust s d ns) := by
  unfold State.writeAdjust
  (try simp only [])
  with_reducible repeat' (first | exact hk | apply State.ppsStep_kept | apply State.updDomain_kept | split | fail_if_no_progress apply Kept.rest)

theorem State.captureTime_kept {κ : Keep} {s : State} (hk : Kept κ s) :
    Kept κ (State.captureTime s) := by
  unfold State.captureTime
  (try simp only [])
  with_reducible repeat' (first | exact hk | exact id | apply State.wr_kept | refine State.over_kept (fun _ _ hk => ?_) ?_ | split)

theorem State.selected_kept {κ : Keep} {s : State} {old : Nat} (hk : Kept κ s) :
    Kept κ (State.selected s old) := by
  unfold State.selected
  (try simp only [])
  with_reducible repeat' (first | exact hk | exact id | apply State.endReport_kept | apply State.raise_kept | apply State.bump_kept | apply State.when_kept | apply ite_kept | split | fail_if_no_progress apply Kept.rest)

theorem State.holdover_kept {κ : Keep} {s : State} {d : Nat} (hk : Kept κ s) :
    Kept κ (State.holdover s d) := by
  unfold State.holdover
  (try simp only [])
  with_reducible repeat' (first | exact hk | exact id | apply State.updDomain_kept | apply State.raise_kept | apply State.bump_kept | apply State.wr_kept | apply State.setTime_kept | apply ite_kept | split | fail_if_no_progress apply Kept.rest)

theorem State.autoSwitch_kept {κ : Keep} {s : State} (hk : Kept κ s) :
    Kept κ (State.autoSwitch s) := by
  unfold State.autoSwitch
  (try simp only [])
  with_reducible repeat' (first | exact hk | exact id | apply State.selected_kept | apply State.wr_kept | apply State.setTime_kept | apply ite_kept | split | fail_if_no_progress apply Kept.rest)

theorem State.fclkLock_kept {κ : Keep} {s : State} (hk : Kept κ s) :
    Kept κ (State.fclkLock s) := by
  unfold State.fclkLock
  (try simp only [])
  with_reducible repeat' (first | exact hk | exact id | apply State.endReport_kept | apply State.wr_kept | apply State.setTime_kept | apply ite_kept | split | fail_if_no_progress apply Kept.rest)

theorem State.beginGap_kept {κ : Keep} {s : State} (hk : Kept κ s) :
    Kept κ (State.beginGap s) := by
  unfold State.beginGap
  (try simp only [])
  with_reducible repeat' (first | exact hk | exact id | apply State.bump_kept | apply State.setTime_kept | split | fail_if_no_progress apply Kept.rest)

theorem State.restartFrames_kept {κ : Keep} {s : State} {n : Nat} (hk : Kept κ s) (h_clk : ∀ x, κ.clk x := by assumption) :
    Kept κ (State.restartFrames s n) := by
  unfold State.restartFrames
  (try simp only [])
  with_reducible repeat' (first | exact hk | exact h_clk | exact fun _ => h_clk _ | exact id | apply State.setTime_kept | split | fail_if_no_progress apply Kept.rest | fail_if_no_progress apply Kept.clk_)

theorem State.resumeFrames_kept {κ : Keep} {s : State} {n : Nat} (hk : Kept κ s) (h_clk : ∀ x, κ.clk x := by assumption) :
    Kept κ (State.resumeFrames s n) := by
  unfold State.resumeFrames
  (try simp only [])
  with_reducible repeat' (first | exact hk | exact h_clk | apply State.restartFrames_kept | apply State.timeTo_kept | split)

theorem State.gapEnd_kept {κ : Keep} {s : State} (hk : Kept κ s) (h_clk : ∀ x, κ.clk x := by assumption) :
    Kept κ (State.gapEnd s) := by
  unfold State.gapEnd
  (try simp only [])
  with_reducible repeat' (first | exact hk | exact h_clk | exact id | apply State.resumeFrames_kept | apply ite_kept | split)

theorem State.loadDomains_kept {κ : Keep} {s : State} {sec : Nat} (hk : Kept κ s) :
    Kept κ (State.loadDomains s sec) := by
  unfold State.loadDomains
  (try simp only [])
  with_reducible repeat' (first | exact hk | exact id | apply State.putIncr_kept | apply State.ppsMarkNow_kept | apply State.updDomain_kept | apply State.wr_kept | refine State.over_kept (fun _ _ hk => ?_) ?_ | split | fail_if_no_progress apply Kept.rest)

theorem State.loadFabric_kept {κ : Keep} {s : State} (hk : Kept κ s) (h_clk : ∀ x, κ.clk x := by assumption) :
    Kept κ (State.loadFabric s) := by
  unfold State.loadFabric
  (try simp only [])
  with_reducible repeat' (first | exact hk | exact h_clk | exact fun _ => h_clk _ | exact id | apply State.ppsStep_kept | apply State.setTime_kept | exact (List.length_map _).trans | split | fail_if_no_progress apply Kept.rest | fail_if_no_progress apply Kept.clk_)

theorem State.updSource_kept {κ : Keep} {s : State} {k : Nat} {f : TsSource → TsSource} (hk : Kept κ s) :
    Kept κ (State.updSource s k f) := by
  unfold State.updSource
  (try simp only [])
  with_reducible repeat' (first | exact hk | exact id | apply State.setTime_kept | exact (modAt_length _ _ _).trans | split | fail_if_no_progress apply Kept.rest)

theorem State.keepRecord_kept {κ : Keep} {s : State} {k kind dir : Nat} {t : Stamp} {rest : List Nat} (hk : Kept κ s) :
    Kept κ (State.keepRecord s k kind dir t rest) := by
  unfold State.keepRecord
  (try simp only [])
  with_reducible repeat' (first | exact hk | apply State.updSource_kept | apply State.bump_kept | apply ite_kept | split | fail_if_no_progress apply Kept.rest)

theorem State.tsPop_kept {κ : Keep} {s : State} {k : Nat} (hk : Kept κ s) :
    Kept κ ((State.tsPop s k).2) := by
  unfold State.tsPop
  (try simp only [])
  with_reducible repeat' (first | exact hk | apply State.updSource_kept | (rename_i e; refine pair_snd e ?_) | (rename_i e; refine pair_fst e ?_) | (rename_i e; refine pair_trd e ?_) | split | fail_if_no_progress apply Kept.rest)

theorem State.ptpEvent_kept {κ : Keep} {s : State} {lane : Nat} {udp : Bool} {version messageType domain sequence port clock : Nat} {t : Stamp} (hk : Kept κ s) :
    Kept κ (State.ptpEvent s lane udp version messageType domain sequence port clock t) := by
  unfold State.ptpEvent
  (try simp only [])
  with_reducible repeat' (first | exact hk | apply State.keepRecord_kept | apply ite_kept | split)

theorem State.ppsEdge_kept {κ : Keep} {s : State} {t : Stamp} (hk : Kept κ s) :
    Kept κ (State.ppsEdge s t) := by
  unfold State.ppsEdge
  (try simp only [])
  with_reducible repeat' (first | exact hk | exact id | apply State.keepRecord_kept | apply State.endReport_kept | apply State.setTime_kept | apply State.when_kept | apply ite_kept | split | fail_if_no_progress apply Kept.rest)

theorem State.ppsGap_kept {κ : Keep} {s : State} (hk : Kept κ s) :
    Kept κ (State.ppsGap s) := by
  unfold State.ppsGap
  (try simp only [])
  with_reducible repeat' (first | exact hk | exact id | apply State.ppsEdge_kept | apply State.raise_kept | apply State.setTime_kept | apply ite_kept | (rename_i e; refine pair_snd e ?_) | (rename_i e; refine pair_fst e ?_) | (rename_i e; refine pair_trd e ?_) | split | fail_if_no_progress apply Kept.rest)

theorem State.ppsOutEdge_kept {κ : Keep} {s : State} (hk : Kept κ s) :
    Kept κ (State.ppsOutEdge s) := by
  unfold State.ppsOutEdge
  (try simp only [])
  with_reducible repeat' (first | exact hk | exact id | apply State.setTime_kept | apply ite_kept | split | fail_if_no_progress apply Kept.rest)

theorem State.updPort_kept {κ : Keep} {s : State} {p : Nat} {f : RingPort → RingPort} (hk : Kept κ s) :
    Kept κ (State.updPort s p f) := by
  unfold State.updPort
  (try simp only [])
  with_reducible repeat' (first | exact hk | exact id | apply State.setTime_kept | exact (modAt_length _ _ _).trans | split | fail_if_no_progress apply Kept.rest)

theorem State.sendBeacons_kept {κ : Keep} {s : State} {tx : List Stamp} (hk : Kept κ s) :
    Kept κ (State.sendBeacons s tx) := by
  unfold State.sendBeacons
  (try simp only [])
  with_reducible repeat' (first | exact hk | exact id | apply State.updPort_kept | apply State.keepRecord_kept | refine State.over_kept (fun _ _ hk => ?_) ?_ | apply ite_kept | (rename_i e; refine pair_snd e ?_) | (rename_i e; refine pair_fst e ?_) | (rename_i e; refine pair_trd e ?_) | split | fail_if_no_progress apply Kept.rest)

theorem State.followRing_kept {κ : Keep} {s : State} {d : Nat} {e : Int} {target : Nat} (hk : Kept κ s) :
    Kept κ (State.followRing s d e target) := by
  unfold State.followRing
  (try simp only [])
  with_reducible repeat' (first | exact hk | apply State.putIncr_kept | apply State.restartHold_kept | apply State.ppsStep_kept | apply State.updDomain_kept | apply State.wr_kept | apply ite_kept | split | fail_if_no_progress apply Kept.rest)

theorem State.beaconRx_kept {κ : Keep} {s : State} {p : Nat} {b : Beacon} {rx : Stamp} {rxTd : List Stamp} {residence : Int} {tx : Stamp} (hk : Kept κ s) :
    Kept κ (State.beaconRx s p b rx rxTd residence tx) := by
  unfold State.beaconRx
  (try simp only [])
  with_reducible repeat' (first | exact hk | exact id | apply State.followRing_kept | apply State.updPort_kept | apply State.keepRecord_kept | apply State.due_kept | apply State.setTime_kept | refine State.over_kept (fun _ _ hk => ?_) ?_ | apply ite_kept | split | fail_if_no_progress apply Kept.rest)

theorem State.ringLock_kept {κ : Keep} {s : State} {d : Nat} (hk : Kept κ s) :
    Kept κ (State.ringLock s d) := by
  unfold State.ringLock
  (try simp only [])
  with_reducible repeat' (first | exact hk | apply State.updDomain_kept | apply State.wr_kept | apply ite_kept | split | fail_if_no_progress apply Kept.rest)

theorem State.beaconSwitch_kept {κ : Keep} {s : State} (hk : Kept κ s) :
    Kept κ (State.beaconSwitch s) := by
  unfold State.beaconSwitch
  (try simp only [])
  with_reducible repeat' (first | exact hk | exact id | apply State.wr_kept | apply State.setTime_kept | apply ite_kept | split | fail_if_no_progress apply Kept.rest)

theorem State.linkMessage_kept {κ : Keep} {s : State} {p : Nat} {t1 t2 t3 t4 : Int} {frame hops : Nat} {rx tx : Stamp} (hk : Kept κ s) :
    Kept κ (State.linkMessage s p t1 t2 t3 t4 frame hops rx tx) := by
  unfold State.linkMessage
  (try simp only [])
  with_reducible repeat' (first | exact hk | exact id | apply State.updPort_kept | apply State.keepRecord_kept | apply State.endReport_kept | apply State.wr_kept | apply State.when_kept | apply ite_kept | split | fail_if_no_progress apply Kept.rest)

theorem State.ringLost_kept {κ : Keep} {s : State} {p : Nat} (hk : Kept κ s) :
    Kept κ (State.ringLost s p) := by
  unfold State.ringLost
  (try simp only [])
  with_reducible repeat' (first | exact hk | apply State.updPort_kept | apply State.raise_kept | apply State.wr_kept | apply ite_kept | split | fail_if_no_progress apply Kept.rest)

theorem State.apsinDown_kept {κ : Keep} {s : State} {p : Nat} (hk : Kept κ s) :
    Kept κ (State.apsinDown s p) := by
  unfold State.apsinDown
  (try simp only [])
  with_reducible repeat' (first | exact hk | apply State.raise_kept | split | fail_if_no_progress apply Kept.rest)

theorem State.phaseStep_kept {κ : Keep} {s : State} {phase : Int} (hk : Kept κ s) :
    Kept κ (State.phaseStep s phase) := by
  unfold State.phaseStep
  (try simp only [])
  with_reducible repeat' (first | exact hk | exact id | apply State.raise_kept | apply State.bump_kept | apply State.wrS_kept | apply State.wr_kept | apply State.setTime_kept | apply ite_kept | split | fail_if_no_progress apply Kept.rest)

theorem State.timeFrame_kept {κ : Keep} {s : State} {phase : Int} {tx : List Stamp} (hk : Kept κ s) :
    Kept κ (State.timeFrame s phase tx) := by
  unfold State.timeFrame
  (try simp only [])
  with_reducible repeat' (first | exact hk | exact id | apply State.phaseStep_kept | apply State.sendBeacons_kept | apply State.updPort_kept | apply State.updDomain_kept | apply State.setTime_kept | refine State.over_kept (fun _ _ hk => ?_) ?_ | apply ite_kept | split | fail_if_no_progress apply Kept.rest)

theorem State.refclkLoss_kept {κ : Keep} {s : State} (hk : Kept κ s) :
    Kept κ (State.refclkLoss s) := by
  unfold State.refclkLoss
  (try simp only [])
  with_reducible repeat' (first | exact hk | exact id | apply State.setTime_kept | split | fail_if_no_progress apply Kept.rest)

end Sys2Proof.Machine
end

