-- ==== Sys2Proof/Laws/KeptProtect.lean ====
section
/-! SUPPORT. Laws/KeptProtect.lean: every operation of Machine/Protect.lean keeps the invariants of the state (Laws/Kept.lean). -/

set_option linter.all false
set_option Elab.async false

namespace Sys2Proof.Machine

open Sys2Proof

theorem State.updKey_kept {κ : Keep} {s : State} {p : Nat} {f : KeyRec → KeyRec} (hk : Kept κ s) :
    Kept κ (State.updKey s p f) := by
  unfold State.updKey
  (try simp only [])
  with_reducible repeat' (first | exact hk | exact id | apply State.setProt_kept | exact (modAt_length _ _ _).trans | split | fail_if_no_progress apply Kept.rest)

theorem State.startMtp_kept {κ : Keep} {s : State} {w : MtpWrite} (hk : Kept κ s) :
    Kept κ (State.startMtp s w) := by
  unfold State.startMtp
  (try simp only [])
  with_reducible repeat' (first | exact hk | exact id | apply State.setProt_kept | split | fail_if_no_progress apply Kept.rest)

theorem State.cmdKeyInstall_kept {κ : Keep} {s : State} {h : CmdHead} {p which : Nat} {wrapped : List Nat} (hk : Kept κ s) :
    Kept κ (State.cmdKeyInstall s h p which wrapped) := by
  unfold State.cmdKeyInstall
  (try simp only [])
  with_reducible repeat' (first | exact hk | exact id | apply State.startMtp_kept | apply State.bind_kept | apply State.answer_kept | apply ite_kept | (rename_i e; refine pair_snd e ?_) | (rename_i e; refine pair_fst e ?_) | (rename_i e; refine pair_trd e ?_) | split)

theorem State.countWrite_kept {κ : Keep} {s : State} {p : Nat} (hk : Kept κ s) :
    Kept κ (State.countWrite s p) := by
  unfold State.countWrite
  (try simp only [])
  with_reducible repeat' (first | exact hk | apply State.updKey_kept | split | fail_if_no_progress apply Kept.rest)

theorem State.mtpDone_kept {κ : Keep} {s : State} {good : Bool} (hk : Kept κ s) :
    Kept κ (State.mtpDone s good) := by
  unfold State.mtpDone
  (try simp only [])
  with_reducible repeat' (first | exact hk | exact id | apply State.countWrite_kept | apply State.updKey_kept | apply State.answerAt_kept | apply State.raise_kept | apply State.free_kept | apply State.setProt_kept | apply ite_kept | exact fun h => Nat.le_trans h (Nat.le_max_left _ _) | (rename_i e; refine pair_snd e ?_) | (rename_i e; refine pair_fst e ?_) | (rename_i e; refine pair_trd e ?_) | split | fail_if_no_progress apply Kept.rest)

theorem State.cmdKeyRoll_kept {κ : Keep} {s : State} {h : CmdHead} {p frame : Nat} (hk : Kept κ s) :
    Kept κ (State.cmdKeyRoll s h p frame) := by
  unfold State.cmdKeyRoll
  (try simp only [])
  with_reducible repeat' (first | exact hk | apply State.updKey_kept | apply State.answer_kept | apply ite_kept | (rename_i e; refine pair_snd e ?_) | (rename_i e; refine pair_fst e ?_) | (rename_i e; refine pair_trd e ?_) | split | fail_if_no_progress apply Kept.rest)

theorem State.keyRollApply_kept {κ : Keep} {s : State} {p : Nat} (hk : Kept κ s) :
    Kept κ (State.keyRollApply s p) := by
  unfold State.keyRollApply
  (try simp only [])
  with_reducible repeat' (first | exact hk | apply State.startMtp_kept | apply State.updKey_kept | apply State.answer_kept | apply ite_kept | (rename_i e; refine pair_snd e ?_) | (rename_i e; refine pair_fst e ?_) | (rename_i e; refine pair_trd e ?_) | split | fail_if_no_progress apply Kept.rest)

theorem State.graceEnd_kept {κ : Keep} {s : State} {p : Nat} (hk : Kept κ s) :
    Kept κ (State.graceEnd s p) := by
  unfold State.graceEnd
  (try simp only [])
  with_reducible repeat' (first | exact hk | apply State.updKey_kept | apply ite_kept | (rename_i e; refine pair_snd e ?_) | (rename_i e; refine pair_fst e ?_) | (rename_i e; refine pair_trd e ?_) | split | fail_if_no_progress apply Kept.rest)

theorem State.cmdProtectArm_kept {κ : Keep} {s : State} {h : CmdHead} {b : ArmBody} (hk : Kept κ s) :
    Kept κ (State.cmdProtectArm s h b) := by
  unfold State.cmdProtectArm
  (try simp only [])
  with_reducible repeat' (first | exact hk | exact id | apply State.answer_kept | apply State.setProt_kept | apply ite_kept | exact (List.length_map _).trans | (rename_i e; refine pair_snd e ?_) | (rename_i e; refine pair_fst e ?_) | (rename_i e; refine pair_trd e ?_) | split | fail_if_no_progress apply Kept.rest)

theorem State.disarm_kept {κ : Keep} {s : State} (hk : Kept κ s) :
    Kept κ (State.disarm s) := by
  unfold State.disarm
  (try simp only [])
  with_reducible repeat' (first | exact hk | exact id | apply State.setProt_kept | split | fail_if_no_progress apply Kept.rest)

theorem State.protectExpire_kept {κ : Keep} {s : State} (hk : Kept κ s) :
    Kept κ (State.protectExpire s) := by
  unfold State.protectExpire
  (try simp only [])
  with_reducible repeat' (first | exact hk | exact id | apply State.disarm_kept | apply ite_kept | (rename_i e; refine pair_snd e ?_) | (rename_i e; refine pair_fst e ?_) | (rename_i e; refine pair_trd e ?_) | split)

theorem State.disarmForSleep_kept {κ : Keep} {s : State} (hk : Kept κ s) :
    Kept κ (State.disarmForSleep s) := by
  unfold State.disarmForSleep
  (try simp only [])
  with_reducible repeat' (first | exact hk | exact id | apply State.disarm_kept | apply ite_kept | (rename_i e; refine pair_snd e ?_) | (rename_i e; refine pair_fst e ?_) | (rename_i e; refine pair_trd e ?_) | split)

theorem State.putRecord13_kept {κ : Keep} {s : State} {b : ArmBody} (hk : Kept κ s) :
    Kept κ (State.putRecord13 s b) := by
  unfold State.putRecord13
  (try simp only [])
  with_reducible repeat' (first | exact hk | exact id | apply State.wr_kept | apply State.setWord_kept | refine State.over_kept (fun _ _ hk => ?_) ?_ | apply ite_kept | split)

theorem State.evalAlignment_kept {κ : Keep} {s : State} (hk : Kept κ s) :
    Kept κ (State.evalAlignment s) := by
  unfold State.evalAlignment
  (try simp only [])
  with_reducible repeat' (first | exact hk | apply ite_kept | (rename_i e; refine pair_snd e ?_) | (rename_i e; refine pair_fst e ?_) | (rename_i e; refine pair_trd e ?_) | split | fail_if_no_progress apply Kept.rest)

theorem State.cmdProtectCommit_kept {κ : Keep} {s : State} {h : CmdHead} {armId digest frame : Nat} (hk : Kept κ s) :
    Kept κ (State.cmdProtectCommit s h armId digest frame) := by
  unfold State.cmdProtectCommit
  (try simp only [])
  with_reducible repeat' (first | exact hk | exact id | apply State.disarm_kept | apply State.answer_kept | apply State.setProt_kept | apply ite_kept | (rename_i e; refine pair_snd e ?_) | (rename_i e; refine pair_fst e ?_) | (rename_i e; refine pair_trd e ?_) | split | fail_if_no_progress apply Kept.rest)

theorem State.passToOwner_kept {κ : Keep} {s : State} {t : Nat} {hit : Conn → Bool} (hk : Kept κ s) :
    Kept κ (State.passToOwner s t hit) := by
  unfold State.passToOwner
  (try simp only [])
  with_reducible repeat' (first | exact hk | apply ite_kept | split | fail_if_no_progress apply Kept.rest)

theorem State.stripTenancy_kept {κ : Keep} {s before : State} {t : Nat} (hk : Kept κ s) :
    Kept κ (State.stripTenancy s before t) := by
  unfold State.stripTenancy
  (try simp only [])
  with_reducible repeat' (first | exact hk | exact id | apply State.passToOwner_kept | apply State.dropFor_kept | apply State.dropCommit_kept | apply State.endFlight_kept | refine State.over_kept (fun _ _ hk => ?_) ?_ | apply ite_kept | exact fun h => by simpa using h | exact (List.length_map _).trans | split | fail_if_no_progress apply Kept.rest | apply Kept.sched_)

theorem State.newEpoch_kept {κ : Keep} {s : State} {p : Nat} (hk : Kept κ s) :
    Kept κ (State.newEpoch s p) := by
  unfold State.newEpoch
  (try simp only [])
  with_reducible repeat' (first | exact hk | apply State.notice_kept | apply State.wr_kept | split)

theorem State.applyChange_kept {κ : Keep} {s : State} {c : Change} {cseq : Nat} (hk : Kept κ s) :
    Kept κ (State.applyChange s c cseq) := by
  unfold State.applyChange
  (try simp only [])
  with_reducible repeat' (first | exact hk | exact id | apply State.newEpoch_kept | apply State.stripTenancy_kept | apply State.evalAlignment_kept | apply State.putRecord13_kept | apply State.disarm_kept | apply State.startMtp_kept | apply State.answer_kept | refine State.over_kept (fun _ _ hk => ?_) ?_ | exact (List.length_map _).trans | (rename_i e; refine pair_snd e ?_) | (rename_i e; refine pair_fst e ?_) | (rename_i e; refine pair_trd e ?_) | split)

theorem State.protectApply_kept {κ : Keep} {s : State} (hk : Kept κ s) :
    Kept κ (State.protectApply s) := by
  unfold State.protectApply
  (try simp only [])
  with_reducible repeat' (first | exact hk | exact id | apply State.applyChange_kept | apply State.disarm_kept | apply State.answer_kept | apply ite_kept | (rename_i e; refine pair_snd e ?_) | (rename_i e; refine pair_fst e ?_) | (rename_i e; refine pair_trd e ?_) | split)

theorem State.writeProv_kept {κ : Keep} {s : State} {k w : Nat} (hk : Kept κ s) :
    Kept κ (State.writeProv s k w) := by
  unfold State.writeProv
  (try simp only [])
  with_reducible repeat' (first | exact hk | exact id | apply State.setProt_kept | split | fail_if_no_progress apply Kept.rest)

theorem State.provGo_kept {κ : Keep} {s : State} (hk : Kept κ s) :
    Kept κ (State.provGo s) := by
  unfold State.provGo
  exact State.startMtp_kept (State.updKey_kept (State.setProt_kept hk (fun _ _ => rfl) id id))

end Sys2Proof.Machine
end

