-- ==== Sys2Proof/Laws/KeptPlanes.lean ====
section
/-! SUPPORT. Laws/KeptPlanes.lean: every operation of Machine/Planes.lean keeps the invariants of the state (Laws/Kept.lean). -/

set_option linter.all false
set_option Elab.async false

namespace Sys2Proof.Machine

open Sys2Proof

theorem State.setPl_kept {κ : Keep} {s : State} {f : PlaneSt → PlaneSt} (hk : Kept κ s) :
    Kept κ (State.setPl s f) := by
  unfold State.setPl
  (try simp only [])
  with_reducible repeat' (first | exact hk | split | fail_if_no_progress apply Kept.rest)

theorem State.setHealth_kept {κ : Keep} {s : State} {p : Plane} {h : Nat} (hk : Kept κ s) :
    Kept κ (State.setHealth s p h) := by
  unfold State.setHealth
  (try simp only [])
  with_reducible repeat' (first | exact hk | apply State.alertState_kept | apply State.wr_kept | split)

theorem State.swapRoles_kept {κ : Keep} {s : State} (hk : Kept κ s) :
    Kept κ (State.swapRoles s) := by
  unfold State.swapRoles
  (try simp only [])
  with_reducible repeat' (first | exact hk | apply State.alertState_kept | apply State.bump_kept | apply State.wr_kept | split)

theorem State.endSequence_kept {κ : Keep} {s : State} (hk : Kept κ s) :
    Kept κ (State.endSequence s) := by
  unfold State.endSequence
  (try simp only [])
  with_reducible repeat' (first | exact hk | apply State.setPl_kept | split | fail_if_no_progress apply Kept.rest)

theorem State.endDrill_kept {κ : Keep} {s : State} (hk : Kept κ s) :
    Kept κ (State.endDrill s) := by
  unfold State.endDrill
  (try simp only [])
  with_reducible repeat' (first | exact hk | apply State.setPl_kept | apply State.answer_kept | (rename_i e; refine pair_snd e ?_) | (rename_i e; refine pair_fst e ?_) | (rename_i e; refine pair_trd e ?_) | split | fail_if_no_progress apply Kept.rest)

theorem State.endReturn_kept {κ : Keep} {s : State} (hk : Kept κ s) :
    Kept κ (State.endReturn s) := by
  unfold State.endReturn
  (try simp only [])
  with_reducible repeat' (first | exact hk | apply State.setHealth_kept | apply State.setPl_kept | (rename_i e; refine pair_snd e ?_) | (rename_i e; refine pair_fst e ?_) | (rename_i e; refine pair_trd e ?_) | split | fail_if_no_progress apply Kept.rest)

theorem State.silence_kept {κ : Keep} {s : State} {p : Plane} (hk : Kept κ s) :
    Kept κ (State.silence s p) := by
  unfold State.silence
  (try simp only [])
  with_reducible repeat' (first | exact hk | exact id | apply State.updLane_kept | refine State.over_kept (fun _ _ hk => ?_) ?_ | (rename_i e; refine pair_snd e ?_) | (rename_i e; refine pair_fst e ?_) | (rename_i e; refine pair_trd e ?_) | split | fail_if_no_progress apply Kept.rest | apply Kept.links_)

theorem State.fencePlane_kept {κ : Keep} {s : State} {p : Plane} {auto : Bool} (hk : Kept κ s) :
    Kept κ (State.fencePlane s p auto) := by
  unfold State.fencePlane
  (try simp only [])
  with_reducible repeat' (first | exact hk | apply State.silence_kept | apply State.endReturn_kept | apply State.endDrill_kept | apply State.endSequence_kept | apply State.swapRoles_kept | apply State.setHealth_kept | apply State.setPl_kept | apply ite_kept | split | fail_if_no_progress apply Kept.rest)

theorem State.fenceRow_kept {κ : Keep} {s : State} {p : Plane} (hk : Kept κ s) :
    Kept κ (State.fenceRow s p) := by
  unfold State.fenceRow
  (try simp only [])
  with_reducible repeat' (first | exact hk | apply State.fencePlane_kept | apply State.due_kept | apply State.dueResort_kept | apply ite_kept | split | fail_if_no_progress apply Kept.rest)

theorem State.enterLastResort_kept {κ : Keep} {s : State} (hk : Kept κ s) :
    Kept κ (State.enterLastResort s) := by
  unfold State.enterLastResort
  (try simp only [])
  with_reducible repeat' (first | exact hk | apply State.endReturn_kept | apply State.endDrill_kept | apply State.endSequence_kept | apply State.setPl_kept | apply State.alertState_kept | apply State.wr_kept | apply ite_kept | split | fail_if_no_progress apply Kept.rest)

theorem State.takeResort_kept {κ : Keep} {s : State} (hk : Kept κ s) :
    Kept κ (State.takeResort s) := by
  unfold State.takeResort
  (try simp only [])
  with_reducible repeat' (first | exact hk | apply State.enterLastResort_kept | apply ite_kept | (rename_i e; refine pair_snd e ?_) | (rename_i e; refine pair_fst e ?_) | (rename_i e; refine pair_trd e ?_) | split)

theorem State.countMismatch_kept {κ : Keep} {s : State} {key : Nat} (hk : Kept κ s) :
    Kept κ (State.countMismatch s key) := by
  unfold State.countMismatch
  (try simp only [])
  with_reducible repeat' (first | exact hk | exact id | apply State.bump_kept | apply State.setWord_kept | apply ite_kept | split)

theorem State.probationFail_kept {κ : Keep} {s : State} (hk : Kept κ s) :
    Kept κ (State.probationFail s) := by
  unfold State.probationFail
  (try simp only [])
  with_reducible repeat' (first | exact hk | apply State.fenceAt_kept | apply State.raise_kept | apply ite_kept | (rename_i e; refine pair_snd e ?_) | (rename_i e; refine pair_fst e ?_) | (rename_i e; refine pair_trd e ?_) | split)

theorem State.divHold_kept {κ : Keep} {s : State} {l : List Mismatch} (hk : Kept κ s) :
    Kept κ (State.divHold s l) := by
  unfold State.divHold
  (try simp only [])
  with_reducible repeat' (first | exact hk | exact id | apply State.probationFail_kept | apply State.countMismatch_kept | apply State.setPl_kept | apply State.wr_kept | apply State.setWord_kept | refine State.over_kept (fun _ _ hk => ?_) ?_ | apply ite_kept | exact (List.length_map _).trans | (rename_i e; refine pair_snd e ?_) | (rename_i e; refine pair_fst e ?_) | (rename_i e; refine pair_trd e ?_) | split | fail_if_no_progress apply Kept.rest)

theorem State.divReplay_kept {κ : Keep} {s : State} {l : List Mismatch} (hk : Kept κ s) :
    Kept κ (State.divReplay s l) := by
  unfold State.divReplay
  (try simp only [])
  with_reducible repeat' (first | exact hk | apply State.setPl_kept | apply ite_kept | (rename_i e; refine pair_snd e ?_) | (rename_i e; refine pair_fst e ?_) | (rename_i e; refine pair_trd e ?_) | split | fail_if_no_progress apply Kept.rest)

theorem State.storeItem_kept {κ : Keep} {s : State} {d : DivItem} (hk : Kept κ s) :
    Kept κ (State.storeItem s d) := by
  unfold State.storeItem
  (try simp only [])
  with_reducible repeat' (first | exact hk | apply State.store_kept | apply State.wrP_kept | split | fail_if_no_progress apply Kept.rest)

theorem State.divRelease_kept {κ : Keep} {s : State} (hk : Kept κ s) :
    Kept κ (State.divRelease s) := by
  unfold State.divRelease
  (try simp only [])
  with_reducible repeat' (first | exact hk | exact id | apply State.storeItem_kept | apply State.setPl_kept | apply State.raise_kept | apply State.bump_kept | refine State.over_kept (fun _ _ hk => ?_) ?_ | apply ite_kept | exact (List.length_map _).trans | split | fail_if_no_progress apply Kept.rest)

theorem State.divMeasure_kept {κ : Keep} {s : State} (hk : Kept κ s) :
    Kept κ (State.divMeasure s) := by
  unfold State.divMeasure
  (try simp only [])
  with_reducible repeat' (first | exact hk | exact id | apply State.setPl_kept | apply State.validate_kept | refine State.over_kept (fun _ _ hk => ?_) ?_ | apply ite_kept | exact (List.length_map _).trans | (rename_i e; refine pair_snd e ?_) | (rename_i e; refine pair_fst e ?_) | (rename_i e; refine pair_trd e ?_) | split | fail_if_no_progress apply Kept.rest)

theorem State.divDecide_kept {κ : Keep} {s : State} (hk : Kept κ s) :
    Kept κ (State.divDecide s) := by
  unfold State.divDecide
  (try simp only [])
  with_reducible repeat' (first | exact hk | apply State.setPl_kept | apply State.fenceAt_kept | apply State.raise_kept | apply State.bump_kept | apply State.wr_kept | apply ite_kept | split | fail_if_no_progress apply Kept.rest)

theorem State.divResume_kept {κ : Keep} {s : State} (hk : Kept κ s) :
    Kept κ (State.divResume s) := by
  unfold State.divResume
  (try simp only [])
  with_reducible repeat' (first | exact hk | exact id | apply State.setPl_kept | apply State.fenceCtx_kept | refine State.over_kept (fun _ _ hk => ?_) ?_ | apply ite_kept | exact (List.length_map _).trans | (rename_i e; refine pair_snd e ?_) | (rename_i e; refine pair_fst e ?_) | (rename_i e; refine pair_trd e ?_) | split | fail_if_no_progress apply Kept.rest)

theorem State.expressMismatch_kept {κ : Keep} {s : State} {n chip : Nat} (hk : Kept κ s) :
    Kept κ (State.expressMismatch s n chip) := by
  unfold State.expressMismatch
  (try simp only [])
  with_reducible repeat' (first | exact hk | apply State.probationFail_kept | apply State.setPl_kept | apply State.bump_kept | apply ite_kept | (rename_i e; refine pair_snd e ?_) | (rename_i e; refine pair_fst e ?_) | (rename_i e; refine pair_trd e ?_) | split | fail_if_no_progress apply Kept.rest)

theorem State.expJudged_kept {κ : Keep} {s : State} {n : Nat} (hk : Kept κ s) :
    Kept κ (State.expJudged s n) := by
  unfold State.expJudged
  (try simp only [])
  with_reducible repeat' (first | exact hk | apply State.setPl_kept | apply State.fenceAt_kept | apply State.raise_kept | apply ite_kept | (rename_i e; refine pair_snd e ?_) | (rename_i e; refine pair_fst e ?_) | (rename_i e; refine pair_trd e ?_) | split | fail_if_no_progress apply Kept.rest)

theorem State.centralDivergence_kept {κ : Keep} {s : State} (hk : Kept κ s) :
    Kept κ (State.centralDivergence s) := by
  unfold State.centralDivergence
  (try simp only [])
  with_reducible repeat' (first | exact hk | apply State.probationFail_kept | apply State.setPl_kept | apply State.bump_kept | apply State.wr_kept | apply ite_kept | split | fail_if_no_progress apply Kept.rest)

theorem State.auditEnd_kept {κ : Keep} {s : State} {failA failB : Bool} (hk : Kept κ s) :
    Kept κ (State.auditEnd s failA failB) := by
  unfold State.auditEnd
  (try simp only [])
  with_reducible repeat' (first | exact hk | apply State.setPl_kept | apply State.fenceAt_kept | apply State.raise_kept | apply State.wr_kept | apply ite_kept | split | fail_if_no_progress apply Kept.rest)

theorem State.holdSelection_kept {κ : Keep} {s : State} {d old : Nat} (hk : Kept κ s) :
    Kept κ (State.holdSelection s d old) := by
  unfold State.holdSelection
  (try simp only [])
  with_reducible repeat' (first | exact hk | exact id | apply State.setPl_kept | apply State.select_kept | apply State.setWord_kept | split | fail_if_no_progress apply Kept.rest)

theorem State.freeSelection_kept {κ : Keep} {s : State} {t : Nat} (hk : Kept κ s) :
    Kept κ (State.freeSelection s t) := by
  unfold State.freeSelection
  (try simp only [])
  with_reducible repeat' (first | exact hk | exact id | apply State.setPl_kept | apply State.select_kept | refine State.over_kept (fun _ _ hk => ?_) ?_ | apply ite_kept | split | fail_if_no_progress apply Kept.rest)

theorem State.cmdDrill_kept {κ : Keep} {s : State} {h : CmdHead} {frame : Nat} (hk : Kept κ s) :
    Kept κ (State.cmdDrill s h frame) := by
  unfold State.cmdDrill
  (try simp only [])
  with_reducible repeat' (first | exact hk | apply State.setPl_kept | apply State.answer_kept | apply State.wr_kept | apply ite_kept | (rename_i e; refine pair_snd e ?_) | (rename_i e; refine pair_fst e ?_) | (rename_i e; refine pair_trd e ?_) | split | fail_if_no_progress apply Kept.rest)

theorem State.drillSwap_kept {κ : Keep} {s : State} (hk : Kept κ s) :
    Kept κ (State.drillSwap s) := by
  unfold State.drillSwap
  (try simp only [])
  with_reducible repeat' (first | exact hk | apply State.swapRoles_kept | apply State.setPl_kept | apply ite_kept | (rename_i e; refine pair_snd e ?_) | (rename_i e; refine pair_fst e ?_) | (rename_i e; refine pair_trd e ?_) | split | fail_if_no_progress apply Kept.rest)

theorem State.drillCheck_kept {κ : Keep} {s : State} {failed : List Nat} {sup : Bool} (hk : Kept κ s) :
    Kept κ (State.drillCheck s failed sup) := by
  unfold State.drillCheck
  (try simp only [])
  with_reducible repeat' (first | exact hk | exact id | apply State.setPl_kept | apply State.fenceAt_kept | apply State.alertState_kept | apply State.answer_kept | apply State.endReport_kept | apply State.raise_kept | apply State.bump_kept | apply State.wr_kept | refine State.over_kept (fun _ _ hk => ?_) ?_ | refine foldl_kept (fun _ _ hk => ?_) ?_ | refine foldl_fst_kept (fun _ _ hk => ?_) ?_ | refine foldl_snd_kept (fun _ _ hk => ?_) ?_ | apply ite_kept | (rename_i e; refine pair_snd e ?_) | (rename_i e; refine pair_fst e ?_) | (rename_i e; refine pair_trd e ?_) | split | fail_if_no_progress apply Kept.rest)

theorem State.drillDue_kept {κ : Keep} {s : State} (hk : Kept κ s) :
    Kept κ (State.drillDue s) := by
  unfold State.drillDue
  (try simp only [])
  with_reducible repeat' (first | exact hk | apply State.setPl_kept | apply State.raise_kept | apply ite_kept | split | fail_if_no_progress apply Kept.rest)

theorem State.powerDomain_kept {κ : Keep} {s : State} {d : Nat} {on : Bool} (hk : Kept κ s) :
    Kept κ (State.powerDomain s d on) := by
  unfold State.powerDomain
  (try simp only [])
  with_reducible repeat' (first | exact hk | exact id | apply State.setWord_kept | split)

theorem State.startReturn_kept {κ : Keep} {s : State} {p : Plane} (hk : Kept κ s) :
    Kept κ (State.startReturn s p) := by
  unfold State.startReturn
  (try simp only [])
  with_reducible repeat' (first | exact hk | exact id | apply State.powerDomain_kept | apply State.setHealth_kept | apply State.setPl_kept | apply State.raise_kept | refine State.over_kept (fun _ _ hk => ?_) ?_ | split | fail_if_no_progress apply Kept.rest)

theorem State.returnPlane_kept {κ : Keep} {s : State} (hk : Kept κ s) :
    Kept κ (State.returnPlane s) := by
  unfold State.returnPlane
  (try simp only [])
  with_reducible repeat' (first | exact hk | apply State.startReturn_kept | apply ite_kept | (rename_i e; refine pair_snd e ?_) | (rename_i e; refine pair_fst e ?_) | (rename_i e; refine pair_trd e ?_) | split)

theorem State.returnPower_kept {κ : Keep} {s : State} (hk : Kept κ s) :
    Kept κ (State.returnPower s) := by
  unfold State.returnPower
  (try simp only [])
  with_reducible repeat' (first | exact hk | exact id | apply State.powerDomain_kept | apply State.setPl_kept | refine State.over_kept (fun _ _ hk => ?_) ?_ | apply ite_kept | (rename_i e; refine pair_snd e ?_) | (rename_i e; refine pair_fst e ?_) | (rename_i e; refine pair_trd e ?_) | split | fail_if_no_progress apply Kept.rest)

theorem State.returnTest_kept {κ : Keep} {s : State} {fail : Option (Nat × Nat)} (hk : Kept κ s) :
    Kept κ (State.returnTest s fail) := by
  unfold State.returnTest
  (try simp only [])
  with_reducible repeat' (first | exact hk | apply State.endReturn_kept | apply State.setPl_kept | apply State.raise_kept | apply ite_kept | (rename_i e; refine pair_snd e ?_) | (rename_i e; refine pair_fst e ?_) | (rename_i e; refine pair_trd e ?_) | split | fail_if_no_progress apply Kept.rest)

theorem State.copyPlane_kept {κ : Keep} {s : State} {p : Plane} (hk : Kept κ s) :
    Kept κ (State.copyPlane s p) := by
  have h1 : ∀ t : State, Kept κ t → Kept κ { t with gens := (List.range 8).map (fun g => t.gen (genInst (other p) g)) ++ (List.range 8).map fun g => t.gen (genInst (other p) g) } :=
    fun t ht => ht.gens_ fun _ => by simp
  unfold State.copyPlane
  refine h1 _ ?_
  cases p
  · exact hk.reg_ id (fun _ => hk.privB) id
  · exact hk.reg_ id id (fun _ => hk.privA)

theorem State.lockstep_kept {κ : Keep} {s : State} (hk : Kept κ s) :
    Kept κ (State.lockstep s) := by
  unfold State.lockstep
  (try simp only [])
  with_reducible repeat' (first | exact hk | apply State.copyPlane_kept | apply State.setPl_kept | apply ite_kept | (rename_i e; refine pair_snd e ?_) | (rename_i e; refine pair_fst e ?_) | (rename_i e; refine pair_trd e ?_) | split | fail_if_no_progress apply Kept.rest)

theorem State.returnEnd_kept {κ : Keep} {s : State} (hk : Kept κ s) :
    Kept κ (State.returnEnd s) := by
  unfold State.returnEnd
  (try simp only [])
  with_reducible repeat' (first | exact hk | apply State.setHealth_kept | apply State.setPl_kept | apply State.raise_kept | apply ite_kept | (rename_i e; refine pair_snd e ?_) | (rename_i e; refine pair_fst e ?_) | (rename_i e; refine pair_trd e ?_) | split | fail_if_no_progress apply Kept.rest)

theorem State.autoReturn_kept {κ : Keep} {s : State} (hk : Kept κ s) :
    Kept κ (State.autoReturn s) := by
  unfold State.autoReturn
  (try simp only [])
  with_reducible repeat' (first | exact hk | apply State.startReturn_kept | apply State.setPl_kept | apply ite_kept | (rename_i e; refine pair_snd e ?_) | (rename_i e; refine pair_fst e ?_) | (rename_i e; refine pair_trd e ?_) | split | fail_if_no_progress apply Kept.rest)

theorem State.enterSolo_kept {κ : Keep} {s : State} (hk : Kept κ s) :
    Kept κ (State.enterSolo s) := by
  unfold State.enterSolo
  (try simp only [])
  with_reducible repeat' (first | exact hk | exact id | apply State.powerDomain_kept | apply State.silence_kept | apply State.endDrill_kept | apply State.endSequence_kept | apply State.setHealth_kept | apply State.setPl_kept | refine State.over_kept (fun _ _ hk => ?_) ?_ | split | fail_if_no_progress apply Kept.rest)

theorem State.leaveSolo_kept {κ : Keep} {s : State} (hk : Kept κ s) :
    Kept κ (State.leaveSolo s) := by
  unfold State.leaveSolo
  (try simp only [])
  with_reducible repeat' (first | exact hk | apply State.startReturn_kept | apply ite_kept | (rename_i e; refine pair_snd e ?_) | (rename_i e; refine pair_fst e ?_) | (rename_i e; refine pair_trd e ?_) | split)

theorem State.heartbeat_kept {κ : Keep} {s : State} {p : Plane} (hk : Kept κ s) :
    Kept κ (State.heartbeat s p) := by
  unfold State.heartbeat
  (try simp only [])
  with_reducible repeat' (first | exact hk | apply State.fenceAt_kept | apply State.raise_kept | apply ite_kept | split)

theorem State.cellarVote_kept {κ : Keep} {s : State} {copies : List Nat} (hk : Kept κ s) :
    Kept κ (State.cellarVote s copies) := by
  unfold State.cellarVote
  (try simp only [])
  with_reducible repeat' (first | exact hk | exact id | apply State.enterLastResort_kept | apply State.setPl_kept | apply State.raise_kept | apply State.bump_kept | apply State.wr_kept | refine State.over_kept (fun _ _ hk => ?_) ?_ | apply ite_kept | (rename_i e; refine pair_snd e ?_) | (rename_i e; refine pair_fst e ?_) | (rename_i e; refine pair_trd e ?_) | split | fail_if_no_progress apply Kept.rest)

end Sys2Proof.Machine
end

