-- ==== Sys2Proof/Laws/KeptThermal.lean ====
section
/-! SUPPORT. Laws/KeptThermal.lean: every operation of Machine/Thermal.lean keeps the invariants of the state (Laws/Kept.lean). -/

set_option linter.all false
set_option Elab.async false

namespace Sys2Proof.Machine

open Sys2Proof

theorem State.setTherm_kept {κ : Keep} {s : State} {f : Thermal → Thermal} (hk : Kept κ s) :
    Kept κ (State.setTherm s f) := by
  unfold State.setTherm
  (try simp only [])
  with_reducible repeat' (first | exact hk | split | fail_if_no_progress apply Kept.rest)

theorem State.failSensor_kept {κ : Keep} {s : State} {d cause : Nat} (hk : Kept κ s) :
    Kept κ (State.failSensor s d cause) := by
  unfold State.failSensor
  (try simp only [])
  with_reducible repeat' (first | exact hk | apply State.raise_kept | apply State.bump_kept | apply State.wr_kept | split | fail_if_no_progress apply Kept.rest)

theorem State.takeCounts_kept {κ : Keep} {s : State} {counts : List (Nat × Nat)} (hk : Kept κ s) :
    Kept κ (State.takeCounts s counts) := by
  unfold State.takeCounts
  (try simp only [])
  with_reducible repeat' (first | exact hk | exact id | apply State.failSensor_kept | apply State.setTherm_kept | apply State.wrS_kept | apply State.wr_kept | refine State.over_kept (fun _ _ hk => ?_) ?_ | apply ite_kept | exact (List.length_map _).trans | split | fail_if_no_progress apply Kept.rest)

theorem State.takeZones_kept {κ : Keep} {s : State} (hk : Kept κ s) :
    Kept κ (State.takeZones s) := by
  unfold State.takeZones
  (try simp only [])
  with_reducible repeat' (first | exact hk | exact id | apply State.wrS_kept | apply State.wr_kept | refine State.over_kept (fun _ _ hk => ?_) ?_ | exact (List.length_map _).trans | (rename_i e; refine pair_snd e ?_) | (rename_i e; refine pair_fst e ?_) | (rename_i e; refine pair_trd e ?_) | split)

theorem State.takeThrottle_kept {κ : Keep} {s : State} (hk : Kept κ s) :
    Kept κ (State.takeThrottle s) := by
  unfold State.takeThrottle
  (try simp only [])
  with_reducible repeat' (first | exact hk | exact id | apply State.setTherm_kept | apply State.endReport_kept | apply State.raise_kept | apply State.bump_kept | apply State.wr_kept | apply State.when_kept | apply ite_kept | (rename_i e; refine pair_snd e ?_) | (rename_i e; refine pair_fst e ?_) | (rename_i e; refine pair_trd e ?_) | split | fail_if_no_progress apply Kept.rest)

theorem State.tripNow_kept {κ : Keep} {s : State} {analog : Bool} (hk : Kept κ s) :
    Kept κ (State.tripNow s analog) := by
  unfold State.tripNow
  (try simp only [])
  with_reducible repeat' (first | exact hk | exact id | apply State.setTherm_kept | apply State.powerDomain_kept | apply State.free_kept | apply State.wr_kept | apply State.setProt_kept | refine State.over_kept (fun _ _ hk => ?_) ?_ | apply ite_kept | (rename_i e; refine pair_snd e ?_) | (rename_i e; refine pair_fst e ?_) | (rename_i e; refine pair_trd e ?_) | split | fail_if_no_progress apply Kept.rest)

theorem State.tripHalt_kept {κ : Keep} {s : State} (hk : Kept κ s) :
    Kept κ (State.tripHalt s) := by
  unfold State.tripHalt
  (try simp only [])
  with_reducible repeat' (first | exact hk | exact id | apply State.setTherm_kept | apply State.setProt_kept | apply ite_kept | split | fail_if_no_progress apply Kept.rest)

theorem State.sensorRound_kept {κ : Keep} {s : State} {counts : List (Nat × Nat)} (hk : Kept κ s) :
    Kept κ (State.sensorRound s counts) := by
  unfold State.sensorRound
  (try simp only [])
  with_reducible repeat' (first | exact hk | exact id | apply State.tripNow_kept | apply State.takeThrottle_kept | apply State.takeZones_kept | apply State.takeCounts_kept | apply State.setTherm_kept | apply State.calTriggers_kept | apply State.wr_kept | apply State.when_kept | apply ite_kept | split | fail_if_no_progress apply Kept.rest)

theorem State.masksApplied_kept {κ : Keep} {s : State} {old : List Nat} (hk : Kept κ s) :
    Kept κ (State.masksApplied s old) := by
  unfold State.masksApplied
  (try simp only [])
  with_reducible repeat' (first | exact hk | exact id | apply State.endReport_kept | apply State.wr_kept | refine State.over_kept (fun _ _ hk => ?_) ?_ | apply State.when_kept | apply ite_kept | split | fail_if_no_progress apply Kept.rest)

theorem State.deepSensor_kept {κ : Keep} {s : State} {count : Nat} (hk : Kept κ s) :
    Kept κ (State.deepSensor s count) := by
  unfold State.deepSensor
  (try simp only [])
  with_reducible repeat' (first | exact hk | apply State.wrS_kept | apply State.wr_kept | split)

end Sys2Proof.Machine
end

