-- ==== Sys2Proof/Laws/KeptPower.lean ====
section
/-! SUPPORT. Laws/KeptPower.lean: every operation of Machine/Power.lean keeps the invariants of the state (Laws/Kept.lean). -/

set_option linter.all false
set_option Elab.async false

namespace Sys2Proof.Machine

open Sys2Proof

theorem State.setPw_kept {κ : Keep} {s : State} {f : PowerSt → PowerSt} (hk : Kept κ s) :
    Kept κ (State.setPw s f) := by
  unfold State.setPw
  (try simp only [])
  with_reducible repeat' (first | exact hk | split | fail_if_no_progress apply Kept.rest)

theorem State.setRtc_kept {κ : Keep} {s : State} {v : Nat} (hk : Kept κ s) :
    Kept κ (State.setRtc s v) := by
  unfold State.setRtc
  (try simp only [])
  with_reducible repeat' (first | exact hk | apply State.wr_kept | split)

theorem State.rtcFrames_kept {κ : Keep} {s : State} {n : Nat} (hk : Kept κ s) :
    Kept κ (State.rtcFrames s n) := by
  unfold State.rtcFrames
  (try simp only [])
  with_reducible repeat' (first | exact hk | apply State.setRtc_kept | apply State.setPw_kept | apply State.setPl_kept | apply ite_kept | split | fail_if_no_progress apply Kept.rest)

theorem State.cmdPower_kept {κ : Keep} {s : State} {h : CmdHead} {code : Nat} (hk : Kept κ s) :
    Kept κ (State.cmdPower s h code) := by
  unfold State.cmdPower
  (try simp only [])
  with_reducible repeat' (first | exact hk | exact id | apply State.setPw_kept | apply State.endReturn_kept | apply State.disarmForSleep_kept | apply State.abortRuns_kept | apply State.mtAbort_kept | apply State.alertState_kept | apply State.answer_kept | apply State.wr_kept | apply ite_kept | (rename_i e; refine pair_snd e ?_) | (rename_i e; refine pair_fst e ?_) | (rename_i e; refine pair_trd e ?_) | split | fail_if_no_progress apply Kept.rest)

theorem State.abortTransition_kept {κ : Keep} {s : State} {t : Transition} {d : Nat} (hk : Kept κ s) :
    Kept κ (State.abortTransition s t d) := by
  unfold State.abortTransition
  (try simp only [])
  with_reducible repeat' (first | exact hk | apply State.setPw_kept | apply State.alertState_kept | apply State.answer_kept | apply State.raise_kept | apply State.wr_kept | split | fail_if_no_progress apply Kept.rest)

theorem State.reach_kept {κ : Keep} {s : State} {t : PowerState} (hk : Kept κ s) :
    Kept κ (State.reach s t) := by
  unfold State.reach
  (try simp only [])
  with_reducible repeat' (first | exact hk | apply State.setPw_kept | apply State.alertState_kept | apply State.wr_kept | split | fail_if_no_progress apply Kept.rest)

theorem State.lanesAgreed_kept {κ : Keep} {s : State} {t : Transition} (hk : Kept κ s) :
    Kept κ (State.lanesAgreed s t) := by
  unfold State.lanesAgreed
  (try simp only [])
  with_reducible repeat' (first | exact hk | apply State.reach_kept | apply State.setPw_kept | apply State.answer_kept | apply ite_kept | split | fail_if_no_progress apply Kept.rest)

theorem State.domainStop_kept {κ : Keep} {s : State} {veto : Bool} (hk : Kept κ s) :
    Kept κ (State.domainStop s veto) := by
  unfold State.domainStop
  (try simp only [])
  with_reducible repeat' (first | exact hk | exact id | apply State.lanesAgreed_kept | apply State.reach_kept | apply State.abortTransition_kept | apply State.setPw_kept | apply State.powerDomain_kept | apply ite_kept | (rename_i e; refine pair_snd e ?_) | (rename_i e; refine pair_fst e ?_) | (rename_i e; refine pair_trd e ?_) | split | fail_if_no_progress apply Kept.rest)

theorem State.stopTiles_kept {κ : Keep} {s : State} (hk : Kept κ s) :
    Kept κ (State.stopTiles s) := by
  unfold State.stopTiles
  (try simp only [])
  with_reducible repeat' (first | exact hk | apply State.reach_kept | apply State.setPw_kept | apply ite_kept | (rename_i e; refine pair_snd e ?_) | (rename_i e; refine pair_fst e ?_) | (rename_i e; refine pair_trd e ?_) | split | fail_if_no_progress apply Kept.rest)

theorem State.startWake_kept {κ : Keep} {s : State} {cause : Nat} (hk : Kept κ s) (h_clk : ∀ x, κ.clk x := by assumption) :
    Kept κ (State.startWake s cause) := by
  unfold State.startWake
  (try simp only [])
  with_reducible repeat' (first | exact hk | exact h_clk | exact id | apply State.setPw_kept | apply State.powerDomain_kept | apply State.loadFabric_kept | apply State.loadDomains_kept | apply State.setTime_kept | refine State.over_kept (fun _ _ hk => ?_) ?_ | apply ite_kept | split | fail_if_no_progress apply Kept.rest)

theorem State.wakeN_kept {κ : Keep} {s : State} {us : Nat} (hk : Kept κ s) (h_clk : ∀ x, κ.clk x := by assumption) :
    Kept κ (State.wakeN s us) := by
  unfold State.wakeN
  (try simp only [])
  with_reducible repeat' (first | exact hk | exact h_clk | exact id | apply State.startWake_kept | apply State.setPw_kept | apply State.alertState_kept | apply State.wr_kept | apply ite_kept | (rename_i e; refine pair_snd e ?_) | (rename_i e; refine pair_fst e ?_) | (rename_i e; refine pair_trd e ?_) | split | fail_if_no_progress apply Kept.rest | apply Kept.boot_)

theorem State.clockAlarm_kept {κ : Keep} {s : State} (hk : Kept κ s) (h_clk : ∀ x, κ.clk x := by assumption) :
    Kept κ (State.clockAlarm s) := by
  unfold State.clockAlarm
  (try simp only [])
  with_reducible repeat' (first | exact hk | exact h_clk | apply State.startWake_kept | apply State.wr_kept | apply ite_kept | split)

theorem State.laneWake_kept {κ : Keep} {s : State} {l : Nat} (hk : Kept κ s) (h_clk : ∀ x, κ.clk x := by assumption) :
    Kept κ (State.laneWake s l) := by
  unfold State.laneWake
  (try simp only [])
  with_reducible repeat' (first | exact hk | exact h_clk | apply State.startWake_kept | apply ite_kept | split)

theorem State.reloadBank_kept {κ : Keep} {s : State} {p : Plane} {t : Nat} (hk : Kept κ s) :
    Kept κ (State.reloadBank s p t) := by
  have key : ∀ m : List (Nat × Word), smWf resetWord m = true → smWf resetWord (m.filter (fun e => decide (e.1 < 0x1000000 + 32768 * t)) ++
      s.boot.priv.filter (fun e => decide (0x1000000 + 32768 * t ≤ e.1) && decide (e.1 < 0x1000000 + 32768 * t + 32768)) ++
      m.filter fun e => decide (0x1000000 + 32768 * t + 32768 ≤ e.1)) = true := by
    intro m hm
    exact smWf_splice resetWord m _ m (0x1000000 + 32768 * t) (0x1000000 + 32768 * t + 32768) _ _ hm
      (smWf_filter resetWord _ _ hk.bootPriv) hm (fun e he => by simpa using (List.mem_filter.1 he).2) (by omega)
      (fun e he => by simpa using he) (fun e he => by simpa using he)
  unfold State.reloadBank
  refine State.wrP_kept (State.over_kept (fun u n hu => State.wrP_kept (State.wrP_kept hu)) ?_)
  cases p
  · exact hk.reg_ id (key _) id
  · exact hk.reg_ id id (key _)

theorem State.banksFailed_kept {κ : Keep} {s : State} {l : List (Plane × Nat)} (hk : Kept κ s) :
    Kept κ (State.banksFailed s l) := by
  unfold State.banksFailed
  (try simp only [])
  with_reducible repeat' (first | exact hk | exact id | apply State.reloadBank_kept | apply State.fencePlane_kept | apply State.raise_kept | refine State.over_kept (fun _ _ hk => ?_) ?_ | apply ite_kept | exact (List.length_map _).trans | split | fail_if_no_progress apply Kept.rest)

theorem State.setFailed_kept {κ : Keep} {s : State} {d : Nat} (hk : Kept κ s) :
    Kept κ (State.setFailed s d) := by
  unfold State.setFailed
  simp only []
  refine State.raise_kept (State.setWord_kept ?_)
  have h2 : Kept κ ({ s with reg := { s.reg with
      shared := spliceFile (savedRanges d) s.reg.shared s.boot.shared
      privA := if d = 86 then s.reg.privA else spliceFile (savedRanges d) s.reg.privA s.boot.priv
      privB := if d = 85 then s.reg.privB else spliceFile (savedRanges d) s.reg.privB s.boot.priv } } : State) := by
    refine hk.reg_ (spliceFile_wf _ _ _) (fun h => ?_) (fun h => ?_) <;> simp only [] <;> split <;>
      first | exact h | exact spliceFile_wf _ _ _ h
  generalize ({ s with reg := { s.reg with
      shared := spliceFile (savedRanges d) s.reg.shared s.boot.shared
      privA := if d = 86 then s.reg.privA else spliceFile (savedRanges d) s.reg.privA s.boot.priv
      privB := if d = 85 then s.reg.privB else spliceFile (savedRanges d) s.reg.privB s.boot.priv } } : State) = u at h2 ⊢
  have h1 : Kept κ (if d < 80 then ((((u.over (List.range 33) fun s j => s.wr (R.TL_CAL_SLICE_MEAS d j) 0).over (List.range 32) fun s j => s.wr (R.TL_CAL_TIA_MEAS d j) 0).wr (R.TL_CAL_REF_MEAS d) 0)) else u) := by
    split
    · exact State.wr_kept (State.over_kept (fun _ _ h => State.wr_kept h) (State.over_kept (fun _ _ h => State.wr_kept h) h2))
    · exact h2
  split
  · exact Kept.rest h1
  · exact h1

theorem State.loseCapture_kept {κ : Keep} {s : State} (hk : Kept κ s) :
    Kept κ (State.loseCapture s) := by
  unfold State.loseCapture
  exact (State.free_kept hk).cap_ (fun _ => rfl) id

theorem State.loopsResume_kept {κ : Keep} {s : State} {banks : List (Plane × Nat)} {sets : List Nat} (hk : Kept κ s) :
    Kept κ (State.loopsResume s banks sets) := by
  unfold State.loopsResume
  (try simp only [])
  with_reducible repeat' (first | exact hk | exact id | apply State.loseCapture_kept | apply State.setFailed_kept | apply State.banksFailed_kept | apply State.setPw_kept | apply State.setLoop_kept | apply State.setSlots_kept | apply State.setCx_kept | apply State.alertState_kept | apply State.wr_kept | refine State.over_kept (fun _ _ hk => ?_) ?_ | apply ite_kept | exact (List.length_map _).trans | (rename_i e; refine pair_snd e ?_) | (rename_i e; refine pair_fst e ?_) | (rename_i e; refine pair_trd e ?_) | split | fail_if_no_progress apply Kept.rest | apply Kept.sense_)

theorem State.wakeDomain_kept {κ : Keep} {s : State} {d : Nat} (hk : Kept κ s) :
    Kept κ (State.wakeDomain s d) := by
  unfold State.wakeDomain
  (try simp only [])
  with_reducible repeat' (first | exact hk | apply State.setPw_kept | apply ite_kept | split | fail_if_no_progress apply Kept.rest)

theorem State.domainReady_kept {κ : Keep} {s : State} {d : Nat} (hk : Kept κ s) :
    Kept κ (State.domainReady s d) := by
  unfold State.domainReady
  (try simp only [])
  with_reducible repeat' (first | exact hk | apply State.setPw_kept | apply State.powerDomain_kept | apply ite_kept | split | fail_if_no_progress apply Kept.rest)

theorem State.wakeStall_kept {κ : Keep} {s : State} {d us : Nat} (hk : Kept κ s) :
    Kept κ (State.wakeStall s d us) := by
  unfold State.wakeStall
  (try simp only [])
  with_reducible repeat' (first | exact hk | apply State.raise_kept | apply State.bump_kept | apply State.wr_kept | apply ite_kept | split | fail_if_no_progress apply Kept.rest)

end Sys2Proof.Machine
end

