-- ==== Sys2Proof/Laws/KeptRegRules.lean ====
section
/-! SUPPORT. Laws/KeptRegRules.lean: every operation of Machine/RegRules.lean keeps the invariants of the state (Laws/Kept.lean). -/

set_option linter.all false
set_option Elab.async false

namespace Sys2Proof.Machine

open Sys2Proof

theorem State.addShadow_kept {κ : Keep} {s : State} {f : FieldAt} {v : Nat} {priv : Bool} (hk : Kept κ s) :
    Kept κ (State.addShadow s f v priv) := by
  unfold State.addShadow
  (try simp only [])
  with_reducible repeat' (first | exact hk | exact id | split | fail_if_no_progress apply Kept.rest | apply Kept.reg_)

theorem State.putShadows_kept {κ : Keep} {s : State} {l : List Shadow} (hk : Kept κ s) :
    Kept κ (State.putShadows s l) := by
  unfold State.putShadows
  (try simp only [])
  with_reducible repeat' (first | exact hk | exact id | apply State.wrB_kept | apply State.wr_kept | refine State.over_kept (fun _ _ hk => ?_) ?_ | apply ite_kept | split)

theorem State.ahead_kept {κ : Keep} {s : State} (hk : Kept κ s) :
    Kept κ (State.ahead s) := by
  unfold State.ahead
  (try simp only [])
  with_reducible repeat' (first | exact hk | exact id | apply State.putShadows_kept | split)

end Sys2Proof.Machine
end

