-- ==== Sys2Proof/Laws/KeptImage.lean ====
section
/-! SUPPORT. Laws/KeptImage.lean: every operation of Machine/Image.lean keeps the invariants of the state (Laws/Kept.lean). -/

set_option linter.all false
set_option Elab.async false

namespace Sys2Proof.Machine

open Sys2Proof

theorem State.norPut_kept {κ : Keep} {s : State} {a : Nat} {bytes : List Nat} (hk : Kept κ s) (h_nor : ∀ x, κ.norIs x := by assumption) :
    Kept κ (State.norPut s a bytes) := by
  unfold State.norPut
  exact hk.nor_ (flashPut_wf _ _ _) fun _ => h_nor _

theorem State.norProgram_kept {κ : Keep} {s : State} {a : Nat} {bytes : List Nat} (hk : Kept κ s) (h_nor : ∀ x, κ.norIs x := by assumption) :
    Kept κ (State.norProgram s a bytes) := by
  unfold State.norProgram
  (try simp only [])
  with_reducible repeat' (first | exact hk | exact h_nor | apply State.norPut_kept | split)

theorem State.norOthers_kept {κ : Keep} {s : State} {flash : List (Nat × List Nat)} (hk : Kept κ s) (h_nor : ∀ x, κ.norIs x := by assumption) :
    Kept κ (State.norOthers s flash) := by
  unfold State.norOthers
  (try simp only [])
  with_reducible repeat' (first | exact hk | exact h_nor | exact id | apply State.norPut_kept | refine State.over_kept (fun _ _ hk => ?_) ?_ | split)

theorem State.putContexts_kept {κ : Keep} {s : State} {n : Nat} {words : List Nat} (hk : Kept κ s) :
    Kept κ (State.putContexts s n words) := by
  have key : ∀ (m : List (Nat × Word)), smWf resetWord m = true → smWf resetWord (fileSplice m (0x1000000 + 64 * n) (0x1000000 + 64 * n + 4 * words.length)
      (((List.range words.length).zip words).map fun x => contextWord (0x1000000 + 64 * n + 4 * x.1) x.2)) = true := by
    intro m hm
    have hz : ((List.range words.length).zip words).Pairwise fun x y => x.1 < y.1 := by
      have h := List.pairwise_lt_range (n := words.length)
      rw [← List.map_fst_zip (l₁ := List.range words.length) (l₂ := words) (by simp)] at h
      exact List.pairwise_map.1 h
    refine fileSplice_wf m _ _ _ hm ?_ ?_ (by omega)
    · rw [List.pairwise_map]
      refine hz.imp ?_
      intro x y h
      show 0x1000000 + 64 * n + 4 * x.1 < 0x1000000 + 64 * n + 4 * y.1
      omega
    · intro e he
      obtain ⟨x, hx, rfl⟩ := List.mem_map.1 he
      have h1 := List.mem_range.1 (List.of_mem_zip hx).1
      show 0x1000000 + 64 * n ≤ 0x1000000 + 64 * n + 4 * x.1 ∧ 0x1000000 + 64 * n + 4 * x.1 < 0x1000000 + 64 * n + 4 * words.length
      omega
  exact hk.reg_ id (key _) (key _)

theorem State.imageDefaults_kept {κ : Keep} {s : State} {named : List Nat} (hk : Kept κ s) :
    Kept κ (State.imageDefaults s named) := by
  unfold State.imageDefaults
  (try simp only [])
  with_reducible repeat' (first | exact hk | exact id | apply State.wr_kept | refine State.over_kept (fun _ _ hk => ?_) ?_ | apply ite_kept | split)

theorem State.alignAtStart_kept {κ : Keep} {s : State} (hk : Kept κ s) :
    Kept κ (State.alignAtStart s) := by
  unfold State.alignAtStart
  (try simp only [])
  with_reducible repeat' (first | exact hk | apply State.evalAlignment_kept | split | fail_if_no_progress apply Kept.rest)

theorem need_bind {α : Type} {c : Bool} {p : Place} {f : Unit → Except Place α} {x : α} (h : (need c p >>= f) = .ok x) : f () = .ok x := by
  unfold need at h
  split at h
  · exact h
  · cases h
theorem bind_ok {ε α β : Type} {a : Except ε α} {f : α → Except ε β} {x : β} (h : (a >>= f) = .ok x) : ∃ y, a = .ok y ∧ f y = .ok x := by
  cases a with
  | error e => cases h
  | ok y => exact ⟨y, rfl, h⟩
theorem foldlM_ok {ε σ α : Type} (P : σ → Prop) (f : σ → α → Except ε σ) (hf : ∀ s a t, P s → f s a = .ok t → P t) (l : List α) (s t : σ)
    (hs : P s) (h : l.foldlM f s = .ok t) : P t := by
  induction l generalizing s with
  | nil => simp only [List.foldlM_nil] at h; cases h; exact hs
  | cons a l ih =>
    simp only [List.foldlM_cons] at h
    obtain ⟨y, h1, h2⟩ := bind_ok h
    exact ih y (hf s a y hs h1) h2
theorem State.loadDevice_kept {κ : Keep} {s : State} {g : Gift} {sec : Section} {b : List Nat} {x : State × Gift} (hk : Kept κ s) (h : s.loadDevice g sec b = .ok x) :
    Kept κ x.1 := by
  unfold State.loadDevice at h
  have h := need_bind h
  cases h
  exact State.setWord_kept (State.setWord_kept hk)
theorem State.loadFabricSection_kept {κ : Keep} {s : State} {sec : Section} {b : List Nat} {x : State} (hk : Kept κ s) (h_fabric : ∀ x, κ.fabric x := by assumption) (h : s.loadFabricSection sec b = .ok x) :
    Kept κ x := by
  unfold State.loadFabricSection at h
  have h := need_bind (need_bind (need_bind h))
  cases h
  exact State.setWordB_kept (State.setWordB_kept (Kept.fabric_ hk fun _ => h_fabric _))
theorem State.loadContexts_kept {κ : Keep} {s : State} {sec : Section} {b : List Nat} {x : State} (hk : Kept κ s) (h : s.loadContexts sec b = .ok x) :
    Kept κ x := by
  unfold State.loadContexts at h
  refine foldlM_ok (fun t => Kept κ t) _ ?_ _ _ _ hk h
  intro u a t hu ht
  have ht := need_bind ht
  cases ht
  exact State.putContexts_kept hu
theorem State.loadRegister_kept {κ : Keep} {s : State} {p : Place} {a w : Nat} {x : State} (hk : Kept κ s) (h : s.loadRegister p a w = .ok x) : Kept κ x := by
  unfold State.loadRegister at h
  split at h
  · cases h
  · have h := need_bind (need_bind h)
    cases h
    split
    · exact State.setWordB_kept hk
    · exact State.setWord_kept hk
theorem State.loadProtection_kept {κ : Keep} {s : State} {sec : Section} {b : List Nat} {x : State} (hk : Kept κ s) (h : s.loadProtection sec b = .ok x) :
    Kept κ x := by
  unfold State.loadProtection at h
  have h := need_bind (need_bind h)
  cases h
  exact State.over_kept (fun _ _ hk => State.putRecord13_kept hk) (State.wr_kept (State.setWord_kept hk))
theorem State.loadCal_kept {κ : Keep} {s : State} {p : Place} {mine : Bool} {a w : Nat} {x : State} (hk : Kept κ s) (h : s.loadCal p mine a w = .ok x) :
    Kept κ x := by
  unfold State.loadCal at h
  split at h
  · cases h
  · have h := need_bind h
    split at h
    · cases h; exact hk
    · cases h
      split
      · exact State.wr_kept (State.setWord_kept hk)
      · exact State.setWord_kept hk
theorem State.loadCalibration_kept {κ : Keep} {s : State} {sec : Section} {b : List Nat} {x : State} (hk : Kept κ s) (h : s.loadCalibration sec b = .ok x) :
    Kept κ x := by
  unfold State.loadCalibration at h
  refine foldlM_ok (fun t => Kept κ t) _ ?_ _ _ _ hk h
  intro u a t hu ht
  refine foldlM_ok (fun t => Kept κ t) _ ?_ _ _ _ hu ht
  intro u a t hu ht
  exact State.loadCal_kept hu ht
theorem State.loadT2Heater_kept {κ : Keep} {s : State} {g : Gift} {p : Place} {b : List Nat} {x : State × Gift} (hk : Kept κ s) (h : s.loadT2Heater g p b = .ok x) :
    Kept κ x.1 := by
  unfold State.loadT2Heater at h
  have h := need_bind h
  cases h
  exact State.setWord_kept (State.setWord_kept hk)
theorem State.loadT2Primer_kept {κ : Keep} {s : State} {g : Gift} {p : Place} {b : List Nat} {x : State × Gift} (hk : Kept κ s) (h : s.loadT2Primer g p b = .ok x) :
    Kept κ x.1 := by
  unfold State.loadT2Primer at h
  have h := need_bind h
  cases h
  exact State.setWord_kept hk
theorem State.loadT2Loop_kept {κ : Keep} {s : State} {g : Gift} {p : Place} {b : List Nat} {x : State × Gift} (hk : Kept κ s) (h : s.loadT2Loop g p b = .ok x) :
    Kept κ x.1 := by
  unfold State.loadT2Loop at h
  have h := need_bind h
  cases h
  exact State.putContexts_kept hk
theorem State.loadImage_kept {κ : Keep} {s : State} {img : List Nat} {x : State × Gift} (hk : Kept κ s) (h_fabric : ∀ x, κ.fabric x := by assumption) (h : s.loadImage img = .ok x) : Kept κ x.1 := by
  unfold State.loadImage at h
  have h := need_bind (need_bind h)
  obtain ⟨y1, h1, h⟩ := bind_ok h
  obtain ⟨y2, h2, h⟩ := bind_ok h
  obtain ⟨y3, h3, h⟩ := bind_ok h
  obtain ⟨y4, h4, h⟩ := bind_ok h
  obtain ⟨y5, h5, h⟩ := bind_ok h
  obtain ⟨y6, h6, h⟩ := bind_ok h
  obtain ⟨y7, h7, h⟩ := bind_ok h
  have h := need_bind h
  obtain ⟨y8, h8, h⟩ := bind_ok h
  obtain ⟨y9, h9, h⟩ := bind_ok h
  have h := need_bind (need_bind (need_bind h))
  cases h
  have k1 := foldlM_ok (fun t : State × Gift => Kept κ t.1) _ (fun u a t hu ht => State.loadDevice_kept hu ht) _ _ _ hk h1
  have k2 := foldlM_ok (fun t : State => Kept κ t) _ (fun u a t hu ht => State.loadFabricSection_kept hu h_fabric ht) _ _ _ k1 h2
  have k3 := foldlM_ok (fun t : State => Kept κ t) _ (fun u a t hu ht => State.loadContexts_kept hu ht) _ _ _ k2 h3
  have k4 := foldlM_ok (fun t : State × Gift => Kept κ t.1) _ (by
    intro u a t hu ht
    refine foldlM_ok (fun t : State × Gift => Kept κ t.1) _ ?_ _ _ _ hu ht
    intro u a t hu ht
    obtain ⟨z, hz, ht⟩ := bind_ok ht
    have ht := need_bind ht
    cases ht
    exact State.loadRegister_kept hu hz) _ _ _ k3 h4
  have k5 := foldlM_ok (fun t : State × Gift => Kept κ t.1) _ (fun u a t hu ht =>
    foldlM_ok (fun t : State × Gift => Kept κ t.1) _ (fun u a t hu ht => State.loadT2Heater_kept hu ht) _ _ _ hu ht) _ _ _ k4 h5
  have k6 := foldlM_ok (fun t : State × Gift => Kept κ t.1) _ (fun u a t hu ht =>
    foldlM_ok (fun t : State × Gift => Kept κ t.1) _ (fun u a t hu ht => State.loadT2Loop_kept hu ht) _ _ _ hu ht) _ _ _ k5 h6
  have k7 := foldlM_ok (fun t : State × Gift => Kept κ t.1) _ (fun u a t hu ht =>
    foldlM_ok (fun t : State × Gift => Kept κ t.1) _ (fun u a t hu ht => State.loadT2Primer_kept hu ht) _ _ _ hu ht) _ _ _ k6 h7
  have k8 := foldlM_ok (fun t : State => Kept κ t) _ (fun u a t hu ht => State.loadCalibration_kept hu ht) _ _ _ (State.imageDefaults_kept k7) h8
  have k9 := foldlM_ok (fun t : State => Kept κ t) _ (fun u a t hu ht => State.loadProtection_kept hu ht) _ _ _ k8 h9
  exact State.alignAtStart_kept k9

end Sys2Proof.Machine
end

