-- ==== Sys2Proof/Laws/KeptBoot.lean ====
section
/-! SUPPORT. Laws/KeptBoot.lean: every operation of Machine/Boot.lean keeps the invariants of the state (Laws/Kept.lean). -/

set_option linter.all false
set_option Elab.async false

namespace Sys2Proof.Machine

open Sys2Proof

theorem State.inReset_kept {κ : Keep} {s : State} {vaon resetN : Bool} {phase : BootPhase} (hk : Kept κ s) (h_clk : ∀ x, κ.clk x := by assumption) (h_mode : ∀ x, κ.mode x := by assumption) (h_fabric : ∀ x, κ.fabric x := by assumption) (h_image : ∀ x, κ.image x := by assumption) :
    Kept κ (State.inReset s vaon resetN phase) := by
  unfold State.inReset
  simp only []
  split
  · refine State.setPw_kept (foldl_kept (fun _ _ h => State.setWord_kept h) ?_)
    exact ⟨hk.queue, rfl, rfl, rfl, rfl, rfl, rfl, hk.provisioned, hk.floor, (List.length_map _).trans hk.keys, rfl, rfl, rfl, rfl, rfl, rfl, rfl,
      rfl, rfl, rfl, rfl, hk.nor, h_clk _, h_mode _, h_fabric _, h_image _, hk.norIs⟩
  · exact ⟨hk.queue, rfl, rfl, rfl, rfl, rfl, rfl, hk.provisioned, hk.floor, (List.length_map _).trans hk.keys, rfl, rfl, rfl, rfl, rfl, rfl, rfl,
      rfl, rfl, rfl, rfl, hk.nor, h_clk _, h_mode _, h_fabric _, h_image _, hk.norIs⟩

theorem State.enterOff_kept {κ : Keep} {s : State} (hk : Kept κ s) (h_clk : ∀ x, κ.clk x := by assumption) (h_mode : ∀ x, κ.mode x := by assumption) (h_fabric : ∀ x, κ.fabric x := by assumption) (h_image : ∀ x, κ.image x := by assumption) :
    Kept κ (State.enterOff s) := by
  unfold State.enterOff
  (try simp only [])
  with_reducible repeat' (first | exact hk | exact h_clk | exact h_mode | exact h_fabric | exact h_image | exact id | apply State.inReset_kept | apply ite_kept | split)

theorem State.showPm_kept {κ : Keep} {s : State} (hk : Kept κ s) :
    Kept κ (State.showPm s) := by
  unfold State.showPm
  (try simp only [])
  with_reducible repeat' (first | exact hk | apply State.wr_kept | (rename_i e; refine pair_snd e ?_) | (rename_i e; refine pair_fst e ?_) | (rename_i e; refine pair_trd e ?_) | split)

theorem State.postMortem_kept {κ : Keep} {s : State} {cause : Nat} (hk : Kept κ s) (h_nor : ∀ x, κ.norIs x := by assumption) :
    Kept κ (State.postMortem s cause) := by
  unfold State.postMortem
  (try simp only [])
  with_reducible repeat' (first | exact hk | exact h_nor | exact id | apply State.showPm_kept | apply State.norProgram_kept | apply State.setBoot_kept | apply ite_kept | (rename_i e; refine pair_snd e ?_) | (rename_i e; refine pair_fst e ?_) | (rename_i e; refine pair_trd e ?_) | split | fail_if_no_progress apply Kept.rest)

theorem State.tripNor_kept {κ : Keep} {s : State} (hk : Kept κ s) (h_nor : ∀ x, κ.norIs x := by assumption) :
    Kept κ (State.tripNor s) := by
  unfold State.tripNor
  (try simp only [])
  with_reducible repeat' (first | exact hk | exact h_nor | exact id | apply State.norProgram_kept | apply State.free_kept | apply State.wr_kept | apply State.setBoot_kept | apply ite_kept | exact (List.length_map _).trans | (rename_i e; refine pair_snd e ?_) | (rename_i e; refine pair_fst e ?_) | (rename_i e; refine pair_trd e ?_) | split | fail_if_no_progress apply Kept.rest)

theorem State.noteMortem_kept {κ : Keep} {s before : State} (hk : Kept κ s) (h_nor : ∀ x, κ.norIs x := by assumption) :
    Kept κ (State.noteMortem s before) := by
  unfold State.noteMortem
  (try simp only [])
  with_reducible repeat' (first | exact hk | exact h_nor | apply State.tripNor_kept | apply State.postMortem_kept | apply ite_kept | split)

theorem State.pmErase_kept {κ : Keep} {s : State} (hk : Kept κ s) (h_nor : ∀ x, κ.norIs x := by assumption) :
    Kept κ (State.pmErase s) := by
  unfold State.pmErase
  (try simp only [])
  with_reducible repeat' (first | exact hk | exact h_nor | exact id | apply State.norPut_kept | apply State.setBoot_kept | apply ite_kept | (rename_i e; refine pair_snd e ?_) | (rename_i e; refine pair_fst e ?_) | (rename_i e; refine pair_trd e ?_) | split | fail_if_no_progress apply Kept.rest)

theorem State.startUp_kept {κ : Keep} {s : State} {bootMode pos sba : Nat} {trust : Bool} {flash : List (Nat × List Nat)} (hk : Kept κ s) (h_clk : ∀ x, κ.clk x := by assumption) (h_nor : ∀ x, κ.norIs x := by assumption) :
    Kept κ (State.startUp s bootMode pos sba trust flash) := by
  unfold State.startUp
  (try simp only [])
  with_reducible repeat' (first | exact hk | exact h_clk | exact h_nor | exact id | apply State.showPm_kept | apply State.norOthers_kept | apply State.powerDomain_kept | apply State.loadFabric_kept | apply State.loadDomains_kept | apply State.wr_kept | apply State.setBoot_kept | refine State.over_kept (fun _ _ hk => ?_) ?_ | apply ite_kept | split | fail_if_no_progress apply Kept.rest)

theorem State.deviceReady_kept {κ : Keep} {s : State} (hk : Kept κ s) :
    Kept κ (State.deviceReady s) := by
  unfold State.deviceReady
  (try simp only [])
  with_reducible repeat' (first | exact hk | exact id | apply State.wr_kept | apply State.setBoot_kept | apply ite_kept | split | fail_if_no_progress apply Kept.rest)

theorem State.beginPass_kept {κ : Keep} {s : State} (hk : Kept κ s) :
    Kept κ (State.beginPass s) := by
  unfold State.beginPass
  (try simp only [])
  with_reducible repeat' (first | exact hk | exact id | apply State.setBoot_kept | split | fail_if_no_progress apply Kept.rest)

theorem State.loadInRise_kept {κ : Keep} {s : State} (hk : Kept κ s) :
    Kept κ (State.loadInRise s) := by
  unfold State.loadInRise
  (try simp only [])
  with_reducible repeat' (first | exact hk | exact id | apply State.beginPass_kept | apply State.setBoot_kept | apply ite_kept | split | fail_if_no_progress apply Kept.rest)

theorem State.loadInFall_kept {κ : Keep} {s : State} (hk : Kept κ s) :
    Kept κ (State.loadInFall s) := by
  unfold State.loadInFall
  (try simp only [])
  with_reducible repeat' (first | exact hk | exact id | apply State.setBoot_kept | apply ite_kept | split | fail_if_no_progress apply Kept.rest)

theorem State.firstPassTimeout_kept {κ : Keep} {s : State} (hk : Kept κ s) :
    Kept κ (State.firstPassTimeout s) := by
  unfold State.firstPassTimeout
  (try simp only [])
  with_reducible repeat' (first | exact hk | exact id | apply State.beginPass_kept | apply ite_kept | split)

theorem State.secondPass_kept {κ : Keep} {s : State} (hk : Kept κ s) :
    Kept κ (State.secondPass s) := by
  unfold State.secondPass
  (try simp only [])
  with_reducible repeat' (first | exact hk | exact id | apply State.beginPass_kept | apply ite_kept | split)

theorem State.selftestDone_kept {κ : Keep} {s : State} {p : Plane} {bank : Option (Nat × Nat)} {core : Bool} (hk : Kept κ s) :
    Kept κ (State.selftestDone s p bank core) := by
  unfold State.selftestDone
  (try simp only [])
  with_reducible repeat' (first | exact hk | exact id | apply State.wr_kept | apply State.setBoot_kept | apply ite_kept | (rename_i e; refine pair_snd e ?_) | (rename_i e; refine pair_fst e ?_) | (rename_i e; refine pair_trd e ?_) | split | fail_if_no_progress apply Kept.rest)

theorem State.slotResult_kept {κ : Keep} {s : State} {slot step sec off : Nat} (hk : Kept κ s) :
    Kept κ (State.slotResult s slot step sec off) := by
  unfold State.slotResult
  (try simp only [])
  with_reducible repeat' (first | exact hk | apply State.wr_kept | split)

theorem State.showHeaders_kept {κ : Keep} {s : State} (hk : Kept κ s) :
    Kept κ (State.showHeaders s) := by
  unfold State.showHeaders
  (try simp only [])
  with_reducible repeat' (first | exact hk | exact id | apply State.slotResult_kept | refine State.over_kept (fun _ _ hk => ?_) ?_ | apply ite_kept | split)

theorem State.checkImage_kept {κ : Keep} {s : State} {img : List Nat} {x : State × Gift} (hk : Kept κ s) (h_fabric : ∀ x, κ.fabric x := by assumption) (h : s.checkImage img = .ok x) :
    Kept κ x.1 := by
  unfold State.checkImage at h
  simp only [] at h
  (repeat' split at h) <;> first | (cases h; done) | skip
  next y hy => cases h; exact State.loadImage_kept hk h_fabric hy

theorem State.noImage_kept {κ : Keep} {s : State} (hk : Kept κ s) :
    Kept κ (State.noImage s) := by
  unfold State.noImage
  (try simp only [])
  with_reducible repeat' (first | exact hk | exact id | apply State.wr_kept | apply State.setBoot_kept | split | fail_if_no_progress apply Kept.rest)

theorem State.trySession_kept {κ : Keep} {s : State} (hk : Kept κ s) :
    Kept κ (State.trySession s) := by
  unfold State.trySession
  (try simp only [])
  with_reducible repeat' (first | exact hk | exact id | apply State.startMtp_kept | apply State.wr_kept | apply ite_kept | (rename_i e; refine pair_snd e ?_) | (rename_i e; refine pair_fst e ?_) | (rename_i e; refine pair_trd e ?_) | split)

theorem State.sessionFixed_kept {κ : Keep} {s before : State} (hk : Kept κ s) :
    Kept κ (State.sessionFixed s before) := by
  unfold State.sessionFixed
  (try simp only [])
  with_reducible repeat' (first | exact hk | exact id | apply State.alert_kept | apply State.wr_kept | apply State.setBoot_kept | apply ite_kept | split | fail_if_no_progress apply Kept.rest | apply Kept.links_)

theorem State.holdContexts_kept {κ : Keep} {s : State} (hk : Kept κ s) :
    Kept κ (State.holdContexts s) := by
  have key : ∀ m : List (Nat × Word), smWf resetWord m = true → smWf resetWord ((m.map fun e => if 0x1000000 ≤ e.1 ∧ e.1 < 0x1280000 ∧ e.1 % 64 = 0x30 then (e.1, BitVec.ofNat 32 (putBits e.2.toNat 11 9 0)) else e).filter
      fun e => decide (e.2 ≠ resetWord e.1)) = true := by
    intro m hm
    obtain ⟨hp, -⟩ := (smWf_iff resetWord m).1 hm
    rw [smWf_iff]
    refine ⟨List.Pairwise.filter _ ?_, fun e he => by simpa using (List.mem_filter.1 he).2⟩
    rw [List.pairwise_map]
    refine hp.imp ?_
    intro x y h
    (repeat' split) <;> exact h
  exact hk.reg_ id (key _) (key _)

theorem State.imageLevels_kept {κ : Keep} {s : State} (hk : Kept κ s) :
    Kept κ (State.imageLevels s) := by
  unfold State.imageLevels
  (try simp only [])
  with_reducible repeat' (first | exact hk | exact id | apply State.putLevel_kept | refine State.over_kept (fun _ _ hk => ?_) ?_ | apply ite_kept | split | fail_if_no_progress apply Kept.rest)

theorem State.fillBuckets_kept {κ : Keep} {s : State} (hk : Kept κ s) :
    Kept κ (State.fillBuckets s) := by
  unfold State.fillBuckets
  (try simp only [])
  with_reducible repeat' (first | exact hk | exact id | apply State.wr_kept | refine State.over_kept (fun _ _ hk => ?_) ?_ | split)

theorem State.accept__kept {κ : Keep} {s : State} {slot : Nat} {img : List Nat} {g : Gift} (hk : Kept κ s) (h_image : ∀ x, κ.image x := by assumption) :
    Kept κ (State.accept_ s slot img g) := by
  unfold State.accept_
  have h1 : ∀ u : State, Kept κ u → Kept κ { u with imageApplied := true } := fun u hu => hu.image_ fun _ => h_image _
  (try simp only [])
  with_reducible repeat' (first | exact hk | apply h1 | exact h_image | exact fun _ => h_image _ | exact id | apply State.fillBuckets_kept | apply State.imageLevels_kept | apply State.holdContexts_kept | apply State.trySession_kept | apply State.slotResult_kept | apply State.checkPrated_kept | apply State.updCal_kept | apply State.wr_kept | apply State.setWord_kept | refine State.setBoot_kept ?_ (fun _ => Kept.shared (k := κ) ?_) (fun _ => Kept.privA (k := κ) ?_) | refine State.over_kept (fun _ _ hk => ?_) ?_ | apply ite_kept | split | fail_if_no_progress apply Kept.rest | fail_if_no_progress apply Kept.image_)

theorem State.readSlot_kept {κ : Keep} {s : State} {slot : Nat} (hk : Kept κ s) (h_fabric : ∀ x, κ.fabric x := by assumption) (h_image : ∀ x, κ.image x := by assumption) :
    Kept κ (State.readSlot s slot) := by
  unfold State.readSlot
  simp only []
  have hb : ∀ (t : State), Kept κ t → Kept κ ((t.bump R.BT_STATUS_PASSES 1).setBoot fun x => { x with tried := x.tried ++ [slot], waitPass := none }) :=
    fun t ht => State.setBoot_kept (State.bump_kept ht) id id
  have h0 := State.wr_kept (f := R.BT_STATUS_RESULT) (v := bootLoading) (hb s hk)
  generalize ((s.bump R.BT_STATUS_PASSES 1).setBoot fun x => { x with tried := x.tried ++ [slot], waitPass := none }).wr R.BT_STATUS_RESULT bootLoading = t at h0 ⊢
  have hp : ∀ u : State, Kept κ u → Kept κ (u.setBoot fun x => { x with passing := false }) :=
    fun u hu => State.setBoot_kept hu id id
  split
  · next u g h => exact State.accept__kept (State.checkImage_kept h0 h_fabric h)
  · next step place h =>
    rcases place with _ | ⟨sec, off⟩
    · have h1 := State.free_kept h0
      simp only []
      split
      · split
        · exact State.noImage_kept (hp _ (State.slotResult_kept h1))
        · exact hp _ (State.slotResult_kept h1)
      · split
        · exact State.noImage_kept (State.slotResult_kept h1)
        · exact State.slotResult_kept h1
    · simp only []
      split
      · split
        · exact State.noImage_kept (hp _ (State.slotResult_kept h0))
        · exact hp _ (State.slotResult_kept h0)
      · split
        · exact State.noImage_kept (State.slotResult_kept h0)
        · exact State.slotResult_kept h0

theorem State.passReadEnd_kept {κ : Keep} {s : State} {slot : Nat} {density : Option Nat} {flash : List (Nat × List Nat)} (hk : Kept κ s) (h_fabric : ∀ x, κ.fabric x := by assumption) (h_image : ∀ x, κ.image x := by assumption) (h_nor : ∀ x, κ.norIs x := by assumption) :
    Kept κ (State.passReadEnd s slot density flash) := by
  unfold State.passReadEnd
  (try simp only [])
  with_reducible repeat' (first | exact hk | exact h_fabric | exact h_image | exact h_nor | exact id | apply State.readSlot_kept | apply State.noImage_kept | apply State.showHeaders_kept | apply State.slotResult_kept | apply State.norOthers_kept | apply State.wr_kept | apply State.setBoot_kept | apply ite_kept | (rename_i e; refine pair_snd e ?_) | (rename_i e; refine pair_fst e ?_) | (rename_i e; refine pair_trd e ?_) | split | fail_if_no_progress apply Kept.rest)

theorem State.passRequest_kept {κ : Keep} {s : State} (hk : Kept κ s) :
    Kept κ (State.passRequest s) := by
  unfold State.passRequest
  (try simp only [])
  with_reducible repeat' (first | exact hk | exact id | apply State.setBoot_kept | apply ite_kept | split | fail_if_no_progress apply Kept.rest)

theorem State.passRetry_kept {κ : Keep} {s : State} (hk : Kept κ s) :
    Kept κ (State.passRetry s) := by
  unfold State.passRetry
  (try simp only [])
  with_reducible repeat' (first | exact hk | exact id | apply State.wr_kept | apply State.setBoot_kept | apply ite_kept | split | fail_if_no_progress apply Kept.rest)

theorem State.startContext_kept {κ : Keep} {s : State} {n : Nat} (hk : Kept κ s) :
    Kept κ (State.startContext s n) := by
  unfold State.startContext
  (try simp only [])
  with_reducible repeat' (first | exact hk | apply State.activate_kept | apply State.putState_kept | apply State.bump_kept | apply State.wr_kept | apply ite_kept | split)

theorem State.runEntry_kept {κ : Keep} {s : State} {ms : Nat} (hk : Kept κ s) (h_mode : ∀ x, κ.mode x := by assumption) :
    Kept κ (State.runEntry s ms) := by
  unfold State.runEntry
  (try simp only [])
  with_reducible repeat' (first | exact hk | exact h_mode | exact fun _ => h_mode _ | exact id | apply State.startContext_kept | apply State.enterSolo_kept | apply State.requestCals_kept | apply State.validityPass_kept | apply State.clearChanged_kept | apply State.bindSlots_kept | apply State.loadAmps_kept | apply State.alertState_kept | apply State.raise_kept | apply State.wr_kept | apply State.setBoot_kept | refine State.over_kept (fun _ _ hk => ?_) ?_ | apply ite_kept | exact (List.length_map _).trans | split | fail_if_no_progress apply Kept.rest | fail_if_no_progress apply Kept.mode_)

theorem State.watchStep_kept {κ : Keep} {s : State} {updated : List Nat} (hk : Kept κ s) :
    Kept κ (State.watchStep s updated) := by
  unfold State.watchStep
  (try simp only [])
  with_reducible repeat' (first | exact hk | exact id | apply State.setBoot_kept | apply ite_kept | exact (List.length_map _).trans | split | fail_if_no_progress apply Kept.rest)

theorem State.lockedNow_kept {κ : Keep} {s : State} {ms : Nat} (hk : Kept κ s) :
    Kept κ (State.lockedNow s ms) := by
  unfold State.lockedNow
  (try simp only [])
  with_reducible repeat' (first | exact hk | exact id | apply State.wr_kept | apply ite_kept | split)

theorem State.bootStatus_kept {κ : Keep} {s : State} {c serial state slot sec digest : Nat} (hk : Kept κ s) :
    Kept κ (State.bootStatus s c serial state slot sec digest) := by
  unfold State.bootStatus
  (try simp only [])
  with_reducible repeat' (first | exact hk | exact id | apply State.wr_kept | apply State.setBoot_kept | apply ite_kept | split | fail_if_no_progress apply Kept.rest)

theorem State.ringFrame_kept {κ : Keep} {s : State} (hk : Kept κ s) :
    Kept κ (State.ringFrame s) := by
  unfold State.ringFrame
  (try simp only [])
  with_reducible repeat' (first | exact hk | exact id | apply State.bootStatus_kept | apply State.wr_kept | apply State.setBoot_kept | exact (List.length_map _).trans | split | fail_if_no_progress apply Kept.rest)

theorem State.norStart_kept {κ : Keep} {s : State} {op addr len : Nat} (hk : Kept κ s) :
    Kept κ (State.norStart s op addr len) := by
  unfold State.norStart
  (try simp only [])
  with_reducible repeat' (first | exact hk | exact id | apply State.wr_kept | apply State.setBoot_kept | split | fail_if_no_progress apply Kept.rest)

theorem State.putBuffer_kept {κ : Keep} {s : State} {b : List Nat} (hk : Kept κ s) :
    Kept κ (State.putBuffer s b) := by
  unfold State.putBuffer
  (try simp only [])
  with_reducible repeat' (first | exact hk | exact id | apply State.setWord_kept | refine State.over_kept (fun _ _ hk => ?_) ?_ | split)

theorem State.norDone_kept {κ : Keep} {s : State} {flash : List (Nat × List Nat)} (hk : Kept κ s) (h_nor : ∀ x, κ.norIs x := by assumption) :
    Kept κ (State.norDone s flash) := by
  unfold State.norDone
  (try simp only [])
  with_reducible repeat' (first | exact hk | exact h_nor | exact id | apply State.putBuffer_kept | apply State.norOthers_kept | apply State.norProgram_kept | apply State.norPut_kept | apply State.wr_kept | apply State.setBoot_kept | (rename_i e; refine pair_snd e ?_) | (rename_i e; refine pair_fst e ?_) | (rename_i e; refine pair_trd e ?_) | split | fail_if_no_progress apply Kept.rest)

theorem State.askReboot_kept {κ : Keep} {s : State} {slot : Nat} (hk : Kept κ s) :
    Kept κ (State.askReboot s slot) := by
  unfold State.askReboot
  (try simp only [])
  with_reducible repeat' (first | exact hk | exact id | apply State.setBoot_kept | split | fail_if_no_progress apply Kept.rest)

theorem State.cmdReboot_kept {κ : Keep} {s : State} {h : CmdHead} {slot : Nat} (hk : Kept κ s) :
    Kept κ (State.cmdReboot s h slot) := by
  unfold State.cmdReboot
  (try simp only [])
  with_reducible repeat' (first | exact hk | apply State.askReboot_kept | apply State.answer_kept | apply ite_kept | split)

theorem State.rebootReset_kept {κ : Keep} {s : State} (hk : Kept κ s) (h_clk : ∀ x, κ.clk x := by assumption) (h_mode : ∀ x, κ.mode x := by assumption) (h_fabric : ∀ x, κ.fabric x := by assumption) (h_image : ∀ x, κ.image x := by assumption) :
    Kept κ (State.rebootReset s) := by
  unfold State.rebootReset
  (try simp only [])
  with_reducible repeat' (first | exact hk | exact h_clk | exact h_mode | exact h_fabric | exact h_image | exact id | apply State.inReset_kept | apply State.setBoot_kept | apply ite_kept | (rename_i e; refine pair_snd e ?_) | (rename_i e; refine pair_fst e ?_) | (rename_i e; refine pair_trd e ?_) | split | fail_if_no_progress apply Kept.rest)

end Sys2Proof.Machine
end

