-- ==== Sys2Proof/Laws/KeptRegAccess.lean ====
section
/-! SUPPORT. Laws/KeptRegAccess.lean: every operation of Machine/RegAccess.lean keeps the invariants of the state (Laws/Kept.lean). -/

set_option linter.all false
set_option Elab.async false

namespace Sys2Proof.Machine

open Sys2Proof

theorem State.dropHolder_kept {κ : Keep} {s : State} {r : Requester} (hk : Kept κ s) :
    Kept κ (State.dropHolder s r) := by
  unfold State.dropHolder
  (try simp only [])
  with_reducible repeat' (first | exact hk | exact id | apply State.setReg_kept | split | fail_if_no_progress apply Kept.rest)

theorem State.dropHeld_kept {κ : Keep} {s : State} {r : Requester} (hk : Kept κ s) :
    Kept κ (State.dropHeld s r) := by
  unfold State.dropHeld
  (try simp only [])
  with_reducible repeat' (first | exact hk | exact id | apply State.setReg_kept | split | fail_if_no_progress apply Kept.rest)

theorem State.readEffect_kept {κ : Keep} {s : State} {r : Requester} {p : Plane} {h : RegHit} {a : Nat} (hk : Kept κ s) :
    Kept κ (State.readEffect s r p h a) := by
  unfold State.readEffect
  (try simp only [])
  with_reducible repeat' (first | exact hk | exact id | apply State.tsPop_kept | apply State.hkaPop_kept | apply State.wr_kept | apply State.setWord_kept | apply State.setWordP_kept | refine foldl_kept (fun _ _ hk => ?_) ?_ | refine foldl_fst_kept (fun _ _ hk => ?_) ?_ | refine foldl_snd_kept (fun _ _ hk => ?_) ?_ | apply ite_kept | (rename_i e; refine pair_snd e ?_) | (rename_i e; refine pair_fst e ?_) | (rename_i e; refine pair_trd e ?_) | split)

theorem State.readOne_kept {κ : Keep} {s : State} {r : Requester} {p : Plane} {h : RegHit} {a : Nat} (hk : Kept κ s) :
    Kept κ ((State.readOne s r p h a).2) := by
  unfold State.readOne
  (try simp only [])
  with_reducible repeat' (first | exact hk | exact id | apply State.readEffect_kept | apply State.dropHolder_kept | apply State.tsPop_kept | apply State.setReg_kept | apply ite_kept | (rename_i e; refine pair_snd e ?_) | (rename_i e; refine pair_fst e ?_) | (rename_i e; refine pair_trd e ?_) | split | fail_if_no_progress apply Kept.rest)

theorem State.readWord_kept {κ : Keep} {s : State} {r : Requester} {plane : Option Plane} {a : Nat} (hk : Kept κ s) :
    Kept κ ((State.readWord s r plane a).2) := by
  unfold State.readWord
  (try simp only [])
  with_reducible repeat' (first | exact hk | apply State.readOne_kept | apply ite_kept | (rename_i e; refine pair_snd e ?_) | (rename_i e; refine pair_fst e ?_) | (rename_i e; refine pair_trd e ?_) | split)

theorem State.readAll_kept {κ : Keep} {s : State} {r : Requester} {plane : Option Plane} {l : List Nat} (hk : Kept κ s) :
    Kept κ (s.readAll r plane l).2 := by
  induction l generalizing s with
  | nil => exact hk
  | cons a as ih => exact ih (State.readWord_kept hk)

theorem State.readMany_kept {κ : Keep} {s : State} {r : Requester} {plane : Option Plane} {a n : Nat} (hk : Kept κ s) :
    Kept κ ((State.readMany s r plane a n).2.2) := by
  unfold State.readMany
  simp only []
  split
  · refine State.readAll_kept ?_
    split
    · exact State.dropHolder_kept hk
    · exact hk
  · exact hk

theorem State.storeField_kept {κ : Keep} {s : State} {r : Requester} {c : Copies} {f : FieldAt} {v : Nat} (hk : Kept κ s) :
    Kept κ (State.storeField s r c f v) := by
  unfold State.storeField
  (try simp only [])
  with_reducible repeat' (first | exact hk | exact id | apply State.wrB_kept | apply State.wrP_kept | apply State.wr_kept | refine State.over_kept (fun _ _ hk => ?_) ?_ | (rename_i e; refine pair_snd e ?_) | (rename_i e; refine pair_fst e ?_) | (rename_i e; refine pair_trd e ?_) | split)

theorem State.clearField_kept {κ : Keep} {s : State} {r : Requester} {c : Copies} {f : FieldAt} {v : Nat} (hk : Kept κ s) :
    Kept κ (State.clearField s r c f v) := by
  unfold State.clearField
  (try simp only [])
  with_reducible repeat' (first | exact hk | exact id | apply State.wrP_kept | apply State.wr_kept | refine State.over_kept (fun _ _ hk => ?_) ?_ | (rename_i e; refine pair_snd e ?_) | (rename_i e; refine pair_fst e ?_) | (rename_i e; refine pair_trd e ?_) | split)

theorem State.putField_kept {κ : Keep} {s : State} {r : Requester} {h : RegHit} {a w : Nat} {carry : Bool} {f : FieldSpec} (hk : Kept κ s) :
    Kept κ (State.putField s r h a w carry f) := by
  unfold State.putField
  (try simp only [])
  with_reducible repeat' (first | exact hk | exact id | apply State.clearField_kept | apply State.storeField_kept | apply State.addShadow_kept | apply ite_kept | (rename_i e; refine pair_snd e ?_) | (rename_i e; refine pair_fst e ?_) | (rename_i e; refine pair_trd e ?_) | split)

theorem State.setSel_kept {κ : Keep} {s : State} {r : Requester} {v : Nat} (hk : Kept κ s) :
    Kept κ (State.setSel s r v) := by
  unfold State.setSel
  (try simp only [])
  with_reducible repeat' (first | exact hk | exact id | apply State.setReg_kept | split | fail_if_no_progress apply Kept.rest)

theorem State.clearFirst_kept {κ : Keep} {s : State} (hk : Kept κ s) :
    Kept κ (State.clearFirst s) := by
  unfold State.clearFirst
  (try simp only [])
  with_reducible repeat' (first | exact hk | split | fail_if_no_progress apply Kept.rest)

theorem State.ackSlot_kept {κ : Keep} {s : State} {k : Nat} (hk : Kept κ s) :
    Kept κ (State.ackSlot s k) := by
  unfold State.ackSlot
  (try simp only [])
  with_reducible repeat' (first | exact hk | split | fail_if_no_progress apply Kept.rest)

theorem State.askUnfence_kept {κ : Keep} {s : State} {unit index : Nat} (hk : Kept κ s) :
    Kept κ (State.askUnfence s unit index) := by
  unfold State.askUnfence
  (try simp only [])
  with_reducible repeat' (first | exact hk | split | fail_if_no_progress apply Kept.rest)

theorem State.askRemap_kept {κ : Keep} {s : State} {k : Nat} {alt : Bool} (hk : Kept κ s) :
    Kept κ (State.askRemap s k alt) := by
  unfold State.askRemap
  (try simp only [])
  with_reducible repeat' (first | exact hk | split | fail_if_no_progress apply Kept.rest)

theorem State.dropLink_kept {κ : Keep} {s : State} {l : Nat} (hk : Kept κ s) :
    Kept κ (State.dropLink s l) := by
  unfold State.dropLink
  (try simp only [])
  with_reducible repeat' (first | exact hk | exact id | apply State.setWord_kept | split)

theorem State.writeAction_kept {κ : Keep} {s : State} {r : Requester} {h : RegHit} {w : Nat} (hk : Kept κ s) :
    Kept κ (State.writeAction s r h w) := by
  cases hh : h.spec.reg <;> unfold State.writeAction <;> simp only [hh] <;>
  with_reducible repeat' (first | exact hk | exact id | apply State.dropLink_kept | apply State.askRemap_kept | apply State.askUnfence_kept | apply State.ackSlot_kept | apply State.clearFirst_kept | apply State.setSel_kept | apply State.askReboot_kept | apply State.norStart_kept | apply State.returnPlane_kept | apply State.provGo_kept | apply State.writeProv_kept | apply State.captureTime_kept | apply State.writeAdjust_kept | apply State.writeSet_kept | apply State.writeRate_kept | apply State.updDomain_kept | apply State.sweepAbort_kept | apply State.sweepStart_kept | apply State.requestTia_kept | apply State.requestCals_kept | apply State.requestRun_kept | apply State.mtAbort_kept | apply State.mtStart_kept | apply State.haltGen_kept | apply State.commandTrigger_kept | apply State.armGen_kept | apply State.requestHkaCal_kept | apply State.inject_kept | apply State.writeRptr_kept | apply State.updChan_kept | apply State.setAct_kept | apply State.setTime_kept | refine State.over_kept (fun _ _ hk => ?_) ?_ | apply ite_kept | (rename_i e; refine pair_snd e ?_) | (rename_i e; refine pair_fst e ?_) | (rename_i e; refine pair_trd e ?_) | split | fail_if_no_progress apply Kept.rest)

theorem State.writeOne_kept {κ : Keep} {s : State} {r : Requester} {carry : Nat → Bool} {a w : Nat} (hk : Kept κ s) :
    Kept κ (State.writeOne s r carry a w) := by
  have hput : ∀ (l : List FieldSpec) (u : State) (g : RegHit) (b v : Nat) (c : Bool), Kept κ u →
      Kept κ (l.foldl (fun (s : State) f => s.putField r g b v c f) u) :=
    fun l u g b v c hu => foldl_kept (fun _ _ h => State.putField_kept h) hu
  have hx : ∀ h : RegHit, Kept κ (match hiOf h a with
      | some b => match s.heldWrite r b, regAt b with
        | some v, some g => g.spec.fields.foldl (fun (s : State) f => s.putField r g b v false f) s
        | _, _ => s
      | none => s) := by
    intro h
    split
    · split
      · exact hput _ _ _ _ _ _ hk
      · exact hk
    · exact hk
  unfold State.writeOne
  split
  · exact State.dropHeld_kept (State.setCapBytes_kept hk)
  · split
    · exact hk
    · next h hreg =>
      have hd := State.dropHeld_kept (r := r) hk
      split
      · exact State.setReg_kept hd id id id
      · refine State.writeAction_kept (hput _ _ _ _ _ _ (State.dropHeld_kept ?_))
        split
        · exact State.noteMode_kept (hx h)
        · exact hx h

theorem State.makeRequest_kept {κ : Keep} {s before : State} {r : Requester} {head : Option CmdHead} {opcode : Nat} {l : List (Nat × Nat)} {x : Nat × Nat} (hk : Kept κ s) :
    Kept κ (State.makeRequest s before r head opcode l x) := by
  unfold State.makeRequest
  (try simp only [])
  with_reducible repeat' (first | exact hk | apply State.request_kept | split | fail_if_no_progress apply Kept.rest)

theorem State.applyWords_kept {κ : Keep} {s : State} {r : Requester} {head : Option CmdHead} {opcode : Nat} {l : List (Nat × Nat)} (hk : Kept κ s) :
    Kept κ (State.applyWords s r head opcode l) := by
  unfold State.applyWords
  (try simp only [])
  with_reducible repeat' (first | exact hk | exact id | apply State.makeRequest_kept | apply State.writeOne_kept | refine State.over_kept (fun _ _ hk => ?_) ?_ | split)

theorem State.noteRefused_kept {κ : Keep} {s : State} {r : Requester} {code : Nat} {l : List (Nat × Nat)} (hk : Kept κ s) :
    Kept κ (State.noteRefused s r code l) := by
  unfold State.noteRefused
  (try simp only [])
  with_reducible repeat' (first | exact hk | apply State.bump_kept | apply State.wr_kept | apply ite_kept | (rename_i e; refine pair_snd e ?_) | (rename_i e; refine pair_fst e ?_) | (rename_i e; refine pair_trd e ?_) | split)

theorem State.writeMany_kept {κ : Keep} {s : State} {r : Requester} {head : Option CmdHead} {opcode a : Nat} {data : List Nat} (hk : Kept κ s) :
    Kept κ ((State.writeMany s r head opcode a data).2.2) := by
  unfold State.writeMany
  (try simp only [])
  with_reducible repeat' (first | exact hk | apply State.noteRefused_kept | apply State.applyWords_kept | apply ite_kept | split)

end Sys2Proof.Machine
end

