-- ==== Sys2Proof/Laws/KeptSummary.lean ====
section
/-! SUPPORT. Laws/KeptSummary.lean: every operation of Machine/Summary.lean keeps the invariants of the state (Laws/Kept.lean). -/

set_option linter.all false
set_option Elab.async false

namespace Sys2Proof.Machine

open Sys2Proof

theorem State.summaryOffset_kept {κ : Keep} {s : State} {v : Scope} (hk : Kept κ s) :
    Kept κ ((State.summaryOffset s v).2) := by
  unfold State.summaryOffset
  (try simp only [])
  with_reducible repeat' (first | exact hk | apply State.free_kept | apply ite_kept | split)

theorem State.summaryBody_kept {κ : Keep} {s : State} {v : Scope} {challenge : Option (List Nat)} (hk : Kept κ s) :
    Kept κ ((State.summaryBody s v challenge).2) := by
  unfold State.summaryBody
  (try simp only [])
  with_reducible repeat' (first | exact hk | exact id | apply State.summaryOffset_kept | apply ite_kept | (rename_i e; refine pair_snd e ?_) | (rename_i e; refine pair_fst e ?_) | (rename_i e; refine pair_trd e ?_) | split)

theorem State.summaryItem_kept {κ : Keep} {s : State} {v : Scope} {challenge : Option (List Nat)} (hk : Kept κ s) :
    Kept κ ((State.summaryItem s v challenge).2) := by
  unfold State.summaryItem
  (try simp only [])
  with_reducible repeat' (first | exact hk | apply State.summaryBody_kept | apply ite_kept | (rename_i e; refine pair_snd e ?_) | (rename_i e; refine pair_fst e ?_) | (rename_i e; refine pair_trd e ?_) | split)

theorem State.cmdSummary_kept {κ : Keep} {s : State} {h : CmdHead} {challenge : List Nat} (hk : Kept κ s) :
    Kept κ (State.cmdSummary s h challenge) := by
  unfold State.cmdSummary
  (try simp only [])
  with_reducible repeat' (first | exact hk | exact id | apply State.summaryItem_kept | apply State.answer_kept | refine State.over_kept (fun _ _ hk => ?_) ?_ | apply ite_kept | (rename_i e; refine pair_snd e ?_) | (rename_i e; refine pair_fst e ?_) | (rename_i e; refine pair_trd e ?_) | split)

theorem State.dustFrame_kept {κ : Keep} {s : State} (hk : Kept κ s) :
    Kept κ (State.dustFrame s) := by
  unfold State.dustFrame
  (try simp only [])
  with_reducible repeat' (first | exact hk | exact id | apply State.notice_kept | refine State.over_kept (fun _ _ hk => ?_) ?_ | apply ite_kept | split | fail_if_no_progress apply Kept.rest)

theorem State.dustScaled_kept {κ : Keep} {s : State} {scaled : Bool} (hk : Kept κ s) :
    Kept κ (State.dustScaled s scaled) := by
  unfold State.dustScaled
  (try simp only [])
  with_reducible repeat' (first | exact hk | apply ite_kept | split | fail_if_no_progress apply Kept.rest)

end Sys2Proof.Machine
end

