-- ==== Sys2Proof/Laws/KeptSideband.lean ====
section
/-! SUPPORT. Laws/KeptSideband.lean: every operation of Machine/Sideband.lean keeps the invariants of the state (Laws/Kept.lean). -/

set_option linter.all false
set_option Elab.async false

namespace Sys2Proof.Machine

open Sys2Proof

theorem State.setSb_kept {κ : Keep} {s : State} {f : Sideband → Sideband} (hk : Kept κ s) :
    Kept κ (State.setSb s f) := by
  unfold State.setSb
  (try simp only [])
  with_reducible repeat' (first | exact hk | split | fail_if_no_progress apply Kept.rest)

theorem State.quietAlert_kept {κ : Keep} {s : State} (hk : Kept κ s) :
    Kept κ (State.quietAlert s) := by
  unfold State.quietAlert
  (try simp only [])
  with_reducible repeat' (first | exact hk | apply State.setSb_kept | apply ite_kept | split | fail_if_no_progress apply Kept.rest)

theorem State.sbSetAddr_kept {κ : Keep} {s : State} {pecOk : Bool} {a words : Nat} (hk : Kept κ s) :
    Kept κ (State.sbSetAddr s pecOk a words) := by
  unfold State.sbSetAddr
  (try simp only [])
  with_reducible repeat' (first | exact hk | apply State.setSb_kept | apply ite_kept | split | fail_if_no_progress apply Kept.rest)

theorem State.sbRead_kept {κ : Keep} {s : State} (hk : Kept κ s) :
    Kept κ (State.sbRead s) := by
  unfold State.sbRead
  (try simp only [])
  with_reducible repeat' (first | exact hk | apply State.setSb_kept | apply State.readMany_kept | apply ite_kept | (rename_i e; refine pair_snd e ?_) | (rename_i e; refine pair_fst e ?_) | (rename_i e; refine pair_trd e ?_) | split | fail_if_no_progress apply Kept.rest)

theorem State.sbWrite_kept {κ : Keep} {s : State} {pecOk : Bool} {data : List Nat} (hk : Kept κ s) :
    Kept κ (State.sbWrite s pecOk data) := by
  unfold State.sbWrite
  (try simp only [])
  with_reducible repeat' (first | exact hk | apply State.setSb_kept | apply State.writeMany_kept | apply ite_kept | (rename_i e; refine pair_snd e ?_) | (rename_i e; refine pair_fst e ?_) | (rename_i e; refine pair_trd e ?_) | split | fail_if_no_progress apply Kept.rest)

theorem State.sbLastStatus_kept {κ : Keep} {s : State} (hk : Kept κ s) :
    Kept κ (State.sbLastStatus s) := by
  unfold State.sbLastStatus
  (try simp only [])
  with_reducible repeat' (first | exact hk | apply State.setSb_kept | apply ite_kept | split | fail_if_no_progress apply Kept.rest)

theorem State.sbSummary_kept {κ : Keep} {s : State} (hk : Kept κ s) :
    Kept κ (State.sbSummary s) := by
  unfold State.sbSummary
  (try simp only [])
  with_reducible repeat' (first | exact hk | apply State.setSb_kept | apply State.summaryItem_kept | apply ite_kept | (rename_i e; refine pair_snd e ?_) | (rename_i e; refine pair_fst e ?_) | (rename_i e; refine pair_trd e ?_) | split | fail_if_no_progress apply Kept.rest)

theorem State.sbAlertCause_kept {κ : Keep} {s : State} (hk : Kept κ s) :
    Kept κ (State.sbAlertCause s) := by
  unfold State.sbAlertCause
  (try simp only [])
  with_reducible repeat' (first | exact hk | apply State.quietAlert_kept | apply State.setSb_kept | apply ite_kept | split | fail_if_no_progress apply Kept.rest)

theorem State.sbFaultPop_kept {κ : Keep} {s : State} (hk : Kept κ s) :
    Kept κ (State.sbFaultPop s) := by
  unfold State.sbFaultPop
  (try simp only [])
  with_reducible repeat' (first | exact hk | apply State.quietAlert_kept | apply State.setSb_kept | apply ite_kept | (rename_i e; refine pair_snd e ?_) | (rename_i e; refine pair_fst e ?_) | (rename_i e; refine pair_trd e ?_) | split | fail_if_no_progress apply Kept.rest)

theorem State.alertResponse_kept {κ : Keep} {s : State} (hk : Kept κ s) :
    Kept κ (State.alertResponse s) := by
  unfold State.alertResponse
  (try simp only [])
  with_reducible repeat' (first | exact hk | apply State.setSb_kept | apply ite_kept | split | fail_if_no_progress apply Kept.rest)

theorem State.sbStretchTimeout_kept {κ : Keep} {s : State} {bytes : Nat} (hk : Kept κ s) :
    Kept κ (State.sbStretchTimeout s bytes) := by
  unfold State.sbStretchTimeout
  (try simp only [])
  with_reducible repeat' (first | exact hk | apply State.setSb_kept | apply ite_kept | split | fail_if_no_progress apply Kept.rest)

end Sys2Proof.Machine
end

