-- ==== Sys2Proof/Laws/KeptLinks.lean ====
section
/-! SUPPORT. Laws/KeptLinks.lean: every operation of Machine/Links.lean keeps the invariants of the state (Laws/Kept.lean). -/

set_option linter.all false
set_option Elab.async false

namespace Sys2Proof.Machine

open Sys2Proof

theorem State.enterRx_kept {κ : Keep} {s : State} {f : RxFrame} (hk : Kept κ s) :
    Kept κ (State.enterRx s f) := by
  unfold State.enterRx
  (try simp only [])
  with_reducible repeat' (first | exact hk | exact id | apply State.setLinks_kept | (rename_i e; refine pair_snd e ?_) | (rename_i e; refine pair_fst e ?_) | (rename_i e; refine pair_trd e ?_) | split | fail_if_no_progress apply Kept.rest)

theorem State.frameRx_kept {κ : Keep} {s : State} {l : Nat} {b : List Nat} {stamp : Stamp} (hk : Kept κ s) :
    Kept κ (State.frameRx s l b stamp) := by
  unfold State.frameRx
  (try simp only [])
  with_reducible repeat' (first | exact hk | apply State.enterRx_kept | apply State.bind_kept | apply State.updPrin_kept | apply State.bump_kept | apply ite_kept | (rename_i e; refine pair_snd e ?_) | (rename_i e; refine pair_fst e ?_) | (rename_i e; refine pair_trd e ?_) | split | fail_if_no_progress apply Kept.rest)

theorem State.forwardedRx_kept {κ : Keep} {s : State} {pos : Nat} {k : List Nat} (hk : Kept κ s) :
    Kept κ (State.forwardedRx s pos k) := by
  unfold State.forwardedRx
  (try simp only [])
  with_reducible repeat' (first | exact hk | exact id | apply State.enterRx_kept | apply State.bind_kept | apply State.bump_kept | apply State.setLinks_kept | apply ite_kept | (rename_i e; refine pair_snd e ?_) | (rename_i e; refine pair_fst e ?_) | (rename_i e; refine pair_trd e ?_) | split | fail_if_no_progress apply Kept.rest)

theorem State.offer_kept {κ : Keep} {s : State} (hk : Kept κ s) :
    Kept κ (State.offer s) := by
  unfold State.offer
  (try simp only [])
  with_reducible repeat' (first | exact hk | exact id | apply State.offerFaults_kept | apply State.setLinks_kept | apply ite_kept | split | fail_if_no_progress apply Kept.rest)

theorem State.keepRx_kept {κ : Keep} {s : State} {f : RxFrame} (hk : Kept κ s) :
    Kept κ (State.keepRx s f) := by
  unfold State.keepRx
  (try simp only [])
  with_reducible repeat' (first | exact hk | apply State.keepRecord_kept | apply ite_kept | (rename_i e; refine pair_snd e ?_) | (rename_i e; refine pair_fst e ?_) | (rename_i e; refine pair_trd e ?_) | split)

theorem State.sequence_kept {κ : Keep} {s : State} {f : RxFrame} (hk : Kept κ s) :
    Kept κ ((State.sequence s f).1) := by
  unfold State.sequence
  (try simp only [])
  with_reducible repeat' (first | exact hk | apply State.updLane_kept | apply State.updPrin_kept | apply State.bump_kept | apply ite_kept | (rename_i e; refine pair_snd e ?_) | (rename_i e; refine pair_fst e ?_) | (rename_i e; refine pair_trd e ?_) | split | fail_if_no_progress apply Kept.rest)

theorem State.takeBatch_kept {κ : Keep} {s : State} {l : List RxFrame} (hk : Kept κ s) : Kept κ (s.takeBatch l).1 := by
  induction l generalizing s with
  | nil => exact hk
  | cons f rest ih => exact ih (State.sequence_kept (State.keepRx_kept hk))

theorem State.waitOn_kept {κ : Keep} {s : State} {l : Nat} {f : TxFrame} (hk : Kept κ s) :
    Kept κ (State.waitOn s l f) := by
  unfold State.waitOn
  (try simp only [])
  with_reducible repeat' (first | exact hk | apply State.raise_kept | apply State.updLane_kept | apply State.bump_kept | apply ite_kept | split | fail_if_no_progress apply Kept.rest)

theorem State.overRing_kept {κ : Keep} {s : State} {rseq count : Nat} {payload : List Nat} (hk : Kept κ s) :
    Kept κ (State.overRing s rseq count payload) := by
  unfold State.overRing
  (try simp only [])
  with_reducible repeat' (first | exact hk | exact id | apply State.setLinks_kept | apply ite_kept | (rename_i e; refine pair_snd e ?_) | (rename_i e; refine pair_fst e ?_) | (rename_i e; refine pair_trd e ?_) | split | fail_if_no_progress apply Kept.rest)

theorem State.sendFrame_kept {κ : Keep} {s : State} {differ : Bool} {p : Nat} {x : Nat × List Nat} (hk : Kept κ s) :
    Kept κ (State.sendFrame s differ p x) := by
  unfold State.sendFrame
  (try simp only [])
  with_reducible repeat' (first | exact hk | exact id | apply State.overRing_kept | apply State.waitOn_kept | apply State.updPrin_kept | refine State.over_kept (fun _ _ hk => ?_) ?_ | apply ite_kept | (rename_i e; refine pair_snd e ?_) | (rename_i e; refine pair_fst e ?_) | (rename_i e; refine pair_trd e ?_) | split | fail_if_no_progress apply Kept.rest)

theorem State.buildFor_kept {κ : Keep} {s : State} {differ : Bool} {p : Nat} (hk : Kept κ s) :
    Kept κ (State.buildFor s differ p) := by
  unfold State.buildFor
  (try simp only [])
  with_reducible repeat' (first | exact hk | exact id | apply State.sendFrame_kept | apply State.due_kept | apply State.updPrin_kept | refine State.over_kept (fun _ _ hk => ?_) ?_ | apply ite_kept | exact (List.length_map _).trans | split | fail_if_no_progress apply Kept.rest)

theorem State.buildAll_kept {κ : Keep} {s : State} {differ : Bool} (hk : Kept κ s) :
    Kept κ (State.buildAll s differ) := by
  unfold State.buildAll
  (try simp only [])
  with_reducible repeat' (first | exact hk | exact id | apply State.buildFor_kept | apply State.setLinks_kept | refine State.over_kept (fun _ _ hk => ?_) ?_ | split | fail_if_no_progress apply Kept.rest)

theorem State.datagram_kept {κ : Keep} {s : State} {l ip port : Nat} {data : List Nat} (hk : Kept κ s) :
    Kept κ ((State.datagram s l ip port data).2) := by
  unfold State.datagram
  (try simp only [])
  with_reducible repeat' (first | exact hk | apply State.free_kept | apply ite_kept | (rename_i e; refine pair_snd e ?_) | (rename_i e; refine pair_fst e ?_) | (rename_i e; refine pair_trd e ?_) | split)

theorem State.carryTo_kept {κ : Keep} {s : State} {l : Nat} {a : Address} {data : List Nat} (hk : Kept κ s) :
    Kept κ ((State.carryTo s l a data).2) := by
  unfold State.carryTo
  (try simp only [])
  with_reducible repeat' (first | exact hk | apply State.datagram_kept | apply ite_kept | (rename_i e; refine pair_snd e ?_) | (rename_i e; refine pair_fst e ?_) | (rename_i e; refine pair_trd e ?_) | split)

theorem State.keepTx_kept {κ : Keep} {s : State} {l p rseq : Nat} {t : Stamp} (hk : Kept κ s) :
    Kept κ (State.keepTx s l p rseq t) := by
  unfold State.keepTx
  (try simp only [])
  with_reducible repeat' (first | exact hk | apply State.keepRecord_kept | apply ite_kept | split)

theorem State.transmit_kept {κ : Keep} {s : State} {l : Nat} {f : TxFrame} {a : Address} {t : Stamp} (hk : Kept κ s) :
    Kept κ (State.transmit s l f a t) := by
  unfold State.transmit
  (try simp only [])
  with_reducible repeat' (first | exact hk | apply State.keepTx_kept | apply State.carryTo_kept | apply State.updLane_kept | apply State.bump_kept | apply ite_kept | (rename_i e; refine pair_snd e ?_) | (rename_i e; refine pair_fst e ?_) | (rename_i e; refine pair_trd e ?_) | split | fail_if_no_progress apply Kept.rest)

theorem State.frameTransmit_kept {κ : Keep} {s : State} {l pos : Nat} {t : Stamp} (hk : Kept κ s) :
    Kept κ (State.frameTransmit s l pos t) := by
  unfold State.frameTransmit
  (try simp only [])
  with_reducible repeat' (first | exact hk | apply State.transmit_kept | apply State.keepTx_kept | apply State.updLane_kept | apply ite_kept | (rename_i e; refine pair_snd e ?_) | (rename_i e; refine pair_fst e ?_) | (rename_i e; refine pair_trd e ?_) | split | fail_if_no_progress apply Kept.rest)

theorem State.announce_kept {κ : Keep} {s : State} {l : Nat} (hk : Kept κ s) :
    Kept κ (State.announce s l) := by
  unfold State.announce
  (try simp only [])
  with_reducible repeat' (first | exact hk | apply State.carryTo_kept | apply State.updLane_kept | apply ite_kept | (rename_i e; refine pair_snd e ?_) | (rename_i e; refine pair_fst e ?_) | (rename_i e; refine pair_trd e ?_) | split | fail_if_no_progress apply Kept.rest)

theorem State.arpRequest_kept {κ : Keep} {s : State} {l : Nat} {b : List Nat} (hk : Kept κ s) :
    Kept κ (State.arpRequest s l b) := by
  unfold State.arpRequest
  (try simp only [])
  with_reducible repeat' (first | exact hk | apply State.updLane_kept | apply ite_kept | (rename_i e; refine pair_snd e ?_) | (rename_i e; refine pair_fst e ?_) | (rename_i e; refine pair_trd e ?_) | split | fail_if_no_progress apply Kept.rest)

theorem State.linkUp_kept {κ : Keep} {s : State} {l : Nat} (hk : Kept κ s) :
    Kept κ (State.linkUp s l) := by
  unfold State.linkUp
  (try simp only [])
  with_reducible repeat' (first | exact hk | apply State.announce_kept | apply State.endReport_kept | apply State.wr_kept | apply ite_kept | split)

theorem State.linkDown_kept {κ : Keep} {s : State} {l : Nat} {fecOnly : Bool} (hk : Kept κ s) :
    Kept κ (State.linkDown s l fecOnly) := by
  unfold State.linkDown
  (try simp only [])
  with_reducible repeat' (first | exact hk | apply State.raise_kept | apply State.wr_kept | apply ite_kept | split)

theorem State.hiBer_kept {κ : Keep} {s : State} {l : Nat} {on : Bool} (hk : Kept κ s) :
    Kept κ (State.hiBer s l on) := by
  unfold State.hiBer
  (try simp only [])
  with_reducible repeat' (first | exact hk | apply State.endReport_kept | apply State.raise_kept | apply State.wr_kept | apply ite_kept | split)

theorem State.clearLocks_kept {κ : Keep} {s : State} (hk : Kept κ s) :
    Kept κ (State.clearLocks s) := by
  unfold State.clearLocks
  (try simp only [])
  with_reducible repeat' (first | exact hk | exact id | apply State.setWord_kept | refine State.over_kept (fun _ _ hk => ?_) ?_ | apply ite_kept | split)

theorem State.drainRing_kept {κ : Keep} {s : State} (hk : Kept κ s) :
    Kept κ (State.drainRing s) := by
  unfold State.drainRing
  (try simp only [])
  with_reducible repeat' (first | exact hk | exact id | apply State.setLinks_kept | apply ite_kept | split | fail_if_no_progress apply Kept.rest)

theorem State.cmdForward_kept {κ : Keep} {s : State} {h : CmdHead} {pos : Nat} {frame : List Nat} (hk : Kept κ s) :
    Kept κ (State.cmdForward s h pos frame) := by
  unfold State.cmdForward
  (try simp only [])
  with_reducible repeat' (first | exact hk | exact id | apply State.drainRing_kept | apply State.answer_kept | apply State.setLinks_kept | apply ite_kept | split | fail_if_no_progress apply Kept.rest)

theorem State.forwardedResponse_kept {κ : Keep} {s : State} {pos rseq : Nat} {bytes : List Nat} (hk : Kept κ s) :
    Kept κ (State.forwardedResponse s pos rseq bytes) := by
  unfold State.forwardedResponse
  (try simp only [])
  with_reducible repeat' (first | exact hk | exact id | apply State.notice_kept | refine State.over_kept (fun _ _ hk => ?_) ?_ | exact fun h => by simpa using h | split)

end Sys2Proof.Machine
end

