-- ==== Sys2Proof/Laws/KeptCommands.lean ====
section
/-! SUPPORT. Laws/KeptCommands.lean: every operation of Machine/Commands.lean keeps the invariants of the state (Laws/Kept.lean). -/

set_option linter.all false
set_option Elab.async false

namespace Sys2Proof.Machine

open Sys2Proof

theorem State.cmdPing_kept {κ : Keep} {s : State} {h : CmdHead} (hk : Kept κ s) :
    Kept κ (State.cmdPing s h) := by
  unfold State.cmdPing
  (try simp only [])
  with_reducible repeat' (first | exact hk | apply State.answer_kept | split)

theorem State.settleFences_kept {κ : Keep} {s : State} (hk : Kept κ s) :
    Kept κ (State.settleFences s) := by
  unfold State.settleFences
  (try simp only [])
  with_reducible repeat' (first | exact hk | exact id | apply State.answerAt_kept | refine State.over_kept (fun _ _ hk => ?_) ?_ | split | fail_if_no_progress apply Kept.rest | apply Kept.sched_)

theorem State.cmdFence_kept {κ : Keep} {s : State} {h : CmdHead} (hk : Kept κ s) :
    Kept κ (State.cmdFence s h) := by
  unfold State.cmdFence
  (try simp only [])
  with_reducible repeat' (first | exact hk | exact id | apply State.settleFences_kept | split | fail_if_no_progress apply Kept.rest | apply Kept.sched_)

theorem State.cmdRead_kept {κ : Keep} {s : State} {h : CmdHead} {addr words : Nat} (hk : Kept κ s) :
    Kept κ (State.cmdRead s h addr words) := by
  unfold State.cmdRead
  (try simp only [])
  with_reducible repeat' (first | exact hk | apply State.readMany_kept | apply State.answer_kept | apply ite_kept | (rename_i e; refine pair_snd e ?_) | (rename_i e; refine pair_fst e ?_) | (rename_i e; refine pair_trd e ?_) | split)

theorem State.endWrite_kept {κ : Keep} {s : State} {h : CmdHead} {opcode : Nat} {framed : Bool} {r : Nat × Bool × State}
    (hk : Kept κ r.2.2) : Kept κ (s.endWrite h opcode framed r) := by
  unfold State.endWrite
  simp only []
  split
  · exact State.answer_kept hk
  · split
    · exact hk
    · split
      · exact State.answer_kept (Kept.sched_ hk id)
      · exact State.answer_kept hk

theorem State.cmdWrite_kept {κ : Keep} {s : State} {h : CmdHead} {addr : Nat} {data : List Nat} (hk : Kept κ s) :
    Kept κ (State.cmdWrite s h addr data) := by
  unfold State.cmdWrite
  (try simp only [])
  with_reducible repeat' (first | exact hk | apply State.endWrite_kept | apply State.writeMany_kept | apply State.answer_kept | apply ite_kept | split)

theorem State.writeBoth_kept {κ : Keep} {s : State} {r : Requester} {h : CmdHead} {opcode addr : Nat} {data : List Nat} (hk : Kept κ s) :
    Kept κ ((State.writeBoth s r h opcode addr data).2.2) := by
  unfold State.writeBoth
  (try simp only [])
  with_reducible repeat' (first | exact hk | apply State.writeMany_kept | apply State.setSel_kept | (rename_i e; refine pair_snd e ?_) | (rename_i e; refine pair_fst e ?_) | (rename_i e; refine pair_trd e ?_) | split)

theorem State.cmdCtxRead_kept {κ : Keep} {s : State} {h : CmdHead} {ctx first words : Nat} (hk : Kept κ s) :
    Kept κ (State.cmdCtxRead s h ctx first words) := by
  unfold State.cmdCtxRead
  (try simp only [])
  with_reducible repeat' (first | exact hk | apply State.readMany_kept | apply State.answer_kept | apply ite_kept | (rename_i e; refine pair_snd e ?_) | (rename_i e; refine pair_fst e ?_) | (rename_i e; refine pair_trd e ?_) | split)

theorem State.cmdCtxWrite_kept {κ : Keep} {s : State} {h : CmdHead} {ctx first : Nat} {data : List Nat} (hk : Kept κ s) :
    Kept κ (State.cmdCtxWrite s h ctx first data) := by
  unfold State.cmdCtxWrite
  (try simp only [])
  with_reducible repeat' (first | exact hk | apply State.writeBoth_kept | apply State.endWrite_kept | apply State.answer_kept | apply ite_kept | split)

theorem State.cmdCtxState_kept {κ : Keep} {s : State} {h : CmdHead} {ctx st : Nat} (hk : Kept κ s) :
    Kept κ (State.cmdCtxState s h ctx st) := by
  unfold State.cmdCtxState
  (try simp only [])
  with_reducible repeat' (first | exact hk | apply State.request_kept | apply State.answer_kept | apply ite_kept | split | fail_if_no_progress apply Kept.rest)

theorem State.cmdTileWrite_kept {κ : Keep} {s : State} {h : CmdHead} {opcode : Nat} {fits : Nat → Bool} {tile offset value : Nat} (hk : Kept κ s) :
    Kept κ (State.cmdTileWrite s h opcode fits tile offset value) := by
  unfold State.cmdTileWrite
  (try simp only [])
  with_reducible repeat' (first | exact hk | apply State.writeBoth_kept | apply State.endWrite_kept | apply State.answer_kept | apply ite_kept | split)

theorem State.cmdGuardWrite_kept {κ : Keep} {s : State} {h : CmdHead} {tile offset value : Nat} (hk : Kept κ s) :
    Kept κ (State.cmdGuardWrite s h tile offset value) := by
  unfold State.cmdGuardWrite
  (try simp only [])
  with_reducible repeat' (first | exact hk | apply State.cmdTileWrite_kept | split)

theorem State.cmdPrimerWrite_kept {κ : Keep} {s : State} {h : CmdHead} {tile offset value : Nat} (hk : Kept κ s) :
    Kept κ (State.cmdPrimerWrite s h tile offset value) := by
  unfold State.cmdPrimerWrite
  (try simp only [])
  with_reducible repeat' (first | exact hk | apply State.cmdTileWrite_kept | split)

theorem State.cmdRemap_kept {κ : Keep} {s : State} {h : CmdHead} {logical useAlt : Nat} (hk : Kept κ s) :
    Kept κ (State.cmdRemap s h logical useAlt) := by
  unfold State.cmdRemap
  (try simp only [])
  with_reducible repeat' (first | exact hk | apply State.writeBoth_kept | apply State.endWrite_kept | apply State.answer_kept | apply ite_kept | split)

theorem State.cmdPrimerTiles_kept {κ : Keep} {s : State} {h : CmdHead} {tiles : Nat} (hk : Kept κ s) :
    Kept κ (State.cmdPrimerTiles s h tiles) := by
  unfold State.cmdPrimerTiles
  (try simp only [])
  with_reducible repeat' (first | exact hk | apply State.cmdPrimerApply_kept | apply State.answer_kept | apply ite_kept | split)

theorem State.cmdResumeTiles_kept {κ : Keep} {s : State} {h : CmdHead} {tiles : Nat} (hk : Kept κ s) :
    Kept κ (State.cmdResumeTiles s h tiles) := by
  unfold State.cmdResumeTiles
  (try simp only [])
  with_reducible repeat' (first | exact hk | apply State.cmdTileResume_kept | apply State.answer_kept | apply ite_kept | split)

theorem State.cmdCalibrate_kept {κ : Keep} {s : State} {h : CmdHead} {tiles : Nat} (hk : Kept κ s) :
    Kept κ (State.cmdCalibrate s h tiles) := by
  unfold State.cmdCalibrate
  (try simp only [])
  with_reducible repeat' (first | exact hk | apply State.requestCals_kept | apply State.answer_kept | apply ite_kept | split)

theorem State.cmdStencilStart_kept {κ : Keep} {s : State} {h : CmdHead} {gen : Nat} (hk : Kept κ s) :
    Kept κ (State.cmdStencilStart s h gen) := by
  unfold State.cmdStencilStart
  (try simp only [])
  with_reducible repeat' (first | exact hk | apply State.commandTrigger_kept | apply State.answer_kept | apply ite_kept | split)

theorem State.cmdMode_kept {κ : Keep} {s : State} {h : CmdHead} {mode frame : Nat} (hk : Kept κ s) :
    Kept κ (State.cmdMode s h mode frame) := by
  unfold State.cmdMode
  (try simp only [])
  with_reducible repeat' (first | exact hk | apply State.answer_kept | apply ite_kept | (rename_i e; refine pair_snd e ?_) | (rename_i e; refine pair_fst e ?_) | (rename_i e; refine pair_trd e ?_) | split | fail_if_no_progress apply Kept.rest)

theorem State.setRoute_kept {κ : Keep} {s : State} {f : Route → Route} (hk : Kept κ s) :
    Kept κ (State.setRoute s f) := by
  unfold State.setRoute
  (try simp only [])
  with_reducible repeat' (first | exact hk | split | fail_if_no_progress apply Kept.rest)

theorem State.cmdRoute_kept {κ : Keep} {s : State} {h : CmdHead} {c : Cmd} (hk : Kept κ s) :
    Kept κ (State.cmdRoute s h c) := by
  unfold State.cmdRoute
  (try simp only [])
  with_reducible repeat' (first | exact hk | apply State.setRoute_kept | apply State.answerRoute_kept | apply ite_kept | split | fail_if_no_progress apply Kept.rest)

theorem State.postResult_kept {κ : Keep} {s : State} {r : RouteReq} {at_ : Nat} {res : RouteResult} (hk : Kept κ s) :
    Kept κ (State.postResult s r at_ res) := by
  unfold State.postResult
  (try simp only [])
  with_reducible repeat' (first | exact hk | apply State.impliedCommit_kept | apply State.post_kept | apply ite_kept | (rename_i e; refine pair_snd e ?_) | (rename_i e; refine pair_fst e ?_) | (rename_i e; refine pair_trd e ?_) | split)

theorem State.noteRouteMargins_kept {κ : Keep} {s : State} {full : Bool} {l : List (Plane × Nat)} (hk : Kept κ s) :
    Kept κ (State.noteRouteMargins s full l) := by
  unfold State.noteRouteMargins
  (try simp only [])
  with_reducible repeat' (first | exact hk | exact id | apply State.setRoute_kept | refine State.over_kept (fun _ _ hk => ?_) ?_ | exact (List.length_map _).trans | split | fail_if_no_progress apply Kept.rest)

theorem State.incrementalPost_kept {κ : Keep} {s : State} {late : List (Nat × Nat × Plane)} {margins : List (Plane × Nat)} (hk : Kept κ s) :
    Kept κ (State.incrementalPost s late margins) := by
  unfold State.incrementalPost
  (try simp only [])
  with_reducible repeat' (first | exact hk | exact id | apply State.noteRouteMargins_kept | apply State.postResult_kept | apply State.setRoute_kept | apply State.tryAll_kept | apply State.timeouts_kept | refine State.over_kept (fun _ _ hk => ?_) ?_ | apply ite_kept | exact (List.length_map _).trans | split | fail_if_no_progress apply Kept.rest)

theorem State.fullPost_kept {κ : Keep} {s : State} {late : List Plane} {margins : List (Plane × Nat)} (hk : Kept κ s) :
    Kept κ (State.fullPost s late margins) := by
  unfold State.fullPost
  (try simp only [])
  with_reducible repeat' (first | exact hk | apply State.noteRouteMargins_kept | apply State.postResult_kept | apply State.setRoute_kept | apply State.tryAll_kept | apply State.timeouts_kept | apply ite_kept | (rename_i e; refine pair_snd e ?_) | (rename_i e; refine pair_fst e ?_) | (rename_i e; refine pair_trd e ?_) | split | fail_if_no_progress apply Kept.rest)

theorem State.deferredStart_kept {κ : Keep} {s : State} (hk : Kept κ s) :
    Kept κ (State.deferredStart s) := by
  unfold State.deferredStart
  (try simp only [])
  with_reducible repeat' (first | exact hk | apply State.setRoute_kept | apply ite_kept | (rename_i e; refine pair_snd e ?_) | (rename_i e; refine pair_fst e ?_) | (rename_i e; refine pair_trd e ?_) | split | fail_if_no_progress apply Kept.rest)

theorem State.runCmd_kept {κ : Keep} {s : State} {h : CmdHead} {c : Cmd} (hk : Kept κ s) :
    Kept κ (State.runCmd s h c) := by
  unfold State.runCmd
  (try simp only [])
  with_reducible repeat' (first | exact hk | apply State.cmdRoute_kept | apply State.cmdMode_kept | apply State.cmdStencilStart_kept | apply State.cmdCalibrate_kept | apply State.cmdResumeTiles_kept | apply State.cmdPrimerTiles_kept | apply State.cmdRemap_kept | apply State.cmdPrimerWrite_kept | apply State.cmdGuardWrite_kept | apply State.cmdCtxState_kept | apply State.cmdCtxWrite_kept | apply State.cmdCtxRead_kept | apply State.cmdWrite_kept | apply State.cmdRead_kept | apply State.cmdFence_kept | apply State.cmdPing_kept | apply State.cmdForward_kept | apply State.cmdSummary_kept | apply State.cmdReboot_kept | apply State.cmdPower_kept | apply State.cmdDrill_kept | apply State.cmdProtectCommit_kept | apply State.cmdProtectArm_kept | apply State.cmdKeyRoll_kept | apply State.cmdKeyInstall_kept | apply State.cmdInject_kept | apply State.cmdAbort_kept | apply State.cmdCommit_kept | apply State.tryAll_kept | (rename_i e; refine pair_snd e ?_) | (rename_i e; refine pair_fst e ?_) | (rename_i e; refine pair_trd e ?_) | split)

end Sys2Proof.Machine
end

