-- ==== Sys2Proof/Laws/KeptSched.lean ====
section
/-! SUPPORT. Laws/KeptSched.lean: every operation of Machine/Sched.lean keeps the invariants of the state (Laws/Kept.lean). -/

set_option linter.all false
set_option Elab.async false

namespace Sys2Proof.Machine

open Sys2Proof

theorem State.updQueue_kept {κ : Keep} {s : State} {q : Nat} {f : Queue → Queue} (hk : Kept κ s) :
    Kept κ (State.updQueue s q f) := by
  unfold State.updQueue
  (try simp only [])
  with_reducible repeat' (first | exact hk | exact id | apply State.setSched_kept | exact (List.length_modify _ _ _).trans | split | fail_if_no_progress apply Kept.rest)

theorem State.refillMeter_kept {κ : Keep} {s : State} {t c : Nat} (hk : Kept κ s) :
    Kept κ (State.refillMeter s t c) := by
  unfold State.refillMeter
  (try simp only [])
  with_reducible repeat' (first | exact hk | apply State.wr_kept | split)

theorem State.refillMeters_kept {κ : Keep} {s : State} (hk : Kept κ s) :
    Kept κ (State.refillMeters s) := by
  unfold State.refillMeters
  (try simp only [])
  with_reducible repeat' (first | exact hk | exact id | apply State.refillMeter_kept | refine State.over_kept (fun _ _ hk => ?_) ?_ | split)

theorem State.colour_kept {κ : Keep} {s : State} {t c k : Nat} (hk : Kept κ s) :
    Kept κ ((State.colour s t c k).2) := by
  unfold State.colour
  (try simp only [])
  with_reducible repeat' (first | exact hk | apply State.wr_kept | apply ite_kept | split)

theorem State.chargeRefused_kept {κ : Keep} {s : State} {p : Nat} (hk : Kept κ s) :
    Kept κ (State.chargeRefused s p) := by
  unfold State.chargeRefused
  (try simp only [])
  with_reducible repeat' (first | exact hk | apply State.colour_kept | apply ite_kept | split)

theorem State.meter_kept {κ : Keep} {s : State} {p : Nat} {c : Cmd} {cost : Nat} (hk : Kept κ s) :
    Kept κ ((State.meter s p c cost).2) := by
  unfold State.meter
  (try simp only [])
  with_reducible repeat' (first | exact hk | apply State.colour_kept | apply State.wr_kept | apply ite_kept | (rename_i e; refine pair_snd e ?_) | (rename_i e; refine pair_fst e ?_) | (rename_i e; refine pair_trd e ?_) | split)

theorem State.clampMeters_kept {κ : Keep} {s : State} (hk : Kept κ s) :
    Kept κ (State.clampMeters s) := by
  unfold State.clampMeters
  (try simp only [])
  with_reducible repeat' (first | exact hk | exact id | apply State.wr_kept | refine State.over_kept (fun _ _ hk => ?_) ?_ | apply ite_kept | split)

theorem State.stagePart_kept {κ : Keep} {s : State} {h : CmdHead} {id part parts : Nat} {entries : List (Nat × Nat)} (hk : Kept κ s) :
    Kept κ ((State.stagePart s h id part parts entries).2.2) := by
  unfold State.stagePart
  (try simp only [])
  with_reducible repeat' (first | exact hk | apply State.updPrin_kept | refine foldl_kept (fun _ _ hk => ?_) ?_ | refine foldl_fst_kept (fun _ _ hk => ?_) ?_ | refine foldl_snd_kept (fun _ _ hk => ?_) ?_ | apply ite_kept | (rename_i e; refine pair_snd e ?_) | (rename_i e; refine pair_fst e ?_) | (rename_i e; refine pair_trd e ?_) | split | fail_if_no_progress apply Kept.rest)

theorem State.stageExpire_kept {κ : Keep} {s : State} {p : Nat} (hk : Kept κ s) :
    Kept κ (State.stageExpire s p) := by
  unfold State.stageExpire
  (try simp only [])
  with_reducible repeat' (first | exact hk | apply State.notice_kept | apply State.updPrin_kept | apply ite_kept | (rename_i e; refine pair_snd e ?_) | (rename_i e; refine pair_fst e ?_) | (rename_i e; refine pair_trd e ?_) | split | fail_if_no_progress apply Kept.rest)

theorem State.enqueue_kept {κ : Keep} {s : State} {q : Nat} {c : QCmd} (hk : Kept κ s) :
    Kept κ (State.enqueue s q c) := by
  unfold State.enqueue
  (try simp only [])
  with_reducible repeat' (first | exact hk | exact id | apply State.updQueue_kept | apply State.updPrin_kept | apply ite_kept | split | fail_if_no_progress apply Kept.rest)

theorem State.admitMetered_kept {κ : Keep} {s : State} {h : CmdHead} {op : Nat} {body : List Nat} {c : Cmd} (hk : Kept κ s) :
    Kept κ (State.admitMetered s h op body c) := by
  unfold State.admitMetered
  simp only []
  have hm := State.meter_kept (p := h.principal) (c := c) (cost := costOf c h.flags (match c with
    | .stage id part parts entries => stageTotal (s.prin h.principal).assembly h.flags id part parts entries.length
    | _ => 0)) hk
  generalize s.meter h.principal c _ = m at hm ⊢
  obtain ⟨col, t⟩ := m
  simp only [] at hm ⊢
  split
  · exact State.answer_kept (State.bump_kept hm)
  split
  · exact State.answer_kept (State.bump_kept hm)
  split
  · exact State.answer_kept (State.bump_kept hm)
  split
  · exact State.answer_kept hm
  split
  · exact State.answer_kept hm
  split
  · split
    · next heq =>
      have h' := pair_trd heq (State.stagePart_kept hm)
      split
      · exact State.enqueue_kept h'
      · exact State.enqueue_kept (State.answer_kept h')
    · next heq => exact State.answer_kept (pair_trd heq (State.stagePart_kept hm))
  · exact State.enqueue_kept hm

theorem State.admitCmd_kept {κ : Keep} {s : State} {epoch : Nat} {h : CmdHead} {op : Nat} {body : List Nat} (hk : Kept κ s) :
    Kept κ (State.admitCmd s epoch h op body) := by
  unfold State.admitCmd
  (try simp only [])
  with_reducible repeat' (first | exact hk | apply State.admitMetered_kept | apply State.chargeRefused_kept | apply State.answer_kept | apply ite_kept | (rename_i e; refine pair_snd e ?_) | (rename_i e; refine pair_fst e ?_) | (rename_i e; refine pair_trd e ?_) | split)

theorem State.admitFrame_kept {κ : Keep} {s : State} {f : RxFrame} (hk : Kept κ s) :
    Kept κ (State.admitFrame s f) := by
  unfold State.admitFrame
  (try simp only [])
  with_reducible repeat' (first | exact hk | exact id | apply State.admitCmd_kept | refine State.over_kept (fun _ _ hk => ?_) ?_ | exact fun h => by simpa using h | split)

theorem State.admitBatch_kept {κ : Keep} {s : State} (hk : Kept κ s) :
    Kept κ (State.admitBatch s) := by
  exact State.over_kept (fun _ _ h => State.admitFrame_kept h) (State.setLinks_kept (State.takeBatch_kept hk) id id)

theorem State.yellowExpire_kept {κ : Keep} {s : State} (hk : Kept κ s) :
    Kept κ (State.yellowExpire s) := by
  unfold State.yellowExpire
  (try simp only [])
  with_reducible repeat' (first | exact hk | exact id | apply State.due_kept | apply State.answer_kept | apply State.bump_kept | apply State.setSched_kept | refine State.over_kept (fun _ _ hk => ?_) ?_ | exact (List.length_map _).trans | split | fail_if_no_progress apply Kept.rest)

theorem State.release_kept {κ : Keep} {s : State} {q : Nat} {c : QCmd} (hk : Kept κ s) :
    Kept κ (State.release s q c) := by
  unfold State.release
  (try simp only [])
  with_reducible repeat' (first | exact hk | exact id | apply State.updQueue_kept | apply State.runCmd_kept | apply State.setSched_kept | apply ite_kept | split | fail_if_no_progress apply Kept.rest)

theorem releaseRound_kept {κ : Keep} {s0 : State} {qs : List Nat} {slot : Int} {yellow : Bool} {n : Nat} {x : State × Int × List Nat}
    (hk : Kept κ x.1) : Kept κ (releaseRound s0 qs slot yellow n x).1 := by
  induction n generalizing x with
  | zero => exact hk
  | succ n ih =>
    obtain ⟨s, budget, held⟩ := x
    unfold releaseRound
    split
    · exact hk
    · split
      · exact hk
      · split
        · exact ih hk
        · split
          · exact hk
          · exact ih (State.release_kept hk)

theorem releaseRounds_kept {κ : Keep} {s0 : State} {qs : List Nat} {slot : Int} {x : State × Int × List Nat} (hk : Kept κ x.1) :
    Kept κ (releaseRounds s0 qs slot x).1 :=
  releaseRound_kept (releaseRound_kept hk)

theorem State.releaseAll_kept {κ : Keep} {s : State} (hk : Kept κ s) :
    Kept κ (State.releaseAll s) := by
  unfold State.releaseAll
  simp only []
  split
  · refine releaseRounds_kept ?_
    split
    · exact releaseRounds_kept hk
    · exact hk
  · exact releaseRounds_kept hk

theorem State.unitsFenced_kept {κ : Keep} {s : State} {before : Nat} (hk : Kept κ s) :
    Kept κ (State.unitsFenced s before) := by
  unfold State.unitsFenced
  (try simp only [])
  with_reducible repeat' (first | exact hk | exact id | apply State.dropLink_kept | apply State.haltGen_kept | apply State.stopGen_kept | apply State.updGen_kept | refine State.over_kept (fun _ _ hk => ?_) ?_ | split | fail_if_no_progress apply Kept.rest)

theorem State.toPoint_kept {κ : Keep} {s : State} (hk : Kept κ s) (h_clk : κ.clk { s.clk with point := s.clk.next, next := s.clk.next + 1 }) :
    Kept κ (State.toPoint s) := hk.clk_ fun _ => h_clk

theorem State.pointWork_kept {κ : Keep} {s : State} {differ : Bool} (hk : Kept κ s) :
    Kept κ (State.pointWork s differ) := by
  unfold State.pointWork
  (try simp only [])
  with_reducible repeat' (first | exact hk | exact id | apply State.unitsFenced_kept | apply State.releaseAll_kept | apply State.yellowExpire_kept | apply State.admitBatch_kept | apply State.refillMeters_kept | apply State.settleFences_kept | apply State.drainRing_kept | apply State.buildAll_kept | apply State.returnPower_kept | apply State.centralDivergence_kept | apply State.takeResort_kept | apply State.tryAll_kept | apply State.faultRound_kept | apply State.setSched_kept | apply ite_kept | split | fail_if_no_progress apply Kept.rest)

theorem State.admissionPoint_kept {κ : Keep} {s : State} {differ : Bool} (hk : Kept κ s) (h_clk : κ.clk { s.clk with point := s.clk.next, next := s.clk.next + 1 }) :
    Kept κ (State.admissionPoint s differ) := by
  unfold State.admissionPoint
  (try simp only [])
  with_reducible repeat' (first | exact hk | exact h_clk | apply State.pointWork_kept | apply State.toPoint_kept | apply State.timeTo_kept | apply ite_kept | split)

theorem State.refillBuckets_kept {κ : Keep} {s : State} (hk : Kept κ s) :
    Kept κ (State.refillBuckets s) := by
  unfold State.refillBuckets
  (try simp only [])
  with_reducible repeat' (first | exact hk | exact id | apply State.wrS_kept | refine State.over_kept (fun _ _ hk => ?_) ?_ | apply ite_kept | split)

theorem State.sampleQueues_kept {κ : Keep} {s : State} (hk : Kept κ s) :
    Kept κ (State.sampleQueues s) := by
  unfold State.sampleQueues
  (try simp only [])
  with_reducible repeat' (first | exact hk | exact id | apply State.bump_kept | apply State.wr_kept | refine State.over_kept (fun _ _ hk => ?_) ?_ | (rename_i e; refine pair_snd e ?_) | (rename_i e; refine pair_fst e ?_) | (rename_i e; refine pair_trd e ?_) | split)

end Sys2Proof.Machine
end

