-- ==== Sys2Proof/Laws/KeptFrame.lean ====
section
/-! SUPPORT. Laws/KeptFrame.lean: every operation of Machine/Frame.lean keeps the invariants of the state (Laws/Kept.lean). -/

set_option linter.all false
set_option Elab.async false

namespace Sys2Proof.Machine

open Sys2Proof

theorem State.releaseDeadline_kept {κ : Keep} {s : State} {overran : List Nat} {margins : List (Nat × Nat)} {found replayed : List Mismatch} (hk : Kept κ s) :
    Kept κ (State.releaseDeadline s overran margins found replayed) := by
  unfold State.releaseDeadline
  (try simp only [])
  with_reducible repeat' (first | exact hk | exact id | apply State.divReplay_kept | apply State.divHold_kept | apply State.noteMargin_kept | apply State.completeFrame_kept | apply State.raise_kept | apply State.bump_kept | refine State.over_kept (fun _ _ hk => ?_) ?_ | apply ite_kept | split)

theorem State.modeApply_kept {κ : Keep} {s : State} (hk : Kept κ s) (h_mode : ∀ x, κ.mode x := by assumption) :
    Kept κ (State.modeApply s) := by
  unfold State.modeApply
  (try simp only [])
  with_reducible repeat' (first | exact hk | exact Kept.reg_ (s := { s with mode := _, modeNext := none }) (hk.mode_ fun _ => h_mode _) id id id | exact h_mode | exact fun _ => h_mode _ | exact id | apply State.dropLink_kept | apply State.setPw_kept | apply State.leaveSolo_kept | apply State.enterSolo_kept | apply State.dropExactOnly_kept | apply State.loadAmps_kept | apply State.alertState_kept | refine State.over_kept (fun _ _ hk => ?_) ?_ | apply ite_kept | exact (List.length_map _).trans | (rename_i e; refine pair_snd e ?_) | (rename_i e; refine pair_fst e ?_) | (rename_i e; refine pair_trd e ?_) | split | fail_if_no_progress apply Kept.rest | fail_if_no_progress apply Kept.mode_ | apply Kept.reg_)

theorem State.hostItem_kept {κ : Keep} {s : State} {h : RegHit} (hk : Kept κ s) :
    Kept κ (State.hostItem s h) := by
  unfold State.hostItem
  (try simp only [])
  with_reducible repeat' (first | exact hk | exact id | apply State.checkPrated_kept | apply State.hostCal_kept | apply State.setHka_kept | apply State.advance_kept | apply State.wr_kept | (rename_i e; refine pair_snd e ?_) | (rename_i e; refine pair_fst e ?_) | (rename_i e; refine pair_trd e ?_) | split | fail_if_no_progress apply Kept.rest)

theorem State.hostLevel_kept {κ : Keep} {s : State} {x : Shadow × RegHit} (hk : Kept κ s) :
    Kept κ (State.hostLevel s x) := by
  unfold State.hostLevel
  (try simp only [])
  with_reducible repeat' (first | exact hk | exact id | apply State.putLevel_kept | apply ite_kept | split | fail_if_no_progress apply Kept.rest)

theorem State.applyWrites_kept {κ : Keep} {s : State} (hk : Kept κ s) :
    Kept κ (State.applyWrites s) := by
  unfold State.applyWrites
  (try simp only [])
  with_reducible repeat' (first | exact hk | exact id | apply State.hostLevel_kept | apply State.hostItem_kept | apply State.clampMeters_kept | apply State.ahead_kept | apply State.masksApplied_kept | apply State.selected_kept | apply State.ppsMarkNow_kept | apply State.hostCal_kept | apply State.afterWrites_kept | apply State.applyRequests_kept | refine State.over_kept (fun _ _ hk => ?_) ?_ | apply ite_kept | exact (List.length_map _).trans | split | fail_if_no_progress apply Kept.rest | apply Kept.reg_)

theorem State.fenceSlice_kept {κ : Keep} {s : State} {t j : Nat} (hk : Kept κ s) :
    Kept κ (State.fenceSlice s t j) := by
  unfold State.fenceSlice
  (try simp only [])
  with_reducible repeat' (first | exact hk | apply State.spareFails_kept | apply State.loseSlice_kept | apply State.updSense_kept | apply State.wr_kept | apply ite_kept | split | fail_if_no_progress apply Kept.rest)

theorem State.fenceTile_kept {κ : Keep} {s : State} {t : Nat} (hk : Kept κ s) :
    Kept κ (State.fenceTile s t) := by
  unfold State.fenceTile
  (try simp only [])
  with_reducible repeat' (first | exact hk | exact id | apply State.fenceCtx_kept | apply State.setWord_kept | refine State.over_kept (fun _ _ hk => ?_) ?_ | apply ite_kept | split)

theorem State.takeReaction_kept {κ : Keep} {s : State} {r : Reaction} (hk : Kept κ s) :
    Kept κ (State.takeReaction s r) := by
  unfold State.takeReaction
  (try simp only [])
  with_reducible repeat' (first | exact hk | apply State.fenceTile_kept | apply State.fenceSlice_kept | apply State.fenceCtx_kept | (rename_i e; refine pair_snd e ?_) | (rename_i e; refine pair_fst e ?_) | (rename_i e; refine pair_trd e ?_) | split)

theorem State.takeReactions_kept {κ : Keep} {s : State} (hk : Kept κ s) :
    Kept κ (State.takeReactions s) := by
  unfold State.takeReactions
  (try simp only [])
  with_reducible repeat' (first | exact hk | exact id | apply State.takeReaction_kept | apply State.due_kept | apply State.react_kept | refine State.over_kept (fun _ _ hk => ?_) ?_ | exact (List.length_map _).trans | split | fail_if_no_progress apply Kept.rest)

theorem State.unfenceOne_kept {κ : Keep} {s : State} {x : Nat × Nat} (hk : Kept κ s) :
    Kept κ (State.unfenceOne s x) := by
  unfold State.unfenceOne
  (try simp only [])
  with_reducible repeat' (first | exact hk | exact id | apply State.setWord_kept | (rename_i e; refine pair_snd e ?_) | (rename_i e; refine pair_fst e ?_) | (rename_i e; refine pair_trd e ?_) | split)

theorem State.takeUnfences_kept {κ : Keep} {s : State} (hk : Kept κ s) :
    Kept κ (State.takeUnfences s) := by
  unfold State.takeUnfences
  (try simp only [])
  with_reducible repeat' (first | exact hk | exact id | apply State.unfenceOne_kept | refine State.over_kept (fun _ _ hk => ?_) ?_ | split | fail_if_no_progress apply Kept.rest)

theorem State.latchConds_kept {κ : Keep} {s : State} (hk : Kept κ s) :
    Kept κ (State.latchConds s) := by
  unfold State.latchConds
  (try simp only [])
  with_reducible repeat' (first | exact hk | exact id | apply State.updGen_kept | refine State.over_kept (fun _ _ hk => ?_) ?_ | apply ite_kept | split | fail_if_no_progress apply Kept.rest)

theorem State.settleOne_kept {κ : Keep} {s : State} {c : Commit} (hk : Kept κ s) :
    Kept κ (State.settleOne s c) := by
  unfold State.settleOne
  (try simp only [])
  with_reducible repeat' (first | exact hk | apply State.updCommit_kept | apply State.bumpB_kept | apply State.wrB_kept | apply ite_kept | (rename_i e; refine pair_snd e ?_) | (rename_i e; refine pair_fst e ?_) | (rename_i e; refine pair_trd e ?_) | split | fail_if_no_progress apply Kept.rest)

theorem State.referenceOne_kept {κ : Keep} {s : State} {num : Nat} {k : Conn} (hk : Kept κ s) :
    Kept κ (State.referenceOne s num k) := by
  unfold State.referenceOne
  (try simp only [])
  with_reducible repeat' (first | exact hk | apply State.updCommit_kept | apply State.free_kept | apply ite_kept | (rename_i e; refine pair_snd e ?_) | (rename_i e; refine pair_fst e ?_) | (rename_i e; refine pair_trd e ?_) | split | fail_if_no_progress apply Kept.rest)

theorem State.settleFrame_kept {κ : Keep} {s : State} (hk : Kept κ s) :
    Kept κ (State.settleFrame s) := by
  unfold State.settleFrame
  (try simp only [])
  with_reducible repeat' (first | exact hk | exact id | apply State.referenceOne_kept | apply State.settleOne_kept | apply State.updCommit_kept | refine State.over_kept (fun _ _ hk => ?_) ?_ | apply ite_kept | exact (List.length_map _).trans | (rename_i e; refine pair_snd e ?_) | (rename_i e; refine pair_fst e ?_) | (rename_i e; refine pair_trd e ?_) | split | fail_if_no_progress apply Kept.rest)

theorem State.availFrame_kept {κ : Keep} {s : State} (hk : Kept κ s) :
    Kept κ (State.availFrame s) := by
  unfold State.availFrame
  (try simp only [])
  with_reducible repeat' (first | exact hk | apply ite_kept | split | fail_if_no_progress apply Kept.rest)

theorem State.commitDone_kept {κ : Keep} {s : State} (hk : Kept κ s) :
    Kept κ (State.commitDone s) := by
  unfold State.commitDone
  (try simp only [])
  with_reducible repeat' (first | exact hk | exact id | apply State.commitDoneNotice_kept | apply State.dropCommit_kept | refine State.over_kept (fun _ _ hk => ?_) ?_ | split)

theorem State.commitSwitch_kept {κ : Keep} {s : State} {chip : Nat} {late differ : List Nat} (hk : Kept κ s) :
    Kept κ (State.commitSwitch s chip late differ) := by
  unfold State.commitSwitch
  (try simp only [])
  with_reducible repeat' (first | exact hk | exact id | apply State.holdSelection_kept | apply State.centralDivergence_kept | apply State.countEmphasis_kept | apply State.due_kept | apply State.alignCommit_kept | apply State.switchCommit_kept | apply State.bumpB_kept | refine State.over_kept (fun _ _ hk => ?_) ?_ | apply State.when_kept | apply ite_kept | exact (List.length_map _).trans | split)

theorem State.lateTileApply_kept {κ : Keep} {s : State} {t : Nat} (hk : Kept κ s) :
    Kept κ (State.lateTileApply s t) := by
  unfold State.lateTileApply
  (try simp only [])
  with_reducible repeat' (first | exact hk | exact id | apply State.freeSelection_kept | apply State.select_kept | refine State.over_kept (fun _ _ hk => ?_) ?_ | apply ite_kept | (rename_i e; refine pair_snd e ?_) | (rename_i e; refine pair_fst e ?_) | (rename_i e; refine pair_trd e ?_) | split)

theorem State.tokenLost_kept {κ : Keep} {s : State} (hk : Kept κ s) :
    Kept κ (State.tokenLost s) := by
  unfold State.tokenLost
  (try simp only [])
  with_reducible repeat' (first | exact hk | exact id | apply State.showTokens_kept | apply State.refuseCommit_kept | apply State.raise_kept | apply State.bump_kept | refine State.over_kept (fun _ _ hk => ?_) ?_ | (rename_i e; refine pair_snd e ?_) | (rename_i e; refine pair_fst e ?_) | (rename_i e; refine pair_trd e ?_) | split | fail_if_no_progress apply Kept.rest)

theorem State.endFlights_kept {κ : Keep} {s : State} (hk : Kept κ s) :
    Kept κ (State.endFlights s) := by
  unfold State.endFlights
  (try simp only [])
  with_reducible repeat' (first | exact hk | exact id | apply State.endFlight_kept | apply State.setSched_kept | refine State.over_kept (fun _ _ hk => ?_) ?_ | split | fail_if_no_progress apply Kept.rest)

theorem State.openLanes_kept {κ : Keep} {s : State} (hk : Kept κ s) :
    Kept κ (State.openLanes s) := by
  unfold State.openLanes
  (try simp only [])
  with_reducible repeat' (first | exact hk | exact id | apply State.announce_kept | apply State.setLinks_kept | refine State.over_kept (fun _ _ hk => ?_) ?_ | apply ite_kept | split | fail_if_no_progress apply Kept.rest)

theorem State.endRouteWindow_kept {κ : Keep} {s : State} (hk : Kept κ s) :
    Kept κ (State.endRouteWindow s) := by
  unfold State.endRouteWindow
  (try simp only [])
  with_reducible repeat' (first | exact hk | exact id | apply State.setRoute_kept | apply State.wrP_kept | refine State.over_kept (fun _ _ hk => ?_) ?_ | apply ite_kept | exact (List.length_map _).trans | split | fail_if_no_progress apply Kept.rest)

theorem State.endFrame_kept {κ : Keep} {s : State} {x : FrameIn} (hk : Kept κ s) :
    Kept κ (State.endFrame s x) := by
  unfold State.endFrame
  (try simp only [])
  with_reducible repeat' (first | exact hk | apply State.calBefore_kept | apply State.allStatus_kept | apply State.completeFrame_kept | apply State.pushSums_kept | apply State.senseBefore_kept | apply ite_kept | split)

theorem State.afterGap_kept {κ : Keep} {s : State} (hk : Kept κ s) :
    Kept κ (State.afterGap s) := by
  unfold State.afterGap
  (try simp only [])
  with_reducible repeat' (first | exact hk | exact id | apply State.setTime_kept | apply ite_kept | exact (List.length_map _).trans | (rename_i e; refine pair_snd e ?_) | (rename_i e; refine pair_fst e ?_) | (rename_i e; refine pair_trd e ?_) | split | fail_if_no_progress apply Kept.rest)

theorem State.tileBoundary_kept {κ : Keep} {s : State} {x : FrameIn} (hk : Kept κ s) :
    Kept κ (State.tileBoundary s x) := by
  unfold State.tileBoundary
  (try simp only [])
  with_reducible repeat' (first | exact hk | apply State.afterGap_kept | apply State.availFrame_kept | apply State.settleFrame_kept | apply State.latchConds_kept | apply State.takeUnfences_kept | apply State.takeReactions_kept | apply State.applyWrites_kept | apply State.dustScaled_kept | apply State.watchStep_kept | apply State.divResume_kept | apply State.divMeasure_kept | apply State.divRelease_kept | apply State.sweepFrame_kept | apply State.calFrame_kept | apply State.updateFailed_kept | apply State.applyPrimer_kept | apply State.handshakes_kept | apply State.releaseOutputs_kept | apply State.latchFenced_kept | apply State.applyTrims_kept | apply State.applyModes_kept | apply State.applyLatches_kept | apply State.endBlanking_kept | apply State.allBs_kept | apply State.releaseFrame_kept | apply State.latchSpa_kept | apply State.latchSpp_kept | apply State.validityPass_kept | apply State.latchStreams_kept | apply State.showWords_kept | apply State.clearChanged_kept | apply State.bindSlots_kept | apply State.hkaTrims_kept | apply State.watermarkNotices_kept | apply State.captureBoundary_kept | apply State.senseAfter_kept | apply ite_kept | split | fail_if_no_progress apply Kept.rest)

theorem State.centralBoundary_kept {κ : Keep} {s : State} {x : FrameIn} (hk : Kept κ s) :
    Kept κ (State.centralBoundary s x) := by
  unfold State.centralBoundary
  (try simp only [])
  with_reducible repeat' (first | exact hk | exact id | apply State.endRouteWindow_kept | apply State.openLanes_kept | apply State.endFlights_kept | apply State.sampleQueues_kept | apply State.refillBuckets_kept | apply State.settleFences_kept | apply State.clearLocks_kept | apply State.dustFrame_kept | apply State.ringFrame_kept | apply State.stopTiles_kept | apply State.rtcFrames_kept | apply State.cellarVote_kept | apply State.timeFrame_kept | apply State.beginGap_kept | apply State.ppsStep_kept | apply State.endMarginWindow_kept | apply State.rearrangeNotices_kept | refine State.over_kept (fun _ _ hk => ?_) ?_ | apply ite_kept | split)

theorem State.frameBoundary_kept {κ : Keep} {s : State} {x : FrameIn} (hk : Kept κ s) (h_clk : κ.clk { frame := s.clk.frame + 1, point := 0, next := 0 }) :
    Kept κ (State.frameBoundary s x) := by
  have he : (s.endFrame x).clk = s.clk := (State.endFrame_kept (κ := { κ with clk := fun c => c = s.clk }) (x := x) { hk with clk := rfl }).clk
  unfold State.frameBoundary
  (try simp only [])
  with_reducible repeat' (first | exact hk | exact h_clk | exact fun _ => h_clk | exact fun _ => he ▸ h_clk | exact id | apply State.centralBoundary_kept | apply State.tileBoundary_kept | apply State.endFrame_kept | apply State.takeUnfences_kept | apply State.takeReactions_kept | apply State.applyWrites_kept | apply State.timeTo_kept | apply State.setSched_kept | apply ite_kept | split | fail_if_no_progress apply Kept.rest | fail_if_no_progress apply Kept.clk_)

end Sys2Proof.Machine
end

