-- ==== Sys2Proof/Laws/KeptRowOps.lean ====
section
/-! SUPPORT. Laws/KeptRowOps.lean: every operation of Machine/RowOps.lean keeps the invariants of the state (Laws/Kept.lean). -/

set_option linter.all false
set_option Elab.async false

namespace Sys2Proof.Machine

open Sys2Proof

theorem State.applyExpress_kept {κ : Keep} {s : State} {x : Upd} (hk : Kept κ s) :
    Kept κ (State.applyExpress s x) := by
  unfold State.applyExpress
  (try simp only [])
  with_reducible repeat' (first | exact hk | apply State.releaseLevel_kept | apply State.store_kept | apply ite_kept | (rename_i e; refine pair_snd e ?_) | (rename_i e; refine pair_fst e ?_) | (rename_i e; refine pair_trd e ?_) | split)

theorem State.expressUpdate_kept {κ : Keep} {s : State} {n chip : Nat} {codes : List Nat} {applied differ : Bool} (hk : Kept κ s) :
    Kept κ (State.expressUpdate s n chip codes applied differ) := by
  unfold State.expressUpdate
  (try simp only [])
  with_reducible repeat' (first | exact hk | apply State.applyExpress_kept | apply State.expressMismatch_kept | apply State.chipRecords_kept | apply State.noteExpress_kept | apply State.setLoop_kept | apply ite_kept | (rename_i e; refine pair_snd e ?_) | (rename_i e; refine pair_fst e ?_) | (rename_i e; refine pair_trd e ?_) | split | fail_if_no_progress apply Kept.rest)

theorem State.noteStream_kept {κ : Keep} {s : State} {h : CmdHead} {op : Nat} (hk : Kept κ s) :
    Kept κ (State.noteStream s h op) := by
  unfold State.noteStream
  (try simp only [])
  with_reducible repeat' (first | exact hk | apply State.updPrin_kept | apply ite_kept | split | fail_if_no_progress apply Kept.rest)

theorem State.effect_kept {κ : Keep} {s : State} {h : CmdHead} {c : Cmd} (hk : Kept κ s) :
    Kept κ (State.effect s h c) := by
  unfold State.effect
  (try simp only [])
  with_reducible repeat' (first | exact hk | exact id | apply State.noteStream_kept | apply State.runCmd_kept | apply State.setSched_kept | split | fail_if_no_progress apply Kept.rest)

theorem State.effectOrWait_kept {κ : Keep} {s : State} {h : CmdHead} {c : Cmd} {cost : Nat} (hk : Kept κ s) :
    Kept κ (State.effectOrWait s h c cost) := by
  unfold State.effectOrWait
  (try simp only [])
  with_reducible repeat' (first | exact hk | apply State.effect_kept | apply State.enqueue_kept | apply State.answer_kept | apply State.bump_kept | apply ite_kept | split | fail_if_no_progress apply Kept.rest)

theorem State.command_kept {κ : Keep} {s : State} {h : CmdHead} {c : Cmd} (hk : Kept κ s) :
    Kept κ (State.command s h c) := by
  unfold State.command
  simp only []
  split
  · exact hk
  split
  · exact State.answer_kept hk
  split
  · split
    · next heq =>
      have h' := pair_trd heq (State.stagePart_kept hk)
      split
      · exact State.effectOrWait_kept h'
      · exact State.effectOrWait_kept (State.answer_kept h')
    · next heq => exact State.answer_kept (pair_trd heq (State.stagePart_kept hk))
  · exact State.effectOrWait_kept hk

theorem State.noteStatus_kept {κ : Keep} {s : State} {r : Requester} {code : Nat} (hk : Kept κ s) :
    Kept κ (State.noteStatus s r code) := by
  unfold State.noteStatus
  (try simp only [])
  with_reducible repeat' (first | exact hk | apply State.setSb_kept | (rename_i e; refine pair_snd e ?_) | (rename_i e; refine pair_fst e ?_) | (rename_i e; refine pair_trd e ?_) | split | fail_if_no_progress apply Kept.rest)

theorem State.regWrite_kept {κ : Keep} {s : State} {r : Requester} {a : Nat} {data : List Nat} (hk : Kept κ s) :
    Kept κ (State.regWrite s r a data) := by
  unfold State.regWrite
  (try simp only [])
  with_reducible repeat' (first | exact hk | apply State.noteStatus_kept | apply State.writeMany_kept | apply ite_kept | (rename_i e; refine pair_snd e ?_) | (rename_i e; refine pair_fst e ?_) | (rename_i e; refine pair_trd e ?_) | split)

theorem State.regRead_kept {κ : Keep} {s : State} {r : Requester} {a n : Nat} (hk : Kept κ s) :
    Kept κ (State.regRead s r a n) := by
  unfold State.regRead
  (try simp only [])
  with_reducible repeat' (first | exact hk | apply State.setSb_kept | apply State.readMany_kept | apply ite_kept | (rename_i e; refine pair_snd e ?_) | (rename_i e; refine pair_fst e ?_) | (rename_i e; refine pair_trd e ?_) | split | fail_if_no_progress apply Kept.rest)

theorem State.writeFields_kept {κ : Keep} {s : State} {r : Requester} {a : Nat} {l : List (FieldAt × Nat)} (hk : Kept κ s) :
    Kept κ (State.writeFields s r a l) := by
  unfold State.writeFields
  (try simp only [])
  with_reducible repeat' (first | exact hk | apply State.regWrite_kept | refine foldl_kept (fun _ _ hk => ?_) ?_ | refine foldl_fst_kept (fun _ _ hk => ?_) ?_ | refine foldl_snd_kept (fun _ _ hk => ?_) ?_ | split)

theorem State.faultMessage_kept {κ : Keep} {s : State} {m : FaultMsg} (hk : Kept κ s) :
    Kept κ (State.faultMessage s m) := by
  unfold State.faultMessage
  (try simp only [])
  with_reducible repeat' (first | exact hk | apply State.raise_kept | apply ite_kept | split)

theorem State.endMessage_kept {κ : Keep} {s : State} {m : FaultMsg} (hk : Kept κ s) :
    Kept κ (State.endMessage s m) := by
  unfold State.endMessage
  (try simp only [])
  with_reducible repeat' (first | exact hk | apply State.endReport_kept | apply ite_kept | split)

theorem State.coreRestart_kept {κ : Keep} {s : State} {p : Plane} (hk : Kept κ s) :
    Kept κ (State.coreRestart s p) := by
  unfold State.coreRestart
  (try simp only [])
  with_reducible repeat' (first | exact hk | apply ite_kept | (rename_i e; refine pair_snd e ?_) | (rename_i e; refine pair_fst e ?_) | (rename_i e; refine pair_trd e ?_) | split | fail_if_no_progress apply Kept.rest)

theorem State.watchdog_kept {κ : Keep} {s : State} {p : Plane} (hk : Kept κ s) :
    Kept κ (State.watchdog s p) := by
  unfold State.watchdog
  (try simp only [])
  with_reducible repeat' (first | exact hk | apply State.raise_kept | apply ite_kept | split)

theorem State.trngHealth_kept {κ : Keep} {s : State} (hk : Kept κ s) :
    Kept κ (State.trngHealth s) := by
  unfold State.trngHealth
  (try simp only [])
  with_reducible repeat' (first | exact hk | apply State.raise_kept | apply ite_kept | split | fail_if_no_progress apply Kept.rest)

theorem State.enterRun_kept {κ : Keep} {s : State} {ms : Nat} (hk : Kept κ s) (h_mode : ∀ x, κ.mode x := by assumption) :
    Kept κ (State.enterRun s ms) := by
  unfold State.enterRun
  (try simp only [])
  with_reducible repeat' (first | exact hk | exact h_mode | exact id | apply State.openLanes_kept | apply State.runEntry_kept | apply ite_kept | split)

theorem State.roundRow_kept {κ : Keep} {s : State} {counts : List (Nat × Nat)} (hk : Kept κ s) :
    Kept κ (State.roundRow s counts) := by
  unfold State.roundRow
  (try simp only [])
  with_reducible repeat' (first | exact hk | apply State.trySession_kept | apply State.sensorRound_kept | apply ite_kept | split)

end Sys2Proof.Machine
end

