-- ==== Sys2Proof/Laws/KeptExec.lean ====
section
/-! SUPPORT. Laws/KeptExec.lean: every command keeps the invariants of the state (Laws/Kept.lean). -/

set_option linter.all false
set_option Elab.async false

namespace Sys2Proof.Machine

open Sys2Proof

theorem gated_kept {κ : Keep} {ok : Bool} {n : String} {u t : State} (hu : Kept κ u) (h : gated ok n u = .next t) : Kept κ t := by
  unfold gated at h
  split at h
  · cases h; exact hu
  · cases h

theorem State.ringMessage_kept {κ : Keep} {s : State} {f : State → State} (hf : ∀ s, Kept κ s → Kept κ (f s)) (hk : Kept κ s) :
    Kept κ (s.ringMessage f) := by
  unfold State.ringMessage
  split
  · exact hf _ hk
  · exact hk

theorem execFrameBoundary_kept {κ : Keep} {x : FrameIn} {s : State} {t : State} (hk : Kept κ s) (h_clk : κ.clk { frame := s.clk.frame + 1, point := 0, next := 0 }) (h_nor : ∀ x, κ.norIs x) (h : execFrameBoundary x s = .next t) : Kept κ t := by
  unfold execFrameBoundary at h
  refine gated_kept ?_ h
  with_reducible repeat' (first | exact hk | exact h_clk | exact h_nor | apply State.noteMortem_kept | apply State.frameBoundary_kept)

theorem execOfferInstant_kept {κ : Keep} {s : State} {t : State} (hk : Kept κ s) (h : execOfferInstant s = .next t) : Kept κ t := by
  unfold execOfferInstant at h
  refine gated_kept ?_ h
  with_reducible repeat' (first | exact hk | apply State.when_kept | apply State.when_kept | apply State.offer_kept)

theorem execAdmissionPoint_kept {κ : Keep} {differ : Bool} {s : State} {t : State} (hk : Kept κ s) (h_clk : κ.clk { s.clk with point := s.clk.next, next := s.clk.next + 1 }) (h_nor : ∀ x, κ.norIs x) (h : execAdmissionPoint differ s = .next t) : Kept κ t := by
  unfold execAdmissionPoint at h
  refine gated_kept ?_ h
  with_reducible repeat' (first | exact hk | exact h_clk | exact h_nor | apply State.noteMortem_kept | apply State.admissionPoint_kept)

theorem execReleaseDeadline_kept {κ : Keep} {overran : List Nat} {margins : List (Nat × Nat)} {found : List Mismatch} {replayed : List Mismatch} {s : State} {t : State} (hk : Kept κ s) (h : execReleaseDeadline overran margins found replayed s = .next t) : Kept κ t := by
  unfold execReleaseDeadline at h
  refine gated_kept ?_ h
  with_reducible repeat' (first | exact hk | apply State.releaseDeadline_kept)

theorem execModeApply_kept {κ : Keep} {s : State} {t : State} (hk : Kept κ s) (h_mode : ∀ x, κ.mode x) (h : execModeApply s = .next t) : Kept κ t := by
  unfold execModeApply at h
  refine gated_kept ?_ h
  with_reducible repeat' (first | exact hk | exact h_mode | apply State.when_kept | apply State.when_kept | apply State.modeApply_kept)

theorem execTlCalReq_kept {κ : Keep} {r : Requester} {tile : Nat} {s : State} {t : State} (hk : Kept κ s) (h : execTlCalReq r tile s = .next t) : Kept κ t := by
  unfold execTlCalReq at h
  refine gated_kept ?_ h
  with_reducible repeat' (first | exact hk | apply State.writeFields_kept)

theorem execTiaReq_kept {κ : Keep} {r : Requester} {tile : Nat} {s : State} {t : State} (hk : Kept κ s) (h : execTiaReq r tile s = .next t) : Kept κ t := by
  unfold execTiaReq at h
  refine gated_kept ?_ h
  with_reducible repeat' (first | exact hk | apply State.writeFields_kept)

theorem execCalAll_kept {κ : Keep} {r : Requester} {s : State} {t : State} (hk : Kept κ s) (h : execCalAll r s = .next t) : Kept κ t := by
  unfold execCalAll at h
  refine gated_kept ?_ h
  with_reducible repeat' (first | exact hk | apply State.writeFields_kept)

theorem execTileRunStart_kept {κ : Keep} {tile : Nat} {s : State} {t : State} (hk : Kept κ s) (h : execTileRunStart tile s = .next t) : Kept κ t := by
  unfold execTileRunStart at h
  refine gated_kept ?_ h
  with_reducible repeat' (first | exact hk | apply State.when_kept | apply State.when_kept | apply State.tileRunStart_kept)

theorem execTileRunEnd_kept {κ : Keep} {tile : Nat} {s : State} {t : State} (hk : Kept κ s) (h : execTileRunEnd tile s = .next t) : Kept κ t := by
  unfold execTileRunEnd at h
  refine gated_kept ?_ h
  with_reducible repeat' (first | exact hk | apply State.tileRunEnd_kept)

theorem execSvStart_kept {κ : Keep} {r : Requester} {s : State} {t : State} (hk : Kept κ s) (h : execSvStart r s = .next t) : Kept κ t := by
  unfold execSvStart at h
  refine gated_kept ?_ h
  with_reducible repeat' (first | exact hk | apply State.writeFields_kept)

theorem execSvAbort_kept {κ : Keep} {r : Requester} {s : State} {t : State} (hk : Kept κ s) (h : execSvAbort r s = .next t) : Kept κ t := by
  unfold execSvAbort at h
  refine gated_kept ?_ h
  with_reducible repeat' (first | exact hk | apply State.writeFields_kept)

theorem execSweepPoint_kept {κ : Keep} {s : State} {t : State} (hk : Kept κ s) (h : execSweepPoint s = .next t) : Kept κ t := by
  unfold execSweepPoint at h
  refine gated_kept ?_ h
  with_reducible repeat' (first | exact hk | apply State.sweepPoint_kept)

theorem execSweepEnd_kept {κ : Keep} {s : State} {t : State} (hk : Kept κ s) (h : execSweepEnd s = .next t) : Kept κ t := by
  unfold execSweepEnd at h
  refine gated_kept ?_ h
  with_reducible repeat' (first | exact hk | apply State.sweepEnd_kept)

theorem execSensorRound_kept {κ : Keep} {counts : List (Nat × Nat)} {s : State} {t : State} (hk : Kept κ s) (h_nor : ∀ x, κ.norIs x) (h : execSensorRound counts s = .next t) : Kept κ t := by
  unfold execSensorRound at h
  refine gated_kept ?_ h
  with_reducible repeat' (first | exact hk | exact h_nor | apply State.when_kept | apply State.when_kept | apply State.noteMortem_kept | apply State.sensorRound_kept | apply State.roundRow_kept)

theorem execSensorFail_kept {κ : Keep} {sensor : Nat} {cause : Nat} {s : State} {t : State} (hk : Kept κ s) (h : execSensorFail sensor cause s = .next t) : Kept κ t := by
  unfold execSensorFail at h
  refine gated_kept ?_ h
  with_reducible repeat' (first | exact hk | apply State.when_kept | apply State.when_kept | apply State.failSensor_kept)

theorem execAnalogTrip_kept {κ : Keep} {s : State} {t : State} (hk : Kept κ s) (h_nor : ∀ x, κ.norIs x) (h : execAnalogTrip s = .next t) : Kept κ t := by
  unfold execAnalogTrip at h
  refine gated_kept ?_ h
  with_reducible repeat' (first | exact hk | exact h_nor | apply State.when_kept | apply State.when_kept | apply State.noteMortem_kept | apply State.tripNow_kept)

theorem execTripHalt_kept {κ : Keep} {s : State} {t : State} (hk : Kept κ s) (h : execTripHalt s = .next t) : Kept κ t := by
  unfold execTripHalt at h
  refine gated_kept ?_ h
  with_reducible repeat' (first | exact hk | apply State.tripHalt_kept)

theorem execDeepSleepSensor_kept {κ : Keep} {count : Nat} {s : State} {t : State} (hk : Kept κ s) (h : execDeepSleepSensor count s = .next t) : Kept κ t := by
  unfold execDeepSleepSensor at h
  refine gated_kept ?_ h
  with_reducible repeat' (first | exact hk | apply State.when_kept | apply State.when_kept | apply State.deepSensor_kept)

theorem execDomainStop_kept {κ : Keep} {veto : Bool} {s : State} {t : State} (hk : Kept κ s) (h_clk : ∀ x, κ.clk x) (h_mode : ∀ x, κ.mode x) (h_fabric : ∀ x, κ.fabric x) (h_image : ∀ x, κ.image x) (h : execDomainStop veto s = .next t) : Kept κ t := by
  unfold execDomainStop at h
  refine gated_kept ?_ h
  with_reducible repeat' (first | exact hk | exact h_clk | exact h_mode | exact h_fabric | exact h_image | apply State.enterOff_kept | apply State.domainStop_kept)

theorem execWakeNLow_kept {κ : Keep} {us : Nat} {s : State} {t : State} (hk : Kept κ s) (h_clk : ∀ x, κ.clk x) (h : execWakeNLow us s = .next t) : Kept κ t := by
  unfold execWakeNLow at h
  refine gated_kept ?_ h
  with_reducible repeat' (first | exact hk | exact h_clk | apply State.wakeN_kept)

theorem execClockAlarm_kept {κ : Keep} {s : State} {t : State} (hk : Kept κ s) (h_clk : ∀ x, κ.clk x) (h : execClockAlarm s = .next t) : Kept κ t := by
  unfold execClockAlarm at h
  refine gated_kept ?_ h
  with_reducible repeat' (first | exact hk | exact h_clk | apply State.when_kept | apply State.when_kept | apply State.clockAlarm_kept)

theorem execLaneWake_kept {κ : Keep} {lane : Nat} {s : State} {t : State} (hk : Kept κ s) (h_clk : ∀ x, κ.clk x) (h : execLaneWake lane s = .next t) : Kept κ t := by
  unfold execLaneWake at h
  refine gated_kept ?_ h
  with_reducible repeat' (first | exact hk | exact h_clk | apply State.laneWake_kept)

theorem execLoopsResume_kept {κ : Keep} {banks : List (Plane × Nat)} {sets : List Nat} {s : State} {t : State} (hk : Kept κ s) (h : execLoopsResume banks sets s = .next t) : Kept κ t := by
  unfold execLoopsResume at h
  refine gated_kept ?_ h
  with_reducible repeat' (first | exact hk | apply State.loopsResume_kept)

theorem execDomainWakeOnDemand_kept {κ : Keep} {domain : Nat} {s : State} {t : State} (hk : Kept κ s) (h : execDomainWakeOnDemand domain s = .next t) : Kept κ t := by
  unfold execDomainWakeOnDemand at h
  refine gated_kept ?_ h
  with_reducible repeat' (first | exact hk | apply State.when_kept | apply State.when_kept | apply State.wakeDomain_kept)

theorem execWakeStall_kept {κ : Keep} {domain : Nat} {us : Nat} {s : State} {t : State} (hk : Kept κ s) (h : execWakeStall domain us s = .next t) : Kept κ t := by
  unfold execWakeStall at h
  refine gated_kept ?_ h
  with_reducible repeat' (first | exact hk | apply State.when_kept | apply State.when_kept | apply State.wakeStall_kept)

theorem execDomainReady_kept {κ : Keep} {domain : Nat} {s : State} {t : State} (hk : Kept κ s) (h : execDomainReady domain s = .next t) : Kept κ t := by
  unfold execDomainReady at h
  refine gated_kept ?_ h
  with_reducible repeat' (first | exact hk | apply State.when_kept | apply State.when_kept | apply State.domainReady_kept)

theorem execTdRateWrite_kept {κ : Keep} {r : Requester} {domain : Nat} {low : Nat} {s : State} {t : State} (hk : Kept κ s) (h : execTdRateWrite r domain low s = .next t) : Kept κ t := by
  unfold execTdRateWrite at h
  refine gated_kept ?_ h
  with_reducible repeat' (first | exact hk | apply State.regWrite_kept)

theorem execTdSet_kept {κ : Keep} {r : Requester} {domain : Nat} {ns : Nat} {s : State} {t : State} (hk : Kept κ s) (h : execTdSet r domain ns s = .next t) : Kept κ t := by
  unfold execTdSet at h
  refine gated_kept ?_ h
  with_reducible repeat' (first | exact hk | apply State.regWrite_kept)

theorem execTdAdjust_kept {κ : Keep} {r : Requester} {domain : Nat} {ns : Int} {s : State} {t : State} (hk : Kept κ s) (h : execTdAdjust r domain ns s = .next t) : Kept κ t := by
  unfold execTdAdjust at h
  refine gated_kept ?_ h
  with_reducible repeat' (first | exact hk | apply State.regWrite_kept)

theorem execTimeCapture_kept {κ : Keep} {r : Requester} {s : State} {t : State} (hk : Kept κ s) (h : execTimeCapture r s = .next t) : Kept κ t := by
  unfold execTimeCapture at h
  refine gated_kept ?_ h
  with_reducible repeat' (first | exact hk | apply State.writeFields_kept)

theorem execAlign_kept {κ : Keep} {r : Requester} {s : State} {t : State} (hk : Kept κ s) (h : execAlign r s = .next t) : Kept κ t := by
  unfold execAlign at h
  refine gated_kept ?_ h
  with_reducible repeat' (first | exact hk | apply State.writeFields_kept)

theorem execAlignmentGapEnd_kept {κ : Keep} {s : State} {t : State} (hk : Kept κ s) (h_clk : ∀ x, κ.clk x) (h : execAlignmentGapEnd s = .next t) : Kept κ t := by
  unfold execAlignmentGapEnd at h
  refine gated_kept ?_ h
  with_reducible repeat' (first | exact hk | exact h_clk | apply State.gapEnd_kept)

theorem execHoldover_kept {κ : Keep} {domain : Nat} {s : State} {t : State} (hk : Kept κ s) (h : execHoldover domain s = .next t) : Kept κ t := by
  unfold execHoldover at h
  refine gated_kept ?_ h
  with_reducible repeat' (first | exact hk | apply State.holdover_kept)

theorem execAutoSwitch_kept {κ : Keep} {s : State} {t : State} (hk : Kept κ s) (h : execAutoSwitch s = .next t) : Kept κ t := by
  unfold execAutoSwitch at h
  refine gated_kept ?_ h
  with_reducible repeat' (first | exact hk | apply State.autoSwitch_kept)

theorem execFclkLock_kept {κ : Keep} {s : State} {t : State} (hk : Kept κ s) (h : execFclkLock s = .next t) : Kept κ t := by
  unfold execFclkLock at h
  refine gated_kept ?_ h
  with_reducible repeat' (first | exact hk | apply State.fclkLock_kept)

theorem execPpsEdge_kept {κ : Keep} {stamp : Stamp} {s : State} {t : State} (hk : Kept κ s) (h : execPpsEdge stamp s = .next t) : Kept κ t := by
  unfold execPpsEdge at h
  refine gated_kept ?_ h
  with_reducible repeat' (first | exact hk | apply State.when_kept | apply State.when_kept | apply State.ppsEdge_kept)

theorem execPpsGap_kept {κ : Keep} {s : State} {t : State} (hk : Kept κ s) (h : execPpsGap s = .next t) : Kept κ t := by
  unfold execPpsGap at h
  refine gated_kept ?_ h
  with_reducible repeat' (first | exact hk | apply State.when_kept | apply State.when_kept | apply State.ppsGap_kept)

theorem execPpsOutEdge_kept {κ : Keep} {s : State} {t : State} (hk : Kept κ s) (h : execPpsOutEdge s = .next t) : Kept κ t := by
  unfold execPpsOutEdge at h
  refine gated_kept ?_ h
  with_reducible repeat' (first | exact hk | apply State.when_kept | apply State.when_kept | apply State.ppsOutEdge_kept)

theorem execTsPop_kept {κ : Keep} {r : Requester} {source : Nat} {s : State} {t : State} (hk : Kept κ s) (h : execTsPop r source s = .next t) : Kept κ t := by
  unfold execTsPop at h
  refine gated_kept ?_ h
  with_reducible repeat' (first | exact hk | apply State.tsPop_kept | apply State.regRead_kept)

theorem execBeaconRx_kept {κ : Keep} {port : Nat} {b : Beacon} {rx : Stamp} {rx0 : Stamp} {rx1 : Stamp} {residence : Int} {tx : Stamp} {s : State} {t : State} (hk : Kept κ s) (h : execBeaconRx port b rx rx0 rx1 residence tx s = .next t) : Kept κ t := by
  unfold execBeaconRx at h
  refine gated_kept ?_ h
  with_reducible repeat' (first | exact hk | apply State.when_kept | apply State.when_kept | apply State.beaconRx_kept)

theorem execBeaconPortSwitch_kept {κ : Keep} {s : State} {t : State} (hk : Kept κ s) (h : execBeaconPortSwitch s = .next t) : Kept κ t := by
  unfold execBeaconPortSwitch at h
  refine gated_kept ?_ h
  with_reducible repeat' (first | exact hk | apply State.beaconSwitch_kept)

theorem execLinkMessageRx_kept {κ : Keep} {port : Nat} {t1 : Int} {t2 : Int} {t3 : Int} {t4 : Int} {frame : Nat} {hops : Nat} {rx : Stamp} {tx : Stamp} {s : State} {t : State} (hk : Kept κ s) (h : execLinkMessageRx port t1 t2 t3 t4 frame hops rx tx s = .next t) : Kept κ t := by
  unfold execLinkMessageRx at h
  refine gated_kept ?_ h
  with_reducible repeat' (first | exact hk | apply State.when_kept | apply State.when_kept | apply State.linkMessage_kept)

theorem execRingLost_kept {κ : Keep} {port : Nat} {s : State} {t : State} (hk : Kept κ s) (h : execRingLost port s = .next t) : Kept κ t := by
  unfold execRingLost at h
  refine gated_kept ?_ h
  with_reducible repeat' (first | exact hk | apply State.ringLost_kept)

theorem execRingLock_kept {κ : Keep} {domain : Nat} {s : State} {t : State} (hk : Kept κ s) (h : execRingLock domain s = .next t) : Kept κ t := by
  unfold execRingLock at h
  refine gated_kept ?_ h
  with_reducible repeat' (first | exact hk | apply State.ringLock_kept)

theorem execApsinLinkDown_kept {κ : Keep} {port : Nat} {s : State} {t : State} (hk : Kept κ s) (h : execApsinLinkDown port s = .next t) : Kept κ t := by
  unfold execApsinLinkDown at h
  refine gated_kept ?_ h
  with_reducible repeat' (first | exact hk | apply State.when_kept | apply State.when_kept | apply State.apsinDown_kept)

theorem execRefclkLoss_kept {κ : Keep} {s : State} {t : State} (hk : Kept κ s) (h : execRefclkLoss s = .next t) : Kept κ t := by
  unfold execRefclkLoss at h
  refine gated_kept ?_ h
  with_reducible repeat' (first | exact hk | apply State.refclkLoss_kept)

theorem execFaultMessage_kept {κ : Keep} {cls : Nat} {inst : Nat} {kind : Nat} {plane : Nat} {count : Nat} {addr : Nat} {s : State} {t : State} (hk : Kept κ s) (h : execFaultMessage cls inst kind plane count addr s = .next t) : Kept κ t := by
  unfold execFaultMessage at h
  refine gated_kept ?_ h
  with_reducible repeat' (first | exact hk | apply State.faultMessage_kept)

theorem execEndReport_kept {κ : Keep} {cls : Nat} {inst : Nat} {kind : Nat} {plane : Nat} {count : Nat} {addr : Nat} {s : State} {t : State} (hk : Kept κ s) (h : execEndReport cls inst kind plane count addr s = .next t) : Kept κ t := by
  unfold execEndReport at h
  refine gated_kept ?_ h
  with_reducible repeat' (first | exact hk | apply State.endReport_kept | apply State.endMessage_kept)

theorem execClearFirst_kept {κ : Keep} {r : Requester} {s : State} {t : State} (hk : Kept κ s) (h : execClearFirst r s = .next t) : Kept κ t := by
  unfold execClearFirst at h
  refine gated_kept ?_ h
  with_reducible repeat' (first | exact hk | apply State.clearFirst_kept | apply State.writeFields_kept)

theorem execFcAck_kept {κ : Keep} {r : Requester} {slots : Nat} {s : State} {t : State} (hk : Kept κ s) (h : execFcAck r slots s = .next t) : Kept κ t := by
  unfold execFcAck at h
  refine gated_kept ?_ h
  with_reducible repeat' (first | exact hk | apply State.regWrite_kept)

theorem execFcUnfence_kept {κ : Keep} {r : Requester} {unit : Nat} {index : Nat} {s : State} {t : State} (hk : Kept κ s) (h : execFcUnfence r unit index s = .next t) : Kept κ t := by
  unfold execFcUnfence at h
  refine gated_kept ?_ h
  with_reducible repeat' (first | exact hk | apply State.writeFields_kept)

theorem execCoreRestart_kept {κ : Keep} {plane : Plane} {s : State} {t : State} (hk : Kept κ s) (h : execCoreRestart plane s = .next t) : Kept κ t := by
  unfold execCoreRestart at h
  refine gated_kept ?_ h
  with_reducible repeat' (first | exact hk | apply State.coreRestart_kept)

theorem execWatchdog_kept {κ : Keep} {plane : Plane} {s : State} {t : State} (hk : Kept κ s) (h : execWatchdog plane s = .next t) : Kept κ t := by
  unfold execWatchdog at h
  refine gated_kept ?_ h
  with_reducible repeat' (first | exact hk | apply State.watchdog_kept)

theorem execTrngHealth_kept {κ : Keep} {s : State} {t : State} (hk : Kept κ s) (h : execTrngHealth s = .next t) : Kept κ t := by
  unfold execTrngHealth at h
  refine gated_kept ?_ h
  with_reducible repeat' (first | exact hk | apply State.trngHealth_kept)

theorem execStArm_kept {κ : Keep} {r : Requester} {gen : Nat} {s : State} {t : State} (hk : Kept κ s) (h : execStArm r gen s = .next t) : Kept κ t := by
  unfold execStArm at h
  refine gated_kept ?_ h
  with_reducible repeat' (first | exact hk | apply State.writeFields_kept)

theorem execStStart_kept {κ : Keep} {r : Requester} {gen : Nat} {s : State} {t : State} (hk : Kept κ s) (h : execStStart r gen s = .next t) : Kept κ t := by
  unfold execStStart at h
  refine gated_kept ?_ h
  with_reducible repeat' (first | exact hk | apply State.writeFields_kept)

theorem execStHalt_kept {κ : Keep} {r : Requester} {gen : Nat} {s : State} {t : State} (hk : Kept κ s) (h : execStHalt r gen s = .next t) : Kept κ t := by
  unfold execStHalt at h
  refine gated_kept ?_ h
  with_reducible repeat' (first | exact hk | apply State.writeFields_kept)

theorem execEvtEdgeTrigger_kept {κ : Keep} {evt : Nat} {rising : Bool} {s : State} {t : State} (hk : Kept κ s) (h : execEvtEdgeTrigger evt rising s = .next t) : Kept κ t := by
  unfold execEvtEdgeTrigger at h
  refine gated_kept ?_ h
  with_reducible repeat' (first | exact hk | apply State.when_kept | apply State.when_kept | apply State.evtEdge_kept)

theorem execFrameTrigger_kept {κ : Keep} {inst : Nat} {s : State} {t : State} (hk : Kept κ s) (h : execFrameTrigger inst s = .next t) : Kept κ t := by
  unfold execFrameTrigger at h
  refine gated_kept ?_ h
  with_reducible repeat' (first | exact hk | apply State.when_kept | apply State.when_kept | apply State.frameTrigger_kept)

theorem execStop_kept {κ : Keep} {inst : Nat} {s : State} {t : State} (hk : Kept κ s) (h : execStop inst s = .next t) : Kept κ t := by
  unfold execStop at h
  refine gated_kept ?_ h
  with_reducible repeat' (first | exact hk | apply State.genStop_kept)

theorem execLda_kept {κ : Keep} {inst : Nat} {s : State} {t : State} (hk : Kept κ s) (h : execLda inst s = .next t) : Kept κ t := by
  unfold execLda at h
  refine gated_kept ?_ h
  with_reducible repeat' (first | exact hk | apply State.runOp_kept)

theorem execLdd_kept {κ : Keep} {inst : Nat} {s : State} {t : State} (hk : Kept κ s) (h : execLdd inst s = .next t) : Kept κ t := by
  unfold execLdd at h
  refine gated_kept ?_ h
  with_reducible repeat' (first | exact hk | apply State.runOp_kept)

theorem execAdda_kept {κ : Keep} {inst : Nat} {s : State} {t : State} (hk : Kept κ s) (h : execAdda inst s = .next t) : Kept κ t := by
  unfold execAdda at h
  refine gated_kept ?_ h
  with_reducible repeat' (first | exact hk | apply State.runOp_kept)

theorem execEmit_kept {κ : Keep} {inst : Nat} {s : State} {t : State} (hk : Kept κ s) (h : execEmit inst s = .next t) : Kept κ t := by
  unfold execEmit at h
  refine gated_kept ?_ h
  with_reducible repeat' (first | exact hk | apply State.runOp_kept)

theorem execRamp_kept {κ : Keep} {inst : Nat} {s : State} {t : State} (hk : Kept κ s) (h : execRamp inst s = .next t) : Kept κ t := by
  unfold execRamp at h
  refine gated_kept ?_ h
  with_reducible repeat' (first | exact hk | apply State.runOp_kept)

theorem execTable_kept {κ : Keep} {inst : Nat} {s : State} {t : State} (hk : Kept κ s) (h : execTable inst s = .next t) : Kept κ t := by
  unfold execTable at h
  refine gated_kept ?_ h
  with_reducible repeat' (first | exact hk | apply State.runOp_kept)

theorem execPrbs_kept {κ : Keep} {inst : Nat} {s : State} {t : State} (hk : Kept κ s) (h : execPrbs inst s = .next t) : Kept κ t := by
  unfold execPrbs at h
  refine gated_kept ?_ h
  with_reducible repeat' (first | exact hk | apply State.free_kept | apply State.runOp_kept)

theorem execLdc_kept {κ : Keep} {inst : Nat} {s : State} {t : State} (hk : Kept κ s) (h : execLdc inst s = .next t) : Kept κ t := by
  unfold execLdc at h
  refine gated_kept ?_ h
  with_reducible repeat' (first | exact hk | apply State.runOp_kept)

theorem execLoop_kept {κ : Keep} {inst : Nat} {s : State} {t : State} (hk : Kept κ s) (h : execLoop inst s = .next t) : Kept κ t := by
  unfold execLoop at h
  refine gated_kept ?_ h
  with_reducible repeat' (first | exact hk | apply State.runOp_kept)

theorem execJmp_kept {κ : Keep} {inst : Nat} {s : State} {t : State} (hk : Kept κ s) (h : execJmp inst s = .next t) : Kept κ t := by
  unfold execJmp at h
  refine gated_kept ?_ h
  with_reducible repeat' (first | exact hk | apply State.runOp_kept)

theorem execBr_kept {κ : Keep} {inst : Nat} {s : State} {t : State} (hk : Kept κ s) (h : execBr inst s = .next t) : Kept κ t := by
  unfold execBr at h
  refine gated_kept ?_ h
  with_reducible repeat' (first | exact hk | apply State.genBr_kept)

theorem execWait_kept {κ : Keep} {inst : Nat} {s : State} {t : State} (hk : Kept κ s) (h : execWait inst s = .next t) : Kept κ t := by
  unfold execWait at h
  refine gated_kept ?_ h
  with_reducible repeat' (first | exact hk | apply State.genWait_kept)

theorem execIllegal_kept {κ : Keep} {inst : Nat} {s : State} {t : State} (hk : Kept κ s) (h : execIllegal inst s = .next t) : Kept κ t := by
  unfold execIllegal at h
  refine gated_kept ?_ h
  with_reducible repeat' (first | exact hk | apply State.genIllegal_kept)

theorem execRunaway_kept {κ : Keep} {inst : Nat} {s : State} {t : State} (hk : Kept κ s) (h : execRunaway inst s = .next t) : Kept κ t := by
  unfold execRunaway at h
  refine gated_kept ?_ h
  with_reducible repeat' (first | exact hk | apply State.genRunaway_kept)

theorem execMtStart_kept {κ : Keep} {r : Requester} {s : State} {t : State} (hk : Kept κ s) (h : execMtStart r s = .next t) : Kept κ t := by
  unfold execMtStart at h
  refine gated_kept ?_ h
  with_reducible repeat' (first | exact hk | apply State.writeFields_kept | apply State.mtStart_kept)

theorem execMtAbort_kept {κ : Keep} {r : Requester} {s : State} {t : State} (hk : Kept κ s) (h : execMtAbort r s = .next t) : Kept κ t := by
  unfold execMtAbort at h
  refine gated_kept ?_ h
  with_reducible repeat' (first | exact hk | apply State.writeFields_kept | apply State.mtAbort_kept)

theorem execMtestDone_kept {κ : Keep} {plane : Plane} {fails : Nat} {addr : Nat} {element : Nat} {diff : Nat} {check : Nat} {s : State} {t : State} (hk : Kept κ s) (h : execMtestDone plane fails addr element diff check s = .next t) : Kept κ t := by
  unfold execMtestDone at h
  refine gated_kept ?_ h
  with_reducible repeat' (first | exact hk | apply State.mtDone_kept)

theorem execMtpWriteDone_kept {κ : Keep} {good : Bool} {s : State} {t : State} (hk : Kept κ s) (h : execMtpWriteDone good s = .next t) : Kept κ t := by
  unfold execMtpWriteDone at h
  refine gated_kept ?_ h
  with_reducible repeat' (first | exact hk | apply State.mtpDone_kept | apply State.sessionFixed_kept)

theorem execKeyRollApply_kept {κ : Keep} {principal : Nat} {s : State} {t : State} (hk : Kept κ s) (h : execKeyRollApply principal s = .next t) : Kept κ t := by
  unfold execKeyRollApply at h
  refine gated_kept ?_ h
  with_reducible repeat' (first | exact hk | apply State.keyRollApply_kept)

theorem execGraceEnd_kept {κ : Keep} {principal : Nat} {s : State} {t : State} (hk : Kept κ s) (h : execGraceEnd principal s = .next t) : Kept κ t := by
  unfold execGraceEnd at h
  refine gated_kept ?_ h
  with_reducible repeat' (first | exact hk | apply State.graceEnd_kept)

theorem execProtectApply_kept {κ : Keep} {s : State} {t : State} (hk : Kept κ s) (h : execProtectApply s = .next t) : Kept κ t := by
  unfold execProtectApply at h
  refine gated_kept ?_ h
  with_reducible repeat' (first | exact hk | apply State.protectApply_kept)

theorem execProtectExpire_kept {κ : Keep} {s : State} {t : State} (hk : Kept κ s) (h : execProtectExpire s = .next t) : Kept κ t := by
  unfold execProtectExpire at h
  refine gated_kept ?_ h
  with_reducible repeat' (first | exact hk | apply State.protectExpire_kept)

theorem execAtticProvGo_kept {κ : Keep} {r : Requester} {s : State} {t : State} (hk : Kept κ s) (h : execAtticProvGo r s = .next t) : Kept κ t := by
  unfold execAtticProvGo at h
  refine gated_kept ?_ h
  with_reducible repeat' (first | exact hk | apply State.regWrite_kept)

theorem execPing_kept {κ : Keep} {h : CmdHead} {s : State} {t : State} (hk : Kept κ s) (h : execPing h s = .next t) : Kept κ t := by
  unfold execPing at h
  refine gated_kept ?_ h
  with_reducible repeat' (first | exact hk | apply State.command_kept)

theorem execSummary_kept {κ : Keep} {h : CmdHead} {challenge : List Nat} {s : State} {t : State} (hk : Kept κ s) (h : execSummary h challenge s = .next t) : Kept κ t := by
  unfold execSummary at h
  refine gated_kept ?_ h
  with_reducible repeat' (first | exact hk | apply State.command_kept)

theorem execFence_kept {κ : Keep} {h : CmdHead} {s : State} {t : State} (hk : Kept κ s) (h : execFence h s = .next t) : Kept κ t := by
  unfold execFence at h
  refine gated_kept ?_ h
  with_reducible repeat' (first | exact hk | apply State.command_kept)

theorem execRead_kept {κ : Keep} {h : CmdHead} {addr : Nat} {words : Nat} {s : State} {t : State} (hk : Kept κ s) (h : execRead h addr words s = .next t) : Kept κ t := by
  unfold execRead at h
  refine gated_kept ?_ h
  with_reducible repeat' (first | exact hk | apply State.command_kept)

theorem execWrite_kept {κ : Keep} {h : CmdHead} {addr : Nat} {data : List Nat} {s : State} {t : State} (hk : Kept κ s) (h : execWrite h addr data s = .next t) : Kept κ t := by
  unfold execWrite at h
  refine gated_kept ?_ h
  with_reducible repeat' (first | exact hk | apply State.command_kept)

theorem execConnect_kept {κ : Keep} {h : CmdHead} {inp : Nat} {out : Nat} {s : State} {t : State} (hk : Kept κ s) (h : execConnect h inp out s = .next t) : Kept κ t := by
  unfold execConnect at h
  refine gated_kept ?_ h
  with_reducible repeat' (first | exact hk | apply State.command_kept)

theorem execDisconnect_kept {κ : Keep} {h : CmdHead} {inp : Nat} {out : Nat} {s : State} {t : State} (hk : Kept κ s) (h : execDisconnect h inp out s = .next t) : Kept κ t := by
  unfold execDisconnect at h
  refine gated_kept ?_ h
  with_reducible repeat' (first | exact hk | apply State.command_kept)

theorem execStage_kept {κ : Keep} {h : CmdHead} {id : Nat} {part : Nat} {parts : Nat} {entries : List (Nat × Nat)} {s : State} {t : State} (hk : Kept κ s) (h : execStage h id part parts entries s = .next t) : Kept κ t := by
  unfold execStage at h
  refine gated_kept ?_ h
  with_reducible repeat' (first | exact hk | apply State.command_kept)

theorem execSetElement_kept {κ : Keep} {h : CmdHead} {element : Nat} {state : Nat} {s : State} {t : State} (hk : Kept κ s) (h : execSetElement h element state s = .next t) : Kept κ t := by
  unfold execSetElement at h
  refine gated_kept ?_ h
  with_reducible repeat' (first | exact hk | apply State.command_kept)

theorem execCommit_kept {κ : Keep} {h : CmdHead} {kind : Nat} {chip : Nat} {token : Nat} {mask : Nat} {frame : Nat} {s : State} {t : State} (hk : Kept κ s) (h : execCommit h kind chip token mask frame s = .next t) : Kept κ t := by
  unfold execCommit at h
  refine gated_kept ?_ h
  with_reducible repeat' (first | exact hk | apply State.command_kept)

theorem execAbort_kept {κ : Keep} {h : CmdHead} {sFrame : Nat} {sChip : Nat} {s : State} {t : State} (hk : Kept κ s) (h : execAbort h sFrame sChip s = .next t) : Kept κ t := by
  unfold execAbort at h
  refine gated_kept ?_ h
  with_reducible repeat' (first | exact hk | apply State.command_kept)

theorem execRemap_kept {κ : Keep} {h : CmdHead} {logical : Nat} {useAlt : Nat} {s : State} {t : State} (hk : Kept κ s) (h : execRemap h logical useAlt s = .next t) : Kept κ t := by
  unfold execRemap at h
  refine gated_kept ?_ h
  with_reducible repeat' (first | exact hk | apply State.command_kept)

theorem execCtxRead_kept {κ : Keep} {h : CmdHead} {ctx : Nat} {first : Nat} {words : Nat} {s : State} {t : State} (hk : Kept κ s) (h : execCtxRead h ctx first words s = .next t) : Kept κ t := by
  unfold execCtxRead at h
  refine gated_kept ?_ h
  with_reducible repeat' (first | exact hk | apply State.command_kept)

theorem execCtxWrite_kept {κ : Keep} {h : CmdHead} {ctx : Nat} {first : Nat} {data : List Nat} {s : State} {t : State} (hk : Kept κ s) (h : execCtxWrite h ctx first data s = .next t) : Kept κ t := by
  unfold execCtxWrite at h
  refine gated_kept ?_ h
  with_reducible repeat' (first | exact hk | apply State.command_kept)

theorem execCtxState_kept {κ : Keep} {h : CmdHead} {ctx : Nat} {state : Nat} {s : State} {t : State} (hk : Kept κ s) (h : execCtxState h ctx state s = .next t) : Kept κ t := by
  unfold execCtxState at h
  refine gated_kept ?_ h
  with_reducible repeat' (first | exact hk | apply State.command_kept)

theorem execGuardWrite_kept {κ : Keep} {h : CmdHead} {tile : Nat} {offset : Nat} {value : Nat} {s : State} {t : State} (hk : Kept κ s) (h : execGuardWrite h tile offset value s = .next t) : Kept κ t := by
  unfold execGuardWrite at h
  refine gated_kept ?_ h
  with_reducible repeat' (first | exact hk | apply State.command_kept)

theorem execPrimerWrite_kept {κ : Keep} {h : CmdHead} {tile : Nat} {offset : Nat} {value : Nat} {s : State} {t : State} (hk : Kept κ s) (h : execPrimerWrite h tile offset value s = .next t) : Kept κ t := by
  unfold execPrimerWrite at h
  refine gated_kept ?_ h
  with_reducible repeat' (first | exact hk | apply State.command_kept)

theorem execPrimerApply_kept {κ : Keep} {h : CmdHead} {tiles : Nat} {s : State} {t : State} (hk : Kept κ s) (h : execPrimerApply h tiles s = .next t) : Kept κ t := by
  unfold execPrimerApply at h
  refine gated_kept ?_ h
  with_reducible repeat' (first | exact hk | apply State.command_kept)

theorem execTileResume_kept {κ : Keep} {h : CmdHead} {tiles : Nat} {s : State} {t : State} (hk : Kept κ s) (h : execTileResume h tiles s = .next t) : Kept κ t := by
  unfold execTileResume at h
  refine gated_kept ?_ h
  with_reducible repeat' (first | exact hk | apply State.command_kept)

theorem execHkaInject_kept {κ : Keep} {h : CmdHead} {channel : Nat} {tag : Nat} {s : State} {t : State} (hk : Kept κ s) (h : execHkaInject h channel tag s = .next t) : Kept κ t := by
  unfold execHkaInject at h
  refine gated_kept ?_ h
  with_reducible repeat' (first | exact hk | apply State.command_kept)

theorem execCalibrate_kept {κ : Keep} {h : CmdHead} {tiles : Nat} {s : State} {t : State} (hk : Kept κ s) (h : execCalibrate h tiles s = .next t) : Kept κ t := by
  unfold execCalibrate at h
  refine gated_kept ?_ h
  with_reducible repeat' (first | exact hk | apply State.command_kept)

theorem execStencilStart_kept {κ : Keep} {h : CmdHead} {gen : Nat} {s : State} {t : State} (hk : Kept κ s) (h : execStencilStart h gen s = .next t) : Kept κ t := by
  unfold execStencilStart at h
  refine gated_kept ?_ h
  with_reducible repeat' (first | exact hk | apply State.command_kept)

theorem execMode_kept {κ : Keep} {h : CmdHead} {code : Nat} {frame : Nat} {s : State} {t : State} (hk : Kept κ s) (h : execMode h code frame s = .next t) : Kept κ t := by
  unfold execMode at h
  refine gated_kept ?_ h
  with_reducible repeat' (first | exact hk | apply State.command_kept)

theorem execPower_kept {κ : Keep} {h : CmdHead} {state : Nat} {s : State} {t : State} (hk : Kept κ s) (h : execPower h state s = .next t) : Kept κ t := by
  unfold execPower at h
  refine gated_kept ?_ h
  with_reducible repeat' (first | exact hk | apply State.command_kept)

theorem execDrill_kept {κ : Keep} {h : CmdHead} {frame : Nat} {s : State} {t : State} (hk : Kept κ s) (h : execDrill h frame s = .next t) : Kept κ t := by
  unfold execDrill at h
  refine gated_kept ?_ h
  with_reducible repeat' (first | exact hk | apply State.command_kept)

theorem execReboot_kept {κ : Keep} {h : CmdHead} {slot : Nat} {s : State} {t : State} (hk : Kept κ s) (h : execReboot h slot s = .next t) : Kept κ t := by
  unfold execReboot at h
  refine gated_kept ?_ h
  with_reducible repeat' (first | exact hk | apply State.command_kept)

theorem execProtectArm_kept {κ : Keep} {h : CmdHead} {body : ArmBody} {s : State} {t : State} (hk : Kept κ s) (h : execProtectArm h body s = .next t) : Kept κ t := by
  unfold execProtectArm at h
  refine gated_kept ?_ h
  with_reducible repeat' (first | exact hk | apply State.command_kept)

theorem execProtectCommit_kept {κ : Keep} {h : CmdHead} {armId : Nat} {digest : Nat} {frame : Nat} {s : State} {t : State} (hk : Kept κ s) (h : execProtectCommit h armId digest frame s = .next t) : Kept κ t := by
  unfold execProtectCommit at h
  refine gated_kept ?_ h
  with_reducible repeat' (first | exact hk | apply State.command_kept)

theorem execKeyInstall_kept {κ : Keep} {h : CmdHead} {principal : Nat} {which : Nat} {wrapped : List Nat} {s : State} {t : State} (hk : Kept κ s) (h : execKeyInstall h principal which wrapped s = .next t) : Kept κ t := by
  unfold execKeyInstall at h
  refine gated_kept ?_ h
  with_reducible repeat' (first | exact hk | apply State.command_kept)

theorem execKeyRoll_kept {κ : Keep} {h : CmdHead} {principal : Nat} {frame : Nat} {s : State} {t : State} (hk : Kept κ s) (h : execKeyRoll h principal frame s = .next t) : Kept κ t := by
  unfold execKeyRoll at h
  refine gated_kept ?_ h
  with_reducible repeat' (first | exact hk | apply State.command_kept)

theorem execForward_kept {κ : Keep} {h : CmdHead} {pos : Nat} {frame : List Nat} {s : State} {t : State} (hk : Kept κ s) (h : execForward h pos frame s = .next t) : Kept κ t := by
  unfold execForward at h
  refine gated_kept ?_ h
  with_reducible repeat' (first | exact hk | apply State.command_kept)

theorem execKolrokFrameRx_kept {κ : Keep} {lane : Nat} {bytes : List Nat} {stamp : Stamp} {s : State} {t : State} (hk : Kept κ s) (h : execKolrokFrameRx lane bytes stamp s = .next t) : Kept κ t := by
  unfold execKolrokFrameRx at h
  refine gated_kept ?_ h
  with_reducible repeat' (first | exact hk | apply State.when_kept | apply State.when_kept | apply State.frameRx_kept)

theorem execArpRequest_kept {κ : Keep} {lane : Nat} {bytes : List Nat} {s : State} {t : State} (hk : Kept κ s) (h : execArpRequest lane bytes s = .next t) : Kept κ t := by
  unfold execArpRequest at h
  refine gated_kept ?_ h
  with_reducible repeat' (first | exact hk | apply State.when_kept | apply State.when_kept | apply State.arpRequest_kept)

theorem execPtpEvent_kept {κ : Keep} {lane : Nat} {udp : Bool} {version : Nat} {messageType : Nat} {domain : Nat} {sequence : Nat} {port : Nat} {clock : Nat} {stamp : Stamp} {s : State} {t : State} (hk : Kept κ s) (h : execPtpEvent lane udp version messageType domain sequence port clock stamp s = .next t) : Kept κ t := by
  unfold execPtpEvent at h
  refine gated_kept ?_ h
  with_reducible repeat' (first | exact hk | apply State.when_kept | apply State.when_kept | apply State.ptpEvent_kept | apply State.sequence_kept)

theorem execLaneLinkUp_kept {κ : Keep} {lane : Nat} {s : State} {t : State} (hk : Kept κ s) (h : execLaneLinkUp lane s = .next t) : Kept κ t := by
  unfold execLaneLinkUp at h
  refine gated_kept ?_ h
  with_reducible repeat' (first | exact hk | apply State.when_kept | apply State.when_kept | apply State.linkUp_kept)

theorem execLaneLinkDown_kept {κ : Keep} {lane : Nat} {fecOnly : Bool} {s : State} {t : State} (hk : Kept κ s) (h : execLaneLinkDown lane fecOnly s = .next t) : Kept κ t := by
  unfold execLaneLinkDown at h
  refine gated_kept ?_ h
  with_reducible repeat' (first | exact hk | apply State.when_kept | apply State.when_kept | apply State.linkDown_kept)

theorem execHiBer_kept {κ : Keep} {lane : Nat} {on : Bool} {s : State} {t : State} (hk : Kept κ s) (h : execHiBer lane on s = .next t) : Kept κ t := by
  unfold execHiBer at h
  refine gated_kept ?_ h
  with_reducible repeat' (first | exact hk | apply State.when_kept | apply State.when_kept | apply State.hiBer_kept)

theorem execFrameTransmit_kept {κ : Keep} {lane : Nat} {pos : Nat} {stamp : Stamp} {s : State} {t : State} (hk : Kept κ s) (h : execFrameTransmit lane pos stamp s = .next t) : Kept κ t := by
  unfold execFrameTransmit at h
  refine gated_kept ?_ h
  with_reducible repeat' (first | exact hk | apply State.when_kept | apply State.when_kept | apply State.frameTransmit_kept)

theorem execForwardedFrameRx_kept {κ : Keep} {pos : Nat} {bytes : List Nat} {s : State} {t : State} (hk : Kept κ s) (h : execForwardedFrameRx pos bytes s = .next t) : Kept κ t := by
  unfold execForwardedFrameRx at h
  refine gated_kept ?_ h
  with_reducible repeat' (first | exact hk | refine State.ringMessage_kept (fun _ hk => ?_) ?_ | apply State.forwardedRx_kept)

theorem execForwardedResponseRx_kept {κ : Keep} {pos : Nat} {rseq : Nat} {bytes : List Nat} {s : State} {t : State} (hk : Kept κ s) (h : execForwardedResponseRx pos rseq bytes s = .next t) : Kept κ t := by
  unfold execForwardedResponseRx at h
  refine gated_kept ?_ h
  with_reducible repeat' (first | exact hk | refine State.ringMessage_kept (fun _ hk => ?_) ?_ | apply State.forwardedResponse_kept)

theorem execFeedbackLost_kept {κ : Keep} {ctx : Nat} {s : State} {t : State} (hk : Kept κ s) (h : execFeedbackLost ctx s = .next t) : Kept κ t := by
  unfold execFeedbackLost at h
  refine gated_kept ?_ h
  with_reducible repeat' (first | exact hk | apply State.feedbackLost_kept)

theorem execFeedbackFrozen_kept {κ : Keep} {ctx : Nat} {s : State} {t : State} (hk : Kept κ s) (h : execFeedbackFrozen ctx s = .next t) : Kept κ t := by
  unfold execFeedbackFrozen at h
  refine gated_kept ?_ h
  with_reducible repeat' (first | exact hk | apply State.feedbackFrozen_kept)

theorem execInputInvalid_kept {κ : Keep} {ctx : Nat} {s : State} {t : State} (hk : Kept κ s) (h : execInputInvalid ctx s = .next t) : Kept κ t := by
  unfold execInputInvalid at h
  refine gated_kept ?_ h
  with_reducible repeat' (first | exact hk | apply State.inputInvalid_kept)

theorem execFeedbackOverload_kept {κ : Keep} {ctx : Nat} {s : State} {t : State} (hk : Kept κ s) (h : execFeedbackOverload ctx s = .next t) : Kept κ t := by
  unfold execFeedbackOverload at h
  refine gated_kept ?_ h
  with_reducible repeat' (first | exact hk | apply State.feedbackOverload_kept)

theorem execFollowing_kept {κ : Keep} {ctx : Nat} {s : State} {t : State} (hk : Kept κ s) (h : execFollowing ctx s = .next t) : Kept κ t := by
  unfold execFollowing at h
  refine gated_kept ?_ h
  with_reducible repeat' (first | exact hk | apply State.following_kept)

theorem execAutoResume_kept {κ : Keep} {ctx : Nat} {s : State} {t : State} (hk : Kept κ s) (h : execAutoResume ctx s = .next t) : Kept κ t := by
  unfold execAutoResume at h
  refine gated_kept ?_ h
  with_reducible repeat' (first | exact hk | apply State.autoResume_kept)

theorem execExpressUpdate_kept {κ : Keep} {ctx : Nat} {chip : Nat} {codes : List Nat} {applied : Bool} {differ : Bool} {s : State} {t : State} (hk : Kept κ s) (h : execExpressUpdate ctx chip codes applied differ s = .next t) : Kept κ t := by
  unfold execExpressUpdate at h
  refine gated_kept ?_ h
  with_reducible repeat' (first | exact hk | apply State.expressUpdate_kept)

theorem execExpressOverrun_kept {κ : Keep} {ctx : Nat} {chip : Nat} {s : State} {t : State} (hk : Kept κ s) (h : execExpressOverrun ctx chip s = .next t) : Kept κ t := by
  unfold execExpressOverrun at h
  refine gated_kept ?_ h
  with_reducible repeat' (first | exact hk | apply State.expressOverrun_kept)

theorem execExpJudged_kept {κ : Keep} {ctx : Nat} {s : State} {t : State} (hk : Kept κ s) (h : execExpJudged ctx s = .next t) : Kept κ t := by
  unfold execExpJudged at h
  refine gated_kept ?_ h
  with_reducible repeat' (first | exact hk | apply State.expJudged_kept)

theorem execHeaterOpen_kept {κ : Keep} {channel : Nat} {s : State} {t : State} (hk : Kept κ s) (h : execHeaterOpen channel s = .next t) : Kept κ t := by
  unfold execHeaterOpen at h
  refine gated_kept ?_ h
  with_reducible repeat' (first | exact hk | apply State.heaterOpen_kept)

theorem execHeaterShort_kept {κ : Keep} {channel : Nat} {s : State} {t : State} (hk : Kept κ s) (h : execHeaterShort channel s = .next t) : Kept κ t := by
  unfold execHeaterShort at h
  refine gated_kept ?_ h
  with_reducible repeat' (first | exact hk | apply State.heaterShort_kept)

theorem execHeaterLoad_kept {κ : Keep} {channel : Nat} {s : State} {t : State} (hk : Kept κ s) (h : execHeaterLoad channel s = .next t) : Kept κ t := by
  unfold execHeaterLoad at h
  refine gated_kept ?_ h
  with_reducible repeat' (first | exact hk | apply State.heaterLoad_kept)

theorem execDriverOverload_kept {κ : Keep} {driver : Nat} {s : State} {t : State} (hk : Kept κ s) (h : execDriverOverload driver s = .next t) : Kept κ t := by
  unfold execDriverOverload at h
  refine gated_kept ?_ h
  with_reducible repeat' (first | exact hk | apply State.when_kept | apply State.when_kept | apply State.driverOverload_kept)

theorem execGuardIntegrity_kept {κ : Keep} {tile : Nat} {s : State} {t : State} (hk : Kept κ s) (h : execGuardIntegrity tile s = .next t) : Kept κ t := by
  unfold execGuardIntegrity at h
  refine gated_kept ?_ h
  with_reducible repeat' (first | exact hk | apply State.when_kept | apply State.when_kept | apply State.guardIntegrity_kept)

theorem execStarvation_kept {κ : Keep} {tile : Nat} {s : State} {t : State} (hk : Kept κ s) (h : execStarvation tile s = .next t) : Kept κ t := by
  unfold execStarvation at h
  refine gated_kept ?_ h
  with_reducible repeat' (first | exact hk | apply State.when_kept | apply State.when_kept | apply State.starvation_kept)

theorem execTrimApply_kept {κ : Keep} {channel : Nat} {s : State} {t : State} (hk : Kept κ s) (h : execTrimApply channel s = .next t) : Kept κ t := by
  unfold execTrimApply at h
  refine gated_kept ?_ h
  with_reducible repeat' (first | exact hk | apply State.trimApply_kept)

theorem execHtrOffRelease_kept {κ : Keep} {r : Requester} {tile : Nat} {word : Nat} {mask : Nat} {s : State} {t : State} (hk : Kept κ s) (h : execHtrOffRelease r tile word mask s = .next t) : Kept κ t := by
  unfold execHtrOffRelease at h
  refine gated_kept ?_ h
  with_reducible repeat' (first | exact hk | apply State.regWrite_kept)

theorem execFdOffRelease_kept {κ : Keep} {r : Requester} {tile : Nat} {word : Nat} {mask : Nat} {s : State} {t : State} (hk : Kept κ s) (h : execFdOffRelease r tile word mask s = .next t) : Kept κ t := by
  unfold execFdOffRelease at h
  refine gated_kept ?_ h
  with_reducible repeat' (first | exact hk | apply State.regWrite_kept)

theorem execFdLevelWrite_kept {κ : Keep} {r : Requester} {driver : Nat} {bar : Nat} {cross : Nat} {s : State} {t : State} (hk : Kept κ s) (h : execFdLevelWrite r driver bar cross s = .next t) : Kept κ t := by
  unfold execFdLevelWrite at h
  refine gated_kept ?_ h
  with_reducible repeat' (first | exact hk | apply State.regWrite_kept)

theorem execRtRemapWrite_kept {κ : Keep} {r : Requester} {logical : Nat} {useAlt : Bool} {s : State} {t : State} (hk : Kept κ s) (h : execRtRemapWrite r logical useAlt s = .next t) : Kept κ t := by
  unfold execRtRemapWrite at h
  refine gated_kept ?_ h
  with_reducible repeat' (first | exact hk | apply State.regWrite_kept)

theorem execSnapshotLoRead_kept {κ : Keep} {r : Requester} {addr : Nat} {s : State} {t : State} (hk : Kept κ s) (h : execSnapshotLoRead r addr s = .next t) : Kept κ t := by
  unfold execSnapshotLoRead at h
  refine gated_kept ?_ h
  with_reducible repeat' (first | exact hk | apply State.regRead_kept)

theorem execRcRead_kept {κ : Keep} {r : Requester} {addr : Nat} {words : Nat} {s : State} {t : State} (hk : Kept κ s) (h : execRcRead r addr words s = .next t) : Kept κ t := by
  unfold execRcRead at h
  refine gated_kept ?_ h
  with_reducible repeat' (first | exact hk | apply State.regRead_kept)

theorem execRegisterWrite_kept {κ : Keep} {r : Requester} {addr : Nat} {data : List Nat} {s : State} {t : State} (hk : Kept κ s) (h : execRegisterWrite r addr data s = .next t) : Kept κ t := by
  unfold execRegisterWrite at h
  refine gated_kept ?_ h
  with_reducible repeat' (first | exact hk | apply State.regWrite_kept)

theorem execIncrementalPost_kept {κ : Keep} {late : List (Nat × Nat × Plane)} {margins : List (Plane × Nat)} {s : State} {t : State} (hk : Kept κ s) (h : execIncrementalPost late margins s = .next t) : Kept κ t := by
  unfold execIncrementalPost at h
  refine gated_kept ?_ h
  with_reducible repeat' (first | exact hk | apply State.incrementalPost_kept)

theorem execFullRoutingPost_kept {κ : Keep} {late : List Plane} {margins : List (Plane × Nat)} {s : State} {t : State} (hk : Kept κ s) (h : execFullRoutingPost late margins s = .next t) : Kept κ t := by
  unfold execFullRoutingPost at h
  refine gated_kept ?_ h
  with_reducible repeat' (first | exact hk | apply State.fullPost_kept)

theorem execDeferredRoutingStart_kept {κ : Keep} {s : State} {t : State} (hk : Kept κ s) (h : execDeferredRoutingStart s = .next t) : Kept κ t := by
  unfold execDeferredRoutingStart at h
  refine gated_kept ?_ h
  with_reducible repeat' (first | exact hk | apply State.deferredStart_kept)

theorem execRearrangeExpired_kept {κ : Keep} {s : State} {t : State} (hk : Kept κ s) (h : execRearrangeExpired s = .next t) : Kept κ t := by
  unfold execRearrangeExpired at h
  refine gated_kept ?_ h
  with_reducible repeat' (first | exact hk | apply State.rearrangeExpire_kept)

theorem execStageExpired_kept {κ : Keep} {principal : Nat} {s : State} {t : State} (hk : Kept κ s) (h : execStageExpired principal s = .next t) : Kept κ t := by
  unfold execStageExpired at h
  refine gated_kept ?_ h
  with_reducible repeat' (first | exact hk | apply State.stageExpire_kept)

theorem execYellowExpired_kept {κ : Keep} {s : State} {t : State} (hk : Kept κ s) (h : execYellowExpired s = .next t) : Kept κ t := by
  unfold execYellowExpired at h
  refine gated_kept ?_ h
  with_reducible repeat' (first | exact hk | apply State.yellowExpire_kept)

theorem execCommitFix_kept {κ : Keep} {s : State} {t : State} (hk : Kept κ s) (h : execCommitFix s = .next t) : Kept κ t := by
  unfold execCommitFix at h
  refine gated_kept ?_ h
  with_reducible repeat' (first | exact hk | apply State.when_kept | apply State.when_kept | apply State.tryAll_kept)

theorem execCommitSwitch_kept {κ : Keep} {chip : Nat} {late : List Nat} {differ : List Nat} {s : State} {t : State} (hk : Kept κ s) (h : execCommitSwitch chip late differ s = .next t) : Kept κ t := by
  unfold execCommitSwitch at h
  refine gated_kept ?_ h
  with_reducible repeat' (first | exact hk | apply State.commitSwitch_kept)

theorem execLateTileApply_kept {κ : Keep} {tile : Nat} {s : State} {t : State} (hk : Kept κ s) (h : execLateTileApply tile s = .next t) : Kept κ t := by
  unfold execLateTileApply at h
  refine gated_kept ?_ h
  with_reducible repeat' (first | exact hk | apply State.lateTileApply_kept)

theorem execCommitDone_kept {κ : Keep} {s : State} {t : State} (hk : Kept κ s) (h : execCommitDone s = .next t) : Kept κ t := by
  unfold execCommitDone at h
  refine gated_kept ?_ h
  with_reducible repeat' (first | exact hk | apply State.commitDone_kept)

theorem execReadyRx_kept {κ : Keep} {principal : Nat} {number : Nat} {mask : Nat} {pos : Nat} {named : Nat} {earliest : Nat} {slot : Nat} {fclk : Nat} {s : State} {t : State} (hk : Kept κ s) (h : execReadyRx principal number mask pos named earliest slot fclk s = .next t) : Kept κ t := by
  unfold execReadyRx at h
  refine gated_kept ?_ h
  with_reducible repeat' (first | exact hk | refine State.ringMessage_kept (fun _ hk => ?_) ?_ | apply State.readyArrives_kept)

theorem execGoRx_kept {κ : Keep} {principal : Nat} {number : Nat} {frame : Nat} {s : State} {t : State} (hk : Kept κ s) (h : execGoRx principal number frame s = .next t) : Kept κ t := by
  unfold execGoRx at h
  refine gated_kept ?_ h
  with_reducible repeat' (first | exact hk | refine State.ringMessage_kept (fun _ hk => ?_) ?_ | apply State.goArrives_kept)

theorem execAbandonRx_kept {κ : Keep} {principal : Nat} {number : Nat} {s : State} {t : State} (hk : Kept κ s) (h : execAbandonRx principal number s = .next t) : Kept κ t := by
  unfold execAbandonRx at h
  refine gated_kept ?_ h
  with_reducible repeat' (first | exact hk | refine State.ringMessage_kept (fun _ hk => ?_) ?_ | apply State.abandonArrives_kept)

theorem execTokenLost_kept {κ : Keep} {s : State} {t : State} (hk : Kept κ s) (h : execTokenLost s = .next t) : Kept κ t := by
  unfold execTokenLost at h
  refine gated_kept ?_ h
  with_reducible repeat' (first | exact hk | apply State.tokenLost_kept)

theorem execBiasLimit_kept {κ : Keep} {tile : Nat} {s : State} {t : State} (hk : Kept κ s) (h : execBiasLimit tile s = .next t) : Kept κ t := by
  unfold execBiasLimit at h
  refine gated_kept ?_ h
  with_reducible repeat' (first | exact hk | apply State.when_kept | apply State.when_kept | apply State.biasLimit_kept)

theorem execRefOut_kept {κ : Keep} {tile : Nat} {sample : Nat} {s : State} {t : State} (hk : Kept κ s) (h : execRefOut tile sample s = .next t) : Kept κ t := by
  unfold execRefOut at h
  refine gated_kept ?_ h
  with_reducible repeat' (first | exact hk | apply State.when_kept | apply State.when_kept | apply State.refOut_kept)

theorem execRefTimeout_kept {κ : Keep} {tile : Nat} {s : State} {t : State} (hk : Kept κ s) (h : execRefTimeout tile s = .next t) : Kept κ t := by
  unfold execRefTimeout at h
  refine gated_kept ?_ h
  with_reducible repeat' (first | exact hk | apply State.refTimeout_kept)

theorem execCaptureRecordWrite_kept {κ : Keep} {channel : Nat} {last : Nat} {codes : List (List Nat)} {s : State} {t : State} (hk : Kept κ s) (h : execCaptureRecordWrite channel last codes s = .next t) : Kept κ t := by
  unfold execCaptureRecordWrite at h
  refine gated_kept ?_ h
  with_reducible repeat' (first | exact hk | apply State.when_kept | apply State.when_kept | apply State.captureRecord_kept)

theorem execCapRptrWrite_kept {κ : Keep} {r : Requester} {channel : Nat} {value : Nat} {s : State} {t : State} (hk : Kept κ s) (h : execCapRptrWrite r channel value s = .next t) : Kept κ t := by
  unfold execCapRptrWrite at h
  refine gated_kept ?_ h
  with_reducible repeat' (first | exact hk | apply State.regWrite_kept)

theorem execHkaSlot_kept {κ : Keep} {slot : Nat} {code : Nat} {ofs : Int} {gain : Int} {s : State} {t : State} (hk : Kept κ s) (h : execHkaSlot slot code ofs gain s = .next t) : Kept κ t := by
  unfold execHkaSlot at h
  refine gated_kept ?_ h
  with_reducible repeat' (first | exact hk | apply State.when_kept | apply State.when_kept | apply State.hkaSlot_kept)

theorem execHkaInjectWrite_kept {κ : Keep} {r : Requester} {channel : Nat} {tag : Nat} {s : State} {t : State} (hk : Kept κ s) (h : execHkaInjectWrite r channel tag s = .next t) : Kept κ t := by
  unfold execHkaInjectWrite at h
  refine gated_kept ?_ h
  with_reducible repeat' (first | exact hk | apply State.writeFields_kept)

theorem execHkaResultPop_kept {κ : Keep} {r : Requester} {s : State} {t : State} (hk : Kept κ s) (h : execHkaResultPop r s = .next t) : Kept κ t := by
  unfold execHkaResultPop at h
  refine gated_kept ?_ h
  with_reducible repeat' (first | exact hk | apply State.regRead_kept)

theorem execCalStart_kept {κ : Keep} {r : Requester} {s : State} {t : State} (hk : Kept κ s) (h : execCalStart r s = .next t) : Kept κ t := by
  unfold execCalStart at h
  refine gated_kept ?_ h
  with_reducible repeat' (first | exact hk | apply State.writeFields_kept)

theorem execCorrResidue_kept {κ : Keep} {tile : Nat} {slot : Nat} {s : State} {t : State} (hk : Kept κ s) (h : execCorrResidue tile slot s = .next t) : Kept κ t := by
  unfold execCorrResidue at h
  refine gated_kept ?_ h
  with_reducible repeat' (first | exact hk | apply State.when_kept | apply State.when_kept | apply State.corrResidue_kept)

theorem execStoreRoomReadEcc_kept {κ : Keep} {plane : Plane} {tile : Nat} {word : Nat} {double : Bool} {s : State} {t : State} (hk : Kept κ s) (h : execStoreRoomReadEcc plane tile word double s = .next t) : Kept κ t := by
  unfold execStoreRoomReadEcc at h
  refine gated_kept ?_ h
  with_reducible repeat' (first | exact hk | apply State.when_kept | apply State.when_kept | apply State.storeEcc_kept)

theorem execRefreshMiss_kept {κ : Keep} {plane : Plane} {tile : Nat} {s : State} {t : State} (hk : Kept κ s) (h : execRefreshMiss plane tile s = .next t) : Kept κ t := by
  unfold execRefreshMiss at h
  refine gated_kept ?_ h
  with_reducible repeat' (first | exact hk | apply State.when_kept | apply State.when_kept | apply State.refreshMiss_kept)

theorem execSbSetAddr_kept {κ : Keep} {pecOk : Bool} {addr : Nat} {words : Nat} {s : State} {t : State} (hk : Kept κ s) (h : execSbSetAddr pecOk addr words s = .next t) : Kept κ t := by
  unfold execSbSetAddr at h
  refine gated_kept ?_ h
  with_reducible repeat' (first | exact hk | apply State.sbSetAddr_kept)

theorem execSbRead_kept {κ : Keep} {s : State} {t : State} (hk : Kept κ s) (h : execSbRead s = .next t) : Kept κ t := by
  unfold execSbRead at h
  refine gated_kept ?_ h
  with_reducible repeat' (first | exact hk | apply State.sbRead_kept)

theorem execSbWrite_kept {κ : Keep} {pecOk : Bool} {data : List Nat} {s : State} {t : State} (hk : Kept κ s) (h : execSbWrite pecOk data s = .next t) : Kept κ t := by
  unfold execSbWrite at h
  refine gated_kept ?_ h
  with_reducible repeat' (first | exact hk | apply State.sbWrite_kept)

theorem execSbLastStatus_kept {κ : Keep} {s : State} {t : State} (hk : Kept κ s) (h : execSbLastStatus s = .next t) : Kept κ t := by
  unfold execSbLastStatus at h
  refine gated_kept ?_ h
  with_reducible repeat' (first | exact hk | apply State.sbLastStatus_kept)

theorem execSbSummary_kept {κ : Keep} {s : State} {t : State} (hk : Kept κ s) (h : execSbSummary s = .next t) : Kept κ t := by
  unfold execSbSummary at h
  refine gated_kept ?_ h
  with_reducible repeat' (first | exact hk | apply State.sbSummary_kept)

theorem execSbAlertCause_kept {κ : Keep} {s : State} {t : State} (hk : Kept κ s) (h : execSbAlertCause s = .next t) : Kept κ t := by
  unfold execSbAlertCause at h
  refine gated_kept ?_ h
  with_reducible repeat' (first | exact hk | apply State.sbAlertCause_kept)

theorem execSbFaultPop_kept {κ : Keep} {s : State} {t : State} (hk : Kept κ s) (h : execSbFaultPop s = .next t) : Kept κ t := by
  unfold execSbFaultPop at h
  refine gated_kept ?_ h
  with_reducible repeat' (first | exact hk | apply State.sbFaultPop_kept)

theorem execAlertResponse_kept {κ : Keep} {s : State} {t : State} (hk : Kept κ s) (h : execAlertResponse s = .next t) : Kept κ t := by
  unfold execAlertResponse at h
  refine gated_kept ?_ h
  with_reducible repeat' (first | exact hk | apply State.alertResponse_kept)

theorem execSbStretchTimeout_kept {κ : Keep} {bytes : Nat} {s : State} {t : State} (hk : Kept κ s) (h : execSbStretchTimeout bytes s = .next t) : Kept κ t := by
  unfold execSbStretchTimeout at h
  refine gated_kept ?_ h
  with_reducible repeat' (first | exact hk | apply State.sbStretchTimeout_kept)

theorem execReset_kept {κ : Keep} {resetN : Bool} {vaon : Bool} {s : State} {t : State} (hk : Kept κ s) (h_clk : ∀ x, κ.clk x) (h_mode : ∀ x, κ.mode x) (h_fabric : ∀ x, κ.fabric x) (h_image : ∀ x, κ.image x) (h : execReset resetN vaon s = .next t) : Kept κ t := by
  unfold execReset at h
  refine gated_kept ?_ h
  with_reducible repeat' (first | exact hk | exact h_clk | exact h_mode | exact h_fabric | exact h_image | apply State.inReset_kept)

theorem execStartUp_kept {κ : Keep} {bootMode : Nat} {pos : Nat} {sba : Nat} {trust : Bool} {flash : List (Nat × List Nat)} {s : State} {t : State} (hk : Kept κ s) (h_clk : ∀ x, κ.clk x) (h_nor : ∀ x, κ.norIs x) (h : execStartUp bootMode pos sba trust flash s = .next t) : Kept κ t := by
  unfold execStartUp at h
  refine gated_kept ?_ h
  with_reducible repeat' (first | exact hk | exact h_clk | exact h_nor | apply State.startUp_kept)

theorem execSelftestDone_kept {κ : Keep} {plane : Plane} {bank : Option (Nat × Nat)} {core : Bool} {s : State} {t : State} (hk : Kept κ s) (h : execSelftestDone plane bank core s = .next t) : Kept κ t := by
  unfold execSelftestDone at h
  refine gated_kept ?_ h
  with_reducible repeat' (first | exact hk | apply State.selftestDone_kept)

theorem execLoadInRise_kept {κ : Keep} {s : State} {t : State} (hk : Kept κ s) (h : execLoadInRise s = .next t) : Kept κ t := by
  unfold execLoadInRise at h
  refine gated_kept ?_ h
  with_reducible repeat' (first | exact hk | apply State.loadInRise_kept)

theorem execFirstPassTimeout_kept {κ : Keep} {s : State} {t : State} (hk : Kept κ s) (h : execFirstPassTimeout s = .next t) : Kept κ t := by
  unfold execFirstPassTimeout at h
  refine gated_kept ?_ h
  with_reducible repeat' (first | exact hk | apply State.firstPassTimeout_kept)

theorem execPassReadEnd_kept {κ : Keep} {slot : Nat} {density : Option Nat} {flash : List (Nat × List Nat)} {s : State} {t : State} (hk : Kept κ s) (h_fabric : ∀ x, κ.fabric x) (h_image : ∀ x, κ.image x) (h_nor : ∀ x, κ.norIs x) (h : execPassReadEnd slot density flash s = .next t) : Kept κ t := by
  unfold execPassReadEnd at h
  refine gated_kept ?_ h
  with_reducible repeat' (first | exact hk | exact h_fabric | exact h_image | exact h_nor | apply State.passReadEnd_kept)

theorem execSecondPass_kept {κ : Keep} {s : State} {t : State} (hk : Kept κ s) (h : execSecondPass s = .next t) : Kept κ t := by
  unfold execSecondPass at h
  refine gated_kept ?_ h
  with_reducible repeat' (first | exact hk | apply State.secondPass_kept)

theorem execRunEntry_kept {κ : Keep} {ms : Nat} {s : State} {t : State} (hk : Kept κ s) (h_mode : ∀ x, κ.mode x) (h : execRunEntry ms s = .next t) : Kept κ t := by
  unfold execRunEntry at h
  refine gated_kept ?_ h
  with_reducible repeat' (first | exact hk | exact h_mode | apply State.runEntry_kept | apply State.enterRun_kept)

theorem execLocked_kept {κ : Keep} {ms : Nat} {s : State} {t : State} (hk : Kept κ s) (h : execLocked ms s = .next t) : Kept κ t := by
  unfold execLocked at h
  refine gated_kept ?_ h
  with_reducible repeat' (first | exact hk | apply State.lockedNow_kept)

theorem execBootStatusRx_kept {κ : Keep} {pos : Nat} {serial : Nat} {state : Nat} {slot : Nat} {sec : Nat} {digest : Nat} {s : State} {t : State} (hk : Kept κ s) (h : execBootStatusRx pos serial state slot sec digest s = .next t) : Kept κ t := by
  unfold execBootStatusRx at h
  refine gated_kept ?_ h
  with_reducible repeat' (first | exact hk | refine State.ringMessage_kept (fun _ hk => ?_) ?_ | apply State.bootStatus_kept)

theorem execPassRequestRx_kept {κ : Keep} {s : State} {t : State} (hk : Kept κ s) (h : execPassRequestRx s = .next t) : Kept κ t := by
  unfold execPassRequestRx at h
  refine gated_kept ?_ h
  with_reducible repeat' (first | exact hk | apply State.passRequest_kept)

theorem execPassRequestRetry_kept {κ : Keep} {s : State} {t : State} (hk : Kept κ s) (h : execPassRequestRetry s = .next t) : Kept κ t := by
  unfold execPassRequestRetry at h
  refine gated_kept ?_ h
  with_reducible repeat' (first | exact hk | apply State.passRetry_kept)

theorem execPmErase_kept {κ : Keep} {s : State} {t : State} (hk : Kept κ s) (h_nor : ∀ x, κ.norIs x) (h : execPmErase s = .next t) : Kept κ t := by
  unfold execPmErase at h
  refine gated_kept ?_ h
  with_reducible repeat' (first | exact hk | exact h_nor | apply State.pmErase_kept)

theorem execNorRead_kept {κ : Keep} {r : Requester} {length : Nat} {s : State} {t : State} (hk : Kept κ s) (h : execNorRead r length s = .next t) : Kept κ t := by
  unfold execNorRead at h
  refine gated_kept ?_ h
  with_reducible repeat' (first | exact hk | apply State.writeFields_kept)

theorem execNorProgram_kept {κ : Keep} {r : Requester} {length : Nat} {s : State} {t : State} (hk : Kept κ s) (h : execNorProgram r length s = .next t) : Kept κ t := by
  unfold execNorProgram at h
  refine gated_kept ?_ h
  with_reducible repeat' (first | exact hk | apply State.norProgram_kept | apply State.writeFields_kept)

theorem execNorErase_kept {κ : Keep} {r : Requester} {length : Nat} {s : State} {t : State} (hk : Kept κ s) (h : execNorErase r length s = .next t) : Kept κ t := by
  unfold execNorErase at h
  refine gated_kept ?_ h
  with_reducible repeat' (first | exact hk | apply State.writeFields_kept)

theorem execNorOpDone_kept {κ : Keep} {flash : List (Nat × List Nat)} {s : State} {t : State} (hk : Kept κ s) (h_nor : ∀ x, κ.norIs x) (h : execNorOpDone flash s = .next t) : Kept κ t := by
  unfold execNorOpDone at h
  refine gated_kept ?_ h
  with_reducible repeat' (first | exact hk | exact h_nor | apply State.norDone_kept)

theorem execBtReboot_kept {κ : Keep} {r : Requester} {slot : Nat} {s : State} {t : State} (hk : Kept κ s) (h : execBtReboot r slot s = .next t) : Kept κ t := by
  unfold execBtReboot at h
  refine gated_kept ?_ h
  with_reducible repeat' (first | exact hk | apply State.writeFields_kept)

theorem execRebootReset_kept {κ : Keep} {s : State} {t : State} (hk : Kept κ s) (h_clk : ∀ x, κ.clk x) (h_mode : ∀ x, κ.mode x) (h_fabric : ∀ x, κ.fabric x) (h_image : ∀ x, κ.image x) (h : execRebootReset s = .next t) : Kept κ t := by
  unfold execRebootReset at h
  refine gated_kept ?_ h
  with_reducible repeat' (first | exact hk | exact h_clk | exact h_mode | exact h_fabric | exact h_image | apply State.rebootReset_kept)

theorem execLoadInFall_kept {κ : Keep} {s : State} {t : State} (hk : Kept κ s) (h : execLoadInFall s = .next t) : Kept κ t := by
  unfold execLoadInFall at h
  refine gated_kept ?_ h
  with_reducible repeat' (first | exact hk | apply State.loadInFall_kept)

theorem execDeviceReady_kept {κ : Keep} {s : State} {t : State} (hk : Kept κ s) (h : execDeviceReady s = .next t) : Kept κ t := by
  unfold execDeviceReady at h
  refine gated_kept ?_ h
  with_reducible repeat' (first | exact hk | apply State.deviceReady_kept)

theorem execDivergenceDecision_kept {κ : Keep} {s : State} {t : State} (hk : Kept κ s) (h : execDivergenceDecision s = .next t) : Kept κ t := by
  unfold execDivergenceDecision at h
  refine gated_kept ?_ h
  with_reducible repeat' (first | exact hk | apply State.divDecide_kept)

theorem execCentralAuditEnd_kept {κ : Keep} {failA : Bool} {failB : Bool} {s : State} {t : State} (hk : Kept κ s) (h : execCentralAuditEnd failA failB s = .next t) : Kept κ t := by
  unfold execCentralAuditEnd at h
  refine gated_kept ?_ h
  with_reducible repeat' (first | exact hk | apply State.auditEnd_kept)

theorem execPlaneFence_kept {κ : Keep} {plane : Plane} {s : State} {t : State} (hk : Kept κ s) (h_nor : ∀ x, κ.norIs x) (h : execPlaneFence plane s = .next t) : Kept κ t := by
  unfold execPlaneFence at h
  refine gated_kept ?_ h
  with_reducible repeat' (first | exact hk | exact h_nor | apply State.noteMortem_kept | apply State.fenceRow_kept)

theorem execDrillSwap_kept {κ : Keep} {s : State} {t : State} (hk : Kept κ s) (h : execDrillSwap s = .next t) : Kept κ t := by
  unfold execDrillSwap at h
  refine gated_kept ?_ h
  with_reducible repeat' (first | exact hk | apply State.drillSwap_kept)

theorem execDrillCheck_kept {κ : Keep} {failed : List Nat} {supervisor : Bool} {s : State} {t : State} (hk : Kept κ s) (h : execDrillCheck failed supervisor s = .next t) : Kept κ t := by
  unfold execDrillCheck at h
  refine gated_kept ?_ h
  with_reducible repeat' (first | exact hk | apply State.drillCheck_kept)

theorem execDrillDue_kept {κ : Keep} {s : State} {t : State} (hk : Kept κ s) (h : execDrillDue s = .next t) : Kept κ t := by
  unfold execDrillDue at h
  refine gated_kept ?_ h
  with_reducible repeat' (first | exact hk | apply State.when_kept | apply State.when_kept | apply State.drillDue_kept)

theorem execPlaneReturn_kept {κ : Keep} {r : Requester} {s : State} {t : State} (hk : Kept κ s) (h : execPlaneReturn r s = .next t) : Kept κ t := by
  unfold execPlaneReturn at h
  refine gated_kept ?_ h
  with_reducible repeat' (first | exact hk | apply State.writeFields_kept)

theorem execReturnBankTest_kept {κ : Keep} {fail : Option (Nat × Nat)} {s : State} {t : State} (hk : Kept κ s) (h : execReturnBankTest fail s = .next t) : Kept κ t := by
  unfold execReturnBankTest at h
  refine gated_kept ?_ h
  with_reducible repeat' (first | exact hk | apply State.returnTest_kept)

theorem execLockstep_kept {κ : Keep} {s : State} {t : State} (hk : Kept κ s) (h : execLockstep s = .next t) : Kept κ t := by
  unfold execLockstep at h
  refine gated_kept ?_ h
  with_reducible repeat' (first | exact hk | apply State.lockstep_kept)

theorem execReturnEnd_kept {κ : Keep} {s : State} {t : State} (hk : Kept κ s) (h : execReturnEnd s = .next t) : Kept κ t := by
  unfold execReturnEnd at h
  refine gated_kept ?_ h
  with_reducible repeat' (first | exact hk | apply State.returnEnd_kept)

theorem execAutoReturn_kept {κ : Keep} {s : State} {t : State} (hk : Kept κ s) (h : execAutoReturn s = .next t) : Kept κ t := by
  unfold execAutoReturn at h
  refine gated_kept ?_ h
  with_reducible repeat' (first | exact hk | apply State.autoReturn_kept)

theorem execHeartbeat_kept {κ : Keep} {plane : Plane} {s : State} {t : State} (hk : Kept κ s) (h : execHeartbeat plane s = .next t) : Kept κ t := by
  unfold execHeartbeat at h
  refine gated_kept ?_ h
  with_reducible repeat' (first | exact hk | apply State.when_kept | apply State.when_kept | apply State.heartbeat_kept)

theorem exec_kept {κ : Keep} {i : Instr} {s t : State} (hk : Kept κ s) (h_clk : ∀ x, κ.clk x) (h_mode : ∀ x, κ.mode x)
    (h_fabric : ∀ x, κ.fabric x) (h_image : ∀ x, κ.image x) (h_nor : ∀ x, κ.norIs x) (h : exec i s = .next t) : Kept κ t := by
  cases i with
  | frameBoundary _ => exact execFrameBoundary_kept hk (h_clk _) h_nor h
  | offerInstant => exact execOfferInstant_kept hk h
  | admissionPoint _ => exact execAdmissionPoint_kept hk (h_clk _) h_nor h
  | releaseDeadline _ _ _ _ => exact execReleaseDeadline_kept hk h
  | feedbackLost _ => exact execFeedbackLost_kept hk h
  | feedbackFrozen _ => exact execFeedbackFrozen_kept hk h
  | inputInvalid _ => exact execInputInvalid_kept hk h
  | feedbackOverload _ => exact execFeedbackOverload_kept hk h
  | following _ => exact execFollowing_kept hk h
  | autoResume _ => exact execAutoResume_kept hk h
  | expressUpdate _ _ _ _ _ => exact execExpressUpdate_kept hk h
  | expressOverrun _ _ => exact execExpressOverrun_kept hk h
  | expJudged _ => exact execExpJudged_kept hk h
  | kolrokFrameRx _ _ _ => exact execKolrokFrameRx_kept hk h
  | arpRequest _ _ => exact execArpRequest_kept hk h
  | ptpEvent _ _ _ _ _ _ _ _ _ => exact execPtpEvent_kept hk h
  | laneLinkUp _ => exact execLaneLinkUp_kept hk h
  | laneLinkDown _ _ => exact execLaneLinkDown_kept hk h
  | hiBer _ _ => exact execHiBer_kept hk h
  | frameTransmit _ _ _ => exact execFrameTransmit_kept hk h
  | ping _ => exact execPing_kept hk h
  | summary _ _ => exact execSummary_kept hk h
  | fence _ => exact execFence_kept hk h
  | read _ _ _ => exact execRead_kept hk h
  | write _ _ _ => exact execWrite_kept hk h
  | connect _ _ _ => exact execConnect_kept hk h
  | disconnect _ _ _ => exact execDisconnect_kept hk h
  | stage _ _ _ _ _ => exact execStage_kept hk h
  | setElement _ _ _ => exact execSetElement_kept hk h
  | commit _ _ _ _ _ _ => exact execCommit_kept hk h
  | abort _ _ _ => exact execAbort_kept hk h
  | remap _ _ _ => exact execRemap_kept hk h
  | ctxRead _ _ _ _ => exact execCtxRead_kept hk h
  | ctxWrite _ _ _ _ => exact execCtxWrite_kept hk h
  | ctxState _ _ _ => exact execCtxState_kept hk h
  | guardWrite _ _ _ _ => exact execGuardWrite_kept hk h
  | primerWrite _ _ _ _ => exact execPrimerWrite_kept hk h
  | primerApply _ _ => exact execPrimerApply_kept hk h
  | tileResume _ _ => exact execTileResume_kept hk h
  | hkaInject _ _ _ => exact execHkaInject_kept hk h
  | calibrate _ _ => exact execCalibrate_kept hk h
  | stencilStart _ _ => exact execStencilStart_kept hk h
  | mode _ _ _ => exact execMode_kept hk h
  | power _ _ => exact execPower_kept hk h
  | drill _ _ => exact execDrill_kept hk h
  | reboot _ _ => exact execReboot_kept hk h
  | protectArm _ _ => exact execProtectArm_kept hk h
  | protectCommit _ _ _ _ => exact execProtectCommit_kept hk h
  | keyInstall _ _ _ _ => exact execKeyInstall_kept hk h
  | keyRoll _ _ _ => exact execKeyRoll_kept hk h
  | forward _ _ _ => exact execForward_kept hk h
  | forwardedFrameRx _ _ => exact execForwardedFrameRx_kept hk h
  | forwardedResponseRx _ _ _ => exact execForwardedResponseRx_kept hk h
  | sbSetAddr _ _ _ => exact execSbSetAddr_kept hk h
  | sbRead => exact execSbRead_kept hk h
  | sbWrite _ _ => exact execSbWrite_kept hk h
  | sbLastStatus => exact execSbLastStatus_kept hk h
  | sbSummary => exact execSbSummary_kept hk h
  | sbAlertCause => exact execSbAlertCause_kept hk h
  | sbFaultPop => exact execSbFaultPop_kept hk h
  | alertResponse => exact execAlertResponse_kept hk h
  | sbStretchTimeout _ => exact execSbStretchTimeout_kept hk h
  | incrementalPost _ _ => exact execIncrementalPost_kept hk h
  | fullRoutingPost _ _ => exact execFullRoutingPost_kept hk h
  | deferredRoutingStart => exact execDeferredRoutingStart_kept hk h
  | rearrangeExpired => exact execRearrangeExpired_kept hk h
  | stageExpired _ => exact execStageExpired_kept hk h
  | yellowExpired => exact execYellowExpired_kept hk h
  | commitFix => exact execCommitFix_kept hk h
  | commitSwitch _ _ _ => exact execCommitSwitch_kept hk h
  | lateTileApply _ => exact execLateTileApply_kept hk h
  | commitDone => exact execCommitDone_kept hk h
  | readyRx _ _ _ _ _ _ _ _ => exact execReadyRx_kept hk h
  | goRx _ _ _ => exact execGoRx_kept hk h
  | abandonRx _ _ => exact execAbandonRx_kept hk h
  | tokenLost => exact execTokenLost_kept hk h
  | biasLimit _ => exact execBiasLimit_kept hk h
  | refOut _ _ => exact execRefOut_kept hk h
  | refTimeout _ => exact execRefTimeout_kept hk h
  | captureRecordWrite _ _ _ => exact execCaptureRecordWrite_kept hk h
  | capRptrWrite _ _ _ => exact execCapRptrWrite_kept hk h
  | hkaSlot _ _ _ _ => exact execHkaSlot_kept hk h
  | hkaInjectWrite _ _ _ => exact execHkaInjectWrite_kept hk h
  | hkaResultPop _ => exact execHkaResultPop_kept hk h
  | calStart _ => exact execCalStart_kept hk h
  | corrResidue _ _ => exact execCorrResidue_kept hk h
  | storeRoomReadEcc _ _ _ _ => exact execStoreRoomReadEcc_kept hk h
  | refreshMiss _ _ => exact execRefreshMiss_kept hk h
  | stArm _ _ => exact execStArm_kept hk h
  | stStart _ _ => exact execStStart_kept hk h
  | stHalt _ _ => exact execStHalt_kept hk h
  | evtEdgeTrigger _ _ => exact execEvtEdgeTrigger_kept hk h
  | frameTrigger _ => exact execFrameTrigger_kept hk h
  | stop _ => exact execStop_kept hk h
  | lda _ => exact execLda_kept hk h
  | ldd _ => exact execLdd_kept hk h
  | adda _ => exact execAdda_kept hk h
  | emit _ => exact execEmit_kept hk h
  | ramp _ => exact execRamp_kept hk h
  | table _ => exact execTable_kept hk h
  | prbs _ => exact execPrbs_kept hk h
  | ldc _ => exact execLdc_kept hk h
  | loop _ => exact execLoop_kept hk h
  | jmp _ => exact execJmp_kept hk h
  | br _ => exact execBr_kept hk h
  | wait _ => exact execWait_kept hk h
  | illegal _ => exact execIllegal_kept hk h
  | runaway _ => exact execRunaway_kept hk h
  | mtStart _ => exact execMtStart_kept hk h
  | mtAbort _ => exact execMtAbort_kept hk h
  | mtestDone _ _ _ _ _ _ => exact execMtestDone_kept hk h
  | heaterOpen _ => exact execHeaterOpen_kept hk h
  | heaterShort _ => exact execHeaterShort_kept hk h
  | heaterLoad _ => exact execHeaterLoad_kept hk h
  | driverOverload _ => exact execDriverOverload_kept hk h
  | guardIntegrity _ => exact execGuardIntegrity_kept hk h
  | starvation _ => exact execStarvation_kept hk h
  | trimApply _ => exact execTrimApply_kept hk h
  | htrOffRelease _ _ _ _ => exact execHtrOffRelease_kept hk h
  | fdOffRelease _ _ _ _ => exact execFdOffRelease_kept hk h
  | fdLevelWrite _ _ _ _ => exact execFdLevelWrite_kept hk h
  | tlCalReq _ _ => exact execTlCalReq_kept hk h
  | tiaReq _ _ => exact execTiaReq_kept hk h
  | calAll _ => exact execCalAll_kept hk h
  | tileRunStart _ => exact execTileRunStart_kept hk h
  | tileRunEnd _ => exact execTileRunEnd_kept hk h
  | svStart _ => exact execSvStart_kept hk h
  | svAbort _ => exact execSvAbort_kept hk h
  | sweepPoint => exact execSweepPoint_kept hk h
  | sweepEnd => exact execSweepEnd_kept hk h
  | tdRateWrite _ _ _ => exact execTdRateWrite_kept hk h
  | tdSet _ _ _ => exact execTdSet_kept hk h
  | tdAdjust _ _ _ => exact execTdAdjust_kept hk h
  | timeCapture _ => exact execTimeCapture_kept hk h
  | align _ => exact execAlign_kept hk h
  | alignmentGapEnd => exact execAlignmentGapEnd_kept hk h_clk h
  | holdover _ => exact execHoldover_kept hk h
  | autoSwitch => exact execAutoSwitch_kept hk h
  | fclkLock => exact execFclkLock_kept hk h
  | ppsEdge _ => exact execPpsEdge_kept hk h
  | ppsGap => exact execPpsGap_kept hk h
  | ppsOutEdge => exact execPpsOutEdge_kept hk h
  | tsPop _ _ => exact execTsPop_kept hk h
  | beaconRx _ _ _ _ _ _ _ => exact execBeaconRx_kept hk h
  | beaconPortSwitch => exact execBeaconPortSwitch_kept hk h
  | linkMessageRx _ _ _ _ _ _ _ _ _ => exact execLinkMessageRx_kept hk h
  | ringLost _ => exact execRingLost_kept hk h
  | ringLock _ => exact execRingLock_kept hk h
  | apsinLinkDown _ => exact execApsinLinkDown_kept hk h
  | mtpWriteDone _ => exact execMtpWriteDone_kept hk h
  | keyRollApply _ => exact execKeyRollApply_kept hk h
  | graceEnd _ => exact execGraceEnd_kept hk h
  | protectApply => exact execProtectApply_kept hk h
  | protectExpire => exact execProtectExpire_kept hk h
  | atticProvGo _ => exact execAtticProvGo_kept hk h
  | divergenceDecision => exact execDivergenceDecision_kept hk h
  | centralAuditEnd _ _ => exact execCentralAuditEnd_kept hk h
  | planeFence _ => exact execPlaneFence_kept hk h_nor h
  | drillSwap => exact execDrillSwap_kept hk h
  | drillCheck _ _ => exact execDrillCheck_kept hk h
  | drillDue => exact execDrillDue_kept hk h
  | planeReturn _ => exact execPlaneReturn_kept hk h
  | returnBankTest _ => exact execReturnBankTest_kept hk h
  | lockstep => exact execLockstep_kept hk h
  | returnEnd => exact execReturnEnd_kept hk h
  | autoReturn => exact execAutoReturn_kept hk h
  | heartbeat _ => exact execHeartbeat_kept hk h
  | faultMessage _ _ _ _ _ _ => exact execFaultMessage_kept hk h
  | endReport _ _ _ _ _ _ => exact execEndReport_kept hk h
  | clearFirst _ => exact execClearFirst_kept hk h
  | fcAck _ _ => exact execFcAck_kept hk h
  | fcUnfence _ _ _ => exact execFcUnfence_kept hk h
  | coreRestart _ => exact execCoreRestart_kept hk h
  | watchdog _ => exact execWatchdog_kept hk h
  | trngHealth => exact execTrngHealth_kept hk h
  | sensorRound _ => exact execSensorRound_kept hk h_nor h
  | sensorFail _ _ => exact execSensorFail_kept hk h
  | analogTrip => exact execAnalogTrip_kept hk h_nor h
  | tripHalt => exact execTripHalt_kept hk h
  | deepSleepSensor _ => exact execDeepSleepSensor_kept hk h
  | domainStop _ => exact execDomainStop_kept hk h_clk h_mode h_fabric h_image h
  | wakeNLow _ => exact execWakeNLow_kept hk h_clk h
  | clockAlarm => exact execClockAlarm_kept hk h_clk h
  | laneWake _ => exact execLaneWake_kept hk h_clk h
  | loopsResume _ _ => exact execLoopsResume_kept hk h
  | domainWakeOnDemand _ => exact execDomainWakeOnDemand_kept hk h
  | wakeStall _ _ => exact execWakeStall_kept hk h
  | reset _ _ => exact execReset_kept hk h_clk h_mode h_fabric h_image h
  | startUp _ _ _ _ _ => exact execStartUp_kept hk h_clk h_nor h
  | selftestDone _ _ _ => exact execSelftestDone_kept hk h
  | loadInRise => exact execLoadInRise_kept hk h
  | firstPassTimeout => exact execFirstPassTimeout_kept hk h
  | passReadEnd _ _ _ => exact execPassReadEnd_kept hk h_fabric h_image h_nor h
  | secondPass => exact execSecondPass_kept hk h
  | runEntry _ => exact execRunEntry_kept hk h_mode h
  | locked _ => exact execLocked_kept hk h
  | bootStatusRx _ _ _ _ _ _ => exact execBootStatusRx_kept hk h
  | passRequestRx => exact execPassRequestRx_kept hk h
  | passRequestRetry => exact execPassRequestRetry_kept hk h
  | pmErase => exact execPmErase_kept hk h_nor h
  | norRead _ _ => exact execNorRead_kept hk h
  | norProgram _ _ => exact execNorProgram_kept hk h
  | norErase _ _ => exact execNorErase_kept hk h
  | norOpDone _ => exact execNorOpDone_kept hk h_nor h
  | btReboot _ _ => exact execBtReboot_kept hk h
  | rebootReset => exact execRebootReset_kept hk h_clk h_mode h_fabric h_image h
  | modeApply => exact execModeApply_kept hk h_mode h
  | rtRemapWrite _ _ _ => exact execRtRemapWrite_kept hk h
  | snapshotLoRead _ _ => exact execSnapshotLoRead_kept hk h
  | rcRead _ _ _ => exact execRcRead_kept hk h
  | registerWrite _ _ _ => exact execRegisterWrite_kept hk h
  | loadInFall => exact execLoadInFall_kept hk h
  | deviceReady => exact execDeviceReady_kept hk h
  | domainReady _ => exact execDomainReady_kept hk h
  | refclkLoss => exact execRefclkLoss_kept hk h

end Sys2Proof.Machine
end

