-- ==== Sys2Proof/Laws/State.lean ====
section
/-! SUPPORT. Laws/State.lean: one lemma for each field and each update of the state. -/

set_option Elab.async false

namespace Sys2Proof.Machine

open Sys2Proof

/-! ### State.setWord -/

@[simp] theorem State.setWord_clk (s : State) (a w : Nat) : (s.setWord a w).clk = s.clk := rfl
@[simp] theorem State.setWord_reg (s : State) (a w : Nat) :
    (s.setWord a w).reg = { s.reg with shared := smSet resetWord s.reg.shared a (BitVec.ofNat 32 w) } := rfl
@[simp] theorem State.setWord_mode (s : State) (a w : Nat) : (s.setWord a w).mode = s.mode := rfl
@[simp] theorem State.setWord_modeNext (s : State) (a w : Nat) : (s.setWord a w).modeNext = s.modeNext := rfl
@[simp] theorem State.setWord_power (s : State) (a w : Nat) : (s.setWord a w).power = s.power := rfl
@[simp] theorem State.setWord_imageApplied (s : State) (a w : Nat) : (s.setWord a w).imageApplied = s.imageApplied := rfl
@[simp] theorem State.setWord_fabric (s : State) (a w : Nat) : (s.setWord a w).fabric = s.fabric := rfl
@[simp] theorem State.setWord_route (s : State) (a w : Nat) : (s.setWord a w).route = s.route := rfl
@[simp] theorem State.setWord_com (s : State) (a w : Nat) : (s.setWord a w).com = s.com := rfl
@[simp] theorem State.setWord_links (s : State) (a w : Nat) : (s.setWord a w).links = s.links := rfl
@[simp] theorem State.setWord_sb (s : State) (a w : Nat) : (s.setWord a w).sb = s.sb := rfl
@[simp] theorem State.setWord_sched (s : State) (a w : Nat) : (s.setWord a w).sched = s.sched := rfl
@[simp] theorem State.setWord_prot (s : State) (a w : Nat) : (s.setWord a w).prot = s.prot := rfl
@[simp] theorem State.setWord_faults (s : State) (a w : Nat) : (s.setWord a w).faults = s.faults := rfl
@[simp] theorem State.setWord_sense (s : State) (a w : Nat) : (s.setWord a w).sense = s.sense := rfl
@[simp] theorem State.setWord_cap (s : State) (a w : Nat) : (s.setWord a w).cap = s.cap := rfl
@[simp] theorem State.setWord_hka (s : State) (a w : Nat) : (s.setWord a w).hka = s.hka := rfl
@[simp] theorem State.setWord_dith (s : State) (a w : Nat) : (s.setWord a w).dith = s.dith := rfl
@[simp] theorem State.setWord_gens (s : State) (a w : Nat) : (s.setWord a w).gens = s.gens := rfl
@[simp] theorem State.setWord_loop (s : State) (a w : Nat) : (s.setWord a w).loop = s.loop := rfl
@[simp] theorem State.setWord_clips (s : State) (a w : Nat) : (s.setWord a w).clips = s.clips := rfl
@[simp] theorem State.setWord_act (s : State) (a w : Nat) : (s.setWord a w).act = s.act := rfl
@[simp] theorem State.setWord_cal (s : State) (a w : Nat) : (s.setWord a w).cal = s.cal := rfl
@[simp] theorem State.setWord_time (s : State) (a w : Nat) : (s.setWord a w).time = s.time := rfl
@[simp] theorem State.setWord_pl (s : State) (a w : Nat) : (s.setWord a w).pl = s.pl := rfl
@[simp] theorem State.setWord_therm (s : State) (a w : Nat) : (s.setWord a w).therm = s.therm := rfl
@[simp] theorem State.setWord_pw (s : State) (a w : Nat) : (s.setWord a w).pw = s.pw := rfl
@[simp] theorem State.setWord_dust (s : State) (a w : Nat) : (s.setWord a w).dust = s.dust := rfl
@[simp] theorem State.setWord_avail (s : State) (a w : Nat) : (s.setWord a w).avail = s.avail := rfl
@[simp] theorem State.setWord_boot (s : State) (a w : Nat) : (s.setWord a w).boot = s.boot := rfl
@[simp] theorem State.setWord_nor (s : State) (a w : Nat) : (s.setWord a w).nor = s.nor := rfl
@[simp] theorem State.setWord_evtLevel (s : State) (a w : Nat) : (s.setWord a w).evtLevel = s.evtLevel := rfl
@[simp] theorem State.setWord_evtRise (s : State) (a w : Nat) : (s.setWord a w).evtRise = s.evtRise := rfl
@[simp] theorem State.setWord_freeCount (s : State) (a w : Nat) : (s.setWord a w).freeCount = s.freeCount := rfl
@[simp] theorem State.setWord_pending (s : State) (a w : Nat) : (s.setWord a w).pending = s.pending := rfl

/-! ### State.setWordP -/

@[simp] theorem State.setWordP_clk (s : State) (p : Plane) (a w : Nat) : (s.setWordP p a w).clk = s.clk := rfl
@[simp] theorem State.setWordP_reg (s : State) (p : Plane) (a w : Nat) :
    (s.setWordP p a w).reg = s.reg.setFile p (smSet resetWord (s.reg.file p) a (BitVec.ofNat 32 w)) := rfl
@[simp] theorem State.setWordP_mode (s : State) (p : Plane) (a w : Nat) : (s.setWordP p a w).mode = s.mode := rfl
@[simp] theorem State.setWordP_modeNext (s : State) (p : Plane) (a w : Nat) : (s.setWordP p a w).modeNext = s.modeNext := rfl
@[simp] theorem State.setWordP_power (s : State) (p : Plane) (a w : Nat) : (s.setWordP p a w).power = s.power := rfl
@[simp] theorem State.setWordP_imageApplied (s : State) (p : Plane) (a w : Nat) : (s.setWordP p a w).imageApplied = s.imageApplied := rfl
@[simp] theorem State.setWordP_fabric (s : State) (p : Plane) (a w : Nat) : (s.setWordP p a w).fabric = s.fabric := rfl
@[simp] theorem State.setWordP_route (s : State) (p : Plane) (a w : Nat) : (s.setWordP p a w).route = s.route := rfl
@[simp] theorem State.setWordP_com (s : State) (p : Plane) (a w : Nat) : (s.setWordP p a w).com = s.com := rfl
@[simp] theorem State.setWordP_links (s : State) (p : Plane) (a w : Nat) : (s.setWordP p a w).links = s.links := rfl
@[simp] theorem State.setWordP_sb (s : State) (p : Plane) (a w : Nat) : (s.setWordP p a w).sb = s.sb := rfl
@[simp] theorem State.setWordP_sched (s : State) (p : Plane) (a w : Nat) : (s.setWordP p a w).sched = s.sched := rfl
@[simp] theorem State.setWordP_prot (s : State) (p : Plane) (a w : Nat) : (s.setWordP p a w).prot = s.prot := rfl
@[simp] theorem State.setWordP_faults (s : State) (p : Plane) (a w : Nat) : (s.setWordP p a w).faults = s.faults := rfl
@[simp] theorem State.setWordP_sense (s : State) (p : Plane) (a w : Nat) : (s.setWordP p a w).sense = s.sense := rfl
@[simp] theorem State.setWordP_cap (s : State) (p : Plane) (a w : Nat) : (s.setWordP p a w).cap = s.cap := rfl
@[simp] theorem State.setWordP_hka (s : State) (p : Plane) (a w : Nat) : (s.setWordP p a w).hka = s.hka := rfl
@[simp] theorem State.setWordP_dith (s : State) (p : Plane) (a w : Nat) : (s.setWordP p a w).dith = s.dith := rfl
@[simp] theorem State.setWordP_gens (s : State) (p : Plane) (a w : Nat) : (s.setWordP p a w).gens = s.gens := rfl
@[simp] theorem State.setWordP_loop (s : State) (p : Plane) (a w : Nat) : (s.setWordP p a w).loop = s.loop := rfl
@[simp] theorem State.setWordP_clips (s : State) (p : Plane) (a w : Nat) : (s.setWordP p a w).clips = s.clips := rfl
@[simp] theorem State.setWordP_act (s : State) (p : Plane) (a w : Nat) : (s.setWordP p a w).act = s.act := rfl
@[simp] theorem State.setWordP_cal (s : State) (p : Plane) (a w : Nat) : (s.setWordP p a w).cal = s.cal := rfl
@[simp] theorem State.setWordP_time (s : State) (p : Plane) (a w : Nat) : (s.setWordP p a w).time = s.time := rfl
@[simp] theorem State.setWordP_pl (s : State) (p : Plane) (a w : Nat) : (s.setWordP p a w).pl = s.pl := rfl
@[simp] theorem State.setWordP_therm (s : State) (p : Plane) (a w : Nat) : (s.setWordP p a w).therm = s.therm := rfl
@[simp] theorem State.setWordP_pw (s : State) (p : Plane) (a w : Nat) : (s.setWordP p a w).pw = s.pw := rfl
@[simp] theorem State.setWordP_dust (s : State) (p : Plane) (a w : Nat) : (s.setWordP p a w).dust = s.dust := rfl
@[simp] theorem State.setWordP_avail (s : State) (p : Plane) (a w : Nat) : (s.setWordP p a w).avail = s.avail := rfl
@[simp] theorem State.setWordP_boot (s : State) (p : Plane) (a w : Nat) : (s.setWordP p a w).boot = s.boot := rfl
@[simp] theorem State.setWordP_nor (s : State) (p : Plane) (a w : Nat) : (s.setWordP p a w).nor = s.nor := rfl
@[simp] theorem State.setWordP_evtLevel (s : State) (p : Plane) (a w : Nat) : (s.setWordP p a w).evtLevel = s.evtLevel := rfl
@[simp] theorem State.setWordP_evtRise (s : State) (p : Plane) (a w : Nat) : (s.setWordP p a w).evtRise = s.evtRise := rfl
@[simp] theorem State.setWordP_freeCount (s : State) (p : Plane) (a w : Nat) : (s.setWordP p a w).freeCount = s.freeCount := rfl
@[simp] theorem State.setWordP_pending (s : State) (p : Plane) (a w : Nat) : (s.setWordP p a w).pending = s.pending := rfl

/-! ### State.withPending -/

@[simp] theorem State.withPending_clk (s : State) (l : List Instr) : (s.withPending l).clk = s.clk := rfl
@[simp] theorem State.withPending_reg (s : State) (l : List Instr) : (s.withPending l).reg = s.reg := rfl
@[simp] theorem State.withPending_mode (s : State) (l : List Instr) : (s.withPending l).mode = s.mode := rfl
@[simp] theorem State.withPending_modeNext (s : State) (l : List Instr) : (s.withPending l).modeNext = s.modeNext := rfl
@[simp] theorem State.withPending_power (s : State) (l : List Instr) : (s.withPending l).power = s.power := rfl
@[simp] theorem State.withPending_imageApplied (s : State) (l : List Instr) : (s.withPending l).imageApplied = s.imageApplied := rfl
@[simp] theorem State.withPending_fabric (s : State) (l : List Instr) : (s.withPending l).fabric = s.fabric := rfl
@[simp] theorem State.withPending_route (s : State) (l : List Instr) : (s.withPending l).route = s.route := rfl
@[simp] theorem State.withPending_com (s : State) (l : List Instr) : (s.withPending l).com = s.com := rfl
@[simp] theorem State.withPending_links (s : State) (l : List Instr) : (s.withPending l).links = s.links := rfl
@[simp] theorem State.withPending_sb (s : State) (l : List Instr) : (s.withPending l).sb = s.sb := rfl
@[simp] theorem State.withPending_sched (s : State) (l : List Instr) : (s.withPending l).sched = s.sched := rfl
@[simp] theorem State.withPending_prot (s : State) (l : List Instr) : (s.withPending l).prot = s.prot := rfl
@[simp] theorem State.withPending_faults (s : State) (l : List Instr) : (s.withPending l).faults = s.faults := rfl
@[simp] theorem State.withPending_sense (s : State) (l : List Instr) : (s.withPending l).sense = s.sense := rfl
@[simp] theorem State.withPending_cap (s : State) (l : List Instr) : (s.withPending l).cap = s.cap := rfl
@[simp] theorem State.withPending_hka (s : State) (l : List Instr) : (s.withPending l).hka = s.hka := rfl
@[simp] theorem State.withPending_dith (s : State) (l : List Instr) : (s.withPending l).dith = s.dith := rfl
@[simp] theorem State.withPending_gens (s : State) (l : List Instr) : (s.withPending l).gens = s.gens := rfl
@[simp] theorem State.withPending_loop (s : State) (l : List Instr) : (s.withPending l).loop = s.loop := rfl
@[simp] theorem State.withPending_clips (s : State) (l : List Instr) : (s.withPending l).clips = s.clips := rfl
@[simp] theorem State.withPending_act (s : State) (l : List Instr) : (s.withPending l).act = s.act := rfl
@[simp] theorem State.withPending_cal (s : State) (l : List Instr) : (s.withPending l).cal = s.cal := rfl
@[simp] theorem State.withPending_time (s : State) (l : List Instr) : (s.withPending l).time = s.time := rfl
@[simp] theorem State.withPending_pl (s : State) (l : List Instr) : (s.withPending l).pl = s.pl := rfl
@[simp] theorem State.withPending_therm (s : State) (l : List Instr) : (s.withPending l).therm = s.therm := rfl
@[simp] theorem State.withPending_pw (s : State) (l : List Instr) : (s.withPending l).pw = s.pw := rfl
@[simp] theorem State.withPending_dust (s : State) (l : List Instr) : (s.withPending l).dust = s.dust := rfl
@[simp] theorem State.withPending_avail (s : State) (l : List Instr) : (s.withPending l).avail = s.avail := rfl
@[simp] theorem State.withPending_boot (s : State) (l : List Instr) : (s.withPending l).boot = s.boot := rfl
@[simp] theorem State.withPending_nor (s : State) (l : List Instr) : (s.withPending l).nor = s.nor := rfl
@[simp] theorem State.withPending_evtLevel (s : State) (l : List Instr) : (s.withPending l).evtLevel = s.evtLevel := rfl
@[simp] theorem State.withPending_evtRise (s : State) (l : List Instr) : (s.withPending l).evtRise = s.evtRise := rfl
@[simp] theorem State.withPending_freeCount (s : State) (l : List Instr) : (s.withPending l).freeCount = s.freeCount := rfl
@[simp] theorem State.withPending_pending (s : State) (l : List Instr) : (s.withPending l).pending = l := rfl

/-! ### State.updPrin -/

@[simp] theorem State.updPrin_clk (s : State) (p : Nat) (f : PrinLink → PrinLink) : (s.updPrin p f).clk = s.clk := rfl
@[simp] theorem State.updPrin_reg (s : State) (p : Nat) (f : PrinLink → PrinLink) : (s.updPrin p f).reg = s.reg := rfl
@[simp] theorem State.updPrin_mode (s : State) (p : Nat) (f : PrinLink → PrinLink) : (s.updPrin p f).mode = s.mode := rfl
@[simp] theorem State.updPrin_modeNext (s : State) (p : Nat) (f : PrinLink → PrinLink) : (s.updPrin p f).modeNext = s.modeNext := rfl
@[simp] theorem State.updPrin_power (s : State) (p : Nat) (f : PrinLink → PrinLink) : (s.updPrin p f).power = s.power := rfl
@[simp] theorem State.updPrin_imageApplied (s : State) (p : Nat) (f : PrinLink → PrinLink) : (s.updPrin p f).imageApplied = s.imageApplied := rfl
@[simp] theorem State.updPrin_fabric (s : State) (p : Nat) (f : PrinLink → PrinLink) : (s.updPrin p f).fabric = s.fabric := rfl
@[simp] theorem State.updPrin_route (s : State) (p : Nat) (f : PrinLink → PrinLink) : (s.updPrin p f).route = s.route := rfl
@[simp] theorem State.updPrin_com (s : State) (p : Nat) (f : PrinLink → PrinLink) : (s.updPrin p f).com = s.com := rfl
@[simp] theorem State.updPrin_links (s : State) (p : Nat) (f : PrinLink → PrinLink) :
    (s.updPrin p f).links = { s.links with prin := modAt s.links.prin (pIdx p) f } := rfl
@[simp] theorem State.updPrin_sb (s : State) (p : Nat) (f : PrinLink → PrinLink) : (s.updPrin p f).sb = s.sb := rfl
@[simp] theorem State.updPrin_sched (s : State) (p : Nat) (f : PrinLink → PrinLink) : (s.updPrin p f).sched = s.sched := rfl
@[simp] theorem State.updPrin_prot (s : State) (p : Nat) (f : PrinLink → PrinLink) : (s.updPrin p f).prot = s.prot := rfl
@[simp] theorem State.updPrin_faults (s : State) (p : Nat) (f : PrinLink → PrinLink) : (s.updPrin p f).faults = s.faults := rfl
@[simp] theorem State.updPrin_sense (s : State) (p : Nat) (f : PrinLink → PrinLink) : (s.updPrin p f).sense = s.sense := rfl
@[simp] theorem State.updPrin_cap (s : State) (p : Nat) (f : PrinLink → PrinLink) : (s.updPrin p f).cap = s.cap := rfl
@[simp] theorem State.updPrin_hka (s : State) (p : Nat) (f : PrinLink → PrinLink) : (s.updPrin p f).hka = s.hka := rfl
@[simp] theorem State.updPrin_dith (s : State) (p : Nat) (f : PrinLink → PrinLink) : (s.updPrin p f).dith = s.dith := rfl
@[simp] theorem State.updPrin_gens (s : State) (p : Nat) (f : PrinLink → PrinLink) : (s.updPrin p f).gens = s.gens := rfl
@[simp] theorem State.updPrin_loop (s : State) (p : Nat) (f : PrinLink → PrinLink) : (s.updPrin p f).loop = s.loop := rfl
@[simp] theorem State.updPrin_clips (s : State) (p : Nat) (f : PrinLink → PrinLink) : (s.updPrin p f).clips = s.clips := rfl
@[simp] theorem State.updPrin_act (s : State) (p : Nat) (f : PrinLink → PrinLink) : (s.updPrin p f).act = s.act := rfl
@[simp] theorem State.updPrin_cal (s : State) (p : Nat) (f : PrinLink → PrinLink) : (s.updPrin p f).cal = s.cal := rfl
@[simp] theorem State.updPrin_time (s : State) (p : Nat) (f : PrinLink → PrinLink) : (s.updPrin p f).time = s.time := rfl
@[simp] theorem State.updPrin_pl (s : State) (p : Nat) (f : PrinLink → PrinLink) : (s.updPrin p f).pl = s.pl := rfl
@[simp] theorem State.updPrin_therm (s : State) (p : Nat) (f : PrinLink → PrinLink) : (s.updPrin p f).therm = s.therm := rfl
@[simp] theorem State.updPrin_pw (s : State) (p : Nat) (f : PrinLink → PrinLink) : (s.updPrin p f).pw = s.pw := rfl
@[simp] theorem State.updPrin_dust (s : State) (p : Nat) (f : PrinLink → PrinLink) : (s.updPrin p f).dust = s.dust := rfl
@[simp] theorem State.updPrin_avail (s : State) (p : Nat) (f : PrinLink → PrinLink) : (s.updPrin p f).avail = s.avail := rfl
@[simp] theorem State.updPrin_boot (s : State) (p : Nat) (f : PrinLink → PrinLink) : (s.updPrin p f).boot = s.boot := rfl
@[simp] theorem State.updPrin_nor (s : State) (p : Nat) (f : PrinLink → PrinLink) : (s.updPrin p f).nor = s.nor := rfl
@[simp] theorem State.updPrin_evtLevel (s : State) (p : Nat) (f : PrinLink → PrinLink) : (s.updPrin p f).evtLevel = s.evtLevel := rfl
@[simp] theorem State.updPrin_evtRise (s : State) (p : Nat) (f : PrinLink → PrinLink) : (s.updPrin p f).evtRise = s.evtRise := rfl
@[simp] theorem State.updPrin_freeCount (s : State) (p : Nat) (f : PrinLink → PrinLink) : (s.updPrin p f).freeCount = s.freeCount := rfl
@[simp] theorem State.updPrin_pending (s : State) (p : Nat) (f : PrinLink → PrinLink) : (s.updPrin p f).pending = s.pending := rfl

/-! ### State.updLane -/

@[simp] theorem State.updLane_clk (s : State) (l : Nat) (f : LaneState → LaneState) : (s.updLane l f).clk = s.clk := rfl
@[simp] theorem State.updLane_reg (s : State) (l : Nat) (f : LaneState → LaneState) : (s.updLane l f).reg = s.reg := rfl
@[simp] theorem State.updLane_mode (s : State) (l : Nat) (f : LaneState → LaneState) : (s.updLane l f).mode = s.mode := rfl
@[simp] theorem State.updLane_modeNext (s : State) (l : Nat) (f : LaneState → LaneState) : (s.updLane l f).modeNext = s.modeNext := rfl
@[simp] theorem State.updLane_power (s : State) (l : Nat) (f : LaneState → LaneState) : (s.updLane l f).power = s.power := rfl
@[simp] theorem State.updLane_imageApplied (s : State) (l : Nat) (f : LaneState → LaneState) : (s.updLane l f).imageApplied = s.imageApplied := rfl
@[simp] theorem State.updLane_fabric (s : State) (l : Nat) (f : LaneState → LaneState) : (s.updLane l f).fabric = s.fabric := rfl
@[simp] theorem State.updLane_route (s : State) (l : Nat) (f : LaneState → LaneState) : (s.updLane l f).route = s.route := rfl
@[simp] theorem State.updLane_com (s : State) (l : Nat) (f : LaneState → LaneState) : (s.updLane l f).com = s.com := rfl
@[simp] theorem State.updLane_links (s : State) (l : Nat) (f : LaneState → LaneState) :
    (s.updLane l f).links = { s.links with lanes := modAt s.links.lanes l f } := rfl
@[simp] theorem State.updLane_sb (s : State) (l : Nat) (f : LaneState → LaneState) : (s.updLane l f).sb = s.sb := rfl
@[simp] theorem State.updLane_sched (s : State) (l : Nat) (f : LaneState → LaneState) : (s.updLane l f).sched = s.sched := rfl
@[simp] theorem State.updLane_prot (s : State) (l : Nat) (f : LaneState → LaneState) : (s.updLane l f).prot = s.prot := rfl
@[simp] theorem State.updLane_faults (s : State) (l : Nat) (f : LaneState → LaneState) : (s.updLane l f).faults = s.faults := rfl
@[simp] theorem State.updLane_sense (s : State) (l : Nat) (f : LaneState → LaneState) : (s.updLane l f).sense = s.sense := rfl
@[simp] theorem State.updLane_cap (s : State) (l : Nat) (f : LaneState → LaneState) : (s.updLane l f).cap = s.cap := rfl
@[simp] theorem State.updLane_hka (s : State) (l : Nat) (f : LaneState → LaneState) : (s.updLane l f).hka = s.hka := rfl
@[simp] theorem State.updLane_dith (s : State) (l : Nat) (f : LaneState → LaneState) : (s.updLane l f).dith = s.dith := rfl
@[simp] theorem State.updLane_gens (s : State) (l : Nat) (f : LaneState → LaneState) : (s.updLane l f).gens = s.gens := rfl
@[simp] theorem State.updLane_loop (s : State) (l : Nat) (f : LaneState → LaneState) : (s.updLane l f).loop = s.loop := rfl
@[simp] theorem State.updLane_clips (s : State) (l : Nat) (f : LaneState → LaneState) : (s.updLane l f).clips = s.clips := rfl
@[simp] theorem State.updLane_act (s : State) (l : Nat) (f : LaneState → LaneState) : (s.updLane l f).act = s.act := rfl
@[simp] theorem State.updLane_cal (s : State) (l : Nat) (f : LaneState → LaneState) : (s.updLane l f).cal = s.cal := rfl
@[simp] theorem State.updLane_time (s : State) (l : Nat) (f : LaneState → LaneState) : (s.updLane l f).time = s.time := rfl
@[simp] theorem State.updLane_pl (s : State) (l : Nat) (f : LaneState → LaneState) : (s.updLane l f).pl = s.pl := rfl
@[simp] theorem State.updLane_therm (s : State) (l : Nat) (f : LaneState → LaneState) : (s.updLane l f).therm = s.therm := rfl
@[simp] theorem State.updLane_pw (s : State) (l : Nat) (f : LaneState → LaneState) : (s.updLane l f).pw = s.pw := rfl
@[simp] theorem State.updLane_dust (s : State) (l : Nat) (f : LaneState → LaneState) : (s.updLane l f).dust = s.dust := rfl
@[simp] theorem State.updLane_avail (s : State) (l : Nat) (f : LaneState → LaneState) : (s.updLane l f).avail = s.avail := rfl
@[simp] theorem State.updLane_boot (s : State) (l : Nat) (f : LaneState → LaneState) : (s.updLane l f).boot = s.boot := rfl
@[simp] theorem State.updLane_nor (s : State) (l : Nat) (f : LaneState → LaneState) : (s.updLane l f).nor = s.nor := rfl
@[simp] theorem State.updLane_evtLevel (s : State) (l : Nat) (f : LaneState → LaneState) : (s.updLane l f).evtLevel = s.evtLevel := rfl
@[simp] theorem State.updLane_evtRise (s : State) (l : Nat) (f : LaneState → LaneState) : (s.updLane l f).evtRise = s.evtRise := rfl
@[simp] theorem State.updLane_freeCount (s : State) (l : Nat) (f : LaneState → LaneState) : (s.updLane l f).freeCount = s.freeCount := rfl
@[simp] theorem State.updLane_pending (s : State) (l : Nat) (f : LaneState → LaneState) : (s.updLane l f).pending = s.pending := rfl

/-! ### State.raise -/

@[simp] theorem State.raise_clk (s : State) (m : FaultMsg) : (s.raise m).clk = s.clk := rfl
@[simp] theorem State.raise_reg (s : State) (m : FaultMsg) : (s.raise m).reg = s.reg := rfl
@[simp] theorem State.raise_mode (s : State) (m : FaultMsg) : (s.raise m).mode = s.mode := rfl
@[simp] theorem State.raise_modeNext (s : State) (m : FaultMsg) : (s.raise m).modeNext = s.modeNext := rfl
@[simp] theorem State.raise_power (s : State) (m : FaultMsg) : (s.raise m).power = s.power := rfl
@[simp] theorem State.raise_imageApplied (s : State) (m : FaultMsg) : (s.raise m).imageApplied = s.imageApplied := rfl
@[simp] theorem State.raise_fabric (s : State) (m : FaultMsg) : (s.raise m).fabric = s.fabric := rfl
@[simp] theorem State.raise_route (s : State) (m : FaultMsg) : (s.raise m).route = s.route := rfl
@[simp] theorem State.raise_com (s : State) (m : FaultMsg) : (s.raise m).com = s.com := rfl
@[simp] theorem State.raise_links (s : State) (m : FaultMsg) : (s.raise m).links = s.links := rfl
@[simp] theorem State.raise_sb (s : State) (m : FaultMsg) : (s.raise m).sb = s.sb := rfl
@[simp] theorem State.raise_sched (s : State) (m : FaultMsg) : (s.raise m).sched = s.sched := rfl
@[simp] theorem State.raise_prot (s : State) (m : FaultMsg) : (s.raise m).prot = s.prot := rfl
@[simp] theorem State.raise_faults (s : State) (m : FaultMsg) :
    (s.raise m).faults = { s.faults with incoming := s.faults.incoming ++ [m] } := rfl
@[simp] theorem State.raise_sense (s : State) (m : FaultMsg) : (s.raise m).sense = s.sense := rfl
@[simp] theorem State.raise_cap (s : State) (m : FaultMsg) : (s.raise m).cap = s.cap := rfl
@[simp] theorem State.raise_hka (s : State) (m : FaultMsg) : (s.raise m).hka = s.hka := rfl
@[simp] theorem State.raise_dith (s : State) (m : FaultMsg) : (s.raise m).dith = s.dith := rfl
@[simp] theorem State.raise_gens (s : State) (m : FaultMsg) : (s.raise m).gens = s.gens := rfl
@[simp] theorem State.raise_loop (s : State) (m : FaultMsg) : (s.raise m).loop = s.loop := rfl
@[simp] theorem State.raise_clips (s : State) (m : FaultMsg) : (s.raise m).clips = s.clips := rfl
@[simp] theorem State.raise_act (s : State) (m : FaultMsg) : (s.raise m).act = s.act := rfl
@[simp] theorem State.raise_cal (s : State) (m : FaultMsg) : (s.raise m).cal = s.cal := rfl
@[simp] theorem State.raise_time (s : State) (m : FaultMsg) : (s.raise m).time = s.time := rfl
@[simp] theorem State.raise_pl (s : State) (m : FaultMsg) : (s.raise m).pl = s.pl := rfl
@[simp] theorem State.raise_therm (s : State) (m : FaultMsg) : (s.raise m).therm = s.therm := rfl
@[simp] theorem State.raise_pw (s : State) (m : FaultMsg) : (s.raise m).pw = s.pw := rfl
@[simp] theorem State.raise_dust (s : State) (m : FaultMsg) : (s.raise m).dust = s.dust := rfl
@[simp] theorem State.raise_avail (s : State) (m : FaultMsg) : (s.raise m).avail = s.avail := rfl
@[simp] theorem State.raise_boot (s : State) (m : FaultMsg) : (s.raise m).boot = s.boot := rfl
@[simp] theorem State.raise_nor (s : State) (m : FaultMsg) : (s.raise m).nor = s.nor := rfl
@[simp] theorem State.raise_evtLevel (s : State) (m : FaultMsg) : (s.raise m).evtLevel = s.evtLevel := rfl
@[simp] theorem State.raise_evtRise (s : State) (m : FaultMsg) : (s.raise m).evtRise = s.evtRise := rfl
@[simp] theorem State.raise_freeCount (s : State) (m : FaultMsg) : (s.raise m).freeCount = s.freeCount := rfl
@[simp] theorem State.raise_pending (s : State) (m : FaultMsg) : (s.raise m).pending = s.pending := rfl

/-! ### State.endReport -/

@[simp] theorem State.endReport_clk (s : State) (m : FaultMsg) : (s.endReport m).clk = s.clk := rfl
@[simp] theorem State.endReport_reg (s : State) (m : FaultMsg) : (s.endReport m).reg = s.reg := rfl
@[simp] theorem State.endReport_mode (s : State) (m : FaultMsg) : (s.endReport m).mode = s.mode := rfl
@[simp] theorem State.endReport_modeNext (s : State) (m : FaultMsg) : (s.endReport m).modeNext = s.modeNext := rfl
@[simp] theorem State.endReport_power (s : State) (m : FaultMsg) : (s.endReport m).power = s.power := rfl
@[simp] theorem State.endReport_imageApplied (s : State) (m : FaultMsg) : (s.endReport m).imageApplied = s.imageApplied := rfl
@[simp] theorem State.endReport_fabric (s : State) (m : FaultMsg) : (s.endReport m).fabric = s.fabric := rfl
@[simp] theorem State.endReport_route (s : State) (m : FaultMsg) : (s.endReport m).route = s.route := rfl
@[simp] theorem State.endReport_com (s : State) (m : FaultMsg) : (s.endReport m).com = s.com := rfl
@[simp] theorem State.endReport_links (s : State) (m : FaultMsg) : (s.endReport m).links = s.links := rfl
@[simp] theorem State.endReport_sb (s : State) (m : FaultMsg) : (s.endReport m).sb = s.sb := rfl
@[simp] theorem State.endReport_sched (s : State) (m : FaultMsg) : (s.endReport m).sched = s.sched := rfl
@[simp] theorem State.endReport_prot (s : State) (m : FaultMsg) : (s.endReport m).prot = s.prot := rfl
@[simp] theorem State.endReport_faults (s : State) (m : FaultMsg) :
    (s.endReport m).faults = { s.faults with ended := s.faults.ended ++ [m] } := rfl
@[simp] theorem State.endReport_sense (s : State) (m : FaultMsg) : (s.endReport m).sense = s.sense := rfl
@[simp] theorem State.endReport_cap (s : State) (m : FaultMsg) : (s.endReport m).cap = s.cap := rfl
@[simp] theorem State.endReport_hka (s : State) (m : FaultMsg) : (s.endReport m).hka = s.hka := rfl
@[simp] theorem State.endReport_dith (s : State) (m : FaultMsg) : (s.endReport m).dith = s.dith := rfl
@[simp] theorem State.endReport_gens (s : State) (m : FaultMsg) : (s.endReport m).gens = s.gens := rfl
@[simp] theorem State.endReport_loop (s : State) (m : FaultMsg) : (s.endReport m).loop = s.loop := rfl
@[simp] theorem State.endReport_clips (s : State) (m : FaultMsg) : (s.endReport m).clips = s.clips := rfl
@[simp] theorem State.endReport_act (s : State) (m : FaultMsg) : (s.endReport m).act = s.act := rfl
@[simp] theorem State.endReport_cal (s : State) (m : FaultMsg) : (s.endReport m).cal = s.cal := rfl
@[simp] theorem State.endReport_time (s : State) (m : FaultMsg) : (s.endReport m).time = s.time := rfl
@[simp] theorem State.endReport_pl (s : State) (m : FaultMsg) : (s.endReport m).pl = s.pl := rfl
@[simp] theorem State.endReport_therm (s : State) (m : FaultMsg) : (s.endReport m).therm = s.therm := rfl
@[simp] theorem State.endReport_pw (s : State) (m : FaultMsg) : (s.endReport m).pw = s.pw := rfl
@[simp] theorem State.endReport_dust (s : State) (m : FaultMsg) : (s.endReport m).dust = s.dust := rfl
@[simp] theorem State.endReport_avail (s : State) (m : FaultMsg) : (s.endReport m).avail = s.avail := rfl
@[simp] theorem State.endReport_boot (s : State) (m : FaultMsg) : (s.endReport m).boot = s.boot := rfl
@[simp] theorem State.endReport_nor (s : State) (m : FaultMsg) : (s.endReport m).nor = s.nor := rfl
@[simp] theorem State.endReport_evtLevel (s : State) (m : FaultMsg) : (s.endReport m).evtLevel = s.evtLevel := rfl
@[simp] theorem State.endReport_evtRise (s : State) (m : FaultMsg) : (s.endReport m).evtRise = s.evtRise := rfl
@[simp] theorem State.endReport_freeCount (s : State) (m : FaultMsg) : (s.endReport m).freeCount = s.freeCount := rfl
@[simp] theorem State.endReport_pending (s : State) (m : FaultMsg) : (s.endReport m).pending = s.pending := rfl

/-! ### State.setReg -/

@[simp] theorem State.setReg_clk (s : State) (f : RegState → RegState) : (s.setReg f).clk = s.clk := rfl
@[simp] theorem State.setReg_reg (s : State) (f : RegState → RegState) : (s.setReg f).reg = f s.reg := rfl
@[simp] theorem State.setReg_mode (s : State) (f : RegState → RegState) : (s.setReg f).mode = s.mode := rfl
@[simp] theorem State.setReg_modeNext (s : State) (f : RegState → RegState) : (s.setReg f).modeNext = s.modeNext := rfl
@[simp] theorem State.setReg_power (s : State) (f : RegState → RegState) : (s.setReg f).power = s.power := rfl
@[simp] theorem State.setReg_imageApplied (s : State) (f : RegState → RegState) : (s.setReg f).imageApplied = s.imageApplied := rfl
@[simp] theorem State.setReg_fabric (s : State) (f : RegState → RegState) : (s.setReg f).fabric = s.fabric := rfl
@[simp] theorem State.setReg_route (s : State) (f : RegState → RegState) : (s.setReg f).route = s.route := rfl
@[simp] theorem State.setReg_com (s : State) (f : RegState → RegState) : (s.setReg f).com = s.com := rfl
@[simp] theorem State.setReg_links (s : State) (f : RegState → RegState) : (s.setReg f).links = s.links := rfl
@[simp] theorem State.setReg_sb (s : State) (f : RegState → RegState) : (s.setReg f).sb = s.sb := rfl
@[simp] theorem State.setReg_sched (s : State) (f : RegState → RegState) : (s.setReg f).sched = s.sched := rfl
@[simp] theorem State.setReg_prot (s : State) (f : RegState → RegState) : (s.setReg f).prot = s.prot := rfl
@[simp] theorem State.setReg_faults (s : State) (f : RegState → RegState) : (s.setReg f).faults = s.faults := rfl
@[simp] theorem State.setReg_sense (s : State) (f : RegState → RegState) : (s.setReg f).sense = s.sense := rfl
@[simp] theorem State.setReg_cap (s : State) (f : RegState → RegState) : (s.setReg f).cap = s.cap := rfl
@[simp] theorem State.setReg_hka (s : State) (f : RegState → RegState) : (s.setReg f).hka = s.hka := rfl
@[simp] theorem State.setReg_dith (s : State) (f : RegState → RegState) : (s.setReg f).dith = s.dith := rfl
@[simp] theorem State.setReg_gens (s : State) (f : RegState → RegState) : (s.setReg f).gens = s.gens := rfl
@[simp] theorem State.setReg_loop (s : State) (f : RegState → RegState) : (s.setReg f).loop = s.loop := rfl
@[simp] theorem State.setReg_clips (s : State) (f : RegState → RegState) : (s.setReg f).clips = s.clips := rfl
@[simp] theorem State.setReg_act (s : State) (f : RegState → RegState) : (s.setReg f).act = s.act := rfl
@[simp] theorem State.setReg_cal (s : State) (f : RegState → RegState) : (s.setReg f).cal = s.cal := rfl
@[simp] theorem State.setReg_time (s : State) (f : RegState → RegState) : (s.setReg f).time = s.time := rfl
@[simp] theorem State.setReg_pl (s : State) (f : RegState → RegState) : (s.setReg f).pl = s.pl := rfl
@[simp] theorem State.setReg_therm (s : State) (f : RegState → RegState) : (s.setReg f).therm = s.therm := rfl
@[simp] theorem State.setReg_pw (s : State) (f : RegState → RegState) : (s.setReg f).pw = s.pw := rfl
@[simp] theorem State.setReg_dust (s : State) (f : RegState → RegState) : (s.setReg f).dust = s.dust := rfl
@[simp] theorem State.setReg_avail (s : State) (f : RegState → RegState) : (s.setReg f).avail = s.avail := rfl
@[simp] theorem State.setReg_boot (s : State) (f : RegState → RegState) : (s.setReg f).boot = s.boot := rfl
@[simp] theorem State.setReg_nor (s : State) (f : RegState → RegState) : (s.setReg f).nor = s.nor := rfl
@[simp] theorem State.setReg_evtLevel (s : State) (f : RegState → RegState) : (s.setReg f).evtLevel = s.evtLevel := rfl
@[simp] theorem State.setReg_evtRise (s : State) (f : RegState → RegState) : (s.setReg f).evtRise = s.evtRise := rfl
@[simp] theorem State.setReg_freeCount (s : State) (f : RegState → RegState) : (s.setReg f).freeCount = s.freeCount := rfl
@[simp] theorem State.setReg_pending (s : State) (f : RegState → RegState) : (s.setReg f).pending = s.pending := rfl

/-! ### State.setRoute -/

@[simp] theorem State.setRoute_clk (s : State) (f : Route → Route) : (s.setRoute f).clk = s.clk := rfl
@[simp] theorem State.setRoute_reg (s : State) (f : Route → Route) : (s.setRoute f).reg = s.reg := rfl
@[simp] theorem State.setRoute_mode (s : State) (f : Route → Route) : (s.setRoute f).mode = s.mode := rfl
@[simp] theorem State.setRoute_modeNext (s : State) (f : Route → Route) : (s.setRoute f).modeNext = s.modeNext := rfl
@[simp] theorem State.setRoute_power (s : State) (f : Route → Route) : (s.setRoute f).power = s.power := rfl
@[simp] theorem State.setRoute_imageApplied (s : State) (f : Route → Route) : (s.setRoute f).imageApplied = s.imageApplied := rfl
@[simp] theorem State.setRoute_fabric (s : State) (f : Route → Route) : (s.setRoute f).fabric = s.fabric := rfl
@[simp] theorem State.setRoute_route (s : State) (f : Route → Route) : (s.setRoute f).route = f s.route := rfl
@[simp] theorem State.setRoute_com (s : State) (f : Route → Route) : (s.setRoute f).com = s.com := rfl
@[simp] theorem State.setRoute_links (s : State) (f : Route → Route) : (s.setRoute f).links = s.links := rfl
@[simp] theorem State.setRoute_sb (s : State) (f : Route → Route) : (s.setRoute f).sb = s.sb := rfl
@[simp] theorem State.setRoute_sched (s : State) (f : Route → Route) : (s.setRoute f).sched = s.sched := rfl
@[simp] theorem State.setRoute_prot (s : State) (f : Route → Route) : (s.setRoute f).prot = s.prot := rfl
@[simp] theorem State.setRoute_faults (s : State) (f : Route → Route) : (s.setRoute f).faults = s.faults := rfl
@[simp] theorem State.setRoute_sense (s : State) (f : Route → Route) : (s.setRoute f).sense = s.sense := rfl
@[simp] theorem State.setRoute_cap (s : State) (f : Route → Route) : (s.setRoute f).cap = s.cap := rfl
@[simp] theorem State.setRoute_hka (s : State) (f : Route → Route) : (s.setRoute f).hka = s.hka := rfl
@[simp] theorem State.setRoute_dith (s : State) (f : Route → Route) : (s.setRoute f).dith = s.dith := rfl
@[simp] theorem State.setRoute_gens (s : State) (f : Route → Route) : (s.setRoute f).gens = s.gens := rfl
@[simp] theorem State.setRoute_loop (s : State) (f : Route → Route) : (s.setRoute f).loop = s.loop := rfl
@[simp] theorem State.setRoute_clips (s : State) (f : Route → Route) : (s.setRoute f).clips = s.clips := rfl
@[simp] theorem State.setRoute_act (s : State) (f : Route → Route) : (s.setRoute f).act = s.act := rfl
@[simp] theorem State.setRoute_cal (s : State) (f : Route → Route) : (s.setRoute f).cal = s.cal := rfl
@[simp] theorem State.setRoute_time (s : State) (f : Route → Route) : (s.setRoute f).time = s.time := rfl
@[simp] theorem State.setRoute_pl (s : State) (f : Route → Route) : (s.setRoute f).pl = s.pl := rfl
@[simp] theorem State.setRoute_therm (s : State) (f : Route → Route) : (s.setRoute f).therm = s.therm := rfl
@[simp] theorem State.setRoute_pw (s : State) (f : Route → Route) : (s.setRoute f).pw = s.pw := rfl
@[simp] theorem State.setRoute_dust (s : State) (f : Route → Route) : (s.setRoute f).dust = s.dust := rfl
@[simp] theorem State.setRoute_avail (s : State) (f : Route → Route) : (s.setRoute f).avail = s.avail := rfl
@[simp] theorem State.setRoute_boot (s : State) (f : Route → Route) : (s.setRoute f).boot = s.boot := rfl
@[simp] theorem State.setRoute_nor (s : State) (f : Route → Route) : (s.setRoute f).nor = s.nor := rfl
@[simp] theorem State.setRoute_evtLevel (s : State) (f : Route → Route) : (s.setRoute f).evtLevel = s.evtLevel := rfl
@[simp] theorem State.setRoute_evtRise (s : State) (f : Route → Route) : (s.setRoute f).evtRise = s.evtRise := rfl
@[simp] theorem State.setRoute_freeCount (s : State) (f : Route → Route) : (s.setRoute f).freeCount = s.freeCount := rfl
@[simp] theorem State.setRoute_pending (s : State) (f : Route → Route) : (s.setRoute f).pending = s.pending := rfl

/-! ### State.setLinks -/

@[simp] theorem State.setLinks_clk (s : State) (f : Links → Links) : (s.setLinks f).clk = s.clk := rfl
@[simp] theorem State.setLinks_reg (s : State) (f : Links → Links) : (s.setLinks f).reg = s.reg := rfl
@[simp] theorem State.setLinks_mode (s : State) (f : Links → Links) : (s.setLinks f).mode = s.mode := rfl
@[simp] theorem State.setLinks_modeNext (s : State) (f : Links → Links) : (s.setLinks f).modeNext = s.modeNext := rfl
@[simp] theorem State.setLinks_power (s : State) (f : Links → Links) : (s.setLinks f).power = s.power := rfl
@[simp] theorem State.setLinks_imageApplied (s : State) (f : Links → Links) : (s.setLinks f).imageApplied = s.imageApplied := rfl
@[simp] theorem State.setLinks_fabric (s : State) (f : Links → Links) : (s.setLinks f).fabric = s.fabric := rfl
@[simp] theorem State.setLinks_route (s : State) (f : Links → Links) : (s.setLinks f).route = s.route := rfl
@[simp] theorem State.setLinks_com (s : State) (f : Links → Links) : (s.setLinks f).com = s.com := rfl
@[simp] theorem State.setLinks_links (s : State) (f : Links → Links) : (s.setLinks f).links = f s.links := rfl
@[simp] theorem State.setLinks_sb (s : State) (f : Links → Links) : (s.setLinks f).sb = s.sb := rfl
@[simp] theorem State.setLinks_sched (s : State) (f : Links → Links) : (s.setLinks f).sched = s.sched := rfl
@[simp] theorem State.setLinks_prot (s : State) (f : Links → Links) : (s.setLinks f).prot = s.prot := rfl
@[simp] theorem State.setLinks_faults (s : State) (f : Links → Links) : (s.setLinks f).faults = s.faults := rfl
@[simp] theorem State.setLinks_sense (s : State) (f : Links → Links) : (s.setLinks f).sense = s.sense := rfl
@[simp] theorem State.setLinks_cap (s : State) (f : Links → Links) : (s.setLinks f).cap = s.cap := rfl
@[simp] theorem State.setLinks_hka (s : State) (f : Links → Links) : (s.setLinks f).hka = s.hka := rfl
@[simp] theorem State.setLinks_dith (s : State) (f : Links → Links) : (s.setLinks f).dith = s.dith := rfl
@[simp] theorem State.setLinks_gens (s : State) (f : Links → Links) : (s.setLinks f).gens = s.gens := rfl
@[simp] theorem State.setLinks_loop (s : State) (f : Links → Links) : (s.setLinks f).loop = s.loop := rfl
@[simp] theorem State.setLinks_clips (s : State) (f : Links → Links) : (s.setLinks f).clips = s.clips := rfl
@[simp] theorem State.setLinks_act (s : State) (f : Links → Links) : (s.setLinks f).act = s.act := rfl
@[simp] theorem State.setLinks_cal (s : State) (f : Links → Links) : (s.setLinks f).cal = s.cal := rfl
@[simp] theorem State.setLinks_time (s : State) (f : Links → Links) : (s.setLinks f).time = s.time := rfl
@[simp] theorem State.setLinks_pl (s : State) (f : Links → Links) : (s.setLinks f).pl = s.pl := rfl
@[simp] theorem State.setLinks_therm (s : State) (f : Links → Links) : (s.setLinks f).therm = s.therm := rfl
@[simp] theorem State.setLinks_pw (s : State) (f : Links → Links) : (s.setLinks f).pw = s.pw := rfl
@[simp] theorem State.setLinks_dust (s : State) (f : Links → Links) : (s.setLinks f).dust = s.dust := rfl
@[simp] theorem State.setLinks_avail (s : State) (f : Links → Links) : (s.setLinks f).avail = s.avail := rfl
@[simp] theorem State.setLinks_boot (s : State) (f : Links → Links) : (s.setLinks f).boot = s.boot := rfl
@[simp] theorem State.setLinks_nor (s : State) (f : Links → Links) : (s.setLinks f).nor = s.nor := rfl
@[simp] theorem State.setLinks_evtLevel (s : State) (f : Links → Links) : (s.setLinks f).evtLevel = s.evtLevel := rfl
@[simp] theorem State.setLinks_evtRise (s : State) (f : Links → Links) : (s.setLinks f).evtRise = s.evtRise := rfl
@[simp] theorem State.setLinks_freeCount (s : State) (f : Links → Links) : (s.setLinks f).freeCount = s.freeCount := rfl
@[simp] theorem State.setLinks_pending (s : State) (f : Links → Links) : (s.setLinks f).pending = s.pending := rfl

/-! ### State.setSb -/

@[simp] theorem State.setSb_clk (s : State) (f : Sideband → Sideband) : (s.setSb f).clk = s.clk := rfl
@[simp] theorem State.setSb_reg (s : State) (f : Sideband → Sideband) : (s.setSb f).reg = s.reg := rfl
@[simp] theorem State.setSb_mode (s : State) (f : Sideband → Sideband) : (s.setSb f).mode = s.mode := rfl
@[simp] theorem State.setSb_modeNext (s : State) (f : Sideband → Sideband) : (s.setSb f).modeNext = s.modeNext := rfl
@[simp] theorem State.setSb_power (s : State) (f : Sideband → Sideband) : (s.setSb f).power = s.power := rfl
@[simp] theorem State.setSb_imageApplied (s : State) (f : Sideband → Sideband) : (s.setSb f).imageApplied = s.imageApplied := rfl
@[simp] theorem State.setSb_fabric (s : State) (f : Sideband → Sideband) : (s.setSb f).fabric = s.fabric := rfl
@[simp] theorem State.setSb_route (s : State) (f : Sideband → Sideband) : (s.setSb f).route = s.route := rfl
@[simp] theorem State.setSb_com (s : State) (f : Sideband → Sideband) : (s.setSb f).com = s.com := rfl
@[simp] theorem State.setSb_links (s : State) (f : Sideband → Sideband) : (s.setSb f).links = s.links := rfl
@[simp] theorem State.setSb_sb (s : State) (f : Sideband → Sideband) : (s.setSb f).sb = f s.sb := rfl
@[simp] theorem State.setSb_sched (s : State) (f : Sideband → Sideband) : (s.setSb f).sched = s.sched := rfl
@[simp] theorem State.setSb_prot (s : State) (f : Sideband → Sideband) : (s.setSb f).prot = s.prot := rfl
@[simp] theorem State.setSb_faults (s : State) (f : Sideband → Sideband) : (s.setSb f).faults = s.faults := rfl
@[simp] theorem State.setSb_sense (s : State) (f : Sideband → Sideband) : (s.setSb f).sense = s.sense := rfl
@[simp] theorem State.setSb_cap (s : State) (f : Sideband → Sideband) : (s.setSb f).cap = s.cap := rfl
@[simp] theorem State.setSb_hka (s : State) (f : Sideband → Sideband) : (s.setSb f).hka = s.hka := rfl
@[simp] theorem State.setSb_dith (s : State) (f : Sideband → Sideband) : (s.setSb f).dith = s.dith := rfl
@[simp] theorem State.setSb_gens (s : State) (f : Sideband → Sideband) : (s.setSb f).gens = s.gens := rfl
@[simp] theorem State.setSb_loop (s : State) (f : Sideband → Sideband) : (s.setSb f).loop = s.loop := rfl
@[simp] theorem State.setSb_clips (s : State) (f : Sideband → Sideband) : (s.setSb f).clips = s.clips := rfl
@[simp] theorem State.setSb_act (s : State) (f : Sideband → Sideband) : (s.setSb f).act = s.act := rfl
@[simp] theorem State.setSb_cal (s : State) (f : Sideband → Sideband) : (s.setSb f).cal = s.cal := rfl
@[simp] theorem State.setSb_time (s : State) (f : Sideband → Sideband) : (s.setSb f).time = s.time := rfl
@[simp] theorem State.setSb_pl (s : State) (f : Sideband → Sideband) : (s.setSb f).pl = s.pl := rfl
@[simp] theorem State.setSb_therm (s : State) (f : Sideband → Sideband) : (s.setSb f).therm = s.therm := rfl
@[simp] theorem State.setSb_pw (s : State) (f : Sideband → Sideband) : (s.setSb f).pw = s.pw := rfl
@[simp] theorem State.setSb_dust (s : State) (f : Sideband → Sideband) : (s.setSb f).dust = s.dust := rfl
@[simp] theorem State.setSb_avail (s : State) (f : Sideband → Sideband) : (s.setSb f).avail = s.avail := rfl
@[simp] theorem State.setSb_boot (s : State) (f : Sideband → Sideband) : (s.setSb f).boot = s.boot := rfl
@[simp] theorem State.setSb_nor (s : State) (f : Sideband → Sideband) : (s.setSb f).nor = s.nor := rfl
@[simp] theorem State.setSb_evtLevel (s : State) (f : Sideband → Sideband) : (s.setSb f).evtLevel = s.evtLevel := rfl
@[simp] theorem State.setSb_evtRise (s : State) (f : Sideband → Sideband) : (s.setSb f).evtRise = s.evtRise := rfl
@[simp] theorem State.setSb_freeCount (s : State) (f : Sideband → Sideband) : (s.setSb f).freeCount = s.freeCount := rfl
@[simp] theorem State.setSb_pending (s : State) (f : Sideband → Sideband) : (s.setSb f).pending = s.pending := rfl

/-! ### State.setSched -/

@[simp] theorem State.setSched_clk (s : State) (f : Sched → Sched) : (s.setSched f).clk = s.clk := rfl
@[simp] theorem State.setSched_reg (s : State) (f : Sched → Sched) : (s.setSched f).reg = s.reg := rfl
@[simp] theorem State.setSched_mode (s : State) (f : Sched → Sched) : (s.setSched f).mode = s.mode := rfl
@[simp] theorem State.setSched_modeNext (s : State) (f : Sched → Sched) : (s.setSched f).modeNext = s.modeNext := rfl
@[simp] theorem State.setSched_power (s : State) (f : Sched → Sched) : (s.setSched f).power = s.power := rfl
@[simp] theorem State.setSched_imageApplied (s : State) (f : Sched → Sched) : (s.setSched f).imageApplied = s.imageApplied := rfl
@[simp] theorem State.setSched_fabric (s : State) (f : Sched → Sched) : (s.setSched f).fabric = s.fabric := rfl
@[simp] theorem State.setSched_route (s : State) (f : Sched → Sched) : (s.setSched f).route = s.route := rfl
@[simp] theorem State.setSched_com (s : State) (f : Sched → Sched) : (s.setSched f).com = s.com := rfl
@[simp] theorem State.setSched_links (s : State) (f : Sched → Sched) : (s.setSched f).links = s.links := rfl
@[simp] theorem State.setSched_sb (s : State) (f : Sched → Sched) : (s.setSched f).sb = s.sb := rfl
@[simp] theorem State.setSched_sched (s : State) (f : Sched → Sched) : (s.setSched f).sched = f s.sched := rfl
@[simp] theorem State.setSched_prot (s : State) (f : Sched → Sched) : (s.setSched f).prot = s.prot := rfl
@[simp] theorem State.setSched_faults (s : State) (f : Sched → Sched) : (s.setSched f).faults = s.faults := rfl
@[simp] theorem State.setSched_sense (s : State) (f : Sched → Sched) : (s.setSched f).sense = s.sense := rfl
@[simp] theorem State.setSched_cap (s : State) (f : Sched → Sched) : (s.setSched f).cap = s.cap := rfl
@[simp] theorem State.setSched_hka (s : State) (f : Sched → Sched) : (s.setSched f).hka = s.hka := rfl
@[simp] theorem State.setSched_dith (s : State) (f : Sched → Sched) : (s.setSched f).dith = s.dith := rfl
@[simp] theorem State.setSched_gens (s : State) (f : Sched → Sched) : (s.setSched f).gens = s.gens := rfl
@[simp] theorem State.setSched_loop (s : State) (f : Sched → Sched) : (s.setSched f).loop = s.loop := rfl
@[simp] theorem State.setSched_clips (s : State) (f : Sched → Sched) : (s.setSched f).clips = s.clips := rfl
@[simp] theorem State.setSched_act (s : State) (f : Sched → Sched) : (s.setSched f).act = s.act := rfl
@[simp] theorem State.setSched_cal (s : State) (f : Sched → Sched) : (s.setSched f).cal = s.cal := rfl
@[simp] theorem State.setSched_time (s : State) (f : Sched → Sched) : (s.setSched f).time = s.time := rfl
@[simp] theorem State.setSched_pl (s : State) (f : Sched → Sched) : (s.setSched f).pl = s.pl := rfl
@[simp] theorem State.setSched_therm (s : State) (f : Sched → Sched) : (s.setSched f).therm = s.therm := rfl
@[simp] theorem State.setSched_pw (s : State) (f : Sched → Sched) : (s.setSched f).pw = s.pw := rfl
@[simp] theorem State.setSched_dust (s : State) (f : Sched → Sched) : (s.setSched f).dust = s.dust := rfl
@[simp] theorem State.setSched_avail (s : State) (f : Sched → Sched) : (s.setSched f).avail = s.avail := rfl
@[simp] theorem State.setSched_boot (s : State) (f : Sched → Sched) : (s.setSched f).boot = s.boot := rfl
@[simp] theorem State.setSched_nor (s : State) (f : Sched → Sched) : (s.setSched f).nor = s.nor := rfl
@[simp] theorem State.setSched_evtLevel (s : State) (f : Sched → Sched) : (s.setSched f).evtLevel = s.evtLevel := rfl
@[simp] theorem State.setSched_evtRise (s : State) (f : Sched → Sched) : (s.setSched f).evtRise = s.evtRise := rfl
@[simp] theorem State.setSched_freeCount (s : State) (f : Sched → Sched) : (s.setSched f).freeCount = s.freeCount := rfl
@[simp] theorem State.setSched_pending (s : State) (f : Sched → Sched) : (s.setSched f).pending = s.pending := rfl

/-! ### State.setProt -/

@[simp] theorem State.setProt_clk (s : State) (f : Protect → Protect) : (s.setProt f).clk = s.clk := rfl
@[simp] theorem State.setProt_reg (s : State) (f : Protect → Protect) : (s.setProt f).reg = s.reg := rfl
@[simp] theorem State.setProt_mode (s : State) (f : Protect → Protect) : (s.setProt f).mode = s.mode := rfl
@[simp] theorem State.setProt_modeNext (s : State) (f : Protect → Protect) : (s.setProt f).modeNext = s.modeNext := rfl
@[simp] theorem State.setProt_power (s : State) (f : Protect → Protect) : (s.setProt f).power = s.power := rfl
@[simp] theorem State.setProt_imageApplied (s : State) (f : Protect → Protect) : (s.setProt f).imageApplied = s.imageApplied := rfl
@[simp] theorem State.setProt_fabric (s : State) (f : Protect → Protect) : (s.setProt f).fabric = s.fabric := rfl
@[simp] theorem State.setProt_route (s : State) (f : Protect → Protect) : (s.setProt f).route = s.route := rfl
@[simp] theorem State.setProt_com (s : State) (f : Protect → Protect) : (s.setProt f).com = s.com := rfl
@[simp] theorem State.setProt_links (s : State) (f : Protect → Protect) : (s.setProt f).links = s.links := rfl
@[simp] theorem State.setProt_sb (s : State) (f : Protect → Protect) : (s.setProt f).sb = s.sb := rfl
@[simp] theorem State.setProt_sched (s : State) (f : Protect → Protect) : (s.setProt f).sched = s.sched := rfl
@[simp] theorem State.setProt_prot (s : State) (f : Protect → Protect) : (s.setProt f).prot = f s.prot := rfl
@[simp] theorem State.setProt_faults (s : State) (f : Protect → Protect) : (s.setProt f).faults = s.faults := rfl
@[simp] theorem State.setProt_sense (s : State) (f : Protect → Protect) : (s.setProt f).sense = s.sense := rfl
@[simp] theorem State.setProt_cap (s : State) (f : Protect → Protect) : (s.setProt f).cap = s.cap := rfl
@[simp] theorem State.setProt_hka (s : State) (f : Protect → Protect) : (s.setProt f).hka = s.hka := rfl
@[simp] theorem State.setProt_dith (s : State) (f : Protect → Protect) : (s.setProt f).dith = s.dith := rfl
@[simp] theorem State.setProt_gens (s : State) (f : Protect → Protect) : (s.setProt f).gens = s.gens := rfl
@[simp] theorem State.setProt_loop (s : State) (f : Protect → Protect) : (s.setProt f).loop = s.loop := rfl
@[simp] theorem State.setProt_clips (s : State) (f : Protect → Protect) : (s.setProt f).clips = s.clips := rfl
@[simp] theorem State.setProt_act (s : State) (f : Protect → Protect) : (s.setProt f).act = s.act := rfl
@[simp] theorem State.setProt_cal (s : State) (f : Protect → Protect) : (s.setProt f).cal = s.cal := rfl
@[simp] theorem State.setProt_time (s : State) (f : Protect → Protect) : (s.setProt f).time = s.time := rfl
@[simp] theorem State.setProt_pl (s : State) (f : Protect → Protect) : (s.setProt f).pl = s.pl := rfl
@[simp] theorem State.setProt_therm (s : State) (f : Protect → Protect) : (s.setProt f).therm = s.therm := rfl
@[simp] theorem State.setProt_pw (s : State) (f : Protect → Protect) : (s.setProt f).pw = s.pw := rfl
@[simp] theorem State.setProt_dust (s : State) (f : Protect → Protect) : (s.setProt f).dust = s.dust := rfl
@[simp] theorem State.setProt_avail (s : State) (f : Protect → Protect) : (s.setProt f).avail = s.avail := rfl
@[simp] theorem State.setProt_boot (s : State) (f : Protect → Protect) : (s.setProt f).boot = s.boot := rfl
@[simp] theorem State.setProt_nor (s : State) (f : Protect → Protect) : (s.setProt f).nor = s.nor := rfl
@[simp] theorem State.setProt_evtLevel (s : State) (f : Protect → Protect) : (s.setProt f).evtLevel = s.evtLevel := rfl
@[simp] theorem State.setProt_evtRise (s : State) (f : Protect → Protect) : (s.setProt f).evtRise = s.evtRise := rfl
@[simp] theorem State.setProt_freeCount (s : State) (f : Protect → Protect) : (s.setProt f).freeCount = s.freeCount := rfl
@[simp] theorem State.setProt_pending (s : State) (f : Protect → Protect) : (s.setProt f).pending = s.pending := rfl

/-! ### State.setHka -/

@[simp] theorem State.setHka_clk (s : State) (f : Hka → Hka) : (s.setHka f).clk = s.clk := rfl
@[simp] theorem State.setHka_reg (s : State) (f : Hka → Hka) : (s.setHka f).reg = s.reg := rfl
@[simp] theorem State.setHka_mode (s : State) (f : Hka → Hka) : (s.setHka f).mode = s.mode := rfl
@[simp] theorem State.setHka_modeNext (s : State) (f : Hka → Hka) : (s.setHka f).modeNext = s.modeNext := rfl
@[simp] theorem State.setHka_power (s : State) (f : Hka → Hka) : (s.setHka f).power = s.power := rfl
@[simp] theorem State.setHka_imageApplied (s : State) (f : Hka → Hka) : (s.setHka f).imageApplied = s.imageApplied := rfl
@[simp] theorem State.setHka_fabric (s : State) (f : Hka → Hka) : (s.setHka f).fabric = s.fabric := rfl
@[simp] theorem State.setHka_route (s : State) (f : Hka → Hka) : (s.setHka f).route = s.route := rfl
@[simp] theorem State.setHka_com (s : State) (f : Hka → Hka) : (s.setHka f).com = s.com := rfl
@[simp] theorem State.setHka_links (s : State) (f : Hka → Hka) : (s.setHka f).links = s.links := rfl
@[simp] theorem State.setHka_sb (s : State) (f : Hka → Hka) : (s.setHka f).sb = s.sb := rfl
@[simp] theorem State.setHka_sched (s : State) (f : Hka → Hka) : (s.setHka f).sched = s.sched := rfl
@[simp] theorem State.setHka_prot (s : State) (f : Hka → Hka) : (s.setHka f).prot = s.prot := rfl
@[simp] theorem State.setHka_faults (s : State) (f : Hka → Hka) : (s.setHka f).faults = s.faults := rfl
@[simp] theorem State.setHka_sense (s : State) (f : Hka → Hka) : (s.setHka f).sense = s.sense := rfl
@[simp] theorem State.setHka_cap (s : State) (f : Hka → Hka) : (s.setHka f).cap = s.cap := rfl
@[simp] theorem State.setHka_hka (s : State) (f : Hka → Hka) : (s.setHka f).hka = f s.hka := rfl
@[simp] theorem State.setHka_dith (s : State) (f : Hka → Hka) : (s.setHka f).dith = s.dith := rfl
@[simp] theorem State.setHka_gens (s : State) (f : Hka → Hka) : (s.setHka f).gens = s.gens := rfl
@[simp] theorem State.setHka_loop (s : State) (f : Hka → Hka) : (s.setHka f).loop = s.loop := rfl
@[simp] theorem State.setHka_clips (s : State) (f : Hka → Hka) : (s.setHka f).clips = s.clips := rfl
@[simp] theorem State.setHka_act (s : State) (f : Hka → Hka) : (s.setHka f).act = s.act := rfl
@[simp] theorem State.setHka_cal (s : State) (f : Hka → Hka) : (s.setHka f).cal = s.cal := rfl
@[simp] theorem State.setHka_time (s : State) (f : Hka → Hka) : (s.setHka f).time = s.time := rfl
@[simp] theorem State.setHka_pl (s : State) (f : Hka → Hka) : (s.setHka f).pl = s.pl := rfl
@[simp] theorem State.setHka_therm (s : State) (f : Hka → Hka) : (s.setHka f).therm = s.therm := rfl
@[simp] theorem State.setHka_pw (s : State) (f : Hka → Hka) : (s.setHka f).pw = s.pw := rfl
@[simp] theorem State.setHka_dust (s : State) (f : Hka → Hka) : (s.setHka f).dust = s.dust := rfl
@[simp] theorem State.setHka_avail (s : State) (f : Hka → Hka) : (s.setHka f).avail = s.avail := rfl
@[simp] theorem State.setHka_boot (s : State) (f : Hka → Hka) : (s.setHka f).boot = s.boot := rfl
@[simp] theorem State.setHka_nor (s : State) (f : Hka → Hka) : (s.setHka f).nor = s.nor := rfl
@[simp] theorem State.setHka_evtLevel (s : State) (f : Hka → Hka) : (s.setHka f).evtLevel = s.evtLevel := rfl
@[simp] theorem State.setHka_evtRise (s : State) (f : Hka → Hka) : (s.setHka f).evtRise = s.evtRise := rfl
@[simp] theorem State.setHka_freeCount (s : State) (f : Hka → Hka) : (s.setHka f).freeCount = s.freeCount := rfl
@[simp] theorem State.setHka_pending (s : State) (f : Hka → Hka) : (s.setHka f).pending = s.pending := rfl

/-! ### State.setLoop -/

@[simp] theorem State.setLoop_clk (s : State) (f : Loop → Loop) : (s.setLoop f).clk = s.clk := rfl
@[simp] theorem State.setLoop_reg (s : State) (f : Loop → Loop) : (s.setLoop f).reg = s.reg := rfl
@[simp] theorem State.setLoop_mode (s : State) (f : Loop → Loop) : (s.setLoop f).mode = s.mode := rfl
@[simp] theorem State.setLoop_modeNext (s : State) (f : Loop → Loop) : (s.setLoop f).modeNext = s.modeNext := rfl
@[simp] theorem State.setLoop_power (s : State) (f : Loop → Loop) : (s.setLoop f).power = s.power := rfl
@[simp] theorem State.setLoop_imageApplied (s : State) (f : Loop → Loop) : (s.setLoop f).imageApplied = s.imageApplied := rfl
@[simp] theorem State.setLoop_fabric (s : State) (f : Loop → Loop) : (s.setLoop f).fabric = s.fabric := rfl
@[simp] theorem State.setLoop_route (s : State) (f : Loop → Loop) : (s.setLoop f).route = s.route := rfl
@[simp] theorem State.setLoop_com (s : State) (f : Loop → Loop) : (s.setLoop f).com = s.com := rfl
@[simp] theorem State.setLoop_links (s : State) (f : Loop → Loop) : (s.setLoop f).links = s.links := rfl
@[simp] theorem State.setLoop_sb (s : State) (f : Loop → Loop) : (s.setLoop f).sb = s.sb := rfl
@[simp] theorem State.setLoop_sched (s : State) (f : Loop → Loop) : (s.setLoop f).sched = s.sched := rfl
@[simp] theorem State.setLoop_prot (s : State) (f : Loop → Loop) : (s.setLoop f).prot = s.prot := rfl
@[simp] theorem State.setLoop_faults (s : State) (f : Loop → Loop) : (s.setLoop f).faults = s.faults := rfl
@[simp] theorem State.setLoop_sense (s : State) (f : Loop → Loop) : (s.setLoop f).sense = s.sense := rfl
@[simp] theorem State.setLoop_cap (s : State) (f : Loop → Loop) : (s.setLoop f).cap = s.cap := rfl
@[simp] theorem State.setLoop_hka (s : State) (f : Loop → Loop) : (s.setLoop f).hka = s.hka := rfl
@[simp] theorem State.setLoop_dith (s : State) (f : Loop → Loop) : (s.setLoop f).dith = s.dith := rfl
@[simp] theorem State.setLoop_gens (s : State) (f : Loop → Loop) : (s.setLoop f).gens = s.gens := rfl
@[simp] theorem State.setLoop_loop (s : State) (f : Loop → Loop) : (s.setLoop f).loop = f s.loop := rfl
@[simp] theorem State.setLoop_clips (s : State) (f : Loop → Loop) : (s.setLoop f).clips = s.clips := rfl
@[simp] theorem State.setLoop_act (s : State) (f : Loop → Loop) : (s.setLoop f).act = s.act := rfl
@[simp] theorem State.setLoop_cal (s : State) (f : Loop → Loop) : (s.setLoop f).cal = s.cal := rfl
@[simp] theorem State.setLoop_time (s : State) (f : Loop → Loop) : (s.setLoop f).time = s.time := rfl
@[simp] theorem State.setLoop_pl (s : State) (f : Loop → Loop) : (s.setLoop f).pl = s.pl := rfl
@[simp] theorem State.setLoop_therm (s : State) (f : Loop → Loop) : (s.setLoop f).therm = s.therm := rfl
@[simp] theorem State.setLoop_pw (s : State) (f : Loop → Loop) : (s.setLoop f).pw = s.pw := rfl
@[simp] theorem State.setLoop_dust (s : State) (f : Loop → Loop) : (s.setLoop f).dust = s.dust := rfl
@[simp] theorem State.setLoop_avail (s : State) (f : Loop → Loop) : (s.setLoop f).avail = s.avail := rfl
@[simp] theorem State.setLoop_boot (s : State) (f : Loop → Loop) : (s.setLoop f).boot = s.boot := rfl
@[simp] theorem State.setLoop_nor (s : State) (f : Loop → Loop) : (s.setLoop f).nor = s.nor := rfl
@[simp] theorem State.setLoop_evtLevel (s : State) (f : Loop → Loop) : (s.setLoop f).evtLevel = s.evtLevel := rfl
@[simp] theorem State.setLoop_evtRise (s : State) (f : Loop → Loop) : (s.setLoop f).evtRise = s.evtRise := rfl
@[simp] theorem State.setLoop_freeCount (s : State) (f : Loop → Loop) : (s.setLoop f).freeCount = s.freeCount := rfl
@[simp] theorem State.setLoop_pending (s : State) (f : Loop → Loop) : (s.setLoop f).pending = s.pending := rfl

/-! ### State.setAct -/

@[simp] theorem State.setAct_clk (s : State) (f : Act → Act) : (s.setAct f).clk = s.clk := rfl
@[simp] theorem State.setAct_reg (s : State) (f : Act → Act) : (s.setAct f).reg = s.reg := rfl
@[simp] theorem State.setAct_mode (s : State) (f : Act → Act) : (s.setAct f).mode = s.mode := rfl
@[simp] theorem State.setAct_modeNext (s : State) (f : Act → Act) : (s.setAct f).modeNext = s.modeNext := rfl
@[simp] theorem State.setAct_power (s : State) (f : Act → Act) : (s.setAct f).power = s.power := rfl
@[simp] theorem State.setAct_imageApplied (s : State) (f : Act → Act) : (s.setAct f).imageApplied = s.imageApplied := rfl
@[simp] theorem State.setAct_fabric (s : State) (f : Act → Act) : (s.setAct f).fabric = s.fabric := rfl
@[simp] theorem State.setAct_route (s : State) (f : Act → Act) : (s.setAct f).route = s.route := rfl
@[simp] theorem State.setAct_com (s : State) (f : Act → Act) : (s.setAct f).com = s.com := rfl
@[simp] theorem State.setAct_links (s : State) (f : Act → Act) : (s.setAct f).links = s.links := rfl
@[simp] theorem State.setAct_sb (s : State) (f : Act → Act) : (s.setAct f).sb = s.sb := rfl
@[simp] theorem State.setAct_sched (s : State) (f : Act → Act) : (s.setAct f).sched = s.sched := rfl
@[simp] theorem State.setAct_prot (s : State) (f : Act → Act) : (s.setAct f).prot = s.prot := rfl
@[simp] theorem State.setAct_faults (s : State) (f : Act → Act) : (s.setAct f).faults = s.faults := rfl
@[simp] theorem State.setAct_sense (s : State) (f : Act → Act) : (s.setAct f).sense = s.sense := rfl
@[simp] theorem State.setAct_cap (s : State) (f : Act → Act) : (s.setAct f).cap = s.cap := rfl
@[simp] theorem State.setAct_hka (s : State) (f : Act → Act) : (s.setAct f).hka = s.hka := rfl
@[simp] theorem State.setAct_dith (s : State) (f : Act → Act) : (s.setAct f).dith = s.dith := rfl
@[simp] theorem State.setAct_gens (s : State) (f : Act → Act) : (s.setAct f).gens = s.gens := rfl
@[simp] theorem State.setAct_loop (s : State) (f : Act → Act) : (s.setAct f).loop = s.loop := rfl
@[simp] theorem State.setAct_clips (s : State) (f : Act → Act) : (s.setAct f).clips = s.clips := rfl
@[simp] theorem State.setAct_act (s : State) (f : Act → Act) : (s.setAct f).act = f s.act := rfl
@[simp] theorem State.setAct_cal (s : State) (f : Act → Act) : (s.setAct f).cal = s.cal := rfl
@[simp] theorem State.setAct_time (s : State) (f : Act → Act) : (s.setAct f).time = s.time := rfl
@[simp] theorem State.setAct_pl (s : State) (f : Act → Act) : (s.setAct f).pl = s.pl := rfl
@[simp] theorem State.setAct_therm (s : State) (f : Act → Act) : (s.setAct f).therm = s.therm := rfl
@[simp] theorem State.setAct_pw (s : State) (f : Act → Act) : (s.setAct f).pw = s.pw := rfl
@[simp] theorem State.setAct_dust (s : State) (f : Act → Act) : (s.setAct f).dust = s.dust := rfl
@[simp] theorem State.setAct_avail (s : State) (f : Act → Act) : (s.setAct f).avail = s.avail := rfl
@[simp] theorem State.setAct_boot (s : State) (f : Act → Act) : (s.setAct f).boot = s.boot := rfl
@[simp] theorem State.setAct_nor (s : State) (f : Act → Act) : (s.setAct f).nor = s.nor := rfl
@[simp] theorem State.setAct_evtLevel (s : State) (f : Act → Act) : (s.setAct f).evtLevel = s.evtLevel := rfl
@[simp] theorem State.setAct_evtRise (s : State) (f : Act → Act) : (s.setAct f).evtRise = s.evtRise := rfl
@[simp] theorem State.setAct_freeCount (s : State) (f : Act → Act) : (s.setAct f).freeCount = s.freeCount := rfl
@[simp] theorem State.setAct_pending (s : State) (f : Act → Act) : (s.setAct f).pending = s.pending := rfl

/-! ### State.setTime -/

@[simp] theorem State.setTime_clk (s : State) (f : Time → Time) : (s.setTime f).clk = s.clk := rfl
@[simp] theorem State.setTime_reg (s : State) (f : Time → Time) : (s.setTime f).reg = s.reg := rfl
@[simp] theorem State.setTime_mode (s : State) (f : Time → Time) : (s.setTime f).mode = s.mode := rfl
@[simp] theorem State.setTime_modeNext (s : State) (f : Time → Time) : (s.setTime f).modeNext = s.modeNext := rfl
@[simp] theorem State.setTime_power (s : State) (f : Time → Time) : (s.setTime f).power = s.power := rfl
@[simp] theorem State.setTime_imageApplied (s : State) (f : Time → Time) : (s.setTime f).imageApplied = s.imageApplied := rfl
@[simp] theorem State.setTime_fabric (s : State) (f : Time → Time) : (s.setTime f).fabric = s.fabric := rfl
@[simp] theorem State.setTime_route (s : State) (f : Time → Time) : (s.setTime f).route = s.route := rfl
@[simp] theorem State.setTime_com (s : State) (f : Time → Time) : (s.setTime f).com = s.com := rfl
@[simp] theorem State.setTime_links (s : State) (f : Time → Time) : (s.setTime f).links = s.links := rfl
@[simp] theorem State.setTime_sb (s : State) (f : Time → Time) : (s.setTime f).sb = s.sb := rfl
@[simp] theorem State.setTime_sched (s : State) (f : Time → Time) : (s.setTime f).sched = s.sched := rfl
@[simp] theorem State.setTime_prot (s : State) (f : Time → Time) : (s.setTime f).prot = s.prot := rfl
@[simp] theorem State.setTime_faults (s : State) (f : Time → Time) : (s.setTime f).faults = s.faults := rfl
@[simp] theorem State.setTime_sense (s : State) (f : Time → Time) : (s.setTime f).sense = s.sense := rfl
@[simp] theorem State.setTime_cap (s : State) (f : Time → Time) : (s.setTime f).cap = s.cap := rfl
@[simp] theorem State.setTime_hka (s : State) (f : Time → Time) : (s.setTime f).hka = s.hka := rfl
@[simp] theorem State.setTime_dith (s : State) (f : Time → Time) : (s.setTime f).dith = s.dith := rfl
@[simp] theorem State.setTime_gens (s : State) (f : Time → Time) : (s.setTime f).gens = s.gens := rfl
@[simp] theorem State.setTime_loop (s : State) (f : Time → Time) : (s.setTime f).loop = s.loop := rfl
@[simp] theorem State.setTime_clips (s : State) (f : Time → Time) : (s.setTime f).clips = s.clips := rfl
@[simp] theorem State.setTime_act (s : State) (f : Time → Time) : (s.setTime f).act = s.act := rfl
@[simp] theorem State.setTime_cal (s : State) (f : Time → Time) : (s.setTime f).cal = s.cal := rfl
@[simp] theorem State.setTime_time (s : State) (f : Time → Time) : (s.setTime f).time = f s.time := rfl
@[simp] theorem State.setTime_pl (s : State) (f : Time → Time) : (s.setTime f).pl = s.pl := rfl
@[simp] theorem State.setTime_therm (s : State) (f : Time → Time) : (s.setTime f).therm = s.therm := rfl
@[simp] theorem State.setTime_pw (s : State) (f : Time → Time) : (s.setTime f).pw = s.pw := rfl
@[simp] theorem State.setTime_dust (s : State) (f : Time → Time) : (s.setTime f).dust = s.dust := rfl
@[simp] theorem State.setTime_avail (s : State) (f : Time → Time) : (s.setTime f).avail = s.avail := rfl
@[simp] theorem State.setTime_boot (s : State) (f : Time → Time) : (s.setTime f).boot = s.boot := rfl
@[simp] theorem State.setTime_nor (s : State) (f : Time → Time) : (s.setTime f).nor = s.nor := rfl
@[simp] theorem State.setTime_evtLevel (s : State) (f : Time → Time) : (s.setTime f).evtLevel = s.evtLevel := rfl
@[simp] theorem State.setTime_evtRise (s : State) (f : Time → Time) : (s.setTime f).evtRise = s.evtRise := rfl
@[simp] theorem State.setTime_freeCount (s : State) (f : Time → Time) : (s.setTime f).freeCount = s.freeCount := rfl
@[simp] theorem State.setTime_pending (s : State) (f : Time → Time) : (s.setTime f).pending = s.pending := rfl

/-! ### State.setPl -/

@[simp] theorem State.setPl_clk (s : State) (f : PlaneSt → PlaneSt) : (s.setPl f).clk = s.clk := rfl
@[simp] theorem State.setPl_reg (s : State) (f : PlaneSt → PlaneSt) : (s.setPl f).reg = s.reg := rfl
@[simp] theorem State.setPl_mode (s : State) (f : PlaneSt → PlaneSt) : (s.setPl f).mode = s.mode := rfl
@[simp] theorem State.setPl_modeNext (s : State) (f : PlaneSt → PlaneSt) : (s.setPl f).modeNext = s.modeNext := rfl
@[simp] theorem State.setPl_power (s : State) (f : PlaneSt → PlaneSt) : (s.setPl f).power = s.power := rfl
@[simp] theorem State.setPl_imageApplied (s : State) (f : PlaneSt → PlaneSt) : (s.setPl f).imageApplied = s.imageApplied := rfl
@[simp] theorem State.setPl_fabric (s : State) (f : PlaneSt → PlaneSt) : (s.setPl f).fabric = s.fabric := rfl
@[simp] theorem State.setPl_route (s : State) (f : PlaneSt → PlaneSt) : (s.setPl f).route = s.route := rfl
@[simp] theorem State.setPl_com (s : State) (f : PlaneSt → PlaneSt) : (s.setPl f).com = s.com := rfl
@[simp] theorem State.setPl_links (s : State) (f : PlaneSt → PlaneSt) : (s.setPl f).links = s.links := rfl
@[simp] theorem State.setPl_sb (s : State) (f : PlaneSt → PlaneSt) : (s.setPl f).sb = s.sb := rfl
@[simp] theorem State.setPl_sched (s : State) (f : PlaneSt → PlaneSt) : (s.setPl f).sched = s.sched := rfl
@[simp] theorem State.setPl_prot (s : State) (f : PlaneSt → PlaneSt) : (s.setPl f).prot = s.prot := rfl
@[simp] theorem State.setPl_faults (s : State) (f : PlaneSt → PlaneSt) : (s.setPl f).faults = s.faults := rfl
@[simp] theorem State.setPl_sense (s : State) (f : PlaneSt → PlaneSt) : (s.setPl f).sense = s.sense := rfl
@[simp] theorem State.setPl_cap (s : State) (f : PlaneSt → PlaneSt) : (s.setPl f).cap = s.cap := rfl
@[simp] theorem State.setPl_hka (s : State) (f : PlaneSt → PlaneSt) : (s.setPl f).hka = s.hka := rfl
@[simp] theorem State.setPl_dith (s : State) (f : PlaneSt → PlaneSt) : (s.setPl f).dith = s.dith := rfl
@[simp] theorem State.setPl_gens (s : State) (f : PlaneSt → PlaneSt) : (s.setPl f).gens = s.gens := rfl
@[simp] theorem State.setPl_loop (s : State) (f : PlaneSt → PlaneSt) : (s.setPl f).loop = s.loop := rfl
@[simp] theorem State.setPl_clips (s : State) (f : PlaneSt → PlaneSt) : (s.setPl f).clips = s.clips := rfl
@[simp] theorem State.setPl_act (s : State) (f : PlaneSt → PlaneSt) : (s.setPl f).act = s.act := rfl
@[simp] theorem State.setPl_cal (s : State) (f : PlaneSt → PlaneSt) : (s.setPl f).cal = s.cal := rfl
@[simp] theorem State.setPl_time (s : State) (f : PlaneSt → PlaneSt) : (s.setPl f).time = s.time := rfl
@[simp] theorem State.setPl_pl (s : State) (f : PlaneSt → PlaneSt) : (s.setPl f).pl = f s.pl := rfl
@[simp] theorem State.setPl_therm (s : State) (f : PlaneSt → PlaneSt) : (s.setPl f).therm = s.therm := rfl
@[simp] theorem State.setPl_pw (s : State) (f : PlaneSt → PlaneSt) : (s.setPl f).pw = s.pw := rfl
@[simp] theorem State.setPl_dust (s : State) (f : PlaneSt → PlaneSt) : (s.setPl f).dust = s.dust := rfl
@[simp] theorem State.setPl_avail (s : State) (f : PlaneSt → PlaneSt) : (s.setPl f).avail = s.avail := rfl
@[simp] theorem State.setPl_boot (s : State) (f : PlaneSt → PlaneSt) : (s.setPl f).boot = s.boot := rfl
@[simp] theorem State.setPl_nor (s : State) (f : PlaneSt → PlaneSt) : (s.setPl f).nor = s.nor := rfl
@[simp] theorem State.setPl_evtLevel (s : State) (f : PlaneSt → PlaneSt) : (s.setPl f).evtLevel = s.evtLevel := rfl
@[simp] theorem State.setPl_evtRise (s : State) (f : PlaneSt → PlaneSt) : (s.setPl f).evtRise = s.evtRise := rfl
@[simp] theorem State.setPl_freeCount (s : State) (f : PlaneSt → PlaneSt) : (s.setPl f).freeCount = s.freeCount := rfl
@[simp] theorem State.setPl_pending (s : State) (f : PlaneSt → PlaneSt) : (s.setPl f).pending = s.pending := rfl

/-! ### State.setTherm -/

@[simp] theorem State.setTherm_clk (s : State) (f : Thermal → Thermal) : (s.setTherm f).clk = s.clk := rfl
@[simp] theorem State.setTherm_reg (s : State) (f : Thermal → Thermal) : (s.setTherm f).reg = s.reg := rfl
@[simp] theorem State.setTherm_mode (s : State) (f : Thermal → Thermal) : (s.setTherm f).mode = s.mode := rfl
@[simp] theorem State.setTherm_modeNext (s : State) (f : Thermal → Thermal) : (s.setTherm f).modeNext = s.modeNext := rfl
@[simp] theorem State.setTherm_power (s : State) (f : Thermal → Thermal) : (s.setTherm f).power = s.power := rfl
@[simp] theorem State.setTherm_imageApplied (s : State) (f : Thermal → Thermal) : (s.setTherm f).imageApplied = s.imageApplied := rfl
@[simp] theorem State.setTherm_fabric (s : State) (f : Thermal → Thermal) : (s.setTherm f).fabric = s.fabric := rfl
@[simp] theorem State.setTherm_route (s : State) (f : Thermal → Thermal) : (s.setTherm f).route = s.route := rfl
@[simp] theorem State.setTherm_com (s : State) (f : Thermal → Thermal) : (s.setTherm f).com = s.com := rfl
@[simp] theorem State.setTherm_links (s : State) (f : Thermal → Thermal) : (s.setTherm f).links = s.links := rfl
@[simp] theorem State.setTherm_sb (s : State) (f : Thermal → Thermal) : (s.setTherm f).sb = s.sb := rfl
@[simp] theorem State.setTherm_sched (s : State) (f : Thermal → Thermal) : (s.setTherm f).sched = s.sched := rfl
@[simp] theorem State.setTherm_prot (s : State) (f : Thermal → Thermal) : (s.setTherm f).prot = s.prot := rfl
@[simp] theorem State.setTherm_faults (s : State) (f : Thermal → Thermal) : (s.setTherm f).faults = s.faults := rfl
@[simp] theorem State.setTherm_sense (s : State) (f : Thermal → Thermal) : (s.setTherm f).sense = s.sense := rfl
@[simp] theorem State.setTherm_cap (s : State) (f : Thermal → Thermal) : (s.setTherm f).cap = s.cap := rfl
@[simp] theorem State.setTherm_hka (s : State) (f : Thermal → Thermal) : (s.setTherm f).hka = s.hka := rfl
@[simp] theorem State.setTherm_dith (s : State) (f : Thermal → Thermal) : (s.setTherm f).dith = s.dith := rfl
@[simp] theorem State.setTherm_gens (s : State) (f : Thermal → Thermal) : (s.setTherm f).gens = s.gens := rfl
@[simp] theorem State.setTherm_loop (s : State) (f : Thermal → Thermal) : (s.setTherm f).loop = s.loop := rfl
@[simp] theorem State.setTherm_clips (s : State) (f : Thermal → Thermal) : (s.setTherm f).clips = s.clips := rfl
@[simp] theorem State.setTherm_act (s : State) (f : Thermal → Thermal) : (s.setTherm f).act = s.act := rfl
@[simp] theorem State.setTherm_cal (s : State) (f : Thermal → Thermal) : (s.setTherm f).cal = s.cal := rfl
@[simp] theorem State.setTherm_time (s : State) (f : Thermal → Thermal) : (s.setTherm f).time = s.time := rfl
@[simp] theorem State.setTherm_pl (s : State) (f : Thermal → Thermal) : (s.setTherm f).pl = s.pl := rfl
@[simp] theorem State.setTherm_therm (s : State) (f : Thermal → Thermal) : (s.setTherm f).therm = f s.therm := rfl
@[simp] theorem State.setTherm_pw (s : State) (f : Thermal → Thermal) : (s.setTherm f).pw = s.pw := rfl
@[simp] theorem State.setTherm_dust (s : State) (f : Thermal → Thermal) : (s.setTherm f).dust = s.dust := rfl
@[simp] theorem State.setTherm_avail (s : State) (f : Thermal → Thermal) : (s.setTherm f).avail = s.avail := rfl
@[simp] theorem State.setTherm_boot (s : State) (f : Thermal → Thermal) : (s.setTherm f).boot = s.boot := rfl
@[simp] theorem State.setTherm_nor (s : State) (f : Thermal → Thermal) : (s.setTherm f).nor = s.nor := rfl
@[simp] theorem State.setTherm_evtLevel (s : State) (f : Thermal → Thermal) : (s.setTherm f).evtLevel = s.evtLevel := rfl
@[simp] theorem State.setTherm_evtRise (s : State) (f : Thermal → Thermal) : (s.setTherm f).evtRise = s.evtRise := rfl
@[simp] theorem State.setTherm_freeCount (s : State) (f : Thermal → Thermal) : (s.setTherm f).freeCount = s.freeCount := rfl
@[simp] theorem State.setTherm_pending (s : State) (f : Thermal → Thermal) : (s.setTherm f).pending = s.pending := rfl

/-! ### State.setPw -/

@[simp] theorem State.setPw_clk (s : State) (f : PowerSt → PowerSt) : (s.setPw f).clk = s.clk := rfl
@[simp] theorem State.setPw_reg (s : State) (f : PowerSt → PowerSt) : (s.setPw f).reg = s.reg := rfl
@[simp] theorem State.setPw_mode (s : State) (f : PowerSt → PowerSt) : (s.setPw f).mode = s.mode := rfl
@[simp] theorem State.setPw_modeNext (s : State) (f : PowerSt → PowerSt) : (s.setPw f).modeNext = s.modeNext := rfl
@[simp] theorem State.setPw_power (s : State) (f : PowerSt → PowerSt) : (s.setPw f).power = s.power := rfl
@[simp] theorem State.setPw_imageApplied (s : State) (f : PowerSt → PowerSt) : (s.setPw f).imageApplied = s.imageApplied := rfl
@[simp] theorem State.setPw_fabric (s : State) (f : PowerSt → PowerSt) : (s.setPw f).fabric = s.fabric := rfl
@[simp] theorem State.setPw_route (s : State) (f : PowerSt → PowerSt) : (s.setPw f).route = s.route := rfl
@[simp] theorem State.setPw_com (s : State) (f : PowerSt → PowerSt) : (s.setPw f).com = s.com := rfl
@[simp] theorem State.setPw_links (s : State) (f : PowerSt → PowerSt) : (s.setPw f).links = s.links := rfl
@[simp] theorem State.setPw_sb (s : State) (f : PowerSt → PowerSt) : (s.setPw f).sb = s.sb := rfl
@[simp] theorem State.setPw_sched (s : State) (f : PowerSt → PowerSt) : (s.setPw f).sched = s.sched := rfl
@[simp] theorem State.setPw_prot (s : State) (f : PowerSt → PowerSt) : (s.setPw f).prot = s.prot := rfl
@[simp] theorem State.setPw_faults (s : State) (f : PowerSt → PowerSt) : (s.setPw f).faults = s.faults := rfl
@[simp] theorem State.setPw_sense (s : State) (f : PowerSt → PowerSt) : (s.setPw f).sense = s.sense := rfl
@[simp] theorem State.setPw_cap (s : State) (f : PowerSt → PowerSt) : (s.setPw f).cap = s.cap := rfl
@[simp] theorem State.setPw_hka (s : State) (f : PowerSt → PowerSt) : (s.setPw f).hka = s.hka := rfl
@[simp] theorem State.setPw_dith (s : State) (f : PowerSt → PowerSt) : (s.setPw f).dith = s.dith := rfl
@[simp] theorem State.setPw_gens (s : State) (f : PowerSt → PowerSt) : (s.setPw f).gens = s.gens := rfl
@[simp] theorem State.setPw_loop (s : State) (f : PowerSt → PowerSt) : (s.setPw f).loop = s.loop := rfl
@[simp] theorem State.setPw_clips (s : State) (f : PowerSt → PowerSt) : (s.setPw f).clips = s.clips := rfl
@[simp] theorem State.setPw_act (s : State) (f : PowerSt → PowerSt) : (s.setPw f).act = s.act := rfl
@[simp] theorem State.setPw_cal (s : State) (f : PowerSt → PowerSt) : (s.setPw f).cal = s.cal := rfl
@[simp] theorem State.setPw_time (s : State) (f : PowerSt → PowerSt) : (s.setPw f).time = s.time := rfl
@[simp] theorem State.setPw_pl (s : State) (f : PowerSt → PowerSt) : (s.setPw f).pl = s.pl := rfl
@[simp] theorem State.setPw_therm (s : State) (f : PowerSt → PowerSt) : (s.setPw f).therm = s.therm := rfl
@[simp] theorem State.setPw_pw (s : State) (f : PowerSt → PowerSt) : (s.setPw f).pw = f s.pw := rfl
@[simp] theorem State.setPw_dust (s : State) (f : PowerSt → PowerSt) : (s.setPw f).dust = s.dust := rfl
@[simp] theorem State.setPw_avail (s : State) (f : PowerSt → PowerSt) : (s.setPw f).avail = s.avail := rfl
@[simp] theorem State.setPw_boot (s : State) (f : PowerSt → PowerSt) : (s.setPw f).boot = s.boot := rfl
@[simp] theorem State.setPw_nor (s : State) (f : PowerSt → PowerSt) : (s.setPw f).nor = s.nor := rfl
@[simp] theorem State.setPw_evtLevel (s : State) (f : PowerSt → PowerSt) : (s.setPw f).evtLevel = s.evtLevel := rfl
@[simp] theorem State.setPw_evtRise (s : State) (f : PowerSt → PowerSt) : (s.setPw f).evtRise = s.evtRise := rfl
@[simp] theorem State.setPw_freeCount (s : State) (f : PowerSt → PowerSt) : (s.setPw f).freeCount = s.freeCount := rfl
@[simp] theorem State.setPw_pending (s : State) (f : PowerSt → PowerSt) : (s.setPw f).pending = s.pending := rfl

/-! ### State.setBoot -/

@[simp] theorem State.setBoot_clk (s : State) (f : Boot → Boot) : (s.setBoot f).clk = s.clk := rfl
@[simp] theorem State.setBoot_reg (s : State) (f : Boot → Boot) : (s.setBoot f).reg = s.reg := rfl
@[simp] theorem State.setBoot_mode (s : State) (f : Boot → Boot) : (s.setBoot f).mode = s.mode := rfl
@[simp] theorem State.setBoot_modeNext (s : State) (f : Boot → Boot) : (s.setBoot f).modeNext = s.modeNext := rfl
@[simp] theorem State.setBoot_power (s : State) (f : Boot → Boot) : (s.setBoot f).power = s.power := rfl
@[simp] theorem State.setBoot_imageApplied (s : State) (f : Boot → Boot) : (s.setBoot f).imageApplied = s.imageApplied := rfl
@[simp] theorem State.setBoot_fabric (s : State) (f : Boot → Boot) : (s.setBoot f).fabric = s.fabric := rfl
@[simp] theorem State.setBoot_route (s : State) (f : Boot → Boot) : (s.setBoot f).route = s.route := rfl
@[simp] theorem State.setBoot_com (s : State) (f : Boot → Boot) : (s.setBoot f).com = s.com := rfl
@[simp] theorem State.setBoot_links (s : State) (f : Boot → Boot) : (s.setBoot f).links = s.links := rfl
@[simp] theorem State.setBoot_sb (s : State) (f : Boot → Boot) : (s.setBoot f).sb = s.sb := rfl
@[simp] theorem State.setBoot_sched (s : State) (f : Boot → Boot) : (s.setBoot f).sched = s.sched := rfl
@[simp] theorem State.setBoot_prot (s : State) (f : Boot → Boot) : (s.setBoot f).prot = s.prot := rfl
@[simp] theorem State.setBoot_faults (s : State) (f : Boot → Boot) : (s.setBoot f).faults = s.faults := rfl
@[simp] theorem State.setBoot_sense (s : State) (f : Boot → Boot) : (s.setBoot f).sense = s.sense := rfl
@[simp] theorem State.setBoot_cap (s : State) (f : Boot → Boot) : (s.setBoot f).cap = s.cap := rfl
@[simp] theorem State.setBoot_hka (s : State) (f : Boot → Boot) : (s.setBoot f).hka = s.hka := rfl
@[simp] theorem State.setBoot_dith (s : State) (f : Boot → Boot) : (s.setBoot f).dith = s.dith := rfl
@[simp] theorem State.setBoot_gens (s : State) (f : Boot → Boot) : (s.setBoot f).gens = s.gens := rfl
@[simp] theorem State.setBoot_loop (s : State) (f : Boot → Boot) : (s.setBoot f).loop = s.loop := rfl
@[simp] theorem State.setBoot_clips (s : State) (f : Boot → Boot) : (s.setBoot f).clips = s.clips := rfl
@[simp] theorem State.setBoot_act (s : State) (f : Boot → Boot) : (s.setBoot f).act = s.act := rfl
@[simp] theorem State.setBoot_cal (s : State) (f : Boot → Boot) : (s.setBoot f).cal = s.cal := rfl
@[simp] theorem State.setBoot_time (s : State) (f : Boot → Boot) : (s.setBoot f).time = s.time := rfl
@[simp] theorem State.setBoot_pl (s : State) (f : Boot → Boot) : (s.setBoot f).pl = s.pl := rfl
@[simp] theorem State.setBoot_therm (s : State) (f : Boot → Boot) : (s.setBoot f).therm = s.therm := rfl
@[simp] theorem State.setBoot_pw (s : State) (f : Boot → Boot) : (s.setBoot f).pw = s.pw := rfl
@[simp] theorem State.setBoot_dust (s : State) (f : Boot → Boot) : (s.setBoot f).dust = s.dust := rfl
@[simp] theorem State.setBoot_avail (s : State) (f : Boot → Boot) : (s.setBoot f).avail = s.avail := rfl
@[simp] theorem State.setBoot_boot (s : State) (f : Boot → Boot) : (s.setBoot f).boot = f s.boot := rfl
@[simp] theorem State.setBoot_nor (s : State) (f : Boot → Boot) : (s.setBoot f).nor = s.nor := rfl
@[simp] theorem State.setBoot_evtLevel (s : State) (f : Boot → Boot) : (s.setBoot f).evtLevel = s.evtLevel := rfl
@[simp] theorem State.setBoot_evtRise (s : State) (f : Boot → Boot) : (s.setBoot f).evtRise = s.evtRise := rfl
@[simp] theorem State.setBoot_freeCount (s : State) (f : Boot → Boot) : (s.setBoot f).freeCount = s.freeCount := rfl
@[simp] theorem State.setBoot_pending (s : State) (f : Boot → Boot) : (s.setBoot f).pending = s.pending := rfl

end Sys2Proof.Machine
end

