-- ==== Sys2Proof/Laws/Sound.lean ====
section
/-! SUPPORT. Laws/Sound.lean: the invariants of Safety.lean in the words of Laws/Kept.lean; what `gated` answers; what each sparse map of a sound state is. -/

set_option Elab.async false

namespace Sys2Proof.Machine

open Sys2Proof

/-- The invariants with nothing asked of the clock, the mode, the fabric, the image, the NOR. -/
def Keep.of (s : State) : Keep := { queue := s.pending, provisioned := s.prot.provisioned, floor := s.prot.floor }

theorem State.sound_iff (s : State) : s.sound = true ↔ Kept (Keep.of s) s := by
  unfold State.sound State.canonical State.shaped
  simp only [Bool.and_eq_true, decide_eq_true_eq]
  constructor
  · rintro ⟨⟨⟨⟨⟨⟨⟨h1, h2⟩, h3⟩, h4⟩, h5⟩, h6⟩, h7⟩, ⟨⟨⟨⟨⟨⟨⟨⟨⟨⟨⟨k1, k2⟩, k3⟩, k4⟩, k5⟩, k6⟩, k7⟩, k8⟩, k9⟩, k10⟩, k11⟩, k12⟩⟩
    exact ⟨rfl, h1, h2, h3, k1, k2, k3, id, Nat.le_refl _, k4, k5, h4, k6, k7, k8, k9, k10, k11, k12, h6, h7, h5, trivial, trivial, trivial,
      trivial, trivial⟩
  · intro h
    exact ⟨⟨⟨⟨⟨⟨⟨h.shared, h.privA⟩, h.privB⟩, h.mem⟩, h.nor⟩, h.bootShared⟩, h.bootPriv⟩, ⟨⟨⟨⟨⟨⟨⟨⟨⟨⟨⟨h.prin, h.lanes⟩, h.queues⟩, h.keys⟩,
      h.senseTiles⟩, h.chans⟩, h.gens⟩, h.actTiles⟩, h.calTiles⟩, h.td⟩, h.sources⟩, h.ports⟩⟩

theorem Kept.sound {κ : Keep} {s : State} (h : Kept κ s) : s.sound = true :=
  s.sound_iff.2 { h with queue := rfl, provisioned := id, floor := Nat.le_refl _, clk := trivial, mode := trivial, fabric := trivial,
                         image := trivial, norIs := trivial }

theorem State.sound_kept {s : State} (h : s.sound = true) : Kept (Keep.of s) s := s.sound_iff.1 h

/-- What a command leaves of a sound state, with what may be asked of the clock, the mode, the fabric, the image, the NOR (Laws/KeptExec.lean). -/
def Keep.still (s : State) : Keep :=
  { Keep.of s with clk := fun x => x = s.clk, mode := fun x => x = s.mode, fabric := fun x => x = s.fabric, image := fun x => x = s.imageApplied,
                   norIs := fun x => x = s.nor }

theorem State.sound_still {s : State} (h : s.sound = true) : Kept (Keep.still s) s :=
  { State.sound_kept h with clk := rfl, mode := rfl, fabric := rfl, image := rfl, norIs := rfl }

/-- The queue may be exchanged: nothing else of the invariants speaks of it. -/
theorem State.sound_withPending {s : State} {q : List Instr} (h : s.sound = true) : (s.withPending q).sound = true := h

/-- A command keeps the invariants. -/
theorem exec_sound {i : Instr} {s t : State} (h : s.sound = true) (he : exec i s = .next t) :
    Kept (Keep.of s) t :=
  exec_kept (State.sound_kept h) (fun _ => trivial) (fun _ => trivial) (fun _ => trivial) (fun _ => trivial) (fun _ => trivial) he

theorem gated_next {ok : Bool} {n : String} {t : State} (h : ok = true) : gated ok n t = .next t := if_pos h

theorem gated_bad {ok : Bool} {n : String} {t : State} (h : ok = false) : gated ok n t = .refused (.badOperand n) := if_neg (by simp [h])

end Sys2Proof.Machine
end

