-- ==== Sys2Proof/Laws/Context.lean ====
section
/-! SUPPORT. Laws/Context.lean: reading a field after a write: shared fields, fields of one plane's private registers, fields of a context in both
copies. -/

set_option linter.all false
set_option Elab.async false

namespace Sys2Proof.Machine

open Sys2Proof

/-- The register files are canonical. -/
structure State.Regs (s : State) : Prop where
  shared : smWf resetWord s.reg.shared = true
  privA : smWf resetWord s.reg.privA = true
  privB : smWf resetWord s.reg.privB = true

theorem State.Regs.file {s : State} (h : s.Regs) (p : Plane) : smWf resetWord (s.reg.file p) = true := by
  cases p
  · exact h.privA
  · exact h.privB

theorem State.sound_regs {s : State} (h : s.sound = true) : s.Regs :=
  ⟨(State.sound_kept h).shared, (State.sound_kept h).privA, (State.sound_kept h).privB⟩

theorem Kept.regs {κ : Keep} {s : State} (h : Kept κ s) : s.Regs := ⟨h.shared, h.privA, h.privB⟩

theorem State.Regs.wr {s : State} {f : FieldAt} {v : Nat} (h : s.Regs) : (s.wr f v).Regs := ⟨smSet_wf _ _ _ _ h.shared, h.privA, h.privB⟩

theorem State.Regs.bump {s : State} {f : FieldAt} {v : Nat} (h : s.Regs) : (s.bump f v).Regs := h.wr

theorem State.Regs.wrP {s : State} {p : Plane} {f : FieldAt} {v : Nat} (h : s.Regs) : (s.wrP p f v).Regs := by
  cases p
  · exact ⟨h.shared, smSet_wf _ _ _ _ h.privA, h.privB⟩
  · exact ⟨h.shared, h.privA, smSet_wf _ _ _ _ h.privB⟩

theorem State.Regs.wrB {s : State} {f : FieldAt} {v : Nat} (h : s.Regs) : (s.wrB f v).Regs := h.wrP.wrP

theorem State.Regs.setCx {s : State} {f : Nat → FieldAt} {n v : Nat} (h : s.Regs) : (s.setCx f n v).Regs := h.wrB

theorem State.rdP_wrP {s : State} (p q : Plane) (f : FieldAt) (v : Nat) (h : s.Regs) (h1 : f.hi < 32) (h2 : f.lo ≤ f.hi) :
    (s.wrP p f v).rdP q f = if q = p then v % 2 ^ (f.hi + 1 - f.lo) else s.rdP q f := by
  show bits ((s.setWordP p f.addr (putBits (s.wordP p f.addr) f.hi f.lo v)).wordP q f.addr) f.hi f.lo = _
  rw [State.wordP_setWordP _ _ _ _ _ _ (h.file p)]
  by_cases e : q = p
  · rw [if_pos ⟨e, rfl⟩, if_pos e, Nat.mod_eq_of_lt (putBits_lt _ _ _ _ (s.wordP_lt _ _) h1 h2), bits_putBits]
  · rw [if_neg (fun x => e x.1), if_neg e]; rfl

theorem State.rdP_wrP_addr {s : State} (p q : Plane) (f g : FieldAt) (v : Nat) (h : s.Regs) (ha : g.addr ≠ f.addr) :
    (s.wrP p f v).rdP q g = s.rdP q g := by
  show bits ((s.setWordP p f.addr (putBits (s.wordP p f.addr) f.hi f.lo v)).wordP q g.addr) g.hi g.lo = _
  rw [State.wordP_setWordP _ _ _ _ _ _ (h.file p), if_neg (fun x => ha x.2)]
  rfl

theorem State.rdP_wrP_bits {s : State} (p q : Plane) (f g : FieldAt) (v : Nat) (h : s.Regs) (h1 : f.hi < 32) (h2 : f.lo ≤ f.hi)
    (h3 : g.lo ≤ g.hi) (hd : g.hi < f.lo ∨ f.hi < g.lo) : (s.wrP p f v).rdP q g = s.rdP q g := by
  by_cases ha : g.addr = f.addr
  · by_cases e : q = p
    · subst e
      show bits ((s.setWordP q f.addr (putBits (s.wordP q f.addr) f.hi f.lo v)).wordP q g.addr) g.hi g.lo = bits (s.wordP q g.addr) g.hi g.lo
      rw [State.wordP_setWordP _ _ _ _ _ _ (h.file q), if_pos ⟨rfl, ha⟩,
        Nat.mod_eq_of_lt (putBits_lt _ _ _ _ (s.wordP_lt _ _) h1 h2), ha]
      rcases hd with hd | hd
      · exact bits_putBits_below _ _ _ _ _ _ hd h3
      · exact bits_putBits_above _ _ _ _ _ _ hd h2
    · show bits ((s.setWordP p f.addr (putBits (s.wordP p f.addr) f.hi f.lo v)).wordP q g.addr) g.hi g.lo = bits (s.wordP q g.addr) g.hi g.lo
      rw [State.wordP_setWordP _ _ _ _ _ _ (h.file p), if_neg (fun x => e x.1)]
  · exact State.rdP_wrP_addr p q f g v h ha

@[simp] theorem State.rdP_wr (s : State) (p : Plane) (f g : FieldAt) (v : Nat) : (s.wr f v).rdP p g = s.rdP p g := by
  show bits ((s.setWord _ _).wordP p g.addr) _ _ = _
  rw [State.wordP_setWord]; rfl

@[simp] theorem State.rd_wrP (s : State) (p : Plane) (f g : FieldAt) (v : Nat) : (s.wrP p f v).rd g = s.rd g := by
  show bits ((s.setWordP _ _ _).word g.addr) _ _ = _
  rw [State.word_setWordP]; rfl

@[simp] theorem State.rd_wrB (s : State) (f g : FieldAt) (v : Nat) : (s.wrB f v).rd g = s.rd g := by
  unfold State.wrB; rw [State.rd_wrP, State.rd_wrP]

theorem State.active_of_rd {s t : State} (h : t.rd R.PL_ROLE_ACTIVE = s.rd R.PL_ROLE_ACTIVE) : t.active = s.active := by
  unfold State.active State.on
  rw [h]

@[simp] theorem State.active_setCx (s : State) (f : Nat → FieldAt) (n v : Nat) : (s.setCx f n v).active = s.active :=
  State.active_of_rd (State.rd_wrB _ _ _ _)

theorem State.active_wr (s : State) (f : FieldAt) (v : Nat) (h : s.Regs) (hb : f.addr ≠ R.PL_ROLE_ACTIVE.addr) :
    (s.wr f v).active = s.active :=
  State.active_of_rd (State.rd_wr_addr _ _ _ _ h.shared (Ne.symm hb))

/-- A field of a context reads as it was written, in either copy. -/
theorem State.cx_setCx {s : State} (f : Nat → FieldAt) (n v : Nat) (h : s.Regs) (h1 : (f n).hi < 32) (h2 : (f n).lo ≤ (f n).hi) :
    (s.setCx f n v).cx f n = v % 2 ^ ((f n).hi + 1 - (f n).lo) := by
  unfold State.cx
  rw [State.active_setCx]
  unfold State.setCx State.wrB
  rw [State.rdP_wrP _ _ _ _ h.wrP h1 h2, State.rdP_wrP _ _ _ _ h h1 h2]
  cases s.active <;> simp

/-- Another field of a context reads as before. -/
theorem State.cx_setCx_bits {s : State} (f g : Nat → FieldAt) (n m v : Nat) (h : s.Regs) (h1 : (f n).hi < 32) (h2 : (f n).lo ≤ (f n).hi)
    (h3 : (g m).lo ≤ (g m).hi) (hd : (g m).hi < (f n).lo ∨ (f n).hi < (g m).lo) : (s.setCx f n v).cx g m = s.cx g m := by
  unfold State.cx
  rw [State.active_setCx]
  unfold State.setCx State.wrB
  rw [State.rdP_wrP_bits _ _ _ _ _ h.wrP h1 h2 h3 hd, State.rdP_wrP_bits _ _ _ _ _ h h1 h2 h3 hd]

theorem State.cx_setCx_addr {s : State} (f g : Nat → FieldAt) (n m v : Nat) (h : s.Regs) (ha : (g m).addr ≠ (f n).addr) :
    (s.setCx f n v).cx g m = s.cx g m := by
  unfold State.cx
  rw [State.active_setCx]
  unfold State.setCx State.wrB
  rw [State.rdP_wrP_addr _ _ _ _ _ h.wrP ha, State.rdP_wrP_addr _ _ _ _ _ h ha]

/-- A context put into HOLD with a cause. -/
theorem State.holdCtx_active {s : State} {n c : Nat} (h : s.Regs) (hs : s.stateOf n = stActive) (hc : c < 16) :
    (s.holdCtx n c).stateOf n = stHold ∧ (s.holdCtx n c).cx R.CTX_OUT_CAUSE n = c := by
  unfold State.holdCtx
  rw [if_pos hs]
  unfold State.stateOf
  constructor
  · rw [State.cx_setCx_addr _ _ _ _ _ h.setCx.setCx (by show A.CTX_OUT n ≠ A.CTX_PC n; simp [A.CTX_OUT, A.CTX_PC]),
      State.cx_setCx_bits _ _ _ _ _ h.setCx (by simp [R.CTX_OUT_CAUSE]) (by simp [R.CTX_OUT_CAUSE]) (by simp [R.CTX_OUT_STATE])
        (by simp [R.CTX_OUT_CAUSE, R.CTX_OUT_STATE]), State.cx_setCx _ _ _ h (by simp [R.CTX_OUT_STATE]) (by simp [R.CTX_OUT_STATE])]
    rfl
  · rw [State.cx_setCx_addr _ _ _ _ _ h.setCx.setCx (by show A.CTX_OUT n ≠ A.CTX_PC n; simp [A.CTX_OUT, A.CTX_PC]),
      State.cx_setCx _ _ _ h.setCx (by simp [R.CTX_OUT_CAUSE]) (by simp [R.CTX_OUT_CAUSE])]
    show c % 2 ^ 4 = c
    exact Nat.mod_eq_of_lt hc

theorem State.rdP_setCx {s : State} (p : Plane) (f : Nat → FieldAt) (n v : Nat) (h : s.Regs) (h1 : (f n).hi < 32) (h2 : (f n).lo ≤ (f n).hi) :
    (s.setCx f n v).rdP p (f n) = v % 2 ^ ((f n).hi + 1 - (f n).lo) := by
  unfold State.setCx State.wrB
  rw [State.rdP_wrP _ _ _ _ h.wrP h1 h2, State.rdP_wrP _ _ _ _ h h1 h2]
  cases p <;> simp

theorem State.rdP_setCx_bits {s : State} (p : Plane) (f : Nat → FieldAt) (g : FieldAt) (n v : Nat) (h : s.Regs) (h1 : (f n).hi < 32) (h2 : (f n).lo ≤ (f n).hi)
    (h3 : g.lo ≤ g.hi) (hd : g.hi < (f n).lo ∨ (f n).hi < g.lo) : (s.setCx f n v).rdP p g = s.rdP p g := by
  unfold State.setCx State.wrB
  rw [State.rdP_wrP_bits _ _ _ _ _ h.wrP h1 h2 h3 hd, State.rdP_wrP_bits _ _ _ _ _ h h1 h2 h3 hd]

theorem State.rdP_setCx_addr {s : State} (p : Plane) (f : Nat → FieldAt) (g : FieldAt) (n v : Nat) (h : s.Regs) (ha : g.addr ≠ (f n).addr) :
    (s.setCx f n v).rdP p g = s.rdP p g := by
  unfold State.setCx State.wrB
  rw [State.rdP_wrP_addr _ _ _ _ _ h.wrP ha, State.rdP_wrP_addr _ _ _ _ _ h ha]

/-- The word that a pass computed stands in both copies of its context. -/
theorem State.store_u {s : State} {x : Upd} (p : Plane) (h : s.Regs) (hm : x.moved = true) :
    (s.store x).rdP p (R.CTX_OUT_U x.ctx) = x.u % 2 ^ 20 := by
  unfold State.store
  simp only []
  rw [if_pos hm]
  have h3 : (((s.setCx R.CTX_TPC_T_PC x.ctx (unsigned 21 x.tpc)).setCx R.CTX_HIST_FE_CNT x.ctx x.feCnt).setCx R.CTX_OUT_FE_TRIP x.ctx (b01 x.feTrip)).Regs :=
    h.setCx.setCx.setCx
  generalize ((s.setCx R.CTX_TPC_T_PC x.ctx (unsigned 21 x.tpc)).setCx R.CTX_HIST_FE_CNT x.ctx x.feCnt).setCx R.CTX_OUT_FE_TRIP x.ctx (b01 x.feTrip) = u at h3 ⊢
  rw [State.rdP_setCx_bits _ _ _ _ _ h3.setCx.setCx.setCx.setCx.setCx (by simp [R.CTX_OUT_XFER]) (by simp [R.CTX_OUT_XFER]) (by simp [R.CTX_OUT_U]) (by simp [R.CTX_OUT_U, R.CTX_OUT_XFER]),
    State.rdP_setCx_bits _ _ _ _ _ h3.setCx.setCx.setCx.setCx (by simp [R.CTX_OUT_SAT_LO]) (by simp [R.CTX_OUT_SAT_LO]) (by simp [R.CTX_OUT_U]) (by simp [R.CTX_OUT_U, R.CTX_OUT_SAT_LO]),
    State.rdP_setCx_bits _ _ _ _ _ h3.setCx.setCx.setCx (by simp [R.CTX_OUT_SAT_HI]) (by simp [R.CTX_OUT_SAT_HI]) (by simp [R.CTX_OUT_U]) (by simp [R.CTX_OUT_U, R.CTX_OUT_SAT_HI]),
    State.rdP_setCx_addr _ _ _ _ _ h3.setCx.setCx (by show A.CTX_OUT x.ctx ≠ A.CTX_PC x.ctx; simp [A.CTX_OUT, A.CTX_PC]),
    State.rdP_setCx_addr _ _ _ _ _ h3.setCx (by show A.CTX_OUT x.ctx ≠ A.CTX_INTEG x.ctx; simp [A.CTX_OUT, A.CTX_INTEG]),
    State.rdP_setCx _ _ _ _ h3 (by simp [R.CTX_OUT_U]) (by simp [R.CTX_OUT_U])]
  rfl

end Sys2Proof.Machine
end

