-- ==== Sys2Proof/Laws/Exec.lean ====
section
/-! SUPPORT. Laws/Exec.lean: what each command answers where its operands are ones that the part has: the next state that its meaning computes. -/

set_option linter.all false
set_option Elab.async false

namespace Sys2Proof.Machine

open Sys2Proof

theorem exec_frameBoundary (x : FrameIn) (s : State) (ok : (Instr.frameBoundary x).wf = true) :
    exec (.frameBoundary x) s = .next ((s.frameBoundary x).noteMortem s) :=
  gated_next (n := "FRAME_BOUNDARY") ok

theorem exec_offerInstant (s : State) :
    exec .offerInstant s = .next (s.when s.clocked State.offer) :=
  gated_next (n := "OFFER_INSTANT") rfl

theorem exec_admissionPoint (differ : Bool) (s : State) :
    exec (.admissionPoint differ) s = .next ((s.admissionPoint differ).noteMortem s) :=
  gated_next (n := "ADMISSION_POINT") rfl

theorem exec_releaseDeadline (overran : List Nat) (margins : List (Nat × Nat)) (found : List Mismatch) (replayed : List Mismatch) (s : State) (ok : (Instr.releaseDeadline overran margins found replayed).wf = true) :
    exec (.releaseDeadline overran margins found replayed) s = .next (s.releaseDeadline overran margins found replayed) :=
  gated_next (n := "RELEASE_DEADLINE") ok

theorem exec_feedbackLost (ctx : Nat) (s : State) (ok : (Instr.feedbackLost ctx).wf = true) :
    exec (.feedbackLost ctx) s = .next (s.feedbackLost ctx) :=
  gated_next (n := "FEEDBACK_LOST") ok

theorem exec_feedbackFrozen (ctx : Nat) (s : State) (ok : (Instr.feedbackFrozen ctx).wf = true) :
    exec (.feedbackFrozen ctx) s = .next (s.feedbackFrozen ctx) :=
  gated_next (n := "FEEDBACK_FROZEN") ok

theorem exec_inputInvalid (ctx : Nat) (s : State) (ok : (Instr.inputInvalid ctx).wf = true) :
    exec (.inputInvalid ctx) s = .next (s.inputInvalid ctx) :=
  gated_next (n := "INPUT_INVALID") ok

theorem exec_feedbackOverload (ctx : Nat) (s : State) (ok : (Instr.feedbackOverload ctx).wf = true) :
    exec (.feedbackOverload ctx) s = .next (s.feedbackOverload ctx) :=
  gated_next (n := "FEEDBACK_OVERLOAD") ok

theorem exec_following (ctx : Nat) (s : State) (ok : (Instr.following ctx).wf = true) :
    exec (.following ctx) s = .next (s.following ctx) :=
  gated_next (n := "FOLLOWING") ok

theorem exec_autoResume (ctx : Nat) (s : State) (ok : (Instr.autoResume ctx).wf = true) :
    exec (.autoResume ctx) s = .next (s.autoResume ctx) :=
  gated_next (n := "AUTO_RESUME") ok

theorem exec_expressUpdate (ctx : Nat) (chip : Nat) (codes : List Nat) (applied : Bool) (differ : Bool) (s : State) (ok : (Instr.expressUpdate ctx chip codes applied differ).wf = true) :
    exec (.expressUpdate ctx chip codes applied differ) s = .next (s.expressUpdate ctx chip codes applied differ) :=
  gated_next (n := "EXPRESS_UPDATE") ok

theorem exec_expressOverrun (ctx : Nat) (chip : Nat) (s : State) (ok : (Instr.expressOverrun ctx chip).wf = true) :
    exec (.expressOverrun ctx chip) s = .next (s.expressOverrun ctx chip) :=
  gated_next (n := "EXPRESS_OVERRUN") ok

theorem exec_expJudged (ctx : Nat) (s : State) (ok : (Instr.expJudged ctx).wf = true) :
    exec (.expJudged ctx) s = .next (s.expJudged ctx) :=
  gated_next (n := "EXP_JUDGED") ok

theorem exec_kolrokFrameRx (lane : Nat) (bytes : List Nat) (stamp : Stamp) (s : State) (ok : (Instr.kolrokFrameRx lane bytes stamp).wf = true) :
    exec (.kolrokFrameRx lane bytes stamp) s = .next (s.when s.awake (·.frameRx lane bytes stamp)) :=
  gated_next (n := "KOLROK_FRAME_RX") ok

theorem exec_arpRequest (lane : Nat) (bytes : List Nat) (s : State) (ok : (Instr.arpRequest lane bytes).wf = true) :
    exec (.arpRequest lane bytes) s = .next (s.when s.awake (·.arpRequest lane bytes)) :=
  gated_next (n := "ARP_REQUEST") ok

theorem exec_ptpEvent (lane : Nat) (udp : Bool) (version : Nat) (messageType : Nat) (domain : Nat) (sequence : Nat) (port : Nat) (clock : Nat) (stamp : Stamp) (s : State) (ok : (Instr.ptpEvent lane udp version messageType domain sequence port clock stamp).wf = true) :
    exec (.ptpEvent lane udp version messageType domain sequence port clock stamp) s = .next (s.when s.awake (·.ptpEvent lane udp version messageType domain sequence port clock stamp)) :=
  gated_next (n := "PTP_EVENT") ok

theorem exec_laneLinkUp (lane : Nat) (s : State) (ok : (Instr.laneLinkUp lane).wf = true) :
    exec (.laneLinkUp lane) s = .next (s.when s.awake (·.linkUp lane)) :=
  gated_next (n := "LANE_LINK_UP") ok

theorem exec_laneLinkDown (lane : Nat) (fecOnly : Bool) (s : State) (ok : (Instr.laneLinkDown lane fecOnly).wf = true) :
    exec (.laneLinkDown lane fecOnly) s = .next (s.when s.awake (·.linkDown lane fecOnly)) :=
  gated_next (n := "LANE_LINK_DOWN") ok

theorem exec_hiBer (lane : Nat) (on : Bool) (s : State) (ok : (Instr.hiBer lane on).wf = true) :
    exec (.hiBer lane on) s = .next (s.when s.awake (·.hiBer lane on)) :=
  gated_next (n := "HI_BER") ok

theorem exec_frameTransmit (lane : Nat) (pos : Nat) (stamp : Stamp) (s : State) (ok : (Instr.frameTransmit lane pos stamp).wf = true) :
    exec (.frameTransmit lane pos stamp) s = .next (s.when s.awake (·.frameTransmit lane pos stamp)) :=
  gated_next (n := "FRAME_TRANSMIT") ok

theorem exec_ping (h : CmdHead) (s : State) (ok : (Instr.ping h).wf = true) :
    exec (.ping h) s = .next (s.command h (.ping)) :=
  gated_next (n := "PING") ok

theorem exec_summary (h : CmdHead) (challenge : List Nat) (s : State) (ok : (Instr.summary h challenge).wf = true) :
    exec (.summary h challenge) s = .next (s.command h (.summary challenge)) :=
  gated_next (n := "SUMMARY") ok

theorem exec_fence (h : CmdHead) (s : State) (ok : (Instr.fence h).wf = true) :
    exec (.fence h) s = .next (s.command h (.fence)) :=
  gated_next (n := "FENCE") ok

theorem exec_read (h : CmdHead) (addr : Nat) (words : Nat) (s : State) (ok : (Instr.read h addr words).wf = true) :
    exec (.read h addr words) s = .next (s.command h (.read addr words)) :=
  gated_next (n := "READ") ok

theorem exec_write (h : CmdHead) (addr : Nat) (data : List Nat) (s : State) (ok : (Instr.write h addr data).wf = true) :
    exec (.write h addr data) s = .next (s.command h (.write addr data)) :=
  gated_next (n := "WRITE") ok

theorem exec_connect (h : CmdHead) (inp : Nat) (out : Nat) (s : State) (ok : (Instr.connect h inp out).wf = true) :
    exec (.connect h inp out) s = .next (s.command h (.connect inp out)) :=
  gated_next (n := "CONNECT") ok

theorem exec_disconnect (h : CmdHead) (inp : Nat) (out : Nat) (s : State) (ok : (Instr.disconnect h inp out).wf = true) :
    exec (.disconnect h inp out) s = .next (s.command h (.disconnect inp out)) :=
  gated_next (n := "DISCONNECT") ok

theorem exec_stage (h : CmdHead) (id : Nat) (part : Nat) (parts : Nat) (entries : List (Nat × Nat)) (s : State) (ok : (Instr.stage h id part parts entries).wf = true) :
    exec (.stage h id part parts entries) s = .next (s.command h (.stage id part parts entries)) :=
  gated_next (n := "STAGE") ok

theorem exec_setElement (h : CmdHead) (element : Nat) (state : Nat) (s : State) (ok : (Instr.setElement h element state).wf = true) :
    exec (.setElement h element state) s = .next (s.command h (.setElement element state)) :=
  gated_next (n := "SET_ELEMENT") ok

theorem exec_commit (h : CmdHead) (kind : Nat) (chip : Nat) (token : Nat) (mask : Nat) (frame : Nat) (s : State) (ok : (Instr.commit h kind chip token mask frame).wf = true) :
    exec (.commit h kind chip token mask frame) s = .next (s.command h (.commit kind chip token mask frame)) :=
  gated_next (n := "COMMIT") ok

theorem exec_abort (h : CmdHead) (sFrame : Nat) (sChip : Nat) (s : State) (ok : (Instr.abort h sFrame sChip).wf = true) :
    exec (.abort h sFrame sChip) s = .next (s.command h (.abort sFrame sChip)) :=
  gated_next (n := "ABORT") ok

theorem exec_remap (h : CmdHead) (logical : Nat) (useAlt : Nat) (s : State) (ok : (Instr.remap h logical useAlt).wf = true) :
    exec (.remap h logical useAlt) s = .next (s.command h (.remap logical useAlt)) :=
  gated_next (n := "REMAP") ok

theorem exec_ctxRead (h : CmdHead) (ctx : Nat) (first : Nat) (words : Nat) (s : State) (ok : (Instr.ctxRead h ctx first words).wf = true) :
    exec (.ctxRead h ctx first words) s = .next (s.command h (.ctxRead ctx first words)) :=
  gated_next (n := "CTX_READ") ok

theorem exec_ctxWrite (h : CmdHead) (ctx : Nat) (first : Nat) (data : List Nat) (s : State) (ok : (Instr.ctxWrite h ctx first data).wf = true) :
    exec (.ctxWrite h ctx first data) s = .next (s.command h (.ctxWrite ctx first data)) :=
  gated_next (n := "CTX_WRITE") ok

theorem exec_ctxState (h : CmdHead) (ctx : Nat) (state : Nat) (s : State) (ok : (Instr.ctxState h ctx state).wf = true) :
    exec (.ctxState h ctx state) s = .next (s.command h (.ctxState ctx state)) :=
  gated_next (n := "CTX_STATE") ok

theorem exec_guardWrite (h : CmdHead) (tile : Nat) (offset : Nat) (value : Nat) (s : State) (ok : (Instr.guardWrite h tile offset value).wf = true) :
    exec (.guardWrite h tile offset value) s = .next (s.command h (.guardWrite tile offset value)) :=
  gated_next (n := "GUARD_WRITE") ok

theorem exec_primerWrite (h : CmdHead) (tile : Nat) (offset : Nat) (value : Nat) (s : State) (ok : (Instr.primerWrite h tile offset value).wf = true) :
    exec (.primerWrite h tile offset value) s = .next (s.command h (.primerWrite tile offset value)) :=
  gated_next (n := "PRIMER_WRITE") ok

theorem exec_primerApply (h : CmdHead) (tiles : Nat) (s : State) (ok : (Instr.primerApply h tiles).wf = true) :
    exec (.primerApply h tiles) s = .next (s.command h (.primerApply tiles)) :=
  gated_next (n := "PRIMER_APPLY") ok

theorem exec_tileResume (h : CmdHead) (tiles : Nat) (s : State) (ok : (Instr.tileResume h tiles).wf = true) :
    exec (.tileResume h tiles) s = .next (s.command h (.tileResume tiles)) :=
  gated_next (n := "TILE_RESUME") ok

theorem exec_hkaInject (h : CmdHead) (channel : Nat) (tag : Nat) (s : State) (ok : (Instr.hkaInject h channel tag).wf = true) :
    exec (.hkaInject h channel tag) s = .next (s.command h (.hkaInject channel tag)) :=
  gated_next (n := "HKA_INJECT") ok

theorem exec_calibrate (h : CmdHead) (tiles : Nat) (s : State) (ok : (Instr.calibrate h tiles).wf = true) :
    exec (.calibrate h tiles) s = .next (s.command h (.calibrate tiles)) :=
  gated_next (n := "CALIBRATE") ok

theorem exec_stencilStart (h : CmdHead) (gen : Nat) (s : State) (ok : (Instr.stencilStart h gen).wf = true) :
    exec (.stencilStart h gen) s = .next (s.command h (.stencilStart gen)) :=
  gated_next (n := "STENCIL_START") ok

theorem exec_mode (h : CmdHead) (code : Nat) (frame : Nat) (s : State) (ok : (Instr.mode h code frame).wf = true) :
    exec (.mode h code frame) s = .next (s.command h (.mode code frame)) :=
  gated_next (n := "MODE") ok

theorem exec_power (h : CmdHead) (state : Nat) (s : State) (ok : (Instr.power h state).wf = true) :
    exec (.power h state) s = .next (s.command h (.power state)) :=
  gated_next (n := "POWER") ok

theorem exec_drill (h : CmdHead) (frame : Nat) (s : State) (ok : (Instr.drill h frame).wf = true) :
    exec (.drill h frame) s = .next (s.command h (.drill frame)) :=
  gated_next (n := "DRILL") ok

theorem exec_reboot (h : CmdHead) (slot : Nat) (s : State) (ok : (Instr.reboot h slot).wf = true) :
    exec (.reboot h slot) s = .next (s.command h (.reboot slot)) :=
  gated_next (n := "REBOOT") ok

theorem exec_protectArm (h : CmdHead) (body : ArmBody) (s : State) (ok : (Instr.protectArm h body).wf = true) :
    exec (.protectArm h body) s = .next (s.command h (.protectArm body)) :=
  gated_next (n := "PROTECT_ARM") ok

theorem exec_protectCommit (h : CmdHead) (armId : Nat) (digest : Nat) (frame : Nat) (s : State) (ok : (Instr.protectCommit h armId digest frame).wf = true) :
    exec (.protectCommit h armId digest frame) s = .next (s.command h (.protectCommit armId digest frame)) :=
  gated_next (n := "PROTECT_COMMIT") ok

theorem exec_keyInstall (h : CmdHead) (principal : Nat) (which : Nat) (wrapped : List Nat) (s : State) (ok : (Instr.keyInstall h principal which wrapped).wf = true) :
    exec (.keyInstall h principal which wrapped) s = .next (s.command h (.keyInstall principal which wrapped)) :=
  gated_next (n := "KEY_INSTALL") ok

theorem exec_keyRoll (h : CmdHead) (principal : Nat) (frame : Nat) (s : State) (ok : (Instr.keyRoll h principal frame).wf = true) :
    exec (.keyRoll h principal frame) s = .next (s.command h (.keyRoll principal frame)) :=
  gated_next (n := "KEY_ROLL") ok

theorem exec_forward (h : CmdHead) (pos : Nat) (frame : List Nat) (s : State) (ok : (Instr.forward h pos frame).wf = true) :
    exec (.forward h pos frame) s = .next (s.command h (.forward pos frame)) :=
  gated_next (n := "FORWARD") ok

theorem exec_forwardedFrameRx (pos : Nat) (bytes : List Nat) (s : State) (ok : (Instr.forwardedFrameRx pos bytes).wf = true) :
    exec (.forwardedFrameRx pos bytes) s = .next (s.ringMessage (·.forwardedRx pos bytes)) :=
  gated_next (n := "FORWARDED_FRAME_RX") ok

theorem exec_forwardedResponseRx (pos : Nat) (rseq : Nat) (bytes : List Nat) (s : State) (ok : (Instr.forwardedResponseRx pos rseq bytes).wf = true) :
    exec (.forwardedResponseRx pos rseq bytes) s = .next (s.ringMessage (·.forwardedResponse pos rseq bytes)) :=
  gated_next (n := "FORWARDED_RESPONSE_RX") ok

theorem exec_sbSetAddr (pecOk : Bool) (addr : Nat) (words : Nat) (s : State) (ok : (Instr.sbSetAddr pecOk addr words).wf = true) :
    exec (.sbSetAddr pecOk addr words) s = .next (s.sbSetAddr pecOk addr words) :=
  gated_next (n := "SB_SET_ADDR") ok

theorem exec_sbRead (s : State) :
    exec .sbRead s = .next (s.sbRead) :=
  gated_next (n := "SB_READ") rfl

theorem exec_sbWrite (pecOk : Bool) (data : List Nat) (s : State) (ok : (Instr.sbWrite pecOk data).wf = true) :
    exec (.sbWrite pecOk data) s = .next (s.sbWrite pecOk data) :=
  gated_next (n := "SB_WRITE") ok

theorem exec_sbLastStatus (s : State) :
    exec .sbLastStatus s = .next (s.sbLastStatus) :=
  gated_next (n := "SB_LAST_STATUS") rfl

theorem exec_sbSummary (s : State) :
    exec .sbSummary s = .next (s.sbSummary) :=
  gated_next (n := "SB_SUMMARY") rfl

theorem exec_sbAlertCause (s : State) :
    exec .sbAlertCause s = .next (s.sbAlertCause) :=
  gated_next (n := "SB_ALERT_CAUSE") rfl

theorem exec_sbFaultPop (s : State) :
    exec .sbFaultPop s = .next (s.sbFaultPop) :=
  gated_next (n := "SB_FAULT_POP") rfl

theorem exec_alertResponse (s : State) :
    exec .alertResponse s = .next (s.alertResponse) :=
  gated_next (n := "ALERT_RESPONSE") rfl

theorem exec_sbStretchTimeout (bytes : Nat) (s : State) (ok : (Instr.sbStretchTimeout bytes).wf = true) :
    exec (.sbStretchTimeout bytes) s = .next (s.sbStretchTimeout bytes) :=
  gated_next (n := "SB_STRETCH_TIMEOUT") ok

theorem exec_incrementalPost (late : List (Nat × Nat × Plane)) (margins : List (Plane × Nat)) (s : State) :
    exec (.incrementalPost late margins) s = .next (s.incrementalPost late margins) :=
  gated_next (n := "INCREMENTAL_POST") rfl

theorem exec_fullRoutingPost (late : List Plane) (margins : List (Plane × Nat)) (s : State) :
    exec (.fullRoutingPost late margins) s = .next (s.fullPost late margins) :=
  gated_next (n := "FULL_ROUTING_POST") rfl

theorem exec_deferredRoutingStart (s : State) :
    exec .deferredRoutingStart s = .next (s.deferredStart) :=
  gated_next (n := "DEFERRED_ROUTING_START") rfl

theorem exec_rearrangeExpired (s : State) :
    exec .rearrangeExpired s = .next (s.rearrangeExpire) :=
  gated_next (n := "REARRANGE_EXPIRED") rfl

theorem exec_stageExpired (principal : Nat) (s : State) (ok : (Instr.stageExpired principal).wf = true) :
    exec (.stageExpired principal) s = .next (s.stageExpire principal) :=
  gated_next (n := "STAGE_EXPIRED") ok

theorem exec_yellowExpired (s : State) :
    exec .yellowExpired s = .next (s.yellowExpire) :=
  gated_next (n := "YELLOW_EXPIRED") rfl

theorem exec_commitFix (s : State) :
    exec .commitFix s = .next (s.when s.clocked State.tryAll) :=
  gated_next (n := "COMMIT_FIX") rfl

theorem exec_commitSwitch (chip : Nat) (late : List Nat) (differ : List Nat) (s : State) (ok : (Instr.commitSwitch chip late differ).wf = true) :
    exec (.commitSwitch chip late differ) s = .next (s.commitSwitch chip late differ) :=
  gated_next (n := "COMMIT_SWITCH") ok

theorem exec_lateTileApply (tile : Nat) (s : State) (ok : (Instr.lateTileApply tile).wf = true) :
    exec (.lateTileApply tile) s = .next (s.lateTileApply tile) :=
  gated_next (n := "LATE_TILE_APPLY") ok

theorem exec_commitDone (s : State) :
    exec .commitDone s = .next (s.commitDone) :=
  gated_next (n := "COMMIT_DONE") rfl

theorem exec_readyRx (principal : Nat) (number : Nat) (mask : Nat) (pos : Nat) (named : Nat) (earliest : Nat) (slot : Nat) (fclk : Nat) (s : State) (ok : (Instr.readyRx principal number mask pos named earliest slot fclk).wf = true) :
    exec (.readyRx principal number mask pos named earliest slot fclk) s = .next (s.ringMessage (·.readyArrives ⟨principal, number, mask, pos, named, earliest, slot, s.clk.frame, fclk⟩)) :=
  gated_next (n := "READY_RX") ok

theorem exec_goRx (principal : Nat) (number : Nat) (frame : Nat) (s : State) (ok : (Instr.goRx principal number frame).wf = true) :
    exec (.goRx principal number frame) s = .next (s.ringMessage (·.goArrives principal number frame)) :=
  gated_next (n := "GO_RX") ok

theorem exec_abandonRx (principal : Nat) (number : Nat) (s : State) (ok : (Instr.abandonRx principal number).wf = true) :
    exec (.abandonRx principal number) s = .next (s.ringMessage (·.abandonArrives principal number)) :=
  gated_next (n := "ABANDON_RX") ok

theorem exec_tokenLost (s : State) :
    exec .tokenLost s = .next (s.tokenLost) :=
  gated_next (n := "TOKEN_LOST") rfl

theorem exec_biasLimit (tile : Nat) (s : State) (ok : (Instr.biasLimit tile).wf = true) :
    exec (.biasLimit tile) s = .next (s.when s.awake (·.biasLimit tile)) :=
  gated_next (n := "BIAS_LIMIT") ok

theorem exec_refOut (tile : Nat) (sample : Nat) (s : State) (ok : (Instr.refOut tile sample).wf = true) :
    exec (.refOut tile sample) s = .next (s.when s.awake (·.refOut tile sample)) :=
  gated_next (n := "REF_OUT") ok

theorem exec_refTimeout (tile : Nat) (s : State) (ok : (Instr.refTimeout tile).wf = true) :
    exec (.refTimeout tile) s = .next (s.refTimeout tile) :=
  gated_next (n := "REF_TIMEOUT") ok

theorem exec_captureRecordWrite (channel : Nat) (last : Nat) (codes : List (List Nat)) (s : State) (ok : (Instr.captureRecordWrite channel last codes).wf = true) :
    exec (.captureRecordWrite channel last codes) s = .next (s.when s.clocked (·.captureRecord channel last codes)) :=
  gated_next (n := "CAPTURE_RECORD_WRITE") ok

theorem exec_capRptrWrite (r : Requester) (channel : Nat) (value : Nat) (s : State) (ok : (Instr.capRptrWrite r channel value).wf = true) :
    exec (.capRptrWrite r channel value) s = .next (s.regWrite r (if channel < 32 then A.CAP_RPTR channel else A.RSP_RPTR (channel - 32)) [value]) :=
  gated_next (n := "CAP_RPTR_WRITE") ok

theorem exec_hkaSlot (slot : Nat) (code : Nat) (ofs : Int) (gain : Int) (s : State) (ok : (Instr.hkaSlot slot code ofs gain).wf = true) :
    exec (.hkaSlot slot code ofs gain) s = .next (s.when s.clocked (·.hkaSlot slot code ofs gain)) :=
  gated_next (n := "HKA_SLOT") ok

theorem exec_hkaInjectWrite (r : Requester) (channel : Nat) (tag : Nat) (s : State) (ok : (Instr.hkaInjectWrite r channel tag).wf = true) :
    exec (.hkaInjectWrite r channel tag) s = .next (s.writeFields r A.HKA_INJECT [(R.HKA_INJECT_CHANNEL, channel), (R.HKA_INJECT_TAG, tag)]) :=
  gated_next (n := "HKA_INJECT_WRITE") ok

theorem exec_hkaResultPop (r : Requester) (s : State) (ok : (Instr.hkaResultPop r).wf = true) :
    exec (.hkaResultPop r) s = .next (s.regRead r A.HKA_INJ_RESULT 1) :=
  gated_next (n := "HKA_RESULT_POP") ok

theorem exec_calStart (r : Requester) (s : State) (ok : (Instr.calStart r).wf = true) :
    exec (.calStart r) s = .next (s.writeFields r A.HKA_CTRL [(R.HKA_CTRL_CAL_START, 1)]) :=
  gated_next (n := "CAL_START") ok

theorem exec_corrResidue (tile : Nat) (slot : Nat) (s : State) (ok : (Instr.corrResidue tile slot).wf = true) :
    exec (.corrResidue tile slot) s = .next (s.when s.clocked (·.corrResidue tile slot)) :=
  gated_next (n := "CORR_RESIDUE") ok

theorem exec_storeRoomReadEcc (plane : Plane) (tile : Nat) (word : Nat) (double : Bool) (s : State) (ok : (Instr.storeRoomReadEcc plane tile word double).wf = true) :
    exec (.storeRoomReadEcc plane tile word double) s = .next (s.when s.clocked (·.storeEcc plane tile word double)) :=
  gated_next (n := "STORE_ROOM_READ_ECC") ok

theorem exec_refreshMiss (plane : Plane) (tile : Nat) (s : State) (ok : (Instr.refreshMiss plane tile).wf = true) :
    exec (.refreshMiss plane tile) s = .next (s.when s.clocked (·.refreshMiss plane tile)) :=
  gated_next (n := "REFRESH_MISS") ok

theorem exec_stArm (r : Requester) (gen : Nat) (s : State) (ok : (Instr.stArm r gen).wf = true) :
    exec (.stArm r gen) s = .next (s.writeFields r (A.ST_CTRL gen) [(R.ST_CTRL_ARM gen, 1)]) :=
  gated_next (n := "ST_ARM") ok

theorem exec_stStart (r : Requester) (gen : Nat) (s : State) (ok : (Instr.stStart r gen).wf = true) :
    exec (.stStart r gen) s = .next (s.writeFields r (A.ST_CTRL gen) [(R.ST_CTRL_START gen, 1)]) :=
  gated_next (n := "ST_START") ok

theorem exec_stHalt (r : Requester) (gen : Nat) (s : State) (ok : (Instr.stHalt r gen).wf = true) :
    exec (.stHalt r gen) s = .next (s.writeFields r (A.ST_CTRL gen) [(R.ST_CTRL_HALT gen, 1)]) :=
  gated_next (n := "ST_HALT") ok

theorem exec_evtEdgeTrigger (evt : Nat) (rising : Bool) (s : State) (ok : (Instr.evtEdgeTrigger evt rising).wf = true) :
    exec (.evtEdgeTrigger evt rising) s = .next (s.when s.clocked (·.evtEdge evt rising)) :=
  gated_next (n := "EVT_EDGE_TRIGGER") ok

theorem exec_frameTrigger (inst : Nat) (s : State) (ok : (Instr.frameTrigger inst).wf = true) :
    exec (.frameTrigger inst) s = .next (s.when s.clocked (·.frameTrigger inst)) :=
  gated_next (n := "FRAME_TRIGGER") ok

theorem exec_stop (inst : Nat) (s : State) (ok : (Instr.stop inst).wf = true) :
    exec (.stop inst) s = .next (s.genStop inst) :=
  gated_next (n := "STOP") ok

theorem exec_lda (inst : Nat) (s : State) (ok : (Instr.lda inst).wf = true) :
    exec (.lda inst) s = .next (s.runOp inst 0x01 genLda) :=
  gated_next (n := "LDA") ok

theorem exec_ldd (inst : Nat) (s : State) (ok : (Instr.ldd inst).wf = true) :
    exec (.ldd inst) s = .next (s.runOp inst 0x02 genLdd) :=
  gated_next (n := "LDD") ok

theorem exec_adda (inst : Nat) (s : State) (ok : (Instr.adda inst).wf = true) :
    exec (.adda inst) s = .next (s.runOp inst 0x03 genAdda) :=
  gated_next (n := "ADDA") ok

theorem exec_emit (inst : Nat) (s : State) (ok : (Instr.emit inst).wf = true) :
    exec (.emit inst) s = .next (s.runOp inst 0x04 genEmit) :=
  gated_next (n := "EMIT") ok

theorem exec_ramp (inst : Nat) (s : State) (ok : (Instr.ramp inst).wf = true) :
    exec (.ramp inst) s = .next (s.runOp inst 0x05 genRamp) :=
  gated_next (n := "RAMP") ok

theorem exec_table (inst : Nat) (s : State) (ok : (Instr.table inst).wf = true) :
    exec (.table inst) s = .next (s.runOp inst 0x06 (s.genTable inst)) :=
  gated_next (n := "TABLE") ok

theorem exec_prbs (inst : Nat) (s : State) (ok : (Instr.prbs inst).wf = true) :
    exec (.prbs inst) s = .next (s.free.2.runOp inst 0x07 (genPrbs (signed 16 s.free.1))) :=
  gated_next (n := "PRBS") ok

theorem exec_ldc (inst : Nat) (s : State) (ok : (Instr.ldc inst).wf = true) :
    exec (.ldc inst) s = .next (s.runOp inst 0x08 genLdc) :=
  gated_next (n := "LDC") ok

theorem exec_loop (inst : Nat) (s : State) (ok : (Instr.loop inst).wf = true) :
    exec (.loop inst) s = .next (s.runOp inst 0x09 genLoop) :=
  gated_next (n := "LOOP") ok

theorem exec_jmp (inst : Nat) (s : State) (ok : (Instr.jmp inst).wf = true) :
    exec (.jmp inst) s = .next (s.runOp inst 0x0A genJmp) :=
  gated_next (n := "JMP") ok

theorem exec_br (inst : Nat) (s : State) (ok : (Instr.br inst).wf = true) :
    exec (.br inst) s = .next (s.genBr inst) :=
  gated_next (n := "BR") ok

theorem exec_wait (inst : Nat) (s : State) (ok : (Instr.wait inst).wf = true) :
    exec (.wait inst) s = .next (s.genWait inst) :=
  gated_next (n := "WAIT") ok

theorem exec_illegal (inst : Nat) (s : State) (ok : (Instr.illegal inst).wf = true) :
    exec (.illegal inst) s = .next (s.genIllegal inst) :=
  gated_next (n := "ILLEGAL") ok

theorem exec_runaway (inst : Nat) (s : State) (ok : (Instr.runaway inst).wf = true) :
    exec (.runaway inst) s = .next (s.genRunaway inst) :=
  gated_next (n := "RUNAWAY") ok

theorem exec_mtStart (r : Requester) (s : State) (ok : (Instr.mtStart r).wf = true) :
    exec (.mtStart r) s = .next (s.writeFields r A.MT_CTRL [(R.MT_CTRL_START, 1)]) :=
  gated_next (n := "MT_START") ok

theorem exec_mtAbort (r : Requester) (s : State) (ok : (Instr.mtAbort r).wf = true) :
    exec (.mtAbort r) s = .next (s.writeFields r A.MT_CTRL [(R.MT_CTRL_ABORT, 1)]) :=
  gated_next (n := "MT_ABORT") ok

theorem exec_mtestDone (plane : Plane) (fails : Nat) (addr : Nat) (element : Nat) (diff : Nat) (check : Nat) (s : State) (ok : (Instr.mtestDone plane fails addr element diff check).wf = true) :
    exec (.mtestDone plane fails addr element diff check) s = .next (s.mtDone plane fails addr element diff check) :=
  gated_next (n := "MTEST_DONE") ok

theorem exec_heaterOpen (channel : Nat) (s : State) (ok : (Instr.heaterOpen channel).wf = true) :
    exec (.heaterOpen channel) s = .next (s.heaterOpen channel) :=
  gated_next (n := "HEATER_OPEN") ok

theorem exec_heaterShort (channel : Nat) (s : State) (ok : (Instr.heaterShort channel).wf = true) :
    exec (.heaterShort channel) s = .next (s.heaterShort channel) :=
  gated_next (n := "HEATER_SHORT") ok

theorem exec_heaterLoad (channel : Nat) (s : State) (ok : (Instr.heaterLoad channel).wf = true) :
    exec (.heaterLoad channel) s = .next (s.heaterLoad channel) :=
  gated_next (n := "HEATER_LOAD") ok

theorem exec_driverOverload (driver : Nat) (s : State) (ok : (Instr.driverOverload driver).wf = true) :
    exec (.driverOverload driver) s = .next (s.when s.awake (·.driverOverload driver)) :=
  gated_next (n := "DRIVER_OVERLOAD") ok

theorem exec_guardIntegrity (tile : Nat) (s : State) (ok : (Instr.guardIntegrity tile).wf = true) :
    exec (.guardIntegrity tile) s = .next (s.when s.awake (·.guardIntegrity tile)) :=
  gated_next (n := "GUARD_INTEGRITY") ok

theorem exec_starvation (tile : Nat) (s : State) (ok : (Instr.starvation tile).wf = true) :
    exec (.starvation tile) s = .next (s.when s.awake (·.starvation tile)) :=
  gated_next (n := "STARVATION") ok

theorem exec_trimApply (channel : Nat) (s : State) (ok : (Instr.trimApply channel).wf = true) :
    exec (.trimApply channel) s = .next (s.trimApply channel) :=
  gated_next (n := "TRIM_APPLY") ok

theorem exec_htrOffRelease (r : Requester) (tile : Nat) (word : Nat) (mask : Nat) (s : State) (ok : (Instr.htrOffRelease r tile word mask).wf = true) :
    exec (.htrOffRelease r tile word mask) s = .next (s.regWrite r (A.TL_HTR_OFF tile word) [mask]) :=
  gated_next (n := "HTR_OFF_RELEASE") ok

theorem exec_fdOffRelease (r : Requester) (tile : Nat) (word : Nat) (mask : Nat) (s : State) (ok : (Instr.fdOffRelease r tile word mask).wf = true) :
    exec (.fdOffRelease r tile word mask) s = .next (s.regWrite r (A.TL_FD_OFF tile word) [mask]) :=
  gated_next (n := "FD_OFF_RELEASE") ok

theorem exec_fdLevelWrite (r : Requester) (driver : Nat) (bar : Nat) (cross : Nat) (s : State) (ok : (Instr.fdLevelWrite r driver bar cross).wf = true) :
    exec (.fdLevelWrite r driver bar cross) s = .next (s.regWrite r (A.TL_FD_LEVEL (driver / 128) (driver % 128)) [cross * 65536 + bar]) :=
  gated_next (n := "FD_LEVEL_WRITE") ok

theorem exec_tlCalReq (r : Requester) (tile : Nat) (s : State) (ok : (Instr.tlCalReq r tile).wf = true) :
    exec (.tlCalReq r tile) s = .next (s.writeFields r (A.TL_CAL_CTRL tile) [(R.TL_CAL_CTRL_REQ tile, 1)]) :=
  gated_next (n := "TL_CAL_REQ") ok

theorem exec_tiaReq (r : Requester) (tile : Nat) (s : State) (ok : (Instr.tiaReq r tile).wf = true) :
    exec (.tiaReq r tile) s = .next (s.writeFields r (A.TL_CAL_CTRL tile) [(R.TL_CAL_CTRL_TIA_REQ tile, 1)]) :=
  gated_next (n := "TIA_REQ") ok

theorem exec_calAll (r : Requester) (s : State) (ok : (Instr.calAll r).wf = true) :
    exec (.calAll r) s = .next (s.writeFields r A.CAL_CTRL [(R.CAL_CTRL_ALL, 1)]) :=
  gated_next (n := "CAL_ALL") ok

theorem exec_tileRunStart (tile : Nat) (s : State) (ok : (Instr.tileRunStart tile).wf = true) :
    exec (.tileRunStart tile) s = .next (s.when s.clocked (·.tileRunStart tile)) :=
  gated_next (n := "TILE_RUN_START") ok

theorem exec_tileRunEnd (tile : Nat) (s : State) (ok : (Instr.tileRunEnd tile).wf = true) :
    exec (.tileRunEnd tile) s = .next (s.tileRunEnd tile) :=
  gated_next (n := "TILE_RUN_END") ok

theorem exec_svStart (r : Requester) (s : State) (ok : (Instr.svStart r).wf = true) :
    exec (.svStart r) s = .next (s.writeFields r A.SV_CTRL [(R.SV_CTRL_START, 1)]) :=
  gated_next (n := "SV_START") ok

theorem exec_svAbort (r : Requester) (s : State) (ok : (Instr.svAbort r).wf = true) :
    exec (.svAbort r) s = .next (s.writeFields r A.SV_CTRL [(R.SV_CTRL_ABORT, 1)]) :=
  gated_next (n := "SV_ABORT") ok

theorem exec_sweepPoint (s : State) :
    exec .sweepPoint s = .next (s.sweepPoint) :=
  gated_next (n := "SWEEP_POINT") rfl

theorem exec_sweepEnd (s : State) :
    exec .sweepEnd s = .next (s.sweepEnd) :=
  gated_next (n := "SWEEP_END") rfl

theorem exec_tdRateWrite (r : Requester) (domain : Nat) (low : Nat) (s : State) (ok : (Instr.tdRateWrite r domain low).wf = true) :
    exec (.tdRateWrite r domain low) s = .next (s.regWrite r (A.FT_TD_INCR_LO domain) [low]) :=
  gated_next (n := "TD_RATE_WRITE") ok

theorem exec_tdSet (r : Requester) (domain : Nat) (ns : Nat) (s : State) (ok : (Instr.tdSet r domain ns).wf = true) :
    exec (.tdSet r domain ns) s = .next (s.regWrite r (A.FT_TD_SET_NS domain) [ns]) :=
  gated_next (n := "TD_SET") ok

theorem exec_tdAdjust (r : Requester) (domain : Nat) (ns : Int) (s : State) (ok : (Instr.tdAdjust r domain ns).wf = true) :
    exec (.tdAdjust r domain ns) s = .next (s.regWrite r (A.FT_TD_ADJ domain) [unsigned 32 ns]) :=
  gated_next (n := "TD_ADJUST") ok

theorem exec_timeCapture (r : Requester) (s : State) (ok : (Instr.timeCapture r).wf = true) :
    exec (.timeCapture r) s = .next (s.writeFields r A.FT_CTRL [(R.FT_CTRL_CAPTURE, 1)]) :=
  gated_next (n := "TIME_CAPTURE") ok

theorem exec_align (r : Requester) (s : State) (ok : (Instr.align r).wf = true) :
    exec (.align r) s = .next (s.writeFields r A.FT_CTRL [(R.FT_CTRL_ALIGN, 1)]) :=
  gated_next (n := "ALIGN") ok

theorem exec_alignmentGapEnd (s : State) :
    exec .alignmentGapEnd s = .next (s.gapEnd) :=
  gated_next (n := "ALIGNMENT_GAP_END") rfl

theorem exec_holdover (domain : Nat) (s : State) (ok : (Instr.holdover domain).wf = true) :
    exec (.holdover domain) s = .next (s.holdover domain) :=
  gated_next (n := "HOLDOVER") ok

theorem exec_autoSwitch (s : State) :
    exec .autoSwitch s = .next (s.autoSwitch) :=
  gated_next (n := "AUTO_SWITCH") rfl

theorem exec_fclkLock (s : State) :
    exec .fclkLock s = .next (s.fclkLock) :=
  gated_next (n := "FCLK_LOCK") rfl

theorem exec_ppsEdge (stamp : Stamp) (s : State) (ok : (Instr.ppsEdge stamp).wf = true) :
    exec (.ppsEdge stamp) s = .next (s.when s.awake (·.ppsEdge stamp)) :=
  gated_next (n := "PPS_EDGE") ok

theorem exec_ppsGap (s : State) :
    exec .ppsGap s = .next (s.when s.awake State.ppsGap) :=
  gated_next (n := "PPS_GAP") rfl

theorem exec_ppsOutEdge (s : State) :
    exec .ppsOutEdge s = .next (s.when s.awake State.ppsOutEdge) :=
  gated_next (n := "PPS_OUT_EDGE") rfl

theorem exec_tsPop (r : Requester) (source : Nat) (s : State) (ok : (Instr.tsPop r source).wf = true) :
    exec (.tsPop r source) s = .next (s.regRead r (A.FT_TS_POP source 0) 1) :=
  gated_next (n := "TS_POP") ok

theorem exec_beaconRx (port : Nat) (b : Beacon) (rx : Stamp) (rx0 : Stamp) (rx1 : Stamp) (residence : Int) (tx : Stamp) (s : State) (ok : (Instr.beaconRx port b rx rx0 rx1 residence tx).wf = true) :
    exec (.beaconRx port b rx rx0 rx1 residence tx) s = .next (s.when (s.awake && !s.miscFenced (8 + port)) (·.beaconRx port b rx [rx0, rx1] residence tx)) :=
  gated_next (n := "BEACON_RX") ok

theorem exec_beaconPortSwitch (s : State) :
    exec .beaconPortSwitch s = .next (s.beaconSwitch) :=
  gated_next (n := "BEACON_PORT_SWITCH") rfl

theorem exec_linkMessageRx (port : Nat) (t1 : Int) (t2 : Int) (t3 : Int) (t4 : Int) (frame : Nat) (hops : Nat) (rx : Stamp) (tx : Stamp) (s : State) (ok : (Instr.linkMessageRx port t1 t2 t3 t4 frame hops rx tx).wf = true) :
    exec (.linkMessageRx port t1 t2 t3 t4 frame hops rx tx) s = .next (s.when (s.awake && !s.miscFenced (8 + port)) (·.linkMessage port t1 t2 t3 t4 frame hops rx tx)) :=
  gated_next (n := "LINK_MESSAGE_RX") ok

theorem exec_ringLost (port : Nat) (s : State) (ok : (Instr.ringLost port).wf = true) :
    exec (.ringLost port) s = .next (s.ringLost port) :=
  gated_next (n := "RING_LOST") ok

theorem exec_ringLock (domain : Nat) (s : State) (ok : (Instr.ringLock domain).wf = true) :
    exec (.ringLock domain) s = .next (s.ringLock domain) :=
  gated_next (n := "RING_LOCK") ok

theorem exec_apsinLinkDown (port : Nat) (s : State) (ok : (Instr.apsinLinkDown port).wf = true) :
    exec (.apsinLinkDown port) s = .next (s.when s.awake (·.apsinDown port)) :=
  gated_next (n := "APSIN_LINK_DOWN") ok

theorem exec_mtpWriteDone (good : Bool) (s : State) :
    exec (.mtpWriteDone good) s = .next ((s.mtpDone good).sessionFixed s) :=
  gated_next (n := "MTP_WRITE_DONE") rfl

theorem exec_keyRollApply (principal : Nat) (s : State) (ok : (Instr.keyRollApply principal).wf = true) :
    exec (.keyRollApply principal) s = .next (s.keyRollApply principal) :=
  gated_next (n := "KEY_ROLL_APPLY") ok

theorem exec_graceEnd (principal : Nat) (s : State) (ok : (Instr.graceEnd principal).wf = true) :
    exec (.graceEnd principal) s = .next (s.graceEnd principal) :=
  gated_next (n := "GRACE_END") ok

theorem exec_protectApply (s : State) :
    exec .protectApply s = .next (s.protectApply) :=
  gated_next (n := "PROTECT_APPLY") rfl

theorem exec_protectExpire (s : State) :
    exec .protectExpire s = .next (s.protectExpire) :=
  gated_next (n := "PROTECT_EXPIRE") rfl

theorem exec_atticProvGo (r : Requester) (s : State) (ok : (Instr.atticProvGo r).wf = true) :
    exec (.atticProvGo r) s = .next (s.regWrite r A.ATTIC_PROV_GO [1]) :=
  gated_next (n := "ATTIC_PROV_GO") ok

theorem exec_divergenceDecision (s : State) :
    exec .divergenceDecision s = .next (s.divDecide) :=
  gated_next (n := "DIVERGENCE_DECISION") rfl

theorem exec_centralAuditEnd (failA : Bool) (failB : Bool) (s : State) :
    exec (.centralAuditEnd failA failB) s = .next (s.auditEnd failA failB) :=
  gated_next (n := "CENTRAL_AUDIT_END") rfl

theorem exec_planeFence (plane : Plane) (s : State) :
    exec (.planeFence plane) s = .next ((s.fenceRow plane).noteMortem s) :=
  gated_next (n := "PLANE_FENCE") rfl

theorem exec_drillSwap (s : State) :
    exec .drillSwap s = .next (s.drillSwap) :=
  gated_next (n := "DRILL_SWAP") rfl

theorem exec_drillCheck (failed : List Nat) (supervisor : Bool) (s : State) (ok : (Instr.drillCheck failed supervisor).wf = true) :
    exec (.drillCheck failed supervisor) s = .next (s.drillCheck failed supervisor) :=
  gated_next (n := "DRILL_CHECK") ok

theorem exec_drillDue (s : State) :
    exec .drillDue s = .next (s.when s.clocked State.drillDue) :=
  gated_next (n := "DRILL_DUE") rfl

theorem exec_planeReturn (r : Requester) (s : State) (ok : (Instr.planeReturn r).wf = true) :
    exec (.planeReturn r) s = .next (s.writeFields r A.PL_CTRL [(R.PL_CTRL_RETURN, 1)]) :=
  gated_next (n := "RETURN") ok

theorem exec_returnBankTest (fail : Option (Nat × Nat)) (s : State) (ok : (Instr.returnBankTest fail).wf = true) :
    exec (.returnBankTest fail) s = .next (s.returnTest fail) :=
  gated_next (n := "RETURN_BANK_TEST") ok

theorem exec_lockstep (s : State) :
    exec .lockstep s = .next (s.lockstep) :=
  gated_next (n := "LOCKSTEP") rfl

theorem exec_returnEnd (s : State) :
    exec .returnEnd s = .next (s.returnEnd) :=
  gated_next (n := "RETURN_END") rfl

theorem exec_autoReturn (s : State) :
    exec .autoReturn s = .next (s.autoReturn) :=
  gated_next (n := "AUTO_RETURN") rfl

theorem exec_heartbeat (plane : Plane) (s : State) :
    exec (.heartbeat plane) s = .next (s.when s.clocked (·.heartbeat plane)) :=
  gated_next (n := "HEARTBEAT") rfl

theorem exec_faultMessage (cls : Nat) (inst : Nat) (kind : Nat) (plane : Nat) (count : Nat) (addr : Nat) (s : State) (ok : (Instr.faultMessage cls inst kind plane count addr).wf = true) :
    exec (.faultMessage cls inst kind plane count addr) s = .next (s.faultMessage { cls := cls, inst := inst, kind := kind, plane := plane, count := count, addr := addr }) :=
  gated_next (n := "FAULT_MESSAGE") ok

theorem exec_endReport (cls : Nat) (inst : Nat) (kind : Nat) (plane : Nat) (count : Nat) (addr : Nat) (s : State) (ok : (Instr.endReport cls inst kind plane count addr).wf = true) :
    exec (.endReport cls inst kind plane count addr) s = .next (s.endMessage { cls := cls, inst := inst, kind := kind, plane := plane, count := count, addr := addr }) :=
  gated_next (n := "END_REPORT") ok

theorem exec_clearFirst (r : Requester) (s : State) (ok : (Instr.clearFirst r).wf = true) :
    exec (.clearFirst r) s = .next (s.writeFields r A.FC_CTRL [(R.FC_CTRL_CLEAR_FIRST, 1)]) :=
  gated_next (n := "CLEAR_FIRST") ok

theorem exec_fcAck (r : Requester) (slots : Nat) (s : State) (ok : (Instr.fcAck r slots).wf = true) :
    exec (.fcAck r slots) s = .next (s.regWrite r A.FC_ACK [slots]) :=
  gated_next (n := "FC_ACK") ok

theorem exec_fcUnfence (r : Requester) (unit : Nat) (index : Nat) (s : State) (ok : (Instr.fcUnfence r unit index).wf = true) :
    exec (.fcUnfence r unit index) s = .next (s.writeFields r A.FC_UNFENCE [(R.FC_UNFENCE_UNIT, unit), (R.FC_UNFENCE_INDEX, index), (R.FC_UNFENCE_GO, 1)]) :=
  gated_next (n := "FC_UNFENCE") ok

theorem exec_coreRestart (plane : Plane) (s : State) :
    exec (.coreRestart plane) s = .next (s.coreRestart plane) :=
  gated_next (n := "CORE_RESTART") rfl

theorem exec_watchdog (plane : Plane) (s : State) :
    exec (.watchdog plane) s = .next (s.watchdog plane) :=
  gated_next (n := "WATCHDOG") rfl

theorem exec_trngHealth (s : State) :
    exec .trngHealth s = .next (s.trngHealth) :=
  gated_next (n := "TRNG_HEALTH") rfl

theorem exec_sensorRound (counts : List (Nat × Nat)) (s : State) (ok : (Instr.sensorRound counts).wf = true) :
    exec (.sensorRound counts) s = .next ((s.when s.awake (·.roundRow counts)).noteMortem s) :=
  gated_next (n := "SENSOR_ROUND") ok

theorem exec_sensorFail (sensor : Nat) (cause : Nat) (s : State) (ok : (Instr.sensorFail sensor cause).wf = true) :
    exec (.sensorFail sensor cause) s = .next (s.when (s.awake && !s.sensorFailed sensor && !s.masked sensor) (·.failSensor sensor cause)) :=
  gated_next (n := "SENSOR_FAIL") ok

theorem exec_analogTrip (s : State) :
    exec .analogTrip s = .next ((s.when s.sbAnswers (·.tripNow true)).noteMortem s) :=
  gated_next (n := "ANALOG_TRIP") rfl

theorem exec_tripHalt (s : State) :
    exec .tripHalt s = .next (s.tripHalt) :=
  gated_next (n := "TRIP_HALT") rfl

theorem exec_deepSleepSensor (count : Nat) (s : State) (ok : (Instr.deepSleepSensor count).wf = true) :
    exec (.deepSleepSensor count) s = .next (s.when (decide (s.power = .deepSleep)) (·.deepSensor count)) :=
  gated_next (n := "DEEP_SLEEP_SENSOR") ok

theorem exec_domainStop (veto : Bool) (s : State) :
    exec (.domainStop veto) s = .next ((s.domainStop veto).enterOff) :=
  gated_next (n := "DOMAIN_STOP") rfl

theorem exec_wakeNLow (us : Nat) (s : State) :
    exec (.wakeNLow us) s = .next (s.wakeN us) :=
  gated_next (n := "WAKE_N_LOW") rfl

theorem exec_clockAlarm (s : State) :
    exec .clockAlarm s = .next (s.when s.sbAnswers State.clockAlarm) :=
  gated_next (n := "CLOCK_ALARM") rfl

theorem exec_laneWake (lane : Nat) (s : State) (ok : (Instr.laneWake lane).wf = true) :
    exec (.laneWake lane) s = .next (s.laneWake lane) :=
  gated_next (n := "LANE_WAKE") ok

theorem exec_loopsResume (banks : List (Plane × Nat)) (sets : List Nat) (s : State) (ok : (Instr.loopsResume banks sets).wf = true) :
    exec (.loopsResume banks sets) s = .next (s.loopsResume banks sets) :=
  gated_next (n := "LOOPS_RESUME") ok

theorem exec_domainWakeOnDemand (domain : Nat) (s : State) (ok : (Instr.domainWakeOnDemand domain).wf = true) :
    exec (.domainWakeOnDemand domain) s = .next (s.when s.awake (·.wakeDomain domain)) :=
  gated_next (n := "DOMAIN_WAKE_ON_DEMAND") ok

theorem exec_wakeStall (domain : Nat) (us : Nat) (s : State) (ok : (Instr.wakeStall domain us).wf = true) :
    exec (.wakeStall domain us) s = .next (s.when s.awake (·.wakeStall domain us)) :=
  gated_next (n := "WAKE_STALL") ok

theorem exec_reset (resetN : Bool) (vaon : Bool) (s : State) :
    exec (.reset resetN vaon) s = .next (s.inReset vaon resetN .reset) :=
  gated_next (n := "RESET") rfl

theorem exec_startUp (bootMode : Nat) (pos : Nat) (sba : Nat) (trust : Bool) (flash : List (Nat × List Nat)) (s : State) (ok : (Instr.startUp bootMode pos sba trust flash).wf = true) :
    exec (.startUp bootMode pos sba trust flash) s = .next (s.startUp bootMode pos sba trust flash) :=
  gated_next (n := "START_UP") ok

theorem exec_selftestDone (plane : Plane) (bank : Option (Nat × Nat)) (core : Bool) (s : State) (ok : (Instr.selftestDone plane bank core).wf = true) :
    exec (.selftestDone plane bank core) s = .next (s.selftestDone plane bank core) :=
  gated_next (n := "SELFTEST_DONE") ok

theorem exec_loadInRise (s : State) :
    exec .loadInRise s = .next (s.loadInRise) :=
  gated_next (n := "LOAD_IN_RISE") rfl

theorem exec_firstPassTimeout (s : State) :
    exec .firstPassTimeout s = .next (s.firstPassTimeout) :=
  gated_next (n := "FIRST_PASS_TIMEOUT") rfl

theorem exec_passReadEnd (slot : Nat) (density : Option Nat) (flash : List (Nat × List Nat)) (s : State) (ok : (Instr.passReadEnd slot density flash).wf = true) :
    exec (.passReadEnd slot density flash) s = .next (s.passReadEnd slot density flash) :=
  gated_next (n := "PASS_READ_END") ok

theorem exec_secondPass (s : State) :
    exec .secondPass s = .next (s.secondPass) :=
  gated_next (n := "SECOND_PASS") rfl

theorem exec_runEntry (ms : Nat) (s : State) :
    exec (.runEntry ms) s = .next (s.enterRun ms) :=
  gated_next (n := "RUN_ENTRY") rfl

theorem exec_locked (ms : Nat) (s : State) :
    exec (.locked ms) s = .next (s.lockedNow ms) :=
  gated_next (n := "LOCKED") rfl

theorem exec_bootStatusRx (pos : Nat) (serial : Nat) (state : Nat) (slot : Nat) (sec : Nat) (digest : Nat) (s : State) (ok : (Instr.bootStatusRx pos serial state slot sec digest).wf = true) :
    exec (.bootStatusRx pos serial state slot sec digest) s = .next (s.ringMessage (·.bootStatus pos serial state slot sec digest)) :=
  gated_next (n := "BOOT_STATUS_RX") ok

theorem exec_passRequestRx (s : State) :
    exec .passRequestRx s = .next (s.passRequest) :=
  gated_next (n := "PASS_REQUEST_RX") rfl

theorem exec_passRequestRetry (s : State) :
    exec .passRequestRetry s = .next (s.passRetry) :=
  gated_next (n := "PASS_REQUEST_RETRY") rfl

theorem exec_pmErase (s : State) :
    exec .pmErase s = .next (s.pmErase) :=
  gated_next (n := "PM_ERASE") rfl

theorem exec_norRead (r : Requester) (length : Nat) (s : State) (ok : (Instr.norRead r length).wf = true) :
    exec (.norRead r length) s = .next (s.writeFields r A.BT_NOR_CTRL [(R.BT_NOR_CTRL_OP, 0), (R.BT_NOR_CTRL_LENGTH, length), (R.BT_NOR_CTRL_GO, 1)]) :=
  gated_next (n := "NOR_READ") ok

theorem exec_norProgram (r : Requester) (length : Nat) (s : State) (ok : (Instr.norProgram r length).wf = true) :
    exec (.norProgram r length) s = .next (s.writeFields r A.BT_NOR_CTRL [(R.BT_NOR_CTRL_OP, 1), (R.BT_NOR_CTRL_LENGTH, length), (R.BT_NOR_CTRL_GO, 1)]) :=
  gated_next (n := "NOR_PROGRAM") ok

theorem exec_norErase (r : Requester) (length : Nat) (s : State) (ok : (Instr.norErase r length).wf = true) :
    exec (.norErase r length) s = .next (s.writeFields r A.BT_NOR_CTRL [(R.BT_NOR_CTRL_OP, 2), (R.BT_NOR_CTRL_LENGTH, length), (R.BT_NOR_CTRL_GO, 1)]) :=
  gated_next (n := "NOR_ERASE") ok

theorem exec_norOpDone (flash : List (Nat × List Nat)) (s : State) (ok : (Instr.norOpDone flash).wf = true) :
    exec (.norOpDone flash) s = .next (s.norDone flash) :=
  gated_next (n := "NOR_OP_DONE") ok

theorem exec_btReboot (r : Requester) (slot : Nat) (s : State) (ok : (Instr.btReboot r slot).wf = true) :
    exec (.btReboot r slot) s = .next (s.writeFields r A.BT_CTRL [(R.BT_CTRL_SLOT, slot), (R.BT_CTRL_REBOOT, 1)]) :=
  gated_next (n := "BT_REBOOT") ok

theorem exec_rebootReset (s : State) :
    exec .rebootReset s = .next (s.rebootReset) :=
  gated_next (n := "REBOOT_RESET") rfl

theorem exec_modeApply (s : State) :
    exec .modeApply s = .next (s.when s.clocked State.modeApply) :=
  gated_next (n := "MODE_APPLY") rfl

theorem exec_rtRemapWrite (r : Requester) (logical : Nat) (useAlt : Bool) (s : State) (ok : (Instr.rtRemapWrite r logical useAlt).wf = true) :
    exec (.rtRemapWrite r logical useAlt) s = .next (s.regWrite r A.RT_REMAP [(if useAlt then 2 ^ 31 else 0) + logical]) :=
  gated_next (n := "RT_REMAP_WRITE") ok

theorem exec_snapshotLoRead (r : Requester) (addr : Nat) (s : State) (ok : (Instr.snapshotLoRead r addr).wf = true) :
    exec (.snapshotLoRead r addr) s = .next (s.regRead r addr 1) :=
  gated_next (n := "SNAPSHOT_LO_READ") ok

theorem exec_rcRead (r : Requester) (addr : Nat) (words : Nat) (s : State) (ok : (Instr.rcRead r addr words).wf = true) :
    exec (.rcRead r addr words) s = .next (s.regRead r addr words) :=
  gated_next (n := "RC_READ") ok

theorem exec_registerWrite (r : Requester) (addr : Nat) (data : List Nat) (s : State) (ok : (Instr.registerWrite r addr data).wf = true) :
    exec (.registerWrite r addr data) s = .next (s.regWrite r addr data) :=
  gated_next (n := "REGISTER_WRITE") ok

theorem exec_loadInFall (s : State) :
    exec .loadInFall s = .next (s.loadInFall) :=
  gated_next (n := "LOAD_IN_FALL") rfl

theorem exec_deviceReady (s : State) :
    exec .deviceReady s = .next (s.deviceReady) :=
  gated_next (n := "DEVICE_READY") rfl

theorem exec_domainReady (domain : Nat) (s : State) (ok : (Instr.domainReady domain).wf = true) :
    exec (.domainReady domain) s = .next (s.when s.awake (·.domainReady domain)) :=
  gated_next (n := "DOMAIN_READY") ok

theorem exec_refclkLoss (s : State) :
    exec .refclkLoss s = .next (s.refclkLoss) :=
  gated_next (n := "REFCLK_LOSS") rfl

end Sys2Proof.Machine
end

