-- ==== Sys2Proof/Laws/Same.lean ====
section
/-! SUPPORT. Laws/Same.lean: what an operation leaves: `Same o b s` says that `s` agrees with `b` on every part whose bit in the mask `o` is 0. -/

set_option linter.all false
set_option Elab.async false

namespace Sys2Proof.Machine

open Sys2Proof

/-- The number of a part's bit. -/
def Part.ix : Part → Nat
  | .clk => 0
  | .shared => 1
  | .privA => 2
  | .privB => 3
  | .shadows => 4
  | .access => 5
  | .mode => 6
  | .modeNext => 7
  | .power => 8
  | .image => 9
  | .fabric => 10
  | .route => 11
  | .com => 12
  | .links => 13
  | .sb => 14
  | .sched => 15
  | .prot => 16
  | .faults => 17
  | .sense => 18
  | .cap => 19
  | .hka => 20
  | .dith => 21
  | .gens => 22
  | .loop => 23
  | .clips => 24
  | .act => 25
  | .cal => 26
  | .time => 27
  | .pl => 28
  | .therm => 29
  | .pw => 30
  | .dust => 31
  | .avail => 32
  | .boot => 33
  | .nor => 34
  | .evt => 35
  | .free => 36
  | .pending => 37

/-- `s` agrees with `b` outside the parts of the mask. -/
def Same (o : Nat) (b s : State) : Prop := ∀ p : Part, o.testBit p.ix = false → b.agree p s

/-- A mask holds what a smaller one holds. -/
theorem mask_sub {k l o : Nat} (h : k &&& l = k) (ho : l &&& o = l) : k &&& o = k := by
  rw [← h, Nat.and_assoc, ho]

theorem part_bit {k o : Nat} (h : 2 ^ k &&& o = 2 ^ k) : o.testBit k = true := by
  have h' := congrArg (fun x => x.testBit k) h
  simpa [Nat.testBit_and, Nat.testBit_two_pow_self] using h'

/-- Nothing is asked of a part of the mask. -/
theorem part_off {k l o : Nat} {P : Prop} (h : 2 ^ k &&& l = 2 ^ k) (ho : l &&& o = l) : o.testBit k = false → P :=
  fun e => absurd (part_bit (mask_sub h ho)) (by simp [e])

theorem same_refl {o : Nat} {s : State} : Same o s s := by
  intro p _
  cases p <;> first | exact rfl | exact ⟨rfl, rfl⟩ | exact ⟨rfl, rfl, rfl⟩

theorem Same.clk_ {o : Nat} {b s : State} {x_clk : Clock} (h : Same o b s) (ho : 1 &&& o = 1) :
    Same o b (State.mk x_clk s.reg s.mode s.modeNext s.power s.imageApplied s.fabric s.route s.com s.links s.sb s.sched s.prot s.faults s.sense s.cap s.hka s.dith s.gens s.loop s.clips s.act s.cal s.time s.pl s.therm s.pw s.dust s.avail s.boot s.nor s.evtLevel s.evtRise s.freeCount s.pending) := by
  intro p hp
  cases p <;> first | exact h _ hp | exact part_off (k := 0) (l := 1) (by decide) ho hp

theorem Same.mode_ {o : Nat} {b s : State} {x_mode : Mode} (h : Same o b s) (ho : 64 &&& o = 64) :
    Same o b (State.mk s.clk s.reg x_mode s.modeNext s.power s.imageApplied s.fabric s.route s.com s.links s.sb s.sched s.prot s.faults s.sense s.cap s.hka s.dith s.gens s.loop s.clips s.act s.cal s.time s.pl s.therm s.pw s.dust s.avail s.boot s.nor s.evtLevel s.evtRise s.freeCount s.pending) := by
  intro p hp
  cases p <;> first | exact h _ hp | exact part_off (k := 6) (l := 64) (by decide) ho hp

theorem Same.modeNext_ {o : Nat} {b s : State} {x_modeNext : Option (Mode × Nat)} (h : Same o b s) (ho : 128 &&& o = 128) :
    Same o b (State.mk s.clk s.reg s.mode x_modeNext s.power s.imageApplied s.fabric s.route s.com s.links s.sb s.sched s.prot s.faults s.sense s.cap s.hka s.dith s.gens s.loop s.clips s.act s.cal s.time s.pl s.therm s.pw s.dust s.avail s.boot s.nor s.evtLevel s.evtRise s.freeCount s.pending) := by
  intro p hp
  cases p <;> first | exact h _ hp | exact part_off (k := 7) (l := 128) (by decide) ho hp

theorem Same.power_ {o : Nat} {b s : State} {x_power : PowerState} (h : Same o b s) (ho : 256 &&& o = 256) :
    Same o b (State.mk s.clk s.reg s.mode s.modeNext x_power s.imageApplied s.fabric s.route s.com s.links s.sb s.sched s.prot s.faults s.sense s.cap s.hka s.dith s.gens s.loop s.clips s.act s.cal s.time s.pl s.therm s.pw s.dust s.avail s.boot s.nor s.evtLevel s.evtRise s.freeCount s.pending) := by
  intro p hp
  cases p <;> first | exact h _ hp | exact part_off (k := 8) (l := 256) (by decide) ho hp

theorem Same.image_ {o : Nat} {b s : State} {x_imageApplied : Bool} (h : Same o b s) (ho : 512 &&& o = 512) :
    Same o b (State.mk s.clk s.reg s.mode s.modeNext s.power x_imageApplied s.fabric s.route s.com s.links s.sb s.sched s.prot s.faults s.sense s.cap s.hka s.dith s.gens s.loop s.clips s.act s.cal s.time s.pl s.therm s.pw s.dust s.avail s.boot s.nor s.evtLevel s.evtRise s.freeCount s.pending) := by
  intro p hp
  cases p <;> first | exact h _ hp | exact part_off (k := 9) (l := 512) (by decide) ho hp

theorem Same.fabric_ {o : Nat} {b s : State} {x_fabric : Fabric} (h : Same o b s) (ho : 1024 &&& o = 1024) :
    Same o b (State.mk s.clk s.reg s.mode s.modeNext s.power s.imageApplied x_fabric s.route s.com s.links s.sb s.sched s.prot s.faults s.sense s.cap s.hka s.dith s.gens s.loop s.clips s.act s.cal s.time s.pl s.therm s.pw s.dust s.avail s.boot s.nor s.evtLevel s.evtRise s.freeCount s.pending) := by
  intro p hp
  cases p <;> first | exact h _ hp | exact part_off (k := 10) (l := 1024) (by decide) ho hp

theorem Same.route_ {o : Nat} {b s : State} {x_route : Route} (h : Same o b s) (ho : 2048 &&& o = 2048) :
    Same o b (State.mk s.clk s.reg s.mode s.modeNext s.power s.imageApplied s.fabric x_route s.com s.links s.sb s.sched s.prot s.faults s.sense s.cap s.hka s.dith s.gens s.loop s.clips s.act s.cal s.time s.pl s.therm s.pw s.dust s.avail s.boot s.nor s.evtLevel s.evtRise s.freeCount s.pending) := by
  intro p hp
  cases p <;> first | exact h _ hp | exact part_off (k := 11) (l := 2048) (by decide) ho hp

theorem Same.com_ {o : Nat} {b s : State} {x_com : CommitState} (h : Same o b s) (ho : 4096 &&& o = 4096) :
    Same o b (State.mk s.clk s.reg s.mode s.modeNext s.power s.imageApplied s.fabric s.route x_com s.links s.sb s.sched s.prot s.faults s.sense s.cap s.hka s.dith s.gens s.loop s.clips s.act s.cal s.time s.pl s.therm s.pw s.dust s.avail s.boot s.nor s.evtLevel s.evtRise s.freeCount s.pending) := by
  intro p hp
  cases p <;> first | exact h _ hp | exact part_off (k := 12) (l := 4096) (by decide) ho hp

theorem Same.links_ {o : Nat} {b s : State} {x_links : Links} (h : Same o b s) (ho : 8192 &&& o = 8192) :
    Same o b (State.mk s.clk s.reg s.mode s.modeNext s.power s.imageApplied s.fabric s.route s.com x_links s.sb s.sched s.prot s.faults s.sense s.cap s.hka s.dith s.gens s.loop s.clips s.act s.cal s.time s.pl s.therm s.pw s.dust s.avail s.boot s.nor s.evtLevel s.evtRise s.freeCount s.pending) := by
  intro p hp
  cases p <;> first | exact h _ hp | exact part_off (k := 13) (l := 8192) (by decide) ho hp

theorem Same.sb_ {o : Nat} {b s : State} {x_sb : Sideband} (h : Same o b s) (ho : 16384 &&& o = 16384) :
    Same o b (State.mk s.clk s.reg s.mode s.modeNext s.power s.imageApplied s.fabric s.route s.com s.links x_sb s.sched s.prot s.faults s.sense s.cap s.hka s.dith s.gens s.loop s.clips s.act s.cal s.time s.pl s.therm s.pw s.dust s.avail s.boot s.nor s.evtLevel s.evtRise s.freeCount s.pending) := by
  intro p hp
  cases p <;> first | exact h _ hp | exact part_off (k := 14) (l := 16384) (by decide) ho hp

theorem Same.sched_ {o : Nat} {b s : State} {x_sched : Sched} (h : Same o b s) (ho : 32768 &&& o = 32768) :
    Same o b (State.mk s.clk s.reg s.mode s.modeNext s.power s.imageApplied s.fabric s.route s.com s.links s.sb x_sched s.prot s.faults s.sense s.cap s.hka s.dith s.gens s.loop s.clips s.act s.cal s.time s.pl s.therm s.pw s.dust s.avail s.boot s.nor s.evtLevel s.evtRise s.freeCount s.pending) := by
  intro p hp
  cases p <;> first | exact h _ hp | exact part_off (k := 15) (l := 32768) (by decide) ho hp

theorem Same.prot_ {o : Nat} {b s : State} {x_prot : Protect} (h : Same o b s) (ho : 65536 &&& o = 65536) :
    Same o b (State.mk s.clk s.reg s.mode s.modeNext s.power s.imageApplied s.fabric s.route s.com s.links s.sb s.sched x_prot s.faults s.sense s.cap s.hka s.dith s.gens s.loop s.clips s.act s.cal s.time s.pl s.therm s.pw s.dust s.avail s.boot s.nor s.evtLevel s.evtRise s.freeCount s.pending) := by
  intro p hp
  cases p <;> first | exact h _ hp | exact part_off (k := 16) (l := 65536) (by decide) ho hp

theorem Same.faults_ {o : Nat} {b s : State} {x_faults : Faults} (h : Same o b s) (ho : 131072 &&& o = 131072) :
    Same o b (State.mk s.clk s.reg s.mode s.modeNext s.power s.imageApplied s.fabric s.route s.com s.links s.sb s.sched s.prot x_faults s.sense s.cap s.hka s.dith s.gens s.loop s.clips s.act s.cal s.time s.pl s.therm s.pw s.dust s.avail s.boot s.nor s.evtLevel s.evtRise s.freeCount s.pending) := by
  intro p hp
  cases p <;> first | exact h _ hp | exact part_off (k := 17) (l := 131072) (by decide) ho hp

theorem Same.sense_ {o : Nat} {b s : State} {x_sense : Sense} (h : Same o b s) (ho : 262144 &&& o = 262144) :
    Same o b (State.mk s.clk s.reg s.mode s.modeNext s.power s.imageApplied s.fabric s.route s.com s.links s.sb s.sched s.prot s.faults x_sense s.cap s.hka s.dith s.gens s.loop s.clips s.act s.cal s.time s.pl s.therm s.pw s.dust s.avail s.boot s.nor s.evtLevel s.evtRise s.freeCount s.pending) := by
  intro p hp
  cases p <;> first | exact h _ hp | exact part_off (k := 18) (l := 262144) (by decide) ho hp

theorem Same.cap_ {o : Nat} {b s : State} {x_cap : Capture} (h : Same o b s) (ho : 524288 &&& o = 524288) :
    Same o b (State.mk s.clk s.reg s.mode s.modeNext s.power s.imageApplied s.fabric s.route s.com s.links s.sb s.sched s.prot s.faults s.sense x_cap s.hka s.dith s.gens s.loop s.clips s.act s.cal s.time s.pl s.therm s.pw s.dust s.avail s.boot s.nor s.evtLevel s.evtRise s.freeCount s.pending) := by
  intro p hp
  cases p <;> first | exact h _ hp | exact part_off (k := 19) (l := 524288) (by decide) ho hp

theorem Same.hka_ {o : Nat} {b s : State} {x_hka : Hka} (h : Same o b s) (ho : 1048576 &&& o = 1048576) :
    Same o b (State.mk s.clk s.reg s.mode s.modeNext s.power s.imageApplied s.fabric s.route s.com s.links s.sb s.sched s.prot s.faults s.sense s.cap x_hka s.dith s.gens s.loop s.clips s.act s.cal s.time s.pl s.therm s.pw s.dust s.avail s.boot s.nor s.evtLevel s.evtRise s.freeCount s.pending) := by
  intro p hp
  cases p <;> first | exact h _ hp | exact part_off (k := 20) (l := 1048576) (by decide) ho hp

theorem Same.dith_ {o : Nat} {b s : State} {x_dith : Dither} (h : Same o b s) (ho : 2097152 &&& o = 2097152) :
    Same o b (State.mk s.clk s.reg s.mode s.modeNext s.power s.imageApplied s.fabric s.route s.com s.links s.sb s.sched s.prot s.faults s.sense s.cap s.hka x_dith s.gens s.loop s.clips s.act s.cal s.time s.pl s.therm s.pw s.dust s.avail s.boot s.nor s.evtLevel s.evtRise s.freeCount s.pending) := by
  intro p hp
  cases p <;> first | exact h _ hp | exact part_off (k := 21) (l := 2097152) (by decide) ho hp

theorem Same.gens_ {o : Nat} {b s : State} {x_gens : List Gen} (h : Same o b s) (ho : 4194304 &&& o = 4194304) :
    Same o b (State.mk s.clk s.reg s.mode s.modeNext s.power s.imageApplied s.fabric s.route s.com s.links s.sb s.sched s.prot s.faults s.sense s.cap s.hka s.dith x_gens s.loop s.clips s.act s.cal s.time s.pl s.therm s.pw s.dust s.avail s.boot s.nor s.evtLevel s.evtRise s.freeCount s.pending) := by
  intro p hp
  cases p <;> first | exact h _ hp | exact part_off (k := 22) (l := 4194304) (by decide) ho hp

theorem Same.loop_ {o : Nat} {b s : State} {x_loop : Loop} (h : Same o b s) (ho : 8388608 &&& o = 8388608) :
    Same o b (State.mk s.clk s.reg s.mode s.modeNext s.power s.imageApplied s.fabric s.route s.com s.links s.sb s.sched s.prot s.faults s.sense s.cap s.hka s.dith s.gens x_loop s.clips s.act s.cal s.time s.pl s.therm s.pw s.dust s.avail s.boot s.nor s.evtLevel s.evtRise s.freeCount s.pending) := by
  intro p hp
  cases p <;> first | exact h _ hp | exact part_off (k := 23) (l := 8388608) (by decide) ho hp

theorem Same.clips_ {o : Nat} {b s : State} {x_clips : Clips} (h : Same o b s) (ho : 16777216 &&& o = 16777216) :
    Same o b (State.mk s.clk s.reg s.mode s.modeNext s.power s.imageApplied s.fabric s.route s.com s.links s.sb s.sched s.prot s.faults s.sense s.cap s.hka s.dith s.gens s.loop x_clips s.act s.cal s.time s.pl s.therm s.pw s.dust s.avail s.boot s.nor s.evtLevel s.evtRise s.freeCount s.pending) := by
  intro p hp
  cases p <;> first | exact h _ hp | exact part_off (k := 24) (l := 16777216) (by decide) ho hp

theorem Same.act_ {o : Nat} {b s : State} {x_act : Act} (h : Same o b s) (ho : 33554432 &&& o = 33554432) :
    Same o b (State.mk s.clk s.reg s.mode s.modeNext s.power s.imageApplied s.fabric s.route s.com s.links s.sb s.sched s.prot s.faults s.sense s.cap s.hka s.dith s.gens s.loop s.clips x_act s.cal s.time s.pl s.therm s.pw s.dust s.avail s.boot s.nor s.evtLevel s.evtRise s.freeCount s.pending) := by
  intro p hp
  cases p <;> first | exact h _ hp | exact part_off (k := 25) (l := 33554432) (by decide) ho hp

theorem Same.cal_ {o : Nat} {b s : State} {x_cal : Cal} (h : Same o b s) (ho : 67108864 &&& o = 67108864) :
    Same o b (State.mk s.clk s.reg s.mode s.modeNext s.power s.imageApplied s.fabric s.route s.com s.links s.sb s.sched s.prot s.faults s.sense s.cap s.hka s.dith s.gens s.loop s.clips s.act x_cal s.time s.pl s.therm s.pw s.dust s.avail s.boot s.nor s.evtLevel s.evtRise s.freeCount s.pending) := by
  intro p hp
  cases p <;> first | exact h _ hp | exact part_off (k := 26) (l := 67108864) (by decide) ho hp

theorem Same.time_ {o : Nat} {b s : State} {x_time : Time} (h : Same o b s) (ho : 134217728 &&& o = 134217728) :
    Same o b (State.mk s.clk s.reg s.mode s.modeNext s.power s.imageApplied s.fabric s.route s.com s.links s.sb s.sched s.prot s.faults s.sense s.cap s.hka s.dith s.gens s.loop s.clips s.act s.cal x_time s.pl s.therm s.pw s.dust s.avail s.boot s.nor s.evtLevel s.evtRise s.freeCount s.pending) := by
  intro p hp
  cases p <;> first | exact h _ hp | exact part_off (k := 27) (l := 134217728) (by decide) ho hp

theorem Same.pl_ {o : Nat} {b s : State} {x_pl : PlaneSt} (h : Same o b s) (ho : 268435456 &&& o = 268435456) :
    Same o b (State.mk s.clk s.reg s.mode s.modeNext s.power s.imageApplied s.fabric s.route s.com s.links s.sb s.sched s.prot s.faults s.sense s.cap s.hka s.dith s.gens s.loop s.clips s.act s.cal s.time x_pl s.therm s.pw s.dust s.avail s.boot s.nor s.evtLevel s.evtRise s.freeCount s.pending) := by
  intro p hp
  cases p <;> first | exact h _ hp | exact part_off (k := 28) (l := 268435456) (by decide) ho hp

theorem Same.therm_ {o : Nat} {b s : State} {x_therm : Thermal} (h : Same o b s) (ho : 536870912 &&& o = 536870912) :
    Same o b (State.mk s.clk s.reg s.mode s.modeNext s.power s.imageApplied s.fabric s.route s.com s.links s.sb s.sched s.prot s.faults s.sense s.cap s.hka s.dith s.gens s.loop s.clips s.act s.cal s.time s.pl x_therm s.pw s.dust s.avail s.boot s.nor s.evtLevel s.evtRise s.freeCount s.pending) := by
  intro p hp
  cases p <;> first | exact h _ hp | exact part_off (k := 29) (l := 536870912) (by decide) ho hp

theorem Same.pw_ {o : Nat} {b s : State} {x_pw : PowerSt} (h : Same o b s) (ho : 1073741824 &&& o = 1073741824) :
    Same o b (State.mk s.clk s.reg s.mode s.modeNext s.power s.imageApplied s.fabric s.route s.com s.links s.sb s.sched s.prot s.faults s.sense s.cap s.hka s.dith s.gens s.loop s.clips s.act s.cal s.time s.pl s.therm x_pw s.dust s.avail s.boot s.nor s.evtLevel s.evtRise s.freeCount s.pending) := by
  intro p hp
  cases p <;> first | exact h _ hp | exact part_off (k := 30) (l := 1073741824) (by decide) ho hp

theorem Same.dust_ {o : Nat} {b s : State} {x_dust : Dust} (h : Same o b s) (ho : 2147483648 &&& o = 2147483648) :
    Same o b (State.mk s.clk s.reg s.mode s.modeNext s.power s.imageApplied s.fabric s.route s.com s.links s.sb s.sched s.prot s.faults s.sense s.cap s.hka s.dith s.gens s.loop s.clips s.act s.cal s.time s.pl s.therm s.pw x_dust s.avail s.boot s.nor s.evtLevel s.evtRise s.freeCount s.pending) := by
  intro p hp
  cases p <;> first | exact h _ hp | exact part_off (k := 31) (l := 2147483648) (by decide) ho hp

theorem Same.avail_ {o : Nat} {b s : State} {x_avail : Avail} (h : Same o b s) (ho : 4294967296 &&& o = 4294967296) :
    Same o b (State.mk s.clk s.reg s.mode s.modeNext s.power s.imageApplied s.fabric s.route s.com s.links s.sb s.sched s.prot s.faults s.sense s.cap s.hka s.dith s.gens s.loop s.clips s.act s.cal s.time s.pl s.therm s.pw s.dust x_avail s.boot s.nor s.evtLevel s.evtRise s.freeCount s.pending) := by
  intro p hp
  cases p <;> first | exact h _ hp | exact part_off (k := 32) (l := 4294967296) (by decide) ho hp

theorem Same.boot_ {o : Nat} {b s : State} {x_boot : Boot} (h : Same o b s) (ho : 8589934592 &&& o = 8589934592) :
    Same o b (State.mk s.clk s.reg s.mode s.modeNext s.power s.imageApplied s.fabric s.route s.com s.links s.sb s.sched s.prot s.faults s.sense s.cap s.hka s.dith s.gens s.loop s.clips s.act s.cal s.time s.pl s.therm s.pw s.dust s.avail x_boot s.nor s.evtLevel s.evtRise s.freeCount s.pending) := by
  intro p hp
  cases p <;> first | exact h _ hp | exact part_off (k := 33) (l := 8589934592) (by decide) ho hp

theorem Same.nor_ {o : Nat} {b s : State} {x_nor : List Host.Cell} (h : Same o b s) (ho : 17179869184 &&& o = 17179869184) :
    Same o b (State.mk s.clk s.reg s.mode s.modeNext s.power s.imageApplied s.fabric s.route s.com s.links s.sb s.sched s.prot s.faults s.sense s.cap s.hka s.dith s.gens s.loop s.clips s.act s.cal s.time s.pl s.therm s.pw s.dust s.avail s.boot x_nor s.evtLevel s.evtRise s.freeCount s.pending) := by
  intro p hp
  cases p <;> first | exact h _ hp | exact part_off (k := 34) (l := 17179869184) (by decide) ho hp

theorem Same.evt_ {o : Nat} {b s : State} {x_evtLevel : Nat} {x_evtRise : Nat} (h : Same o b s) (ho : 34359738368 &&& o = 34359738368) :
    Same o b (State.mk s.clk s.reg s.mode s.modeNext s.power s.imageApplied s.fabric s.route s.com s.links s.sb s.sched s.prot s.faults s.sense s.cap s.hka s.dith s.gens s.loop s.clips s.act s.cal s.time s.pl s.therm s.pw s.dust s.avail s.boot s.nor x_evtLevel x_evtRise s.freeCount s.pending) := by
  intro p hp
  cases p <;> first | exact h _ hp | exact part_off (k := 35) (l := 34359738368) (by decide) ho hp

theorem Same.free_ {o : Nat} {b s : State} {x_freeCount : Nat} (h : Same o b s) (ho : 68719476736 &&& o = 68719476736) :
    Same o b (State.mk s.clk s.reg s.mode s.modeNext s.power s.imageApplied s.fabric s.route s.com s.links s.sb s.sched s.prot s.faults s.sense s.cap s.hka s.dith s.gens s.loop s.clips s.act s.cal s.time s.pl s.therm s.pw s.dust s.avail s.boot s.nor s.evtLevel s.evtRise x_freeCount s.pending) := by
  intro p hp
  cases p <;> first | exact h _ hp | exact part_off (k := 36) (l := 68719476736) (by decide) ho hp

theorem Same.pending_ {o : Nat} {b s : State} {x_pending : List Instr} (h : Same o b s) (ho : 137438953472 &&& o = 137438953472) :
    Same o b (State.mk s.clk s.reg s.mode s.modeNext s.power s.imageApplied s.fabric s.route s.com s.links s.sb s.sched s.prot s.faults s.sense s.cap s.hka s.dith s.gens s.loop s.clips s.act s.cal s.time s.pl s.therm s.pw s.dust s.avail s.boot s.nor s.evtLevel s.evtRise s.freeCount x_pending) := by
  intro p hp
  cases p <;> first | exact h _ hp | exact part_off (k := 37) (l := 137438953472) (by decide) ho hp

theorem Same.reg_ {o : Nat} {b s : State} {x : RegState} (h : Same o b s) (h0 : o.testBit 1 = false → x.shared = s.reg.shared)
    (h1 : o.testBit 2 = false → x.privA = s.reg.privA) (h2 : o.testBit 3 = false → x.privB = s.reg.privB)
    (h3 : o.testBit 4 = false → x.shadows = s.reg.shadows)
    (h4 : o.testBit 5 = false → x.planeSel = s.reg.planeSel ∧ x.snapshot = s.reg.snapshot ∧ x.heldHi = s.reg.heldHi) :
    Same o b (State.mk s.clk x s.mode s.modeNext s.power s.imageApplied s.fabric s.route s.com s.links s.sb s.sched s.prot s.faults s.sense s.cap s.hka s.dith s.gens s.loop s.clips s.act s.cal s.time s.pl s.therm s.pw s.dust s.avail s.boot s.nor s.evtLevel s.evtRise s.freeCount s.pending) := by
  intro p hp
  cases p
  case shared => exact (h0 hp).trans (h .shared hp)
  case privA => exact (h1 hp).trans (h .privA hp)
  case privB => exact (h2 hp).trans (h .privB hp)
  case shadows => exact (h3 hp).trans (h .shadows hp)
  case access => exact ⟨(h4 hp).1.trans (h .access hp).1, (h4 hp).2.1.trans (h .access hp).2.1, (h4 hp).2.2.trans (h .access hp).2.2⟩
  all_goals exact h _ hp

theorem Same.all_ {o : Nat} {b s : State} {x : State} (h : Same o b s)
    (h_clk : o.testBit 0 = false → x.clk = s.clk)
    (h_shared : o.testBit 1 = false → x.reg.shared = s.reg.shared)
    (h_privA : o.testBit 2 = false → x.reg.privA = s.reg.privA)
    (h_privB : o.testBit 3 = false → x.reg.privB = s.reg.privB)
    (h_shadows : o.testBit 4 = false → x.reg.shadows = s.reg.shadows)
    (h_access : o.testBit 5 = false → x.reg.planeSel = s.reg.planeSel ∧ x.reg.snapshot = s.reg.snapshot ∧ x.reg.heldHi = s.reg.heldHi)
    (h_mode : o.testBit 6 = false → x.mode = s.mode)
    (h_modeNext : o.testBit 7 = false → x.modeNext = s.modeNext)
    (h_power : o.testBit 8 = false → x.power = s.power)
    (h_image : o.testBit 9 = false → x.imageApplied = s.imageApplied)
    (h_fabric : o.testBit 10 = false → x.fabric = s.fabric)
    (h_route : o.testBit 11 = false → x.route = s.route)
    (h_com : o.testBit 12 = false → x.com = s.com)
    (h_links : o.testBit 13 = false → x.links = s.links)
    (h_sb : o.testBit 14 = false → x.sb = s.sb)
    (h_sched : o.testBit 15 = false → x.sched = s.sched)
    (h_prot : o.testBit 16 = false → x.prot = s.prot)
    (h_faults : o.testBit 17 = false → x.faults = s.faults)
    (h_sense : o.testBit 18 = false → x.sense = s.sense)
    (h_cap : o.testBit 19 = false → x.cap = s.cap)
    (h_hka : o.testBit 20 = false → x.hka = s.hka)
    (h_dith : o.testBit 21 = false → x.dith = s.dith)
    (h_gens : o.testBit 22 = false → x.gens = s.gens)
    (h_loop : o.testBit 23 = false → x.loop = s.loop)
    (h_clips : o.testBit 24 = false → x.clips = s.clips)
    (h_act : o.testBit 25 = false → x.act = s.act)
    (h_cal : o.testBit 26 = false → x.cal = s.cal)
    (h_time : o.testBit 27 = false → x.time = s.time)
    (h_pl : o.testBit 28 = false → x.pl = s.pl)
    (h_therm : o.testBit 29 = false → x.therm = s.therm)
    (h_pw : o.testBit 30 = false → x.pw = s.pw)
    (h_dust : o.testBit 31 = false → x.dust = s.dust)
    (h_avail : o.testBit 32 = false → x.avail = s.avail)
    (h_boot : o.testBit 33 = false → x.boot = s.boot)
    (h_nor : o.testBit 34 = false → x.nor = s.nor)
    (h_evt : o.testBit 35 = false → x.evtLevel = s.evtLevel ∧ x.evtRise = s.evtRise)
    (h_free : o.testBit 36 = false → x.freeCount = s.freeCount)
    (h_pending : o.testBit 37 = false → x.pending = s.pending) :
    Same o b x := by
  intro p hp
  cases p
  case clk => exact (h_clk hp).trans (h .clk hp)
  case shared => exact (h_shared hp).trans (h .shared hp)
  case privA => exact (h_privA hp).trans (h .privA hp)
  case privB => exact (h_privB hp).trans (h .privB hp)
  case shadows => exact (h_shadows hp).trans (h .shadows hp)
  case access => exact ⟨(h_access hp).1.trans (h .access hp).1, (h_access hp).2.1.trans (h .access hp).2.1, (h_access hp).2.2.trans (h .access hp).2.2⟩
  case mode => exact (h_mode hp).trans (h .mode hp)
  case modeNext => exact (h_modeNext hp).trans (h .modeNext hp)
  case power => exact (h_power hp).trans (h .power hp)
  case image => exact (h_image hp).trans (h .image hp)
  case fabric => exact (h_fabric hp).trans (h .fabric hp)
  case route => exact (h_route hp).trans (h .route hp)
  case com => exact (h_com hp).trans (h .com hp)
  case links => exact (h_links hp).trans (h .links hp)
  case sb => exact (h_sb hp).trans (h .sb hp)
  case sched => exact (h_sched hp).trans (h .sched hp)
  case prot => exact (h_prot hp).trans (h .prot hp)
  case faults => exact (h_faults hp).trans (h .faults hp)
  case sense => exact (h_sense hp).trans (h .sense hp)
  case cap => exact (h_cap hp).trans (h .cap hp)
  case hka => exact (h_hka hp).trans (h .hka hp)
  case dith => exact (h_dith hp).trans (h .dith hp)
  case gens => exact (h_gens hp).trans (h .gens hp)
  case loop => exact (h_loop hp).trans (h .loop hp)
  case clips => exact (h_clips hp).trans (h .clips hp)
  case act => exact (h_act hp).trans (h .act hp)
  case cal => exact (h_cal hp).trans (h .cal hp)
  case time => exact (h_time hp).trans (h .time hp)
  case pl => exact (h_pl hp).trans (h .pl hp)
  case therm => exact (h_therm hp).trans (h .therm hp)
  case pw => exact (h_pw hp).trans (h .pw hp)
  case dust => exact (h_dust hp).trans (h .dust hp)
  case avail => exact (h_avail hp).trans (h .avail hp)
  case boot => exact (h_boot hp).trans (h .boot hp)
  case nor => exact (h_nor hp).trans (h .nor hp)
  case evt => exact ⟨(h_evt hp).1.trans (h .evt hp).1, (h_evt hp).2.trans (h .evt hp).2⟩
  case free => exact (h_free hp).trans (h .free hp)
  case pending => exact (h_pending hp).trans (h .pending hp)

theorem State.setReg_same {o : Nat} {b s : State} {f : RegState → RegState} (h : Same o b s) (h0 : o.testBit 1 = false → (f s.reg).shared = s.reg.shared)
    (h1 : o.testBit 2 = false → (f s.reg).privA = s.reg.privA) (h2 : o.testBit 3 = false → (f s.reg).privB = s.reg.privB)
    (h3 : o.testBit 4 = false → (f s.reg).shadows = s.reg.shadows)
    (h4 : o.testBit 5 = false → (f s.reg).planeSel = s.reg.planeSel ∧ (f s.reg).snapshot = s.reg.snapshot ∧ (f s.reg).heldHi = s.reg.heldHi) :
    Same o b (s.setReg f) := h.reg_ h0 h1 h2 h3 h4
theorem State.setWordP_same {o : Nat} {b s : State} {p : Plane} {a w : Nat} (h : Same o b s) (ho : 12 &&& o = 12) : Same o b (s.setWordP p a w) := by
  cases p
  · exact h.reg_ (fun _ => rfl) (part_off (l := 12) (by decide) ho) (fun _ => rfl) (fun _ => rfl) fun _ => ⟨rfl, rfl, rfl⟩
  · exact h.reg_ (fun _ => rfl) (fun _ => rfl) (part_off (l := 12) (by decide) ho) (fun _ => rfl) fun _ => ⟨rfl, rfl, rfl⟩
theorem State.when_same {o : Nat} {b s : State} {c : Bool} {f : State → State} (h : Same o b s) (hf : Same o b (f s)) : Same o b (s.when c f) := by
  unfold State.when; split <;> assumption
theorem foldl_same {α : Type} {o : Nat} {b s : State} {l : List α} {f : State → α → State} (hf : ∀ s x, Same o b s → Same o b (f s x)) (h : Same o b s) :
    Same o b (l.foldl f s) := by
  induction l generalizing s with
  | nil => exact h
  | cons a l ih => exact ih (hf _ _ h)
theorem State.over_same {α : Type} {o : Nat} {b s : State} {l : List α} {f : State → α → State} (hf : ∀ s x, Same o b s → Same o b (f s x))
    (h : Same o b s) : Same o b (s.over l f) := foldl_same hf h
theorem foldl_fst_same {α β : Type} {o : Nat} {b : State} {a : State × β} {l : List α} {f : State × β → α → State × β}
    (hf : ∀ a x, Same o b a.1 → Same o b (f a x).1) (h : Same o b a.1) : Same o b (l.foldl f a).1 := by
  induction l generalizing a with
  | nil => exact h
  | cons x l ih => exact ih (hf _ _ h)
theorem foldl_snd_same {α β : Type} {o : Nat} {b : State} {a : β × State} {l : List α} {f : β × State → α → β × State}
    (hf : ∀ a x, Same o b a.2 → Same o b (f a x).2) (h : Same o b a.2) : Same o b (l.foldl f a).2 := by
  induction l generalizing a with
  | nil => exact h
  | cons x l ih => exact ih (hf _ _ h)
theorem ite_same {o : Nat} {b : State} {c : Prop} [Decidable c] {u v : State} (hu : Same o b u) (hv : Same o b v) : Same o b (if c then u else v) := by
  split <;> assumption
theorem same_pair_snd {α : Type} {o : Nat} {b : State} {p : α × State} {x : α} {t : State} (e : p = (x, t)) (h : Same o b p.2) : Same o b t := by
  rw [e] at h; exact h
theorem same_pair_fst {α : Type} {o : Nat} {b : State} {p : State × α} {x : α} {t : State} (e : p = (t, x)) (h : Same o b p.1) : Same o b t := by
  rw [e] at h; exact h
theorem same_pair_trd {α β : Type} {o : Nat} {b : State} {p : α × β × State} {x : α} {y : β} {t : State} (e : p = (x, y, t)) (h : Same o b p.2.2) :
    Same o b t := by
  rw [e] at h; exact h

end Sys2Proof.Machine
end

