-- ==== Sys2Proof/Laws/SameOps.lean ====
section
/-! SUPPORT. Laws/SameOps.lean: what every operation of Machine/Ops.lean leaves (Laws/Same.lean). -/

set_option linter.all false
set_option Elab.async false

namespace Sys2Proof.Machine

open Sys2Proof

theorem State.setWord_same {o : Nat} {b : State} {s : State} {a w : Nat} (hk : Same o b s) (ho : 2 &&& o = 2 := by exact mask_sub (by decide) ho) :
    Same o b (State.setWord s a w) := by
  unfold State.setWord
  (try simp only [])
  with_reducible repeat' (first | exact hk | exact mask_sub (by decide) ho | exact fun _ => rfl | exact fun _ => ⟨rfl, rfl, rfl⟩ | exact part_off (by decide) ho | split | fail_if_no_progress apply Same.reg_)

theorem State.wr_same {o : Nat} {b : State} {s : State} {f : FieldAt} {v : Nat} (hk : Same o b s) (ho : 2 &&& o = 2 := by exact mask_sub (by decide) ho) :
    Same o b (State.wr s f v) := by
  unfold State.wr
  (try simp only [])
  with_reducible repeat' (first | exact hk | exact mask_sub (by decide) ho | apply State.setWord_same | split)

theorem State.wrS_same {o : Nat} {b : State} {s : State} {f : FieldAt} {v : Int} (hk : Same o b s) (ho : 2 &&& o = 2 := by exact mask_sub (by decide) ho) :
    Same o b (State.wrS s f v) := by
  unfold State.wrS
  (try simp only [])
  with_reducible repeat' (first | exact hk | exact mask_sub (by decide) ho | apply State.wr_same | split)

theorem State.wrP_same {o : Nat} {b : State} {s : State} {p : Plane} {f : FieldAt} {v : Nat} (hk : Same o b s) (ho : 12 &&& o = 12 := by exact mask_sub (by decide) ho) :
    Same o b (State.wrP s p f v) := by
  unfold State.wrP
  (try simp only [])
  with_reducible repeat' (first | exact hk | exact mask_sub (by decide) ho | apply State.setWordP_same | split)

theorem State.wrPS_same {o : Nat} {b : State} {s : State} {p : Plane} {f : FieldAt} {v : Int} (hk : Same o b s) (ho : 12 &&& o = 12 := by exact mask_sub (by decide) ho) :
    Same o b (State.wrPS s p f v) := by
  unfold State.wrPS
  (try simp only [])
  with_reducible repeat' (first | exact hk | exact mask_sub (by decide) ho | apply State.wrP_same | split)

theorem State.wrB_same {o : Nat} {b : State} {s : State} {f : FieldAt} {v : Nat} (hk : Same o b s) (ho : 12 &&& o = 12 := by exact mask_sub (by decide) ho) :
    Same o b (State.wrB s f v) := by
  unfold State.wrB
  (try simp only [])
  with_reducible repeat' (first | exact hk | exact mask_sub (by decide) ho | apply State.wrP_same | split)

theorem State.setWordB_same {o : Nat} {b : State} {s : State} {a w : Nat} (hk : Same o b s) (ho : 12 &&& o = 12 := by exact mask_sub (by decide) ho) :
    Same o b (State.setWordB s a w) := by
  unfold State.setWordB
  (try simp only [])
  with_reducible repeat' (first | exact hk | exact mask_sub (by decide) ho | apply State.setWordP_same | split)

theorem State.bump_same {o : Nat} {b : State} {s : State} {f : FieldAt} {n : Nat} (hk : Same o b s) (ho : 2 &&& o = 2 := by exact mask_sub (by decide) ho) :
    Same o b (State.bump s f n) := by
  unfold State.bump
  (try simp only [])
  with_reducible repeat' (first | exact hk | exact mask_sub (by decide) ho | apply State.wr_same | split)

theorem State.bumpB_same {o : Nat} {b : State} {s : State} {f : FieldAt} {n : Nat} (hk : Same o b s) (ho : 12 &&& o = 12 := by exact mask_sub (by decide) ho) :
    Same o b (State.bumpB s f n) := by
  unfold State.bumpB
  (try simp only [])
  with_reducible repeat' (first | exact hk | exact mask_sub (by decide) ho | apply State.wrP_same | split)

theorem State.advance_same {o : Nat} {b : State} {s : State} {f : FieldAt} (hk : Same o b s) (ho : 2 &&& o = 2 := by exact mask_sub (by decide) ho) :
    Same o b (State.advance s f) := by
  unfold State.advance
  (try simp only [])
  with_reducible repeat' (first | exact hk | exact mask_sub (by decide) ho | apply State.wr_same | split)

theorem State.free_same {o : Nat} {b : State} {s : State} (hk : Same o b s) (ho : 68719476736 &&& o = 68719476736 := by exact mask_sub (by decide) ho) :
    Same o b ((State.free s).2) := by
  unfold State.free
  (try simp only [])
  with_reducible repeat' (first | exact hk | exact mask_sub (by decide) ho | split | fail_if_no_progress apply Same.free_)

theorem State.updPrin_same {o : Nat} {b : State} {s : State} {p : Nat} {f : PrinLink → PrinLink} (hk : Same o b s) (ho : 8192 &&& o = 8192 := by exact mask_sub (by decide) ho) :
    Same o b (State.updPrin s p f) := by
  unfold State.updPrin
  (try simp only [])
  with_reducible repeat' (first | exact hk | exact mask_sub (by decide) ho | split | fail_if_no_progress apply Same.links_)

theorem State.updLane_same {o : Nat} {b : State} {s : State} {l : Nat} {f : LaneState → LaneState} (hk : Same o b s) (ho : 8192 &&& o = 8192 := by exact mask_sub (by decide) ho) :
    Same o b (State.updLane s l f) := by
  unfold State.updLane
  (try simp only [])
  with_reducible repeat' (first | exact hk | exact mask_sub (by decide) ho | split | fail_if_no_progress apply Same.links_)

theorem State.raise_same {o : Nat} {b : State} {s : State} {m : FaultMsg} (hk : Same o b s) (ho : 131072 &&& o = 131072 := by exact mask_sub (by decide) ho) :
    Same o b (State.raise s m) := by
  unfold State.raise
  (try simp only [])
  with_reducible repeat' (first | exact hk | exact mask_sub (by decide) ho | split | fail_if_no_progress apply Same.faults_)

theorem State.endReport_same {o : Nat} {b : State} {s : State} {m : FaultMsg} (hk : Same o b s) (ho : 131072 &&& o = 131072 := by exact mask_sub (by decide) ho) :
    Same o b (State.endReport s m) := by
  unfold State.endReport
  (try simp only [])
  with_reducible repeat' (first | exact hk | exact mask_sub (by decide) ho | split | fail_if_no_progress apply Same.faults_)

theorem State.pushItem_same {o : Nat} {b : State} {s : State} {p : Nat} {readyAt : Option Nat} {it : Item} (hk : Same o b s) (ho : 8192 &&& o = 8192 := by exact mask_sub (by decide) ho) :
    Same o b (State.pushItem s p readyAt it) := by
  unfold State.pushItem
  (try simp only [])
  with_reducible repeat' (first | exact hk | exact mask_sub (by decide) ho | apply State.updPrin_same | (rename_i e; refine same_pair_snd e ?_) | (rename_i e; refine same_pair_fst e ?_) | (rename_i e; refine same_pair_trd e ?_) | split)

theorem State.endFlight_same {o : Nat} {b : State} {s : State} {p cseq : Nat} (hk : Same o b s) (ho : 32768 &&& o = 32768 := by exact mask_sub (by decide) ho) :
    Same o b (State.endFlight s p cseq) := by
  unfold State.endFlight
  (try simp only [])
  with_reducible repeat' (first | exact hk | exact mask_sub (by decide) ho | split | fail_if_no_progress apply Same.sched_)

theorem State.answerAt_same {o : Nat} {b : State} {s : State} {r : Nat} {h : CmdHead} {opcode status : Nat} {body : List Nat} (hk : Same o b s) (ho : 172034 &&& o = 172034 := by exact mask_sub (by decide) ho) :
    Same o b (State.answerAt s r h opcode status body) := by
  unfold State.answerAt
  (try simp only [])
  with_reducible repeat' (first | exact hk | exact mask_sub (by decide) ho | apply State.endFlight_same | apply State.pushItem_same | apply State.raise_same | apply State.bump_same | apply ite_same | (rename_i e; refine same_pair_snd e ?_) | (rename_i e; refine same_pair_fst e ?_) | (rename_i e; refine same_pair_trd e ?_) | split)

theorem State.answer_same {o : Nat} {b : State} {s : State} {h : CmdHead} {opcode status : Nat} {body : List Nat } (hk : Same o b s) (ho : 172034 &&& o = 172034 := by exact mask_sub (by decide) ho) :
    Same o b (State.answer s h opcode status body) := by
  unfold State.answer
  (try simp only [])
  with_reducible repeat' (first | exact hk | exact mask_sub (by decide) ho | apply State.answerAt_same | split)

theorem State.notice_same {o : Nat} {b : State} {s : State} {p code status cseq : Nat} {body : List Nat} (hk : Same o b s) (ho : 8192 &&& o = 8192 := by exact mask_sub (by decide) ho) :
    Same o b (State.notice s p code status cseq body) := by
  unfold State.notice
  (try simp only [])
  with_reducible repeat' (first | exact hk | exact mask_sub (by decide) ho | apply State.updPrin_same | split)

theorem State.alert_same {o : Nat} {b : State} {s : State} {cause : Nat} (hk : Same o b s) (ho : 16384 &&& o = 16384 := by exact mask_sub (by decide) ho) :
    Same o b (State.alert s cause) := by
  unfold State.alert
  (try simp only [])
  with_reducible repeat' (first | exact hk | exact mask_sub (by decide) ho | apply ite_same | split | fail_if_no_progress apply Same.sb_)

theorem State.alertState_same {o : Nat} {b : State} {s : State} (hk : Same o b s) (ho : 16384 &&& o = 16384 := by exact mask_sub (by decide) ho) :
    Same o b (State.alertState s) := by
  unfold State.alertState
  (try simp only [])
  with_reducible repeat' (first | exact hk | exact mask_sub (by decide) ho | apply State.alert_same | split)

end Sys2Proof.Machine
end

