-- ==== Sys2Proof/Laws/SameFaults.lean ====
section
/-! SUPPORT. Laws/SameFaults.lean: what every operation of Machine/Faults.lean leaves (Laws/Same.lean). -/

set_option linter.all false
set_option Elab.async false

namespace Sys2Proof.Machine

open Sys2Proof

theorem State.addReactions_same {o : Nat} {b : State} {s : State} {l : List Reaction} (hk : Same o b s) (ho : 131072 &&& o = 131072 := by exact mask_sub (by decide) ho) :
    Same o b (State.addReactions s l) := by
  unfold State.addReactions
  (try simp only [])
  with_reducible repeat' (first | exact hk | exact mask_sub (by decide) ho | split | fail_if_no_progress apply Same.faults_)

theorem State.fenceAt_same {o : Nat} {b : State} {s : State} {phi : Nat} {p : Plane} {auto : Bool} (hk : Same o b s) (ho : 131072 &&& o = 131072 := by exact mask_sub (by decide) ho) :
    Same o b (State.fenceAt s phi p auto) := by
  unfold State.fenceAt
  (try simp only [])
  with_reducible repeat' (first | exact hk | exact mask_sub (by decide) ho | split | fail_if_no_progress apply Same.faults_)

theorem State.dueFence_same {o : Nat} {b : State} {s : State} {p : Plane} {auto : Bool} (hk : Same o b s) (ho : 131072 &&& o = 131072 := by exact mask_sub (by decide) ho) :
    Same o b (State.dueFence s p auto) := by
  unfold State.dueFence
  (try simp only [])
  with_reducible repeat' (first | exact hk | exact mask_sub (by decide) ho | apply State.fenceAt_same | split)

theorem State.fenceMisc_same {o : Nat} {base : State} {s : State} {b : Nat} (hk : Same o base s) (ho : 2 &&& o = 2 := by exact mask_sub (by decide) ho) :
    Same o base (State.fenceMisc s b) := by
  unfold State.fenceMisc
  (try simp only [])
  with_reducible repeat' (first | exact hk | exact mask_sub (by decide) ho | apply State.setWord_same | split)

theorem State.dueResort_same {o : Nat} {b : State} {s : State} (hk : Same o b s) (ho : 131072 &&& o = 131072 := by exact mask_sub (by decide) ho) :
    Same o b (State.dueResort s) := by
  unfold State.dueResort
  (try simp only [])
  with_reducible repeat' (first | exact hk | exact mask_sub (by decide) ho | apply ite_same | split | fail_if_no_progress apply Same.faults_)

theorem State.reactUnit_same {o : Nat} {b : State} {s : State} {m : FaultMsg} {sev : Nat} {common : Bool} (hk : Same o b s) (ho : 131074 &&& o = 131074 := by exact mask_sub (by decide) ho) :
    Same o b (State.reactUnit s m sev common) := by
  unfold State.reactUnit
  (try simp only [])
  with_reducible repeat' (first | exact hk | exact mask_sub (by decide) ho | apply State.fenceMisc_same | apply State.addReactions_same | apply ite_same | split | fail_if_no_progress apply Same.faults_)

theorem State.react_same {o : Nat} {b : State} {s : State} {m : FaultMsg} {sev : Nat} {common : Bool} (hk : Same o b s) (ho : 131074 &&& o = 131074 := by exact mask_sub (by decide) ho) :
    Same o b (State.react s m sev common) := by
  unfold State.react
  (try simp only [])
  with_reducible repeat' (first | exact hk | exact mask_sub (by decide) ho | apply State.reactUnit_same | apply State.dueResort_same | apply State.dueFence_same | apply ite_same | (rename_i e; refine same_pair_snd e ?_) | (rename_i e; refine same_pair_fst e ?_) | (rename_i e; refine same_pair_trd e ?_) | split)

theorem State.sbFault_same {o : Nat} {b : State} {s : State} {w : Nat} (hk : Same o b s) (ho : 147458 &&& o = 147458 := by exact mask_sub (by decide) ho) :
    Same o b (State.sbFault s w) := by
  unfold State.sbFault
  split
  · exact Same.sb_ (Same.faults_ hk (mask_sub (by decide) ho)) (mask_sub (by decide) ho)
  · exact State.bump_same hk

theorem State.tellRecord_same {o : Nat} {b : State} {s : State} {r : FaultRec} (hk : Same o b s) (ho : 155650 &&& o = 155650 := by exact mask_sub (by decide) ho) :
    Same o b (State.tellRecord s r) := by
  unfold State.tellRecord
  (try simp only [])
  with_reducible repeat' (first | exact hk | exact mask_sub (by decide) ho | apply State.sbFault_same | apply State.notice_same | refine State.over_same (fun _ _ hk => ?_) ?_ | split | fail_if_no_progress apply Same.faults_)

theorem State.setLast_same {o : Nat} {b : State} {s : State} {r : FaultRec} (hk : Same o b s) (ho : 131072 &&& o = 131072 := by exact mask_sub (by decide) ho) :
    Same o b (State.setLast s r) := by
  unfold State.setLast
  (try simp only [])
  with_reducible repeat' (first | exact hk | exact mask_sub (by decide) ho | split | fail_if_no_progress apply Same.faults_)

theorem State.takeMsg_same {o : Nat} {b : State} {s : State} {simultaneous : Bool} {x : FaultMsg × Nat × Bool} (hk : Same o b s) (ho : 155650 &&& o = 155650 := by exact mask_sub (by decide) ho) :
    Same o b (State.takeMsg s simultaneous x) := by
  unfold State.takeMsg
  (try simp only [])
  with_reducible repeat' (first | exact hk | exact mask_sub (by decide) ho | apply State.setLast_same | apply State.tellRecord_same | apply State.react_same | apply State.notice_same | apply State.bump_same | apply ite_same | (rename_i e; refine same_pair_snd e ?_) | (rename_i e; refine same_pair_fst e ?_) | (rename_i e; refine same_pair_trd e ?_) | split | fail_if_no_progress apply Same.faults_)

theorem State.faultRound_same {o : Nat} {b : State} {s : State} (hk : Same o b s) (ho : 155650 &&& o = 155650 := by exact mask_sub (by decide) ho) :
    Same o b (State.faultRound s) := by
  unfold State.faultRound
  (try simp only [])
  with_reducible repeat' (first | exact hk | exact mask_sub (by decide) ho | apply State.takeMsg_same | refine State.over_same (fun _ _ hk => ?_) ?_ | apply ite_same | split | fail_if_no_progress apply Same.faults_)

theorem State.offerFaults_same {o : Nat} {b : State} {s : State} (hk : Same o b s) (ho : 131072 &&& o = 131072 := by exact mask_sub (by decide) ho) :
    Same o b (State.offerFaults s) := by
  unfold State.offerFaults
  (try simp only [])
  with_reducible repeat' (first | exact hk | exact mask_sub (by decide) ho | split | fail_if_no_progress apply Same.faults_)

end Sys2Proof.Machine
end

