-- ==== Sys2Proof/Laws/SameRoute.lean ====
section
/-! SUPPORT. Laws/SameRoute.lean: what every operation of Machine/Route.lean leaves (Laws/Same.lean). -/

set_option linter.all false
set_option Elab.async false

namespace Sys2Proof.Machine

open Sys2Proof

theorem State.recordBlock_same {o : Nat} {base : State} {s : State} {p : Nat} {b : Block} (hk : Same o base s) (ho : 12 &&& o = 12 := by exact mask_sub (by decide) ho) :
    Same o base (State.recordBlock s p b) := by
  unfold State.recordBlock
  (try simp only [])
  with_reducible repeat' (first | exact hk | exact mask_sub (by decide) ho | apply State.bumpB_same | apply State.wrB_same | split)

theorem State.complete_same {o : Nat} {b : State} {s : State} {p cseq : Nat} (hk : Same o b s) (ho : 32768 &&& o = 32768 := by exact mask_sub (by decide) ho) :
    Same o b (State.complete s p cseq) := by
  unfold State.complete
  (try simp only [])
  with_reducible repeat' (first | exact hk | exact mask_sub (by decide) ho | split | fail_if_no_progress apply Same.sched_)

theorem State.answerRoute_same {o : Nat} {b : State} {s : State} {r : RouteReq} {code moved first : Nat} (hk : Same o b s) (ho : 68719648770 &&& o = 68719648770 := by exact mask_sub (by decide) ho) :
    Same o b (State.answerRoute s r code moved first) := by
  unfold State.answerRoute
  (try simp only [])
  with_reducible repeat' (first | exact hk | exact mask_sub (by decide) ho | apply State.complete_same | apply State.answerAt_same | apply State.free_same | apply ite_same | (rename_i e; refine same_pair_snd e ?_) | (rename_i e; refine same_pair_fst e ?_) | (rename_i e; refine same_pair_trd e ?_) | split)

theorem State.post_same {o : Nat} {b : State} {s : State} {r : RouteReq} {at_ : Nat} {res : RouteResult} (hk : Same o b s) (ho : 68719650830 &&& o = 68719650830 := by exact mask_sub (by decide) ho) :
    Same o b (State.post s r at_ res) := by
  unfold State.post
  (try simp only [])
  with_reducible repeat' (first | exact hk | exact mask_sub (by decide) ho | apply State.answerRoute_same | apply State.recordBlock_same | (rename_i e; refine same_pair_snd e ?_) | (rename_i e; refine same_pair_fst e ?_) | (rename_i e; refine same_pair_trd e ?_) | split | fail_if_no_progress apply Same.route_)

theorem State.timeouts_same {o : Nat} {b : State} {s : State} {r : RouteReq} {late : List Plane} (hk : Same o b s) (ho : 131084 &&& o = 131084 := by exact mask_sub (by decide) ho) :
    Same o b (State.timeouts s r late) := by
  unfold State.timeouts
  (try simp only [])
  with_reducible repeat' (first | exact hk | exact mask_sub (by decide) ho | apply State.raise_same | apply State.wrP_same | refine State.over_same (fun _ _ hk => ?_) ?_ | split)

theorem State.postIncremental_same {o : Nat} {b : State} {s : State} {late : List (Nat × Nat × Plane)} {r : RouteReq} (hk : Same o b s) (ho : 68719650830 &&& o = 68719650830 := by exact mask_sub (by decide) ho) :
    Same o b (State.postIncremental s late r) := by
  unfold State.postIncremental
  (try simp only [])
  with_reducible repeat' (first | exact hk | exact mask_sub (by decide) ho | apply State.timeouts_same | apply State.post_same | apply ite_same | split)

end Sys2Proof.Machine
end

