-- ==== Sys2Proof/Laws/SameCommit.lean ====
section
/-! SUPPORT. Laws/SameCommit.lean: what every operation of Machine/Commit.lean leaves (Laws/Same.lean). -/

set_option linter.all false
set_option Elab.async false

namespace Sys2Proof.Machine

open Sys2Proof

theorem State.updCommit_same {o : Nat} {b : State} {s : State} {num : Nat} {f : Commit → Commit} (hk : Same o b s) (ho : 4096 &&& o = 4096 := by exact mask_sub (by decide) ho) :
    Same o b (State.updCommit s num f) := by
  unfold State.updCommit
  (try simp only [])
  with_reducible repeat' (first | exact hk | exact mask_sub (by decide) ho | apply ite_same | split | fail_if_no_progress apply Same.com_)

theorem State.dropCommit_same {o : Nat} {b : State} {s : State} {num : Nat} (hk : Same o b s) (ho : 4096 &&& o = 4096 := by exact mask_sub (by decide) ho) :
    Same o b (State.dropCommit s num) := by
  unfold State.dropCommit
  (try simp only [])
  with_reducible repeat' (first | exact hk | exact mask_sub (by decide) ho | split | fail_if_no_progress apply Same.com_)

theorem State.charge_same {o : Nat} {b : State} {s : State} {x : Nat × Nat} (hk : Same o b s) (ho : 2 &&& o = 2 := by exact mask_sub (by decide) ho) :
    Same o b (State.charge s x) := by
  unfold State.charge
  (try simp only [])
  with_reducible repeat' (first | exact hk | exact mask_sub (by decide) ho | apply State.bump_same | apply State.wrS_same | apply State.when_same | split)

theorem State.accept_same {o : Nat} {b : State} {s : State} {c : Commit} (hk : Same o b s) (ho : 172034 &&& o = 172034 := by exact mask_sub (by decide) ho) :
    Same o b (State.accept s c) := by
  unfold State.accept
  (try simp only [])
  with_reducible repeat' (first | exact hk | exact mask_sub (by decide) ho | apply State.answerAt_same | apply ite_same | split)

theorem State.refuseCommit_same {o : Nat} {b : State} {s : State} {c : Commit} {code : Nat} (hk : Same o b s) (ho : 178178 &&& o = 178178 := by exact mask_sub (by decide) ho) :
    Same o b (State.refuseCommit s c code) := by
  unfold State.refuseCommit
  (try simp only [])
  with_reducible repeat' (first | exact hk | exact mask_sub (by decide) ho | apply State.dropCommit_same | apply State.complete_same | apply State.answerAt_same | apply ite_same | split | fail_if_no_progress apply Same.route_)

theorem State.sendToken_same {o : Nat} {b : State} {s : State} {kind p number frame : Nat} (hk : Same o b s) (ho : 4096 &&& o = 4096 := by exact mask_sub (by decide) ho) :
    Same o b (State.sendToken s kind p number frame) := by
  unfold State.sendToken
  (try simp only [])
  with_reducible repeat' (first | exact hk | exact mask_sub (by decide) ho | split | fail_if_no_progress apply Same.com_)

theorem State.showTokens_same {o : Nat} {b : State} {s : State} (hk : Same o b s) (ho : 2 &&& o = 2 := by exact mask_sub (by decide) ho) :
    Same o b (State.showTokens s) := by
  unfold State.showTokens
  (try simp only [])
  with_reducible repeat' (first | exact hk | exact mask_sub (by decide) ho | apply State.wr_same | split)

theorem State.goArrives_same {o : Nat} {b : State} {s : State} {p number f : Nat} (hk : Same o b s) (ho : 176130 &&& o = 176130 := by exact mask_sub (by decide) ho) :
    Same o b (State.goArrives s p number f) := by
  unfold State.goArrives
  (try simp only [])
  with_reducible repeat' (first | exact hk | exact mask_sub (by decide) ho | apply State.showTokens_same | apply State.accept_same | apply State.updCommit_same | apply ite_same | (rename_i e; refine same_pair_snd e ?_) | (rename_i e; refine same_pair_fst e ?_) | (rename_i e; refine same_pair_trd e ?_) | split | fail_if_no_progress apply Same.com_)

theorem State.abandonArrives_same {o : Nat} {b : State} {s : State} {p number : Nat} (hk : Same o b s) (ho : 178178 &&& o = 178178 := by exact mask_sub (by decide) ho) :
    Same o b (State.abandonArrives s p number) := by
  unfold State.abandonArrives
  (try simp only [])
  with_reducible repeat' (first | exact hk | exact mask_sub (by decide) ho | apply State.showTokens_same | apply State.refuseCommit_same | (rename_i e; refine same_pair_snd e ?_) | (rename_i e; refine same_pair_fst e ?_) | (rename_i e; refine same_pair_trd e ?_) | split | fail_if_no_progress apply Same.com_)

theorem State.masterDecides_same {o : Nat} {b : State} {s : State} {p number : Nat} (hk : Same o b s) (ho : 178178 &&& o = 178178 := by exact mask_sub (by decide) ho) :
    Same o b (State.masterDecides s p number) := by
  unfold State.masterDecides
  (try simp only [])
  with_reducible repeat' (first | exact hk | exact mask_sub (by decide) ho | apply State.abandonArrives_same | apply State.goArrives_same | apply State.sendToken_same | apply ite_same | (rename_i e; refine same_pair_snd e ?_) | (rename_i e; refine same_pair_fst e ?_) | (rename_i e; refine same_pair_trd e ?_) | split | fail_if_no_progress apply Same.com_)

theorem State.readyArrives_same {o : Nat} {b : State} {s : State} {r : Ready} (hk : Same o b s) (ho : 178178 &&& o = 178178 := by exact mask_sub (by decide) ho) :
    Same o b (State.readyArrives s r) := by
  unfold State.readyArrives
  (try simp only [])
  with_reducible repeat' (first | exact hk | exact mask_sub (by decide) ho | apply State.masterDecides_same | apply ite_same | split | fail_if_no_progress apply Same.com_)

theorem State.fixCommit_same {o : Nat} {b : State} {s : State} {c : Commit} {t : Nat} {tgt : Nat × Nat × Nat} {items : List PItem} (hk : Same o b s) (ho : 178178 &&& o = 178178 := by exact mask_sub (by decide) ho) :
    Same o b (State.fixCommit s c t tgt items) := by
  unfold State.fixCommit
  (try simp only [])
  with_reducible repeat' (first | exact hk | exact mask_sub (by decide) ho | apply State.readyArrives_same | apply State.showTokens_same | apply State.sendToken_same | apply State.accept_same | apply State.charge_same | apply State.updCommit_same | refine State.over_same (fun _ _ hk => ?_) ?_ | refine foldl_same (fun _ _ hk => ?_) ?_ | refine foldl_fst_same (fun _ _ hk => ?_) ?_ | refine foldl_snd_same (fun _ _ hk => ?_) ?_ | apply ite_same | (rename_i e; refine same_pair_snd e ?_) | (rename_i e; refine same_pair_fst e ?_) | (rename_i e; refine same_pair_trd e ?_) | split | fail_if_no_progress apply Same.com_ | fail_if_no_progress apply Same.route_)

theorem State.tryFix_same {o : Nat} {b : State} {s : State} {earlier : List (Commit × List Nat)} {c : Commit} (hk : Same o b s) (ho : 178178 &&& o = 178178 := by exact mask_sub (by decide) ho) :
    Same o b ((State.tryFix s earlier c).1) := by
  unfold State.tryFix
  (try simp only [])
  with_reducible repeat' (first | exact hk | exact mask_sub (by decide) ho | apply State.fixCommit_same | apply State.refuseCommit_same | refine foldl_same (fun _ _ hk => ?_) ?_ | refine foldl_fst_same (fun _ _ hk => ?_) ?_ | refine foldl_snd_same (fun _ _ hk => ?_) ?_ | apply ite_same | (rename_i e; refine same_pair_snd e ?_) | (rename_i e; refine same_pair_fst e ?_) | (rename_i e; refine same_pair_trd e ?_) | split)

theorem State.tryAll_same {o : Nat} {b : State} {s : State} (hk : Same o b s) (ho : 178178 &&& o = 178178 := by exact mask_sub (by decide) ho) :
    Same o b (State.tryAll s) := by
  unfold State.tryAll
  (try simp only [])
  with_reducible repeat' (first | exact hk | exact mask_sub (by decide) ho | apply State.tryFix_same | apply State.wr_same | refine State.over_same (fun _ _ hk => ?_) ?_ | refine foldl_same (fun _ _ hk => ?_) ?_ | refine foldl_fst_same (fun _ _ hk => ?_) ?_ | refine foldl_snd_same (fun _ _ hk => ?_) ?_ | (rename_i e; refine same_pair_snd e ?_) | (rename_i e; refine same_pair_fst e ?_) | (rename_i e; refine same_pair_trd e ?_) | split)

theorem State.addAlignment_same {o : Nat} {b : State} {s : State} {cseq : Nat} (hk : Same o b s) (ho : 2060 &&& o = 2060 := by exact mask_sub (by decide) ho) :
    Same o b ((State.addAlignment s cseq).1) := by
  unfold State.addAlignment
  (try simp only [])
  with_reducible repeat' (first | exact hk | exact mask_sub (by decide) ho | apply State.recordBlock_same | refine foldl_same (fun _ _ hk => ?_) ?_ | refine foldl_fst_same (fun _ _ hk => ?_) ?_ | refine foldl_snd_same (fun _ _ hk => ?_) ?_ | (rename_i e; refine same_pair_snd e ?_) | (rename_i e; refine same_pair_fst e ?_) | (rename_i e; refine same_pair_trd e ?_) | split | fail_if_no_progress apply Same.route_)

theorem State.beginCommit_same {o : Nat} {b : State} {s : State} {c : Commit} (hk : Same o b s) (ho : 6156 &&& o = 6156 := by exact mask_sub (by decide) ho) :
    Same o b (State.beginCommit s c) := by
  unfold State.beginCommit
  (try simp only [])
  with_reducible repeat' (first | exact hk | exact mask_sub (by decide) ho | apply State.addAlignment_same | apply ite_same | (rename_i e; refine same_pair_snd e ?_) | (rename_i e; refine same_pair_fst e ?_) | (rename_i e; refine same_pair_trd e ?_) | split | fail_if_no_progress apply Same.com_)

theorem State.cmdCommit_same {o : Nat} {b : State} {s : State} {h : CmdHead} {kind chip token mask frame : Nat} (hk : Same o b s) (ho : 178190 &&& o = 178190 := by exact mask_sub (by decide) ho) :
    Same o b (State.cmdCommit s h kind chip token mask frame) := by
  unfold State.cmdCommit
  (try simp only [])
  with_reducible repeat' (first | exact hk | exact mask_sub (by decide) ho | apply State.beginCommit_same | apply State.complete_same | apply State.answer_same | apply ite_same | split)

theorem State.impliedCommit_same {o : Nat} {b : State} {s : State} {r : RouteReq} (hk : Same o b s) (ho : 6156 &&& o = 6156 := by exact mask_sub (by decide) ho) :
    Same o b (State.impliedCommit s r) := by
  unfold State.impliedCommit
  (try simp only [])
  with_reducible repeat' (first | exact hk | exact mask_sub (by decide) ho | apply State.beginCommit_same | split)

theorem State.select_same {o : Nat} {b : State} {s : State} {phys st : Nat} (hk : Same o b s) (ho : 2 &&& o = 2 := by exact mask_sub (by decide) ho) :
    Same o b (State.select s phys st) := by
  unfold State.select
  (try simp only [])
  with_reducible repeat' (first | exact hk | exact mask_sub (by decide) ho | apply State.wr_same | split)

theorem State.applyRemaps_same {o : Nat} {b : State} {s : State} {num : Nat} (hk : Same o b s) (ho : 6144 &&& o = 6144 := by exact mask_sub (by decide) ho) :
    Same o b (State.applyRemaps s num) := by
  unfold State.applyRemaps
  (try simp only [])
  with_reducible repeat' (first | exact hk | exact mask_sub (by decide) ho | apply State.updCommit_same | refine foldl_same (fun _ _ hk => ?_) ?_ | refine foldl_fst_same (fun _ _ hk => ?_) ?_ | refine foldl_snd_same (fun _ _ hk => ?_) ?_ | apply ite_same | split | fail_if_no_progress apply Same.route_)

theorem State.switchCommit_same {o : Nat} {b : State} {s : State} {late : List Nat} {c : Commit} (hk : Same o b s) (ho : 8394766 &&& o = 8394766 := by exact mask_sub (by decide) ho) :
    Same o b (State.switchCommit s late c) := by
  unfold State.switchCommit
  (try simp only [])
  with_reducible repeat' (first | exact hk | exact mask_sub (by decide) ho | apply State.applyRemaps_same | apply State.select_same | apply State.updCommit_same | apply State.bumpB_same | apply State.wrB_same | apply State.wr_same | refine State.over_same (fun _ _ hk => ?_) ?_ | refine foldl_same (fun _ _ hk => ?_) ?_ | refine foldl_fst_same (fun _ _ hk => ?_) ?_ | refine foldl_snd_same (fun _ _ hk => ?_) ?_ | apply ite_same | (rename_i e; refine same_pair_snd e ?_) | (rename_i e; refine same_pair_fst e ?_) | (rename_i e; refine same_pair_trd e ?_) | split | fail_if_no_progress apply Same.loop_ | fail_if_no_progress apply Same.route_)

theorem State.alignCommit_same {o : Nat} {b : State} {s : State} {num : Nat} (hk : Same o b s) (ho : 2048 &&& o = 2048 := by exact mask_sub (by decide) ho) :
    Same o b (State.alignCommit s num) := by
  unfold State.alignCommit
  (try simp only [])
  with_reducible repeat' (first | exact hk | exact mask_sub (by decide) ho | apply ite_same | (rename_i e; refine same_pair_snd e ?_) | (rename_i e; refine same_pair_fst e ?_) | (rename_i e; refine same_pair_trd e ?_) | split | fail_if_no_progress apply Same.route_)

theorem State.commitDoneNotice_same {o : Nat} {b : State} {s : State} {c : Commit} (hk : Same o b s) (ho : 8192 &&& o = 8192 := by exact mask_sub (by decide) ho) :
    Same o b (State.commitDoneNotice s c) := by
  unfold State.commitDoneNotice
  (try simp only [])
  with_reducible repeat' (first | exact hk | exact mask_sub (by decide) ho | apply State.notice_same | refine foldl_same (fun _ _ hk => ?_) ?_ | refine foldl_fst_same (fun _ _ hk => ?_) ?_ | refine foldl_snd_same (fun _ _ hk => ?_) ?_ | apply ite_same | split)

theorem State.rearrangeNotices_same {o : Nat} {b : State} {s : State} {c : Commit} (hk : Same o b s) (ho : 8204 &&& o = 8204 := by exact mask_sub (by decide) ho) :
    Same o b (State.rearrangeNotices s c) := by
  unfold State.rearrangeNotices
  (try simp only [])
  with_reducible repeat' (first | exact hk | exact mask_sub (by decide) ho | apply State.notice_same | apply State.bumpB_same | refine State.over_same (fun _ _ hk => ?_) ?_ | split)

theorem State.dropNotice_same {o : Nat} {b : State} {s : State} {it : PItem} {status : Nat} (hk : Same o b s) (ho : 8192 &&& o = 8192 := by exact mask_sub (by decide) ho) :
    Same o b (State.dropNotice s it status) := by
  unfold State.dropNotice
  (try simp only [])
  with_reducible repeat' (first | exact hk | exact mask_sub (by decide) ho | apply State.notice_same | refine State.over_same (fun _ _ hk => ?_) ?_ | apply ite_same | split)

theorem State.rerouteItems_same {o : Nat} {b : State} {s : State} (hk : Same o b s) (ho : 10240 &&& o = 10240 := by exact mask_sub (by decide) ho) :
    Same o b (State.rerouteItems s) := by
  unfold State.rerouteItems
  (try simp only [])
  with_reducible repeat' (first | exact hk | exact mask_sub (by decide) ho | apply State.dropNotice_same | refine State.over_same (fun _ _ hk => ?_) ?_ | apply ite_same | (rename_i e; refine same_pair_snd e ?_) | (rename_i e; refine same_pair_fst e ?_) | (rename_i e; refine same_pair_trd e ?_) | split | fail_if_no_progress apply Same.route_)

theorem State.removeItems_same {o : Nat} {b : State} {s : State} {gone : PItem → Bool} (hk : Same o b s) (ho : 10240 &&& o = 10240 := by exact mask_sub (by decide) ho) :
    Same o b (State.removeItems s gone) := by
  unfold State.removeItems
  (try simp only [])
  with_reducible repeat' (first | exact hk | exact mask_sub (by decide) ho | apply State.rerouteItems_same | apply ite_same | split | fail_if_no_progress apply Same.route_)

theorem State.rearrangeExpire_same {o : Nat} {b : State} {s : State} (hk : Same o b s) (ho : 10240 &&& o = 10240 := by exact mask_sub (by decide) ho) :
    Same o b (State.rearrangeExpire s) := by
  unfold State.rearrangeExpire
  (try simp only [])
  with_reducible repeat' (first | exact hk | exact mask_sub (by decide) ho | apply State.removeItems_same | apply State.dropNotice_same | refine State.over_same (fun _ _ hk => ?_) ?_ | apply ite_same | split)

theorem State.cancelCommit_same {o : Nat} {b : State} {s : State} {c : Commit} (hk : Same o b s) (ho : 47106 &&& o = 47106 := by exact mask_sub (by decide) ho) :
    Same o b (State.cancelCommit s c) := by
  unfold State.cancelCommit
  (try simp only [])
  with_reducible repeat' (first | exact hk | exact mask_sub (by decide) ho | apply State.removeItems_same | apply State.showTokens_same | apply State.dropCommit_same | apply State.complete_same | split | fail_if_no_progress apply Same.com_)

theorem State.cmdAbort_same {o : Nat} {b : State} {s : State} {h : CmdHead} {sFrame sChip : Nat} (hk : Same o b s) (ho : 178178 &&& o = 178178 := by exact mask_sub (by decide) ho) :
    Same o b (State.cmdAbort s h sFrame sChip) := by
  unfold State.cmdAbort
  (try simp only [])
  with_reducible repeat' (first | exact hk | exact mask_sub (by decide) ho | apply State.cancelCommit_same | apply State.removeItems_same | apply State.complete_same | apply State.answer_same | refine State.over_same (fun _ _ hk => ?_) ?_ | apply ite_same | (rename_i e; refine same_pair_snd e ?_) | (rename_i e; refine same_pair_fst e ?_) | (rename_i e; refine same_pair_trd e ?_) | split)

theorem State.dropFor_same {o : Nat} {b : State} {s : State} {p : Nat} {hit : PItem → Bool} (hk : Same o b s) (ho : 47106 &&& o = 47106 := by exact mask_sub (by decide) ho) :
    Same o b (State.dropFor s p hit) := by
  unfold State.dropFor
  (try simp only [])
  with_reducible repeat' (first | exact hk | exact mask_sub (by decide) ho | apply State.cancelCommit_same | apply State.removeItems_same | apply State.dropNotice_same | refine State.over_same (fun _ _ hk => ?_) ?_ | split)

end Sys2Proof.Machine
end

