-- ==== Sys2Proof/Laws/SameSense.lean ====
section
/-! SUPPORT. Laws/SameSense.lean: what every operation of Machine/Sense.lean leaves (Laws/Same.lean). -/

set_option linter.all false
set_option Elab.async false

namespace Sys2Proof.Machine

open Sys2Proof

theorem State.updSense_same {o : Nat} {b : State} {s : State} {t : Nat} {f : TileSense → TileSense} (hk : Same o b s) (ho : 262144 &&& o = 262144 := by exact mask_sub (by decide) ho) :
    Same o b (State.updSense s t f) := by
  unfold State.updSense
  (try simp only [])
  with_reducible repeat' (first | exact hk | exact mask_sub (by decide) ho | split | fail_if_no_progress apply Same.sense_)

theorem State.takeSamples_same {o : Nat} {b : State} {s : State} {x : FrameIn} (hk : Same o b s) (ho : 262146 &&& o = 262146 := by exact mask_sub (by decide) ho) :
    Same o b (State.takeSamples s x) := by
  unfold State.takeSamples
  (try simp only [])
  with_reducible repeat' (first | exact hk | exact mask_sub (by decide) ho | apply State.setWord_same | refine State.over_same (fun _ _ hk => ?_) ?_ | apply ite_same | split | fail_if_no_progress apply Same.sense_)

theorem State.showAverages_same {o : Nat} {b : State} {s : State} (hk : Same o b s) (ho : 2 &&& o = 2 := by exact mask_sub (by decide) ho) :
    Same o b (State.showAverages s) := by
  unfold State.showAverages
  (try simp only [])
  with_reducible repeat' (first | exact hk | exact mask_sub (by decide) ho | apply State.setWord_same | refine State.over_same (fun _ _ hk => ?_) ?_ | split)

theorem State.logCompare_same {o : Nat} {b : State} {s : State} {t j diff : Nat} (hk : Same o b s) (ho : 2 &&& o = 2 := by exact mask_sub (by decide) ho) :
    Same o b (State.logCompare s t j diff) := by
  unfold State.logCompare
  (try simp only [])
  with_reducible repeat' (first | exact hk | exact mask_sub (by decide) ho | apply State.wr_same | split)

theorem State.rotateTile_same {o : Nat} {b : State} {s : State} {x : FrameIn} {t : Nat} (hk : Same o b s) (ho : 393218 &&& o = 393218 := by exact mask_sub (by decide) ho) :
    Same o b (State.rotateTile s x t) := by
  unfold State.rotateTile
  (try simp only [])
  with_reducible repeat' (first | exact hk | exact mask_sub (by decide) ho | apply State.logCompare_same | apply State.updSense_same | apply State.raise_same | apply State.bump_same | apply State.wr_same | apply State.when_same | apply ite_same | split)

theorem State.loseSlice_same {o : Nat} {b : State} {s : State} {t j : Nat} (hk : Same o b s) (ho : 393216 &&& o = 393216 := by exact mask_sub (by decide) ho) :
    Same o b (State.loseSlice s t j) := by
  unfold State.loseSlice
  (try simp only [])
  with_reducible repeat' (first | exact hk | exact mask_sub (by decide) ho | apply State.updSense_same | apply State.raise_same | split)

theorem State.spareFails_same {o : Nat} {b : State} {s : State} {t : Nat} (hk : Same o b s) (ho : 262146 &&& o = 262146 := by exact mask_sub (by decide) ho) :
    Same o b (State.spareFails s t) := by
  unfold State.spareFails
  (try simp only [])
  with_reducible repeat' (first | exact hk | exact mask_sub (by decide) ho | apply State.updSense_same | apply State.wr_same | split)

theorem State.unsettle_same {o : Nat} {b : State} {s : State} {t first : Nat} (hk : Same o b s) (ho : 262146 &&& o = 262146 := by exact mask_sub (by decide) ho) :
    Same o b (State.unsettle s t first) := by
  unfold State.unsettle
  (try simp only [])
  with_reducible repeat' (first | exact hk | exact mask_sub (by decide) ho | apply State.updSense_same | apply State.wr_same | split)

theorem State.settleRef_same {o : Nat} {b : State} {s : State} {x : FrameIn} {t : Nat} (hk : Same o b s) (ho : 393218 &&& o = 393218 := by exact mask_sub (by decide) ho) :
    Same o b (State.settleRef s x t) := by
  unfold State.settleRef
  (try simp only [])
  with_reducible repeat' (first | exact hk | exact mask_sub (by decide) ho | apply State.updSense_same | apply State.endReport_same | apply State.wr_same | apply State.when_same | apply ite_same | split)

theorem State.refOut_same {o : Nat} {b : State} {s : State} {t k : Nat} (hk : Same o b s) (ho : 262146 &&& o = 262146 := by exact mask_sub (by decide) ho) :
    Same o b (State.refOut s t k) := by
  unfold State.refOut
  (try simp only [])
  with_reducible repeat' (first | exact hk | exact mask_sub (by decide) ho | apply State.unsettle_same | apply State.wr_same | split)

theorem State.refTimeout_same {o : Nat} {b : State} {s : State} {t : Nat} (hk : Same o b s) (ho : 393218 &&& o = 393218 := by exact mask_sub (by decide) ho) :
    Same o b (State.refTimeout s t) := by
  unfold State.refTimeout
  (try simp only [])
  with_reducible repeat' (first | exact hk | exact mask_sub (by decide) ho | apply State.updSense_same | apply State.raise_same | apply State.wr_same | apply ite_same | split)

theorem State.rampBias_same {o : Nat} {b : State} {s : State} {t : Nat} (hk : Same o b s) (ho : 2 &&& o = 2 := by exact mask_sub (by decide) ho) :
    Same o b (State.rampBias s t) := by
  unfold State.rampBias
  (try simp only [])
  with_reducible repeat' (first | exact hk | exact mask_sub (by decide) ho | apply State.wr_same | split)

theorem State.biasLimit_same {o : Nat} {b : State} {s : State} {t : Nat} (hk : Same o b s) (ho : 131074 &&& o = 131074 := by exact mask_sub (by decide) ho) :
    Same o b (State.biasLimit s t) := by
  unfold State.biasLimit
  (try simp only [])
  with_reducible repeat' (first | exact hk | exact mask_sub (by decide) ho | apply State.raise_same | apply State.wr_same | split)

theorem State.senseBefore_same {o : Nat} {b : State} {s : State} {x : FrameIn} (hk : Same o b s) (ho : 393218 &&& o = 393218 := by exact mask_sub (by decide) ho) :
    Same o b (State.senseBefore s x) := by
  unfold State.senseBefore
  (try simp only [])
  with_reducible repeat' (first | exact hk | exact mask_sub (by decide) ho | apply State.rampBias_same | apply State.rotateTile_same | apply State.showAverages_same | apply State.takeSamples_same | refine State.over_same (fun _ _ hk => ?_) ?_ | split)

theorem State.senseAfter_same {o : Nat} {b : State} {s : State} {x : FrameIn} {oldRanges : List (Nat × Nat)} {oldRefs : List Nat} (hk : Same o b s) (ho : 393218 &&& o = 393218 := by exact mask_sub (by decide) ho) :
    Same o b (State.senseAfter s x oldRanges oldRefs) := by
  unfold State.senseAfter
  (try simp only [])
  with_reducible repeat' (first | exact hk | exact mask_sub (by decide) ho | apply State.settleRef_same | apply State.unsettle_same | refine State.over_same (fun _ _ hk => ?_) ?_ | apply ite_same | split | fail_if_no_progress apply Same.sense_)

end Sys2Proof.Machine
end

