-- ==== Sys2Proof/Laws/SameCapture.lean ====
section
/-! SUPPORT. Laws/SameCapture.lean: what every operation of Machine/Capture.lean leaves (Laws/Same.lean). -/

set_option linter.all false
set_option Elab.async false

namespace Sys2Proof.Machine

open Sys2Proof

theorem State.setCapByte_same {o : Nat} {b : State} {s : State} {a v : Nat} (hk : Same o b s) (ho : 524288 &&& o = 524288 := by exact mask_sub (by decide) ho) :
    Same o b (State.setCapByte s a v) := by
  unfold State.setCapByte
  (try simp only [])
  with_reducible repeat' (first | exact hk | exact mask_sub (by decide) ho | apply ite_same | split | fail_if_no_progress apply Same.cap_)

theorem State.setCapBytes_same {o : Nat} {b : State} {s : State} {a : Nat} {l : List Nat} (hk : Same o b s) (ho : 524288 &&& o = 524288 := by exact mask_sub (by decide) ho) : Same o b (s.setCapBytes a l) := by
  induction l generalizing s a with
  | nil => exact hk
  | cons v vs ih => exact ih (State.setCapByte_same hk)

theorem State.scramble_same {o : Nat} {b : State} {s : State} {lo size : Nat} (hk : Same o b s) (ho : 68720001024 &&& o = 68720001024 := by exact mask_sub (by decide) ho) :
    Same o b (State.scramble s lo size) := by
  have h1 : ∀ (u : State) (x : Capture) (y : Nat), Same o b u → Same o b { u with cap := x, freeCount := y } :=
    fun u x y hu => Same.free_ (s := { u with cap := x }) (Same.cap_ hu (mask_sub (by decide) ho)) (mask_sub (by decide) ho)
  unfold State.scramble
  exact h1 _ _ _ hk

theorem State.updChan_same {o : Nat} {b : State} {s : State} {c : Nat} {f : ChanState → ChanState} (hk : Same o b s) (ho : 524288 &&& o = 524288 := by exact mask_sub (by decide) ho) :
    Same o b (State.updChan s c f) := by
  unfold State.updChan
  (try simp only [])
  with_reducible repeat' (first | exact hk | exact mask_sub (by decide) ho | split | fail_if_no_progress apply Same.cap_)

theorem State.startChan_same {o : Nat} {b : State} {s : State} {c f : Nat} (hk : Same o b s) (ho : 524290 &&& o = 524290 := by exact mask_sub (by decide) ho) :
    Same o b (State.startChan s c f) := by
  unfold State.startChan
  (try simp only [])
  with_reducible repeat' (first | exact hk | exact mask_sub (by decide) ho | apply State.updChan_same | apply State.wr_same | apply ite_same | split)

theorem State.captureBoundary_same {o : Nat} {b : State} {s : State} {enabled : List Nat} (hk : Same o b s) (ho : 524290 &&& o = 524290 := by exact mask_sub (by decide) ho) :
    Same o b (State.captureBoundary s enabled) := by
  unfold State.captureBoundary
  (try simp only [])
  with_reducible repeat' (first | exact hk | exact mask_sub (by decide) ho | apply State.startChan_same | apply State.updChan_same | apply State.wr_same | refine State.over_same (fun _ _ hk => ?_) ?_ | apply State.when_same | apply ite_same | split)

theorem State.putRecord_same {o : Nat} {b : State} {s : State} {c : Nat} {bytes : List Nat} (hk : Same o b s) (ho : 524290 &&& o = 524290 := by exact mask_sub (by decide) ho) :
    Same o b (State.putRecord s c bytes) := by
  unfold State.putRecord
  (try simp only [])
  with_reducible repeat' (first | exact hk | exact mask_sub (by decide) ho | apply State.updChan_same | apply State.setCapByte_same | apply State.wr_same | apply State.when_same | refine foldl_same (fun _ _ hk => ?_) ?_ | refine foldl_fst_same (fun _ _ hk => ?_) ?_ | refine foldl_snd_same (fun _ _ hk => ?_) ?_ | apply ite_same | split)

theorem State.watermarkNotices_same {o : Nat} {b : State} {s : State} (hk : Same o b s) (ho : 532480 &&& o = 532480 := by exact mask_sub (by decide) ho) :
    Same o b (State.watermarkNotices s) := by
  unfold State.watermarkNotices
  (try simp only [])
  with_reducible repeat' (first | exact hk | exact mask_sub (by decide) ho | apply State.updChan_same | apply State.notice_same | refine State.over_same (fun _ _ hk => ?_) ?_ | apply ite_same | split)

theorem State.writeRptr_same {o : Nat} {b : State} {s : State} {c v : Nat} (hk : Same o b s) (ho : 524290 &&& o = 524290 := by exact mask_sub (by decide) ho) :
    Same o b (State.writeRptr s c v) := by
  unfold State.writeRptr
  (try simp only [])
  with_reducible repeat' (first | exact hk | exact mask_sub (by decide) ho | apply State.updChan_same | apply State.advance_same | apply State.wr_same | apply ite_same | split)

theorem State.captureRecord_same {o : Nat} {b : State} {s : State} {k last : Nat} {codes : List (List Nat)} (hk : Same o b s) (ho : 524290 &&& o = 524290 := by exact mask_sub (by decide) ho) :
    Same o b (State.captureRecord s k last codes) := by
  unfold State.captureRecord
  (try simp only [])
  with_reducible repeat' (first | exact hk | exact mask_sub (by decide) ho | apply State.putRecord_same | apply ite_same | split)

end Sys2Proof.Machine
end

