-- ==== Sys2Proof/Laws/SameHka.lean ====
section
/-! SUPPORT. Laws/SameHka.lean: what every operation of Machine/Hka.lean leaves (Laws/Same.lean). -/

set_option linter.all false
set_option Elab.async false

namespace Sys2Proof.Machine

open Sys2Proof

theorem State.setHka_same {o : Nat} {b : State} {s : State} {f : Hka → Hka} (hk : Same o b s) (ho : 1048576 &&& o = 1048576 := by exact mask_sub (by decide) ho) :
    Same o b (State.setHka s f) := by
  unfold State.setHka
  (try simp only [])
  with_reducible repeat' (first | exact hk | exact mask_sub (by decide) ho | split | fail_if_no_progress apply Same.hka_)

theorem State.hkaPop_same {o : Nat} {b : State} {s : State} (hk : Same o b s) (ho : 1048576 &&& o = 1048576 := by exact mask_sub (by decide) ho) :
    Same o b (State.hkaPop s) := by
  unfold State.hkaPop
  (try simp only [])
  with_reducible repeat' (first | exact hk | exact mask_sub (by decide) ho | apply State.setHka_same | split)

theorem State.inject_same {o : Nat} {b : State} {s : State} {channel tag : Nat} {head : Option CmdHead} (hk : Same o b s) (ho : 1048578 &&& o = 1048578 := by exact mask_sub (by decide) ho) :
    Same o b ((State.inject s channel tag head).1) := by
  unfold State.inject
  (try simp only [])
  with_reducible repeat' (first | exact hk | exact mask_sub (by decide) ho | apply State.setHka_same | apply State.bump_same | apply ite_same | split)

theorem State.cmdInject_same {o : Nat} {b : State} {s : State} {h : CmdHead} {channel tag : Nat} (hk : Same o b s) (ho : 1220610 &&& o = 1220610 := by exact mask_sub (by decide) ho) :
    Same o b (State.cmdInject s h channel tag) := by
  unfold State.cmdInject
  (try simp only [])
  with_reducible repeat' (first | exact hk | exact mask_sub (by decide) ho | apply State.inject_same | apply State.answer_same | apply ite_same | (rename_i e; refine same_pair_snd e ?_) | (rename_i e; refine same_pair_fst e ?_) | (rename_i e; refine same_pair_trd e ?_) | split)

theorem State.requestHkaCal_same {o : Nat} {b : State} {s : State} (hk : Same o b s) (ho : 1048576 &&& o = 1048576 := by exact mask_sub (by decide) ho) :
    Same o b (State.requestHkaCal s) := by
  unfold State.requestHkaCal
  (try simp only [])
  with_reducible repeat' (first | exact hk | exact mask_sub (by decide) ho | apply State.setHka_same | apply ite_same | split)

theorem State.setRefin_same {o : Nat} {b : State} {s : State} (hk : Same o b s) (ho : 2 &&& o = 2 := by exact mask_sub (by decide) ho) :
    Same o b (State.setRefin s) := by
  unfold State.setRefin
  (try simp only [])
  with_reducible repeat' (first | exact hk | exact mask_sub (by decide) ho | apply State.wr_same | split)

theorem State.setRext_same {o : Nat} {b : State} {s : State} {ok : Bool} (hk : Same o b s) (ho : 131074 &&& o = 131074 := by exact mask_sub (by decide) ho) :
    Same o b (State.setRext s ok) := by
  unfold State.setRext
  (try simp only [])
  with_reducible repeat' (first | exact hk | exact mask_sub (by decide) ho | apply State.endReport_same | apply State.raise_same | apply State.wr_same | apply ite_same | split)

theorem State.hkaResult_same {o : Nat} {b : State} {s : State} {c code : Nat} (hk : Same o b s) (ho : 1179650 &&& o = 1179650 := by exact mask_sub (by decide) ho) :
    Same o b (State.hkaResult s c code) := by
  unfold State.hkaResult
  (try simp only [])
  with_reducible repeat' (first | exact hk | exact mask_sub (by decide) ho | apply State.setRext_same | apply State.setRefin_same | apply State.setHka_same | apply State.endReport_same | apply State.raise_same | apply State.setWord_same | apply ite_same | split)

theorem State.roundSlot_same {o : Nat} {b : State} {s : State} {code : Nat} (hk : Same o b s) (ho : 1179650 &&& o = 1179650 := by exact mask_sub (by decide) ho) :
    Same o b (State.roundSlot s code) := by
  unfold State.roundSlot
  (try simp only [])
  with_reducible repeat' (first | exact hk | exact mask_sub (by decide) ho | apply State.hkaResult_same | apply State.setHka_same | apply ite_same | split)

theorem State.interruptGroup_same {o : Nat} {b : State} {s : State} (hk : Same o b s) (ho : 1048576 &&& o = 1048576 := by exact mask_sub (by decide) ho) :
    Same o b (State.interruptGroup s) := by
  unfold State.interruptGroup
  (try simp only [])
  with_reducible repeat' (first | exact hk | exact mask_sub (by decide) ho | apply State.setHka_same | apply ite_same | split)

theorem State.hkaNewRound_same {o : Nat} {b : State} {s : State} (hk : Same o b s) (ho : 1048578 &&& o = 1048578 := by exact mask_sub (by decide) ho) :
    Same o b (State.hkaNewRound s) := by
  unfold State.hkaNewRound
  (try simp only [])
  with_reducible repeat' (first | exact hk | exact mask_sub (by decide) ho | apply State.setHka_same | apply State.bump_same | apply State.wr_same | refine State.over_same (fun _ _ hk => ?_) ?_ | split)

theorem State.hkaFrame_same {o : Nat} {b : State} {s : State} (hk : Same o b s) (ho : 1048578 &&& o = 1048578 := by exact mask_sub (by decide) ho) :
    Same o b (State.hkaFrame s) := by
  unfold State.hkaFrame
  (try simp only [])
  with_reducible repeat' (first | exact hk | exact mask_sub (by decide) ho | apply State.hkaNewRound_same | apply State.setHka_same | apply ite_same | split)

theorem State.injectionSlot_same {o : Nat} {b : State} {s : State} {inj : HkaInj} {code : Nat} (hk : Same o b s) (ho : 1220610 &&& o = 1220610 := by exact mask_sub (by decide) ho) :
    Same o b (State.injectionSlot s inj code) := by
  unfold State.injectionSlot
  (try simp only [])
  with_reducible repeat' (first | exact hk | exact mask_sub (by decide) ho | apply State.interruptGroup_same | apply State.setHka_same | apply State.answer_same | apply ite_same | (rename_i e; refine same_pair_snd e ?_) | (rename_i e; refine same_pair_fst e ?_) | (rename_i e; refine same_pair_trd e ?_) | split)

theorem State.hkaCalEnd_same {o : Nat} {b : State} {s : State} {ofs gain : Int} (hk : Same o b s) (ho : 1179650 &&& o = 1179650 := by exact mask_sub (by decide) ho) :
    Same o b (State.hkaCalEnd s ofs gain) := by
  unfold State.hkaCalEnd
  (try simp only [])
  with_reducible repeat' (first | exact hk | exact mask_sub (by decide) ho | apply State.setRext_same | apply State.setHka_same | apply State.raise_same | apply State.wrS_same | apply State.wr_same | apply ite_same | split)

theorem State.calSlot_same {o : Nat} {b : State} {s : State} {code : Nat} {ofs gain : Int} (hk : Same o b s) (ho : 1179650 &&& o = 1179650 := by exact mask_sub (by decide) ho) :
    Same o b (State.calSlot s code ofs gain) := by
  unfold State.calSlot
  (try simp only [])
  with_reducible repeat' (first | exact hk | exact mask_sub (by decide) ho | apply State.hkaCalEnd_same | apply State.interruptGroup_same | apply State.setHka_same | apply ite_same | split)

theorem State.hkaTrims_same {o : Nat} {b : State} {s : State} (hk : Same o b s) (ho : 1048578 &&& o = 1048578 := by exact mask_sub (by decide) ho) :
    Same o b (State.hkaTrims s) := by
  unfold State.hkaTrims
  (try simp only [])
  with_reducible repeat' (first | exact hk | exact mask_sub (by decide) ho | apply State.setHka_same | apply State.advance_same | apply State.wrS_same | apply State.wr_same | apply State.when_same | (rename_i e; refine same_pair_snd e ?_) | (rename_i e; refine same_pair_fst e ?_) | (rename_i e; refine same_pair_trd e ?_) | split)

theorem State.hkaSlot_same {o : Nat} {b : State} {s : State} {k code : Nat} {ofs gain : Int} (hk : Same o b s) (ho : 1220610 &&& o = 1220610 := by exact mask_sub (by decide) ho) :
    Same o b (State.hkaSlot s k code ofs gain) := by
  unfold State.hkaSlot
  (try simp only [])
  with_reducible repeat' (first | exact hk | exact mask_sub (by decide) ho | apply State.calSlot_same | apply State.injectionSlot_same | apply State.roundSlot_same | apply State.setHka_same | apply ite_same | (rename_i e; refine same_pair_snd e ?_) | (rename_i e; refine same_pair_fst e ?_) | (rename_i e; refine same_pair_trd e ?_) | split)

end Sys2Proof.Machine
end

