-- ==== Sys2Proof/Laws/SameDither.lean ====
section
/-! SUPPORT. Laws/SameDither.lean: what every operation of Machine/Dither.lean leaves (Laws/Same.lean). -/

set_option linter.all false
set_option Elab.async false

namespace Sys2Proof.Machine

open Sys2Proof

theorem State.setCx_same {o : Nat} {b : State} {s : State} {f : Nat → FieldAt} {n v : Nat} (hk : Same o b s) (ho : 12 &&& o = 12 := by exact mask_sub (by decide) ho) :
    Same o b (State.setCx s f n v) := by
  unfold State.setCx
  (try simp only [])
  with_reducible repeat' (first | exact hk | exact mask_sub (by decide) ho | apply State.wrB_same | split)

theorem State.loadAmps_same {o : Nat} {b : State} {s : State} {m : Mode} (hk : Same o b s) (ho : 2 &&& o = 2 := by exact mask_sub (by decide) ho) :
    Same o b (State.loadAmps s m) := by
  unfold State.loadAmps
  (try simp only [])
  with_reducible repeat' (first | exact hk | exact mask_sub (by decide) ho | apply State.wr_same | refine State.over_same (fun _ _ hk => ?_) ?_ | split)

theorem State.setSlots_same {o : Nat} {b : State} {s : State} {l : List SlotHist} (hk : Same o b s) (ho : 2097152 &&& o = 2097152 := by exact mask_sub (by decide) ho) :
    Same o b (State.setSlots s l) := by
  unfold State.setSlots
  (try simp only [])
  with_reducible repeat' (first | exact hk | exact mask_sub (by decide) ho | split | fail_if_no_progress apply Same.dith_)

theorem State.bind_same {o : Nat} {b : State} {s : State} {n slot : Nat} {lent : Bool} (hk : Same o b s) (ho : 2097152 &&& o = 2097152 := by exact mask_sub (by decide) ho) :
    Same o b (State.bind s n slot lent) := by
  unfold State.bind
  (try simp only [])
  with_reducible repeat' (first | exact hk | exact mask_sub (by decide) ho | apply State.setSlots_same | split)

theorem State.unbind_same {o : Nat} {b : State} {s : State} (hk : Same o b s) (ho : 2097152 &&& o = 2097152 := by exact mask_sub (by decide) ho) :
    Same o b (State.unbind s) := by
  unfold State.unbind
  (try simp only [])
  with_reducible repeat' (first | exact hk | exact mask_sub (by decide) ho | apply State.setSlots_same | split)

theorem State.reclaim_same {o : Nat} {b : State} {s : State} {borrower : Nat} (hk : Same o b s) (ho : 12 &&& o = 12 := by exact mask_sub (by decide) ho) :
    Same o b (State.reclaim s borrower) := by
  unfold State.reclaim
  (try simp only [])
  with_reducible repeat' (first | exact hk | exact mask_sub (by decide) ho | apply State.setCx_same | apply ite_same | split)

theorem State.bindSlots_same {o : Nat} {b : State} {s : State} (hk : Same o b s) (ho : 2097164 &&& o = 2097164 := by exact mask_sub (by decide) ho) :
    Same o b (State.bindSlots s) := by
  unfold State.bindSlots
  (try simp only [])
  with_reducible repeat' (first | exact hk | exact mask_sub (by decide) ho | apply State.reclaim_same | apply State.unbind_same | apply State.bind_same | apply State.setCx_same | refine State.over_same (fun _ _ hk => ?_) ?_ | apply State.when_same | apply ite_same | (rename_i e; refine same_pair_snd e ?_) | (rename_i e; refine same_pair_fst e ?_) | (rename_i e; refine same_pair_trd e ?_) | split)

theorem State.clearChanged_same {o : Nat} {b : State} {s : State} (hk : Same o b s) (ho : 2097152 &&& o = 2097152 := by exact mask_sub (by decide) ho) :
    Same o b (State.clearChanged s) := by
  unfold State.clearChanged
  (try simp only [])
  with_reducible repeat' (first | exact hk | exact mask_sub (by decide) ho | apply State.setSlots_same | apply ite_same | split)

theorem State.clearSlots_same {o : Nat} {b : State} {s : State} {l : List Nat} (hk : Same o b s) (ho : 2097152 &&& o = 2097152 := by exact mask_sub (by decide) ho) :
    Same o b (State.clearSlots s l) := by
  unfold State.clearSlots
  (try simp only [])
  with_reducible repeat' (first | exact hk | exact mask_sub (by decide) ho | apply State.setSlots_same | apply ite_same | split)

theorem State.pushSums_same {o : Nat} {b : State} {s : State} (hk : Same o b s) (ho : 2097152 &&& o = 2097152 := by exact mask_sub (by decide) ho) :
    Same o b (State.pushSums s) := by
  unfold State.pushSums
  (try simp only [])
  with_reducible repeat' (first | exact hk | exact mask_sub (by decide) ho | split | fail_if_no_progress apply Same.dith_)

theorem State.showWords_same {o : Nat} {b : State} {s : State} {before : List SlotHist} (hk : Same o b s) (ho : 2 &&& o = 2 := by exact mask_sub (by decide) ho) :
    Same o b (State.showWords s before) := by
  unfold State.showWords
  (try simp only [])
  with_reducible repeat' (first | exact hk | exact mask_sub (by decide) ho | apply State.setWord_same | refine State.over_same (fun _ _ hk => ?_) ?_ | split)

theorem State.corrResidue_same {o : Nat} {b : State} {s : State} {t slot : Nat} (hk : Same o b s) (ho : 2228226 &&& o = 2228226 := by exact mask_sub (by decide) ho) :
    Same o b (State.corrResidue s t slot) := by
  unfold State.corrResidue
  (try simp only [])
  with_reducible repeat' (first | exact hk | exact mask_sub (by decide) ho | apply State.raise_same | apply State.wr_same | split | fail_if_no_progress apply Same.dith_)

theorem State.dropExactOnly_same {o : Nat} {b : State} {s : State} (hk : Same o b s) (ho : 12 &&& o = 12 := by exact mask_sub (by decide) ho) :
    Same o b (State.dropExactOnly s) := by
  unfold State.dropExactOnly
  (try simp only [])
  with_reducible repeat' (first | exact hk | exact mask_sub (by decide) ho | apply State.setCx_same | refine State.over_same (fun _ _ hk => ?_) ?_ | split)

end Sys2Proof.Machine
end

