-- ==== Sys2Proof/Laws/SameStencil.lean ====
section
/-! SUPPORT. Laws/SameStencil.lean: what every operation of Machine/Stencil.lean leaves (Laws/Same.lean). -/

set_option linter.all false
set_option Elab.async false

namespace Sys2Proof.Machine

open Sys2Proof

theorem State.updGen_same {o : Nat} {b : State} {s : State} {i : Nat} {f : Gen → Gen} (hk : Same o b s) (ho : 4194304 &&& o = 4194304 := by exact mask_sub (by decide) ho) :
    Same o b (State.updGen s i f) := by
  unfold State.updGen
  (try simp only [])
  with_reducible repeat' (first | exact hk | exact mask_sub (by decide) ho | split | fail_if_no_progress apply Same.gens_)

theorem State.stopGen_same {o : Nat} {b : State} {s : State} {i cause : Nat} (hk : Same o b s) (ho : 4194304 &&& o = 4194304 := by exact mask_sub (by decide) ho) :
    Same o b (State.stopGen s i cause) := by
  unfold State.stopGen
  (try simp only [])
  with_reducible repeat' (first | exact hk | exact mask_sub (by decide) ho | apply State.updGen_same | split)

theorem State.startGen_same {o : Nat} {b : State} {s : State} {i a : Nat} (hk : Same o b s) (ho : 4194316 &&& o = 4194316 := by exact mask_sub (by decide) ho) :
    Same o b (State.startGen s i a) := by
  unfold State.startGen
  (try simp only [])
  with_reducible repeat' (first | exact hk | exact mask_sub (by decide) ho | apply State.updGen_same | apply State.wrP_same | split)

theorem State.trigger_same {o : Nat} {b : State} {s : State} {i a : Nat} (hk : Same o b s) (ho : 4194316 &&& o = 4194316 := by exact mask_sub (by decide) ho) :
    Same o b (State.trigger s i a) := by
  unfold State.trigger
  (try simp only [])
  with_reducible repeat' (first | exact hk | exact mask_sub (by decide) ho | apply State.startGen_same | apply State.wrP_same | apply ite_same | split)

theorem State.armGen_same {o : Nat} {b : State} {s : State} {i : Nat} (hk : Same o b s) (ho : 4194304 &&& o = 4194304 := by exact mask_sub (by decide) ho) :
    Same o b (State.armGen s i) := by
  unfold State.armGen
  (try simp only [])
  with_reducible repeat' (first | exact hk | exact mask_sub (by decide) ho | apply State.updGen_same | apply ite_same | split)

theorem State.commandTrigger_same {o : Nat} {b : State} {s : State} {i : Nat} (hk : Same o b s) (ho : 4194316 &&& o = 4194316 := by exact mask_sub (by decide) ho) :
    Same o b (State.commandTrigger s i) := by
  unfold State.commandTrigger
  (try simp only [])
  with_reducible repeat' (first | exact hk | exact mask_sub (by decide) ho | apply State.trigger_same | apply State.wrP_same | apply ite_same | split)

theorem State.haltGen_same {o : Nat} {b : State} {s : State} {i : Nat} (hk : Same o b s) (ho : 4194304 &&& o = 4194304 := by exact mask_sub (by decide) ho) :
    Same o b (State.haltGen s i) := by
  unfold State.haltGen
  (try simp only [])
  with_reducible repeat' (first | exact hk | exact mask_sub (by decide) ho | apply State.stopGen_same | apply State.updGen_same | apply ite_same | split)

theorem State.evtEdge_same {o : Nat} {b : State} {s : State} {evt : Nat} {rising : Bool} (hk : Same o b s) (ho : 4194316 &&& o = 4194316 := by exact mask_sub (by decide) ho) :
    Same o b (State.evtEdge s evt rising) := by
  unfold State.evtEdge
  (try simp only [])
  with_reducible repeat' (first | exact hk | exact mask_sub (by decide) ho | apply State.trigger_same | refine State.over_same (fun _ _ hk => ?_) ?_ | apply ite_same | split)

theorem State.frameTrigger_same {o : Nat} {b : State} {s : State} {i : Nat} (hk : Same o b s) (ho : 4194316 &&& o = 4194316 := by exact mask_sub (by decide) ho) :
    Same o b (State.frameTrigger s i) := by
  unfold State.frameTrigger
  (try simp only [])
  with_reducible repeat' (first | exact hk | exact mask_sub (by decide) ho | apply State.startGen_same | apply ite_same | split)

theorem State.latchStreams_same {o : Nat} {b : State} {s : State} (hk : Same o b s) (ho : 4194316 &&& o = 4194316 := by exact mask_sub (by decide) ho) :
    Same o b (State.latchStreams s) := by
  unfold State.latchStreams
  (try simp only [])
  with_reducible repeat' (first | exact hk | exact mask_sub (by decide) ho | apply State.updGen_same | apply State.wrPS_same | refine State.over_same (fun _ _ hk => ?_) ?_ | apply ite_same | split)

theorem State.showNative_same {o : Nat} {b : State} {s : State} {i : Nat} (hk : Same o b s) (ho : 12 &&& o = 12 := by exact mask_sub (by decide) ho) :
    Same o b (State.showNative s i) := by
  unfold State.showNative
  (try simp only [])
  with_reducible repeat' (first | exact hk | exact mask_sub (by decide) ho | apply State.wrPS_same | split)

theorem State.runOp_same {o : Nat} {b : State} {s : State} {i op : Nat} {f : Nat → Gen → Gen} (hk : Same o b s) (ho : 4194316 &&& o = 4194316 := by exact mask_sub (by decide) ho) :
    Same o b (State.runOp s i op f) := by
  unfold State.runOp
  (try simp only [])
  with_reducible repeat' (first | exact hk | exact mask_sub (by decide) ho | apply State.showNative_same | apply State.updGen_same | apply ite_same | split)

theorem State.genBr_same {o : Nat} {b : State} {s : State} {i : Nat} (hk : Same o b s) (ho : 4194304 &&& o = 4194304 := by exact mask_sub (by decide) ho) :
    Same o b (State.genBr s i) := by
  unfold State.genBr
  (try simp only [])
  with_reducible repeat' (first | exact hk | exact mask_sub (by decide) ho | apply State.updGen_same | apply ite_same | (rename_i e; refine same_pair_snd e ?_) | (rename_i e; refine same_pair_fst e ?_) | (rename_i e; refine same_pair_trd e ?_) | split)

theorem State.genWait_same {o : Nat} {b : State} {s : State} {i : Nat} (hk : Same o b s) (ho : 4194316 &&& o = 4194316 := by exact mask_sub (by decide) ho) :
    Same o b (State.genWait s i) := by
  unfold State.genWait
  (try simp only [])
  with_reducible repeat' (first | exact hk | exact mask_sub (by decide) ho | apply State.showNative_same | apply State.updGen_same | apply ite_same | (rename_i e; refine same_pair_snd e ?_) | (rename_i e; refine same_pair_fst e ?_) | (rename_i e; refine same_pair_trd e ?_) | split)

theorem State.genStop_same {o : Nat} {b : State} {s : State} {i : Nat} (hk : Same o b s) (ho : 4194304 &&& o = 4194304 := by exact mask_sub (by decide) ho) :
    Same o b (State.genStop s i) := by
  unfold State.genStop
  (try simp only [])
  with_reducible repeat' (first | exact hk | exact mask_sub (by decide) ho | apply State.stopGen_same | apply ite_same | split)

theorem State.genIllegal_same {o : Nat} {b : State} {s : State} {i : Nat} (hk : Same o b s) (ho : 4325376 &&& o = 4325376 := by exact mask_sub (by decide) ho) :
    Same o b (State.genIllegal s i) := by
  unfold State.genIllegal
  (try simp only [])
  with_reducible repeat' (first | exact hk | exact mask_sub (by decide) ho | apply State.stopGen_same | apply State.raise_same | apply ite_same | split)

theorem State.genRunaway_same {o : Nat} {b : State} {s : State} {i : Nat} (hk : Same o b s) (ho : 4325376 &&& o = 4325376 := by exact mask_sub (by decide) ho) :
    Same o b (State.genRunaway s i) := by
  unfold State.genRunaway
  (try simp only [])
  with_reducible repeat' (first | exact hk | exact mask_sub (by decide) ho | apply State.stopGen_same | apply State.raise_same | apply ite_same | split)

theorem State.mtStart_same {o : Nat} {b : State} {s : State} {p : Plane} {noReturn restored : Bool} (hk : Same o b s) (ho : 4194316 &&& o = 4194316 := by exact mask_sub (by decide) ho) :
    Same o b (State.mtStart s p noReturn restored) := by
  unfold State.mtStart
  (try simp only [])
  with_reducible repeat' (first | exact hk | exact mask_sub (by decide) ho | apply State.updGen_same | apply State.wrP_same | apply State.setWordP_same | apply ite_same | split)

theorem State.mtLeaves_same {o : Nat} {b : State} {s : State} {p : Plane} (hk : Same o b s) (ho : 68720001024 &&& o = 68720001024 := by exact mask_sub (by decide) ho) :
    Same o b (State.mtLeaves s p) := by
  unfold State.mtLeaves
  (try simp only [])
  with_reducible repeat' (first | exact hk | exact mask_sub (by decide) ho | apply State.scramble_same | apply ite_same | split)

theorem State.mtEnd_same {o : Nat} {b : State} {s : State} {p : Plane} (hk : Same o b s) (ho : 68724195340 &&& o = 68724195340 := by exact mask_sub (by decide) ho) :
    Same o b (State.mtEnd s p) := by
  unfold State.mtEnd
  (try simp only [])
  with_reducible repeat' (first | exact hk | exact mask_sub (by decide) ho | apply State.mtLeaves_same | apply State.updGen_same | apply State.wrP_same | split)

theorem State.mtAbort_same {o : Nat} {b : State} {s : State} {p : Plane} (hk : Same o b s) (ho : 68724195340 &&& o = 68724195340 := by exact mask_sub (by decide) ho) :
    Same o b (State.mtAbort s p) := by
  unfold State.mtAbort
  (try simp only [])
  with_reducible repeat' (first | exact hk | exact mask_sub (by decide) ho | apply State.mtEnd_same | apply State.wrP_same | apply ite_same | split)

theorem State.mtDone_same {o : Nat} {b : State} {s : State} {p : Plane} {fails addr element diff check : Nat} (hk : Same o b s) (ho : 68724326412 &&& o = 68724326412 := by exact mask_sub (by decide) ho) :
    Same o b (State.mtDone s p fails addr element diff check) := by
  unfold State.mtDone
  (try simp only [])
  with_reducible repeat' (first | exact hk | exact mask_sub (by decide) ho | apply State.mtEnd_same | apply State.raise_same | apply State.wrP_same | apply State.setWordP_same | apply ite_same | split)

end Sys2Proof.Machine
end

