-- ==== Sys2Proof/Laws/SameLoop.lean ====
section
/-! SUPPORT. Laws/SameLoop.lean: what every operation of Machine/Loop.lean leaves (Laws/Same.lean). -/

set_option linter.all false
set_option Elab.async false

namespace Sys2Proof.Machine

open Sys2Proof

theorem State.setLoop_same {o : Nat} {b : State} {s : State} {f : Loop → Loop} (hk : Same o b s) (ho : 8388608 &&& o = 8388608 := by exact mask_sub (by decide) ho) :
    Same o b (State.setLoop s f) := by
  unfold State.setLoop
  (try simp only [])
  with_reducible repeat' (first | exact hk | exact mask_sub (by decide) ho | split | fail_if_no_progress apply Same.loop_)

theorem State.due_same {o : Nat} {b : State} {s : State} {n : Nat} {e : LoopEvent} (hk : Same o b s) (ho : 8388608 &&& o = 8388608 := by exact mask_sub (by decide) ho) :
    Same o b (State.due s n e) := by
  unfold State.due
  (try simp only [])
  with_reducible repeat' (first | exact hk | exact mask_sub (by decide) ho | apply State.setLoop_same | split)

theorem State.suspectOn_same {o : Nat} {b : State} {s : State} {n : Nat} (hk : Same o b s) (ho : 8388608 &&& o = 8388608 := by exact mask_sub (by decide) ho) :
    Same o b (State.suspectOn s n) := by
  unfold State.suspectOn
  (try simp only [])
  with_reducible repeat' (first | exact hk | exact mask_sub (by decide) ho | apply State.setLoop_same | split)

theorem State.resumeCheck_same {o : Nat} {b : State} {s : State} {n : Nat} (hk : Same o b s) (ho : 8388620 &&& o = 8388620 := by exact mask_sub (by decide) ho) :
    Same o b (State.resumeCheck s n) := by
  unfold State.resumeCheck
  (try simp only [])
  with_reducible repeat' (first | exact hk | exact mask_sub (by decide) ho | apply State.due_same | apply State.setCx_same | apply ite_same | split)

theorem State.energyTests_same {o : Nat} {b : State} {s : State} {n : Nat} {x : FbWord} (hk : Same o b s) (ho : 8388620 &&& o = 8388620 := by exact mask_sub (by decide) ho) :
    Same o b ((State.energyTests s n x).1) := by
  unfold State.energyTests
  (try simp only [])
  with_reducible repeat' (first | exact hk | exact mask_sub (by decide) ho | apply State.due_same | apply State.setCx_same | apply ite_same | split)

theorem State.validate_same {o : Nat} {b : State} {s : State} {n : Nat} (hk : Same o b s) (ho : 8388620 &&& o = 8388620 := by exact mask_sub (by decide) ho) :
    Same o b (State.validate s n) := by
  unfold State.validate
  (try simp only [])
  with_reducible repeat' (first | exact hk | exact mask_sub (by decide) ho | apply State.energyTests_same | apply State.resumeCheck_same | apply State.suspectOn_same | apply State.due_same | apply State.setCx_same | apply State.when_same | apply ite_same | (rename_i e; refine same_pair_snd e ?_) | (rename_i e; refine same_pair_fst e ?_) | (rename_i e; refine same_pair_trd e ?_) | split)

theorem State.validityPass_same {o : Nat} {b : State} {s : State} (hk : Same o b s) (ho : 8388620 &&& o = 8388620 := by exact mask_sub (by decide) ho) :
    Same o b (State.validityPass s) := by
  unfold State.validityPass
  (try simp only [])
  with_reducible repeat' (first | exact hk | exact mask_sub (by decide) ho | apply State.validate_same | apply State.due_same | apply State.setLoop_same | refine State.over_same (fun _ _ hk => ?_) ?_ | apply ite_same | split)

theorem State.holdCtx_same {o : Nat} {b : State} {s : State} {n cause : Nat} (hk : Same o b s) (ho : 12 &&& o = 12 := by exact mask_sub (by decide) ho) :
    Same o b (State.holdCtx s n cause) := by
  unfold State.holdCtx
  (try simp only [])
  with_reducible repeat' (first | exact hk | exact mask_sub (by decide) ho | apply State.setCx_same | apply ite_same | split)

theorem State.takeDue_same {o : Nat} {b : State} {s : State} {n : Nat} {e : LoopEvent} {f : State → State} (hf : ∀ s, Same o b s → Same o b (f s)) (hk : Same o b s) (ho : 8388608 &&& o = 8388608 := by exact mask_sub (by decide) ho) :
    Same o b (State.takeDue s n e f) := by
  unfold State.takeDue
  split
  · exact hf _ (State.setLoop_same hk)
  · exact hk

theorem State.feedbackLost_same {o : Nat} {b : State} {s : State} {n : Nat} (hk : Same o b s) (ho : 8519694 &&& o = 8519694 := by exact mask_sub (by decide) ho) :
    Same o b (State.feedbackLost s n) := by
  unfold State.feedbackLost
  (try simp only [])
  with_reducible repeat' (first | exact hk | exact mask_sub (by decide) ho | refine State.takeDue_same (fun _ hk => ?_) ?_ ?_ | apply State.holdCtx_same | apply State.raise_same | apply State.bump_same | split)

theorem State.feedbackFrozen_same {o : Nat} {b : State} {s : State} {n : Nat} (hk : Same o b s) (ho : 8519694 &&& o = 8519694 := by exact mask_sub (by decide) ho) :
    Same o b (State.feedbackFrozen s n) := by
  unfold State.feedbackFrozen
  (try simp only [])
  with_reducible repeat' (first | exact hk | exact mask_sub (by decide) ho | refine State.takeDue_same (fun _ hk => ?_) ?_ ?_ | apply State.holdCtx_same | apply State.raise_same | apply State.bump_same | split)

theorem State.inputInvalid_same {o : Nat} {b : State} {s : State} {n : Nat} (hk : Same o b s) (ho : 8519692 &&& o = 8519692 := by exact mask_sub (by decide) ho) :
    Same o b (State.inputInvalid s n) := by
  unfold State.inputInvalid
  (try simp only [])
  with_reducible repeat' (first | exact hk | exact mask_sub (by decide) ho | refine State.takeDue_same (fun _ hk => ?_) ?_ ?_ | apply State.holdCtx_same | apply State.raise_same | split)

theorem State.feedbackOverload_same {o : Nat} {b : State} {s : State} {n : Nat} (hk : Same o b s) (ho : 8519680 &&& o = 8519680 := by exact mask_sub (by decide) ho) :
    Same o b (State.feedbackOverload s n) := by
  unfold State.feedbackOverload
  (try simp only [])
  with_reducible repeat' (first | exact hk | exact mask_sub (by decide) ho | refine State.takeDue_same (fun _ hk => ?_) ?_ ?_ | apply State.raise_same | split)

theorem State.following_same {o : Nat} {b : State} {s : State} {n : Nat} (hk : Same o b s) (ho : 8519692 &&& o = 8519692 := by exact mask_sub (by decide) ho) :
    Same o b (State.following s n) := by
  unfold State.following
  (try simp only [])
  with_reducible repeat' (first | exact hk | exact mask_sub (by decide) ho | refine State.takeDue_same (fun _ hk => ?_) ?_ ?_ | apply State.holdCtx_same | apply State.raise_same | apply ite_same | split)

theorem State.autoResume_same {o : Nat} {b : State} {s : State} {n : Nat} (hk : Same o b s) (ho : 8388620 &&& o = 8388620 := by exact mask_sub (by decide) ho) :
    Same o b (State.autoResume s n) := by
  unfold State.autoResume
  (try simp only [])
  with_reducible repeat' (first | exact hk | exact mask_sub (by decide) ho | refine State.takeDue_same (fun _ hk => ?_) ?_ ?_ | apply State.setCx_same | split)

theorem State.latchSpp_same {o : Nat} {b : State} {s : State} {x : FrameIn} {old : List Nat} (hk : Same o b s) (ho : 8388610 &&& o = 8388610 := by exact mask_sub (by decide) ho) :
    Same o b (State.latchSpp s x old) := by
  unfold State.latchSpp
  (try simp only [])
  with_reducible repeat' (first | exact hk | exact mask_sub (by decide) ho | apply State.setLoop_same | apply State.setWord_same | refine State.over_same (fun _ _ hk => ?_) ?_ | apply ite_same | split)

theorem State.latchSpa_same {o : Nat} {b : State} {s : State} (hk : Same o b s) (ho : 8388608 &&& o = 8388608 := by exact mask_sub (by decide) ho) :
    Same o b (State.latchSpa s) := by
  unfold State.latchSpa
  (try simp only [])
  with_reducible repeat' (first | exact hk | exact mask_sub (by decide) ho | apply State.setLoop_same | split)

theorem State.store_same {o : Nat} {b : State} {s : State} {x : Upd} (hk : Same o b s) (ho : 12 &&& o = 12 := by exact mask_sub (by decide) ho) :
    Same o b (State.store s x) := by
  unfold State.store
  (try simp only [])
  with_reducible repeat' (first | exact hk | exact mask_sub (by decide) ho | apply State.setCx_same | apply ite_same | split)

theorem State.completeFrame_same {o : Nat} {b : State} {s : State} {overran : List Nat} (hk : Same o b s) (ho : 8388608 &&& o = 8388608 := by exact mask_sub (by decide) ho) :
    Same o b (State.completeFrame s overran) := by
  unfold State.completeFrame
  (try simp only [])
  with_reducible repeat' (first | exact hk | exact mask_sub (by decide) ho | apply State.following_same | apply State.due_same | apply State.setLoop_same | apply ite_same | split)

theorem State.releaseFrame_same {o : Nat} {b : State} {s : State} (hk : Same o b s) (ho : 8912910 &&& o = 8912910 := by exact mask_sub (by decide) ho) :
    Same o b (State.releaseFrame s) := by
  unfold State.releaseFrame
  (try simp only [])
  with_reducible repeat' (first | exact hk | exact mask_sub (by decide) ho | apply State.store_same | apply State.setLoop_same | apply State.putRecord_same | refine State.over_same (fun _ _ hk => ?_) ?_ | split)

theorem State.sleepCtx_same {o : Nat} {b : State} {s : State} {n : Nat} (hk : Same o b s) (ho : 12 &&& o = 12 := by exact mask_sub (by decide) ho) :
    Same o b (State.sleepCtx s n) := by
  unfold State.sleepCtx
  (try simp only [])
  with_reducible repeat' (first | exact hk | exact mask_sub (by decide) ho | apply State.setCx_same | apply ite_same | split)

theorem State.wakeCtx_same {o : Nat} {b : State} {s : State} {n : Nat} (hk : Same o b s) (ho : 12 &&& o = 12 := by exact mask_sub (by decide) ho) :
    Same o b (State.wakeCtx s n) := by
  unfold State.wakeCtx
  (try simp only [])
  with_reducible repeat' (first | exact hk | exact mask_sub (by decide) ho | apply State.setCx_same | apply ite_same | split)

theorem State.exchange_same {o : Nat} {b : State} {s : State} {n : Nat} (hk : Same o b s) (ho : 12 &&& o = 12 := by exact mask_sub (by decide) ho) :
    Same o b (State.exchange s n) := by
  unfold State.exchange
  (try simp only [])
  with_reducible repeat' (first | exact hk | exact mask_sub (by decide) ho | apply State.setCx_same | apply ite_same | split)

theorem State.selectSp_same {o : Nat} {b : State} {s : State} {n sel : Nat} (hk : Same o b s) (ho : 12 &&& o = 12 := by exact mask_sub (by decide) ho) :
    Same o b (State.selectSp s n sel) := by
  unfold State.selectSp
  (try simp only [])
  with_reducible repeat' (first | exact hk | exact mask_sub (by decide) ho | apply State.exchange_same | apply State.setCx_same | apply ite_same | split)

theorem State.wakeCell_same {o : Nat} {b : State} {s : State} {r : CellRec} {st : Nat} (hk : Same o b s) (ho : 12 &&& o = 12 := by exact mask_sub (by decide) ho) :
    Same o b (State.wakeCell s r st) := by
  unfold State.wakeCell
  (try simp only [])
  with_reducible repeat' (first | exact hk | exact mask_sub (by decide) ho | apply State.selectSp_same | apply State.wakeCtx_same | apply State.sleepCtx_same | apply ite_same | split)

theorem State.commitBs_same {o : Nat} {b : State} {s : State} {c : Commit} {tiles : Nat → Bool} (hk : Same o b s) (ho : 14 &&& o = 14 := by exact mask_sub (by decide) ho) :
    Same o b (State.commitBs s c tiles) := by
  unfold State.commitBs
  (try simp only [])
  with_reducible repeat' (first | exact hk | exact mask_sub (by decide) ho | apply State.wakeCell_same | apply State.selectSp_same | apply State.wakeCtx_same | apply State.sleepCtx_same | apply State.setCx_same | apply State.wrS_same | refine State.over_same (fun _ _ hk => ?_) ?_ | apply ite_same | split)

theorem State.allBs_same {o : Nat} {b : State} {s : State} (hk : Same o b s) (ho : 8394766 &&& o = 8394766 := by exact mask_sub (by decide) ho) :
    Same o b (State.allBs s) := by
  unfold State.allBs
  (try simp only [])
  with_reducible repeat' (first | exact hk | exact mask_sub (by decide) ho | apply State.commitBs_same | apply State.setLoop_same | apply State.applyRemaps_same | apply State.updCommit_same | refine State.over_same (fun _ _ hk => ?_) ?_ | apply ite_same | (rename_i e; refine same_pair_snd e ?_) | (rename_i e; refine same_pair_fst e ?_) | (rename_i e; refine same_pair_trd e ?_) | split)

theorem State.endBlanking_same {o : Nat} {b : State} {s : State} (hk : Same o b s) (ho : 10485760 &&& o = 10485760 := by exact mask_sub (by decide) ho) :
    Same o b (State.endBlanking s) := by
  unfold State.endBlanking
  (try simp only [])
  with_reducible repeat' (first | exact hk | exact mask_sub (by decide) ho | apply State.setLoop_same | apply State.clearSlots_same | split)

theorem State.putState_same {o : Nat} {b : State} {s : State} {n st cause : Nat} (hk : Same o b s) (ho : 12 &&& o = 12 := by exact mask_sub (by decide) ho) :
    Same o b (State.putState s n st cause) := by
  unfold State.putState
  (try simp only [])
  with_reducible repeat' (first | exact hk | exact mask_sub (by decide) ho | apply State.setCx_same | split)

theorem State.activate_same {o : Nat} {b : State} {s : State} {n : Nat} (hk : Same o b s) (ho : 12 &&& o = 12 := by exact mask_sub (by decide) ho) :
    Same o b (State.activate s n) := by
  unfold State.activate
  (try simp only [])
  with_reducible repeat' (first | exact hk | exact mask_sub (by decide) ho | apply State.putState_same | apply State.setCx_same | apply ite_same | split)

theorem State.applyRequest_same {o : Nat} {b : State} {s : State} {n want : Nat} (hk : Same o b s) (ho : 12 &&& o = 12 := by exact mask_sub (by decide) ho) :
    Same o b (State.applyRequest s n want) := by
  unfold State.applyRequest
  (try simp only [])
  with_reducible repeat' (first | exact hk | exact mask_sub (by decide) ho | apply State.activate_same | apply State.putState_same | apply State.setCx_same | apply ite_same | (rename_i e; refine same_pair_snd e ?_) | (rename_i e; refine same_pair_fst e ?_) | (rename_i e; refine same_pair_trd e ?_) | split)

theorem State.decideRequests_same {o : Nat} {b : State} {s : State} {n : Nat} {reqs : List StateReq} (hk : Same o b s) (ho : 172046 &&& o = 172046 := by exact mask_sub (by decide) ho) :
    Same o b (State.decideRequests s n reqs) := by
  unfold State.decideRequests
  (try simp only [])
  with_reducible repeat' (first | exact hk | exact mask_sub (by decide) ho | apply State.applyRequest_same | apply State.answerAt_same | apply State.wrB_same | refine State.over_same (fun _ _ hk => ?_) ?_ | apply ite_same | (rename_i e; refine same_pair_snd e ?_) | (rename_i e; refine same_pair_fst e ?_) | (rename_i e; refine same_pair_trd e ?_) | split)

theorem State.applyRequests_same {o : Nat} {b : State} {s : State} (hk : Same o b s) (ho : 8560654 &&& o = 8560654 := by exact mask_sub (by decide) ho) :
    Same o b (State.applyRequests s) := by
  unfold State.applyRequests
  (try simp only [])
  with_reducible repeat' (first | exact hk | exact mask_sub (by decide) ho | apply State.decideRequests_same | apply State.setLoop_same | refine State.over_same (fun _ _ hk => ?_) ?_ | split)

theorem State.request_same {o : Nat} {b : State} {s : State} {r : StateReq} (hk : Same o b s) (ho : 8388608 &&& o = 8388608 := by exact mask_sub (by decide) ho) :
    Same o b (State.request s r) := by
  unfold State.request
  (try simp only [])
  with_reducible repeat' (first | exact hk | exact mask_sub (by decide) ho | apply State.setLoop_same | split)

theorem State.fenceCtx_same {o : Nat} {b : State} {s : State} {n cause : Nat} (hk : Same o b s) (ho : 12 &&& o = 12 := by exact mask_sub (by decide) ho) :
    Same o b (State.fenceCtx s n cause) := by
  unfold State.fenceCtx
  (try simp only [])
  with_reducible repeat' (first | exact hk | exact mask_sub (by decide) ho | apply State.putState_same | apply ite_same | split)

theorem State.afterWrites_same {o : Nat} {b : State} {s : State} {before : List (Nat × List Nat × Nat)} {tables : List (Nat × Nat)} (hk : Same o b s) (ho : 12 &&& o = 12 := by exact mask_sub (by decide) ho) :
    Same o b (State.afterWrites s before tables) := by
  unfold State.afterWrites
  (try simp only [])
  with_reducible repeat' (first | exact hk | exact mask_sub (by decide) ho | apply State.exchange_same | apply State.setCx_same | refine State.over_same (fun _ _ hk => ?_) ?_ | apply ite_same | split)

theorem State.noteExpress_same {o : Nat} {b : State} {s : State} {chip : Nat} {x : Upd} (hk : Same o b s) (ho : 8388608 &&& o = 8388608 := by exact mask_sub (by decide) ho) :
    Same o b (State.noteExpress s chip x) := by
  unfold State.noteExpress
  (try simp only [])
  with_reducible repeat' (first | exact hk | exact mask_sub (by decide) ho | apply State.following_same | apply State.due_same | apply State.setLoop_same | apply ite_same | (rename_i e; refine same_pair_snd e ?_) | (rename_i e; refine same_pair_fst e ?_) | (rename_i e; refine same_pair_trd e ?_) | split)

theorem State.chipRecords_same {o : Nat} {b : State} {s : State} {n chip : Nat} {codes : List Nat} {r : Option Upd} (hk : Same o b s) (ho : 524290 &&& o = 524290 := by exact mask_sub (by decide) ho) :
    Same o b (State.chipRecords s n chip codes r) := by
  unfold State.chipRecords
  (try simp only [])
  with_reducible repeat' (first | exact hk | exact mask_sub (by decide) ho | apply State.putRecord_same | refine State.over_same (fun _ _ hk => ?_) ?_ | apply ite_same | split)

theorem State.expressOverrun_same {o : Nat} {b : State} {s : State} {n chip : Nat} (hk : Same o b s) (ho : 8388610 &&& o = 8388610 := by exact mask_sub (by decide) ho) :
    Same o b (State.expressOverrun s n chip) := by
  unfold State.expressOverrun
  (try simp only [])
  with_reducible repeat' (first | exact hk | exact mask_sub (by decide) ho | apply State.setLoop_same | apply State.bump_same | apply ite_same | split)

theorem State.noteMargin_same {o : Nat} {b : State} {s : State} {t m : Nat} (hk : Same o b s) (ho : 8388610 &&& o = 8388610 := by exact mask_sub (by decide) ho) :
    Same o b (State.noteMargin s t m) := by
  unfold State.noteMargin
  (try simp only [])
  with_reducible repeat' (first | exact hk | exact mask_sub (by decide) ho | apply State.setLoop_same | apply State.wr_same | split)

theorem State.endMarginWindow_same {o : Nat} {b : State} {s : State} (hk : Same o b s) (ho : 8388610 &&& o = 8388610 := by exact mask_sub (by decide) ho) :
    Same o b (State.endMarginWindow s) := by
  unfold State.endMarginWindow
  (try simp only [])
  with_reducible repeat' (first | exact hk | exact mask_sub (by decide) ho | apply State.setLoop_same | apply State.wr_same | refine State.over_same (fun _ _ hk => ?_) ?_ | apply ite_same | split)

theorem State.storeEcc_same {o : Nat} {b : State} {s : State} {p : Plane} {t ix : Nat} {double : Bool} (hk : Same o b s) (ho : 131084 &&& o = 131084 := by exact mask_sub (by decide) ho) :
    Same o b (State.storeEcc s p t ix double) := by
  unfold State.storeEcc
  (try simp only [])
  with_reducible repeat' (first | exact hk | exact mask_sub (by decide) ho | apply State.raise_same | apply State.wrP_same | apply ite_same | split)

theorem State.refreshMiss_same {o : Nat} {b : State} {s : State} {p : Plane} {t : Nat} (hk : Same o b s) (ho : 131084 &&& o = 131084 := by exact mask_sub (by decide) ho) :
    Same o b (State.refreshMiss s p t) := by
  unfold State.refreshMiss
  (try simp only [])
  with_reducible repeat' (first | exact hk | exact mask_sub (by decide) ho | apply State.raise_same | apply State.wrP_same | split)

end Sys2Proof.Machine
end

