-- ==== Sys2Proof/Laws/SameActuator.lean ====
section
/-! SUPPORT. Laws/SameActuator.lean: what every operation of Machine/Actuator.lean leaves (Laws/Same.lean). -/

set_option linter.all false
set_option Elab.async false

namespace Sys2Proof.Machine

open Sys2Proof

theorem State.setAct_same {o : Nat} {b : State} {s : State} {f : Act → Act} (hk : Same o b s) (ho : 33554432 &&& o = 33554432 := by exact mask_sub (by decide) ho) :
    Same o b (State.setAct s f) := by
  unfold State.setAct
  (try simp only [])
  with_reducible repeat' (first | exact hk | exact mask_sub (by decide) ho | split | fail_if_no_progress apply Same.act_)

theorem State.updTile_same {o : Nat} {b : State} {s : State} {t : Nat} {f : ActTile → ActTile} (hk : Same o b s) (ho : 33554432 &&& o = 33554432 := by exact mask_sub (by decide) ho) :
    Same o b (State.updTile s t f) := by
  unfold State.updTile
  (try simp only [])
  with_reducible repeat' (first | exact hk | exact mask_sub (by decide) ho | apply State.setAct_same | split)

theorem State.putChan_same {o : Nat} {b : State} {s : State} {c : HtrChan} (hk : Same o b s) (ho : 33554432 &&& o = 33554432 := by exact mask_sub (by decide) ho) :
    Same o b (State.putChan s c) := by
  unfold State.putChan
  (try simp only [])
  with_reducible repeat' (first | exact hk | exact mask_sub (by decide) ho | apply State.setAct_same | split)

theorem State.updHtr_same {o : Nat} {b : State} {s : State} {h : Nat} {f : HtrChan → HtrChan} (hk : Same o b s) (ho : 33554432 &&& o = 33554432 := by exact mask_sub (by decide) ho) :
    Same o b (State.updHtr s h f) := by
  unfold State.updHtr
  (try simp only [])
  with_reducible repeat' (first | exact hk | exact mask_sub (by decide) ho | apply State.putChan_same | split)

theorem State.latchHtr_same {o : Nat} {b : State} {s : State} {h : Nat} {on : Bool} (hk : Same o b s) (ho : 2 &&& o = 2 := by exact mask_sub (by decide) ho) :
    Same o b (State.latchHtr s h on) := by
  unfold State.latchHtr
  (try simp only [])
  with_reducible repeat' (first | exact hk | exact mask_sub (by decide) ho | apply State.wr_same | apply ite_same | split)

theorem State.latchFd_same {o : Nat} {b : State} {s : State} {d : Nat} {on : Bool} (hk : Same o b s) (ho : 2 &&& o = 2 := by exact mask_sub (by decide) ho) :
    Same o b (State.latchFd s d on) := by
  unfold State.latchFd
  (try simp only [])
  with_reducible repeat' (first | exact hk | exact mask_sub (by decide) ho | apply State.wr_same | apply ite_same | split)

theorem State.frameStatus_same {o : Nat} {b : State} {s : State} {pins : List HeaterPin} {h : Nat} (hk : Same o b s) (ho : 33685506 &&& o = 33685506 := by exact mask_sub (by decide) ho) :
    Same o b (State.frameStatus s pins h) := by
  unfold State.frameStatus
  (try simp only [])
  with_reducible repeat' (first | exact hk | exact mask_sub (by decide) ho | apply State.putChan_same | apply State.setAct_same | apply State.due_same | apply State.endReport_same | apply State.wr_same | apply ite_same | split)

theorem State.allStatus_same {o : Nat} {b : State} {s : State} {pins : List HeaterPin} (hk : Same o b s) (ho : 33685506 &&& o = 33685506 := by exact mask_sub (by decide) ho) :
    Same o b (State.allStatus s pins) := by
  unfold State.allStatus
  (try simp only [])
  with_reducible repeat' (first | exact hk | exact mask_sub (by decide) ho | apply State.frameStatus_same | refine State.over_same (fun _ _ hk => ?_) ?_ | split)

theorem State.takeActDue_same {o : Nat} {b : State} {s : State} {k h : Nat} {f : State → State} (hf : ∀ s, Same o b s → Same o b (f s)) (hk : Same o b s) (ho : 33554432 &&& o = 33554432 := by exact mask_sub (by decide) ho) :
    Same o b (State.takeActDue s k h f) := by
  unfold State.takeActDue
  split
  · exact hf _ (State.setAct_same hk)
  · exact hk

theorem State.heaterOpen_same {o : Nat} {b : State} {s : State} {h : Nat} (hk : Same o b s) (ho : 33685504 &&& o = 33685504 := by exact mask_sub (by decide) ho) :
    Same o b (State.heaterOpen s h) := by
  unfold State.heaterOpen
  (try simp only [])
  with_reducible repeat' (first | exact hk | exact mask_sub (by decide) ho | refine State.takeActDue_same (fun _ hk => ?_) ?_ ?_ | apply State.raise_same | split)

theorem State.heaterShort_same {o : Nat} {b : State} {s : State} {h : Nat} (hk : Same o b s) (ho : 33685504 &&& o = 33685504 := by exact mask_sub (by decide) ho) :
    Same o b (State.heaterShort s h) := by
  unfold State.heaterShort
  (try simp only [])
  with_reducible repeat' (first | exact hk | exact mask_sub (by decide) ho | refine State.takeActDue_same (fun _ hk => ?_) ?_ ?_ | apply State.updHtr_same | apply State.raise_same | split)

theorem State.heaterLoad_same {o : Nat} {b : State} {s : State} {h : Nat} (hk : Same o b s) (ho : 33685504 &&& o = 33685504 := by exact mask_sub (by decide) ho) :
    Same o b (State.heaterLoad s h) := by
  unfold State.heaterLoad
  (try simp only [])
  with_reducible repeat' (first | exact hk | exact mask_sub (by decide) ho | refine State.takeActDue_same (fun _ hk => ?_) ?_ ?_ | apply State.updHtr_same | apply State.raise_same | split)

theorem State.driverOverload_same {o : Nat} {b : State} {s : State} {d : Nat} (hk : Same o b s) (ho : 131074 &&& o = 131074 := by exact mask_sub (by decide) ho) :
    Same o b (State.driverOverload s d) := by
  unfold State.driverOverload
  (try simp only [])
  with_reducible repeat' (first | exact hk | exact mask_sub (by decide) ho | apply State.latchFd_same | apply State.raise_same | apply ite_same | split)

theorem State.applyLatches_same {o : Nat} {b : State} {s : State} (hk : Same o b s) (ho : 33554434 &&& o = 33554434 := by exact mask_sub (by decide) ho) :
    Same o b (State.applyLatches s) := by
  unfold State.applyLatches
  (try simp only [])
  with_reducible repeat' (first | exact hk | exact mask_sub (by decide) ho | apply State.latchFd_same | apply State.latchHtr_same | apply State.updHtr_same | apply State.setAct_same | refine State.over_same (fun _ _ hk => ?_) ?_ | (rename_i e; refine same_pair_snd e ?_) | (rename_i e; refine same_pair_fst e ?_) | (rename_i e; refine same_pair_trd e ?_) | split)

theorem State.noteMode_same {o : Nat} {b : State} {s : State} {h : Nat} (hk : Same o b s) (ho : 33554432 &&& o = 33554432 := by exact mask_sub (by decide) ho) :
    Same o b (State.noteMode s h) := by
  unfold State.noteMode
  (try simp only [])
  with_reducible repeat' (first | exact hk | exact mask_sub (by decide) ho | apply State.putChan_same | split)

theorem State.applyModes_same {o : Nat} {b : State} {s : State} (hk : Same o b s) (ho : 33554434 &&& o = 33554434 := by exact mask_sub (by decide) ho) :
    Same o b (State.applyModes s) := by
  unfold State.applyModes
  (try simp only [])
  with_reducible repeat' (first | exact hk | exact mask_sub (by decide) ho | apply State.putChan_same | apply State.setWord_same | refine State.over_same (fun _ _ hk => ?_) ?_ | apply ite_same | split)

theorem State.applyTrims_same {o : Nat} {b : State} {s : State} {changed : List Nat} (hk : Same o b s) (ho : 33554432 &&& o = 33554432 := by exact mask_sub (by decide) ho) :
    Same o b (State.applyTrims s changed) := by
  unfold State.applyTrims
  (try simp only [])
  with_reducible repeat' (first | exact hk | exact mask_sub (by decide) ho | apply State.updHtr_same | apply State.putChan_same | refine State.over_same (fun _ _ hk => ?_) ?_ | split)

theorem State.trimApply_same {o : Nat} {b : State} {s : State} {h : Nat} (hk : Same o b s) (ho : 33554432 &&& o = 33554432 := by exact mask_sub (by decide) ho) :
    Same o b (State.trimApply s h) := by
  unfold State.trimApply
  (try simp only [])
  with_reducible repeat' (first | exact hk | exact mask_sub (by decide) ho | apply State.updHtr_same | apply ite_same | split)

theorem State.latchFenced_same {o : Nat} {b : State} {s : State} (hk : Same o b s) (ho : 8388608 &&& o = 8388608 := by exact mask_sub (by decide) ho) :
    Same o b (State.latchFenced s) := by
  unfold State.latchFenced
  (try simp only [])
  with_reducible repeat' (first | exact hk | exact mask_sub (by decide) ho | apply State.setLoop_same | split)

theorem State.showHtr_same {o : Nat} {b : State} {s : State} {r : HtrRel} (hk : Same o b s) (ho : 35651586 &&& o = 35651586 := by exact mask_sub (by decide) ho) :
    Same o b (State.showHtr s r) := by
  unfold State.showHtr
  (try simp only [])
  with_reducible repeat' (first | exact hk | exact mask_sub (by decide) ho | apply State.putChan_same | apply State.wr_same | apply ite_same | (rename_i e; refine same_pair_snd e ?_) | (rename_i e; refine same_pair_fst e ?_) | (rename_i e; refine same_pair_trd e ?_) | split | fail_if_no_progress apply Same.dith_)

theorem State.markReleased_same {o : Nat} {b : State} {s : State} (hk : Same o b s) (ho : 33554432 &&& o = 33554432 := by exact mask_sub (by decide) ho) :
    Same o b (State.markReleased s) := by
  unfold State.markReleased
  (try simp only [])
  with_reducible repeat' (first | exact hk | exact mask_sub (by decide) ho | apply State.updHtr_same | refine State.over_same (fun _ _ hk => ?_) ?_ | apply ite_same | split)

theorem State.envelope_same {o : Nat} {b : State} {s : State} {t : Nat} {clipped scaled devScaled : Bool} (hk : Same o b s) (ho : 33685506 &&& o = 33685506 := by exact mask_sub (by decide) ho) :
    Same o b (State.envelope s t clipped scaled devScaled) := by
  unfold State.envelope
  (try simp only [])
  with_reducible repeat' (first | exact hk | exact mask_sub (by decide) ho | apply State.updTile_same | apply State.raise_same | apply State.bump_same | apply State.when_same | apply ite_same | (rename_i e; refine same_pair_snd e ?_) | (rename_i e; refine same_pair_fst e ?_) | (rename_i e; refine same_pair_trd e ?_) | split)

theorem State.putLevel_same {o : Nat} {b : State} {s : State} {l : LevelState} (hk : Same o b s) (ho : 33554432 &&& o = 33554432 := by exact mask_sub (by decide) ho) :
    Same o b (State.putLevel s l) := by
  unfold State.putLevel
  (try simp only [])
  with_reducible repeat' (first | exact hk | exact mask_sub (by decide) ho | apply State.setAct_same | split)

theorem State.releaseLevel_same {o : Nat} {b : State} {s : State} {k : Nat} (hk : Same o b s) (ho : 33554434 &&& o = 33554434 := by exact mask_sub (by decide) ho) :
    Same o b ((State.releaseLevel s k).1) := by
  unfold State.releaseLevel
  (try simp only [])
  with_reducible repeat' (first | exact hk | exact mask_sub (by decide) ho | apply State.putLevel_same | apply State.wr_same | (rename_i e; refine same_pair_snd e ?_) | (rename_i e; refine same_pair_fst e ?_) | (rename_i e; refine same_pair_trd e ?_) | split)

theorem State.releaseLevels_same {o : Nat} {b : State} {s : State} (hk : Same o b s) (ho : 33554434 &&& o = 33554434 := by exact mask_sub (by decide) ho) :
    Same o b ((State.releaseLevels s).1) := by
  unfold State.releaseLevels
  (try simp only [])
  with_reducible repeat' (first | exact hk | exact mask_sub (by decide) ho | apply State.releaseLevel_same | refine foldl_same (fun _ _ hk => ?_) ?_ | refine foldl_fst_same (fun _ _ hk => ?_) ?_ | refine foldl_snd_same (fun _ _ hk => ?_) ?_ | apply ite_same | (rename_i e; refine same_pair_snd e ?_) | (rename_i e; refine same_pair_fst e ?_) | (rename_i e; refine same_pair_trd e ?_) | split)

theorem State.releaseOutputs_same {o : Nat} {b : State} {s : State} (hk : Same o b s) (ho : 52559874 &&& o = 52559874 := by exact mask_sub (by decide) ho) :
    Same o b (State.releaseOutputs s) := by
  unfold State.releaseOutputs
  (try simp only [])
  with_reducible repeat' (first | exact hk | exact mask_sub (by decide) ho | apply State.releaseLevels_same | apply State.envelope_same | apply State.markReleased_same | apply State.showHtr_same | apply State.setAct_same | apply State.wr_same | refine State.over_same (fun _ _ hk => ?_) ?_ | apply State.when_same | apply ite_same | (rename_i e; refine same_pair_snd e ?_) | (rename_i e; refine same_pair_fst e ?_) | (rename_i e; refine same_pair_trd e ?_) | split | fail_if_no_progress apply Same.clips_ | fail_if_no_progress apply Same.dith_)

theorem State.countEmphasis_same {o : Nat} {b : State} {s : State} {before : State} {cells : List (Nat × Nat)} (hk : Same o b s) (ho : 2 &&& o = 2 := by exact mask_sub (by decide) ho) :
    Same o b (State.countEmphasis s before cells) := by
  unfold State.countEmphasis
  (try simp only [])
  with_reducible repeat' (first | exact hk | exact mask_sub (by decide) ho | apply State.bump_same | refine State.over_same (fun _ _ hk => ?_) ?_ | apply ite_same | (rename_i e; refine same_pair_snd e ?_) | (rename_i e; refine same_pair_fst e ?_) | (rename_i e; refine same_pair_trd e ?_) | split)

theorem State.handshakes_same {o : Nat} {b : State} {s : State} {missed : List Nat} (hk : Same o b s) (ho : 33685504 &&& o = 33685504 := by exact mask_sub (by decide) ho) :
    Same o b (State.handshakes s missed) := by
  unfold State.handshakes
  (try simp only [])
  with_reducible repeat' (first | exact hk | exact mask_sub (by decide) ho | apply State.updTile_same | apply State.endReport_same | refine State.over_same (fun _ _ hk => ?_) ?_ | apply State.when_same | apply ite_same | split)

theorem State.starvation_same {o : Nat} {b : State} {s : State} {t : Nat} (hk : Same o b s) (ho : 33685506 &&& o = 33685506 := by exact mask_sub (by decide) ho) :
    Same o b (State.starvation s t) := by
  unfold State.starvation
  (try simp only [])
  with_reducible repeat' (first | exact hk | exact mask_sub (by decide) ho | apply State.updTile_same | apply State.raise_same | apply State.wr_same | apply ite_same | split)

theorem State.guardIntegrity_same {o : Nat} {b : State} {s : State} {t : Nat} (hk : Same o b s) (ho : 33685504 &&& o = 33685504 := by exact mask_sub (by decide) ho) :
    Same o b (State.guardIntegrity s t) := by
  unfold State.guardIntegrity
  (try simp only [])
  with_reducible repeat' (first | exact hk | exact mask_sub (by decide) ho | apply State.updTile_same | apply State.raise_same | split)

theorem State.applyPrimer_same {o : Nat} {b : State} {s : State} (hk : Same o b s) (ho : 33554446 &&& o = 33554446 := by exact mask_sub (by decide) ho) :
    Same o b (State.applyPrimer s) := by
  unfold State.applyPrimer
  (try simp only [])
  with_reducible repeat' (first | exact hk | exact mask_sub (by decide) ho | apply State.updTile_same | apply State.setCx_same | apply State.wr_same | refine State.over_same (fun _ _ hk => ?_) ?_ | apply ite_same | split)

theorem State.cmdPrimerApply_same {o : Nat} {b : State} {s : State} {h : CmdHead} {tiles : Nat} (hk : Same o b s) (ho : 33726466 &&& o = 33726466 := by exact mask_sub (by decide) ho) :
    Same o b (State.cmdPrimerApply s h tiles) := by
  unfold State.cmdPrimerApply
  (try simp only [])
  with_reducible repeat' (first | exact hk | exact mask_sub (by decide) ho | apply State.updTile_same | apply State.answer_same | refine State.over_same (fun _ _ hk => ?_) ?_ | split)

theorem State.cmdTileResume_same {o : Nat} {b : State} {s : State} {h : CmdHead} {tiles : Nat} (hk : Same o b s) (ho : 33726466 &&& o = 33726466 := by exact mask_sub (by decide) ho) :
    Same o b (State.cmdTileResume s h tiles) := by
  unfold State.cmdTileResume
  (try simp only [])
  with_reducible repeat' (first | exact hk | exact mask_sub (by decide) ho | apply State.updTile_same | apply State.answer_same | refine State.over_same (fun _ _ hk => ?_) ?_ | apply ite_same | split)

theorem State.brokenNotice_same {o : Nat} {b : State} {s : State} {x : Nat × Nat} (hk : Same o b s) (ho : 8192 &&& o = 8192 := by exact mask_sub (by decide) ho) :
    Same o b (State.brokenNotice s x) := by
  unfold State.brokenNotice
  (try simp only [])
  with_reducible repeat' (first | exact hk | exact mask_sub (by decide) ho | apply State.notice_same | refine State.over_same (fun _ _ hk => ?_) ?_ | (rename_i e; refine same_pair_snd e ?_) | (rename_i e; refine same_pair_fst e ?_) | (rename_i e; refine same_pair_trd e ?_) | split)

theorem State.updateFailed_same {o : Nat} {b : State} {s : State} (hk : Same o b s) (ho : 10240 &&& o = 10240 := by exact mask_sub (by decide) ho) :
    Same o b (State.updateFailed s) := by
  unfold State.updateFailed
  (try simp only [])
  with_reducible repeat' (first | exact hk | exact mask_sub (by decide) ho | apply State.brokenNotice_same | refine State.over_same (fun _ _ hk => ?_) ?_ | apply ite_same | split | fail_if_no_progress apply Same.route_)

end Sys2Proof.Machine
end

