-- ==== Sys2Proof/Laws/SameCalibration.lean ====
section
/-! SUPPORT. Laws/SameCalibration.lean: what every operation of Machine/Calibration.lean leaves (Laws/Same.lean). -/

set_option linter.all false
set_option Elab.async false

namespace Sys2Proof.Machine

open Sys2Proof

theorem State.updCal_same {o : Nat} {b : State} {s : State} {t : Nat} {f : TileCal → TileCal} (hk : Same o b s) (ho : 67108864 &&& o = 67108864 := by exact mask_sub (by decide) ho) :
    Same o b (State.updCal s t f) := by
  unfold State.updCal
  (try simp only [])
  with_reducible repeat' (first | exact hk | exact mask_sub (by decide) ho | split | fail_if_no_progress apply Same.cal_)

theorem State.touchCal_same {o : Nat} {b : State} {s : State} {t : Nat} (hk : Same o b s) (ho : 67108864 &&& o = 67108864 := by exact mask_sub (by decide) ho) :
    Same o b (State.touchCal s t) := by
  unfold State.touchCal
  (try simp only [])
  with_reducible repeat' (first | exact hk | exact mask_sub (by decide) ho | split | fail_if_no_progress apply Same.cal_)

theorem State.advanceGens_same {o : Nat} {b : State} {s : State} (hk : Same o b s) (ho : 67108866 &&& o = 67108866 := by exact mask_sub (by decide) ho) :
    Same o b (State.advanceGens s) := by
  unfold State.advanceGens
  (try simp only [])
  with_reducible repeat' (first | exact hk | exact mask_sub (by decide) ho | apply State.advance_same | refine State.over_same (fun _ _ hk => ?_) ?_ | split | fail_if_no_progress apply Same.cal_)

theorem State.calFails_same {o : Nat} {b : State} {s : State} {t item : Nat} {fail : FieldAt} {inRun : Bool} (hk : Same o b s) (ho : 131074 &&& o = 131074 := by exact mask_sub (by decide) ho) :
    Same o b (State.calFails s t item fail inRun) := by
  unfold State.calFails
  (try simp only [])
  with_reducible repeat' (first | exact hk | exact mask_sub (by decide) ho | apply State.raise_same | apply State.bump_same | apply State.wr_same | apply State.when_same | split)

theorem State.hostCal_same {o : Nat} {b : State} {s : State} {t item : Nat} {meas : FieldAt} (hk : Same o b s) (ho : 67108866 &&& o = 67108866 := by exact mask_sub (by decide) ho) :
    Same o b (State.hostCal s t item meas) := by
  unfold State.hostCal
  (try simp only [])
  with_reducible repeat' (first | exact hk | exact mask_sub (by decide) ho | apply State.touchCal_same | apply State.wr_same | split | fail_if_no_progress apply Same.cal_)

theorem State.discardCal_same {o : Nat} {b : State} {s : State} {t : Nat} (hk : Same o b s) (ho : 2 &&& o = 2 := by exact mask_sub (by decide) ho) :
    Same o b (State.discardCal s t) := by
  unfold State.discardCal
  (try simp only [])
  with_reducible repeat' (first | exact hk | exact mask_sub (by decide) ho | apply State.bump_same | split)

theorem State.requestRun_same {o : Nat} {b : State} {s : State} {t : Nat} (hk : Same o b s) (ho : 67108864 &&& o = 67108864 := by exact mask_sub (by decide) ho) :
    Same o b (State.requestRun s t) := by
  unfold State.requestRun
  (try simp only [])
  with_reducible repeat' (first | exact hk | exact mask_sub (by decide) ho | apply State.updCal_same | apply ite_same | split)

theorem State.triggerRun_same {o : Nat} {b : State} {s : State} {t : Nat} (hk : Same o b s) (ho : 67108864 &&& o = 67108864 := by exact mask_sub (by decide) ho) :
    Same o b (State.triggerRun s t) := by
  unfold State.triggerRun
  (try simp only [])
  with_reducible repeat' (first | exact hk | exact mask_sub (by decide) ho | apply State.updCal_same | apply ite_same | split)

theorem State.tileRunStart_same {o : Nat} {b : State} {s : State} {t : Nat} (hk : Same o b s) (ho : 67108864 &&& o = 67108864 := by exact mask_sub (by decide) ho) :
    Same o b (State.tileRunStart s t) := by
  unfold State.tileRunStart
  (try simp only [])
  with_reducible repeat' (first | exact hk | exact mask_sub (by decide) ho | apply State.updCal_same | apply ite_same | split)

theorem State.tileRunEnd_same {o : Nat} {b : State} {s : State} {t : Nat} (hk : Same o b s) (ho : 67108866 &&& o = 67108866 := by exact mask_sub (by decide) ho) :
    Same o b (State.tileRunEnd s t) := by
  unfold State.tileRunEnd
  (try simp only [])
  with_reducible repeat' (first | exact hk | exact mask_sub (by decide) ho | apply State.updCal_same | apply State.wrS_same | apply ite_same | split)

theorem State.calBefore_same {o : Nat} {b : State} {s : State} (hk : Same o b s) (ho : 67108864 &&& o = 67108864 := by exact mask_sub (by decide) ho) :
    Same o b (State.calBefore s) := by
  unfold State.calBefore
  (try simp only [])
  with_reducible repeat' (first | exact hk | exact mask_sub (by decide) ho | apply State.updCal_same | refine State.over_same (fun _ _ hk => ?_) ?_ | apply ite_same | (rename_i e; refine same_pair_snd e ?_) | (rename_i e; refine same_pair_fst e ?_) | (rename_i e; refine same_pair_trd e ?_) | split)

theorem State.checkPrated_same {o : Nat} {b : State} {s : State} {h : Nat} (hk : Same o b s) (ho : 131074 &&& o = 131074 := by exact mask_sub (by decide) ho) :
    Same o b (State.checkPrated s h) := by
  unfold State.checkPrated
  (try simp only [])
  with_reducible repeat' (first | exact hk | exact mask_sub (by decide) ho | apply State.endReport_same | apply State.raise_same | apply State.wr_same | apply ite_same | split)

theorem State.calRef_same {o : Nat} {b : State} {s : State} {t k : Nat} {values : List Int} (hk : Same o b s) (ho : 67239938 &&& o = 67239938 := by exact mask_sub (by decide) ho) :
    Same o b (State.calRef s t k values) := by
  unfold State.calRef
  (try simp only [])
  with_reducible repeat' (first | exact hk | exact mask_sub (by decide) ho | apply State.discardCal_same | apply State.calFails_same | apply State.touchCal_same | apply State.wrS_same | apply State.wr_same | apply ite_same | (rename_i e; refine same_pair_snd e ?_) | (rename_i e; refine same_pair_fst e ?_) | (rename_i e; refine same_pair_trd e ?_) | split)

theorem State.calHv_same {o : Nat} {b : State} {s : State} {t k : Nat} {gain : Bool} {values : List Int} (hk : Same o b s) (ho : 67239938 &&& o = 67239938 := by exact mask_sub (by decide) ho) :
    Same o b (State.calHv s t k gain values) := by
  unfold State.calHv
  (try simp only [])
  with_reducible repeat' (first | exact hk | exact mask_sub (by decide) ho | apply State.discardCal_same | apply State.calFails_same | apply State.touchCal_same | apply State.updCal_same | apply State.wrS_same | apply State.wr_same | apply State.when_same | apply ite_same | (rename_i e; refine same_pair_snd e ?_) | (rename_i e; refine same_pair_fst e ?_) | (rename_i e; refine same_pair_trd e ?_) | split)

theorem State.putTrim_same {o : Nat} {b : State} {s : State} {h : Nat} {v : Int} (hk : Same o b s) (ho : 100663298 &&& o = 100663298 := by exact mask_sub (by decide) ho) :
    Same o b (State.putTrim s h v) := by
  unfold State.putTrim
  (try simp only [])
  with_reducible repeat' (first | exact hk | exact mask_sub (by decide) ho | apply State.touchCal_same | apply State.updHtr_same | apply State.wrS_same | split)

theorem State.putHvOfs_same {o : Nat} {b : State} {s : State} {h : Nat} {v : Int} (hk : Same o b s) (ho : 67108866 &&& o = 67108866 := by exact mask_sub (by decide) ho) :
    Same o b (State.putHvOfs s h v) := by
  unfold State.putHvOfs
  (try simp only [])
  with_reducible repeat' (first | exact hk | exact mask_sub (by decide) ho | apply State.touchCal_same | apply State.wrS_same | split)

theorem State.skipChan_same {o : Nat} {b : State} {s : State} {t c : Nat} (hk : Same o b s) (ho : 2 &&& o = 2 := by exact mask_sub (by decide) ho) :
    Same o b (State.skipChan s t c) := by
  unfold State.skipChan
  (try simp only [])
  with_reducible repeat' (first | exact hk | exact mask_sub (by decide) ho | apply State.bump_same | apply State.wr_same | split)

theorem State.frameA_same {o : Nat} {b : State} {s : State} {t c k : Nat} {values : List Int} (hk : Same o b s) (ho : 100794370 &&& o = 100794370 := by exact mask_sub (by decide) ho) :
    Same o b (State.frameA s t c k values) := by
  unfold State.frameA
  (try simp only [])
  with_reducible repeat' (first | exact hk | exact mask_sub (by decide) ho | apply State.skipChan_same | apply State.putHvOfs_same | apply State.putTrim_same | apply State.discardCal_same | apply State.calFails_same | apply State.updCal_same | apply ite_same | (rename_i e; refine same_pair_snd e ?_) | (rename_i e; refine same_pair_fst e ?_) | (rename_i e; refine same_pair_trd e ?_) | split)

theorem State.restoreTrim_same {o : Nat} {b : State} {s : State} {h : Nat} {pdm : Bool} (hk : Same o b s) (ho : 100663298 &&& o = 100663298 := by exact mask_sub (by decide) ho) :
    Same o b (State.restoreTrim s h pdm) := by
  unfold State.restoreTrim
  (try simp only [])
  with_reducible repeat' (first | exact hk | exact mask_sub (by decide) ho | apply State.putHvOfs_same | apply State.putTrim_same | apply ite_same | split)

theorem State.frameB_same {o : Nat} {b : State} {s : State} {t c k : Nat} {values : List Int} (hk : Same o b s) (ho : 100794370 &&& o = 100794370 := by exact mask_sub (by decide) ho) :
    Same o b (State.frameB s t c k values) := by
  unfold State.frameB
  (try simp only [])
  with_reducible repeat' (first | exact hk | exact mask_sub (by decide) ho | apply State.restoreTrim_same | apply State.skipChan_same | apply State.checkPrated_same | apply State.discardCal_same | apply State.calFails_same | apply State.touchCal_same | apply State.updCal_same | apply State.wr_same | apply ite_same | (rename_i e; refine same_pair_snd e ?_) | (rename_i e; refine same_pair_fst e ?_) | (rename_i e; refine same_pair_trd e ?_) | split)

theorem State.runStep_same {o : Nat} {b : State} {s : State} {x : FrameIn} {t k n : Nat} (hk : Same o b s) (ho : 100794370 &&& o = 100794370 := by exact mask_sub (by decide) ho) :
    Same o b (State.runStep s x t k n) := by
  unfold State.runStep
  (try simp only [])
  with_reducible repeat' (first | exact hk | exact mask_sub (by decide) ho | apply State.frameB_same | apply State.frameA_same | apply State.calHv_same | apply State.calRef_same | apply State.updCal_same | apply ite_same | split)

theorem State.abortRuns_same {o : Nat} {b : State} {s : State} (hk : Same o b s) (ho : 67108864 &&& o = 67108864 := by exact mask_sub (by decide) ho) :
    Same o b (State.abortRuns s) := by
  unfold State.abortRuns
  (try simp only [])
  with_reducible repeat' (first | exact hk | exact mask_sub (by decide) ho | split | fail_if_no_progress apply Same.cal_)

theorem State.runsFrame_same {o : Nat} {b : State} {s : State} {x : FrameIn} (hk : Same o b s) (ho : 100794370 &&& o = 100794370 := by exact mask_sub (by decide) ho) :
    Same o b (State.runsFrame s x) := by
  unfold State.runsFrame
  (try simp only [])
  with_reducible repeat' (first | exact hk | exact mask_sub (by decide) ho | apply State.runStep_same | apply State.updCal_same | apply State.wr_same | refine State.over_same (fun _ _ hk => ?_) ?_ | apply ite_same | (rename_i e; refine same_pair_snd e ?_) | (rename_i e; refine same_pair_fst e ?_) | (rename_i e; refine same_pair_trd e ?_) | split)

theorem State.calTriggers_same {o : Nat} {b : State} {s : State} (hk : Same o b s) (ho : 68157440 &&& o = 68157440 := by exact mask_sub (by decide) ho) :
    Same o b (State.calTriggers s) := by
  unfold State.calTriggers
  (try simp only [])
  with_reducible repeat' (first | exact hk | exact mask_sub (by decide) ho | apply State.triggerRun_same | apply State.requestHkaCal_same | refine State.over_same (fun _ _ hk => ?_) ?_ | apply ite_same | split)

theorem State.requestCals_same {o : Nat} {b : State} {s : State} {tiles : List Nat} {hka : Bool} (hk : Same o b s) (ho : 68157440 &&& o = 68157440 := by exact mask_sub (by decide) ho) :
    Same o b (State.requestCals s tiles hka) := by
  unfold State.requestCals
  (try simp only [])
  with_reducible repeat' (first | exact hk | exact mask_sub (by decide) ho | apply State.requestRun_same | apply State.requestHkaCal_same | refine State.over_same (fun _ _ hk => ?_) ?_ | apply State.when_same | split)

theorem State.sliceResult_same {o : Nat} {b : State} {s : State} {x : FrameIn} {t : Nat} (hk : Same o b s) (ho : 67502082 &&& o = 67502082 := by exact mask_sub (by decide) ho) :
    Same o b (State.sliceResult s x t) := by
  unfold State.sliceResult
  (try simp only [])
  with_reducible repeat' (first | exact hk | exact mask_sub (by decide) ho | apply State.discardCal_same | apply State.calFails_same | apply State.touchCal_same | apply State.due_same | apply State.spareFails_same | apply State.wrS_same | apply State.wr_same | apply ite_same | (rename_i e; refine same_pair_snd e ?_) | (rename_i e; refine same_pair_fst e ?_) | (rename_i e; refine same_pair_trd e ?_) | split)

theorem State.requestTia_same {o : Nat} {b : State} {s : State} {t : Nat} (hk : Same o b s) (ho : 67108864 &&& o = 67108864 := by exact mask_sub (by decide) ho) :
    Same o b (State.requestTia s t) := by
  unfold State.requestTia
  (try simp only [])
  with_reducible repeat' (first | exact hk | exact mask_sub (by decide) ho | apply State.updCal_same | apply ite_same | split)

theorem State.pedestal_same {o : Nat} {b : State} {s : State} {t j k since : Nat} {values : List Int} (hk : Same o b s) (ho : 67239938 &&& o = 67239938 := by exact mask_sub (by decide) ho) :
    Same o b (State.pedestal s t j k since values) := by
  unfold State.pedestal
  (try simp only [])
  with_reducible repeat' (first | exact hk | exact mask_sub (by decide) ho | apply State.discardCal_same | apply State.calFails_same | apply State.touchCal_same | apply State.updCal_same | apply State.wrS_same | apply State.wr_same | apply State.when_same | apply ite_same | (rename_i e; refine same_pair_snd e ?_) | (rename_i e; refine same_pair_fst e ?_) | (rename_i e; refine same_pair_trd e ?_) | split)

theorem State.tiaFrame_same {o : Nat} {b : State} {s : State} {x : FrameIn} {t : Nat} (hk : Same o b s) (ho : 67239938 &&& o = 67239938 := by exact mask_sub (by decide) ho) :
    Same o b (State.tiaFrame s x t) := by
  unfold State.tiaFrame
  (try simp only [])
  with_reducible repeat' (first | exact hk | exact mask_sub (by decide) ho | apply State.pedestal_same | apply State.updCal_same | refine State.over_same (fun _ _ hk => ?_) ?_ | apply ite_same | (rename_i e; refine same_pair_snd e ?_) | (rename_i e; refine same_pair_fst e ?_) | (rename_i e; refine same_pair_trd e ?_) | split)

theorem State.calFrame_same {o : Nat} {b : State} {s : State} {x : FrameIn} (hk : Same o b s) (ho : 101056514 &&& o = 101056514 := by exact mask_sub (by decide) ho) :
    Same o b (State.calFrame s x) := by
  unfold State.calFrame
  (try simp only [])
  with_reducible repeat' (first | exact hk | exact mask_sub (by decide) ho | apply State.tiaFrame_same | apply State.sliceResult_same | apply State.runsFrame_same | apply State.advanceGens_same | refine State.over_same (fun _ _ hk => ?_) ?_ | split)

theorem State.updSweep_same {o : Nat} {b : State} {s : State} {f : Sweep → Sweep} (hk : Same o b s) (ho : 67108864 &&& o = 67108864 := by exact mask_sub (by decide) ho) :
    Same o b (State.updSweep s f) := by
  unfold State.updSweep
  (try simp only [])
  with_reducible repeat' (first | exact hk | exact mask_sub (by decide) ho | split | fail_if_no_progress apply Same.cal_)

theorem State.sweepStart_same {o : Nat} {b : State} {s : State} (hk : Same o b s) (ho : 67108866 &&& o = 67108866 := by exact mask_sub (by decide) ho) :
    Same o b (State.sweepStart s) := by
  unfold State.sweepStart
  (try simp only [])
  with_reducible repeat' (first | exact hk | exact mask_sub (by decide) ho | apply State.updSweep_same | apply State.wr_same | apply ite_same | (rename_i e; refine same_pair_snd e ?_) | (rename_i e; refine same_pair_fst e ?_) | (rename_i e; refine same_pair_trd e ?_) | split)

theorem State.sweepAbort_same {o : Nat} {b : State} {s : State} (hk : Same o b s) (ho : 67108864 &&& o = 67108864 := by exact mask_sub (by decide) ho) :
    Same o b (State.sweepAbort s) := by
  unfold State.sweepAbort
  (try simp only [])
  with_reducible repeat' (first | exact hk | exact mask_sub (by decide) ho | apply State.updSweep_same | apply ite_same | split)

theorem State.sweepFrame_same {o : Nat} {b : State} {s : State} (hk : Same o b s) (ho : 67108864 &&& o = 67108864 := by exact mask_sub (by decide) ho) :
    Same o b (State.sweepFrame s) := by
  unfold State.sweepFrame
  (try simp only [])
  with_reducible repeat' (first | exact hk | exact mask_sub (by decide) ho | apply State.updSweep_same | apply ite_same | split)

theorem State.sweepRecord_same {o : Nat} {b : State} {s : State} {p : Nat} {drives : List (Nat × Nat)} (hk : Same o b s) (ho : 67633152 &&& o = 67633152 := by exact mask_sub (by decide) ho) :
    Same o b (State.sweepRecord s p drives) := by
  unfold State.sweepRecord
  refine State.over_same (fun t e hk => ?_) hk
  simp only []
  split
  · exact hk
  · exact State.updSweep_same (State.setCapBytes_same hk)

theorem State.seedCell_same {o : Nat} {b : State} {s : State} {kind e : Nat} (hk : Same o b s) (ho : 14 &&& o = 14 := by exact mask_sub (by decide) ho) :
    Same o b (State.seedCell s kind e) := by
  unfold State.seedCell
  (try simp only [])
  with_reducible repeat' (first | exact hk | exact mask_sub (by decide) ho | apply State.setCx_same | apply State.wr_same | apply ite_same | (rename_i e; refine same_pair_snd e ?_) | (rename_i e; refine same_pair_fst e ?_) | (rename_i e; refine same_pair_trd e ?_) | split)

theorem State.seedPort_same {o : Nat} {b : State} {s : State} {e : Nat} {build : Bool} (hk : Same o b s) (ho : 14 &&& o = 14 := by exact mask_sub (by decide) ho) :
    Same o b (State.seedPort s e build) := by
  unfold State.seedPort
  (try simp only [])
  with_reducible repeat' (first | exact hk | exact mask_sub (by decide) ho | apply State.wrB_same | apply State.wr_same | refine State.over_same (fun _ _ hk => ?_) ?_ | apply ite_same | split)

theorem State.seedAll_same {o : Nat} {b : State} {s : State} (hk : Same o b s) (ho : 14 &&& o = 14 := by exact mask_sub (by decide) ho) :
    Same o b (State.seedAll s) := by
  unfold State.seedAll
  (try simp only [])
  with_reducible repeat' (first | exact hk | exact mask_sub (by decide) ho | apply State.seedPort_same | apply State.seedCell_same | refine State.over_same (fun _ _ hk => ?_) ?_ | apply ite_same | split)

theorem State.sweepPoint_same {o : Nat} {b : State} {s : State} (hk : Same o b s) (ho : 67633154 &&& o = 67633154 := by exact mask_sub (by decide) ho) :
    Same o b (State.sweepPoint s) := by
  unfold State.sweepPoint
  (try simp only [])
  with_reducible repeat' (first | exact hk | exact mask_sub (by decide) ho | apply State.sweepRecord_same | apply State.updSweep_same | apply State.wr_same | apply ite_same | (rename_i e; refine same_pair_snd e ?_) | (rename_i e; refine same_pair_fst e ?_) | (rename_i e; refine same_pair_trd e ?_) | split)

theorem State.sweepEnd_same {o : Nat} {b : State} {s : State} (hk : Same o b s) (ho : 67633166 &&& o = 67633166 := by exact mask_sub (by decide) ho) :
    Same o b (State.sweepEnd s) := by
  unfold State.sweepEnd
  (try simp only [])
  with_reducible repeat' (first | exact hk | exact mask_sub (by decide) ho | apply State.seedAll_same | apply State.sweepRecord_same | apply State.updSweep_same | apply State.wr_same | apply State.when_same | apply ite_same | split)

end Sys2Proof.Machine
end

