-- ==== Sys2Proof/Laws/SameTime.lean ====
section
/-! SUPPORT. Laws/SameTime.lean: what every operation of Machine/Time.lean leaves (Laws/Same.lean). -/

set_option linter.all false
set_option Elab.async false

namespace Sys2Proof.Machine

open Sys2Proof

theorem State.setTime_same {o : Nat} {b : State} {s : State} {f : Time → Time} (hk : Same o b s) (ho : 134217728 &&& o = 134217728 := by exact mask_sub (by decide) ho) :
    Same o b (State.setTime s f) := by
  unfold State.setTime
  (try simp only [])
  with_reducible repeat' (first | exact hk | exact mask_sub (by decide) ho | split | fail_if_no_progress apply Same.time_)

theorem State.updDomain_same {o : Nat} {b : State} {s : State} {d : Nat} {f : Domain → Domain} (hk : Same o b s) (ho : 134217728 &&& o = 134217728 := by exact mask_sub (by decide) ho) :
    Same o b (State.updDomain s d f) := by
  unfold State.updDomain
  (try simp only [])
  with_reducible repeat' (first | exact hk | exact mask_sub (by decide) ho | apply State.setTime_same | split)

theorem State.tickDomains_same {o : Nat} {b : State} {s : State} {n : Nat} (hk : Same o b s) (ho : 134217728 &&& o = 134217728 := by exact mask_sub (by decide) ho) :
    Same o b (State.tickDomains s n) := by
  unfold State.tickDomains
  (try simp only [])
  with_reducible repeat' (first | exact hk | exact mask_sub (by decide) ho | apply State.updDomain_same | apply ite_same | split)

theorem State.ticks_same {o : Nat} {b : State} {s : State} {n : Nat} (hk : Same o b s) (ho : 134217728 &&& o = 134217728 := by exact mask_sub (by decide) ho) :
    Same o b (State.ticks s n) := by
  unfold State.ticks
  (try simp only [])
  with_reducible repeat' (first | exact hk | exact mask_sub (by decide) ho | apply State.tickDomains_same | apply State.setTime_same | apply ite_same | split)

theorem State.timeTo_same {o : Nat} {b : State} {s : State} {target : Nat} (hk : Same o b s) (ho : 134217728 &&& o = 134217728 := by exact mask_sub (by decide) ho) :
    Same o b (State.timeTo s target) := by
  unfold State.timeTo
  (try simp only [])
  with_reducible repeat' (first | exact hk | exact mask_sub (by decide) ho | apply State.ticks_same | split)

theorem State.ppsMarkNow_same {o : Nat} {b : State} {s : State} (hk : Same o b s) (ho : 134217728 &&& o = 134217728 := by exact mask_sub (by decide) ho) :
    Same o b (State.ppsMarkNow s) := by
  unfold State.ppsMarkNow
  (try simp only [])
  with_reducible repeat' (first | exact hk | exact mask_sub (by decide) ho | apply State.setTime_same | split)

theorem State.ppsStep_same {o : Nat} {b : State} {s : State} {k : Nat} (hk : Same o b s) (ho : 134217728 &&& o = 134217728 := by exact mask_sub (by decide) ho) :
    Same o b (State.ppsStep s k) := by
  unfold State.ppsStep
  (try simp only [])
  with_reducible repeat' (first | exact hk | exact mask_sub (by decide) ho | apply State.ppsMarkNow_same | apply ite_same | split)

theorem State.restartHold_same {o : Nat} {b : State} {s : State} {d : Nat} (hk : Same o b s) (ho : 134348802 &&& o = 134348802 := by exact mask_sub (by decide) ho) :
    Same o b (State.restartHold s d) := by
  unfold State.restartHold
  (try simp only [])
  with_reducible repeat' (first | exact hk | exact mask_sub (by decide) ho | apply State.updDomain_same | apply State.endReport_same | apply State.wr_same | apply State.when_same | split)

theorem State.putIncr_same {o : Nat} {b : State} {s : State} {d incr : Nat} (hk : Same o b s) (ho : 2 &&& o = 2 := by exact mask_sub (by decide) ho) :
    Same o b (State.putIncr s d incr) := by
  unfold State.putIncr
  (try simp only [])
  with_reducible repeat' (first | exact hk | exact mask_sub (by decide) ho | apply State.wr_same | split)

theorem State.writeRate_same {o : Nat} {b : State} {s : State} {d incr : Nat} (hk : Same o b s) (ho : 134348802 &&& o = 134348802 := by exact mask_sub (by decide) ho) :
    Same o b (State.writeRate s d incr) := by
  unfold State.writeRate
  (try simp only [])
  with_reducible repeat' (first | exact hk | exact mask_sub (by decide) ho | apply State.putIncr_same | apply State.restartHold_same | split)

theorem State.writeSet_same {o : Nat} {b : State} {s : State} {d ns : Nat} (hk : Same o b s) (ho : 134217730 &&& o = 134217730 := by exact mask_sub (by decide) ho) :
    Same o b (State.writeSet s d ns) := by
  unfold State.writeSet
  (try simp only [])
  with_reducible repeat' (first | exact hk | exact mask_sub (by decide) ho | apply State.ppsStep_same | apply State.updDomain_same | apply State.wr_same | split)

theorem State.writeAdjust_same {o : Nat} {b : State} {s : State} {d : Nat} {ns : Int} (hk : Same o b s) (ho : 134217728 &&& o = 134217728 := by exact mask_sub (by decide) ho) :
    Same o b (State.writeAdjust s d ns) := by
  unfold State.writeAdjust
  (try simp only [])
  with_reducible repeat' (first | exact hk | exact mask_sub (by decide) ho | apply State.ppsStep_same | apply State.updDomain_same | split)

theorem State.captureTime_same {o : Nat} {b : State} {s : State} (hk : Same o b s) (ho : 2 &&& o = 2 := by exact mask_sub (by decide) ho) :
    Same o b (State.captureTime s) := by
  unfold State.captureTime
  (try simp only [])
  with_reducible repeat' (first | exact hk | exact mask_sub (by decide) ho | apply State.wr_same | refine State.over_same (fun _ _ hk => ?_) ?_ | split)

theorem State.selected_same {o : Nat} {b : State} {s : State} {old : Nat} (hk : Same o b s) (ho : 131074 &&& o = 131074 := by exact mask_sub (by decide) ho) :
    Same o b (State.selected s old) := by
  unfold State.selected
  (try simp only [])
  with_reducible repeat' (first | exact hk | exact mask_sub (by decide) ho | apply State.endReport_same | apply State.raise_same | apply State.bump_same | apply State.when_same | apply ite_same | split)

theorem State.holdover_same {o : Nat} {b : State} {s : State} {d : Nat} (hk : Same o b s) (ho : 134348802 &&& o = 134348802 := by exact mask_sub (by decide) ho) :
    Same o b (State.holdover s d) := by
  unfold State.holdover
  (try simp only [])
  with_reducible repeat' (first | exact hk | exact mask_sub (by decide) ho | apply State.updDomain_same | apply State.setTime_same | apply State.raise_same | apply State.bump_same | apply State.wr_same | apply ite_same | split)

theorem State.autoSwitch_same {o : Nat} {b : State} {s : State} (hk : Same o b s) (ho : 134348802 &&& o = 134348802 := by exact mask_sub (by decide) ho) :
    Same o b (State.autoSwitch s) := by
  unfold State.autoSwitch
  (try simp only [])
  with_reducible repeat' (first | exact hk | exact mask_sub (by decide) ho | apply State.selected_same | apply State.setTime_same | apply State.wr_same | apply ite_same | split)

theorem State.fclkLock_same {o : Nat} {b : State} {s : State} (hk : Same o b s) (ho : 134348802 &&& o = 134348802 := by exact mask_sub (by decide) ho) :
    Same o b (State.fclkLock s) := by
  unfold State.fclkLock
  (try simp only [])
  with_reducible repeat' (first | exact hk | exact mask_sub (by decide) ho | apply State.setTime_same | apply State.endReport_same | apply State.wr_same | apply ite_same | split)

theorem State.beginGap_same {o : Nat} {b : State} {s : State} (hk : Same o b s) (ho : 134217730 &&& o = 134217730 := by exact mask_sub (by decide) ho) :
    Same o b (State.beginGap s) := by
  unfold State.beginGap
  (try simp only [])
  with_reducible repeat' (first | exact hk | exact mask_sub (by decide) ho | apply State.setTime_same | apply State.bump_same | split)

theorem State.restartFrames_same {o : Nat} {b : State} {s : State} {n : Nat} (hk : Same o b s) (ho : 142606337 &&& o = 142606337 := by exact mask_sub (by decide) ho) :
    Same o b (State.restartFrames s n) := by
  unfold State.restartFrames
  (try simp only [])
  with_reducible repeat' (first | exact hk | exact Same.loop_ (s := { s with clk := _ }) (Same.clk_ hk (mask_sub (by decide) ho)) (mask_sub (by decide) ho) | exact mask_sub (by decide) ho | apply State.setTime_same | split | fail_if_no_progress apply Same.clk_ | fail_if_no_progress apply Same.loop_)

theorem State.resumeFrames_same {o : Nat} {b : State} {s : State} {n : Nat} (hk : Same o b s) (ho : 142606337 &&& o = 142606337 := by exact mask_sub (by decide) ho) :
    Same o b (State.resumeFrames s n) := by
  unfold State.resumeFrames
  (try simp only [])
  with_reducible repeat' (first | exact hk | exact mask_sub (by decide) ho | apply State.restartFrames_same | apply State.timeTo_same | split)

theorem State.gapEnd_same {o : Nat} {b : State} {s : State} (hk : Same o b s) (ho : 142606337 &&& o = 142606337 := by exact mask_sub (by decide) ho) :
    Same o b (State.gapEnd s) := by
  unfold State.gapEnd
  (try simp only [])
  with_reducible repeat' (first | exact hk | exact mask_sub (by decide) ho | apply State.resumeFrames_same | apply ite_same | split)

theorem State.loadDomains_same {o : Nat} {b : State} {s : State} {sec : Nat} (hk : Same o b s) (ho : 134217730 &&& o = 134217730 := by exact mask_sub (by decide) ho) :
    Same o b (State.loadDomains s sec) := by
  unfold State.loadDomains
  (try simp only [])
  with_reducible repeat' (first | exact hk | exact mask_sub (by decide) ho | apply State.putIncr_same | apply State.ppsMarkNow_same | apply State.updDomain_same | apply State.wr_same | refine State.over_same (fun _ _ hk => ?_) ?_ | split)

theorem State.loadFabric_same {o : Nat} {b : State} {s : State} (hk : Same o b s) (ho : 134217729 &&& o = 134217729 := by exact mask_sub (by decide) ho) :
    Same o b (State.loadFabric s) := by
  unfold State.loadFabric
  (try simp only [])
  with_reducible repeat' (first | exact hk | exact mask_sub (by decide) ho | apply State.ppsStep_same | apply State.setTime_same | split | fail_if_no_progress apply Same.clk_)

theorem State.updSource_same {o : Nat} {b : State} {s : State} {k : Nat} {f : TsSource → TsSource} (hk : Same o b s) (ho : 134217728 &&& o = 134217728 := by exact mask_sub (by decide) ho) :
    Same o b (State.updSource s k f) := by
  unfold State.updSource
  (try simp only [])
  with_reducible repeat' (first | exact hk | exact mask_sub (by decide) ho | apply State.setTime_same | split)

theorem State.keepRecord_same {o : Nat} {b : State} {s : State} {k kind dir : Nat} {t : Stamp} {rest : List Nat} (hk : Same o b s) (ho : 134217730 &&& o = 134217730 := by exact mask_sub (by decide) ho) :
    Same o b (State.keepRecord s k kind dir t rest) := by
  unfold State.keepRecord
  (try simp only [])
  with_reducible repeat' (first | exact hk | exact mask_sub (by decide) ho | apply State.updSource_same | apply State.bump_same | apply ite_same | split)

theorem State.tsPop_same {o : Nat} {b : State} {s : State} {k : Nat} (hk : Same o b s) (ho : 134217728 &&& o = 134217728 := by exact mask_sub (by decide) ho) :
    Same o b ((State.tsPop s k).2) := by
  unfold State.tsPop
  (try simp only [])
  with_reducible repeat' (first | exact hk | exact mask_sub (by decide) ho | apply State.updSource_same | (rename_i e; refine same_pair_snd e ?_) | (rename_i e; refine same_pair_fst e ?_) | (rename_i e; refine same_pair_trd e ?_) | split)

theorem State.ptpEvent_same {o : Nat} {b : State} {s : State} {lane : Nat} {udp : Bool} {version messageType domain sequence port clock : Nat} {t : Stamp} (hk : Same o b s) (ho : 134217730 &&& o = 134217730 := by exact mask_sub (by decide) ho) :
    Same o b (State.ptpEvent s lane udp version messageType domain sequence port clock t) := by
  unfold State.ptpEvent
  (try simp only [])
  with_reducible repeat' (first | exact hk | exact mask_sub (by decide) ho | apply State.keepRecord_same | apply ite_same | split)

theorem State.ppsEdge_same {o : Nat} {b : State} {s : State} {t : Stamp} (hk : Same o b s) (ho : 134348802 &&& o = 134348802 := by exact mask_sub (by decide) ho) :
    Same o b (State.ppsEdge s t) := by
  unfold State.ppsEdge
  (try simp only [])
  with_reducible repeat' (first | exact hk | exact mask_sub (by decide) ho | apply State.keepRecord_same | apply State.setTime_same | apply State.endReport_same | apply State.when_same | apply ite_same | split)

theorem State.ppsGap_same {o : Nat} {b : State} {s : State} (hk : Same o b s) (ho : 134348800 &&& o = 134348800 := by exact mask_sub (by decide) ho) :
    Same o b (State.ppsGap s) := by
  unfold State.ppsGap
  (try simp only [])
  with_reducible repeat' (first | exact hk | exact mask_sub (by decide) ho | apply State.ppsEdge_same | apply State.setTime_same | apply State.raise_same | apply ite_same | (rename_i e; refine same_pair_snd e ?_) | (rename_i e; refine same_pair_fst e ?_) | (rename_i e; refine same_pair_trd e ?_) | split)

theorem State.ppsOutEdge_same {o : Nat} {b : State} {s : State} (hk : Same o b s) (ho : 134217728 &&& o = 134217728 := by exact mask_sub (by decide) ho) :
    Same o b (State.ppsOutEdge s) := by
  unfold State.ppsOutEdge
  (try simp only [])
  with_reducible repeat' (first | exact hk | exact mask_sub (by decide) ho | apply State.setTime_same | apply ite_same | split)

theorem State.updPort_same {o : Nat} {b : State} {s : State} {p : Nat} {f : RingPort → RingPort} (hk : Same o b s) (ho : 134217728 &&& o = 134217728 := by exact mask_sub (by decide) ho) :
    Same o b (State.updPort s p f) := by
  unfold State.updPort
  (try simp only [])
  with_reducible repeat' (first | exact hk | exact mask_sub (by decide) ho | apply State.setTime_same | split)

theorem State.sendBeacons_same {o : Nat} {b : State} {s : State} {tx : List Stamp} (hk : Same o b s) (ho : 134217730 &&& o = 134217730 := by exact mask_sub (by decide) ho) :
    Same o b (State.sendBeacons s tx) := by
  unfold State.sendBeacons
  (try simp only [])
  with_reducible repeat' (first | exact hk | exact mask_sub (by decide) ho | apply State.updPort_same | apply State.keepRecord_same | refine State.over_same (fun _ _ hk => ?_) ?_ | apply ite_same | (rename_i e; refine same_pair_snd e ?_) | (rename_i e; refine same_pair_fst e ?_) | (rename_i e; refine same_pair_trd e ?_) | split)

theorem State.followRing_same {o : Nat} {b : State} {s : State} {d : Nat} {e : Int} {target : Nat} (hk : Same o b s) (ho : 134348802 &&& o = 134348802 := by exact mask_sub (by decide) ho) :
    Same o b (State.followRing s d e target) := by
  unfold State.followRing
  (try simp only [])
  with_reducible repeat' (first | exact hk | exact mask_sub (by decide) ho | apply State.putIncr_same | apply State.restartHold_same | apply State.ppsStep_same | apply State.updDomain_same | apply State.wr_same | apply ite_same | split)

theorem State.beaconRx_same {o : Nat} {base : State} {s : State} {p : Nat} {b : Beacon} {rx : Stamp} {rxTd : List Stamp} {residence : Int} {tx : Stamp} (hk : Same o base s) (ho : 134348802 &&& o = 134348802 := by exact mask_sub (by decide) ho) :
    Same o base (State.beaconRx s p b rx rxTd residence tx) := by
  unfold State.beaconRx
  (try simp only [])
  with_reducible repeat' (first | exact hk | exact mask_sub (by decide) ho | apply State.followRing_same | apply State.updPort_same | apply State.keepRecord_same | apply State.setTime_same | apply State.due_same | refine State.over_same (fun _ _ hk => ?_) ?_ | apply ite_same | split)

theorem State.ringLock_same {o : Nat} {b : State} {s : State} {d : Nat} (hk : Same o b s) (ho : 134217730 &&& o = 134217730 := by exact mask_sub (by decide) ho) :
    Same o b (State.ringLock s d) := by
  unfold State.ringLock
  (try simp only [])
  with_reducible repeat' (first | exact hk | exact mask_sub (by decide) ho | apply State.updDomain_same | apply State.wr_same | apply ite_same | split)

theorem State.beaconSwitch_same {o : Nat} {b : State} {s : State} (hk : Same o b s) (ho : 134217730 &&& o = 134217730 := by exact mask_sub (by decide) ho) :
    Same o b (State.beaconSwitch s) := by
  unfold State.beaconSwitch
  (try simp only [])
  with_reducible repeat' (first | exact hk | exact mask_sub (by decide) ho | apply State.setTime_same | apply State.wr_same | apply ite_same | split)

theorem State.linkMessage_same {o : Nat} {b : State} {s : State} {p : Nat} {t1 t2 t3 t4 : Int} {frame hops : Nat} {rx tx : Stamp} (hk : Same o b s) (ho : 134348802 &&& o = 134348802 := by exact mask_sub (by decide) ho) :
    Same o b (State.linkMessage s p t1 t2 t3 t4 frame hops rx tx) := by
  unfold State.linkMessage
  (try simp only [])
  with_reducible repeat' (first | exact hk | exact mask_sub (by decide) ho | apply State.updPort_same | apply State.keepRecord_same | apply State.endReport_same | apply State.wr_same | apply State.when_same | apply ite_same | split)

theorem State.ringLost_same {o : Nat} {b : State} {s : State} {p : Nat} (hk : Same o b s) (ho : 134348802 &&& o = 134348802 := by exact mask_sub (by decide) ho) :
    Same o b (State.ringLost s p) := by
  unfold State.ringLost
  (try simp only [])
  with_reducible repeat' (first | exact hk | exact mask_sub (by decide) ho | apply State.updPort_same | apply State.raise_same | apply State.wr_same | apply ite_same | split)

theorem State.apsinDown_same {o : Nat} {b : State} {s : State} {p : Nat} (hk : Same o b s) (ho : 131072 &&& o = 131072 := by exact mask_sub (by decide) ho) :
    Same o b (State.apsinDown s p) := by
  unfold State.apsinDown
  (try simp only [])
  with_reducible repeat' (first | exact hk | exact mask_sub (by decide) ho | apply State.raise_same | split)

theorem State.phaseStep_same {o : Nat} {b : State} {s : State} {phase : Int} (hk : Same o b s) (ho : 134348802 &&& o = 134348802 := by exact mask_sub (by decide) ho) :
    Same o b (State.phaseStep s phase) := by
  unfold State.phaseStep
  (try simp only [])
  with_reducible repeat' (first | exact hk | exact mask_sub (by decide) ho | apply State.setTime_same | apply State.raise_same | apply State.bump_same | apply State.wrS_same | apply State.wr_same | apply ite_same | split)

theorem State.timeFrame_same {o : Nat} {b : State} {s : State} {phase : Int} {tx : List Stamp} (hk : Same o b s) (ho : 134348802 &&& o = 134348802 := by exact mask_sub (by decide) ho) :
    Same o b (State.timeFrame s phase tx) := by
  unfold State.timeFrame
  (try simp only [])
  with_reducible repeat' (first | exact hk | exact mask_sub (by decide) ho | apply State.phaseStep_same | apply State.sendBeacons_same | apply State.updPort_same | apply State.updDomain_same | apply State.setTime_same | refine State.over_same (fun _ _ hk => ?_) ?_ | apply ite_same | split)

theorem State.refclkLoss_same {o : Nat} {b : State} {s : State} (hk : Same o b s) (ho : 134217728 &&& o = 134217728 := by exact mask_sub (by decide) ho) :
    Same o b (State.refclkLoss s) := by
  unfold State.refclkLoss
  (try simp only [])
  with_reducible repeat' (first | exact hk | exact mask_sub (by decide) ho | apply State.setTime_same | split)

end Sys2Proof.Machine
end

