-- ==== Sys2Proof/Laws/SameProtect.lean ====
section
/-! SUPPORT. Laws/SameProtect.lean: what every operation of Machine/Protect.lean leaves (Laws/Same.lean). -/

set_option linter.all false
set_option Elab.async false

namespace Sys2Proof.Machine

open Sys2Proof

theorem State.setProt_same {o : Nat} {b : State} {s : State} {f : Protect → Protect} (hk : Same o b s) (ho : 65536 &&& o = 65536 := by exact mask_sub (by decide) ho) :
    Same o b (State.setProt s f) := by
  unfold State.setProt
  (try simp only [])
  with_reducible repeat' (first | exact hk | exact mask_sub (by decide) ho | split | fail_if_no_progress apply Same.prot_)

theorem State.updKey_same {o : Nat} {b : State} {s : State} {p : Nat} {f : KeyRec → KeyRec} (hk : Same o b s) (ho : 65536 &&& o = 65536 := by exact mask_sub (by decide) ho) :
    Same o b (State.updKey s p f) := by
  unfold State.updKey
  (try simp only [])
  with_reducible repeat' (first | exact hk | exact mask_sub (by decide) ho | apply State.setProt_same | split)

theorem State.startMtp_same {o : Nat} {b : State} {s : State} {w : MtpWrite} (hk : Same o b s) (ho : 65536 &&& o = 65536 := by exact mask_sub (by decide) ho) :
    Same o b (State.startMtp s w) := by
  unfold State.startMtp
  (try simp only [])
  with_reducible repeat' (first | exact hk | exact mask_sub (by decide) ho | apply State.setProt_same | split)

theorem State.cmdKeyInstall_same {o : Nat} {b : State} {s : State} {h : CmdHead} {p which : Nat} {wrapped : List Nat} (hk : Same o b s) (ho : 237570 &&& o = 237570 := by exact mask_sub (by decide) ho) :
    Same o b (State.cmdKeyInstall s h p which wrapped) := by
  unfold State.cmdKeyInstall
  (try simp only [])
  with_reducible repeat' (first | exact hk | exact mask_sub (by decide) ho | apply State.startMtp_same | apply State.bind_same | apply State.answer_same | apply ite_same | (rename_i e; refine same_pair_snd e ?_) | (rename_i e; refine same_pair_fst e ?_) | (rename_i e; refine same_pair_trd e ?_) | split)

theorem State.countWrite_same {o : Nat} {b : State} {s : State} {p : Nat} (hk : Same o b s) (ho : 65536 &&& o = 65536 := by exact mask_sub (by decide) ho) :
    Same o b (State.countWrite s p) := by
  unfold State.countWrite
  (try simp only [])
  with_reducible repeat' (first | exact hk | exact mask_sub (by decide) ho | apply State.updKey_same | split)

theorem State.mtpDone_same {o : Nat} {b : State} {s : State} {good : Bool} (hk : Same o b s) (ho : 68719714306 &&& o = 68719714306 := by exact mask_sub (by decide) ho) :
    Same o b (State.mtpDone s good) := by
  unfold State.mtpDone
  (try simp only [])
  with_reducible repeat' (first | exact hk | exact mask_sub (by decide) ho | apply State.countWrite_same | apply State.updKey_same | apply State.setProt_same | apply State.answerAt_same | apply State.raise_same | apply State.free_same | apply ite_same | (rename_i e; refine same_pair_snd e ?_) | (rename_i e; refine same_pair_fst e ?_) | (rename_i e; refine same_pair_trd e ?_) | split)

theorem State.cmdKeyRoll_same {o : Nat} {b : State} {s : State} {h : CmdHead} {p frame : Nat} (hk : Same o b s) (ho : 237570 &&& o = 237570 := by exact mask_sub (by decide) ho) :
    Same o b (State.cmdKeyRoll s h p frame) := by
  unfold State.cmdKeyRoll
  (try simp only [])
  with_reducible repeat' (first | exact hk | exact mask_sub (by decide) ho | apply State.updKey_same | apply State.answer_same | apply ite_same | (rename_i e; refine same_pair_snd e ?_) | (rename_i e; refine same_pair_fst e ?_) | (rename_i e; refine same_pair_trd e ?_) | split)

theorem State.keyRollApply_same {o : Nat} {b : State} {s : State} {p : Nat} (hk : Same o b s) (ho : 237570 &&& o = 237570 := by exact mask_sub (by decide) ho) :
    Same o b (State.keyRollApply s p) := by
  unfold State.keyRollApply
  (try simp only [])
  with_reducible repeat' (first | exact hk | exact mask_sub (by decide) ho | apply State.startMtp_same | apply State.updKey_same | apply State.answer_same | apply ite_same | (rename_i e; refine same_pair_snd e ?_) | (rename_i e; refine same_pair_fst e ?_) | (rename_i e; refine same_pair_trd e ?_) | split)

theorem State.graceEnd_same {o : Nat} {b : State} {s : State} {p : Nat} (hk : Same o b s) (ho : 65536 &&& o = 65536 := by exact mask_sub (by decide) ho) :
    Same o b (State.graceEnd s p) := by
  unfold State.graceEnd
  (try simp only [])
  with_reducible repeat' (first | exact hk | exact mask_sub (by decide) ho | apply State.updKey_same | apply ite_same | (rename_i e; refine same_pair_snd e ?_) | (rename_i e; refine same_pair_fst e ?_) | (rename_i e; refine same_pair_trd e ?_) | split)

theorem State.cmdProtectArm_same {o : Nat} {base : State} {s : State} {h : CmdHead} {b : ArmBody} (hk : Same o base s) (ho : 237570 &&& o = 237570 := by exact mask_sub (by decide) ho) :
    Same o base (State.cmdProtectArm s h b) := by
  unfold State.cmdProtectArm
  (try simp only [])
  with_reducible repeat' (first | exact hk | exact mask_sub (by decide) ho | apply State.setProt_same | apply State.answer_same | apply ite_same | (rename_i e; refine same_pair_snd e ?_) | (rename_i e; refine same_pair_fst e ?_) | (rename_i e; refine same_pair_trd e ?_) | split)

theorem State.disarm_same {o : Nat} {b : State} {s : State} (hk : Same o b s) (ho : 65536 &&& o = 65536 := by exact mask_sub (by decide) ho) :
    Same o b (State.disarm s) := by
  unfold State.disarm
  (try simp only [])
  with_reducible repeat' (first | exact hk | exact mask_sub (by decide) ho | apply State.setProt_same | split)

theorem State.protectExpire_same {o : Nat} {b : State} {s : State} (hk : Same o b s) (ho : 65536 &&& o = 65536 := by exact mask_sub (by decide) ho) :
    Same o b (State.protectExpire s) := by
  unfold State.protectExpire
  (try simp only [])
  with_reducible repeat' (first | exact hk | exact mask_sub (by decide) ho | apply State.disarm_same | apply ite_same | (rename_i e; refine same_pair_snd e ?_) | (rename_i e; refine same_pair_fst e ?_) | (rename_i e; refine same_pair_trd e ?_) | split)

theorem State.disarmForSleep_same {o : Nat} {b : State} {s : State} (hk : Same o b s) (ho : 65536 &&& o = 65536 := by exact mask_sub (by decide) ho) :
    Same o b (State.disarmForSleep s) := by
  unfold State.disarmForSleep
  (try simp only [])
  with_reducible repeat' (first | exact hk | exact mask_sub (by decide) ho | apply State.disarm_same | apply ite_same | (rename_i e; refine same_pair_snd e ?_) | (rename_i e; refine same_pair_fst e ?_) | (rename_i e; refine same_pair_trd e ?_) | split)

theorem State.putRecord13_same {o : Nat} {base : State} {s : State} {b : ArmBody} (hk : Same o base s) (ho : 2 &&& o = 2 := by exact mask_sub (by decide) ho) :
    Same o base (State.putRecord13 s b) := by
  unfold State.putRecord13
  (try simp only [])
  with_reducible repeat' (first | exact hk | exact mask_sub (by decide) ho | apply State.wr_same | apply State.setWord_same | refine State.over_same (fun _ _ hk => ?_) ?_ | apply ite_same | split)

theorem State.evalAlignment_same {o : Nat} {b : State} {s : State} (hk : Same o b s) (ho : 2048 &&& o = 2048 := by exact mask_sub (by decide) ho) :
    Same o b (State.evalAlignment s) := by
  unfold State.evalAlignment
  (try simp only [])
  with_reducible repeat' (first | exact hk | exact mask_sub (by decide) ho | apply ite_same | (rename_i e; refine same_pair_snd e ?_) | (rename_i e; refine same_pair_fst e ?_) | (rename_i e; refine same_pair_trd e ?_) | split | fail_if_no_progress apply Same.route_)

theorem State.cmdProtectCommit_same {o : Nat} {b : State} {s : State} {h : CmdHead} {armId digest frame : Nat} (hk : Same o b s) (ho : 237570 &&& o = 237570 := by exact mask_sub (by decide) ho) :
    Same o b (State.cmdProtectCommit s h armId digest frame) := by
  unfold State.cmdProtectCommit
  (try simp only [])
  with_reducible repeat' (first | exact hk | exact mask_sub (by decide) ho | apply State.disarm_same | apply State.setProt_same | apply State.answer_same | apply ite_same | (rename_i e; refine same_pair_snd e ?_) | (rename_i e; refine same_pair_fst e ?_) | (rename_i e; refine same_pair_trd e ?_) | split)

theorem State.passToOwner_same {o : Nat} {b : State} {s : State} {t : Nat} {hit : Conn → Bool} (hk : Same o b s) (ho : 2048 &&& o = 2048 := by exact mask_sub (by decide) ho) :
    Same o b (State.passToOwner s t hit) := by
  unfold State.passToOwner
  (try simp only [])
  with_reducible repeat' (first | exact hk | exact mask_sub (by decide) ho | apply ite_same | split | fail_if_no_progress apply Same.route_)

theorem State.stripTenancy_same {o : Nat} {b : State} {s before : State} {t : Nat} (hk : Same o b s) (ho : 47106 &&& o = 47106 := by exact mask_sub (by decide) ho) :
    Same o b (State.stripTenancy s before t) := by
  unfold State.stripTenancy
  (try simp only [])
  with_reducible repeat' (first | exact hk | exact mask_sub (by decide) ho | apply State.passToOwner_same | apply State.dropFor_same | apply State.dropCommit_same | apply State.endFlight_same | refine State.over_same (fun _ _ hk => ?_) ?_ | apply ite_same | split | fail_if_no_progress apply Same.sched_)

theorem State.newEpoch_same {o : Nat} {b : State} {s : State} {p : Nat} (hk : Same o b s) (ho : 8194 &&& o = 8194 := by exact mask_sub (by decide) ho) :
    Same o b (State.newEpoch s p) := by
  unfold State.newEpoch
  (try simp only [])
  with_reducible repeat' (first | exact hk | exact mask_sub (by decide) ho | apply State.notice_same | apply State.wr_same | split)

theorem State.applyChange_same {o : Nat} {b : State} {s : State} {c : Change} {cseq : Nat} (hk : Same o b s) (ho : 243714 &&& o = 243714 := by exact mask_sub (by decide) ho) :
    Same o b (State.applyChange s c cseq) := by
  unfold State.applyChange
  (try simp only [])
  with_reducible repeat' (first | exact hk | exact mask_sub (by decide) ho | apply State.newEpoch_same | apply State.stripTenancy_same | apply State.evalAlignment_same | apply State.putRecord13_same | apply State.disarm_same | apply State.startMtp_same | apply State.answer_same | refine State.over_same (fun _ _ hk => ?_) ?_ | (rename_i e; refine same_pair_snd e ?_) | (rename_i e; refine same_pair_fst e ?_) | (rename_i e; refine same_pair_trd e ?_) | split)

theorem State.protectApply_same {o : Nat} {b : State} {s : State} (hk : Same o b s) (ho : 243714 &&& o = 243714 := by exact mask_sub (by decide) ho) :
    Same o b (State.protectApply s) := by
  unfold State.protectApply
  (try simp only [])
  with_reducible repeat' (first | exact hk | exact mask_sub (by decide) ho | apply State.applyChange_same | apply State.disarm_same | apply State.answer_same | apply ite_same | (rename_i e; refine same_pair_snd e ?_) | (rename_i e; refine same_pair_fst e ?_) | (rename_i e; refine same_pair_trd e ?_) | split)

theorem State.writeProv_same {o : Nat} {b : State} {s : State} {k w : Nat} (hk : Same o b s) (ho : 65536 &&& o = 65536 := by exact mask_sub (by decide) ho) :
    Same o b (State.writeProv s k w) := by
  unfold State.writeProv
  (try simp only [])
  with_reducible repeat' (first | exact hk | exact mask_sub (by decide) ho | apply State.setProt_same | split)

theorem State.provGo_same {o : Nat} {b : State} {s : State} (hk : Same o b s) (ho : 65536 &&& o = 65536 := by exact mask_sub (by decide) ho) :
    Same o b (State.provGo s) := by
  unfold State.provGo
  exact State.startMtp_same (State.updKey_same (State.setProt_same hk))

end Sys2Proof.Machine
end

