-- ==== Sys2Proof/Laws/SamePlanes.lean ====
section
/-! SUPPORT. Laws/SamePlanes.lean: what every operation of Machine/Planes.lean leaves (Laws/Same.lean). -/

set_option linter.all false
set_option Elab.async false

namespace Sys2Proof.Machine

open Sys2Proof

theorem State.setPl_same {o : Nat} {b : State} {s : State} {f : PlaneSt → PlaneSt} (hk : Same o b s) (ho : 268435456 &&& o = 268435456 := by exact mask_sub (by decide) ho) :
    Same o b (State.setPl s f) := by
  unfold State.setPl
  (try simp only [])
  with_reducible repeat' (first | exact hk | exact mask_sub (by decide) ho | split | fail_if_no_progress apply Same.pl_)

theorem State.setHealth_same {o : Nat} {b : State} {s : State} {p : Plane} {h : Nat} (hk : Same o b s) (ho : 16386 &&& o = 16386 := by exact mask_sub (by decide) ho) :
    Same o b (State.setHealth s p h) := by
  unfold State.setHealth
  (try simp only [])
  with_reducible repeat' (first | exact hk | exact mask_sub (by decide) ho | apply State.alertState_same | apply State.wr_same | split)

theorem State.swapRoles_same {o : Nat} {b : State} {s : State} (hk : Same o b s) (ho : 16386 &&& o = 16386 := by exact mask_sub (by decide) ho) :
    Same o b (State.swapRoles s) := by
  unfold State.swapRoles
  (try simp only [])
  with_reducible repeat' (first | exact hk | exact mask_sub (by decide) ho | apply State.alertState_same | apply State.bump_same | apply State.wr_same | split)

theorem State.endSequence_same {o : Nat} {b : State} {s : State} (hk : Same o b s) (ho : 268435456 &&& o = 268435456 := by exact mask_sub (by decide) ho) :
    Same o b (State.endSequence s) := by
  unfold State.endSequence
  (try simp only [])
  with_reducible repeat' (first | exact hk | exact mask_sub (by decide) ho | apply State.setPl_same | split)

theorem State.endDrill_same {o : Nat} {b : State} {s : State} (hk : Same o b s) (ho : 268607490 &&& o = 268607490 := by exact mask_sub (by decide) ho) :
    Same o b (State.endDrill s) := by
  unfold State.endDrill
  (try simp only [])
  with_reducible repeat' (first | exact hk | exact mask_sub (by decide) ho | apply State.setPl_same | apply State.answer_same | (rename_i e; refine same_pair_snd e ?_) | (rename_i e; refine same_pair_fst e ?_) | (rename_i e; refine same_pair_trd e ?_) | split)

theorem State.endReturn_same {o : Nat} {b : State} {s : State} (hk : Same o b s) (ho : 268451842 &&& o = 268451842 := by exact mask_sub (by decide) ho) :
    Same o b (State.endReturn s) := by
  unfold State.endReturn
  (try simp only [])
  with_reducible repeat' (first | exact hk | exact mask_sub (by decide) ho | apply State.setHealth_same | apply State.setPl_same | (rename_i e; refine same_pair_snd e ?_) | (rename_i e; refine same_pair_fst e ?_) | (rename_i e; refine same_pair_trd e ?_) | split)

theorem State.silence_same {o : Nat} {b : State} {s : State} {p : Plane} (hk : Same o b s) (ho : 8192 &&& o = 8192 := by exact mask_sub (by decide) ho) :
    Same o b (State.silence s p) := by
  unfold State.silence
  (try simp only [])
  with_reducible repeat' (first | exact hk | exact mask_sub (by decide) ho | apply State.updLane_same | refine State.over_same (fun _ _ hk => ?_) ?_ | (rename_i e; refine same_pair_snd e ?_) | (rename_i e; refine same_pair_fst e ?_) | (rename_i e; refine same_pair_trd e ?_) | split | fail_if_no_progress apply Same.links_)

theorem State.fencePlane_same {o : Nat} {b : State} {s : State} {p : Plane} {auto : Bool} (hk : Same o b s) (ho : 268623874 &&& o = 268623874 := by exact mask_sub (by decide) ho) :
    Same o b (State.fencePlane s p auto) := by
  unfold State.fencePlane
  (try simp only [])
  with_reducible repeat' (first | exact hk | exact mask_sub (by decide) ho | apply State.silence_same | apply State.endReturn_same | apply State.endDrill_same | apply State.endSequence_same | apply State.swapRoles_same | apply State.setHealth_same | apply State.setPl_same | apply ite_same | split)

theorem State.fenceRow_same {o : Nat} {b : State} {s : State} {p : Plane} (hk : Same o b s) (ho : 268623874 &&& o = 268623874 := by exact mask_sub (by decide) ho) :
    Same o b (State.fenceRow s p) := by
  unfold State.fenceRow
  (try simp only [])
  with_reducible repeat' (first | exact hk | exact mask_sub (by decide) ho | apply State.fencePlane_same | apply State.due_same | apply State.dueResort_same | apply ite_same | split | fail_if_no_progress apply Same.faults_)

theorem State.enterLastResort_same {o : Nat} {b : State} {s : State} (hk : Same o b s) (ho : 268623874 &&& o = 268623874 := by exact mask_sub (by decide) ho) :
    Same o b (State.enterLastResort s) := by
  unfold State.enterLastResort
  (try simp only [])
  with_reducible repeat' (first | exact hk | exact mask_sub (by decide) ho | apply State.endReturn_same | apply State.endDrill_same | apply State.endSequence_same | apply State.setPl_same | apply State.alertState_same | apply State.wr_same | apply ite_same | split | fail_if_no_progress apply Same.faults_)

theorem State.takeResort_same {o : Nat} {b : State} {s : State} (hk : Same o b s) (ho : 268623874 &&& o = 268623874 := by exact mask_sub (by decide) ho) :
    Same o b (State.takeResort s) := by
  unfold State.takeResort
  (try simp only [])
  with_reducible repeat' (first | exact hk | exact mask_sub (by decide) ho | apply State.enterLastResort_same | apply ite_same | (rename_i e; refine same_pair_snd e ?_) | (rename_i e; refine same_pair_fst e ?_) | (rename_i e; refine same_pair_trd e ?_) | split)

theorem State.countMismatch_same {o : Nat} {b : State} {s : State} {key : Nat} (hk : Same o b s) (ho : 2 &&& o = 2 := by exact mask_sub (by decide) ho) :
    Same o b (State.countMismatch s key) := by
  unfold State.countMismatch
  (try simp only [])
  with_reducible repeat' (first | exact hk | exact mask_sub (by decide) ho | apply State.bump_same | apply State.setWord_same | apply ite_same | split)

theorem State.probationFail_same {o : Nat} {b : State} {s : State} (hk : Same o b s) (ho : 131072 &&& o = 131072 := by exact mask_sub (by decide) ho) :
    Same o b (State.probationFail s) := by
  unfold State.probationFail
  (try simp only [])
  with_reducible repeat' (first | exact hk | exact mask_sub (by decide) ho | apply State.fenceAt_same | apply State.raise_same | apply ite_same | (rename_i e; refine same_pair_snd e ?_) | (rename_i e; refine same_pair_fst e ?_) | (rename_i e; refine same_pair_trd e ?_) | split)

theorem State.divHold_same {o : Nat} {b : State} {s : State} {l : List Mismatch} (hk : Same o b s) (ho : 268566530 &&& o = 268566530 := by exact mask_sub (by decide) ho) :
    Same o b (State.divHold s l) := by
  unfold State.divHold
  (try simp only [])
  with_reducible repeat' (first | exact hk | exact mask_sub (by decide) ho | apply State.probationFail_same | apply State.countMismatch_same | apply State.setPl_same | apply State.wr_same | apply State.setWord_same | refine State.over_same (fun _ _ hk => ?_) ?_ | apply ite_same | (rename_i e; refine same_pair_snd e ?_) | (rename_i e; refine same_pair_fst e ?_) | (rename_i e; refine same_pair_trd e ?_) | split)

theorem State.divReplay_same {o : Nat} {b : State} {s : State} {l : List Mismatch} (hk : Same o b s) (ho : 268435456 &&& o = 268435456 := by exact mask_sub (by decide) ho) :
    Same o b (State.divReplay s l) := by
  unfold State.divReplay
  (try simp only [])
  with_reducible repeat' (first | exact hk | exact mask_sub (by decide) ho | apply State.setPl_same | apply ite_same | (rename_i e; refine same_pair_snd e ?_) | (rename_i e; refine same_pair_fst e ?_) | (rename_i e; refine same_pair_trd e ?_) | split)

theorem State.storeItem_same {o : Nat} {b : State} {s : State} {d : DivItem} (hk : Same o b s) (ho : 12 &&& o = 12 := by exact mask_sub (by decide) ho) :
    Same o b (State.storeItem s d) := by
  unfold State.storeItem
  (try simp only [])
  with_reducible repeat' (first | exact hk | exact mask_sub (by decide) ho | apply State.store_same | apply State.wrP_same | split)

theorem State.divRelease_same {o : Nat} {b : State} {s : State} (hk : Same o b s) (ho : 268566542 &&& o = 268566542 := by exact mask_sub (by decide) ho) :
    Same o b (State.divRelease s) := by
  unfold State.divRelease
  (try simp only [])
  with_reducible repeat' (first | exact hk | exact mask_sub (by decide) ho | apply State.storeItem_same | apply State.setPl_same | apply State.raise_same | apply State.bump_same | refine State.over_same (fun _ _ hk => ?_) ?_ | apply ite_same | split)

theorem State.divMeasure_same {o : Nat} {b : State} {s : State} (hk : Same o b s) (ho : 276824076 &&& o = 276824076 := by exact mask_sub (by decide) ho) :
    Same o b (State.divMeasure s) := by
  unfold State.divMeasure
  (try simp only [])
  with_reducible repeat' (first | exact hk | exact mask_sub (by decide) ho | apply State.setPl_same | apply State.validate_same | refine State.over_same (fun _ _ hk => ?_) ?_ | apply ite_same | (rename_i e; refine same_pair_snd e ?_) | (rename_i e; refine same_pair_fst e ?_) | (rename_i e; refine same_pair_trd e ?_) | split)

theorem State.divDecide_same {o : Nat} {b : State} {s : State} (hk : Same o b s) (ho : 268566530 &&& o = 268566530 := by exact mask_sub (by decide) ho) :
    Same o b (State.divDecide s) := by
  unfold State.divDecide
  (try simp only [])
  with_reducible repeat' (first | exact hk | exact mask_sub (by decide) ho | apply State.setPl_same | apply State.fenceAt_same | apply State.raise_same | apply State.bump_same | apply State.wr_same | apply ite_same | split)

theorem State.divResume_same {o : Nat} {b : State} {s : State} (hk : Same o b s) (ho : 268435468 &&& o = 268435468 := by exact mask_sub (by decide) ho) :
    Same o b (State.divResume s) := by
  unfold State.divResume
  (try simp only [])
  with_reducible repeat' (first | exact hk | exact mask_sub (by decide) ho | apply State.setPl_same | apply State.fenceCtx_same | refine State.over_same (fun _ _ hk => ?_) ?_ | apply ite_same | (rename_i e; refine same_pair_snd e ?_) | (rename_i e; refine same_pair_fst e ?_) | (rename_i e; refine same_pair_trd e ?_) | split)

theorem State.expressMismatch_same {o : Nat} {b : State} {s : State} {n chip : Nat} (hk : Same o b s) (ho : 268566530 &&& o = 268566530 := by exact mask_sub (by decide) ho) :
    Same o b (State.expressMismatch s n chip) := by
  unfold State.expressMismatch
  (try simp only [])
  with_reducible repeat' (first | exact hk | exact mask_sub (by decide) ho | apply State.probationFail_same | apply State.setPl_same | apply State.bump_same | apply ite_same | (rename_i e; refine same_pair_snd e ?_) | (rename_i e; refine same_pair_fst e ?_) | (rename_i e; refine same_pair_trd e ?_) | split)

theorem State.expJudged_same {o : Nat} {b : State} {s : State} {n : Nat} (hk : Same o b s) (ho : 268566528 &&& o = 268566528 := by exact mask_sub (by decide) ho) :
    Same o b (State.expJudged s n) := by
  unfold State.expJudged
  (try simp only [])
  with_reducible repeat' (first | exact hk | exact mask_sub (by decide) ho | apply State.setPl_same | apply State.fenceAt_same | apply State.raise_same | apply ite_same | (rename_i e; refine same_pair_snd e ?_) | (rename_i e; refine same_pair_fst e ?_) | (rename_i e; refine same_pair_trd e ?_) | split)

theorem State.centralDivergence_same {o : Nat} {b : State} {s : State} (hk : Same o b s) (ho : 268566530 &&& o = 268566530 := by exact mask_sub (by decide) ho) :
    Same o b (State.centralDivergence s) := by
  unfold State.centralDivergence
  (try simp only [])
  with_reducible repeat' (first | exact hk | exact mask_sub (by decide) ho | apply State.probationFail_same | apply State.setPl_same | apply State.bump_same | apply State.wr_same | apply ite_same | split)

theorem State.auditEnd_same {o : Nat} {b : State} {s : State} {failA failB : Bool} (hk : Same o b s) (ho : 268566530 &&& o = 268566530 := by exact mask_sub (by decide) ho) :
    Same o b (State.auditEnd s failA failB) := by
  unfold State.auditEnd
  (try simp only [])
  with_reducible repeat' (first | exact hk | exact mask_sub (by decide) ho | apply State.setPl_same | apply State.fenceAt_same | apply State.raise_same | apply State.wr_same | apply ite_same | split)

theorem State.holdSelection_same {o : Nat} {b : State} {s : State} {d old : Nat} (hk : Same o b s) (ho : 268435458 &&& o = 268435458 := by exact mask_sub (by decide) ho) :
    Same o b (State.holdSelection s d old) := by
  unfold State.holdSelection
  (try simp only [])
  with_reducible repeat' (first | exact hk | exact mask_sub (by decide) ho | apply State.setPl_same | apply State.select_same | apply State.setWord_same | split)

theorem State.freeSelection_same {o : Nat} {b : State} {s : State} {t : Nat} (hk : Same o b s) (ho : 268435458 &&& o = 268435458 := by exact mask_sub (by decide) ho) :
    Same o b (State.freeSelection s t) := by
  unfold State.freeSelection
  (try simp only [])
  with_reducible repeat' (first | exact hk | exact mask_sub (by decide) ho | apply State.setPl_same | apply State.select_same | refine State.over_same (fun _ _ hk => ?_) ?_ | apply ite_same | split)

theorem State.cmdDrill_same {o : Nat} {b : State} {s : State} {h : CmdHead} {frame : Nat} (hk : Same o b s) (ho : 268607490 &&& o = 268607490 := by exact mask_sub (by decide) ho) :
    Same o b (State.cmdDrill s h frame) := by
  unfold State.cmdDrill
  (try simp only [])
  with_reducible repeat' (first | exact hk | exact mask_sub (by decide) ho | apply State.setPl_same | apply State.answer_same | apply State.wr_same | apply ite_same | (rename_i e; refine same_pair_snd e ?_) | (rename_i e; refine same_pair_fst e ?_) | (rename_i e; refine same_pair_trd e ?_) | split)

theorem State.drillSwap_same {o : Nat} {b : State} {s : State} (hk : Same o b s) (ho : 268451842 &&& o = 268451842 := by exact mask_sub (by decide) ho) :
    Same o b (State.drillSwap s) := by
  unfold State.drillSwap
  (try simp only [])
  with_reducible repeat' (first | exact hk | exact mask_sub (by decide) ho | apply State.swapRoles_same | apply State.setPl_same | apply ite_same | (rename_i e; refine same_pair_snd e ?_) | (rename_i e; refine same_pair_fst e ?_) | (rename_i e; refine same_pair_trd e ?_) | split)

theorem State.drillCheck_same {o : Nat} {b : State} {s : State} {failed : List Nat} {sup : Bool} (hk : Same o b s) (ho : 268623874 &&& o = 268623874 := by exact mask_sub (by decide) ho) :
    Same o b (State.drillCheck s failed sup) := by
  unfold State.drillCheck
  (try simp only [])
  with_reducible repeat' (first | exact hk | exact mask_sub (by decide) ho | apply State.setPl_same | apply State.fenceAt_same | apply State.alertState_same | apply State.answer_same | apply State.endReport_same | apply State.raise_same | apply State.bump_same | apply State.wr_same | refine State.over_same (fun _ _ hk => ?_) ?_ | refine foldl_same (fun _ _ hk => ?_) ?_ | refine foldl_fst_same (fun _ _ hk => ?_) ?_ | refine foldl_snd_same (fun _ _ hk => ?_) ?_ | apply ite_same | (rename_i e; refine same_pair_snd e ?_) | (rename_i e; refine same_pair_fst e ?_) | (rename_i e; refine same_pair_trd e ?_) | split)

theorem State.drillDue_same {o : Nat} {b : State} {s : State} (hk : Same o b s) (ho : 268566528 &&& o = 268566528 := by exact mask_sub (by decide) ho) :
    Same o b (State.drillDue s) := by
  unfold State.drillDue
  (try simp only [])
  with_reducible repeat' (first | exact hk | exact mask_sub (by decide) ho | apply State.setPl_same | apply State.raise_same | apply ite_same | split)

theorem State.powerDomain_same {o : Nat} {b : State} {s : State} {d : Nat} {on : Bool} (hk : Same o b s) (ho : 2 &&& o = 2 := by exact mask_sub (by decide) ho) :
    Same o b (State.powerDomain s d on) := by
  unfold State.powerDomain
  (try simp only [])
  with_reducible repeat' (first | exact hk | exact mask_sub (by decide) ho | apply State.setWord_same | split)

theorem State.startReturn_same {o : Nat} {b : State} {s : State} {p : Plane} (hk : Same o b s) (ho : 268582914 &&& o = 268582914 := by exact mask_sub (by decide) ho) :
    Same o b (State.startReturn s p) := by
  unfold State.startReturn
  (try simp only [])
  with_reducible repeat' (first | exact hk | exact mask_sub (by decide) ho | apply State.powerDomain_same | apply State.setHealth_same | apply State.setPl_same | apply State.raise_same | refine State.over_same (fun _ _ hk => ?_) ?_ | split | fail_if_no_progress apply Same.faults_)

theorem State.returnPlane_same {o : Nat} {b : State} {s : State} (hk : Same o b s) (ho : 268582914 &&& o = 268582914 := by exact mask_sub (by decide) ho) :
    Same o b (State.returnPlane s) := by
  unfold State.returnPlane
  (try simp only [])
  with_reducible repeat' (first | exact hk | exact mask_sub (by decide) ho | apply State.startReturn_same | apply ite_same | (rename_i e; refine same_pair_snd e ?_) | (rename_i e; refine same_pair_fst e ?_) | (rename_i e; refine same_pair_trd e ?_) | split)

theorem State.returnPower_same {o : Nat} {b : State} {s : State} (hk : Same o b s) (ho : 268435458 &&& o = 268435458 := by exact mask_sub (by decide) ho) :
    Same o b (State.returnPower s) := by
  unfold State.returnPower
  (try simp only [])
  with_reducible repeat' (first | exact hk | exact mask_sub (by decide) ho | apply State.powerDomain_same | apply State.setPl_same | refine State.over_same (fun _ _ hk => ?_) ?_ | apply ite_same | (rename_i e; refine same_pair_snd e ?_) | (rename_i e; refine same_pair_fst e ?_) | (rename_i e; refine same_pair_trd e ?_) | split)

theorem State.returnTest_same {o : Nat} {b : State} {s : State} {fail : Option (Nat × Nat)} (hk : Same o b s) (ho : 268582914 &&& o = 268582914 := by exact mask_sub (by decide) ho) :
    Same o b (State.returnTest s fail) := by
  unfold State.returnTest
  (try simp only [])
  with_reducible repeat' (first | exact hk | exact mask_sub (by decide) ho | apply State.endReturn_same | apply State.setPl_same | apply State.raise_same | apply ite_same | (rename_i e; refine same_pair_snd e ?_) | (rename_i e; refine same_pair_fst e ?_) | (rename_i e; refine same_pair_trd e ?_) | split)

theorem State.copyPlane_same {o : Nat} {b : State} {s : State} {p : Plane} (hk : Same o b s) (ho : 4194316 &&& o = 4194316 := by exact mask_sub (by decide) ho) :
    Same o b (State.copyPlane s p) := by
  have h1 : ∀ t : State, Same o b t → Same o b { t with gens := (List.range 8).map (fun g => t.gen (genInst (other p) g)) ++ (List.range 8).map fun g => t.gen (genInst (other p) g) } :=
    fun t ht => Same.gens_ ht (mask_sub (by decide) ho)
  unfold State.copyPlane
  refine h1 _ ?_
  cases p
  · exact hk.reg_ (fun _ => rfl) (part_off (by decide) ho) (fun _ => rfl) (fun _ => rfl) fun _ => ⟨rfl, rfl, rfl⟩
  · exact hk.reg_ (fun _ => rfl) (fun _ => rfl) (part_off (by decide) ho) (fun _ => rfl) fun _ => ⟨rfl, rfl, rfl⟩

theorem State.lockstep_same {o : Nat} {b : State} {s : State} (hk : Same o b s) (ho : 272629772 &&& o = 272629772 := by exact mask_sub (by decide) ho) :
    Same o b (State.lockstep s) := by
  unfold State.lockstep
  (try simp only [])
  with_reducible repeat' (first | exact hk | exact mask_sub (by decide) ho | apply State.copyPlane_same | apply State.setPl_same | apply ite_same | (rename_i e; refine same_pair_snd e ?_) | (rename_i e; refine same_pair_fst e ?_) | (rename_i e; refine same_pair_trd e ?_) | split)

theorem State.returnEnd_same {o : Nat} {b : State} {s : State} (hk : Same o b s) (ho : 268582914 &&& o = 268582914 := by exact mask_sub (by decide) ho) :
    Same o b (State.returnEnd s) := by
  unfold State.returnEnd
  (try simp only [])
  with_reducible repeat' (first | exact hk | exact mask_sub (by decide) ho | apply State.setHealth_same | apply State.setPl_same | apply State.raise_same | apply ite_same | (rename_i e; refine same_pair_snd e ?_) | (rename_i e; refine same_pair_fst e ?_) | (rename_i e; refine same_pair_trd e ?_) | split)

theorem State.autoReturn_same {o : Nat} {b : State} {s : State} (hk : Same o b s) (ho : 268582914 &&& o = 268582914 := by exact mask_sub (by decide) ho) :
    Same o b (State.autoReturn s) := by
  unfold State.autoReturn
  (try simp only [])
  with_reducible repeat' (first | exact hk | exact mask_sub (by decide) ho | apply State.startReturn_same | apply State.setPl_same | apply ite_same | (rename_i e; refine same_pair_snd e ?_) | (rename_i e; refine same_pair_fst e ?_) | (rename_i e; refine same_pair_trd e ?_) | split)

theorem State.enterSolo_same {o : Nat} {b : State} {s : State} (hk : Same o b s) (ho : 268623874 &&& o = 268623874 := by exact mask_sub (by decide) ho) :
    Same o b (State.enterSolo s) := by
  unfold State.enterSolo
  (try simp only [])
  with_reducible repeat' (first | exact hk | exact mask_sub (by decide) ho | apply State.powerDomain_same | apply State.silence_same | apply State.endDrill_same | apply State.endSequence_same | apply State.setHealth_same | apply State.setPl_same | refine State.over_same (fun _ _ hk => ?_) ?_ | split)

theorem State.leaveSolo_same {o : Nat} {b : State} {s : State} (hk : Same o b s) (ho : 268582914 &&& o = 268582914 := by exact mask_sub (by decide) ho) :
    Same o b (State.leaveSolo s) := by
  unfold State.leaveSolo
  (try simp only [])
  with_reducible repeat' (first | exact hk | exact mask_sub (by decide) ho | apply State.startReturn_same | apply ite_same | (rename_i e; refine same_pair_snd e ?_) | (rename_i e; refine same_pair_fst e ?_) | (rename_i e; refine same_pair_trd e ?_) | split)

theorem State.heartbeat_same {o : Nat} {b : State} {s : State} {p : Plane} (hk : Same o b s) (ho : 131072 &&& o = 131072 := by exact mask_sub (by decide) ho) :
    Same o b (State.heartbeat s p) := by
  unfold State.heartbeat
  (try simp only [])
  with_reducible repeat' (first | exact hk | exact mask_sub (by decide) ho | apply State.fenceAt_same | apply State.raise_same | apply ite_same | split)

theorem State.cellarVote_same {o : Nat} {b : State} {s : State} {copies : List Nat} (hk : Same o b s) (ho : 268623874 &&& o = 268623874 := by exact mask_sub (by decide) ho) :
    Same o b (State.cellarVote s copies) := by
  unfold State.cellarVote
  (try simp only [])
  with_reducible repeat' (first | exact hk | exact mask_sub (by decide) ho | apply State.enterLastResort_same | apply State.setPl_same | apply State.raise_same | apply State.bump_same | apply State.wr_same | refine State.over_same (fun _ _ hk => ?_) ?_ | apply ite_same | (rename_i e; refine same_pair_snd e ?_) | (rename_i e; refine same_pair_fst e ?_) | (rename_i e; refine same_pair_trd e ?_) | split)

end Sys2Proof.Machine
end

