-- ==== Sys2Proof/Laws/SameThermal.lean ====
section
/-! SUPPORT. Laws/SameThermal.lean: what every operation of Machine/Thermal.lean leaves (Laws/Same.lean). -/

set_option linter.all false
set_option Elab.async false

namespace Sys2Proof.Machine

open Sys2Proof

theorem State.setTherm_same {o : Nat} {b : State} {s : State} {f : Thermal → Thermal} (hk : Same o b s) (ho : 536870912 &&& o = 536870912 := by exact mask_sub (by decide) ho) :
    Same o b (State.setTherm s f) := by
  unfold State.setTherm
  (try simp only [])
  with_reducible repeat' (first | exact hk | exact mask_sub (by decide) ho | split | fail_if_no_progress apply Same.therm_)

theorem State.failSensor_same {o : Nat} {b : State} {s : State} {d cause : Nat} (hk : Same o b s) (ho : 131074 &&& o = 131074 := by exact mask_sub (by decide) ho) :
    Same o b (State.failSensor s d cause) := by
  unfold State.failSensor
  (try simp only [])
  with_reducible repeat' (first | exact hk | exact mask_sub (by decide) ho | apply State.raise_same | apply State.bump_same | apply State.wr_same | split)

theorem State.takeCounts_same {o : Nat} {b : State} {s : State} {counts : List (Nat × Nat)} (hk : Same o b s) (ho : 537001986 &&& o = 537001986 := by exact mask_sub (by decide) ho) :
    Same o b (State.takeCounts s counts) := by
  unfold State.takeCounts
  (try simp only [])
  with_reducible repeat' (first | exact hk | exact mask_sub (by decide) ho | apply State.failSensor_same | apply State.setTherm_same | apply State.wrS_same | apply State.wr_same | refine State.over_same (fun _ _ hk => ?_) ?_ | apply ite_same | split)

theorem State.takeZones_same {o : Nat} {b : State} {s : State} (hk : Same o b s) (ho : 2 &&& o = 2 := by exact mask_sub (by decide) ho) :
    Same o b (State.takeZones s) := by
  unfold State.takeZones
  (try simp only [])
  with_reducible repeat' (first | exact hk | exact mask_sub (by decide) ho | apply State.wrS_same | apply State.wr_same | refine State.over_same (fun _ _ hk => ?_) ?_ | (rename_i e; refine same_pair_snd e ?_) | (rename_i e; refine same_pair_fst e ?_) | (rename_i e; refine same_pair_trd e ?_) | split)

theorem State.takeThrottle_same {o : Nat} {b : State} {s : State} (hk : Same o b s) (ho : 537001986 &&& o = 537001986 := by exact mask_sub (by decide) ho) :
    Same o b (State.takeThrottle s) := by
  unfold State.takeThrottle
  (try simp only [])
  with_reducible repeat' (first | exact hk | exact mask_sub (by decide) ho | apply State.setTherm_same | apply State.endReport_same | apply State.raise_same | apply State.bump_same | apply State.wr_same | apply State.when_same | apply ite_same | (rename_i e; refine same_pair_snd e ?_) | (rename_i e; refine same_pair_fst e ?_) | (rename_i e; refine same_pair_trd e ?_) | split)

theorem State.tripNow_same {o : Nat} {b : State} {s : State} {analog : Bool} (hk : Same o b s) (ho : 69256413186 &&& o = 69256413186 := by exact mask_sub (by decide) ho) :
    Same o b (State.tripNow s analog) := by
  unfold State.tripNow
  (try simp only [])
  with_reducible repeat' (first | exact hk | exact mask_sub (by decide) ho | apply State.setTherm_same | apply State.powerDomain_same | apply State.setProt_same | apply State.free_same | apply State.wr_same | refine State.over_same (fun _ _ hk => ?_) ?_ | apply ite_same | (rename_i e; refine same_pair_snd e ?_) | (rename_i e; refine same_pair_fst e ?_) | (rename_i e; refine same_pair_trd e ?_) | split)

theorem State.tripHalt_same {o : Nat} {b : State} {s : State} (hk : Same o b s) (ho : 536936448 &&& o = 536936448 := by exact mask_sub (by decide) ho) :
    Same o b (State.tripHalt s) := by
  unfold State.tripHalt
  (try simp only [])
  with_reducible repeat' (first | exact hk | exact mask_sub (by decide) ho | apply State.setTherm_same | apply State.setProt_same | apply ite_same | split)

theorem State.sensorRound_same {o : Nat} {b : State} {s : State} {counts : List (Nat × Nat)} (hk : Same o b s) (ho : 69324701698 &&& o = 69324701698 := by exact mask_sub (by decide) ho) :
    Same o b (State.sensorRound s counts) := by
  unfold State.sensorRound
  (try simp only [])
  with_reducible repeat' (first | exact hk | exact mask_sub (by decide) ho | apply State.tripNow_same | apply State.takeThrottle_same | apply State.takeZones_same | apply State.takeCounts_same | apply State.setTherm_same | apply State.calTriggers_same | apply State.wr_same | apply State.when_same | apply ite_same | split)

theorem State.masksApplied_same {o : Nat} {b : State} {s : State} {old : List Nat} (hk : Same o b s) (ho : 131074 &&& o = 131074 := by exact mask_sub (by decide) ho) :
    Same o b (State.masksApplied s old) := by
  unfold State.masksApplied
  (try simp only [])
  with_reducible repeat' (first | exact hk | exact mask_sub (by decide) ho | apply State.endReport_same | apply State.wr_same | refine State.over_same (fun _ _ hk => ?_) ?_ | apply State.when_same | apply ite_same | split)

theorem State.deepSensor_same {o : Nat} {b : State} {s : State} {count : Nat} (hk : Same o b s) (ho : 2 &&& o = 2 := by exact mask_sub (by decide) ho) :
    Same o b (State.deepSensor s count) := by
  unfold State.deepSensor
  (try simp only [])
  with_reducible repeat' (first | exact hk | exact mask_sub (by decide) ho | apply State.wrS_same | apply State.wr_same | split)

end Sys2Proof.Machine
end

