-- ==== Sys2Proof/Laws/SamePower.lean ====
section
/-! SUPPORT. Laws/SamePower.lean: what every operation of Machine/Power.lean leaves (Laws/Same.lean). -/

set_option linter.all false
set_option Elab.async false

namespace Sys2Proof.Machine

open Sys2Proof

theorem State.setPw_same {o : Nat} {b : State} {s : State} {f : PowerSt → PowerSt} (hk : Same o b s) (ho : 1073741824 &&& o = 1073741824 := by exact mask_sub (by decide) ho) :
    Same o b (State.setPw s f) := by
  unfold State.setPw
  (try simp only [])
  with_reducible repeat' (first | exact hk | exact mask_sub (by decide) ho | split | fail_if_no_progress apply Same.pw_)

theorem State.setRtc_same {o : Nat} {b : State} {s : State} {v : Nat} (hk : Same o b s) (ho : 2 &&& o = 2 := by exact mask_sub (by decide) ho) :
    Same o b (State.setRtc s v) := by
  unfold State.setRtc
  (try simp only [])
  with_reducible repeat' (first | exact hk | exact mask_sub (by decide) ho | apply State.wr_same | split)

theorem State.rtcFrames_same {o : Nat} {b : State} {s : State} {n : Nat} (hk : Same o b s) (ho : 1342177282 &&& o = 1342177282 := by exact mask_sub (by decide) ho) :
    Same o b (State.rtcFrames s n) := by
  unfold State.rtcFrames
  (try simp only [])
  with_reducible repeat' (first | exact hk | exact mask_sub (by decide) ho | apply State.setRtc_same | apply State.setPw_same | apply State.setPl_same | apply ite_same | split)

theorem State.cmdPower_same {o : Nat} {b : State} {s : State} {h : CmdHead} {code : Nat} (hk : Same o b s) (ho : 70133735694 &&& o = 70133735694 := by exact mask_sub (by decide) ho) :
    Same o b (State.cmdPower s h code) := by
  unfold State.cmdPower
  (try simp only [])
  with_reducible repeat' (first | exact hk | exact mask_sub (by decide) ho | apply State.setPw_same | apply State.endReturn_same | apply State.disarmForSleep_same | apply State.abortRuns_same | apply State.mtAbort_same | apply State.alertState_same | apply State.answer_same | apply State.wr_same | apply ite_same | (rename_i e; refine same_pair_snd e ?_) | (rename_i e; refine same_pair_fst e ?_) | (rename_i e; refine same_pair_trd e ?_) | split | fail_if_no_progress apply Same.power_)

theorem State.abortTransition_same {o : Nat} {b : State} {s : State} {t : Transition} {d : Nat} (hk : Same o b s) (ho : 1073930498 &&& o = 1073930498 := by exact mask_sub (by decide) ho) :
    Same o b (State.abortTransition s t d) := by
  unfold State.abortTransition
  (try simp only [])
  with_reducible repeat' (first | exact hk | exact mask_sub (by decide) ho | apply State.setPw_same | apply State.alertState_same | apply State.answer_same | apply State.raise_same | apply State.wr_same | split | fail_if_no_progress apply Same.power_)

theorem State.reach_same {o : Nat} {b : State} {s : State} {t : PowerState} (hk : Same o b s) (ho : 1073758466 &&& o = 1073758466 := by exact mask_sub (by decide) ho) :
    Same o b (State.reach s t) := by
  unfold State.reach
  (try simp only [])
  with_reducible repeat' (first | exact hk | exact mask_sub (by decide) ho | apply State.setPw_same | apply State.alertState_same | apply State.wr_same | split | fail_if_no_progress apply Same.power_)

theorem State.lanesAgreed_same {o : Nat} {b : State} {s : State} {t : Transition} (hk : Same o b s) (ho : 1073930498 &&& o = 1073930498 := by exact mask_sub (by decide) ho) :
    Same o b (State.lanesAgreed s t) := by
  unfold State.lanesAgreed
  (try simp only [])
  with_reducible repeat' (first | exact hk | exact mask_sub (by decide) ho | apply State.reach_same | apply State.setPw_same | apply State.answer_same | apply ite_same | split)

theorem State.domainStop_same {o : Nat} {b : State} {s : State} {veto : Bool} (hk : Same o b s) (ho : 1073930498 &&& o = 1073930498 := by exact mask_sub (by decide) ho) :
    Same o b (State.domainStop s veto) := by
  unfold State.domainStop
  (try simp only [])
  with_reducible repeat' (first | exact hk | exact mask_sub (by decide) ho | apply State.lanesAgreed_same | apply State.reach_same | apply State.abortTransition_same | apply State.setPw_same | apply State.powerDomain_same | apply ite_same | (rename_i e; refine same_pair_snd e ?_) | (rename_i e; refine same_pair_fst e ?_) | (rename_i e; refine same_pair_trd e ?_) | split)

theorem State.stopTiles_same {o : Nat} {b : State} {s : State} (hk : Same o b s) (ho : 1073758466 &&& o = 1073758466 := by exact mask_sub (by decide) ho) :
    Same o b (State.stopTiles s) := by
  unfold State.stopTiles
  (try simp only [])
  with_reducible repeat' (first | exact hk | exact mask_sub (by decide) ho | apply State.reach_same | apply State.setPw_same | apply ite_same | (rename_i e; refine same_pair_snd e ?_) | (rename_i e; refine same_pair_fst e ?_) | (rename_i e; refine same_pair_trd e ?_) | split)

theorem State.startWake_same {o : Nat} {b : State} {s : State} {cause : Nat} (hk : Same o b s) (ho : 1207959555 &&& o = 1207959555 := by exact mask_sub (by decide) ho) :
    Same o b (State.startWake s cause) := by
  unfold State.startWake
  (try simp only [])
  with_reducible repeat' (first | exact hk | exact mask_sub (by decide) ho | apply State.setPw_same | apply State.powerDomain_same | apply State.loadFabric_same | apply State.loadDomains_same | apply State.setTime_same | refine State.over_same (fun _ _ hk => ?_) ?_ | apply ite_same | split)

theorem State.wakeN_same {o : Nat} {b : State} {s : State} {us : Nat} (hk : Same o b s) (ho : 9797910787 &&& o = 9797910787 := by exact mask_sub (by decide) ho) :
    Same o b (State.wakeN s us) := by
  unfold State.wakeN
  (try simp only [])
  with_reducible repeat' (first | exact hk | exact mask_sub (by decide) ho | apply State.startWake_same | apply State.setPw_same | apply State.alertState_same | apply State.wr_same | apply ite_same | (rename_i e; refine same_pair_snd e ?_) | (rename_i e; refine same_pair_fst e ?_) | (rename_i e; refine same_pair_trd e ?_) | split | fail_if_no_progress apply Same.boot_ | fail_if_no_progress apply Same.power_)

theorem State.clockAlarm_same {o : Nat} {b : State} {s : State} (hk : Same o b s) (ho : 1207959555 &&& o = 1207959555 := by exact mask_sub (by decide) ho) :
    Same o b (State.clockAlarm s) := by
  unfold State.clockAlarm
  (try simp only [])
  with_reducible repeat' (first | exact hk | exact mask_sub (by decide) ho | apply State.startWake_same | apply State.wr_same | apply ite_same | split)

theorem State.laneWake_same {o : Nat} {b : State} {s : State} {l : Nat} (hk : Same o b s) (ho : 1207959555 &&& o = 1207959555 := by exact mask_sub (by decide) ho) :
    Same o b (State.laneWake s l) := by
  unfold State.laneWake
  (try simp only [])
  with_reducible repeat' (first | exact hk | exact mask_sub (by decide) ho | apply State.startWake_same | apply ite_same | split)

theorem State.reloadBank_same {o : Nat} {b : State} {s : State} {p : Plane} {t : Nat} (hk : Same o b s) (ho : 12 &&& o = 12 := by exact mask_sub (by decide) ho) :
    Same o b (State.reloadBank s p t) := by
  unfold State.reloadBank
  refine State.wrP_same (State.over_same (fun u n hu => State.wrP_same (State.wrP_same hu)) ?_)
  cases p
  · exact hk.reg_ (fun _ => rfl) (part_off (by decide) ho) (fun _ => rfl) (fun _ => rfl) fun _ => ⟨rfl, rfl, rfl⟩
  · exact hk.reg_ (fun _ => rfl) (fun _ => rfl) (part_off (by decide) ho) (fun _ => rfl) fun _ => ⟨rfl, rfl, rfl⟩

theorem State.banksFailed_same {o : Nat} {b : State} {s : State} {l : List (Plane × Nat)} (hk : Same o b s) (ho : 268623886 &&& o = 268623886 := by exact mask_sub (by decide) ho) :
    Same o b (State.banksFailed s l) := by
  unfold State.banksFailed
  (try simp only [])
  with_reducible repeat' (first | exact hk | exact mask_sub (by decide) ho | apply State.reloadBank_same | apply State.fencePlane_same | apply State.raise_same | refine State.over_same (fun _ _ hk => ?_) ?_ | apply ite_same | split)

theorem State.setFailed_same {o : Nat} {b : State} {s : State} {d : Nat} (hk : Same o b s) (ho : 131086 &&& o = 131086 := by exact mask_sub (by decide) ho) :
    Same o b (State.setFailed s d) := by
  unfold State.setFailed
  (try simp only [])
  with_reducible repeat' (first | exact hk | exact mask_sub (by decide) ho | exact fun _ => rfl | exact fun _ => ⟨rfl, rfl, rfl⟩ | exact part_off (by decide) ho | apply State.raise_same | apply State.wr_same | apply State.setWord_same | refine State.over_same (fun _ _ hk => ?_) ?_ | apply ite_same | split | fail_if_no_progress apply Same.faults_ | fail_if_no_progress apply Same.reg_)

theorem State.loseCapture_same {o : Nat} {b : State} {s : State} (hk : Same o b s) (ho : 68720001024 &&& o = 68720001024 := by exact mask_sub (by decide) ho) :
    Same o b (State.loseCapture s) := by
  unfold State.loseCapture
  (try simp only [])
  with_reducible repeat' (first | exact hk | exact mask_sub (by decide) ho | apply State.free_same | (rename_i e; refine same_pair_snd e ?_) | (rename_i e; refine same_pair_fst e ?_) | (rename_i e; refine same_pair_trd e ?_) | split | fail_if_no_progress apply Same.cap_)

theorem State.loopsResume_same {o : Nat} {b : State} {s : State} {banks : List (Plane × Nat)} {sets : List Nat} (hk : Same o b s) (ho : 70073114894 &&& o = 70073114894 := by exact mask_sub (by decide) ho) :
    Same o b (State.loopsResume s banks sets) := by
  unfold State.loopsResume
  have h1 : ∀ u : State, Same o b u → Same o b { u with power := .run, sense := { u.sense with prev := [], cur := [] } } := fun u hu => Same.sense_ (s := { u with power := .run }) (Same.power_ hu (mask_sub (by decide) ho)) (mask_sub (by decide) ho)
  (try simp only [])
  with_reducible repeat' (first | exact hk | apply h1 | exact mask_sub (by decide) ho | apply State.loseCapture_same | apply State.setFailed_same | apply State.banksFailed_same | apply State.setPw_same | apply State.setLoop_same | apply State.setSlots_same | apply State.setCx_same | apply State.alertState_same | apply State.wr_same | refine State.over_same (fun _ _ hk => ?_) ?_ | apply ite_same | (rename_i e; refine same_pair_snd e ?_) | (rename_i e; refine same_pair_fst e ?_) | (rename_i e; refine same_pair_trd e ?_) | split | fail_if_no_progress apply Same.power_ | fail_if_no_progress apply Same.sense_)

theorem State.wakeDomain_same {o : Nat} {b : State} {s : State} {d : Nat} (hk : Same o b s) (ho : 1073741824 &&& o = 1073741824 := by exact mask_sub (by decide) ho) :
    Same o b (State.wakeDomain s d) := by
  unfold State.wakeDomain
  (try simp only [])
  with_reducible repeat' (first | exact hk | exact mask_sub (by decide) ho | apply State.setPw_same | apply ite_same | split)

theorem State.domainReady_same {o : Nat} {b : State} {s : State} {d : Nat} (hk : Same o b s) (ho : 1073741826 &&& o = 1073741826 := by exact mask_sub (by decide) ho) :
    Same o b (State.domainReady s d) := by
  unfold State.domainReady
  (try simp only [])
  with_reducible repeat' (first | exact hk | exact mask_sub (by decide) ho | apply State.setPw_same | apply State.powerDomain_same | apply ite_same | split)

theorem State.wakeStall_same {o : Nat} {b : State} {s : State} {d us : Nat} (hk : Same o b s) (ho : 131074 &&& o = 131074 := by exact mask_sub (by decide) ho) :
    Same o b (State.wakeStall s d us) := by
  unfold State.wakeStall
  (try simp only [])
  with_reducible repeat' (first | exact hk | exact mask_sub (by decide) ho | apply State.raise_same | apply State.bump_same | apply State.wr_same | apply ite_same | split)

end Sys2Proof.Machine
end

