-- ==== Sys2Proof/Laws/SameRegRules.lean ====
section
/-! SUPPORT. Laws/SameRegRules.lean: what every operation of Machine/RegRules.lean leaves (Laws/Same.lean). -/

set_option linter.all false
set_option Elab.async false

namespace Sys2Proof.Machine

open Sys2Proof

theorem State.addShadow_same {o : Nat} {b : State} {s : State} {f : FieldAt} {v : Nat} {priv : Bool} (hk : Same o b s) (ho : 16 &&& o = 16 := by exact mask_sub (by decide) ho) :
    Same o b (State.addShadow s f v priv) := by
  unfold State.addShadow
  (try simp only [])
  with_reducible repeat' (first | exact hk | exact mask_sub (by decide) ho | exact fun _ => rfl | exact fun _ => ⟨rfl, rfl, rfl⟩ | exact part_off (by decide) ho | split | fail_if_no_progress apply Same.reg_)

theorem State.putShadows_same {o : Nat} {b : State} {s : State} {l : List Shadow} (hk : Same o b s) (ho : 14 &&& o = 14 := by exact mask_sub (by decide) ho) :
    Same o b (State.putShadows s l) := by
  unfold State.putShadows
  (try simp only [])
  with_reducible repeat' (first | exact hk | exact mask_sub (by decide) ho | apply State.wrB_same | apply State.wr_same | refine State.over_same (fun _ _ hk => ?_) ?_ | apply ite_same | split)

theorem State.ahead_same {o : Nat} {b : State} {s : State} (hk : Same o b s) (ho : 14 &&& o = 14 := by exact mask_sub (by decide) ho) :
    Same o b (State.ahead s) := by
  unfold State.ahead
  (try simp only [])
  with_reducible repeat' (first | exact hk | exact mask_sub (by decide) ho | apply State.putShadows_same | split)

end Sys2Proof.Machine
end

