-- ==== Sys2Proof/Laws/SameImage.lean ====
section
/-! SUPPORT. Laws/SameImage.lean: what every operation of Machine/Image.lean leaves (Laws/Same.lean). -/

set_option linter.all false
set_option Elab.async false

namespace Sys2Proof.Machine

open Sys2Proof

theorem State.norPut_same {o : Nat} {b : State} {s : State} {a : Nat} {bytes : List Nat} (hk : Same o b s) (ho : 17179869184 &&& o = 17179869184 := by exact mask_sub (by decide) ho) :
    Same o b (State.norPut s a bytes) := by
  unfold State.norPut
  exact Same.nor_ hk (mask_sub (by decide) ho)

theorem State.norProgram_same {o : Nat} {b : State} {s : State} {a : Nat} {bytes : List Nat} (hk : Same o b s) (ho : 17179869184 &&& o = 17179869184 := by exact mask_sub (by decide) ho) :
    Same o b (State.norProgram s a bytes) := by
  unfold State.norProgram
  (try simp only [])
  with_reducible repeat' (first | exact hk | exact mask_sub (by decide) ho | apply State.norPut_same | split)

theorem State.norOthers_same {o : Nat} {b : State} {s : State} {flash : List (Nat × List Nat)} (hk : Same o b s) (ho : 17179869184 &&& o = 17179869184 := by exact mask_sub (by decide) ho) :
    Same o b (State.norOthers s flash) := by
  unfold State.norOthers
  (try simp only [])
  with_reducible repeat' (first | exact hk | exact mask_sub (by decide) ho | apply State.norPut_same | refine State.over_same (fun _ _ hk => ?_) ?_ | split)

theorem State.putContexts_same {o : Nat} {b : State} {s : State} {n : Nat} {words : List Nat} (hk : Same o b s) (ho : 12 &&& o = 12 := by exact mask_sub (by decide) ho) :
    Same o b (State.putContexts s n words) := by
  unfold State.putContexts
  (try simp only [])
  with_reducible repeat' (first | exact hk | exact mask_sub (by decide) ho | exact fun _ => rfl | exact fun _ => ⟨rfl, rfl, rfl⟩ | exact part_off (by decide) ho | split | fail_if_no_progress apply Same.reg_)

theorem State.imageDefaults_same {o : Nat} {b : State} {s : State} {named : List Nat} (hk : Same o b s) (ho : 2 &&& o = 2 := by exact mask_sub (by decide) ho) :
    Same o b (State.imageDefaults s named) := by
  unfold State.imageDefaults
  (try simp only [])
  with_reducible repeat' (first | exact hk | exact mask_sub (by decide) ho | apply State.wr_same | refine State.over_same (fun _ _ hk => ?_) ?_ | apply ite_same | split)

theorem State.alignAtStart_same {o : Nat} {b : State} {s : State} (hk : Same o b s) (ho : 2048 &&& o = 2048 := by exact mask_sub (by decide) ho) :
    Same o b (State.alignAtStart s) := by
  unfold State.alignAtStart
  (try simp only [])
  with_reducible repeat' (first | exact hk | exact mask_sub (by decide) ho | apply State.evalAlignment_same | split | fail_if_no_progress apply Same.route_)

theorem State.loadDevice_same {o : Nat} {z : State} {s : State} {g : Gift} {sec : Section} {b : List Nat} {x : State × Gift} (hk : Same o z s) (ho : 2 &&& o = 2 := by exact mask_sub (by decide) ho) (h : s.loadDevice g sec b = .ok x) :
    Same o z x.1 := by
  unfold State.loadDevice at h
  have h := need_bind h
  cases h
  exact State.setWord_same (State.setWord_same hk)
theorem State.loadFabricSection_same {o : Nat} {z : State} {s : State} {sec : Section} {b : List Nat} {x : State} (hk : Same o z s) (ho : 1036 &&& o = 1036 := by exact mask_sub (by decide) ho) (h : s.loadFabricSection sec b = .ok x) :
    Same o z x := by
  unfold State.loadFabricSection at h
  have h := need_bind (need_bind (need_bind h))
  cases h
  exact State.setWordB_same (State.setWordB_same (Same.fabric_ hk (mask_sub (by decide) ho)))
theorem State.loadContexts_same {o : Nat} {z : State} {s : State} {sec : Section} {b : List Nat} {x : State} (hk : Same o z s) (ho : 12 &&& o = 12 := by exact mask_sub (by decide) ho) (h : s.loadContexts sec b = .ok x) :
    Same o z x := by
  unfold State.loadContexts at h
  refine foldlM_ok (fun t => Same o z t) _ ?_ _ _ _ hk h
  intro u a t hu ht
  have ht := need_bind ht
  cases ht
  exact State.putContexts_same hu
theorem State.loadRegister_same {o : Nat} {z : State} {s : State} {p : Place} {a w : Nat} {x : State} (hk : Same o z s) (ho : 14 &&& o = 14 := by exact mask_sub (by decide) ho) (h : s.loadRegister p a w = .ok x) : Same o z x := by
  unfold State.loadRegister at h
  split at h
  · cases h
  · have h := need_bind (need_bind h)
    cases h
    split
    · exact State.setWordB_same hk
    · exact State.setWord_same hk
theorem State.loadProtection_same {o : Nat} {z : State} {s : State} {sec : Section} {b : List Nat} {x : State} (hk : Same o z s) (ho : 2 &&& o = 2 := by exact mask_sub (by decide) ho) (h : s.loadProtection sec b = .ok x) :
    Same o z x := by
  unfold State.loadProtection at h
  have h := need_bind (need_bind h)
  cases h
  exact State.over_same (fun _ _ hk => State.putRecord13_same hk) (State.wr_same (State.setWord_same hk))
theorem State.loadCal_same {o : Nat} {z : State} {s : State} {p : Place} {mine : Bool} {a w : Nat} {x : State} (hk : Same o z s) (ho : 2 &&& o = 2 := by exact mask_sub (by decide) ho) (h : s.loadCal p mine a w = .ok x) :
    Same o z x := by
  unfold State.loadCal at h
  split at h
  · cases h
  · have h := need_bind h
    split at h
    · cases h; exact hk
    · cases h
      split
      · exact State.wr_same (State.setWord_same hk)
      · exact State.setWord_same hk
theorem State.loadCalibration_same {o : Nat} {z : State} {s : State} {sec : Section} {b : List Nat} {x : State} (hk : Same o z s) (ho : 2 &&& o = 2 := by exact mask_sub (by decide) ho) (h : s.loadCalibration sec b = .ok x) :
    Same o z x := by
  unfold State.loadCalibration at h
  refine foldlM_ok (fun t => Same o z t) _ ?_ _ _ _ hk h
  intro u a t hu ht
  refine foldlM_ok (fun t => Same o z t) _ ?_ _ _ _ hu ht
  intro u a t hu ht
  exact State.loadCal_same hu (mask_sub (by decide) ho) ht
theorem State.loadT2Heater_same {o : Nat} {z : State} {s : State} {g : Gift} {p : Place} {b : List Nat} {x : State × Gift} (hk : Same o z s) (ho : 2 &&& o = 2 := by exact mask_sub (by decide) ho) (h : s.loadT2Heater g p b = .ok x) :
    Same o z x.1 := by
  unfold State.loadT2Heater at h
  have h := need_bind h
  cases h
  exact State.setWord_same (State.setWord_same hk)
theorem State.loadT2Primer_same {o : Nat} {z : State} {s : State} {g : Gift} {p : Place} {b : List Nat} {x : State × Gift} (hk : Same o z s) (ho : 2 &&& o = 2 := by exact mask_sub (by decide) ho) (h : s.loadT2Primer g p b = .ok x) :
    Same o z x.1 := by
  unfold State.loadT2Primer at h
  have h := need_bind h
  cases h
  exact State.setWord_same hk
theorem State.loadT2Loop_same {o : Nat} {z : State} {s : State} {g : Gift} {p : Place} {b : List Nat} {x : State × Gift} (hk : Same o z s) (ho : 12 &&& o = 12 := by exact mask_sub (by decide) ho) (h : s.loadT2Loop g p b = .ok x) :
    Same o z x.1 := by
  unfold State.loadT2Loop at h
  have h := need_bind h
  cases h
  exact State.putContexts_same hk
theorem State.loadImage_same {o : Nat} {z : State} {s : State} {img : List Nat} {x : State × Gift} (hk : Same o z s) (ho : 3086 &&& o = 3086 := by exact mask_sub (by decide) ho) (h : s.loadImage img = .ok x) : Same o z x.1 := by
  unfold State.loadImage at h
  have h := need_bind (need_bind h)
  obtain ⟨y1, h1, h⟩ := bind_ok h
  obtain ⟨y2, h2, h⟩ := bind_ok h
  obtain ⟨y3, h3, h⟩ := bind_ok h
  obtain ⟨y4, h4, h⟩ := bind_ok h
  obtain ⟨y5, h5, h⟩ := bind_ok h
  obtain ⟨y6, h6, h⟩ := bind_ok h
  obtain ⟨y7, h7, h⟩ := bind_ok h
  have h := need_bind h
  obtain ⟨y8, h8, h⟩ := bind_ok h
  obtain ⟨y9, h9, h⟩ := bind_ok h
  have h := need_bind (need_bind (need_bind h))
  cases h
  have k1 := foldlM_ok (fun t : State × Gift => Same o z t.1) _ (fun u a t hu ht => State.loadDevice_same hu (mask_sub (by decide) ho) ht) _ _ _ hk h1
  have k2 := foldlM_ok (fun t : State => Same o z t) _ (fun u a t hu ht => State.loadFabricSection_same hu (mask_sub (by decide) ho) ht) _ _ _ k1 h2
  have k3 := foldlM_ok (fun t : State => Same o z t) _ (fun u a t hu ht => State.loadContexts_same hu (mask_sub (by decide) ho) ht) _ _ _ k2 h3
  have k4 := foldlM_ok (fun t : State × Gift => Same o z t.1) _ (by
    intro u a t hu ht
    refine foldlM_ok (fun t : State × Gift => Same o z t.1) _ ?_ _ _ _ hu ht
    intro u a t hu ht
    obtain ⟨z, hz, ht⟩ := bind_ok ht
    have ht := need_bind ht
    cases ht
    exact State.loadRegister_same hu (mask_sub (by decide) ho) hz) _ _ _ k3 h4
  have k5 := foldlM_ok (fun t : State × Gift => Same o z t.1) _ (fun u a t hu ht =>
    foldlM_ok (fun t : State × Gift => Same o z t.1) _ (fun u a t hu ht => State.loadT2Heater_same hu (mask_sub (by decide) ho) ht) _ _ _ hu ht) _ _ _ k4 h5
  have k6 := foldlM_ok (fun t : State × Gift => Same o z t.1) _ (fun u a t hu ht =>
    foldlM_ok (fun t : State × Gift => Same o z t.1) _ (fun u a t hu ht => State.loadT2Loop_same hu (mask_sub (by decide) ho) ht) _ _ _ hu ht) _ _ _ k5 h6
  have k7 := foldlM_ok (fun t : State × Gift => Same o z t.1) _ (fun u a t hu ht =>
    foldlM_ok (fun t : State × Gift => Same o z t.1) _ (fun u a t hu ht => State.loadT2Primer_same hu (mask_sub (by decide) ho) ht) _ _ _ hu ht) _ _ _ k6 h7
  have k8 := foldlM_ok (fun t : State => Same o z t) _ (fun u a t hu ht => State.loadCalibration_same hu (mask_sub (by decide) ho) ht) _ _ _ (State.imageDefaults_same k7) h8
  have k9 := foldlM_ok (fun t : State => Same o z t) _ (fun u a t hu ht => State.loadProtection_same hu (mask_sub (by decide) ho) ht) _ _ _ k8 h9
  exact State.alignAtStart_same k9

end Sys2Proof.Machine
end

