-- ==== Sys2Proof/Laws/SameBoot.lean ====
section
/-! SUPPORT. Laws/SameBoot.lean: what every operation of Machine/Boot.lean leaves (Laws/Same.lean). -/

set_option linter.all false
set_option Elab.async false

namespace Sys2Proof.Machine

open Sys2Proof

theorem State.setBoot_same {o : Nat} {b : State} {s : State} {f : Boot → Boot} (hk : Same o b s) (ho : 8589934592 &&& o = 8589934592 := by exact mask_sub (by decide) ho) :
    Same o b (State.setBoot s f) := by
  unfold State.setBoot
  (try simp only [])
  with_reducible repeat' (first | exact hk | exact mask_sub (by decide) ho | split | fail_if_no_progress apply Same.boot_)

theorem State.inReset_same {o : Nat} {b : State} {s : State} {vaon resetN : Bool} {phase : BootPhase} (hk : Same o b s) (ho : 51539607551 &&& o = 51539607551 := by exact mask_sub (by decide) ho) :
    Same o b (State.inReset s vaon resetN phase) := by
  unfold State.inReset
  simp only []
  have hz : ∀ x : State, x.nor = s.nor → x.freeCount = s.freeCount → x.pending = s.pending → Same o b x := by
    intro x h1 h2 h3 p hp
    cases p
    case nor => exact h1.trans (hk .nor hp)
    case free => exact h2.trans (hk .free hp)
    case pending => exact h3.trans (hk .pending hp)
    all_goals exact part_off (by decide) ho hp
  split
  · exact State.setPw_same (foldl_same (fun _ _ h => State.setWord_same h) (hz _ rfl rfl rfl))
  · exact hz _ rfl rfl rfl

theorem State.enterOff_same {o : Nat} {b : State} {s : State} (hk : Same o b s) (ho : 51539607551 &&& o = 51539607551 := by exact mask_sub (by decide) ho) :
    Same o b (State.enterOff s) := by
  unfold State.enterOff
  (try simp only [])
  with_reducible repeat' (first | exact hk | exact mask_sub (by decide) ho | apply State.inReset_same | apply ite_same | split)

theorem State.showPm_same {o : Nat} {b : State} {s : State} (hk : Same o b s) (ho : 2 &&& o = 2 := by exact mask_sub (by decide) ho) :
    Same o b (State.showPm s) := by
  unfold State.showPm
  (try simp only [])
  with_reducible repeat' (first | exact hk | exact mask_sub (by decide) ho | apply State.wr_same | (rename_i e; refine same_pair_snd e ?_) | (rename_i e; refine same_pair_fst e ?_) | (rename_i e; refine same_pair_trd e ?_) | split)

theorem State.postMortem_same {o : Nat} {b : State} {s : State} {cause : Nat} (hk : Same o b s) (ho : 25769803778 &&& o = 25769803778 := by exact mask_sub (by decide) ho) :
    Same o b (State.postMortem s cause) := by
  unfold State.postMortem
  (try simp only [])
  with_reducible repeat' (first | exact hk | exact mask_sub (by decide) ho | apply State.showPm_same | apply State.setBoot_same | apply State.norProgram_same | apply ite_same | (rename_i e; refine same_pair_snd e ?_) | (rename_i e; refine same_pair_fst e ?_) | (rename_i e; refine same_pair_trd e ?_) | split)

theorem State.tripNor_same {o : Nat} {b : State} {s : State} (hk : Same o b s) (ho : 94489280514 &&& o = 94489280514 := by exact mask_sub (by decide) ho) :
    Same o b (State.tripNor s) := by
  unfold State.tripNor
  (try simp only [])
  with_reducible repeat' (first | exact hk | exact mask_sub (by decide) ho | apply State.setBoot_same | apply State.norProgram_same | apply State.free_same | apply State.wr_same | apply ite_same | (rename_i e; refine same_pair_snd e ?_) | (rename_i e; refine same_pair_fst e ?_) | (rename_i e; refine same_pair_trd e ?_) | split)

theorem State.noteMortem_same {o : Nat} {b : State} {s before : State} (hk : Same o b s) (ho : 94489280514 &&& o = 94489280514 := by exact mask_sub (by decide) ho) :
    Same o b (State.noteMortem s before) := by
  unfold State.noteMortem
  (try simp only [])
  with_reducible repeat' (first | exact hk | exact mask_sub (by decide) ho | apply State.tripNor_same | apply State.postMortem_same | apply ite_same | split)

theorem State.pmErase_same {o : Nat} {b : State} {s : State} (hk : Same o b s) (ho : 25769803776 &&& o = 25769803776 := by exact mask_sub (by decide) ho) :
    Same o b (State.pmErase s) := by
  unfold State.pmErase
  (try simp only [])
  with_reducible repeat' (first | exact hk | exact mask_sub (by decide) ho | apply State.setBoot_same | apply State.norPut_same | apply ite_same | (rename_i e; refine same_pair_snd e ?_) | (rename_i e; refine same_pair_fst e ?_) | (rename_i e; refine same_pair_trd e ?_) | split)

theorem State.startUp_same {o : Nat} {b : State} {s : State} {bootMode pos sba : Nat} {trust : Bool} {flash : List (Nat × List Nat)} (hk : Same o b s) (ho : 25904038147 &&& o = 25904038147 := by exact mask_sub (by decide) ho) :
    Same o b (State.startUp s bootMode pos sba trust flash) := by
  unfold State.startUp
  have h1 : ∀ (u : State) (x : Sideband), Same o b u → Same o b { u with sb := x, power := .run } := fun u x hu => Same.power_ (s := { u with sb := x }) (Same.sb_ hu (mask_sub (by decide) ho)) (mask_sub (by decide) ho)
  (try simp only [])
  with_reducible repeat' (first | exact hk | apply h1 | exact mask_sub (by decide) ho | apply State.showPm_same | apply State.setBoot_same | apply State.norOthers_same | apply State.powerDomain_same | apply State.loadFabric_same | apply State.loadDomains_same | apply State.wr_same | refine State.over_same (fun _ _ hk => ?_) ?_ | apply ite_same | split | fail_if_no_progress apply Same.power_ | fail_if_no_progress apply Same.sb_)

theorem State.deviceReady_same {o : Nat} {b : State} {s : State} (hk : Same o b s) (ho : 8589934594 &&& o = 8589934594 := by exact mask_sub (by decide) ho) :
    Same o b (State.deviceReady s) := by
  unfold State.deviceReady
  (try simp only [])
  with_reducible repeat' (first | exact hk | exact mask_sub (by decide) ho | apply State.setBoot_same | apply State.wr_same | apply ite_same | split)

theorem State.beginPass_same {o : Nat} {b : State} {s : State} (hk : Same o b s) (ho : 8589934592 &&& o = 8589934592 := by exact mask_sub (by decide) ho) :
    Same o b (State.beginPass s) := by
  unfold State.beginPass
  (try simp only [])
  with_reducible repeat' (first | exact hk | exact mask_sub (by decide) ho | apply State.setBoot_same | split)

theorem State.loadInRise_same {o : Nat} {b : State} {s : State} (hk : Same o b s) (ho : 8589934592 &&& o = 8589934592 := by exact mask_sub (by decide) ho) :
    Same o b (State.loadInRise s) := by
  unfold State.loadInRise
  (try simp only [])
  with_reducible repeat' (first | exact hk | exact mask_sub (by decide) ho | apply State.beginPass_same | apply State.setBoot_same | apply ite_same | split)

theorem State.loadInFall_same {o : Nat} {b : State} {s : State} (hk : Same o b s) (ho : 8589934592 &&& o = 8589934592 := by exact mask_sub (by decide) ho) :
    Same o b (State.loadInFall s) := by
  unfold State.loadInFall
  (try simp only [])
  with_reducible repeat' (first | exact hk | exact mask_sub (by decide) ho | apply State.setBoot_same | apply ite_same | split)

theorem State.firstPassTimeout_same {o : Nat} {b : State} {s : State} (hk : Same o b s) (ho : 8589934592 &&& o = 8589934592 := by exact mask_sub (by decide) ho) :
    Same o b (State.firstPassTimeout s) := by
  unfold State.firstPassTimeout
  (try simp only [])
  with_reducible repeat' (first | exact hk | exact mask_sub (by decide) ho | apply State.beginPass_same | apply ite_same | split)

theorem State.secondPass_same {o : Nat} {b : State} {s : State} (hk : Same o b s) (ho : 8589934592 &&& o = 8589934592 := by exact mask_sub (by decide) ho) :
    Same o b (State.secondPass s) := by
  unfold State.secondPass
  (try simp only [])
  with_reducible repeat' (first | exact hk | exact mask_sub (by decide) ho | apply State.beginPass_same | apply ite_same | split)

theorem State.selftestDone_same {o : Nat} {b : State} {s : State} {p : Plane} {bank : Option (Nat × Nat)} {core : Bool} (hk : Same o b s) (ho : 8589934594 &&& o = 8589934594 := by exact mask_sub (by decide) ho) :
    Same o b (State.selftestDone s p bank core) := by
  unfold State.selftestDone
  (try simp only [])
  with_reducible repeat' (first | exact hk | exact mask_sub (by decide) ho | apply State.setBoot_same | apply State.wr_same | apply ite_same | (rename_i e; refine same_pair_snd e ?_) | (rename_i e; refine same_pair_fst e ?_) | (rename_i e; refine same_pair_trd e ?_) | split)

theorem State.slotResult_same {o : Nat} {b : State} {s : State} {slot step sec off : Nat} (hk : Same o b s) (ho : 2 &&& o = 2 := by exact mask_sub (by decide) ho) :
    Same o b (State.slotResult s slot step sec off) := by
  unfold State.slotResult
  (try simp only [])
  with_reducible repeat' (first | exact hk | exact mask_sub (by decide) ho | apply State.wr_same | split)

theorem State.showHeaders_same {o : Nat} {b : State} {s : State} (hk : Same o b s) (ho : 2 &&& o = 2 := by exact mask_sub (by decide) ho) :
    Same o b (State.showHeaders s) := by
  unfold State.showHeaders
  (try simp only [])
  with_reducible repeat' (first | exact hk | exact mask_sub (by decide) ho | apply State.slotResult_same | refine State.over_same (fun _ _ hk => ?_) ?_ | apply ite_same | split)

theorem State.checkImage_same {o : Nat} {z : State} {s : State} {img : List Nat} {x : State × Gift} (hk : Same o z s) (ho : 3086 &&& o = 3086 := by exact mask_sub (by decide) ho) (h : s.checkImage img = .ok x) :
    Same o z x.1 := by
  unfold State.checkImage at h
  simp only [] at h
  (repeat' split at h) <;> first | (cases h; done) | skip
  next y hy => cases h; exact State.loadImage_same hk (mask_sub (by decide) ho) hy

theorem State.noImage_same {o : Nat} {b : State} {s : State} (hk : Same o b s) (ho : 8589934594 &&& o = 8589934594 := by exact mask_sub (by decide) ho) :
    Same o b (State.noImage s) := by
  unfold State.noImage
  (try simp only [])
  with_reducible repeat' (first | exact hk | exact mask_sub (by decide) ho | apply State.setBoot_same | apply State.wr_same | split)

theorem State.trySession_same {o : Nat} {b : State} {s : State} (hk : Same o b s) (ho : 65538 &&& o = 65538 := by exact mask_sub (by decide) ho) :
    Same o b (State.trySession s) := by
  unfold State.trySession
  (try simp only [])
  with_reducible repeat' (first | exact hk | exact mask_sub (by decide) ho | apply State.startMtp_same | apply State.wr_same | apply ite_same | (rename_i e; refine same_pair_snd e ?_) | (rename_i e; refine same_pair_fst e ?_) | (rename_i e; refine same_pair_trd e ?_) | split)

theorem State.sessionFixed_same {o : Nat} {b : State} {s before : State} (hk : Same o b s) (ho : 8589959170 &&& o = 8589959170 := by exact mask_sub (by decide) ho) :
    Same o b (State.sessionFixed s before) := by
  unfold State.sessionFixed
  (try simp only [])
  with_reducible repeat' (first | exact hk | exact mask_sub (by decide) ho | apply State.setBoot_same | apply State.alert_same | apply State.wr_same | apply ite_same | split | fail_if_no_progress apply Same.links_)

theorem State.holdContexts_same {o : Nat} {b : State} {s : State} (hk : Same o b s) (ho : 12 &&& o = 12 := by exact mask_sub (by decide) ho) :
    Same o b (State.holdContexts s) := by
  unfold State.holdContexts
  (try simp only [])
  with_reducible repeat' (first | exact hk | exact mask_sub (by decide) ho | exact fun _ => rfl | exact fun _ => ⟨rfl, rfl, rfl⟩ | exact part_off (by decide) ho | apply ite_same | split | fail_if_no_progress apply Same.reg_)

theorem State.imageLevels_same {o : Nat} {b : State} {s : State} (hk : Same o b s) (ho : 33554432 &&& o = 33554432 := by exact mask_sub (by decide) ho) :
    Same o b (State.imageLevels s) := by
  unfold State.imageLevels
  (try simp only [])
  with_reducible repeat' (first | exact hk | exact mask_sub (by decide) ho | apply State.putLevel_same | refine State.over_same (fun _ _ hk => ?_) ?_ | apply ite_same | split)

theorem State.fillBuckets_same {o : Nat} {b : State} {s : State} (hk : Same o b s) (ho : 2 &&& o = 2 := by exact mask_sub (by decide) ho) :
    Same o b (State.fillBuckets s) := by
  unfold State.fillBuckets
  (try simp only [])
  with_reducible repeat' (first | exact hk | exact mask_sub (by decide) ho | apply State.wr_same | refine State.over_same (fun _ _ hk => ?_) ?_ | split)

theorem State.accept__same {o : Nat} {b : State} {s : State} {slot : Nat} {img : List Nat} {g : Gift} (hk : Same o b s) (ho : 8690795022 &&& o = 8690795022 := by exact mask_sub (by decide) ho) :
    Same o b (State.accept_ s slot img g) := by
  unfold State.accept_
  (try simp only [])
  with_reducible repeat' (first | exact hk | exact mask_sub (by decide) ho | apply State.fillBuckets_same | apply State.imageLevels_same | apply State.holdContexts_same | apply State.trySession_same | apply State.slotResult_same | apply State.setBoot_same | apply State.checkPrated_same | apply State.updCal_same | apply State.wr_same | apply State.setWord_same | refine State.over_same (fun _ _ hk => ?_) ?_ | apply ite_same | split | fail_if_no_progress apply Same.image_)

theorem State.readSlot_same {o : Nat} {b : State} {s : State} {slot : Nat} (hk : Same o b s) (ho : 77410274830 &&& o = 77410274830 := by exact mask_sub (by decide) ho) :
    Same o b (State.readSlot s slot) := by
  unfold State.readSlot
  simp only []
  have hb : ∀ (t : State), Same o b t → Same o b ((t.bump R.BT_STATUS_PASSES 1).setBoot fun x => { x with tried := x.tried ++ [slot], waitPass := none }) :=
    fun t ht => State.setBoot_same (State.bump_same ht)
  have h0 := State.wr_same (f := R.BT_STATUS_RESULT) (v := bootLoading) (hb s hk)
  generalize ((s.bump R.BT_STATUS_PASSES 1).setBoot fun x => { x with tried := x.tried ++ [slot], waitPass := none }).wr R.BT_STATUS_RESULT bootLoading = t at h0 ⊢
  have hp : ∀ u : State, Same o b u → Same o b (u.setBoot fun x => { x with passing := false }) :=
    fun u hu => State.setBoot_same hu
  split
  · next u g h => exact State.accept__same (State.checkImage_same h0 (mask_sub (by decide) ho) h)
  · next step place h =>
    rcases place with _ | ⟨sec, off⟩
    · have h1 := State.free_same h0
      simp only []
      split
      · split
        · exact State.noImage_same (hp _ (State.slotResult_same h1))
        · exact hp _ (State.slotResult_same h1)
      · split
        · exact State.noImage_same (State.slotResult_same h1)
        · exact State.slotResult_same h1
    · simp only []
      split
      · split
        · exact State.noImage_same (hp _ (State.slotResult_same h0))
        · exact hp _ (State.slotResult_same h0)
      · split
        · exact State.noImage_same (State.slotResult_same h0)
        · exact State.slotResult_same h0

theorem State.passReadEnd_same {o : Nat} {b : State} {s : State} {slot : Nat} {density : Option Nat} {flash : List (Nat × List Nat)} (hk : Same o b s) (ho : 94590144014 &&& o = 94590144014 := by exact mask_sub (by decide) ho) :
    Same o b (State.passReadEnd s slot density flash) := by
  unfold State.passReadEnd
  (try simp only [])
  with_reducible repeat' (first | exact hk | exact mask_sub (by decide) ho | apply State.readSlot_same | apply State.noImage_same | apply State.showHeaders_same | apply State.slotResult_same | apply State.setBoot_same | apply State.norOthers_same | apply State.wr_same | apply ite_same | (rename_i e; refine same_pair_snd e ?_) | (rename_i e; refine same_pair_fst e ?_) | (rename_i e; refine same_pair_trd e ?_) | split)

theorem State.passRequest_same {o : Nat} {b : State} {s : State} (hk : Same o b s) (ho : 8589934592 &&& o = 8589934592 := by exact mask_sub (by decide) ho) :
    Same o b (State.passRequest s) := by
  unfold State.passRequest
  (try simp only [])
  with_reducible repeat' (first | exact hk | exact mask_sub (by decide) ho | apply State.setBoot_same | apply ite_same | split)

theorem State.passRetry_same {o : Nat} {b : State} {s : State} (hk : Same o b s) (ho : 8589934594 &&& o = 8589934594 := by exact mask_sub (by decide) ho) :
    Same o b (State.passRetry s) := by
  unfold State.passRetry
  (try simp only [])
  with_reducible repeat' (first | exact hk | exact mask_sub (by decide) ho | apply State.setBoot_same | apply State.wr_same | apply ite_same | split)

theorem State.startContext_same {o : Nat} {b : State} {s : State} {n : Nat} (hk : Same o b s) (ho : 14 &&& o = 14 := by exact mask_sub (by decide) ho) :
    Same o b (State.startContext s n) := by
  unfold State.startContext
  (try simp only [])
  with_reducible repeat' (first | exact hk | exact mask_sub (by decide) ho | apply State.activate_same | apply State.putState_same | apply State.bump_same | apply State.wr_same | apply ite_same | split)

theorem State.runEntry_same {o : Nat} {b : State} {s : State} {ms : Nat} (hk : Same o b s) (ho : 8937201998 &&& o = 8937201998 := by exact mask_sub (by decide) ho) :
    Same o b (State.runEntry s ms) := by
  unfold State.runEntry
  have h1 : ∀ (u : State) (m : Mode), Same o b u → Same o b { u with mode := m, power := .run } := fun u m hu => Same.power_ (s := { u with mode := m }) (Same.mode_ hu (mask_sub (by decide) ho)) (mask_sub (by decide) ho)
  (try simp only [])
  with_reducible repeat' (first | exact hk | apply h1 | exact mask_sub (by decide) ho | apply State.startContext_same | apply State.setBoot_same | apply State.enterSolo_same | apply State.requestCals_same | apply State.validityPass_same | apply State.clearChanged_same | apply State.bindSlots_same | apply State.loadAmps_same | apply State.alertState_same | apply State.raise_same | apply State.wr_same | refine State.over_same (fun _ _ hk => ?_) ?_ | apply ite_same | split | fail_if_no_progress apply Same.mode_ | fail_if_no_progress apply Same.power_)

theorem State.watchStep_same {o : Nat} {b : State} {s : State} {updated : List Nat} (hk : Same o b s) (ho : 8589934592 &&& o = 8589934592 := by exact mask_sub (by decide) ho) :
    Same o b (State.watchStep s updated) := by
  unfold State.watchStep
  (try simp only [])
  with_reducible repeat' (first | exact hk | exact mask_sub (by decide) ho | apply State.setBoot_same | apply ite_same | split)

theorem State.lockedNow_same {o : Nat} {b : State} {s : State} {ms : Nat} (hk : Same o b s) (ho : 2 &&& o = 2 := by exact mask_sub (by decide) ho) :
    Same o b (State.lockedNow s ms) := by
  unfold State.lockedNow
  (try simp only [])
  with_reducible repeat' (first | exact hk | exact mask_sub (by decide) ho | apply State.wr_same | apply ite_same | split)

theorem State.bootStatus_same {o : Nat} {b : State} {s : State} {c serial state slot sec digest : Nat} (hk : Same o b s) (ho : 8589934594 &&& o = 8589934594 := by exact mask_sub (by decide) ho) :
    Same o b (State.bootStatus s c serial state slot sec digest) := by
  unfold State.bootStatus
  (try simp only [])
  with_reducible repeat' (first | exact hk | exact mask_sub (by decide) ho | apply State.setBoot_same | apply State.wr_same | apply ite_same | split)

theorem State.ringFrame_same {o : Nat} {b : State} {s : State} (hk : Same o b s) (ho : 8589934594 &&& o = 8589934594 := by exact mask_sub (by decide) ho) :
    Same o b (State.ringFrame s) := by
  unfold State.ringFrame
  (try simp only [])
  with_reducible repeat' (first | exact hk | exact mask_sub (by decide) ho | apply State.bootStatus_same | apply State.setBoot_same | apply State.wr_same | split)

theorem State.norStart_same {o : Nat} {b : State} {s : State} {op addr len : Nat} (hk : Same o b s) (ho : 8589934594 &&& o = 8589934594 := by exact mask_sub (by decide) ho) :
    Same o b (State.norStart s op addr len) := by
  unfold State.norStart
  (try simp only [])
  with_reducible repeat' (first | exact hk | exact mask_sub (by decide) ho | apply State.setBoot_same | apply State.wr_same | split)

theorem State.putBuffer_same {o : Nat} {base : State} {s : State} {b : List Nat} (hk : Same o base s) (ho : 2 &&& o = 2 := by exact mask_sub (by decide) ho) :
    Same o base (State.putBuffer s b) := by
  unfold State.putBuffer
  (try simp only [])
  with_reducible repeat' (first | exact hk | exact mask_sub (by decide) ho | apply State.setWord_same | refine State.over_same (fun _ _ hk => ?_) ?_ | split)

theorem State.norDone_same {o : Nat} {b : State} {s : State} {flash : List (Nat × List Nat)} (hk : Same o b s) (ho : 25769803778 &&& o = 25769803778 := by exact mask_sub (by decide) ho) :
    Same o b (State.norDone s flash) := by
  unfold State.norDone
  (try simp only [])
  with_reducible repeat' (first | exact hk | exact mask_sub (by decide) ho | apply State.putBuffer_same | apply State.setBoot_same | apply State.norOthers_same | apply State.norProgram_same | apply State.norPut_same | apply State.wr_same | (rename_i e; refine same_pair_snd e ?_) | (rename_i e; refine same_pair_fst e ?_) | (rename_i e; refine same_pair_trd e ?_) | split)

theorem State.askReboot_same {o : Nat} {b : State} {s : State} {slot : Nat} (hk : Same o b s) (ho : 8589934592 &&& o = 8589934592 := by exact mask_sub (by decide) ho) :
    Same o b (State.askReboot s slot) := by
  unfold State.askReboot
  (try simp only [])
  with_reducible repeat' (first | exact hk | exact mask_sub (by decide) ho | apply State.setBoot_same | split)

theorem State.cmdReboot_same {o : Nat} {b : State} {s : State} {h : CmdHead} {slot : Nat} (hk : Same o b s) (ho : 8590106626 &&& o = 8590106626 := by exact mask_sub (by decide) ho) :
    Same o b (State.cmdReboot s h slot) := by
  unfold State.cmdReboot
  (try simp only [])
  with_reducible repeat' (first | exact hk | exact mask_sub (by decide) ho | apply State.askReboot_same | apply State.answer_same | apply ite_same | split)

theorem State.rebootReset_same {o : Nat} {b : State} {s : State} (hk : Same o b s) (ho : 51539607551 &&& o = 51539607551 := by exact mask_sub (by decide) ho) :
    Same o b (State.rebootReset s) := by
  unfold State.rebootReset
  (try simp only [])
  with_reducible repeat' (first | exact hk | exact mask_sub (by decide) ho | apply State.inReset_same | apply State.setBoot_same | apply ite_same | (rename_i e; refine same_pair_snd e ?_) | (rename_i e; refine same_pair_fst e ?_) | (rename_i e; refine same_pair_trd e ?_) | split)

end Sys2Proof.Machine
end

