-- ==== Sys2Proof/Laws/SameRegAccess.lean ====
section
/-! SUPPORT. Laws/SameRegAccess.lean: what every operation of Machine/RegAccess.lean leaves (Laws/Same.lean). -/

set_option linter.all false
set_option Elab.async false

namespace Sys2Proof.Machine

open Sys2Proof

theorem State.dropHolder_same {o : Nat} {b : State} {s : State} {r : Requester} (hk : Same o b s) (ho : 32 &&& o = 32 := by exact mask_sub (by decide) ho) :
    Same o b (State.dropHolder s r) := by
  unfold State.dropHolder
  (try simp only [])
  with_reducible repeat' (first | exact hk | exact mask_sub (by decide) ho | exact fun _ => rfl | exact fun _ => ⟨rfl, rfl, rfl⟩ | exact part_off (by decide) ho | apply State.setReg_same | split | fail_if_no_progress apply Same.reg_)

theorem State.dropHeld_same {o : Nat} {b : State} {s : State} {r : Requester} (hk : Same o b s) (ho : 32 &&& o = 32 := by exact mask_sub (by decide) ho) :
    Same o b (State.dropHeld s r) := by
  unfold State.dropHeld
  (try simp only [])
  with_reducible repeat' (first | exact hk | exact mask_sub (by decide) ho | exact fun _ => rfl | exact fun _ => ⟨rfl, rfl, rfl⟩ | exact part_off (by decide) ho | apply State.setReg_same | split | fail_if_no_progress apply Same.reg_)

theorem State.readEffect_same {o : Nat} {b : State} {s : State} {r : Requester} {p : Plane} {h : RegHit} {a : Nat} (hk : Same o b s) (ho : 135266318 &&& o = 135266318 := by exact mask_sub (by decide) ho) :
    Same o b (State.readEffect s r p h a) := by
  unfold State.readEffect
  (try simp only [])
  with_reducible repeat' (first | exact hk | exact mask_sub (by decide) ho | apply State.tsPop_same | apply State.hkaPop_same | apply State.wr_same | apply State.setWord_same | apply State.setWordP_same | refine foldl_same (fun _ _ hk => ?_) ?_ | refine foldl_fst_same (fun _ _ hk => ?_) ?_ | refine foldl_snd_same (fun _ _ hk => ?_) ?_ | apply ite_same | (rename_i e; refine same_pair_snd e ?_) | (rename_i e; refine same_pair_fst e ?_) | (rename_i e; refine same_pair_trd e ?_) | split)

theorem State.readOne_same {o : Nat} {b : State} {s : State} {r : Requester} {p : Plane} {h : RegHit} {a : Nat} (hk : Same o b s) (ho : 135266350 &&& o = 135266350 := by exact mask_sub (by decide) ho) :
    Same o b ((State.readOne s r p h a).2) := by
  unfold State.readOne
  (try simp only [])
  with_reducible repeat' (first | exact hk | exact mask_sub (by decide) ho | exact fun _ => rfl | exact fun _ => ⟨rfl, rfl, rfl⟩ | exact part_off (by decide) ho | apply State.readEffect_same | apply State.dropHolder_same | apply State.tsPop_same | apply State.setReg_same | apply ite_same | (rename_i e; refine same_pair_snd e ?_) | (rename_i e; refine same_pair_fst e ?_) | (rename_i e; refine same_pair_trd e ?_) | split | fail_if_no_progress apply Same.reg_)

theorem State.readWord_same {o : Nat} {b : State} {s : State} {r : Requester} {plane : Option Plane} {a : Nat} (hk : Same o b s) (ho : 135266350 &&& o = 135266350 := by exact mask_sub (by decide) ho) :
    Same o b ((State.readWord s r plane a).2) := by
  unfold State.readWord
  (try simp only [])
  with_reducible repeat' (first | exact hk | exact mask_sub (by decide) ho | apply State.readOne_same | apply ite_same | (rename_i e; refine same_pair_snd e ?_) | (rename_i e; refine same_pair_fst e ?_) | (rename_i e; refine same_pair_trd e ?_) | split)

theorem State.readAll_same {o : Nat} {b : State} {s : State} {r : Requester} {plane : Option Plane} {l : List Nat} (hk : Same o b s) (ho : 135266350 &&& o = 135266350 := by exact mask_sub (by decide) ho) :
    Same o b (s.readAll r plane l).2 := by
  induction l generalizing s with
  | nil => exact hk
  | cons a as ih => exact ih (State.readWord_same hk)

theorem State.readMany_same {o : Nat} {b : State} {s : State} {r : Requester} {plane : Option Plane} {a n : Nat} (hk : Same o b s) (ho : 135266350 &&& o = 135266350 := by exact mask_sub (by decide) ho) :
    Same o b ((State.readMany s r plane a n).2.2) := by
  unfold State.readMany
  simp only []
  split
  · refine State.readAll_same ?_
    split
    · exact State.dropHolder_same hk
    · exact hk
  · exact hk

theorem State.storeField_same {o : Nat} {b : State} {s : State} {r : Requester} {c : Copies} {f : FieldAt} {v : Nat} (hk : Same o b s) (ho : 14 &&& o = 14 := by exact mask_sub (by decide) ho) :
    Same o b (State.storeField s r c f v) := by
  unfold State.storeField
  (try simp only [])
  with_reducible repeat' (first | exact hk | exact mask_sub (by decide) ho | apply State.wrB_same | apply State.wrP_same | apply State.wr_same | refine State.over_same (fun _ _ hk => ?_) ?_ | (rename_i e; refine same_pair_snd e ?_) | (rename_i e; refine same_pair_fst e ?_) | (rename_i e; refine same_pair_trd e ?_) | split)

theorem State.clearField_same {o : Nat} {b : State} {s : State} {r : Requester} {c : Copies} {f : FieldAt} {v : Nat} (hk : Same o b s) (ho : 14 &&& o = 14 := by exact mask_sub (by decide) ho) :
    Same o b (State.clearField s r c f v) := by
  unfold State.clearField
  (try simp only [])
  with_reducible repeat' (first | exact hk | exact mask_sub (by decide) ho | apply State.wrP_same | apply State.wr_same | refine State.over_same (fun _ _ hk => ?_) ?_ | (rename_i e; refine same_pair_snd e ?_) | (rename_i e; refine same_pair_fst e ?_) | (rename_i e; refine same_pair_trd e ?_) | split)

theorem State.putField_same {o : Nat} {b : State} {s : State} {r : Requester} {h : RegHit} {a w : Nat} {carry : Bool} {f : FieldSpec} (hk : Same o b s) (ho : 30 &&& o = 30 := by exact mask_sub (by decide) ho) :
    Same o b (State.putField s r h a w carry f) := by
  unfold State.putField
  (try simp only [])
  with_reducible repeat' (first | exact hk | exact mask_sub (by decide) ho | apply State.clearField_same | apply State.storeField_same | apply State.addShadow_same | apply ite_same | (rename_i e; refine same_pair_snd e ?_) | (rename_i e; refine same_pair_fst e ?_) | (rename_i e; refine same_pair_trd e ?_) | split)

theorem State.setSel_same {o : Nat} {b : State} {s : State} {r : Requester} {v : Nat} (hk : Same o b s) (ho : 32 &&& o = 32 := by exact mask_sub (by decide) ho) :
    Same o b (State.setSel s r v) := by
  unfold State.setSel
  (try simp only [])
  with_reducible repeat' (first | exact hk | exact mask_sub (by decide) ho | exact fun _ => rfl | exact fun _ => ⟨rfl, rfl, rfl⟩ | exact part_off (by decide) ho | apply State.setReg_same | split | fail_if_no_progress apply Same.reg_)

theorem State.clearFirst_same {o : Nat} {b : State} {s : State} (hk : Same o b s) (ho : 131072 &&& o = 131072 := by exact mask_sub (by decide) ho) :
    Same o b (State.clearFirst s) := by
  unfold State.clearFirst
  (try simp only [])
  with_reducible repeat' (first | exact hk | exact mask_sub (by decide) ho | split | fail_if_no_progress apply Same.faults_)

theorem State.ackSlot_same {o : Nat} {b : State} {s : State} {k : Nat} (hk : Same o b s) (ho : 131072 &&& o = 131072 := by exact mask_sub (by decide) ho) :
    Same o b (State.ackSlot s k) := by
  unfold State.ackSlot
  (try simp only [])
  with_reducible repeat' (first | exact hk | exact mask_sub (by decide) ho | split | fail_if_no_progress apply Same.faults_)

theorem State.askUnfence_same {o : Nat} {b : State} {s : State} {unit index : Nat} (hk : Same o b s) (ho : 131072 &&& o = 131072 := by exact mask_sub (by decide) ho) :
    Same o b (State.askUnfence s unit index) := by
  unfold State.askUnfence
  (try simp only [])
  with_reducible repeat' (first | exact hk | exact mask_sub (by decide) ho | split | fail_if_no_progress apply Same.faults_)

theorem State.askRemap_same {o : Nat} {b : State} {s : State} {k : Nat} {alt : Bool} (hk : Same o b s) (ho : 2048 &&& o = 2048 := by exact mask_sub (by decide) ho) :
    Same o b (State.askRemap s k alt) := by
  unfold State.askRemap
  (try simp only [])
  with_reducible repeat' (first | exact hk | exact mask_sub (by decide) ho | split | fail_if_no_progress apply Same.route_)

theorem State.dropLink_same {o : Nat} {b : State} {s : State} {l : Nat} (hk : Same o b s) (ho : 2 &&& o = 2 := by exact mask_sub (by decide) ho) :
    Same o b (State.dropLink s l) := by
  unfold State.dropLink
  (try simp only [])
  with_reducible repeat' (first | exact hk | exact mask_sub (by decide) ho | apply State.setWord_same | split)

theorem State.writeAction_same {o : Nat} {b : State} {s : State} {r : Requester} {h : RegHit} {w : Nat} (hk : Same o b s) (ho : 77818710062 &&& o = 77818710062 := by exact mask_sub (by decide) ho) :
    Same o b (State.writeAction s r h w) := by
  cases hh : h.spec.reg <;> unfold State.writeAction <;> simp only [hh] <;>
  with_reducible repeat' (first | exact hk | exact mask_sub (by decide) ho | apply State.dropLink_same | apply State.askRemap_same | apply State.askUnfence_same | apply State.ackSlot_same | apply State.clearFirst_same | apply State.setSel_same | apply State.askReboot_same | apply State.norStart_same | apply State.returnPlane_same | apply State.provGo_same | apply State.writeProv_same | apply State.captureTime_same | apply State.writeAdjust_same | apply State.writeSet_same | apply State.writeRate_same | apply State.updDomain_same | apply State.setTime_same | apply State.sweepAbort_same | apply State.sweepStart_same | apply State.requestTia_same | apply State.requestCals_same | apply State.requestRun_same | apply State.setAct_same | apply State.mtAbort_same | apply State.mtStart_same | apply State.haltGen_same | apply State.commandTrigger_same | apply State.armGen_same | apply State.requestHkaCal_same | apply State.inject_same | apply State.writeRptr_same | apply State.updChan_same | refine State.over_same (fun _ _ hk => ?_) ?_ | apply ite_same | (rename_i e; refine same_pair_snd e ?_) | (rename_i e; refine same_pair_fst e ?_) | (rename_i e; refine same_pair_trd e ?_) | split)

theorem State.writeOne_same {o : Nat} {b : State} {s : State} {r : Requester} {carry : Nat → Bool} {a w : Nat} (hk : Same o b s) (ho : 77818710078 &&& o = 77818710078 := by exact mask_sub (by decide) ho) :
    Same o b (State.writeOne s r carry a w) := by
  have hput : ∀ (l : List FieldSpec) (u : State) (g : RegHit) (bb v : Nat) (c : Bool), Same o b u →
      Same o b (l.foldl (fun (s : State) f => s.putField r g bb v c f) u) :=
    fun l u g bb v c hu => foldl_same (fun _ _ h => State.putField_same h) hu
  have hx : ∀ h : RegHit, Same o b (match hiOf h a with
      | some b => match s.heldWrite r b, regAt b with
        | some v, some g => g.spec.fields.foldl (fun (s : State) f => s.putField r g b v false f) s
        | _, _ => s
      | none => s) := by
    intro h
    split
    · split
      · exact hput _ _ _ _ _ _ hk
      · exact hk
    · exact hk
  unfold State.writeOne
  split
  · exact State.dropHeld_same (State.setCapBytes_same hk)
  · split
    · exact hk
    · next h hreg =>
      have hd := State.dropHeld_same (r := r) hk
      split
      · exact State.setReg_same hd (fun _ => rfl) (fun _ => rfl) (fun _ => rfl) (fun _ => rfl) (part_off (by decide) ho)
      · refine State.writeAction_same (hput _ _ _ _ _ _ (State.dropHeld_same ?_))
        split
        · exact State.noteMode_same (hx h)
        · exact hx h

theorem State.makeRequest_same {o : Nat} {b : State} {s before : State} {r : Requester} {head : Option CmdHead} {opcode : Nat} {l : List (Nat × Nat)} {x : Nat × Nat} (hk : Same o b s) (ho : 8388608 &&& o = 8388608 := by exact mask_sub (by decide) ho) :
    Same o b (State.makeRequest s before r head opcode l x) := by
  unfold State.makeRequest
  (try simp only [])
  with_reducible repeat' (first | exact hk | exact mask_sub (by decide) ho | apply State.request_same | split)

theorem State.applyWords_same {o : Nat} {b : State} {s : State} {r : Requester} {head : Option CmdHead} {opcode : Nat} {l : List (Nat × Nat)} (hk : Same o b s) (ho : 77827098686 &&& o = 77827098686 := by exact mask_sub (by decide) ho) :
    Same o b (State.applyWords s r head opcode l) := by
  unfold State.applyWords
  (try simp only [])
  with_reducible repeat' (first | exact hk | exact mask_sub (by decide) ho | apply State.makeRequest_same | apply State.writeOne_same | refine State.over_same (fun _ _ hk => ?_) ?_ | split)

theorem State.noteRefused_same {o : Nat} {b : State} {s : State} {r : Requester} {code : Nat} {l : List (Nat × Nat)} (hk : Same o b s) (ho : 2 &&& o = 2 := by exact mask_sub (by decide) ho) :
    Same o b (State.noteRefused s r code l) := by
  unfold State.noteRefused
  (try simp only [])
  with_reducible repeat' (first | exact hk | exact mask_sub (by decide) ho | apply State.bump_same | apply State.wr_same | apply ite_same | (rename_i e; refine same_pair_snd e ?_) | (rename_i e; refine same_pair_fst e ?_) | (rename_i e; refine same_pair_trd e ?_) | split)

theorem State.writeMany_same {o : Nat} {b : State} {s : State} {r : Requester} {head : Option CmdHead} {opcode a : Nat} {data : List Nat} (hk : Same o b s) (ho : 77827098686 &&& o = 77827098686 := by exact mask_sub (by decide) ho) :
    Same o b ((State.writeMany s r head opcode a data).2.2) := by
  unfold State.writeMany
  (try simp only [])
  with_reducible repeat' (first | exact hk | exact mask_sub (by decide) ho | apply State.noteRefused_same | apply State.applyWords_same | apply ite_same | split)

end Sys2Proof.Machine
end

