-- ==== Sys2Proof/Laws/SameSummary.lean ====
section
/-! SUPPORT. Laws/SameSummary.lean: what every operation of Machine/Summary.lean leaves (Laws/Same.lean). -/

set_option linter.all false
set_option Elab.async false

namespace Sys2Proof.Machine

open Sys2Proof

theorem State.summaryOffset_same {o : Nat} {b : State} {s : State} {v : Scope} (hk : Same o b s) (ho : 68719476736 &&& o = 68719476736 := by exact mask_sub (by decide) ho) :
    Same o b ((State.summaryOffset s v).2) := by
  unfold State.summaryOffset
  (try simp only [])
  with_reducible repeat' (first | exact hk | exact mask_sub (by decide) ho | apply State.free_same | apply ite_same | split)

theorem State.summaryBody_same {o : Nat} {b : State} {s : State} {v : Scope} {challenge : Option (List Nat)} (hk : Same o b s) (ho : 68719476736 &&& o = 68719476736 := by exact mask_sub (by decide) ho) :
    Same o b ((State.summaryBody s v challenge).2) := by
  unfold State.summaryBody
  (try simp only [])
  with_reducible repeat' (first | exact hk | exact mask_sub (by decide) ho | apply State.summaryOffset_same | apply ite_same | (rename_i e; refine same_pair_snd e ?_) | (rename_i e; refine same_pair_fst e ?_) | (rename_i e; refine same_pair_trd e ?_) | split)

theorem State.summaryItem_same {o : Nat} {b : State} {s : State} {v : Scope} {challenge : Option (List Nat)} (hk : Same o b s) (ho : 68719476736 &&& o = 68719476736 := by exact mask_sub (by decide) ho) :
    Same o b ((State.summaryItem s v challenge).2) := by
  unfold State.summaryItem
  (try simp only [])
  with_reducible repeat' (first | exact hk | exact mask_sub (by decide) ho | apply State.summaryBody_same | apply ite_same | (rename_i e; refine same_pair_snd e ?_) | (rename_i e; refine same_pair_fst e ?_) | (rename_i e; refine same_pair_trd e ?_) | split)

theorem State.cmdSummary_same {o : Nat} {b : State} {s : State} {h : CmdHead} {challenge : List Nat} (hk : Same o b s) (ho : 68719648770 &&& o = 68719648770 := by exact mask_sub (by decide) ho) :
    Same o b (State.cmdSummary s h challenge) := by
  unfold State.cmdSummary
  (try simp only [])
  with_reducible repeat' (first | exact hk | exact mask_sub (by decide) ho | apply State.summaryItem_same | apply State.answer_same | refine State.over_same (fun _ _ hk => ?_) ?_ | apply ite_same | (rename_i e; refine same_pair_snd e ?_) | (rename_i e; refine same_pair_fst e ?_) | (rename_i e; refine same_pair_trd e ?_) | split)

theorem State.dustFrame_same {o : Nat} {b : State} {s : State} (hk : Same o b s) (ho : 2147491840 &&& o = 2147491840 := by exact mask_sub (by decide) ho) :
    Same o b (State.dustFrame s) := by
  unfold State.dustFrame
  (try simp only [])
  with_reducible repeat' (first | exact hk | exact mask_sub (by decide) ho | apply State.notice_same | refine State.over_same (fun _ _ hk => ?_) ?_ | apply ite_same | split | fail_if_no_progress apply Same.dust_)

theorem State.dustScaled_same {o : Nat} {b : State} {s : State} {scaled : Bool} (hk : Same o b s) (ho : 2147483648 &&& o = 2147483648 := by exact mask_sub (by decide) ho) :
    Same o b (State.dustScaled s scaled) := by
  unfold State.dustScaled
  (try simp only [])
  with_reducible repeat' (first | exact hk | exact mask_sub (by decide) ho | apply ite_same | split | fail_if_no_progress apply Same.dust_)

end Sys2Proof.Machine
end

