-- ==== Sys2Proof/Laws/SameSideband.lean ====
section
/-! SUPPORT. Laws/SameSideband.lean: what every operation of Machine/Sideband.lean leaves (Laws/Same.lean). -/

set_option linter.all false
set_option Elab.async false

namespace Sys2Proof.Machine

open Sys2Proof

theorem State.setSb_same {o : Nat} {b : State} {s : State} {f : Sideband → Sideband} (hk : Same o b s) (ho : 16384 &&& o = 16384 := by exact mask_sub (by decide) ho) :
    Same o b (State.setSb s f) := by
  unfold State.setSb
  (try simp only [])
  with_reducible repeat' (first | exact hk | exact mask_sub (by decide) ho | split | fail_if_no_progress apply Same.sb_)

theorem State.quietAlert_same {o : Nat} {b : State} {s : State} (hk : Same o b s) (ho : 16384 &&& o = 16384 := by exact mask_sub (by decide) ho) :
    Same o b (State.quietAlert s) := by
  unfold State.quietAlert
  (try simp only [])
  with_reducible repeat' (first | exact hk | exact mask_sub (by decide) ho | apply State.setSb_same | apply ite_same | split)

theorem State.sbSetAddr_same {o : Nat} {b : State} {s : State} {pecOk : Bool} {a words : Nat} (hk : Same o b s) (ho : 16384 &&& o = 16384 := by exact mask_sub (by decide) ho) :
    Same o b (State.sbSetAddr s pecOk a words) := by
  unfold State.sbSetAddr
  (try simp only [])
  with_reducible repeat' (first | exact hk | exact mask_sub (by decide) ho | apply State.setSb_same | apply ite_same | split)

theorem State.sbRead_same {o : Nat} {b : State} {s : State} (hk : Same o b s) (ho : 135282734 &&& o = 135282734 := by exact mask_sub (by decide) ho) :
    Same o b (State.sbRead s) := by
  unfold State.sbRead
  (try simp only [])
  with_reducible repeat' (first | exact hk | exact mask_sub (by decide) ho | apply State.setSb_same | apply State.readMany_same | apply ite_same | (rename_i e; refine same_pair_snd e ?_) | (rename_i e; refine same_pair_fst e ?_) | (rename_i e; refine same_pair_trd e ?_) | split)

theorem State.sbWrite_same {o : Nat} {b : State} {s : State} {pecOk : Bool} {data : List Nat} (hk : Same o b s) (ho : 77827098686 &&& o = 77827098686 := by exact mask_sub (by decide) ho) :
    Same o b (State.sbWrite s pecOk data) := by
  unfold State.sbWrite
  (try simp only [])
  with_reducible repeat' (first | exact hk | exact mask_sub (by decide) ho | apply State.setSb_same | apply State.writeMany_same | apply ite_same | (rename_i e; refine same_pair_snd e ?_) | (rename_i e; refine same_pair_fst e ?_) | (rename_i e; refine same_pair_trd e ?_) | split)

theorem State.sbLastStatus_same {o : Nat} {b : State} {s : State} (hk : Same o b s) (ho : 16384 &&& o = 16384 := by exact mask_sub (by decide) ho) :
    Same o b (State.sbLastStatus s) := by
  unfold State.sbLastStatus
  (try simp only [])
  with_reducible repeat' (first | exact hk | exact mask_sub (by decide) ho | apply State.setSb_same | apply ite_same | split)

theorem State.sbSummary_same {o : Nat} {b : State} {s : State} (hk : Same o b s) (ho : 68719493120 &&& o = 68719493120 := by exact mask_sub (by decide) ho) :
    Same o b (State.sbSummary s) := by
  unfold State.sbSummary
  (try simp only [])
  with_reducible repeat' (first | exact hk | exact mask_sub (by decide) ho | apply State.setSb_same | apply State.summaryItem_same | apply ite_same | (rename_i e; refine same_pair_snd e ?_) | (rename_i e; refine same_pair_fst e ?_) | (rename_i e; refine same_pair_trd e ?_) | split)

theorem State.sbAlertCause_same {o : Nat} {b : State} {s : State} (hk : Same o b s) (ho : 16384 &&& o = 16384 := by exact mask_sub (by decide) ho) :
    Same o b (State.sbAlertCause s) := by
  unfold State.sbAlertCause
  (try simp only [])
  with_reducible repeat' (first | exact hk | exact mask_sub (by decide) ho | apply State.quietAlert_same | apply State.setSb_same | apply ite_same | split)

theorem State.sbFaultPop_same {o : Nat} {b : State} {s : State} (hk : Same o b s) (ho : 147456 &&& o = 147456 := by exact mask_sub (by decide) ho) :
    Same o b (State.sbFaultPop s) := by
  unfold State.sbFaultPop
  (try simp only [])
  with_reducible repeat' (first | exact hk | exact mask_sub (by decide) ho | apply State.quietAlert_same | apply State.setSb_same | apply ite_same | (rename_i e; refine same_pair_snd e ?_) | (rename_i e; refine same_pair_fst e ?_) | (rename_i e; refine same_pair_trd e ?_) | split | fail_if_no_progress apply Same.faults_)

theorem State.alertResponse_same {o : Nat} {b : State} {s : State} (hk : Same o b s) (ho : 16384 &&& o = 16384 := by exact mask_sub (by decide) ho) :
    Same o b (State.alertResponse s) := by
  unfold State.alertResponse
  (try simp only [])
  with_reducible repeat' (first | exact hk | exact mask_sub (by decide) ho | apply State.setSb_same | apply ite_same | split)

theorem State.sbStretchTimeout_same {o : Nat} {b : State} {s : State} {bytes : Nat} (hk : Same o b s) (ho : 16384 &&& o = 16384 := by exact mask_sub (by decide) ho) :
    Same o b (State.sbStretchTimeout s bytes) := by
  unfold State.sbStretchTimeout
  (try simp only [])
  with_reducible repeat' (first | exact hk | exact mask_sub (by decide) ho | apply State.setSb_same | apply ite_same | split)

end Sys2Proof.Machine
end

