-- ==== Sys2Proof/Laws/SameLinks.lean ====
section
/-! SUPPORT. Laws/SameLinks.lean: what every operation of Machine/Links.lean leaves (Laws/Same.lean). -/

set_option linter.all false
set_option Elab.async false

namespace Sys2Proof.Machine

open Sys2Proof

theorem State.setLinks_same {o : Nat} {b : State} {s : State} {f : Links → Links} (hk : Same o b s) (ho : 8192 &&& o = 8192 := by exact mask_sub (by decide) ho) :
    Same o b (State.setLinks s f) := by
  unfold State.setLinks
  (try simp only [])
  with_reducible repeat' (first | exact hk | exact mask_sub (by decide) ho | split | fail_if_no_progress apply Same.links_)

theorem State.enterRx_same {o : Nat} {b : State} {s : State} {f : RxFrame} (hk : Same o b s) (ho : 8192 &&& o = 8192 := by exact mask_sub (by decide) ho) :
    Same o b (State.enterRx s f) := by
  unfold State.enterRx
  (try simp only [])
  with_reducible repeat' (first | exact hk | exact mask_sub (by decide) ho | apply State.setLinks_same | (rename_i e; refine same_pair_snd e ?_) | (rename_i e; refine same_pair_fst e ?_) | (rename_i e; refine same_pair_trd e ?_) | split)

theorem State.frameRx_same {o : Nat} {base : State} {s : State} {l : Nat} {b : List Nat} {stamp : Stamp} (hk : Same o base s) (ho : 8194 &&& o = 8194 := by exact mask_sub (by decide) ho) :
    Same o base (State.frameRx s l b stamp) := by
  unfold State.frameRx
  (try simp only [])
  with_reducible repeat' (first | exact hk | exact mask_sub (by decide) ho | apply State.enterRx_same | apply State.bind_same | apply State.updPrin_same | apply State.bump_same | apply ite_same | (rename_i e; refine same_pair_snd e ?_) | (rename_i e; refine same_pair_fst e ?_) | (rename_i e; refine same_pair_trd e ?_) | split)

theorem State.forwardedRx_same {o : Nat} {b : State} {s : State} {pos : Nat} {k : List Nat} (hk : Same o b s) (ho : 8194 &&& o = 8194 := by exact mask_sub (by decide) ho) :
    Same o b (State.forwardedRx s pos k) := by
  unfold State.forwardedRx
  (try simp only [])
  with_reducible repeat' (first | exact hk | exact mask_sub (by decide) ho | apply State.enterRx_same | apply State.setLinks_same | apply State.bind_same | apply State.bump_same | apply ite_same | (rename_i e; refine same_pair_snd e ?_) | (rename_i e; refine same_pair_fst e ?_) | (rename_i e; refine same_pair_trd e ?_) | split)

theorem State.offer_same {o : Nat} {b : State} {s : State} (hk : Same o b s) (ho : 139264 &&& o = 139264 := by exact mask_sub (by decide) ho) :
    Same o b (State.offer s) := by
  unfold State.offer
  (try simp only [])
  with_reducible repeat' (first | exact hk | exact mask_sub (by decide) ho | apply State.setLinks_same | apply State.offerFaults_same | apply ite_same | split)

theorem State.keepRx_same {o : Nat} {b : State} {s : State} {f : RxFrame} (hk : Same o b s) (ho : 134217730 &&& o = 134217730 := by exact mask_sub (by decide) ho) :
    Same o b (State.keepRx s f) := by
  unfold State.keepRx
  (try simp only [])
  with_reducible repeat' (first | exact hk | exact mask_sub (by decide) ho | apply State.keepRecord_same | apply ite_same | (rename_i e; refine same_pair_snd e ?_) | (rename_i e; refine same_pair_fst e ?_) | (rename_i e; refine same_pair_trd e ?_) | split)

theorem State.sequence_same {o : Nat} {b : State} {s : State} {f : RxFrame} (hk : Same o b s) (ho : 8194 &&& o = 8194 := by exact mask_sub (by decide) ho) :
    Same o b ((State.sequence s f).1) := by
  unfold State.sequence
  (try simp only [])
  with_reducible repeat' (first | exact hk | exact mask_sub (by decide) ho | apply State.updLane_same | apply State.updPrin_same | apply State.bump_same | apply ite_same | (rename_i e; refine same_pair_snd e ?_) | (rename_i e; refine same_pair_fst e ?_) | (rename_i e; refine same_pair_trd e ?_) | split)

theorem State.takeBatch_same {o : Nat} {b : State} {s : State} {l : List RxFrame} (hk : Same o b s) (ho : 134225922 &&& o = 134225922 := by exact mask_sub (by decide) ho) : Same o b (s.takeBatch l).1 := by
  induction l generalizing s with
  | nil => exact hk
  | cons f rest ih => exact ih (State.sequence_same (State.keepRx_same hk))

theorem State.waitOn_same {o : Nat} {b : State} {s : State} {l : Nat} {f : TxFrame} (hk : Same o b s) (ho : 139266 &&& o = 139266 := by exact mask_sub (by decide) ho) :
    Same o b (State.waitOn s l f) := by
  unfold State.waitOn
  (try simp only [])
  with_reducible repeat' (first | exact hk | exact mask_sub (by decide) ho | apply State.raise_same | apply State.updLane_same | apply State.bump_same | apply ite_same | split)

theorem State.overRing_same {o : Nat} {b : State} {s : State} {rseq count : Nat} {payload : List Nat} (hk : Same o b s) (ho : 8192 &&& o = 8192 := by exact mask_sub (by decide) ho) :
    Same o b (State.overRing s rseq count payload) := by
  unfold State.overRing
  (try simp only [])
  with_reducible repeat' (first | exact hk | exact mask_sub (by decide) ho | apply State.setLinks_same | apply ite_same | (rename_i e; refine same_pair_snd e ?_) | (rename_i e; refine same_pair_fst e ?_) | (rename_i e; refine same_pair_trd e ?_) | split)

theorem State.sendFrame_same {o : Nat} {b : State} {s : State} {differ : Bool} {p : Nat} {x : Nat × List Nat} (hk : Same o b s) (ho : 139266 &&& o = 139266 := by exact mask_sub (by decide) ho) :
    Same o b (State.sendFrame s differ p x) := by
  unfold State.sendFrame
  (try simp only [])
  with_reducible repeat' (first | exact hk | exact mask_sub (by decide) ho | apply State.overRing_same | apply State.waitOn_same | apply State.updPrin_same | refine State.over_same (fun _ _ hk => ?_) ?_ | apply ite_same | (rename_i e; refine same_pair_snd e ?_) | (rename_i e; refine same_pair_fst e ?_) | (rename_i e; refine same_pair_trd e ?_) | split)

theorem State.buildFor_same {o : Nat} {b : State} {s : State} {differ : Bool} {p : Nat} (hk : Same o b s) (ho : 139266 &&& o = 139266 := by exact mask_sub (by decide) ho) :
    Same o b (State.buildFor s differ p) := by
  unfold State.buildFor
  (try simp only [])
  with_reducible repeat' (first | exact hk | exact mask_sub (by decide) ho | apply State.sendFrame_same | apply State.due_same | apply State.updPrin_same | refine State.over_same (fun _ _ hk => ?_) ?_ | apply ite_same | split)

theorem State.buildAll_same {o : Nat} {b : State} {s : State} {differ : Bool} (hk : Same o b s) (ho : 139266 &&& o = 139266 := by exact mask_sub (by decide) ho) :
    Same o b (State.buildAll s differ) := by
  unfold State.buildAll
  (try simp only [])
  with_reducible repeat' (first | exact hk | exact mask_sub (by decide) ho | apply State.buildFor_same | apply State.setLinks_same | refine State.over_same (fun _ _ hk => ?_) ?_ | split)

theorem State.datagram_same {o : Nat} {b : State} {s : State} {l ip port : Nat} {data : List Nat} (hk : Same o b s) (ho : 68719476736 &&& o = 68719476736 := by exact mask_sub (by decide) ho) :
    Same o b ((State.datagram s l ip port data).2) := by
  unfold State.datagram
  (try simp only [])
  with_reducible repeat' (first | exact hk | exact mask_sub (by decide) ho | apply State.free_same | apply ite_same | (rename_i e; refine same_pair_snd e ?_) | (rename_i e; refine same_pair_fst e ?_) | (rename_i e; refine same_pair_trd e ?_) | split)

theorem State.carryTo_same {o : Nat} {b : State} {s : State} {l : Nat} {a : Address} {data : List Nat} (hk : Same o b s) (ho : 68719476736 &&& o = 68719476736 := by exact mask_sub (by decide) ho) :
    Same o b ((State.carryTo s l a data).2) := by
  unfold State.carryTo
  (try simp only [])
  with_reducible repeat' (first | exact hk | exact mask_sub (by decide) ho | apply State.datagram_same | apply ite_same | (rename_i e; refine same_pair_snd e ?_) | (rename_i e; refine same_pair_fst e ?_) | (rename_i e; refine same_pair_trd e ?_) | split)

theorem State.keepTx_same {o : Nat} {b : State} {s : State} {l p rseq : Nat} {t : Stamp} (hk : Same o b s) (ho : 134217730 &&& o = 134217730 := by exact mask_sub (by decide) ho) :
    Same o b (State.keepTx s l p rseq t) := by
  unfold State.keepTx
  (try simp only [])
  with_reducible repeat' (first | exact hk | exact mask_sub (by decide) ho | apply State.keepRecord_same | apply ite_same | split)

theorem State.transmit_same {o : Nat} {b : State} {s : State} {l : Nat} {f : TxFrame} {a : Address} {t : Stamp} (hk : Same o b s) (ho : 68853702658 &&& o = 68853702658 := by exact mask_sub (by decide) ho) :
    Same o b (State.transmit s l f a t) := by
  unfold State.transmit
  (try simp only [])
  with_reducible repeat' (first | exact hk | exact mask_sub (by decide) ho | apply State.keepTx_same | apply State.carryTo_same | apply State.updLane_same | apply State.bump_same | apply ite_same | (rename_i e; refine same_pair_snd e ?_) | (rename_i e; refine same_pair_fst e ?_) | (rename_i e; refine same_pair_trd e ?_) | split)

theorem State.frameTransmit_same {o : Nat} {b : State} {s : State} {l pos : Nat} {t : Stamp} (hk : Same o b s) (ho : 68853702658 &&& o = 68853702658 := by exact mask_sub (by decide) ho) :
    Same o b (State.frameTransmit s l pos t) := by
  unfold State.frameTransmit
  (try simp only [])
  with_reducible repeat' (first | exact hk | exact mask_sub (by decide) ho | apply State.transmit_same | apply State.keepTx_same | apply State.updLane_same | apply ite_same | (rename_i e; refine same_pair_snd e ?_) | (rename_i e; refine same_pair_fst e ?_) | (rename_i e; refine same_pair_trd e ?_) | split)

theorem State.announce_same {o : Nat} {b : State} {s : State} {l : Nat} (hk : Same o b s) (ho : 68719484928 &&& o = 68719484928 := by exact mask_sub (by decide) ho) :
    Same o b (State.announce s l) := by
  unfold State.announce
  (try simp only [])
  with_reducible repeat' (first | exact hk | exact mask_sub (by decide) ho | apply State.carryTo_same | apply State.updLane_same | apply ite_same | (rename_i e; refine same_pair_snd e ?_) | (rename_i e; refine same_pair_fst e ?_) | (rename_i e; refine same_pair_trd e ?_) | split)

theorem State.arpRequest_same {o : Nat} {base : State} {s : State} {l : Nat} {b : List Nat} (hk : Same o base s) (ho : 8192 &&& o = 8192 := by exact mask_sub (by decide) ho) :
    Same o base (State.arpRequest s l b) := by
  unfold State.arpRequest
  (try simp only [])
  with_reducible repeat' (first | exact hk | exact mask_sub (by decide) ho | apply State.updLane_same | apply ite_same | (rename_i e; refine same_pair_snd e ?_) | (rename_i e; refine same_pair_fst e ?_) | (rename_i e; refine same_pair_trd e ?_) | split)

theorem State.linkUp_same {o : Nat} {b : State} {s : State} {l : Nat} (hk : Same o b s) (ho : 68719616002 &&& o = 68719616002 := by exact mask_sub (by decide) ho) :
    Same o b (State.linkUp s l) := by
  unfold State.linkUp
  (try simp only [])
  with_reducible repeat' (first | exact hk | exact mask_sub (by decide) ho | apply State.announce_same | apply State.endReport_same | apply State.wr_same | apply ite_same | split)

theorem State.linkDown_same {o : Nat} {b : State} {s : State} {l : Nat} {fecOnly : Bool} (hk : Same o b s) (ho : 131074 &&& o = 131074 := by exact mask_sub (by decide) ho) :
    Same o b (State.linkDown s l fecOnly) := by
  unfold State.linkDown
  (try simp only [])
  with_reducible repeat' (first | exact hk | exact mask_sub (by decide) ho | apply State.raise_same | apply State.wr_same | apply ite_same | split)

theorem State.hiBer_same {o : Nat} {b : State} {s : State} {l : Nat} {on : Bool} (hk : Same o b s) (ho : 131074 &&& o = 131074 := by exact mask_sub (by decide) ho) :
    Same o b (State.hiBer s l on) := by
  unfold State.hiBer
  (try simp only [])
  with_reducible repeat' (first | exact hk | exact mask_sub (by decide) ho | apply State.endReport_same | apply State.raise_same | apply State.wr_same | apply ite_same | split)

theorem State.clearLocks_same {o : Nat} {b : State} {s : State} (hk : Same o b s) (ho : 2 &&& o = 2 := by exact mask_sub (by decide) ho) :
    Same o b (State.clearLocks s) := by
  unfold State.clearLocks
  (try simp only [])
  with_reducible repeat' (first | exact hk | exact mask_sub (by decide) ho | apply State.setWord_same | refine State.over_same (fun _ _ hk => ?_) ?_ | apply ite_same | split)

theorem State.drainRing_same {o : Nat} {b : State} {s : State} (hk : Same o b s) (ho : 8192 &&& o = 8192 := by exact mask_sub (by decide) ho) :
    Same o b (State.drainRing s) := by
  unfold State.drainRing
  (try simp only [])
  with_reducible repeat' (first | exact hk | exact mask_sub (by decide) ho | apply State.setLinks_same | apply ite_same | split)

theorem State.cmdForward_same {o : Nat} {b : State} {s : State} {h : CmdHead} {pos : Nat} {frame : List Nat} (hk : Same o b s) (ho : 172034 &&& o = 172034 := by exact mask_sub (by decide) ho) :
    Same o b (State.cmdForward s h pos frame) := by
  unfold State.cmdForward
  (try simp only [])
  with_reducible repeat' (first | exact hk | exact mask_sub (by decide) ho | apply State.drainRing_same | apply State.setLinks_same | apply State.answer_same | apply ite_same | split)

theorem State.forwardedResponse_same {o : Nat} {b : State} {s : State} {pos rseq : Nat} {bytes : List Nat} (hk : Same o b s) (ho : 8192 &&& o = 8192 := by exact mask_sub (by decide) ho) :
    Same o b (State.forwardedResponse s pos rseq bytes) := by
  unfold State.forwardedResponse
  (try simp only [])
  with_reducible repeat' (first | exact hk | exact mask_sub (by decide) ho | apply State.notice_same | refine State.over_same (fun _ _ hk => ?_) ?_ | split)

end Sys2Proof.Machine
end

