-- ==== Sys2Proof/Laws/SameCommands.lean ====
section
/-! SUPPORT. Laws/SameCommands.lean: what every operation of Machine/Commands.lean leaves (Laws/Same.lean). -/

set_option linter.all false
set_option Elab.async false

namespace Sys2Proof.Machine

open Sys2Proof

theorem State.cmdPing_same {o : Nat} {b : State} {s : State} {h : CmdHead} (hk : Same o b s) (ho : 172034 &&& o = 172034 := by exact mask_sub (by decide) ho) :
    Same o b (State.cmdPing s h) := by
  unfold State.cmdPing
  (try simp only [])
  with_reducible repeat' (first | exact hk | exact mask_sub (by decide) ho | apply State.answer_same | split)

theorem State.settleFences_same {o : Nat} {b : State} {s : State} (hk : Same o b s) (ho : 172034 &&& o = 172034 := by exact mask_sub (by decide) ho) :
    Same o b (State.settleFences s) := by
  unfold State.settleFences
  (try simp only [])
  with_reducible repeat' (first | exact hk | exact mask_sub (by decide) ho | apply State.answerAt_same | refine State.over_same (fun _ _ hk => ?_) ?_ | split | fail_if_no_progress apply Same.sched_)

theorem State.cmdFence_same {o : Nat} {b : State} {s : State} {h : CmdHead} (hk : Same o b s) (ho : 172034 &&& o = 172034 := by exact mask_sub (by decide) ho) :
    Same o b (State.cmdFence s h) := by
  unfold State.cmdFence
  (try simp only [])
  with_reducible repeat' (first | exact hk | exact mask_sub (by decide) ho | apply State.settleFences_same | split | fail_if_no_progress apply Same.sched_)

theorem State.cmdRead_same {o : Nat} {b : State} {s : State} {h : CmdHead} {addr words : Nat} (hk : Same o b s) (ho : 135438382 &&& o = 135438382 := by exact mask_sub (by decide) ho) :
    Same o b (State.cmdRead s h addr words) := by
  unfold State.cmdRead
  (try simp only [])
  with_reducible repeat' (first | exact hk | exact mask_sub (by decide) ho | apply State.readMany_same | apply State.answer_same | apply ite_same | (rename_i e; refine same_pair_snd e ?_) | (rename_i e; refine same_pair_fst e ?_) | (rename_i e; refine same_pair_trd e ?_) | split)

theorem State.endWrite_same {o : Nat} {b : State} {s : State} {h : CmdHead} {opcode : Nat} {framed : Bool} {r : Nat × Bool × State}
    (hk : Same o b r.2.2) (ho : 172034 &&& o = 172034 := by exact mask_sub (by decide) ho) : Same o b (s.endWrite h opcode framed r) := by
  unfold State.endWrite
  simp only []
  split
  · exact State.answer_same hk
  · split
    · exact hk
    · split
      · exact State.answer_same (Same.sched_ hk (mask_sub (by decide) ho))
      · exact State.answer_same hk

theorem State.cmdWrite_same {o : Nat} {b : State} {s : State} {h : CmdHead} {addr : Nat} {data : List Nat} (hk : Same o b s) (ho : 77827139646 &&& o = 77827139646 := by exact mask_sub (by decide) ho) :
    Same o b (State.cmdWrite s h addr data) := by
  unfold State.cmdWrite
  (try simp only [])
  with_reducible repeat' (first | exact hk | exact mask_sub (by decide) ho | apply State.endWrite_same | apply State.writeMany_same | apply State.answer_same | apply ite_same | split)

theorem State.writeBoth_same {o : Nat} {b : State} {s : State} {r : Requester} {h : CmdHead} {opcode addr : Nat} {data : List Nat} (hk : Same o b s) (ho : 77827098686 &&& o = 77827098686 := by exact mask_sub (by decide) ho) :
    Same o b ((State.writeBoth s r h opcode addr data).2.2) := by
  unfold State.writeBoth
  (try simp only [])
  with_reducible repeat' (first | exact hk | exact mask_sub (by decide) ho | apply State.writeMany_same | apply State.setSel_same | (rename_i e; refine same_pair_snd e ?_) | (rename_i e; refine same_pair_fst e ?_) | (rename_i e; refine same_pair_trd e ?_) | split)

theorem State.cmdCtxRead_same {o : Nat} {b : State} {s : State} {h : CmdHead} {ctx first words : Nat} (hk : Same o b s) (ho : 135438382 &&& o = 135438382 := by exact mask_sub (by decide) ho) :
    Same o b (State.cmdCtxRead s h ctx first words) := by
  unfold State.cmdCtxRead
  (try simp only [])
  with_reducible repeat' (first | exact hk | exact mask_sub (by decide) ho | apply State.readMany_same | apply State.answer_same | apply ite_same | (rename_i e; refine same_pair_snd e ?_) | (rename_i e; refine same_pair_fst e ?_) | (rename_i e; refine same_pair_trd e ?_) | split)

theorem State.cmdCtxWrite_same {o : Nat} {b : State} {s : State} {h : CmdHead} {ctx first : Nat} {data : List Nat} (hk : Same o b s) (ho : 77827139646 &&& o = 77827139646 := by exact mask_sub (by decide) ho) :
    Same o b (State.cmdCtxWrite s h ctx first data) := by
  unfold State.cmdCtxWrite
  (try simp only [])
  with_reducible repeat' (first | exact hk | exact mask_sub (by decide) ho | apply State.writeBoth_same | apply State.endWrite_same | apply State.answer_same | apply ite_same | split)

theorem State.cmdCtxState_same {o : Nat} {b : State} {s : State} {h : CmdHead} {ctx st : Nat} (hk : Same o b s) (ho : 8560642 &&& o = 8560642 := by exact mask_sub (by decide) ho) :
    Same o b (State.cmdCtxState s h ctx st) := by
  unfold State.cmdCtxState
  (try simp only [])
  with_reducible repeat' (first | exact hk | exact mask_sub (by decide) ho | apply State.request_same | apply State.answer_same | apply ite_same | split)

theorem State.cmdTileWrite_same {o : Nat} {b : State} {s : State} {h : CmdHead} {opcode : Nat} {fits : Nat → Bool} {tile offset value : Nat} (hk : Same o b s) (ho : 77827139646 &&& o = 77827139646 := by exact mask_sub (by decide) ho) :
    Same o b (State.cmdTileWrite s h opcode fits tile offset value) := by
  unfold State.cmdTileWrite
  (try simp only [])
  with_reducible repeat' (first | exact hk | exact mask_sub (by decide) ho | apply State.writeBoth_same | apply State.endWrite_same | apply State.answer_same | apply ite_same | split)

theorem State.cmdGuardWrite_same {o : Nat} {b : State} {s : State} {h : CmdHead} {tile offset value : Nat} (hk : Same o b s) (ho : 77827139646 &&& o = 77827139646 := by exact mask_sub (by decide) ho) :
    Same o b (State.cmdGuardWrite s h tile offset value) := by
  unfold State.cmdGuardWrite
  (try simp only [])
  with_reducible repeat' (first | exact hk | exact mask_sub (by decide) ho | apply State.cmdTileWrite_same | split)

theorem State.cmdPrimerWrite_same {o : Nat} {b : State} {s : State} {h : CmdHead} {tile offset value : Nat} (hk : Same o b s) (ho : 77827139646 &&& o = 77827139646 := by exact mask_sub (by decide) ho) :
    Same o b (State.cmdPrimerWrite s h tile offset value) := by
  unfold State.cmdPrimerWrite
  (try simp only [])
  with_reducible repeat' (first | exact hk | exact mask_sub (by decide) ho | apply State.cmdTileWrite_same | split)

theorem State.cmdRemap_same {o : Nat} {b : State} {s : State} {h : CmdHead} {logical useAlt : Nat} (hk : Same o b s) (ho : 77827139646 &&& o = 77827139646 := by exact mask_sub (by decide) ho) :
    Same o b (State.cmdRemap s h logical useAlt) := by
  unfold State.cmdRemap
  (try simp only [])
  with_reducible repeat' (first | exact hk | exact mask_sub (by decide) ho | apply State.writeBoth_same | apply State.endWrite_same | apply State.answer_same | apply ite_same | split)

theorem State.cmdPrimerTiles_same {o : Nat} {b : State} {s : State} {h : CmdHead} {tiles : Nat} (hk : Same o b s) (ho : 33726466 &&& o = 33726466 := by exact mask_sub (by decide) ho) :
    Same o b (State.cmdPrimerTiles s h tiles) := by
  unfold State.cmdPrimerTiles
  (try simp only [])
  with_reducible repeat' (first | exact hk | exact mask_sub (by decide) ho | apply State.cmdPrimerApply_same | apply State.answer_same | apply ite_same | split)

theorem State.cmdResumeTiles_same {o : Nat} {b : State} {s : State} {h : CmdHead} {tiles : Nat} (hk : Same o b s) (ho : 33726466 &&& o = 33726466 := by exact mask_sub (by decide) ho) :
    Same o b (State.cmdResumeTiles s h tiles) := by
  unfold State.cmdResumeTiles
  (try simp only [])
  with_reducible repeat' (first | exact hk | exact mask_sub (by decide) ho | apply State.cmdTileResume_same | apply State.answer_same | apply ite_same | split)

theorem State.cmdCalibrate_same {o : Nat} {b : State} {s : State} {h : CmdHead} {tiles : Nat} (hk : Same o b s) (ho : 68329474 &&& o = 68329474 := by exact mask_sub (by decide) ho) :
    Same o b (State.cmdCalibrate s h tiles) := by
  unfold State.cmdCalibrate
  (try simp only [])
  with_reducible repeat' (first | exact hk | exact mask_sub (by decide) ho | apply State.requestCals_same | apply State.answer_same | apply ite_same | split)

theorem State.cmdStencilStart_same {o : Nat} {b : State} {s : State} {h : CmdHead} {gen : Nat} (hk : Same o b s) (ho : 4366350 &&& o = 4366350 := by exact mask_sub (by decide) ho) :
    Same o b (State.cmdStencilStart s h gen) := by
  unfold State.cmdStencilStart
  (try simp only [])
  with_reducible repeat' (first | exact hk | exact mask_sub (by decide) ho | apply State.commandTrigger_same | apply State.answer_same | apply ite_same | split)

theorem State.cmdMode_same {o : Nat} {b : State} {s : State} {h : CmdHead} {mode frame : Nat} (hk : Same o b s) (ho : 172162 &&& o = 172162 := by exact mask_sub (by decide) ho) :
    Same o b (State.cmdMode s h mode frame) := by
  unfold State.cmdMode
  (try simp only [])
  with_reducible repeat' (first | exact hk | exact mask_sub (by decide) ho | apply State.answer_same | apply ite_same | (rename_i e; refine same_pair_snd e ?_) | (rename_i e; refine same_pair_fst e ?_) | (rename_i e; refine same_pair_trd e ?_) | split | fail_if_no_progress apply Same.modeNext_)

theorem State.setRoute_same {o : Nat} {b : State} {s : State} {f : Route → Route} (hk : Same o b s) (ho : 2048 &&& o = 2048 := by exact mask_sub (by decide) ho) :
    Same o b (State.setRoute s f) := by
  unfold State.setRoute
  (try simp only [])
  with_reducible repeat' (first | exact hk | exact mask_sub (by decide) ho | split | fail_if_no_progress apply Same.route_)

theorem State.cmdRoute_same {o : Nat} {b : State} {s : State} {h : CmdHead} {c : Cmd} (hk : Same o b s) (ho : 68719650818 &&& o = 68719650818 := by exact mask_sub (by decide) ho) :
    Same o b (State.cmdRoute s h c) := by
  unfold State.cmdRoute
  (try simp only [])
  with_reducible repeat' (first | exact hk | exact mask_sub (by decide) ho | apply State.setRoute_same | apply State.answerRoute_same | apply ite_same | split)

theorem State.postResult_same {o : Nat} {b : State} {s : State} {r : RouteReq} {at_ : Nat} {res : RouteResult} (hk : Same o b s) (ho : 68719654926 &&& o = 68719654926 := by exact mask_sub (by decide) ho) :
    Same o b (State.postResult s r at_ res) := by
  unfold State.postResult
  (try simp only [])
  with_reducible repeat' (first | exact hk | exact mask_sub (by decide) ho | apply State.impliedCommit_same | apply State.post_same | apply ite_same | (rename_i e; refine same_pair_snd e ?_) | (rename_i e; refine same_pair_fst e ?_) | (rename_i e; refine same_pair_trd e ?_) | split)

theorem State.noteRouteMargins_same {o : Nat} {b : State} {s : State} {full : Bool} {l : List (Plane × Nat)} (hk : Same o b s) (ho : 2048 &&& o = 2048 := by exact mask_sub (by decide) ho) :
    Same o b (State.noteRouteMargins s full l) := by
  unfold State.noteRouteMargins
  (try simp only [])
  with_reducible repeat' (first | exact hk | exact mask_sub (by decide) ho | apply State.setRoute_same | refine State.over_same (fun _ _ hk => ?_) ?_ | split)

theorem State.incrementalPost_same {o : Nat} {b : State} {s : State} {late : List (Nat × Nat × Plane)} {margins : List (Plane × Nat)} (hk : Same o b s) (ho : 68719654926 &&& o = 68719654926 := by exact mask_sub (by decide) ho) :
    Same o b (State.incrementalPost s late margins) := by
  unfold State.incrementalPost
  (try simp only [])
  with_reducible repeat' (first | exact hk | exact mask_sub (by decide) ho | apply State.noteRouteMargins_same | apply State.postResult_same | apply State.setRoute_same | apply State.tryAll_same | apply State.timeouts_same | refine State.over_same (fun _ _ hk => ?_) ?_ | apply ite_same | split)

theorem State.fullPost_same {o : Nat} {b : State} {s : State} {late : List Plane} {margins : List (Plane × Nat)} (hk : Same o b s) (ho : 68719654926 &&& o = 68719654926 := by exact mask_sub (by decide) ho) :
    Same o b (State.fullPost s late margins) := by
  unfold State.fullPost
  (try simp only [])
  with_reducible repeat' (first | exact hk | exact mask_sub (by decide) ho | apply State.noteRouteMargins_same | apply State.postResult_same | apply State.setRoute_same | apply State.tryAll_same | apply State.timeouts_same | apply ite_same | (rename_i e; refine same_pair_snd e ?_) | (rename_i e; refine same_pair_fst e ?_) | (rename_i e; refine same_pair_trd e ?_) | split)

theorem State.deferredStart_same {o : Nat} {b : State} {s : State} (hk : Same o b s) (ho : 2048 &&& o = 2048 := by exact mask_sub (by decide) ho) :
    Same o b (State.deferredStart s) := by
  unfold State.deferredStart
  (try simp only [])
  with_reducible repeat' (first | exact hk | exact mask_sub (by decide) ho | apply State.setRoute_same | apply ite_same | (rename_i e; refine same_pair_snd e ?_) | (rename_i e; refine same_pair_fst e ?_) | (rename_i e; refine same_pair_trd e ?_) | split)

theorem State.runCmd_same {o : Nat} {b : State} {s : State} {h : CmdHead} {c : Cmd} (hk : Same o b s) (ho : 78900885950 &&& o = 78900885950 := by exact mask_sub (by decide) ho) :
    Same o b (State.runCmd s h c) := by
  unfold State.runCmd
  (try simp only [])
  with_reducible repeat' (first | exact hk | exact mask_sub (by decide) ho | apply State.cmdRoute_same | apply State.cmdMode_same | apply State.cmdStencilStart_same | apply State.cmdCalibrate_same | apply State.cmdResumeTiles_same | apply State.cmdPrimerTiles_same | apply State.cmdRemap_same | apply State.cmdPrimerWrite_same | apply State.cmdGuardWrite_same | apply State.cmdCtxState_same | apply State.cmdCtxWrite_same | apply State.cmdCtxRead_same | apply State.cmdWrite_same | apply State.cmdRead_same | apply State.cmdFence_same | apply State.cmdPing_same | apply State.cmdForward_same | apply State.cmdSummary_same | apply State.cmdReboot_same | apply State.cmdPower_same | apply State.cmdDrill_same | apply State.cmdProtectCommit_same | apply State.cmdProtectArm_same | apply State.cmdKeyRoll_same | apply State.cmdKeyInstall_same | apply State.cmdInject_same | apply State.cmdAbort_same | apply State.cmdCommit_same | apply State.tryAll_same | (rename_i e; refine same_pair_snd e ?_) | (rename_i e; refine same_pair_fst e ?_) | (rename_i e; refine same_pair_trd e ?_) | split)

end Sys2Proof.Machine
end

