-- ==== Sys2Proof/Laws/SameSched.lean ====
section
/-! SUPPORT. Laws/SameSched.lean: what every operation of Machine/Sched.lean leaves (Laws/Same.lean). -/

set_option linter.all false
set_option Elab.async false

namespace Sys2Proof.Machine

open Sys2Proof

theorem State.setSched_same {o : Nat} {b : State} {s : State} {f : Sched → Sched} (hk : Same o b s) (ho : 32768 &&& o = 32768 := by exact mask_sub (by decide) ho) :
    Same o b (State.setSched s f) := by
  unfold State.setSched
  (try simp only [])
  with_reducible repeat' (first | exact hk | exact mask_sub (by decide) ho | split | fail_if_no_progress apply Same.sched_)

theorem State.updQueue_same {o : Nat} {b : State} {s : State} {q : Nat} {f : Queue → Queue} (hk : Same o b s) (ho : 32768 &&& o = 32768 := by exact mask_sub (by decide) ho) :
    Same o b (State.updQueue s q f) := by
  unfold State.updQueue
  (try simp only [])
  with_reducible repeat' (first | exact hk | exact mask_sub (by decide) ho | apply State.setSched_same | split)

theorem State.refillMeter_same {o : Nat} {b : State} {s : State} {t c : Nat} (hk : Same o b s) (ho : 2 &&& o = 2 := by exact mask_sub (by decide) ho) :
    Same o b (State.refillMeter s t c) := by
  unfold State.refillMeter
  (try simp only [])
  with_reducible repeat' (first | exact hk | exact mask_sub (by decide) ho | apply State.wr_same | split)

theorem State.refillMeters_same {o : Nat} {b : State} {s : State} (hk : Same o b s) (ho : 2 &&& o = 2 := by exact mask_sub (by decide) ho) :
    Same o b (State.refillMeters s) := by
  unfold State.refillMeters
  (try simp only [])
  with_reducible repeat' (first | exact hk | exact mask_sub (by decide) ho | apply State.refillMeter_same | refine State.over_same (fun _ _ hk => ?_) ?_ | split)

theorem State.colour_same {o : Nat} {b : State} {s : State} {t c k : Nat} (hk : Same o b s) (ho : 2 &&& o = 2 := by exact mask_sub (by decide) ho) :
    Same o b ((State.colour s t c k).2) := by
  unfold State.colour
  (try simp only [])
  with_reducible repeat' (first | exact hk | exact mask_sub (by decide) ho | apply State.wr_same | apply ite_same | split)

theorem State.chargeRefused_same {o : Nat} {b : State} {s : State} {p : Nat} (hk : Same o b s) (ho : 2 &&& o = 2 := by exact mask_sub (by decide) ho) :
    Same o b (State.chargeRefused s p) := by
  unfold State.chargeRefused
  (try simp only [])
  with_reducible repeat' (first | exact hk | exact mask_sub (by decide) ho | apply State.colour_same | apply ite_same | split)

theorem State.meter_same {o : Nat} {b : State} {s : State} {p : Nat} {c : Cmd} {cost : Nat} (hk : Same o b s) (ho : 2 &&& o = 2 := by exact mask_sub (by decide) ho) :
    Same o b ((State.meter s p c cost).2) := by
  unfold State.meter
  (try simp only [])
  with_reducible repeat' (first | exact hk | exact mask_sub (by decide) ho | apply State.colour_same | apply State.wr_same | apply ite_same | (rename_i e; refine same_pair_snd e ?_) | (rename_i e; refine same_pair_fst e ?_) | (rename_i e; refine same_pair_trd e ?_) | split)

theorem State.clampMeters_same {o : Nat} {b : State} {s : State} (hk : Same o b s) (ho : 2 &&& o = 2 := by exact mask_sub (by decide) ho) :
    Same o b (State.clampMeters s) := by
  unfold State.clampMeters
  (try simp only [])
  with_reducible repeat' (first | exact hk | exact mask_sub (by decide) ho | apply State.wr_same | refine State.over_same (fun _ _ hk => ?_) ?_ | apply ite_same | split)

theorem State.stagePart_same {o : Nat} {b : State} {s : State} {h : CmdHead} {id part parts : Nat} {entries : List (Nat × Nat)} (hk : Same o b s) (ho : 8192 &&& o = 8192 := by exact mask_sub (by decide) ho) :
    Same o b ((State.stagePart s h id part parts entries).2.2) := by
  unfold State.stagePart
  (try simp only [])
  with_reducible repeat' (first | exact hk | exact mask_sub (by decide) ho | apply State.updPrin_same | refine foldl_same (fun _ _ hk => ?_) ?_ | refine foldl_fst_same (fun _ _ hk => ?_) ?_ | refine foldl_snd_same (fun _ _ hk => ?_) ?_ | apply ite_same | (rename_i e; refine same_pair_snd e ?_) | (rename_i e; refine same_pair_fst e ?_) | (rename_i e; refine same_pair_trd e ?_) | split)

theorem State.stageExpire_same {o : Nat} {b : State} {s : State} {p : Nat} (hk : Same o b s) (ho : 8192 &&& o = 8192 := by exact mask_sub (by decide) ho) :
    Same o b (State.stageExpire s p) := by
  unfold State.stageExpire
  (try simp only [])
  with_reducible repeat' (first | exact hk | exact mask_sub (by decide) ho | apply State.notice_same | apply State.updPrin_same | apply ite_same | (rename_i e; refine same_pair_snd e ?_) | (rename_i e; refine same_pair_fst e ?_) | (rename_i e; refine same_pair_trd e ?_) | split)

theorem State.enqueue_same {o : Nat} {b : State} {s : State} {q : Nat} {c : QCmd} (hk : Same o b s) (ho : 40960 &&& o = 40960 := by exact mask_sub (by decide) ho) :
    Same o b (State.enqueue s q c) := by
  unfold State.enqueue
  (try simp only [])
  with_reducible repeat' (first | exact hk | exact mask_sub (by decide) ho | apply State.updQueue_same | apply State.updPrin_same | apply ite_same | split)

theorem State.admitMetered_same {o : Nat} {b : State} {s : State} {h : CmdHead} {op : Nat} {body : List Nat} {c : Cmd} (hk : Same o b s) (ho : 172034 &&& o = 172034 := by exact mask_sub (by decide) ho) :
    Same o b (State.admitMetered s h op body c) := by
  unfold State.admitMetered
  simp only []
  have hm := State.meter_same (p := h.principal) (c := c) (cost := costOf c h.flags (match c with
    | .stage id part parts entries => stageTotal (s.prin h.principal).assembly h.flags id part parts entries.length
    | _ => 0)) hk
  generalize s.meter h.principal c _ = m at hm ⊢
  obtain ⟨col, t⟩ := m
  simp only [] at hm ⊢
  split
  · exact State.answer_same (State.bump_same hm)
  split
  · exact State.answer_same (State.bump_same hm)
  split
  · exact State.answer_same (State.bump_same hm)
  split
  · exact State.answer_same hm
  split
  · exact State.answer_same hm
  split
  · split
    · next heq =>
      have h' := same_pair_trd heq (State.stagePart_same hm)
      split
      · exact State.enqueue_same h'
      · exact State.enqueue_same (State.answer_same h')
    · next heq => exact State.answer_same (same_pair_trd heq (State.stagePart_same hm))
  · exact State.enqueue_same hm

theorem State.admitCmd_same {o : Nat} {b : State} {s : State} {epoch : Nat} {h : CmdHead} {op : Nat} {body : List Nat} (hk : Same o b s) (ho : 172034 &&& o = 172034 := by exact mask_sub (by decide) ho) :
    Same o b (State.admitCmd s epoch h op body) := by
  unfold State.admitCmd
  (try simp only [])
  with_reducible repeat' (first | exact hk | exact mask_sub (by decide) ho | apply State.admitMetered_same | apply State.chargeRefused_same | apply State.answer_same | apply ite_same | (rename_i e; refine same_pair_snd e ?_) | (rename_i e; refine same_pair_fst e ?_) | (rename_i e; refine same_pair_trd e ?_) | split)

theorem State.admitFrame_same {o : Nat} {b : State} {s : State} {f : RxFrame} (hk : Same o b s) (ho : 172034 &&& o = 172034 := by exact mask_sub (by decide) ho) :
    Same o b (State.admitFrame s f) := by
  unfold State.admitFrame
  (try simp only [])
  with_reducible repeat' (first | exact hk | exact mask_sub (by decide) ho | apply State.admitCmd_same | refine State.over_same (fun _ _ hk => ?_) ?_ | split)

theorem State.admitBatch_same {o : Nat} {b : State} {s : State} (hk : Same o b s) (ho : 134389762 &&& o = 134389762 := by exact mask_sub (by decide) ho) :
    Same o b (State.admitBatch s) := by
  exact State.over_same (fun _ _ h => State.admitFrame_same h) (State.setLinks_same (State.takeBatch_same hk))

theorem State.yellowExpire_same {o : Nat} {b : State} {s : State} (hk : Same o b s) (ho : 172034 &&& o = 172034 := by exact mask_sub (by decide) ho) :
    Same o b (State.yellowExpire s) := by
  unfold State.yellowExpire
  (try simp only [])
  with_reducible repeat' (first | exact hk | exact mask_sub (by decide) ho | apply State.setSched_same | apply State.due_same | apply State.answer_same | apply State.bump_same | refine State.over_same (fun _ _ hk => ?_) ?_ | split)

theorem State.release_same {o : Nat} {b : State} {s : State} {q : Nat} {c : QCmd} (hk : Same o b s) (ho : 78900885950 &&& o = 78900885950 := by exact mask_sub (by decide) ho) :
    Same o b (State.release s q c) := by
  unfold State.release
  (try simp only [])
  with_reducible repeat' (first | exact hk | exact mask_sub (by decide) ho | apply State.updQueue_same | apply State.setSched_same | apply State.runCmd_same | apply ite_same | split)

theorem releaseRound_same {o : Nat} {b : State} {s0 : State} {qs : List Nat} {slot : Int} {yellow : Bool} {n : Nat} {x : State × Int × List Nat}
    (hk : Same o b x.1) (ho : 78900885950 &&& o = 78900885950 := by exact mask_sub (by decide) ho) : Same o b (releaseRound s0 qs slot yellow n x).1 := by
  induction n generalizing x with
  | zero => exact hk
  | succ n ih =>
    obtain ⟨s, budget, held⟩ := x
    unfold releaseRound
    split
    · exact hk
    · split
      · exact hk
      · split
        · exact ih hk
        · split
          · exact hk
          · exact ih (State.release_same hk)

theorem releaseRounds_same {o : Nat} {b : State} {s0 : State} {qs : List Nat} {slot : Int} {x : State × Int × List Nat} (hk : Same o b x.1) (ho : 78900885950 &&& o = 78900885950 := by exact mask_sub (by decide) ho) :
    Same o b (releaseRounds s0 qs slot x).1 :=
  releaseRound_same (releaseRound_same hk)

theorem State.releaseAll_same {o : Nat} {b : State} {s : State} (hk : Same o b s) (ho : 78900885950 &&& o = 78900885950 := by exact mask_sub (by decide) ho) :
    Same o b (State.releaseAll s) := by
  unfold State.releaseAll
  simp only []
  split
  · refine releaseRounds_same ?_
    split
    · exact releaseRounds_same hk
    · exact hk
  · exact releaseRounds_same hk

theorem State.unitsFenced_same {o : Nat} {b : State} {s : State} {before : Nat} (hk : Same o b s) (ho : 4194306 &&& o = 4194306 := by exact mask_sub (by decide) ho) :
    Same o b (State.unitsFenced s before) := by
  unfold State.unitsFenced
  (try simp only [])
  with_reducible repeat' (first | exact hk | exact mask_sub (by decide) ho | apply State.dropLink_same | apply State.haltGen_same | apply State.stopGen_same | apply State.updGen_same | refine State.over_same (fun _ _ hk => ?_) ?_ | split)

theorem State.toPoint_same {o : Nat} {b : State} {s : State} (hk : Same o b s) (ho : 1 &&& o = 1 := by exact mask_sub (by decide) ho) :
    Same o b (State.toPoint s) := by
  exact Same.clk_ hk (mask_sub (by decide) ho)

theorem State.pointWork_same {o : Nat} {b : State} {s : State} {differ : Bool} (hk : Same o b s) (ho : 78900885950 &&& o = 78900885950 := by exact mask_sub (by decide) ho) :
    Same o b (State.pointWork s differ) := by
  unfold State.pointWork
  (try simp only [])
  with_reducible repeat' (first | exact hk | exact mask_sub (by decide) ho | apply State.unitsFenced_same | apply State.releaseAll_same | apply State.yellowExpire_same | apply State.admitBatch_same | apply State.refillMeters_same | apply State.setSched_same | apply State.settleFences_same | apply State.drainRing_same | apply State.buildAll_same | apply State.returnPower_same | apply State.centralDivergence_same | apply State.takeResort_same | apply State.tryAll_same | apply State.faultRound_same | apply ite_same | split)

theorem State.admissionPoint_same {o : Nat} {b : State} {s : State} {differ : Bool} (hk : Same o b s) (ho : 78900885951 &&& o = 78900885951 := by exact mask_sub (by decide) ho) :
    Same o b (State.admissionPoint s differ) := by
  unfold State.admissionPoint
  (try simp only [])
  with_reducible repeat' (first | exact hk | exact mask_sub (by decide) ho | apply State.pointWork_same | apply State.toPoint_same | apply State.timeTo_same | apply ite_same | split)

theorem State.refillBuckets_same {o : Nat} {b : State} {s : State} (hk : Same o b s) (ho : 2 &&& o = 2 := by exact mask_sub (by decide) ho) :
    Same o b (State.refillBuckets s) := by
  unfold State.refillBuckets
  (try simp only [])
  with_reducible repeat' (first | exact hk | exact mask_sub (by decide) ho | apply State.wrS_same | refine State.over_same (fun _ _ hk => ?_) ?_ | apply ite_same | split)

theorem State.sampleQueues_same {o : Nat} {b : State} {s : State} (hk : Same o b s) (ho : 2 &&& o = 2 := by exact mask_sub (by decide) ho) :
    Same o b (State.sampleQueues s) := by
  unfold State.sampleQueues
  (try simp only [])
  with_reducible repeat' (first | exact hk | exact mask_sub (by decide) ho | apply State.bump_same | apply State.wr_same | refine State.over_same (fun _ _ hk => ?_) ?_ | (rename_i e; refine same_pair_snd e ?_) | (rename_i e; refine same_pair_fst e ?_) | (rename_i e; refine same_pair_trd e ?_) | split)

end Sys2Proof.Machine
end

