-- ==== Sys2Proof/Laws/SameFrame.lean ====
section
/-! SUPPORT. Laws/SameFrame.lean: what every operation of Machine/Frame.lean leaves (Laws/Same.lean). -/

set_option linter.all false
set_option Elab.async false

namespace Sys2Proof.Machine

open Sys2Proof

theorem State.releaseDeadline_same {o : Nat} {b : State} {s : State} {overran : List Nat} {margins : List (Nat × Nat)} {found replayed : List Mismatch} (hk : Same o b s) (ho : 276955138 &&& o = 276955138 := by exact mask_sub (by decide) ho) :
    Same o b (State.releaseDeadline s overran margins found replayed) := by
  unfold State.releaseDeadline
  (try simp only [])
  with_reducible repeat' (first | exact hk | exact mask_sub (by decide) ho | apply State.divReplay_same | apply State.divHold_same | apply State.noteMargin_same | apply State.completeFrame_same | apply State.raise_same | apply State.bump_same | refine State.over_same (fun _ _ hk => ?_) ?_ | apply ite_same | split)

theorem State.modeApply_same {o : Nat} {b : State} {s : State} (hk : Same o b s) (ho : 1342370014 &&& o = 1342370014 := by exact mask_sub (by decide) ho) :
    Same o b (State.modeApply s) := by
  unfold State.modeApply
  have h1 : ∀ (u : State) (m : Mode) (n : Option (Mode × Nat)) (l : List Shadow), Same o b u → Same o b { u with mode := m, modeNext := n, reg := { u.reg with shadows := l } } := fun u m n l hu =>
    Same.reg_ (s := { u with mode := m, modeNext := n }) (Same.modeNext_ (s := { u with mode := m }) (Same.mode_ hu (mask_sub (by decide) ho)) (mask_sub (by decide) ho)) (fun _ => rfl) (fun _ => rfl) (fun _ => rfl) (part_off (by decide) ho) (fun _ => ⟨rfl, rfl, rfl⟩)
  (try simp only [])
  with_reducible repeat' (first | exact hk | exact h1 _ _ _ _ hk | exact mask_sub (by decide) ho | exact fun _ => rfl | exact fun _ => ⟨rfl, rfl, rfl⟩ | exact part_off (by decide) ho | apply State.dropLink_same | apply State.setPw_same | apply State.leaveSolo_same | apply State.enterSolo_same | apply State.dropExactOnly_same | apply State.loadAmps_same | apply State.alertState_same | refine State.over_same (fun _ _ hk => ?_) ?_ | apply ite_same | (rename_i e; refine same_pair_snd e ?_) | (rename_i e; refine same_pair_fst e ?_) | (rename_i e; refine same_pair_trd e ?_) | split | fail_if_no_progress apply Same.com_ | fail_if_no_progress apply Same.mode_ | fail_if_no_progress apply Same.modeNext_ | fail_if_no_progress apply Same.reg_)

theorem State.hostItem_same {o : Nat} {b : State} {s : State} {h : RegHit} (hk : Same o b s) (ho : 68288514 &&& o = 68288514 := by exact mask_sub (by decide) ho) :
    Same o b (State.hostItem s h) := by
  unfold State.hostItem
  (try simp only [])
  with_reducible repeat' (first | exact hk | exact mask_sub (by decide) ho | apply State.checkPrated_same | apply State.hostCal_same | apply State.setHka_same | apply State.advance_same | apply State.wr_same | (rename_i e; refine same_pair_snd e ?_) | (rename_i e; refine same_pair_fst e ?_) | (rename_i e; refine same_pair_trd e ?_) | split)

theorem State.hostLevel_same {o : Nat} {b : State} {s : State} {x : Shadow × RegHit} (hk : Same o b s) (ho : 33554432 &&& o = 33554432 := by exact mask_sub (by decide) ho) :
    Same o b (State.hostLevel s x) := by
  unfold State.hostLevel
  (try simp only [])
  with_reducible repeat' (first | exact hk | exact mask_sub (by decide) ho | apply State.putLevel_same | apply ite_same | split)

theorem State.applyWrites_same {o : Nat} {b : State} {s : State} (hk : Same o b s) (ho : 244490270 &&& o = 244490270 := by exact mask_sub (by decide) ho) :
    Same o b (State.applyWrites s) := by
  unfold State.applyWrites
  (try simp only [])
  with_reducible repeat' (first | exact hk | exact mask_sub (by decide) ho | exact fun _ => rfl | exact fun _ => ⟨rfl, rfl, rfl⟩ | exact part_off (by decide) ho | apply State.hostLevel_same | apply State.hostItem_same | apply State.clampMeters_same | apply State.ahead_same | apply State.masksApplied_same | apply State.selected_same | apply State.ppsMarkNow_same | apply State.hostCal_same | apply State.afterWrites_same | apply State.applyRequests_same | refine State.over_same (fun _ _ hk => ?_) ?_ | apply ite_same | split | fail_if_no_progress apply Same.reg_)

theorem State.fenceSlice_same {o : Nat} {b : State} {s : State} {t j : Nat} (hk : Same o b s) (ho : 393218 &&& o = 393218 := by exact mask_sub (by decide) ho) :
    Same o b (State.fenceSlice s t j) := by
  unfold State.fenceSlice
  (try simp only [])
  with_reducible repeat' (first | exact hk | exact mask_sub (by decide) ho | apply State.spareFails_same | apply State.loseSlice_same | apply State.updSense_same | apply State.wr_same | apply ite_same | split)

theorem State.fenceTile_same {o : Nat} {b : State} {s : State} {t : Nat} (hk : Same o b s) (ho : 14 &&& o = 14 := by exact mask_sub (by decide) ho) :
    Same o b (State.fenceTile s t) := by
  unfold State.fenceTile
  (try simp only [])
  with_reducible repeat' (first | exact hk | exact mask_sub (by decide) ho | apply State.fenceCtx_same | apply State.setWord_same | refine State.over_same (fun _ _ hk => ?_) ?_ | apply ite_same | split)

theorem State.takeReaction_same {o : Nat} {b : State} {s : State} {r : Reaction} (hk : Same o b s) (ho : 393230 &&& o = 393230 := by exact mask_sub (by decide) ho) :
    Same o b (State.takeReaction s r) := by
  unfold State.takeReaction
  (try simp only [])
  with_reducible repeat' (first | exact hk | exact mask_sub (by decide) ho | apply State.fenceTile_same | apply State.fenceSlice_same | apply State.fenceCtx_same | (rename_i e; refine same_pair_snd e ?_) | (rename_i e; refine same_pair_fst e ?_) | (rename_i e; refine same_pair_trd e ?_) | split)

theorem State.takeReactions_same {o : Nat} {b : State} {s : State} (hk : Same o b s) (ho : 393230 &&& o = 393230 := by exact mask_sub (by decide) ho) :
    Same o b (State.takeReactions s) := by
  unfold State.takeReactions
  (try simp only [])
  with_reducible repeat' (first | exact hk | exact mask_sub (by decide) ho | apply State.takeReaction_same | apply State.due_same | apply State.react_same | refine State.over_same (fun _ _ hk => ?_) ?_ | split | fail_if_no_progress apply Same.faults_)

theorem State.unfenceOne_same {o : Nat} {b : State} {s : State} {x : Nat × Nat} (hk : Same o b s) (ho : 2 &&& o = 2 := by exact mask_sub (by decide) ho) :
    Same o b (State.unfenceOne s x) := by
  unfold State.unfenceOne
  (try simp only [])
  with_reducible repeat' (first | exact hk | exact mask_sub (by decide) ho | apply State.setWord_same | (rename_i e; refine same_pair_snd e ?_) | (rename_i e; refine same_pair_fst e ?_) | (rename_i e; refine same_pair_trd e ?_) | split)

theorem State.takeUnfences_same {o : Nat} {b : State} {s : State} (hk : Same o b s) (ho : 131074 &&& o = 131074 := by exact mask_sub (by decide) ho) :
    Same o b (State.takeUnfences s) := by
  unfold State.takeUnfences
  (try simp only [])
  with_reducible repeat' (first | exact hk | exact mask_sub (by decide) ho | apply State.unfenceOne_same | refine State.over_same (fun _ _ hk => ?_) ?_ | split | fail_if_no_progress apply Same.faults_)

theorem State.latchConds_same {o : Nat} {b : State} {s : State} (hk : Same o b s) (ho : 4194304 &&& o = 4194304 := by exact mask_sub (by decide) ho) :
    Same o b (State.latchConds s) := by
  unfold State.latchConds
  (try simp only [])
  with_reducible repeat' (first | exact hk | exact mask_sub (by decide) ho | apply State.updGen_same | refine State.over_same (fun _ _ hk => ?_) ?_ | apply ite_same | split)

theorem State.settleOne_same {o : Nat} {b : State} {s : State} {c : Commit} (hk : Same o b s) (ho : 4108 &&& o = 4108 := by exact mask_sub (by decide) ho) :
    Same o b (State.settleOne s c) := by
  unfold State.settleOne
  (try simp only [])
  with_reducible repeat' (first | exact hk | exact mask_sub (by decide) ho | apply State.updCommit_same | apply State.bumpB_same | apply State.wrB_same | apply ite_same | (rename_i e; refine same_pair_snd e ?_) | (rename_i e; refine same_pair_fst e ?_) | (rename_i e; refine same_pair_trd e ?_) | split)

theorem State.referenceOne_same {o : Nat} {b : State} {s : State} {num : Nat} {k : Conn} (hk : Same o b s) (ho : 68719480832 &&& o = 68719480832 := by exact mask_sub (by decide) ho) :
    Same o b (State.referenceOne s num k) := by
  unfold State.referenceOne
  (try simp only [])
  with_reducible repeat' (first | exact hk | exact mask_sub (by decide) ho | apply State.updCommit_same | apply State.free_same | apply ite_same | (rename_i e; refine same_pair_snd e ?_) | (rename_i e; refine same_pair_fst e ?_) | (rename_i e; refine same_pair_trd e ?_) | split | fail_if_no_progress apply Same.com_)

theorem State.settleFrame_same {o : Nat} {b : State} {s : State} (hk : Same o b s) (ho : 68719480844 &&& o = 68719480844 := by exact mask_sub (by decide) ho) :
    Same o b (State.settleFrame s) := by
  unfold State.settleFrame
  (try simp only [])
  with_reducible repeat' (first | exact hk | exact mask_sub (by decide) ho | apply State.referenceOne_same | apply State.settleOne_same | apply State.updCommit_same | refine State.over_same (fun _ _ hk => ?_) ?_ | apply ite_same | (rename_i e; refine same_pair_snd e ?_) | (rename_i e; refine same_pair_fst e ?_) | (rename_i e; refine same_pair_trd e ?_) | split)

theorem State.availFrame_same {o : Nat} {b : State} {s : State} (hk : Same o b s) (ho : 4294967296 &&& o = 4294967296 := by exact mask_sub (by decide) ho) :
    Same o b (State.availFrame s) := by
  unfold State.availFrame
  (try simp only [])
  with_reducible repeat' (first | exact hk | exact mask_sub (by decide) ho | apply ite_same | split | fail_if_no_progress apply Same.avail_)

theorem State.commitDone_same {o : Nat} {b : State} {s : State} (hk : Same o b s) (ho : 12288 &&& o = 12288 := by exact mask_sub (by decide) ho) :
    Same o b (State.commitDone s) := by
  unfold State.commitDone
  (try simp only [])
  with_reducible repeat' (first | exact hk | exact mask_sub (by decide) ho | apply State.commitDoneNotice_same | apply State.dropCommit_same | refine State.over_same (fun _ _ hk => ?_) ?_ | split)

theorem State.commitSwitch_same {o : Nat} {b : State} {s : State} {chip : Nat} {late differ : List Nat} (hk : Same o b s) (ho : 276961294 &&& o = 276961294 := by exact mask_sub (by decide) ho) :
    Same o b (State.commitSwitch s chip late differ) := by
  unfold State.commitSwitch
  (try simp only [])
  with_reducible repeat' (first | exact hk | exact mask_sub (by decide) ho | apply State.holdSelection_same | apply State.centralDivergence_same | apply State.countEmphasis_same | apply State.due_same | apply State.alignCommit_same | apply State.switchCommit_same | apply State.bumpB_same | refine State.over_same (fun _ _ hk => ?_) ?_ | apply State.when_same | apply ite_same | split)

theorem State.lateTileApply_same {o : Nat} {b : State} {s : State} {t : Nat} (hk : Same o b s) (ho : 268435458 &&& o = 268435458 := by exact mask_sub (by decide) ho) :
    Same o b (State.lateTileApply s t) := by
  unfold State.lateTileApply
  (try simp only [])
  with_reducible repeat' (first | exact hk | exact mask_sub (by decide) ho | apply State.freeSelection_same | apply State.select_same | refine State.over_same (fun _ _ hk => ?_) ?_ | apply ite_same | (rename_i e; refine same_pair_snd e ?_) | (rename_i e; refine same_pair_fst e ?_) | (rename_i e; refine same_pair_trd e ?_) | split)

theorem State.tokenLost_same {o : Nat} {b : State} {s : State} (hk : Same o b s) (ho : 178178 &&& o = 178178 := by exact mask_sub (by decide) ho) :
    Same o b (State.tokenLost s) := by
  unfold State.tokenLost
  (try simp only [])
  with_reducible repeat' (first | exact hk | exact mask_sub (by decide) ho | apply State.showTokens_same | apply State.refuseCommit_same | apply State.raise_same | apply State.bump_same | refine State.over_same (fun _ _ hk => ?_) ?_ | (rename_i e; refine same_pair_snd e ?_) | (rename_i e; refine same_pair_fst e ?_) | (rename_i e; refine same_pair_trd e ?_) | split | fail_if_no_progress apply Same.com_)

theorem State.endFlights_same {o : Nat} {b : State} {s : State} (hk : Same o b s) (ho : 32768 &&& o = 32768 := by exact mask_sub (by decide) ho) :
    Same o b (State.endFlights s) := by
  unfold State.endFlights
  (try simp only [])
  with_reducible repeat' (first | exact hk | exact mask_sub (by decide) ho | apply State.setSched_same | apply State.endFlight_same | refine State.over_same (fun _ _ hk => ?_) ?_ | split)

theorem State.openLanes_same {o : Nat} {b : State} {s : State} (hk : Same o b s) (ho : 68719484928 &&& o = 68719484928 := by exact mask_sub (by decide) ho) :
    Same o b (State.openLanes s) := by
  unfold State.openLanes
  (try simp only [])
  with_reducible repeat' (first | exact hk | exact mask_sub (by decide) ho | apply State.announce_same | apply State.setLinks_same | refine State.over_same (fun _ _ hk => ?_) ?_ | apply ite_same | split)

theorem State.endRouteWindow_same {o : Nat} {b : State} {s : State} (hk : Same o b s) (ho : 2060 &&& o = 2060 := by exact mask_sub (by decide) ho) :
    Same o b (State.endRouteWindow s) := by
  unfold State.endRouteWindow
  (try simp only [])
  with_reducible repeat' (first | exact hk | exact mask_sub (by decide) ho | apply State.setRoute_same | apply State.wrP_same | refine State.over_same (fun _ _ hk => ?_) ?_ | apply ite_same | split)

theorem State.endFrame_same {o : Nat} {b : State} {s : State} {x : FrameIn} (hk : Same o b s) (ho : 111542274 &&& o = 111542274 := by exact mask_sub (by decide) ho) :
    Same o b (State.endFrame s x) := by
  unfold State.endFrame
  (try simp only [])
  with_reducible repeat' (first | exact hk | exact mask_sub (by decide) ho | apply State.calBefore_same | apply State.allStatus_same | apply State.completeFrame_same | apply State.pushSums_same | apply State.senseBefore_same | apply ite_same | split)

theorem State.afterGap_same {o : Nat} {b : State} {s : State} (hk : Same o b s) (ho : 136314880 &&& o = 136314880 := by exact mask_sub (by decide) ho) :
    Same o b (State.afterGap s) := by
  unfold State.afterGap
  (try simp only [])
  with_reducible repeat' (first | exact hk | exact mask_sub (by decide) ho | apply State.setTime_same | apply ite_same | (rename_i e; refine same_pair_snd e ?_) | (rename_i e; refine same_pair_fst e ?_) | (rename_i e; refine same_pair_trd e ?_) | split | fail_if_no_progress apply Same.dith_)

theorem State.tileBoundary_same {o : Nat} {b : State} {s : State} {x : FrameIn} (hk : Same o b s) (ho : 118648387614 &&& o = 118648387614 := by exact mask_sub (by decide) ho) :
    Same o b (State.tileBoundary s x) := by
  unfold State.tileBoundary
  (try simp only [])
  with_reducible repeat' (first | exact hk | exact mask_sub (by decide) ho | apply State.afterGap_same | apply State.availFrame_same | apply State.settleFrame_same | apply State.latchConds_same | apply State.takeUnfences_same | apply State.takeReactions_same | apply State.applyWrites_same | apply State.dustScaled_same | apply State.watchStep_same | apply State.divResume_same | apply State.divMeasure_same | apply State.divRelease_same | apply State.sweepFrame_same | apply State.calFrame_same | apply State.updateFailed_same | apply State.applyPrimer_same | apply State.handshakes_same | apply State.releaseOutputs_same | apply State.latchFenced_same | apply State.applyTrims_same | apply State.applyModes_same | apply State.applyLatches_same | apply State.endBlanking_same | apply State.allBs_same | apply State.releaseFrame_same | apply State.latchSpa_same | apply State.latchSpp_same | apply State.validityPass_same | apply State.latchStreams_same | apply State.showWords_same | apply State.clearChanged_same | apply State.bindSlots_same | apply State.hkaTrims_same | apply State.watermarkNotices_same | apply State.captureBoundary_same | apply State.senseAfter_same | apply ite_same | split | fail_if_no_progress apply Same.evt_)

theorem State.centralBoundary_same {o : Nat} {b : State} {s : State} {x : FrameIn} (hk : Same o b s) (ho : 80941869326 &&& o = 80941869326 := by exact mask_sub (by decide) ho) :
    Same o b (State.centralBoundary s x) := by
  unfold State.centralBoundary
  (try simp only [])
  with_reducible repeat' (first | exact hk | exact mask_sub (by decide) ho | apply State.endRouteWindow_same | apply State.openLanes_same | apply State.endFlights_same | apply State.sampleQueues_same | apply State.refillBuckets_same | apply State.settleFences_same | apply State.clearLocks_same | apply State.dustFrame_same | apply State.ringFrame_same | apply State.stopTiles_same | apply State.rtcFrames_same | apply State.cellarVote_same | apply State.timeFrame_same | apply State.beginGap_same | apply State.ppsStep_same | apply State.endMarginWindow_same | apply State.rearrangeNotices_same | refine State.over_same (fun _ _ hk => ?_) ?_ | apply ite_same | split)

theorem State.frameBoundary_same {o : Nat} {b : State} {s : State} {x : FrameIn} (hk : Same o b s) (ho : 119722146079 &&& o = 119722146079 := by exact mask_sub (by decide) ho) :
    Same o b (State.frameBoundary s x) := by
  unfold State.frameBoundary
  (try simp only [])
  with_reducible repeat' (first | exact hk | exact mask_sub (by decide) ho | apply State.centralBoundary_same | apply State.tileBoundary_same | apply State.endFrame_same | apply State.takeUnfences_same | apply State.takeReactions_same | apply State.applyWrites_same | apply State.setSched_same | apply State.timeTo_same | apply ite_same | split | fail_if_no_progress apply Same.clk_)

end Sys2Proof.Machine
end

