-- ==== Sys2Proof/Laws/SameRowOps.lean ====
section
/-! SUPPORT. Laws/SameRowOps.lean: what every operation of Machine/RowOps.lean leaves (Laws/Same.lean). -/

set_option linter.all false
set_option Elab.async false

namespace Sys2Proof.Machine

open Sys2Proof

theorem State.applyExpress_same {o : Nat} {b : State} {s : State} {x : Upd} (hk : Same o b s) (ho : 33554446 &&& o = 33554446 := by exact mask_sub (by decide) ho) :
    Same o b (State.applyExpress s x) := by
  unfold State.applyExpress
  (try simp only [])
  with_reducible repeat' (first | exact hk | exact mask_sub (by decide) ho | apply State.releaseLevel_same | apply State.store_same | apply ite_same | (rename_i e; refine same_pair_snd e ?_) | (rename_i e; refine same_pair_fst e ?_) | (rename_i e; refine same_pair_trd e ?_) | split)

theorem State.expressUpdate_same {o : Nat} {b : State} {s : State} {n chip : Nat} {codes : List Nat} {applied differ : Bool} (hk : Same o b s) (ho : 311033870 &&& o = 311033870 := by exact mask_sub (by decide) ho) :
    Same o b (State.expressUpdate s n chip codes applied differ) := by
  unfold State.expressUpdate
  (try simp only [])
  with_reducible repeat' (first | exact hk | exact mask_sub (by decide) ho | apply State.applyExpress_same | apply State.expressMismatch_same | apply State.chipRecords_same | apply State.noteExpress_same | apply State.setLoop_same | apply ite_same | (rename_i e; refine same_pair_snd e ?_) | (rename_i e; refine same_pair_fst e ?_) | (rename_i e; refine same_pair_trd e ?_) | split)

theorem State.noteStream_same {o : Nat} {b : State} {s : State} {h : CmdHead} {op : Nat} (hk : Same o b s) (ho : 8192 &&& o = 8192 := by exact mask_sub (by decide) ho) :
    Same o b (State.noteStream s h op) := by
  unfold State.noteStream
  (try simp only [])
  with_reducible repeat' (first | exact hk | exact mask_sub (by decide) ho | apply State.updPrin_same | apply ite_same | split)

theorem State.effect_same {o : Nat} {b : State} {s : State} {h : CmdHead} {c : Cmd} (hk : Same o b s) (ho : 78900885950 &&& o = 78900885950 := by exact mask_sub (by decide) ho) :
    Same o b (State.effect s h c) := by
  unfold State.effect
  (try simp only [])
  with_reducible repeat' (first | exact hk | exact mask_sub (by decide) ho | apply State.noteStream_same | apply State.setSched_same | apply State.runCmd_same | split)

theorem State.effectOrWait_same {o : Nat} {b : State} {s : State} {h : CmdHead} {c : Cmd} {cost : Nat} (hk : Same o b s) (ho : 78900885950 &&& o = 78900885950 := by exact mask_sub (by decide) ho) :
    Same o b (State.effectOrWait s h c cost) := by
  unfold State.effectOrWait
  (try simp only [])
  with_reducible repeat' (first | exact hk | exact mask_sub (by decide) ho | apply State.effect_same | apply State.enqueue_same | apply State.answer_same | apply State.bump_same | apply ite_same | split)

theorem State.command_same {o : Nat} {b : State} {s : State} {h : CmdHead} {c : Cmd} (hk : Same o b s) (ho : 78900885950 &&& o = 78900885950 := by exact mask_sub (by decide) ho) :
    Same o b (State.command s h c) := by
  unfold State.command
  simp only []
  split
  · exact hk
  split
  · exact State.answer_same hk
  split
  · split
    · next heq =>
      have h' := same_pair_trd heq (State.stagePart_same hk)
      split
      · exact State.effectOrWait_same h'
      · exact State.effectOrWait_same (State.answer_same h')
    · next heq => exact State.answer_same (same_pair_trd heq (State.stagePart_same hk))
  · exact State.effectOrWait_same hk

theorem State.noteStatus_same {o : Nat} {b : State} {s : State} {r : Requester} {code : Nat} (hk : Same o b s) (ho : 16384 &&& o = 16384 := by exact mask_sub (by decide) ho) :
    Same o b (State.noteStatus s r code) := by
  unfold State.noteStatus
  (try simp only [])
  with_reducible repeat' (first | exact hk | exact mask_sub (by decide) ho | apply State.setSb_same | (rename_i e; refine same_pair_snd e ?_) | (rename_i e; refine same_pair_fst e ?_) | (rename_i e; refine same_pair_trd e ?_) | split)

theorem State.regWrite_same {o : Nat} {b : State} {s : State} {r : Requester} {a : Nat} {data : List Nat} (hk : Same o b s) (ho : 77827098686 &&& o = 77827098686 := by exact mask_sub (by decide) ho) :
    Same o b (State.regWrite s r a data) := by
  unfold State.regWrite
  (try simp only [])
  with_reducible repeat' (first | exact hk | exact mask_sub (by decide) ho | apply State.noteStatus_same | apply State.writeMany_same | apply ite_same | (rename_i e; refine same_pair_snd e ?_) | (rename_i e; refine same_pair_fst e ?_) | (rename_i e; refine same_pair_trd e ?_) | split)

theorem State.regRead_same {o : Nat} {b : State} {s : State} {r : Requester} {a n : Nat} (hk : Same o b s) (ho : 135282734 &&& o = 135282734 := by exact mask_sub (by decide) ho) :
    Same o b (State.regRead s r a n) := by
  unfold State.regRead
  (try simp only [])
  with_reducible repeat' (first | exact hk | exact mask_sub (by decide) ho | apply State.setSb_same | apply State.readMany_same | apply ite_same | (rename_i e; refine same_pair_snd e ?_) | (rename_i e; refine same_pair_fst e ?_) | (rename_i e; refine same_pair_trd e ?_) | split)

theorem State.writeFields_same {o : Nat} {b : State} {s : State} {r : Requester} {a : Nat} {l : List (FieldAt × Nat)} (hk : Same o b s) (ho : 77827098686 &&& o = 77827098686 := by exact mask_sub (by decide) ho) :
    Same o b (State.writeFields s r a l) := by
  unfold State.writeFields
  (try simp only [])
  with_reducible repeat' (first | exact hk | exact mask_sub (by decide) ho | apply State.regWrite_same | refine foldl_same (fun _ _ hk => ?_) ?_ | refine foldl_fst_same (fun _ _ hk => ?_) ?_ | refine foldl_snd_same (fun _ _ hk => ?_) ?_ | split)

theorem State.faultMessage_same {o : Nat} {b : State} {s : State} {m : FaultMsg} (hk : Same o b s) (ho : 131072 &&& o = 131072 := by exact mask_sub (by decide) ho) :
    Same o b (State.faultMessage s m) := by
  unfold State.faultMessage
  (try simp only [])
  with_reducible repeat' (first | exact hk | exact mask_sub (by decide) ho | apply State.raise_same | apply ite_same | split)

theorem State.endMessage_same {o : Nat} {b : State} {s : State} {m : FaultMsg} (hk : Same o b s) (ho : 131072 &&& o = 131072 := by exact mask_sub (by decide) ho) :
    Same o b (State.endMessage s m) := by
  unfold State.endMessage
  (try simp only [])
  with_reducible repeat' (first | exact hk | exact mask_sub (by decide) ho | apply State.endReport_same | apply ite_same | split)

theorem State.coreRestart_same {o : Nat} {b : State} {s : State} {p : Plane} (hk : Same o b s) (ho : 131072 &&& o = 131072 := by exact mask_sub (by decide) ho) :
    Same o b (State.coreRestart s p) := by
  unfold State.coreRestart
  (try simp only [])
  with_reducible repeat' (first | exact hk | exact mask_sub (by decide) ho | apply ite_same | (rename_i e; refine same_pair_snd e ?_) | (rename_i e; refine same_pair_fst e ?_) | (rename_i e; refine same_pair_trd e ?_) | split | fail_if_no_progress apply Same.faults_)

theorem State.watchdog_same {o : Nat} {b : State} {s : State} {p : Plane} (hk : Same o b s) (ho : 131072 &&& o = 131072 := by exact mask_sub (by decide) ho) :
    Same o b (State.watchdog s p) := by
  unfold State.watchdog
  (try simp only [])
  with_reducible repeat' (first | exact hk | exact mask_sub (by decide) ho | apply State.raise_same | apply ite_same | split)

theorem State.trngHealth_same {o : Nat} {b : State} {s : State} (hk : Same o b s) (ho : 131072 &&& o = 131072 := by exact mask_sub (by decide) ho) :
    Same o b (State.trngHealth s) := by
  unfold State.trngHealth
  (try simp only [])
  with_reducible repeat' (first | exact hk | exact mask_sub (by decide) ho | apply State.raise_same | apply ite_same | split)

theorem State.enterRun_same {o : Nat} {b : State} {s : State} {ms : Nat} (hk : Same o b s) (ho : 77656678734 &&& o = 77656678734 := by exact mask_sub (by decide) ho) :
    Same o b (State.enterRun s ms) := by
  unfold State.enterRun
  (try simp only [])
  with_reducible repeat' (first | exact hk | exact mask_sub (by decide) ho | apply State.openLanes_same | apply State.runEntry_same | apply ite_same | split)

theorem State.roundRow_same {o : Nat} {b : State} {s : State} {counts : List (Nat × Nat)} (hk : Same o b s) (ho : 69324701698 &&& o = 69324701698 := by exact mask_sub (by decide) ho) :
    Same o b (State.roundRow s counts) := by
  unfold State.roundRow
  (try simp only [])
  with_reducible repeat' (first | exact hk | exact mask_sub (by decide) ho | apply State.trySession_same | apply State.sensorRound_same | apply ite_same | split)

end Sys2Proof.Machine
end

