-- ==== Sys2Proof/Laws/SameExec.lean ====
section
/-! SUPPORT. Laws/SameExec.lean: what every command leaves (Laws/Same.lean). -/

set_option linter.all false
set_option Elab.async false

namespace Sys2Proof.Machine

open Sys2Proof

theorem gated_same {o : Nat} {b : State} {ok : Bool} {n : String} {u t : State} (hu : Same o b u) (h : gated ok n u = .next t) : Same o b t := by
  unfold gated at h
  split at h
  · cases h; exact hu
  · cases h

theorem State.ringMessage_same {o : Nat} {b s : State} {f : State → State} (hf : ∀ s, Same o b s → Same o b (f s)) (hk : Same o b s) :
    Same o b (s.ringMessage f) := by
  unfold State.ringMessage
  split
  · exact hf _ hk
  · exact hk

theorem State.effectOrWait_only {o : Nat} {b s : State} {h : CmdHead} {c : Cmd} {cost : Nat} (hk : Same o b s)
    (hrun : ∀ s, Same o b s → Same o b (s.runCmd h c)) (ho : 172034 &&& o = 172034) : Same o b (s.effectOrWait h c cost) := by
  unfold State.effectOrWait
  simp only []
  split
  · unfold State.effect
    exact hrun _ (State.setSched_same (State.noteStream_same hk))
  · split
    · exact State.answer_same (State.bump_same hk)
    · exact State.enqueue_same hk

/-- A command row changes what its command changes, the queues and the links. -/
theorem State.command_only {o : Nat} {b s : State} {h : CmdHead} {c : Cmd} (hk : Same o b s)
    (hrun : ∀ s h' c', opcodeOf c' = opcodeOf c → Same o b s → Same o b (s.runCmd h' c')) (ho : 172034 &&& o = 172034) : Same o b (s.command h c) := by
  unfold State.command
  simp only []
  split
  · exact hk
  split
  · exact State.answer_same hk
  split
  · next id part parts entries _ =>
    split
    · next h' c' t heq =>
      have h1 := same_pair_trd heq (State.stagePart_same hk)
      have hc : opcodeOf c' = opcodeOf (.stage id part parts entries) := by
        unfold State.stagePart at heq
        simp only [] at heq
        (repeat' split at heq) <;> simp only [Prod.mk.injEq, Option.some.injEq, reduceCtorEq, false_and, and_false] at heq <;>
          (obtain ⟨-, ⟨-, rfl⟩, -⟩ := heq; rfl)
      split
      · exact State.effectOrWait_only h1 (fun s hs => hrun s h' c' hc hs) ho
      · exact State.effectOrWait_only (State.answer_same h1) (fun s hs => hrun s h' c' hc hs) ho
    · next heq => exact State.answer_same (same_pair_trd heq (State.stagePart_same hk))
  · exact State.effectOrWait_only hk (fun s hs => hrun s h c rfl hs) ho

theorem execFrameBoundary_same {o : Nat} {z : State} {x : FrameIn} {s : State} {t : State} (hk : Same o z s) (ho : 136902015263 &&& o = 136902015263) (h : execFrameBoundary x s = .next t) : Same o z t := by
  unfold execFrameBoundary at h
  refine gated_same ?_ h
  with_reducible repeat' (first | exact hk | exact mask_sub (by decide) ho | apply State.frameBoundary_same | apply State.noteMortem_same)

theorem execOfferInstant_same {o : Nat} {z : State} {s : State} {t : State} (hk : Same o z s) (ho : 139264 &&& o = 139264) (h : execOfferInstant s = .next t) : Same o z t := by
  unfold execOfferInstant at h
  refine gated_same ?_ h
  with_reducible repeat' (first | exact hk | exact mask_sub (by decide) ho | apply State.offer_same | apply State.when_same)

theorem execAdmissionPoint_same {o : Nat} {z : State} {differ : Bool} {s : State} {t : State} (hk : Same o z s) (ho : 96080755135 &&& o = 96080755135) (h : execAdmissionPoint differ s = .next t) : Same o z t := by
  unfold execAdmissionPoint at h
  refine gated_same ?_ h
  with_reducible repeat' (first | exact hk | exact mask_sub (by decide) ho | apply State.admissionPoint_same | apply State.noteMortem_same)

theorem execReleaseDeadline_same {o : Nat} {z : State} {overran : List Nat} {margins : List (Nat × Nat)} {found : List Mismatch} {replayed : List Mismatch} {s : State} {t : State} (hk : Same o z s) (ho : 276955138 &&& o = 276955138) (h : execReleaseDeadline overran margins found replayed s = .next t) : Same o z t := by
  unfold execReleaseDeadline at h
  refine gated_same ?_ h
  with_reducible repeat' (first | exact hk | exact mask_sub (by decide) ho | apply State.releaseDeadline_same)

theorem execModeApply_same {o : Nat} {z : State} {s : State} {t : State} (hk : Same o z s) (ho : 1342370014 &&& o = 1342370014) (h : execModeApply s = .next t) : Same o z t := by
  unfold execModeApply at h
  refine gated_same ?_ h
  with_reducible repeat' (first | exact hk | exact mask_sub (by decide) ho | apply State.modeApply_same | apply State.when_same)

theorem execTlCalReq_same {o : Nat} {z : State} {r : Requester} {tile : Nat} {s : State} {t : State} (hk : Same o z s) (ho : 77827098686 &&& o = 77827098686) (h : execTlCalReq r tile s = .next t) : Same o z t := by
  unfold execTlCalReq at h
  refine gated_same ?_ h
  with_reducible repeat' (first | exact hk | exact mask_sub (by decide) ho | apply State.writeFields_same)

theorem execTiaReq_same {o : Nat} {z : State} {r : Requester} {tile : Nat} {s : State} {t : State} (hk : Same o z s) (ho : 77827098686 &&& o = 77827098686) (h : execTiaReq r tile s = .next t) : Same o z t := by
  unfold execTiaReq at h
  refine gated_same ?_ h
  with_reducible repeat' (first | exact hk | exact mask_sub (by decide) ho | apply State.writeFields_same)

theorem execCalAll_same {o : Nat} {z : State} {r : Requester} {s : State} {t : State} (hk : Same o z s) (ho : 77827098686 &&& o = 77827098686) (h : execCalAll r s = .next t) : Same o z t := by
  unfold execCalAll at h
  refine gated_same ?_ h
  with_reducible repeat' (first | exact hk | exact mask_sub (by decide) ho | apply State.writeFields_same)

theorem execTileRunStart_same {o : Nat} {z : State} {tile : Nat} {s : State} {t : State} (hk : Same o z s) (ho : 67108864 &&& o = 67108864) (h : execTileRunStart tile s = .next t) : Same o z t := by
  unfold execTileRunStart at h
  refine gated_same ?_ h
  with_reducible repeat' (first | exact hk | exact mask_sub (by decide) ho | apply State.tileRunStart_same | apply State.when_same)

theorem execTileRunEnd_same {o : Nat} {z : State} {tile : Nat} {s : State} {t : State} (hk : Same o z s) (ho : 67108866 &&& o = 67108866) (h : execTileRunEnd tile s = .next t) : Same o z t := by
  unfold execTileRunEnd at h
  refine gated_same ?_ h
  with_reducible repeat' (first | exact hk | exact mask_sub (by decide) ho | apply State.tileRunEnd_same)

theorem execSvStart_same {o : Nat} {z : State} {r : Requester} {s : State} {t : State} (hk : Same o z s) (ho : 77827098686 &&& o = 77827098686) (h : execSvStart r s = .next t) : Same o z t := by
  unfold execSvStart at h
  refine gated_same ?_ h
  with_reducible repeat' (first | exact hk | exact mask_sub (by decide) ho | apply State.writeFields_same)

theorem execSvAbort_same {o : Nat} {z : State} {r : Requester} {s : State} {t : State} (hk : Same o z s) (ho : 77827098686 &&& o = 77827098686) (h : execSvAbort r s = .next t) : Same o z t := by
  unfold execSvAbort at h
  refine gated_same ?_ h
  with_reducible repeat' (first | exact hk | exact mask_sub (by decide) ho | apply State.writeFields_same)

theorem execSweepPoint_same {o : Nat} {z : State} {s : State} {t : State} (hk : Same o z s) (ho : 67633154 &&& o = 67633154) (h : execSweepPoint s = .next t) : Same o z t := by
  unfold execSweepPoint at h
  refine gated_same ?_ h
  with_reducible repeat' (first | exact hk | exact mask_sub (by decide) ho | apply State.sweepPoint_same)

theorem execSweepEnd_same {o : Nat} {z : State} {s : State} {t : State} (hk : Same o z s) (ho : 67633166 &&& o = 67633166) (h : execSweepEnd s = .next t) : Same o z t := by
  unfold execSweepEnd at h
  refine gated_same ?_ h
  with_reducible repeat' (first | exact hk | exact mask_sub (by decide) ho | apply State.sweepEnd_same)

theorem execSensorRound_same {o : Nat} {z : State} {counts : List (Nat × Nat)} {s : State} {t : State} (hk : Same o z s) (ho : 95094505474 &&& o = 95094505474) (h : execSensorRound counts s = .next t) : Same o z t := by
  unfold execSensorRound at h
  refine gated_same ?_ h
  with_reducible repeat' (first | exact hk | exact mask_sub (by decide) ho | apply State.sensorRound_same | apply State.roundRow_same | apply State.noteMortem_same | apply State.when_same)

theorem execSensorFail_same {o : Nat} {z : State} {sensor : Nat} {cause : Nat} {s : State} {t : State} (hk : Same o z s) (ho : 131074 &&& o = 131074) (h : execSensorFail sensor cause s = .next t) : Same o z t := by
  unfold execSensorFail at h
  refine gated_same ?_ h
  with_reducible repeat' (first | exact hk | exact mask_sub (by decide) ho | apply State.failSensor_same | apply State.when_same)

theorem execAnalogTrip_same {o : Nat} {z : State} {s : State} {t : State} (hk : Same o z s) (ho : 95026216962 &&& o = 95026216962) (h : execAnalogTrip s = .next t) : Same o z t := by
  unfold execAnalogTrip at h
  refine gated_same ?_ h
  with_reducible repeat' (first | exact hk | exact mask_sub (by decide) ho | apply State.tripNow_same | apply State.noteMortem_same | apply State.when_same)

theorem execTripHalt_same {o : Nat} {z : State} {s : State} {t : State} (hk : Same o z s) (ho : 536936448 &&& o = 536936448) (h : execTripHalt s = .next t) : Same o z t := by
  unfold execTripHalt at h
  refine gated_same ?_ h
  with_reducible repeat' (first | exact hk | exact mask_sub (by decide) ho | apply State.tripHalt_same)

theorem execDeepSleepSensor_same {o : Nat} {z : State} {count : Nat} {s : State} {t : State} (hk : Same o z s) (ho : 2 &&& o = 2) (h : execDeepSleepSensor count s = .next t) : Same o z t := by
  unfold execDeepSleepSensor at h
  refine gated_same ?_ h
  with_reducible repeat' (first | exact hk | exact mask_sub (by decide) ho | apply State.deepSensor_same | apply State.when_same)

theorem execDomainStop_same {o : Nat} {z : State} {veto : Bool} {s : State} {t : State} (hk : Same o z s) (ho : 51539607551 &&& o = 51539607551) (h : execDomainStop veto s = .next t) : Same o z t := by
  unfold execDomainStop at h
  refine gated_same ?_ h
  with_reducible repeat' (first | exact hk | exact mask_sub (by decide) ho | apply State.domainStop_same | apply State.enterOff_same)

theorem execWakeNLow_same {o : Nat} {z : State} {us : Nat} {s : State} {t : State} (hk : Same o z s) (ho : 9797910787 &&& o = 9797910787) (h : execWakeNLow us s = .next t) : Same o z t := by
  unfold execWakeNLow at h
  refine gated_same ?_ h
  with_reducible repeat' (first | exact hk | exact mask_sub (by decide) ho | apply State.wakeN_same)

theorem execClockAlarm_same {o : Nat} {z : State} {s : State} {t : State} (hk : Same o z s) (ho : 1207959555 &&& o = 1207959555) (h : execClockAlarm s = .next t) : Same o z t := by
  unfold execClockAlarm at h
  refine gated_same ?_ h
  with_reducible repeat' (first | exact hk | exact mask_sub (by decide) ho | apply State.clockAlarm_same | apply State.when_same)

theorem execLaneWake_same {o : Nat} {z : State} {lane : Nat} {s : State} {t : State} (hk : Same o z s) (ho : 1207959555 &&& o = 1207959555) (h : execLaneWake lane s = .next t) : Same o z t := by
  unfold execLaneWake at h
  refine gated_same ?_ h
  with_reducible repeat' (first | exact hk | exact mask_sub (by decide) ho | apply State.laneWake_same)

theorem execLoopsResume_same {o : Nat} {z : State} {banks : List (Plane × Nat)} {sets : List Nat} {s : State} {t : State} (hk : Same o z s) (ho : 70073114894 &&& o = 70073114894) (h : execLoopsResume banks sets s = .next t) : Same o z t := by
  unfold execLoopsResume at h
  refine gated_same ?_ h
  with_reducible repeat' (first | exact hk | exact mask_sub (by decide) ho | apply State.loopsResume_same)

theorem execDomainWakeOnDemand_same {o : Nat} {z : State} {domain : Nat} {s : State} {t : State} (hk : Same o z s) (ho : 1073741824 &&& o = 1073741824) (h : execDomainWakeOnDemand domain s = .next t) : Same o z t := by
  unfold execDomainWakeOnDemand at h
  refine gated_same ?_ h
  with_reducible repeat' (first | exact hk | exact mask_sub (by decide) ho | apply State.wakeDomain_same | apply State.when_same)

theorem execWakeStall_same {o : Nat} {z : State} {domain : Nat} {us : Nat} {s : State} {t : State} (hk : Same o z s) (ho : 131074 &&& o = 131074) (h : execWakeStall domain us s = .next t) : Same o z t := by
  unfold execWakeStall at h
  refine gated_same ?_ h
  with_reducible repeat' (first | exact hk | exact mask_sub (by decide) ho | apply State.wakeStall_same | apply State.when_same)

theorem execDomainReady_same {o : Nat} {z : State} {domain : Nat} {s : State} {t : State} (hk : Same o z s) (ho : 1073741826 &&& o = 1073741826) (h : execDomainReady domain s = .next t) : Same o z t := by
  unfold execDomainReady at h
  refine gated_same ?_ h
  with_reducible repeat' (first | exact hk | exact mask_sub (by decide) ho | apply State.domainReady_same | apply State.when_same)

theorem execTdRateWrite_same {o : Nat} {z : State} {r : Requester} {domain : Nat} {low : Nat} {s : State} {t : State} (hk : Same o z s) (ho : 77827098686 &&& o = 77827098686) (h : execTdRateWrite r domain low s = .next t) : Same o z t := by
  unfold execTdRateWrite at h
  refine gated_same ?_ h
  with_reducible repeat' (first | exact hk | exact mask_sub (by decide) ho | apply State.regWrite_same)

theorem execTdSet_same {o : Nat} {z : State} {r : Requester} {domain : Nat} {ns : Nat} {s : State} {t : State} (hk : Same o z s) (ho : 77827098686 &&& o = 77827098686) (h : execTdSet r domain ns s = .next t) : Same o z t := by
  unfold execTdSet at h
  refine gated_same ?_ h
  with_reducible repeat' (first | exact hk | exact mask_sub (by decide) ho | apply State.regWrite_same)

theorem execTdAdjust_same {o : Nat} {z : State} {r : Requester} {domain : Nat} {ns : Int} {s : State} {t : State} (hk : Same o z s) (ho : 77827098686 &&& o = 77827098686) (h : execTdAdjust r domain ns s = .next t) : Same o z t := by
  unfold execTdAdjust at h
  refine gated_same ?_ h
  with_reducible repeat' (first | exact hk | exact mask_sub (by decide) ho | apply State.regWrite_same)

theorem execTimeCapture_same {o : Nat} {z : State} {r : Requester} {s : State} {t : State} (hk : Same o z s) (ho : 77827098686 &&& o = 77827098686) (h : execTimeCapture r s = .next t) : Same o z t := by
  unfold execTimeCapture at h
  refine gated_same ?_ h
  with_reducible repeat' (first | exact hk | exact mask_sub (by decide) ho | apply State.writeFields_same)

theorem execAlign_same {o : Nat} {z : State} {r : Requester} {s : State} {t : State} (hk : Same o z s) (ho : 77827098686 &&& o = 77827098686) (h : execAlign r s = .next t) : Same o z t := by
  unfold execAlign at h
  refine gated_same ?_ h
  with_reducible repeat' (first | exact hk | exact mask_sub (by decide) ho | apply State.writeFields_same)

theorem execAlignmentGapEnd_same {o : Nat} {z : State} {s : State} {t : State} (hk : Same o z s) (ho : 142606337 &&& o = 142606337) (h : execAlignmentGapEnd s = .next t) : Same o z t := by
  unfold execAlignmentGapEnd at h
  refine gated_same ?_ h
  with_reducible repeat' (first | exact hk | exact mask_sub (by decide) ho | apply State.gapEnd_same)

theorem execHoldover_same {o : Nat} {z : State} {domain : Nat} {s : State} {t : State} (hk : Same o z s) (ho : 134348802 &&& o = 134348802) (h : execHoldover domain s = .next t) : Same o z t := by
  unfold execHoldover at h
  refine gated_same ?_ h
  with_reducible repeat' (first | exact hk | exact mask_sub (by decide) ho | apply State.holdover_same)

theorem execAutoSwitch_same {o : Nat} {z : State} {s : State} {t : State} (hk : Same o z s) (ho : 134348802 &&& o = 134348802) (h : execAutoSwitch s = .next t) : Same o z t := by
  unfold execAutoSwitch at h
  refine gated_same ?_ h
  with_reducible repeat' (first | exact hk | exact mask_sub (by decide) ho | apply State.autoSwitch_same)

theorem execFclkLock_same {o : Nat} {z : State} {s : State} {t : State} (hk : Same o z s) (ho : 134348802 &&& o = 134348802) (h : execFclkLock s = .next t) : Same o z t := by
  unfold execFclkLock at h
  refine gated_same ?_ h
  with_reducible repeat' (first | exact hk | exact mask_sub (by decide) ho | apply State.fclkLock_same)

theorem execPpsEdge_same {o : Nat} {z : State} {stamp : Stamp} {s : State} {t : State} (hk : Same o z s) (ho : 134348802 &&& o = 134348802) (h : execPpsEdge stamp s = .next t) : Same o z t := by
  unfold execPpsEdge at h
  refine gated_same ?_ h
  with_reducible repeat' (first | exact hk | exact mask_sub (by decide) ho | apply State.ppsEdge_same | apply State.when_same)

theorem execPpsGap_same {o : Nat} {z : State} {s : State} {t : State} (hk : Same o z s) (ho : 134348800 &&& o = 134348800) (h : execPpsGap s = .next t) : Same o z t := by
  unfold execPpsGap at h
  refine gated_same ?_ h
  with_reducible repeat' (first | exact hk | exact mask_sub (by decide) ho | apply State.ppsGap_same | apply State.when_same)

theorem execPpsOutEdge_same {o : Nat} {z : State} {s : State} {t : State} (hk : Same o z s) (ho : 134217728 &&& o = 134217728) (h : execPpsOutEdge s = .next t) : Same o z t := by
  unfold execPpsOutEdge at h
  refine gated_same ?_ h
  with_reducible repeat' (first | exact hk | exact mask_sub (by decide) ho | apply State.ppsOutEdge_same | apply State.when_same)

theorem execTsPop_same {o : Nat} {z : State} {r : Requester} {source : Nat} {s : State} {t : State} (hk : Same o z s) (ho : 135282734 &&& o = 135282734) (h : execTsPop r source s = .next t) : Same o z t := by
  unfold execTsPop at h
  refine gated_same ?_ h
  with_reducible repeat' (first | exact hk | exact mask_sub (by decide) ho | apply State.tsPop_same | apply State.regRead_same)

theorem execBeaconRx_same {o : Nat} {z : State} {port : Nat} {b : Beacon} {rx : Stamp} {rx0 : Stamp} {rx1 : Stamp} {residence : Int} {tx : Stamp} {s : State} {t : State} (hk : Same o z s) (ho : 134348802 &&& o = 134348802) (h : execBeaconRx port b rx rx0 rx1 residence tx s = .next t) : Same o z t := by
  unfold execBeaconRx at h
  refine gated_same ?_ h
  with_reducible repeat' (first | exact hk | exact mask_sub (by decide) ho | apply State.beaconRx_same | apply State.when_same)

theorem execBeaconPortSwitch_same {o : Nat} {z : State} {s : State} {t : State} (hk : Same o z s) (ho : 134217730 &&& o = 134217730) (h : execBeaconPortSwitch s = .next t) : Same o z t := by
  unfold execBeaconPortSwitch at h
  refine gated_same ?_ h
  with_reducible repeat' (first | exact hk | exact mask_sub (by decide) ho | apply State.beaconSwitch_same)

theorem execLinkMessageRx_same {o : Nat} {z : State} {port : Nat} {t1 : Int} {t2 : Int} {t3 : Int} {t4 : Int} {frame : Nat} {hops : Nat} {rx : Stamp} {tx : Stamp} {s : State} {t : State} (hk : Same o z s) (ho : 134348802 &&& o = 134348802) (h : execLinkMessageRx port t1 t2 t3 t4 frame hops rx tx s = .next t) : Same o z t := by
  unfold execLinkMessageRx at h
  refine gated_same ?_ h
  with_reducible repeat' (first | exact hk | exact mask_sub (by decide) ho | apply State.linkMessage_same | apply State.when_same)

theorem execRingLost_same {o : Nat} {z : State} {port : Nat} {s : State} {t : State} (hk : Same o z s) (ho : 134348802 &&& o = 134348802) (h : execRingLost port s = .next t) : Same o z t := by
  unfold execRingLost at h
  refine gated_same ?_ h
  with_reducible repeat' (first | exact hk | exact mask_sub (by decide) ho | apply State.ringLost_same)

theorem execRingLock_same {o : Nat} {z : State} {domain : Nat} {s : State} {t : State} (hk : Same o z s) (ho : 134217730 &&& o = 134217730) (h : execRingLock domain s = .next t) : Same o z t := by
  unfold execRingLock at h
  refine gated_same ?_ h
  with_reducible repeat' (first | exact hk | exact mask_sub (by decide) ho | apply State.ringLock_same)

theorem execApsinLinkDown_same {o : Nat} {z : State} {port : Nat} {s : State} {t : State} (hk : Same o z s) (ho : 131072 &&& o = 131072) (h : execApsinLinkDown port s = .next t) : Same o z t := by
  unfold execApsinLinkDown at h
  refine gated_same ?_ h
  with_reducible repeat' (first | exact hk | exact mask_sub (by decide) ho | apply State.apsinDown_same | apply State.when_same)

theorem execRefclkLoss_same {o : Nat} {z : State} {s : State} {t : State} (hk : Same o z s) (ho : 134217728 &&& o = 134217728) (h : execRefclkLoss s = .next t) : Same o z t := by
  unfold execRefclkLoss at h
  refine gated_same ?_ h
  with_reducible repeat' (first | exact hk | exact mask_sub (by decide) ho | apply State.refclkLoss_same)

theorem execFaultMessage_same {o : Nat} {z : State} {cls : Nat} {inst : Nat} {kind : Nat} {plane : Nat} {count : Nat} {addr : Nat} {s : State} {t : State} (hk : Same o z s) (ho : 131072 &&& o = 131072) (h : execFaultMessage cls inst kind plane count addr s = .next t) : Same o z t := by
  unfold execFaultMessage at h
  refine gated_same ?_ h
  with_reducible repeat' (first | exact hk | exact mask_sub (by decide) ho | apply State.faultMessage_same)

theorem execEndReport_same {o : Nat} {z : State} {cls : Nat} {inst : Nat} {kind : Nat} {plane : Nat} {count : Nat} {addr : Nat} {s : State} {t : State} (hk : Same o z s) (ho : 131072 &&& o = 131072) (h : execEndReport cls inst kind plane count addr s = .next t) : Same o z t := by
  unfold execEndReport at h
  refine gated_same ?_ h
  with_reducible repeat' (first | exact hk | exact mask_sub (by decide) ho | apply State.endMessage_same | apply State.endReport_same)

theorem execClearFirst_same {o : Nat} {z : State} {r : Requester} {s : State} {t : State} (hk : Same o z s) (ho : 77827098686 &&& o = 77827098686) (h : execClearFirst r s = .next t) : Same o z t := by
  unfold execClearFirst at h
  refine gated_same ?_ h
  with_reducible repeat' (first | exact hk | exact mask_sub (by decide) ho | apply State.writeFields_same | apply State.clearFirst_same)

theorem execFcAck_same {o : Nat} {z : State} {r : Requester} {slots : Nat} {s : State} {t : State} (hk : Same o z s) (ho : 77827098686 &&& o = 77827098686) (h : execFcAck r slots s = .next t) : Same o z t := by
  unfold execFcAck at h
  refine gated_same ?_ h
  with_reducible repeat' (first | exact hk | exact mask_sub (by decide) ho | apply State.regWrite_same)

theorem execFcUnfence_same {o : Nat} {z : State} {r : Requester} {unit : Nat} {index : Nat} {s : State} {t : State} (hk : Same o z s) (ho : 77827098686 &&& o = 77827098686) (h : execFcUnfence r unit index s = .next t) : Same o z t := by
  unfold execFcUnfence at h
  refine gated_same ?_ h
  with_reducible repeat' (first | exact hk | exact mask_sub (by decide) ho | apply State.writeFields_same)

theorem execCoreRestart_same {o : Nat} {z : State} {plane : Plane} {s : State} {t : State} (hk : Same o z s) (ho : 131072 &&& o = 131072) (h : execCoreRestart plane s = .next t) : Same o z t := by
  unfold execCoreRestart at h
  refine gated_same ?_ h
  with_reducible repeat' (first | exact hk | exact mask_sub (by decide) ho | apply State.coreRestart_same)

theorem execWatchdog_same {o : Nat} {z : State} {plane : Plane} {s : State} {t : State} (hk : Same o z s) (ho : 131072 &&& o = 131072) (h : execWatchdog plane s = .next t) : Same o z t := by
  unfold execWatchdog at h
  refine gated_same ?_ h
  with_reducible repeat' (first | exact hk | exact mask_sub (by decide) ho | apply State.watchdog_same)

theorem execTrngHealth_same {o : Nat} {z : State} {s : State} {t : State} (hk : Same o z s) (ho : 131072 &&& o = 131072) (h : execTrngHealth s = .next t) : Same o z t := by
  unfold execTrngHealth at h
  refine gated_same ?_ h
  with_reducible repeat' (first | exact hk | exact mask_sub (by decide) ho | apply State.trngHealth_same)

theorem execStArm_same {o : Nat} {z : State} {r : Requester} {gen : Nat} {s : State} {t : State} (hk : Same o z s) (ho : 77827098686 &&& o = 77827098686) (h : execStArm r gen s = .next t) : Same o z t := by
  unfold execStArm at h
  refine gated_same ?_ h
  with_reducible repeat' (first | exact hk | exact mask_sub (by decide) ho | apply State.writeFields_same)

theorem execStStart_same {o : Nat} {z : State} {r : Requester} {gen : Nat} {s : State} {t : State} (hk : Same o z s) (ho : 77827098686 &&& o = 77827098686) (h : execStStart r gen s = .next t) : Same o z t := by
  unfold execStStart at h
  refine gated_same ?_ h
  with_reducible repeat' (first | exact hk | exact mask_sub (by decide) ho | apply State.writeFields_same)

theorem execStHalt_same {o : Nat} {z : State} {r : Requester} {gen : Nat} {s : State} {t : State} (hk : Same o z s) (ho : 77827098686 &&& o = 77827098686) (h : execStHalt r gen s = .next t) : Same o z t := by
  unfold execStHalt at h
  refine gated_same ?_ h
  with_reducible repeat' (first | exact hk | exact mask_sub (by decide) ho | apply State.writeFields_same)

theorem execEvtEdgeTrigger_same {o : Nat} {z : State} {evt : Nat} {rising : Bool} {s : State} {t : State} (hk : Same o z s) (ho : 4194316 &&& o = 4194316) (h : execEvtEdgeTrigger evt rising s = .next t) : Same o z t := by
  unfold execEvtEdgeTrigger at h
  refine gated_same ?_ h
  with_reducible repeat' (first | exact hk | exact mask_sub (by decide) ho | apply State.evtEdge_same | apply State.when_same)

theorem execFrameTrigger_same {o : Nat} {z : State} {inst : Nat} {s : State} {t : State} (hk : Same o z s) (ho : 4194316 &&& o = 4194316) (h : execFrameTrigger inst s = .next t) : Same o z t := by
  unfold execFrameTrigger at h
  refine gated_same ?_ h
  with_reducible repeat' (first | exact hk | exact mask_sub (by decide) ho | apply State.frameTrigger_same | apply State.when_same)

theorem execStop_same {o : Nat} {z : State} {inst : Nat} {s : State} {t : State} (hk : Same o z s) (ho : 4194304 &&& o = 4194304) (h : execStop inst s = .next t) : Same o z t := by
  unfold execStop at h
  refine gated_same ?_ h
  with_reducible repeat' (first | exact hk | exact mask_sub (by decide) ho | apply State.genStop_same)

theorem execLda_same {o : Nat} {z : State} {inst : Nat} {s : State} {t : State} (hk : Same o z s) (ho : 4194316 &&& o = 4194316) (h : execLda inst s = .next t) : Same o z t := by
  unfold execLda at h
  refine gated_same ?_ h
  with_reducible repeat' (first | exact hk | exact mask_sub (by decide) ho | apply State.runOp_same)

theorem execLdd_same {o : Nat} {z : State} {inst : Nat} {s : State} {t : State} (hk : Same o z s) (ho : 4194316 &&& o = 4194316) (h : execLdd inst s = .next t) : Same o z t := by
  unfold execLdd at h
  refine gated_same ?_ h
  with_reducible repeat' (first | exact hk | exact mask_sub (by decide) ho | apply State.runOp_same)

theorem execAdda_same {o : Nat} {z : State} {inst : Nat} {s : State} {t : State} (hk : Same o z s) (ho : 4194316 &&& o = 4194316) (h : execAdda inst s = .next t) : Same o z t := by
  unfold execAdda at h
  refine gated_same ?_ h
  with_reducible repeat' (first | exact hk | exact mask_sub (by decide) ho | apply State.runOp_same)

theorem execEmit_same {o : Nat} {z : State} {inst : Nat} {s : State} {t : State} (hk : Same o z s) (ho : 4194316 &&& o = 4194316) (h : execEmit inst s = .next t) : Same o z t := by
  unfold execEmit at h
  refine gated_same ?_ h
  with_reducible repeat' (first | exact hk | exact mask_sub (by decide) ho | apply State.runOp_same)

theorem execRamp_same {o : Nat} {z : State} {inst : Nat} {s : State} {t : State} (hk : Same o z s) (ho : 4194316 &&& o = 4194316) (h : execRamp inst s = .next t) : Same o z t := by
  unfold execRamp at h
  refine gated_same ?_ h
  with_reducible repeat' (first | exact hk | exact mask_sub (by decide) ho | apply State.runOp_same)

theorem execTable_same {o : Nat} {z : State} {inst : Nat} {s : State} {t : State} (hk : Same o z s) (ho : 4194316 &&& o = 4194316) (h : execTable inst s = .next t) : Same o z t := by
  unfold execTable at h
  refine gated_same ?_ h
  with_reducible repeat' (first | exact hk | exact mask_sub (by decide) ho | apply State.runOp_same)

theorem execPrbs_same {o : Nat} {z : State} {inst : Nat} {s : State} {t : State} (hk : Same o z s) (ho : 68723671052 &&& o = 68723671052) (h : execPrbs inst s = .next t) : Same o z t := by
  unfold execPrbs at h
  refine gated_same ?_ h
  with_reducible repeat' (first | exact hk | exact mask_sub (by decide) ho | apply State.runOp_same | apply State.free_same)

theorem execLdc_same {o : Nat} {z : State} {inst : Nat} {s : State} {t : State} (hk : Same o z s) (ho : 4194316 &&& o = 4194316) (h : execLdc inst s = .next t) : Same o z t := by
  unfold execLdc at h
  refine gated_same ?_ h
  with_reducible repeat' (first | exact hk | exact mask_sub (by decide) ho | apply State.runOp_same)

theorem execLoop_same {o : Nat} {z : State} {inst : Nat} {s : State} {t : State} (hk : Same o z s) (ho : 4194316 &&& o = 4194316) (h : execLoop inst s = .next t) : Same o z t := by
  unfold execLoop at h
  refine gated_same ?_ h
  with_reducible repeat' (first | exact hk | exact mask_sub (by decide) ho | apply State.runOp_same)

theorem execJmp_same {o : Nat} {z : State} {inst : Nat} {s : State} {t : State} (hk : Same o z s) (ho : 4194316 &&& o = 4194316) (h : execJmp inst s = .next t) : Same o z t := by
  unfold execJmp at h
  refine gated_same ?_ h
  with_reducible repeat' (first | exact hk | exact mask_sub (by decide) ho | apply State.runOp_same)

theorem execBr_same {o : Nat} {z : State} {inst : Nat} {s : State} {t : State} (hk : Same o z s) (ho : 4194304 &&& o = 4194304) (h : execBr inst s = .next t) : Same o z t := by
  unfold execBr at h
  refine gated_same ?_ h
  with_reducible repeat' (first | exact hk | exact mask_sub (by decide) ho | apply State.genBr_same)

theorem execWait_same {o : Nat} {z : State} {inst : Nat} {s : State} {t : State} (hk : Same o z s) (ho : 4194316 &&& o = 4194316) (h : execWait inst s = .next t) : Same o z t := by
  unfold execWait at h
  refine gated_same ?_ h
  with_reducible repeat' (first | exact hk | exact mask_sub (by decide) ho | apply State.genWait_same)

theorem execIllegal_same {o : Nat} {z : State} {inst : Nat} {s : State} {t : State} (hk : Same o z s) (ho : 4325376 &&& o = 4325376) (h : execIllegal inst s = .next t) : Same o z t := by
  unfold execIllegal at h
  refine gated_same ?_ h
  with_reducible repeat' (first | exact hk | exact mask_sub (by decide) ho | apply State.genIllegal_same)

theorem execRunaway_same {o : Nat} {z : State} {inst : Nat} {s : State} {t : State} (hk : Same o z s) (ho : 4325376 &&& o = 4325376) (h : execRunaway inst s = .next t) : Same o z t := by
  unfold execRunaway at h
  refine gated_same ?_ h
  with_reducible repeat' (first | exact hk | exact mask_sub (by decide) ho | apply State.genRunaway_same)

theorem execMtStart_same {o : Nat} {z : State} {r : Requester} {s : State} {t : State} (hk : Same o z s) (ho : 77827098686 &&& o = 77827098686) (h : execMtStart r s = .next t) : Same o z t := by
  unfold execMtStart at h
  refine gated_same ?_ h
  with_reducible repeat' (first | exact hk | exact mask_sub (by decide) ho | apply State.mtStart_same | apply State.writeFields_same)

theorem execMtAbort_same {o : Nat} {z : State} {r : Requester} {s : State} {t : State} (hk : Same o z s) (ho : 77827098686 &&& o = 77827098686) (h : execMtAbort r s = .next t) : Same o z t := by
  unfold execMtAbort at h
  refine gated_same ?_ h
  with_reducible repeat' (first | exact hk | exact mask_sub (by decide) ho | apply State.mtAbort_same | apply State.writeFields_same)

theorem execMtestDone_same {o : Nat} {z : State} {plane : Plane} {fails : Nat} {addr : Nat} {element : Nat} {diff : Nat} {check : Nat} {s : State} {t : State} (hk : Same o z s) (ho : 68724326412 &&& o = 68724326412) (h : execMtestDone plane fails addr element diff check s = .next t) : Same o z t := by
  unfold execMtestDone at h
  refine gated_same ?_ h
  with_reducible repeat' (first | exact hk | exact mask_sub (by decide) ho | apply State.mtDone_same)

theorem execMtpWriteDone_same {o : Nat} {z : State} {good : Bool} {s : State} {t : State} (hk : Same o z s) (ho : 77309665282 &&& o = 77309665282) (h : execMtpWriteDone good s = .next t) : Same o z t := by
  unfold execMtpWriteDone at h
  refine gated_same ?_ h
  with_reducible repeat' (first | exact hk | exact mask_sub (by decide) ho | apply State.mtpDone_same | apply State.sessionFixed_same)

theorem execKeyRollApply_same {o : Nat} {z : State} {principal : Nat} {s : State} {t : State} (hk : Same o z s) (ho : 237570 &&& o = 237570) (h : execKeyRollApply principal s = .next t) : Same o z t := by
  unfold execKeyRollApply at h
  refine gated_same ?_ h
  with_reducible repeat' (first | exact hk | exact mask_sub (by decide) ho | apply State.keyRollApply_same)

theorem execGraceEnd_same {o : Nat} {z : State} {principal : Nat} {s : State} {t : State} (hk : Same o z s) (ho : 65536 &&& o = 65536) (h : execGraceEnd principal s = .next t) : Same o z t := by
  unfold execGraceEnd at h
  refine gated_same ?_ h
  with_reducible repeat' (first | exact hk | exact mask_sub (by decide) ho | apply State.graceEnd_same)

theorem execProtectApply_same {o : Nat} {z : State} {s : State} {t : State} (hk : Same o z s) (ho : 243714 &&& o = 243714) (h : execProtectApply s = .next t) : Same o z t := by
  unfold execProtectApply at h
  refine gated_same ?_ h
  with_reducible repeat' (first | exact hk | exact mask_sub (by decide) ho | apply State.protectApply_same)

theorem execProtectExpire_same {o : Nat} {z : State} {s : State} {t : State} (hk : Same o z s) (ho : 65536 &&& o = 65536) (h : execProtectExpire s = .next t) : Same o z t := by
  unfold execProtectExpire at h
  refine gated_same ?_ h
  with_reducible repeat' (first | exact hk | exact mask_sub (by decide) ho | apply State.protectExpire_same)

theorem execAtticProvGo_same {o : Nat} {z : State} {r : Requester} {s : State} {t : State} (hk : Same o z s) (ho : 77827098686 &&& o = 77827098686) (h : execAtticProvGo r s = .next t) : Same o z t := by
  unfold execAtticProvGo at h
  refine gated_same ?_ h
  with_reducible repeat' (first | exact hk | exact mask_sub (by decide) ho | apply State.regWrite_same)

theorem execPing_same {o : Nat} {z : State} {hd : CmdHead} {s : State} {t : State} (hk : Same o z s) (ho : 172034 &&& o = 172034) (h : execPing hd s = .next t) : Same o z t := by
  unfold execPing at h
  refine gated_same (State.command_only hk (fun s h' c' e hs => ?_) (mask_sub (by decide) ho)) h
  cases c' <;> first | (simp [opcodeOf] at e; done) | (unfold State.runCmd; with_reducible repeat' (first | exact hs | exact mask_sub (by decide) ho | apply State.cmdPing_same))

theorem execSummary_same {o : Nat} {z : State} {hd : CmdHead} {challenge : List Nat} {s : State} {t : State} (hk : Same o z s) (ho : 68719648770 &&& o = 68719648770) (h : execSummary hd challenge s = .next t) : Same o z t := by
  unfold execSummary at h
  refine gated_same (State.command_only hk (fun s h' c' e hs => ?_) (mask_sub (by decide) ho)) h
  cases c' <;> first | (simp [opcodeOf] at e; done) | (unfold State.runCmd; with_reducible repeat' (first | exact hs | exact mask_sub (by decide) ho | apply State.cmdSummary_same))

theorem execFence_same {o : Nat} {z : State} {hd : CmdHead} {s : State} {t : State} (hk : Same o z s) (ho : 172034 &&& o = 172034) (h : execFence hd s = .next t) : Same o z t := by
  unfold execFence at h
  refine gated_same (State.command_only hk (fun s h' c' e hs => ?_) (mask_sub (by decide) ho)) h
  cases c' <;> first | (simp [opcodeOf] at e; done) | (unfold State.runCmd; with_reducible repeat' (first | exact hs | exact mask_sub (by decide) ho | apply State.cmdFence_same))

theorem execRead_same {o : Nat} {z : State} {hd : CmdHead} {addr : Nat} {words : Nat} {s : State} {t : State} (hk : Same o z s) (ho : 135438382 &&& o = 135438382) (h : execRead hd addr words s = .next t) : Same o z t := by
  unfold execRead at h
  refine gated_same (State.command_only hk (fun s h' c' e hs => ?_) (mask_sub (by decide) ho)) h
  cases c' <;> first | (simp [opcodeOf] at e; done) | (unfold State.runCmd; with_reducible repeat' (first | exact hs | exact mask_sub (by decide) ho | apply State.cmdRead_same))

theorem execWrite_same {o : Nat} {z : State} {hd : CmdHead} {addr : Nat} {data : List Nat} {s : State} {t : State} (hk : Same o z s) (ho : 77827139646 &&& o = 77827139646) (h : execWrite hd addr data s = .next t) : Same o z t := by
  unfold execWrite at h
  refine gated_same (State.command_only hk (fun s h' c' e hs => ?_) (mask_sub (by decide) ho)) h
  cases c' <;> first | (simp [opcodeOf] at e; done) | (unfold State.runCmd; with_reducible repeat' (first | exact hs | exact mask_sub (by decide) ho | apply State.cmdWrite_same))

theorem execConnect_same {o : Nat} {z : State} {hd : CmdHead} {inp : Nat} {out : Nat} {s : State} {t : State} (hk : Same o z s) (ho : 68719650818 &&& o = 68719650818) (h : execConnect hd inp out s = .next t) : Same o z t := by
  unfold execConnect at h
  refine gated_same (State.command_only hk (fun s h' c' e hs => ?_) (mask_sub (by decide) ho)) h
  cases c' <;> first | (simp [opcodeOf] at e; done) | (unfold State.runCmd; with_reducible repeat' (first | exact hs | exact mask_sub (by decide) ho | apply State.cmdRoute_same))

theorem execDisconnect_same {o : Nat} {z : State} {hd : CmdHead} {inp : Nat} {out : Nat} {s : State} {t : State} (hk : Same o z s) (ho : 68719650818 &&& o = 68719650818) (h : execDisconnect hd inp out s = .next t) : Same o z t := by
  unfold execDisconnect at h
  refine gated_same (State.command_only hk (fun s h' c' e hs => ?_) (mask_sub (by decide) ho)) h
  cases c' <;> first | (simp [opcodeOf] at e; done) | (unfold State.runCmd; with_reducible repeat' (first | exact hs | exact mask_sub (by decide) ho | apply State.cmdRoute_same))

theorem execStage_same {o : Nat} {z : State} {hd : CmdHead} {id : Nat} {part : Nat} {parts : Nat} {entries : List (Nat × Nat)} {s : State} {t : State} (hk : Same o z s) (ho : 68719650818 &&& o = 68719650818) (h : execStage hd id part parts entries s = .next t) : Same o z t := by
  unfold execStage at h
  refine gated_same (State.command_only hk (fun s h' c' e hs => ?_) (mask_sub (by decide) ho)) h
  cases c' <;> first | (simp [opcodeOf] at e; done) | (unfold State.runCmd; with_reducible repeat' (first | exact hs | exact mask_sub (by decide) ho | apply State.cmdRoute_same))

theorem execSetElement_same {o : Nat} {z : State} {hd : CmdHead} {element : Nat} {state : Nat} {s : State} {t : State} (hk : Same o z s) (ho : 68719650818 &&& o = 68719650818) (h : execSetElement hd element state s = .next t) : Same o z t := by
  unfold execSetElement at h
  refine gated_same (State.command_only hk (fun s h' c' e hs => ?_) (mask_sub (by decide) ho)) h
  cases c' <;> first | (simp [opcodeOf] at e; done) | (unfold State.runCmd; with_reducible repeat' (first | exact hs | exact mask_sub (by decide) ho | apply State.cmdRoute_same))

theorem execCommit_same {o : Nat} {z : State} {hd : CmdHead} {kind : Nat} {chip : Nat} {token : Nat} {mask : Nat} {frame : Nat} {s : State} {t : State} (hk : Same o z s) (ho : 178190 &&& o = 178190) (h : execCommit hd kind chip token mask frame s = .next t) : Same o z t := by
  unfold execCommit at h
  refine gated_same (State.command_only hk (fun s h' c' e hs => ?_) (mask_sub (by decide) ho)) h
  cases c' <;> first | (simp [opcodeOf] at e; done) | (unfold State.runCmd; with_reducible repeat' (first | exact hs | exact mask_sub (by decide) ho | apply State.tryAll_same | apply State.cmdCommit_same))

theorem execAbort_same {o : Nat} {z : State} {hd : CmdHead} {sFrame : Nat} {sChip : Nat} {s : State} {t : State} (hk : Same o z s) (ho : 178178 &&& o = 178178) (h : execAbort hd sFrame sChip s = .next t) : Same o z t := by
  unfold execAbort at h
  refine gated_same (State.command_only hk (fun s h' c' e hs => ?_) (mask_sub (by decide) ho)) h
  cases c' <;> first | (simp [opcodeOf] at e; done) | (unfold State.runCmd; with_reducible repeat' (first | exact hs | exact mask_sub (by decide) ho | apply State.cmdAbort_same))

theorem execRemap_same {o : Nat} {z : State} {hd : CmdHead} {logical : Nat} {useAlt : Nat} {s : State} {t : State} (hk : Same o z s) (ho : 77827139646 &&& o = 77827139646) (h : execRemap hd logical useAlt s = .next t) : Same o z t := by
  unfold execRemap at h
  refine gated_same (State.command_only hk (fun s h' c' e hs => ?_) (mask_sub (by decide) ho)) h
  cases c' <;> first | (simp [opcodeOf] at e; done) | (unfold State.runCmd; with_reducible repeat' (first | exact hs | exact mask_sub (by decide) ho | apply State.cmdRemap_same))

theorem execCtxRead_same {o : Nat} {z : State} {hd : CmdHead} {ctx : Nat} {first : Nat} {words : Nat} {s : State} {t : State} (hk : Same o z s) (ho : 135438382 &&& o = 135438382) (h : execCtxRead hd ctx first words s = .next t) : Same o z t := by
  unfold execCtxRead at h
  refine gated_same (State.command_only hk (fun s h' c' e hs => ?_) (mask_sub (by decide) ho)) h
  cases c' <;> first | (simp [opcodeOf] at e; done) | (unfold State.runCmd; with_reducible repeat' (first | exact hs | exact mask_sub (by decide) ho | apply State.cmdCtxRead_same))

theorem execCtxWrite_same {o : Nat} {z : State} {hd : CmdHead} {ctx : Nat} {first : Nat} {data : List Nat} {s : State} {t : State} (hk : Same o z s) (ho : 77827139646 &&& o = 77827139646) (h : execCtxWrite hd ctx first data s = .next t) : Same o z t := by
  unfold execCtxWrite at h
  refine gated_same (State.command_only hk (fun s h' c' e hs => ?_) (mask_sub (by decide) ho)) h
  cases c' <;> first | (simp [opcodeOf] at e; done) | (unfold State.runCmd; with_reducible repeat' (first | exact hs | exact mask_sub (by decide) ho | apply State.cmdCtxWrite_same))

theorem execCtxState_same {o : Nat} {z : State} {hd : CmdHead} {ctx : Nat} {state : Nat} {s : State} {t : State} (hk : Same o z s) (ho : 8560642 &&& o = 8560642) (h : execCtxState hd ctx state s = .next t) : Same o z t := by
  unfold execCtxState at h
  refine gated_same (State.command_only hk (fun s h' c' e hs => ?_) (mask_sub (by decide) ho)) h
  cases c' <;> first | (simp [opcodeOf] at e; done) | (unfold State.runCmd; with_reducible repeat' (first | exact hs | exact mask_sub (by decide) ho | apply State.cmdCtxState_same))

theorem execGuardWrite_same {o : Nat} {z : State} {hd : CmdHead} {tile : Nat} {offset : Nat} {value : Nat} {s : State} {t : State} (hk : Same o z s) (ho : 77827139646 &&& o = 77827139646) (h : execGuardWrite hd tile offset value s = .next t) : Same o z t := by
  unfold execGuardWrite at h
  refine gated_same (State.command_only hk (fun s h' c' e hs => ?_) (mask_sub (by decide) ho)) h
  cases c' <;> first | (simp [opcodeOf] at e; done) | (unfold State.runCmd; with_reducible repeat' (first | exact hs | exact mask_sub (by decide) ho | apply State.cmdGuardWrite_same))

theorem execPrimerWrite_same {o : Nat} {z : State} {hd : CmdHead} {tile : Nat} {offset : Nat} {value : Nat} {s : State} {t : State} (hk : Same o z s) (ho : 77827139646 &&& o = 77827139646) (h : execPrimerWrite hd tile offset value s = .next t) : Same o z t := by
  unfold execPrimerWrite at h
  refine gated_same (State.command_only hk (fun s h' c' e hs => ?_) (mask_sub (by decide) ho)) h
  cases c' <;> first | (simp [opcodeOf] at e; done) | (unfold State.runCmd; with_reducible repeat' (first | exact hs | exact mask_sub (by decide) ho | apply State.cmdPrimerWrite_same))

theorem execPrimerApply_same {o : Nat} {z : State} {hd : CmdHead} {tiles : Nat} {s : State} {t : State} (hk : Same o z s) (ho : 33726466 &&& o = 33726466) (h : execPrimerApply hd tiles s = .next t) : Same o z t := by
  unfold execPrimerApply at h
  refine gated_same (State.command_only hk (fun s h' c' e hs => ?_) (mask_sub (by decide) ho)) h
  cases c' <;> first | (simp [opcodeOf] at e; done) | (unfold State.runCmd; with_reducible repeat' (first | exact hs | exact mask_sub (by decide) ho | apply State.cmdPrimerTiles_same))

theorem execTileResume_same {o : Nat} {z : State} {hd : CmdHead} {tiles : Nat} {s : State} {t : State} (hk : Same o z s) (ho : 33726466 &&& o = 33726466) (h : execTileResume hd tiles s = .next t) : Same o z t := by
  unfold execTileResume at h
  refine gated_same (State.command_only hk (fun s h' c' e hs => ?_) (mask_sub (by decide) ho)) h
  cases c' <;> first | (simp [opcodeOf] at e; done) | (unfold State.runCmd; with_reducible repeat' (first | exact hs | exact mask_sub (by decide) ho | apply State.cmdResumeTiles_same))

theorem execHkaInject_same {o : Nat} {z : State} {hd : CmdHead} {channel : Nat} {tag : Nat} {s : State} {t : State} (hk : Same o z s) (ho : 1220610 &&& o = 1220610) (h : execHkaInject hd channel tag s = .next t) : Same o z t := by
  unfold execHkaInject at h
  refine gated_same (State.command_only hk (fun s h' c' e hs => ?_) (mask_sub (by decide) ho)) h
  cases c' <;> first | (simp [opcodeOf] at e; done) | (unfold State.runCmd; with_reducible repeat' (first | exact hs | exact mask_sub (by decide) ho | apply State.cmdInject_same))

theorem execCalibrate_same {o : Nat} {z : State} {hd : CmdHead} {tiles : Nat} {s : State} {t : State} (hk : Same o z s) (ho : 68329474 &&& o = 68329474) (h : execCalibrate hd tiles s = .next t) : Same o z t := by
  unfold execCalibrate at h
  refine gated_same (State.command_only hk (fun s h' c' e hs => ?_) (mask_sub (by decide) ho)) h
  cases c' <;> first | (simp [opcodeOf] at e; done) | (unfold State.runCmd; with_reducible repeat' (first | exact hs | exact mask_sub (by decide) ho | apply State.cmdCalibrate_same))

theorem execStencilStart_same {o : Nat} {z : State} {hd : CmdHead} {gen : Nat} {s : State} {t : State} (hk : Same o z s) (ho : 4366350 &&& o = 4366350) (h : execStencilStart hd gen s = .next t) : Same o z t := by
  unfold execStencilStart at h
  refine gated_same (State.command_only hk (fun s h' c' e hs => ?_) (mask_sub (by decide) ho)) h
  cases c' <;> first | (simp [opcodeOf] at e; done) | (unfold State.runCmd; with_reducible repeat' (first | exact hs | exact mask_sub (by decide) ho | apply State.cmdStencilStart_same))

theorem execMode_same {o : Nat} {z : State} {hd : CmdHead} {code : Nat} {frame : Nat} {s : State} {t : State} (hk : Same o z s) (ho : 172162 &&& o = 172162) (h : execMode hd code frame s = .next t) : Same o z t := by
  unfold execMode at h
  refine gated_same (State.command_only hk (fun s h' c' e hs => ?_) (mask_sub (by decide) ho)) h
  cases c' <;> first | (simp [opcodeOf] at e; done) | (unfold State.runCmd; with_reducible repeat' (first | exact hs | exact mask_sub (by decide) ho | apply State.cmdMode_same))

theorem execPower_same {o : Nat} {z : State} {hd : CmdHead} {state : Nat} {s : State} {t : State} (hk : Same o z s) (ho : 70133735694 &&& o = 70133735694) (h : execPower hd state s = .next t) : Same o z t := by
  unfold execPower at h
  refine gated_same (State.command_only hk (fun s h' c' e hs => ?_) (mask_sub (by decide) ho)) h
  cases c' <;> first | (simp [opcodeOf] at e; done) | (unfold State.runCmd; with_reducible repeat' (first | exact hs | exact mask_sub (by decide) ho | apply State.cmdPower_same))

theorem execDrill_same {o : Nat} {z : State} {hd : CmdHead} {frame : Nat} {s : State} {t : State} (hk : Same o z s) (ho : 268607490 &&& o = 268607490) (h : execDrill hd frame s = .next t) : Same o z t := by
  unfold execDrill at h
  refine gated_same (State.command_only hk (fun s h' c' e hs => ?_) (mask_sub (by decide) ho)) h
  cases c' <;> first | (simp [opcodeOf] at e; done) | (unfold State.runCmd; with_reducible repeat' (first | exact hs | exact mask_sub (by decide) ho | apply State.cmdDrill_same))

theorem execReboot_same {o : Nat} {z : State} {hd : CmdHead} {slot : Nat} {s : State} {t : State} (hk : Same o z s) (ho : 8590106626 &&& o = 8590106626) (h : execReboot hd slot s = .next t) : Same o z t := by
  unfold execReboot at h
  refine gated_same (State.command_only hk (fun s h' c' e hs => ?_) (mask_sub (by decide) ho)) h
  cases c' <;> first | (simp [opcodeOf] at e; done) | (unfold State.runCmd; with_reducible repeat' (first | exact hs | exact mask_sub (by decide) ho | apply State.cmdReboot_same))

theorem execProtectArm_same {o : Nat} {z : State} {hd : CmdHead} {body : ArmBody} {s : State} {t : State} (hk : Same o z s) (ho : 237570 &&& o = 237570) (h : execProtectArm hd body s = .next t) : Same o z t := by
  unfold execProtectArm at h
  refine gated_same (State.command_only hk (fun s h' c' e hs => ?_) (mask_sub (by decide) ho)) h
  cases c' <;> first | (simp [opcodeOf] at e; done) | (unfold State.runCmd; with_reducible repeat' (first | exact hs | exact mask_sub (by decide) ho | apply State.cmdProtectArm_same))

theorem execProtectCommit_same {o : Nat} {z : State} {hd : CmdHead} {armId : Nat} {digest : Nat} {frame : Nat} {s : State} {t : State} (hk : Same o z s) (ho : 237570 &&& o = 237570) (h : execProtectCommit hd armId digest frame s = .next t) : Same o z t := by
  unfold execProtectCommit at h
  refine gated_same (State.command_only hk (fun s h' c' e hs => ?_) (mask_sub (by decide) ho)) h
  cases c' <;> first | (simp [opcodeOf] at e; done) | (unfold State.runCmd; with_reducible repeat' (first | exact hs | exact mask_sub (by decide) ho | apply State.cmdProtectCommit_same))

theorem execKeyInstall_same {o : Nat} {z : State} {hd : CmdHead} {principal : Nat} {which : Nat} {wrapped : List Nat} {s : State} {t : State} (hk : Same o z s) (ho : 237570 &&& o = 237570) (h : execKeyInstall hd principal which wrapped s = .next t) : Same o z t := by
  unfold execKeyInstall at h
  refine gated_same (State.command_only hk (fun s h' c' e hs => ?_) (mask_sub (by decide) ho)) h
  cases c' <;> first | (simp [opcodeOf] at e; done) | (unfold State.runCmd; with_reducible repeat' (first | exact hs | exact mask_sub (by decide) ho | apply State.cmdKeyInstall_same))

theorem execKeyRoll_same {o : Nat} {z : State} {hd : CmdHead} {principal : Nat} {frame : Nat} {s : State} {t : State} (hk : Same o z s) (ho : 237570 &&& o = 237570) (h : execKeyRoll hd principal frame s = .next t) : Same o z t := by
  unfold execKeyRoll at h
  refine gated_same (State.command_only hk (fun s h' c' e hs => ?_) (mask_sub (by decide) ho)) h
  cases c' <;> first | (simp [opcodeOf] at e; done) | (unfold State.runCmd; with_reducible repeat' (first | exact hs | exact mask_sub (by decide) ho | apply State.cmdKeyRoll_same))

theorem execForward_same {o : Nat} {z : State} {hd : CmdHead} {pos : Nat} {frame : List Nat} {s : State} {t : State} (hk : Same o z s) (ho : 172034 &&& o = 172034) (h : execForward hd pos frame s = .next t) : Same o z t := by
  unfold execForward at h
  refine gated_same (State.command_only hk (fun s h' c' e hs => ?_) (mask_sub (by decide) ho)) h
  cases c' <;> first | (simp [opcodeOf] at e; done) | (unfold State.runCmd; with_reducible repeat' (first | exact hs | exact mask_sub (by decide) ho | apply State.cmdForward_same))

theorem execKolrokFrameRx_same {o : Nat} {z : State} {lane : Nat} {bytes : List Nat} {stamp : Stamp} {s : State} {t : State} (hk : Same o z s) (ho : 8194 &&& o = 8194) (h : execKolrokFrameRx lane bytes stamp s = .next t) : Same o z t := by
  unfold execKolrokFrameRx at h
  refine gated_same ?_ h
  with_reducible repeat' (first | exact hk | exact mask_sub (by decide) ho | apply State.frameRx_same | apply State.when_same)

theorem execArpRequest_same {o : Nat} {z : State} {lane : Nat} {bytes : List Nat} {s : State} {t : State} (hk : Same o z s) (ho : 8192 &&& o = 8192) (h : execArpRequest lane bytes s = .next t) : Same o z t := by
  unfold execArpRequest at h
  refine gated_same ?_ h
  with_reducible repeat' (first | exact hk | exact mask_sub (by decide) ho | apply State.arpRequest_same | apply State.when_same)

theorem execPtpEvent_same {o : Nat} {z : State} {lane : Nat} {udp : Bool} {version : Nat} {messageType : Nat} {domain : Nat} {sequence : Nat} {port : Nat} {clock : Nat} {stamp : Stamp} {s : State} {t : State} (hk : Same o z s) (ho : 134217730 &&& o = 134217730) (h : execPtpEvent lane udp version messageType domain sequence port clock stamp s = .next t) : Same o z t := by
  unfold execPtpEvent at h
  refine gated_same ?_ h
  with_reducible repeat' (first | exact hk | exact mask_sub (by decide) ho | apply State.ptpEvent_same | apply State.sequence_same | apply State.when_same)

theorem execLaneLinkUp_same {o : Nat} {z : State} {lane : Nat} {s : State} {t : State} (hk : Same o z s) (ho : 68719616002 &&& o = 68719616002) (h : execLaneLinkUp lane s = .next t) : Same o z t := by
  unfold execLaneLinkUp at h
  refine gated_same ?_ h
  with_reducible repeat' (first | exact hk | exact mask_sub (by decide) ho | apply State.linkUp_same | apply State.when_same)

theorem execLaneLinkDown_same {o : Nat} {z : State} {lane : Nat} {fecOnly : Bool} {s : State} {t : State} (hk : Same o z s) (ho : 131074 &&& o = 131074) (h : execLaneLinkDown lane fecOnly s = .next t) : Same o z t := by
  unfold execLaneLinkDown at h
  refine gated_same ?_ h
  with_reducible repeat' (first | exact hk | exact mask_sub (by decide) ho | apply State.linkDown_same | apply State.when_same)

theorem execHiBer_same {o : Nat} {z : State} {lane : Nat} {on : Bool} {s : State} {t : State} (hk : Same o z s) (ho : 131074 &&& o = 131074) (h : execHiBer lane on s = .next t) : Same o z t := by
  unfold execHiBer at h
  refine gated_same ?_ h
  with_reducible repeat' (first | exact hk | exact mask_sub (by decide) ho | apply State.hiBer_same | apply State.when_same)

theorem execFrameTransmit_same {o : Nat} {z : State} {lane : Nat} {pos : Nat} {stamp : Stamp} {s : State} {t : State} (hk : Same o z s) (ho : 68853702658 &&& o = 68853702658) (h : execFrameTransmit lane pos stamp s = .next t) : Same o z t := by
  unfold execFrameTransmit at h
  refine gated_same ?_ h
  with_reducible repeat' (first | exact hk | exact mask_sub (by decide) ho | apply State.frameTransmit_same | apply State.when_same)

theorem execForwardedFrameRx_same {o : Nat} {z : State} {pos : Nat} {bytes : List Nat} {s : State} {t : State} (hk : Same o z s) (ho : 8194 &&& o = 8194) (h : execForwardedFrameRx pos bytes s = .next t) : Same o z t := by
  unfold execForwardedFrameRx at h
  refine gated_same ?_ h
  with_reducible repeat' (first | exact hk | exact mask_sub (by decide) ho | refine State.ringMessage_same (fun _ hk => ?_) ?_ | apply State.forwardedRx_same)

theorem execForwardedResponseRx_same {o : Nat} {z : State} {pos : Nat} {rseq : Nat} {bytes : List Nat} {s : State} {t : State} (hk : Same o z s) (ho : 8192 &&& o = 8192) (h : execForwardedResponseRx pos rseq bytes s = .next t) : Same o z t := by
  unfold execForwardedResponseRx at h
  refine gated_same ?_ h
  with_reducible repeat' (first | exact hk | exact mask_sub (by decide) ho | refine State.ringMessage_same (fun _ hk => ?_) ?_ | apply State.forwardedResponse_same)

theorem execFeedbackLost_same {o : Nat} {z : State} {ctx : Nat} {s : State} {t : State} (hk : Same o z s) (ho : 8519694 &&& o = 8519694) (h : execFeedbackLost ctx s = .next t) : Same o z t := by
  unfold execFeedbackLost at h
  refine gated_same ?_ h
  with_reducible repeat' (first | exact hk | exact mask_sub (by decide) ho | apply State.feedbackLost_same)

theorem execFeedbackFrozen_same {o : Nat} {z : State} {ctx : Nat} {s : State} {t : State} (hk : Same o z s) (ho : 8519694 &&& o = 8519694) (h : execFeedbackFrozen ctx s = .next t) : Same o z t := by
  unfold execFeedbackFrozen at h
  refine gated_same ?_ h
  with_reducible repeat' (first | exact hk | exact mask_sub (by decide) ho | apply State.feedbackFrozen_same)

theorem execInputInvalid_same {o : Nat} {z : State} {ctx : Nat} {s : State} {t : State} (hk : Same o z s) (ho : 8519692 &&& o = 8519692) (h : execInputInvalid ctx s = .next t) : Same o z t := by
  unfold execInputInvalid at h
  refine gated_same ?_ h
  with_reducible repeat' (first | exact hk | exact mask_sub (by decide) ho | apply State.inputInvalid_same)

theorem execFeedbackOverload_same {o : Nat} {z : State} {ctx : Nat} {s : State} {t : State} (hk : Same o z s) (ho : 8519680 &&& o = 8519680) (h : execFeedbackOverload ctx s = .next t) : Same o z t := by
  unfold execFeedbackOverload at h
  refine gated_same ?_ h
  with_reducible repeat' (first | exact hk | exact mask_sub (by decide) ho | apply State.feedbackOverload_same)

theorem execFollowing_same {o : Nat} {z : State} {ctx : Nat} {s : State} {t : State} (hk : Same o z s) (ho : 8519692 &&& o = 8519692) (h : execFollowing ctx s = .next t) : Same o z t := by
  unfold execFollowing at h
  refine gated_same ?_ h
  with_reducible repeat' (first | exact hk | exact mask_sub (by decide) ho | apply State.following_same)

theorem execAutoResume_same {o : Nat} {z : State} {ctx : Nat} {s : State} {t : State} (hk : Same o z s) (ho : 8388620 &&& o = 8388620) (h : execAutoResume ctx s = .next t) : Same o z t := by
  unfold execAutoResume at h
  refine gated_same ?_ h
  with_reducible repeat' (first | exact hk | exact mask_sub (by decide) ho | apply State.autoResume_same)

theorem execExpressUpdate_same {o : Nat} {z : State} {ctx : Nat} {chip : Nat} {codes : List Nat} {applied : Bool} {differ : Bool} {s : State} {t : State} (hk : Same o z s) (ho : 311033870 &&& o = 311033870) (h : execExpressUpdate ctx chip codes applied differ s = .next t) : Same o z t := by
  unfold execExpressUpdate at h
  refine gated_same ?_ h
  with_reducible repeat' (first | exact hk | exact mask_sub (by decide) ho | apply State.expressUpdate_same)

theorem execExpressOverrun_same {o : Nat} {z : State} {ctx : Nat} {chip : Nat} {s : State} {t : State} (hk : Same o z s) (ho : 8388610 &&& o = 8388610) (h : execExpressOverrun ctx chip s = .next t) : Same o z t := by
  unfold execExpressOverrun at h
  refine gated_same ?_ h
  with_reducible repeat' (first | exact hk | exact mask_sub (by decide) ho | apply State.expressOverrun_same)

theorem execExpJudged_same {o : Nat} {z : State} {ctx : Nat} {s : State} {t : State} (hk : Same o z s) (ho : 268566528 &&& o = 268566528) (h : execExpJudged ctx s = .next t) : Same o z t := by
  unfold execExpJudged at h
  refine gated_same ?_ h
  with_reducible repeat' (first | exact hk | exact mask_sub (by decide) ho | apply State.expJudged_same)

theorem execHeaterOpen_same {o : Nat} {z : State} {channel : Nat} {s : State} {t : State} (hk : Same o z s) (ho : 33685504 &&& o = 33685504) (h : execHeaterOpen channel s = .next t) : Same o z t := by
  unfold execHeaterOpen at h
  refine gated_same ?_ h
  with_reducible repeat' (first | exact hk | exact mask_sub (by decide) ho | apply State.heaterOpen_same)

theorem execHeaterShort_same {o : Nat} {z : State} {channel : Nat} {s : State} {t : State} (hk : Same o z s) (ho : 33685504 &&& o = 33685504) (h : execHeaterShort channel s = .next t) : Same o z t := by
  unfold execHeaterShort at h
  refine gated_same ?_ h
  with_reducible repeat' (first | exact hk | exact mask_sub (by decide) ho | apply State.heaterShort_same)

theorem execHeaterLoad_same {o : Nat} {z : State} {channel : Nat} {s : State} {t : State} (hk : Same o z s) (ho : 33685504 &&& o = 33685504) (h : execHeaterLoad channel s = .next t) : Same o z t := by
  unfold execHeaterLoad at h
  refine gated_same ?_ h
  with_reducible repeat' (first | exact hk | exact mask_sub (by decide) ho | apply State.heaterLoad_same)

theorem execDriverOverload_same {o : Nat} {z : State} {driver : Nat} {s : State} {t : State} (hk : Same o z s) (ho : 131074 &&& o = 131074) (h : execDriverOverload driver s = .next t) : Same o z t := by
  unfold execDriverOverload at h
  refine gated_same ?_ h
  with_reducible repeat' (first | exact hk | exact mask_sub (by decide) ho | apply State.driverOverload_same | apply State.when_same)

theorem execGuardIntegrity_same {o : Nat} {z : State} {tile : Nat} {s : State} {t : State} (hk : Same o z s) (ho : 33685504 &&& o = 33685504) (h : execGuardIntegrity tile s = .next t) : Same o z t := by
  unfold execGuardIntegrity at h
  refine gated_same ?_ h
  with_reducible repeat' (first | exact hk | exact mask_sub (by decide) ho | apply State.guardIntegrity_same | apply State.when_same)

theorem execStarvation_same {o : Nat} {z : State} {tile : Nat} {s : State} {t : State} (hk : Same o z s) (ho : 33685506 &&& o = 33685506) (h : execStarvation tile s = .next t) : Same o z t := by
  unfold execStarvation at h
  refine gated_same ?_ h
  with_reducible repeat' (first | exact hk | exact mask_sub (by decide) ho | apply State.starvation_same | apply State.when_same)

theorem execTrimApply_same {o : Nat} {z : State} {channel : Nat} {s : State} {t : State} (hk : Same o z s) (ho : 33554432 &&& o = 33554432) (h : execTrimApply channel s = .next t) : Same o z t := by
  unfold execTrimApply at h
  refine gated_same ?_ h
  with_reducible repeat' (first | exact hk | exact mask_sub (by decide) ho | apply State.trimApply_same)

theorem execHtrOffRelease_same {o : Nat} {z : State} {r : Requester} {tile : Nat} {word : Nat} {mask : Nat} {s : State} {t : State} (hk : Same o z s) (ho : 77827098686 &&& o = 77827098686) (h : execHtrOffRelease r tile word mask s = .next t) : Same o z t := by
  unfold execHtrOffRelease at h
  refine gated_same ?_ h
  with_reducible repeat' (first | exact hk | exact mask_sub (by decide) ho | apply State.regWrite_same)

theorem execFdOffRelease_same {o : Nat} {z : State} {r : Requester} {tile : Nat} {word : Nat} {mask : Nat} {s : State} {t : State} (hk : Same o z s) (ho : 77827098686 &&& o = 77827098686) (h : execFdOffRelease r tile word mask s = .next t) : Same o z t := by
  unfold execFdOffRelease at h
  refine gated_same ?_ h
  with_reducible repeat' (first | exact hk | exact mask_sub (by decide) ho | apply State.regWrite_same)

theorem execFdLevelWrite_same {o : Nat} {z : State} {r : Requester} {driver : Nat} {bar : Nat} {cross : Nat} {s : State} {t : State} (hk : Same o z s) (ho : 77827098686 &&& o = 77827098686) (h : execFdLevelWrite r driver bar cross s = .next t) : Same o z t := by
  unfold execFdLevelWrite at h
  refine gated_same ?_ h
  with_reducible repeat' (first | exact hk | exact mask_sub (by decide) ho | apply State.regWrite_same)

theorem execRtRemapWrite_same {o : Nat} {z : State} {r : Requester} {logical : Nat} {useAlt : Bool} {s : State} {t : State} (hk : Same o z s) (ho : 77827098686 &&& o = 77827098686) (h : execRtRemapWrite r logical useAlt s = .next t) : Same o z t := by
  unfold execRtRemapWrite at h
  refine gated_same ?_ h
  with_reducible repeat' (first | exact hk | exact mask_sub (by decide) ho | apply State.regWrite_same)

theorem execSnapshotLoRead_same {o : Nat} {z : State} {r : Requester} {addr : Nat} {s : State} {t : State} (hk : Same o z s) (ho : 135282734 &&& o = 135282734) (h : execSnapshotLoRead r addr s = .next t) : Same o z t := by
  unfold execSnapshotLoRead at h
  refine gated_same ?_ h
  with_reducible repeat' (first | exact hk | exact mask_sub (by decide) ho | apply State.regRead_same)

theorem execRcRead_same {o : Nat} {z : State} {r : Requester} {addr : Nat} {words : Nat} {s : State} {t : State} (hk : Same o z s) (ho : 135282734 &&& o = 135282734) (h : execRcRead r addr words s = .next t) : Same o z t := by
  unfold execRcRead at h
  refine gated_same ?_ h
  with_reducible repeat' (first | exact hk | exact mask_sub (by decide) ho | apply State.regRead_same)

theorem execRegisterWrite_same {o : Nat} {z : State} {r : Requester} {addr : Nat} {data : List Nat} {s : State} {t : State} (hk : Same o z s) (ho : 77827098686 &&& o = 77827098686) (h : execRegisterWrite r addr data s = .next t) : Same o z t := by
  unfold execRegisterWrite at h
  refine gated_same ?_ h
  with_reducible repeat' (first | exact hk | exact mask_sub (by decide) ho | apply State.regWrite_same)

theorem execIncrementalPost_same {o : Nat} {z : State} {late : List (Nat × Nat × Plane)} {margins : List (Plane × Nat)} {s : State} {t : State} (hk : Same o z s) (ho : 68719654926 &&& o = 68719654926) (h : execIncrementalPost late margins s = .next t) : Same o z t := by
  unfold execIncrementalPost at h
  refine gated_same ?_ h
  with_reducible repeat' (first | exact hk | exact mask_sub (by decide) ho | apply State.incrementalPost_same)

theorem execFullRoutingPost_same {o : Nat} {z : State} {late : List Plane} {margins : List (Plane × Nat)} {s : State} {t : State} (hk : Same o z s) (ho : 68719654926 &&& o = 68719654926) (h : execFullRoutingPost late margins s = .next t) : Same o z t := by
  unfold execFullRoutingPost at h
  refine gated_same ?_ h
  with_reducible repeat' (first | exact hk | exact mask_sub (by decide) ho | apply State.fullPost_same)

theorem execDeferredRoutingStart_same {o : Nat} {z : State} {s : State} {t : State} (hk : Same o z s) (ho : 2048 &&& o = 2048) (h : execDeferredRoutingStart s = .next t) : Same o z t := by
  unfold execDeferredRoutingStart at h
  refine gated_same ?_ h
  with_reducible repeat' (first | exact hk | exact mask_sub (by decide) ho | apply State.deferredStart_same)

theorem execRearrangeExpired_same {o : Nat} {z : State} {s : State} {t : State} (hk : Same o z s) (ho : 10240 &&& o = 10240) (h : execRearrangeExpired s = .next t) : Same o z t := by
  unfold execRearrangeExpired at h
  refine gated_same ?_ h
  with_reducible repeat' (first | exact hk | exact mask_sub (by decide) ho | apply State.rearrangeExpire_same)

theorem execStageExpired_same {o : Nat} {z : State} {principal : Nat} {s : State} {t : State} (hk : Same o z s) (ho : 8192 &&& o = 8192) (h : execStageExpired principal s = .next t) : Same o z t := by
  unfold execStageExpired at h
  refine gated_same ?_ h
  with_reducible repeat' (first | exact hk | exact mask_sub (by decide) ho | apply State.stageExpire_same)

theorem execYellowExpired_same {o : Nat} {z : State} {s : State} {t : State} (hk : Same o z s) (ho : 172034 &&& o = 172034) (h : execYellowExpired s = .next t) : Same o z t := by
  unfold execYellowExpired at h
  refine gated_same ?_ h
  with_reducible repeat' (first | exact hk | exact mask_sub (by decide) ho | apply State.yellowExpire_same)

theorem execCommitFix_same {o : Nat} {z : State} {s : State} {t : State} (hk : Same o z s) (ho : 178178 &&& o = 178178) (h : execCommitFix s = .next t) : Same o z t := by
  unfold execCommitFix at h
  refine gated_same ?_ h
  with_reducible repeat' (first | exact hk | exact mask_sub (by decide) ho | apply State.tryAll_same | apply State.when_same)

theorem execCommitSwitch_same {o : Nat} {z : State} {chip : Nat} {late : List Nat} {differ : List Nat} {s : State} {t : State} (hk : Same o z s) (ho : 276961294 &&& o = 276961294) (h : execCommitSwitch chip late differ s = .next t) : Same o z t := by
  unfold execCommitSwitch at h
  refine gated_same ?_ h
  with_reducible repeat' (first | exact hk | exact mask_sub (by decide) ho | apply State.commitSwitch_same)

theorem execLateTileApply_same {o : Nat} {z : State} {tile : Nat} {s : State} {t : State} (hk : Same o z s) (ho : 268435458 &&& o = 268435458) (h : execLateTileApply tile s = .next t) : Same o z t := by
  unfold execLateTileApply at h
  refine gated_same ?_ h
  with_reducible repeat' (first | exact hk | exact mask_sub (by decide) ho | apply State.lateTileApply_same)

theorem execCommitDone_same {o : Nat} {z : State} {s : State} {t : State} (hk : Same o z s) (ho : 12288 &&& o = 12288) (h : execCommitDone s = .next t) : Same o z t := by
  unfold execCommitDone at h
  refine gated_same ?_ h
  with_reducible repeat' (first | exact hk | exact mask_sub (by decide) ho | apply State.commitDone_same)

theorem execReadyRx_same {o : Nat} {z : State} {principal : Nat} {number : Nat} {mask : Nat} {pos : Nat} {named : Nat} {earliest : Nat} {slot : Nat} {fclk : Nat} {s : State} {t : State} (hk : Same o z s) (ho : 178178 &&& o = 178178) (h : execReadyRx principal number mask pos named earliest slot fclk s = .next t) : Same o z t := by
  unfold execReadyRx at h
  refine gated_same ?_ h
  with_reducible repeat' (first | exact hk | exact mask_sub (by decide) ho | refine State.ringMessage_same (fun _ hk => ?_) ?_ | apply State.readyArrives_same)

theorem execGoRx_same {o : Nat} {z : State} {principal : Nat} {number : Nat} {frame : Nat} {s : State} {t : State} (hk : Same o z s) (ho : 176130 &&& o = 176130) (h : execGoRx principal number frame s = .next t) : Same o z t := by
  unfold execGoRx at h
  refine gated_same ?_ h
  with_reducible repeat' (first | exact hk | exact mask_sub (by decide) ho | refine State.ringMessage_same (fun _ hk => ?_) ?_ | apply State.goArrives_same)

theorem execAbandonRx_same {o : Nat} {z : State} {principal : Nat} {number : Nat} {s : State} {t : State} (hk : Same o z s) (ho : 178178 &&& o = 178178) (h : execAbandonRx principal number s = .next t) : Same o z t := by
  unfold execAbandonRx at h
  refine gated_same ?_ h
  with_reducible repeat' (first | exact hk | exact mask_sub (by decide) ho | refine State.ringMessage_same (fun _ hk => ?_) ?_ | apply State.abandonArrives_same)

theorem execTokenLost_same {o : Nat} {z : State} {s : State} {t : State} (hk : Same o z s) (ho : 178178 &&& o = 178178) (h : execTokenLost s = .next t) : Same o z t := by
  unfold execTokenLost at h
  refine gated_same ?_ h
  with_reducible repeat' (first | exact hk | exact mask_sub (by decide) ho | apply State.tokenLost_same)

theorem execBiasLimit_same {o : Nat} {z : State} {tile : Nat} {s : State} {t : State} (hk : Same o z s) (ho : 131074 &&& o = 131074) (h : execBiasLimit tile s = .next t) : Same o z t := by
  unfold execBiasLimit at h
  refine gated_same ?_ h
  with_reducible repeat' (first | exact hk | exact mask_sub (by decide) ho | apply State.biasLimit_same | apply State.when_same)

theorem execRefOut_same {o : Nat} {z : State} {tile : Nat} {sample : Nat} {s : State} {t : State} (hk : Same o z s) (ho : 262146 &&& o = 262146) (h : execRefOut tile sample s = .next t) : Same o z t := by
  unfold execRefOut at h
  refine gated_same ?_ h
  with_reducible repeat' (first | exact hk | exact mask_sub (by decide) ho | apply State.refOut_same | apply State.when_same)

theorem execRefTimeout_same {o : Nat} {z : State} {tile : Nat} {s : State} {t : State} (hk : Same o z s) (ho : 393218 &&& o = 393218) (h : execRefTimeout tile s = .next t) : Same o z t := by
  unfold execRefTimeout at h
  refine gated_same ?_ h
  with_reducible repeat' (first | exact hk | exact mask_sub (by decide) ho | apply State.refTimeout_same)

theorem execCaptureRecordWrite_same {o : Nat} {z : State} {channel : Nat} {last : Nat} {codes : List (List Nat)} {s : State} {t : State} (hk : Same o z s) (ho : 524290 &&& o = 524290) (h : execCaptureRecordWrite channel last codes s = .next t) : Same o z t := by
  unfold execCaptureRecordWrite at h
  refine gated_same ?_ h
  with_reducible repeat' (first | exact hk | exact mask_sub (by decide) ho | apply State.captureRecord_same | apply State.when_same)

theorem execCapRptrWrite_same {o : Nat} {z : State} {r : Requester} {channel : Nat} {value : Nat} {s : State} {t : State} (hk : Same o z s) (ho : 77827098686 &&& o = 77827098686) (h : execCapRptrWrite r channel value s = .next t) : Same o z t := by
  unfold execCapRptrWrite at h
  refine gated_same ?_ h
  with_reducible repeat' (first | exact hk | exact mask_sub (by decide) ho | apply State.regWrite_same)

theorem execHkaSlot_same {o : Nat} {z : State} {slot : Nat} {code : Nat} {ofs : Int} {gain : Int} {s : State} {t : State} (hk : Same o z s) (ho : 1220610 &&& o = 1220610) (h : execHkaSlot slot code ofs gain s = .next t) : Same o z t := by
  unfold execHkaSlot at h
  refine gated_same ?_ h
  with_reducible repeat' (first | exact hk | exact mask_sub (by decide) ho | apply State.hkaSlot_same | apply State.when_same)

theorem execHkaInjectWrite_same {o : Nat} {z : State} {r : Requester} {channel : Nat} {tag : Nat} {s : State} {t : State} (hk : Same o z s) (ho : 77827098686 &&& o = 77827098686) (h : execHkaInjectWrite r channel tag s = .next t) : Same o z t := by
  unfold execHkaInjectWrite at h
  refine gated_same ?_ h
  with_reducible repeat' (first | exact hk | exact mask_sub (by decide) ho | apply State.writeFields_same)

theorem execHkaResultPop_same {o : Nat} {z : State} {r : Requester} {s : State} {t : State} (hk : Same o z s) (ho : 135282734 &&& o = 135282734) (h : execHkaResultPop r s = .next t) : Same o z t := by
  unfold execHkaResultPop at h
  refine gated_same ?_ h
  with_reducible repeat' (first | exact hk | exact mask_sub (by decide) ho | apply State.regRead_same)

theorem execCalStart_same {o : Nat} {z : State} {r : Requester} {s : State} {t : State} (hk : Same o z s) (ho : 77827098686 &&& o = 77827098686) (h : execCalStart r s = .next t) : Same o z t := by
  unfold execCalStart at h
  refine gated_same ?_ h
  with_reducible repeat' (first | exact hk | exact mask_sub (by decide) ho | apply State.writeFields_same)

theorem execCorrResidue_same {o : Nat} {z : State} {tile : Nat} {slot : Nat} {s : State} {t : State} (hk : Same o z s) (ho : 2228226 &&& o = 2228226) (h : execCorrResidue tile slot s = .next t) : Same o z t := by
  unfold execCorrResidue at h
  refine gated_same ?_ h
  with_reducible repeat' (first | exact hk | exact mask_sub (by decide) ho | apply State.corrResidue_same | apply State.when_same)

theorem execStoreRoomReadEcc_same {o : Nat} {z : State} {plane : Plane} {tile : Nat} {word : Nat} {double : Bool} {s : State} {t : State} (hk : Same o z s) (ho : 131084 &&& o = 131084) (h : execStoreRoomReadEcc plane tile word double s = .next t) : Same o z t := by
  unfold execStoreRoomReadEcc at h
  refine gated_same ?_ h
  with_reducible repeat' (first | exact hk | exact mask_sub (by decide) ho | apply State.storeEcc_same | apply State.when_same)

theorem execRefreshMiss_same {o : Nat} {z : State} {plane : Plane} {tile : Nat} {s : State} {t : State} (hk : Same o z s) (ho : 131084 &&& o = 131084) (h : execRefreshMiss plane tile s = .next t) : Same o z t := by
  unfold execRefreshMiss at h
  refine gated_same ?_ h
  with_reducible repeat' (first | exact hk | exact mask_sub (by decide) ho | apply State.refreshMiss_same | apply State.when_same)

theorem execSbSetAddr_same {o : Nat} {z : State} {pecOk : Bool} {addr : Nat} {words : Nat} {s : State} {t : State} (hk : Same o z s) (ho : 16384 &&& o = 16384) (h : execSbSetAddr pecOk addr words s = .next t) : Same o z t := by
  unfold execSbSetAddr at h
  refine gated_same ?_ h
  with_reducible repeat' (first | exact hk | exact mask_sub (by decide) ho | apply State.sbSetAddr_same)

theorem execSbRead_same {o : Nat} {z : State} {s : State} {t : State} (hk : Same o z s) (ho : 135282734 &&& o = 135282734) (h : execSbRead s = .next t) : Same o z t := by
  unfold execSbRead at h
  refine gated_same ?_ h
  with_reducible repeat' (first | exact hk | exact mask_sub (by decide) ho | apply State.sbRead_same)

theorem execSbWrite_same {o : Nat} {z : State} {pecOk : Bool} {data : List Nat} {s : State} {t : State} (hk : Same o z s) (ho : 77827098686 &&& o = 77827098686) (h : execSbWrite pecOk data s = .next t) : Same o z t := by
  unfold execSbWrite at h
  refine gated_same ?_ h
  with_reducible repeat' (first | exact hk | exact mask_sub (by decide) ho | apply State.sbWrite_same)

theorem execSbLastStatus_same {o : Nat} {z : State} {s : State} {t : State} (hk : Same o z s) (ho : 16384 &&& o = 16384) (h : execSbLastStatus s = .next t) : Same o z t := by
  unfold execSbLastStatus at h
  refine gated_same ?_ h
  with_reducible repeat' (first | exact hk | exact mask_sub (by decide) ho | apply State.sbLastStatus_same)

theorem execSbSummary_same {o : Nat} {z : State} {s : State} {t : State} (hk : Same o z s) (ho : 68719493120 &&& o = 68719493120) (h : execSbSummary s = .next t) : Same o z t := by
  unfold execSbSummary at h
  refine gated_same ?_ h
  with_reducible repeat' (first | exact hk | exact mask_sub (by decide) ho | apply State.sbSummary_same)

theorem execSbAlertCause_same {o : Nat} {z : State} {s : State} {t : State} (hk : Same o z s) (ho : 16384 &&& o = 16384) (h : execSbAlertCause s = .next t) : Same o z t := by
  unfold execSbAlertCause at h
  refine gated_same ?_ h
  with_reducible repeat' (first | exact hk | exact mask_sub (by decide) ho | apply State.sbAlertCause_same)

theorem execSbFaultPop_same {o : Nat} {z : State} {s : State} {t : State} (hk : Same o z s) (ho : 147456 &&& o = 147456) (h : execSbFaultPop s = .next t) : Same o z t := by
  unfold execSbFaultPop at h
  refine gated_same ?_ h
  with_reducible repeat' (first | exact hk | exact mask_sub (by decide) ho | apply State.sbFaultPop_same)

theorem execAlertResponse_same {o : Nat} {z : State} {s : State} {t : State} (hk : Same o z s) (ho : 16384 &&& o = 16384) (h : execAlertResponse s = .next t) : Same o z t := by
  unfold execAlertResponse at h
  refine gated_same ?_ h
  with_reducible repeat' (first | exact hk | exact mask_sub (by decide) ho | apply State.alertResponse_same)

theorem execSbStretchTimeout_same {o : Nat} {z : State} {bytes : Nat} {s : State} {t : State} (hk : Same o z s) (ho : 16384 &&& o = 16384) (h : execSbStretchTimeout bytes s = .next t) : Same o z t := by
  unfold execSbStretchTimeout at h
  refine gated_same ?_ h
  with_reducible repeat' (first | exact hk | exact mask_sub (by decide) ho | apply State.sbStretchTimeout_same)

theorem execReset_same {o : Nat} {z : State} {resetN : Bool} {vaon : Bool} {s : State} {t : State} (hk : Same o z s) (ho : 51539607551 &&& o = 51539607551) (h : execReset resetN vaon s = .next t) : Same o z t := by
  unfold execReset at h
  refine gated_same ?_ h
  with_reducible repeat' (first | exact hk | exact mask_sub (by decide) ho | apply State.inReset_same)

theorem execStartUp_same {o : Nat} {z : State} {bootMode : Nat} {pos : Nat} {sba : Nat} {trust : Bool} {flash : List (Nat × List Nat)} {s : State} {t : State} (hk : Same o z s) (ho : 25904038147 &&& o = 25904038147) (h : execStartUp bootMode pos sba trust flash s = .next t) : Same o z t := by
  unfold execStartUp at h
  refine gated_same ?_ h
  with_reducible repeat' (first | exact hk | exact mask_sub (by decide) ho | apply State.startUp_same)

theorem execSelftestDone_same {o : Nat} {z : State} {plane : Plane} {bank : Option (Nat × Nat)} {core : Bool} {s : State} {t : State} (hk : Same o z s) (ho : 8589934594 &&& o = 8589934594) (h : execSelftestDone plane bank core s = .next t) : Same o z t := by
  unfold execSelftestDone at h
  refine gated_same ?_ h
  with_reducible repeat' (first | exact hk | exact mask_sub (by decide) ho | apply State.selftestDone_same)

theorem execLoadInRise_same {o : Nat} {z : State} {s : State} {t : State} (hk : Same o z s) (ho : 8589934592 &&& o = 8589934592) (h : execLoadInRise s = .next t) : Same o z t := by
  unfold execLoadInRise at h
  refine gated_same ?_ h
  with_reducible repeat' (first | exact hk | exact mask_sub (by decide) ho | apply State.loadInRise_same)

theorem execFirstPassTimeout_same {o : Nat} {z : State} {s : State} {t : State} (hk : Same o z s) (ho : 8589934592 &&& o = 8589934592) (h : execFirstPassTimeout s = .next t) : Same o z t := by
  unfold execFirstPassTimeout at h
  refine gated_same ?_ h
  with_reducible repeat' (first | exact hk | exact mask_sub (by decide) ho | apply State.firstPassTimeout_same)

theorem execPassReadEnd_same {o : Nat} {z : State} {slot : Nat} {density : Option Nat} {flash : List (Nat × List Nat)} {s : State} {t : State} (hk : Same o z s) (ho : 94590144014 &&& o = 94590144014) (h : execPassReadEnd slot density flash s = .next t) : Same o z t := by
  unfold execPassReadEnd at h
  refine gated_same ?_ h
  with_reducible repeat' (first | exact hk | exact mask_sub (by decide) ho | apply State.passReadEnd_same)

theorem execSecondPass_same {o : Nat} {z : State} {s : State} {t : State} (hk : Same o z s) (ho : 8589934592 &&& o = 8589934592) (h : execSecondPass s = .next t) : Same o z t := by
  unfold execSecondPass at h
  refine gated_same ?_ h
  with_reducible repeat' (first | exact hk | exact mask_sub (by decide) ho | apply State.secondPass_same)

theorem execRunEntry_same {o : Nat} {z : State} {ms : Nat} {s : State} {t : State} (hk : Same o z s) (ho : 77656678734 &&& o = 77656678734) (h : execRunEntry ms s = .next t) : Same o z t := by
  unfold execRunEntry at h
  refine gated_same ?_ h
  with_reducible repeat' (first | exact hk | exact mask_sub (by decide) ho | apply State.enterRun_same | apply State.runEntry_same)

theorem execLocked_same {o : Nat} {z : State} {ms : Nat} {s : State} {t : State} (hk : Same o z s) (ho : 2 &&& o = 2) (h : execLocked ms s = .next t) : Same o z t := by
  unfold execLocked at h
  refine gated_same ?_ h
  with_reducible repeat' (first | exact hk | exact mask_sub (by decide) ho | apply State.lockedNow_same)

theorem execBootStatusRx_same {o : Nat} {z : State} {pos : Nat} {serial : Nat} {state : Nat} {slot : Nat} {sec : Nat} {digest : Nat} {s : State} {t : State} (hk : Same o z s) (ho : 8589934594 &&& o = 8589934594) (h : execBootStatusRx pos serial state slot sec digest s = .next t) : Same o z t := by
  unfold execBootStatusRx at h
  refine gated_same ?_ h
  with_reducible repeat' (first | exact hk | exact mask_sub (by decide) ho | refine State.ringMessage_same (fun _ hk => ?_) ?_ | apply State.bootStatus_same)

theorem execPassRequestRx_same {o : Nat} {z : State} {s : State} {t : State} (hk : Same o z s) (ho : 8589934592 &&& o = 8589934592) (h : execPassRequestRx s = .next t) : Same o z t := by
  unfold execPassRequestRx at h
  refine gated_same ?_ h
  with_reducible repeat' (first | exact hk | exact mask_sub (by decide) ho | apply State.passRequest_same)

theorem execPassRequestRetry_same {o : Nat} {z : State} {s : State} {t : State} (hk : Same o z s) (ho : 8589934594 &&& o = 8589934594) (h : execPassRequestRetry s = .next t) : Same o z t := by
  unfold execPassRequestRetry at h
  refine gated_same ?_ h
  with_reducible repeat' (first | exact hk | exact mask_sub (by decide) ho | apply State.passRetry_same)

theorem execPmErase_same {o : Nat} {z : State} {s : State} {t : State} (hk : Same o z s) (ho : 25769803776 &&& o = 25769803776) (h : execPmErase s = .next t) : Same o z t := by
  unfold execPmErase at h
  refine gated_same ?_ h
  with_reducible repeat' (first | exact hk | exact mask_sub (by decide) ho | apply State.pmErase_same)

theorem execNorRead_same {o : Nat} {z : State} {r : Requester} {length : Nat} {s : State} {t : State} (hk : Same o z s) (ho : 77827098686 &&& o = 77827098686) (h : execNorRead r length s = .next t) : Same o z t := by
  unfold execNorRead at h
  refine gated_same ?_ h
  with_reducible repeat' (first | exact hk | exact mask_sub (by decide) ho | apply State.writeFields_same)

theorem execNorProgram_same {o : Nat} {z : State} {r : Requester} {length : Nat} {s : State} {t : State} (hk : Same o z s) (ho : 77827098686 &&& o = 77827098686) (h : execNorProgram r length s = .next t) : Same o z t := by
  unfold execNorProgram at h
  refine gated_same ?_ h
  with_reducible repeat' (first | exact hk | exact mask_sub (by decide) ho | apply State.writeFields_same | apply State.norProgram_same)

theorem execNorErase_same {o : Nat} {z : State} {r : Requester} {length : Nat} {s : State} {t : State} (hk : Same o z s) (ho : 77827098686 &&& o = 77827098686) (h : execNorErase r length s = .next t) : Same o z t := by
  unfold execNorErase at h
  refine gated_same ?_ h
  with_reducible repeat' (first | exact hk | exact mask_sub (by decide) ho | apply State.writeFields_same)

theorem execNorOpDone_same {o : Nat} {z : State} {flash : List (Nat × List Nat)} {s : State} {t : State} (hk : Same o z s) (ho : 25769803778 &&& o = 25769803778) (h : execNorOpDone flash s = .next t) : Same o z t := by
  unfold execNorOpDone at h
  refine gated_same ?_ h
  with_reducible repeat' (first | exact hk | exact mask_sub (by decide) ho | apply State.norDone_same)

theorem execBtReboot_same {o : Nat} {z : State} {r : Requester} {slot : Nat} {s : State} {t : State} (hk : Same o z s) (ho : 77827098686 &&& o = 77827098686) (h : execBtReboot r slot s = .next t) : Same o z t := by
  unfold execBtReboot at h
  refine gated_same ?_ h
  with_reducible repeat' (first | exact hk | exact mask_sub (by decide) ho | apply State.writeFields_same)

theorem execRebootReset_same {o : Nat} {z : State} {s : State} {t : State} (hk : Same o z s) (ho : 51539607551 &&& o = 51539607551) (h : execRebootReset s = .next t) : Same o z t := by
  unfold execRebootReset at h
  refine gated_same ?_ h
  with_reducible repeat' (first | exact hk | exact mask_sub (by decide) ho | apply State.rebootReset_same)

theorem execLoadInFall_same {o : Nat} {z : State} {s : State} {t : State} (hk : Same o z s) (ho : 8589934592 &&& o = 8589934592) (h : execLoadInFall s = .next t) : Same o z t := by
  unfold execLoadInFall at h
  refine gated_same ?_ h
  with_reducible repeat' (first | exact hk | exact mask_sub (by decide) ho | apply State.loadInFall_same)

theorem execDeviceReady_same {o : Nat} {z : State} {s : State} {t : State} (hk : Same o z s) (ho : 8589934594 &&& o = 8589934594) (h : execDeviceReady s = .next t) : Same o z t := by
  unfold execDeviceReady at h
  refine gated_same ?_ h
  with_reducible repeat' (first | exact hk | exact mask_sub (by decide) ho | apply State.deviceReady_same)

theorem execDivergenceDecision_same {o : Nat} {z : State} {s : State} {t : State} (hk : Same o z s) (ho : 268566530 &&& o = 268566530) (h : execDivergenceDecision s = .next t) : Same o z t := by
  unfold execDivergenceDecision at h
  refine gated_same ?_ h
  with_reducible repeat' (first | exact hk | exact mask_sub (by decide) ho | apply State.divDecide_same)

theorem execCentralAuditEnd_same {o : Nat} {z : State} {failA : Bool} {failB : Bool} {s : State} {t : State} (hk : Same o z s) (ho : 268566530 &&& o = 268566530) (h : execCentralAuditEnd failA failB s = .next t) : Same o z t := by
  unfold execCentralAuditEnd at h
  refine gated_same ?_ h
  with_reducible repeat' (first | exact hk | exact mask_sub (by decide) ho | apply State.auditEnd_same)

theorem execPlaneFence_same {o : Nat} {z : State} {plane : Plane} {s : State} {t : State} (hk : Same o z s) (ho : 94757904386 &&& o = 94757904386) (h : execPlaneFence plane s = .next t) : Same o z t := by
  unfold execPlaneFence at h
  refine gated_same ?_ h
  with_reducible repeat' (first | exact hk | exact mask_sub (by decide) ho | apply State.fenceRow_same | apply State.noteMortem_same)

theorem execDrillSwap_same {o : Nat} {z : State} {s : State} {t : State} (hk : Same o z s) (ho : 268451842 &&& o = 268451842) (h : execDrillSwap s = .next t) : Same o z t := by
  unfold execDrillSwap at h
  refine gated_same ?_ h
  with_reducible repeat' (first | exact hk | exact mask_sub (by decide) ho | apply State.drillSwap_same)

theorem execDrillCheck_same {o : Nat} {z : State} {failed : List Nat} {supervisor : Bool} {s : State} {t : State} (hk : Same o z s) (ho : 268623874 &&& o = 268623874) (h : execDrillCheck failed supervisor s = .next t) : Same o z t := by
  unfold execDrillCheck at h
  refine gated_same ?_ h
  with_reducible repeat' (first | exact hk | exact mask_sub (by decide) ho | apply State.drillCheck_same)

theorem execDrillDue_same {o : Nat} {z : State} {s : State} {t : State} (hk : Same o z s) (ho : 268566528 &&& o = 268566528) (h : execDrillDue s = .next t) : Same o z t := by
  unfold execDrillDue at h
  refine gated_same ?_ h
  with_reducible repeat' (first | exact hk | exact mask_sub (by decide) ho | apply State.drillDue_same | apply State.when_same)

theorem execPlaneReturn_same {o : Nat} {z : State} {r : Requester} {s : State} {t : State} (hk : Same o z s) (ho : 77827098686 &&& o = 77827098686) (h : execPlaneReturn r s = .next t) : Same o z t := by
  unfold execPlaneReturn at h
  refine gated_same ?_ h
  with_reducible repeat' (first | exact hk | exact mask_sub (by decide) ho | apply State.writeFields_same)

theorem execReturnBankTest_same {o : Nat} {z : State} {fail : Option (Nat × Nat)} {s : State} {t : State} (hk : Same o z s) (ho : 268582914 &&& o = 268582914) (h : execReturnBankTest fail s = .next t) : Same o z t := by
  unfold execReturnBankTest at h
  refine gated_same ?_ h
  with_reducible repeat' (first | exact hk | exact mask_sub (by decide) ho | apply State.returnTest_same)

theorem execLockstep_same {o : Nat} {z : State} {s : State} {t : State} (hk : Same o z s) (ho : 272629772 &&& o = 272629772) (h : execLockstep s = .next t) : Same o z t := by
  unfold execLockstep at h
  refine gated_same ?_ h
  with_reducible repeat' (first | exact hk | exact mask_sub (by decide) ho | apply State.lockstep_same)

theorem execReturnEnd_same {o : Nat} {z : State} {s : State} {t : State} (hk : Same o z s) (ho : 268582914 &&& o = 268582914) (h : execReturnEnd s = .next t) : Same o z t := by
  unfold execReturnEnd at h
  refine gated_same ?_ h
  with_reducible repeat' (first | exact hk | exact mask_sub (by decide) ho | apply State.returnEnd_same)

theorem execAutoReturn_same {o : Nat} {z : State} {s : State} {t : State} (hk : Same o z s) (ho : 268582914 &&& o = 268582914) (h : execAutoReturn s = .next t) : Same o z t := by
  unfold execAutoReturn at h
  refine gated_same ?_ h
  with_reducible repeat' (first | exact hk | exact mask_sub (by decide) ho | apply State.autoReturn_same)

theorem execHeartbeat_same {o : Nat} {z : State} {plane : Plane} {s : State} {t : State} (hk : Same o z s) (ho : 131072 &&& o = 131072) (h : execHeartbeat plane s = .next t) : Same o z t := by
  unfold execHeartbeat at h
  refine gated_same ?_ h
  with_reducible repeat' (first | exact hk | exact mask_sub (by decide) ho | apply State.heartbeat_same | apply State.when_same)


end Sys2Proof.Machine
end

