-- ==== Sys2Proof/Laws/Frames.lean ====
section
/-! SUPPORT. Laws/Frames.lean: a command leaves every part of the state that `mayChange` does not list (Safety.lean). -/

set_option linter.all false
set_option Elab.async false

namespace Sys2Proof.Machine

open Sys2Proof

/-- The bits of a list of parts. -/
def partMask (l : List Part) : Nat := l.foldl (fun m p => m ||| 2 ^ p.ix) 0

theorem partMask_bit (p : Part) (l : List Part) (m : Nat) :
    (l.foldl (fun m p => m ||| 2 ^ p.ix) m).testBit p.ix = true → p ∈ l ∨ m.testBit p.ix = true := by
  induction l generalizing m with
  | nil => exact Or.inr
  | cons q l ih =>
    intro h
    rcases ih _ h with h | h
    · exact Or.inl (List.mem_cons_of_mem _ h)
    · rw [Nat.testBit_or, Nat.testBit_two_pow] at h
      rcases Bool.or_eq_true_iff.1 h with h | h
      · exact Or.inr h
      · refine Or.inl (List.mem_cons.2 (Or.inl ?_))
        have e : q.ix = p.ix := by simpa using h
        cases p <;> cases q <;> first | rfl | (simp [Part.ix] at e)

/-- Agreement outside a list of parts. -/
theorem same_list {l : List Part} {b s : State} (h : Same (partMask l) b s) (p : Part) (hp : p ∉ l) : b.agree p s := by
  apply h
  rcases Bool.eq_false_or_eq_true ((partMask l).testBit p.ix) with e | e
  · rcases partMask_bit p l 0 e with h | h
    · exact absurd h hp
    · simp at h
  · exact e

/-- Nothing outside the listed parts changes. -/
theorem exec_frame {i : Instr} {s t : State} (h : exec i s = .next t) (p : Part) (hp : p ∉ mayChange i) : s.agree p t := by
  cases i
  case frameBoundary => exact same_list (l := boundaryParts) (execFrameBoundary_same same_refl (by decide) h) p hp
  case offerInstant => exact same_list (l := [.links, .faults]) (execOfferInstant_same same_refl (by decide) h) p hp
  case admissionPoint => exact same_list (l := [.clk, .shared, .privA, .privB, .shadows, .access, .modeNext, .power, .route, .com, .links, .sb, .sched, .prot, .faults, .cap, .hka, .gens, .loop, .act, .cal, .time, .pl, .pw, .boot, .nor, .free]) (execAdmissionPoint_same same_refl (by decide) h) p hp
  case releaseDeadline => exact same_list (l := [.shared, .faults, .loop, .pl]) (execReleaseDeadline_same same_refl (by decide) h) p hp
  case feedbackLost => exact same_list (l := [.shared, .privA, .privB, .faults, .loop]) (execFeedbackLost_same same_refl (by decide) h) p hp
  case feedbackFrozen => exact same_list (l := [.shared, .privA, .privB, .faults, .loop]) (execFeedbackFrozen_same same_refl (by decide) h) p hp
  case inputInvalid => exact same_list (l := [.privA, .privB, .faults, .loop]) (execInputInvalid_same same_refl (by decide) h) p hp
  case feedbackOverload => exact same_list (l := [.faults, .loop]) (execFeedbackOverload_same same_refl (by decide) h) p hp
  case following => exact same_list (l := [.privA, .privB, .faults, .loop]) (execFollowing_same same_refl (by decide) h) p hp
  case autoResume => exact same_list (l := [.privA, .privB, .loop]) (execAutoResume_same same_refl (by decide) h) p hp
  case expressUpdate => exact same_list (l := [.shared, .privA, .privB, .faults, .cap, .loop, .act, .pl]) (execExpressUpdate_same same_refl (by decide) h) p hp
  case expressOverrun => exact same_list (l := [.shared, .loop]) (execExpressOverrun_same same_refl (by decide) h) p hp
  case expJudged => exact same_list (l := [.faults, .pl]) (execExpJudged_same same_refl (by decide) h) p hp
  case kolrokFrameRx => exact same_list (l := [.shared, .links]) (execKolrokFrameRx_same same_refl (by decide) h) p hp
  case arpRequest => exact same_list (l := [.links]) (execArpRequest_same same_refl (by decide) h) p hp
  case ptpEvent => exact same_list (l := [.shared, .time]) (execPtpEvent_same same_refl (by decide) h) p hp
  case laneLinkUp => exact same_list (l := [.shared, .links, .faults, .free]) (execLaneLinkUp_same same_refl (by decide) h) p hp
  case laneLinkDown => exact same_list (l := [.shared, .faults]) (execLaneLinkDown_same same_refl (by decide) h) p hp
  case hiBer => exact same_list (l := [.shared, .faults]) (execHiBer_same same_refl (by decide) h) p hp
  case frameTransmit => exact same_list (l := [.shared, .links, .time, .free]) (execFrameTransmit_same same_refl (by decide) h) p hp
  case ping => exact same_list (l := [.shared, .links, .sched, .faults]) (execPing_same same_refl (by decide) h) p hp
  case summary => exact same_list (l := [.shared, .links, .sched, .faults, .free]) (execSummary_same same_refl (by decide) h) p hp
  case fence => exact same_list (l := [.shared, .links, .sched, .faults]) (execFence_same same_refl (by decide) h) p hp
  case read => exact same_list (l := [.shared, .privA, .privB, .access, .links, .sched, .faults, .hka, .time]) (execRead_same same_refl (by decide) h) p hp
  case write => exact same_list (l := [.shared, .privA, .privB, .shadows, .access, .route, .links, .sb, .sched, .prot, .faults, .cap, .hka, .gens, .loop, .act, .cal, .time, .pl, .boot, .free]) (execWrite_same same_refl (by decide) h) p hp
  case connect => exact same_list (l := [.shared, .route, .links, .sched, .faults, .free]) (execConnect_same same_refl (by decide) h) p hp
  case disconnect => exact same_list (l := [.shared, .route, .links, .sched, .faults, .free]) (execDisconnect_same same_refl (by decide) h) p hp
  case stage => exact same_list (l := [.shared, .route, .links, .sched, .faults, .free]) (execStage_same same_refl (by decide) h) p hp
  case setElement => exact same_list (l := [.shared, .route, .links, .sched, .faults, .free]) (execSetElement_same same_refl (by decide) h) p hp
  case commit => exact same_list (l := [.shared, .privA, .privB, .route, .com, .links, .sched, .faults]) (execCommit_same same_refl (by decide) h) p hp
  case abort => exact same_list (l := [.shared, .route, .com, .links, .sched, .faults]) (execAbort_same same_refl (by decide) h) p hp
  case remap => exact same_list (l := [.shared, .privA, .privB, .shadows, .access, .route, .links, .sb, .sched, .prot, .faults, .cap, .hka, .gens, .loop, .act, .cal, .time, .pl, .boot, .free]) (execRemap_same same_refl (by decide) h) p hp
  case ctxRead => exact same_list (l := [.shared, .privA, .privB, .access, .links, .sched, .faults, .hka, .time]) (execCtxRead_same same_refl (by decide) h) p hp
  case ctxWrite => exact same_list (l := [.shared, .privA, .privB, .shadows, .access, .route, .links, .sb, .sched, .prot, .faults, .cap, .hka, .gens, .loop, .act, .cal, .time, .pl, .boot, .free]) (execCtxWrite_same same_refl (by decide) h) p hp
  case ctxState => exact same_list (l := [.shared, .links, .sched, .faults, .loop]) (execCtxState_same same_refl (by decide) h) p hp
  case guardWrite => exact same_list (l := [.shared, .privA, .privB, .shadows, .access, .route, .links, .sb, .sched, .prot, .faults, .cap, .hka, .gens, .loop, .act, .cal, .time, .pl, .boot, .free]) (execGuardWrite_same same_refl (by decide) h) p hp
  case primerWrite => exact same_list (l := [.shared, .privA, .privB, .shadows, .access, .route, .links, .sb, .sched, .prot, .faults, .cap, .hka, .gens, .loop, .act, .cal, .time, .pl, .boot, .free]) (execPrimerWrite_same same_refl (by decide) h) p hp
  case primerApply => exact same_list (l := [.shared, .links, .sched, .faults, .act]) (execPrimerApply_same same_refl (by decide) h) p hp
  case tileResume => exact same_list (l := [.shared, .links, .sched, .faults, .act]) (execTileResume_same same_refl (by decide) h) p hp
  case hkaInject => exact same_list (l := [.shared, .links, .sched, .faults, .hka]) (execHkaInject_same same_refl (by decide) h) p hp
  case calibrate => exact same_list (l := [.shared, .links, .sched, .faults, .hka, .cal]) (execCalibrate_same same_refl (by decide) h) p hp
  case stencilStart => exact same_list (l := [.shared, .privA, .privB, .links, .sched, .faults, .gens]) (execStencilStart_same same_refl (by decide) h) p hp
  case mode => exact same_list (l := [.shared, .modeNext, .links, .sched, .faults]) (execMode_same same_refl (by decide) h) p hp
  case power => exact same_list (l := [.shared, .privA, .privB, .power, .links, .sb, .sched, .prot, .faults, .cap, .gens, .cal, .pl, .pw, .free]) (execPower_same same_refl (by decide) h) p hp
  case drill => exact same_list (l := [.shared, .links, .sched, .faults, .pl]) (execDrill_same same_refl (by decide) h) p hp
  case reboot => exact same_list (l := [.shared, .links, .sched, .faults, .boot]) (execReboot_same same_refl (by decide) h) p hp
  case protectArm => exact same_list (l := [.shared, .links, .sched, .prot, .faults]) (execProtectArm_same same_refl (by decide) h) p hp
  case protectCommit => exact same_list (l := [.shared, .links, .sched, .prot, .faults]) (execProtectCommit_same same_refl (by decide) h) p hp
  case keyInstall => exact same_list (l := [.shared, .links, .sched, .prot, .faults]) (execKeyInstall_same same_refl (by decide) h) p hp
  case keyRoll => exact same_list (l := [.shared, .links, .sched, .prot, .faults]) (execKeyRoll_same same_refl (by decide) h) p hp
  case forward => exact same_list (l := [.shared, .links, .sched, .faults]) (execForward_same same_refl (by decide) h) p hp
  case forwardedFrameRx => exact same_list (l := [.shared, .links]) (execForwardedFrameRx_same same_refl (by decide) h) p hp
  case forwardedResponseRx => exact same_list (l := [.links]) (execForwardedResponseRx_same same_refl (by decide) h) p hp
  case sbSetAddr => exact same_list (l := [.sb]) (execSbSetAddr_same same_refl (by decide) h) p hp
  case sbRead => exact same_list (l := [.shared, .privA, .privB, .access, .sb, .hka, .time]) (execSbRead_same same_refl (by decide) h) p hp
  case sbWrite => exact same_list (l := writeParts) (execSbWrite_same same_refl (by decide) h) p hp
  case sbLastStatus => exact same_list (l := [.sb]) (execSbLastStatus_same same_refl (by decide) h) p hp
  case sbSummary => exact same_list (l := [.sb, .free]) (execSbSummary_same same_refl (by decide) h) p hp
  case sbAlertCause => exact same_list (l := [.sb]) (execSbAlertCause_same same_refl (by decide) h) p hp
  case sbFaultPop => exact same_list (l := [.sb, .faults]) (execSbFaultPop_same same_refl (by decide) h) p hp
  case alertResponse => exact same_list (l := [.sb]) (execAlertResponse_same same_refl (by decide) h) p hp
  case sbStretchTimeout => exact same_list (l := [.sb]) (execSbStretchTimeout_same same_refl (by decide) h) p hp
  case incrementalPost => exact same_list (l := [.shared, .privA, .privB, .route, .com, .links, .sched, .faults, .free]) (execIncrementalPost_same same_refl (by decide) h) p hp
  case fullRoutingPost => exact same_list (l := [.shared, .privA, .privB, .route, .com, .links, .sched, .faults, .free]) (execFullRoutingPost_same same_refl (by decide) h) p hp
  case deferredRoutingStart => exact same_list (l := [.route]) (execDeferredRoutingStart_same same_refl (by decide) h) p hp
  case rearrangeExpired => exact same_list (l := [.route, .links]) (execRearrangeExpired_same same_refl (by decide) h) p hp
  case stageExpired => exact same_list (l := [.links]) (execStageExpired_same same_refl (by decide) h) p hp
  case yellowExpired => exact same_list (l := [.shared, .links, .sched, .faults]) (execYellowExpired_same same_refl (by decide) h) p hp
  case commitFix => exact same_list (l := [.shared, .route, .com, .links, .sched, .faults]) (execCommitFix_same same_refl (by decide) h) p hp
  case commitSwitch => exact same_list (l := [.shared, .privA, .privB, .route, .com, .faults, .loop, .pl]) (execCommitSwitch_same same_refl (by decide) h) p hp
  case lateTileApply => exact same_list (l := [.shared, .pl]) (execLateTileApply_same same_refl (by decide) h) p hp
  case commitDone => exact same_list (l := [.com, .links]) (execCommitDone_same same_refl (by decide) h) p hp
  case readyRx => exact same_list (l := [.shared, .route, .com, .links, .sched, .faults]) (execReadyRx_same same_refl (by decide) h) p hp
  case goRx => exact same_list (l := [.shared, .com, .links, .sched, .faults]) (execGoRx_same same_refl (by decide) h) p hp
  case abandonRx => exact same_list (l := [.shared, .route, .com, .links, .sched, .faults]) (execAbandonRx_same same_refl (by decide) h) p hp
  case tokenLost => exact same_list (l := [.shared, .route, .com, .links, .sched, .faults]) (execTokenLost_same same_refl (by decide) h) p hp
  case biasLimit => exact same_list (l := [.shared, .faults]) (execBiasLimit_same same_refl (by decide) h) p hp
  case refOut => exact same_list (l := [.shared, .sense]) (execRefOut_same same_refl (by decide) h) p hp
  case refTimeout => exact same_list (l := [.shared, .faults, .sense]) (execRefTimeout_same same_refl (by decide) h) p hp
  case captureRecordWrite => exact same_list (l := [.shared, .cap]) (execCaptureRecordWrite_same same_refl (by decide) h) p hp
  case capRptrWrite => exact same_list (l := writeParts) (execCapRptrWrite_same same_refl (by decide) h) p hp
  case hkaSlot => exact same_list (l := [.shared, .links, .sched, .faults, .hka]) (execHkaSlot_same same_refl (by decide) h) p hp
  case hkaInjectWrite => exact same_list (l := writeParts) (execHkaInjectWrite_same same_refl (by decide) h) p hp
  case hkaResultPop => exact same_list (l := [.shared, .privA, .privB, .access, .sb, .hka, .time]) (execHkaResultPop_same same_refl (by decide) h) p hp
  case calStart => exact same_list (l := writeParts) (execCalStart_same same_refl (by decide) h) p hp
  case corrResidue => exact same_list (l := [.shared, .faults, .dith]) (execCorrResidue_same same_refl (by decide) h) p hp
  case storeRoomReadEcc => exact same_list (l := [.privA, .privB, .faults]) (execStoreRoomReadEcc_same same_refl (by decide) h) p hp
  case refreshMiss => exact same_list (l := [.privA, .privB, .faults]) (execRefreshMiss_same same_refl (by decide) h) p hp
  case stArm => exact same_list (l := writeParts) (execStArm_same same_refl (by decide) h) p hp
  case stStart => exact same_list (l := writeParts) (execStStart_same same_refl (by decide) h) p hp
  case stHalt => exact same_list (l := writeParts) (execStHalt_same same_refl (by decide) h) p hp
  case evtEdgeTrigger => exact same_list (l := [.privA, .privB, .gens]) (execEvtEdgeTrigger_same same_refl (by decide) h) p hp
  case frameTrigger => exact same_list (l := [.privA, .privB, .gens]) (execFrameTrigger_same same_refl (by decide) h) p hp
  case stop => exact same_list (l := [.gens]) (execStop_same same_refl (by decide) h) p hp
  case lda => exact same_list (l := [.privA, .privB, .gens]) (execLda_same same_refl (by decide) h) p hp
  case ldd => exact same_list (l := [.privA, .privB, .gens]) (execLdd_same same_refl (by decide) h) p hp
  case adda => exact same_list (l := [.privA, .privB, .gens]) (execAdda_same same_refl (by decide) h) p hp
  case emit => exact same_list (l := [.privA, .privB, .gens]) (execEmit_same same_refl (by decide) h) p hp
  case ramp => exact same_list (l := [.privA, .privB, .gens]) (execRamp_same same_refl (by decide) h) p hp
  case table => exact same_list (l := [.privA, .privB, .gens]) (execTable_same same_refl (by decide) h) p hp
  case prbs => exact same_list (l := [.privA, .privB, .gens, .free]) (execPrbs_same same_refl (by decide) h) p hp
  case ldc => exact same_list (l := [.privA, .privB, .gens]) (execLdc_same same_refl (by decide) h) p hp
  case loop => exact same_list (l := [.privA, .privB, .gens]) (execLoop_same same_refl (by decide) h) p hp
  case jmp => exact same_list (l := [.privA, .privB, .gens]) (execJmp_same same_refl (by decide) h) p hp
  case br => exact same_list (l := [.gens]) (execBr_same same_refl (by decide) h) p hp
  case wait => exact same_list (l := [.privA, .privB, .gens]) (execWait_same same_refl (by decide) h) p hp
  case illegal => exact same_list (l := [.faults, .gens]) (execIllegal_same same_refl (by decide) h) p hp
  case runaway => exact same_list (l := [.faults, .gens]) (execRunaway_same same_refl (by decide) h) p hp
  case mtStart => exact same_list (l := writeParts) (execMtStart_same same_refl (by decide) h) p hp
  case mtAbort => exact same_list (l := writeParts) (execMtAbort_same same_refl (by decide) h) p hp
  case mtestDone => exact same_list (l := [.privA, .privB, .faults, .cap, .gens, .free]) (execMtestDone_same same_refl (by decide) h) p hp
  case heaterOpen => exact same_list (l := [.faults, .act]) (execHeaterOpen_same same_refl (by decide) h) p hp
  case heaterShort => exact same_list (l := [.faults, .act]) (execHeaterShort_same same_refl (by decide) h) p hp
  case heaterLoad => exact same_list (l := [.faults, .act]) (execHeaterLoad_same same_refl (by decide) h) p hp
  case driverOverload => exact same_list (l := [.shared, .faults]) (execDriverOverload_same same_refl (by decide) h) p hp
  case guardIntegrity => exact same_list (l := [.faults, .act]) (execGuardIntegrity_same same_refl (by decide) h) p hp
  case starvation => exact same_list (l := [.shared, .faults, .act]) (execStarvation_same same_refl (by decide) h) p hp
  case trimApply => exact same_list (l := [.act]) (execTrimApply_same same_refl (by decide) h) p hp
  case htrOffRelease => exact same_list (l := writeParts) (execHtrOffRelease_same same_refl (by decide) h) p hp
  case fdOffRelease => exact same_list (l := writeParts) (execFdOffRelease_same same_refl (by decide) h) p hp
  case fdLevelWrite => exact same_list (l := writeParts) (execFdLevelWrite_same same_refl (by decide) h) p hp
  case tlCalReq => exact same_list (l := writeParts) (execTlCalReq_same same_refl (by decide) h) p hp
  case tiaReq => exact same_list (l := writeParts) (execTiaReq_same same_refl (by decide) h) p hp
  case calAll => exact same_list (l := writeParts) (execCalAll_same same_refl (by decide) h) p hp
  case tileRunStart => exact same_list (l := [.cal]) (execTileRunStart_same same_refl (by decide) h) p hp
  case tileRunEnd => exact same_list (l := [.shared, .cal]) (execTileRunEnd_same same_refl (by decide) h) p hp
  case svStart => exact same_list (l := writeParts) (execSvStart_same same_refl (by decide) h) p hp
  case svAbort => exact same_list (l := writeParts) (execSvAbort_same same_refl (by decide) h) p hp
  case sweepPoint => exact same_list (l := [.shared, .cap, .cal]) (execSweepPoint_same same_refl (by decide) h) p hp
  case sweepEnd => exact same_list (l := [.shared, .privA, .privB, .cap, .cal]) (execSweepEnd_same same_refl (by decide) h) p hp
  case tdRateWrite => exact same_list (l := writeParts) (execTdRateWrite_same same_refl (by decide) h) p hp
  case tdSet => exact same_list (l := writeParts) (execTdSet_same same_refl (by decide) h) p hp
  case tdAdjust => exact same_list (l := writeParts) (execTdAdjust_same same_refl (by decide) h) p hp
  case timeCapture => exact same_list (l := writeParts) (execTimeCapture_same same_refl (by decide) h) p hp
  case align => exact same_list (l := writeParts) (execAlign_same same_refl (by decide) h) p hp
  case alignmentGapEnd => exact same_list (l := [.clk, .loop, .time]) (execAlignmentGapEnd_same same_refl (by decide) h) p hp
  case holdover => exact same_list (l := [.shared, .faults, .time]) (execHoldover_same same_refl (by decide) h) p hp
  case autoSwitch => exact same_list (l := [.shared, .faults, .time]) (execAutoSwitch_same same_refl (by decide) h) p hp
  case fclkLock => exact same_list (l := [.shared, .faults, .time]) (execFclkLock_same same_refl (by decide) h) p hp
  case ppsEdge => exact same_list (l := [.shared, .faults, .time]) (execPpsEdge_same same_refl (by decide) h) p hp
  case ppsGap => exact same_list (l := [.faults, .time]) (execPpsGap_same same_refl (by decide) h) p hp
  case ppsOutEdge => exact same_list (l := [.time]) (execPpsOutEdge_same same_refl (by decide) h) p hp
  case tsPop => exact same_list (l := [.shared, .privA, .privB, .access, .sb, .hka, .time]) (execTsPop_same same_refl (by decide) h) p hp
  case beaconRx => exact same_list (l := [.shared, .faults, .time]) (execBeaconRx_same same_refl (by decide) h) p hp
  case beaconPortSwitch => exact same_list (l := [.shared, .time]) (execBeaconPortSwitch_same same_refl (by decide) h) p hp
  case linkMessageRx => exact same_list (l := [.shared, .faults, .time]) (execLinkMessageRx_same same_refl (by decide) h) p hp
  case ringLost => exact same_list (l := [.shared, .faults, .time]) (execRingLost_same same_refl (by decide) h) p hp
  case ringLock => exact same_list (l := [.shared, .time]) (execRingLock_same same_refl (by decide) h) p hp
  case apsinLinkDown => exact same_list (l := [.faults]) (execApsinLinkDown_same same_refl (by decide) h) p hp
  case mtpWriteDone => exact same_list (l := [.shared, .links, .sb, .sched, .prot, .faults, .boot, .free]) (execMtpWriteDone_same same_refl (by decide) h) p hp
  case keyRollApply => exact same_list (l := [.shared, .links, .sched, .prot, .faults]) (execKeyRollApply_same same_refl (by decide) h) p hp
  case graceEnd => exact same_list (l := [.prot]) (execGraceEnd_same same_refl (by decide) h) p hp
  case protectApply => exact same_list (l := [.shared, .route, .com, .links, .sched, .prot, .faults]) (execProtectApply_same same_refl (by decide) h) p hp
  case protectExpire => exact same_list (l := [.prot]) (execProtectExpire_same same_refl (by decide) h) p hp
  case atticProvGo => exact same_list (l := writeParts) (execAtticProvGo_same same_refl (by decide) h) p hp
  case divergenceDecision => exact same_list (l := [.shared, .faults, .pl]) (execDivergenceDecision_same same_refl (by decide) h) p hp
  case centralAuditEnd => exact same_list (l := [.shared, .faults, .pl]) (execCentralAuditEnd_same same_refl (by decide) h) p hp
  case planeFence => exact same_list (l := [.shared, .links, .sb, .sched, .faults, .pl, .boot, .nor, .free]) (execPlaneFence_same same_refl (by decide) h) p hp
  case drillSwap => exact same_list (l := [.shared, .sb, .pl]) (execDrillSwap_same same_refl (by decide) h) p hp
  case drillCheck => exact same_list (l := [.shared, .links, .sb, .sched, .faults, .pl]) (execDrillCheck_same same_refl (by decide) h) p hp
  case drillDue => exact same_list (l := [.faults, .pl]) (execDrillDue_same same_refl (by decide) h) p hp
  case planeReturn => exact same_list (l := writeParts) (execPlaneReturn_same same_refl (by decide) h) p hp
  case returnBankTest => exact same_list (l := [.shared, .sb, .faults, .pl]) (execReturnBankTest_same same_refl (by decide) h) p hp
  case lockstep => exact same_list (l := [.privA, .privB, .gens, .pl]) (execLockstep_same same_refl (by decide) h) p hp
  case returnEnd => exact same_list (l := [.shared, .sb, .faults, .pl]) (execReturnEnd_same same_refl (by decide) h) p hp
  case autoReturn => exact same_list (l := [.shared, .sb, .faults, .pl]) (execAutoReturn_same same_refl (by decide) h) p hp
  case heartbeat => exact same_list (l := [.faults]) (execHeartbeat_same same_refl (by decide) h) p hp
  case faultMessage => exact same_list (l := [.faults]) (execFaultMessage_same same_refl (by decide) h) p hp
  case endReport => exact same_list (l := [.faults]) (execEndReport_same same_refl (by decide) h) p hp
  case clearFirst => exact same_list (l := writeParts) (execClearFirst_same same_refl (by decide) h) p hp
  case fcAck => exact same_list (l := writeParts) (execFcAck_same same_refl (by decide) h) p hp
  case fcUnfence => exact same_list (l := writeParts) (execFcUnfence_same same_refl (by decide) h) p hp
  case coreRestart => exact same_list (l := [.faults]) (execCoreRestart_same same_refl (by decide) h) p hp
  case watchdog => exact same_list (l := [.faults]) (execWatchdog_same same_refl (by decide) h) p hp
  case trngHealth => exact same_list (l := [.faults]) (execTrngHealth_same same_refl (by decide) h) p hp
  case sensorRound => exact same_list (l := [.shared, .prot, .faults, .hka, .cal, .therm, .boot, .nor, .free]) (execSensorRound_same same_refl (by decide) h) p hp
  case sensorFail => exact same_list (l := [.shared, .faults]) (execSensorFail_same same_refl (by decide) h) p hp
  case analogTrip => exact same_list (l := [.shared, .prot, .therm, .boot, .nor, .free]) (execAnalogTrip_same same_refl (by decide) h) p hp
  case tripHalt => exact same_list (l := [.prot, .therm]) (execTripHalt_same same_refl (by decide) h) p hp
  case deepSleepSensor => exact same_list (l := [.shared]) (execDeepSleepSensor_same same_refl (by decide) h) p hp
  case domainStop => exact same_list (l := resetParts) (execDomainStop_same same_refl (by decide) h) p hp
  case wakeNLow => exact same_list (l := [.clk, .shared, .power, .sb, .time, .pw, .boot]) (execWakeNLow_same same_refl (by decide) h) p hp
  case clockAlarm => exact same_list (l := [.clk, .shared, .time, .pw]) (execClockAlarm_same same_refl (by decide) h) p hp
  case laneWake => exact same_list (l := [.clk, .shared, .time, .pw]) (execLaneWake_same same_refl (by decide) h) p hp
  case loopsResume => exact same_list (l := [.shared, .privA, .privB, .power, .links, .sb, .sched, .faults, .sense, .cap, .dith, .loop, .pl, .pw, .free]) (execLoopsResume_same same_refl (by decide) h) p hp
  case domainWakeOnDemand => exact same_list (l := [.pw]) (execDomainWakeOnDemand_same same_refl (by decide) h) p hp
  case wakeStall => exact same_list (l := [.shared, .faults]) (execWakeStall_same same_refl (by decide) h) p hp
  case reset => exact same_list (l := resetParts) (execReset_same same_refl (by decide) h) p hp
  case startUp => exact same_list (l := [.clk, .shared, .power, .sb, .time, .boot, .nor]) (execStartUp_same same_refl (by decide) h) p hp
  case selftestDone => exact same_list (l := [.shared, .boot]) (execSelftestDone_same same_refl (by decide) h) p hp
  case loadInRise => exact same_list (l := [.boot]) (execLoadInRise_same same_refl (by decide) h) p hp
  case firstPassTimeout => exact same_list (l := [.boot]) (execFirstPassTimeout_same same_refl (by decide) h) p hp
  case passReadEnd => exact same_list (l := [.shared, .privA, .privB, .image, .fabric, .route, .prot, .faults, .act, .cal, .boot, .nor, .free]) (execPassReadEnd_same same_refl (by decide) h) p hp
  case secondPass => exact same_list (l := [.boot]) (execSecondPass_same same_refl (by decide) h) p hp
  case runEntry => exact same_list (l := [.shared, .privA, .privB, .mode, .power, .links, .sb, .sched, .faults, .hka, .dith, .loop, .cal, .pl, .boot, .free]) (execRunEntry_same same_refl (by decide) h) p hp
  case locked => exact same_list (l := [.shared]) (execLocked_same same_refl (by decide) h) p hp
  case bootStatusRx => exact same_list (l := [.shared, .boot]) (execBootStatusRx_same same_refl (by decide) h) p hp
  case passRequestRx => exact same_list (l := [.boot]) (execPassRequestRx_same same_refl (by decide) h) p hp
  case passRequestRetry => exact same_list (l := [.shared, .boot]) (execPassRequestRetry_same same_refl (by decide) h) p hp
  case pmErase => exact same_list (l := [.boot, .nor]) (execPmErase_same same_refl (by decide) h) p hp
  case norRead => exact same_list (l := writeParts) (execNorRead_same same_refl (by decide) h) p hp
  case norProgram => exact same_list (l := writeParts) (execNorProgram_same same_refl (by decide) h) p hp
  case norErase => exact same_list (l := writeParts) (execNorErase_same same_refl (by decide) h) p hp
  case norOpDone => exact same_list (l := [.shared, .boot, .nor]) (execNorOpDone_same same_refl (by decide) h) p hp
  case btReboot => exact same_list (l := writeParts) (execBtReboot_same same_refl (by decide) h) p hp
  case rebootReset => exact same_list (l := resetParts) (execRebootReset_same same_refl (by decide) h) p hp
  case modeApply => exact same_list (l := [.shared, .privA, .privB, .shadows, .mode, .modeNext, .com, .links, .sb, .sched, .faults, .pl, .pw]) (execModeApply_same same_refl (by decide) h) p hp
  case rtRemapWrite => exact same_list (l := writeParts) (execRtRemapWrite_same same_refl (by decide) h) p hp
  case snapshotLoRead => exact same_list (l := [.shared, .privA, .privB, .access, .sb, .hka, .time]) (execSnapshotLoRead_same same_refl (by decide) h) p hp
  case rcRead => exact same_list (l := [.shared, .privA, .privB, .access, .sb, .hka, .time]) (execRcRead_same same_refl (by decide) h) p hp
  case registerWrite => exact same_list (l := writeParts) (execRegisterWrite_same same_refl (by decide) h) p hp
  case loadInFall => exact same_list (l := [.boot]) (execLoadInFall_same same_refl (by decide) h) p hp
  case deviceReady => exact same_list (l := [.shared, .boot]) (execDeviceReady_same same_refl (by decide) h) p hp
  case domainReady => exact same_list (l := [.shared, .pw]) (execDomainReady_same same_refl (by decide) h) p hp
  case refclkLoss => exact same_list (l := [.time]) (execRefclkLoss_same same_refl (by decide) h) p hp

end Sys2Proof.Machine
end

