-- ==== Sys2Proof/Laws/Still.lean ====
section
/-! SUPPORT. Laws/Still.lean: what a command leaves of the clock, the mode, the fabric description, the image, the NOR (Safety.lean). -/

set_option linter.all false
set_option Elab.async false

namespace Sys2Proof.Machine

open Sys2Proof

/-- `exec_kept` with what is asked of these fields only of the commands that set them. -/
theorem exec_still {κ : Keep} {i : Instr} {s t : State} (hk : Kept κ s) (h_clk : setsClock i = true → ∀ x, κ.clk x)
    (h_mode : setsMode i = true → ∀ x, κ.mode x) (h_fabric : setsImage i = true → ∀ x, κ.fabric x) (h_image : setsImage i = true → ∀ x, κ.image x)
    (h_nor : writesNor i = true → ∀ x, κ.norIs x) (h : exec i s = .next t) : Kept κ t := by
  cases i with
  | frameBoundary _ => exact execFrameBoundary_kept hk (h_clk rfl _) (h_nor rfl) h
  | offerInstant => exact execOfferInstant_kept hk h
  | admissionPoint _ => exact execAdmissionPoint_kept hk (h_clk rfl _) (h_nor rfl) h
  | releaseDeadline _ _ _ _ => exact execReleaseDeadline_kept hk h
  | feedbackLost _ => exact execFeedbackLost_kept hk h
  | feedbackFrozen _ => exact execFeedbackFrozen_kept hk h
  | inputInvalid _ => exact execInputInvalid_kept hk h
  | feedbackOverload _ => exact execFeedbackOverload_kept hk h
  | following _ => exact execFollowing_kept hk h
  | autoResume _ => exact execAutoResume_kept hk h
  | expressUpdate _ _ _ _ _ => exact execExpressUpdate_kept hk h
  | expressOverrun _ _ => exact execExpressOverrun_kept hk h
  | expJudged _ => exact execExpJudged_kept hk h
  | kolrokFrameRx _ _ _ => exact execKolrokFrameRx_kept hk h
  | arpRequest _ _ => exact execArpRequest_kept hk h
  | ptpEvent _ _ _ _ _ _ _ _ _ => exact execPtpEvent_kept hk h
  | laneLinkUp _ => exact execLaneLinkUp_kept hk h
  | laneLinkDown _ _ => exact execLaneLinkDown_kept hk h
  | hiBer _ _ => exact execHiBer_kept hk h
  | frameTransmit _ _ _ => exact execFrameTransmit_kept hk h
  | ping _ => exact execPing_kept hk h
  | summary _ _ => exact execSummary_kept hk h
  | fence _ => exact execFence_kept hk h
  | read _ _ _ => exact execRead_kept hk h
  | write _ _ _ => exact execWrite_kept hk h
  | connect _ _ _ => exact execConnect_kept hk h
  | disconnect _ _ _ => exact execDisconnect_kept hk h
  | stage _ _ _ _ _ => exact execStage_kept hk h
  | setElement _ _ _ => exact execSetElement_kept hk h
  | commit _ _ _ _ _ _ => exact execCommit_kept hk h
  | abort _ _ _ => exact execAbort_kept hk h
  | remap _ _ _ => exact execRemap_kept hk h
  | ctxRead _ _ _ _ => exact execCtxRead_kept hk h
  | ctxWrite _ _ _ _ => exact execCtxWrite_kept hk h
  | ctxState _ _ _ => exact execCtxState_kept hk h
  | guardWrite _ _ _ _ => exact execGuardWrite_kept hk h
  | primerWrite _ _ _ _ => exact execPrimerWrite_kept hk h
  | primerApply _ _ => exact execPrimerApply_kept hk h
  | tileResume _ _ => exact execTileResume_kept hk h
  | hkaInject _ _ _ => exact execHkaInject_kept hk h
  | calibrate _ _ => exact execCalibrate_kept hk h
  | stencilStart _ _ => exact execStencilStart_kept hk h
  | mode _ _ _ => exact execMode_kept hk h
  | power _ _ => exact execPower_kept hk h
  | drill _ _ => exact execDrill_kept hk h
  | reboot _ _ => exact execReboot_kept hk h
  | protectArm _ _ => exact execProtectArm_kept hk h
  | protectCommit _ _ _ _ => exact execProtectCommit_kept hk h
  | keyInstall _ _ _ _ => exact execKeyInstall_kept hk h
  | keyRoll _ _ _ => exact execKeyRoll_kept hk h
  | forward _ _ _ => exact execForward_kept hk h
  | forwardedFrameRx _ _ => exact execForwardedFrameRx_kept hk h
  | forwardedResponseRx _ _ _ => exact execForwardedResponseRx_kept hk h
  | sbSetAddr _ _ _ => exact execSbSetAddr_kept hk h
  | sbRead => exact execSbRead_kept hk h
  | sbWrite _ _ => exact execSbWrite_kept hk h
  | sbLastStatus => exact execSbLastStatus_kept hk h
  | sbSummary => exact execSbSummary_kept hk h
  | sbAlertCause => exact execSbAlertCause_kept hk h
  | sbFaultPop => exact execSbFaultPop_kept hk h
  | alertResponse => exact execAlertResponse_kept hk h
  | sbStretchTimeout _ => exact execSbStretchTimeout_kept hk h
  | incrementalPost _ _ => exact execIncrementalPost_kept hk h
  | fullRoutingPost _ _ => exact execFullRoutingPost_kept hk h
  | deferredRoutingStart => exact execDeferredRoutingStart_kept hk h
  | rearrangeExpired => exact execRearrangeExpired_kept hk h
  | stageExpired _ => exact execStageExpired_kept hk h
  | yellowExpired => exact execYellowExpired_kept hk h
  | commitFix => exact execCommitFix_kept hk h
  | commitSwitch _ _ _ => exact execCommitSwitch_kept hk h
  | lateTileApply _ => exact execLateTileApply_kept hk h
  | commitDone => exact execCommitDone_kept hk h
  | readyRx _ _ _ _ _ _ _ _ => exact execReadyRx_kept hk h
  | goRx _ _ _ => exact execGoRx_kept hk h
  | abandonRx _ _ => exact execAbandonRx_kept hk h
  | tokenLost => exact execTokenLost_kept hk h
  | biasLimit _ => exact execBiasLimit_kept hk h
  | refOut _ _ => exact execRefOut_kept hk h
  | refTimeout _ => exact execRefTimeout_kept hk h
  | captureRecordWrite _ _ _ => exact execCaptureRecordWrite_kept hk h
  | capRptrWrite _ _ _ => exact execCapRptrWrite_kept hk h
  | hkaSlot _ _ _ _ => exact execHkaSlot_kept hk h
  | hkaInjectWrite _ _ _ => exact execHkaInjectWrite_kept hk h
  | hkaResultPop _ => exact execHkaResultPop_kept hk h
  | calStart _ => exact execCalStart_kept hk h
  | corrResidue _ _ => exact execCorrResidue_kept hk h
  | storeRoomReadEcc _ _ _ _ => exact execStoreRoomReadEcc_kept hk h
  | refreshMiss _ _ => exact execRefreshMiss_kept hk h
  | stArm _ _ => exact execStArm_kept hk h
  | stStart _ _ => exact execStStart_kept hk h
  | stHalt _ _ => exact execStHalt_kept hk h
  | evtEdgeTrigger _ _ => exact execEvtEdgeTrigger_kept hk h
  | frameTrigger _ => exact execFrameTrigger_kept hk h
  | stop _ => exact execStop_kept hk h
  | lda _ => exact execLda_kept hk h
  | ldd _ => exact execLdd_kept hk h
  | adda _ => exact execAdda_kept hk h
  | emit _ => exact execEmit_kept hk h
  | ramp _ => exact execRamp_kept hk h
  | table _ => exact execTable_kept hk h
  | prbs _ => exact execPrbs_kept hk h
  | ldc _ => exact execLdc_kept hk h
  | loop _ => exact execLoop_kept hk h
  | jmp _ => exact execJmp_kept hk h
  | br _ => exact execBr_kept hk h
  | wait _ => exact execWait_kept hk h
  | illegal _ => exact execIllegal_kept hk h
  | runaway _ => exact execRunaway_kept hk h
  | mtStart _ => exact execMtStart_kept hk h
  | mtAbort _ => exact execMtAbort_kept hk h
  | mtestDone _ _ _ _ _ _ => exact execMtestDone_kept hk h
  | heaterOpen _ => exact execHeaterOpen_kept hk h
  | heaterShort _ => exact execHeaterShort_kept hk h
  | heaterLoad _ => exact execHeaterLoad_kept hk h
  | driverOverload _ => exact execDriverOverload_kept hk h
  | guardIntegrity _ => exact execGuardIntegrity_kept hk h
  | starvation _ => exact execStarvation_kept hk h
  | trimApply _ => exact execTrimApply_kept hk h
  | htrOffRelease _ _ _ _ => exact execHtrOffRelease_kept hk h
  | fdOffRelease _ _ _ _ => exact execFdOffRelease_kept hk h
  | fdLevelWrite _ _ _ _ => exact execFdLevelWrite_kept hk h
  | tlCalReq _ _ => exact execTlCalReq_kept hk h
  | tiaReq _ _ => exact execTiaReq_kept hk h
  | calAll _ => exact execCalAll_kept hk h
  | tileRunStart _ => exact execTileRunStart_kept hk h
  | tileRunEnd _ => exact execTileRunEnd_kept hk h
  | svStart _ => exact execSvStart_kept hk h
  | svAbort _ => exact execSvAbort_kept hk h
  | sweepPoint => exact execSweepPoint_kept hk h
  | sweepEnd => exact execSweepEnd_kept hk h
  | tdRateWrite _ _ _ => exact execTdRateWrite_kept hk h
  | tdSet _ _ _ => exact execTdSet_kept hk h
  | tdAdjust _ _ _ => exact execTdAdjust_kept hk h
  | timeCapture _ => exact execTimeCapture_kept hk h
  | align _ => exact execAlign_kept hk h
  | alignmentGapEnd => exact execAlignmentGapEnd_kept hk (h_clk rfl) h
  | holdover _ => exact execHoldover_kept hk h
  | autoSwitch => exact execAutoSwitch_kept hk h
  | fclkLock => exact execFclkLock_kept hk h
  | ppsEdge _ => exact execPpsEdge_kept hk h
  | ppsGap => exact execPpsGap_kept hk h
  | ppsOutEdge => exact execPpsOutEdge_kept hk h
  | tsPop _ _ => exact execTsPop_kept hk h
  | beaconRx _ _ _ _ _ _ _ => exact execBeaconRx_kept hk h
  | beaconPortSwitch => exact execBeaconPortSwitch_kept hk h
  | linkMessageRx _ _ _ _ _ _ _ _ _ => exact execLinkMessageRx_kept hk h
  | ringLost _ => exact execRingLost_kept hk h
  | ringLock _ => exact execRingLock_kept hk h
  | apsinLinkDown _ => exact execApsinLinkDown_kept hk h
  | mtpWriteDone _ => exact execMtpWriteDone_kept hk h
  | keyRollApply _ => exact execKeyRollApply_kept hk h
  | graceEnd _ => exact execGraceEnd_kept hk h
  | protectApply => exact execProtectApply_kept hk h
  | protectExpire => exact execProtectExpire_kept hk h
  | atticProvGo _ => exact execAtticProvGo_kept hk h
  | divergenceDecision => exact execDivergenceDecision_kept hk h
  | centralAuditEnd _ _ => exact execCentralAuditEnd_kept hk h
  | planeFence _ => exact execPlaneFence_kept hk (h_nor rfl) h
  | drillSwap => exact execDrillSwap_kept hk h
  | drillCheck _ _ => exact execDrillCheck_kept hk h
  | drillDue => exact execDrillDue_kept hk h
  | planeReturn _ => exact execPlaneReturn_kept hk h
  | returnBankTest _ => exact execReturnBankTest_kept hk h
  | lockstep => exact execLockstep_kept hk h
  | returnEnd => exact execReturnEnd_kept hk h
  | autoReturn => exact execAutoReturn_kept hk h
  | heartbeat _ => exact execHeartbeat_kept hk h
  | faultMessage _ _ _ _ _ _ => exact execFaultMessage_kept hk h
  | endReport _ _ _ _ _ _ => exact execEndReport_kept hk h
  | clearFirst _ => exact execClearFirst_kept hk h
  | fcAck _ _ => exact execFcAck_kept hk h
  | fcUnfence _ _ _ => exact execFcUnfence_kept hk h
  | coreRestart _ => exact execCoreRestart_kept hk h
  | watchdog _ => exact execWatchdog_kept hk h
  | trngHealth => exact execTrngHealth_kept hk h
  | sensorRound _ => exact execSensorRound_kept hk (h_nor rfl) h
  | sensorFail _ _ => exact execSensorFail_kept hk h
  | analogTrip => exact execAnalogTrip_kept hk (h_nor rfl) h
  | tripHalt => exact execTripHalt_kept hk h
  | deepSleepSensor _ => exact execDeepSleepSensor_kept hk h
  | domainStop _ => exact execDomainStop_kept hk (h_clk rfl) (h_mode rfl) (h_fabric rfl) (h_image rfl) h
  | wakeNLow _ => exact execWakeNLow_kept hk (h_clk rfl) h
  | clockAlarm => exact execClockAlarm_kept hk (h_clk rfl) h
  | laneWake _ => exact execLaneWake_kept hk (h_clk rfl) h
  | loopsResume _ _ => exact execLoopsResume_kept hk h
  | domainWakeOnDemand _ => exact execDomainWakeOnDemand_kept hk h
  | wakeStall _ _ => exact execWakeStall_kept hk h
  | reset _ _ => exact execReset_kept hk (h_clk rfl) (h_mode rfl) (h_fabric rfl) (h_image rfl) h
  | startUp _ _ _ _ _ => exact execStartUp_kept hk (h_clk rfl) (h_nor rfl) h
  | selftestDone _ _ _ => exact execSelftestDone_kept hk h
  | loadInRise => exact execLoadInRise_kept hk h
  | firstPassTimeout => exact execFirstPassTimeout_kept hk h
  | passReadEnd _ _ _ => exact execPassReadEnd_kept hk (h_fabric rfl) (h_image rfl) (h_nor rfl) h
  | secondPass => exact execSecondPass_kept hk h
  | runEntry _ => exact execRunEntry_kept hk (h_mode rfl) h
  | locked _ => exact execLocked_kept hk h
  | bootStatusRx _ _ _ _ _ _ => exact execBootStatusRx_kept hk h
  | passRequestRx => exact execPassRequestRx_kept hk h
  | passRequestRetry => exact execPassRequestRetry_kept hk h
  | pmErase => exact execPmErase_kept hk (h_nor rfl) h
  | norRead _ _ => exact execNorRead_kept hk h
  | norProgram _ _ => exact execNorProgram_kept hk h
  | norErase _ _ => exact execNorErase_kept hk h
  | norOpDone _ => exact execNorOpDone_kept hk (h_nor rfl) h
  | btReboot _ _ => exact execBtReboot_kept hk h
  | rebootReset => exact execRebootReset_kept hk (h_clk rfl) (h_mode rfl) (h_fabric rfl) (h_image rfl) h
  | modeApply => exact execModeApply_kept hk (h_mode rfl) h
  | rtRemapWrite _ _ _ => exact execRtRemapWrite_kept hk h
  | snapshotLoRead _ _ => exact execSnapshotLoRead_kept hk h
  | rcRead _ _ _ => exact execRcRead_kept hk h
  | registerWrite _ _ _ => exact execRegisterWrite_kept hk h
  | loadInFall => exact execLoadInFall_kept hk h
  | deviceReady => exact execDeviceReady_kept hk h
  | domainReady _ => exact execDomainReady_kept hk h
  | refclkLoss => exact execRefclkLoss_kept hk h

/-- A state with another clock. -/
theorem Kept.startClk {κ : Keep} {s : State} {x : Clock} (h : Kept κ s) : Kept { κ with clk := fun c => c = x } { s with clk := x } :=
  { h with clk := rfl }

/-- A boundary of a running block counts the frame. -/
theorem State.frameBoundary_clk {κ : Keep} {x : FrameIn} {s : State} (hk : Kept κ s) (hc : s.clocked = true) :
    (s.frameBoundary x).clk = { frame := s.clk.frame + 1, point := 0, next := 0 } := by
  have he : (s.endFrame x).clk = s.clk := (State.endFrame_kept (κ := { κ with clk := fun c => c = s.clk }) (x := x) { hk with clk := rfl }).clk
  unfold State.frameBoundary
  rw [if_neg (by simp [hc])]
  simp only []
  generalize hu : (if (!decide (s.power = PowerState.sleep)) = true then s.endFrame x else s) = u
  have hk' : Kept κ u := by
    rw [← hu]; split
    · exact State.endFrame_kept hk
    · exact hk
  have hcl : u.clk = s.clk := by
    rw [← hu]; split
    · exact he
    · rfl
  have h0 := Kept.startClk (x := { frame := u.clk.frame + 1, point := 0, next := 0 }) hk'
  rw [← hcl]
  generalize ({ u with clk := { frame := u.clk.frame + 1, point := 0, next := 0 } } : State) = v at h0 ⊢
  refine Kept.clk (k := { κ with clk := fun c => c = { frame := u.clk.frame + 1, point := 0, next := 0 } }) (State.setSched_kept ?_ id)
  refine State.centralBoundary_kept ?_
  split
  · exact State.tileBoundary_kept (State.timeTo_kept h0)
  · exact State.takeUnfences_kept (State.takeReactions_kept (State.applyWrites_kept (State.timeTo_kept h0)))

theorem State.admissionPoint_clk {κ : Keep} {d : Bool} {s : State} (hk : Kept κ s) (hc : s.clocked = true) (hn : s.clk.next < 64) :
    (s.admissionPoint d).clk = { s.clk with point := s.clk.next, next := s.clk.next + 1 } := by
  unfold State.admissionPoint
  rw [if_neg (by simp [hc]; omega)]
  have h0 := Kept.startClk (x := { s.clk with point := s.clk.next, next := s.clk.next + 1 }) hk
  exact (State.pointWork_kept (State.timeTo_kept h0)).clk

/-- A post-mortem record leaves the clock. -/
theorem State.noteMortem_clk {κ : Keep} {s b : State} (hk : Kept κ s) : (s.noteMortem b).clk = s.clk :=
  (State.noteMortem_kept (κ := { κ with clk := fun c => c = s.clk, norIs := fun _ => True }) { hk with clk := rfl, norIs := trivial }
    fun _ => trivial).clk

end Sys2Proof.Machine
end

