-- ==== Sys2Proof/Tests/Slice0.lean ====
section
/-! SUPPORT. Tests/Slice0.lean: operands that are refused, words of the encodings, and for each statement a state that meets its hypotheses. -/

set_option Elab.async false

open Sys2Proof Sys2Proof.Machine

/-! ### Operands the part does not have -/

/-- One operand out of its range for each check of the units. -/
theorem test_wf_units :
    [Instr.feedbackLost 40960, .feedbackFrozen 40960, .inputInvalid 40960, .feedbackOverload 40960, .following 40960, .autoResume 40960,
      .expressOverrun 40960 0, .expJudged 40960, .laneLinkUp 8, .laneLinkDown 8 true, .hiBer 8 true, .lateTileApply 80, .biasLimit 80,
      .refTimeout 80, .heaterOpen 20480, .heaterShort 20480, .heaterLoad 20480, .driverOverload 10240, .guardIntegrity 80, .starvation 80,
      .trimApply 20480, .tileRunStart 80, .tileRunEnd 80, .stop 16, .lda 16, .ldd 16, .adda 16, .emit 16, .ramp 16, .table 16, .prbs 16, .ldc 16,
      .loop 16, .jmp 16, .br 16, .wait 16, .illegal 16, .runaway 16, .frameTrigger 16, .laneWake 8].all (fun i => !i.wf) = true := by decide

/-- Senders, widths and codes. -/
theorem test_wf_widths :
    [Instr.stageExpired 16, .readyRx 31 0 0 0 0 0 0 0, .readyRx 0 65536 0 0 0 0 0 0, .readyRx 0 0 0 0 0 0 17 0, .goRx 16 0 0, .abandonRx 0 65536,
      .keyRollApply 16, .graceEnd 31, .sbSetAddr true (2 ^ 32) 1, .sbWrite true [2 ^ 32], .sbStretchTimeout 209, .forwardedFrameRx 16 [],
      .forwardedResponseRx 0 (2 ^ 48) [], .arpRequest 0 [256], .kolrokFrameRx 8 [] ⟨0, 0, 0⟩, .kolrokFrameRx 0 [] ⟨0, 1000000000, 0⟩,
      .ptpEvent 0 true 2 0 0 0 0 0 ⟨2 ^ 48, 0, 0⟩, .frameTransmit 0 8192 ⟨0, 0, 0⟩, .commitSwitch 16 [] [], .commitSwitch 0 [80] [],
      .commitSwitch 0 [] [10240], .expressUpdate 0 0 [] true false, .expressUpdate 40960 0 [0, 0, 0, 0, 0, 0, 0, 0] true false,
      .releaseDeadline [80] [] [] [], .releaseDeadline [] [(80, 0)] [] [], .releaseDeadline [] [] [⟨40960, 0, 0, 0, 0⟩] [],
      .releaseDeadline [] [] [] [⟨40960, 0, 0, 0, 0⟩]].all (fun i => !i.wf) = true := by decide

/-- The heads and the bodies of Kolrok commands. -/
theorem test_wf_commands :
    [Instr.ping ⟨16, 0, 0⟩, .ping ⟨0, 2 ^ 48, 0⟩, .ping ⟨0, 0, 256⟩, .summary ⟨0, 0, 0⟩ [1], .fence ⟨31, 0, 0⟩, .read ⟨0, 0, 0⟩ (2 ^ 32) 1,
      .read ⟨0, 0, 0⟩ 0 65536, .write ⟨0, 0, 0⟩ 0 [2 ^ 32], .connect ⟨0, 0, 0⟩ 65536 0, .disconnect ⟨0, 0, 0⟩ 0 65536,
      .stage ⟨0, 0, 0⟩ 0 0 1 [], .stage ⟨0, 0, 0⟩ 0 0 1 [(65536, 0)], .setElement ⟨0, 0, 0⟩ 65536 0, .commit ⟨0, 0, 0⟩ 256 0 0 0 0,
      .abort ⟨0, 0, 0⟩ (2 ^ 64) 0, .remap ⟨0, 0, 0⟩ 0 256, .ctxRead ⟨0, 0, 0⟩ 0 256 0, .ctxWrite ⟨0, 0, 0⟩ 65536 0 [], .ctxState ⟨0, 0, 0⟩ 0 256,
      .guardWrite ⟨0, 0, 0⟩ 256 0 0, .primerWrite ⟨0, 0, 0⟩ 0 65536 0, .primerApply ⟨0, 0, 0⟩ (2 ^ 96), .tileResume ⟨0, 0, 0⟩ (2 ^ 96),
      .hkaInject ⟨0, 0, 0⟩ 256 0, .calibrate ⟨0, 0, 0⟩ (2 ^ 96), .stencilStart ⟨0, 0, 0⟩ 256, .mode ⟨0, 0, 0⟩ 256 0, .power ⟨0, 0, 0⟩ 256,
      .drill ⟨0, 0, 0⟩ (2 ^ 64), .reboot ⟨0, 0, 0⟩ 256, .protectArm ⟨0, 0, 0⟩ ⟨256, 0, 0, 0, 0, 0, 0⟩, .protectArm ⟨0, 0, 0⟩ ⟨0, 0, 0, 0, 0, 2 ^ 1024, 0⟩,
      .protectCommit ⟨0, 0, 0⟩ (2 ^ 32) 0 0, .keyInstall ⟨0, 0, 0⟩ 0 0 [], .keyRoll ⟨0, 0, 0⟩ 256 0,
      .forward ⟨0, 0, 0⟩ 0 []].all (fun i => !i.wf) = true := by decide +kernel

/-- Requesters, generators, captures, the HKA, memory test, calibration. -/
theorem test_wf_chain :
    [Instr.refOut 0 128, .captureRecordWrite 32 0 [], .captureRecordWrite 0 128 [], .captureRecordWrite 0 0 [[16384]], .capRptrWrite .sideband 36 0,
      .hkaSlot 20 0 0 0, .hkaSlot 0 65536 0 0, .hkaInjectWrite .sideband 128 0, .hkaResultPop (.principal 16), .calStart (.principal 31),
      .corrResidue 0 1024, .storeRoomReadEcc .A 0 8192 false, .refreshMiss .A 80, .stArm .sideband 8, .stStart .sideband 8, .stHalt .sideband 8,
      .evtEdgeTrigger 8 true, .mtStart (.principal 16), .mtAbort (.principal 16), .mtestDone .A 0 (2 ^ 32) 0 0 0, .mtestDone .A 0 0 8 0 0,
      .htrOffRelease .sideband 80 0 0, .htrOffRelease .sideband 0 8 0, .fdOffRelease .sideband 0 4 0, .fdLevelWrite .sideband 0 4096 0,
      .tlCalReq .sideband 80, .tiaReq .sideband 80, .calAll (.principal 16), .svStart (.principal 16),
      .svAbort (.principal 16)].all (fun i => !i.wf) = true := by decide

/-- Clocks, planes, collectors, climate, start-up, registers. -/
theorem test_wf_rest :
    [Instr.tdRateWrite .sideband 2 0, .tdSet .sideband 0 (2 ^ 32), .tdAdjust .sideband 0 2147483648, .timeCapture (.principal 16),
      .align (.principal 16), .holdover 2, .ppsEdge ⟨0, 0, 65536⟩, .tsPop .sideband 11, .beaconRx 2 ⟨0, ⟨0, 0, 0⟩, 0, 0⟩ ⟨0, 0, 0⟩ ⟨0, 0, 0⟩ ⟨0, 0, 0⟩ 0 ⟨0, 0, 0⟩,
      .beaconRx 0 ⟨0, ⟨0, 0, 0⟩, 16, 0⟩ ⟨0, 0, 0⟩ ⟨0, 0, 0⟩ ⟨0, 0, 0⟩ 0 ⟨0, 0, 0⟩, .linkMessageRx 2 0 0 0 0 0 0 ⟨0, 0, 0⟩ ⟨0, 0, 0⟩, .ringLost 2,
      .ringLock 2, .apsinLinkDown 2, .atticProvGo (.principal 16), .drillCheck [80] true, .planeReturn (.principal 16), .returnBankTest (some (80, 0)),
      .faultMessage 16 0 0 0 0 0, .endReport 0 256 0 0 0 0, .clearFirst (.principal 16), .fcAck .sideband 4, .fcUnfence .sideband 8 0,
      .sensorRound [(96, 0)], .sensorFail 0 4, .deepSleepSensor 65536, .loopsResume [(.A, 80)] [], .domainWakeOnDemand 96, .wakeStall 96 0,
      .domainReady 96, .startUp 4 0 0 true [], .startUp 0 0 0 true [(2 ^ 32, [])], .selftestDone .A (some (0, 8192)) true, .passReadEnd 2 none [],
      .bootStatusRx 16 0 0 0 0 0, .norRead .sideband 512, .norProgram .sideband 512, .norErase .sideband 512, .norOpDone [(0, [256])],
      .btReboot .sideband 4, .rtRemapWrite .sideband 16384 true, .snapshotLoRead .sideband (2 ^ 32), .rcRead .sideband 0 65,
      .registerWrite .sideband 0 [2 ^ 32]].all (fun i => !i.wf) = true := by decide

/-- What the world delivers at a boundary. -/
theorem test_wf_boundary :
    [({ slices := [⟨2560, []⟩] } : FrameIn), { spares := [⟨80, []⟩] }, { refGood := [80] }, { spp := [⟨4, 0, 0⟩] }, { heaters := [⟨20480, 0, 0, false, false⟩] },
      { evtLevel := 256 }, { evtRise := 256 }, { copies := [] }, { beaconTx := [⟨0, 0, 0⟩, ⟨0, 0, 0⟩, ⟨0, 0, 0⟩] }, { cal := [⟨81, 0, []⟩] },
      { missed := [80] }].all (fun x => !(Instr.frameBoundary x).wf) = true := by decide

/-- The last operand of each range is well-formed. -/
theorem test_wf_edges :
    [Instr.feedbackLost 40959, .laneLinkUp 7, .heaterOpen 20479, .driverOverload 10239, .stop 15, .stageExpired 30, .ping ⟨30, 2 ^ 48 - 1, 255⟩,
      .sbStretchTimeout 208, .fcUnfence (.principal 30) 7 127, .domainReady 95, .rcRead (.firmware .B) (2 ^ 32 - 1) 64, .frameBoundary ({} : FrameIn),
      .tdAdjust .sideband 1 (-2147483648)].all Instr.wf = true := by decide

/-- An ill-formed command is refused by name. -/
theorem test_refused_badOperand : exec (.laneLinkUp 8) State.reset = .refused (.badOperand "LANE_LINK_UP") := by rfl
end

section
/-! SUPPORT. The clock and the service mode: what each of their commands sets, and that every other command leaves them (R5, R10, R26, R27). -/

namespace Sys2Proof.Machine

open Sys2Proof

/-! ### Commands that do not set the clock, the mode -/

theorem exec_clk_of_not_setsClock {i : Instr} {s t : State} (hs : s.sound = true) (hi : setsClock i = false) (he : exec i s = .next t) :
    t.clk = s.clk :=
  (exec_still (κ := { Keep.of s with clk := fun c => c = s.clk }) { State.sound_kept hs with clk := rfl } (fun h => absurd h (by simp [hi]))
    (fun _ _ => trivial) (fun _ _ => trivial) (fun _ _ => trivial) (fun _ _ => trivial) he).clk

theorem exec_mode_of_not_setsMode {i : Instr} {s t : State} (hs : s.sound = true) (hi : setsMode i = false) (he : exec i s = .next t) :
    t.mode = s.mode :=
  (exec_still (κ := { Keep.of s with mode := fun m => m = s.mode }) { State.sound_kept hs with mode := rfl } (fun _ _ => trivial)
    (fun h => absurd h (by simp [hi])) (fun _ _ => trivial) (fun _ _ => trivial) (fun _ _ => trivial) he).mode

/-! ### FRAME_BOUNDARY and ADMISSION_POINT -/

/-- Without a trip or Last Resort that the step has fired there is no record to write. -/
@[simp] theorem State.noteMortem_self (s : State) : s.noteMortem s = s := by
  unfold State.noteMortem
  rw [if_neg (by cases s.therm.trip <;> simp), if_neg (by cases s.lastResort <;> simp)]

theorem State.frameBoundary_of_not_clocked {s : State} (x : FrameIn) (hc : s.clocked = false) : s.frameBoundary x = s := by
  unfold State.frameBoundary
  rw [if_pos (by simp [hc])]

theorem exec_frameBoundary_clk {s : State} {x : FrameIn} (hs : s.sound = true) (hx : (Instr.frameBoundary x).wf = true) (hc : s.clocked = true) :
    Yields (.frameBoundary x) s fun t => t.clk = { frame := s.clk.frame + 1, point := 0, next := 0 } :=
  have hk := State.frameBoundary_kept (κ := Keep.of s) (x := x) (State.sound_kept hs) trivial
  ⟨_, exec_frameBoundary x s hx, (State.noteMortem_clk hk).trans (State.frameBoundary_clk (State.sound_kept hs) hc)⟩

theorem exec_admissionPoint_clk {s : State} (d : Bool) (hs : s.sound = true) (hc : s.clocked = true) (hn : s.clk.next < 64) :
    Yields (.admissionPoint d) s fun t => t.clk = { frame := s.clk.frame, point := s.clk.next, next := s.clk.next + 1 } :=
  have hk := State.admissionPoint_kept (κ := Keep.of s) (differ := d) (State.sound_kept hs) trivial
  ⟨_, exec_admissionPoint d s, (State.noteMortem_clk hk).trans (State.admissionPoint_clk (State.sound_kept hs) hc hn)⟩

/-! ### MODE_APPLY -/

/-- The parts that the effects of a new mode touch, beside the mode itself and the request for it (R81, R135, R138, R239, R362). -/
def modeEffectParts : List Part := [.shared, .privA, .privB, .shadows, .com, .links, .sb, .sched, .faults, .pl, .pw]

/-- At the boundary it was accepted for the mode comes into force; the effects that follow touch `modeEffectParts` alone. -/
theorem State.modeApply_due {s : State} {m : Mode} {f : Nat} (hm : s.modeNext = some (m, f)) (hf : f ≤ s.clk.frame + 1) :
    Same (partMask modeEffectParts) { s with mode := m, modeNext := none } s.modeApply := by
  unfold State.modeApply
  simp -zeta only [hm, if_neg (Nat.not_lt.2 hf)]
  extract_lets was accepted amp regs noAmps loaded homeCodes commits frames solo off dropped
  have hNoAmps : Same (partMask modeEffectParts) accepted noAmps :=
    Same.reg_ same_refl (fun _ => rfl) (fun _ => rfl) (fun _ => rfl) (fun h => absurd h (by decide)) fun _ => ⟨rfl, rfl, rfl⟩
  have hLoaded : Same (partMask modeEffectParts) accepted loaded := State.loadAmps_same hNoAmps (by decide)
  have hHomeCodes : Same (partMask modeEffectParts) accepted homeCodes := ite_same hLoaded (State.dropExactOnly_same hLoaded (by decide))
  have hFrames : Same (partMask modeEffectParts) accepted frames := ite_same (hHomeCodes.com_ (by decide)) hHomeCodes
  have hSolo : Same (partMask modeEffectParts) accepted solo :=
    ite_same (State.enterSolo_same hFrames (by decide)) (ite_same (State.leaveSolo_same hFrames (by decide)) hFrames)
  have hDropped : Same (partMask modeEffectParts) accepted dropped := State.over_same (fun _ _ h => State.dropLink_same h (by decide)) hSolo
  exact State.alertState_same (State.setPw_same hDropped (by decide)) (by decide)

theorem State.modeApply_waits {s : State} {m : Mode} {f : Nat} (hm : s.modeNext = some (m, f)) (hf : s.clk.frame + 1 < f) : s.modeApply = s := by
  unfold State.modeApply
  rw [hm]
  exact if_pos hf

theorem State.modeApply_none {s : State} (hm : s.modeNext = none) : s.modeApply = s := by
  unfold State.modeApply
  rw [hm]

theorem exec_modeApply_of_unchanged {s : State} (h : s.modeApply = s) : exec .modeApply s = .next s := by
  rw [exec_modeApply, State.when, h, ite_self]

/-- Settles O9: the clock rules of FRAME_BOUNDARY and ADMISSION_POINT, and the frame of every command outside `setsClock`. -/
theorem clockMovesAtBoundariesAndPoints : Obligations.ClockMovesAtBoundariesAndPoints := by
  unfold Obligations.ClockMovesAtBoundariesAndPoints
  intro s hs
  refine ⟨fun x hx hc => exec_frameBoundary_clk hs hx hc, fun x hx hc => ?_, fun d hc hn => exec_admissionPoint_clk d hs hc hn,
    fun i t hi he => exec_clk_of_not_setsClock hs hi he⟩
  rw [exec_frameBoundary x s hx, State.frameBoundary_of_not_clocked x hc, State.noteMortem_self]

/-- Settles O10: MODE_APPLY at the accepted boundary, before it and without a request; every command outside `setsMode` keeps the mode. That
MODE_APPLY stands before the FRAME_BOUNDARY of its frame is the choice of log entry 10. -/
theorem modeIsSetByModeApply : Obligations.ModeIsSetByModeApply := by
  unfold Obligations.ModeIsSetByModeApply
  intro s hs
  refine ⟨fun i t hi he => exec_mode_of_not_setsMode hs hi he, fun m f hc hm hf => ?_,
    fun m f hm hf => exec_modeApply_of_unchanged (State.modeApply_waits hm hf),
    fun hm => exec_modeApply_of_unchanged (State.modeApply_none hm)⟩
  have hsame := State.modeApply_due hm hf
  have he : exec .modeApply s = .next s.modeApply := by rw [exec_modeApply, State.when, if_pos hc]
  exact ⟨_, he, hsame .mode (by decide), hsame .modeNext (by decide), hsame .clk (by decide)⟩

end Sys2Proof.Machine
end

section
/-! SUPPORT. A Kolrok command that is accepted: its row carries out its effect in the state in which its flight has begun, and its response is the last
item of its sender (R100, R255, R256, R277). -/

namespace Sys2Proof.Machine

open Sys2Proof

/-! ### The row of a command -/

theorem rowFor_wf (h : CmdHead) (c : Cmd) : (rowFor h c).wf = (h.wf && c.wf) := by cases c <;> rfl

/-- Each of the rows is the command, with its checks, on operands that the part has. -/
theorem exec_rowFor {h : CmdHead} {c : Cmd} (s : State) (ok : (rowFor h c).wf = true) : exec (rowFor h c) s = .next (s.command h c) := by
  cases c <;> exact gated_next ok

/-- The list of a sender's principal has an entry for it. -/
theorem CmdHead.wf_pIdx {h : CmdHead} (hw : h.wf = true) : pIdx h.principal < 17 := by
  simp only [CmdHead.wf, isSender, Bool.and_eq_true, Bool.or_eq_true, decide_eq_true_eq, beq_iff_eq] at hw
  unfold pIdx
  split <;> omega

/-- A command other than STAGE that passes its checks begins, or waits. -/
theorem State.command_of_ok {s : State} {h : CmdHead} {c : Cmd} (hop : opcodeOf c ≠ 0x12) (ht : s.takesCommands h.principal = true)
    (hc : s.commandCode h c = Code.ok) : s.command h c = s.effectOrWait h c (costOf c h.flags 0) := by
  unfold State.command
  simp only [ht, hc]
  cases c with
  | stage => exact absurd rfl hop
  | _ => rfl

/-- An accepted command has its effect at once. -/
theorem exec_of_accepts {s : State} {h : CmdHead} {c : Cmd} (hop : opcodeOf c ≠ 0x12) (ha : s.accepts h c = true) :
    exec (rowFor h c) s = .next ((s.started h c).runCmd h c) := by
  simp only [State.accepts, Bool.and_eq_true, decide_eq_true_eq] at ha
  obtain ⟨⟨⟨hwf, htakes⟩, hcode⟩, hbegins⟩ := ha
  rw [exec_rowFor s hwf, State.command_of_ok hop htakes hcode, State.effectOrWait, if_pos hbegins]
  rfl

theorem State.accepts_wf {s : State} {h : CmdHead} {c : Cmd} (ha : s.accepts h c = true) : h.wf = true := by
  simp only [State.accepts, Bool.and_eq_true, rowFor_wf] at ha
  exact ha.1.1.1.1

/-! ### Entries of the unit lists -/

theorem getD_modAt {α : Type} (l : List α) (i j : Nat) (f : α → α) (d : α) (hi : i < l.length) :
    (modAt l j f).getD i d = if i = j then f (l.getD i d) else l.getD i d := by
  simp only [modAt, List.getD_eq_getElem?_getD, List.getElem?_modify, List.getElem?_eq_getElem hi, eq_comm (a := i)]
  split <;> rfl

theorem State.prin_updPrin {s : State} {p : Nat} (f : PrinLink → PrinLink) (hp : pIdx p < s.links.prin.length) :
    (s.updPrin p f).prin p = f (s.prin p) := by
  unfold State.prin
  rw [State.updPrin_links]
  exact (getD_modAt _ _ _ _ _ hp).trans (if_pos rfl)

theorem State.actTile_updTile {s : State} {k : Nat} (t : Nat) (f : ActTile → ActTile) (hk : k < s.act.tiles.length) :
    (s.updTile t f).actTile k = if k = t then f (s.actTile k) else s.actTile k := getD_modAt _ _ _ _ _ hk

theorem State.tileCal_updCal {s : State} {k : Nat} (t : Nat) (f : TileCal → TileCal) (hk : k < s.cal.tiles.length) :
    (s.updCal t f).tileCal k = if k = t then f (s.tileCal k) else s.tileCal k := getD_modAt _ _ _ _ _ hk

@[simp] theorem mem_onesBelow {k n w : Nat} : k ∈ onesBelow n w ↔ k < n ∧ w.testBit k = true := by simp [onesBelow]

/-- What the visit of one entry establishes, and the visits of the others keep, holds once all are visited. -/
theorem State.over_establishes {α : Type} {I Q : State → Prop} {s : State} {l : List α} {f : State → α → State} {x : α} (hx : x ∈ l)
    (hI : ∀ s y, I s → I (f s y)) (hQ : ∀ s y, I s → Q s → Q (f s y)) (hset : ∀ s, I s → Q (f s x)) (hs : I s) : Q (s.over l f) := by
  obtain ⟨l₁, l₂, rfl⟩ := List.append_of_mem hx
  unfold State.over
  rw [List.foldl_append, List.foldl_cons]
  have h₁ : I (l₁.foldl f s) := List.foldlRecOn l₁ f hs fun u hu y _ => hI u y hu
  exact (List.foldlRecOn (motive := fun u => I u ∧ Q u) l₂ f ⟨hI _ x h₁, hset _ h₁⟩ fun u hu y _ => ⟨hI u y hu.1, hQ u y hu.1 hu.2⟩).2

/-! ### The state in which a command's flight has begun -/

@[simp] theorem State.started_clk (s : State) (h : CmdHead) (c : Cmd) : (s.started h c).clk = s.clk := rfl
@[simp] theorem State.started_act (s : State) (h : CmdHead) (c : Cmd) : (s.started h c).act = s.act := rfl
@[simp] theorem State.started_cal (s : State) (h : CmdHead) (c : Cmd) : (s.started h c).cal = s.cal := rfl

theorem State.started_prin_length (s : State) (h : CmdHead) (c : Cmd) : (s.started h c).links.prin.length = s.links.prin.length :=
  modAt_length _ _ _

/-- The stream's notes are no items. -/
theorem State.started_completed {s : State} {h : CmdHead} (c : Cmd) (hp : pIdx h.principal < s.links.prin.length) :
    ((s.started h c).prin h.principal).completed = (s.prin h.principal).completed := by
  show ((s.updPrin h.principal _).prin h.principal).completed = _
  rw [State.prin_updPrin _ hp]

/-! ### The response -/

/-- Where the sender's items are built at once, an answer ends the flight (not that of an accepted COMMIT) and completes the item. -/
theorem State.answer_of_atOnce {s : State} {h : CmdHead} (opcode code : Nat) (body : List Nat) (ha : s.atOnce h = true) :
    s.answer h opcode code body = (if opcode = 0x14 ∧ code = Code.ok then s else s.endFlight h.principal h.cseq).updPrin h.principal
      fun l => { l with completed := l.completed ++ [s.itemOf h opcode code body] } := by
  have hs : ¬(s.isMode .sealed && isTenancy h.principal) = true := by
    rw [State.atOnce, Bool.not_eq_true'] at ha
    rw [ha]
    exact Bool.false_ne_true
  unfold State.answer State.answerAt
  by_cases hc : opcode = 0x14 ∧ code = Code.ok
  · simp only [if_pos hc]
    exact if_neg hs
  · simp only [if_neg hc]
    exact if_neg hs

theorem State.answer_completed {s : State} {h : CmdHead} (opcode code : Nat) (body : List Nat) (ha : s.atOnce h = true)
    (hp : pIdx h.principal < s.links.prin.length) :
    ((s.answer h opcode code body).prin h.principal).completed = (s.prin h.principal).completed ++ [s.itemOf h opcode code body] := by
  rw [State.answer_of_atOnce _ _ _ ha]
  split
  · rw [State.prin_updPrin _ hp]
  · rw [State.prin_updPrin (s := s.endFlight h.principal h.cseq) _ hp]
    rfl

/-- Such an answer leaves every part but the items of the principals and the flights. -/
theorem State.answer_same_of_atOnce {s : State} {h : CmdHead} (opcode code : Nat) (body : List Nat) (ha : s.atOnce h = true) :
    Same (partMask [.links, .sched]) s (s.answer h opcode code body) := by
  rw [State.answer_of_atOnce _ _ _ ha]
  exact State.updPrin_same (ite_same same_refl (State.endFlight_same same_refl (by decide))) (by decide)

/-- An accepted command whose effect ends with its answer, and has left the clock, the mode and the lists of items, replies with it; what holds of its
effect on the other parts holds after the answer. -/
theorem replies_of_answer {s u : State} {h : CmdHead} {c : Cmd} {opcode code o : Nat} {body : List Nat} {P : State → Prop} (hs : s.sound = true)
    (hat : s.atOnce h = true) (ha : s.accepts h c = true) (hrun : (s.started h c).runCmd h c = u.answer h opcode code body)
    (hu : Same o (s.started h c) u) (hP : ∀ t, Same (partMask [.links, .sched]) u t → P t) (hop : opcodeOf c ≠ 0x12 := by simp [opcodeOf])
    (ho : o &&& partMask [.clk, .mode, .links] = 0 := by decide) : Replies (rowFor h c) h opcode code body s P := by
  have hfree (p : Part) (hp : (partMask [.clk, .mode, .links]).testBit p.ix = true) : o.testBit p.ix = false := by
    have h0 := congrArg (fun n => n.testBit p.ix) ho
    simpa [Nat.testBit_and, hp] using h0
  have hclk : u.clk = s.clk := hu .clk (hfree .clk (by decide))
  have hmode : u.mode = s.mode := hu .mode (hfree .mode (by decide))
  have hlinks : u.links = (s.started h c).links := hu .links (hfree .links (by decide))
  have hp : pIdx h.principal < s.links.prin.length := (State.sound_kept hs).prin ▸ CmdHead.wf_pIdx (State.accepts_wf ha)
  have hatu : u.atOnce h = true := by rw [State.atOnce, State.isMode, hmode]; exact hat
  have hitem : u.itemOf h opcode code body = s.itemOf h opcode code body := by rw [State.itemOf, State.now, hclk]; rfl
  refine ⟨_, exec_of_accepts hop ha, ?_, ?_⟩
  · rw [hrun, State.answer_completed _ _ _ hatu (by rw [hlinks, State.started_prin_length]; exact hp), hitem, ← State.started_completed c hp]
    simp only [State.prin, hlinks]
  · rw [hrun]
    exact hP _ (State.answer_same_of_atOnce _ _ _ hatu)

end Sys2Proof.Machine
end

section
/-! SUPPORT. The owner's commands PING, MODE, CALIBRATE, REBOOT, PRIMER_APPLY, TILE_RESUME (R5, R219, R221, R225, R256, R434). -/

namespace Sys2Proof.Machine

open Sys2Proof

/-! ### The requests that CALIBRATE leaves -/

/-- A tile asked for is asked for after the requests of any list of tiles that names it. -/
theorem State.over_requestRun_req {s : State} {l : List Nat} {k : Nat} (hk : k < s.cal.tiles.length) (hm : k ∈ l) :
    ((s.over l State.requestRun).tileCal k).req = true := by
  refine State.over_establishes (I := fun u => k < u.cal.tiles.length) (Q := fun u => (u.tileCal k).req = true) hm ?_ ?_ ?_ hk
  · intro u t hu
    exact (modAt_length u.cal.tiles t _).symm ▸ hu
  · intro u t hu hq
    rw [State.requestRun, State.tileCal_updCal _ _ hu]
    split
    · rfl
    · exact hq
  · intro u hu
    rw [State.requestRun, State.tileCal_updCal _ _ hu, if_pos rfl]

theorem State.requestCals_req {s : State} {l : List Nat} {hka : Bool} {k : Nat} (hk : k < s.cal.tiles.length) (hm : k ∈ l) :
    ((s.requestCals l hka).tileCal k).req = true := by
  have hcal : (s.requestCals l hka).cal = (s.over l State.requestRun).cal :=
    State.when_same (o := partMask [.hka]) same_refl (State.requestHkaCal_same same_refl (by decide)) .cal (by decide)
  rw [State.tileCal, hcal]
  exact State.over_requestRun_req hk hm

/-! ### The marks that PRIMER_APPLY and TILE_RESUME leave -/

/-- What an update of one tile always makes true holds of every tile of a list so updated. -/
theorem State.over_updTile_sat {s : State} {l : List Nat} {f : ActTile → ActTile} {Q : ActTile → Prop} {k : Nat} (hf : ∀ a, Q (f a))
    (hk : k < s.act.tiles.length) (hm : k ∈ l) : Q ((s.over l fun s t => s.updTile t f).actTile k) := by
  refine State.over_establishes (I := fun u => k < u.act.tiles.length) (Q := fun u => Q (u.actTile k)) hm ?_ ?_ ?_ hk
  · intro u t hu
    exact (modAt_length u.act.tiles t f).symm ▸ hu
  · intro u t hu hq
    rw [State.actTile_updTile _ _ hu]
    split
    · exact hf _
    · exact hq
  · intro u hu
    rw [State.actTile_updTile _ _ hu, if_pos rfl]
    exact hf _

theorem State.over_updTile_same {s : State} {l : List Nat} {f : ActTile → ActTile} :
    Same (partMask [.act]) s (s.over l fun s t => s.updTile t f) :=
  State.over_same (fun _ _ h => State.updTile_same h (by decide)) same_refl

/-! ### Each command -/

section
variable {s : State} {h : CmdHead}

theorem ping_replies (hs : s.sound = true) (hat : s.atOnce h = true) (ha : s.accepts h .ping = true) :
    Replies (.ping h) h 0x01 Code.ok [] s fun _ => True :=
  replies_of_answer (c := .ping) (o := 0) hs hat ha rfl same_refl fun _ _ => trivial

theorem mode_replies {code frame : Nat} {m : Mode} (hs : s.sound = true) (hat : s.atOnce h = true) (ha : s.accepts h (.mode code frame) = true)
    (hm : Mode.ofCode? code = some m) (hlock : s.locked 7 = false) (hf : frame = 0 ∨ s.clk.frame < frame)
    (hsealed : m = .sealed → s.sealedOk = true) :
    Replies (.mode h code frame) h 0x38 Code.ok [] s fun t => t.modeNext = some (m, if frame = 0 then s.clk.frame + 1 else frame) := by
  have hrun : (s.started h (.mode code frame)).runCmd h (.mode code frame) =
      ({ s.started h (.mode code frame) with modeNext := some (m, if frame = 0 then s.clk.frame + 1 else frame) } : State).answer h 0x38 Code.ok := by
    have hsealed' : (decide (m = .sealed) && !(s.started h (.mode code frame)).sealedOk) = false := by
      by_cases e : m = .sealed
      · have : (s.started h (.mode code frame)).sealedOk = s.sealedOk := rfl
        simp [this, hsealed e]
      · simp [e]
    have hlock' : (s.started h (.mode code frame)).locked 7 = false := hlock
    simp only [State.runCmd, State.cmdMode, hm, hlock', hsealed', State.started_clk]
    rw [if_neg (by simp), if_neg (by omega), if_neg (by simp)]
  exact replies_of_answer (c := .mode code frame) (o := partMask [.modeNext]) hs hat ha hrun (Same.modeNext_ same_refl (by decide))
    fun t ht => ht .modeNext (by decide)

theorem calibrate_replies {tiles : Nat} (hs : s.sound = true) (hat : s.atOnce h = true) (ha : s.accepts h (.calibrate tiles) = true)
    (ht : tiles < 2 ^ 80) (hall : h.flags.testBit 4 = false) :
    Replies (.calibrate h tiles) h 0x31 Code.ok [] s fun t => ∀ k, k < 80 → tiles.testBit k = true → (t.tileCal k).req = true := by
  have hhka : tiles.testBit 80 = false := Nat.testBit_lt_two_pow ht
  have hrun : (s.started h (.calibrate tiles)).runCmd h (.calibrate tiles) =
      ((s.started h (.calibrate tiles)).requestCals (onesBelow 80 tiles) false).answer h 0x31 Code.ok := by
    simp only [State.runCmd, State.cmdCalibrate, hall, hhka, Bool.or_self, Bool.false_and]
    rw [if_neg (by omega), if_neg (by simp), if_neg (by simp)]
  refine replies_of_answer (c := .calibrate tiles) (o := partMask [.cal, .hka]) hs hat ha hrun
    (State.requestCals_same same_refl (by decide)) fun t heq k hk hbit => ?_
  rw [State.tileCal, heq .cal (by decide)]
  exact State.requestCals_req (by rw [State.started_cal, (State.sound_kept hs).calTiles]; exact hk) (mem_onesBelow.2 ⟨hk, hbit⟩)

theorem reboot_replies {slot : Nat} (hs : s.sound = true) (hat : s.atOnce h = true) (ha : s.accepts h (.reboot slot) = true) (hslot : slot ≤ 2)
    (hcode : s.rebootCode = Code.ok) :
    Replies (.reboot h slot) h 0x3B Code.ok [] s fun t => t.boot.reboot = some (slot, s.clk.frame + 1) := by
  have hcode' : (s.started h (.reboot slot)).rebootCode = Code.ok := hcode
  have hrun : (s.started h (.reboot slot)).runCmd h (.reboot slot) = ((s.started h (.reboot slot)).askReboot slot).answer h 0x3B Code.ok := by
    simp only [State.runCmd, State.cmdReboot, hcode']
    rw [if_neg (by omega), if_neg (by simp)]
  refine replies_of_answer (c := .reboot slot) (o := partMask [.boot]) hs hat ha hrun (State.askReboot_same same_refl (by decide)) fun t heq => ?_
  rw [heq .boot (by decide)]
  show some (slot % 4 % 3, s.clk.frame + 1) = _
  rw [show slot % 4 % 3 = slot by omega]

theorem primerApply_replies {tiles : Nat} (hs : s.sound = true) (hat : s.atOnce h = true) (ha : s.accepts h (.primerApply tiles) = true)
    (ht : tiles < 2 ^ 80) :
    Replies (.primerApply h tiles) h 0x2A Code.ok [] s fun t => ∀ k, k < 80 → tiles.testBit k = true → (t.actTile k).applyDue = true := by
  have hrun : (s.started h (.primerApply tiles)).runCmd h (.primerApply tiles) =
      ((s.started h (.primerApply tiles)).over (maskTiles tiles) fun s t => s.updTile t fun a => { a with applyDue := true }).answer h 0x2A Code.ok :=
    if_neg (by omega)
  refine replies_of_answer (c := .primerApply tiles) hs hat ha hrun State.over_updTile_same fun t heq k hk hbit => ?_
  rw [State.actTile, heq .act (by decide)]
  exact State.over_updTile_sat (Q := fun a => a.applyDue = true) (fun _ => rfl)
    (by rw [State.started_act, (State.sound_kept hs).actTiles]; exact hk) (mem_onesBelow.2 ⟨hk, hbit⟩)

theorem tileResume_replies {tiles : Nat} (hs : s.sound = true) (hat : s.atOnce h = true) (ha : s.accepts h (.tileResume tiles) = true)
    (ht : tiles < 2 ^ 80) (hhand : ∀ k, k < 80 → tiles.testBit k = true → (s.actTile k).hand = 16) :
    Replies (.tileResume h tiles) h 0x2B Code.ok [] s fun t => ∀ k, k < 80 → tiles.testBit k = true →
      (t.actTile k).resumeDue = true ∧ (t.actTile k).applyDue = false := by
  have hhands : ((maskTiles tiles).all fun t => ((s.started h (.tileResume tiles)).actTile t).hand == 16) = true := by
    simp only [List.all_eq_true, maskTiles, mem_onesBelow, beq_iff_eq]
    exact fun k hk => hhand k hk.1 hk.2
  have hrun : (s.started h (.tileResume tiles)).runCmd h (.tileResume tiles) =
      ((s.started h (.tileResume tiles)).over (maskTiles tiles) fun s t =>
        s.updTile t fun a => { a with resumeDue := true, applyDue := false }).answer h 0x2B Code.ok :=
    (if_neg (by omega)).trans (if_pos hhands)
  refine replies_of_answer (c := .tileResume tiles) hs hat ha hrun State.over_updTile_same fun t heq k hk hbit => ?_
  rw [State.actTile, heq .act (by decide)]
  exact State.over_updTile_sat (Q := fun a => a.resumeDue = true ∧ a.applyDue = false) (fun _ => ⟨rfl, rfl⟩)
    (by rw [State.started_act, (State.sound_kept hs).actTiles]; exact hk) (mem_onesBelow.2 ⟨hk, hbit⟩)

end

/-- Settles O18, command by command. That TILE_RESUME ends a PRIMER_APPLY of the same frame is the reading of log entry 52. -/
theorem ownerCommandsAnswer : Obligations.OwnerCommandsAnswer := by
  unfold Obligations.OwnerCommandsAnswer
  intro s h hs hat
  exact ⟨ping_replies hs hat,
    fun _ _ _ ha hm hlock hf hsealed => mode_replies hs hat ha hm hlock hf hsealed,
    fun _ ha ht hall => calibrate_replies hs hat ha ht hall,
    fun _ ha hslot hcode => reboot_replies hs hat ha hslot hcode,
    fun _ ha ht => primerApply_replies hs hat ha ht,
    fun _ ha ht hhand => tileResume_replies hs hat ha ht hhand⟩

end Sys2Proof.Machine
end

section
/-! TESTS. One state that meets the hypotheses of the statements about the clock, the mode and the owner's commands, and what they say of it. -/

namespace Sys2Proof.Machine

open Sys2Proof

/-- A running block with open lanes, a mode accepted for the next boundary, and tiles whose handshakes have come at 16 boundaries. -/
def runningBlock : State :=
  { State.reset with
    boot := { State.reset.boot with phase := .run }
    links := { State.reset.links with open_ := true }
    modeNext := some (.swift, 1)
    act := { State.reset.act with tiles := List.replicate 80 { hand := 16 } } }

theorem runningBlock_sound : runningBlock.sound = true := by decide

theorem runningBlock_clock :
    (Yields (.frameBoundary {}) runningBlock fun t => t.clk = { frame := 1, point := 0, next := 0 }) ∧
      Yields (.admissionPoint false) runningBlock fun t => t.clk = { frame := 0, point := 0, next := 1 } := by
  obtain ⟨boundary, -, point, -⟩ := clockMovesAtBoundariesAndPoints runningBlock runningBlock_sound
  exact ⟨boundary {} (by decide) (by decide), point false (by decide) (by decide)⟩

theorem runningBlock_modeApply :
    Yields .modeApply runningBlock fun t => t.mode = .swift ∧ t.modeNext = none ∧ t.clk = runningBlock.clk := by
  obtain ⟨-, due, -⟩ := modeIsSetByModeApply runningBlock runningBlock_sound
  exact due .swift 1 (by decide) rfl (by decide)

theorem Replies.imp {i : Instr} {h : CmdHead} {opcode code : Nat} {body : List Nat} {s : State} {P Q : State → Prop}
    (hr : Replies i h opcode code body s P) (hPQ : ∀ t, P t → Q t) : Replies i h opcode code body s Q := by
  obtain ⟨t, he, hitem, hP⟩ := hr
  exact ⟨t, he, hitem, hPQ t hP⟩

/-- The owner's commands on it: SEALED for frame 9, tiles 0 and 79, slot 2. -/
theorem runningBlock_ownerCommands :
    Replies (.ping (ownerHead 1)) (ownerHead 1) 0x01 Code.ok [] runningBlock (fun _ => True) ∧
    Replies (.mode (ownerHead 1) 5 9) (ownerHead 1) 0x38 Code.ok [] runningBlock (fun t => t.modeNext = some (.sealed, 9)) ∧
    Replies (.calibrate (ownerHead 1) (2 ^ 79 + 1)) (ownerHead 1) 0x31 Code.ok [] runningBlock (fun t => (t.tileCal 79).req = true) ∧
    Replies (.reboot (ownerHead 1) 2) (ownerHead 1) 0x3B Code.ok [] runningBlock (fun t => t.boot.reboot = some (2, 1)) ∧
    Replies (.primerApply (ownerHead 1) (2 ^ 79 + 1)) (ownerHead 1) 0x2A Code.ok [] runningBlock (fun t => (t.actTile 79).applyDue = true) ∧
    Replies (.tileResume (ownerHead 1) (2 ^ 79 + 1)) (ownerHead 1) 0x2B Code.ok [] runningBlock (fun t => (t.actTile 79).resumeDue = true) := by
  obtain ⟨ping, mode, calibrate, reboot, apply, resume⟩ := ownerCommandsAnswer runningBlock (ownerHead 1) runningBlock_sound (by decide)
  refine ⟨ping (by decide), mode 5 9 .sealed (by decide) rfl (by decide) (by decide) fun _ => by decide +kernel,
    ?_, reboot 2 (by decide) (by decide) (by decide), ?_, ?_⟩
  · exact (calibrate _ (by decide) (by decide) (by decide)).imp fun t ht => ht 79 (by decide) (by decide)
  · exact (apply _ (by decide) (by decide)).imp fun t ht => ht 79 (by decide) (by decide)
  · exact (resume _ (by decide) (by decide) (by decide)).imp fun t ht => (ht 79 (by decide) (by decide)).1

end Sys2Proof.Machine
end

section
/-! SUPPORT. The route engine: its commands begin as incremental requests or as a full routing, requests post at their times, or are deferred to a full
routing of their own (R53, R256, R257). -/

namespace Sys2Proof.Machine

open Sys2Proof

/-! ### The request of a route command -/

@[simp] theorem State.routeReq_principal (s : State) (h : CmdHead) (c : Cmd) : (s.routeReq h c).principal = h.principal := by cases c <;> rfl
@[simp] theorem State.routeReq_cseq (s : State) (h : CmdHead) (c : Cmd) : (s.routeReq h c).cseq = h.cseq := by cases c <;> rfl
@[simp] theorem State.routeReq_flags (s : State) (h : CmdHead) (c : Cmd) : (s.routeReq h c).flags = h.flags := by cases c <;> rfl
@[simp] theorem State.routeReq_cmd (s : State) (h : CmdHead) (c : Cmd) : (s.routeReq h c).cmd = c := by cases c <;> rfl
@[simp] theorem State.routeReq_since (s : State) (h : CmdHead) (c : Cmd) : (s.routeReq h c).since = s.now := by cases c <;> rfl

/-! ### A route command begins -/

section
variable {s : State} {h : CmdHead} {c : Cmd}

theorem State.cmdRoute_incremental (hhalt : s.rdP s.active R.RT_CTRL_HALT ≠ 1) (hfull : (s.routeReq h c).isFull = false) :
    s.cmdRoute h c = s.setRoute fun x => { x with begun := x.begun ++ [s.routeReq h c] } := by
  simp [State.cmdRoute, hhalt, hfull]

theorem State.cmdRoute_full (hhalt : s.rdP s.active R.RT_CTRL_HALT ≠ 1) (hfull : (s.routeReq h c).isFull = true) :
    s.cmdRoute h c = s.setRoute fun x => { x with full := some (s.routeReq h c), fullSince := s.now, freeAt := s.now + 13 } := by
  simp [State.cmdRoute, hhalt, hfull]

/-- A halted engine refuses the request. -/
theorem State.cmdRoute_halted (hhalt : s.rdP s.active R.RT_CTRL_HALT = 1) :
    s.cmdRoute h c = (s.answer h (opcodeOf c) Code.routeHalted (routeBody (opcodeOf c) 0 0)).complete h.principal h.cseq := by
  have hcode : ¬(Code.routeHalted = Code.ok ∧ opcodeOf c = 0x12) := fun e => absurd e.1 (by decide)
  simp only [State.cmdRoute, if_pos hhalt, State.answerRoute, State.routeReq_cmd, State.routeReq_principal, State.routeReq_cseq,
    State.routeReq_flags, State.routeReq_since, if_neg hcode]
  rfl

/-- A STAGE in one part, with no assembly of its sender's under way, is whole at once (R257). -/
theorem State.stagePart_whole {id : Nat} {entries : List (Nat × Nat)} (hasm : (s.prin h.principal).assembly = none) :
    s.stagePart h id 0 1 entries = (Code.ok, some (h, .stage id 0 1 entries), s) := by
  simp [State.stagePart, hasm]

/-- An accepted STAGE in one part has its effect at once where its cost, which counts its entries, lets it begin. -/
theorem exec_stage_of_accepts {id : Nat} {entries : List (Nat × Nat)} (hc : c = .stage id 0 1 entries) (ha : s.accepts h c = true)
    (hasm : (s.prin h.principal).assembly = none)
    (hbegins : s.begins ⟨h, opcodeOf c, c, costOf c h.flags entries.length, false, s.now⟩ = true) :
    exec (rowFor h c) s = .next ((s.started h c).runCmd h c) := by
  simp only [State.accepts, Bool.and_eq_true, decide_eq_true_eq] at ha
  obtain ⟨⟨⟨hwf, htakes⟩, hcode⟩, -⟩ := ha
  have hcommand : s.command h c = s.effectOrWait h c (costOf c h.flags entries.length) := by
    subst hc
    simp [State.command, htakes, hcode, State.stagePart_whole hasm, stageTotal, hasm]
  rw [exec_rowFor s hwf, hcommand, State.effectOrWait, if_pos hbegins]
  rfl

/-- With the engine halted the sender's last item is the refusal, and the requests in the engine stay. -/
theorem routeHalted_replies (hs : s.sound = true) (hat : s.atOnce h = true) (ha : s.accepts h c = true)
    (hexec : exec (rowFor h c) s = .next ((s.started h c).cmdRoute h c)) (hhalt : s.rdP s.active R.RT_CTRL_HALT = 1) :
    Replies (rowFor h c) h (opcodeOf c) Code.routeHalted (routeBody (opcodeOf c) 0 0) s fun t => t.route = s.route := by
  have hp : pIdx h.principal < s.links.prin.length := (State.sound_kept hs).prin ▸ CmdHead.wf_pIdx (State.accepts_wf ha)
  have hat' : (s.started h c).atOnce h = true := hat
  rw [State.cmdRoute_halted (s := s.started h c) hhalt] at hexec
  refine ⟨_, hexec, ?_, ?_⟩
  · exact (State.answer_completed _ _ _ hat' ((State.started_prin_length s h c).symm ▸ hp)).trans
      (by rw [State.started_completed c hp]; rfl)
  · exact State.answer_same_of_atOnce _ _ _ hat' .route (by decide)

end

/-- Settles O22. A request joins those of its admission point, or its full routing keeps others back for 13 points (log entry 16); the body of the
refusal is that of log entry 20. -/
theorem routeCommandsBegin : Obligations.RouteCommandsBegin := by
  unfold Obligations.RouteCommandsBegin
  rintro s h c r hs ha rfl hroute
  have hexec : exec (rowFor h c) s = .next ((s.started h c).cmdRoute h c) := by
    obtain ⟨i, o, rfl⟩ | ⟨i, o, rfl⟩ | ⟨e, x, rfl⟩ | ⟨id, entries, rfl, hasm, hbegins⟩ := hroute
    · exact exec_of_accepts (by simp [opcodeOf]) ha
    · exact exec_of_accepts (by simp [opcodeOf]) ha
    · exact exec_of_accepts (by simp [opcodeOf]) ha
    · exact exec_stage_of_accepts rfl ha hasm hbegins
  refine ⟨fun hhalt hfull => ⟨_, hexec, ?_⟩, fun hhalt hfull => ⟨_, hexec, ?_⟩, fun hhalt hat => routeHalted_replies hs hat ha hexec hhalt⟩
  · rw [State.cmdRoute_incremental (s := s.started h c) hhalt hfull]
    rfl
  · rw [State.cmdRoute_full (s := s.started h c) hhalt hfull]
    rfl

/-! ### Posting -/

/-- With no plane late there is no fault of R57. -/
@[simp] theorem State.timeouts_nil (s : State) (r : RouteReq) : s.timeouts r [] = s := rfl
@[simp] theorem State.noteRouteMargins_nil (s : State) (full : Bool) : s.noteRouteMargins full [] = s := rfl

/-- A plane in service that is not late has posted. -/
theorem State.allLate_nil {s : State} (hup : s.planesUp ≠ []) : s.allLate [] = false := by
  simpa [State.allLate] using List.exists_mem_of_ne_nil _ hup

/-- Where no commit waits, the trial of the waiting commits shows only that none does. -/
theorem State.tryAll_same_of_no_commits {s : State} (hc : s.com.commits = []) : Same (partMask [.shared]) s s.tryAll := by
  have hunfixed : s.unfixed = [] := by simp [State.unfixed, hc, sortBy]
  unfold State.tryAll
  rw [hunfixed]
  exact State.over_same (fun _ _ h => State.wr_same (State.wr_same h (by decide)) (by decide)) (State.wr_same same_refl (by decide))

/-- A posted result joins the pending configuration, and its answer leaves the engine and the commits. -/
theorem State.postResult_posted_same {s : State} {r : RouteReq} {at_ moved : Nat} {it : PItem} (hflags : r.flags = 0) :
    Same (partMask [.shared, .links, .sched, .faults, .free])
      { s with route := { s.route with items := s.route.items ++ [{ it with posted := at_ }] } } (s.postResult r at_ (.posted it moved)) := by
  have hcommit : ¬r.flags.testBit 6 = true := by simp [hflags]
  simp only [State.postResult, State.post, if_neg hcommit]
  exact State.answerRoute_same same_refl (by decide)

section
variable {s : State} {r : RouteReq}

theorem State.tryAll_route (hc : s.com.commits = []) : s.tryAll.route = s.route := State.tryAll_same_of_no_commits hc .route (by decide)

theorem State.tryAll_postResult_posted {at_ moved : Nat} {it : PItem} (hc : s.com.commits = []) (hflags : r.flags = 0) :
    (s.postResult r at_ (.posted it moved)).tryAll.route = { s.route with items := s.route.items ++ [{ it with posted := at_ }] } := by
  have hsame := State.postResult_posted_same (s := s) (at_ := at_) (moved := moved) (it := it) hflags
  have hcom : (s.postResult r at_ (.posted it moved)).com = s.com := hsame .com (by decide)
  rw [State.tryAll_route (by rw [hcom]; exact hc)]
  exact hsame .route (by decide)

theorem State.tryAll_postResult_deferred {at_ : Nat} (hc : s.com.commits = []) :
    (s.postResult r at_ .deferred).tryAll.route = { s.route with deferred := s.route.deferred ++ [r] } :=
  State.tryAll_route (s := s.postResult r at_ .deferred) hc

/-- One request that began at the latest point, no plane late: its result posts 112 FCLK after the point. -/
theorem State.incrementalPost_of_one (hbegun : s.route.begun = [r]) (hup : s.planesUp ≠ []) :
    s.incrementalPost [] [] =
      (({ s with route := { s.route with begun := [] } } : State).postResult r (s.now * 128 + 112)
        (({ s with route := { s.route with begun := [] } } : State).runRequest r false)).tryAll := by
  have hlate : ({ s with route := { s.route with begun := [] } } : State).allLate [] = false := State.allLate_nil hup
  simp only [State.incrementalPost, hbegun, State.noteRouteMargins_nil, State.setRoute, State.over, List.foldl_cons, List.foldl_nil,
    List.filter_nil, List.map_nil, State.timeouts_nil, hlate]
  rfl

theorem State.incrementalPost_of_none (hbegun : s.route.begun = []) : s.incrementalPost [] [] = s := by
  simp [State.incrementalPost, hbegun]

/-- The full routing that runs, no plane late: its result posts 1,600 FCLK after its start. -/
theorem State.fullPost_of_due (hfull : s.route.full = some r) (hdue : s.route.fullSince + 12 ≤ s.now) (hup : s.planesUp ≠ []) :
    s.fullPost [] [] =
      (({ s with route := { s.route with full := none } } : State).postResult r (s.route.fullSince * 128 + 1600)
        (({ s with route := { s.route with full := none } } : State).runRequest r true)).tryAll := by
  have hlate : ({ s with route := { s.route with full := none } } : State).allLate [] = false := State.allLate_nil hup
  simp only [State.fullPost, hfull, if_neg (Nat.not_lt.2 hdue), State.noteRouteMargins_nil, State.setRoute, State.timeouts_nil, hlate]
  rfl

theorem State.fullPost_of_early (hearly : s.now < s.route.fullSince + 12) : s.fullPost [] [] = s := by
  unfold State.fullPost
  split
  · rfl
  · exact if_pos hearly

/-- The first deferred request starts its full routing at a later point than its own, once requests may begin again. -/
theorem State.deferredStart_of_due {rest : List RouteReq} (hdeferred : s.route.deferred = r :: rest) (hfull : s.route.full = none)
    (hfree : s.route.freeAt ≤ s.now) (hlater : r.since < s.now) :
    s.deferredStart = { s with route := { s.route with full := some r, fullSince := s.now, freeAt := s.now + 13, deferred := rest } } := by
  have hdue : ¬(s.route.full.isSome || s.now < s.route.freeAt || s.now ≤ r.since) = true := by simp [hfull, hfree, hlater]
  simp only [State.deferredStart, hdeferred]
  exact if_neg hdue

end

/-- Settles O28. The results are those of the state at the posting (log entry 17), and a full routing's points are those of log entry 16. -/
theorem routeRequestsPost : Obligations.RouteRequestsPost := by
  unfold Obligations.RouteRequestsPost
  intro s r _ hc hup hflags
  refine ⟨fun it moved hbegun hrun => ⟨_, exec_incrementalPost _ _ s, ?_⟩, fun hbegun hrun => ⟨_, exec_incrementalPost _ _ s, ?_⟩,
    fun hbegun => ?_, fun it moved hfull hdue hrun => ⟨_, exec_fullRoutingPost _ _ s, ?_⟩, fun hearly => ?_,
    fun rest hdeferred hfull hfree hlater => ?_⟩
  · rw [State.incrementalPost_of_one hbegun hup, hrun]
    exact State.tryAll_postResult_posted hc hflags
  · rw [State.incrementalPost_of_one hbegun hup, hrun]
    exact State.tryAll_postResult_deferred hc
  · rw [exec_incrementalPost, State.incrementalPost_of_none hbegun]
  · rw [State.fullPost_of_due hfull hdue hup, hrun]
    exact State.tryAll_postResult_posted hc hflags
  · rw [exec_fullRoutingPost, State.fullPost_of_early hearly]
  · rw [exec_deferredRoutingStart, State.deferredStart_of_due hdeferred hfull hfree hlater]

end Sys2Proof.Machine
end

section
/-! TESTS. States that meet the hypotheses of the statements about the route engine, and what they say of them. -/

namespace Sys2Proof.Machine

open Sys2Proof

theorem Yields.imp {i : Instr} {s : State} {P Q : State → Prop} (hy : Yields i s P) (hPQ : ∀ t, P t → Q t) : Yields i s Q := by
  obtain ⟨t, he, hP⟩ := hy
  exact ⟨t, he, hPQ t hP⟩

/-- A running block with its route engines powered and a fabric of 4 lines, of which two are connected so that 1 to 3 has no path unless 2 to 2 moves. -/
def routingBlock : State :=
  { (runningBlock.powerDomain 85 true).powerDomain 86 true with
    clk := { frame := 1, point := 0, next := 1 }
    fabric := { topology := 1, n := 2, cellCount := 6 }
    route := { committed := [⟨0, 0, 30, 0⟩, ⟨2, 2, 30, 1⟩], crossed := [1, 5] } }

theorem routingBlock_sound : routingBlock.sound = true := by decide

/-- A STAGE of five connections. -/
def fiveEntries : Cmd := .stage 0 0 1 [(0, 0), (1, 1), (2, 2), (3, 3), (4, 4)]

/-- The block with its engines halted. -/
def haltedBlock : State := routingBlock.wrB R.RT_CTRL_HALT 1

/-- The owner's request for one connection, begun at the block's latest admission point. -/
def routingRequest (inp out : Nat) : RouteReq := routingBlock.routeReq (ownerHead 1) (.connect inp out)

/-- A CONNECT begins among the incremental requests. -/
theorem routingBlock_connect : Yields (.connect (ownerHead 1) 3 3) routingBlock fun t => t.route.begun = [routingRequest 3 3] := by
  obtain ⟨incremental, -⟩ := routeCommandsBegin routingBlock (ownerHead 1) (.connect 3 3) _ routingBlock_sound (by decide +kernel) rfl
    (.inl ⟨3, 3, rfl⟩)
  refine (incremental (by decide +kernel) (by decide +kernel)).imp fun t ht => ?_
  rw [ht]
  rfl

/-- A STAGE of five entries begins as a full routing. -/
theorem routingBlock_stage : Yields (rowFor (ownerHead 1) fiveEntries) routingBlock fun t =>
    t.route.full = some (routingBlock.routeReq (ownerHead 1) fiveEntries) ∧ t.route.fullSince = 64 ∧ t.route.freeAt = 77 := by
  obtain ⟨-, full, -⟩ := routeCommandsBegin routingBlock (ownerHead 1) fiveEntries _ routingBlock_sound (by decide +kernel) rfl
    (.inr (.inr (.inr ⟨0, _, rfl, by decide +kernel, by decide +kernel⟩)))
  refine (full (by decide +kernel) (by decide +kernel)).imp fun t ht => ?_
  rw [ht]
  exact ⟨rfl, rfl, rfl⟩

theorem haltedBlock_connect :
    Replies (.connect (ownerHead 1) 3 3) (ownerHead 1) 0x10 Code.routeHalted [0, 0, 0, 0] haltedBlock fun t => t.route = routingBlock.route := by
  obtain ⟨-, -, halted⟩ := routeCommandsBegin haltedBlock (ownerHead 1) (.connect 3 3) _ (by decide +kernel) (by decide +kernel) rfl
    (.inl ⟨3, 3, rfl⟩)
  exact halted (by decide +kernel) (by decide +kernel)

/-- The block where the requests given began at the latest point. -/
def begunBlock (l : List RouteReq) : State := routingBlock.setRoute fun x => { x with begun := l }

/-- The block where the full routing of 1 to 3 began at the point given. -/
def fullBlock (since : Nat) : State := routingBlock.setRoute fun x => { x with full := some (routingRequest 1 3), fullSince := since }

/-- The block with a request that was deferred at point 63, where requests begin again at point 64. -/
def deferredBlock : State :=
  routingBlock.setRoute fun x => { x with deferred := [{ routingRequest 1 3 with since := 63 }], freeAt := 64 }

/-- 3 to 3 has a path: it posts 112 FCLK after its point. -/
theorem begunBlock_posts : Yields (.incrementalPost [] []) (begunBlock [routingRequest 3 3]) fun t => t.route.begun = [] ∧
    t.route.items = [{ principal := 30, cseq := 1, adds := [⟨3, 3, 30, 1⟩], sets := [(1, 1), (2, 0), (5, 1)], posted := 8304 }] := by
  obtain ⟨posts, -⟩ := routeRequestsPost (begunBlock [routingRequest 3 3]) (routingRequest 3 3) (by decide) rfl (by decide) rfl
  refine (posts { principal := 30, cseq := 1, adds := [⟨3, 3, 30, 1⟩], sets := [(1, 1), (2, 0), (5, 1)] } 0 rfl (by decide +kernel)).imp
    fun t ht => ?_
  rw [ht]
  exact ⟨rfl, rfl⟩

/-- 1 to 3 has none: it is deferred. -/
theorem begunBlock_defers : Yields (.incrementalPost [] []) (begunBlock [routingRequest 1 3]) fun t =>
    t.route.begun = [] ∧ t.route.items = [] ∧ t.route.deferred = [routingRequest 1 3] := by
  obtain ⟨-, defers, -⟩ := routeRequestsPost (begunBlock [routingRequest 1 3]) (routingRequest 1 3) (by decide) rfl (by decide) rfl
  refine (defers rfl (by decide +kernel)).imp fun t ht => ?_
  rw [ht]
  exact ⟨rfl, rfl, rfl⟩

theorem routingBlock_posts_none : exec (.incrementalPost [] []) routingBlock = .next routingBlock := by
  obtain ⟨-, -, none_, -⟩ := routeRequestsPost routingBlock (routingRequest 1 3) routingBlock_sound rfl (by decide) rfl
  exact none_ rfl

/-- The full routing of 1 to 3 moves 2 to 2, and posts at the twelfth point after its start. -/
theorem fullBlock_posts : Yields (.fullRoutingPost [] []) (fullBlock 52) fun t => t.route.full = none ∧
    t.route.items = [{ principal := 30, cseq := 1, adds := [⟨1, 3, 30, 0⟩], moves := [⟨2, 2, 30, 0⟩]
                       sets := [(0, 0), (3, 1), (5, 0), (1, 0), (2, 0)], posted := 8256 }] := by
  obtain ⟨-, -, -, posts, -⟩ := routeRequestsPost (fullBlock 52) (routingRequest 1 3) (by decide) rfl (by decide) rfl
  refine (posts { principal := 30, cseq := 1, adds := [⟨1, 3, 30, 0⟩], moves := [⟨2, 2, 30, 0⟩]
                  sets := [(0, 0), (3, 1), (5, 0), (1, 0), (2, 0)] } 1 rfl (by decide) (by decide +kernel)).imp fun t ht => ?_
  rw [ht]
  exact ⟨rfl, rfl⟩

/-- The eleventh point after its start is too early. -/
theorem fullBlock_waits : exec (.fullRoutingPost [] []) (fullBlock 53) = .next (fullBlock 53) := by
  obtain ⟨-, -, -, -, waits, -⟩ := routeRequestsPost (fullBlock 53) (routingRequest 1 3) (by decide) rfl (by decide) rfl
  exact waits (by decide)

theorem deferredBlock_starts : Yields .deferredRoutingStart deferredBlock fun t =>
    t.route.full = some { routingRequest 1 3 with since := 63 } ∧ t.route.fullSince = 64 ∧ t.route.freeAt = 77 ∧ t.route.deferred = [] := by
  obtain ⟨-, -, -, -, -, starts⟩ := routeRequestsPost deferredBlock { routingRequest 1 3 with since := 63 } (by decide) rfl (by decide) rfl
  exact ⟨_, starts [] rfl rfl (by decide) (by decide), rfl, rfl, rfl, rfl⟩

end Sys2Proof.Machine
end

section
/-! SUPPORT. The tokens of a FABRIC commit: the master stores a READY, GO and ABANDON decide the commit, a token that neither reaches in time is lost
(R97 to R99). -/

namespace Sys2Proof.Machine

open Sys2Proof

/-! ### An answer that stands for an earlier point -/

section
variable {s : State} {h : CmdHead}

/-- Where the sender's items are built at once, an answer for the point `r` ends the flight (not that of an accepted COMMIT) and completes the item. -/
theorem State.answerAt_of_atOnce (r opcode status : Nat) (body : List Nat) (ha : s.atOnce h = true) :
    s.answerAt r h opcode status body = (if opcode = 0x14 ∧ status = Code.ok then s else s.endFlight h.principal h.cseq).updPrin h.principal
      fun l => { l with completed := l.completed ++ [⟨opcode, status, h.cseq, r % 64, r / 64, body⟩] } := by
  have hs : ¬(s.isMode .sealed && isTenancy h.principal) = true := by
    rw [State.atOnce, Bool.not_eq_true'] at ha
    rw [ha]
    exact Bool.false_ne_true
  unfold State.answerAt
  by_cases hc : opcode = 0x14 ∧ status = Code.ok
  · simp only [if_pos hc]
    exact if_neg hs
  · simp only [if_neg hc]
    exact if_neg hs

theorem State.answerAt_same_of_atOnce {o : Nat} {b : State} {r opcode status : Nat} {body : List Nat} (hk : Same o b s) (ha : s.atOnce h = true)
    (ho : 40960 &&& o = 40960) : Same o b (s.answerAt r h opcode status body) := by
  rw [State.answerAt_of_atOnce _ _ _ _ ha]
  exact State.updPrin_same (ite_same hk (State.endFlight_same hk (mask_sub (by decide) ho))) (mask_sub (by decide) ho)

theorem State.answerAt_completed (r opcode status : Nat) (body : List Nat) (ha : s.atOnce h = true) (hp : pIdx h.principal < s.links.prin.length) :
    ((s.answerAt r h opcode status body).prin h.principal).completed =
      (s.prin h.principal).completed ++ [⟨opcode, status, h.cseq, r % 64, r / 64, body⟩] := by
  rw [State.answerAt_of_atOnce _ _ _ _ ha]
  split
  · rw [State.prin_updPrin _ hp]
  · rw [State.prin_updPrin (s := s.endFlight h.principal h.cseq) _ hp]
    rfl

end

theorem pIdx_of_isSender {p : Nat} (hp : isSender p = true) : pIdx p < 17 :=
  CmdHead.wf_pIdx (h := ⟨p, 0, 0⟩) (by simp [CmdHead.wf, isByte, hp])

/-! ### Accepting and refusing a COMMIT that waits -/

section
variable {s : State} {c : Commit}

theorem State.accept_com (s : State) (c : Commit) : (s.accept c).com = s.com :=
  State.accept_same (o := partMask [.shared, .links, .sched, .faults]) same_refl (by decide) .com (by decide)

theorem State.accept_completed (himplied : c.implied = false) (hat : s.atOnce c.head = true) (hp : pIdx c.principal < s.links.prin.length) :
    ((s.accept c).prin c.principal).completed =
      (s.prin c.principal).completed ++ [⟨0x14, Code.ok, c.cseq, c.since % 64, c.since / 64, acceptedBody c⟩] := by
  unfold State.accept
  rw [himplied]
  exact State.answerAt_completed (h := c.head) _ _ _ _ hat hp

/-- The refusal touches the commits, the route items that the commit held, the flights and the items of the sender, and nothing else. -/
theorem State.refuseCommit_same_of_atOnce (code : Nat) (hat : s.atOnce c.head = true) :
    Same (partMask [.route, .com, .links, .sched]) s (s.refuseCommit c code) := by
  have hdrop : Same (partMask [.route, .com, .links, .sched]) s ((s.dropCommit c.num).complete c.principal c.cseq) :=
    State.complete_same (State.dropCommit_same same_refl (by decide)) (by decide)
  unfold State.refuseCommit
  exact ite_same (hdrop.route_ (by decide)) (State.answerAt_same_of_atOnce (hdrop.route_ (by decide)) hat (by decide))

/-- A commit that stands alone goes when it is refused. -/
theorem State.refuseCommit_com (code : Nat) (hc : s.com.commits = [c]) :
    (s.refuseCommit c code).com = { s.com with commits := [] } := by
  have hdrop : ((s.dropCommit c.num).complete c.principal c.cseq).com = { s.com with commits := [] } := by
    simp [State.complete, State.dropCommit, hc]
  rw [← hdrop]
  unfold State.refuseCommit
  simp only
  split
  · rfl
  · exact State.answerAt_same (o := partMask [.shared, .links, .sched, .faults]) same_refl (by decide) .com (by decide)

theorem State.refuseCommit_completed (code : Nat) (himplied : c.implied = false) (hat : s.atOnce c.head = true)
    (hp : pIdx c.principal < s.links.prin.length) :
    ((s.refuseCommit c code).prin c.principal).completed =
      (s.prin c.principal).completed ++ [⟨0x14, code, c.cseq, c.since % 64, c.since / 64, []⟩] := by
  unfold State.refuseCommit
  rw [himplied]
  exact State.answerAt_completed (h := c.head) _ _ _ _ hat hp

end

/-! ### GO, ABANDON, TOKEN_LOST -/

section
variable {s : State} {p number : Nat} {k : Token} {c : Commit}

/-- The state without the one open token of the principal. -/
def State.tokenTaken (s : State) : State := ({ s with com := { s.com with tokens := [] } } : State).showTokens

/-- The commit as GO for frame `f` fixes it. -/
def Commit.fixedFor (c : Commit) (f : Nat) : Commit := { c with phase := .fixed, sFrame := f, sChip := 0, bsFrame := f }

theorem State.tokenTaken_com (s : State) : s.tokenTaken.com = { s.com with tokens := [] } := rfl

theorem State.goArrives_of_early {f : Nat} (htok : s.com.tokens = [k]) (hp : k.principal = p) (hn : k.number = number)
    (hc : s.com.commits = [c]) (hnum : c.num = k.commit) (hf : s.clk.frame + 1 < f) :
    s.goArrives p number f = (s.tokenTaken.updCommit c.num (·.fixedFor f)).accept (c.fixedFor f) := by
  have hfind : ((s.tokenTaken.updCommit c.num (·.fixedFor f)).com.commits.find? (·.num == c.num)) = some (c.fixedFor f) := by
    simp [State.updCommit, State.tokenTaken_com, hc, Commit.fixedFor]
  have htaken : (s.com.tokens.filter fun x => !(x.principal == p && x.number == number)) = [] := by simp [htok, hp, hn]
  have hopen : (s.com.tokens.find? fun x => x.principal == p && x.number == number) = some k := by simp [htok, hp, hn]
  simp only [State.goArrives, hopen, htaken, if_pos hf, ← hnum]
  show (match (s.tokenTaken.updCommit c.num (·.fixedFor f)).com.commits.find? (·.num == c.num) with
    | some d => State.accept _ d
    | none => _) = _
  rw [hfind]
  rfl

/-- A GO at or after boundary f − 1 is as none (R99). -/
theorem State.goArrives_of_late {f : Nat} (hf : f ≤ s.clk.frame + 1) : s.goArrives p number f = s := by
  unfold State.goArrives
  split
  · rfl
  · exact if_neg (Nat.not_lt.2 hf)

theorem State.abandonArrives_of_open (htok : s.com.tokens = [k]) (hp : k.principal = p) (hn : k.number = number)
    (hc : s.com.commits = [c]) (hnum : c.num = k.commit) : s.abandonArrives p number = s.tokenTaken.refuseCommit c Code.commitLate := by
  have htaken : (s.com.tokens.filter fun x => !(x.principal == p && x.number == number)) = [] := by simp [htok, hp, hn]
  have hopen : (s.com.tokens.find? fun x => x.principal == p && x.number == number) = some k := by simp [htok, hp, hn]
  have hfind : s.com.commits.find? (·.num == k.commit) = some c := by simp [hc, hnum]
  simp only [State.abandonArrives, hopen, htaken, hfind]
  rfl

theorem State.tokenLost_of_due (htok : s.com.tokens = [k]) (hc : s.com.commits = [c]) (hnum : c.num = k.commit)
    (hdue : k.readyFrame + max 1 (s.rd R.AP_TOKEN_CTRL_TOKEN_TIMEOUT) ≤ s.clk.frame) :
    s.tokenLost = ((s.tokenTaken.bump R.AP_TOKEN_STATUS_LOST 1).raise { cls := 3, inst := 0, kind := 2 }).refuseCommit c Code.tokenLost := by
  have hlost : (s.com.tokens.filter fun x => x.readyFrame + max 1 (s.rd R.AP_TOKEN_CTRL_TOKEN_TIMEOUT) ≤ s.clk.frame) = [k] := by
    simp [htok, hdue]
  have htaken : (s.com.tokens.filter fun x => !decide (x = k)) = [] := by simp [htok]
  have hfind : s.com.commits.find? (·.num == k.commit) = some c := by simp [hc, hnum]
  simp only [State.tokenLost, hlost, State.over, List.foldl_cons, List.foldl_nil, htaken]
  show (match s.com.commits.find? (·.num == k.commit) with
    | some d => State.refuseCommit _ d Code.tokenLost
    | none => _) = _
  rw [hfind]
  rfl

theorem State.tokenLost_of_waiting (htok : s.com.tokens = [k])
    (hwait : s.clk.frame < k.readyFrame + max 1 (s.rd R.AP_TOKEN_CTRL_TOKEN_TIMEOUT)) : s.tokenLost = s := by
  have hlost : (s.com.tokens.filter fun x => x.readyFrame + max 1 (s.rd R.AP_TOKEN_CTRL_TOKEN_TIMEOUT) ≤ s.clk.frame) = [] := by
    simp [htok, hwait]
  simp only [State.tokenLost, hlost]
  rfl

end

/-! ### READY -/

/-- The master that holds one READY waits while another device of its mask is missing (R98). -/
theorem State.masterDecides_of_missing {s : State} {r : Ready} (hready : s.com.readies = [r])
    (hmissing : ∃ k, k < 16 ∧ k ≠ r.pos ∧ r.mask.testBit k = true) : s.masterDecides r.principal r.number = s := by
  have hmine : (s.com.readies.filter fun x => x.principal == r.principal && x.number == r.number) = [r] := by simp [hready]
  simp only [State.masterDecides, hmine]
  refine if_neg fun hall => ?_
  obtain ⟨k, hk, hne, hbit⟩ := hmissing
  have hheld := List.all_eq_true.1 hall.2 k (mem_onesBelow.2 ⟨hk, hbit⟩)
  exact hne.symm (by simpa using hheld)

theorem State.readyArrives_stored {s : State} {r : Ready} (hpos : s.chainPos = 0) (hnone : s.com.readies = [])
    (hmissing : ∃ k, k < 16 ∧ k ≠ r.pos ∧ r.mask.testBit k = true) :
    s.readyArrives r = { s with com := { s.com with readies := [r] } } := by
  unfold State.readyArrives
  rw [if_neg (not_not_intro hpos), if_neg (by simp [hnone]), hnone]
  exact State.masterDecides_of_missing rfl hmissing

theorem State.readyArrives_passed {s : State} {r : Ready} (hpos : s.chainPos ≠ 0) : s.readyArrives r = s := if_pos hpos

theorem State.ringMessage_heard {s : State} {f : State → State} (hclocked : s.clocked = true) (hring : s.ringUp = true) :
    s.ringMessage f = f s := by
  simp [State.ringMessage, hclocked, hring]

/-! ### The rows -/

section
variable {s : State} {p number : Nat} {k : Token} {c : Commit}

/-- GO for a frame that it reaches in time fixes the commit for it and accepts it. -/
theorem goRx_yields {f : Nat} (hs : s.sound = true) (hclocked : s.clocked = true) (hring : s.ringUp = true) (hsender : isSender p = true)
    (hnumber : number < 65536) (htok : s.com.tokens = [k]) (hp : k.principal = p) (hn : k.number = number) (hc : s.com.commits = [c])
    (hnum : c.num = k.commit) (himplied : c.implied = false) (hcp : c.principal = p) (hat : s.atOnce c.head = true) (hf : s.clk.frame + 1 < f) :
    Yields (.goRx p number f) s fun t => t.com = { s.com with tokens := [], commits := [c.fixedFor f] } ∧
      (t.prin p).completed = (s.prin p).completed ++ [⟨0x14, Code.ok, c.cseq, c.since % 64, c.since / 64, acceptedBody (c.fixedFor f)⟩] := by
  refine ⟨_, exec_goRx p number f s (by simp [Instr.wf, hsender, hnumber]), ?_⟩
  rw [State.ringMessage_heard hclocked hring, State.goArrives_of_early htok hp hn hc hnum hf]
  subst hcp
  have hlen : pIdx c.principal < s.links.prin.length := (State.sound_kept hs).prin ▸ pIdx_of_isSender hsender
  constructor
  · rw [State.accept_com]
    simp [State.updCommit, State.tokenTaken_com, hc]
  · exact State.accept_completed (s := s.tokenTaken.updCommit c.num (·.fixedFor f)) (c := c.fixedFor f) himplied hat hlen

/-- What a refusal leaves where the one open token went with it. -/
theorem State.refuseCommit_tokenTaken {u : State} {code : Nat} (hs : s.sound = true) (hc : s.com.commits = [c]) (himplied : c.implied = false)
    (hsender : isSender c.principal = true) (hat : s.atOnce c.head = true) (hu : Same (partMask [.shared, .faults]) s.tokenTaken u) :
    (u.refuseCommit c code).com = { s.com with tokens := [], commits := [] } ∧
      ((u.refuseCommit c code).prin c.principal).completed =
        (s.prin c.principal).completed ++ [⟨0x14, code, c.cseq, c.since % 64, c.since / 64, []⟩] ∧
      (u.refuseCommit c code).faults = u.faults := by
  have hcom : u.com = { s.com with tokens := [] } := hu .com (by decide)
  have hlinks : u.links = s.links := hu .links (by decide)
  have hmode : u.mode = s.mode := hu .mode (by decide)
  have hatu : u.atOnce c.head = true := by rw [State.atOnce, State.isMode, hmode]; exact hat
  have hlen : pIdx c.principal < u.links.prin.length := hlinks ▸ (State.sound_kept hs).prin ▸ pIdx_of_isSender hsender
  refine ⟨?_, ?_, State.refuseCommit_same_of_atOnce code hatu .faults (by decide)⟩
  · rw [State.refuseCommit_com code (by rw [hcom]; exact hc), hcom]
  · rw [State.refuseCommit_completed code himplied hatu hlen, State.prin, State.prin, hlinks]

end

/-- Settles O31. That the fault of TOKEN_LOST names unit 0, and that a device at another position than 0 leaves a READY as it is, is the reading of log
entry 24. -/
theorem tokensDecide : Obligations.TokensDecide := by
  unfold Obligations.TokensDecide
  intro s p number hs hclocked hring hsender hnumber
  refine ⟨fun mask pos named earliest slot fclk hwf => ⟨fun hpos => ?_, fun hpos hnone hmissing =>
      ⟨_, exec_readyRx _ _ _ _ _ _ _ _ s hwf, ?_⟩⟩,
    fun k c f htok hp hn hc hnum himplied hcp hat => ⟨fun hf => ?_, fun hf => ?_,
      ⟨_, exec_abandonRx p number s (by simp [Instr.wf, hsender, hnumber]), ?_⟩, fun hdue => ⟨_, exec_tokenLost s, ?_⟩, fun hwait => ?_⟩⟩
  · rw [exec_readyRx _ _ _ _ _ _ _ _ s hwf, State.ringMessage_heard hclocked hring, State.readyArrives_passed hpos]
  · rw [State.ringMessage_heard hclocked hring, State.readyArrives_stored hpos hnone hmissing]
  · obtain ⟨t, he, hcom, hitem⟩ := goRx_yields hs hclocked hring hsender hnumber htok hp hn hc hnum himplied hcp hat hf
    exact ⟨t, he, hcom, _, hitem, rfl, rfl, rfl⟩
  · rw [exec_goRx p number f s (by simp [Instr.wf, hsender, hnumber]), State.ringMessage_heard hclocked hring, State.goArrives_of_late hf]
  · rw [State.ringMessage_heard hclocked hring, State.abandonArrives_of_open htok hp hn hc hnum]
    subst hcp
    obtain ⟨hcom, hitem, -⟩ := State.refuseCommit_tokenTaken (code := Code.commitLate) hs hc himplied hsender hat same_refl
    exact ⟨hcom, _, hitem, rfl, rfl, rfl⟩
  · rw [State.tokenLost_of_due htok hc hnum hdue]
    subst hcp
    obtain ⟨hcom, hitem, hfaults⟩ := State.refuseCommit_tokenTaken (code := Code.tokenLost) hs hc himplied hsender hat
      (State.raise_same (State.bump_same same_refl (by decide)) (by decide))
    exact ⟨hcom, hfaults, _, hitem, rfl, rfl, rfl⟩
  · rw [exec_tokenLost, State.tokenLost_of_waiting htok hwait]

end Sys2Proof.Machine
end

section
/-! TESTS. A FABRIC commit of the owner that waits for GO, and what the statements about tokens say of it. -/

namespace Sys2Proof.Machine

open Sys2Proof

/-- The owner's COMMIT with token 7 for the devices 0 and 1. -/
def tokenCommit : Commit :=
  { num := 1, principal := 30, cseq := 5, opcode := 0x14, phase := .waitGo, kind := 0, chip := 0, frame := 0, token := some (7, 3), since := 512 }

/-- A running block with ring port 0 up, whose token has been open since frame 8; TOKEN_TIMEOUT is 100 frames. -/
def tokenBlock (frame : Nat) : State :=
  { runningBlock.wr (R.FT_RING_DELAY_LINK_DOWN 0) 0 with
    clk := { frame := frame, point := 0, next := 1 }
    com := { commits := [tokenCommit], tokens := [⟨30, 7, 3, 1, 8⟩] } }

/-- The block at position 1 of the ring. -/
def participantBlock : State := (tokenBlock 108).wr R.BT_STATUS_CHAIN_POS 1

/-- A READY of device 1. -/
def readyOfOne : Instr := .readyRx 30 7 3 1 0 112 16 100

theorem tokenBlock_ready : Yields readyOfOne (tokenBlock 108) fun t => t.com.readies = [⟨30, 7, 3, 1, 0, 112, 16, 108, 100⟩] := by
  obtain ⟨ready, -⟩ := tokensDecide (tokenBlock 108) 30 7 (by decide) (by decide) (by decide) (by decide) (by decide)
  refine ((ready 3 1 0 112 16 100 (by decide)).2 (by decide) rfl ⟨0, by decide⟩).imp fun t ht => ?_
  rw [ht]
  rfl

theorem participantBlock_ready : exec readyOfOne participantBlock = .next participantBlock := by
  obtain ⟨ready, -⟩ := tokensDecide participantBlock 30 7 (by decide) (by decide) (by decide) (by decide) (by decide)
  exact (ready 3 1 0 112 16 100 (by decide)).1 (by decide)

/-- In frame 108 GO for frame 110 is in time and GO for frame 109 is not; ABANDON refuses the commit; the timeout has passed. -/
theorem tokenBlock_decided :
    (Yields (.goRx 30 7 110) (tokenBlock 108) fun t => t.com.tokens = [] ∧ t.com.commits = [tokenCommit.fixedFor 110]) ∧
    exec (.goRx 30 7 109) (tokenBlock 108) = .next (tokenBlock 108) ∧
    (Yields (.abandonRx 30 7) (tokenBlock 108) fun t => t.com.tokens = [] ∧ t.com.commits = []) ∧
    Yields .tokenLost (tokenBlock 108) fun t => t.com.commits = [] ∧ t.faults.incoming = [{ cls := 3, inst := 0, kind := 2 }] := by
  obtain ⟨-, decided⟩ := tokensDecide (tokenBlock 108) 30 7 (by decide) (by decide) (by decide) (by decide) (by decide)
  obtain ⟨go, -, abandon, lost, -⟩ := decided _ tokenCommit 110 rfl rfl rfl rfl rfl rfl rfl (by decide)
  obtain ⟨-, late, -⟩ := decided _ tokenCommit 109 rfl rfl rfl rfl rfl rfl rfl (by decide)
  refine ⟨(go (by decide)).imp fun t ht => ?_, late (by decide), abandon.imp fun t ht => ?_, (lost (by decide)).imp fun t ht => ?_⟩
  · rw [ht.1]
    exact ⟨rfl, rfl⟩
  · rw [ht.1]
    exact ⟨rfl, rfl⟩
  · rw [ht.1, ht.2.1]
    exact ⟨rfl, rfl⟩

/-- The last frame before the timeout. -/
theorem tokenBlock_waits : exec .tokenLost (tokenBlock 107) = .next (tokenBlock 107) := by
  obtain ⟨-, decided⟩ := tokensDecide (tokenBlock 107) 30 7 (by decide) (by decide) (by decide) (by decide) (by decide)
  obtain ⟨-, -, -, -, waits⟩ := decided _ tokenCommit 0 rfl rfl rfl rfl rfl rfl rfl (by decide)
  exact waits (by decide)

end Sys2Proof.Machine
end

section
/-! SUPPORT. A COMMIT that finds nothing pending is fixed at once, for the earliest boundary, with an empty set (R74, R78, R81). -/

namespace Sys2Proof.Machine

open Sys2Proof

/-! ### The trial of the commits that wait -/

section
variable {s u : State} {c : Commit}

/-- Where no commit waits to be fixed, the trial shows only that none does. -/
theorem State.tryAll_same_of_unfixed_nil (hnone : s.unfixed = []) : Same (partMask [.shared]) s s.tryAll := by
  unfold State.tryAll
  rw [hnone]
  exact State.over_same (fun _ _ h => State.wr_same (State.wr_same h (by decide)) (by decide)) (State.wr_same same_refl (by decide))

/-- Where one commit waits and its trial ends its wait, the rest of the trial shows only that none waits. -/
theorem State.tryAll_same_of_unfixed_one (hone : s.unfixed = [c]) (hfix : s.tryFix [] c = (u, none)) : Same (partMask [.shared]) u s.tryAll := by
  unfold State.tryAll
  rw [hone, List.foldl_cons, List.foldl_nil]
  simp only [hfix]
  exact State.over_same (fun _ _ h => State.wr_same (State.wr_same h (by decide)) (by decide)) (State.wr_same same_refl (by decide))

theorem State.unfixed_of_one (hc : s.com.commits = [c]) (hphase : c.phase = .unfixed) : s.unfixed = [c] := by
  simp [State.unfixed, hc, hphase, sortBy, insertBy]

theorem State.fixedCommits_of_one (hc : s.com.commits = [c]) (hphase : c.phase = .unfixed) : s.fixedCommits = [] := by
  simp [State.fixedCommits, hc, hphase, Commit.waiting, sortBy]

end

/-! ### Nothing pending -/

/-- No route item waits for a commit, and no request is in the route engine. -/
structure State.NothingPending (s : State) : Prop where
  items : s.route.items = []
  begun : s.route.begun = []
  full : s.route.full = none
  deferred : s.route.deferred = []

/-- A map changes nothing against itself: no connection is made or removed. -/
theorem mapDiff_self (l : List Conn) : (mapDiff l l).1 = [] ∧ (mapDiff l l).2.1 = [] := by
  have hsame : (l.filter fun c => !l.any (samePair c)) = [] := by
    simp only [List.filter_eq_nil_iff, Bool.not_eq_true', Bool.not_eq_false, List.any_eq_true]
    exact fun c hc => ⟨c, hc, by simp [samePair]⟩
  exact ⟨hsame, hsame⟩

/-- The commit as the model fixes it now, with an empty set, for the earliest boundary. -/
def State.fixedAsap (s : State) (c : Commit) : Commit :=
  { c with phase := .fixed, fixedAt := s.fclk, sFrame := earliestFrame s.fclk, sChip := 0, bsFrame := earliestFrame s.fclk, cells := [], made := [],
           moved := (mapDiff s.baseMap s.baseMap).2.2, removed := [], hits := [], setpoints := [], dp := [] }

/-- The state that holds it. -/
def State.fixAsap (s : State) (c : Commit) : State := s.updCommit c.num fun _ => s.fixedAsap c

section
variable {s : State} {c : Commit}

theorem State.NothingPending.allPosted (hn : s.NothingPending) : s.allPosted c = true := by
  simp [State.allPosted, hn.begun, hn.full, hn.deferred]

theorem State.NothingPending.rearrangementBlocks (hn : s.NothingPending) : s.rearrangementBlocks c [] = false := by
  simp [State.rearrangementBlocks, hn.items]

/-- With no pending item and no fixed commit, every cell stands in its pending state. -/
theorem State.NothingPending.cellsToSwitch (hn : s.NothingPending) (hfixed : s.fixedCommits = []) : s.cellsToSwitch [] = [] := by
  have hpend : s.pendingCross = s.baseCross := by simp [State.pendingCross, State.baseCross, hn.items, hfixed]
  simp [State.cellsToSwitch, hpend]

theorem State.hitsOf_nil (old new : List Conn) : s.hitsOf old new [] = [] := by simp [State.hitsOf]

/-! A set that changes nothing moves no set-point, projects no step and is charged to no bucket. -/

theorem State.setpointsOf_nil (s : State) : s.setpointsOf [] [] [] = [] := rfl
theorem State.projection_nil (s : State) : s.projection [] = ([], []) := rfl
theorem State.charges_nil (s : State) (p : Nat) : s.charges p [] = [] := by simp [State.charges, sumOf]
theorem State.waitsOn_nil (s : State) (p : Nat) : s.waitsOn p [] = [] := ite_self _

theorem State.target_asap (t : Nat) (hkind : c.kind = 0) (hswift : s.mode ≠ .swift) (hsealed : s.mode ≠ .sealed) :
    s.target c t = some (earliestFrame t, 0, earliestFrame t) := by
  simp [State.target, hkind, State.isMode, hswift, hsealed]

theorem State.NothingPending.fixCommit (hn : s.NothingPending) (hfixed : s.fixedCommits = []) (htoken : c.token = none) :
    s.fixCommit c s.fclk (earliestFrame s.fclk, 0, earliestFrame s.fclk) [] =
      (s.fixAsap c).accept (s.fixedAsap c) := by
  obtain ⟨hmade, hremoved⟩ := mapDiff_self s.baseMap
  have hitems : ({ s with route := { s.route with items := [] } } : State) = s := by rw [← hn.items]
  simp only [State.fixCommit, List.foldl_nil, hmade, hremoved, hn.cellsToSwitch hfixed, State.hitsOf_nil, htoken, State.setpointsOf_nil,
    State.projection_nil, State.charges_nil, State.over, List.foldl_nil, hn.items, List.map_nil, hitems, State.fixAsap, State.fixedAsap]
  rfl

/-- The trial of a commit without a named target fixes it. -/
theorem State.NothingPending.tryFix (hn : s.NothingPending) (hfixed : s.fixedCommits = []) (hkind : c.kind = 0) (htoken : c.token = none)
    (hswift : s.mode ≠ .swift) (hsealed : s.mode ≠ .sealed) :
    s.tryFix [] c = ((s.fixAsap c).accept (s.fixedAsap c), none) := by
  obtain ⟨hmade, hremoved⟩ := mapDiff_self s.baseMap
  have hinstant : s.fixInstant [] = s.fclk := Nat.max_zero _
  have hwaits : ¬(!s.allPosted c || s.rearrangementBlocks c []) = true := by simp [hn.allPosted, hn.rearrangementBlocks]
  simp only [State.tryFix, hn.items, List.filter_nil, if_neg hwaits, hinstant, State.target_asap s.fclk hkind hswift hsealed, List.foldl_nil, hmade,
    hremoved, hn.cellsToSwitch hfixed, State.setpointsOf_nil, State.projection_nil, State.charges_nil, State.waitsOn_nil, hn.fixCommit hfixed htoken]
  rfl

/-- What the trial leaves where the commit stands alone: it is fixed for the earliest boundary, and accepted. -/
theorem State.NothingPending.tryAll (hn : s.NothingPending) (hc : s.com.commits = [c]) (hphase : c.phase = .unfixed) (hkind : c.kind = 0)
    (htoken : c.token = none) (hswift : s.mode ≠ .swift) (hsealed : s.mode ≠ .sealed) :
    Same (partMask [.shared]) ((s.fixAsap c).accept (s.fixedAsap c)) s.tryAll :=
  State.tryAll_same_of_unfixed_one (State.unfixed_of_one hc hphase)
    (hn.tryFix (State.fixedCommits_of_one hc hphase) hkind htoken hswift hsealed)

theorem State.NothingPending.tryAll_com (hn : s.NothingPending) (hc : s.com.commits = [c]) (hphase : c.phase = .unfixed) (hkind : c.kind = 0)
    (htoken : c.token = none) (hswift : s.mode ≠ .swift) (hsealed : s.mode ≠ .sealed) :
    s.tryAll.com = { s.com with commits := [s.fixedAsap c] } := by
  rw [(hn.tryAll hc hphase hkind htoken hswift hsealed .com (by decide) : s.tryAll.com = _), State.accept_com]
  simp [State.fixAsap, State.updCommit, hc]

end

end Sys2Proof.Machine
end

section
/-! SUPPORT. COMMIT, ABORT, FENCE: the commands of a stream (R74, R77, R78 to R81, R97, R100). -/

namespace Sys2Proof.Machine

open Sys2Proof

section
variable {s u v : State} {h : CmdHead}

/-- An accepted command replies where its effect passes through an answer, for its own point and on its own stream, in a state `u` that has left the
mode and the lists of items, and ends in a state `v` that leaves the lists as the answer did. -/
theorem replies_of_answerAt {h' : CmdHead} {c : Cmd} {opcode code : Nat} {body : List Nat} {P : State → Prop} (hs : s.sound = true)
    (hat : s.atOnce h = true) (ha : s.accepts h c = true) (hrun : (s.started h c).runCmd h c = v) (hprincipal : h'.principal = h.principal)
    (hcseq : h'.cseq = h.cseq) (hlinks : u.links = (s.started h c).links) (hmode : u.mode = s.mode)
    (hend : v.links = (u.answerAt s.now h' opcode code body).links) (hP : P v) (hop : opcodeOf c ≠ 0x12 := by simp [opcodeOf]) :
    Replies (rowFor h c) h opcode code body s P := by
  have hlen : pIdx h.principal < s.links.prin.length := (State.sound_kept hs).prin ▸ CmdHead.wf_pIdx (State.accepts_wf ha)
  have hatu : u.atOnce h' = true := by rw [State.atOnce, State.isMode, hmode, hprincipal]; exact hat
  have hitem := State.answerAt_completed s.now opcode code body hatu (by rw [hprincipal, hlinks, State.started_prin_length]; exact hlen)
  refine ⟨v, by rw [exec_of_accepts hop ha, hrun], ?_, hP⟩
  rw [hprincipal, hcseq] at hitem
  rw [← State.started_completed c hlen]
  simp only [State.prin, hend, ← hlinks]
  exact hitem

/-! ### COMMIT -/

theorem State.cmdCommit_refused {kind chip token mask frame code : Nat}
    (hcode : s.commitRefusal h.principal kind chip token mask frame (h.flags.testBit 3) = code) (hne : code ≠ Code.ok) :
    s.cmdCommit h kind chip token mask frame = (s.answer h 0x14 code).complete h.principal h.cseq := by
  subst hcode
  exact if_neg hne

/-- With no commit to fix, the trial after a refusal leaves the items, and the refusal has left the commits. -/
theorem State.tryAll_of_refused {code : Nat} (hnone : s.unfixed = []) :
    (((s.answer h 0x14 code).complete h.principal h.cseq).tryAll.links = (s.answer h 0x14 code).links) ∧
      ((s.answer h 0x14 code).complete h.principal h.cseq).tryAll.com = s.com := by
  have hcom : ((s.answer h 0x14 code).complete h.principal h.cseq).com = s.com :=
    State.complete_same (o := partMask [.shared, .links, .sched, .faults]) (State.answer_same same_refl (by decide)) (by decide) .com (by decide)
  have htry := State.tryAll_same_of_unfixed_nil (s := (s.answer h 0x14 code).complete h.principal h.cseq)
    (by rw [State.unfixed, hcom]; exact hnone)
  exact ⟨htry .links (by decide), (htry .com (by decide)).trans hcom⟩

/-- A refused COMMIT is answered with its code, and leaves the commits. -/
theorem commit_refused {kind chip token mask frame : Nat} (hs : s.sound = true) (hat : s.atOnce h = true)
    (ha : s.accepts h (.commit kind chip token mask frame) = true) (hnone : s.unfixed = [])
    (hcode : s.commitRefusal h.principal kind chip token mask frame (h.flags.testBit 3) ≠ Code.ok) :
    Replies (.commit h kind chip token mask frame) h 0x14 (s.commitRefusal h.principal kind chip token mask frame (h.flags.testBit 3)) [] s
      fun t => t.com = s.com := by
  have hrefused := State.cmdCommit_refused (s := s.started h (.commit kind chip token mask frame)) rfl hcode
  have ⟨hlinks, hcom⟩ := State.tryAll_of_refused (s := s.started h (.commit kind chip token mask frame)) (h := h)
    (code := s.commitRefusal h.principal kind chip token mask frame (h.flags.testBit 3)) hnone
  exact replies_of_answerAt (c := .commit kind chip token mask frame) (h' := h) hs hat ha (congrArg State.tryAll hrefused) rfl rfl rfl rfl hlinks hcom

/-- The commit that a COMMIT without a named target and without flags begins. -/
def State.asapCommit (s : State) (h : CmdHead) (chip frame : Nat) : Commit :=
  { num := s.com.nextNum, principal := h.principal, cseq := h.cseq, opcode := 0x14, phase := .unfixed, kind := 0, chip := chip, frame := frame,
    since := s.now }

/-- The state in which that commit waits beside those already there. -/
def State.asapBegun (s : State) (h : CmdHead) (chip frame : Nat) : State :=
  { s with com := { s.com with nextNum := s.com.nextNum + 1, commits := s.com.commits ++ [s.asapCommit h chip frame] } }

/-- Where no tenancy is aligned, the owner's COMMIT takes no alignment moves. -/
theorem State.addAlignment_of_none (cseq : Nat) (hnone : s.route.aligned = []) : s.addAlignment cseq = (s, []) := by
  simp [State.addAlignment, hnone]

theorem State.cmdCommit_asap {chip token mask frame : Nat} (hcode : s.commitRefusal h.principal 0 chip token mask frame false = Code.ok)
    (hflags : h.flags = 0) (hnone : s.route.aligned = []) : s.cmdCommit h 0 chip token mask frame = s.asapBegun h chip frame := by
  have hcode' : s.commitRefusal h.principal 0 chip token mask frame (Nat.testBit 0 3) = Code.ok := by rw [Nat.zero_testBit]; exact hcode
  simp only [State.cmdCommit, hflags, if_pos hcode', State.beginCommit, State.addAlignment_of_none _ hnone, ite_self]
  rfl

/-- A COMMIT that finds nothing pending and no other commit is fixed and accepted for the earliest boundary. -/
theorem commit_fixed {chip token mask frame : Nat} (hs : s.sound = true) (hat : s.atOnce h = true)
    (ha : s.accepts h (.commit 0 chip token mask frame) = true) (hcode : s.commitRefusal h.principal 0 chip token mask frame false = Code.ok)
    (hflags : h.flags = 0) (hcommits : s.com.commits = []) (hn : s.NothingPending) (hnone : s.route.aligned = [])
    (hswift : s.mode ≠ .swift) (hsealed : s.mode ≠ .sealed) :
    Replies (.commit h 0 chip token mask frame) h 0x14 Code.ok
      (be 8 (earliestFrame s.fclk) ++ be 8 (earliestFrame s.fclk) ++ be 1 0 ++ be 1 0 ++ be 2 0 ++ be 4 0) s
      fun t => ∃ c, t.com.commits = [c] ∧ c.phase = .fixed ∧ c.sFrame = earliestFrame s.fclk ∧ c.bsFrame = earliestFrame s.fclk ∧
        c.sChip = 0 ∧ c.principal = h.principal ∧ c.cseq = h.cseq := by
  have hbegun := State.cmdCommit_asap (s := s.started h (.commit 0 chip token mask frame)) hcode hflags hnone
  have hpending : ((s.started h (.commit 0 chip token mask frame)).asapBegun h chip frame).NothingPending :=
    ⟨hn.items, hn.begun, hn.full, hn.deferred⟩
  have hone : ((s.started h (.commit 0 chip token mask frame)).asapBegun h chip frame).com.commits = [s.asapCommit h chip frame] := by
    show s.com.commits ++ _ = _
    rw [hcommits]
    rfl
  have htry := hpending.tryAll hone rfl rfl rfl hswift hsealed
  have hcom := hpending.tryAll_com hone rfl rfl rfl hswift hsealed
  exact replies_of_answerAt (c := .commit 0 chip token mask frame) (h' := ⟨h.principal, h.cseq, 0⟩)
    (u := ((s.started h (.commit 0 chip token mask frame)).asapBegun h chip frame).fixAsap (s.asapCommit h chip frame)) hs hat ha
    (congrArg State.tryAll hbegun) rfl rfl rfl rfl
    (htry .links (by decide)) ⟨_, congrArg CommitState.commits hcom, rfl, rfl, rfl, rfl, rfl, rfl⟩

/-! ### ABORT -/

/-- The pending items of a principal that no commit has taken. -/
def ownPending (p : Nat) (it : PItem) : Bool := it.principal == p && it.takenBy.isNone

/-- The state without those items. -/
def State.withoutPending (s : State) (p : Nat) : State := s.setRoute fun x => { x with items := x.items.filter fun it => !ownPending p it }

/-- An ABORT that names no commit and cancels none, where no rearrangement is among its sender's items, only takes these away. -/
theorem State.cmdAbort_plain (hflags : h.flags = 0) (hnone : (s.route.items.any fun it => ownPending h.principal it && it.rearranges) = false) :
    s.cmdAbort h 0 0 = ((s.withoutPending h.principal).answer h 0x15 Code.ok).complete h.principal h.cseq := by
  have hremoved : s.removeItems (ownPending h.principal) = s.withoutPending h.principal := by
    simp only [State.removeItems, hnone]
    rfl
  rw [← hremoved]
  simp only [State.cmdAbort, hflags, bne_self_eq_false, Bool.false_and, Nat.zero_testBit]
  rfl

theorem abort_replies (hs : s.sound = true) (hat : s.atOnce h = true) (ha : s.accepts h (.abort 0 0) = true) (hflags : h.flags = 0)
    (hnone : (s.route.items.any fun it => ownPending h.principal it && it.rearranges) = false) :
    Replies (.abort h 0 0) h 0x15 Code.ok [] s fun t =>
      t.route = { s.route with items := s.route.items.filter fun it => !ownPending h.principal it } ∧ t.com = s.com := by
  have hsame : Same (partMask [.shared, .links, .sched, .faults]) ((s.started h (.abort 0 0)).withoutPending h.principal)
      ((((s.started h (.abort 0 0)).withoutPending h.principal).answer h 0x15 Code.ok).complete h.principal h.cseq) :=
    State.complete_same (State.answer_same same_refl (by decide)) (by decide)
  exact replies_of_answerAt (c := .abort 0 0) (h' := h) (u := (s.started h (.abort 0 0)).withoutPending h.principal) hs hat ha
    (State.cmdAbort_plain (s := s.started h (.abort 0 0)) hflags hnone) rfl rfl rfl rfl rfl ⟨hsame .route (by decide), hsame .com (by decide)⟩

/-! ### FENCE -/

@[simp] theorem State.pushItem_sched (s : State) (p : Nat) (readyAt : Option Nat) (it : Item) : (s.pushItem p readyAt it).sched = s.sched := by
  cases readyAt <;> rfl

/-- An answer ends a flight at most: the fences stay. -/
theorem State.answerAt_fences (s : State) (r : Nat) (h : CmdHead) (opcode status : Nat) (body : List Nat) :
    (s.answerAt r h opcode status body).sched.fences = s.sched.fences := by
  unfold State.answerAt
  extract_lets u it
  have hended : u.sched.fences = s.sched.fences := by
    show (ite _ _ _ : State).sched.fences = _
    split <;> rfl
  rw [← hended]
  split
  · split
    · split
      · rw [State.pushItem_sched]
      · exact congrArg Sched.fences (State.pushItem_sched _ _ _ _)
    · rw [State.pushItem_sched]
  · rw [State.pushItem_sched]

/-- The fences that are complete leave the list. -/
def State.fencesTaken (s : State) : State :=
  { s with sched := { s.sched with fences := s.sched.fences.filter fun f => !decide (f ∈ s.sched.fences.filter s.fenceDone) } }

theorem State.settleFences_eq (s : State) : s.settleFences =
    s.fencesTaken.over (s.sched.fences.filter s.fenceDone) fun s f => s.answerAt f.2.2 ⟨f.1, f.2.1, 0⟩ 0x03 Code.ok [] := rfl

/-- Answering them takes no other off the list. -/
theorem State.settleFences_fences (s : State) : s.settleFences.sched.fences = s.fencesTaken.sched.fences := by
  rw [State.settleFences_eq]
  exact List.foldlRecOn (motive := fun u : State => u.sched.fences = s.fencesTaken.sched.fences) _ _ rfl fun u hu f _ =>
    (State.answerAt_fences u _ _ _ _ _).trans hu

/-- A fence that is not complete stays on the list. -/
theorem State.mem_settleFences {f : Nat × Nat × Nat} (hf : f ∈ s.sched.fences) (hopen : s.fenceDone f = false) :
    f ∈ s.settleFences.sched.fences := by
  rw [State.settleFences_fences]
  simp [State.fencesTaken, hf, hopen]

/-- The state in which the FENCE is on the list. -/
def State.fenced (s : State) (h : CmdHead) : State := { s with sched := { s.sched with fences := s.sched.fences ++ [(h.principal, h.cseq, s.now)] } }

@[simp] theorem State.noteStream_sched (s : State) (h : CmdHead) (op : Nat) : (s.noteStream h op).sched = s.sched := rfl

/-- A FENCE is complete where nothing before it is incomplete; its own flight is not before it. -/
theorem State.fenceDone_fenced (s : State) (h : CmdHead) : ((s.started h .fence).fenced h).fenceDone (h.principal, h.cseq, s.now) =
    !(s.incomplete h.principal).any fun x => decide (x < h.cseq) := by
  simp [State.fenceDone, State.incomplete, State.fenced, State.started, State.setSched]

/-- A FENCE before which a command of its stream is incomplete waits. -/
theorem fence_waits (ha : s.accepts h .fence = true) (hearlier : ((s.incomplete h.principal).any fun x => decide (x < h.cseq)) = true) :
    Yields (.fence h) s fun t => (h.principal, h.cseq, s.now) ∈ t.sched.fences := by
  refine ⟨_, exec_of_accepts (c := .fence) (by simp [opcodeOf]) ha, ?_⟩
  show _ ∈ ((s.started h .fence).fenced h).settleFences.sched.fences
  exact State.mem_settleFences (List.mem_append_right _ (List.mem_singleton.2 rfl)) (by rw [State.fenceDone_fenced, hearlier]; rfl)

/-- A FENCE before which nothing is incomplete is answered at once. -/
theorem fence_replies (hs : s.sound = true) (hat : s.atOnce h = true) (ha : s.accepts h .fence = true)
    (hnone : ((s.incomplete h.principal).any fun x => decide (x < h.cseq)) = false) (hfences : s.sched.fences = []) :
    Replies (.fence h) h 0x03 Code.ok [] s fun t => t.sched.fences = [] := by
  have hone : ((s.started h .fence).fenced h).sched.fences = [(h.principal, h.cseq, s.now)] := by
    show s.sched.fences ++ _ = _
    rw [hfences]
    rfl
  have hcomplete : ((s.started h .fence).fenced h).fenceDone (h.principal, h.cseq, s.now) = true := by rw [State.fenceDone_fenced, hnone]; rfl
  have hdone : ((s.started h .fence).fenced h).sched.fences.filter ((s.started h .fence).fenced h).fenceDone = [(h.principal, h.cseq, s.now)] := by
    rw [hone, List.filter_singleton, hcomplete]
    rfl
  have htaken : ((s.started h .fence).fenced h).fencesTaken.sched.fences = [] := by simp [State.fencesTaken, hone, hcomplete]
  have hrun : (s.started h .fence).runCmd h .fence =
      ((s.started h .fence).fenced h).fencesTaken.answerAt s.now ⟨h.principal, h.cseq, 0⟩ 0x03 Code.ok [] := by
    show ((s.started h .fence).fenced h).settleFences = _
    rw [State.settleFences_eq, hdone]
    rfl
  exact replies_of_answerAt (c := .fence) (h' := ⟨h.principal, h.cseq, 0⟩) (u := ((s.started h .fence).fenced h).fencesTaken) hs hat ha hrun
    rfl rfl rfl rfl rfl (by rw [State.answerAt_fences, htaken])

end

/-- Settles O23. A COMMIT without a named target takes the earliest boundary whose close it meets and is accepted with it (R78, R81); the refusals are
those of R80, R97 and R103. -/
theorem streamCommands : Obligations.StreamCommands := by
  unfold Obligations.StreamCommands
  intro s h hs hat
  refine ⟨fun _ _ _ _ _ ha hnone hcode => commit_refused hs hat ha hnone hcode,
    fun _ _ _ _ F ha hcode hflags hcommits hitems haligned hbegun hfull hdeferred hswift hsealed hF => ?_,
    fun ha hflags hnone => abort_replies hs hat ha hflags hnone, fun ha hearlier => fence_waits ha hearlier,
    fun ha hnone hfences => fence_replies hs hat ha hnone hfences⟩
  subst hF
  exact commit_fixed hs hat ha hcode hflags hcommits ⟨hitems, hbegun, hfull, hdeferred⟩ haligned hswift hsealed

end Sys2Proof.Machine
end

section
/-! TESTS. The owner's COMMIT, ABORT, FENCE on a running block, and what the statement about stream commands says of them. -/

namespace Sys2Proof.Machine

open Sys2Proof

/-- A COMMIT of KIND 3 is refused. -/
theorem runningBlock_commit_refused :
    Replies (.commit (ownerHead 1) 3 0 0 0 0) (ownerHead 1) 0x14 Code.badArg [] runningBlock fun t => t.com = runningBlock.com := by
  obtain ⟨refused, -⟩ := streamCommands runningBlock (ownerHead 1) runningBlock_sound (by decide)
  exact refused 3 0 0 0 0 (by decide) rfl (by decide)

/-- At point 0 of frame 0 a COMMIT is fixed for frame 1. -/
theorem runningBlock_commit_fixed :
    Replies (.commit (ownerHead 1) 0 0 0 0 0) (ownerHead 1) 0x14 Code.ok
      [0, 0, 0, 0, 0, 0, 0, 1, 0, 0, 0, 0, 0, 0, 0, 1, 0, 0, 0, 0, 0, 0, 0, 0] runningBlock fun t => ∃ c, t.com.commits = [c] ∧ c.phase = .fixed ∧ c.sFrame = 1 := by
  obtain ⟨-, fixed, -⟩ := streamCommands runningBlock (ownerHead 1) runningBlock_sound (by decide)
  refine (fixed 0 0 0 0 1 (by decide) (by decide) rfl rfl rfl rfl rfl rfl rfl (by decide) (by decide) rfl).imp fun t ht => ?_
  obtain ⟨c, hone, hphase, hframe, -⟩ := ht
  exact ⟨c, hone, hphase, hframe⟩

/-- Three pending items: the owner's, one of the owner's that commit 4 has taken, and one of tenancy 2. -/
def itemsBlock : State :=
  runningBlock.setRoute fun x => { x with items :=
    [{ principal := 30, cseq := 0 }, { principal := 30, cseq := 0, takenBy := some 4 }, { principal := 2, cseq := 5 }] }

theorem itemsBlock_abort : Replies (.abort (ownerHead 1) 0 0) (ownerHead 1) 0x15 Code.ok [] itemsBlock fun t =>
    t.route.items = [{ principal := 30, cseq := 0, takenBy := some 4 }, { principal := 2, cseq := 5 }] := by
  obtain ⟨-, -, abort, -⟩ := streamCommands itemsBlock (ownerHead 1) (by decide) (by decide)
  refine (abort (by decide) rfl (by decide)).imp fun t ht => ?_
  rw [ht.1]
  rfl

/-- The block in which the owner's command 1 is in flight. -/
def flyingBlock : State :=
  runningBlock.setSched fun x => { x with flights := [{ principal := 30, cseq := 1, opcode := 0x31, objects := [] }] }

/-- FENCE 2 waits for it, FENCE 1 does not. -/
theorem flyingBlock_fences :
    (Yields (.fence (ownerHead 2)) flyingBlock fun t => (30, 2, 0) ∈ t.sched.fences) ∧
      Replies (.fence (ownerHead 1)) (ownerHead 1) 0x03 Code.ok [] flyingBlock fun t => t.sched.fences = [] := by
  obtain ⟨-, -, -, waits, -⟩ := streamCommands flyingBlock (ownerHead 2) (by decide) (by decide)
  obtain ⟨-, -, -, -, answered⟩ := streamCommands flyingBlock (ownerHead 1) (by decide) (by decide)
  exact ⟨waits (by decide) (by decide), answered (by decide) (by decide) rfl⟩

end Sys2Proof.Machine
end

section
/-! SUPPORT. The way of a fixed commit: it switches at S, late tiles take their selections, its last settled reference brings COMMIT_DONE (R82, R85,
R96). -/

namespace Sys2Proof.Machine

open Sys2Proof

/-! ### Fields of both planes' registers -/

section
variable {s : State}

theorem State.Regs.bumpB {f : FieldAt} {n : Nat} (h : s.Regs) : (s.bumpB f n).Regs := h.wrP.wrP

theorem State.rdP_wrB {f : FieldAt} (p : Plane) (v : Nat) (h : s.Regs) (h1 : f.hi < 32) (h2 : f.lo ≤ f.hi) :
    (s.wrB f v).rdP p f = v % 2 ^ (f.hi + 1 - f.lo) := by
  unfold State.wrB
  rw [State.rdP_wrP _ _ _ _ h.wrP h1 h2, State.rdP_wrP _ _ _ _ h h1 h2]
  cases p <;> simp

theorem State.rdP_wrB_addr {f g : FieldAt} (p : Plane) (v : Nat) (h : s.Regs) (ha : g.addr ≠ f.addr) : (s.wrB f v).rdP p g = s.rdP p g := by
  unfold State.wrB
  rw [State.rdP_wrP_addr _ _ _ _ _ h.wrP ha, State.rdP_wrP_addr _ _ _ _ _ h ha]

theorem State.rdP_bumpB_addr {f g : FieldAt} (p : Plane) (n : Nat) (h : s.Regs) (ha : g.addr ≠ f.addr) : (s.bumpB f n).rdP p g = s.rdP p g := by
  unfold State.bumpB
  rw [State.rdP_wrP_addr _ _ _ _ _ h.wrP ha, State.rdP_wrP_addr _ _ _ _ _ h ha]

theorem State.rdP_of_same {o : Nat} {b t : State} (p : Plane) (f : FieldAt) (hsame : Same o b t) (hA : o.testBit Part.privA.ix = false)
    (hB : o.testBit Part.privB.ix = false) : t.rdP p f = b.rdP p f := by
  have hfile : t.reg.file p = b.reg.file p := by
    cases p
    · exact hsame .privA hA
    · exact hsame .privB hB
  rw [State.rdP, State.rdP, State.wordP, State.wordP, hfile]

end

/-! ### COMMIT_SWITCH -/

section
variable {s : State} {c : Commit} {late : List Nat}

theorem State.Regs.over {α : Type} {l : List α} {f : State → α → State} (hf : ∀ s x, s.Regs → (f s x).Regs) (h : s.Regs) :
    (s.over l f).Regs :=
  List.foldlRecOn (motive := State.Regs) l f h fun u hu x _ => hf u x hu

/-- The alignment that a commit brings leaves the maps. -/
theorem State.alignCommit_route (s : State) (num : Nat) :
    (s.alignCommit num).route = { s.route with aligned := (s.alignCommit num).route.aligned } := by
  unfold State.alignCommit
  split
  · split <;> rfl
  · rfl

/-- The registers that a switch writes for its instant and its counts: the low word of its frame stands, whatever follows it. -/
theorem State.rdP_lastFrame {u : State} (h : u.Regs) (p : Plane) (frame hi chip switched late un trim : Nat) :
    (((((((u.wrB R.CM_LAST_LO_FRAME frame).wrB R.CM_LAST_HI_FRAME hi).wrB R.CM_STATUS_LAST_CHIP chip).wrB R.CM_STATUS_LAST_SWITCHED switched).bumpB
      R.CM_EVENTS_LATE late).bumpB R.CM_EVENTS_TRIM_SKIPPED un).wr R.LP_EXPRESS_TRIMMING trim).rdP p R.CM_LAST_LO_FRAME = frame % 2 ^ 32 := by
  rw [State.rdP_wr, State.rdP_bumpB_addr p un h.wrB.wrB.wrB.wrB.bumpB (by decide), State.rdP_bumpB_addr p late h.wrB.wrB.wrB.wrB (by decide),
    State.rdP_wrB_addr p switched h.wrB.wrB.wrB (by decide), State.rdP_wrB_addr p chip h.wrB.wrB (by decide),
    State.rdP_wrB_addr p hi h.wrB (by decide), State.rdP_wrB p frame h (by decide) (by decide)]
  rfl

theorem State.updCommit_one {num : Nat} {f : Commit → Commit} (hc : s.com.commits = [c]) (hnum : c.num = num) :
    (s.updCommit num f).com.commits = [f c] := by
  simp [State.updCommit, hc, hnum]

/-- Selections of drivers, those of late tiles left out, are writes of shared registers. -/
theorem State.over_select {α : Type} (l : List (Nat × α)) (st : State → Nat × α → Nat) (h : s.Regs) :
    let t := s.over l fun s x => match s.driverOf x.1 with
      | some phys => if phys / 128 ∈ late then s else s.select phys (st s x)
      | none => s
    Same (partMask [.shared]) s t ∧ t.Regs := by
  refine ⟨State.over_same (fun u x hu => ?_) same_refl, State.Regs.over (fun u x hu => ?_) h⟩
  · split
    · exact ite_same hu (State.select_same hu (by decide))
    · exact hu
  · split
    · split
      · exact hu
      · exact hu.wr
    · exact hu

/-- What a switch does to the maps, to its commit where that stands alone, and to the register of its instant. -/
theorem State.switchCommit_spec (h : s.Regs) (hc : s.com.commits = [c]) :
    (s.switchCommit late c).route.committed = sortBy (fun k => k.inp) ((s.itemsOf c.num).foldl applyItemMap s.route.committed) ∧
      (s.switchCommit late c).route.crossed = applySets s.route.crossed c.cells ∧
      (∃ d, (s.switchCommit late c).com.commits = [d] ∧ d.num = c.num ∧ d.phase = .switched) ∧
      ∀ p, (s.switchCommit late c).rdP p R.CM_LAST_LO_FRAME = c.sFrame % 2 ^ 32 := by
  unfold State.switchCommit
  extract_lets items old new lateTiles selected moves route mapped
  obtain ⟨hselected, hselectedRegs⟩ : Same (partMask [.shared]) s selected ∧ selected.Regs := State.over_select c.cells (fun _ x => x.2) h
  split
  next trim un _ =>
  extract_lets noted remapped remaps shown blank loop u lo hi chip switched lateCount skipped
  have hremapped : remapped.Regs := ⟨hselectedRegs.shared, hselectedRegs.privA, hselectedRegs.privB⟩
  obtain ⟨hshown, hshownRegs⟩ : Same (partMask [.shared]) remapped shown ∧ shown.Regs :=
    State.over_select remaps (fun s x => b01 (decide (x.1 ∈ s.route.crossed))) hremapped
  have hu : u.Regs := ⟨hshownRegs.shared, hshownRegs.privA, hshownRegs.privB⟩
  have hregisters : Same (partMask [.shared, .privA, .privB]) u (skipped.wr R.LP_EXPRESS_TRIMMING (skipped.rd R.LP_EXPRESS_TRIMMING + trim.length)) :=
    State.wr_same (State.bumpB_same (State.bumpB_same (State.wrB_same (State.wrB_same (State.wrB_same (State.wrB_same same_refl (by decide))
      (by decide)) (by decide)) (by decide)) (by decide)) (by decide)) (by decide)
  have hroute := (hregisters .route (by decide)).trans (hshown .route (by decide))
  have hcom := (hregisters .com (by decide)).trans (hshown .com (by decide))
  refine ⟨congrArg Route.committed hroute, (congrArg Route.crossed hroute).trans ?_, ?_, fun p => ?_⟩
  · exact congrArg (fun r : Route => applySets r.crossed c.cells) (hselected .route (by decide))
  · have hone : selected.com.commits = [c] := (congrArg CommitState.commits (hselected .com (by decide))).trans hc
    have hnoted := State.updCommit_one (s := mapped) (f := fun c => { c with
      phase := .switched, late := lateTiles, trimmed := trim, untrimmed := un, hits := mapped.hitsOf old new c.cells }) hone rfl
    rw [hcom]
    exact ⟨_, State.updCommit_one (s := noted) hnoted rfl, rfl, rfl⟩
  · exact State.rdP_lastFrame hu p c.sFrame (c.sFrame / 2 ^ 32) c.sChip c.cells.length lateTiles.length un _

theorem State.due_of_one {n : Nat} (hc : s.com.commits = [c]) (hphase : c.phase = .fixed) (hdue : c.sChips ≤ n) :
    ((sortBy (·.num) s.com.commits).filter fun c => decide (c.phase = .fixed) && decide (c.sChips ≤ n)) = [c] := by
  simp [hc, hphase, hdue, sortBy, insertBy]

/-- The switch of one due commit, with no difference between the planes. -/
theorem State.commitSwitch_of_due {chip : Nat} (hc : s.com.commits = [c]) (hphase : c.phase = .fixed)
    (hdue : c.sFrame * 16 + c.sChip ≤ s.clk.frame * 16 + chip) :
    s.commitSwitch chip late [] = (((s.switchCommit (if c.sChip = 0 ∧ c.sFrame = c.bsFrame then s.loop.overran else late) c).alignCommit
      c.num).countEmphasis s c.cells).bumpB R.CM_EVENTS_LATE 0 := by
  unfold State.commitSwitch
  rw [State.due_of_one hc hphase hdue]
  simp [State.over, State.when, dedup]

theorem State.commitSwitch_of_early {chip : Nat} {differ : List Nat} (hc : s.com.commits = [c])
    (hearly : s.clk.frame * 16 + chip < c.sFrame * 16 + c.sChip) : s.commitSwitch chip late differ = s := by
  have hnone : ((sortBy (·.num) s.com.commits).filter fun c => decide (c.phase = .fixed) && decide (c.sChips ≤ s.clk.frame * 16 + chip)) = [] := by
    simp [hc, sortBy, insertBy, Commit.sChips, Nat.not_le.2 hearly]
  unfold State.commitSwitch
  rw [hnone]
  rfl

/-- At S the maps are those of the commit's items, the commit has switched, and the registers name its instant. -/
theorem commitSwitch_yields {chip : Nat} (hs : s.sound = true) (hc : s.com.commits = [c]) (hchip : chip < 16) (hphase : c.phase = .fixed)
    (hdue : c.sFrame * 16 + c.sChip ≤ s.clk.frame * 16 + chip) : Yields (.commitSwitch chip [] []) s fun t =>
      t.route.committed = sortBy (fun k => k.inp) ((s.itemsOf c.num).foldl applyItemMap s.route.committed) ∧
      t.route.crossed = applySets s.route.crossed c.cells ∧ (∃ d, t.com.commits = [d] ∧ d.num = c.num ∧ d.phase = .switched) ∧
      (∀ p : Plane, t.rdP p R.CM_LAST_LO_FRAME = c.sFrame % 2 ^ 32) := by
  refine ⟨_, exec_commitSwitch chip [] [] s (by simp [Instr.wf, hchip]), ?_⟩
  rw [State.commitSwitch_of_due hc hphase hdue]
  generalize (if c.sChip = 0 ∧ c.sFrame = c.bsFrame then s.loop.overran else []) = late
  obtain ⟨hcommitted, hcrossed, ⟨d, hone, hnum, hswitched⟩, hframe⟩ := State.switchCommit_spec (late := late) (State.sound_regs hs) hc
  have hkept := State.countEmphasis_kept (before := s) (cells := c.cells)
    (State.alignCommit_kept (num := c.num) (State.switchCommit_kept (late := late) (c := c) (State.sound_kept hs)))
  have halign : Same (partMask [.route]) (s.switchCommit late c) ((s.switchCommit late c).alignCommit c.num) :=
    State.alignCommit_same same_refl (by decide)
  have hcount : Same (partMask [.shared]) ((s.switchCommit late c).alignCommit c.num)
    (((s.switchCommit late c).alignCommit c.num).countEmphasis s c.cells) := State.countEmphasis_same same_refl (by decide)
  have hroute := (hcount .route (by decide)).trans (State.alignCommit_route _ _)
  refine ⟨?_, ?_, ⟨d, ?_, hnum, hswitched⟩, fun p => ?_⟩
  · exact (congrArg Route.committed hroute).trans hcommitted
  · exact (congrArg Route.crossed hroute).trans hcrossed
  · exact (congrArg CommitState.commits ((hcount .com (by decide)).trans (halign .com (by decide)))).trans hone
  · rw [State.rdP_bumpB_addr p 0 hkept.regs (by decide), State.rdP_of_same p _ hcount (by decide) (by decide),
      State.rdP_of_same p _ halign (by decide) (by decide), hframe]

end

/-! ### LATE_TILE_APPLY -/

section
variable {s : State} {c : Commit}

theorem State.freeSelection_of_not_free (t : Nat) (hfree : s.pl.selFree = false) : s.freeSelection t = s := if_pos (by simp [hfree])

/-- A tile with which one chip commit was late shows the selection of its driver's cell. -/
theorem lateTileApply_yields {x st phys : Nat} (hs : s.sound = true) (hc : s.com.commits = [c]) (hcells : c.cells = [(x, st)])
    (hdriver : s.driverOf x = some phys) (hlate : c.late = [phys / 128]) (htile : phys / 128 < 80) (hchip : c.sChip ≠ 0)
    (hfree : s.pl.selFree = false) : Yields (.lateTileApply (phys / 128)) s fun t =>
      t.rd (R.TL_FD_CFG_SEL (phys / 128) (phys % 128)) = (if x ∈ s.route.crossed then 1 else 0) := by
  have hmine : (s.com.commits.filter fun d => decide (phys / 128 ∈ d.late) &&
      (d.sChip != 0 || d.sFrame != d.bsFrame || decide (d.sFrame < s.clk.frame))) = [c] := by
    simp [hc, hlate, hchip]
  have hselected : s.lateTileApply (phys / 128) = s.select phys (b01 (decide (x ∈ s.route.crossed))) := by
    unfold State.lateTileApply
    rw [hmine]
    simp only [State.over, List.foldl_cons, List.foldl_nil, hcells, hdriver, if_true]
    exact State.freeSelection_of_not_free (s := s.select phys _) _ hfree
  refine ⟨_, exec_lateTileApply (phys / 128) s (by simp [Instr.wf, isTile, htile]), ?_⟩
  rw [hselected]
  refine (State.rd_wr _ _ _ (State.sound_regs hs).shared (by simp [R.TL_FD_CFG_SEL]) (by simp [R.TL_FD_CFG_SEL])).trans ?_
  by_cases hx : x ∈ s.route.crossed
  · simp [hx, b01, R.TL_FD_CFG_SEL]
  · simp [hx, b01]

/-! ### COMMIT_DONE -/

theorem State.commitDone_of_settling (hc : s.com.commits = [c]) (hphase : c.phase = .settling) :
    s.commitDone = (s.commitDoneNotice c).dropCommit c.num := by
  simp [State.commitDone, State.over, hc, hphase]

theorem State.commitDone_of_not_settling (hc : s.com.commits = [c]) (hphase : c.phase ≠ .settling) : s.commitDone = s := by
  simp [State.commitDone, State.over, hc, hphase]

/-- The body of COMMIT_DONE where the commit made, moved and hit no connection: one part, without entries. -/
def Commit.emptyDoneBody (c : Commit) : List Nat :=
  be 8 c.sFrame ++ be 8 c.bsFrame ++ be 1 c.sChip ++ be 1 0 ++ be 1 1 ++ be 1 0 ++ be 2 c.cells.length ++ be 2 c.late.length ++
    be 2 c.untrimmed ++ be 2 0 ++ be 2 0 ++ be 2 0

theorem State.commitDoneNotice_empty (s : State) (hmade : c.made = []) (hmoved : c.moved = []) (hhits : c.hits = []) :
    s.commitDoneNotice c = s.notice c.principal 0x81 Code.ok c.cseq c.emptyDoneBody := by
  have hports : c.settlePorts = [] := by simp [Commit.settlePorts, hmade, hmoved, hhits, dedup]
  simp [State.commitDoneNotice, Commit.emptyDoneBody, hports, hmade, hmoved, b01, maxOf]

end

/-- Settles O30. That LAST is 1 on a notice of one part is the reading of log entry 21. -/
theorem commitsProceed : Obligations.CommitsProceed := by
  unfold Obligations.CommitsProceed
  intro s c hs hc
  refine ⟨fun hclocked hphase hkind htoken hitems hbegun hfull hdeferred hswift hsealed => ⟨_, exec_commitFix s, ?_⟩,
    fun chip hchip hphase hdue => commitSwitch_yields hs hc hchip hphase hdue, fun chip hchip hearly => ?_,
    fun x st phys _ hcells hdriver hlate htile hchip hfree => lateTileApply_yields hs hc hcells hdriver hlate htile hchip hfree,
    fun hphase hmade hmoved hhits hsender => ⟨_, exec_commitDone s, ?_⟩, fun hphase => ?_⟩
  · have hcom := State.NothingPending.tryAll_com ⟨hitems, hbegun, hfull, hdeferred⟩ hc hphase hkind htoken hswift hsealed
    rw [State.when, if_pos hclocked]
    exact ⟨_, congrArg CommitState.commits hcom, rfl, rfl, rfl, rfl, rfl⟩
  · rw [exec_commitSwitch chip [] [] s (by simp [Instr.wf, hchip]), State.commitSwitch_of_early hc hearly]
  · have hlen : pIdx c.principal < s.links.prin.length := (State.sound_kept hs).prin ▸ pIdx_of_isSender hsender
    rw [State.commitDone_of_settling hc hphase, State.commitDoneNotice_empty s hmade hmoved hhits]
    constructor
    · simp [State.dropCommit, State.notice, hc]
    · exact congrArg PrinLink.notices (State.prin_updPrin _ hlen)
  · rw [exec_commitDone, State.commitDone_of_not_settling hc hphase]

end Sys2Proof.Machine
end

section
/-! TESTS. One commit of the owner on its way, on a fabric of 4 lines, and what the statement about commits says of it. -/

namespace Sys2Proof.Machine

open Sys2Proof

/-- The owner's commit of the connection 1 to 3, which moves 2 to 2: it switches at frame 2, or at a chip of it. -/
def ownerCommit (phase : CommitPhase) (chip : Nat) : Commit :=
  { num := 1, principal := 30, cseq := 7, opcode := 0x14, phase := phase, kind := 0, chip := chip, frame := 0, sFrame := 2,
    sChip := chip, bsFrame := 2 }

/-- The routing block with a commit and its pending items, at a frame. -/
def committingBlock (frame : Nat) (c : Commit) (items : List PItem) : State :=
  { routingBlock with
    clk := { frame := frame, point := 0, next := 1 }
    route := { routingBlock.route with items := items }
    com := { commits := [c] } }

theorem committingBlock_fix : Yields .commitFix (committingBlock 1 (ownerCommit .unfixed 0) []) fun t =>
    ∃ d, t.com.commits = [d] ∧ d.phase = .fixed ∧ d.sFrame = 2 := by
  obtain ⟨fix, -⟩ := commitsProceed (committingBlock 1 (ownerCommit .unfixed 0) []) _ (by decide) rfl
  refine (fix (by decide) rfl rfl rfl rfl rfl rfl rfl (by decide) (by decide)).imp fun t ht => ?_
  obtain ⟨d, hone, -, hphase, hframe, -⟩ := ht
  exact ⟨d, hone, hphase, hframe⟩

/-- The commit fixed with its set. -/
def fixedBlock (frame : Nat) : State :=
  committingBlock frame { ownerCommit .fixed 0 with cells := [(1, 0), (3, 1), (5, 0)], made := [⟨1, 3, 30, 0⟩], moved := [⟨2, 2, 30, 0⟩] }
    [{ principal := 30, cseq := 1, adds := [⟨1, 3, 30, 0⟩], moves := [⟨2, 2, 30, 0⟩], takenBy := some 1 }]

theorem fixedBlock_switches : Yields (.commitSwitch 0 [] []) (fixedBlock 2) fun t =>
    t.route.committed = [⟨0, 0, 30, 0⟩, ⟨1, 3, 30, 0⟩, ⟨2, 2, 30, 0⟩] ∧ t.route.crossed = [3] ∧ t.rdP .B R.CM_LAST_LO_FRAME = 2 := by
  obtain ⟨-, switch, -⟩ := commitsProceed (fixedBlock 2) _ (by decide) rfl
  refine (switch 0 (by decide) rfl (by decide)).imp fun t ht => ?_
  obtain ⟨hcommitted, hcrossed, -, hframe⟩ := ht
  exact ⟨hcommitted, hcrossed, hframe .B⟩

/-- Chip 15 of the frame before is too early. -/
theorem fixedBlock_waits : exec (.commitSwitch 15 [] []) (fixedBlock 1) = .next (fixedBlock 1) := by
  obtain ⟨-, -, waits, -⟩ := commitsProceed (fixedBlock 1) _ (by decide) rfl
  exact waits 15 (by decide) (by decide)

/-- Tile 0 was late with cell 5, which is at cross. -/
def lateBlock : State := committingBlock 2 { ownerCommit .switched 3 with cells := [(5, 1)], late := [0] } []

theorem lateBlock_selects : Yields (.lateTileApply 0) lateBlock fun t => t.rd (R.TL_FD_CFG_SEL 0 5) = 1 := by
  obtain ⟨-, -, -, late, -⟩ := commitsProceed lateBlock _ (by decide) rfl
  exact late 5 1 5 rfl rfl (by decide) rfl (by decide) (by decide) rfl

/-- A commit that changed 3 cells and no connection is done in frame 4. -/
def settlingBlock : State := committingBlock 4 { ownerCommit .settling 0 with cells := [(0, 1), (1, 0), (5, 0)] } []

theorem settlingBlock_done : Yields .commitDone settlingBlock fun t => t.com.commits = [] ∧ (t.prin 30).notices = [⟨0x81, Code.ok, 7, 0, 4,
    [0, 0, 0, 0, 0, 0, 0, 2, 0, 0, 0, 0, 0, 0, 0, 2, 0, 0, 1, 0, 0, 3, 0, 0, 0, 0, 0, 0, 0, 0, 0, 0]⟩] := by
  obtain ⟨-, -, -, -, done, -⟩ := commitsProceed settlingBlock _ (by decide) rfl
  exact done rfl rfl rfl rfl (by decide)

theorem fixedBlock_not_done : exec .commitDone (fixedBlock 2) = .next (fixedBlock 2) := by
  obtain ⟨-, -, -, -, -, waits⟩ := commitsProceed (fixedBlock 2) _ (by decide) rfl
  exact waits (by decide)

end Sys2Proof.Machine
end

section
/-! SUPPORT. Fields of the shared registers and entries of a tile's and a channel's lists. -/

namespace Sys2Proof.Machine

open Sys2Proof

section
variable {s : State} {f g : FieldAt}

theorem State.rd_lt (s : State) (f : FieldAt) : s.rd f < 2 ^ (f.hi + 1 - f.lo) := Nat.mod_lt _ (Nat.two_pow_pos _)

/-- A value that fits its field reads as it was written. -/
theorem State.rd_wr_of_lt {v : Nat} (h : s.Regs) (hv : v < 2 ^ (f.hi + 1 - f.lo)) (hf : decide (f.hi < 32 ∧ f.lo ≤ f.hi) = true := by rfl) :
    (s.wr f v).rd f = v := by
  obtain ⟨hhi, hlo⟩ := of_decide_eq_true hf
  exact (State.rd_wr s f v h.shared hhi hlo).trans (Nat.mod_eq_of_lt hv)

/-- A field reads as before where the one written has other bits. -/
theorem State.rd_wr_apart {v : Nat} (h : s.Regs) (hf : decide (f.hi < 32 ∧ f.lo ≤ f.hi) = true := by rfl)
    (hg : decide (g.lo ≤ g.hi ∧ (g.hi < f.lo ∨ f.hi < g.lo)) = true := by rfl) : (s.wr f v).rd g = s.rd g := by
  obtain ⟨hhi, hlo⟩ := of_decide_eq_true hf
  obtain ⟨hglo, hapart⟩ := of_decide_eq_true hg
  exact State.rd_wr_bits s f g v h.shared hhi hlo hglo hapart

theorem State.rd_of_same {o : Nat} {b t : State} (f : FieldAt) (hsame : Same o b t) (hshared : o.testBit Part.shared.ix = false) :
    t.rd f = b.rd f := by
  have hregs : t.reg.shared = b.reg.shared := hsame .shared hshared
  rw [State.rd, State.rd, State.word, State.word, hregs]

theorem State.regs_of_same {o : Nat} {b t : State} (hsame : Same o b t) (hshared : o.testBit Part.shared.ix = false)
    (hA : o.testBit Part.privA.ix = false) (hB : o.testBit Part.privB.ix = false) (h : b.Regs) : t.Regs := by
  have hsharedIs : t.reg.shared = b.reg.shared := hsame .shared hshared
  have hAIs : t.reg.privA = b.reg.privA := hsame .privA hA
  have hBIs : t.reg.privB = b.reg.privB := hsame .privB hB
  exact ⟨hsharedIs ▸ h.shared, hAIs ▸ h.privA, hBIs ▸ h.privB⟩

@[simp] theorem State.rd_raise (s : State) (m : FaultMsg) (f : FieldAt) : (s.raise m).rd f = s.rd f := rfl
@[simp] theorem State.rd_updSense (s : State) (t : Nat) (a : TileSense → TileSense) (f : FieldAt) : (s.updSense t a).rd f = s.rd f := rfl
@[simp] theorem State.rd_updChan (s : State) (c : Nat) (a : ChanState → ChanState) (f : FieldAt) : (s.updChan c a).rd f = s.rd f := rfl

@[simp] theorem State.wr_sense (s : State) (f : FieldAt) (v : Nat) : (s.wr f v).sense = s.sense := rfl
@[simp] theorem State.tileSense_wr (s : State) (f : FieldAt) (v t : Nat) : (s.wr f v).tileSense t = s.tileSense t := rfl
@[simp] theorem State.tileSense_raise (s : State) (m : FaultMsg) (t : Nat) : (s.raise m).tileSense t = s.tileSense t := rfl

theorem State.tileSense_updSense {t : Nat} (a : TileSense → TileSense) (ht : t < s.sense.tiles.length) :
    (s.updSense t a).tileSense t = a (s.tileSense t) := (getD_modAt _ _ _ _ _ ht).trans (if_pos rfl)

theorem State.chan_updChan {c : Nat} (a : ChanState → ChanState) (hc : c < s.cap.chans.length) :
    (s.updChan c a).chan c = a (s.chan c) := (getD_modAt _ _ _ _ _ hc).trans (if_pos rfl)

end

end Sys2Proof.Machine
end

section
/-! SUPPORT. The tests of a context's input set: the event that is due is carried out, the context goes to HOLD and its tile raises the message (R113,
R147, R155). -/

namespace Sys2Proof.Machine

open Sys2Proof

section
variable {s : State} {n c : Nat} {e : LoopEvent}

/-! ### The event that is due -/

/-- The state whose events due are those of `s` without the one of context n. -/
def State.struck (s : State) (n : Nat) (e : LoopEvent) : State :=
  s.setLoop fun l => { l with due := l.due.filter fun d => decide (d ≠ (n, e)) }

@[simp] theorem State.struck_faults (s : State) (n : Nat) (e : LoopEvent) : (s.struck n e).faults = s.faults := rfl
theorem State.Regs.struck (h : s.Regs) : (s.struck n e).Regs := ⟨h.shared, h.privA, h.privB⟩

theorem State.not_mem_struck (s : State) (n : Nat) (e : LoopEvent) : (n, e) ∉ (s.struck n e).loop.due := by simp [State.struck]

theorem State.takeDue_of_due {f : State → State} (hdue : (n, e) ∈ s.loop.due) : s.takeDue n e f = f (s.struck n e) := if_pos hdue

theorem State.takeDue_of_not_due {f : State → State} (hnot : (n, e) ∉ s.loop.due) : s.takeDue n e f = s := if_neg hnot

/-! ### HOLD -/

/-- A state change that leaves the contexts, the events due and the faults: what the counting of an event is. -/
structure CountsOnly (f : State → State) : Prop where
  cx : ∀ s g n, s.Regs → (f s).cx g n = s.cx g n
  loop : ∀ s, (f s).loop = s.loop
  faults : ∀ s, (f s).faults = s.faults

theorem countsOnly_id : CountsOnly id := ⟨fun _ _ _ _ => rfl, fun _ => rfl, fun _ => rfl⟩

theorem countsOnly_bump {f : FieldAt} (k : Nat) (hf : f.addr ≠ R.PL_ROLE_ACTIVE.addr) : CountsOnly (·.bump f k) where
  cx s g n h := by rw [State.cx, State.cx, State.bump, State.active_wr s f _ h hf, State.rdP_wr]
  loop _ := rfl
  faults _ := rfl

theorem corrStatus_ne_role (k : Nat) : A.TL_CORR_STATUS k ≠ A.PL_ROLE := by
  unfold A.TL_CORR_STATUS A.PL_ROLE
  omega

/-- A test that trips for an ACTIVE context: HOLD with its cause, the event struck, the message raised. -/
theorem trip_yields {i : Instr} {count : State → State} {m : FaultMsg} (hcount : CountsOnly count)
    (he : exec i s = .next (s.takeDue n e fun u => (count (u.holdCtx n c)).raise m)) (hs : s.sound = true) (hc : c < 16)
    (hactive : s.stateOf n = 1) (hdue : (n, e) ∈ s.loop.due) : Yields i s fun t =>
      t.stateOf n = 3 ∧ t.cx R.CTX_OUT_CAUSE n = c ∧ (n, e) ∉ t.loop.due ∧
        t.faults = { s.faults with incoming := s.faults.incoming ++ [m] } := by
  have hregs : (s.struck n e).Regs := (State.sound_regs hs).struck
  have hheldRegs : ((s.struck n e).holdCtx n c).Regs := (State.holdCtx_kept (State.sound_kept (s := s.struck n e) hs)).regs
  have hheldSame : Same (partMask [.privA, .privB]) (s.struck n e) ((s.struck n e).holdCtx n c) := State.holdCtx_same same_refl (by decide)
  obtain ⟨hstate, hcause⟩ := State.holdCtx_active hregs (hactive : (s.struck n e).stateOf n = stActive) hc
  refine ⟨_, he, ?_⟩
  rw [State.takeDue_of_due hdue]
  refine ⟨(hcount.cx _ R.CTX_OUT_STATE n hheldRegs).trans hstate, (hcount.cx _ R.CTX_OUT_CAUSE n hheldRegs).trans hcause, ?_, ?_⟩
  · rw [State.raise_loop, hcount.loop, hheldSame .loop (by decide)]
    exact s.not_mem_struck n e
  · rw [State.raise_faults, hcount.faults, hheldSame .faults (by decide), State.struck_faults]

end

/-- Settles O12. That a test of the validity pass leaves its event in the list of those due until its row comes is the reading of log entry 45. -/
theorem lostFrozenInvalidHold : Obligations.LostFrozenInvalidHold := by
  unfold Obligations.LostFrozenInvalidHold
  intro s n hs hn
  have hwf : isCtx n = true := by simp [isCtx, hn]
  have hlost : exec (.feedbackLost n) s = .next (s.feedbackLost n) := exec_feedbackLost n s hwf
  have hfrozen : exec (.feedbackFrozen n) s = .next (s.feedbackFrozen n) := exec_feedbackFrozen n s hwf
  have hinvalid : exec (.inputInvalid n) s = .next (s.inputInvalid n) := exec_inputInvalid n s hwf
  refine ⟨trip_yields (countsOnly_bump 1 (corrStatus_ne_role _)) hlost hs (by decide),
    trip_yields (countsOnly_bump 1 (corrStatus_ne_role _)) hfrozen hs (by decide), trip_yields countsOnly_id hinvalid hs (by decide),
    fun hnot => ?_, fun hnot => ?_, fun hnot => ?_⟩
  · rw [hlost, State.feedbackLost, State.takeDue_of_not_due hnot]
  · rw [hfrozen, State.feedbackFrozen, State.takeDue_of_not_due hnot]
  · rw [hinvalid, State.inputInvalid, State.takeDue_of_not_due hnot]

end Sys2Proof.Machine
end

section
/-! SUPPORT. A tile's sensing: its bias current at the limit, its reference, the residues of its correlator (R104, R111, R146). -/

namespace Sys2Proof.Machine

open Sys2Proof

section
variable {s : State} {k : Nat}

theorem biasLimit_yields (hs : s.sound = true) (hk : k < 80) (hawake : s.awake = true) : Yields (.biasLimit k) s fun t =>
    t.rd (R.TL_BIAS_BIAS_LIMIT k) = 1 ∧ t.faults = { s.faults with incoming := s.faults.incoming ++ [tileMsg k 0x10 0 0] } := by
  refine ⟨_, exec_biasLimit k s (by simp [Instr.wf, isTile, hk]), ?_⟩
  rw [State.when, if_pos hawake, State.biasLimit]
  refine ⟨?_, rfl⟩
  rw [State.rd_raise]
  exact State.rd_wr_of_lt (State.sound_regs hs) (of_decide_eq_true rfl)

/-! ### The reference -/

/-- REF_SETTLED is cleared and REF_OUT set, and the samples from the one found on are marked. -/
theorem refOut_yields {sample : Nat} (hs : s.sound = true) (hk : k < 80) (hsample : sample < 128) (hawake : s.awake = true) :
    Yields (.refOut k sample) s fun t => t.rd (R.TL_REF_REF_SETTLED k) = 0 ∧ t.rd (R.TL_REF_REF_OUT k) = 1 ∧
      (t.tileSense k).refFrom = min (s.tileSense k).refFrom sample := by
  have hregs : (s.unsettle k sample).Regs := (State.unsettle_kept (State.sound_kept hs)).regs
  have hlen : k < (s.wr (R.TL_REF_REF_SETTLED k) 0).sense.tiles.length := by
    rw [State.wr_sense, (State.sound_kept hs).senseTiles]
    exact hk
  refine ⟨_, exec_refOut k sample s (by simp [Instr.wf, isTile, hk, hsample]), ?_⟩
  rw [State.when, if_pos hawake, State.refOut]
  refine ⟨?_, ?_, ?_⟩
  · rw [State.rd_wr_apart hregs, State.unsettle, State.rd_updSense]
    exact State.rd_wr_of_lt (State.sound_regs hs) (of_decide_eq_true rfl)
  · exact State.rd_wr_of_lt hregs (of_decide_eq_true rfl)
  · rw [State.tileSense_wr, State.unsettle, State.tileSense_updSense _ hlen, State.tileSense_wr]

/-- The time-out that is due shows 17 and is raised, and is due no more. -/
theorem refTimeout_yields (hs : s.sound = true) (hk : k < 80) (hdue : (s.tileSense k).timeoutDue = true) : Yields (.refTimeout k) s fun t =>
    t.rd (R.TL_REF_SETTLE_LAST k) = 17 ∧ (t.tileSense k).timeoutDue = false ∧
      t.faults = { s.faults with incoming := s.faults.incoming ++ [tileMsg k 0x11 0 0] } := by
  have hlen : k < ((s.wr (R.TL_REF_SETTLE_LAST k) 17).raise (tileMsg k 0x11 0 0)).sense.tiles.length := by
    rw [State.raise_sense, State.wr_sense, (State.sound_kept hs).senseTiles]
    exact hk
  refine ⟨_, exec_refTimeout k s (by simp [Instr.wf, isTile, hk]), ?_⟩
  rw [State.refTimeout, if_pos hdue]
  refine ⟨?_, ?_, rfl⟩
  · rw [State.rd_updSense, State.rd_raise]
    exact State.rd_wr_of_lt (State.sound_regs hs) (of_decide_eq_true rfl)
  · rw [State.tileSense_updSense _ hlen]

/-! ### The correlator -/

/-- An entry that is added to a list stands in it, whether or not it stood there before. -/
theorem mem_dedup_append {α : Type} [DecidableEq α] (l : List α) (x : α) : x ∈ dedup (l ++ [x]) := by
  rw [dedup, List.foldl_append, List.foldl_cons, List.foldl_nil]
  split
  · assumption
  · exact List.mem_append_right _ (List.mem_singleton_self x)

theorem corrResidue_yields {slot : Nat} (hs : s.sound = true) (hk : k < 80) (hslot : slot < 1024) (hclocked : s.clocked = true) :
    Yields (.corrResidue k slot) s fun t => t.rd (R.TL_CORR_STATUS_RESIDUE_ERR k) = 1 ∧ t.rd (R.TL_CORR_STATUS_RESIDUE_SLOT k) = slot ∧
      (k, slot) ∈ t.dith.residues ∧ t.faults = { s.faults with incoming := s.faults.incoming ++ [tileMsg k 0x15 6 slot] } := by
  have hregs := State.sound_regs hs
  refine ⟨_, exec_corrResidue k slot s (by simp [Instr.wf, isTile, hk, hslot]), ?_⟩
  rw [State.when, if_pos hclocked]
  refine ⟨?_, State.rd_wr_of_lt hregs.wr hslot, mem_dedup_append _ _, rfl⟩
  exact (State.rd_wr_apart (f := R.TL_CORR_STATUS_RESIDUE_SLOT k) (v := slot) hregs.wr).trans
    (State.rd_wr_of_lt hregs (of_decide_eq_true rfl))

end

/-- Settles O32, event by event. -/
theorem sensingEvents : Obligations.SensingEvents := by
  unfold Obligations.SensingEvents
  intro s k hs hk
  refine ⟨biasLimit_yields hs hk, fun sample hsample hawake => refOut_yields hs hk hsample hawake, refTimeout_yields hs hk, fun hnot => ?_,
    fun slot hslot hclocked => corrResidue_yields hs hk hslot hclocked⟩
  rw [exec_refTimeout k s (by simp [Instr.wf, isTile, hk]), State.refTimeout, if_neg (by simp [hnot])]

end Sys2Proof.Machine
end

section
/-! SUPPORT. Capture: a record that ends its window goes into the buffer of a running channel, a write of the read pointer stops at the write pointer
(R121, R122). -/

namespace Sys2Proof.Machine

open Sys2Proof

/-! ### A record -/

section
variable {s : State} {c : Nat}

/-- The registers of a channel are words of their own. -/
theorem State.rd_wr_channel {o o' hi lo hi' lo' v : Nat} (h : s.Regs) (ho : o' ≠ o) :
    (s.wr (chField c o hi lo) v).rd (chField c o' hi' lo') = s.rd (chField c o' hi' lo') :=
  State.rd_wr_addr _ _ _ _ h.shared fun e => ho (Nat.add_left_cancel e)

/-- A record moves the write pointer by its length; what its fill shows moves no pointer. -/
theorem State.putRecord_wptr {bytes : List Nat} (h : s.Regs) (hrun : s.running c = true) (hstop : (s.chan c).fullStop = false)
    (hroom : s.rd (chPolicy c) ≠ 1 ∨ s.fill c + bytes.length ≤ s.bufSize c) :
    (s.putRecord c bytes).rd (chWptr c) = (s.rd (chWptr c) + bytes.length) % 2 ^ 32 := by
  have hfits : ¬(s.rd (chPolicy c) = 1 ∧ s.bufSize c < s.fill c + bytes.length) := by omega
  unfold State.putRecord
  extract_lets size w stored advanced shown mark
  rw [if_neg (by simp [hrun, hstop]), if_neg hfits]
  have hstored : Same (partMask [.cap]) s stored := foldl_same (fun _ _ hu => State.setCapByte_same hu (by decide)) same_refl
  have hstoredRegs : stored.Regs := State.regs_of_same hstored (by decide) (by decide) (by decide) h
  have hadvanced : advanced.rd (chWptr c) = (w + bytes.length) % 2 ^ 32 :=
    State.rd_wr _ _ _ hstoredRegs.shared (of_decide_eq_true rfl) (of_decide_eq_true rfl)
  obtain ⟨hshownRegs, hshown⟩ : shown.Regs ∧ shown.rd (chWptr c) = advanced.rd (chWptr c) := by
    show (advanced.when _ _).Regs ∧ (advanced.when _ _).rd (chWptr c) = _
    unfold State.when
    split
    · exact ⟨hstoredRegs.wr.wr, State.rd_wr_channel hstoredRegs.wr (by decide)⟩
    · exact ⟨hstoredRegs.wr, rfl⟩
  split
  · rw [State.rd_updChan]
    exact (State.rd_wr_channel hshownRegs (by decide)).trans (hshown.trans hadvanced)
  · exact hshown.trans hadvanced

/-- A record without room, in a channel that stops when it is full. -/
theorem State.putRecord_full {bytes : List Nat} (hrun : s.running c = true) (hstop : (s.chan c).fullStop = false) (hpolicy : s.rd (chPolicy c) = 1)
    (hfull : s.bufSize c < s.fill c + bytes.length) :
    s.putRecord c bytes = (s.wr (chFull c) 1).updChan c fun a => { a with fullStop := true } := by
  unfold State.putRecord
  rw [if_neg (by simp [hrun, hstop]), if_pos ⟨hpolicy, hfull⟩]

theorem State.captureRecord_of_ends {last : Nat} {codes : List (List Nat)} (hrun : s.running c = true) (hends : s.windowEnds c last = true) :
    s.captureRecord c last codes = s.putRecord c (s.recordBytes c last codes) := if_pos (by simp [hrun, hends])

theorem State.captureRecord_idle {last : Nat} {codes : List (List Nat)} (hidle : s.running c = false ∨ s.windowEnds c last = false) :
    s.captureRecord c last codes = s := if_neg (by rcases hidle with h | h <;> simp [h])

end

/-! ### One written word -/

section
variable {s : State} {r : Requester} {a w : Nat}

/-- A write of one word that asks for no context state and touches neither a guard nor a transmit window. -/
theorem State.regWrite_word (hmay : s.mayWrite r a w = true) (hrequest : s.requested [(a, w)] = []) (hguard : guardWord a = false)
    (hlane : windowLane a = none) : s.regWrite r a [w] = (s.writeOne r (fun _ => false) a w).noteStatus r Code.ok := by
  obtain ⟨haccess, hcode⟩ : s.mayAccess r a 1 = true ∧ s.writeCode r a w = Code.ok := by simpa [State.mayWrite] using hmay
  have happly : s.applyWords r none 0 [(a, w)] = s.writeOne r (fun _ => false) a w := by
    simp [State.applyWords, hrequest, State.over]
  have hafter (t : State) : t.afterCode [(a, w)] = Code.ok := by simp [State.afterCode, hguard, hlane]
  have hwords : (wordsAt a 1).zip [w] = [(a, w)] := rfl
  have hfirst : firstCode [Code.ok] = Code.ok := rfl
  have hwrite : s.writeMany r none 0 a [w] = (Code.ok, false, s.writeOne r (fun _ => false) a w) := by
    simp [State.writeMany, hwords, hcode, hfirst, happly, hafter, hrequest]
  rw [State.regWrite, if_pos (show s.mayAccess r a [w].length = true from haccess), hwrite]

end

@[simp] theorem State.rd_noteStatus (s : State) (r : Requester) (code : Nat) (f : FieldAt) : (s.noteStatus r code).rd f = s.rd f :=
  State.rd_of_same (o := partMask [.sb]) f (State.noteStatus_same same_refl (by decide)) (by decide)

theorem State.Regs.dropHeld {s : State} {r : Requester} (h : s.Regs) : (s.dropHeld r).Regs := ⟨h.shared, h.privA, h.privB⟩

/-! ### The read pointer -/

section
variable {s : State} {c : Nat}

/-- The entry of CAP_RPTR in the table of chapter 4: one field, 32 descriptors. -/
def capRptrSpec : RegSpec := ⟨.CAP_RPTR, 0x2400010, [(32, 0x20)], .shared, [⟨31, 0, .rw, .live, 0, .number, false⟩]⟩

theorem regAt_capRptr : ∀ c < 32, regAt (A.CAP_RPTR c) = some ⟨capRptrSpec, [c]⟩ := by decide

theorem inCapture_capRptr (c : Nat) : inCapture (A.CAP_RPTR c) = false := by
  have hend : ¬A.CAP_RPTR c < 0x2400000 := by
    unfold A.CAP_RPTR
    omega
  simp [inCapture, hend]

/-- The word of a read pointer is not stored as a field: its action alone moves the pointer. -/
theorem State.writeOne_capRptr {r : Requester} {carry : Nat → Bool} {v : Nat} (hc : c < 32) :
    s.writeOne r carry (A.CAP_RPTR c) v = (s.dropHeld r).writeRptr c v := by
  unfold State.writeOne
  simp [inCapture_capRptr, regAt_capRptr c hc, capRptrSpec, heldReg, hiOf, State.putField, State.writeAction, RegHit.i]

theorem State.regWrite_capRptr {r : Requester} {v : Nat} (hc : c < 32) (hmay : s.mayWrite r (A.CAP_RPTR c) v = true) :
    s.regWrite r (A.CAP_RPTR c) [v] = ((s.dropHeld r).writeRptr c v).noteStatus r Code.ok := by
  have hat := regAt_capRptr c hc
  rw [State.regWrite_word hmay (by simp [State.requested, hat, capRptrSpec]) (by simp [guardWord, hat, capRptrSpec, guardReg])
    (by simp [windowLane, hat, capRptrSpec]), State.writeOne_capRptr hc]

/-- The watermark of a channel arms again where its fill stands below it (R123). -/
def State.rearmed (s : State) (c : Nat) : State :=
  if s.fill c < s.rd (chWmark c) then s.updChan c fun a => { a with armed := true } else s

@[simp] theorem State.rd_rearmed (s : State) (c : Nat) (f : FieldAt) : (s.rearmed c).rd f = s.rd f := by
  unfold State.rearmed
  split
  · exact s.rd_updChan c _ f
  · rfl

/-- Does an advance of the read pointer to `v` pass the bytes unread? -/
def State.passesWptr (s : State) (c v : Nat) : Prop :=
  (s.rd (chWptr c) + 2 ^ 32 - s.rd (chRptr c)) % 2 ^ 32 < (v + 2 ^ 32 - s.rd (chRptr c)) % 2 ^ 32

theorem State.writeRptr_of_passes {v : Nat} (hpast : s.passesWptr c v) :
    s.writeRptr c v = ((s.wr (chRptr c) (s.rd (chWptr c))).wr (chClamp c) 1).rearmed c := by
  unfold State.writeRptr
  extract_lets wptr rptr moved
  have hmoved : moved = (s.wr (chRptr c) (s.rd (chWptr c))).wr (chClamp c) 1 := if_pos hpast
  rw [hmoved, State.rearmed]

theorem State.writeRptr_of_not_passes {v : Nat} (hnot : ¬s.passesWptr c v) : s.writeRptr c v = (s.wr (chRptr c) v).rearmed c := by
  unfold State.writeRptr
  extract_lets wptr rptr moved
  have hmoved : moved = s.wr (chRptr c) v := if_neg hnot
  rw [hmoved, State.rearmed]

theorem State.writeRptr_rd_of_passes {v : Nat} (h : s.Regs) (hpast : s.passesWptr c v) :
    (s.writeRptr c v).rd (chRptr c) = s.rd (chWptr c) ∧ (s.writeRptr c v).rd (chClamp c) = 1 := by
  rw [State.writeRptr_of_passes hpast, State.rd_rearmed, State.rd_rearmed]
  refine ⟨(State.rd_wr_channel h.wr (by decide)).trans (State.rd_wr_of_lt h (s.rd_lt (chWptr c))), ?_⟩
  exact State.rd_wr_of_lt h.wr (of_decide_eq_true rfl)

theorem State.writeRptr_rd_of_not_passes {v : Nat} (h : s.Regs) (hv : v < 2 ^ 32) (hnot : ¬s.passesWptr c v) :
    (s.writeRptr c v).rd (chRptr c) = v := by
  rw [State.writeRptr_of_not_passes hnot, State.rd_rearmed]
  exact State.rd_wr_of_lt h hv

end

/-- Settles O34. That a write of the read pointer is an advance from where it stands, and that a full channel writes nothing more until it stops, is
the reading of log entry 47. -/
theorem captureRecords : Obligations.CaptureRecords := by
  unfold Obligations.CaptureRecords
  intro s c hs hc
  have hregs := State.sound_regs hs
  refine ⟨fun last codes hwf hclocked hrun hends hstop hroom => ⟨_, exec_captureRecordWrite c last codes s hwf, ?_⟩,
    fun last codes hwf hclocked hrun hends hstop hpolicy hfull => ⟨_, exec_captureRecordWrite c last codes s hwf, ?_⟩,
    fun last codes hwf hidle => ?_, fun r v hwf hmay => ⟨_, exec_capRptrWrite r c v s hwf, ?_⟩⟩
  · rw [State.when, if_pos hclocked, State.captureRecord_of_ends hrun hends]
    exact State.putRecord_wptr hregs hrun hstop hroom
  · have hlen : c < s.cap.chans.length := by
      rw [(State.sound_kept hs).chans]
      omega
    rw [State.when, if_pos hclocked, State.captureRecord_of_ends hrun hends, State.putRecord_full hrun hstop hpolicy hfull]
    refine ⟨?_, ?_, rfl⟩
    · rw [State.rd_updChan]
      exact State.rd_wr_of_lt hregs (of_decide_eq_true rfl)
    · rw [State.chan_updChan (s := s.wr (chFull c) 1) _ hlen]
  · rw [exec_captureRecordWrite c last codes s hwf, State.when, State.captureRecord_idle hidle, ite_self]
  · have hv : v < 2 ^ 32 := by
      have h := hwf
      simp only [Instr.wf, isWord, Bool.and_eq_true, decide_eq_true_eq] at h
      exact h.2
    rw [if_pos hc, State.regWrite_capRptr hc hmay]
    simp only [State.rd_noteStatus]
    split
    case isTrue hpast => exact State.writeRptr_rd_of_passes hregs.dropHeld hpast
    case isFalse hnot => exact State.writeRptr_rd_of_not_passes hregs.dropHeld hv hnot

end Sys2Proof.Machine
end

section
/-! TESTS. States that meet the hypotheses of the statements about input tests, sensing and capture, and what they say of them. -/

namespace Sys2Proof.Machine

open Sys2Proof

/-! ### Input tests -/

/-- The last context is ACTIVE, and every test of its input set has tripped. -/
def trippedBlock : State :=
  { runningBlock.setCx R.CTX_OUT_STATE 40959 1 with
    loop := { runningBlock.loop with due := [(40959, .lost), (40959, .frozen), (40959, .invalid)] } }

theorem trippedBlock_holds :
    (Yields (.feedbackLost 40959) trippedBlock fun t => t.stateOf 40959 = 3 ∧ t.cx R.CTX_OUT_CAUSE 40959 = 1) ∧
    (Yields (.feedbackFrozen 40959) trippedBlock fun t => t.stateOf 40959 = 3 ∧ t.cx R.CTX_OUT_CAUSE 40959 = 2) ∧
    (Yields (.inputInvalid 40959) trippedBlock fun t => t.stateOf 40959 = 3 ∧ t.cx R.CTX_OUT_CAUSE 40959 = 3) := by
  obtain ⟨lost, frozen, invalid, -⟩ := lostFrozenInvalidHold trippedBlock 40959 (by decide) (by decide)
  have hactive : trippedBlock.stateOf 40959 = 1 := by decide
  exact ⟨(lost hactive (by decide)).imp fun _ ⟨hstate, hcause, _⟩ => ⟨hstate, hcause⟩,
    (frozen hactive (by decide)).imp fun _ ⟨hstate, hcause, _⟩ => ⟨hstate, hcause⟩,
    (invalid hactive (by decide)).imp fun _ ⟨hstate, hcause, _⟩ => ⟨hstate, hcause⟩⟩

/-- No test of context 0 has tripped. -/
theorem trippedBlock_not_due :
    exec (.feedbackLost 0) trippedBlock = .next trippedBlock ∧ exec (.feedbackFrozen 0) trippedBlock = .next trippedBlock ∧
      exec (.inputInvalid 0) trippedBlock = .next trippedBlock := by
  obtain ⟨-, -, -, lost, frozen, invalid⟩ := lostFrozenInvalidHold trippedBlock 0 (by decide) (by decide)
  exact ⟨lost (by decide), frozen (by decide), invalid (by decide)⟩

/-! ### Sensing -/

/-- The reference of the last tile has not settled in time; of the running frame sample 100 and those behind it are marked already. -/
def unsettledBlock : State := { runningBlock with power := .run }.updSense 79 fun a => { a with timeoutDue := true, refFrom := 100 }

theorem unsettledBlock_events :
    (Yields (.biasLimit 79) unsettledBlock fun t => t.rd (R.TL_BIAS_BIAS_LIMIT 79) = 1) ∧
    (Yields (.refOut 79 127) unsettledBlock fun t => (t.tileSense 79).refFrom = 100) ∧
    (Yields (.refOut 79 0) unsettledBlock fun t => (t.tileSense 79).refFrom = 0) ∧
    (Yields (.refTimeout 79) unsettledBlock fun t => t.rd (R.TL_REF_SETTLE_LAST 79) = 17 ∧ (t.tileSense 79).timeoutDue = false) ∧
    (Yields (.corrResidue 79 1023) unsettledBlock fun t => t.rd (R.TL_CORR_STATUS_RESIDUE_SLOT 79) = 1023 ∧ (79, 1023) ∈ t.dith.residues) := by
  obtain ⟨bias, out, timeout, -, residue⟩ := sensingEvents unsettledBlock 79 (by decide) (by decide)
  exact ⟨(bias (by decide)).imp fun _ ⟨hlimit, _⟩ => hlimit, (out 127 (by decide) (by decide)).imp fun _ ⟨_, _, hfrom⟩ => hfrom,
    (out 0 (by decide) (by decide)).imp fun _ ⟨_, _, hfrom⟩ => hfrom, (timeout (by decide)).imp fun _ ⟨hlast, hdue, _⟩ => ⟨hlast, hdue⟩,
    (residue 1023 (by decide) (by decide)).imp fun _ ⟨_, hslot, hmem, _⟩ => ⟨hslot, hmem⟩⟩

/-- Tile 0 waits for no reference. -/
theorem unsettledBlock_not_due : exec (.refTimeout 0) unsettledBlock = .next unsettledBlock := by
  obtain ⟨-, -, -, notDue, -⟩ := sensingEvents unsettledBlock 0 (by decide) (by decide)
  exact notDue (by decide)

/-! ### Capture -/

/-- The last descriptor runs on a buffer of 4096 bytes in the format of one sample a record and stops when it is full; its write pointer is one byte
before it turns over. -/
def capturingBlock (rptr : Nat) : State :=
  (((runningBlock.wr (chRunning 31) 1).wr (chPolicy 31) 1).wr (chWptr 31) (2 ^ 32 - 1)).wr (chRptr 31) rptr

/-- With room for its two bytes the record takes the write pointer past 0. -/
theorem capturingBlock_record : Yields (.captureRecordWrite 31 127 [[0]]) (capturingBlock (2 ^ 32 - 4095)) fun t => t.rd (chWptr 31) = 1 := by
  obtain ⟨record, -⟩ := captureRecords (capturingBlock (2 ^ 32 - 4095)) 31 (by decide) (by decide)
  exact record 127 [[0]] (by decide) (by decide) (by decide) (by decide) (by decide) (.inr (by decide))

/-- With room for one byte only it is not written. -/
theorem capturingBlock_full : Yields (.captureRecordWrite 31 127 [[0]]) (capturingBlock (2 ^ 32 - 4096)) fun t =>
    t.rd (chFull 31) = 1 ∧ (t.chan 31).fullStop = true ∧ t.cap.mem = [] := by
  obtain ⟨-, full, -⟩ := captureRecords (capturingBlock (2 ^ 32 - 4096)) 31 (by decide) (by decide)
  exact full 127 [[0]] (by decide) (by decide) (by decide) (by decide) (by decide) (by decide) (by decide)

/-- Descriptor 0 does not run. -/
theorem capturingBlock_idle : exec (.captureRecordWrite 0 127 [[0]]) (capturingBlock 0) = .next (capturingBlock 0) := by
  obtain ⟨-, -, idle, -⟩ := captureRecords (capturingBlock 0) 0 (by decide) (by decide)
  exact idle 127 [[0]] (by decide) (.inl (by decide))

/-- The owner advances the read pointer to the write pointer; to a byte further it stops there. -/
theorem capturingBlock_rptr :
    (Yields (.capRptrWrite (.principal 30) 31 (2 ^ 32 - 1)) (capturingBlock (2 ^ 32 - 5)) fun t => t.rd (chRptr 31) = 2 ^ 32 - 1) ∧
    (Yields (.capRptrWrite (.principal 30) 31 0) (capturingBlock (2 ^ 32 - 5)) fun t =>
      t.rd (chRptr 31) = 2 ^ 32 - 1 ∧ t.rd (chClamp 31) = 1) := by
  obtain ⟨-, -, -, pointer⟩ := captureRecords (capturingBlock (2 ^ 32 - 5)) 31 (by decide) (by decide)
  refine ⟨(pointer (.principal 30) (2 ^ 32 - 1) (by decide) (by decide +kernel)).imp fun t ht => ?_,
    (pointer (.principal 30) 0 (by decide) (by decide +kernel)).imp fun t ht => ?_⟩
  · rwa [if_neg (by decide)] at ht
  · rwa [if_pos (by decide)] at ht

end Sys2Proof.Machine
end

section
/-! SUPPORT. What the loop engine raises and takes back by itself: a feedback overload, a following error, the resumption of a context after its
sixteenth good set (R145, R158, R167). -/

namespace Sys2Proof.Machine

open Sys2Proof

section
variable {s : State} {n : Nat}

/-! ### The following error -/

/-- HOLD writes registers only and a message is no register: their order does not show. -/
theorem State.holdCtx_raise (s : State) (n c : Nat) (m : FaultMsg) : (s.raise m).holdCtx n c = (s.holdCtx n c).raise m := by
  have hstate : (s.raise m).stateOf n = s.stateOf n := rfl
  unfold State.holdCtx
  rw [hstate]
  split <;> rfl

theorem State.following_of_no_hold (hdue : (n, LoopEvent.following) ∈ s.loop.due) (hno : s.cx R.CTX_CTL_FE_HOLD n = 0) :
    s.following n = (s.struck n .following).raise (ctxMsg n 0x24) := by
  have hread : ((s.struck n .following).raise (ctxMsg n 0x24)).cx R.CTX_CTL_FE_HOLD n ≠ 1 := by
    show s.cx R.CTX_CTL_FE_HOLD n ≠ 1
    omega
  rw [State.following, State.takeDue_of_due hdue]
  exact if_neg hread

/-- With FE_HOLD the following error is a test that trips like those of the input set. -/
theorem State.following_of_hold (hdue : (n, LoopEvent.following) ∈ s.loop.due) (hhold : s.cx R.CTX_CTL_FE_HOLD n = 1) :
    s.following n = s.takeDue n .following fun u => (u.holdCtx n causeFollowing).raise (ctxMsg n 0x24) := by
  have hread : ((s.struck n .following).raise (ctxMsg n 0x24)).cx R.CTX_CTL_FE_HOLD n = 1 := hhold
  rw [State.following, State.takeDue_of_due hdue, State.takeDue_of_due hdue, ← State.holdCtx_raise]
  exact if_pos hread

/-! ### The resumption -/

/-- The counts of good, lost and frozen sets of context n start again (R158). -/
def State.countsCleared (s : State) (n : Nat) : State :=
  ((s.setCx R.CTX_PC_GOOD_CNT n 0).setCx R.CTX_PC_LOST_CNT n 0).setCx R.CTX_PC_FROZEN_CNT n 0

/-- Context n is ACTIVE with no cause, its counts at 0, its transfer asked for. -/
def State.resumed (s : State) (n : Nat) : State :=
  (((s.setCx R.CTX_OUT_STATE n stActive).setCx R.CTX_OUT_CAUSE n causeNone).countsCleared n).setCx R.CTX_OUT_XFER n 1

theorem State.autoResume_of_due (hdue : (n, LoopEvent.resume) ∈ s.loop.due) : s.autoResume n = (s.struck n .resume).resumed n :=
  State.takeDue_of_due hdue

theorem State.Regs.countsCleared (h : s.Regs) : (s.countsCleared n).Regs := h.setCx.setCx.setCx

/-- The counts stand in CTX_PC: every field of CTX_OUT reads as before. -/
theorem State.cx_countsCleared {g : Nat → FieldAt} (h : s.Regs) (hg : (g n).addr = A.CTX_OUT n) :
    (s.countsCleared n).cx g n = s.cx g n := by
  have hother : (g n).addr ≠ A.CTX_PC n := by
    rw [hg]
    unfold A.CTX_OUT A.CTX_PC
    omega
  calc (s.countsCleared n).cx g n
      = ((s.setCx R.CTX_PC_GOOD_CNT n 0).setCx R.CTX_PC_LOST_CNT n 0).cx g n := State.cx_setCx_addr _ g n n 0 h.setCx.setCx hother
    _ = (s.setCx R.CTX_PC_GOOD_CNT n 0).cx g n := State.cx_setCx_addr _ g n n 0 h.setCx hother
    _ = s.cx g n := State.cx_setCx_addr _ g n n 0 h hother

/-- XFER is bit 0 of CTX_OUT: its write shows in no field above it. -/
theorem State.cx_setCx_xfer {g : Nat → FieldAt} {v : Nat} (h : s.Regs) (hlo : 0 < (g n).lo) (hle : (g n).lo ≤ (g n).hi) :
    (s.setCx R.CTX_OUT_XFER n v).cx g n = s.cx g n :=
  State.cx_setCx_bits _ g n n v h (by decide : 0 < 32) (Nat.le_refl 0) hle (.inr hlo)

theorem State.stateOf_resumed (h : s.Regs) : (s.resumed n).stateOf n = stActive :=
  calc (s.resumed n).stateOf n
      = (((s.setCx R.CTX_OUT_STATE n stActive).setCx R.CTX_OUT_CAUSE n causeNone).countsCleared n).stateOf n :=
        State.cx_setCx_xfer h.setCx.setCx.countsCleared (by decide : 0 < 9) (by decide : 9 ≤ 11)
    _ = ((s.setCx R.CTX_OUT_STATE n stActive).setCx R.CTX_OUT_CAUSE n causeNone).stateOf n := State.cx_countsCleared h.setCx.setCx rfl
    _ = (s.setCx R.CTX_OUT_STATE n stActive).stateOf n :=
        State.cx_setCx_bits R.CTX_OUT_CAUSE R.CTX_OUT_STATE n n _ h.setCx (by decide : 8 < 32) (by decide : 5 ≤ 8) (by decide : 9 ≤ 11)
          (.inr (by decide : 8 < 9))
    _ = stActive := State.cx_setCx R.CTX_OUT_STATE n _ h (by decide : 11 < 32) (by decide : 9 ≤ 11)

theorem State.cause_resumed (h : s.Regs) : (s.resumed n).cx R.CTX_OUT_CAUSE n = causeNone :=
  calc (s.resumed n).cx R.CTX_OUT_CAUSE n
      = (((s.setCx R.CTX_OUT_STATE n stActive).setCx R.CTX_OUT_CAUSE n causeNone).countsCleared n).cx R.CTX_OUT_CAUSE n :=
        State.cx_setCx_xfer h.setCx.setCx.countsCleared (by decide : 0 < 5) (by decide : 5 ≤ 8)
    _ = ((s.setCx R.CTX_OUT_STATE n stActive).setCx R.CTX_OUT_CAUSE n causeNone).cx R.CTX_OUT_CAUSE n :=
        State.cx_countsCleared h.setCx.setCx rfl
    _ = causeNone := State.cx_setCx R.CTX_OUT_CAUSE n _ h.setCx (by decide : 8 < 32) (by decide : 5 ≤ 8)

theorem State.xfer_resumed (h : s.Regs) : (s.resumed n).cx R.CTX_OUT_XFER n = 1 :=
  State.cx_setCx R.CTX_OUT_XFER n 1 h.setCx.setCx.countsCleared (by decide : 0 < 32) (Nat.le_refl 0)

theorem State.resumed_same : Same (partMask [.privA, .privB]) s (s.resumed n) := by
  have hwrite {t : State} {f : Nat → FieldAt} {v : Nat} (ht : Same (partMask [.privA, .privB]) s t) :
      Same (partMask [.privA, .privB]) s (t.setCx f n v) := State.setCx_same ht (by decide)
  exact hwrite (hwrite (hwrite (hwrite (hwrite (hwrite same_refl)))))

end

/-- Settles O13. That an event waits in the list of those due until its row comes is the reading of log entry 45. -/
theorem overloadFollowingResume : Obligations.OverloadFollowingResume := by
  unfold Obligations.OverloadFollowingResume
  intro s n hs hn
  have hwf : isCtx n = true := by simp [isCtx, hn]
  have hoverload : exec (.feedbackOverload n) s = .next (s.feedbackOverload n) := exec_feedbackOverload n s hwf
  have hfollowing : exec (.following n) s = .next (s.following n) := exec_following n s hwf
  have hresume : exec (.autoResume n) s = .next (s.autoResume n) := exec_autoResume n s hwf
  refine ⟨fun hdue => ?_, fun hdue hno => ?_, fun hdue hhold hactive => ?_, fun hdue => ⟨_, hresume, ?_⟩⟩
  · rw [hoverload, State.feedbackOverload, State.takeDue_of_due hdue]
    rfl
  · rw [hfollowing, State.following_of_no_hold hdue hno]
    rfl
  · rw [State.following_of_hold hdue hhold] at hfollowing
    exact (trip_yields countsOnly_id hfollowing hs (by decide) hactive hdue).imp
      fun _ ⟨hstate, hcause, _, hfaults⟩ => ⟨hstate, hcause, hfaults⟩
  · have hregs : (s.struck n .resume).Regs := (State.sound_regs hs).struck
    rw [State.autoResume_of_due hdue]
    refine ⟨State.stateOf_resumed hregs, State.cause_resumed hregs, State.xfer_resumed hregs, ?_⟩
    rw [State.resumed_same .loop (by decide)]
    exact s.not_mem_struck n .resume

end Sys2Proof.Machine
end

section
/-! TESTS. A state that meets the hypotheses of the statement about overload, following error and resumption, and what it says of it. -/

namespace Sys2Proof.Machine

open Sys2Proof

/-- The first context is ACTIVE without FE_HOLD and the last one with it; both follow badly and have had 16 words with OVR. Context 1 is in HOLD after
feedback was lost and has had its sixteenth good set. -/
def followingBlock : State :=
  { ((((runningBlock.setCx R.CTX_OUT_STATE 0 1).setCx R.CTX_OUT_STATE 40959 1).setCx R.CTX_CTL_FE_HOLD 40959 1).setCx R.CTX_OUT_STATE 1 3).setCx
      R.CTX_OUT_CAUSE 1 1 with
    loop := { runningBlock.loop with
      due := [(0, .overload), (40959, .overload), (0, .following), (40959, .following), (1, .resume)] } }

theorem followingBlock_sound : followingBlock.sound = true := by decide

/-- Each overload is raised and struck; the other events stay due. -/
theorem followingBlock_overload :
    (Yields (.feedbackOverload 0) followingBlock fun t =>
      t.faults.incoming = [ctxMsg 0 0x23] ∧ t.loop.due = [(40959, .overload), (0, .following), (40959, .following), (1, .resume)]) ∧
    Yields (.feedbackOverload 40959) followingBlock fun t => t.faults.incoming = [ctxMsg 40959 0x23] ∧ t.stateOf 40959 = 1 := by
  obtain ⟨first, -⟩ := overloadFollowingResume followingBlock 0 followingBlock_sound (by decide)
  obtain ⟨last, -⟩ := overloadFollowingResume followingBlock 40959 followingBlock_sound (by decide)
  exact ⟨⟨_, first (by decide), rfl, by decide⟩, ⟨_, last (by decide), rfl, by decide⟩⟩

/-- Without FE_HOLD the context stays ACTIVE, with it the context goes to HOLD. -/
theorem followingBlock_following :
    (Yields (.following 0) followingBlock fun t => t.faults.incoming = [ctxMsg 0 0x24] ∧ t.stateOf 0 = 1) ∧
    Yields (.following 40959) followingBlock fun t => t.stateOf 40959 = 3 ∧ t.cx R.CTX_OUT_CAUSE 40959 = 6 := by
  obtain ⟨-, runs, -⟩ := overloadFollowingResume followingBlock 0 followingBlock_sound (by decide)
  obtain ⟨-, -, holds, -⟩ := overloadFollowingResume followingBlock 40959 followingBlock_sound (by decide)
  exact ⟨⟨_, runs (by decide) (by decide), rfl, by decide⟩,
    (holds (by decide) (by decide) (by decide)).imp fun _ ⟨hstate, hcause, _⟩ => ⟨hstate, hcause⟩⟩

theorem followingBlock_resume : Yields (.autoResume 1) followingBlock fun t =>
    t.stateOf 1 = 1 ∧ t.cx R.CTX_OUT_CAUSE 1 = 0 ∧ t.cx R.CTX_OUT_XFER 1 = 1 ∧ (1, LoopEvent.resume) ∉ t.loop.due := by
  obtain ⟨-, -, -, resume⟩ := overloadFollowingResume followingBlock 1 followingBlock_sound (by decide)
  exact resume (by decide)

end Sys2Proof.Machine
end

section
/-! SUPPORT. A plane's bank of a tile in the Store Room: the word of a read error, the error itself, and a refresh that was missed stand in its
TL_STORE_STATUS, and each is raised as a message of that bank (R173, R174). -/

namespace Sys2Proof.Machine

open Sys2Proof

/-- A counter field that saturates at its largest value fits its bits. -/
theorem FieldAt.satAdd_top_lt (f : FieldAt) (a b : Nat) : satAdd f.top a b < 2 ^ (f.hi + 1 - f.lo) :=
  (Nat.min_le_left _ _).trans_lt (Nat.sub_lt (Nat.two_pow_pos _) Nat.one_pos)

section
variable {s : State} {p : Plane} {k : Nat} {f g : FieldAt}

/-! ### Fields of one plane's registers -/

/-- A value that fits its field reads in that plane as it was written. -/
theorem State.rdP_wrP_of_lt {v : Nat} (h : s.Regs) (hv : v < 2 ^ (f.hi + 1 - f.lo)) (hf : decide (f.hi < 32 ∧ f.lo ≤ f.hi) = true := by rfl) :
    (s.wrP p f v).rdP p f = v := by
  obtain ⟨hhi, hlo⟩ := of_decide_eq_true hf
  exact ((State.rdP_wrP p p f v h hhi hlo).trans (if_pos rfl)).trans (Nat.mod_eq_of_lt hv)

/-- A field of a plane reads as before where the one written has other bits. -/
theorem State.rdP_wrP_apart {v : Nat} (h : s.Regs) (hf : decide (f.hi < 32 ∧ f.lo ≤ f.hi) = true := by rfl)
    (hg : decide (g.lo ≤ g.hi ∧ (g.hi < f.lo ∨ f.hi < g.lo)) = true := by rfl) : (s.wrP p f v).rdP p g = s.rdP p g := by
  obtain ⟨hhi, hlo⟩ := of_decide_eq_true hf
  obtain ⟨hglo, hapart⟩ := of_decide_eq_true hg
  exact State.rdP_wrP_bits p p f g v h hhi hlo hglo hapart

@[simp] theorem State.rdP_raise (s : State) (m : FaultMsg) (p : Plane) (f : FieldAt) : (s.raise m).rdP p f = s.rdP p f := rfl

/-! ### A read error -/

theorem State.storeEcc_double (s : State) (p : Plane) (k word : Nat) : s.storeEcc p k word true =
    ((s.wrP p (R.TL_STORE_STATUS_LAST_WORD k) word).wrP p (R.TL_STORE_STATUS_UNCORR k) 1).raise (planeMsg 7 k 2 p word) := rfl

/-- The word's index stands below CORRECTED, so it is the count of before that grows. -/
theorem State.storeEcc_single (h : s.Regs) (word : Nat) : s.storeEcc p k word false =
    ((s.wrP p (R.TL_STORE_STATUS_LAST_WORD k) word).wrP p (R.TL_STORE_STATUS_CORRECTED k)
      (satAdd (R.TL_STORE_STATUS_CORRECTED k).top (s.rdP p (R.TL_STORE_STATUS_CORRECTED k)) 1)).raise (planeMsg 7 k 1 p word) := by
  have hcount : (s.wrP p (R.TL_STORE_STATUS_LAST_WORD k) word).rdP p (R.TL_STORE_STATUS_CORRECTED k) = s.rdP p (R.TL_STORE_STATUS_CORRECTED k) :=
    State.rdP_wrP_apart h
  rw [← hcount]
  rfl

/-- What both kinds of error share: the word shows, the error shows in a field of bits above LAST_WORD, the message is raised. -/
theorem State.bankEvent_shows {word v : Nat} (m : FaultMsg) (h : s.Regs) (hword : word < 8192) (hv : v < 2 ^ (f.hi + 1 - f.lo))
    (hf : decide (f.hi < 32 ∧ f.lo ≤ f.hi) = true := by rfl) (habove : decide ((R.TL_STORE_STATUS_LAST_WORD k).hi < f.lo) = true := by rfl) :
    let t := ((s.wrP p (R.TL_STORE_STATUS_LAST_WORD k) word).wrP p f v).raise m
    t.rdP p (R.TL_STORE_STATUS_LAST_WORD k) = word ∧ t.rdP p f = v ∧ t.faults = { s.faults with incoming := s.faults.incoming ++ [m] } := by
  have hlast : (s.wrP p (R.TL_STORE_STATUS_LAST_WORD k) word).rdP p (R.TL_STORE_STATUS_LAST_WORD k) = word := State.rdP_wrP_of_lt h hword
  refine ⟨?_, ?_, rfl⟩
  · rw [State.rdP_raise, State.rdP_wrP_apart h.wrP hf (decide_eq_true ⟨Nat.zero_le _, .inl (of_decide_eq_true habove)⟩), hlast]
  · rw [State.rdP_raise, State.rdP_wrP_of_lt h.wrP hv hf]

/-! ### The rows -/

theorem exec_storeRoomReadEcc_clocked {word : Nat} (double : Bool) (hclocked : s.clocked = true) (hk : k < 80) (hword : word < 8192) :
    exec (.storeRoomReadEcc p k word double) s = .next (s.storeEcc p k word double) := by
  rw [exec_storeRoomReadEcc p k word double s (by simp [Instr.wf, isTile, hk, hword]), State.when, if_pos hclocked]

theorem refreshMiss_yields (hs : s.sound = true) (hclocked : s.clocked = true) (hk : k < 80) : Yields (.refreshMiss p k) s fun t =>
    t.rdP p (R.TL_STORE_STATUS_REFRESH_MISS k) = 1 ∧
      t.faults = { s.faults with incoming := s.faults.incoming ++ [planeMsg 7 k 3 p 0] } := by
  refine ⟨_, exec_refreshMiss p k s (by simp [Instr.wf, isTile, hk]), ?_⟩
  rw [State.when, if_pos hclocked, State.refreshMiss]
  refine ⟨?_, rfl⟩
  rw [State.rdP_raise]
  exact State.rdP_wrP_of_lt (State.sound_regs hs) (of_decide_eq_true rfl)

end

/-- Settles O33, row by row. -/
theorem storeRoomErrors : Obligations.StoreRoomErrors := by
  unfold Obligations.StoreRoomErrors
  intro s p k hs hclocked hk
  have hregs : s.Regs := State.sound_regs hs
  refine ⟨fun word hword => ⟨_, exec_storeRoomReadEcc_clocked true hclocked hk hword, ?_⟩,
    fun word hword => ⟨_, exec_storeRoomReadEcc_clocked false hclocked hk hword, ?_⟩, refreshMiss_yields hs hclocked hk⟩
  · rw [State.storeEcc_double]
    exact State.bankEvent_shows _ hregs hword (of_decide_eq_true rfl)
  · rw [State.storeEcc_single hregs]
    exact State.bankEvent_shows _ hregs hword (FieldAt.satAdd_top_lt _ _ _)

end Sys2Proof.Machine
end

section
/-! TESTS. A state that meets the hypotheses of the statement about the Store Room, and what it says of it. -/

namespace Sys2Proof.Machine

open Sys2Proof

/-- A running block; plane B's bank of the last tile has had 255 corrections, the most that CORRECTED counts. -/
def storeBlock : State := runningBlock.wrP .B (R.TL_STORE_STATUS_CORRECTED 79) 255

theorem storeBlock_sound : storeBlock.sound = true := by decide

theorem storeBlock_double :
    (Yields (.storeRoomReadEcc .A 0 0 true) storeBlock fun t => t.rdP .A (R.TL_STORE_STATUS_LAST_WORD 0) = 0 ∧
      t.rdP .A (R.TL_STORE_STATUS_UNCORR 0) = 1 ∧ t.faults.incoming = [planeMsg 7 0 2 .A 0]) ∧
    Yields (.storeRoomReadEcc .B 79 8191 true) storeBlock fun t => t.rdP .B (R.TL_STORE_STATUS_LAST_WORD 79) = 8191 ∧
      t.rdP .B (R.TL_STORE_STATUS_UNCORR 79) = 1 ∧ t.faults.incoming = [planeMsg 7 79 2 .B 8191] := by
  obtain ⟨first, -⟩ := storeRoomErrors storeBlock .A 0 storeBlock_sound (by decide) (by decide)
  obtain ⟨last, -⟩ := storeRoomErrors storeBlock .B 79 storeBlock_sound (by decide) (by decide)
  exact ⟨(first 0 (by decide)).imp fun _ ⟨hword, hshown, hfaults⟩ => ⟨hword, hshown, congrArg _ hfaults⟩,
    (last 8191 (by decide)).imp fun _ ⟨hword, hshown, hfaults⟩ => ⟨hword, hshown, congrArg _ hfaults⟩⟩

/-- The count of plane A's bank goes from 0 to 1, that of plane B's bank stays at 255. -/
theorem storeBlock_single :
    (Yields (.storeRoomReadEcc .A 79 8191 false) storeBlock fun t => t.rdP .A (R.TL_STORE_STATUS_LAST_WORD 79) = 8191 ∧
      t.rdP .A (R.TL_STORE_STATUS_CORRECTED 79) = 1) ∧
    Yields (.storeRoomReadEcc .B 79 0 false) storeBlock fun t => t.rdP .B (R.TL_STORE_STATUS_CORRECTED 79) = 255 ∧
      t.faults.incoming = [planeMsg 7 79 1 .B 0] := by
  obtain ⟨-, begins, -⟩ := storeRoomErrors storeBlock .A 79 storeBlock_sound (by decide) (by decide)
  obtain ⟨-, stays, -⟩ := storeRoomErrors storeBlock .B 79 storeBlock_sound (by decide) (by decide)
  exact ⟨(begins 8191 (by decide)).imp fun _ ⟨hword, hcount, _⟩ => ⟨hword, hcount.trans (by decide)⟩,
    (stays 0 (by decide)).imp fun _ ⟨_, hcount, hfaults⟩ => ⟨hcount.trans (by decide), congrArg _ hfaults⟩⟩

theorem storeBlock_refreshMiss :
    (Yields (.refreshMiss .A 0) storeBlock fun t => t.rdP .A (R.TL_STORE_STATUS_REFRESH_MISS 0) = 1) ∧
    Yields (.refreshMiss .B 79) storeBlock fun t => t.faults.incoming = [planeMsg 7 79 3 .B 0] := by
  obtain ⟨-, -, first⟩ := storeRoomErrors storeBlock .A 0 storeBlock_sound (by decide) (by decide)
  obtain ⟨-, -, last⟩ := storeRoomErrors storeBlock .B 79 storeBlock_sound (by decide) (by decide)
  exact ⟨first.imp fun _ ⟨hshown, _⟩ => hshown, last.imp fun _ ⟨_, hfaults⟩ => congrArg _ hfaults⟩

end Sys2Proof.Machine
end

section
/-! SUPPORT. The Stencil generators: a generator that stands at an instruction carries it out, and nothing happens where it does not stand (R185 to
R187). -/

namespace Sys2Proof.Machine

open Sys2Proof

/-! ### One generator's entry -/

section
variable {s : State} {i op w : Nat} {x : Gen}

theorem State.gen_updGen (f : Gen → Gen) (hi : i < s.gens.length) : (s.updGen i f).gen i = f (s.gen i) :=
  (getD_modAt _ _ _ _ _ hi).trans (if_pos rfl)

theorem State.sound_gens (hs : s.sound = true) (hi : i < 16) : i < s.gens.length := (State.sound_kept hs).gens ▸ hi

theorem State.canRun_iff : s.canRun i op = true ↔ ((s.gen i).running = true ∧ (s.gen i).idle < 64) ∧ opOf (s.genWord i) = op := by
  simp [State.canRun]

theorem State.canRun_of (hx : s.gen i = x) (hw : s.genWord i = w) (hrun : x.running = true) (hidle : x.idle < 64) (hop : opOf w = op) :
    s.canRun i op = true := State.canRun_iff.2 ⟨hx ▸ ⟨hrun, hidle⟩, hw ▸ hop⟩

theorem State.not_canRun_of (hw : s.genWord i = w) (hop : opOf w ≠ op) : ¬s.canRun i op = true :=
  fun hcan => hop (hw ▸ (State.canRun_iff.1 hcan).2)

/-! ### What an instruction does where the generator stands at it -/

/-- An instruction that works on the generator alone. -/
theorem runOp_yields {instr : Instr} {f : Nat → Gen → Gen} (he : exec instr s = .next (s.runOp i op f)) (hs : s.sound = true) (hi : i < 16)
    (hx : s.gen i = x) (hw : s.genWord i = w) (hcan : s.canRun i op = true) : Yields instr s fun t => t.gen i = f w x := by
  subst hx hw
  rw [State.runOp, if_pos hcan] at he
  exact ⟨_, he, State.gen_updGen _ (State.sound_gens hs hi)⟩

theorem Gen.jump_mod (x : Gen) (t : Nat) : x.jump (t % 256) = { x with pc := t % 256 } := by rw [Gen.jump, Nat.mod_mod]

/-- LDC and LOOP work on the counter that bit 24 names. -/
theorem genLdc_c0 (hc : w.testBit 24 = false) (x : Gen) :
    genLdc w x = { x with c0 := w % 65536, idle := x.idle + 1, pc := (x.pc + 1) % 256 } := by
  rw [genLdc, hc]
  rfl

theorem genLdc_c1 (hc : w.testBit 24 = true) (x : Gen) :
    genLdc w x = { x with c1 := w % 65536, idle := x.idle + 1, pc := (x.pc + 1) % 256 } := by
  rw [genLdc, hc]
  rfl

/-- LOOP goes on where its counter has come to 0, and jumps where it has not. -/
theorem Gen.jump_unless (c w : Nat) (x : Gen) : (if c = 0 then x.quiet.step else x.quiet.jump (w % 256)) =
    { x with idle := x.idle + 1, pc := if c = 0 then (x.pc + 1) % 256 else w % 256 } := by
  split
  · rfl
  · exact Gen.jump_mod _ w

theorem genLoop_c0 (hc : w.testBit 24 = false) (x : Gen) : genLoop w x = { x with
    c0 := (x.c0 + 65535) % 65536, idle := x.idle + 1, pc := if (x.c0 + 65535) % 65536 = 0 then (x.pc + 1) % 256 else w % 256 } := by
  rw [genLoop, hc]
  exact Gen.jump_unless _ w { x with c0 := (x.c0 + 65535) % 65536 }

theorem genLoop_c1 (hc : w.testBit 24 = true) (x : Gen) : genLoop w x = { x with
    c1 := (x.c1 + 65535) % 65536, idle := x.idle + 1, pc := if (x.c1 + 65535) % 65536 = 0 then (x.pc + 1) % 256 else w % 256 } := by
  rw [genLoop, hc]
  exact Gen.jump_unless _ w { x with c1 := (x.c1 + 65535) % 65536 }

/-! ### Branches and waits -/

theorem State.genBr_true (hcan : s.canRun i 0x0B = true) (htest : s.tested i (s.genWord i) = some true) :
    s.genBr i = s.updGen i fun x => x.quiet.jump (s.genWord i % 256) := by
  unfold State.genBr
  rw [if_pos hcan]
  simp only [htest]

theorem State.genBr_false (hcan : s.canRun i 0x0B = true) (htest : s.tested i (s.genWord i) = some false) :
    s.genBr i = s.updGen i fun x => x.quiet.step := by
  unfold State.genBr
  rw [if_pos hcan]
  simp only [htest]

theorem State.genWait_true (hcan : s.canRun i 0x0C = true) (htest : s.tested i (s.genWord i) = some true) :
    s.genWait i = s.updGen i fun x => x.quiet.step := by
  unfold State.genWait
  rw [if_pos hcan]
  simp only [htest]

theorem State.genWait_false (hcan : s.canRun i 0x0C = true) (htest : s.tested i (s.genWord i) = some false) :
    s.genWait i = (s.updGen i fun x => x.emit [asr x.a 16]).showNative i := by
  unfold State.genWait
  rw [if_pos hcan]
  simp only [htest]

/-! ### What stops a program -/

theorem State.genIllegal_of (hx : s.gen i = x) (hrun : x.running = true) (hidle : x.idle < 64) (hop : 0x0D ≤ opOf (s.genWord i)) :
    s.genIllegal i = (s.stopGen i 3).raise { cls := 11, inst := i, kind := 1, plane := i / 8, addr := x.pc } := by
  subst hx
  exact if_pos (by simp [hrun, hidle, hop])

theorem State.genIllegal_of_legal (hop : opOf (s.genWord i) < 0x0D) : s.genIllegal i = s := if_neg (by simp [hop])

theorem State.genRunaway_of (hx : s.gen i = x) (hrun : x.running = true) (hidle : 64 ≤ x.idle) :
    s.genRunaway i = (s.stopGen i 4).raise { cls := 11, inst := i, kind := 2, plane := i / 8, addr := x.pc } := by
  subst hx
  exact if_pos (by simp [hrun, hidle])

theorem State.genRunaway_of_idle (hidle : (s.gen i).idle < 64) : s.genRunaway i = s := if_neg (by simp [hidle])

/-- A generator that stops with a cause keeps the rest of what it holds; its message is raised. -/
theorem stopGen_raise_yields {instr : Instr} {cause : Nat} {m : FaultMsg} (he : exec instr s = .next ((s.stopGen i cause).raise m))
    (hs : s.sound = true) (hi : i < 16) (hx : s.gen i = x) : Yields instr s fun t =>
      t.gen i = { x with running := false, cause := cause } ∧ t.faults = { s.faults with incoming := s.faults.incoming ++ [m] } := by
  subst hx
  exact ⟨_, he, State.gen_updGen _ (State.sound_gens hs hi), rfl⟩

/-- What a change of the one generator gives it. -/
theorem updGen_yields {instr : Instr} {f : Gen → Gen} (he : exec instr s = .next (s.updGen i f)) (hs : s.sound = true) (hi : i < 16)
    (hx : s.gen i = x) : Yields instr s fun t => t.gen i = f x := by
  subst hx
  exact ⟨_, he, State.gen_updGen _ (State.sound_gens hs hi)⟩

end

/-- Settles O37, instruction by instruction. That bits which R186 does not name are ignored is the reading of log entry 86. -/
theorem generatorRegisters : Obligations.GeneratorRegisters := by
  unfold Obligations.GeneratorRegisters
  intro s i w x hs hi hx hw hrun hidle
  have hinst : isInst i = true := decide_eq_true hi
  have hcan {op : Nat} (hop : opOf w = op) : s.canRun i op = true := State.canRun_of hx hw hrun hidle hop
  have hldc : opOf w = 0x08 → Yields (.ldc i) s fun t => t.gen i = genLdc w x :=
    fun hop => runOp_yields (exec_ldc i s hinst) hs hi hx hw (hcan hop)
  have hloop : opOf w = 0x09 → Yields (.loop i) s fun t => t.gen i = genLoop w x :=
    fun hop => runOp_yields (exec_loop i s hinst) hs hi hx hw (hcan hop)
  refine ⟨fun hop => ?_, fun hop => runOp_yields (exec_lda i s hinst) hs hi hx hw (hcan hop),
    fun hop => runOp_yields (exec_ldd i s hinst) hs hi hx hw (hcan hop), fun hop => runOp_yields (exec_adda i s hinst) hs hi hx hw (hcan hop),
    fun hop hc => ?_, fun hop hc => ?_, fun hop hc => ?_, fun hop hc => ?_, fun hop => ?_⟩
  · have hstop : s.genStop i = s.stopGen i 1 := if_pos (hcan hop)
    exact updGen_yields ((exec_stop i s hinst).trans (congrArg _ hstop)) hs hi hx
  · rw [← genLdc_c0 hc]
    exact hldc hop
  · rw [← genLdc_c1 hc]
    exact hldc hop
  · rw [← genLoop_c0 hc]
    exact hloop hop
  · rw [← genLoop_c1 hc]
    exact hloop hop
  · exact (runOp_yields (exec_jmp i s hinst) hs hi hx hw (hcan hop)).imp fun _ ht => ht.trans (Gen.jump_mod _ w)

/-- Settles O39. A condition that no boundary has latched yet decides nothing (R187); that bits which R186 does not name are ignored, and that an EVT
argument out of range is false, is the reading of log entry 86. -/
theorem generatorBranches : Obligations.GeneratorBranches := by
  unfold Obligations.GeneratorBranches
  intro s i w x hs hi hx hw hrun
  have hinst : isInst i = true := decide_eq_true hi
  have hcan {op : Nat} (hidle : x.idle < 64) (hop : opOf w = op) : s.canRun i op = true := State.canRun_of hx hw hrun hidle hop
  have hbr := exec_br i s hinst
  have hwait := exec_wait i s hinst
  have hillegal := exec_illegal i s hinst
  have hrunaway := exec_runaway i s hinst
  subst hw
  refine ⟨fun hidle hop htest => ?_, fun hidle hop htest => ?_, fun hidle hop htest => ?_, fun hidle hop htest => ?_, fun hidle hop => ?_,
    fun hidle => ?_, fun hop => ?_, fun hop => ?_, fun hop => ?_, fun hidle => ?_⟩
  · rw [State.genBr_true (hcan hidle hop) htest] at hbr
    exact (updGen_yields hbr hs hi hx).imp fun _ ht => ht.trans (Gen.jump_mod _ _)
  · rw [State.genBr_false (hcan hidle hop) htest] at hbr
    exact updGen_yields hbr hs hi hx
  · rw [State.genWait_true (hcan hidle hop) htest] at hwait
    exact updGen_yields hwait hs hi hx
  · subst hx
    rw [State.genWait_false (hcan hidle hop) htest] at hwait
    exact ⟨_, hwait, State.gen_updGen _ (State.sound_gens hs hi)⟩
  · rw [State.genIllegal_of hx hrun hidle hop] at hillegal
    exact stopGen_raise_yields hillegal hs hi hx
  · rw [State.genRunaway_of hx hrun hidle] at hrunaway
    exact stopGen_raise_yields hrunaway hs hi hx
  · rw [hbr, State.genBr, if_neg (State.not_canRun_of rfl hop)]
  · rw [hwait, State.genWait, if_neg (State.not_canRun_of rfl hop)]
  · rw [hillegal, State.genIllegal_of_legal hop]
  · rw [hrunaway, State.genRunaway_of_idle (hx ▸ hidle)]

end Sys2Proof.Machine
end

section
/-! TESTS. Programs that meet the hypotheses of the statements about the generators' instructions, and what those say of them. -/

namespace Sys2Proof.Machine

open Sys2Proof

/-- The last generator of plane B stands at the last word of its program, which is `w`. -/
def programBlock (w : Nat) (x : Gen) : State :=
  { runningBlock.setWordP .B (A.ST_PROG 7 255) w with gens := List.replicate 15 {} ++ [{ x with running := true, pc := 255 }] }

/-- STOP, after 63 instructions that emit nothing. -/
theorem programBlock_stop : Yields (.stop 15) (programBlock 0 { idle := 63 }) fun t =>
    t.gen 15 = { running := false, cause := 1, pc := 255, idle := 63 } := by
  obtain ⟨halts, -⟩ := generatorRegisters (programBlock 0 { idle := 63 }) 15 0 _ (by decide) (by decide) rfl (by decide) rfl (by decide)
  exact halts rfl

/-- LDA of the least value; the program wraps around. -/
theorem programBlock_lda : Yields (.lda 15) (programBlock 0x08008000 {}) fun t =>
    t.gen 15 = { running := true, a := -2 ^ 31, idle := 1, pc := 0 } := by
  obtain ⟨-, lda, -⟩ := generatorRegisters (programBlock 0x08008000 {}) 15 0x08008000 _ (by decide) (by decide) rfl (by decide) rfl (by decide)
  exact lda rfl

/-- ADDA stops at the greatest value. -/
theorem programBlock_adda : Yields (.adda 15) (programBlock 0x187fffff { a := 2 ^ 31 - 1 }) fun t =>
    t.gen 15 = { running := true, a := 2 ^ 31 - 1, idle := 1, pc := 0 } := by
  obtain ⟨-, -, -, adda, -⟩ := generatorRegisters (programBlock 0x187fffff { a := 2 ^ 31 - 1 }) 15 0x187fffff _ (by decide) (by decide) rfl
    (by decide) rfl (by decide)
  exact adda rfl

/-- LOOP of C1: from 0 the counter goes to 65,535 and the program jumps, from 1 to 0 and the program goes on. -/
theorem programBlock_loop :
    (Yields (.loop 15) (programBlock 0x490000fe {}) fun t => t.gen 15 = { running := true, c1 := 65535, idle := 1, pc := 254 }) ∧
    Yields (.loop 15) (programBlock 0x490000fe { c1 := 1 }) fun t => t.gen 15 = { running := true, c1 := 0, idle := 1, pc := 0 } := by
  obtain ⟨-, -, -, -, -, -, -, jumps, -⟩ := generatorRegisters (programBlock 0x490000fe {}) 15 0x490000fe { running := true, pc := 255 }
    (by decide) (by decide) rfl (by decide) rfl (by decide)
  obtain ⟨-, -, -, -, -, -, -, ends, -⟩ := generatorRegisters (programBlock 0x490000fe { c1 := 1 }) 15 0x490000fe
    { running := true, pc := 255, c1 := 1 } (by decide) (by decide) rfl (by decide) rfl (by decide)
  exact ⟨(jumps rfl rfl).imp fun _ ht => ht.trans (by simp), (ends rfl rfl).imp fun _ ht => ht.trans (by simp)⟩

/-- BR on condition 3, which is true at the boundary that decides it; with NEG it goes on. -/
theorem programBlock_br :
    (Yields (.br 15) (programBlock 0x5b0000fe { conds := [(0, 8)] }) fun t =>
      t.gen 15 = { running := true, conds := [(0, 8)], idle := 1, pc := 254 }) ∧
    Yields (.br 15) (programBlock 0x5f0000fe { conds := [(0, 8)] }) fun t =>
      t.gen 15 = { running := true, conds := [(0, 8)], idle := 1, pc := 0 } := by
  obtain ⟨jumps, -⟩ := generatorBranches (programBlock 0x5b0000fe { conds := [(0, 8)] }) 15 0x5b0000fe _ (by decide) (by decide) rfl
    (by decide) rfl
  obtain ⟨-, goes, -⟩ := generatorBranches (programBlock 0x5f0000fe { conds := [(0, 8)] }) 15 0x5f0000fe _ (by decide) (by decide) rfl
    (by decide) rfl
  exact ⟨jumps (by decide) rfl (by decide), goes (by decide) rfl (by decide)⟩

/-- WAIT for condition 0, which is false: one sample, A's upper half, and the count of silent instructions starts again. -/
theorem programBlock_wait : Yields (.wait 15) (programBlock 0x60000000 { a := -1, idle := 63, conds := [(0, 14)] }) fun t =>
    t.gen 15 = { running := true, a := -1, samples := [-1], last := -1, conds := [(0, 14)], pc := 255 } := by
  obtain ⟨-, -, -, waits, -⟩ := generatorBranches (programBlock 0x60000000 { a := -1, idle := 63, conds := [(0, 14)] }) 15 0x60000000 _
    (by decide) (by decide) rfl (by decide) rfl
  exact waits (by decide) rfl (by decide)

/-- Opcode 0x0D is illegal after 63 silent instructions; after 64 the program has run away whatever it stands at. -/
theorem programBlock_stopped :
    (Yields (.illegal 15) (programBlock 0x68000000 { idle := 63 }) fun t => (t.gen 15).cause = 3 ∧
      t.faults.incoming = [{ cls := 11, inst := 15, kind := 1, plane := 1, addr := 255 }]) ∧
    Yields (.runaway 15) (programBlock 0x68000000 { idle := 64 }) fun t => (t.gen 15).cause = 4 ∧
      t.faults.incoming = [{ cls := 11, inst := 15, kind := 2, plane := 1, addr := 255 }] := by
  obtain ⟨-, -, -, -, illegal, -⟩ := generatorBranches (programBlock 0x68000000 { idle := 63 }) 15 0x68000000 _ (by decide) (by decide) rfl
    (by decide) rfl
  obtain ⟨-, -, -, -, -, runaway, -⟩ := generatorBranches (programBlock 0x68000000 { idle := 64 }) 15 0x68000000 _ (by decide) (by decide) rfl
    (by decide) rfl
  exact ⟨(illegal (by decide) (by decide)).imp fun _ ⟨hgen, hfaults⟩ => ⟨congrArg Gen.cause hgen, congrArg _ hfaults⟩,
    (runaway (by decide)).imp fun _ ⟨hgen, hfaults⟩ => ⟨congrArg Gen.cause hgen, congrArg _ hfaults⟩⟩

/-- Opcode 0x0C is legal, and no BR; after 63 silent instructions the program has not run away. -/
theorem programBlock_elsewhere :
    exec (.illegal 15) (programBlock 0x60000000 { idle := 63 }) = .next (programBlock 0x60000000 { idle := 63 }) ∧
    exec (.br 15) (programBlock 0x60000000 { idle := 63 }) = .next (programBlock 0x60000000 { idle := 63 }) ∧
    exec (.runaway 15) (programBlock 0x60000000 { idle := 63 }) = .next (programBlock 0x60000000 { idle := 63 }) := by
  obtain ⟨-, -, -, -, -, -, br, -, illegal, runaway⟩ := generatorBranches (programBlock 0x60000000 { idle := 63 }) 15 0x60000000 _
    (by decide) (by decide) rfl (by decide) rfl
  exact ⟨illegal (by decide), br (by decide), runaway (by decide)⟩

end Sys2Proof.Machine
end

section
/-! SUPPORT. Memory tests: a write of MT_CTRL stores its settings and starts or aborts a test, and a test ends with its result (R191 to R193). -/

namespace Sys2Proof.Machine

open Sys2Proof

/-! ### Words and fields of one plane -/

section
variable {s t : State} {p q : Plane} {f g : FieldAt} {a v : Nat}

theorem State.rdP_lt (s : State) (p : Plane) (f : FieldAt) : s.rdP p f < 2 ^ (f.hi + 1 - f.lo) := Nat.mod_lt _ (Nat.two_pow_pos _)

theorem State.Regs.setWordP (h : s.Regs) : (s.setWordP p a v).Regs := by
  cases p
  · exact ⟨h.shared, smSet_wf _ _ _ _ h.privA, h.privB⟩
  · exact ⟨h.shared, h.privA, smSet_wf _ _ _ _ h.privB⟩

theorem State.rdP_setWordP_addr (h : s.Regs) (ha : g.addr ≠ a) : (s.setWordP p a v).rdP q g = s.rdP q g := by
  rw [State.rdP, State.wordP_setWordP _ _ _ _ _ _ (h.file p), if_neg fun e => ha e.2, State.rdP]

theorem State.wordP_wrP_addr (h : s.Regs) (ha : a ≠ f.addr) : (s.wrP p f v).wordP q a = s.wordP q a := by
  rw [State.wrP, State.wordP_setWordP _ _ _ _ _ _ (h.file p), if_neg fun e => ha e.2]

@[simp] theorem State.wrP_faults (s : State) (p : Plane) (f : FieldAt) (v : Nat) : (s.wrP p f v).faults = s.faults := rfl

@[simp] theorem State.wordP_raise (s : State) (m : FaultMsg) (p : Plane) (a : Nat) : (s.raise m).wordP p a = s.wordP p a := rfl

theorem State.rdP_wrP_plane (h : s.Regs) (hq : q ≠ p) : (s.wrP p f v).rdP q g = s.rdP q g := by
  rw [State.rdP, State.wrP, State.wordP_setWordP _ _ _ _ _ _ (h.file p), if_neg fun e => hq e.1, State.rdP]

/-! ### The word of a write -/

/-- The word that leaves a register's settings as they stand has 0 in every field that is no setting. -/
theorem State.get_restWord {h : RegHit} (hat : regAt a = some h)
    (hg : ∀ f ∈ h.spec.fields, f.acc = .rw → g.lo ≤ g.hi ∧ f.lo ≤ f.hi ∧ (g.hi < f.lo ∨ f.hi < g.lo)) : g.get (s.restWord a) = 0 := by
  simp only [State.restWord, hat]
  refine List.foldlRecOn (motive := fun w => g.get w = 0) _ _ (by simp [FieldAt.get, bits]) fun w hw f hf => ?_
  split
  case isTrue hrw =>
    obtain ⟨hgle, hfle, hapart⟩ := hg f hf hrw
    rcases hapart with hbelow | habove
    · exact (bits_putBits_below _ _ _ _ _ _ hbelow hgle).trans hw
    · exact (bits_putBits_above _ _ _ _ _ _ habove hfle).trans hw
  case isFalse => exact hw

theorem testBit_iff_bits (w k : Nat) : w.testBit k = true ↔ bits w k k = 1 := by
  rw [Nat.testBit_eq_decide_div_mod_eq, decide_eq_true_iff, bits, Nat.add_sub_cancel_left, Nat.pow_one]

end

/-! ### The settings of MT_CTRL -/

/-- The entry of MT_CTRL in the table of chapter 7. -/
def mtCtrlSpec : RegSpec := ⟨.MT_CTRL, 0xa0500, [], .privOwn,
  [⟨31, 31, .w1s, .live, 0, .number, false⟩, ⟨30, 30, .w1s, .live, 0, .number, false⟩, ⟨29, 28, .rw, .quiesced, 0, .number, false⟩,
   ⟨27, 26, .rw, .quiesced, 1, .number, false⟩, ⟨25, 24, .rw, .quiesced, 0, .number, false⟩, ⟨23, 21, .rw, .quiesced, 0, .number, false⟩,
   ⟨20, 20, .rw, .quiesced, 0, .number, false⟩, ⟨19, 13, .rw, .quiesced, 0, .number, false⟩,
   ⟨12, 8, .rw, .quiesced, 0xc, .number, false⟩]⟩

theorem regAt_mtCtrl : regAt A.MT_CTRL = some ⟨mtCtrlSpec, []⟩ := by decide

/-- The settings of MT_CTRL, which a write stores. -/
def mtSettings : List FieldAt :=
  [R.MT_CTRL_TARGET, R.MT_CTRL_ALG, R.MT_CTRL_BG, R.MT_CTRL_GEN, R.MT_CTRL_BANK_PLANE, R.MT_CTRL_TILE, R.MT_CTRL_SIZE_LOG2]

theorem mtSettings_addr : ∀ f ∈ mtSettings, f.addr = A.MT_CTRL := by decide
theorem mtSettings_bits : ∀ f ∈ mtSettings, f.hi < 32 ∧ f.lo ≤ f.hi := by decide
theorem mtSettings_apart : ∀ f ∈ mtSettings, ∀ g ∈ mtSettings, g ≠ f → g.hi < f.lo ∨ f.hi < g.lo := by decide

section
variable {s t : State} {r : Requester} {p q : Plane} {f g : FieldAt} {w : Nat}

/-- The settings of the word stand in the planes that the requester's plane select gives. -/
def State.mtSet (s : State) (r : Requester) (w : Nat) : State :=
  s.over mtSettings fun s f => s.over (s.ownPlanes r) fun s p => s.wrP p f (f.get w)

def State.mtStarts (s : State) (r : Requester) : State := s.over (s.ownPlanes r) fun s p => s.mtStart p s.pl.ret.isNone s.pw.wake.isNone

def State.mtAborts (s : State) (r : Requester) : State := s.over (s.ownPlanes r) State.mtAbort

/-- A field that a write stores goes to the requester's planes; START and ABORT are no such fields. -/
theorem State.putField_mtCtrl {c : Bool} {x : FieldSpec} (hx : x ∈ mtCtrlSpec.fields) : s.putField r ⟨mtCtrlSpec, []⟩ A.MT_CTRL w c x =
    if x.acc = .rw then s.over (s.ownPlanes r) fun s p => s.wrP p (x.loc A.MT_CTRL) ((x.loc A.MT_CTRL).get w) else s := by
  have hcls : ∀ x ∈ mtCtrlSpec.fields, x.cls ≠ .framed ∧ x.acc ≠ .w1c := by decide
  obtain ⟨hframed, hw1c⟩ := hcls x hx
  by_cases hrw : x.acc = .rw
  · rw [if_pos hrw]
    simp [State.putField, hrw, hframed, mtCtrlSpec, State.storeField]
  · rw [if_neg hrw, State.putField]
    split
    case h_1 hacc => exact absurd hacc hrw
    case h_2 hacc => exact absurd hacc hw1c
    case h_3 => rfl

theorem State.putFields_mtCtrl {c : Bool} :
    mtCtrlSpec.fields.foldl (fun (s : State) x => s.putField r ⟨mtCtrlSpec, []⟩ A.MT_CTRL w c x) s = s.mtSet r w := by
  have hsettings : mtSettings = (mtCtrlSpec.fields.filter fun x => decide (x.acc = .rw)).map (·.loc A.MT_CTRL) := by decide
  rw [State.mtSet, State.over, hsettings, List.foldl_map, List.foldl_filter]
  refine List.foldl_ext _ _ _ fun u x hx => ?_
  simp only [State.putField_mtCtrl hx, decide_eq_true_eq]

theorem State.writeOne_mtCtrl {carry : Nat → Bool} : s.writeOne r carry A.MT_CTRL w =
    (((s.dropHeld r).mtSet r w).when (w.testBit 31) (·.mtStarts r)).when (w.testBit 30) (·.mtAborts r) := by
  have hcapture : inCapture A.MT_CTRL = false := rfl
  have haction (u : State) :
      u.writeAction r ⟨mtCtrlSpec, []⟩ w = (u.when (w.testBit 31) (·.mtStarts r)).when (w.testBit 30) (·.mtAborts r) := rfl
  unfold State.writeOne
  rw [hcapture, regAt_mtCtrl, ← haction, ← State.putFields_mtCtrl]
  rfl

/-- A write of MT_CTRL that is permitted stores the settings, starts a test and aborts one, as its bits say. -/
theorem State.writeFields_mtCtrl {l : List (FieldAt × Nat)} (hw : s.setting A.MT_CTRL l = w) (hmay : s.mayWrite r A.MT_CTRL w = true) :
    s.writeFields r A.MT_CTRL l =
      ((((s.dropHeld r).mtSet r w).when (w.testBit 31) (·.mtStarts r)).when (w.testBit 30) (·.mtAborts r)).noteStatus r Code.ok := by
  subst hw
  have hwrite : s.writeFields r A.MT_CTRL l = s.regWrite r A.MT_CTRL [s.setting A.MT_CTRL l] := rfl
  rw [hwrite, State.regWrite_word hmay (by simp [State.requested, regAt_mtCtrl, mtCtrlSpec])
    (by simp [guardWord, regAt_mtCtrl, mtCtrlSpec, guardReg]) (by simp [windowLane, regAt_mtCtrl, mtCtrlSpec]), State.writeOne_mtCtrl]

/-- Storing settings changes the planes' own registers alone. -/
theorem State.mtSet_same : Same (partMask [.privA, .privB]) s (s.mtSet r w) :=
  State.over_same (fun _ _ hu => State.over_same (fun _ _ hv => State.wrP_same hv (by decide)) hu) same_refl

/-- A field of another register, or a setting that the word leaves as it stands, reads as before. -/
theorem State.mtSet_reads (h : s.Regs) (hg : g.addr ≠ A.MT_CTRL ∨ g ∈ mtSettings ∧ g.get w = s.rdP p g) :
    (s.mtSet r w).Regs ∧ (s.mtSet r w).rdP p g = s.rdP p g := by
  refine List.foldlRecOn (motive := fun u : State => u.Regs ∧ u.rdP p g = s.rdP p g) _ _ ⟨h, rfl⟩ fun u hu f hf => ?_
  refine List.foldlRecOn (motive := fun u : State => u.Regs ∧ u.rdP p g = s.rdP p g) _ _ hu fun v ⟨hv, hread⟩ q _ => ⟨hv.wrP, ?_⟩
  rw [← hread]
  obtain ⟨hhi, hlo⟩ := mtSettings_bits f hf
  rcases hg with haddr | ⟨hg, hkeeps⟩
  · exact State.rdP_wrP_addr _ _ _ _ _ hv (mtSettings_addr f hf ▸ haddr)
  · by_cases hgf : g = f
    · subst hgf
      rw [State.rdP_wrP _ _ _ _ hv hhi hlo, hkeeps, hread, Nat.mod_eq_of_lt (s.rdP_lt p g), ite_self]
    · exact State.rdP_wrP_bits _ _ _ _ _ hv hhi hlo (mtSettings_bits g hg).2 (mtSettings_apart f hf g hg hgf)

theorem State.Regs.mtSet (h : s.Regs) : (s.mtSet r w).Regs := (State.mtSet_reads (p := .A) (g := R.MT_STATUS_BUSY) h (.inl (by decide))).1

theorem State.mtBusy_mtSet (h : s.Regs) : (s.mtSet r w).mtBusy p = s.mtBusy p := by
  rw [State.mtBusy, (State.mtSet_reads h (.inl (by decide))).2, State.mtBusy]

theorem State.ownPlanes_mtSet : (s.mtSet r w).ownPlanes r = s.ownPlanes r := by
  have hsel : (s.mtSet r w).planeSel r = s.planeSel r := by
    rw [State.planeSel, (State.mtSet_same .access (by decide)).1, State.planeSel]
  have hactive : (s.mtSet r w).active = s.active := State.active_of_rd (State.rd_of_same _ State.mtSet_same (by decide))
  rw [State.ownPlanes, State.selPlane, hsel, hactive, State.ownPlanes, State.selPlane]

end

/-! ### The cause of a refusal -/

section
variable {s t : State} {r : Requester} {p q : Plane} {f g : FieldAt} {w : Nat} {a b : Bool}

/-- The settings on which the condition of R191 rests. -/
def mtConditions : List FieldAt := [R.MT_CTRL_TARGET, R.MT_CTRL_GEN, R.MT_CTRL_BANK_PLANE, R.MT_CTRL_TILE, R.MT_CTRL_SIZE_LOG2]

theorem mtConditions_settings : ∀ f ∈ mtConditions, f ∈ mtSettings := by decide

theorem State.mtCause_le : s.mtCause p a b ≤ 4 := by
  unfold State.mtCause
  extract_lets lo size target
  have htarget : target ≤ 3 := by
    show (match _ with | 0 => _ | 1 => _ | 2 => _ | _ => _) ≤ 3
    repeat' split
    all_goals omega
  split
  · omega
  · split <;> omega

/-- The cause rests on the settings, the base, the tests that run, and on parts that no settings change. -/
theorem State.mtCause_congr (hsame : Same (partMask [.privA, .privB]) s t) (hset : ∀ f ∈ mtConditions, t.rdP p f = s.rdP p f)
    (hbase : t.rdP p R.MT_BASE_BASE = s.rdP p R.MT_BASE_BASE) (hbusy : ∀ q, t.mtBusy q = s.mtBusy q) : t.mtCause p a b = s.mtCause p a b := by
  have hrd : t.rd = s.rd := funext fun f => State.rd_of_same f hsame (by decide)
  have hhealth : t.health = s.health := by unfold State.health; rw [hrd]
  have hrunning : t.running = s.running := by unfold State.running State.on; rw [hrd]
  have hfirst : t.bufBase = s.bufBase := by unfold State.bufBase; rw [hrd]
  have hlength : t.bufSize = s.bufSize := by unfold State.bufSize; rw [hrd]
  have hgens : t.gen = s.gen := by unfold State.gen; rw [show t.gens = s.gens from hsame .gens (by decide)]
  have hpower : t.power = s.power := hsame .power (by decide)
  simp only [mtConditions, List.forall_mem_cons] at hset
  obtain ⟨htarget, hgen, hplane, htile, hsize, -⟩ := hset
  rw [State.mtCause, htarget, hgen, hplane, htile, hsize, hbase, hbusy, hbusy, hhealth, hrunning, hfirst, hlength, hgens, hpower, State.mtCause]

theorem State.mtCause_mtSet (h : s.Regs) (hkeeps : ∀ f ∈ mtConditions, f.get w = s.rdP p f) :
    (s.mtSet r w).mtCause p a b = s.mtCause p a b :=
  State.mtCause_congr State.mtSet_same (fun f hf => (State.mtSet_reads h (.inr ⟨mtConditions_settings f hf, hkeeps f hf⟩)).2)
    (State.mtSet_reads h (.inl (by decide))).2 fun _ => State.mtBusy_mtSet h

/-! ### START -/

theorem genInst_lt {n : Nat} (p : Plane) (hn : n < 8) : genInst p n < 16 := by
  unfold genInst
  cases p <;> simp only [planeBit] <;> omega

theorem State.genInst_rdP_lt (s : State) (p q : Plane) : genInst p (s.rdP q R.MT_CTRL_GEN) < 16 := genInst_lt p (s.rdP_lt q R.MT_CTRL_GEN)

/-- The result of an earlier test is cleared; a test runs. -/
def State.mtCleared (s : State) (p : Plane) : State :=
  (((s.setWordP p A.MT_STATUS (2 ^ 31)).setWordP p A.MT_FAIL_ADDR 0).setWordP p A.MT_FAIL_BITS 0).setWordP p A.MT_FAIL_CHECK 0

theorem State.mtBusy_mtCleared (h : s.Regs) : (s.mtCleared p).rdP p R.MT_STATUS_BUSY = 1 := by
  rw [State.mtCleared, State.rdP_setWordP_addr h.setWordP.setWordP.setWordP (by decide), State.rdP_setWordP_addr h.setWordP.setWordP (by decide),
    State.rdP_setWordP_addr h.setWordP (by decide), State.rdP, State.wordP_setWordP _ _ _ _ _ _ (h.file p), if_pos ⟨rfl, rfl⟩]
  rfl

theorem State.rdP_mtCleared_gen (h : s.Regs) : (s.mtCleared p).rdP p R.MT_CTRL_GEN = s.rdP p R.MT_CTRL_GEN := by
  rw [State.mtCleared, State.rdP_setWordP_addr h.setWordP.setWordP.setWordP (by decide), State.rdP_setWordP_addr h.setWordP.setWordP (by decide),
    State.rdP_setWordP_addr h.setWordP (by decide), State.rdP_setWordP_addr h (by decide)]

/-- A test that begins shows BUSY and has its generator. -/
theorem State.mtStart_begins (h : s.Regs) (hgens : s.gens.length = 16) (hcause : s.mtCause p a b = 0) :
    (s.mtStart p a b).rdP p R.MT_STATUS_BUSY = 1 ∧ ((s.mtStart p a b).gen (genInst p (s.rdP p R.MT_CTRL_GEN))).mtest = true := by
  have hstart : s.mtStart p a b = (s.mtCleared p).updGen (genInst p ((s.mtCleared p).rdP p R.MT_CTRL_GEN)) fun x => { x with mtest := true } :=
    if_pos hcause
  have hlen : genInst p (s.rdP p R.MT_CTRL_GEN) < (s.mtCleared p).gens.length := hgens ▸ s.genInst_rdP_lt p p
  rw [hstart, State.rdP_mtCleared_gen h, State.gen_updGen _ hlen]
  exact ⟨State.mtBusy_mtCleared h, rfl⟩

/-- A test that is refused shows its cause. -/
theorem State.mtStart_refuses (h : s.Regs) (hcause : s.mtCause p a b ≠ 0) :
    (s.mtStart p a b).rdP p R.MT_STATUS_REFUSED = 1 ∧ (s.mtStart p a b).rdP p R.MT_STATUS_CAUSE = s.mtCause p a b := by
  have hstart : s.mtStart p a b = (s.wrP p R.MT_STATUS_REFUSED 1).wrP p R.MT_STATUS_CAUSE (s.mtCause p a b) := if_neg hcause
  have hfits : s.mtCause p a b < 8 := Nat.lt_of_le_of_lt State.mtCause_le (by decide)
  rw [hstart]
  exact ⟨(State.rdP_wrP_apart h.wrP).trans (State.rdP_wrP_of_lt h (of_decide_eq_true rfl)), State.rdP_wrP_of_lt h.wrP hfits⟩

/-! ### The end of a test -/

/-- What a test leaves undefined is no register. -/
theorem State.mtLeaves_keeps : Same (partMask [.cap, .free]) s (s.mtLeaves p) := State.mtLeaves_same same_refl (by decide)

theorem State.Regs.mtLeaves (h : s.Regs) : (s.mtLeaves p).Regs :=
  State.regs_of_same State.mtLeaves_keeps (by decide) (by decide) (by decide) h

theorem State.Regs.mtEnd (h : s.Regs) : (s.mtEnd p).Regs :=
  have hbusy : ((s.mtLeaves p).wrP p R.MT_STATUS_BUSY 0).Regs := h.mtLeaves.wrP
  ⟨hbusy.shared, hbusy.privA, hbusy.privB⟩

theorem State.mtBusy_mtEnd (h : s.Regs) : (s.mtEnd p).rdP p R.MT_STATUS_BUSY = 0 :=
  State.rdP_wrP_of_lt (s := s.mtLeaves p) h.mtLeaves (of_decide_eq_true rfl)

/-- The registers of the other plane read as before. -/
theorem State.rdP_mtEnd_plane (h : s.Regs) (hq : q ≠ p) : (s.mtEnd p).rdP q g = s.rdP q g :=
  (State.rdP_wrP_plane (s := s.mtLeaves p) h.mtLeaves hq).trans (State.rdP_of_same q g State.mtLeaves_keeps (by decide) (by decide))

theorem State.rdP_mtEnd_addr (h : s.Regs) (hg : g.addr ≠ A.MT_STATUS) : (s.mtEnd p).rdP q g = s.rdP q g :=
  (State.rdP_wrP_addr p q R.MT_STATUS_BUSY g 0 h.mtLeaves hg).trans (State.rdP_of_same q g State.mtLeaves_keeps (by decide) (by decide))

theorem State.mtEnd_faults : (s.mtEnd p).faults = s.faults :=
  State.mtEnd_same (o := partMask [.privA, .privB, .cap, .gens, .free]) same_refl (by decide) .faults (by decide)

/-! ### ABORT -/

theorem State.mtAbort_ends (h : s.Regs) (hbusy : s.mtBusy p = true) :
    (s.mtAbort p).rdP p R.MT_STATUS_BUSY = 0 ∧ (s.mtAbort p).rdP p R.MT_STATUS_ABORTED = 1 := by
  rw [State.mtAbort, if_pos hbusy]
  exact ⟨(State.rdP_wrP_apart h.mtEnd).trans (State.mtBusy_mtEnd h), State.rdP_wrP_of_lt h.mtEnd (of_decide_eq_true rfl)⟩

theorem State.Regs.mtAbort (h : s.Regs) : (s.mtAbort p).Regs := by
  unfold State.mtAbort
  split
  · exact h.mtEnd.wrP
  · exact h

theorem State.rdP_mtAbort_plane (h : s.Regs) (hq : q ≠ p) : (s.mtAbort p).rdP q g = s.rdP q g := by
  unfold State.mtAbort
  split
  · rw [State.rdP_wrP_plane h.mtEnd hq, State.rdP_mtEnd_plane h hq]
  · rfl

/-- An abort ends the test of each plane that the requester's plane select gives. -/
theorem State.mtAborts_ends (h : s.Regs) (hp : p ∈ s.ownPlanes r) (hbusy : s.mtBusy p = true) :
    (s.mtAborts r).rdP p R.MT_STATUS_BUSY = 0 ∧ (s.mtAborts r).rdP p R.MT_STATUS_ABORTED = 1 := by
  have hone {u : State} (hu : u.Regs) (hread : u.rdP p R.MT_STATUS_BUSY = s.rdP p R.MT_STATUS_BUSY) :
      (u.mtAbort p).rdP p R.MT_STATUS_BUSY = 0 ∧ (u.mtAbort p).rdP p R.MT_STATUS_ABORTED = 1 :=
    State.mtAbort_ends hu (by rw [State.mtBusy, hread]; exact hbusy)
  unfold State.mtAborts
  unfold State.ownPlanes at hp ⊢
  split at hp
  case isTrue hboth =>
    rw [if_pos hboth]
    show ((s.mtAbort .A).mtAbort .B).rdP p _ = 0 ∧ ((s.mtAbort .A).mtAbort .B).rdP p _ = 1
    cases p
    case A =>
      rw [State.rdP_mtAbort_plane h.mtAbort (by decide), State.rdP_mtAbort_plane h.mtAbort (by decide)]
      exact hone h rfl
    case B => exact hone h.mtAbort (State.rdP_mtAbort_plane h (by decide))
  case isFalse hsel =>
    rw [if_neg hsel, ← List.mem_singleton.1 hp]
    exact hone h rfl

/-! ### MTEST_DONE -/

theorem State.mtDone_of_not_busy {fails addr element diff check : Nat} (hbusy : s.mtBusy p = false) :
    s.mtDone p fails addr element diff check = s := if_neg (by simp [hbusy])

theorem State.mtDone_passes {addr element diff check : Nat} (hbusy : s.mtBusy p = true) :
    s.mtDone p 0 addr element diff check = ((s.mtEnd p).wrP p R.MT_STATUS_DONE 1).wrP p R.MT_STATUS_PASS 1 := if_pos hbusy

/-- MT_STATUS after a test with fails. -/
def State.mtCounted (s : State) (p : Plane) (fails element : Nat) : State :=
  (((s.mtEnd p).wrP p R.MT_STATUS_DONE 1).wrP p R.MT_STATUS_FAILS (min (2 ^ 20 - 1) fails)).wrP p R.MT_STATUS_ELEMENT element

/-- The place of the first fail. -/
def State.mtPlaced (s : State) (p : Plane) (addr diff : Nat) : State := (s.setWordP p A.MT_FAIL_ADDR addr).setWordP p A.MT_FAIL_BITS diff

theorem State.mtCounted_shows {fails element : Nat} (h : s.Regs) (helement : element < 8) :
    (s.mtCounted p fails element).rdP p R.MT_STATUS_DONE = 1 ∧
    (s.mtCounted p fails element).rdP p R.MT_STATUS_FAILS = min (2 ^ 20 - 1) fails ∧
    (s.mtCounted p fails element).rdP p R.MT_STATUS_ELEMENT = element := by
  have hdone : ((s.mtEnd p).wrP p R.MT_STATUS_DONE 1).Regs := h.mtEnd.wrP
  have hfails : min (2 ^ 20 - 1) fails < 2 ^ 20 := Nat.lt_of_le_of_lt (Nat.min_le_left _ _) (by decide)
  unfold State.mtCounted
  refine ⟨?_, ?_, State.rdP_wrP_of_lt hdone.wrP (Nat.lt_trans helement (by decide))⟩
  · rw [State.rdP_wrP_apart hdone.wrP, State.rdP_wrP_apart hdone, State.rdP_wrP_of_lt h.mtEnd (of_decide_eq_true rfl)]
  · rw [State.rdP_wrP_apart hdone.wrP, State.rdP_wrP_of_lt hdone hfails]

theorem State.Regs.mtCounted {fails element : Nat} (h : s.Regs) : (s.mtCounted p fails element).Regs := h.mtEnd.wrP.wrP.wrP

theorem State.rdP_mtCounted_gen {fails element : Nat} (h : s.Regs) :
    (s.mtCounted p fails element).rdP p R.MT_CTRL_GEN = s.rdP p R.MT_CTRL_GEN := by
  have hdone : ((s.mtEnd p).wrP p R.MT_STATUS_DONE 1).Regs := h.mtEnd.wrP
  rw [State.mtCounted, State.rdP_wrP_addr _ _ _ _ _ hdone.wrP (by decide), State.rdP_wrP_addr _ _ _ _ _ hdone (by decide),
    State.rdP_wrP_addr _ _ _ _ _ h.mtEnd (by decide), State.rdP_mtEnd_addr h (by decide)]

theorem State.Regs.mtPlaced {addr diff : Nat} (h : s.Regs) : (s.mtPlaced p addr diff).Regs := h.setWordP.setWordP

theorem State.rdP_mtPlaced {addr diff : Nat} (h : s.Regs) (haddr : g.addr ≠ A.MT_FAIL_ADDR) (hbits : g.addr ≠ A.MT_FAIL_BITS) :
    (s.mtPlaced p addr diff).rdP q g = s.rdP q g := by
  rw [State.mtPlaced, State.rdP_setWordP_addr h.setWordP hbits, State.rdP_setWordP_addr h haddr]

theorem State.mtPlaced_places {addr diff : Nat} (h : s.Regs) (haddr : addr < 2 ^ 32) (hdiff : diff < 2 ^ 32) :
    (s.mtPlaced p addr diff).wordP p A.MT_FAIL_ADDR = addr ∧ (s.mtPlaced p addr diff).wordP p A.MT_FAIL_BITS = diff := by
  have hset : (s.setWordP p A.MT_FAIL_ADDR addr).Regs := h.setWordP
  unfold State.mtPlaced
  rw [State.wordP_setWordP _ _ _ _ _ _ (hset.file p), State.wordP_setWordP _ _ _ _ _ _ (hset.file p),
    if_neg fun e => absurd e.2 (by decide), if_pos ⟨rfl, rfl⟩, State.wordP_setWordP _ _ _ _ _ _ (h.file p), if_pos ⟨rfl, rfl⟩]
  exact ⟨Nat.mod_eq_of_lt haddr, Nat.mod_eq_of_lt hdiff⟩

/-- The message of a test with fails: its generator's. -/
def State.mtFailMsg (s : State) (p : Plane) : FaultMsg :=
  { cls := 11, inst := genInst p (s.rdP p R.MT_CTRL_GEN), kind := 3, plane := planeBit p, addr := 0 }

theorem State.mtDone_fails {fails addr element diff check : Nat} (h : s.Regs) (hbusy : s.mtBusy p = true) (hfails : 0 < fails) :
    s.mtDone p fails addr element diff check =
      (((s.mtCounted p fails element).mtPlaced p addr diff).wrP p R.MT_FAIL_CHECK_CHECK check).raise (s.mtFailMsg p) := by
  have hgen : ((s.mtCounted p fails element).mtPlaced p addr diff).rdP p R.MT_CTRL_GEN = s.rdP p R.MT_CTRL_GEN := by
    rw [State.rdP_mtPlaced h.mtCounted (by decide) (by decide), State.rdP_mtCounted_gen h]
  rw [State.mtFailMsg, ← hgen, State.mtDone, if_pos hbusy]
  exact if_neg (Nat.ne_of_gt hfails)

end

/-! ### The rows -/

section
variable {s : State} {r : Requester} {p : Plane} {w : Nat}

/-- Beside the settings the word of a START has that action bit alone, and so has the word of an ABORT. -/
theorem mtStart_bits (s : State) : (s.setting A.MT_CTRL [(R.MT_CTRL_START, 1)]).testBit 31 = true ∧
    (s.setting A.MT_CTRL [(R.MT_CTRL_START, 1)]).testBit 30 = false := by
  have habort : R.MT_CTRL_ABORT.get (s.restWord A.MT_CTRL) = 0 := State.get_restWord regAt_mtCtrl (by decide)
  refine ⟨(testBit_iff_bits _ _).2 (bits_putBits _ _ _ _), Bool.eq_false_iff.2 fun hset => ?_⟩
  have hbit := (bits_putBits_below _ _ _ 1 _ _ (by decide) (by decide)).symm.trans ((testBit_iff_bits _ _).1 hset)
  exact absurd (habort.symm.trans hbit) (by decide)

theorem mtAbort_bits (s : State) : (s.setting A.MT_CTRL [(R.MT_CTRL_ABORT, 1)]).testBit 31 = false ∧
    (s.setting A.MT_CTRL [(R.MT_CTRL_ABORT, 1)]).testBit 30 = true := by
  have hstart : R.MT_CTRL_START.get (s.restWord A.MT_CTRL) = 0 := State.get_restWord regAt_mtCtrl (by decide)
  refine ⟨Bool.eq_false_iff.2 fun hset => ?_, (testBit_iff_bits _ _).2 (bits_putBits _ _ _ _)⟩
  have hbit := (bits_putBits_above _ _ _ 1 _ _ (by decide) (by decide)).symm.trans ((testBit_iff_bits _ _).1 hset)
  exact absurd (hstart.symm.trans hbit) (by decide)

@[simp] theorem State.rdP_noteStatus (s : State) (r : Requester) (code : Nat) (p : Plane) (f : FieldAt) :
    (s.noteStatus r code).rdP p f = s.rdP p f :=
  State.rdP_of_same (o := partMask [.sb]) p f (State.noteStatus_same same_refl (by decide)) (by decide) (by decide)

@[simp] theorem State.gen_noteStatus (s : State) (r : Requester) (code i : Nat) : (s.noteStatus r code).gen i = s.gen i := by
  have hgens : (s.noteStatus r code).gens = s.gens := State.noteStatus_same (o := partMask [.sb]) same_refl (by decide) .gens (by decide)
  rw [State.gen, hgens, State.gen]

/-- An abort that is permitted is carried out on the state whose settings are stored. -/
theorem exec_mtAbort_aborts (hwf : (Instr.mtAbort r).wf = true) (hw : s.setting A.MT_CTRL [(R.MT_CTRL_ABORT, 1)] = w)
    (hmay : s.mayWrite r A.MT_CTRL w = true) :
    exec (.mtAbort r) s = .next ((((s.dropHeld r).mtSet r w).mtAborts r).noteStatus r Code.ok) := by
  obtain ⟨hstart, habort⟩ := hw ▸ mtAbort_bits s
  rw [exec_mtAbort r s hwf, State.writeFields_mtCtrl hw hmay, hstart, habort]
  rfl

theorem exec_mtStart_starts (hwf : (Instr.mtStart r).wf = true) (hw : s.setting A.MT_CTRL [(R.MT_CTRL_START, 1)] = w)
    (hmay : s.mayWrite r A.MT_CTRL w = true) :
    exec (.mtStart r) s = .next ((((s.dropHeld r).mtSet r w).mtStarts r).noteStatus r Code.ok) := by
  obtain ⟨hstart, habort⟩ := hw ▸ mtStart_bits s
  rw [exec_mtStart r s hwf, State.writeFields_mtCtrl hw hmay, hstart, habort]
  rfl

theorem mtAbort_yields (hs : s.sound = true) (hwf : (Instr.mtAbort r).wf = true) (hw : w = s.setting A.MT_CTRL [(R.MT_CTRL_ABORT, 1)])
    (hmay : s.mayWrite r A.MT_CTRL w = true) (hp : p ∈ s.ownPlanes r) (hbusy : s.mtBusy p = true) :
    Yields (.mtAbort r) s fun t => t.rdP p R.MT_STATUS_BUSY = 0 ∧ t.rdP p R.MT_STATUS_ABORTED = 1 := by
  have hregs : (s.dropHeld r).Regs := (State.sound_regs hs).dropHeld
  refine ⟨_, exec_mtAbort_aborts hwf hw.symm hmay, ?_⟩
  simp only [State.rdP_noteStatus]
  have hown : p ∈ ((s.dropHeld r).mtSet r w).ownPlanes r := by
    rw [State.ownPlanes_mtSet]
    exact hp
  exact State.mtAborts_ends hregs.mtSet hown ((State.mtBusy_mtSet hregs).trans hbusy)

/-- START in one plane acts on the state whose settings are stored; those of the conditions stand as before. -/
theorem mtStart_yields (hs : s.sound = true) (hwf : (Instr.mtStart r).wf = true) (hw : w = s.setting A.MT_CTRL [(R.MT_CTRL_START, 1)])
    (hmay : s.mayWrite r A.MT_CTRL w = true) (hown : s.ownPlanes r = [p]) (hkeeps : ∀ f ∈ mtConditions, f.get w = s.rdP p f) :
    (s.mtCause p s.pl.ret.isNone s.pw.wake.isNone = 0 → Yields (.mtStart r) s fun t => t.rdP p R.MT_STATUS_BUSY = 1 ∧
      (t.gen (genInst p (s.rdP p R.MT_CTRL_GEN))).mtest = true) ∧
    (s.mtCause p s.pl.ret.isNone s.pw.wake.isNone ≠ 0 → Yields (.mtStart r) s fun t => t.rdP p R.MT_STATUS_REFUSED = 1 ∧
      t.rdP p R.MT_STATUS_CAUSE = s.mtCause p s.pl.ret.isNone s.pw.wake.isNone) := by
  have hregs : (s.dropHeld r).Regs := (State.sound_regs hs).dropHeld
  have hsame : Same (partMask [.privA, .privB]) (s.dropHeld r) ((s.dropHeld r).mtSet r w) := State.mtSet_same
  have hpl : ((s.dropHeld r).mtSet r w).pl = s.pl := hsame .pl (by decide)
  have hpw : ((s.dropHeld r).mtSet r w).pw = s.pw := hsame .pw (by decide)
  have hgens : ((s.dropHeld r).mtSet r w).gens.length = 16 :=
    (congrArg List.length (hsame .gens (by decide))).trans (State.sound_kept hs).gens
  have hgen : ((s.dropHeld r).mtSet r w).rdP p R.MT_CTRL_GEN = s.rdP p R.MT_CTRL_GEN :=
    (State.mtSet_reads hregs (.inr ⟨by decide, hkeeps _ (by decide)⟩)).2
  have hcause : ((s.dropHeld r).mtSet r w).mtCause p s.pl.ret.isNone s.pw.wake.isNone = s.mtCause p s.pl.ret.isNone s.pw.wake.isNone :=
    State.mtCause_mtSet hregs hkeeps
  have hone : ((s.dropHeld r).mtSet r w).mtStarts r = ((s.dropHeld r).mtSet r w).mtStart p s.pl.ret.isNone s.pw.wake.isNone := by
    have howned : ((s.dropHeld r).mtSet r w).ownPlanes r = [p] := State.ownPlanes_mtSet.trans hown
    rw [State.mtStarts, howned, State.over, List.foldl_cons, List.foldl_nil, hpl, hpw]
  have hexec := exec_mtStart_starts hwf hw.symm hmay
  rw [hone] at hexec
  refine ⟨fun hmet => ⟨_, hexec, ?_⟩, fun hunmet => ⟨_, hexec, ?_⟩⟩
  · simp only [State.rdP_noteStatus, State.gen_noteStatus]
    rw [← hgen]
    exact State.mtStart_begins hregs.mtSet hgens (hcause.trans hmet)
  · simp only [State.rdP_noteStatus]
    rw [← hcause]
    exact State.mtStart_refuses hregs.mtSet (hcause.symm ▸ hunmet)

theorem mtestDone_passes_yields {addr element diff check : Nat} (hs : s.sound = true) (hwf : (Instr.mtestDone p 0 addr element diff check).wf = true)
    (hbusy : s.mtBusy p = true) : Yields (.mtestDone p 0 addr element diff check) s fun t =>
      t.rdP p R.MT_STATUS_DONE = 1 ∧ t.rdP p R.MT_STATUS_PASS = 1 ∧ t.rdP p R.MT_STATUS_BUSY = 0 ∧ t.faults = s.faults := by
  have hend : (s.mtEnd p).Regs := (State.sound_regs hs).mtEnd
  refine ⟨_, exec_mtestDone p 0 addr element diff check s hwf, ?_⟩
  rw [State.mtDone_passes hbusy]
  refine ⟨?_, State.rdP_wrP_of_lt hend.wrP (of_decide_eq_true rfl), ?_, ?_⟩
  · rw [State.rdP_wrP_apart hend.wrP, State.rdP_wrP_of_lt hend (of_decide_eq_true rfl)]
  · rw [State.rdP_wrP_apart hend.wrP, State.rdP_wrP_apart hend, State.mtBusy_mtEnd (State.sound_regs hs)]
  · rw [State.wrP_faults, State.wrP_faults, State.mtEnd_faults]

theorem mtestDone_fails_yields {fails addr element diff check : Nat} (hs : s.sound = true)
    (hwf : (Instr.mtestDone p fails addr element diff check).wf = true) (hfails : 0 < fails) (hbusy : s.mtBusy p = true) :
    Yields (.mtestDone p fails addr element diff check) s fun t => t.rdP p R.MT_STATUS_DONE = 1 ∧
      t.rdP p R.MT_STATUS_FAILS = min (2 ^ 20 - 1) fails ∧ t.rdP p R.MT_STATUS_ELEMENT = element ∧ t.wordP p A.MT_FAIL_ADDR = addr ∧
      t.wordP p A.MT_FAIL_BITS = diff ∧ t.faults = { s.faults with incoming := s.faults.incoming ++ [s.mtFailMsg p] } := by
  have hregs := State.sound_regs hs
  have hcounted : (s.mtCounted p fails element).Regs := hregs.mtCounted
  have hplaced : ((s.mtCounted p fails element).mtPlaced p addr diff).Regs := hcounted.mtPlaced
  obtain ⟨⟨⟨haddr, helement⟩, hdiff⟩, -⟩ : ((addr < 2 ^ 32 ∧ element < 8) ∧ diff < 2 ^ 32) ∧ check < 128 := by
    simpa [Instr.wf, isWord] using hwf
  have hstatus {g : FieldAt} (hg : g.addr = A.MT_STATUS) :
      (((s.mtCounted p fails element).mtPlaced p addr diff).wrP p R.MT_FAIL_CHECK_CHECK check).rdP p g = (s.mtCounted p fails element).rdP p g := by
    rw [State.rdP_wrP_addr _ _ _ _ _ hplaced (by rw [hg]; decide), State.rdP_mtPlaced hcounted (by rw [hg]; decide) (by rw [hg]; decide)]
  obtain ⟨hdone, hcount, hplace⟩ := State.mtCounted_shows (p := p) (fails := fails) hregs helement
  obtain ⟨hfirst, hbits⟩ := State.mtPlaced_places (p := p) hcounted haddr hdiff
  refine ⟨_, exec_mtestDone p fails addr element diff check s hwf, ?_⟩
  rw [State.mtDone_fails hregs hbusy hfails]
  refine ⟨?_, ?_, ?_, ?_, ?_, ?_⟩
  · rw [State.rdP_raise, hstatus rfl, hdone]
  · rw [State.rdP_raise, hstatus rfl, hcount]
  · rw [State.rdP_raise, hstatus rfl, hplace]
  · rw [State.wordP_raise, State.wordP_wrP_addr hplaced (by decide), hfirst]
  · rw [State.wordP_raise, State.wordP_wrP_addr hplaced (by decide), hbits]
  · rw [State.raise_faults, State.wrP_faults, State.mtPlaced, State.setWordP_faults, State.setWordP_faults, State.mtCounted,
      State.wrP_faults, State.wrP_faults, State.wrP_faults, State.mtEnd_faults]

end

/-- Settles O40. ABORT is R193; that TARGET 3 names no store and is refused with cause 3 is the reading of log entry 86. -/
theorem memoryTests : Obligations.MemoryTests := by
  unfold Obligations.MemoryTests
  intro s p hs
  refine ⟨fun r hwf hmay hp hbusy => mtAbort_yields hs hwf rfl hmay hp hbusy,
    fun r w hwf hw hmay hown hkeeps => mtStart_yields hs hwf hw hmay hown hkeeps,
    fun addr element diff check hwf hbusy => mtestDone_passes_yields hs hwf hbusy,
    fun fails addr element diff check hwf hfails hbusy => mtestDone_fails_yields hs hwf hfails hbusy,
    fun fails addr element diff check hwf hbusy => ?_⟩
  rw [exec_mtestDone p fails addr element diff check s hwf, State.mtDone_of_not_busy hbusy]

end Sys2Proof.Machine
end

section
/-! TESTS. States that meet the hypotheses of the statement about memory tests, and what it says of them. -/

namespace Sys2Proof.Machine

open Sys2Proof

/-- Both planes' settings name the capture memory's first 4 KiB and generator 7; the owner has selected plane B, whose generator 7 is `x`. -/
def memoryBlock (x : Gen) : State :=
  let set := (runningBlock.wrB R.MT_CTRL_TARGET 1).wrB R.MT_CTRL_GEN 7
  { set with
    reg := { set.reg with planeSel := [(.principal 30, 2)] }
    gens := List.replicate 15 {} ++ [x] }

theorem memoryBlock_start : Yields (.mtStart (.principal 30)) (memoryBlock {}) fun t =>
    t.rdP .B R.MT_STATUS_BUSY = 1 ∧ (t.gen 15).mtest = true := by
  obtain ⟨-, start, -⟩ := memoryTests (memoryBlock {}) .B (by decide)
  exact (start (.principal 30) _ (by decide) rfl (by decide +kernel) (by decide) (by decide)).1 (by decide)

/-- The generator runs: cause 4. -/
theorem memoryBlock_refused : Yields (.mtStart (.principal 30)) (memoryBlock { running := true }) fun t =>
    t.rdP .B R.MT_STATUS_REFUSED = 1 ∧ t.rdP .B R.MT_STATUS_CAUSE = 4 := by
  obtain ⟨-, start, -⟩ := memoryTests (memoryBlock { running := true }) .B (by decide)
  exact ((start (.principal 30) _ (by decide) rfl (by decide +kernel) (by decide) (by decide)).2 (by decide)).imp
    fun _ ⟨hrefused, hcause⟩ => ⟨hrefused, hcause.trans (by decide)⟩

/-- A test runs in each plane, and the owner has selected both. -/
def testingBlock : State := (runningBlock.wrB R.MT_CTRL_GEN 7).wrB R.MT_STATUS_BUSY 1

theorem testingBlock_abort : Yields (.mtAbort (.principal 30)) testingBlock fun t =>
    t.rdP .B R.MT_STATUS_BUSY = 0 ∧ t.rdP .B R.MT_STATUS_ABORTED = 1 := by
  obtain ⟨abort, -⟩ := memoryTests testingBlock .B (by decide)
  exact abort (.principal 30) (by decide) (by decide +kernel) (by decide) (by decide)

theorem testingBlock_passes : Yields (.mtestDone .A 0 0 0 0 0) testingBlock fun t =>
    t.rdP .A R.MT_STATUS_DONE = 1 ∧ t.rdP .A R.MT_STATUS_PASS = 1 ∧ t.rdP .A R.MT_STATUS_BUSY = 0 ∧ t.faults.incoming = [] := by
  obtain ⟨-, -, passes, -⟩ := memoryTests testingBlock .A (by decide)
  exact (passes 0 0 0 0 (by decide) (by decide)).imp
    fun _ ⟨hdone, hpass, hidle, hfaults⟩ => ⟨hdone, hpass, hidle, congrArg Faults.incoming hfaults⟩

/-- The count of fails stays at the most that FAILS holds. -/
theorem testingBlock_fails : Yields (.mtestDone .B (2 ^ 20) (2 ^ 32 - 1) 7 1 127) testingBlock fun t =>
    t.rdP .B R.MT_STATUS_FAILS = 2 ^ 20 - 1 ∧ t.rdP .B R.MT_STATUS_ELEMENT = 7 ∧ t.wordP .B A.MT_FAIL_ADDR = 2 ^ 32 - 1 ∧
      t.faults.incoming = [{ cls := 11, inst := 15, kind := 3, plane := 1, addr := 0 }] := by
  obtain ⟨-, -, -, fails, -⟩ := memoryTests testingBlock .B (by decide)
  exact (fails (2 ^ 20) (2 ^ 32 - 1) 7 1 127 (by decide) (by decide) (by decide)).imp
    fun _ ⟨_, hcount, helement, haddr, _, hfaults⟩ => ⟨hcount, helement, haddr, congrArg Faults.incoming hfaults⟩

/-- No test runs: nothing ends. -/
theorem memoryBlock_idle : exec (.mtestDone .B 1 0 0 0 0) (memoryBlock {}) = .next (memoryBlock {}) := by
  obtain ⟨-, -, -, -, idle⟩ := memoryTests (memoryBlock {}) .B (by decide)
  exact idle 1 0 0 0 0 (by decide) (by decide)

end Sys2Proof.Machine
end

section
/-! SUPPORT. What a pin shows of its channel or driver: open, shorted and overloaded channels, overloaded drivers, and the latches they bring (R205,
R207, R212). -/

set_option Elab.async false

namespace Sys2Proof.Machine

open Sys2Proof

/-! ### One heater channel's entry -/

/-- The entry inserted is the one found where no entry of before is looked for. -/
theorem find?_insertBy {α : Type} {key : α → Nat} {p : α → Bool} {x : α} {l : List α} (hx : p x = true) (hl : ∀ y ∈ l, p y = false) :
    (insertBy key x l).find? p = some x := by
  induction l with
  | nil => simp [insertBy, hx]
  | cons y ys ih =>
    obtain ⟨hy, hys⟩ := List.forall_mem_cons.1 hl
    unfold insertBy
    split
    · simp [hx]
    · simp [hy, ih hys]

section
variable {s : State} {h k : Nat}

theorem State.heater_ch (s : State) (h : Nat) : (s.chan_ h).ch = h := by
  unfold State.chan_
  cases hfind : s.act.htr.find? (·.ch == h) with
  | none => rfl
  | some c => simpa using List.find?_some hfind

theorem State.heater_putChan (s : State) (c : HtrChan) : (s.putChan c).chan_ c.ch = c := by
  have hfind : (s.putChan c).act.htr.find? (·.ch == c.ch) = some c := find?_insertBy (by simp) (by simp)
  rw [State.chan_, hfind, Option.getD_some]

/-- A change of a channel's entry that leaves its number shows in the entry. -/
theorem State.heater_updHtr {f : HtrChan → HtrChan} (hf : ∀ c, (f c).ch = c.ch := by exact fun _ => rfl) :
    (s.updHtr h f).chan_ h = f (s.chan_ h) := by
  have hch : (f (s.chan_ h)).ch = h := (hf _).trans (s.heater_ch h)
  calc (s.updHtr h f).chan_ h = (s.putChan (f (s.chan_ h))).chan_ (f (s.chan_ h)).ch := by rw [State.updHtr, hch]
    _ = f (s.chan_ h) := s.heater_putChan _

@[simp] theorem State.heater_raise (s : State) (m : FaultMsg) (h : Nat) : (s.raise m).chan_ h = s.chan_ h := rfl
@[simp] theorem State.updHtr_faults (s : State) (h : Nat) (f : HtrChan → HtrChan) : (s.updHtr h f).faults = s.faults := rfl
@[simp] theorem State.updHtr_due (s : State) (h : Nat) (f : HtrChan → HtrChan) : (s.updHtr h f).act.due = s.act.due := rfl

/-! ### The actuator event that is due -/

/-- The state whose actuator events due are those of `s` without event k of channel h. -/
def State.actStruck (s : State) (k h : Nat) : State := s.setAct fun a => { a with due := a.due.filter fun d => decide (d ≠ (k, h)) }

theorem State.not_mem_actStruck (s : State) (k h : Nat) : (k, h) ∉ (s.actStruck k h).act.due := by simp [State.actStruck, State.setAct]

theorem State.takeActDue_of_due {f : State → State} (hdue : (k, h) ∈ s.act.due) : s.takeActDue k h f = f (s.actStruck k h) := if_pos hdue

theorem State.takeActDue_of_not_due {f : State → State} (hnot : (k, h) ∉ s.act.due) : s.takeActDue k h f = s := if_neg hnot

/-- What a short and a load at its limit share: the event struck, the channel's latch at the next boundary, the message. -/
theorem latchDue_yields {i : Instr} {m : FaultMsg}
    (he : exec i s = .next (s.takeActDue k h fun u => (u.updHtr h fun c => { c with offAt := some (u.clk.frame + 1) }).raise m))
    (hdue : (k, h) ∈ s.act.due) : Yields i s fun t => (k, h) ∉ t.act.due ∧ (t.chan_ h).offAt = some (s.clk.frame + 1) ∧
      t.faults = { s.faults with incoming := s.faults.incoming ++ [m] } := by
  rw [State.takeActDue_of_due hdue] at he
  refine ⟨_, he, ?_, ?_, rfl⟩
  · rw [State.raise_act, State.updHtr_due]
    exact s.not_mem_actStruck k h
  · rw [State.heater_raise, State.heater_updHtr]
    rfl

theorem heaterOpen_yields (hh : h < 20480) (hdue : (0, h) ∈ s.act.due) : Yields (.heaterOpen h) s fun t => (0, h) ∉ t.act.due ∧
    t.faults = { s.faults with incoming := s.faults.incoming ++ [tileMsg (h / 256) 0x30 2 h] } := by
  refine ⟨_, exec_heaterOpen h s (decide_eq_true hh), ?_⟩
  rw [State.heaterOpen, State.takeActDue_of_due hdue]
  exact ⟨s.not_mem_actStruck 0 h, rfl⟩

/-! ### The latch of a driver -/

theorem testBit_setBit (w i : Nat) : (setBit w i).testBit i = true := by simp [setBit, Nat.testBit_or, Nat.testBit_two_pow_self]

theorem State.fdLatched_latchFd (hregs : s.Regs) (d : Nat) : (s.latchFd d true).fdLatched d = true := by
  have hset : setBit (s.rd (R.TL_FD_OFF_LATCHED (d / 128) (d % 128 / 32))) (d % 32) < 2 ^ 32 :=
    Nat.or_lt_two_pow (s.rd_lt _) (Nat.pow_lt_pow_right (by decide) (Nat.mod_lt d (by decide)))
  have hread : (s.latchFd d true).rd (R.TL_FD_OFF_LATCHED (d / 128) (d % 128 / 32)) =
      setBit (s.rd (R.TL_FD_OFF_LATCHED (d / 128) (d % 128 / 32))) (d % 32) := State.rd_wr_of_lt hregs hset
  rw [State.fdLatched, hread, testBit_setBit]

theorem driverOverload_yields (hs : s.sound = true) (hh : h < 10240) (hawake : s.awake = true) (hoff : s.fdLatched h = false) :
    Yields (.driverOverload h) s fun t => t.fdLatched h = true ∧
      t.faults = { s.faults with incoming := s.faults.incoming ++ [tileMsg (h / 128) 0x33 3 h] } := by
  refine ⟨_, exec_driverOverload h s (decide_eq_true hh), ?_⟩
  rw [State.when, if_pos hawake, State.driverOverload, if_neg (by simp [hoff])]
  exact ⟨State.fdLatched_latchFd (State.sound_regs hs) h, rfl⟩

end

/-- Settles O41. That an overload reported of a driver already latched off changes nothing is the reading of log entry 52. -/
theorem pinFaults : Obligations.PinFaults := by
  unfold Obligations.PinFaults
  intro s h hs
  have hopen (hh : h < 20480) : exec (.heaterOpen h) s = .next (s.heaterOpen h) := exec_heaterOpen h s (decide_eq_true hh)
  have hshort (hh : h < 20480) : exec (.heaterShort h) s = .next (s.heaterShort h) := exec_heaterShort h s (decide_eq_true hh)
  have hload (hh : h < 20480) : exec (.heaterLoad h) s = .next (s.heaterLoad h) := exec_heaterLoad h s (decide_eq_true hh)
  refine ⟨heaterOpen_yields, fun hh => latchDue_yields (hshort hh), fun hh => latchDue_yields (hload hh), fun hh hnot => ?_,
    fun hh hnot => ?_, fun hh hnot => ?_, driverOverload_yields hs, fun hh hlatched => ?_⟩
  · rw [hopen hh, State.heaterOpen, State.takeActDue_of_not_due hnot]
  · rw [hshort hh, State.heaterShort, State.takeActDue_of_not_due hnot]
  · rw [hload hh, State.heaterLoad, State.takeActDue_of_not_due hnot]
  · rw [exec_driverOverload h s (decide_eq_true hh), State.when, State.driverOverload, if_pos hlatched, ite_self]

end Sys2Proof.Machine
end

section
/-! TESTS. A state that meets the hypotheses of the statement about the pins' faults, and what it says of them. -/

set_option Elab.async false

namespace Sys2Proof.Machine

open Sys2Proof

/-- Frame 7. The first channel is open, the last one is open, shorted and at its load limit, each for its sixteenth frame; of the last tile's drivers
all but the last are latched off. -/
def faultyPins : State :=
  { runningBlock.wr (R.TL_FD_OFF_LATCHED 79 3) (2 ^ 31 - 1) with
    clk := { runningBlock.clk with frame := 7 }
    power := .run
    act := { runningBlock.act with due := [(0, 0), (0, 20479), (1, 20479), (2, 20479)] } }

theorem faultyPins_sound : faultyPins.sound = true := by decide

/-- Each event is raised and struck; the others stay due. -/
theorem faultyPins_open :
    (Yields (.heaterOpen 0) faultyPins fun t => (0, 0) ∉ t.act.due ∧ t.faults.incoming = [tileMsg 0 0x30 2 0]) ∧
    Yields (.heaterOpen 20479) faultyPins fun t => (0, 20479) ∉ t.act.due ∧ t.faults.incoming = [tileMsg 79 0x30 2 20479] := by
  obtain ⟨first, -⟩ := pinFaults faultyPins 0 faultyPins_sound
  obtain ⟨last, -⟩ := pinFaults faultyPins 20479 faultyPins_sound
  exact ⟨(first (by decide) (by decide)).imp fun _ ⟨hdue, hfaults⟩ => ⟨hdue, congrArg _ hfaults⟩,
    (last (by decide) (by decide)).imp fun _ ⟨hdue, hfaults⟩ => ⟨hdue, congrArg _ hfaults⟩⟩

theorem faultyPins_latch :
    (Yields (.heaterShort 20479) faultyPins fun t => (t.chan_ 20479).offAt = some 8 ∧ t.faults.incoming = [tileMsg 79 0x31 2 20479]) ∧
    Yields (.heaterLoad 20479) faultyPins fun t => (t.chan_ 20479).offAt = some 8 ∧ t.faults.incoming = [tileMsg 79 0x32 2 20479] := by
  obtain ⟨-, short, load, -⟩ := pinFaults faultyPins 20479 faultyPins_sound
  exact ⟨(short (by decide) (by decide)).imp fun _ ⟨_, hoff, hfaults⟩ => ⟨hoff, congrArg _ hfaults⟩,
    (load (by decide) (by decide)).imp fun _ ⟨_, hoff, hfaults⟩ => ⟨hoff, congrArg _ hfaults⟩⟩

/-- No event of channel 1 is due. -/
theorem faultyPins_not_due : exec (.heaterOpen 1) faultyPins = .next faultyPins ∧ exec (.heaterShort 1) faultyPins = .next faultyPins ∧
    exec (.heaterLoad 1) faultyPins = .next faultyPins := by
  obtain ⟨-, -, -, open_, short, load, -⟩ := pinFaults faultyPins 1 faultyPins_sound
  exact ⟨open_ (by decide) (by decide), short (by decide) (by decide), load (by decide) (by decide)⟩

/-- The last driver is latched off and raised; the one before it is latched off already. -/
theorem faultyPins_overload :
    (Yields (.driverOverload 10239) faultyPins fun t => t.fdLatched 10239 = true ∧ t.faults.incoming = [tileMsg 79 0x33 3 10239]) ∧
    exec (.driverOverload 10238) faultyPins = .next faultyPins := by
  obtain ⟨-, -, -, -, -, -, overload, -⟩ := pinFaults faultyPins 10239 faultyPins_sound
  obtain ⟨-, -, -, -, -, -, -, latched⟩ := pinFaults faultyPins 10238 faultyPins_sound
  exact ⟨(overload (by decide) (by decide) (by decide)).imp fun _ ⟨hlatched, hfaults⟩ => ⟨hlatched, congrArg _ hfaults⟩,
    latched (by decide) (by decide)⟩

end Sys2Proof.Machine
end

section
/-! SUPPORT. A register of the tile block stands at the same offset in every tile, and a permitted write of one plain word of it is its fields and its
action (R435, R439). -/

set_option Elab.async false

namespace Sys2Proof.Machine

open Sys2Proof

/-! ### The tile block -/

section
variable {r : RegSpec} {a b t d : Nat} {h : RegHit}

/-- The entry has one copy in each tile, whose words end within the tile's 64 KiB. -/
def RegSpec.InTile (r : RegSpec) : Prop :=
  (0x100000 ≤ r.base ∧ r.base < 0x110000) ∧ r.reg ≠ .FC_SEV ∧ r.dims.head? = some (80, 0x10000) ∧
    ∀ x ∈ r.dims.tail.head?, 0 < x.2 ∧ r.base + x.1 * x.2 ≤ 0x110000

theorem regs_tile_inTile : ∀ r ∈ regs_tile, r.InTile := by
  unfold RegSpec.InTile
  decide

/-- The word that stands in tile t where `h` stands in its own. -/
def RegHit.ofTile (h : RegHit) (t : Nat) : RegHit := { h with idx := t :: h.idx.tail }

/-- The word at offset d from the entry's base in tile t. -/
theorem RegSpec.InTile.hit?_tile (hr : r.InTile) (ht : t < 80) (hd : d < 0x10000) :
    r.hit? (r.base + 0x10000 * t + d) = (indicesOf r.dims.tail d).map fun ix => ⟨r, t :: ix⟩ := by
  obtain ⟨-, hreg, hhead, -⟩ := hr
  have hdims : r.dims = (80, 0x10000) :: r.dims.tail := List.eq_cons_of_mem_head? hhead
  have hoff : r.base + 0x10000 * t + d - r.base = 0x10000 * t + d := by omega
  have hdiv : (0x10000 * t + d) / 0x10000 = t := by omega
  have hmod : (0x10000 * t + d) % 0x10000 = d := by omega
  have hindices : indicesOf r.dims (0x10000 * t + d) = (indicesOf r.dims.tail d).map (t :: ·) := by
    rw [hdims, indicesOf, hdiv, hmod, if_pos ht, List.tail_cons]
  rw [RegSpec.hit?, if_pos (by omega), hoff, hindices]
  cases indicesOf r.dims.tail d <;> simp [hreg]

/-- No word of an entry stands behind its end. -/
theorem indicesOf_behind {dims : List (Nat × Nat)} (hd : 0 < d) (hend : ∀ x ∈ dims.head?, 0 < x.2 ∧ x.1 * x.2 ≤ d) : indicesOf dims d = none := by
  cases dims with
  | nil => exact if_neg (Nat.ne_of_gt hd)
  | cons x rest =>
    obtain ⟨hstride, hlast⟩ := hend x rfl
    exact if_neg (Nat.not_lt.2 ((Nat.le_div_iff_mul_le hstride).2 hlast))

theorem RegSpec.InTile.hit?_ofTile (hr : r.InTile) (hlow : 0x100000 ≤ a) (hhigh : a < 0x110000) (ht : t < 80) :
    r.hit? (a + 0x10000 * t) = (r.hit? a).map (·.ofTile t) := by
  obtain ⟨⟨hfirst, hbase⟩, -, -, hend⟩ := id hr
  rcases Nat.lt_or_ge a r.base with hbefore | hfrom
  · have hnone : r.hit? a = none := if_neg (Nat.not_le.2 hbefore)
    rw [hnone, Option.map_none]
    cases t with
    | zero => exact hnone
    | succ t =>
      have hbehind : indicesOf r.dims.tail (a + 0x10000 - r.base) = none :=
        indicesOf_behind (by omega) fun x hx => ⟨(hend x hx).1, by have := (hend x hx).2; omega⟩
      have haddr : a + 0x10000 * (t + 1) = r.base + 0x10000 * t + (a + 0x10000 - r.base) := by omega
      rw [haddr, hr.hit?_tile (by omega) (by omega), hbehind, Option.map_none]
  · have haddr (n : Nat) : a + 0x10000 * n = r.base + 0x10000 * n + (a - r.base) := by omega
    have htile0 : r.hit? a = _ := (congrArg r.hit? (haddr 0)).trans (hr.hit?_tile (t := 0) (by decide) (by omega))
    rw [haddr, hr.hit?_tile ht (by omega), htile0, Option.map_map]
    rfl

/-- A register found in tile 0 stands at the same offset in tile t. -/
theorem regAt_ofTile (hat : regAt a = some h) (hlow : 0x100000 ≤ a) (hhigh : a < 0x110000) (ht : t < 80) (hb : b = a + 0x10000 * t) :
    regAt b = some (h.ofTile t) := by
  have hblock {c : Nat} (hlow : 0x100000 ≤ c) (hhigh : c < 0x600000) : blockOf c = regs_tile := by
    rw [blockOf, if_neg (by omega), if_pos hhigh]
  subst hb
  calc regAt (a + 0x10000 * t) = regs_tile.findSome? (·.hit? (a + 0x10000 * t)) := by rw [regAt, hblock (by omega) (by omega)]
    _ = regs_tile.findSome? fun r => (r.hit? a).map (·.ofTile t) := by
      rw [← List.head?_filterMap, ← List.head?_filterMap,
        List.filterMap_congr fun r hr => (regs_tile_inTile r hr).hit?_ofTile hlow hhigh ht]
    _ = (regs_tile.findSome? (·.hit? a)).map (·.ofTile t) := List.map_findSome?.symm
    _ = some (h.ofTile t) := by rw [← hblock hlow (by omega), ← regAt, hat, Option.map_some]

end

/-! ### A write of one plain word -/

section
variable {s : State} {r : Requester} {a w : Nat} {h : RegHit}

/-- A register whose write asks for no context state, is judged against no guard and no transmit window, is held for no other, and brings no mode. -/
def plainReg (g : Reg) : Bool := !guardReg g && !heldReg g && decide (g ≠ .CTX_OUT ∧ g ≠ .LK_TXWIN ∧ g ≠ .TL_HTR_CFG)

/-- Its fields take effect, then its action. -/
theorem State.regWrite_plain (hmay : s.mayWrite r a w = true) (hat : regAt a = some h) (hcap : inCapture a = false)
    (hplain : plainReg h.spec.reg = true) (hhalf : hiOf h a = none) : s.regWrite r a [w] =
      ((h.spec.fields.foldl (fun (u : State) f => u.putField r h a w false f) (s.dropHeld r)).writeAction r h w).noteStatus r Code.ok := by
  simp only [plainReg, Bool.and_eq_true, Bool.not_eq_true', decide_eq_true_eq] at hplain
  obtain ⟨⟨hguard, hheld⟩, hctx, hwin, hmode⟩ := hplain
  have hone : s.writeOne r (fun _ => false) a w =
      (h.spec.fields.foldl (fun (u : State) f => u.putField r h a w false f) (s.dropHeld r)).writeAction r h w := by
    simp [State.writeOne, hcap, hat, hheld, hhalf, hmode]
  rw [State.regWrite_word hmay (by simp [State.requested, hat, hctx]) (by simp [guardWord, hat, hguard]) (by simp [windowLane, hat, hwin]), hone]

/-- What a write notes for the sideband is no actuator's state and no shadow. -/
@[simp] theorem State.noteStatus_act (s : State) (r : Requester) (code : Nat) : (s.noteStatus r code).act = s.act :=
  State.noteStatus_same (o := partMask [.sb]) same_refl (by decide) .act (by decide)

@[simp] theorem State.shadowOf_noteStatus (s : State) (r : Requester) (code : Nat) (f : FieldAt) :
    (s.noteStatus r code).shadowOf f = s.shadowOf f := by
  have hshadows : (s.noteStatus r code).reg.shadows = s.reg.shadows :=
    State.noteStatus_same (o := partMask [.sb]) same_refl (by decide) .shadows (by decide)
  rw [State.shadowOf, hshadows, State.shadowOf]

/-! ### Shadows -/

theorem State.shadowOf_addShadow (s : State) (f : FieldAt) (v : Nat) (priv : Bool) : (s.addShadow f v priv).shadowOf f = some v := by
  have hgone : (s.reg.shadows.filter fun x => !decide (x.field = f)).find? (fun x => decide (x.field = f)) = none :=
    List.find?_eq_none.2 (by simp)
  simp only [State.shadowOf, State.addShadow, List.find?_append, hgone]
  simp

theorem State.shadowOf_addShadow_of_ne {f g : FieldAt} (hg : g ≠ f) (v : Nat) (priv : Bool) :
    (s.addShadow f v priv).shadowOf g = s.shadowOf g := by
  have hkept : (fun x : Shadow => !decide (x.field = f) && decide (x.field = g)) = fun x => decide (x.field = g) := by
    funext x
    by_cases hx : x.field = g <;> simp [hx, hg]
  have hadded : decide (f = g) = false := decide_eq_false hg.symm
  simp [State.shadowOf, State.addShadow, List.find?_append, List.find?_filter, hkept, hadded]

end

end Sys2Proof.Machine
end

section
/-! SUPPORT. What the guard and the latches ask for: guard errors, starvation, trims that wait, releases of latches, driver levels (R202, R207, R210,
R212, R217, R220). -/

set_option Elab.async false

namespace Sys2Proof.Machine

open Sys2Proof

section
variable {s : State} {r : Requester} {k t w mask : Nat}

/-! ### Guard errors, starvation, trims -/

theorem guardIntegrity_yields (hs : s.sound = true) (hk : k < 80) (hawake : s.awake = true) : Yields (.guardIntegrity k) s fun t =>
    (t.actTile k).guardDue = true ∧ t.faults = { s.faults with incoming := s.faults.incoming ++ [tileMsg k 0x39 0 0] } := by
  have hlen : k < s.act.tiles.length := (State.sound_kept hs).actTiles ▸ hk
  refine ⟨_, exec_guardIntegrity k s (decide_eq_true hk), ?_⟩
  rw [State.when, if_pos hawake]
  refine ⟨?_, rfl⟩
  show ((s.updTile k fun a => { a with guardDue := true }).actTile k).guardDue = true
  rw [State.actTile_updTile _ _ hlen, if_pos rfl]

theorem starvation_yields (hs : s.sound = true) (hk : k < 80) (hawake : s.awake = true) (hfed : (s.actTile k).starved = false) :
    Yields (.starvation k) s fun t => (t.actTile k).starved = true ∧ t.rd (R.TL_GUARD_STATUS_STARVED k) = 1 ∧
      t.faults = { s.faults with incoming := s.faults.incoming ++ [tileMsg k 0x3A 0 0] } := by
  have hlen : k < s.act.tiles.length := (State.sound_kept hs).actTiles ▸ hk
  have hregs : (s.updTile k fun a => { a with starved := true }).Regs := (State.updTile_kept (State.sound_kept hs)).regs
  refine ⟨_, exec_starvation k s (decide_eq_true hk), ?_⟩
  rw [State.when, if_pos hawake, State.starvation, if_neg (by simp [hfed])]
  refine ⟨?_, State.rd_wr_of_lt hregs (of_decide_eq_true rfl), rfl⟩
  show ((s.updTile k fun a => { a with starved := true }).actTile k).starved = true
  rw [State.actTile_updTile _ _ hlen, if_pos rfl]

theorem trimApply_yields (hk : k < 20480) (hwaits : (s.chan_ k).trimWaits = true) : Yields (.trimApply k) s fun t =>
    (t.chan_ k).trimWaits = false ∧ (t.chan_ k).trim = s.rd (R.TL_HTR_CFG_TRIM (k / 256) (k % 256)) := by
  refine ⟨_, exec_trimApply k s (decide_eq_true hk), ?_⟩
  rw [State.trimApply, if_pos hwaits]
  constructor <;> rw [State.heater_updHtr]

/-! ### Releases of latches -/

/-- The entries of TL_HTR_OFF, TL_FD_OFF, TL_FD_LEVEL in the table of chapter 8. -/
def htrOffSpec : RegSpec := ⟨.TL_HTR_OFF, 0x101800, [(80, 0x10000), (8, 4)], .shared, [⟨31, 0, .w1c, .framed, 0, .number, true⟩]⟩
def fdOffSpec : RegSpec := ⟨.TL_FD_OFF, 0x101820, [(80, 0x10000), (4, 4)], .shared, [⟨31, 0, .w1c, .framed, 0, .number, true⟩]⟩
def fdLevelSpec : RegSpec := ⟨.TL_FD_LEVEL, 0x101e00, [(80, 0x10000), (128, 4)], .shared,
  [⟨27, 16, .rw, .framed, 0, .image, false⟩, ⟨11, 0, .rw, .framed, 0, .image, false⟩]⟩

theorem regAt_htrOff (ht : t < 80) (hw : w < 8) : regAt (A.TL_HTR_OFF t w) = some ⟨htrOffSpec, [t, w]⟩ := by
  have hfirst : ∀ w < 8, regAt (A.TL_HTR_OFF 0 w) = some ⟨htrOffSpec, [0, w]⟩ := by decide
  refine regAt_ofTile (hfirst w hw) ?_ ?_ ht ?_ <;> unfold A.TL_HTR_OFF <;> omega

theorem regAt_fdOff (ht : t < 80) (hw : w < 4) : regAt (A.TL_FD_OFF t w) = some ⟨fdOffSpec, [t, w]⟩ := by
  have hfirst : ∀ w < 4, regAt (A.TL_FD_OFF 0 w) = some ⟨fdOffSpec, [0, w]⟩ := by decide
  refine regAt_ofTile (hfirst w hw) ?_ ?_ ht ?_ <;> unfold A.TL_FD_OFF <;> omega

theorem regAt_fdLevel {d : Nat} (ht : t < 80) (hd : d < 128) : regAt (A.TL_FD_LEVEL t d) = some ⟨fdLevelSpec, [t, d]⟩ := by
  have hfirst : ∀ d < 128, regAt (A.TL_FD_LEVEL 0 d) = some ⟨fdLevelSpec, [0, d]⟩ := by decide +kernel
  refine regAt_ofTile (hfirst d hd) ?_ ?_ ht ?_ <;> unfold A.TL_FD_LEVEL <;> omega

/-- No word below the capture memory's window lies in it. -/
theorem inCapture_below {a : Nat} (ha : a < 0x2000000) : inCapture a = false := by simp [inCapture, Nat.not_le.2 ha]

theorem mem_latchedBits {per b : Nat} (hb : b < 32) (hset : mask.testBit b = true) : per * t + 32 * w + b ∈ latchedBits t w per mask :=
  List.mem_map_of_mem (mem_onesBelow.2 ⟨hb, hset⟩)

/-- The bits of a release are cleared at the boundary alone: the write leaves the latches as they are and is kept. -/
theorem State.regWrite_htrOff (ht : t < 80) (hw : w < 8) (hmay : s.mayWrite r (A.TL_HTR_OFF t w) mask = true) :
    (s.regWrite r (A.TL_HTR_OFF t w) [mask]).act = { s.act with htrRelease := s.act.htrRelease ++ latchedBits t w 256 mask } := by
  have hcap : inCapture (A.TL_HTR_OFF t w) = false := inCapture_below (by unfold A.TL_HTR_OFF; omega)
  rw [State.regWrite_plain hmay (regAt_htrOff ht hw) hcap rfl rfl, State.noteStatus_act]
  rfl

theorem State.regWrite_fdOff (ht : t < 80) (hw : w < 4) (hmay : s.mayWrite r (A.TL_FD_OFF t w) mask = true) :
    (s.regWrite r (A.TL_FD_OFF t w) [mask]).act = { s.act with fdRelease := s.act.fdRelease ++ latchedBits t w 128 mask } := by
  have hcap : inCapture (A.TL_FD_OFF t w) = false := inCapture_below (by unfold A.TL_FD_OFF; omega)
  rw [State.regWrite_plain hmay (regAt_fdOff ht hw) hcap rfl rfl, State.noteStatus_act]
  rfl

theorem htrOffRelease_yields (hwf : (Instr.htrOffRelease r t w mask).wf = true) (hmay : s.mayWrite r (A.TL_HTR_OFF t w) mask = true) :
    Yields (.htrOffRelease r t w mask) s fun u => ∀ b, b < 32 → mask.testBit b = true → 256 * t + 32 * w + b ∈ u.act.htrRelease := by
  obtain ⟨⟨⟨-, ht⟩, hw⟩, -⟩ : ((r.wf = true ∧ t < 80) ∧ w < 8) ∧ mask < 2 ^ 32 := by simpa [Instr.wf, isTile, isWord] using hwf
  refine ⟨_, exec_htrOffRelease r t w mask s hwf, fun b hb hset => ?_⟩
  rw [State.regWrite_htrOff ht hw hmay]
  exact List.mem_append_right _ (mem_latchedBits hb hset)

theorem fdOffRelease_yields (hwf : (Instr.fdOffRelease r t w mask).wf = true) (hmay : s.mayWrite r (A.TL_FD_OFF t w) mask = true) :
    Yields (.fdOffRelease r t w mask) s fun u => ∀ b, b < 32 → mask.testBit b = true → 128 * t + 32 * w + b ∈ u.act.fdRelease := by
  obtain ⟨⟨⟨-, ht⟩, hw⟩, -⟩ : ((r.wf = true ∧ t < 80) ∧ w < 4) ∧ mask < 2 ^ 32 := by simpa [Instr.wf, isTile, isWord] using hwf
  refine ⟨_, exec_fdOffRelease r t w mask s hwf, fun b hb hset => ?_⟩
  rw [State.regWrite_fdOff ht hw hmay]
  exact List.mem_append_right _ (mem_latchedBits hb hset)

/-! ### Driver levels -/

/-- Both levels of the word wait as shadows, CROSS and then BAR. -/
theorem State.regWrite_fdLevel {d v : Nat} (ht : t < 80) (hd : d < 128) (hmay : s.mayWrite r (A.TL_FD_LEVEL t d) v = true) :
    s.regWrite r (A.TL_FD_LEVEL t d) [v] =
      (((s.dropHeld r).addShadow (R.TL_FD_LEVEL_CROSS t d) ((R.TL_FD_LEVEL_CROSS t d).get v) false).addShadow
        (R.TL_FD_LEVEL_BAR t d) ((R.TL_FD_LEVEL_BAR t d).get v) false).noteStatus r Code.ok := by
  have hcap : inCapture (A.TL_FD_LEVEL t d) = false := inCapture_below (by unfold A.TL_FD_LEVEL; omega)
  rw [State.regWrite_plain hmay (regAt_fdLevel ht hd) hcap rfl rfl]
  rfl

theorem fdLevelWrite_yields {bar cross : Nat} (hwf : (Instr.fdLevelWrite r k bar cross).wf = true)
    (hmay : s.mayWrite r (A.TL_FD_LEVEL (k / 128) (k % 128)) (cross * 65536 + bar) = true) : Yields (.fdLevelWrite r k bar cross) s fun t =>
      t.shadowOf (R.TL_FD_LEVEL_BAR (k / 128) (k % 128)) = some bar ∧ t.shadowOf (R.TL_FD_LEVEL_CROSS (k / 128) (k % 128)) = some cross := by
  obtain ⟨⟨⟨-, hk⟩, hbar⟩, hcross⟩ : ((r.wf = true ∧ k < 10240) ∧ bar < 4096) ∧ cross < 4096 := by simpa [Instr.wf, isDriver] using hwf
  have hgetBar : (R.TL_FD_LEVEL_BAR (k / 128) (k % 128)).get (cross * 65536 + bar) = bar := by
    show (cross * 65536 + bar) / 1 % 4096 = bar
    omega
  have hgetCross : (R.TL_FD_LEVEL_CROSS (k / 128) (k % 128)).get (cross * 65536 + bar) = cross := by
    show (cross * 65536 + bar) / 65536 % 4096 = cross
    omega
  have hne : R.TL_FD_LEVEL_CROSS (k / 128) (k % 128) ≠ R.TL_FD_LEVEL_BAR (k / 128) (k % 128) := by
    simp [R.TL_FD_LEVEL_CROSS, R.TL_FD_LEVEL_BAR]
  refine ⟨_, exec_fdLevelWrite r k bar cross s hwf, ?_⟩
  rw [State.regWrite_fdLevel (by omega) (by omega) hmay, hgetBar, hgetCross]
  simp only [State.shadowOf_noteStatus]
  exact ⟨State.shadowOf_addShadow _ _ _ _, (State.shadowOf_addShadow_of_ne hne _ _).trans (State.shadowOf_addShadow _ _ _ _)⟩

end

/-- Settles O42, request by request. -/
theorem outputRequests : Obligations.OutputRequests := by
  unfold Obligations.OutputRequests
  intro s k hs
  refine ⟨guardIntegrity_yields hs, starvation_yields hs, fun hk hstarved => ?_, trimApply_yields,
    fun r w mask hwf hmay => htrOffRelease_yields hwf hmay, fun r w mask hwf hmay => fdOffRelease_yields hwf hmay,
    fun r bar cross hwf hmay => fdLevelWrite_yields hwf hmay⟩
  rw [exec_starvation k s (decide_eq_true hk), State.when, State.starvation, if_pos hstarved, ite_self]

end Sys2Proof.Machine
end

section
/-! TESTS. A state that meets the hypotheses of the statement about output requests, and what it says of them. -/

set_option Elab.async false

namespace Sys2Proof.Machine

open Sys2Proof

/-- Tile 0 starves. A TRIM of 63 waits for the last heater channel, in force is 1; all latches of the last words are set. -/
def askingBlock : State :=
  { ((runningBlock.wr (R.TL_HTR_CFG_TRIM 79 255) 63).wr (R.TL_HTR_OFF_LATCHED 79 7) (2 ^ 32 - 1)).wr (R.TL_FD_OFF_LATCHED 79 3) (2 ^ 32 - 1) with
    power := .run
    act := { runningBlock.act with
      tiles := { starved := true } :: List.replicate 79 {}
      htr := [{ runningBlock.chan_ 20479 with trim := 1, trimWaits := true }] } }

theorem askingBlock_sound : askingBlock.sound = true := by decide

theorem askingBlock_guard : Yields (.guardIntegrity 79) askingBlock fun t =>
    (t.actTile 79).guardDue = true ∧ t.faults.incoming = [tileMsg 79 0x39 0 0] := by
  obtain ⟨guard, -⟩ := outputRequests askingBlock 79 askingBlock_sound
  exact (guard (by decide) (by decide)).imp fun _ ⟨hdue, hfaults⟩ => ⟨hdue, congrArg _ hfaults⟩

/-- The last tile begins to starve; tile 0 starves already. -/
theorem askingBlock_starvation :
    (Yields (.starvation 79) askingBlock fun t => (t.actTile 79).starved = true ∧ t.rd (R.TL_GUARD_STATUS_STARVED 79) = 1 ∧
      t.faults.incoming = [tileMsg 79 0x3A 0 0]) ∧
    exec (.starvation 0) askingBlock = .next askingBlock := by
  obtain ⟨-, begins, -⟩ := outputRequests askingBlock 79 askingBlock_sound
  obtain ⟨-, -, already, -⟩ := outputRequests askingBlock 0 askingBlock_sound
  exact ⟨(begins (by decide) (by decide) (by decide)).imp fun _ ⟨hstarved, hshown, hfaults⟩ => ⟨hstarved, hshown, congrArg _ hfaults⟩,
    already (by decide) (by decide)⟩

theorem askingBlock_trim : Yields (.trimApply 20479) askingBlock fun t =>
    (t.chan_ 20479).trimWaits = false ∧ (t.chan_ 20479).trim = 63 := by
  obtain ⟨-, -, -, trim, -⟩ := outputRequests askingBlock 20479 askingBlock_sound
  exact (trim (by decide) (by decide)).imp fun _ ⟨hwaits, htrim⟩ => ⟨hwaits, htrim.trans (by decide)⟩

/-- The owner releases the first and the last unit of the last words. -/
theorem askingBlock_releases :
    (Yields (.htrOffRelease (.principal 30) 79 7 (2 ^ 31 + 1)) askingBlock fun t => 20448 ∈ t.act.htrRelease ∧ 20479 ∈ t.act.htrRelease) ∧
    Yields (.fdOffRelease (.principal 30) 79 3 (2 ^ 31 + 1)) askingBlock fun t => 10208 ∈ t.act.fdRelease ∧ 10239 ∈ t.act.fdRelease := by
  obtain ⟨-, -, -, -, heaters, drivers, -⟩ := outputRequests askingBlock 79 askingBlock_sound
  exact ⟨(heaters (.principal 30) 7 (2 ^ 31 + 1) (by decide) (by decide +kernel)).imp
      fun _ hkept => ⟨hkept 0 (by decide) (by decide), hkept 31 (by decide) (by decide)⟩,
    (drivers (.principal 30) 3 (2 ^ 31 + 1) (by decide) (by decide +kernel)).imp
      fun _ hkept => ⟨hkept 0 (by decide) (by decide), hkept 31 (by decide) (by decide)⟩⟩

/-- The least and the greatest level for the last driver, which no context names. -/
theorem askingBlock_level : Yields (.fdLevelWrite (.principal 30) 10239 0 4095) askingBlock fun t =>
    t.shadowOf (R.TL_FD_LEVEL_BAR 79 127) = some 0 ∧ t.shadowOf (R.TL_FD_LEVEL_CROSS 79 127) = some 4095 := by
  obtain ⟨-, -, -, -, -, -, level⟩ := outputRequests askingBlock 10239 askingBlock_sound
  exact level (.principal 30) 0 4095 (by decide) (by decide +kernel)

end Sys2Proof.Machine
end

section
/-! SUPPORT. Calibration runs: a request stands for its tile, a requested run starts at the boundary just passed, and the end of a run shows the
temperature it started at (R223, R225, R226). -/

set_option Elab.async false

namespace Sys2Proof.Machine

open Sys2Proof

/-! ### The word of an action -/

section
variable {s : State} {r : Requester} {k : Nat}

/-- The word that sets a field of one bit has that bit. -/
theorem State.testBit_setting (s : State) (a a' b : Nat) : (s.setting a [(⟨a', b, b⟩, 1)]).testBit b = true := by
  refine (testBit_iff_bits _ _).2 ((bits_putBits _ _ _ _).trans ?_)
  rw [Nat.add_sub_cancel_left]
  rfl

/-- It has no other bit that is not a setting's: what is no setting rests at 0. -/
theorem State.testBit_setting_other {a a' b c : Nat} {spec : RegSpec} {ix : List Nat} (hat : regAt a = some ⟨spec, ix⟩) (hcb : c ≠ b)
    (hrest : ∀ x ∈ spec.fields, x.acc = .rw → x.lo ≤ x.hi ∧ (c < x.lo ∨ x.hi < c)) : (s.setting a [(⟨a', b, b⟩, 1)]).testBit c = false := by
  have hzero : bits (s.restWord a) c c = 0 :=
    State.get_restWord (g := ⟨a, c, c⟩) hat fun x hx hrw => ⟨Nat.le_refl c, hrest x hx hrw⟩
  have hkept : bits (s.setting a [(⟨a', b, b⟩, 1)]) c c = 0 := by
    rcases Nat.lt_or_gt_of_ne hcb with hbelow | habove
    · exact (bits_putBits_below _ _ _ _ _ _ hbelow (Nat.le_refl c)).trans hzero
    · exact (bits_putBits_above _ _ _ _ _ _ habove (Nat.le_refl b)).trans hzero
  exact Bool.eq_false_iff.2 fun hset => absurd (((testBit_iff_bits _ _).1 hset).symm.trans hkept) (by decide)

/-! ### The registers of the requests -/

/-- The entries of TL_CAL_CTRL and CAL_CTRL in the table of chapter 9. -/
def calCtrlSpec : RegSpec := ⟨.TL_CAL_CTRL, 0x106000, [(80, 0x10000)], .shared,
  [⟨31, 31, .w1s, .live, 0, .number, false⟩, ⟨30, 30, .ro, .fixed, 0, .number, false⟩, ⟨29, 29, .ro, .fixed, 0, .number, false⟩,
   ⟨28, 28, .w1s, .live, 0, .number, false⟩, ⟨23, 16, .rc, .fixed, 0, .number, false⟩, ⟨15, 0, .ro, .fixed, 0, .number, false⟩]⟩

def calAllSpec : RegSpec := ⟨.CAL_CTRL, 0x500, [], .shared,
  [⟨31, 31, .w1s, .live, 0, .number, false⟩, ⟨30, 30, .rw, .framed, 1, .number, false⟩, ⟨29, 29, .rw, .framed, 0, .image, false⟩,
   ⟨7, 0, .rw, .framed, 8, .number, false⟩]⟩

theorem regAt_calCtrl (hk : k < 80) : regAt (A.TL_CAL_CTRL k) = some ⟨calCtrlSpec, [k]⟩ := by
  have hfirst : regAt (A.TL_CAL_CTRL 0) = some ⟨calCtrlSpec, [0]⟩ := by decide
  refine regAt_ofTile hfirst ?_ ?_ hk ?_ <;> unfold A.TL_CAL_CTRL <;> omega

theorem regAt_calAll : regAt A.CAL_CTRL = some ⟨calAllSpec, []⟩ := by decide

/-- A write of TL_CAL_CTRL stores nothing: its bits are requests. -/
theorem State.regWrite_calCtrl {w : Nat} (hk : k < 80) (hmay : s.mayWrite r (A.TL_CAL_CTRL k) w = true) :
    s.regWrite r (A.TL_CAL_CTRL k) [w] =
      (((s.dropHeld r).when (w.testBit 31) (·.requestRun k)).when (w.testBit 28) (·.requestTia k)).noteStatus r Code.ok := by
  have hcap : inCapture (A.TL_CAL_CTRL k) = false := inCapture_below (by unfold A.TL_CAL_CTRL; omega)
  rw [State.regWrite_plain hmay (regAt_calCtrl hk) hcap rfl rfl]
  rfl

/-- The settings of CAL_CTRL wait for the boundary (R15). -/
def State.calAllSet (s : State) (w : Nat) : State :=
  s.over [R.CAL_CTRL_AUTO, R.CAL_CTRL_USE_REFIN, R.CAL_CTRL_DT_CAL] fun s f => s.addShadow f (f.get w) false

theorem State.regWrite_calAll {w : Nat} (hmay : s.mayWrite r A.CAL_CTRL w = true) : s.regWrite r A.CAL_CTRL [w] =
    (((s.dropHeld r).calAllSet w).when (w.testBit 31) (·.requestCals (List.range 80) true)).noteStatus r Code.ok := by
  rw [State.regWrite_plain hmay regAt_calAll rfl rfl rfl]
  rfl

@[simp] theorem State.noteStatus_cal (s : State) (r : Requester) (code : Nat) : (s.noteStatus r code).cal = s.cal :=
  State.noteStatus_same (o := partMask [.sb]) same_refl (by decide) .cal (by decide)

@[simp] theorem State.noteStatus_hka (s : State) (r : Requester) (code : Nat) : (s.noteStatus r code).hka = s.hka :=
  State.noteStatus_same (o := partMask [.sb]) same_refl (by decide) .hka (by decide)

@[simp] theorem State.tileCal_noteStatus (s : State) (r : Requester) (code t : Nat) : (s.noteStatus r code).tileCal t = s.tileCal t := by
  rw [State.tileCal, State.noteStatus_cal, State.tileCal]

/-! ### The requests -/

theorem tlCalReq_yields (hs : s.sound = true) (hk : k < 80) (hr : r.wf = true)
    (hmay : s.mayWrite r (A.TL_CAL_CTRL k) (s.setting (A.TL_CAL_CTRL k) [(R.TL_CAL_CTRL_REQ k, 1)]) = true) :
    Yields (.tlCalReq r k) s fun t => (t.tileCal k).req = true := by
  have hwrite : s.writeFields r (A.TL_CAL_CTRL k) [(R.TL_CAL_CTRL_REQ k, 1)] = ((s.dropHeld r).requestRun k).noteStatus r Code.ok := by
    refine (State.regWrite_calCtrl hk hmay).trans ?_
    have hset : (s.setting (A.TL_CAL_CTRL k) [(R.TL_CAL_CTRL_REQ k, 1)]).testBit 31 = true := State.testBit_setting s _ _ _
    have hother : (s.setting (A.TL_CAL_CTRL k) [(R.TL_CAL_CTRL_REQ k, 1)]).testBit 28 = false :=
      State.testBit_setting_other (regAt_calCtrl hk) (by decide) (by decide)
    rw [hset, hother]
    rfl
  have hlen : k < (s.dropHeld r).cal.tiles.length := (State.sound_kept hs).calTiles ▸ hk
  refine ⟨_, exec_tlCalReq r k s (by simp [Instr.wf, isTile, hr, hk]), ?_⟩
  simp only [hwrite, State.tileCal_noteStatus]
  rw [State.requestRun, State.tileCal_updCal _ _ hlen, if_pos rfl]

theorem tiaReq_yields (hs : s.sound = true) (hk : k < 80) (hr : r.wf = true)
    (hmay : s.mayWrite r (A.TL_CAL_CTRL k) (s.setting (A.TL_CAL_CTRL k) [(R.TL_CAL_CTRL_TIA_REQ k, 1)]) = true)
    (hidle : (s.tileCal k).tia = none) : Yields (.tiaReq r k) s fun t => (t.tileCal k).tia = some (s.clk.frame + 1) := by
  have hwrite : s.writeFields r (A.TL_CAL_CTRL k) [(R.TL_CAL_CTRL_TIA_REQ k, 1)] = ((s.dropHeld r).requestTia k).noteStatus r Code.ok := by
    refine (State.regWrite_calCtrl hk hmay).trans ?_
    have hset : (s.setting (A.TL_CAL_CTRL k) [(R.TL_CAL_CTRL_TIA_REQ k, 1)]).testBit 28 = true := State.testBit_setting s _ _ _
    have hother : (s.setting (A.TL_CAL_CTRL k) [(R.TL_CAL_CTRL_TIA_REQ k, 1)]).testBit 31 = false :=
      State.testBit_setting_other (regAt_calCtrl hk) (by decide) (by decide)
    rw [hset, hother]
    rfl
  have hlen : k < (s.dropHeld r).cal.tiles.length := (State.sound_kept hs).calTiles ▸ hk
  have hnone : ((s.dropHeld r).tileCal k).tia = none := hidle
  refine ⟨_, exec_tiaReq r k s (by simp [Instr.wf, isTile, hr, hk]), ?_⟩
  simp only [hwrite, State.tileCal_noteStatus]
  rw [State.requestTia, if_neg (by simp [hnone]), State.tileCal_updCal _ _ hlen, if_pos rfl]
  rfl

/-- A request of the converter stands, be it new or from before. -/
theorem State.requestHkaCal_isSome (s : State) : s.requestHkaCal.hka.calAt.isSome = true := by
  unfold State.requestHkaCal
  split
  case isTrue hstands => exact hstands
  case isFalse => rfl

theorem calAll_yields (hs : s.sound = true) (hk : k < 80) (hr : r.wf = true)
    (hmay : s.mayWrite r A.CAL_CTRL (s.setting A.CAL_CTRL [(R.CAL_CTRL_ALL, 1)]) = true) :
    Yields (.calAll r) s fun t => (t.tileCal k).req = true ∧ t.hka.calAt.isSome = true := by
  have hwrite : s.writeFields r A.CAL_CTRL [(R.CAL_CTRL_ALL, 1)] =
      (((s.dropHeld r).calAllSet (s.setting A.CAL_CTRL [(R.CAL_CTRL_ALL, 1)])).requestCals (List.range 80) true).noteStatus r Code.ok := by
    refine (State.regWrite_calAll hmay).trans ?_
    have hset : (s.setting A.CAL_CTRL [(R.CAL_CTRL_ALL, 1)]).testBit 31 = true := State.testBit_setting s _ _ _
    rw [hset, State.when, if_pos rfl]
  refine ⟨_, exec_calAll r s hr, ?_⟩
  simp only [hwrite, State.tileCal_noteStatus, State.noteStatus_hka]
  exact ⟨State.requestCals_req ((State.sound_kept hs).calTiles ▸ hk) (List.mem_range.2 hk), State.requestHkaCal_isSome _⟩

/-! ### A run -/

/-- A requested run starts whatever the mode: SURVEY holds back triggered runs alone (R226). -/
theorem tileRunStart_yields (hs : s.sound = true) (hk : k < 80) (hclocked : s.clocked = true) (hidle : (s.tileCal k).start = none)
    (hpower : s.power = .run ∨ s.power = .idle) (hreq : (s.tileCal k).req = true) (hfirst : (s.tileCal k).first ≤ s.clk.frame) :
    Yields (.tileRunStart k) s fun t => (t.tileCal k).start = some s.clk.frame ∧ (t.tileCal k).req = false ∧ (t.tileCal k).trig = false ∧
      (t.tileCal k).temp = s.rdS (R.TH_SENSOR_TEMP k) := by
  have hallowed : s.runsAllowed = true := by rcases hpower with h | h <;> simp [State.runsAllowed, h]
  have hlen : k < s.cal.tiles.length := (State.sound_kept hs).calTiles ▸ hk
  refine ⟨_, exec_tileRunStart k s (decide_eq_true hk), ?_⟩
  rw [State.when, if_pos hclocked, State.tileRunStart, if_neg (by simp [hidle, hallowed, hreq, hfirst])]
  beta_reduce
  rw [State.tileCal_updCal _ _ hlen, if_pos rfl]
  exact ⟨rfl, rfl, rfl, rfl⟩

/-- Nothing starts that is neither requested nor triggered. -/
theorem State.tileRunStart_of_none (hreq : (s.tileCal k).req = false) (htrig : (s.tileCal k).trig = false) : s.tileRunStart k = s := by
  rw [State.tileRunStart, if_pos (by simp [hreq, htrig])]

theorem unsigned_lt (n : Nat) (i : Int) : unsigned n i < 2 ^ n := by
  have hlt : i % (2 ^ n : Int) < 2 ^ n := Int.emod_lt_of_pos _ (by positivity)
  rw [unsigned, Int.toNat_lt (Int.emod_nonneg _ (by positivity))]
  exact_mod_cast hlt

theorem tileRunEnd_yields (hs : s.sound = true) (hk : k < 80) (hdue : (s.tileCal k).endDue = true) :
    Yields (.tileRunEnd k) s fun t => (t.tileCal k).start = none ∧ (t.tileCal k).endDue = false ∧
      t.rd (R.TL_CAL_STATUS_T_LAST k) = unsigned ((R.TL_CAL_STATUS_T_LAST k).hi + 1 - (R.TL_CAL_STATUS_T_LAST k).lo) (s.tileCal k).temp := by
  have hlen : k < (s.wrS (R.TL_CAL_STATUS_T_LAST k) (s.tileCal k).temp).cal.tiles.length := (State.sound_kept hs).calTiles ▸ hk
  refine ⟨_, exec_tileRunEnd k s (decide_eq_true hk), ?_⟩
  rw [State.tileRunEnd, if_neg (by simp [hdue])]
  beta_reduce
  rw [State.tileCal_updCal _ _ hlen, if_pos rfl]
  exact ⟨rfl, rfl, State.rd_wr_of_lt (State.sound_regs hs) (unsigned_lt _ _)⟩

end

/-- Settles O43, request by request. -/
theorem calibrationRuns : Obligations.CalibrationRuns := by
  unfold Obligations.CalibrationRuns
  intro s k hs hk
  refine ⟨fun r hr hmay => tlCalReq_yields hs hk hr hmay, fun r hr hmay hidle => tiaReq_yields hs hk hr hmay hidle,
    fun r hr hmay => calAll_yields hs hk hr hmay, tileRunStart_yields hs hk, fun _ hreq htrig => ?_, tileRunEnd_yields hs hk, fun hnot => ?_⟩
  · rw [exec_tileRunStart k s (decide_eq_true hk), State.when, State.tileRunStart_of_none hreq htrig, ite_self]
  · rw [exec_tileRunEnd k s (decide_eq_true hk), State.tileRunEnd, if_pos (by simp [hnot])]

end Sys2Proof.Machine
end

section
/-! TESTS. A state that meets the hypotheses of the statement about calibration runs, and what it says of it. -/

set_option Elab.async false

namespace Sys2Proof.Machine

open Sys2Proof

/-- A run that started at −0.75 °C ends in tile 0, pedestals are calibrated in tile 1, and a run is requested in tile 79. -/
def calibratingBlock : State :=
  { runningBlock with
    power := .run
    cal := { tiles := { start := some 0, temp := -3, endDue := true } :: { tia := some 0 } :: List.replicate 77 {} ++ [{ req := true, trig := true }] } }

theorem calibratingBlock_sound : calibratingBlock.sound = true := by decide

/-- The owner's requests: a run in tile 0, pedestals in tile 79, all. -/
theorem calibratingBlock_requests :
    (Yields (.tlCalReq (.principal 30) 0) calibratingBlock fun t => (t.tileCal 0).req = true) ∧
    (Yields (.tiaReq (.principal 30) 79) calibratingBlock fun t => (t.tileCal 79).tia = some 1) ∧
    Yields (.calAll (.principal 30)) calibratingBlock fun t => (t.tileCal 1).req = true ∧ t.hka.calAt.isSome = true := by
  obtain ⟨run, -⟩ := calibrationRuns calibratingBlock 0 calibratingBlock_sound (by decide)
  obtain ⟨-, pedestals, -⟩ := calibrationRuns calibratingBlock 79 calibratingBlock_sound (by decide)
  obtain ⟨-, -, all, -⟩ := calibrationRuns calibratingBlock 1 calibratingBlock_sound (by decide)
  exact ⟨run (.principal 30) (by decide) (by decide +kernel), pedestals (.principal 30) (by decide) (by decide +kernel) (by decide),
    all (.principal 30) (by decide) (by decide +kernel)⟩

theorem calibratingBlock_start : Yields (.tileRunStart 79) calibratingBlock fun t =>
    (t.tileCal 79).start = some 0 ∧ (t.tileCal 79).req = false ∧ (t.tileCal 79).trig = false := by
  obtain ⟨-, -, -, start, -⟩ := calibrationRuns calibratingBlock 79 calibratingBlock_sound (by decide)
  exact (start (by decide) (by decide) (by decide) (by decide) (by decide)).imp
    fun _ ⟨hstart, hreq, htrig, _⟩ => ⟨hstart, hreq, htrig⟩

/-- T_LAST holds quarters of a degree in ten bits. -/
theorem calibratingBlock_end : Yields (.tileRunEnd 0) calibratingBlock fun t =>
    (t.tileCal 0).start = none ∧ t.rd (R.TL_CAL_STATUS_T_LAST 0) = 2 ^ 10 - 3 := by
  obtain ⟨-, -, -, -, -, ends, -⟩ := calibrationRuns calibratingBlock 0 calibratingBlock_sound (by decide)
  exact (ends (by decide)).imp fun _ ⟨hstart, _, htemp⟩ => ⟨hstart, htemp.trans (by decide)⟩

/-- In tile 1 nothing is requested and no end is due. -/
theorem calibratingBlock_rest :
    exec (.tileRunStart 1) calibratingBlock = .next calibratingBlock ∧ exec (.tileRunEnd 1) calibratingBlock = .next calibratingBlock := by
  obtain ⟨-, -, -, -, idle, -, stays⟩ := calibrationRuns calibratingBlock 1 calibratingBlock_sound (by decide)
  exact ⟨idle (by decide) (by decide) (by decide), stays (by decide)⟩

end Sys2Proof.Machine
end

section
/-! SUPPORT. SURVEY sweeps: START begins a sweep or shows the cause of its refusal, ABORT marks one, its points and its end show in SV_STATUS (R234,
R235). -/

set_option Elab.async false

namespace Sys2Proof.Machine

open Sys2Proof

/-! ### The settings of SV_CTRL -/

/-- The entry of SV_CTRL in the table of chapter 9. -/
def svCtrlSpec : RegSpec := ⟨.SV_CTRL, 0x540, [], .shared,
  [⟨31, 31, .w1s, .live, 0, .number, false⟩, ⟨30, 30, .w1s, .live, 0, .number, false⟩, ⟨29, 28, .rw, .quiesced, 0, .number, false⟩,
   ⟨27, 27, .rw, .quiesced, 0, .number, false⟩, ⟨26, 26, .rw, .quiesced, 0, .number, false⟩, ⟨25, 23, .rw, .quiesced, 0, .number, false⟩,
   ⟨22, 19, .rw, .quiesced, 0, .number, false⟩, ⟨10, 0, .rw, .quiesced, 1, .number, false⟩]⟩

theorem regAt_svCtrl : regAt A.SV_CTRL = some ⟨svCtrlSpec, []⟩ := by decide

/-- The settings of SV_CTRL, which a write stores. -/
def svSettings : List FieldAt :=
  [R.SV_CTRL_KIND, R.SV_CTRL_BAR_IS_MAX, R.SV_CTRL_SEED, R.SV_CTRL_GEN, R.SV_CTRL_SETTLE, R.SV_CTRL_POINTS]

theorem svSettings_addr : ∀ f ∈ svSettings, f.addr = A.SV_CTRL := by decide
theorem svSettings_bits : ∀ f ∈ svSettings, f.hi < 32 ∧ f.lo ≤ f.hi := by decide
theorem svSettings_apart : ∀ f ∈ svSettings, ∀ g ∈ svSettings, g ≠ f → g.hi < f.lo ∨ f.hi < g.lo := by decide

section
variable {s t : State} {r : Requester} {f g : FieldAt} {a v w : Nat}

theorem State.word_wr_of_ne (h : s.Regs) (ha : a ≠ f.addr) : (s.wr f v).word a = s.word a := by
  rw [State.wr, State.word_setWord _ _ _ _ h.shared, if_neg ha]

/-- The settings of the word stand. -/
def State.svSet (s : State) (w : Nat) : State := s.over svSettings fun s f => s.wr f (f.get w)

/-- A write of SV_CTRL stores the settings, starts a sweep and aborts one, as its bits say. -/
theorem State.regWrite_svCtrl (hmay : s.mayWrite r A.SV_CTRL w = true) : s.regWrite r A.SV_CTRL [w] =
    ((((s.dropHeld r).svSet w).when (w.testBit 31) State.sweepStart).when (w.testBit 30) State.sweepAbort).noteStatus r Code.ok := by
  rw [State.regWrite_plain hmay regAt_svCtrl rfl rfl rfl]
  rfl

theorem State.svSet_same : Same (partMask [.shared]) s (s.svSet w) :=
  State.over_same (fun _ _ hu => State.wr_same hu (by decide)) same_refl

/-- The words of the other registers read as before. -/
theorem State.svSet_word (h : s.Regs) (ha : a ≠ A.SV_CTRL) : (s.svSet w).Regs ∧ (s.svSet w).word a = s.word a := by
  refine List.foldlRecOn (motive := fun u : State => u.Regs ∧ u.word a = s.word a) _ _ ⟨h, rfl⟩ fun u ⟨hu, hread⟩ f hf => ⟨hu.wr, ?_⟩
  rw [State.word_wr_of_ne hu (svSettings_addr f hf ▸ ha), hread]

theorem State.Regs.svSet (h : s.Regs) : (s.svSet w).Regs := (State.svSet_word (a := A.SV_STATUS) h (by decide)).1

/-- A setting that the word leaves as it stands reads as before. -/
theorem State.rd_svSet (h : s.Regs) (hg : g ∈ svSettings) (hkeeps : g.get w = s.rd g) : (s.svSet w).rd g = s.rd g := by
  refine (List.foldlRecOn (motive := fun u : State => u.Regs ∧ u.rd g = s.rd g) _ _ ⟨h, rfl⟩ fun u ⟨hu, hread⟩ f hf => ⟨hu.wr, ?_⟩).2
  obtain ⟨hhi, hlo⟩ := svSettings_bits f hf
  by_cases hgf : g = f
  · subst hgf
    exact (State.rd_wr_of_lt hu (hkeeps ▸ s.rd_lt g) (decide_eq_true ⟨hhi, hlo⟩)).trans hkeeps
  · exact (State.rd_wr_bits _ _ _ _ hu.shared hhi hlo (svSettings_bits g hg).2 (svSettings_apart f hf g hg hgf)).trans hread

end

/-! ### The list and the cause of a refusal -/

/-- The entries that the list in the capture memory names. -/
def State.sweepList (s : State) : List Nat := (List.range (min 2560 (s.rd R.SV_LIST_COUNT))).map s.sweepEntry

theorem State.sweepCause_le (s : State) (kind : Nat) (l : List Nat) : s.sweepCause kind l ≤ 5 := by
  unfold State.sweepCause
  extract_lets count list log base size chans pds
  repeat' split
  all_goals omega

section
variable {s t : State} {kind : Nat} {l : List Nat}

/-- No register of a capture channel is SV_CTRL. -/
theorem chBase_above (c : Nat) : A.SV_CTRL < chBase c := by
  unfold chBase A.SV_CTRL A.CAP_CTRL A.RSP_CTRL
  split <;> omega

/-- Channels run, and lie in the capture memory, as their own registers and their photodiodes' say. -/
theorem State.channels_congr (hword : ∀ a, a ≠ A.SV_CTRL → t.word a = s.word a) (hclass : t.classExpress = s.classExpress) :
    t.running = s.running ∧ t.bufBase = s.bufBase ∧ t.bufSize = s.bufSize ∧ t.chRate = s.chRate := by
  have hrd {g : FieldAt} (hg : g.addr ≠ A.SV_CTRL) : t.rd g = s.rd g := by rw [State.rd, hword _ hg, State.rd]
  have hfield (c off hi lo : Nat) : t.rd (chField c off hi lo) = s.rd (chField c off hi lo) :=
    hrd (Nat.ne_of_gt (Nat.lt_of_lt_of_le (chBase_above c) (Nat.le_add_right _ _)))
  have hsize (c : Nat) : (chSizeLog c).addr = chBase c := by unfold chSizeLog chBase; split <;> rfl
  have hctrl (c : Nat) : A.CAP_CTRL c ≠ A.SV_CTRL := by unfold A.CAP_CTRL A.SV_CTRL; omega
  have hresponse (c : Nat) : A.RSP_CTRL c ≠ A.SV_CTRL := by unfold A.RSP_CTRL A.SV_CTRL; omega
  have hpd (c d : Nat) : A.TL_PD_CFG c d ≠ A.SV_CTRL := by unfold A.TL_PD_CFG A.SV_CTRL; omega
  have hcapture (c : Nat) : t.capRate c = s.capRate c := by
    have hpds : t.capPds c = s.capPds c := by
      rw [State.capPds, hrd (g := R.CAP_CTRL_SOURCE c) (hctrl c), hrd (g := R.CAP_CTRL_FORMAT c) (hctrl c), State.capPds]
    have hlen (d : Nat) : t.avgLen d = s.avgLen d := by rw [State.avgLen, hword _ (hpd _ _), State.avgLen]
    rw [State.capRate, hpds, hrd (g := R.CAP_CTRL_FORMAT c) (hctrl c), hlen, State.capRate]
  refine ⟨funext fun c => ?_, funext fun c => ?_, funext fun c => ?_, funext fun c => ?_⟩
  · rw [State.running, State.on, chRunning, hfield, State.running, State.on, chRunning]
  · rw [State.bufBase, chBufBase, hfield, State.bufBase, chBufBase]
  · rw [State.bufSize, hrd (hsize c ▸ Nat.ne_of_gt (chBase_above c)), State.bufSize]
  · rw [State.chRate, hcapture, hrd (g := R.RSP_CTRL_CONTEXT (c - 32)) (hresponse _), hclass, State.chRate]

/-- The cause of a refusal rests on no word of SV_CTRL but the kind that is asked for. -/
theorem State.sweepCause_congr (hsame : Same (partMask [.shared, .access]) s t) (hword : ∀ a, a ≠ A.SV_CTRL → t.word a = s.word a) :
    t.sweepCause kind l = s.sweepCause kind l := by
  have hrd {g : FieldAt} (hg : g.addr ≠ A.SV_CTRL) : t.rd g = s.rd g := by rw [State.rd, hword _ hg, State.rd]
  have hrdP (p : Plane) (g : FieldAt) : t.rdP p g = s.rdP p g := State.rdP_of_same p g hsame (by decide) (by decide)
  have hactive : t.active = s.active := State.active_of_rd (hrd (by decide))
  have hstate : t.stateOf = s.stateOf := funext fun n => by rw [State.stateOf, State.cx, hactive, hrdP, State.stateOf, State.cx]
  have hclass : t.classExpress = s.classExpress := funext fun n => by rw [State.classExpress, hactive, hrdP, State.classExpress]
  have hfabric : t.fabric = s.fabric := hsame .fabric (by decide)
  have hroute : t.route = s.route := hsame .route (by decide)
  have hrecord : t.recordOf = s.recordOf := funext fun e => by rw [State.recordOf, hfabric, hroute, State.recordOf]
  have hnames : t.sweepNames = s.sweepNames := funext₂ fun kind e => by rw [State.sweepNames, hfabric, State.sweepNames]
  have hctx : t.sweepCtx = s.sweepCtx := funext₂ fun kind e => by rw [State.sweepCtx, hfabric, hrecord, State.sweepCtx]
  have hpd : t.sweepPd = s.sweepPd := funext₂ fun kind e => by rw [State.sweepPd, hfabric, hrecord, State.sweepPd]
  obtain ⟨hrunning, hbase, hsize, hrate⟩ := State.channels_congr hword hclass
  rw [State.sweepCause, hrd (g := R.SV_LIST_COUNT) (by decide), hrd (g := R.SV_LIST_BASE) (by decide), hrd (g := R.SV_OUT_SIZE_LOG2) (by decide),
    hrd (g := R.SV_OUT_BASE) (by decide), hstate, hfabric, hrecord, hnames, hctx, hpd, hrunning, hbase, hsize, hrate, State.sweepCause]

/-- The list is read from the capture memory, where and as long as SV_LIST says. -/
theorem State.sweepList_congr (hsame : Same (partMask [.shared, .access]) s t) (hword : ∀ a, a ≠ A.SV_CTRL → t.word a = s.word a) :
    t.sweepList = s.sweepList := by
  have hrd {g : FieldAt} (hg : g.addr ≠ A.SV_CTRL) : t.rd g = s.rd g := by rw [State.rd, hword _ hg, State.rd]
  have hcap : t.cap = s.cap := hsame .cap (by decide)
  have hbyte (a : Nat) : t.capByte a = s.capByte a := by rw [State.capByte, hcap, State.capByte]
  have hentry : t.sweepEntry = s.sweepEntry := funext fun i => by
    rw [State.sweepEntry, hrd (g := R.SV_LIST_BASE) (by decide), hbyte, hbyte, State.sweepEntry]
  rw [State.sweepList, hrd (g := R.SV_LIST_COUNT) (by decide), hentry, State.sweepList]

/-! ### START and ABORT -/

@[simp] theorem State.rd_updSweep (s : State) (a : Sweep → Sweep) (f : FieldAt) : (s.updSweep a).rd f = s.rd f := rfl

/-- What a START with no cause leaves, in the state whose settings are stored. -/
def State.sweepBegun (s : State) : State :=
  (((s.wr R.SV_STATUS_BUSY 1).wr R.SV_STATUS_POINT 0).wr R.SV_STATUS_SEEDED 0).updSweep fun _ => { entries := s.sweepList, b0 := s.clk.frame + 1 }

theorem State.sweepStart_of_none (hidle : s.on R.SV_STATUS_BUSY = false) (hcause : s.sweepCause s.sweepKind s.sweepList = 0) :
    s.sweepStart = s.sweepBegun := by
  have hcause' : s.sweepCause s.sweepKind ((List.range (min 2560 (s.rd R.SV_LIST_COUNT))).map s.sweepEntry) = 0 := hcause
  rw [State.sweepStart, if_neg (by simp [hidle])]
  simp only [hcause']
  rfl

theorem State.sweepStart_of_cause (hidle : s.on R.SV_STATUS_BUSY = false) (hcause : s.sweepCause s.sweepKind s.sweepList ≠ 0) :
    s.sweepStart = (s.wr R.SV_STATUS_REFUSED 1).wr R.SV_STATUS_CAUSE (s.sweepCause s.sweepKind s.sweepList) := by
  rw [State.sweepStart, if_neg (by simp [hidle])]
  extract_lets kind l
  split
  case h_1 hnone => exact absurd hnone hcause
  case h_2 => rfl

theorem State.sweepBegun_shows (h : s.Regs) : s.sweepBegun.rd R.SV_STATUS_BUSY = 1 ∧ s.sweepBegun.rd R.SV_STATUS_POINT = 0 := by
  unfold State.sweepBegun
  rw [State.rd_updSweep, State.rd_updSweep]
  constructor
  · rw [State.rd_wr_apart h.wr.wr, State.rd_wr_apart h.wr, State.rd_wr_of_lt h (of_decide_eq_true rfl)]
  · rw [State.rd_wr_apart h.wr.wr, State.rd_wr_of_lt h.wr (of_decide_eq_true rfl)]

end

section
variable {s : State} {r : Requester} {w : Nat}

/-- START acts on the state whose settings are stored; the kind, the list and the cause are those of before. -/
theorem svStart_yields (hs : s.sound = true) (hr : r.wf = true) (hw : w = s.setting A.SV_CTRL [(R.SV_CTRL_START, 1)])
    (hmay : s.mayWrite r A.SV_CTRL w = true) (hkind : R.SV_CTRL_KIND.get w = s.rd R.SV_CTRL_KIND) (hidle : s.on R.SV_STATUS_BUSY = false) :
    (s.sweepCause s.sweepKind s.sweepList = 0 → Yields (.svStart r) s fun t =>
      t.rd R.SV_STATUS_BUSY = 1 ∧ t.rd R.SV_STATUS_POINT = 0 ∧ t.cal.sweep.b0 = s.clk.frame + 1 ∧ t.cal.sweep.entries = s.sweepList) ∧
    (s.sweepCause s.sweepKind s.sweepList ≠ 0 → Yields (.svStart r) s fun t =>
      t.rd R.SV_STATUS_REFUSED = 1 ∧ t.rd R.SV_STATUS_CAUSE = s.sweepCause s.sweepKind s.sweepList) := by
  have hdropped : (s.dropHeld r).Regs := (State.sound_regs hs).dropHeld
  have hexec : exec (.svStart r) s = .next (((s.dropHeld r).svSet w).sweepStart.noteStatus r Code.ok) := by
    have hstart : w.testBit 31 = true := hw ▸ State.testBit_setting s _ _ _
    have habort : w.testBit 30 = false := hw ▸ State.testBit_setting_other regAt_svCtrl (by decide) (by decide)
    have hwrite : s.writeFields r A.SV_CTRL [(R.SV_CTRL_START, 1)] = s.regWrite r A.SV_CTRL [w] := hw ▸ rfl
    rw [exec_svStart r s hr, hwrite, State.regWrite_svCtrl hmay, hstart, habort]
    rfl
  have hregs : ((s.dropHeld r).svSet w).Regs := hdropped.svSet
  have hsame : Same (partMask [.shared, .access]) s ((s.dropHeld r).svSet w) :=
    State.over_same (fun _ _ hu => State.wr_same hu (by decide)) (State.dropHeld_same same_refl (by decide))
  have hword (a : Nat) (ha : a ≠ A.SV_CTRL) : ((s.dropHeld r).svSet w).word a = s.word a := (State.svSet_word hdropped ha).2
  have hframe : ((s.dropHeld r).svSet w).clk = s.clk := hsame .clk (by decide)
  have hstill : ((s.dropHeld r).svSet w).on R.SV_STATUS_BUSY = false := by rw [State.on, State.rd, hword _ (by decide)]; exact hidle
  have hlist : ((s.dropHeld r).svSet w).sweepList = s.sweepList := State.sweepList_congr hsame hword
  have hcause : ((s.dropHeld r).svSet w).sweepCause ((s.dropHeld r).svSet w).sweepKind ((s.dropHeld r).svSet w).sweepList =
      s.sweepCause s.sweepKind s.sweepList := by
    have hkept : ((s.dropHeld r).svSet w).sweepKind = s.sweepKind := by
      rw [State.sweepKind, State.rd_svSet hdropped (by decide) hkind]
      rfl
    rw [hkept, hlist, State.sweepCause_congr hsame hword]
  refine ⟨fun hnone => ⟨_, hexec, ?_⟩, fun hsome => ⟨_, hexec, ?_⟩⟩
  · obtain ⟨hbusy, hpoint⟩ := State.sweepBegun_shows hregs
    simp only [State.sweepStart_of_none hstill (hcause.trans hnone), State.rd_noteStatus, State.noteStatus_cal]
    exact ⟨hbusy, hpoint, congrArg (·.frame + 1) hframe, hlist⟩
  · have hfits : s.sweepCause s.sweepKind s.sweepList < 8 := Nat.lt_of_le_of_lt (State.sweepCause_le _ _ _) (by decide)
    simp only [State.sweepStart_of_cause hstill (hcause.symm ▸ hsome), State.rd_noteStatus, hcause]
    exact ⟨(State.rd_wr_apart hregs.wr).trans (State.rd_wr_of_lt hregs (of_decide_eq_true rfl)), State.rd_wr_of_lt hregs.wr hfits⟩

theorem svAbort_yields (hs : s.sound = true) (hr : r.wf = true)
    (hmay : s.mayWrite r A.SV_CTRL (s.setting A.SV_CTRL [(R.SV_CTRL_ABORT, 1)]) = true) (hbusy : s.on R.SV_STATUS_BUSY = true) :
    Yields (.svAbort r) s fun t => t.cal.sweep = { s.cal.sweep with aborting := true } := by
  generalize hw : s.setting A.SV_CTRL [(R.SV_CTRL_ABORT, 1)] = w at hmay
  have hstart : w.testBit 31 = false := hw ▸ State.testBit_setting_other regAt_svCtrl (by decide) (by decide)
  have habort : w.testBit 30 = true := hw ▸ State.testBit_setting s _ _ _
  have hwrite : s.writeFields r A.SV_CTRL [(R.SV_CTRL_ABORT, 1)] = s.regWrite r A.SV_CTRL [w] := hw ▸ rfl
  have hexec : exec (.svAbort r) s = .next (((s.dropHeld r).svSet w).sweepAbort.noteStatus r Code.ok) := by
    rw [exec_svAbort r s hr, hwrite, State.regWrite_svCtrl hmay, hstart, habort]
    rfl
  have hcal : ((s.dropHeld r).svSet w).cal = s.cal := State.svSet_same (s := s.dropHeld r) .cal (by decide)
  have hruns : ((s.dropHeld r).svSet w).on R.SV_STATUS_BUSY = true := by
    rw [State.on, State.rd, (State.svSet_word (State.sound_regs hs).dropHeld (by decide)).2]
    exact hbusy
  refine ⟨_, hexec, ?_⟩
  simp only [State.noteStatus_cal, State.sweepAbort, if_pos hruns, ← hcal]
  rfl

end

/-! ### Points and the end -/

section
variable {s : State} {p : Nat}

/-- POINT shows the point that is due; its drives become the latest taken. -/
def State.sweepPointed (s : State) (p : Nat) : State :=
  (s.wr R.SV_STATUS_POINT p).updSweep fun w => { w with
    pointDue := none
    last := s.cal.sweep.entries.filterMap fun e => (s.cal.sweep.drives.find? (·.1 == e)).map fun d => (e, d.2.2) }

theorem State.sweepPoint_of_due (hdue : s.cal.sweep.pointDue = some p) :
    s.sweepPoint = (if p = 0 then s else s.sweepRecord (p - 1) s.cal.sweep.last).sweepPointed p := by
  simp only [State.sweepPoint, hdue]
  rfl

theorem State.sweepPointed_shows (h : s.Regs) (hp : p < 1024) :
    (s.sweepPointed p).rd R.SV_STATUS_POINT = p ∧ (s.sweepPointed p).cal.sweep.pointDue = none :=
  ⟨State.rd_wr_of_lt h (Nat.lt_trans hp (by decide)), rfl⟩

/-- The first point has no records before it. -/
theorem sweepPoint_first_yields (hs : s.sound = true) (hdue : s.cal.sweep.pointDue = some 0) : Yields .sweepPoint s fun t =>
    t.rd R.SV_STATUS_POINT = 0 ∧ t.cal.sweep.pointDue = none ∧ t.cal.sweep.recs = s.cal.sweep.recs ∧ t.cap = s.cap := by
  obtain ⟨hpoint, hnone⟩ := State.sweepPointed_shows (p := 0) (State.sound_regs hs) (by decide)
  refine ⟨_, exec_sweepPoint s, ?_⟩
  rw [State.sweepPoint_of_due hdue, if_pos rfl]
  exact ⟨hpoint, hnone, rfl, rfl⟩

theorem sweepPoint_yields (hs : s.sound = true) (hdue : s.cal.sweep.pointDue = some p) (hp : p < 1024) : Yields .sweepPoint s fun t =>
    t.rd R.SV_STATUS_POINT = p ∧ t.cal.sweep.pointDue = none := by
  have hregs : (if p = 0 then s else s.sweepRecord (p - 1) s.cal.sweep.last).Regs :=
    (ite_kept (State.sound_kept hs) (State.sweepRecord_kept (State.sound_kept hs))).regs
  refine ⟨_, exec_sweepPoint s, ?_⟩
  rw [State.sweepPoint_of_due hdue]
  exact State.sweepPointed_shows hregs hp

/-- The records of the last point and, with SEED, the seeds. -/
def State.sweepSeeded (s : State) : State :=
  let t := s.sweepRecord (s.rd R.SV_STATUS_POINT) s.cal.sweep.last
  t.when (t.on R.SV_CTRL_SEED) State.seedAll

theorem State.sweepEnd_of_due (hdue : s.cal.sweep.endDue = true) : s.sweepEnd =
    ((if s.cal.sweep.aborting then s.wr R.SV_STATUS_ABORTED 1 else s.sweepSeeded.wr R.SV_STATUS_DONE 1).wr R.SV_STATUS_BUSY 0).updSweep fun _ => {} := by
  rw [State.sweepEnd, if_neg (by simp [hdue])]
  rfl

theorem sweepEnd_aborted_yields (hs : s.sound = true) (hdue : s.cal.sweep.endDue = true) (haborting : s.cal.sweep.aborting = true) :
    Yields .sweepEnd s fun t => t.rd R.SV_STATUS_ABORTED = 1 ∧ t.rd R.SV_STATUS_BUSY = 0 ∧ t.cal.sweep = {} ∧ t.cap = s.cap := by
  have hregs := State.sound_regs hs
  refine ⟨_, exec_sweepEnd s, ?_⟩
  rw [State.sweepEnd_of_due hdue, if_pos haborting]
  beta_reduce
  rw [State.rd_updSweep, State.rd_updSweep]
  refine ⟨?_, State.rd_wr_of_lt hregs.wr (of_decide_eq_true rfl), rfl, rfl⟩
  exact (State.rd_wr_apart hregs.wr).trans (State.rd_wr_of_lt hregs (of_decide_eq_true rfl))

theorem sweepEnd_done_yields (hs : s.sound = true) (hdue : s.cal.sweep.endDue = true) (hran : s.cal.sweep.aborting = false) :
    Yields .sweepEnd s fun t => t.rd R.SV_STATUS_DONE = 1 ∧ t.rd R.SV_STATUS_BUSY = 0 ∧ t.cal.sweep = {} := by
  have hrecorded : Kept (Keep.of s) (s.sweepRecord (s.rd R.SV_STATUS_POINT) s.cal.sweep.last) := State.sweepRecord_kept (State.sound_kept hs)
  have hregs : s.sweepSeeded.Regs := (State.when_kept hrecorded (State.seedAll_kept hrecorded)).regs
  refine ⟨_, exec_sweepEnd s, ?_⟩
  rw [State.sweepEnd_of_due hdue, if_neg (by simp [hran])]
  beta_reduce
  rw [State.rd_updSweep, State.rd_updSweep]
  refine ⟨?_, State.rd_wr_of_lt hregs.wr (of_decide_eq_true rfl), rfl⟩
  exact (State.rd_wr_apart hregs.wr).trans (State.rd_wr_of_lt hregs (of_decide_eq_true rfl))

end

/-- Settles O44. That the entries are read when START is accepted, and the order of the causes, are the reading of log entry 55. -/
theorem sweeps : Obligations.Sweeps := by
  unfold Obligations.Sweeps
  intro s hs
  refine ⟨fun r w hr hw hmay hkeeps hidle => svStart_yields hs hr hw hmay (hkeeps _ (by decide)) hidle,
    fun r hr hmay hbusy => svAbort_yields hs hr hmay hbusy, sweepPoint_first_yields hs, fun p hdue hp => sweepPoint_yields hs hdue hp,
    fun hnone => ?_, sweepEnd_aborted_yields hs, sweepEnd_done_yields hs, fun hnot => ?_⟩
  · rw [exec_sweepPoint, State.sweepPoint, hnone]
  · rw [exec_sweepEnd, State.sweepEnd, if_pos (by simp [hnot])]

end Sys2Proof.Machine
end

section
/-! TESTS. States that meet the hypotheses of the statement about sweeps, and what it says of them. -/

set_option Elab.async false

namespace Sys2Proof.Machine

open Sys2Proof

/-- In SURVEY, a fabric of two cells whose levels the entries of the list, all 0, name. -/
def surveyBlock (count : Nat) : State :=
  { runningBlock.wr R.SV_LIST_COUNT count with
    mode := .survey
    fabric := { topology := 1, n := 1, cellCount := 2 } }

theorem surveyBlock_start : Yields (.svStart (.principal 30)) (surveyBlock 1) fun t =>
    t.rd R.SV_STATUS_BUSY = 1 ∧ t.rd R.SV_STATUS_POINT = 0 ∧ t.cal.sweep.b0 = 1 ∧ t.cal.sweep.entries = [0] := by
  obtain ⟨start, -⟩ := sweeps (surveyBlock 1) (by decide)
  exact ((start (.principal 30) _ (by decide) rfl (by decide +kernel) (by decide) (by decide)).1 (by decide +kernel)).imp
    fun _ ⟨hbusy, hpoint, hfirst, hentries⟩ => ⟨hbusy, hpoint, hfirst, hentries.trans (by decide +kernel)⟩

/-- Two entries use one photodiode: cause 2. -/
theorem surveyBlock_refused : Yields (.svStart (.principal 30)) (surveyBlock 2) fun t =>
    t.rd R.SV_STATUS_REFUSED = 1 ∧ t.rd R.SV_STATUS_CAUSE = 2 := by
  obtain ⟨start, -⟩ := sweeps (surveyBlock 2) (by decide)
  exact ((start (.principal 30) _ (by decide) rfl (by decide +kernel) (by decide) (by decide)).2 (by decide +kernel)).imp
    fun _ ⟨hrefused, hcause⟩ => ⟨hrefused, hcause.trans (by decide +kernel)⟩

/-- A sweep runs. -/
def sweepingBlock (sweep : Sweep) : State :=
  { (surveyBlock 1).wr R.SV_STATUS_BUSY 1 with cal := { runningBlock.cal with sweep := sweep } }

theorem sweepingBlock_abort : Yields (.svAbort (.principal 30)) (sweepingBlock { entries := [0], b0 := 1 }) fun t =>
    t.cal.sweep = { entries := [0], b0 := 1, aborting := true } := by
  obtain ⟨-, abort, -⟩ := sweeps (sweepingBlock { entries := [0], b0 := 1 }) (by decide)
  exact abort (.principal 30) (by decide) (by decide +kernel) (by decide)

/-- The first and the last point of the longest sweep. -/
theorem sweepingBlock_points :
    (Yields .sweepPoint (sweepingBlock { entries := [0], pointDue := some 0 }) fun t =>
      t.rd R.SV_STATUS_POINT = 0 ∧ t.cal.sweep.pointDue = none ∧ t.cal.sweep.recs = []) ∧
    Yields .sweepPoint (sweepingBlock { entries := [0], pointDue := some 1023 }) fun t =>
      t.rd R.SV_STATUS_POINT = 1023 ∧ t.cal.sweep.pointDue = none := by
  obtain ⟨-, -, first, -⟩ := sweeps (sweepingBlock { entries := [0], pointDue := some 0 }) (by decide)
  obtain ⟨-, -, -, point, -⟩ := sweeps (sweepingBlock { entries := [0], pointDue := some 1023 }) (by decide)
  exact ⟨(first rfl).imp fun _ ⟨hpoint, hnone, hrecs, _⟩ => ⟨hpoint, hnone, hrecs⟩, point 1023 rfl (by decide)⟩

theorem sweepingBlock_ends :
    (Yields .sweepEnd (sweepingBlock { endDue := true, aborting := true }) fun t =>
      t.rd R.SV_STATUS_ABORTED = 1 ∧ t.rd R.SV_STATUS_BUSY = 0 ∧ t.cal.sweep = {}) ∧
    Yields .sweepEnd (sweepingBlock { endDue := true }) fun t =>
      t.rd R.SV_STATUS_DONE = 1 ∧ t.rd R.SV_STATUS_BUSY = 0 ∧ t.cal.sweep = {} := by
  obtain ⟨-, -, -, -, -, aborted, -⟩ := sweeps (sweepingBlock { endDue := true, aborting := true }) (by decide)
  obtain ⟨-, -, -, -, -, -, done, -⟩ := sweeps (sweepingBlock { endDue := true }) (by decide)
  exact ⟨(aborted rfl rfl).imp fun _ ⟨haborted, hidle, hgone, _⟩ => ⟨haborted, hidle, hgone⟩, done rfl rfl⟩

/-- No point and no end is due. -/
theorem sweepingBlock_waits : exec .sweepPoint (sweepingBlock {}) = .next (sweepingBlock {}) ∧
    exec .sweepEnd (sweepingBlock {}) = .next (sweepingBlock {}) := by
  obtain ⟨-, -, -, -, nothing, -, -, goesOn⟩ := sweeps (sweepingBlock {}) (by decide)
  exact ⟨nothing rfl, goesOn rfl⟩

end Sys2Proof.Machine
end

section
/-! SUPPORT. The commands of the sideband and their answers (R260, R269 to R271, R387). -/

namespace Sys2Proof.Machine

open Sys2Proof

section
variable {s : State}

/-! ### Words and bytes -/

@[simp] theorem length_be (n v : Nat) : (be n v).length = n := by
  induction n with
  | zero => rfl
  | succ n ih => exact congrArg (· + 1) ih

@[simp] theorem length_le (n v : Nat) : (le n v).length = n := by
  induction n generalizing v with
  | zero => rfl
  | succ n ih => exact congrArg (· + 1) (ih _)

theorem length_flatMap_le (l : List Nat) : (l.flatMap (le 4)).length = 4 * l.length := by
  simp [List.length_flatMap, Nat.mul_comm]

/-- A read answers one word for each that it was asked for. -/
theorem State.length_readAll (s : State) (r : Requester) (plane : Option Plane) (l : List Nat) : (s.readAll r plane l).1.length = l.length := by
  induction l generalizing s with
  | nil => rfl
  | cons a as ih => exact congrArg (· + 1) (ih _)

/-- So does a refused one, with words of 0 (R436). -/
theorem State.length_readMany (s : State) (r : Requester) (plane : Option Plane) (a n : Nat) : (s.readMany r plane a n).2.1.length = n := by
  unfold State.readMany
  simp only []
  split
  · simp [State.length_readAll, wordsAt]
  · exact List.length_replicate

/-! ### The alert line -/

/-- ALERT_N is released where no cause is left, and stays where one is. -/
theorem State.quietAlert_eq (s : State) : s.quietAlert = s.setSb fun x => { x with alertN := decide (s.alertWord = 0) || x.alertN } := by
  unfold State.quietAlert
  split
  · next hnone => simp [hnone]
  · next hcause => simp [hcause, State.setSb]

theorem State.alertWord_eq_zero : decide (s.alertWord = 0) = (s.sb.alertCause == 0 && s.faults.sbQueue.isEmpty) := by
  cases hempty : s.faults.sbQueue.isEmpty
  · simp [State.alertWord, hempty, b01]
  · simp [State.alertWord, hempty, b01, beq_eq_decide]

/-! ### Commands without an access -/

theorem State.sbAlertCause_eq (hanswers : s.sbAnswers = true) : s.sbAlertCause = { s with sb := { s.sb with
    alertCause := 0, reply := le 2 (s.sb.alertCause ||| b01 (!s.faults.sbQueue.isEmpty)),
    alertN := s.faults.sbQueue.isEmpty || s.sb.alertN } } := by
  rw [State.sbAlertCause, if_neg (by simp [hanswers]), State.quietAlert_eq, State.alertWord_eq_zero]
  rfl

theorem State.sbFaultPop_empty (hanswers : s.sbAnswers = true) (hup : s.power ≠ .deepSleep) (hempty : s.faults.sbQueue = []) :
    s.sbFaultPop = { s with sb := { s.sb with reply := List.replicate 8 0 } } := by
  rw [State.sbFaultPop, if_neg (by simp [hanswers]), if_neg hup, hempty]
  rfl

theorem State.sbFaultPop_oldest {w : Nat} {rest : List Nat} (hanswers : s.sbAnswers = true) (hup : s.power ≠ .deepSleep)
    (hqueue : s.faults.sbQueue = w :: rest) : s.sbFaultPop = { s with
      faults := { s.faults with sbQueue := rest },
      sb := { s.sb with reply := le 8 w, alertN := (s.sb.alertCause == 0 && rest.isEmpty) || s.sb.alertN } } := by
  rw [State.sbFaultPop, if_neg (by simp [hanswers]), if_neg hup, hqueue]
  simp only []
  rw [State.quietAlert_eq, State.alertWord_eq_zero]
  rfl

/-! ### Accesses -/

theorem State.sbReaches_of_awake (hup : s.power ≠ .deepSleep) (a n : Nat) : s.sbReaches a n = true := by simp [State.sbReaches, hup]

/-- What a READ leaves is what the read of its words leaves, with its answer. -/
theorem State.sbRead_eq {r : Nat × List Nat × State} (hanswers : s.sbAnswers = true) (hup : s.power ≠ .deepSleep)
    (hr : r = s.readMany .sideband none s.sb.addr s.sb.words) : s.sbRead = r.2.2.setSb fun x => { x with
      addr := (s.sb.addr + 4 * s.sb.words) % 2 ^ 32, lastStatus := r.1, reply := r.2.1.flatMap (le 4) } := by
  subst hr
  rw [State.sbRead, if_neg (by simp [hanswers])]
  simp only [State.sbReaches_of_awake hup, if_true]

theorem State.sbWrite_eq {data : List Nat} {r : Nat × Bool × State} (hanswers : s.sbAnswers = true) (hup : s.power ≠ .deepSleep)
    (hsome : 1 ≤ data.length) (hfits : data.length ≤ 8) (hr : r = s.writeMany .sideband none 0 s.sb.addr data) :
    s.sbWrite true data = r.2.2.setSb fun x => { x with
      addr := (s.sb.addr + 4 * data.length) % 2 ^ 32, lastStatus := r.1, reply := [] } := by
  subst hr
  have hlength : ¬(!s.sbAnswers || !true || decide (data.length = 0) || decide (8 < data.length)) = true := by
    simpa [hanswers] using ⟨List.ne_nil_of_length_pos hsome, hfits⟩
  simp only [State.sbWrite]
  rw [if_neg hlength]
  simp only [State.sbReaches_of_awake hup, if_true]

theorem sbRead_yields (hanswers : s.sbAnswers = true) (hup : s.power ≠ .deepSleep) :
    Yields .sbRead s fun t => t.sb.addr = (s.sb.addr + 4 * s.sb.words) % 2 ^ 32 ∧ t.sb.words = s.sb.words ∧
      t.sb.reply.length = 4 * s.sb.words ∧ t.sb.lastStatus = (s.readMany .sideband none s.sb.addr s.sb.words).1 ∧ t.sb.alertN = s.sb.alertN ∧
      t.sb.alertCause = s.sb.alertCause := by
  have hsb : (s.readMany .sideband none s.sb.addr s.sb.words).2.2.sb = s.sb :=
    State.readMany_same (o := 135266350) same_refl (by decide) .sb (by decide)
  refine ⟨_, (exec_sbRead s).trans (congrArg _ (State.sbRead_eq hanswers hup rfl)), rfl, ?_, ?_, rfl, ?_, ?_⟩
  · exact (congrArg Sideband.words hsb :)
  · exact (length_flatMap_le _).trans (congrArg _ (State.length_readMany ..))
  · exact (congrArg Sideband.alertN hsb :)
  · exact (congrArg Sideband.alertCause hsb :)

theorem sbWrite_yields {data : List Nat} (hanswers : s.sbAnswers = true) (hup : s.power ≠ .deepSleep) (hsome : 1 ≤ data.length)
    (hfits : data.length ≤ 8) (hwords : (data.all fun w => decide (w < 2 ^ 32)) = true) :
    Yields (.sbWrite true data) s fun t => t.sb.addr = (s.sb.addr + 4 * data.length) % 2 ^ 32 ∧ t.sb.reply = [] ∧
      t.sb.lastStatus = (s.writeMany .sideband none 0 s.sb.addr data).1 :=
  ⟨_, (exec_sbWrite true data s hwords).trans (congrArg _ (State.sbWrite_eq hanswers hup hsome hfits rfl)), rfl, rfl, rfl⟩

/-! ### SUMMARY -/

theorem State.length_meterBytes (s : State) (p c : Nat) : (s.meterBytes p c).length = 12 := by
  unfold State.meterBytes
  split <;> simp

theorem State.length_faultCounts (s : State) (p : Nat) : (s.faultCounts p).length = 10 := by
  simp [State.faultCounts, List.length_flatMap]

theorem State.length_loopBytes (s : State) (p : Nat) : (s.loopBytes p).length = 16 := by
  simp [State.loopBytes]

/-- The first part of a SUMMARY is 208 bytes long, whatever the view (R260). -/
theorem State.length_summaryBody (s : State) (v : Scope) (challenge : Option (List Nat)) : (s.summaryBody v challenge).1.length = 208 := by
  unfold State.summaryBody
  simp only [List.length_append, apply_ite List.length, ite_self, length_be, State.length_meterBytes, State.length_faultCounts,
    State.length_loopBytes, List.length_take, List.length_cons, List.length_nil, List.length_replicate]
  omega

theorem State.length_summaryItem (s : State) (v : Scope) : (s.summaryItem v none).1.length = 208 := State.length_summaryBody s v none

/-- The offset of the time domains is all that an unsigned SUMMARY may take from the free values. -/
theorem State.summaryOffset_state (s : State) (v : Scope) : (s.summaryOffset v).2 = { s with freeCount := (s.summaryOffset v).2.freeCount } := by
  unfold State.summaryOffset
  simp only []
  generalize (if (v.dust && s.isMode .sealed) = true then s.timeOffset.tdiv 1000 * 1000 else s.timeOffset) = o
  split <;> rfl

theorem State.summaryItem_state (s : State) (v : Scope) : (s.summaryItem v none).2 = { s with freeCount := (s.summaryItem v none).2.freeCount } :=
  s.summaryOffset_state v

theorem testBit_ofOnes (l : List Nat) (k : Nat) : (ofOnes l).testBit k = decide (k ∈ l) := by
  have hfold (a : Nat) : (l.foldl (fun a i => a ||| 2 ^ i) a).testBit k = (a.testBit k || decide (k ∈ l)) := by
    induction l generalizing a with
    | nil => simp
    | cons i l ih => simp [ih, Nat.testBit_or, Nat.testBit_two_pow, Bool.or_assoc, eq_comm (a := i)]
  simpa [ofOnes] using hfold 0

/-- Bit 0, SIGNED, is clear in an unsigned SUMMARY. -/
theorem State.summaryFlags_unsigned (s : State) (v : Scope) : (s.summaryFlags v false).testBit 0 = false := by
  have hno (c : Prop) [Decidable c] (k : Nat) : 0 ∉ (if c then [k + 1] else []) := by split <;> simp
  rw [State.summaryFlags, testBit_ofOnes]
  simp only [Bool.false_eq_true, if_false, List.nil_append, List.mem_append, not_or, decide_eq_false_iff_not]
  exact ⟨⟨⟨hno _ 0, hno _ 1⟩, hno _ 2⟩, hno _ 3⟩

/-- The body begins with the version, the scope and the flags (R260). -/
theorem State.summaryBody_head (s : State) (v : Scope) (challenge : Option (List Nat)) :
    ∃ rest, (s.summaryBody v challenge).1 = 0 :: 1 :: v.code :: (s.summaryOffset v).2.summaryFlags v challenge.isSome :: rest := by
  have hversion : be 2 1 = [0, 1] := rfl
  unfold State.summaryBody
  simp only [List.append_assoc, hversion, List.cons_append, List.nil_append, List.cons.injEq, true_and, exists_eq']

/-- SUMMARY leaves its body in the answer and nothing else but the count of free values. -/
theorem State.sbSummary_eq {r : List Nat × State} (hanswers : s.sbAnswers = true) (hup : s.power ≠ .deepSleep)
    (hr : r = s.summaryItem s.sidebandScope none) :
    s.sbSummary = { s with sb := { s.sb with reply := r.1 }, freeCount := r.2.freeCount } := by
  subst hr
  rw [State.sbSummary, if_neg (by simp [hanswers]), if_neg hup]
  simp only []
  rw [State.summaryItem_state]
  rfl

theorem sbSummary_yields (hanswers : s.sbAnswers = true) (hup : s.power ≠ .deepSleep) :
    Yields .sbSummary s fun t => t = { s with sb := t.sb, freeCount := t.freeCount } ∧ t.sb = { s.sb with reply := t.sb.reply } ∧
      t.sb.reply.length = 208 ∧ t.sb.reply.take 3 = [0, 1, 31] ∧ (t.sb.reply.getD 3 0).testBit 0 = false := by
  obtain ⟨rest, hhead⟩ := s.summaryBody_head s.sidebandScope none
  refine ⟨_, (exec_sbSummary s).trans (congrArg _ (State.sbSummary_eq hanswers hup rfl)), rfl, rfl, State.length_summaryItem .., ?_, ?_⟩
  · exact congrArg (List.take 3) hhead
  · exact (congrArg (fun l => (l.getD 3 0).testBit 0) hhead).trans (State.summaryFlags_unsigned ..)

end

/-- Settles O6, command by command. -/
theorem sidebandCommands : Obligations.SidebandCommands := by
  unfold Obligations.SidebandCommands
  intro s hanswers
  refine ⟨fun addr words haddr hsome hfits => ?_, ?_, ?_, fun hup hempty => ?_, fun w rest hup hqueue => ?_, fun halert => ?_, fun bytes hbytes => ?_⟩
  · rw [exec_sbSetAddr _ _ _ _ (by simp [Instr.wf, isWord, isByte]; omega), State.sbSetAddr, if_neg (by simp [hanswers]; omega)]
    rfl
  · rw [exec_sbLastStatus, State.sbLastStatus, if_pos hanswers]
    rfl
  · rw [exec_sbAlertCause, State.sbAlertCause_eq hanswers]
  · rw [exec_sbFaultPop, State.sbFaultPop_empty hanswers hup hempty]
  · rw [exec_sbFaultPop, State.sbFaultPop_oldest hanswers hup hqueue]
  · rw [exec_alertResponse, State.alertResponse, if_neg (by simp [hanswers, halert])]
    rfl
  · rw [exec_sbStretchTimeout _ _ (decide_eq_true hbytes), State.sbStretchTimeout, if_neg (by simp [hanswers])]
    rfl

/-- Settles O7. That the fields of the body stand most significant byte first on the sideband too is the reading of log entry 61. -/
theorem sidebandAccesses : Obligations.SidebandAccesses := by
  unfold Obligations.SidebandAccesses
  intro s hanswers hup
  exact ⟨sbRead_yields hanswers hup, fun _ hsome hfits hwords => sbWrite_yields hanswers hup hsome hfits hwords, sbSummary_yields hanswers hup⟩

end Sys2Proof.Machine
end

section
/-! TESTS. A running block on the sideband: the boundary values of the operands of the statements about it, and what these say. -/

namespace Sys2Proof.Machine

open Sys2Proof

/-- A running block, its registers at address 0 and one word, with cause 2 recorded, ALERT_N low and two messages in the queue. -/
def alertingBlock : State :=
  { runningBlock with
    power := .run
    sb := { runningBlock.sb with addr := 0, words := 1, alertCause := 2, alertN := false }
    faults := { runningBlock.faults with sbQueue := [7, 8] } }

theorem alertingBlock_setAddr :
    exec (.sbSetAddr true (2 ^ 32 - 1) 8) alertingBlock =
      .next { alertingBlock with sb := { alertingBlock.sb with addr := 2 ^ 32 - 1, words := 8, reply := [] } } := by
  obtain ⟨setAddr, -⟩ := sidebandCommands alertingBlock (by decide)
  exact setAddr _ 8 (by decide) (by decide) (by decide)

/-- The causes 2 and FAULT, and ALERT_N stays low while the queue holds a message. -/
theorem alertingBlock_alertCause : Yields .sbAlertCause alertingBlock fun t =>
    t.sb.reply = [3, 0] ∧ t.sb.alertCause = 0 ∧ t.sb.alertN = false := by
  obtain ⟨-, -, alertCause, -⟩ := sidebandCommands alertingBlock (by decide)
  exact ⟨_, alertCause, rfl, rfl, rfl⟩

theorem alertingBlock_faultPop : Yields .sbFaultPop alertingBlock fun t =>
    t.sb.reply = [7, 0, 0, 0, 0, 0, 0, 0] ∧ t.faults.sbQueue = [8] ∧ t.sb.alertN = false := by
  obtain ⟨-, -, -, -, oldest, -⟩ := sidebandCommands alertingBlock (by decide)
  exact ⟨_, oldest 7 [8] (by decide) rfl, rfl, rfl, rfl⟩

theorem runningBlock_faultPop : Yields .sbFaultPop { runningBlock with power := .run } fun t => t.sb.reply = [0, 0, 0, 0, 0, 0, 0, 0] := by
  obtain ⟨-, -, -, empty, -⟩ := sidebandCommands { runningBlock with power := .run } (by decide)
  exact ⟨_, empty (by decide) rfl, rfl⟩

theorem alertingBlock_answers :
    (Yields .alertResponse alertingBlock fun t => t.sb.alertN = true) ∧
      Yields (.sbStretchTimeout 208) alertingBlock fun t => t.sb.lastStatus = Code.busy ∧ t.sb.reply = List.replicate 208 0xFF := by
  obtain ⟨-, -, -, -, -, ara, timeout⟩ := sidebandCommands alertingBlock (by decide)
  exact ⟨⟨_, ara rfl, rfl⟩, ⟨_, timeout 208 (by decide), rfl, rfl⟩⟩

theorem alertingBlock_accesses :
    (Yields .sbRead alertingBlock fun t => t.sb.addr = 4 ∧ t.sb.reply.length = 4) ∧
    (Yields (.sbWrite true [0, 0, 0, 0, 0, 0, 0, 2 ^ 32 - 1]) alertingBlock fun t => t.sb.addr = 32) ∧
    Yields .sbSummary alertingBlock fun t => t.sb.reply.length = 208 ∧ t.sb.reply.take 3 = [0, 1, 31] := by
  obtain ⟨⟨t, hread, haddr, -, hlength, -⟩, write, ⟨u, hsummary, -, -, hbody, hhead, -⟩⟩ :=
    sidebandAccesses alertingBlock (by decide) (by decide)
  obtain ⟨v, hwrite, hnext, -⟩ := write [0, 0, 0, 0, 0, 0, 0, 2 ^ 32 - 1] (by decide) (by decide) (by decide)
  exact ⟨⟨t, hread, haddr, hlength⟩, ⟨v, hwrite, hnext⟩, ⟨u, hsummary, hbody, hhead⟩⟩

end Sys2Proof.Machine
end

section
/-! SUPPORT. The locks of a host lane and its conditions (R239, R246, R369). -/

namespace Sys2Proof.Machine

open Sys2Proof

section
variable {s : State} {l : Nat}

/-- The lane's settings stand in another register than its status. -/
theorem State.on_rsFec_wr {f : FieldAt} {v : Nat} (h : s.Regs) (hf : f.addr = A.LK_STATUS l) :
    (s.wr f v).on (R.LK_CFG_RS_FEC l) = s.on (R.LK_CFG_RS_FEC l) := by
  have hapart : (R.LK_CFG_RS_FEC l).addr ≠ f.addr := by
    simp only [hf, R.LK_CFG_RS_FEC, A.LK_CFG, A.LK_STATUS]
    omega
  rw [State.on, State.on, State.rd_wr_addr _ _ _ _ h.shared hapart]

@[simp] theorem State.rd_endReport (s : State) (m : FaultMsg) (f : FieldAt) : (s.endReport m).rd f = s.rd f := rfl

/-- An announcement goes to the lane's frames alone, a free value apart. -/
theorem State.announce_faults (s : State) (l : Nat) : (s.announce l).faults = s.faults :=
  State.announce_same (o := partMask [.links, .free]) same_refl (by decide) .faults (by decide)

theorem State.rd_announce (s : State) (l : Nat) (f : FieldAt) : (s.announce l).rd f = s.rd f :=
  State.rd_of_same (o := partMask [.links, .free]) f (State.announce_same same_refl (by decide)) (by decide)

/-! ### LANE_LINK_UP -/

/-- The locks that a lane with link has: block lock, and FEC lock where RS-FEC is on. -/
def State.locksWon (s : State) (l : Nat) : State :=
  (s.wr (R.LK_STATUS_BLOCK_LOCK l) 1).when (s.on (R.LK_CFG_RS_FEC l)) (·.wr (R.LK_STATUS_FEC_LOCK l) 1)

theorem State.locksWon_block (h : s.Regs) : (s.locksWon l).rd (R.LK_STATUS_BLOCK_LOCK l) = 1 := by
  have hblock : (s.wr (R.LK_STATUS_BLOCK_LOCK l) 1).rd (R.LK_STATUS_BLOCK_LOCK l) = 1 := State.rd_wr_of_lt h (of_decide_eq_true rfl)
  unfold State.locksWon State.when
  split
  · exact (State.rd_wr_apart h.wr).trans hblock
  · exact hblock

theorem State.locksWon_fec (h : s.Regs) (hrs : s.on (R.LK_CFG_RS_FEC l) = true) : (s.locksWon l).rd (R.LK_STATUS_FEC_LOCK l) = 1 := by
  rw [State.locksWon, State.when, if_pos hrs]
  exact State.rd_wr_of_lt h.wr (of_decide_eq_true rfl)

theorem State.linkUp_of_down (h : s.Regs) (hallowed : s.laneAllowed l = true) (hdown : s.laneUp l = false) (hfree : s.miscFenced l = false) :
    s.linkUp l = ((s.locksWon l).endReport (laneMsg l 1)).announce l := by
  simp only [State.linkUp, hallowed, hdown, hfree, Bool.and_false, Bool.not_true, Bool.or_self, Bool.false_eq_true, if_false]
  rw [State.on_rsFec_wr h rfl]
  rfl

theorem laneLinkUp_yields (hs : s.sound = true) (hl : l < 8) (hawake : s.awake = true) (hallowed : s.laneAllowed l = true)
    (hdown : s.laneUp l = false) (hfree : s.miscFenced l = false) : Yields (.laneLinkUp l) s fun t =>
      t.rd (R.LK_STATUS_BLOCK_LOCK l) = 1 ∧ (s.on (R.LK_CFG_RS_FEC l) = true → t.rd (R.LK_STATUS_FEC_LOCK l) = 1) ∧
      t.faults = { s.faults with ended := s.faults.ended ++ [laneMsg l 1] } := by
  have hregs := State.sound_regs hs
  refine ⟨_, exec_laneLinkUp l s (decide_eq_true hl), ?_⟩
  rw [State.when, if_pos hawake, State.linkUp_of_down hregs hallowed hdown hfree]
  simp only [State.rd_announce, State.rd_endReport, State.announce_faults]
  refine ⟨State.locksWon_block hregs, State.locksWon_fec hregs, ?_⟩
  have hfaults : (s.locksWon l).faults = s.faults :=
    State.when_same (o := partMask [.shared]) (State.wr_same same_refl (by decide)) (State.wr_same (State.wr_same same_refl (by decide)) (by decide))
      .faults (by decide)
  rw [State.endReport, hfaults]

/-! ### LANE_LINK_DOWN -/

/-- A lane whose link goes down loses FEC lock, and block lock unless `kept`. -/
def State.locksLost (s : State) (l : Nat) (kept : Bool) : State :=
  (s.wr (R.LK_STATUS_FEC_LOCK l) 0).when (!kept) (·.wr (R.LK_STATUS_BLOCK_LOCK l) 0)

theorem State.locksLost_fec (kept : Bool) (h : s.Regs) : (s.locksLost l kept).rd (R.LK_STATUS_FEC_LOCK l) = 0 := by
  have hfec : (s.wr (R.LK_STATUS_FEC_LOCK l) 0).rd (R.LK_STATUS_FEC_LOCK l) = 0 := State.rd_wr_of_lt h (of_decide_eq_true rfl)
  cases kept with
  | true => exact hfec
  | false => exact (State.rd_wr_apart h.wr).trans hfec

theorem State.locksLost_block (kept : Bool) (h : s.Regs) :
    (s.locksLost l kept).rd (R.LK_STATUS_BLOCK_LOCK l) = if kept then s.rd (R.LK_STATUS_BLOCK_LOCK l) else 0 := by
  cases kept with
  | true => exact State.rd_wr_apart h
  | false => exact State.rd_wr_of_lt h.wr (of_decide_eq_true rfl)

theorem State.locksLost_eq (s : State) (l : Nat) (kept : Bool) : s.locksLost l kept = if kept then s.wr (R.LK_STATUS_FEC_LOCK l) 0
    else (s.wr (R.LK_STATUS_FEC_LOCK l) 0).wr (R.LK_STATUS_BLOCK_LOCK l) 0 := by
  cases kept <;> simp [State.locksLost, State.when]

theorem State.linkDown_of_up (fecOnly : Bool) (h : s.Regs) (hup : s.laneUp l = true) :
    s.linkDown l fecOnly = (s.locksLost l (fecOnly && s.on (R.LK_CFG_RS_FEC l))).raise (laneMsg l 1) := by
  have hrs : (s.wr (R.LK_STATUS_FEC_LOCK l) 0).on (R.LK_CFG_RS_FEC l) = s.on (R.LK_CFG_RS_FEC l) := State.on_rsFec_wr h rfl
  rw [State.linkDown, if_neg (by simp [hup])]
  simp only [hrs, State.locksLost_eq]

theorem laneLinkDown_yields (fecOnly : Bool) (hs : s.sound = true) (hl : l < 8) (hawake : s.awake = true) (hup : s.laneUp l = true) :
    Yields (.laneLinkDown l fecOnly) s fun t =>
      t.rd (R.LK_STATUS_FEC_LOCK l) = 0 ∧
      t.rd (R.LK_STATUS_BLOCK_LOCK l) = (if fecOnly && s.on (R.LK_CFG_RS_FEC l) then s.rd (R.LK_STATUS_BLOCK_LOCK l) else 0) ∧
      t.faults = { s.faults with incoming := s.faults.incoming ++ [laneMsg l 1] } := by
  have hregs := State.sound_regs hs
  refine ⟨_, exec_laneLinkDown l fecOnly s (decide_eq_true hl), ?_⟩
  rw [State.when, if_pos hawake, State.linkDown_of_up fecOnly hregs hup]
  simp only [State.rd_raise]
  refine ⟨State.locksLost_fec _ hregs, State.locksLost_block _ hregs, ?_⟩
  cases fecOnly && s.on (R.LK_CFG_RS_FEC l) <;> rfl

theorem State.linkDown_of_down (fecOnly : Bool) (hdown : s.laneUp l = false) : s.linkDown l fecOnly = s := if_pos (by simp [hdown])

theorem laneLinkDown_of_down (fecOnly : Bool) (hl : l < 8) (hdown : s.laneUp l = false) : exec (.laneLinkDown l fecOnly) s = .next s := by
  rw [exec_laneLinkDown l fecOnly s (decide_eq_true hl), State.when, State.linkDown_of_down fecOnly hdown, ite_self]

/-! ### HI_BER -/

theorem b01_lt (b : Bool) : b01 b < 2 := by cases b <;> decide

/-- A report that differs from what shows is shown, and begins or ends the lane's condition. -/
theorem hiBer_yields {on : Bool} (hs : s.sound = true) (hl : l < 8) (hawake : s.awake = true) (hallowed : s.laneAllowed l = true)
    (hnews : s.on (R.LK_STATUS_HI_BER l) = !on) : Yields (.hiBer l on) s fun t =>
      t.rd (R.LK_STATUS_HI_BER l) = b01 on ∧ t.faults = if on then { s.faults with incoming := s.faults.incoming ++ [laneMsg l 2] }
        else { s.faults with ended := s.faults.ended ++ [laneMsg l 2] } := by
  have hshown : (s.wr (R.LK_STATUS_HI_BER l) (b01 on)).rd (R.LK_STATUS_HI_BER l) = b01 on :=
    State.rd_wr_of_lt (State.sound_regs hs) (b01_lt on)
  refine ⟨_, exec_hiBer l on s (decide_eq_true hl), ?_⟩
  have hchange : ¬(!s.laneAllowed l || s.on (R.LK_STATUS_HI_BER l) == on) = true := by simp [hallowed, hnews]
  rw [State.when, if_pos hawake, State.hiBer, if_neg hchange]
  cases on with
  | true => exact ⟨hshown, rfl⟩
  | false => exact ⟨hshown, rfl⟩

end

/-- Settles O25, event by event. -/
theorem laneLinks : Obligations.LaneLinks := by
  unfold Obligations.LaneLinks
  intro s l hs hawake hl
  exact ⟨laneLinkUp_yields hs hl hawake, fun fecOnly hup => laneLinkDown_yields fecOnly hs hl hawake hup,
    fun fecOnly hdown => laneLinkDown_of_down fecOnly hl hdown, fun hallowed hnews => hiBer_yields hs hl hawake hallowed hnews,
    fun hallowed hnews => hiBer_yields hs hl hawake hallowed hnews⟩

end Sys2Proof.Machine
end

section
/-! TESTS. The first and the last lane of a running block, with and without link, and what the statement about links says of them. -/

namespace Sys2Proof.Machine

open Sys2Proof

/-- Lanes 0 and 7 are powered and enabled, lane 7 with RS-FEC and with the status given. -/
def lanesBlock (status : Nat) : State :=
  (((({ runningBlock with power := .run } : State).setWord (A.PW_DOMAIN_ON 2) (3 * 2 ^ 18)).wr (R.LK_CFG_ENABLE 0) 1).setWord
    (A.LK_CFG 7) (2 ^ 31 + 2 ^ 29)).setWord (A.LK_STATUS 7) status

theorem lanesBlock_linkUp :
    (Yields (.laneLinkUp 0) (lanesBlock 0) fun t => t.rd (R.LK_STATUS_BLOCK_LOCK 0) = 1 ∧ t.faults.ended = [laneMsg 0 1]) ∧
      Yields (.laneLinkUp 7) (lanesBlock 0) fun t => t.rd (R.LK_STATUS_BLOCK_LOCK 7) = 1 ∧ t.rd (R.LK_STATUS_FEC_LOCK 7) = 1 := by
  obtain ⟨t, he, hblock, -, hfaults⟩ :=
    (laneLinks (lanesBlock 0) 0 (by decide) (by decide) (by decide)).1 (by decide +kernel) (by decide +kernel) (by decide +kernel)
  obtain ⟨u, he', hblock', hfec, -⟩ :=
    (laneLinks (lanesBlock 0) 7 (by decide) (by decide) (by decide)).1 (by decide +kernel) (by decide +kernel) (by decide +kernel)
  exact ⟨⟨t, he, hblock, congrArg Faults.ended hfaults⟩, ⟨u, he', hblock', hfec (by decide +kernel)⟩⟩

/-- A loss of FEC alone leaves block lock on the lane with RS-FEC, any other loss does not. -/
theorem lanesBlock_linkDown :
    (Yields (.laneLinkDown 7 true) (lanesBlock (3 * 2 ^ 29)) fun t =>
      t.rd (R.LK_STATUS_FEC_LOCK 7) = 0 ∧ t.rd (R.LK_STATUS_BLOCK_LOCK 7) = 1 ∧ t.faults.incoming = [laneMsg 7 1]) ∧
    (Yields (.laneLinkDown 7 false) (lanesBlock (3 * 2 ^ 29)) fun t =>
      t.rd (R.LK_STATUS_FEC_LOCK 7) = 0 ∧ t.rd (R.LK_STATUS_BLOCK_LOCK 7) = 0) ∧
    exec (.laneLinkDown 7 true) (lanesBlock 0) = .next (lanesBlock 0) := by
  obtain ⟨-, down, -⟩ := laneLinks (lanesBlock (3 * 2 ^ 29)) 7 (by decide) (by decide) (by decide)
  obtain ⟨-, -, nothing, -⟩ := laneLinks (lanesBlock 0) 7 (by decide) (by decide) (by decide)
  obtain ⟨t, he, hfec, hblock, hfaults⟩ := down true (by decide +kernel)
  obtain ⟨u, he', hfec', hblock', -⟩ := down false (by decide +kernel)
  exact ⟨⟨t, he, hfec, hblock.trans (by decide +kernel), congrArg Faults.incoming hfaults⟩, ⟨u, he', hfec', hblock'⟩,
    nothing true (by decide +kernel)⟩

theorem lanesBlock_hiBer :
    (Yields (.hiBer 7 true) (lanesBlock 0) fun t => t.rd (R.LK_STATUS_HI_BER 7) = 1 ∧ t.faults.incoming = [laneMsg 7 2]) ∧
      Yields (.hiBer 7 false) (lanesBlock (2 ^ 28)) fun t => t.rd (R.LK_STATUS_HI_BER 7) = 0 ∧ t.faults.ended = [laneMsg 7 2] := by
  obtain ⟨-, -, -, begins, -⟩ := laneLinks (lanesBlock 0) 7 (by decide) (by decide) (by decide)
  obtain ⟨-, -, -, -, ends⟩ := laneLinks (lanesBlock (2 ^ 28)) 7 (by decide) (by decide) (by decide)
  obtain ⟨t, he, hshown, hfaults⟩ := begins (by decide +kernel) (by decide +kernel)
  obtain ⟨u, he', hshown', hfaults'⟩ := ends (by decide +kernel) (by decide +kernel)
  exact ⟨⟨t, he, hshown, congrArg Faults.incoming hfaults⟩, ⟨u, he', hshown', congrArg Faults.ended hfaults'⟩⟩

end Sys2Proof.Machine
end

section
/-! SUPPORT. A Kolrok command that is refused, waits or begins (R256, R259, R277), and the commands that read and write registers and contexts (R149,
R153, R256, R262). -/

namespace Sys2Proof.Machine

open Sys2Proof

section
variable {s u : State} {h : CmdHead} {c : Cmd}

/-! ### The checks and the queue -/

theorem State.command_of_closed (hclosed : s.takesCommands h.principal = false) : s.command h c = s := if_pos (by simp [hclosed])

theorem State.command_of_refused (hopen : s.takesCommands h.principal = true) (hcode : s.commandCode h c ≠ Code.ok) :
    s.command h c = s.answer h (opcodeOf c) (s.commandCode h c) := by
  unfold State.command
  rw [if_neg (by simp [hopen])]
  exact if_pos hcode

/-! ### What an answer leaves -/

theorem State.agree_trans {p : Part} {a b d : State} (hab : a.agree p b) (hbd : b.agree p d) : a.agree p d := by
  cases p with
  | access => exact ⟨hbd.1.trans hab.1, hbd.2.1.trans hab.2.1, hbd.2.2.trans hab.2.2⟩
  | evt => exact ⟨hbd.1.trans hab.1, hbd.2.trans hab.2⟩
  | _ => exact Eq.trans hbd hab

theorem Same.trans {o : Nat} {a b d : State} (hab : Same o a b) (hbd : Same o b d) : Same o a d :=
  fun p hp => State.agree_trans (hab p hp) (hbd p hp)

/-- What leaves the parts outside a mask leaves those outside a wider one. -/
theorem Same.mono {o o' : Nat} {b t : State} (hsame : Same o b t) (ho : o &&& o' = o := by decide) : Same o' b t := by
  intro p hp
  refine hsame p ?_
  rw [← ho, Nat.testBit_and, hp, Bool.and_false]

/-- The register files, the writes that wait and what the requesters hold. -/
theorem State.reg_of_same {o : Nat} {b t : State} (hsame : Same o b t)
    (ho : o &&& partMask [.shared, .privA, .privB, .shadows, .access] = 0 := by decide) : t.reg = b.reg := by
  have hfree (p : Part) (hp : (partMask [.shared, .privA, .privB, .shadows, .access]).testBit p.ix = true) : o.testBit p.ix = false := by
    have h0 := congrArg (fun n => n.testBit p.ix) ho
    simpa [Nat.testBit_and, hp] using h0
  have hshared : t.reg.shared = b.reg.shared := hsame .shared (hfree .shared (by decide))
  have hA : t.reg.privA = b.reg.privA := hsame .privA (hfree .privA (by decide))
  have hB : t.reg.privB = b.reg.privB := hsame .privB (hfree .privB (by decide))
  have hshadows : t.reg.shadows = b.reg.shadows := hsame .shadows (hfree .shadows (by decide))
  obtain ⟨hsel, hsnapshot, hheld⟩ : t.reg.planeSel = b.reg.planeSel ∧ t.reg.snapshot = b.reg.snapshot ∧ t.reg.heldHi = b.reg.heldHi :=
    hsame .access (hfree .access (by decide))
  generalize t.reg = x at hshared hA hB hshadows hsel hsnapshot hheld ⊢
  generalize b.reg = y at hshared hA hB hshadows hsel hsnapshot hheld ⊢
  cases x
  cases y
  exact RegState.mk.injEq .. ▸ ⟨hshared, hA, hB, hshadows, hsel, hsnapshot, hheld⟩

/-! ### Reading -/

/-- What a read may change beside its answer: fields that it clears, what it removes, the requester's holder (R13, R128, R301, R443, R444). -/
def readParts : List Part := [.shared, .privA, .privB, .access, .hka, .time]

/-- A command whose effect is a read answers its code and, where it is OK, its words. -/
theorem replies_of_read {opcode addr words : Nat} {plane : Option Plane} {r : Nat × List Nat × State} (hs : s.sound = true) (hat : s.atOnce h = true)
    (ha : s.accepts h c = true) (hr : r = (s.started h c).readMany (.principal h.principal) plane addr words)
    (hrun : (s.started h c).runCmd h c = r.2.2.answer h opcode r.1 (if r.1 = Code.ok then wordBytes r.2.1 else []))
    (hop : opcodeOf c ≠ 0x12 := by simp [opcodeOf]) :
    Replies (rowFor h c) h opcode r.1 (if r.1 = Code.ok then wordBytes r.2.1 else []) s fun t => t.reg = r.2.2.reg :=
  replies_of_answer (o := partMask readParts) hs hat ha hrun (hr ▸ State.readMany_same same_refl (by decide)) (fun _ ht => State.reg_of_same ht) hop

theorem read_replies {addr words : Nat} {r : Nat × List Nat × State} (hs : s.sound = true) (hat : s.atOnce h = true)
    (ha : s.accepts h (.read addr words) = true) (hsome : 1 ≤ words) (hfits : words ≤ 64)
    (hr : r = (s.started h (.read addr words)).readMany (.principal h.principal) none addr words) :
    Replies (.read h addr words) h 0x04 r.1 (if r.1 = Code.ok then wordBytes r.2.1 else []) s fun t => t.reg = r.2.2.reg := by
  refine replies_of_read (c := .read addr words) hs hat ha hr ?_
  subst hr
  exact if_neg (by omega)

theorem read_refused {addr words : Nat} (hs : s.sound = true) (hat : s.atOnce h = true) (ha : s.accepts h (.read addr words) = true)
    (hbad : words = 0 ∨ 64 < words) : Replies (.read h addr words) h 0x04 Code.badArg [] s fun t => t.reg = s.reg :=
  replies_of_answer (c := .read addr words) (o := 0) hs hat ha (if_pos hbad) same_refl fun _ ht => (State.reg_of_same ht).trans rfl

theorem ctxRead_replies {ctx first words : Nat} {r : Nat × List Nat × State} (hs : s.sound = true) (hat : s.atOnce h = true)
    (ha : s.accepts h (.ctxRead ctx first words) = true) (hctx : ctx < 40960) (hsome : 1 ≤ words) (hfits : first + words ≤ 16)
    (hr : r = (s.started h (.ctxRead ctx first words)).readMany (.principal h.principal) (some s.active) (0x1000000 + 64 * ctx + 4 * first) words) :
    Replies (.ctxRead h ctx first words) h 0x20 r.1 (if r.1 = Code.ok then wordBytes r.2.1 else []) s fun t => t.reg = r.2.2.reg := by
  refine replies_of_read (c := .ctxRead ctx first words) hs hat ha hr ?_
  subst hr
  exact if_neg (by omega)

/-- A plain SUMMARY is answered OK with its body, unsigned. -/
theorem summary_replies (hs : s.sound = true) (hat : s.atOnce h = true) (ha : s.accepts h (.summary []) = true) (hflags : h.flags = 0) :
    Replies (.summary h []) h 0x02 Code.ok ((s.started h (.summary [])).summaryItem (scopeOf h.principal) none).1 s fun _ => True := by
  have hrun : (s.started h (.summary [])).runCmd h (.summary []) =
      ((s.started h (.summary [])).summaryItem (scopeOf h.principal) none).2.answer h 0x02 Code.ok
        ((s.started h (.summary [])).summaryItem (scopeOf h.principal) none).1 := by
    simp [State.runCmd, State.cmdSummary, hflags]
  exact replies_of_answer (c := .summary []) (o := partMask [.free]) hs hat ha hrun (State.summaryItem_same same_refl (by decide)) fun _ _ => trivial

/-! ### Writing -/

/-- The write of a command that makes no state request ends with its answer, and changes beside it at most the time at which its flight ends. -/
theorem State.endWrite_eq {opcode : Nat} {framed : Bool} {r : Nat × Bool × State} (hnone : r.1 = Code.ok → r.2.1 = false) :
    ∃ v, s.endWrite h opcode framed r = v.answer h opcode r.1 ∧ Same (partMask [.sched]) r.2.2 v := by
  unfold State.endWrite
  by_cases hcode : r.1 = Code.ok
  · rw [if_neg (not_not.2 hcode), if_neg (by simp [hnone hcode]), hcode]
    cases framed with
    | true => exact ⟨_, rfl, Same.sched_ same_refl (by decide)⟩
    | false => exact ⟨_, rfl, same_refl⟩
  · exact ⟨_, if_pos hcode, same_refl⟩

/-- Such a command replies with the code of its write; what the write leaves, beside flights and items, stands after the answer. -/
theorem replies_of_endWrite {opcode : Nat} {framed : Bool} {r : Nat × Bool × State} {P : State → Prop} (hs : s.sound = true)
    (hat : s.atOnce h = true) (ha : s.accepts h c = true) (hrun : (s.started h c).runCmd h c = (s.started h c).endWrite h opcode framed r)
    (hnone : r.1 = Code.ok → r.2.1 = false) (hwrite : Same (partMask writeParts) (s.started h c) r.2.2)
    (hP : ∀ t, Same (partMask [.links, .sched]) r.2.2 t → P t) (hop : opcodeOf c ≠ 0x12 := by simp [opcodeOf]) :
    Replies (rowFor h c) h opcode r.1 [] s P := by
  obtain ⟨v, hend, hsame⟩ := State.endWrite_eq (s := s.started h c) (h := h) (opcode := opcode) (framed := framed) hnone
  exact replies_of_answer (o := partMask (.sched :: writeParts)) hs hat ha (hrun.trans hend) (hwrite.mono.trans hsame.mono)
    (fun t ht => hP t (hsame.mono.trans ht)) hop

theorem write_replies {addr : Nat} {data : List Nat} {r : Nat × Bool × State} (hs : s.sound = true) (hat : s.atOnce h = true)
    (ha : s.accepts h (.write addr data) = true) (hsome : data ≠ [])
    (hr : r = (s.started h (.write addr data)).writeMany (.principal h.principal) (some h) 0x05 addr data) (hnone : r.1 = Code.ok → r.2.1 = false) :
    Replies (.write h addr data) h 0x05 r.1 [] s fun t => t.reg = r.2.2.reg := by
  refine replies_of_endWrite (c := .write addr data) (framed := framedWrite addr data) hs hat ha ?_ hnone
    (hr ▸ State.writeMany_same same_refl (by decide)) fun _ ht => State.reg_of_same ht
  subst hr
  exact if_neg (by simp [hsome])

theorem ctxWrite_replies {ctx first : Nat} {data : List Nat} {r : Nat × Bool × State} (hs : s.sound = true) (hat : s.atOnce h = true)
    (ha : s.accepts h (.ctxWrite ctx first data) = true) (hctx : ctx < 40960) (hsome : data ≠ []) (hfits : first + data.length ≤ 16)
    (hr : r = (s.started h (.ctxWrite ctx first data)).writeBoth (.principal h.principal) h 0x21 (0x1000000 + 64 * ctx + 4 * first) data)
    (hnone : r.1 = Code.ok → r.2.1 = false) : Replies (.ctxWrite h ctx first data) h 0x21 r.1 [] s fun t => t.reg = r.2.2.reg := by
  refine replies_of_endWrite (c := .ctxWrite ctx first data) (framed := framedWrite (ctxAddr ctx first) data) hs hat ha ?_ hnone
    (hr ▸ State.writeBoth_same same_refl (by decide)) fun _ ht => State.reg_of_same ht
  subst hr
  exact if_neg (by simp [hsome]; omega)

/-- GUARD_WRITE and PRIMER_WRITE differ in their opcodes and in the offsets that are theirs. -/
theorem tileWrite_replies {opcode tile offset value : Nat} {fits : Nat → Bool} {r : Nat × Bool × State} (hs : s.sound = true)
    (hat : s.atOnce h = true) (ha : s.accepts h c = true)
    (hrun : (s.started h c).runCmd h c = (s.started h c).cmdTileWrite h opcode fits tile offset value) (htile : tile < 80)
    (hoffset : fits (0x100000 + 0x10000 * tile + offset) = true)
    (hr : r = (s.started h c).writeBoth (.principal h.principal) h opcode (0x100000 + 0x10000 * tile + offset) [value])
    (hnone : r.1 = Code.ok → r.2.1 = false) (hop : opcodeOf c ≠ 0x12 := by simp [opcodeOf]) :
    Replies (rowFor h c) h opcode r.1 [] s fun t => t.reg = r.2.2.reg := by
  refine replies_of_endWrite (framed := framedWrite (0x100000 + 0x10000 * tile + offset) [value]) hs hat ha (hrun.trans ?_) hnone
    (hr ▸ State.writeBoth_same same_refl (by decide)) (fun _ ht => State.reg_of_same ht) hop
  subst hr
  exact (if_neg (by omega)).trans (if_neg (by simp [hoffset]))

theorem remap_replies {logical useAlt : Nat} {r : Nat × Bool × State} (hs : s.sound = true) (hat : s.atOnce h = true)
    (ha : s.accepts h (.remap logical useAlt) = true) (hlogical : logical < 16384) (hcopy : useAlt ≤ 1)
    (hr : r = (s.started h (.remap logical useAlt)).writeBoth (.principal h.principal) h 0x16 A.RT_REMAP [useAlt * 2 ^ 31 + logical])
    (hnone : r.1 = Code.ok → r.2.1 = false) :
    Replies (.remap h logical useAlt) h 0x16 r.1 [] s fun t => t.route.remapPending = r.2.2.route.remapPending := by
  refine replies_of_endWrite (c := .remap logical useAlt) (framed := false) hs hat ha ?_ hnone
    (hr ▸ State.writeBoth_same same_refl (by decide)) fun t ht => ?_
  · subst hr
    exact if_neg (by omega)
  · have hroute : t.route = r.2.2.route := ht .route (by decide)
    rw [hroute]

/-! ### CTX_STATE -/

/-- The state request that a CTX_STATE makes: it carries no fields (R153). -/
def State.stateRequest (s : State) (h : CmdHead) (ctx st : Nat) : StateReq :=
  { ctx := ctx, state := st, head := some h, opcode := 0x22, owner := h.principal == 30, writes := [], undo := [], since := s.now }

theorem State.cmdCtxState_of_own {ctx st : Nat} (hctx : ctx < 40960) (hst : st ≤ 4)
    (hown : isTenancy h.principal = true → s.ownsCtx h.principal ctx = true) :
    s.cmdCtxState h ctx st = if st = s.shownState ctx then s.answer h 0x22 Code.ok else s.request (s.stateRequest h ctx st) := by
  have howned : ¬(isTenancy h.principal && !s.ownsCtx h.principal ctx) = true := by
    cases ht : isTenancy h.principal with
    | true => simp [hown ht]
    | false => simp
  rw [State.cmdCtxState, if_neg (by omega), if_neg howned, State.stateRequest]

theorem ctxState_shown {ctx st : Nat} (hs : s.sound = true) (hat : s.atOnce h = true) (ha : s.accepts h (.ctxState ctx st) = true)
    (hctx : ctx < 40960) (hst : st ≤ 4) (hown : isTenancy h.principal = true → s.ownsCtx h.principal ctx = true) (hshown : st = s.shownState ctx) :
    Replies (.ctxState h ctx st) h 0x22 Code.ok [] s fun t => t.loop = s.loop :=
  replies_of_answer (c := .ctxState ctx st) (o := 0) hs hat ha
    ((State.cmdCtxState_of_own (s := s.started h (.ctxState ctx st)) hctx hst hown).trans (if_pos hshown)) same_refl fun _ ht => ht .loop (by decide)

theorem ctxState_waits {ctx st : Nat} (ha : s.accepts h (.ctxState ctx st) = true) (hctx : ctx < 40960) (hst : st ≤ 4)
    (hown : isTenancy h.principal = true → s.ownsCtx h.principal ctx = true) (hother : st ≠ s.shownState ctx) :
    Yields (.ctxState h ctx st) s fun t => t.loop.requests = s.loop.requests ++ [s.stateRequest h ctx st] := by
  have hexec := exec_of_accepts (c := .ctxState ctx st) (by simp [opcodeOf]) ha
  have hrun := (State.cmdCtxState_of_own (s := s.started h (.ctxState ctx st)) hctx hst hown).trans (if_neg hother)
  exact ⟨_, hexec.trans (congrArg _ hrun), rfl⟩

end

/-- Settles O17. That a row stands for a command whose meter is paid, which takes effect at once at the latest admission point, is the reading of log
entry 11. -/
theorem commandsAreCheckedQueuedCarriedOut : Obligations.CommandsAreCheckedQueuedCarriedOut := by
  unfold Obligations.CommandsAreCheckedQueuedCarriedOut
  intro s h c hop hwf
  rw [exec_rowFor s hwf]
  refine ⟨fun hclosed => ?_, fun hopen hcode => ?_, fun haccepts => ?_, fun q hq hopen hcode hwaits => ?_⟩
  · rw [State.command_of_closed hclosed]
  · rw [State.command_of_refused hopen hcode]
  · rw [← exec_rowFor s hwf, exec_of_accepts hop haccepts]
  · subst hq
    rw [State.command_of_ok hop hopen hcode, State.effectOrWait, if_neg (by simp [hwaits])]
    exact ⟨fun hroom => by rw [if_neg (by omega)], fun hfull => by rw [if_pos hfull]⟩

/-- Settles O20. The body of SUMMARY is R260; that a READ of no word or of more than 64 is refused with BAD_ARG is R259 with log entry 59. -/
theorem readingCommandsAnswer : Obligations.ReadingCommandsAnswer := by
  unfold Obligations.ReadingCommandsAnswer
  intro s h hs hat
  refine ⟨fun _ _ _ ha hsome hfits hr => read_replies hs hat ha hsome hfits hr,
    fun _ _ _ _ ha hctx hsome hfits hr => ctxRead_replies hs hat ha hctx hsome hfits hr,
    fun _ _ ha hbad => read_refused hs hat ha hbad, fun ha hflags => ?_⟩
  obtain ⟨t, hexec, hcompleted, -⟩ := summary_replies hs hat ha hflags
  exact ⟨t, hexec, _, State.length_summaryItem .., hcompleted⟩

/-- Settles O21. That a CTX_STATE which names the state that shows is answered at once is the reading of log entry 43. -/
theorem writingCommandsAnswer : Obligations.WritingCommandsAnswer := by
  unfold Obligations.WritingCommandsAnswer
  intro s h hs hat
  exact ⟨fun _ _ _ ha hsome hr hnone => write_replies hs hat ha hsome hr hnone,
    fun _ _ _ _ ha hctx hsome hfits hr hnone => ctxWrite_replies hs hat ha hctx hsome hfits hr hnone,
    fun tile offset value _ ha htile hoffset hr hnone =>
      tileWrite_replies (c := .guardWrite tile offset value) hs hat ha rfl htile hoffset hr hnone,
    fun tile offset value _ ha htile hoffset hr hnone =>
      tileWrite_replies (c := .primerWrite tile offset value) hs hat ha rfl htile hoffset hr hnone,
    fun _ _ _ ha hlogical hcopy hr hnone => remap_replies hs hat ha hlogical hcopy hr hnone,
    fun _ _ ha hctx hst hown => ⟨ctxState_shown hs hat ha hctx hst hown, ctxState_waits ha hctx hst hown⟩⟩

end Sys2Proof.Machine
end

section
/-! TESTS. Commands of the owner on a running block: refused, waiting, carried out; reads and writes at the boundary values of their operands. -/

namespace Sys2Proof.Machine

open Sys2Proof

/-- A running block with n PINGs in the owner's queue. -/
def queueBlock (n : Nat) : State :=
  runningBlock.updQueue 32 fun x => { x with
    items := List.replicate n { head := ownerHead 0, opcode := 0x01, cmd := .ping, cost := 1, yellow := false, admitted := 0 } }

/-- After reset the lanes are closed; a FLAGS bit that PING does not define is refused; a PING with nothing before it is carried out. -/
theorem ping_checked :
    exec (.ping (ownerHead 1)) State.reset = .next State.reset ∧
    exec (.ping ⟨30, 1, 1⟩) runningBlock = .next (runningBlock.answer ⟨30, 1, 1⟩ 0x01 Code.badArg) ∧
    exec (.ping (ownerHead 1)) runningBlock = .next ((runningBlock.started (ownerHead 1) .ping).cmdPing (ownerHead 1)) := by
  obtain ⟨closed, -⟩ := commandsAreCheckedQueuedCarriedOut State.reset (ownerHead 1) .ping (by decide) (by decide)
  obtain ⟨-, refused, -⟩ := commandsAreCheckedQueuedCarriedOut runningBlock ⟨30, 1, 1⟩ .ping (by decide) (by decide)
  obtain ⟨-, -, accepted, -⟩ := commandsAreCheckedQueuedCarriedOut runningBlock (ownerHead 1) .ping (by decide) (by decide)
  have hcode : runningBlock.commandCode ⟨30, 1, 1⟩ .ping = Code.badArg := by decide +kernel
  exact ⟨closed (by decide), hcode ▸ refused (by decide) (by decide +kernel), accepted (by decide)⟩

/-- The owner's queue has room for 256 commands (R273). -/
theorem ping_queued :
    (Yields (.ping (ownerHead 1)) (queueBlock 255) fun t => (t.queue 32).items.length = 256) ∧
      exec (.ping (ownerHead 1)) (queueBlock 256) =
        .next (((queueBlock 256).bump R.SCH_EVENTS_QUEUE_FULL 1).answer (ownerHead 1) 0x01 Code.queueFull) := by
  obtain ⟨-, -, -, room⟩ := commandsAreCheckedQueuedCarriedOut (queueBlock 255) (ownerHead 1) .ping (by decide) (by decide)
  obtain ⟨-, -, -, full⟩ := commandsAreCheckedQueuedCarriedOut (queueBlock 256) (ownerHead 1) .ping (by decide) (by decide)
  exact ⟨⟨_, (room _ rfl (by decide) (by decide +kernel) (by decide +kernel)).1 (by decide +kernel), by decide +kernel⟩,
    (full _ rfl (by decide) (by decide +kernel) (by decide +kernel)).2 (by decide +kernel)⟩

/-- The code and the body of a reply, as they come out. -/
theorem Replies.as {i : Instr} {h : CmdHead} {opcode code code' : Nat} {body body' : List Nat} {s : State} {P : State → Prop}
    (hr : Replies i h opcode code body s P) (hcode : code = code') (hbody : body = body') : Replies i h opcode code' body' s P := hcode ▸ hbody ▸ hr

/-- One word of the capture memory, and 64 of them. -/
theorem runningBlock_reads :
    Replies (.read (ownerHead 1) 0x2000000 1) (ownerHead 1) 0x04 Code.ok [0, 0, 0, 0] runningBlock (fun _ => True) ∧
    Replies (.read (ownerHead 1) 0x2000000 64) (ownerHead 1) 0x04 Code.ok (List.replicate 256 0) runningBlock (fun _ => True) ∧
    Replies (.read (ownerHead 1) 0x2000000 0) (ownerHead 1) 0x04 Code.badArg [] runningBlock (fun t => t.reg = runningBlock.reg) ∧
    Replies (.read (ownerHead 1) 0x2000000 65) (ownerHead 1) 0x04 Code.badArg [] runningBlock (fun t => t.reg = runningBlock.reg) := by
  obtain ⟨read, -, refused, -⟩ := readingCommandsAnswer runningBlock (ownerHead 1) runningBlock_sound (by decide)
  refine ⟨?_, ?_, refused _ 0 (by decide) (.inl rfl), refused _ 65 (by decide) (.inr (by decide))⟩
  · exact ((read 0x2000000 1 _ (by decide) (by decide) (by decide) rfl).as (by decide +kernel) (by decide +kernel)).imp fun _ _ => trivial
  · exact ((read 0x2000000 64 _ (by decide) (by decide) (by decide) rfl).as (by decide +kernel) (by decide +kernel)).imp fun _ _ => trivial

/-- The last word of the last context, and a plain SUMMARY. -/
theorem runningBlock_ctxRead :
    Replies (.ctxRead (ownerHead 1) 40959 15 1) (ownerHead 1) 0x20 Code.ok [0, 0, 0, 0] runningBlock (fun _ => True) ∧
    Yields (.summary (ownerHead 1) []) runningBlock fun t => ∃ b : List Nat, b.length = 208 ∧
      (t.prin 30).completed = [runningBlock.itemOf (ownerHead 1) 0x02 Code.ok b] := by
  obtain ⟨-, ctxRead, -, summary⟩ := readingCommandsAnswer runningBlock (ownerHead 1) runningBlock_sound (by decide)
  exact ⟨((ctxRead 40959 15 1 _ (by decide) (by decide) (by decide) (by decide) rfl).as (by decide +kernel) (by decide +kernel)).imp
    fun _ _ => trivial, summary (by decide) rfl⟩

/-- The address register of the NOR, word 0 of the last context, the guard and the last heater's Primer entry of the last tile. -/
theorem runningBlock_writes :
    Replies (.write (ownerHead 1) A.BT_NOR_ADDR [4096]) (ownerHead 1) 0x05 Code.ok [] runningBlock (fun t => t.word A.BT_NOR_ADDR = 4096) ∧
    Replies (.ctxWrite (ownerHead 1) 40959 0 [0]) (ownerHead 1) 0x21 Code.ok [] runningBlock (fun _ => True) ∧
    Replies (.guardWrite (ownerHead 1) 79 0x2C00 0) (ownerHead 1) 0x28 Code.ok [] runningBlock (fun _ => True) ∧
    Replies (.primerWrite (ownerHead 1) 79 0x33FC 0) (ownerHead 1) 0x29 Code.ok [] runningBlock (fun _ => True) := by
  obtain ⟨write, ctxWrite, guardWrite, primerWrite, -⟩ := writingCommandsAnswer runningBlock (ownerHead 1) runningBlock_sound (by decide)
  refine ⟨?_, ?_, ?_, ?_⟩
  · exact ((write A.BT_NOR_ADDR [4096] _ (by decide) (by decide) rfl fun _ => by decide +kernel).as (by decide +kernel) rfl).imp
      fun t ht => by rw [State.word, ht]; decide +kernel
  · exact ((ctxWrite 40959 0 [0] _ (by decide) (by decide) (by decide) (by decide) rfl fun _ => by decide +kernel).as (by decide +kernel) rfl).imp
      fun _ _ => trivial
  · exact ((guardWrite 79 0x2C00 0 _ (by decide) (by decide) (by decide +kernel) rfl fun _ => by decide +kernel).as (by decide +kernel) rfl).imp
      fun _ _ => trivial
  · exact ((primerWrite 79 0x33FC 0 _ (by decide) (by decide) (by decide +kernel) rfl fun _ => by decide +kernel).as (by decide +kernel) rfl).imp
      fun _ _ => trivial

/-- The route engine is halted, and the fabric's last element, 16383, has an alternate record. -/
def remapBlock : State :=
  { runningBlock.wrB R.RT_CTRL_HALT 1 with
    fabric := { topology := 1, n := 1, cellCount := 16383, aux := [⟨0, 0, 0, 0, 0, 0, 0, 0⟩] } }

theorem remapBlock_remap : Replies (.remap (ownerHead 1) 16383 1) (ownerHead 1) 0x16 Code.ok [] remapBlock fun t =>
    t.route.remapPending = [(16383, true)] := by
  obtain ⟨-, -, -, -, remap, -⟩ := writingCommandsAnswer remapBlock (ownerHead 1) (by decide) (by decide)
  exact ((remap 16383 1 _ (by decide) (by decide) (by decide) rfl fun _ => by decide +kernel).as (by decide +kernel) rfl).imp
    fun _ ht => ht.trans (by decide +kernel)

/-- The last context is OFF: a request for OFF is answered at once, one for the last state code waits. -/
theorem runningBlock_ctxState :
    (Replies (.ctxState (ownerHead 1) 40959 0) (ownerHead 1) 0x22 Code.ok [] runningBlock fun t => t.loop = runningBlock.loop) ∧
      Yields (.ctxState (ownerHead 1) 40959 4) runningBlock fun t => t.loop.requests.map (·.state) = [4] := by
  obtain ⟨-, -, -, -, -, ctxState⟩ := writingCommandsAnswer runningBlock (ownerHead 1) runningBlock_sound (by decide)
  obtain ⟨t, hexec, hrequests⟩ := (ctxState 40959 4 (by decide) (by decide) (by decide) (by decide)).2 (by decide +kernel)
  exact ⟨(ctxState 40959 0 (by decide) (by decide) (by decide) (by decide)).1 (by decide +kernel), t, hexec,
    congrArg (List.map StateReq.state) hrequests⟩

end Sys2Proof.Machine
end

section
/-! SUPPORT. The register FT_TS_POP: the words of a source's oldest time-stamp record, which the owner may read (R301, R435, R439). -/

-- Here as below: the proofs are elaborated one after another. Each would be a task of its own, and the stacks of waiting tasks are what the check's
-- memory holds most of.
set_option deprecated.oldSectionVars true

namespace Sys2Proof.Machine

open Sys2Proof

/-- The entry of FT_TS_POP in the table of chapter 12: six words for each of 11 sources. -/
def tsPopSpec : RegSpec := ⟨.FT_TS_POP, 0x30500, [(11, 0x20), (6, 4)], .shared, [⟨31, 0, .rc, .fixed, 0, .number, false⟩]⟩

theorem regAt_tsPop : ∀ k < 11, ∀ i < 6, regAt (A.FT_TS_POP k i) = some ⟨tsPopSpec, [k, i]⟩ := by decide

section
variable {s : State} {r : Requester} {k : Nat}

theorem inCapture_tsPop (hk : k < 11) : inCapture (A.FT_TS_POP k 0) = false := inCapture_below (by unfold A.FT_TS_POP; omega)

/-- The register is shared: the owner and a trusted sideband may read it whatever a plane's health. -/
theorem State.readCode_tsPop (hk : k < 11) (howner : s.ownerLike r = true) : s.readCode r (A.FT_TS_POP k 0) = Code.ok := by
  have halign : A.FT_TS_POP k 0 % 4 = 0 := by
    unfold A.FT_TS_POP
    omega
  have hscope : s.readScope r ⟨tsPopSpec, [k, 0]⟩ = Code.ok := by
    cases r with
    | principal p => exact if_pos (.inl (beq_iff_eq.1 howner))
    | sideband => exact if_pos (.inl howner)
    | firmware p => rfl
  have hup : s.readsDown r tsPopSpec.copies = false := rfl
  simp [State.readCode, halign, inCapture_tsPop hk, regAt_tsPop k hk 0 (by decide), hscope, hup]

/-- Word 0 is no half of a pair: no holder gives it. -/
theorem State.coversHeld_tsPop (hk : k < 11) : s.coversHeld r [A.FT_TS_POP k 0] = false := by
  simp [State.coversHeld, regAt_tsPop k hk 0 (by decide), hiOf, tsPopSpec]

end

end Sys2Proof.Machine
end


section
/-! SUPPORT. Fabric time: the entries of its lists, its status bits, and what keeping a time-stamp record leaves. -/

set_option deprecated.oldSectionVars true

namespace Sys2Proof.Machine

open Sys2Proof

section
variable {s u : State} {f g : FieldAt} {d p k y : Nat}

/-! ### Entries of its lists -/

@[simp] theorem State.rd_setTime (s : State) (a : Time → Time) (f : FieldAt) : (s.setTime a).rd f = s.rd f := rfl
@[simp] theorem State.rd_updDomain (s : State) (d : Nat) (a : Domain → Domain) (f : FieldAt) : (s.updDomain d a).rd f = s.rd f := rfl
@[simp] theorem State.rd_updPort (s : State) (p : Nat) (a : RingPort → RingPort) (f : FieldAt) : (s.updPort p a).rd f = s.rd f := rfl

@[simp] theorem State.wr_time (s : State) (f : FieldAt) (v : Nat) : (s.wr f v).time = s.time := rfl
@[simp] theorem State.length_updDomain (s : State) (d : Nat) (a : Domain → Domain) : (s.updDomain d a).time.td.length = s.time.td.length :=
  modAt_length _ _ _
@[simp] theorem State.length_updPort (s : State) (p : Nat) (a : RingPort → RingPort) : (s.updPort p a).time.ports.length = s.time.ports.length :=
  modAt_length _ _ _

theorem State.domain_updDomain (a : Domain → Domain) (hd : d < s.time.td.length) :
    (s.updDomain y a).domain d = if d = y then a (s.domain d) else s.domain d := getD_modAt _ _ _ _ _ hd

theorem State.domain_updDomain_self (a : Domain → Domain) (hd : d < s.time.td.length) : (s.updDomain d a).domain d = a (s.domain d) :=
  (State.domain_updDomain a hd).trans (if_pos rfl)

theorem State.ringPort_updPort (a : RingPort → RingPort) (hp : p < s.time.ports.length) :
    (s.updPort y a).ringPort p = if p = y then a (s.ringPort p) else s.ringPort p := getD_modAt _ _ _ _ _ hp

theorem State.ringPort_updPort_self (a : RingPort → RingPort) (hp : p < s.time.ports.length) : (s.updPort p a).ringPort p = a (s.ringPort p) :=
  (State.ringPort_updPort a hp).trans (if_pos rfl)

theorem State.tsSource_updSource (a : TsSource → TsSource) (hk : k < s.time.sources.length) : (s.updSource k a).tsSource k = a (s.tsSource k) :=
  (getD_modAt _ _ _ _ _ hk).trans (if_pos rfl)

/-- What a step leaves, it leaves too where it depends on a condition. -/
theorem State.when_leaves {α : Type} (get : State → α) {c : Bool} {a : State → State} (ha : get (a s) = get s) : get (s.when c a) = get s := by
  unfold State.when
  split
  · exact ha
  · rfl

theorem State.sel_lt (s : State) : s.sel < 2 := s.rd_lt R.FT_CTRL_SEL

theorem State.Regs.setTime {a : Time → Time} (h : s.Regs) : (s.setTime a).Regs := ⟨h.shared, h.privA, h.privB⟩

/-! ### Status bits -/

/-- A field of one bit. -/
def FieldAt.OneBit (f : FieldAt) : Prop := f.hi < 32 ∧ f.lo = f.hi

theorem holdField_oneBit (d : Nat) : (holdField d).OneBit := by
  unfold holdField
  split <;> exact ⟨by decide, rfl⟩

theorem validField_oneBit (d : Nat) : (validField d).OneBit := by
  unfold validField
  split <;> exact ⟨by decide, rfl⟩

theorem ringField_oneBit (d : Nat) : (ringField d).OneBit := by
  unfold ringField
  split <;> exact ⟨by decide, rfl⟩

theorem State.rd_wr_bit {v : Nat} (h : s.Regs) (hf : f.OneBit) (hv : v < 2) : (s.wr f v).rd f = v := by
  obtain ⟨hhi, hlo⟩ := hf
  refine State.rd_wr_of_lt h ?_ (decide_eq_true ⟨hhi, hlo.le⟩)
  rwa [hlo, Nat.add_sub_cancel_left, Nat.pow_one]

theorem State.rd_wr_otherBit {v : Nat} (h : s.Regs) (hf : f.OneBit) (hg : g.OneBit) (hne : g.lo ≠ f.lo) : (s.wr f v).rd g = s.rd g := by
  obtain ⟨hhi, hlo⟩ := hf
  obtain ⟨-, hlo'⟩ := hg
  exact State.rd_wr_apart h (decide_eq_true ⟨hhi, hlo.le⟩) (decide_eq_true ⟨hlo'.le, by omega⟩)

theorem holdField_addr (d : Nat) : (holdField d).addr = A.FT_STATUS := by
  unfold holdField
  split <;> rfl

/-! ### Keeping a time-stamp record -/

/-- The state but for the records of one source, the last one's loss included (R301). -/
theorem State.keepRecord_time (s : State) (k kind dir : Nat) (t : Stamp) (rest : List Nat) :
    ∃ l, (s.keepRecord k kind dir t rest).time = { s.time with sources := l } := by
  unfold State.keepRecord
  simp only []
  split <;> exact ⟨_, rfl⟩

theorem State.Regs.keepRecord {kind dir : Nat} {t : Stamp} {rest : List Nat} (h : s.Regs) : (s.keepRecord k kind dir t rest).Regs := by
  unfold State.keepRecord
  simp only []
  split
  · exact State.Regs.setTime h.bump
  · exact State.Regs.setTime h

/-- A field of another register than FT_TS_STATUS, where lost records are counted. -/
theorem State.rd_keepRecord {kind dir : Nat} {t : Stamp} {rest : List Nat} (h : s.Regs) (hg : g.addr ≠ A.FT_TS_STATUS k) :
    (s.keepRecord k kind dir t rest).rd g = s.rd g := by
  unfold State.keepRecord
  simp only []
  split
  · exact State.rd_wr_addr _ _ _ _ h.shared hg
  · rfl

end

end Sys2Proof.Machine
end

section
/-! SUPPORT. What the clock's conditions do once they hold: holdover, automatic switch, frame-clock lock, pulse per second (R293 to R296, R303, R304). -/

set_option deprecated.oldSectionVars true

namespace Sys2Proof.Machine

open Sys2Proof

section
variable {s : State} {d : Nat}

/-! ### Holdover -/

/-- Domain d shows HOLDOVER, and it is counted. -/
def State.heldOver (s : State) (d : Nat) : State :=
  ((s.wr (holdField d) 1).bump R.FT_EVENTS_HOLDOVERS 1).updDomain d fun x => { x with holdDue := false }

/-- The holdover of the selected domain is raised, and an automatic switch may follow. -/
def State.holdRaised (s : State) (d : Nat) : State := (s.raise (holdMsg d)).setTime fun x => { x with switchDue := true }

theorem State.rd_heldOver (g : FieldAt) : (s.heldOver d).rd g = ((s.wr (holdField d) 1).bump R.FT_EVENTS_HOLDOVERS 1).rd g :=
  State.rd_updDomain _ _ _ _

/-- A field of another register than FT_STATUS and FT_EVENTS. -/
theorem State.rd_heldOver_addr {g : FieldAt} (h : s.Regs) (hstatus : g.addr ≠ A.FT_STATUS) (hevents : g.addr ≠ R.FT_EVENTS_HOLDOVERS.addr) :
    (s.heldOver d).rd g = s.rd g := by
  rw [State.rd_heldOver, State.bump, State.rd_wr_addr _ _ _ _ h.wr.shared hevents]
  exact State.rd_wr_addr _ _ _ _ h.shared (by rwa [holdField_addr])

theorem State.holdover_of_due (h : s.Regs) (hdue : (s.domain d).holdDue = true) :
    s.holdover d = (s.heldOver d).when (s.sel == d) (·.holdRaised d) := by
  have hsel : (s.heldOver d).sel = s.sel := State.rd_heldOver_addr h (by decide) (by decide)
  rw [← hsel, State.holdover, if_neg (by simp [hdue])]
  simp only [State.when, beq_iff_eq]
  rfl

theorem State.heldOver_shows (h : s.Regs) : (s.heldOver d).rd (holdField d) = 1 ∧
    (s.heldOver d).rd R.FT_EVENTS_HOLDOVERS = satAdd R.FT_EVENTS_HOLDOVERS.top (s.rd R.FT_EVENTS_HOLDOVERS) 1 := by
  have hevents : (s.wr (holdField d) 1).rd R.FT_EVENTS_HOLDOVERS = s.rd R.FT_EVENTS_HOLDOVERS :=
    State.rd_wr_addr _ _ _ _ h.shared (by rw [holdField_addr]; decide)
  rw [State.rd_heldOver, State.rd_heldOver, State.bump, hevents]
  constructor
  · rw [State.rd_wr_addr _ _ _ _ h.wr.shared (by rw [holdField_addr]; decide)]
    exact State.rd_wr_bit h (holdField_oneBit d) (by decide)
  · exact State.rd_wr_of_lt h.wr (FieldAt.satAdd_top_lt _ _ _)

theorem holdover_yields (hs : s.sound = true) (hd : d < 2) (hdue : (s.domain d).holdDue = true) : Yields (.holdover d) s fun t =>
    t.rd (holdField d) = 1 ∧ (t.domain d).holdDue = false ∧
      t.rd R.FT_EVENTS_HOLDOVERS = satAdd R.FT_EVENTS_HOLDOVERS.top (s.rd R.FT_EVENTS_HOLDOVERS) 1 ∧
      t.faults.incoming = s.faults.incoming ++ (if s.sel = d then [holdMsg d] else []) := by
  have hregs := State.sound_regs hs
  have hlen : d < ((s.wr (holdField d) 1).bump R.FT_EVENTS_HOLDOVERS 1).time.td.length := (State.sound_kept hs).td ▸ hd
  obtain ⟨hshown, hcounted⟩ := State.heldOver_shows (d := d) hregs
  have hdone : ((s.heldOver d).domain d).holdDue = false := congrArg Domain.holdDue (State.domain_updDomain_self _ hlen)
  have hincoming : (s.heldOver d).faults.incoming = s.faults.incoming := rfl
  have hexec := exec_holdover d s (decide_eq_true hd)
  rw [State.holdover_of_due hregs hdue] at hexec
  refine ⟨_, hexec, (State.when_leaves (·.rd (holdField d)) rfl).trans hshown,
    (State.when_leaves (fun u => (u.domain d).holdDue) rfl).trans hdone, (State.when_leaves (·.rd R.FT_EVENTS_HOLDOVERS) rfl).trans hcounted, ?_⟩
  rw [← hincoming]
  by_cases hsel : s.sel = d
  · rw [State.when, if_pos (by simp [hsel]), if_pos hsel]
    rfl
  · rw [State.when, if_neg (by simp [hsel]), if_neg hsel, List.append_nil]

theorem holdover_of_not_due (hd : d < 2) (hnot : (s.domain d).holdDue = false) : exec (.holdover d) s = .next s := by
  rw [exec_holdover d s (decide_eq_true hd), State.holdover, if_pos (by simp [hnot])]

/-! ### The automatic switch -/

theorem State.mem_incoming_when_raise {m x : FaultMsg} {c : Bool} (hx : x ∈ s.faults.incoming) : x ∈ (s.when c (·.raise m)).faults.incoming := by
  unfold State.when
  split
  · exact List.mem_append_left _ hx
  · exact hx

/-- A change of the selection is counted and raised; the reports of holdover follow it (R293). -/
theorem State.selected_of_changed {old : Nat} (hnew : s.sel ≠ old) (h : s.Regs) :
    (s.selected old).sel = s.sel ∧ (s.selected old).time = s.time ∧
      (s.selected old).rd R.FT_EVENTS_SWITCHES = satAdd R.FT_EVENTS_SWITCHES.top (s.rd R.FT_EVENTS_SWITCHES) 1 ∧
      ({ cls := 4, inst := 0, kind := 1, addr := s.sel } : FaultMsg) ∈ (s.selected old).faults.incoming := by
  have hsel : (s.bump R.FT_EVENTS_SWITCHES 1).sel = s.sel := State.rd_wr_addr _ _ _ _ h.shared (by decide)
  rw [State.selected, if_neg hnew]
  refine ⟨?_, ?_, ?_, State.mem_incoming_when_raise ?_⟩
  · exact ((State.when_leaves State.sel rfl).trans (State.when_leaves State.sel rfl)).trans hsel
  · exact (State.when_leaves State.time rfl).trans (State.when_leaves State.time rfl)
  · exact ((State.when_leaves (·.rd R.FT_EVENTS_SWITCHES) rfl).trans (State.when_leaves (·.rd R.FT_EVENTS_SWITCHES) rfl)).trans
      (State.rd_wr_of_lt h (FieldAt.satAdd_top_lt _ _ _))
  · rw [State.when_leaves (fun u => u.faults.incoming) rfl]
    exact List.mem_append_right _ (List.mem_singleton_self _)

/-- The other domain is selected. -/
def State.switched (s : State) : State := (s.setTime fun x => { x with autoDue := false }).wr R.FT_CTRL_SEL (1 - s.sel)

theorem State.autoSwitch_of_due (hdue : s.time.autoDue = true) : s.autoSwitch = s.switched.selected s.sel := if_neg (by simp [hdue])

theorem autoSwitch_yields (hs : s.sound = true) (hdue : s.time.autoDue = true) : Yields .autoSwitch s fun t =>
    t.sel = 1 - s.sel ∧ t.time.autoDue = false ∧
      t.rd R.FT_EVENTS_SWITCHES = satAdd R.FT_EVENTS_SWITCHES.top (s.rd R.FT_EVENTS_SWITCHES) 1 ∧
      ({ cls := 4, inst := 0, kind := 1, addr := 1 - s.sel } : FaultMsg) ∈ t.faults.incoming := by
  have hlt := s.sel_lt
  have hregs : (s.setTime fun x => { x with autoDue := false }).Regs := (State.sound_regs hs).setTime
  have hnew : s.switched.sel = 1 - s.sel := State.rd_wr_of_lt hregs (by show 1 - s.sel < 2; omega)
  have hevents : s.switched.rd R.FT_EVENTS_SWITCHES = s.rd R.FT_EVENTS_SWITCHES := State.rd_wr_addr _ _ _ _ hregs.shared (by decide)
  obtain ⟨hsel, htime, hcounted, hraised⟩ := State.selected_of_changed (s := s.switched) (old := s.sel) (by omega) hregs.wr
  refine ⟨_, (exec_autoSwitch s).trans (congrArg _ (State.autoSwitch_of_due hdue)), hsel.trans hnew, ?_, ?_, ?_⟩
  · exact congrArg Time.autoDue htime
  · rw [hcounted, hevents]
  · exact hnew ▸ hraised

theorem autoSwitch_of_not_due (hnot : s.time.autoDue = false) : exec .autoSwitch s = .next s := by
  rw [exec_autoSwitch, State.autoSwitch, if_pos (by simp [hnot])]

/-! ### The frame clock's lock -/

theorem fclkLock_yields (hs : s.sound = true) (hdue : s.time.lockDue = true) : Yields .fclkLock s fun t =>
    t.rd R.FT_STATUS_FCLK_LOCK = 1 ∧ t.time.lockDue = false ∧
      t.faults = { s.faults with ended := s.faults.ended ++ [{ cls := 4, inst := 0, kind := 3 }] } := by
  have hlock : s.fclkLock = ((s.setTime fun x => { x with lockDue := false }).wr R.FT_STATUS_FCLK_LOCK 1).endReport { cls := 4, inst := 0, kind := 3 } :=
    if_neg (by simp [hdue])
  exact ⟨_, (exec_fclkLock s).trans (congrArg _ hlock), State.rd_wr_of_lt (State.sound_regs hs).setTime (of_decide_eq_true rfl), rfl, rfl⟩

theorem fclkLock_of_not_due (hnot : s.time.lockDue = false) : exec .fclkLock s = .next s := by
  rw [exec_fclkLock, State.fclkLock, if_pos (by simp [hnot])]

/-! ### Pulse per second -/

/-- The record of an edge is no gap. -/
theorem State.ppsGap_keepRecord (s : State) (k kind dir : Nat) (t : Stamp) (rest : List Nat) :
    (s.keepRecord k kind dir t rest).time.ppsGap = s.time.ppsGap := by
  obtain ⟨l, hl⟩ := s.keepRecord_time k kind dir t rest
  rw [hl]

/-- The record of an edge, where its source keeps records. -/
def State.edgeRecorded (s : State) (stamp : Stamp) : State := s.when (s.keeps 10 true) (·.keepRecord 10 5 0 stamp [0, 0, 0])

theorem State.edgeRecorded_same (stamp : Stamp) : Same (partMask [.shared, .time]) s (s.edgeRecorded stamp) :=
  State.when_same same_refl (State.keepRecord_same same_refl (by decide))

/-- An edge ends the gap that was reported (R303). -/
def State.edgeTaken (s : State) : State :=
  (s.when s.time.ppsGap (·.endReport ppsMsg)).setTime fun x => { x with ppsEdge := some s.clk.frame, ppsGap := false }

theorem State.ended_edgeTaken (s : State) :
    s.edgeTaken.faults.ended = s.faults.ended ++ (if s.time.ppsGap then [ppsMsg] else []) := by
  cases hgap : s.time.ppsGap <;> simp [State.edgeTaken, State.when, State.endReport, State.setTime, hgap]

theorem State.ppsEdge_eq (stamp : Stamp) : s.ppsEdge stamp = (s.edgeRecorded stamp).edgeTaken := by
  have hclk (u : State) : (u.when u.time.ppsGap (·.endReport ppsMsg)).clk = u.clk := State.when_leaves State.clk rfl
  rw [State.edgeTaken, ← hclk]
  rfl

theorem ppsEdge_yields {stamp : Stamp} (hwf : (Instr.ppsEdge stamp).wf = true) (hawake : s.awake = true) : Yields (.ppsEdge stamp) s fun t =>
    t.time.ppsEdge = some s.clk.frame ∧ t.time.ppsGap = false ∧
      t.faults.ended = s.faults.ended ++ (if s.time.ppsGap then [ppsMsg] else []) := by
  have hclk : (s.edgeRecorded stamp).clk = s.clk := State.edgeRecorded_same stamp .clk (by decide)
  have hfaults : (s.edgeRecorded stamp).faults = s.faults := State.edgeRecorded_same stamp .faults (by decide)
  have hgap : (s.edgeRecorded stamp).time.ppsGap = s.time.ppsGap := State.when_leaves (·.time.ppsGap) (s.ppsGap_keepRecord ..)
  refine ⟨_, exec_ppsEdge stamp s hwf, ?_⟩
  rw [State.when, if_pos hawake, State.ppsEdge_eq]
  refine ⟨congrArg (some ∘ Clock.frame) hclk, rfl, ?_⟩
  rw [State.ended_edgeTaken, hfaults, hgap]

theorem ppsGap_yields {f : Nat} (hawake : s.awake = true) (hedge : s.time.ppsEdge = some f) (hnew : s.time.ppsGap = false)
    (hlong : 75000 ≤ s.clk.frame - f) : Yields .ppsGap s fun t =>
      t.time.ppsGap = true ∧ t.faults = { s.faults with incoming := s.faults.incoming ++ [ppsMsg] } := by
  refine ⟨_, exec_ppsGap s, ?_⟩
  rw [State.when, if_pos hawake, State.ppsGap, hedge]
  simp only [hlong, hnew, Bool.false_eq_true, not_false_eq_true, and_self, if_true]
  exact ⟨rfl, rfl⟩

theorem State.ppsGap_of_not_due (hnot : s.time.ppsEdge = none ∨ s.time.ppsGap = true) : s.ppsGap = s := by
  unfold State.ppsGap
  cases hedge : s.time.ppsEdge with
  | none => rfl
  | some f => exact if_neg fun hdue => hdue.2 (hnot.resolve_left (by simp [hedge]))

theorem ppsGap_of_not_due (hnot : s.time.ppsEdge = none ∨ s.time.ppsGap = true) : exec .ppsGap s = .next s := by
  rw [exec_ppsGap, State.when, State.ppsGap_of_not_due hnot, ite_self]

/-- The pin falls after the edge: its width is at least 1 μs. -/
theorem ppsOutEdge_yields (hawake : s.awake = true) (hon : s.on R.FT_PPS_CFG_OUT_EN = true) (hnew : s.time.ppsMark < s.ppsSecond) :
    Yields .ppsOutEdge s fun t => t.time.ppsMark = s.ppsSecond ∧
      t.time.ppsFall = s.fclk + divUp ((s.rd R.FT_PPS_CFG_OUT_WIDTH + 1) * 2048) 5 ∧ t.ppsOut = true := by
  have hwidth : 0 < divUp ((s.rd R.FT_PPS_CFG_OUT_WIDTH + 1) * 2048) 5 := by
    rw [divUp, if_neg (by decide)]
    omega
  have hrises : s.ppsOutEdge = s.setTime fun x =>
      { x with ppsMark := s.ppsSecond, ppsFall := s.fclk + divUp ((s.rd R.FT_PPS_CFG_OUT_WIDTH + 1) * 2048) 5 } := if_pos ⟨hon, hnew⟩
  refine ⟨_, exec_ppsOutEdge s, ?_⟩
  rw [State.when, if_pos hawake, hrises]
  refine ⟨rfl, rfl, Bool.and_eq_true_iff.2 ⟨hon, decide_eq_true ?_⟩⟩
  exact Nat.lt_add_of_pos_right hwidth

theorem ppsOutEdge_of_marked (hmarked : s.ppsSecond ≤ s.time.ppsMark) : exec .ppsOutEdge s = .next s := by
  have hstays : s.ppsOutEdge = s := if_neg fun hdue => absurd hdue.2 (Nat.not_lt.2 hmarked)
  rw [exec_ppsOutEdge, State.when, hstays, ite_self]

end

/-- Settles O46, condition by condition. An edge or a lock ends the report of PPS_GAP or FCLK_PHASE (R369, R378, log entry 63). -/
theorem clockConditions : Obligations.ClockConditions := by
  unfold Obligations.ClockConditions
  intro s d hs hd
  exact ⟨holdover_yields hs hd, holdover_of_not_due hd, autoSwitch_yields hs, autoSwitch_of_not_due, fclkLock_yields hs, fclkLock_of_not_due,
    fun _ hwf hawake => ppsEdge_yields hwf hawake, fun _ => ppsGap_yields, ppsGap_of_not_due, ppsOutEdge_yields, ppsOutEdge_of_marked⟩

end Sys2Proof.Machine
end

section
/-! TESTS. States in which the clock's conditions hold, and what the statement about them says of each. -/

set_option deprecated.oldSectionVars true

namespace Sys2Proof.Machine

open Sys2Proof

/-- Domain 1 is selected; both holdover timers have expired, and HOLDOVERS stands one below its top. The automatic switch and the lock are due. -/
def heldBlock : State :=
  { (runningBlock.setWord A.FT_CTRL (2 ^ 31)).setWord A.FT_EVENTS (254 * 2 ^ 16) with
    time := { runningBlock.time with td := [{ holdDue := true }, { holdDue := true }], autoDue := true, lockDue := true } }

theorem heldBlock_sound : heldBlock.sound = true := by decide

/-- The holdover of the domain that is not selected is counted and not raised. -/
theorem heldBlock_holdover :
    (Yields (.holdover 0) heldBlock fun t => t.rd R.FT_STATUS_HOLDOVER0 = 1 ∧ t.rd R.FT_EVENTS_HOLDOVERS = 255 ∧ t.faults.incoming = []) ∧
    Yields (.holdover 1) heldBlock fun t => t.rd R.FT_STATUS_HOLDOVER1 = 1 ∧ t.faults.incoming = [holdMsg 1] := by
  obtain ⟨quiet, -⟩ := clockConditions heldBlock 0 heldBlock_sound (by decide)
  obtain ⟨raised, -⟩ := clockConditions heldBlock 1 heldBlock_sound (by decide)
  exact ⟨(quiet (by decide)).imp fun _ ⟨hshown, _, hcount, hfaults⟩ => ⟨hshown, hcount.trans (by decide), hfaults.trans (by decide)⟩,
    (raised (by decide)).imp fun _ ⟨hshown, _, _, hfaults⟩ => ⟨hshown, hfaults.trans (by decide)⟩⟩

theorem heldBlock_switches :
    (Yields .autoSwitch heldBlock fun t => t.sel = 0 ∧ t.rd R.FT_EVENTS_SWITCHES = 1 ∧
      ({ cls := 4, inst := 0, kind := 1, addr := 0 } : FaultMsg) ∈ t.faults.incoming) ∧
    Yields .fclkLock heldBlock fun t => t.rd R.FT_STATUS_FCLK_LOCK = 1 ∧ t.faults.ended = [{ cls := 4, inst := 0, kind := 3 }] := by
  obtain ⟨-, -, switch, -, lock, -⟩ := clockConditions heldBlock 0 heldBlock_sound (by decide)
  exact ⟨(switch (by decide)).imp fun _ ⟨hsel, _, hcount, hraised⟩ => ⟨hsel.trans (by decide), hcount.trans (by decide), hraised⟩,
    (lock (by decide)).imp fun _ ⟨hshown, _, hfaults⟩ => ⟨hshown, congrArg _ hfaults⟩⟩

/-- Nothing of it is due on the running block. -/
theorem runningBlock_clockConditions : exec (.holdover 1) runningBlock = .next runningBlock ∧ exec .autoSwitch runningBlock = .next runningBlock ∧
    exec .fclkLock runningBlock = .next runningBlock ∧ exec .ppsGap runningBlock = .next runningBlock ∧
    exec .ppsOutEdge runningBlock = .next runningBlock := by
  obtain ⟨-, holdover, -, switch, -, lock, -, -, gap, -, mark⟩ := clockConditions runningBlock 1 runningBlock_sound (by decide)
  exact ⟨holdover (by decide), switch (by decide), lock (by decide), gap (.inl rfl), mark (by decide)⟩

/-- An awake block at the given frame whose latest PPS_IN edge was in frame 5. Domain 0 has passed second 1, which PPS_OUT, on and of the least width,
has not marked. -/
def pulsingBlock (frame : Nat) (gap : Bool) : State :=
  { runningBlock.setWord A.FT_PPS_CFG (2 ^ 31) with
    power := .run
    clk := { runningBlock.clk with frame := frame }
    time := { runningBlock.time with td := [{ t := secUnit }, {}], ppsEdge := some 5, ppsGap := gap } }

/-- The gap is reported after 75,000 frames, and the next edge ends it. -/
theorem pulsingBlock_gap :
    (Yields .ppsGap (pulsingBlock 75005 false) fun t => t.time.ppsGap = true ∧ t.faults.incoming = [ppsMsg]) ∧
    exec .ppsGap (pulsingBlock 75005 true) = .next (pulsingBlock 75005 true) ∧
    (Yields (.ppsEdge ⟨0, 0, 0⟩) (pulsingBlock 75005 true) fun t => t.time.ppsEdge = some 75005 ∧ t.faults.ended = [ppsMsg]) ∧
    Yields (.ppsEdge ⟨2 ^ 48 - 1, 999999999, 65535⟩) (pulsingBlock 75005 false) fun t => t.faults.ended = [] := by
  obtain ⟨-, -, -, -, -, -, edge, gap, -⟩ := clockConditions (pulsingBlock 75005 false) 0 (by decide) (by decide)
  obtain ⟨-, -, -, -, -, -, ends, -, reported, -⟩ := clockConditions (pulsingBlock 75005 true) 0 (by decide) (by decide)
  exact ⟨(gap 5 (by decide) rfl rfl (by decide)).imp fun _ ⟨hgap, hfaults⟩ => ⟨hgap, congrArg _ hfaults⟩, reported (.inr rfl),
    (ends _ (by decide) (by decide)).imp fun _ ⟨hedge, _, hfaults⟩ => ⟨hedge, hfaults⟩,
    (edge _ (by decide) (by decide)).imp fun _ ⟨_, _, hfaults⟩ => hfaults⟩

/-- The pin rises, and falls 1 μs later: 409.6 cycles of FCLK, rounded up. -/
theorem pulsingBlock_out : Yields .ppsOutEdge (pulsingBlock 0 false) fun t => t.time.ppsMark = 1 ∧ t.time.ppsFall = 410 ∧ t.ppsOut = true := by
  obtain ⟨-, -, -, -, -, -, -, -, -, out, -⟩ := clockConditions (pulsingBlock 0 false) 0 (by decide) (by decide)
  exact (out (by decide) (by decide) (by decide)).imp fun _ ⟨hmark, hfall, hout⟩ => ⟨hmark.trans (by decide), hfall.trans (by decide), hout⟩

end Sys2Proof.Machine
end

section
/-! SUPPORT. A read of a source's time-stamp record takes the oldest one (R301). -/

set_option deprecated.oldSectionVars true

namespace Sys2Proof.Machine

open Sys2Proof

section
variable {s : State} {r : Requester} {k : Nat}

/-- The source whose oldest record has been taken and is held; an empty queue gives six words of 0. -/
def TsSource.popped (x : TsSource) : TsSource := { x with queue := x.queue.drop 1, held := x.queue.headD [0, 0, 0, 0, 0, 0] }

theorem State.tsSource_tsPop (hk : k < s.time.sources.length) : (s.tsPop k).2.tsSource k = (s.tsSource k).popped := by
  unfold State.tsPop TsSource.popped
  split
  next hempty => rw [State.tsSource_updSource _ hk, hempty]; rfl
  next hqueue => rw [State.tsSource_updSource _ hk, hqueue]; rfl

/-- The stored word is cleared, which is no time, and the record popped. -/
theorem State.readEffect_tsPop (p : Plane) (a : Nat) (howner : s.ownerLike r = true) :
    ∃ w, s.readEffect r p ⟨tsPopSpec, [k, 0]⟩ a = ((s.setWord a w).tsPop k).2 := by
  refine ⟨(⟨a, 31, 0⟩ : FieldAt).put (s.stored p .shared a) 0, ?_⟩
  rw [State.readEffect, howner]
  rfl

theorem State.readOne_tsPop (p : Plane) (a : Nat) (howner : s.ownerLike r = true) (hnone : s.heldRead r a = none) :
    ∃ w, (s.readOne r p ⟨tsPopSpec, [k, 0]⟩ a).2 = ((s.setWord a w).tsPop k).2 := by
  obtain ⟨w, hw⟩ := s.readEffect_tsPop (r := r) (k := k) p a howner
  refine ⟨w, ?_⟩
  rw [← hw]
  simp only [State.readOne, hnone]
  rfl

theorem State.readMany_tsPop (hk : k < 11) (howner : s.ownerLike r = true) (hnone : s.heldRead r (A.FT_TS_POP k 0) = none) :
    ∃ w, (s.readMany r none (A.FT_TS_POP k 0) 1).2.2 = ((s.setWord (A.FT_TS_POP k 0) w).tsPop k).2 := by
  obtain ⟨w, hw⟩ := s.readOne_tsPop (r := r) (k := k) (s.selPlane r) (A.FT_TS_POP k 0) howner hnone
  refine ⟨w, ?_⟩
  have hone : wordsAt (A.FT_TS_POP k 0) 1 = [A.FT_TS_POP k 0] := rfl
  simp [State.readMany, hone, State.readCode_tsPop hk howner, firstCode, State.coversHeld_tsPop hk, State.readAll, State.readWord,
    inCapture_tsPop hk, regAt_tsPop k hk 0 (by decide), hw]

/-- What the sideband is answered is no record. -/
theorem State.tsSource_regRead {a n : Nat} (hmay : s.mayAccess r a n = true) : (s.regRead r a n).tsSource k = (s.readMany r none a n).2.2.tsSource k := by
  rw [State.regRead, if_pos hmay]
  cases r <;> rfl

theorem tsPop_yields (hs : s.sound = true) (hwf : (Instr.tsPop r k).wf = true) (howner : s.ownerLike r = true)
    (hmay : s.mayAccess r (A.FT_TS_POP k 0) 1 = true) (hnone : s.heldRead r (A.FT_TS_POP k 0) = none) : Yields (.tsPop r k) s fun t =>
      (t.tsSource k).queue = (s.tsSource k).queue.drop 1 ∧ (t.tsSource k).held = (s.tsSource k).queue.headD [0, 0, 0, 0, 0, 0] := by
  have hk : k < 11 := of_decide_eq_true (Bool.and_eq_true_iff.1 hwf).2
  obtain ⟨w, hw⟩ := s.readMany_tsPop hk howner hnone
  have hpopped : (s.regRead r (A.FT_TS_POP k 0) 1).tsSource k = (s.tsSource k).popped := by
    rw [State.tsSource_regRead hmay, hw]
    exact State.tsSource_tsPop (s := s.setWord _ w) ((State.sound_kept hs).sources ▸ hk)
  exact ⟨_, exec_tsPop r k s hwf, congrArg TsSource.queue hpopped, congrArg TsSource.held hpopped⟩

end

end Sys2Proof.Machine
end

section
/-! SUPPORT. The ring's conditions and link delays: what falls due shows and is raised, an exchange gives its delay and ends a loss (R305 to R307,
R369). -/

set_option deprecated.oldSectionVars true

namespace Sys2Proof.Machine

open Sys2Proof

/-- `u` is `s` but for what a beacon or an exchange leaves before anything follows it: time-stamp records, with those lost counted in FT_TS_STATUS,
what the west port counts, and the beacons sent. -/
structure State.Arrived (s u : State) : Prop where
  regs : u.Regs
  td : u.time.td = s.time.td
  ports : u.time.ports.length = s.time.ports.length
  delays : ∀ q, (u.ringPort q).delays = (s.ringPort q).delays
  rd : ∀ g : FieldAt, g.addr < A.FT_TS_STATUS 0 ∨ A.FT_TS_STATUS 11 ≤ g.addr → u.rd g = s.rd g

section
variable {s u v : State} {d p k : Nat}

theorem State.Arrived.refl (h : s.Regs) : s.Arrived s := ⟨h, rfl, rfl, fun _ => rfl, fun _ _ => rfl⟩

theorem State.Arrived.ite {c : Prop} [Decidable c] (hu : s.Arrived u) (hv : s.Arrived v) : s.Arrived (if c then u else v) := by
  split
  · exact hu
  · exact hv

theorem State.Arrived.keepRecord {kind dir : Nat} {t : Stamp} {rest : List Nat} (h : s.Arrived u) (hk : k < 11) :
    s.Arrived (u.keepRecord k kind dir t rest) := by
  obtain ⟨l, htime⟩ := u.keepRecord_time k kind dir t rest
  refine ⟨h.regs.keepRecord, ?_, ?_, fun q => ?_, fun g hg => ?_⟩
  · rw [htime, ← h.td]
  · rw [htime, ← h.ports]
  · rw [State.ringPort, htime, ← h.delays]
    rfl
  · rw [State.rd_keepRecord h.regs (by unfold A.FT_TS_STATUS at hg ⊢; omega), h.rd g hg]

theorem State.Arrived.setTime {a : Time → Time} (h : s.Arrived u) (htd : (a u.time).td = u.time.td) (hports : (a u.time).ports = u.time.ports) :
    s.Arrived (u.setTime a) :=
  ⟨h.regs.setTime, htd.trans h.td, (congrArg _ hports).trans h.ports,
    fun q => (congrArg (fun l : List RingPort => (l.getD q {}).delays) hports).trans (h.delays q), h.rd⟩

/-- A beacon that is sent is no delay. -/
theorem State.Arrived.updPort {a : RingPort → RingPort} (h : s.Arrived u) (ha : ∀ x, (a x).delays = x.delays) : s.Arrived (u.updPort p a) := by
  refine ⟨h.regs.setTime, h.td, (u.length_updPort p a).trans h.ports, fun q => ?_, h.rd⟩
  rw [← h.delays q]
  show ((modAt u.time.ports p a).getD q {}).delays = (u.time.ports.getD q {}).delays
  rcases Nat.lt_or_ge q u.time.ports.length with hq | hq
  · rw [getD_modAt _ _ _ _ _ hq]
    split
    · exact ha _
    · rfl
  · rw [List.getD_eq_default _ _ hq, List.getD_eq_default _ _ ((modAt_length _ _ _).trans_le hq)]

/-! ### Conditions that fall due -/

theorem beaconSwitch_yields (hs : s.sound = true) (hdue : s.time.portDue = true) : Yields .beaconPortSwitch s fun t =>
    t.rd R.FT_STATUS_RING_PORT = 1 - s.rd R.FT_STATUS_RING_PORT ∧ t.time.portDue = false := by
  have hswitch : s.beaconSwitch = (s.wr R.FT_STATUS_RING_PORT (1 - s.rd R.FT_STATUS_RING_PORT)).setTime fun x =>
      { x with portDue := false, westGood := 0, westMissed := 0 } := if_neg (by simp [hdue])
  exact ⟨_, (exec_beaconPortSwitch s).trans (congrArg _ hswitch),
    State.rd_wr_bit (State.sound_regs hs) ⟨by decide, rfl⟩ (Nat.lt_succ_of_le (Nat.sub_le _ _)), rfl⟩

theorem beaconSwitch_of_not_due (hnot : s.time.portDue = false) : exec .beaconPortSwitch s = .next s := by
  rw [exec_beaconPortSwitch, State.beaconSwitch, if_pos (by simp [hnot])]

theorem ringLost_yields (hs : s.sound = true) (hp : p < 2) (hdue : (s.ringPort p).lostDue = true) : Yields (.ringLost p) s fun t =>
    t.rd (R.FT_RING_DELAY_LINK_DOWN p) = 1 ∧ (t.ringPort p).lostDue = false ∧
      t.faults = { s.faults with incoming := s.faults.incoming ++ [s.ringMsg] } := by
  have hlen : p < ((s.wr (R.FT_RING_DELAY_LINK_DOWN p) 1).raise s.ringMsg).time.ports.length := (State.sound_kept hs).ports ▸ hp
  have hlost : s.ringLost p = ((s.wr (R.FT_RING_DELAY_LINK_DOWN p) 1).raise s.ringMsg).updPort p fun x => { x with lostDue := false } :=
    if_neg (by simp [hdue])
  exact ⟨_, (exec_ringLost p s (decide_eq_true hp)).trans (congrArg _ hlost),
    State.rd_wr_bit (State.sound_regs hs) ⟨of_decide_eq_true rfl, rfl⟩ (by decide), congrArg RingPort.lostDue (State.ringPort_updPort_self _ hlen), rfl⟩

theorem ringLost_of_not_due (hp : p < 2) (hnot : (s.ringPort p).lostDue = false) : exec (.ringLost p) s = .next s := by
  rw [exec_ringLost p s (decide_eq_true hp), State.ringLost, if_pos (by simp [hnot])]

/-- The bits RING_LOCK and VALID of a domain stand apart. -/
theorem ringField_ne_validField (d : Nat) : (ringField d).lo ≠ (validField d).lo := by
  unfold ringField validField
  split <;> decide

theorem ringLock_yields (hs : s.sound = true) (hd : d < 2) (hdue : (s.domain d).ringDue = true) : Yields (.ringLock d) s fun t =>
    t.rd (ringField d) = 1 ∧ t.rd (validField d) = 1 ∧ (t.domain d).ringDue = false := by
  have hregs := State.sound_regs hs
  have hlen : d < ((s.wr (ringField d) 1).wr (validField d) 1).time.td.length := (State.sound_kept hs).td ▸ hd
  have hlock : s.ringLock d = ((s.wr (ringField d) 1).wr (validField d) 1).updDomain d fun x => { x with ringDue := false } :=
    if_neg (by simp [hdue])
  have hring : ((s.wr (ringField d) 1).wr (validField d) 1).rd (ringField d) = 1 :=
    (State.rd_wr_otherBit hregs.wr (validField_oneBit d) (ringField_oneBit d) (ringField_ne_validField d)).trans
      (State.rd_wr_bit hregs (ringField_oneBit d) (by decide))
  exact ⟨_, (exec_ringLock d s (decide_eq_true hd)).trans (congrArg _ hlock), hring, State.rd_wr_bit hregs.wr (validField_oneBit d) (by decide),
    congrArg Domain.ringDue (State.domain_updDomain_self _ hlen)⟩

theorem ringLock_of_not_due (hd : d < 2) (hnot : (s.domain d).ringDue = false) : exec (.ringLock d) s = .next s := by
  rw [exec_ringLock d s (decide_eq_true hd), State.ringLock, if_pos (by simp [hnot])]

theorem apsinDown_yields (hp : p < 2) (hawake : s.awake = true) : Yields (.apsinLinkDown p) s fun t =>
    t.faults = { s.faults with incoming := s.faults.incoming ++ [{ cls := 3, inst := p, kind := 1 }] } :=
  ⟨_, (exec_apsinLinkDown p s (decide_eq_true hp)).trans (congrArg _ (if_pos hawake)), rfl⟩

/-! ### The exchange of a link -/

section
variable {t1 t2 t3 t4 : Int} {frame hops : Nat} {rx tx : Stamp}

/-- Its records, where their source keeps them. -/
def State.exchangeRecorded (s : State) (p frame hops : Nat) (rx tx : Stamp) : State :=
  let words := [hops % 16 * 2 ^ 28, frame % 2 ^ 32, 0]
  if s.keeps (8 + p) true then (s.keepRecord (8 + p) 4 0 rx words).keepRecord (8 + p) 4 1 tx words else s

/-- A delay stands before those of the port. -/
def State.delayTaken (s : State) (p : Nat) (delay : Int) : State :=
  s.updPort p fun x => { x with delays := (delay :: x.delays).take 64, quiet := 0, lostDue := false }

theorem State.Regs.delayTaken {delay : Int} (h : s.Regs) : (s.delayTaken p delay).Regs := ⟨h.shared, h.privA, h.privB⟩

/-- The port shows its link and its mean delay, and a loss that was reported has ended. -/
def State.linkShown (s : State) (p : Nat) : State :=
  let s := s.when (s.on (R.FT_RING_DELAY_LINK_DOWN p)) (·.endReport s.ringMsg)
  (s.wr (R.FT_RING_DELAY_LINK_DOWN p) 0).wr (R.FT_RING_DELAY_D p) (unsigned 31 (s.linkDelay p))

theorem State.linkMessage_eq : s.linkMessage p t1 t2 t3 t4 frame hops rx tx =
    ((s.exchangeRecorded p frame hops rx tx).delayTaken p
      (((t4 - t1) - (t3 - t2)) / 2 + (s.exchangeRecorded p frame hops rx tx).rdS (R.FT_RING_ASYM_ASYM p))).linkShown p := rfl

theorem State.exchangeRecorded_arrived (h : s.Regs) (hp : p < 2) : s.Arrived (s.exchangeRecorded p frame hops rx tx) := by
  have hkept := State.Arrived.refl h
  unfold State.exchangeRecorded
  exact .ite ((hkept.keepRecord (by omega)).keepRecord (by omega)) hkept

theorem State.linkShown_up (h : s.Regs) : (s.linkShown p).rd (R.FT_RING_DELAY_LINK_DOWN p) = 0 := by
  have hregs : (s.when (s.on (R.FT_RING_DELAY_LINK_DOWN p)) (·.endReport s.ringMsg)).Regs := by
    unfold State.when
    split
    · exact ⟨h.shared, h.privA, h.privB⟩
    · exact h
  exact (State.rd_wr_apart hregs.wr).trans (State.rd_wr_bit hregs ⟨of_decide_eq_true rfl, rfl⟩ (by decide))

theorem State.ringPort_linkShown (s : State) (p q : Nat) : (s.linkShown p).ringPort q = s.ringPort q :=
  State.when_leaves (·.ringPort q) (a := (·.endReport s.ringMsg)) rfl

theorem linkMessage_yields (hs : s.sound = true) (hp : p < 2) (hwf : (Instr.linkMessageRx p t1 t2 t3 t4 frame hops rx tx).wf = true)
    (hawake : s.awake = true) (hfree : s.miscFenced (8 + p) = false) : Yields (.linkMessageRx p t1 t2 t3 t4 frame hops rx tx) s fun t =>
      (t.ringPort p).delays = ((((t4 - t1) - (t3 - t2)) / 2 + s.rdS (R.FT_RING_ASYM_ASYM p)) :: (s.ringPort p).delays).take 64 ∧
        (t.ringPort p).quiet = 0 ∧ t.rd (R.FT_RING_DELAY_LINK_DOWN p) = 0 := by
  have hkept : s.Arrived (s.exchangeRecorded p frame hops rx tx) := State.exchangeRecorded_arrived (State.sound_regs hs) hp
  have hlen : p < (s.exchangeRecorded p frame hops rx tx).time.ports.length := by
    rw [hkept.ports, (State.sound_kept hs).ports]
    exact hp
  have hasym : (s.exchangeRecorded p frame hops rx tx).rdS (R.FT_RING_ASYM_ASYM p) = s.rdS (R.FT_RING_ASYM_ASYM p) := by
    rw [State.rdS, State.rdS, hkept.rd _ (.inr (by simp only [R.FT_RING_ASYM_ASYM, A.FT_RING_ASYM, A.FT_TS_STATUS]; omega))]
  refine ⟨_, exec_linkMessageRx p t1 t2 t3 t4 frame hops rx tx s hwf, ?_⟩
  rw [State.when, if_pos (by simp [hawake, hfree]), State.linkMessage_eq, hasym, ← hkept.delays p]
  refine ⟨?_, ?_, State.linkShown_up hkept.regs.delayTaken⟩
  · rw [State.ringPort_linkShown, State.delayTaken, State.ringPort_updPort_self _ hlen]
  · rw [State.ringPort_linkShown, State.delayTaken, State.ringPort_updPort_self _ hlen]

end

end

end Sys2Proof.Machine
end

section
/-! SUPPORT. A domain that follows the ring takes the error of a beacon: its holdover ends, and it is set where the error is large, otherwise its rate and
its time are corrected (R294, R307). -/

set_option deprecated.oldSectionVars true

namespace Sys2Proof.Machine

open Sys2Proof

section
variable {s u v : State} {f : FieldAt} {d y target : Nat} {e : Int}

/-! ### What a domain counts by -/

/-- Domain d counts in `u` as in `s`: what waits for its next tick, its timer, its increment, its HOLDOVER. -/
structure State.SameClock (s u : State) (d : Nat) : Prop where
  regs : u.Regs
  td : u.time.td.length = 2
  set : (u.domain d).set = (s.domain d).set
  adj : (u.domain d).adj = (s.domain d).adj
  timer : (u.domain d).timer = (s.domain d).timer
  incr : u.incr d = s.incr d
  hold : u.rd (holdField d) = s.rd (holdField d)

theorem State.SameClock.refl (h : s.Regs) (htd : s.time.td.length = 2) : s.SameClock s d := ⟨h, htd, rfl, rfl, rfl, rfl, rfl⟩

theorem State.SameClock.trans (h : s.SameClock u d) (h' : u.SameClock v d) : s.SameClock v d :=
  ⟨h'.regs, h'.td, h'.set.trans h.set, h'.adj.trans h.adj, h'.timer.trans h.timer, h'.incr.trans h.incr, h'.hold.trans h.hold⟩

theorem State.SameClock.ite {c : Prop} [Decidable c] (hu : s.SameClock u d) (hv : s.SameClock v d) : s.SameClock (if c then u else v) d := by
  split
  · exact hu
  · exact hv

theorem State.incr_wr_of_ne {n : Nat} (h : s.Regs) (hlo : f.addr ≠ A.FT_TD_INCR_LO d) (hhi : f.addr ≠ A.FT_TD_INCR_HI d) :
    (s.wr f n).incr d = s.incr d := by
  rw [State.incr, State.rd_wr_addr _ f _ _ h.shared hhi.symm, State.rd_wr_addr _ f _ _ h.shared hlo.symm, State.incr]

/-- A bit of FT_STATUS that is not the domain's HOLDOVER. -/
theorem State.SameClock.wrStatus {n : Nat} (h : s.SameClock u d) (hd : d < 2) (hf : f.OneBit) (haddr : f.addr = A.FT_STATUS)
    (hne : (holdField d).lo ≠ f.lo) : s.SameClock (u.wr f n) d := by
  have hlo : f.addr ≠ A.FT_TD_INCR_LO d := by
    unfold A.FT_TD_INCR_LO
    rw [haddr, A.FT_STATUS]
    omega
  have hhi : f.addr ≠ A.FT_TD_INCR_HI d := by
    unfold A.FT_TD_INCR_HI
    rw [haddr, A.FT_STATUS]
    omega
  exact ⟨h.regs.wr, h.td, h.set, h.adj, h.timer, (State.incr_wr_of_ne h.regs hlo hhi).trans h.incr,
    (State.rd_wr_otherBit h.regs hf (holdField_oneBit d) hne).trans h.hold⟩

/-- Another domain, or entries that it does not count by. -/
theorem State.SameClock.updDomain {a : Domain → Domain} (h : s.SameClock u d) (hd : d < 2)
    (ha : d = y → ∀ x, (a x).set = x.set ∧ (a x).adj = x.adj ∧ (a x).timer = x.timer) : s.SameClock (u.updDomain y a) d := by
  have hread := State.domain_updDomain (s := u) (y := y) a (h.td ▸ hd)
  have hkept : ((u.updDomain y a).domain d).set = (u.domain d).set ∧ ((u.updDomain y a).domain d).adj = (u.domain d).adj ∧
      ((u.updDomain y a).domain d).timer = (u.domain d).timer := by
    rw [hread]
    split
    next hy => exact ha hy _
    next => exact ⟨rfl, rfl, rfl⟩
  obtain ⟨hset, hadj, htimer⟩ := hkept
  exact ⟨h.regs.setTime, (u.length_updDomain y a).trans h.td, hset.trans h.set, hadj.trans h.adj, htimer.trans h.timer, h.incr, h.hold⟩

theorem State.SameClock.endReport {m : FaultMsg} (h : s.SameClock u d) : s.SameClock (u.endReport m) d :=
  ⟨⟨h.regs.shared, h.regs.privA, h.regs.privB⟩, h.td, h.set, h.adj, h.timer, h.incr, h.hold⟩

theorem State.SameClock.ppsStep (h : s.SameClock u d) : s.SameClock (u.ppsStep y) d :=
  .ite ⟨h.regs.setTime, h.td, h.set, h.adj, h.timer, h.incr, h.hold⟩ h

theorem State.rd_hold_putIncr {n : Nat} (h : s.Regs) : (s.putIncr y n).rd (holdField d) = s.rd (holdField d) := by
  unfold State.putIncr
  rw [State.rd_wr_addr _ _ _ _ h.wr.shared, State.rd_wr_addr _ _ _ _ h.shared]
  all_goals rw [holdField_addr]; simp only [R.FT_TD_INCR_HI_INCR, R.FT_TD_INCR_LO_INCR, A.FT_TD_INCR_HI, A.FT_TD_INCR_LO, A.FT_STATUS]; omega

/-- The increment of another domain. -/
theorem State.SameClock.putIncr {n : Nat} (h : s.SameClock u d) (hne : d ≠ y) : s.SameClock (u.putIncr y n) d := by
  have hincr : (u.putIncr y n).incr d = u.incr d := by
    unfold State.putIncr
    rw [State.incr_wr_of_ne h.regs.wr, State.incr_wr_of_ne h.regs]
    all_goals simp only [R.FT_TD_INCR_HI_INCR, R.FT_TD_INCR_LO_INCR, A.FT_TD_INCR_HI, A.FT_TD_INCR_LO]; omega
  exact ⟨h.regs.wr.wr, h.td, h.set, h.adj, h.timer, hincr.trans h.incr, (State.rd_hold_putIncr h.regs).trans h.hold⟩

/-! ### The steps of `followRing` -/

/-- The correction: a set where the error is above 1 ms, otherwise a new rate and an adjust. -/
def State.ringTaken (s : State) (d : Nat) (e : Int) (target : Nat) : State :=
  if (1000000 * nsUnit : Nat) < e.natAbs then s.updDomain d fun x => { x with set := some target }
  else (s.putIncr d (clamp minIncr maxIncr ((s.incr d : Int) + roundDiv e 200000)).toNat).updDomain d fun x => { x with adj := x.adj + asr e 3 }

/-- The consecutive errors within 5 ns, up to 50. -/
def State.ringRunAfter (s : State) (d : Nat) (e : Int) : Nat := if e.natAbs ≤ 5 * nsUnit then min 50 ((s.domain d).ringRun + 1) else 0

/-- Those are counted for the lock, and PPS_OUT may follow a stepped scale. -/
def State.ringCounted (s : State) (d : Nat) (e : Int) : State :=
  (s.updDomain d fun x => { x with
    ringRun := s.ringRunAfter d e, ringDue := x.ringDue || (s.ringRunAfter d e == 50 && x.ringRun != 50) }).ppsStep d

/-- An error above 20 ns ends the lock. -/
def State.ringUnlocked (s : State) (d : Nat) (e : Int) : State :=
  if 20 * nsUnit < e.natAbs then (s.wr (ringField d) 0).updDomain d fun x => { x with ringDue := false } else s

theorem State.followRing_eq : s.followRing d e target = (((s.restartHold d).ringTaken d e target).ringCounted d e).ringUnlocked d e := rfl

theorem ringField_addr (d : Nat) : (ringField d).addr = A.FT_STATUS := by
  unfold ringField
  split <;> rfl

theorem holdField_ne_ringField (hd : d < 2) (hy : y < 2) : (holdField d).lo ≠ (ringField y).lo :=
  (by decide : ∀ d < 2, ∀ y < 2, (holdField d).lo ≠ (ringField y).lo) d hd y hy

theorem holdField_injective (hd : d < 2) (hy : y < 2) (hne : d ≠ y) : (holdField d).lo ≠ (holdField y).lo :=
  (by decide : ∀ d < 2, ∀ y < 2, d ≠ y → (holdField d).lo ≠ (holdField y).lo) d hd y hy hne

/-- No domain counts by the lock. -/
theorem State.SameClock.ringCounted (h : s.SameClock u d) (hd : d < 2) : s.SameClock (u.ringCounted y e) d :=
  State.SameClock.ppsStep (h.updDomain hd fun _ _ => ⟨rfl, rfl, rfl⟩)

theorem State.SameClock.ringUnlocked (h : s.SameClock u d) (hd : d < 2) (hy : y < 2) : s.SameClock (u.ringUnlocked y e) d :=
  .ite ((h.wrStatus hd (ringField_oneBit y) (ringField_addr y) (holdField_ne_ringField hd hy)).updDomain hd fun _ _ => ⟨rfl, rfl, rfl⟩) h

/-- What another domain takes is none of this one's. -/
theorem State.SameClock.followRing (h : s.SameClock u d) (hd : d < 2) (hy : y < 2) (hne : d ≠ y) : s.SameClock (u.followRing y e target) d := by
  have hreport : s.SameClock (u.when (u.on (holdField y) && u.sel == y) (·.endReport (holdMsg y))) d := .ite h.endReport h
  have hrestart : s.SameClock (u.restartHold y) d :=
    (hreport.wrStatus hd (holdField_oneBit y) (holdField_addr y) (holdField_injective hd hy hne)).updDomain hd fun hself => absurd hself hne
  have htaken : s.SameClock ((u.restartHold y).ringTaken y e target) d :=
    .ite (hrestart.updDomain hd fun hself => absurd hself hne) ((hrestart.putIncr hne).updDomain hd fun hself => absurd hself hne)
  rw [State.followRing_eq]
  exact (htaken.ringCounted hd).ringUnlocked hd hy

/-! ### The domain itself -/

theorem State.incr_putIncr {n : Nat} (h : s.Regs) (hn : n < 2 ^ 64) : (s.putIncr d n).incr d = n := by
  have hne : (R.FT_TD_INCR_HI_INCR d).addr ≠ (R.FT_TD_INCR_LO_INCR d).addr := by
    simp only [R.FT_TD_INCR_HI_INCR, R.FT_TD_INCR_LO_INCR, A.FT_TD_INCR_HI, A.FT_TD_INCR_LO]
    omega
  have hhi : (s.putIncr d n).rd (R.FT_TD_INCR_HI_INCR d) = n / 2 ^ 32 :=
    (State.rd_wr_addr _ _ _ _ h.wr.shared hne).trans (State.rd_wr_of_lt h (by show n / 2 ^ 32 < 2 ^ 32; omega))
  have hlo : (s.putIncr d n).rd (R.FT_TD_INCR_LO_INCR d) = n % 2 ^ 32 := State.rd_wr_of_lt h.wr (Nat.mod_lt _ (Nat.two_pow_pos 32))
  rw [State.incr, hhi, hlo]
  exact Nat.div_add_mod' n (2 ^ 32)

theorem clamp_le {lo hi i : Int} (h : lo ≤ hi) : clamp lo hi i ≤ hi := by
  unfold clamp
  split
  · exact h
  · split <;> omega

/-- What an error e leaves of domain d, from `s` to `t`, with the time `target` to set it to. -/
structure State.TakesError (s t : State) (d : Nat) (e : Int) (target : Nat) : Prop where
  hold : t.rd (holdField d) = 0
  timer : (t.domain d).timer = 0
  large : 1000000 * nsUnit < e.natAbs → (t.domain d).set = some target ∧ t.incr d = s.incr d
  small : e.natAbs ≤ 1000000 * nsUnit → (t.domain d).adj = (s.domain d).adj + asr e 3 ∧
    t.incr d = (clamp minIncr maxIncr ((s.incr d : Int) + roundDiv e 200000)).toNat

theorem State.TakesError.keep (h : s.TakesError u d e target) (hk : u.SameClock v d) : s.TakesError v d e target where
  hold := hk.hold.trans h.hold
  timer := hk.timer.trans h.timer
  large hlarge := (h.large hlarge).imp hk.set.trans hk.incr.trans
  small hsmall := (h.small hsmall).imp hk.adj.trans hk.incr.trans

/-- Holdover of domain d is over in `u`, and its increment and what it adjusts by are those of `s`. -/
structure State.Restarted (s u : State) (d : Nat) : Prop where
  regs : u.Regs
  td : u.time.td.length = 2
  hold : u.rd (holdField d) = 0
  timer : (u.domain d).timer = 0
  adj : (u.domain d).adj = (s.domain d).adj
  incr : u.incr d = s.incr d

theorem State.SameClock.restartHold (h : s.SameClock u d) (hd : d < 2) : s.Restarted (u.restartHold d) d := by
  have hv : s.SameClock (u.when (u.on (holdField d) && u.sel == d) (·.endReport (holdMsg d))) d := .ite h.endReport h
  unfold State.restartHold
  generalize u.when (u.on (holdField d) && u.sel == d) (·.endReport (holdMsg d)) = v at hv ⊢
  have hread := State.domain_updDomain_self (s := v.wr (holdField d) 0) (d := d) (fun x => { x with timer := 0, holdDue := false }) (hv.td ▸ hd)
  have hincr : (v.wr (holdField d) 0).incr d = v.incr d := by
    apply State.incr_wr_of_ne hv.regs
    all_goals rw [holdField_addr]; simp only [A.FT_TD_INCR_HI, A.FT_TD_INCR_LO, A.FT_STATUS]; omega
  exact ⟨hv.regs.wr.setTime, (State.length_updDomain _ _ _).trans hv.td, State.rd_wr_bit hv.regs (holdField_oneBit d) (by decide),
    congrArg Domain.timer hread, (congrArg Domain.adj hread).trans hv.adj, hincr.trans hv.incr⟩

theorem ringRate_lt (i : Int) : (clamp minIncr maxIncr i).toNat < 2 ^ 64 := by
  have hle : clamp minIncr maxIncr i ≤ maxIncr := clamp_le (by decide)
  have hmax : (maxIncr : Int) < 2 ^ 64 := by decide
  omega

theorem State.Restarted.ringTaken (h : s.Restarted u d) (hd : d < 2) : s.TakesError (u.ringTaken d e target) d e target := by
  unfold State.ringTaken
  rcases Nat.lt_or_ge (1000000 * nsUnit) e.natAbs with hlarge | hsmall
  · have hread := State.domain_updDomain_self (s := u) (d := d) (fun x => { x with set := some target }) (h.td ▸ hd)
    rw [if_pos hlarge]
    exact ⟨h.hold, (congrArg Domain.timer hread).trans h.timer, fun _ => ⟨congrArg Domain.set hread, h.incr⟩,
      fun hsmall => absurd hlarge (Nat.not_lt.2 hsmall)⟩
  · rw [if_neg (Nat.not_lt.2 hsmall), h.incr]
    have hfits := ringRate_lt ((s.incr d : Int) + roundDiv e 200000)
    generalize hrate : (clamp minIncr maxIncr ((s.incr d : Int) + roundDiv e 200000)).toNat = n at hfits
    have hread := State.domain_updDomain_self (s := u.putIncr d n) (d := d) (fun x => { x with adj := x.adj + asr e 3 }) (h.td ▸ hd)
    exact ⟨(State.rd_hold_putIncr h.regs).trans h.hold, (congrArg Domain.timer hread).trans h.timer,
      fun hlarge => absurd hlarge (Nat.not_lt.2 hsmall), fun _ => ⟨(congrArg Domain.adj hread).trans (congrArg (· + asr e 3) h.adj),
        (State.incr_putIncr h.regs hfits).trans hrate.symm⟩⟩

theorem State.Restarted.ringTaken_shape (h : s.Restarted u d) :
    (u.ringTaken d e target).Regs ∧ (u.ringTaken d e target).time.td.length = 2 := by
  unfold State.ringTaken
  split
  · exact ⟨h.regs.setTime, (State.length_updDomain _ _ _).trans h.td⟩
  · exact ⟨h.regs.wr.wr.setTime, (State.length_updDomain _ _ _).trans h.td⟩

theorem State.SameClock.takesError (h : s.SameClock u d) (hd : d < 2) : s.TakesError (u.followRing d e target) d e target ∧
    (u.followRing d e target).SameClock (u.followRing d e target) d := by
  have hrestarted := h.restartHold hd
  obtain ⟨hregs, htd⟩ := hrestarted.ringTaken_shape (e := e) (target := target)
  have hcounted : ((u.restartHold d).ringTaken d e target).SameClock (u.followRing d e target) d :=
    ((State.SameClock.refl hregs htd).ringCounted hd).ringUnlocked hd hd
  exact ⟨(hrestarted.ringTaken hd).keep hcounted, .refl hcounted.regs hcounted.td⟩

/-! ### The domains one after the other -/

section
variable {l : List Nat} {err : Nat → Int}

theorem State.SameClock.over_followRing (h : s.SameClock u d) (hd : d < 2) (hl : ∀ y ∈ l, y < 2) (hnot : d ∉ l) :
    s.SameClock (u.over l fun u y => u.followRing y (err y) target) d :=
  List.foldlRecOn (motive := fun v => s.SameClock v d) l _ h fun _ hu y hy => hu.followRing hd (hl y hy) fun hdy => hnot (hdy ▸ hy)

theorem State.SameClock.over_takesError (h : s.SameClock u d) (hd : d < 2) (hl : ∀ y ∈ l, y < 2) (hnodup : l.Nodup) (hmem : d ∈ l) :
    s.TakesError (u.over l fun u y => u.followRing y (err y) target) d (err d) target := by
  induction l generalizing u with
  | nil => cases hmem
  | cons y l ih =>
    obtain ⟨hnot, hrest⟩ := List.nodup_cons.1 hnodup
    have hl' : ∀ x ∈ l, x < 2 := fun x hx => hl x (List.mem_cons_of_mem _ hx)
    by_cases hdy : d = y
    · subst hdy
      obtain ⟨htakes, hself⟩ := h.takesError (e := err d) (target := target) hd
      exact htakes.keep (hself.over_followRing hd hl' hnot)
    · exact ih (h.followRing hd (hl y List.mem_cons_self) hdy) hl' hrest ((List.mem_cons.1 hmem).resolve_left hdy)

end

/-! ### The ports -/

theorem State.ports_ringTaken (s : State) (d : Nat) (e : Int) (target : Nat) : (s.ringTaken d e target).time.ports = s.time.ports := by
  unfold State.ringTaken
  split <;> rfl

theorem State.ports_ppsStep (s : State) (k : Nat) : (s.ppsStep k).time.ports = s.time.ports := by
  unfold State.ppsStep
  split <;> rfl

theorem State.ports_ringCounted (s : State) (d : Nat) (e : Int) : (s.ringCounted d e).time.ports = s.time.ports := State.ports_ppsStep _ d

theorem State.ports_ringUnlocked (s : State) (d : Nat) (e : Int) : (s.ringUnlocked d e).time.ports = s.time.ports := by
  unfold State.ringUnlocked
  split <;> rfl

/-- What a domain takes is on no port. -/
theorem State.ports_followRing (s : State) (d : Nat) (e : Int) (target : Nat) : (s.followRing d e target).time.ports = s.time.ports := by
  have hrestart : (s.restartHold d).time.ports = s.time.ports := State.when_leaves (·.time.ports) (a := (·.endReport (holdMsg d))) rfl
  rw [State.followRing_eq, State.ports_ringUnlocked, State.ports_ringCounted, State.ports_ringTaken, hrestart]

theorem State.ports_over_followRing (s : State) (l : List Nat) (err : Nat → Int) (target : Nat) :
    (s.over l fun u d => u.followRing d (err d) target).time.ports = s.time.ports := by
  unfold State.over
  exact List.foldlRecOn (motive := fun u : State => u.time.ports = s.time.ports) l _ rfl
    fun u hu d _ => (u.ports_followRing d _ _).trans hu

end

end Sys2Proof.Machine
end

section
/-! SUPPORT. A beacon is noted, sent on, and taken by the domains that follow the ring (R305, R307). -/

set_option deprecated.oldSectionVars true

namespace Sys2Proof.Machine

open Sys2Proof

section
variable {s u v : State} {d p : Nat} {b : Beacon} {rx tx : Stamp} {rxTd : List Stamp} {residence : Int}

/-! ### What an arrival leaves to read -/

theorem State.Arrived.chainPos (h : s.Arrived u) : u.chainPos = s.chainPos := h.rd _ (.inl (by decide))

theorem State.Arrived.linkDelay (h : s.Arrived u) (q : Nat) : u.linkDelay q = s.linkDelay q := by rw [State.linkDelay, h.delays, State.linkDelay]

theorem State.Arrived.onRing (h : s.Arrived u) (hd : d < 2) : u.onRing d = s.onRing d := by
  have hsource : u.rd (R.FT_TD_CFG_SOURCE d) = s.rd (R.FT_TD_CFG_SOURCE d) :=
    h.rd _ (.inl (by simp only [R.FT_TD_CFG_SOURCE, A.FT_TD_CFG, A.FT_TS_STATUS]; omega))
  rw [State.onRing, State.on, hsource, h.chainPos, State.onRing, State.on]

theorem State.Arrived.sameClock (h : s.Arrived u) (htd : s.time.td.length = 2) (hd : d < 2) : s.SameClock u d := by
  have hdomain : u.domain d = s.domain d := congrArg (·.getD d {}) h.td
  have hhi : u.rd (R.FT_TD_INCR_HI_INCR d) = s.rd (R.FT_TD_INCR_HI_INCR d) :=
    h.rd _ (.inl (by simp only [R.FT_TD_INCR_HI_INCR, A.FT_TD_INCR_HI, A.FT_TS_STATUS]; omega))
  have hlo : u.rd (R.FT_TD_INCR_LO_INCR d) = s.rd (R.FT_TD_INCR_LO_INCR d) :=
    h.rd _ (.inl (by simp only [R.FT_TD_INCR_LO_INCR, A.FT_TD_INCR_LO, A.FT_TS_STATUS]; omega))
  refine ⟨h.regs, (congrArg _ h.td).trans htd, congrArg _ hdomain, congrArg _ hdomain, congrArg _ hdomain, ?_, h.rd _ (.inl ?_)⟩
  · rw [State.incr, hhi, hlo, State.incr]
  · rw [holdField_addr]
    decide

/-! ### The steps of `beaconRx` -/

/-- Words 3 to 5 of a beacon's record. -/
def beaconWords (b : Beacon) (hops : Nat) : List Nat := [hops % 16 * 2 ^ 28, b.frame % 2 ^ 32, 0]

/-- Its record, and the count of beacons on the west port. -/
def State.beaconNoted (s : State) (p : Nat) (b : Beacon) (rx : Stamp) : State :=
  let s := if s.keeps (8 + p) true then s.keepRecord (8 + p) 3 0 rx (beaconWords b b.hops) else s
  if p = 0 then s.setTime fun x => { x with
    westMissed := 0, westGood := min 50 (s.time.westGood + 1)
    portDue := s.time.portDue || (s.time.westGood + 1 == 50 && s.on R.FT_STATUS_RING_PORT) }
  else s

/-- The beacon as it is sent on the other port. -/
def State.sendBeacon (s : State) (p : Nat) (b : Beacon) (residence : Int) : State :=
  s.updPort (1 - p) fun x => { x with sent := [(b.frame, stampUnits b.time, b.hops + 1, b.corr + s.linkDelay p + residence)] }

/-- It is sent on, unless it has come too far, with the record of that. -/
def State.beaconSentOn (s : State) (p : Nat) (b : Beacon) (residence : Int) (tx : Stamp) : State :=
  if b.hops + 1 ≤ 15 then
    let s := s.sendBeacon p b residence
    if s.keeps (9 - p) true then s.keepRecord (9 - p) 3 1 tx (beaconWords b (b.hops + 1)) else s
  else s

/-- The time that a beacon gives where it arrives. -/
def State.beaconTarget (s : State) (p : Nat) (b : Beacon) : Nat := ((stampUnits b.time : Int) + (b.corr + s.linkDelay p) * 2 ^ 16).toNat

/-- The error of a domain against the time that a beacon gives. -/
def ringError (rxTd : List Stamp) (target d : Nat) : Int := Int.ofNat target - (stampUnits (rxTd.getD d ⟨0, 0, 0⟩) : Int)

/-- The domains that follow the ring take the beacon of the port that is followed. -/
def State.beaconFollowed (s : State) (p : Nat) (b : Beacon) (rxTd : List Stamp) : State :=
  if s.rd R.FT_STATUS_RING_PORT ≠ p then s
  else s.over ([0, 1].filter s.onRing) fun u d => u.followRing d (ringError rxTd (s.beaconTarget p b) d) (s.beaconTarget p b)

theorem State.beaconRx_eq (hpos : (s.beaconNoted p b rx).chainPos ≠ 0) : s.beaconRx p b rx rxTd residence tx =
    ((s.beaconNoted p b rx).beaconSentOn p b residence tx).beaconFollowed p b rxTd := if_neg hpos

theorem State.beaconNoted_arrived (h : s.Regs) (hp : p < 2) : s.Arrived (s.beaconNoted p b rx) := by
  have hkept := State.Arrived.refl h
  have hrecorded : s.Arrived (if s.keeps (8 + p) true then s.keepRecord (8 + p) 3 0 rx (beaconWords b b.hops) else s) :=
    .ite (hkept.keepRecord (by omega)) hkept
  exact .ite (hrecorded.setTime rfl rfl) hrecorded

theorem State.Arrived.beaconSentOn (h : s.Arrived u) (hp : p < 2) : s.Arrived (u.beaconSentOn p b residence tx) := by
  have hsent : s.Arrived (u.sendBeacon p b residence) := h.updPort fun _ => rfl
  exact .ite (.ite (hsent.keepRecord (by omega)) hsent) h

/-- The record of the sending is no beacon sent. -/
theorem State.sent_beaconSentOn (hports : s.time.ports.length = 2) (hhops : b.hops + 1 ≤ 15) :
    ((s.beaconSentOn p b residence tx).ringPort (1 - p)).sent =
      [(b.frame, stampUnits b.time, b.hops + 1, b.corr + s.linkDelay p + residence)] := by
  have hsent : ((s.sendBeacon p b residence).ringPort (1 - p)).sent =
      [(b.frame, stampUnits b.time, b.hops + 1, b.corr + s.linkDelay p + residence)] :=
    congrArg RingPort.sent (State.ringPort_updPort_self _ (hports ▸ by omega))
  have hrecord : ((s.sendBeacon p b residence).keepRecord (9 - p) 3 1 tx (beaconWords b (b.hops + 1))).ringPort (1 - p) =
      (s.sendBeacon p b residence).ringPort (1 - p) := by
    obtain ⟨l, htime⟩ := (s.sendBeacon p b residence).keepRecord_time (9 - p) 3 1 tx (beaconWords b (b.hops + 1))
    rw [State.ringPort, htime, State.ringPort]
  rw [State.beaconSentOn, if_pos hhops, ← hsent]
  exact congrArg RingPort.sent (State.when_leaves (·.ringPort (1 - p)) (a := (·.keepRecord (9 - p) 3 1 tx (beaconWords b (b.hops + 1)))) hrecord)

/-! ### The row -/

theorem State.ringPort_beaconFollowed (s : State) (p q : Nat) (b : Beacon) (rxTd : List Stamp) :
    (s.beaconFollowed p b rxTd).ringPort q = s.ringPort q := by
  have hports : (s.beaconFollowed p b rxTd).time.ports = s.time.ports := by
    by_cases hport : s.rd R.FT_STATUS_RING_PORT = p
    · rw [State.beaconFollowed, if_neg (not_not.2 hport), State.ports_over_followRing]
    · rw [State.beaconFollowed, if_pos hport]
  rw [State.ringPort, hports, State.ringPort]

/-- A domain that follows the ring takes the error of a beacon on the port that is followed. -/
theorem State.Arrived.beaconFollowed (h : s.Arrived u) (htd : s.time.td.length = 2) (hd : d < 2) (hring : s.onRing d = true)
    (hport : s.rd R.FT_STATUS_RING_PORT = p) :
    s.TakesError (u.beaconFollowed p b rxTd) d (ringError rxTd (s.beaconTarget p b) d) (s.beaconTarget p b) := by
  have hfollowed : u.rd R.FT_STATUS_RING_PORT = p := (h.rd _ (.inl (by decide))).trans hport
  have htarget : u.beaconTarget p b = s.beaconTarget p b := by rw [State.beaconTarget, h.linkDelay, State.beaconTarget]
  have hlt : ∀ y ∈ [0, 1].filter u.onRing, y < 2 := fun y hy => by
    have hy' := List.mem_of_mem_filter hy
    simp only [List.mem_cons, List.not_mem_nil, or_false] at hy'
    omega
  have hmem : d ∈ [0, 1].filter u.onRing := List.mem_filter.2 ⟨by simp only [List.mem_cons, List.not_mem_nil, or_false]; omega, (h.onRing hd).trans hring⟩
  rw [State.beaconFollowed, if_neg (not_not.2 hfollowed), htarget]
  exact (h.sameClock htd hd).over_takesError (err := ringError rxTd (s.beaconTarget p b)) hd hlt ((by decide : [0, 1].Nodup).filter _) hmem

theorem State.sent_beaconRx (hs : s.sound = true) (hp : p < 2) (hpos : s.chainPos ≠ 0) (hhops : b.hops + 1 ≤ 15) :
    ((s.beaconRx p b rx rxTd residence tx).ringPort (1 - p)).sent =
      [(b.frame, stampUnits b.time, b.hops + 1, b.corr + s.linkDelay p + residence)] := by
  have hnoted : s.Arrived (s.beaconNoted p b rx) := State.beaconNoted_arrived (State.sound_regs hs) hp
  have hports : (s.beaconNoted p b rx).time.ports.length = 2 := hnoted.ports.trans (State.sound_kept hs).ports
  rw [State.beaconRx_eq (hnoted.chainPos.trans_ne hpos), State.ringPort_beaconFollowed, State.sent_beaconSentOn hports hhops, hnoted.linkDelay]

theorem State.beaconRx_takesError (hs : s.sound = true) (hp : p < 2) (hpos : s.chainPos ≠ 0) (hd : d < 2) (hring : s.onRing d = true)
    (hport : s.rd R.FT_STATUS_RING_PORT = p) :
    s.TakesError (s.beaconRx p b rx rxTd residence tx) d (ringError rxTd (s.beaconTarget p b) d) (s.beaconTarget p b) := by
  have hnoted : s.Arrived (s.beaconNoted p b rx) := State.beaconNoted_arrived (State.sound_regs hs) hp
  rw [State.beaconRx_eq (hnoted.chainPos.trans_ne hpos)]
  exact (hnoted.beaconSentOn hp).beaconFollowed (State.sound_kept hs).td hd hring hport

theorem exec_beaconRx_open {rx0 rx1 : Stamp} (hwf : (Instr.beaconRx p b rx rx0 rx1 residence tx).wf = true) (hawake : s.awake = true)
    (hfree : s.miscFenced (8 + p) = false) :
    exec (.beaconRx p b rx rx0 rx1 residence tx) s = .next (s.beaconRx p b rx [rx0, rx1] residence tx) := by
  rw [exec_beaconRx p b rx rx0 rx1 residence tx s hwf, State.when, if_pos (by simp [hawake, hfree])]

theorem beaconRx_of_closed {rx0 rx1 : Stamp} (hwf : (Instr.beaconRx p b rx rx0 rx1 residence tx).wf = true)
    (hclosed : s.awake = false ∨ s.miscFenced (8 + p) = true) : exec (.beaconRx p b rx rx0 rx1 residence tx) s = .next s := by
  have hnot : ¬(s.awake && !s.miscFenced (8 + p)) = true := by
    rcases hclosed with hasleep | hfenced
    · simp [hasleep]
    · simp [hfenced]
  rw [exec_beaconRx p b rx rx0 rx1 residence tx s hwf, State.when, if_neg hnot]

end

/-- Settles O47. That the mean link delay, rounded down, is what a beacon gathers, and the domain that a RING_LOST message names, are the reading of
log entry 63. -/
theorem ringTime : Obligations.RingTime := by
  unfold Obligations.RingTime
  intro s p hs hp
  refine ⟨fun r k hwf howner hmay hnone => tsPop_yields hs hwf howner hmay hnone,
    fun b rx rx0 rx1 residence tx hwf hawake hfree hpos => ⟨_, exec_beaconRx_open hwf hawake hfree, State.sent_beaconRx hs hp hpos,
      fun d hd hring hport => ?_⟩,
    fun _ _ _ _ _ _ hwf hclosed => beaconRx_of_closed hwf hclosed, beaconSwitch_yields hs, beaconSwitch_of_not_due,
    fun _ _ _ _ _ _ _ _ hwf hawake hfree => linkMessage_yields hs hp hwf hawake hfree, ringLost_yields hs hp, ringLost_of_not_due hp,
    ringLock_yields hs hp, ringLock_of_not_due hp, apsinDown_yields hp⟩
  have hrx : [rx0, rx1].getD d ⟨0, 0, 0⟩ = if d = 0 then rx0 else rx1 := by
    obtain rfl | rfl : d = 0 ∨ d = 1 := by omega
    · rfl
    · rfl
  obtain ⟨hhold, htimer, hlarge, hsmall⟩ := State.beaconRx_takesError (b := b) (rx := rx) (rxTd := [rx0, rx1]) (residence := residence) (tx := tx)
    hs hp hpos hd hring hport
  rw [ringError, hrx] at hlarge hsmall
  exact ⟨hhold, htimer, hlarge, hsmall⟩

end Sys2Proof.Machine
end

section
/-! TESTS. A block that follows the ring, and what the statement about time on the ring says of each of its commands. -/

set_option deprecated.oldSectionVars true

namespace Sys2Proof.Machine

open Sys2Proof

/-- An awake block at chain position 1 whose domain 0 follows the ring, on port 0. Port 0 has seen two delays, of mean 3 rounded down, and port 1 as many
as are kept, with an asymmetry of −1. A loss, the lock of domain 0 and the other port are due. Source 10 holds two records. -/
def ringBlock : State :=
  { (((runningBlock.wr R.BT_STATUS_CHAIN_POS 1).wr (R.FT_TD_CFG_SOURCE 0) 1).wr (R.FT_RING_ASYM_ASYM 1) (2 ^ 32 - 1)).wr R.FT_STATUS_HOLDOVER0 1 with
    power := .run
    time := { runningBlock.time with
      td := [{ timer := 7, ringDue := true }, {}]
      ports := [{ delays := [3, 4], lostDue := true }, { delays := List.replicate 64 0, quiet := 3 }]
      portDue := true
      sources := List.replicate 10 {} ++ [{ queue := [[1, 2, 3, 4, 5, 6], [7, 8, 9, 10, 11, 12]] }] } }

theorem ringBlock_sound : ringBlock.sound = true := by decide

/-- The owner takes the oldest of two records, and 0 where there is none. -/
theorem ringBlock_tsPop :
    (Yields (.tsPop (.principal 30) 10) ringBlock fun t => (t.tsSource 10).queue = [[7, 8, 9, 10, 11, 12]] ∧ (t.tsSource 10).held = [1, 2, 3, 4, 5, 6]) ∧
    Yields (.tsPop (.principal 30) 0) ringBlock fun t => (t.tsSource 0).queue = [] ∧ (t.tsSource 0).held = [0, 0, 0, 0, 0, 0] := by
  obtain ⟨pop, -⟩ := ringTime ringBlock 0 ringBlock_sound (by decide)
  exact ⟨pop (.principal 30) 10 (by decide) (by decide) (by decide) (by decide), pop (.principal 30) 0 (by decide) (by decide) (by decide) (by decide)⟩

/-- A beacon of second 1 that has come `hops` links; its correction and the delay of port 0 come to 0. -/
def secondBeacon (hops : Nat) : Beacon := ⟨7, ⟨1, 0, 0⟩, hops, -3⟩

/-- The last hop; the error is 1 ms, the largest that corrects the rate and the time. -/
theorem ringBlock_smallError : Yields (.beaconRx 0 (secondBeacon 14) ⟨1, 0, 0⟩ ⟨0, 999000000, 0⟩ ⟨0, 0, 0⟩ (-5) ⟨1, 0, 0⟩) ringBlock fun t =>
    (t.ringPort 1).sent = [(7, secUnit, 15, -5)] ∧ t.rd R.FT_STATUS_HOLDOVER0 = 0 ∧ (t.domain 0).timer = 0 ∧
      (t.domain 0).adj = 125000 * nsUnit ∧ t.incr 0 = maxIncr := by
  obtain ⟨-, beacon, -⟩ := ringTime ringBlock 0 ringBlock_sound (by decide)
  refine (beacon (secondBeacon 14) ⟨1, 0, 0⟩ ⟨0, 999000000, 0⟩ ⟨0, 0, 0⟩ (-5) ⟨1, 0, 0⟩ (by decide) (by decide) (by decide) (by decide)).imp ?_
  intro t ⟨hsent, htaken⟩
  obtain ⟨hhold, htimer, -, hsmall⟩ := htaken 0 (by decide) (by decide) (by decide)
  obtain ⟨hadj, hincr⟩ := hsmall (by decide)
  exact ⟨(hsent (by decide)).trans (by decide), hhold, htimer, hadj.trans (by decide), hincr.trans (by decide)⟩

/-- The error is larger by 2⁻¹⁶ ns: the domain is set, and its rate stays. -/
theorem ringBlock_largeError : Yields (.beaconRx 0 (secondBeacon 15) ⟨1, 0, 0⟩ ⟨0, 998999999, 65535⟩ ⟨0, 0, 0⟩ 0 ⟨1, 0, 0⟩) ringBlock fun t =>
    (t.domain 0).set = some secUnit ∧ t.incr 0 = ringBlock.incr 0 := by
  obtain ⟨-, beacon, -⟩ := ringTime ringBlock 0 ringBlock_sound (by decide)
  refine (beacon (secondBeacon 15) ⟨1, 0, 0⟩ ⟨0, 998999999, 65535⟩ ⟨0, 0, 0⟩ 0 ⟨1, 0, 0⟩ (by decide) (by decide) (by decide) (by decide)).imp ?_
  intro t ⟨_, htaken⟩
  obtain ⟨-, -, hlarge, -⟩ := htaken 0 (by decide) (by decide) (by decide)
  obtain ⟨hset, hincr⟩ := hlarge (by decide)
  exact ⟨hset.trans (by decide), hincr⟩

/-- An exchange on port 1: the half of 11 less 0, rounded down, and the asymmetry stand before the 63 newest delays. -/
theorem ringBlock_linkMessage : Yields (.linkMessageRx 1 0 5 5 11 0 15 ⟨0, 0, 0⟩ ⟨0, 0, 0⟩) ringBlock fun t =>
    (t.ringPort 1).delays = 4 :: List.replicate 63 0 ∧ (t.ringPort 1).quiet = 0 ∧ t.rd (R.FT_RING_DELAY_LINK_DOWN 1) = 0 := by
  obtain ⟨-, -, -, -, -, exchange, -⟩ := ringTime ringBlock 1 ringBlock_sound (by decide)
  exact (exchange 0 5 5 11 0 15 ⟨0, 0, 0⟩ ⟨0, 0, 0⟩ (by decide) (by decide) (by decide)).imp fun _ ⟨hdelays, hquiet, hup⟩ =>
    ⟨hdelays.trans (by decide), hquiet, hup⟩

/-- What is due shows; the message of the loss names domain 0. -/
theorem ringBlock_conditions :
    (Yields .beaconPortSwitch ringBlock fun t => t.rd R.FT_STATUS_RING_PORT = 1) ∧
    (Yields (.ringLost 0) ringBlock fun t => t.rd (R.FT_RING_DELAY_LINK_DOWN 0) = 1 ∧ t.faults.incoming = [{ cls := 4, inst := 0, kind := 5, addr := 0 }]) ∧
    (Yields (.ringLock 0) ringBlock fun t => t.rd R.FT_STATUS_RING_LOCK0 = 1 ∧ t.rd R.FT_STATUS_VALID0 = 1) ∧
    Yields (.apsinLinkDown 0) ringBlock fun t => t.faults.incoming = [{ cls := 3, inst := 0, kind := 1 }] := by
  obtain ⟨-, -, -, port, -, -, lost, -, lock, -, down⟩ := ringTime ringBlock 0 ringBlock_sound (by decide)
  exact ⟨(port (by decide)).imp fun _ ⟨hport, _⟩ => hport.trans (by decide),
    (lost (by decide)).imp fun _ ⟨hshown, _, hfaults⟩ => ⟨hshown, (congrArg _ hfaults).trans (by decide)⟩,
    (lock (by decide)).imp fun _ ⟨hlock, hvalid, _⟩ => ⟨hlock, hvalid⟩,
    (down (by decide)).imp fun _ hfaults => congrArg _ hfaults⟩

/-- Nothing of it is due on the running block, which is not awake. -/
theorem runningBlock_ringTime : exec .beaconPortSwitch runningBlock = .next runningBlock ∧ exec (.ringLost 1) runningBlock = .next runningBlock ∧
    exec (.ringLock 1) runningBlock = .next runningBlock ∧
    exec (.beaconRx 1 (secondBeacon 0) ⟨0, 0, 0⟩ ⟨0, 0, 0⟩ ⟨0, 0, 0⟩ 0 ⟨0, 0, 0⟩) runningBlock = .next runningBlock := by
  obtain ⟨-, -, closed, -, port, -, -, lost, -, lock, -⟩ := ringTime runningBlock 1 runningBlock_sound (by decide)
  exact ⟨port (by decide), lost (by decide), lock (by decide), closed _ _ _ _ _ _ (by decide) (.inl (by decide))⟩

end Sys2Proof.Machine
end

section
/-! SUPPORT. What every step keeps and leaves: the invariants, PROVISIONED and the floor, the parts that a command may not change, the queue (R318,
R339, R422, R433, R435, R436). From here on a theorem under `Elab.async false` waits for the proofs before it, which bounds the memory of the joined
compile, and helper definitions are noncomputable, as no code is needed for them. -/

namespace Sys2Proof.Machine

open Sys2Proof

/-- A step that answers a next state runs the command at the front of the queue, or idles. -/
theorem step_cases {s t : State} (h : step s = .next t) :
    (s.pending = [] ∧ t = s) ∨ ∃ c rest, s.pending = c :: rest ∧ exec c (s.withPending rest) = .next t := by
  unfold step at h
  split at h
  · next hnone => exact .inl ⟨hnone, (Host.Outcome.next.inj h).symm⟩
  · next c rest hsome => exact .inr ⟨c, rest, hsome, h⟩

/-- A step of a sound state keeps the invariants, PROVISIONED and the floor. -/
theorem step_kept {s t : State} (hs : s.sound = true) (h : step s = .next t) :
    Kept { Keep.of s with queue := t.pending } t := by
  obtain ⟨-, rfl⟩ | ⟨c, rest, -, he⟩ := step_cases h
  · exact State.sound_kept hs
  · exact { exec_sound (State.sound_withPending hs) he with queue := rfl }

/-- Settles O1: `step` is defined by this (log entry 1). -/
theorem frontCommandRuns : Obligations.FrontCommandRuns := by
  unfold Obligations.FrontCommandRuns
  refine ⟨fun c rest s => rfl, fun s hnone => ?_⟩
  unfold step
  rw [hnone]

/-- Settles O3: every map is empty, every list of units is a list of defaults. -/
theorem resetIsSound : Obligations.ResetIsSound := by
  unfold Obligations.ResetIsSound
  decide +kernel

/-- Settles O4: every command keeps the invariants. -/
theorem stepKeepsSound : Obligations.StepKeepsSound := by
  unfold Obligations.StepKeepsSound
  exact fun s t hs h => (step_kept hs h).sound

/-- Settles O5: every command keeps PROVISIONED and lowers no floor, resets included. -/
theorem provisionedAndFloorStay : Obligations.ProvisionedAndFloorStay := by
  unfold Obligations.ProvisionedAndFloorStay
  exact fun s t hs h => ⟨(step_kept hs h).provisioned, (step_kept hs h).floor⟩

/-- Settles O8, command by command. -/
theorem commandsLeaveTheRest : Obligations.CommandsLeaveTheRest := by
  unfold Obligations.CommandsLeaveTheRest
  exact fun i s t h p hp => exec_frame h p hp

/-- An outcome that the operands' fit w decides. -/
noncomputable def GatedBy (w : Bool) (o : Host.Outcome State Fault Refusal) : Prop := ∃ n t, o = gated w n t

set_option Elab.async false in
theorem gatedBy_gated (w : Bool) (n : String) (t : State) : GatedBy w (gated w n t) := ⟨n, t, rfl⟩

theorem exec_gatedBy (i : Instr) (s : State) : GatedBy i.wf (exec i s) := by
  cases i
  -- every operand of these fits, whatever the name
  case offerInstant | admissionPoint | sbRead | sbLastStatus | sbSummary | sbAlertCause | sbFaultPop | alertResponse | incrementalPost |
    fullRoutingPost | deferredRoutingStart | rearrangeExpired | yellowExpired | commitFix | commitDone | tokenLost | sweepPoint | sweepEnd |
    alignmentGapEnd | autoSwitch | fclkLock | ppsGap | ppsOutEdge | beaconPortSwitch | mtpWriteDone | protectApply | protectExpire |
    divergenceDecision | centralAuditEnd | planeFence | drillSwap | drillDue | lockstep | returnEnd | autoReturn | heartbeat | coreRestart |
    watchdog | trngHealth | analogTrip | tripHalt | domainStop | wakeNLow | clockAlarm | reset | loadInRise | firstPassTimeout | secondPass |
    runEntry | locked | passRequestRx | passRequestRetry | pmErase | rebootReset | modeApply | loadInFall | deviceReady | refclkLoss =>
    exact gatedBy_gated _ "" _
  all_goals exact gatedBy_gated _ _ _

/-- The operands decide whether a command is carried out or refused. -/
theorem exec_gated (i : Instr) (s : State) :
    (i.wf = true → ∃ t, exec i s = .next t) ∧ (i.wf = false → ∃ n, exec i s = .refused (.badOperand n)) := by
  obtain ⟨n, t, he⟩ := exec_gatedBy i s
  rw [he]
  exact ⟨fun h => ⟨t, gated_next h⟩, fun h => ⟨n, gated_bad h⟩⟩

theorem mayChange_contains_pending (i : Instr) : (mayChange i).contains .pending = false := by cases i <;> rfl

theorem not_mem_mayChange_pending (i : Instr) : Part.pending ∉ mayChange i := by
  simpa using mayChange_contains_pending i

/-- Settles O2: the operands decide, and the queue is in no list of `mayChange`. -/
theorem everyFittingCommandIsCarriedOut : Obligations.EveryFittingCommandIsCarriedOut := by
  unfold Obligations.EveryFittingCommandIsCarriedOut
  intro i s
  obtain ⟨carried, refused⟩ := exec_gated i s
  refine ⟨fun h => ?_, refused⟩
  obtain ⟨t, he⟩ := carried h
  exact ⟨t, he, exec_frame he .pending (not_mem_mayChange_pending i)⟩

/-- The fabric description and the image stay with a command outside `setsImage`. -/
theorem exec_image_of_not_setsImage {i : Instr} {s t : State} (hs : s.sound = true) (hi : setsImage i = false) (he : exec i s = .next t) :
    t.fabric = s.fabric ∧ t.imageApplied = s.imageApplied :=
  have h := exec_still (κ := { Keep.of s with fabric := fun x => x = s.fabric, image := fun x => x = s.imageApplied })
    { State.sound_kept hs with fabric := rfl, image := rfl } (fun _ _ => trivial) (fun _ _ => trivial) (fun h => absurd h (by simp [hi]))
    (fun h => absurd h (by simp [hi])) (fun _ _ => trivial) he
  ⟨h.fabric, h.image⟩

/-- The NOR stays with a command outside `writesNor`. -/
theorem exec_nor_of_not_writesNor {i : Instr} {s t : State} (hs : s.sound = true) (hi : writesNor i = false) (he : exec i s = .next t) :
    t.nor = s.nor :=
  (exec_still (κ := { Keep.of s with norIs := fun x => x = s.nor }) { State.sound_kept hs with norIs := rfl } (fun _ _ => trivial)
    (fun _ _ => trivial) (fun _ _ => trivial) (fun _ _ => trivial) (fun h => absurd h (by simp [hi])) he).norIs

/-- Settles O11. -/
theorem imageAndNorStay : Obligations.ImageAndNorStay := by
  unfold Obligations.ImageAndNorStay
  exact fun i s t hs he => ⟨fun hi => exec_image_of_not_setsImage hs hi he, fun hi => exec_nor_of_not_writesNor hs hi he⟩

end Sys2Proof.Machine
end

section
/-! TESTS. A step of a running block whose provisioned floor stands, and an ill-formed command at the front of the queue. -/

namespace Sys2Proof.Machine

open Sys2Proof

/-- A running block with PROVISIONED set and floor 7, whose queue resets the device and then sees a lane that it does not have. -/
noncomputable def queuedBlock : State :=
  { runningBlock with
    prot := { runningBlock.prot with provisioned := true, floor := 7 }
    pending := [.reset true true, .laneLinkUp 8] }

theorem queuedBlock_reset : ∃ t, step queuedBlock = .next t ∧ t.sound = true ∧ t.prot.provisioned = true ∧ 7 ≤ t.prot.floor ∧ t.pending = [.laneLinkUp 8] := by
  have hs : queuedBlock.sound = true := by decide +kernel
  obtain ⟨t, he, hqueue⟩ := (everyFittingCommandIsCarriedOut (.reset true true) (queuedBlock.withPending [.laneLinkUp 8])).1 rfl
  have hstep : step queuedBlock = .next t := he
  obtain ⟨hprovisioned, hfloor⟩ := provisionedAndFloorStay queuedBlock t hs hstep
  exact ⟨t, hstep, stepKeepsSound queuedBlock t hs hstep, hprovisioned rfl, hfloor, hqueue⟩

theorem queuedBlock_refused : ∃ n, step (queuedBlock.withPending [.laneLinkUp 8]) = .refused (.badOperand n) :=
  (everyFittingCommandIsCarriedOut (.laneLinkUp 8) (queuedBlock.withPending [])).2 (by decide +kernel)

end Sys2Proof.Machine
end


section
/-! SUPPORT. The commands of chapter 13 that are accepted: what an arm, a commit, a key installation, a key roll and a forwarded frame leave, and their
answers (R268, R315, R316, R319 to R321). -/

namespace Sys2Proof.Machine

open Sys2Proof

/-! ### The keys of a principal -/

theorem pIdx_of_isPrincipal {p : Nat} (hp : isPrincipal p = true) : pIdx p < 17 := by
  simp only [isPrincipal, Bool.or_eq_true, decide_eq_true_eq, beq_iff_eq] at hp
  unfold pIdx
  split <;> omega

set_option Elab.async false in
theorem State.sound_keys {s : State} {p : Nat} (hs : s.sound = true) (hp : isPrincipal p = true) : pIdx p < s.prot.keys.length :=
  (State.sound_kept hs).keys ▸ pIdx_of_isPrincipal hp

theorem State.keyRec_updKey {s : State} {p : Nat} (f : KeyRec → KeyRec) (hp : pIdx p < s.prot.keys.length) :
    (s.updKey p f).keyRec p = f (s.keyRec p) :=
  (getD_modAt _ _ _ _ _ hp).trans (if_pos rfl)

theorem State.keyRec_of_prot {s t : State} (p : Nat) (h : t.prot = s.prot) : t.keyRec p = s.keyRec p := by
  rw [State.keyRec, h, State.keyRec]

/-! ### What each command does where none of its refusals holds -/

section
variable {s : State} {h : CmdHead}

theorem State.cmdProtectArm_first {b : ArmBody} (hfits : armFits b = true) (happend : h.flags.testBit 0 = false) (hnone : s.prot.change = none) :
    s.cmdProtectArm h b = (s.setProt fun x => { x with
        change := some { armId := (s.prot.lastArmId + 1) % 2 ^ 32, bodies := [b], digest := nextDigest 0 b, expires := s.clk.frame + 1000, lastArm := s.now }
        lastArmId := (s.prot.lastArmId + 1) % 2 ^ 32 }).answer h 0x40 Code.ok
      (be 4 ((s.prot.lastArmId + 1) % 2 ^ 32) ++ be 1 1 ++ be 3 0 ++ be 8 (nextDigest 0 b) ++ be 8 (s.clk.frame + 1000)) := by
  unfold State.cmdProtectArm
  simp [hfits, happend, hnone]

theorem State.cmdProtectCommit_accepted {armId digest frame b : Nat} {c : Change} (hc : s.prot.change = some c) (hopen : c.committed = none)
    (hid : armId ≠ 0) (harm : armId = c.armId) (hdigest : digest = c.digest) (hlater : s.now ≠ c.lastArm) (hframe : s.frameTarget frame = .ok b)
    (hcode : s.changeCode c.bodies = 0) :
    s.cmdProtectCommit h armId digest frame = s.setProt fun x => { x with change := some { c with committed := some (b, h.cseq) } } := by
  subst harm hdigest
  unfold State.cmdProtectCommit
  simp [hc, hopen, hid, hlater, hframe, hcode]

/-- Arm 0 gives up what is armed. -/
theorem State.cmdProtectCommit_disarms {digest frame : Nat} (hopen : (s.prot.change.all fun c => c.committed.isNone) = true) :
    s.cmdProtectCommit h 0 digest frame = s.disarm.answer h 0x41 Code.ok := by
  unfold State.cmdProtectCommit
  cases hc : s.prot.change with
  | none =>
    have hdisarm : s.disarm = s := by rw [State.disarm, State.setProt, ← hc]
    rw [hdisarm]
    rfl
  | some c =>
    rw [hc, Option.all_some, Option.isNone_iff_eq_none] at hopen
    simp [hopen]

theorem State.cmdKeyInstall_badKey {p : Nat} {w : List Nat} (hp : isPrincipal p = true) (hlock : s.locked 8 = false)
    (hbad : (s.prot.kek.bind fun k => keyUnwrap k w) = none) : s.cmdKeyInstall h p 0 w = s.answer h 0x42 Code.keyUnwrap := by
  unfold State.cmdKeyInstall
  simp [hp, hlock, hbad]

theorem State.cmdKeyInstall_starts {p : Nat} {w key : List Nat} (hp : isPrincipal p = true) (hlock : s.locked 8 = false)
    (hkey : (s.prot.kek.bind fun k => keyUnwrap k w) = some key) (hmtp : s.mtpCode (some (s.keyRec p).writes) = 0) :
    s.cmdKeyInstall h p 0 w = s.startMtp (.key p 0 key h.cseq) := by
  unfold State.cmdKeyInstall
  simp [hp, hlock, hkey, hmtp]

theorem State.cmdKeyRoll_waits {p frame b : Nat} (hp : isPrincipal p = true) (hlock : s.locked 8 = false) (hroll : (s.keyRec p).roll = none)
    (hclear : h.flags.testBit 0 = false) (hnext : (s.keyRec p).next.isSome = true) (hmtp : s.mtpCode (some (s.keyRec p).writes) = 0)
    (hframe : s.frameTarget frame = .ok b) : s.cmdKeyRoll h p frame = s.updKey p fun k => { k with roll := some (b, false, h.cseq) } := by
  have hkey : (s.keyRec p).next ≠ none := Option.isSome_iff_ne_none.1 hnext
  unfold State.cmdKeyRoll
  simp [hp, hlock, hroll, hclear, hkey, hmtp, hframe]

theorem State.cmdForward_taken {pos : Nat} {frame : List Nat} (hpos : pos ≠ s.chainPos) (hmax : pos ≤ 15)
    (hthere : (s.rd R.AP_RING_STATUS_PRESENT).testBit pos = true) (hlen : frame.length ≤ 1400) (hroom : s.links.ringTx.length < 16) :
    s.cmdForward h pos frame =
      ((s.setLinks fun x => { x with ringTx := x.ringTx ++ [(pos, frame)] }).drainRing).answer h 0x44 Code.ok := by
  unfold State.cmdForward
  rw [if_neg (by simp [hpos, hthere]; omega), if_neg (by omega)]

/-! ### Frames for the ring -/

theorem State.drainRing_up (hup : s.ringUp = true) (hwait : s.links.ringTx ≠ []) :
    s.drainRing = s.setLinks fun x => { x with ringOut := x.ringTx, ringTx := [] } := by
  unfold State.drainRing
  rw [if_pos (by simp [hup, hwait])]

theorem State.drainRing_down (hdown : s.ringUp = false) : s.drainRing = s := by
  unfold State.drainRing
  rw [if_neg (by simp [hdown])]

set_option Elab.async false in
@[simp] theorem State.drainRing_prin (s : State) : s.drainRing.links.prin = s.links.prin := by
  unfold State.drainRing
  split <;> rfl

/-- The answer of a command that is built at once touches the lists of items alone among the links. -/
theorem State.answer_ring_of_atOnce (opcode code : Nat) (body : List Nat) (hat : s.atOnce h = true) :
    (s.answer h opcode code body).links.ringTx = s.links.ringTx ∧ (s.answer h opcode code body).links.ringOut = s.links.ringOut := by
  rw [State.answer_of_atOnce _ _ _ hat]
  split <;> exact ⟨rfl, rfl⟩

/-! ### Each command -/

theorem protectArm_replies {b : ArmBody} (hs : s.sound = true) (hat : s.atOnce h = true) (ha : s.accepts h (.protectArm b) = true)
    (hfits : armFits b = true) (happend : h.flags.testBit 0 = false) (hnone : s.prot.change = none) :
    Replies (.protectArm h b) h 0x40 Code.ok
      (be 4 ((s.prot.lastArmId + 1) % 2 ^ 32) ++ be 1 1 ++ be 3 0 ++ be 8 (nextDigest 0 b) ++ be 8 (s.clk.frame + 1000)) s fun t =>
      t.prot = { s.prot with lastArmId := (s.prot.lastArmId + 1) % 2 ^ 32, change := some {
        armId := (s.prot.lastArmId + 1) % 2 ^ 32, bodies := [b], digest := nextDigest 0 b, expires := s.clk.frame + 1000, lastArm := s.now } } :=
  replies_of_answer (c := .protectArm b) (o := partMask [.prot]) hs hat ha (State.cmdProtectArm_first hfits happend hnone)
    (State.setProt_same same_refl (by decide)) fun _ ht => ht .prot (by decide)

theorem protectCommit_yields {armId digest frame b : Nat} {c : Change} (ha : s.accepts h (.protectCommit armId digest frame) = true)
    (hc : s.prot.change = some c) (hopen : c.committed = none) (hid : armId ≠ 0) (harm : armId = c.armId) (hdigest : digest = c.digest)
    (hlater : s.now ≠ c.lastArm) (hframe : s.frameTarget frame = .ok b)
    (hcode : (s.started h (.protectCommit armId digest frame)).changeCode c.bodies = 0) : Yields (.protectCommit h armId digest frame) s fun t =>
      t.prot = { s.prot with change := some { c with committed := some (b, h.cseq) } } := by
  refine ⟨_, exec_of_accepts (c := .protectCommit armId digest frame) (by simp [opcodeOf]) ha, ?_⟩
  have hrun := State.cmdProtectCommit_accepted (s := s.started h (.protectCommit armId digest frame)) (h := h) hc hopen hid harm hdigest hlater hframe hcode
  exact congrArg State.prot hrun

theorem protectCommit_disarm_replies {digest frame : Nat} (hs : s.sound = true) (hat : s.atOnce h = true)
    (ha : s.accepts h (.protectCommit 0 digest frame) = true) (hopen : (s.prot.change.all fun c => c.committed.isNone) = true) :
    Replies (.protectCommit h 0 digest frame) h 0x41 Code.ok [] s fun t => t.prot = { s.prot with change := none } :=
  replies_of_answer (c := .protectCommit 0 digest frame) (o := partMask [.prot]) hs hat ha
    (State.cmdProtectCommit_disarms (s := s.started h (.protectCommit 0 digest frame)) hopen)
    (State.setProt_same same_refl (by decide)) fun _ ht => ht .prot (by decide)

set_option Elab.async false in
theorem keyInstall_unwrap_replies {p : Nat} {w : List Nat} (hs : s.sound = true) (hat : s.atOnce h = true)
    (ha : s.accepts h (.keyInstall p 0 w) = true) (hp : isPrincipal p = true) (hlock : s.locked 8 = false)
    (hbad : (s.prot.kek.bind fun k => keyUnwrap k w) = none) :
    Replies (.keyInstall h p 0 w) h 0x42 Code.keyUnwrap [] s fun t => t.prot = s.prot := by
  have hrun := State.cmdKeyInstall_badKey (s := s.started h (.keyInstall p 0 w)) (h := h) hp hlock hbad
  exact replies_of_answer (c := .keyInstall p 0 w) (o := 0) hs hat ha hrun same_refl fun _ ht => ht .prot (by decide)

theorem keyInstall_yields {p : Nat} {w key : List Nat} (ha : s.accepts h (.keyInstall p 0 w) = true) (hp : isPrincipal p = true)
    (hlock : s.locked 8 = false) (hkey : (s.prot.kek.bind fun k => keyUnwrap k w) = some key) (hmtp : s.mtpCode (some (s.keyRec p).writes) = 0) :
    Yields (.keyInstall h p 0 w) s fun t => t.prot = { s.prot with mtp := s.prot.mtp ++ [.key p 0 key h.cseq] } := by
  refine ⟨_, exec_of_accepts (c := .keyInstall p 0 w) (by simp [opcodeOf]) ha, ?_⟩
  have hrun := State.cmdKeyInstall_starts (s := s.started h (.keyInstall p 0 w)) (h := h) hp hlock hkey hmtp
  exact congrArg State.prot hrun

theorem keyRoll_yields {p frame b : Nat} (hs : s.sound = true) (ha : s.accepts h (.keyRoll p frame) = true) (hp : isPrincipal p = true)
    (hlock : s.locked 8 = false) (hroll : (s.keyRec p).roll = none) (hclear : h.flags.testBit 0 = false) (hnext : (s.keyRec p).next.isSome = true)
    (hmtp : s.mtpCode (some (s.keyRec p).writes) = 0) (hframe : s.frameTarget frame = .ok b) :
    Yields (.keyRoll h p frame) s fun t => t.keyRec p = { s.keyRec p with roll := some (b, false, h.cseq) } := by
  refine ⟨_, exec_of_accepts (c := .keyRoll p frame) (by simp [opcodeOf]) ha, ?_⟩
  have hrun := State.cmdKeyRoll_waits (s := s.started h (.keyRoll p frame)) (h := h) hp hlock hroll hclear hnext hmtp hframe
  have hrec := State.keyRec_updKey (s := s.started h (.keyRoll p frame)) (fun k => { k with roll := some (b, false, h.cseq) }) (show pIdx p < s.prot.keys.length from State.sound_keys hs hp)
  exact (congrArg (State.keyRec · p) hrun).trans hrec

theorem forward_replies {pos : Nat} {frame : List Nat} (hs : s.sound = true) (hat : s.atOnce h = true)
    (ha : s.accepts h (.forward pos frame) = true) (hpos : pos ≠ s.chainPos) (hmax : pos ≤ 15)
    (hthere : (s.rd R.AP_RING_STATUS_PRESENT).testBit pos = true) (hlen : frame.length ≤ 1400) (hroom : s.links.ringTx.length < 16) :
    Replies (.forward h pos frame) h 0x44 Code.ok [] s fun t =>
      (s.ringUp = true → t.links.ringOut = s.links.ringTx ++ [(pos, frame)] ∧ t.links.ringTx = []) ∧
      (s.ringUp = false → t.links.ringTx = s.links.ringTx ++ [(pos, frame)] ∧ t.links.ringOut = s.links.ringOut) := by
  let q := (s.started h (.forward pos frame)).setLinks fun x => { x with ringTx := x.ringTx ++ [(pos, frame)] }
  have hrun : (s.started h (.forward pos frame)).runCmd h (.forward pos frame) = q.drainRing.answer h 0x44 Code.ok :=
    State.cmdForward_taken (s := s.started h (.forward pos frame)) hpos hmax hthere hlen hroom
  have hqsame : Same (partMask [.links]) q q.drainRing := State.drainRing_same same_refl (by decide)
  have hq : q.drainRing.atOnce h = true := by
    rw [State.atOnce, State.isMode, hqsame .mode (by decide)]
    exact hat
  have hp : pIdx h.principal < s.links.prin.length := (State.sound_kept hs).prin ▸ CmdHead.wf_pIdx (State.accepts_wf ha)
  have hitem : q.drainRing.itemOf h 0x44 Code.ok [] = s.itemOf h 0x44 Code.ok [] := by
    rw [State.itemOf, State.now, hqsame .clk (by decide)]
    rfl
  obtain ⟨htx, hout⟩ := State.answer_ring_of_atOnce (s := q.drainRing) 0x44 Code.ok [] hq
  refine ⟨_, exec_of_accepts (c := .forward pos frame) (by simp [opcodeOf]) ha, ?_, fun hup => ?_, fun hdown => ?_⟩
  · have hprin : q.drainRing.prin h.principal = (s.started h (.forward pos frame)).prin h.principal := by
      rw [State.prin, State.drainRing_prin]
      rfl
    have hlen : pIdx h.principal < q.drainRing.links.prin.length := by
      rw [State.drainRing_prin]
      exact (State.started_prin_length s h (.forward pos frame)).symm ▸ hp
    rw [hrun, State.answer_completed _ _ _ hq hlen, hitem, hprin, State.started_completed _ hp]
  · rw [hrun, htx, hout, State.drainRing_up (s := q) hup (List.append_ne_nil_of_right_ne_nil _ (List.cons_ne_nil _ _))]
    exact ⟨rfl, rfl⟩
  · rw [hrun, htx, hout, State.drainRing_down (s := q) hdown]
    exact ⟨rfl, rfl⟩

end

/-- Settles O24, command by command. That a frame for the ring goes out at once while a port is up, and waits only while none is, is the reading of log
entry 58; the order of the checks of PROTECT_COMMIT and KEY_ROLL is that of log entry 68. -/
theorem protectionCommands : Obligations.ProtectionCommands := by
  unfold Obligations.ProtectionCommands
  intro s h hs hat
  refine ⟨fun b ha hfits happend hnone => protectArm_replies hs hat ha hfits happend hnone,
    fun armId digest frame c b ha hc hopen hid harm hdigest hlater hframe hcode =>
      protectCommit_yields ha hc hopen hid harm hdigest hlater hframe hcode,
    fun digest frame ha hopen => protectCommit_disarm_replies hs hat ha hopen,
    fun p which w ha hp hwhich hlock => ?_,
    fun p frame b ha hp hlock hroll hclear hnext hmtp hframe => keyRoll_yields hs ha hp hlock hroll hclear hnext hmtp hframe,
    fun pos frame ha hpos hmax hthere hlen hroom => forward_replies hs hat ha hpos hmax hthere hlen hroom⟩
  subst hwhich
  exact ⟨fun hbad => keyInstall_unwrap_replies hs hat ha hp hlock hbad, fun key hkey hmtp => keyInstall_yields ha hp hlock hkey hmtp⟩

end Sys2Proof.Machine
end

section
/-! TESTS. A state that meets hypotheses of the statement about the commands of chapter 13. -/

namespace Sys2Proof.Machine

open Sys2Proof

/-- A running block at frame 9 with `change` armed, the owner's next key installed and the write window open. -/
noncomputable def protectBlock (change : Option Change) : State :=
  { runningBlock.wr R.ATTIC_STATUS_NV_WINDOW 1 with
    clk := { runningBlock.clk with frame := 9 }
    prot := { runningBlock.prot with change := change, keys := List.replicate 16 {} ++ [{ next := some [1], writes := 4 }] } }

/-- A change without a body, armed as number 6. -/
noncomputable def armedChange : Change := { armId := 6, bodies := [], digest := 5, expires := 1000, lastArm := 0 }

/-- A body that would enable tenancy 15. -/
noncomputable def enableBody : ArmBody := { target := 15, fields := 1, cfg := 2 ^ 23, lock := 0, floor := 0, inMap := 0, outMap := 0 }

theorem protectBlock_commit : Yields (.protectCommit (ownerHead 1) 6 5 20) (protectBlock (some armedChange)) fun t =>
    (t.prot.change.bind (·.committed)) = some (20, 1) :=
  (protectCommit_yields (c := armedChange) (b := 20) (by decide +kernel) rfl rfl (by decide) rfl rfl (by decide) (by decide) (by decide +kernel)).imp
    fun t ht => congrArg (fun x => x.change.bind (·.committed)) ht

theorem protectBlock_roll : Yields (.keyRoll (ownerHead 1) 30 0) (protectBlock none) fun t =>
    (t.keyRec 30).roll = some (earliestFrame (protectBlock none).fclk, false, 1) :=
  (keyRoll_yields (by decide +kernel) (by decide +kernel) rfl (by decide +kernel) rfl rfl rfl (by decide +kernel) rfl).imp fun t ht => congrArg KeyRec.roll ht

end Sys2Proof.Machine
end


section
/-! SUPPORT. DRILL, POWER, HKA_INJECT, STENCIL_START: what begins, and what is answered (R128, R184, R356, R400). -/

namespace Sys2Proof.Machine

open Sys2Proof

/-! ### What each command does where none of its refusals holds -/

section
variable {s : State} {h : CmdHead}

theorem State.cmdDrill_accepted {frame x : Nat} (hframe : s.frameTarget frame = .ok x) (hlast : s.lastResort = false) (hseq : s.seqOpen = false)
    (haudit : s.auditOpen = false) (hret : s.pl.ret = none) (hdrill : s.pl.drill = none) (hserv : s.inService s.standby = true) :
    s.cmdDrill h frame = ((s.setPl fun p => { p with drill := some { head := h, x := x } }).wr R.PL_DRILL_FRAME_LO_FRAME x).wr
      R.PL_DRILL_FRAME_HI_FRAME (x / 2 ^ 32) := by
  unfold State.cmdDrill
  simp [hframe, hlast, hseq, haudit, hret, hdrill, hserv]

/-- The state in which a transition begins: what R323, R332 and R360 end with it has ended. -/
noncomputable def State.settledForPower (s : State) : State := ((s.abortRuns.mtAbort .A).mtAbort .B).endReturn.disarmForSleep

theorem State.cmdPower_begins {code : Nat} {p : PowerState} (hp : PowerState.ofCode? code = some p) (hrun : p ≠ .run) (hother : p ≠ s.power)
    (htrans : s.pw.trans = none) (hcommits : (s.com.commits.any (·.waiting)) = false) (hseq : s.seqOpen = false) (haudit : s.auditOpen = false)
    (hret : s.pl.ret = none) (hdrill : s.pl.drill = none) (hchange : s.prot.change = none) :
    s.cmdPower h code = (s.settledForPower.wr R.PW_STATE_BUSY 1).setPw fun x => { x with
      trans := some { target := p, head := h, entry := s.settledForPower.clk.frame + 1, ask := domainsAsked p } } := by
  unfold State.cmdPower
  simp only [hp, htrans, hcommits, hseq, haudit, hret, hdrill, hchange]
  rw [if_neg (by simp), if_neg hother, if_neg hrun]
  rfl

theorem State.cmdInject_joins {channel tag : Nat} (hch : channel < 96) (hfence : s.hkaFenced = false) (hroom : s.hkaHeld < 8) :
    s.cmdInject h channel tag = s.setHka fun x => { x with queue := x.queue ++ [⟨channel, tag, some h, s.now⟩] } := by
  unfold State.cmdInject State.inject
  rw [if_neg (by omega), if_neg (by simp [hfence]), if_neg (by omega)]

theorem State.cmdInject_busy {channel tag : Nat} (hch : channel < 96) (hfence : s.hkaFenced = false) (hfull : 8 ≤ s.hkaHeld) :
    s.cmdInject h channel tag = (s.bump R.HKA_STATUS_INJ_REFUSED 1).answer h 0x30 Code.busy := by
  unfold State.cmdInject State.inject
  rw [if_neg (by omega), if_neg (by simp [hfence]), if_pos (by omega)]

theorem State.cmdStencilStart_triggers {gen : Nat} (hgen : gen < 8) (hA : s.genFenced gen = false) (hB : s.genFenced (8 + gen) = false) :
    s.cmdStencilStart h gen = ((s.commandTrigger gen).commandTrigger (8 + gen)).answer h 0x32 Code.ok := by
  unfold State.cmdStencilStart
  rw [if_neg (by omega), if_neg (by simp [hA, hB])]

end

/-! ### The command trigger of one generator -/

section
variable {s : State} {i j : Nat}

set_option Elab.async false in
theorem State.gen_updGen_ne (f : Gen → Gen) (hi : i < s.gens.length) (hij : i ≠ j) : (s.updGen j f).gen i = s.gen i :=
  (getD_modAt _ _ _ _ _ hi).trans (if_neg hij)

/-- A trigger touches its own generator alone. -/
theorem State.gens_commandTrigger (s : State) (j : Nat) : ∃ f, (s.commandTrigger j).gens = modAt s.gens j f := by
  have hidle : s.gens = modAt s.gens j id := by rw [modAt, List.modify_id]
  unfold State.commandTrigger State.trigger
  dsimp only
  split
  · split
    · exact ⟨_, rfl⟩
    · exact ⟨id, hidle⟩
  · exact ⟨id, hidle⟩

theorem State.gen_commandTrigger_ne (hi : i < s.gens.length) (hij : i ≠ j) : (s.commandTrigger j).gen i = s.gen i := by
  obtain ⟨f, hf⟩ := s.gens_commandTrigger j
  rw [State.gen, hf]
  exact State.gen_updGen_ne f hi hij

theorem State.gens_length_commandTrigger (s : State) (j : Nat) : (s.commandTrigger j).gens.length = s.gens.length := by
  obtain ⟨f, hf⟩ := s.gens_commandTrigger j
  rw [hf, modAt_length]

/-- A trigger touches the registers of its own plane alone. -/
theorem State.rdP_commandTrigger_plane {q : Plane} (f : FieldAt) (hs : s.Regs) (hq : q ≠ genPlane j) : (s.commandTrigger j).rdP q f = s.rdP q f := by
  have hkeeps {u : State} (hu : u.Regs) (g : FieldAt) (v : Nat) : (u.wrP (genPlane j) g v).rdP q f = u.rdP q f := State.rdP_wrP_plane hu hq
  unfold State.commandTrigger State.trigger
  dsimp only
  split
  · split
    · have hu : (s.updGen j fun x => { x with
          running := true, armed := false, cause := 0, pc := s.rdGen j R.ST_CTRL_ENTRY, a := 0, d := 0, c0 := 0, c1 := 0,
          prbs := 0x7FFF, a0 := some s.now, samples := [], idle := 0, conds := [(s.clk.frame, x.cond)] }).Regs := ⟨hs.shared, hs.privA, hs.privB⟩
      unfold State.startGen
      rw [hkeeps hu.wrP.wrP, hkeeps hu.wrP, hkeeps hu]
      rfl
    · exact hkeeps hs _ _
  · exact hkeeps hs _ _

/-- An armed generator with this trigger that does not run starts at the latest admission point. -/
theorem State.commandTrigger_starts (hi : i < s.gens.length) (htrig : s.rdGen i R.ST_CTRL_TRIG = 0) (harmed : (s.gen i).armed = true)
    (hrun : (s.gen i).running = false) (hmtest : (s.gen i).mtest = false) :
    ((s.commandTrigger i).gen i).running = true ∧ ((s.commandTrigger i).gen i).a0 = some s.now := by
  have hcan : ((s.gen i).armed && !(s.gen i).running && !(s.gen i).mtest) = true := by simp [harmed, hrun, hmtest]
  have hgens : (s.commandTrigger i).gen i = (s.updGen i fun x => { x with
      running := true, armed := false, cause := 0, pc := s.rdGen i R.ST_CTRL_ENTRY, a := 0, d := 0, c0 := 0, c1 := 0,
      prbs := 0x7FFF, a0 := some s.now, samples := [], idle := 0, conds := [(s.clk.frame, x.cond)] }).gen i := by
    unfold State.commandTrigger State.trigger
    rw [if_pos htrig, if_pos hcan]
    rfl
  rw [hgens, State.gen_updGen _ hi]
  exact ⟨rfl, rfl⟩

/-- The triggers of both planes' generator: each starts as if it were alone. -/
theorem State.commandTrigger_both_start {gen : Nat} (hs : s.Regs) (hlen : s.gens.length = 16) (hgen : gen < 8) (hi : i = gen ∨ i = 8 + gen)
    (htrig : s.rdGen i R.ST_CTRL_TRIG = 0) (harmed : (s.gen i).armed = true) (hrun : (s.gen i).running = false) (hmtest : (s.gen i).mtest = false) :
    (((s.commandTrigger gen).commandTrigger (8 + gen)).gen i).running = true ∧
      (((s.commandTrigger gen).commandTrigger (8 + gen)).gen i).a0 = some s.now := by
  have hlen' : (s.commandTrigger gen).gens.length = 16 := (s.gens_length_commandTrigger gen).trans hlen
  obtain rfl | rfl := hi
  · rw [State.gen_commandTrigger_ne (by omega) (by omega)]
    exact State.commandTrigger_starts (by omega) htrig harmed hrun hmtest
  · have hgenB : (s.commandTrigger gen).gen (8 + gen) = s.gen (8 + gen) := State.gen_commandTrigger_ne (by omega) (by omega)
    have htrigB : (s.commandTrigger gen).rdGen (8 + gen) R.ST_CTRL_TRIG = 0 := by
      rw [State.rdGen, State.rdP_commandTrigger_plane _ hs (by simp [genPlane, hgen])]
      exact htrig
    have hnow : (s.commandTrigger gen).now = s.now := by
      rw [State.now, State.commandTrigger_same (o := partMask [.privA, .privB, .gens]) same_refl (by decide) .clk (by decide), State.now]
    rw [← hnow]
    exact State.commandTrigger_starts (by omega) htrigB (hgenB ▸ harmed) (hgenB ▸ hrun) (hgenB ▸ hmtest)

end

/-! ### Each command -/

section
variable {s : State} {h : CmdHead}

theorem State.started_regs {c : Cmd} (hs : s.sound = true) : (s.started h c).Regs :=
  have hregs := State.sound_regs hs
  ⟨hregs.shared, hregs.privA, hregs.privB⟩

set_option Elab.async false in
theorem State.started_kept {κ : Keep} {c : Cmd} (hk : Kept κ s) : Kept κ (s.started h c) :=
  State.setSched_kept (State.noteStream_kept hk) id

theorem drill_yields {frame x : Nat} (hs : s.sound = true) (ha : s.accepts h (.drill frame) = true) (hframe : s.frameTarget frame = .ok x)
    (hlast : s.lastResort = false) (hseq : s.seqOpen = false) (haudit : s.auditOpen = false) (hret : s.pl.ret = none) (hdrill : s.pl.drill = none)
    (hserv : s.inService s.standby = true) : Yields (.drill h frame) s fun t =>
      t.pl = { s.pl with drill := some { head := h, x := x } } ∧ t.rd R.PL_DRILL_FRAME_LO_FRAME = x % 2 ^ 32 := by
  have hrun : (s.started h (.drill frame)).runCmd h (.drill frame) = _ :=
    State.cmdDrill_accepted (s := s.started h (.drill frame)) hframe hlast hseq haudit hret hdrill hserv
  refine ⟨_, exec_of_accepts (c := .drill frame) (by simp [opcodeOf]) ha, ?_⟩
  have hregs : ((s.started h (.drill frame)).setPl fun p => { p with drill := some { head := h, x := x } }).Regs :=
    have hstart := State.started_regs (h := h) (c := .drill frame) hs
    ⟨hstart.shared, hstart.privA, hstart.privB⟩
  rw [hrun]
  refine ⟨rfl, ?_⟩
  rw [State.rd_wr_addr _ _ _ _ hregs.wr.shared (by decide), State.rd_wr _ _ _ hregs.shared (by decide) (by decide)]
  rfl

theorem power_yields {code : Nat} {p : PowerState} (hs : s.sound = true) (ha : s.accepts h (.power code) = true)
    (hp : PowerState.ofCode? code = some p) (hrun : p ≠ .run) (hother : p ≠ s.power) (htrans : s.pw.trans = none)
    (hcommits : (s.com.commits.any (·.waiting)) = false) (hseq : s.seqOpen = false) (haudit : s.auditOpen = false) (hret : s.pl.ret = none)
    (hdrill : s.pl.drill = none) (hchange : s.prot.change = none) : Yields (.power h code) s fun t =>
      t.pw.trans = some { target := p, head := h, entry := s.clk.frame + 1, ask := domainsAsked p } ∧ t.rd R.PW_STATE_BUSY = 1 := by
  let u := (s.started h (.power code)).settledForPower
  have hexec := exec_of_accepts (c := .power code) (by simp [opcodeOf]) ha
  have hbegins : (s.started h (.power code)).runCmd h (.power code) = _ :=
    State.cmdPower_begins (s := s.started h (.power code)) (h := h) hp hrun hother htrans hcommits hseq haudit hret hdrill hchange
  have hclk : u.clk = s.clk :=
    State.disarmForSleep_same (o := partMask [.cal, .privA, .privB, .gens, .cap, .faults, .free, .shared, .pl, .sb, .links, .prot])
      (State.endReturn_same (State.mtAbort_same (State.mtAbort_same (State.abortRuns_same same_refl (by decide)) (by decide)) (by decide))
        (by decide)) (by decide) .clk (by decide)
  have hkept : Kept (Keep.of s) u :=
    State.disarmForSleep_kept (State.endReturn_kept (State.mtAbort_kept (State.mtAbort_kept (State.abortRuns_kept (State.started_kept (State.sound_kept hs))))))
  refine ⟨_, hexec, ?_⟩
  rw [hbegins]
  refine ⟨?_, ?_⟩
  · show some _ = some _
    rw [hclk]
  · exact State.rd_wr_of_lt (s := u) hkept.regs (by decide)

theorem hkaInject_yields {channel tag : Nat} (ha : s.accepts h (.hkaInject channel tag) = true) (hch : channel < 96) (hfence : s.hkaFenced = false)
    (hroom : s.hkaHeld < 8) : Yields (.hkaInject h channel tag) s fun t =>
      t.hka = { s.hka with queue := s.hka.queue ++ [⟨channel, tag, some h, s.now⟩] } :=
  ⟨_, exec_of_accepts (c := .hkaInject channel tag) (by simp [opcodeOf]) ha,
    congrArg State.hka (State.cmdInject_joins (s := s.started h (.hkaInject channel tag)) hch hfence hroom)⟩

theorem hkaInject_replies_busy {channel tag : Nat} (hs : s.sound = true) (hat : s.atOnce h = true)
    (ha : s.accepts h (.hkaInject channel tag) = true) (hch : channel < 96) (hfence : s.hkaFenced = false) (hfull : 8 ≤ s.hkaHeld) :
    Replies (.hkaInject h channel tag) h 0x30 Code.busy [] s fun t => t.hka = s.hka :=
  replies_of_answer (c := .hkaInject channel tag) (o := partMask [.shared]) hs hat ha
    (State.cmdInject_busy (s := s.started h (.hkaInject channel tag)) hch hfence hfull)
    (State.bump_same same_refl (by decide)) fun _ ht => ht .hka (by decide)

theorem stencilStart_replies {gen : Nat} (hs : s.sound = true) (hat : s.atOnce h = true) (ha : s.accepts h (.stencilStart gen) = true)
    (hgen : gen < 8) (hA : s.genFenced gen = false) (hB : s.genFenced (8 + gen) = false) :
    Replies (.stencilStart h gen) h 0x32 Code.ok [] s fun t =>
      ∀ i, i = gen ∨ i = 8 + gen → s.rdGen i R.ST_CTRL_TRIG = 0 → (s.gen i).armed = true → (s.gen i).running = false → (s.gen i).mtest = false →
        (t.gen i).running = true ∧ (t.gen i).a0 = some s.now := by
  refine replies_of_answer (c := .stencilStart gen) (o := partMask [.privA, .privB, .gens]) hs hat ha
    (State.cmdStencilStart_triggers (s := s.started h (.stencilStart gen)) hgen hA hB)
    (State.commandTrigger_same (State.commandTrigger_same same_refl (by decide)) (by decide)) fun t ht i hi htrig harmed hrun hmtest => ?_
  rw [State.gen, ht .gens (by decide)]
  exact State.commandTrigger_both_start (s := s.started h (.stencilStart gen)) (State.started_regs hs) (State.sound_kept hs).gens hgen hi htrig
    harmed hrun hmtest

end

/-- Settles O19, command by command. -/
theorem longCommandsBegin : Obligations.LongCommandsBegin := by
  unfold Obligations.LongCommandsBegin
  intro s h hs hat
  exact ⟨fun _ _ ha hframe hlast hseq haudit hret hdrill hserv => drill_yields hs ha hframe hlast hseq haudit hret hdrill hserv,
    fun _ _ ha hp hrun hother htrans hcommits hseq haudit hret hdrill hchange =>
      power_yields hs ha hp hrun hother htrans hcommits hseq haudit hret hdrill hchange,
    fun _ _ ha hch hfence => ⟨hkaInject_yields ha hch hfence, hkaInject_replies_busy hs hat ha hch hfence⟩,
    fun _ ha hgen hA hB => stencilStart_replies hs hat ha hgen hA hB⟩

end Sys2Proof.Machine
end

section
/-! TESTS. A state that meets hypotheses of the statement about DRILL, POWER, HKA_INJECT and STENCIL_START. -/

namespace Sys2Proof.Machine

open Sys2Proof

/-- A running block in RUN, domains 64 to 95 on, with `held` injections waiting at the converter. -/
noncomputable def beginBlock (held : Nat) : State :=
  { runningBlock.setWord (A.PW_DOMAIN_ON 2) (2 ^ 32 - 1) with
    power := .run
    hka := { runningBlock.hka with queue := List.replicate held ⟨0, 0, none, 0⟩ } }

theorem beginBlock_power : Yields (.power (ownerHead 1) 2) (beginBlock 0) fun t => t.rd R.PW_STATE_BUSY = 1 :=
  (power_yields (by decide +kernel) (by decide +kernel) rfl (by decide) (by decide) rfl rfl rfl rfl rfl rfl rfl).imp fun t ⟨_, hbusy⟩ => hbusy

/-- Channel 95 is the last one, the eighth injection the last that fits. -/
theorem beginBlock_inject : Yields (.hkaInject (ownerHead 1) 95 3) (beginBlock 7) fun t => t.hka.queue.length = 8 :=
  (hkaInject_yields (by decide +kernel) (by decide) (by decide +kernel) (by decide +kernel)).imp fun t ht => congrArg (·.queue.length) ht

end Sys2Proof.Machine
end


section
/-! SUPPORT. A register field that shows a value goes on showing it: one rule for each way in which the registers change. -/

namespace Sys2Proof.Machine

open Sys2Proof

/-- The shared registers' field f shows v, in register files that are canonical. -/
structure State.Shows (s : State) (f : FieldAt) (v : Nat) : Prop where
  regs : s.Regs
  rd : s.rd f = v

section
variable {s t : State} {f g : FieldAt} {v x a : Nat}

theorem State.Regs.of_reg (h : s.Regs) (ht : t.reg = s.reg) : t.Regs := ⟨ht ▸ h.shared, ht ▸ h.privA, ht ▸ h.privB⟩

theorem State.rd_of_reg (f : FieldAt) (ht : t.reg = s.reg) : t.rd f = s.rd f := by rw [State.rd, State.word, ht, State.rd, State.word]

set_option Elab.async false in
theorem State.Shows.of_rd (h : s.Regs) (f : FieldAt) : s.Shows f (s.rd f) := ⟨h, rfl⟩

theorem State.Shows.of_reg (h : s.Shows f v) (ht : t.reg = s.reg) : t.Shows f v := ⟨h.regs.of_reg ht, (State.rd_of_reg f ht).trans h.rd⟩

theorem State.Shows.of_same {o : Nat} (h : s.Shows f v) (hsame : Same o s t) (hshared : o.testBit Part.shared.ix = false := by decide)
    (hA : o.testBit Part.privA.ix = false := by decide) (hB : o.testBit Part.privB.ix = false := by decide) : t.Shows f v :=
  ⟨State.regs_of_same hsame hshared hA hB h.regs, (State.rd_of_same f hsame hshared).trans h.rd⟩

theorem State.Shows.wr_self (h : s.Regs) (hv : v < 2 ^ (f.hi + 1 - f.lo)) (hf : decide (f.hi < 32 ∧ f.lo ≤ f.hi) = true := by rfl) :
    (s.wr f v).Shows f v := ⟨h.wr, State.rd_wr_of_lt h hv hf⟩

/-- A write at another address. -/
theorem State.Shows.wr (h : s.Shows f v) (hne : f.addr ≠ g.addr) : (s.wr g x).Shows f v :=
  ⟨h.regs.wr, (State.rd_wr_addr s g f x h.regs.shared hne).trans h.rd⟩

/-- A write of other bits. -/
theorem State.Shows.wr_apart (h : s.Shows f v) (hg : decide (g.hi < 32 ∧ g.lo ≤ g.hi) = true := by rfl)
    (hf : decide (f.lo ≤ f.hi ∧ (f.hi < g.lo ∨ g.hi < f.lo)) = true := by rfl) : (s.wr g x).Shows f v :=
  ⟨h.regs.wr, (State.rd_wr_apart h.regs hg hf).trans h.rd⟩

theorem State.Regs.setWord (h : s.Regs) : (s.setWord a x).Regs := ⟨smSet_wf _ _ _ _ h.shared, h.privA, h.privB⟩

theorem State.rd_setWord_addr (h : s.Regs) (hne : f.addr ≠ a) : (s.setWord a x).rd f = s.rd f := by
  rw [State.rd, State.word_setWord _ _ _ _ h.shared, if_neg hne, State.rd]

theorem State.Shows.setWord (h : s.Shows f v) (hne : f.addr ≠ a) : (s.setWord a x).Shows f v :=
  ⟨h.regs.setWord, (State.rd_setWord_addr h.regs hne).trans h.rd⟩

theorem State.Shows.ite {c : Prop} [Decidable c] (hs : s.Shows f v) (ht : t.Shows f v) : (if c then s else t).Shows f v := by
  split <;> assumption

set_option Elab.async false in
theorem State.Shows.over {α : Type} {l : List α} {step : State → α → State} (h : s.Shows f v)
    (hstep : ∀ u, ∀ y ∈ l, u.Shows f v → (step u y).Shows f v) : (s.over l step).Shows f v :=
  List.foldlRecOn l step h fun u hu y hy => hstep u y hy hu

end

/-! ### Answers to the owner, which are built at once -/

section
variable {s : State} {h : CmdHead}

theorem atOnce_ownerHead (s : State) (cseq : Nat) : s.atOnce (ownerHead cseq) = true := by
  have howner : isTenancy (ownerHead cseq).principal = false := rfl
  rw [State.atOnce, howner, Bool.and_false, Bool.not_false]

theorem State.answerAt_reg_of_atOnce (r opcode status : Nat) (body : List Nat) (ha : s.atOnce h = true) :
    (s.answerAt r h opcode status body).reg = s.reg :=
  State.reg_of_same (State.answerAt_same_of_atOnce (o := partMask [.links, .sched]) same_refl ha (by decide))

theorem State.answerAt_part_of_atOnce (r opcode status : Nat) (body : List Nat) (ha : s.atOnce h = true) :
    Same (partMask [.links, .sched]) s (s.answerAt r h opcode status body) :=
  State.answerAt_same_of_atOnce same_refl ha (by decide)

theorem State.sound_owner {s : State} (hs : s.sound = true) : pIdx 30 < s.links.prin.length := (State.sound_kept hs).prin ▸ by decide

/-- The owner's answer is the last item completed for it; the state it is given in has the items that `s` has. -/
theorem State.answerAt_owner {s u : State} (hs : s.sound = true) (hlinks : u.links = s.links) (r cseq opcode status : Nat) (body : List Nat) :
    ((u.answerAt r (ownerHead cseq) opcode status body).prin 30).completed =
      (s.prin 30).completed ++ [⟨opcode, status, cseq, r % 64, r / 64, body⟩] := by
  have hlen : pIdx (ownerHead cseq).principal < u.links.prin.length := by rw [hlinks]; exact State.sound_owner hs
  have hanswer := State.answerAt_completed (h := ownerHead cseq) r opcode status body (atOnce_ownerHead u cseq) hlen
  have hprin : u.prin 30 = s.prin 30 := by rw [State.prin, hlinks, State.prin]
  exact hanswer.trans (by rw [show u.prin (ownerHead cseq).principal = s.prin 30 from hprin]; rfl)

theorem State.answer_owner {s u : State} (hs : s.sound = true) (hlinks : u.links = s.links) (hclk : u.clk = s.clk) (cseq opcode status : Nat)
    (body : List Nat) : ((u.answer (ownerHead cseq) opcode status body).prin 30).completed =
      (s.prin 30).completed ++ [s.itemOf (ownerHead cseq) opcode status body] := by
  have hnow : u.now = s.now := by rw [State.now, hclk, State.now]
  rw [State.answer, State.answerAt_owner hs hlinks, hnow]
  rfl

end

end Sys2Proof.Machine
end

section
/-! SUPPORT. MTP writes: what their end leaves, and what GO of the provisioning window stores (R314 to R318, R339). -/

namespace Sys2Proof.Machine

open Sys2Proof

section
variable {s : State}

/-! ### The session counter's row -/

/-- A write that leaves the session counter fixes no session. -/
theorem State.sessionFixed_of_counter {u : State} (h : u.prot.sessionCounter = s.prot.sessionCounter) : u.sessionFixed s = u := by
  unfold State.sessionFixed
  rw [if_pos (by simp [h])]

theorem State.sessionFixed_prot (u s : State) : (u.sessionFixed s).prot = u.prot :=
  State.sessionFixed_same (o := partMask [.shared, .links, .sb, .boot]) same_refl (by decide) .prot (by decide)

/-- A counter that has changed is the session's number, where no session is known. -/
theorem State.sessionFixed_shows {u : State} (hregs : u.Regs) (hopen : u.boot.session = false)
    (hnew : u.prot.sessionCounter ≠ s.prot.sessionCounter) : (u.sessionFixed s).boot.session = true ∧
      (u.sessionFixed s).rd R.LK_SESSION_SESSION = u.prot.sessionCounter % 2 ^ 32 ∧
      (u.sessionFixed s).links.session = u.prot.sessionCounter % 2 ^ 32 := by
  unfold State.sessionFixed
  rw [if_neg (by simp [hopen, hnew])]
  refine ⟨rfl, ?_, rfl⟩
  exact ((State.Shows.wr_self (f := R.LK_SESSION_SESSION) hregs (Nat.mod_lt _ (by decide))).wr (g := R.BT_STATUS_SESSION_WAIT) (by decide)).rd

/-! ### A write completes -/

/-- What an unfinished MTP write raises. -/
noncomputable def mtpFailMsg (addr : Nat) : FaultMsg := { cls := 13, inst := 0, kind := 1, addr := addr }

/-- A write that fails leaves every value as it was. -/
theorem State.mtpDone_fails {w : MtpWrite} {rest : List MtpWrite} (hw : s.prot.mtp = w :: rest) :
    (s.mtpDone false).prot = { s.prot with mtp := rest } ∧
      ∃ a, (s.mtpDone false).faults = { s.faults with incoming := s.faults.incoming ++ [mtpFailMsg a] } := by
  unfold State.mtpDone
  rw [hw]
  have hanswered (u : State) (r cseq opcode status : Nat) : (u.answerAt r (ownerHead cseq) opcode status []).prot = u.prot ∧
      (u.answerAt r (ownerHead cseq) opcode status []).faults = u.faults :=
    have hsame := State.answerAt_part_of_atOnce (s := u) r opcode status [] (atOnce_ownerHead u cseq)
    ⟨hsame .prot (by decide), hsame .faults (by decide)⟩
  cases w with
  | key p which key cseq => exact ⟨(hanswered _ _ _ _ _).1, p, (hanswered _ _ _ _ _).2⟩
  | floor v cseq body => exact ⟨(hanswered _ _ _ _ _).1, 30, (hanswered _ _ _ _ _).2⟩
  | roll p => exact ⟨rfl, p, rfl⟩
  | session v => exact ⟨rfl, 0, rfl⟩
  | tripCount v => exact ⟨rfl, 0, rfl⟩
  | provision => exact ⟨rfl, 30, rfl⟩

theorem mtpWriteDone_fails_yields {w : MtpWrite} {rest : List MtpWrite} (hw : s.prot.mtp = w :: rest) :
    Yields (.mtpWriteDone false) s fun t => t.prot = { s.prot with mtp := rest } ∧ t.faults.incoming.length = s.faults.incoming.length + 1 ∧
      ∃ a, t.faults.incoming.getLast? = some { cls := 13, inst := 0, kind := 1, addr := a } := by
  obtain ⟨hprot, a, hfaults⟩ := State.mtpDone_fails hw
  have hexec := exec_mtpWriteDone false s
  rw [State.sessionFixed_of_counter (by rw [hprot])] at hexec
  exact ⟨_, hexec, hprot, by simp [hfaults], a, by simp [hfaults, mtpFailMsg]⟩

/-- A key that stands in its record as the next one, after one more write. -/
theorem mtpWriteDone_key_yields {p which cseq : Nat} {key : List Nat} {rest : List MtpWrite} (hs : s.sound = true) (hp : isPrincipal p = true)
    (hwhich : which ≠ 1) (hw : s.prot.mtp = .key p which key cseq :: rest) : Yields (.mtpWriteDone true) s fun t => t.prot.mtp = rest ∧
      t.keyRec p = { s.keyRec p with next := some key, grace := none, writes := satAdd 100000 (s.keyRec p).writes 1 } ∧
      (t.prin 30).completed = (s.prin 30).completed ++ [⟨0x42, Code.ok, cseq, (s.now + 1) % 64, (s.now + 1) / 64, kcv key ++ be 4 0⟩] := by
  let counted := (s.setProt fun x => { x with mtp := rest }).countWrite p
  let stored := counted.updKey p fun k => { k with next := some key, grace := none }
  have hdone : s.mtpDone true = stored.answerAt (s.now + 1) (ownerHead cseq) 0x42 Code.ok (kcv key ++ be 4 0) := by
    unfold State.mtpDone
    rw [hw]
    dsimp only
    rw [if_neg (by simp), if_neg hwhich]
    rfl
  have hsame := State.answerAt_part_of_atOnce (s := stored) (s.now + 1) 0x42 Code.ok (kcv key ++ be 4 0) (atOnce_ownerHead stored cseq)
  have hprot : (s.mtpDone true).prot = stored.prot := hdone ▸ hsame .prot (by decide)
  have hlen : pIdx p < s.prot.keys.length := State.sound_keys hs hp
  have hcounted : counted.keyRec p = { s.keyRec p with writes := satAdd 100000 (s.keyRec p).writes 1 } :=
    State.keyRec_updKey (s := s.setProt fun x => { x with mtp := rest }) _ hlen
  have hexec := exec_mtpWriteDone true s
  rw [State.sessionFixed_of_counter (by rw [hprot]; rfl)] at hexec
  refine ⟨_, hexec, by rw [hprot]; rfl, ?_, hdone ▸ State.answerAt_owner (u := stored) hs rfl _ _ _ _ _⟩
  rw [State.keyRec_of_prot p hprot, State.keyRec_updKey (s := counted) _ (show pIdx p < (modAt _ _ _).length from (modAt_length _ _ _).symm ▸ hlen), hcounted]

theorem mtpWriteDone_floor_yields {v cseq : Nat} {body : List Nat} {rest : List MtpWrite} (hs : s.sound = true)
    (hw : s.prot.mtp = .floor v cseq body :: rest) : Yields (.mtpWriteDone true) s fun t => t.prot.mtp = rest ∧
      t.prot.floor = max s.prot.floor v ∧
      (t.prin 30).completed = (s.prin 30).completed ++ [⟨0x41, Code.ok, cseq, (s.now + 1) % 64, (s.now + 1) / 64, body⟩] := by
  let raised := s.setProt fun x => { x with mtp := rest, floor := max x.floor v }
  have hdone : s.mtpDone true = raised.answerAt (s.now + 1) (ownerHead cseq) 0x41 Code.ok body := by
    unfold State.mtpDone
    rw [hw]
    rfl
  have hsame := State.answerAt_part_of_atOnce (s := raised) (s.now + 1) 0x41 Code.ok body (atOnce_ownerHead raised cseq)
  have hprot : (s.mtpDone true).prot = raised.prot := hdone ▸ hsame .prot (by decide)
  have hexec := exec_mtpWriteDone true s
  rw [State.sessionFixed_of_counter (by rw [hprot]; rfl)] at hexec
  exact ⟨_, hexec, congrArg Protect.mtp hprot, congrArg Protect.floor hprot, hdone ▸ State.answerAt_owner (u := raised) hs rfl _ _ _ _ _⟩

theorem mtpWriteDone_session_yields {v : Nat} {rest : List MtpWrite} (hs : s.sound = true) (hw : s.prot.mtp = .session v :: rest) :
    Yields (.mtpWriteDone true) s fun t => t.prot = { s.prot with mtp := rest, sessionCounter := v } ∧
      (s.boot.session = false → v ≠ s.prot.sessionCounter → t.boot.session = true ∧ t.rd R.LK_SESSION_SESSION = v % 2 ^ 32 ∧
        t.links.session = v % 2 ^ 32) := by
  have hdone : s.mtpDone true = s.setProt fun x => { x with mtp := rest, sessionCounter := v } := by
    unfold State.mtpDone
    rw [hw]
    rfl
  have hregs : (s.mtpDone true).Regs := (State.sound_regs hs).of_reg (by rw [hdone]; rfl)
  refine ⟨_, exec_mtpWriteDone true s, ?_, fun hopen hnew => ?_⟩
  · rw [State.sessionFixed_prot, hdone]
    rfl
  · have hcounter : (s.mtpDone true).prot.sessionCounter = v := by rw [hdone]; rfl
    have hshows := State.sessionFixed_shows (s := s) hregs (by rw [hdone]; exact hopen) (by rw [hcounter]; exact hnew)
    rwa [hcounter] at hshows

set_option Elab.async false in
theorem mtpWriteDone_tripCount_yields {v : Nat} {rest : List MtpWrite} (hw : s.prot.mtp = .tripCount v :: rest) :
    Yields (.mtpWriteDone true) s fun t => t.prot = { s.prot with mtp := rest, tripCounter := v } ∧ t.faults = s.faults := by
  have hdone : s.mtpDone true = s.setProt fun x => { x with mtp := rest, tripCounter := v } := by
    unfold State.mtpDone
    rw [hw]
    rfl
  have hexec := exec_mtpWriteDone true s
  rw [State.sessionFixed_of_counter (by rw [hdone]; rfl), hdone] at hexec
  exact ⟨_, hexec, rfl, rfl⟩

theorem exec_mtpWriteDone_idle {good : Bool} (hw : s.prot.mtp = []) : exec (.mtpWriteDone good) s = .next s := by
  have hdone : s.mtpDone good = s := by
    unfold State.mtpDone
    rw [hw]
  rw [exec_mtpWriteDone, hdone, State.sessionFixed_of_counter rfl]

/-! ### Provisioning -/

@[simp] theorem State.noteStatus_prot (s : State) (r : Requester) (code : Nat) : (s.noteStatus r code).prot = s.prot :=
  State.noteStatus_same (o := partMask [.sb]) same_refl (by decide) .prot (by decide)

/-- The entry of ATTIC_PROV_GO in the table of chapter 13. -/
noncomputable def provGoSpec : RegSpec := ⟨.ATTIC_PROV_GO, 0xb0460, [], .shared, [⟨0, 0, .w1s, .live, 0, .number, false⟩]⟩

theorem regAt_provGo : regAt A.ATTIC_PROV_GO = some ⟨provGoSpec, []⟩ := by decide +kernel

theorem atticProvGo_yields {r : Requester} (hs : s.sound = true) (hwf : r.wf = true) (hmay : s.mayWrite r A.ATTIC_PROV_GO 1 = true) :
    Yields (.atticProvGo r) s fun t => t.prot.provisioned = true ∧
      t.prot.provWindow = List.replicate 24 0 ∧ t.prot.imageKeyHash = some ((slice s.prot.provWindow 0 8).flatMap (be 4)) ∧
      t.prot.kek = some ((slice s.prot.provWindow 8 8).flatMap (be 4)) ∧
      (t.keyRec 30).current = some ((slice s.prot.provWindow 16 8).flatMap (be 4)) ∧ t.prot.mtp = s.prot.mtp ++ [.provision] := by
  have hwrite := State.regWrite_plain hmay regAt_provGo (by decide) (by decide) rfl
  have hexec := (exec_atticProvGo r s hwf).trans (congrArg _ hwrite)
  have hprot : ∀ code, (((s.dropHeld r).provGo).noteStatus r code).prot = (s.dropHeld r).provGo.prot := State.noteStatus_prot _ _
  refine ⟨_, hexec, congrArg Protect.provisioned (hprot _), congrArg Protect.provWindow (hprot _), congrArg Protect.imageKeyHash (hprot _),
    congrArg Protect.kek (hprot _), ?_, congrArg Protect.mtp (hprot _)⟩
  refine (congrArg KeyRec.current (State.keyRec_of_prot 30 (hprot _))).trans ?_
  exact congrArg KeyRec.current (State.keyRec_updKey (p := 30) _ (show pIdx 30 < s.prot.keys.length from State.sound_keys hs (by decide)))

end

/-- Settles O48. That a value is in use once its write has completed, while GO stores its values at once and queues one write for them, is the reading of
log entry 68; that of two floors in progress the higher stays is that of log entry 79. -/
theorem mtpWrites : Obligations.MtpWrites := by
  unfold Obligations.MtpWrites
  intro s hs
  exact ⟨fun _ _ _ _ _ hp hwhich hw => mtpWriteDone_key_yields hs hp hwhich hw, fun _ _ _ _ hw => mtpWriteDone_floor_yields hs hw,
    fun _ _ hw => mtpWriteDone_session_yields hs hw, fun _ _ hw => mtpWriteDone_tripCount_yields hw, fun _ _ hw => mtpWriteDone_fails_yields hw,
    fun _ hw => exec_mtpWriteDone_idle hw, fun _ hwf hmay => atticProvGo_yields hs hwf hmay⟩

end Sys2Proof.Machine
end

section
/-! TESTS. States with an MTP write in progress. -/

namespace Sys2Proof.Machine

open Sys2Proof

/-- A running block with one MTP write in progress and floor 7. -/
noncomputable def mtpBlock (w : MtpWrite) : State := { runningBlock with prot := { runningBlock.prot with mtp := [w], floor := 7 } }

theorem mtpBlock_sound (w : MtpWrite) : (mtpBlock w).sound = true := (by decide +kernel : (mtpBlock .provision).sound = true)

theorem mtpBlock_key : Yields (.mtpWriteDone true) (mtpBlock (.key 15 0 [1] 9)) fun t => t.prot.mtp = [] ∧ (t.keyRec 15).next = some [1] :=
  (mtpWriteDone_key_yields (mtpBlock_sound _) (by decide) (by decide) rfl).imp fun t ⟨hmtp, hrec, _⟩ => ⟨hmtp, congrArg KeyRec.next hrec⟩

set_option Elab.async false in
/-- A floor of 3 leaves the floor at 7. -/
theorem mtpBlock_floor : Yields (.mtpWriteDone true) (mtpBlock (.floor 3 9 [])) fun t => t.prot.floor = 7 :=
  (mtpWriteDone_floor_yields (mtpBlock_sound _) rfl).imp fun _ ⟨_, hfloor, _⟩ => hfloor

end Sys2Proof.Machine
end


section
/-! SUPPORT. What waits for its boundary: key rolls and their grace copies, a protection change that is committed or armed (R316, R319, R321 to R323). -/

namespace Sys2Proof.Machine

open Sys2Proof

/-! ### Key rolls -/

section
variable {s : State} {p b cseq : Nat}

theorem State.keyRollApply_waits (h : ((s.keyRec p).roll.all fun x => decide (s.clk.frame < x.1)) = true) : s.keyRollApply p = s := by
  unfold State.keyRollApply
  cases hroll : (s.keyRec p).roll with
  | none => rfl
  | some x =>
    rw [hroll] at h
    exact if_pos (of_decide_eq_true h)

theorem State.graceEnd_waits (h : ((s.keyRec p).grace.all fun x => decide (s.clk.frame < x.2)) = true) : s.graceEnd p = s := by
  unfold State.graceEnd
  cases hgrace : (s.keyRec p).grace with
  | none => rfl
  | some x =>
    rw [hgrace] at h
    exact if_neg (Nat.not_le.2 (of_decide_eq_true h))

/-- The record after a roll: the next key has become the current one, or both are erased. -/
noncomputable def KeyRec.rolled (k : KeyRec) (b : Nat) (clear : Bool) : KeyRec :=
  if clear then { k with current := none, next := none, grace := none, roll := none }
  else { k with current := k.next, next := none, grace := k.next.map fun x => (x, b + 1000), roll := none }

theorem State.keyRollApply_due {clear : Bool} (hroll : (s.keyRec p).roll = some (b, clear, cseq)) (hb : b ≤ s.clk.frame) :
    s.keyRollApply p = ((s.updKey p (·.rolled b clear)).startMtp (.roll p)).answer (ownerHead cseq) 0x43 Code.ok := by
  unfold State.keyRollApply
  simp only [hroll]
  exact if_neg (Nat.not_lt.2 hb)

theorem keyRollApply_yields {clear : Bool} (hs : s.sound = true) (hp : isPrincipal p = true) (hroll : (s.keyRec p).roll = some (b, clear, cseq))
    (hb : b ≤ s.clk.frame) : Yields (.keyRollApply p) s fun t => t.keyRec p = (s.keyRec p).rolled b clear ∧
      t.prot.mtp = s.prot.mtp ++ [.roll p] ∧
      (t.prin 30).completed = (s.prin 30).completed ++ [s.itemOf (ownerHead cseq) 0x43 Code.ok []] := by
  let u := (s.updKey p (·.rolled b clear)).startMtp (.roll p)
  have hprot : (u.answer (ownerHead cseq) 0x43 Code.ok).prot = u.prot :=
    State.answer_same_of_atOnce 0x43 Code.ok [] (atOnce_ownerHead u cseq) .prot (by decide)
  have hexec := exec_keyRollApply p s hp
  rw [State.keyRollApply_due hroll hb] at hexec
  refine ⟨_, hexec, ?_, congrArg Protect.mtp hprot, State.answer_owner (u := u) hs rfl rfl _ _ _ _⟩
  rw [State.keyRec_of_prot p hprot]
  exact State.keyRec_updKey _ (State.sound_keys hs hp)

theorem graceEnd_yields {k : List Nat} {e : Nat} (hs : s.sound = true) (hp : isPrincipal p = true) (hgrace : (s.keyRec p).grace = some (k, e))
    (he : e ≤ s.clk.frame) : Yields (.graceEnd p) s fun t => t.keyRec p = { s.keyRec p with grace := none } := by
  have hdue : s.graceEnd p = s.updKey p fun k => { k with grace := none } := by
    unfold State.graceEnd
    simp only [hgrace]
    exact if_pos he
  have hexec := exec_graceEnd p s hp
  rw [hdue] at hexec
  exact ⟨_, hexec, State.keyRec_updKey _ (State.sound_keys hs hp)⟩

end

/-! ### A committed change: it waits, or is discarded -/

section
variable {s : State} {c : Change} {b cseq : Nat}

theorem State.protectApply_waits (h : (s.prot.change.all fun c => c.committed.all fun x => decide (s.clk.frame < x.1)) = true) :
    s.protectApply = s := by
  unfold State.protectApply
  cases hc : s.prot.change with
  | none => rfl
  | some c =>
    cases hcommitted : c.committed with
    | none => simp [hcommitted]
    | some x =>
      simp only [hc, Option.all_some, hcommitted, decide_eq_true_eq] at h
      simp [hcommitted, h]

theorem State.protectApply_due (hc : s.prot.change = some c) (hcommitted : c.committed = some (b, cseq)) (hb : b ≤ s.clk.frame) :
    s.protectApply = if s.changeCode c.bodies = 0 then s.applyChange c cseq
      else s.disarm.answer (ownerHead cseq) 0x41 (s.changeCode c.bodies) := by
  unfold State.protectApply
  simp only [hc, hcommitted]
  rw [if_neg (Nat.not_lt.2 hb)]
  split
  next hcode => rw [if_pos hcode]
  next hcode => rw [if_neg hcode]

theorem protectApply_discards_yields (hs : s.sound = true) (hc : s.prot.change = some c) (hcommitted : c.committed = some (b, cseq))
    (hb : b ≤ s.clk.frame) (hcode : s.changeCode c.bodies ≠ 0) : Yields .protectApply s fun t => t.prot = { s.prot with change := none } ∧
      t.reg = s.reg ∧ (t.prin 30).completed = (s.prin 30).completed ++ [s.itemOf (ownerHead cseq) 0x41 (s.changeCode c.bodies) []] := by
  have hsame := State.answer_same_of_atOnce 0x41 (s.changeCode c.bodies) [] (atOnce_ownerHead s.disarm cseq)
  have hexec := exec_protectApply s
  rw [State.protectApply_due hc hcommitted hb, if_neg hcode] at hexec
  exact ⟨_, hexec, hsame .prot (by decide), (State.reg_of_same hsame).trans rfl, State.answer_owner (u := s.disarm) hs rfl rfl _ _ _ _⟩

/-! ### An armed change expires -/

set_option Elab.async false in
theorem State.protectExpire_due (hc : s.prot.change = some c) (hopen : c.committed = none) (he : c.expires ≤ s.clk.frame) :
    s.protectExpire = s.disarm := by
  unfold State.protectExpire
  simp [hc, hopen, he]

theorem State.protectExpire_waits (h : (s.prot.change.all fun c => c.committed.isSome || decide (s.clk.frame < c.expires)) = true) :
    s.protectExpire = s := by
  unfold State.protectExpire
  cases hc : s.prot.change with
  | none => rfl
  | some c =>
    simp only [hc, Option.all_some, Bool.or_eq_true, decide_eq_true_eq] at h
    refine if_neg fun hdue => ?_
    obtain ⟨hopen, hexpired⟩ := hdue
    rw [Option.isNone_iff_eq_none] at hopen
    rw [hopen] at h
    exact h.elim (by simp) fun hlater => absurd hexpired (Nat.not_le.2 hlater)

end

/-! ### A committed change takes effect: the fields that its steps leave -/

section
variable {s : State} {f : FieldAt} {v t : Nat} {x : ArmBody}

/-- A cancelled commit shows in the count of open tokens alone. -/
theorem State.Shows.cancelCommit (h : s.Shows f v) (c : Commit) (hf : f.addr ≠ A.AP_TOKEN_STATUS) : (s.cancelCommit c).Shows f v := by
  have hshown : ({ s with com := { s.com with tokens := s.com.tokens.filter fun k => k.commit != c.num } } : State).showTokens.Shows f v :=
    State.Shows.wr (g := R.AP_TOKEN_STATUS_OPEN) (h.of_reg rfl) hf
  exact hshown.of_same (o := partMask [.route, .com, .links, .sched])
    (State.complete_same (State.dropCommit_same (State.removeItems_same same_refl (by decide)) (by decide)) (by decide))

theorem State.Shows.dropFor (h : s.Shows f v) (p : Nat) (hit : PItem → Bool) (hf : f.addr ≠ A.AP_TOKEN_STATUS) : (s.dropFor p hit).Shows f v := by
  have hnotices {u : State} (l : List PItem) (hu : u.Shows f v) : (u.over l fun s it => s.dropNotice it Code.stageDropped).Shows f v :=
    hu.of_same (o := partMask [.links]) (State.over_same (fun _ _ hk => State.dropNotice_same hk (by decide)) same_refl)
  have hcancelled := h.over (l := s.com.commits.filter fun c => c.principal == p && c.waiting &&
      (s.route.items.filter fun it => it.principal == p && hit it).any fun it => it.takenBy == some c.num)
    (step := fun s c => (s.over (s.itemsOf c.num) fun s it => s.dropNotice it Code.stageDropped).cancelCommit c)
    fun u c _ hu => (hnotices _ hu).cancelCommit c hf
  exact (hnotices _ hcancelled).of_same (o := partMask [.route, .links]) (State.removeItems_same same_refl (by decide))

theorem State.Shows.stripTenancy (h : s.Shows f v) (before : State) (hf : f.addr ≠ A.AP_TOKEN_STATUS) :
    (s.stripTenancy before t).Shows f v := by
  have hdropped (pass : Conn → Bool) (hit : PItem → Bool) : ((s.passToOwner t pass).dropFor t hit).Shows f v :=
    (h.of_same (o := partMask [.route]) (State.passToOwner_same same_refl (by decide))).dropFor t hit hf
  have hends {u : State} (l : List Commit) (hu : u.Shows f v) :
      (u.over l fun s c => (s.dropCommit c.num).endFlight c.principal c.cseq).Shows f v :=
    hu.of_same (o := partMask [.com, .sched])
      (State.over_same (fun _ _ hk => State.endFlight_same (State.dropCommit_same hk (by decide)) (by decide)) same_refl)
  unfold State.stripTenancy
  exact State.Shows.ite (hdropped _ _) ((hends _ (hdropped _ _)).of_reg rfl)

theorem State.Shows.newEpoch (h : s.Shows f v) (p : Nat) (hf : f.addr ≠ A.PR_EPOCH p) : (s.newEpoch p).Shows f v :=
  (h.wr (g := R.PR_EPOCH_EPOCH p) hf).of_same (o := partMask [.links]) (State.notice_same same_refl (by decide))

/-- The principal's epoch is one further. -/
theorem State.Shows.newEpoch_self {p e : Nat} (h : s.Shows (R.PR_EPOCH_EPOCH p) e) : (s.newEpoch p).Shows (R.PR_EPOCH_EPOCH p) ((e + 1) % 2 ^ 32) := by
  have hnext : (s.epoch p + 1) % 2 ^ 32 = (e + 1) % 2 ^ 32 := by rw [State.epoch, h.rd]
  have hset : (s.wr (R.PR_EPOCH_EPOCH p) ((e + 1) % 2 ^ 32)).Shows (R.PR_EPOCH_EPOCH p) ((e + 1) % 2 ^ 32) :=
    State.Shows.wr_self h.regs (Nat.mod_lt _ (by decide))
  unfold State.newEpoch
  rw [hnext]
  exact hset.of_same (o := partMask [.links]) (State.notice_same same_refl (by decide))

/-- A body writes its target's record, the port sets of a tenancy, the lock. -/
theorem State.Shows.putRecord13 (h : s.Shows f v) (hcfg : f.addr ≠ if isTenancy x.target then A.PR_TEN_CFG x.target else A.PR_OWNER)
    (hports : f.addr < 0xb1000) (hlock : f.addr ≠ A.PR_LOCK) : (s.putRecord13 x).Shows f v := by
  unfold State.putRecord13
  extract_lets t on cfg part enabled bound inScope inSet outSet
  have hpart {u : State} (hi lo : Nat) (hu : u.Shows f v) : (part u hi lo).Shows f v := hu.setWord hcfg
  have hscope : inScope.Shows f v :=
    have henabled : enabled.Shows f v := State.Shows.ite (hpart _ _ h) h
    have hbound : bound.Shows f v := State.Shows.ite (hpart _ _ henabled) henabled
    State.Shows.ite (hpart _ _ hbound) hbound
  have hin : inSet.Shows f v :=
    State.Shows.ite (hscope.over fun _ k _ hu => hu.wr (by simp only [R.PR_TEN_IN_PORTS, A.PR_TEN_IN]; omega)) hscope
  have hout : outSet.Shows f v :=
    State.Shows.ite (hin.over fun _ k _ hu => hu.wr (by simp only [R.PR_TEN_OUT_PORTS, A.PR_TEN_OUT]; omega)) hin
  exact State.Shows.ite (hout.setWord hlock) hout

/-- A body that names the ENABLE of its tenancy sets it. -/
theorem State.putRecord13_enable (h : s.Regs) (ht : isTenancy x.target = true) (hon : x.fields.testBit 0 = true) :
    (s.putRecord13 x).Shows (R.PR_TEN_CFG_ENABLE x.target) (bits x.cfg 23 23) := by
  have htarget : x.target < 16 := of_decide_eq_true ht
  unfold State.putRecord13
  extract_lets t on cfg part enabled bound inScope inSet outSet
  have hcfg : R.PR_TEN_CFG_ENABLE x.target = ⟨cfg, 23, 23⟩ := by
    rw [show cfg = A.PR_TEN_CFG x.target from if_pos ht]
    rfl
  have hlow : cfg < 0xb0240 ∧ cfg ≠ A.PR_LOCK := by
    rw [show cfg = A.PR_TEN_CFG x.target from if_pos ht]
    simp only [A.PR_TEN_CFG, A.PR_LOCK]
    omega
  rw [hcfg]
  have henabled : enabled.Shows ⟨cfg, 23, 23⟩ (bits x.cfg 23 23) := by
    rw [show enabled = s.wr ⟨cfg, 23, 23⟩ (bits x.cfg 23 23) from if_pos hon]
    exact State.Shows.wr_self h (Nat.mod_lt _ (by decide))
  have hbound : bound.Shows ⟨cfg, 23, 23⟩ (bits x.cfg 23 23) := State.Shows.ite (henabled.wr_apart (g := ⟨cfg, 31, 24⟩)) henabled
  have hscope : inScope.Shows ⟨cfg, 23, 23⟩ (bits x.cfg 23 23) := State.Shows.ite (hbound.wr_apart (g := ⟨cfg, 4, 0⟩)) hbound
  have hin : inSet.Shows ⟨cfg, 23, 23⟩ (bits x.cfg 23 23) :=
    State.Shows.ite (hscope.over fun _ k _ hu => hu.wr (by simp only [R.PR_TEN_IN_PORTS, A.PR_TEN_IN]; omega)) hscope
  have hout : outSet.Shows ⟨cfg, 23, 23⟩ (bits x.cfg 23 23) :=
    State.Shows.ite (hin.over fun _ k _ hu => hu.wr (by simp only [R.PR_TEN_OUT_PORTS, A.PR_TEN_OUT]; omega)) hin
  exact State.Shows.ite (hout.setWord hlow.2) hout

/-! ### A committed change takes effect -/

/-- The state in which a change has been applied and before the owner is told. -/
noncomputable def State.changed (s : State) (c : Change) : State :=
  let named := (c.bodies.map (·.target)).filter isTenancy
  (((s.over c.bodies State.putRecord13).over named fun u t => u.stripTenancy s t).over (30 :: named) State.newEpoch).evalAlignment.disarm

/-- Applied, the change is answered at once, or after the write of its floor. -/
theorem State.applyChange_of_changed (c : Change) (cseq : Nat) : (s.applyChange c cseq).prot.change = none ∧
    ∃ o, o.testBit Part.shared.ix = false ∧ Same o (s.changed c) (s.applyChange c cseq) := by
  unfold State.applyChange
  extract_lets before put named stripped epochs aligned body
  split
  · exact ⟨rfl, partMask [.prot], by decide, State.startMtp_same same_refl (by decide)⟩
  · have hsame := State.answer_same_of_atOnce 0x41 Code.ok body (atOnce_ownerHead aligned cseq)
    exact ⟨(congrArg Protect.change (hsame .prot (by decide))).trans rfl, _, by decide, hsame⟩

/-- The epochs that stand between the records and the owner's new one. -/
theorem State.epoch_changed_owner (c : Change) (hs : s.Regs) : (s.changed c).epoch 30 = (s.epoch 30 + 1) % 2 ^ 32 := by
  have hput : (s.over c.bodies State.putRecord13).Shows (R.PR_EPOCH_EPOCH 30) (s.epoch 30) :=
    (State.Shows.of_rd hs _).over fun _ x _ hu => hu.putRecord13 (by
      split
      next ht =>
        have htarget : x.target < 16 := of_decide_eq_true ht
        simp only [R.PR_EPOCH_EPOCH, A.PR_EPOCH, A.PR_TEN_CFG]
        omega
      next => decide) (by decide) (by decide)
  have hstripped := hput.over (l := (c.bodies.map (·.target)).filter isTenancy) (step := fun u t => u.stripTenancy s t)
    fun _ t _ hu => hu.stripTenancy s (by decide)
  have hnew := hstripped.newEpoch_self.over (l := (c.bodies.map (·.target)).filter isTenancy) (step := State.newEpoch) fun _ t ht hu =>
    hu.newEpoch t (by
      have htarget : t < 16 := of_decide_eq_true (List.mem_filter.1 ht).2
      simp only [R.PR_EPOCH_EPOCH, A.PR_EPOCH]
      omega)
  exact (hnew.of_same (o := partMask [.route, .prot]) (State.disarm_same (State.evalAlignment_same same_refl (by decide)) (by decide))).rd

/-- A change of one tenancy: its record, then its epoch after the owner's. -/
theorem State.changed_tenancy {c : Change} (hs : s.Regs) (hbodies : c.bodies = [x]) (ht : isTenancy x.target = true)
    (hon : x.fields.testBit 0 = true) : (s.changed c).rd (R.PR_TEN_CFG_ENABLE x.target) = bits x.cfg 23 23 ∧
      (s.changed c).epoch x.target = (s.epoch x.target + 1) % 2 ^ 32 := by
  have htarget : x.target < 16 := of_decide_eq_true ht
  have hchanged : s.changed c =
      ((((s.putRecord13 x).stripTenancy s x.target).newEpoch 30).newEpoch x.target).evalAlignment.disarm := by
    have hnamed : ([x].map (·.target)).filter isTenancy = [x.target] := by simp [ht]
    simp only [State.changed, hbodies, hnamed, State.over, List.foldl_cons, List.foldl_nil]
  have hend {u : State} : Same (partMask [.route, .prot]) u u.evalAlignment.disarm :=
    State.disarm_same (State.evalAlignment_same same_refl (by decide)) (by decide)
  have henable := (State.putRecord13_enable hs ht hon).stripTenancy (t := x.target) s (by simp only [R.PR_TEN_CFG_ENABLE, A.PR_TEN_CFG, A.AP_TOKEN_STATUS]; omega)
  have hepoch := ((State.Shows.of_rd hs (R.PR_EPOCH_EPOCH x.target)).putRecord13 (x := x)
    (by rw [if_pos ht]; simp only [R.PR_EPOCH_EPOCH, A.PR_EPOCH, A.PR_TEN_CFG]; omega)
    (by simp only [R.PR_EPOCH_EPOCH, A.PR_EPOCH]; omega) (by simp only [R.PR_EPOCH_EPOCH, A.PR_EPOCH, A.PR_LOCK]; omega)).stripTenancy
      (t := x.target) s (by simp only [R.PR_EPOCH_EPOCH, A.PR_EPOCH, A.AP_TOKEN_STATUS]; omega)
  have hcfg (p : Nat) (hp : p ≤ 30) : (R.PR_TEN_CFG_ENABLE x.target).addr ≠ A.PR_EPOCH p := by
    simp only [R.PR_TEN_CFG_ENABLE, A.PR_TEN_CFG, A.PR_EPOCH]
    omega
  rw [hchanged]
  refine ⟨(((henable.newEpoch 30 (hcfg 30 (by decide))).newEpoch x.target (hcfg _ (by omega))).of_same hend).rd, ?_⟩
  exact ((hepoch.newEpoch 30 (by simp only [R.PR_EPOCH_EPOCH, A.PR_EPOCH]; omega)).newEpoch_self.of_same hend).rd

theorem protectApply_applies_yields {c : Change} {b cseq : Nat} (hs : s.sound = true) (hc : s.prot.change = some c)
    (hcommitted : c.committed = some (b, cseq)) (hb : b ≤ s.clk.frame) (hcode : s.changeCode c.bodies = 0) :
    Yields .protectApply s fun t => t.prot.change = none ∧ t.epoch 30 = (s.epoch 30 + 1) % 2 ^ 32 ∧
      ∀ x, c.bodies = [x] → isTenancy x.target = true → x.fields.testBit 0 = true →
        t.rd (R.PR_TEN_CFG_ENABLE x.target) = bits x.cfg 23 23 ∧ t.epoch x.target = (s.epoch x.target + 1) % 2 ^ 32 := by
  have hregs := State.sound_regs hs
  obtain ⟨hchange, o, ho, hsame⟩ := s.applyChange_of_changed c cseq
  have hexec := exec_protectApply s
  rw [State.protectApply_due hc hcommitted hb, if_pos hcode] at hexec
  refine ⟨_, hexec, hchange, (State.rd_of_same _ hsame ho).trans (State.epoch_changed_owner c hregs), fun x hbodies ht hon => ?_⟩
  obtain ⟨henable, hepoch⟩ := State.changed_tenancy hregs hbodies ht hon
  exact ⟨(State.rd_of_same _ hsame ho).trans henable, (State.rd_of_same _ hsame ho).trans hepoch⟩

end

set_option Elab.async false in
/-- Settles O49. That the write of a roll joins the others at its boundary, where the new key is in use at once, is the reading of log entry 68. -/
theorem changesApply : Obligations.ChangesApply := by
  unfold Obligations.ChangesApply
  intro s p hs hp
  refine ⟨fun b clear cseq hroll hb => keyRollApply_yields hs hp hroll hb, fun h => ?_, fun k e hgrace he => graceEnd_yields hs hp hgrace he,
    fun h => ?_, fun c b cseq hc hcommitted hb hcode => protectApply_discards_yields hs hc hcommitted hb hcode,
    fun c b cseq hc hcommitted hb hcode _ => protectApply_applies_yields hs hc hcommitted hb hcode, fun h => ?_,
    fun c hc hopen he => ?_, fun h => ?_⟩
  · rw [exec_keyRollApply p s hp, State.keyRollApply_waits h]
  · rw [exec_graceEnd p s hp, State.graceEnd_waits h]
  · rw [exec_protectApply, State.protectApply_waits h]
  · rw [exec_protectExpire, State.protectExpire_due hc hopen he]
    rfl
  · rw [exec_protectExpire, State.protectExpire_waits h]

end Sys2Proof.Machine
end

section
/-! TESTS. A state in which a roll and a change wait for frame 9. -/

namespace Sys2Proof.Machine

open Sys2Proof

/-- A running block at frame 9 whose tenancy 15 rolls to its next key now; `change` waits. -/
noncomputable def waitingBlock (change : Option Change) : State :=
  { runningBlock with
    clk := { runningBlock.clk with frame := 9 }
    prot := { runningBlock.prot with
      change := change
      keys := List.replicate 15 {} ++ [{ current := some [1], next := some [2], roll := some (9, false, 4) }, {}] } }

theorem waitingBlock_sound (change : Option Change) : (waitingBlock change).sound = true := (by decide +kernel : (waitingBlock none).sound = true)

theorem waitingBlock_roll : Yields (.keyRollApply 15) (waitingBlock none) fun t => (t.keyRec 15).current = some [2] :=
  (keyRollApply_yields (b := 9) (clear := false) (cseq := 4) (waitingBlock_sound _) (by decide +kernel) rfl (by decide)).imp fun t ⟨hrec, _⟩ => congrArg KeyRec.current hrec

/-- Tenancy 15 is enabled at frame 9. -/
noncomputable def enableChange : Change := { armId := 1, bodies := [enableBody], digest := 0, expires := 9, lastArm := 0, committed := some (9, 4) }

theorem waitingBlock_applies : Yields .protectApply (waitingBlock (some enableChange)) fun t => t.rd (R.PR_TEN_CFG_ENABLE 15) = 1 :=
  (protectApply_applies_yields (c := enableChange) (waitingBlock_sound _) rfl rfl (by decide) (by decide +kernel)).imp fun t ⟨_, _, hone⟩ =>
    (hone enableBody rfl (by decide) (by decide)).1.trans (by decide)

end Sys2Proof.Machine
end


section
/-! SUPPORT. The roles of the planes: what sets a health, an exchange of the roles, an answer, a fence that a supervisor asks for (R345, R346, R350,
R362). -/

namespace Sys2Proof.Machine

open Sys2Proof

/-! ### Answers in any mode -/

section
variable {s t : State} {f : FieldAt} {v : Nat}

/-- An answer shows in the count of late SEALED responses alone. -/
theorem State.Shows.answerAt (h : s.Shows f v) (r : Nat) (head : CmdHead) (opcode status : Nat) (body : List Nat) (hf : f.addr ≠ A.SCH_EVENTS2) :
    (s.answerAt r head opcode status body).Shows f v := by
  have hpush {u : State} (p : Nat) (ready : Option Nat) (it : Item) (hu : u.Shows f v) : (u.pushItem p ready it).Shows f v :=
    hu.of_same (o := partMask [.links]) (State.pushItem_same same_refl (by decide))
  unfold State.answerAt
  extract_lets ended it
  have hended : ended.Shows f v :=
    State.Shows.ite h (h.of_same (o := partMask [.sched]) (State.endFlight_same same_refl (by decide)))
  split
  · split
    · exact State.Shows.ite (hpush _ _ _ hended) (hpush _ _ _ ((hended.wr hf).of_reg rfl))
    · exact hpush _ _ _ hended
  · exact hpush _ _ _ hended

/-- An answer hands no fence to the supervisors. -/
theorem State.answerAt_fenceDue (s : State) (r : Nat) (head : CmdHead) (opcode status : Nat) (body : List Nat) :
    (s.answerAt r head opcode status body).faults.fenceDue = s.faults.fenceDue := by
  have hpush (u : State) (p : Nat) (ready : Option Nat) (it : Item) : (u.pushItem p ready it).faults.fenceDue = u.faults.fenceDue :=
    congrArg Faults.fenceDue (State.pushItem_same (o := partMask [.links]) same_refl (by decide) .faults (by decide))
  unfold State.answerAt
  extract_lets ended it
  have hended : ended.faults.fenceDue = s.faults.fenceDue := by
    show (if _ then _ else _ : State).faults.fenceDue = _
    split <;> rfl
  split
  · split
    · split <;> exact (hpush _ _ _ _).trans hended
    · exact (hpush _ _ _ _).trans hended
  · exact (hpush _ _ _ _).trans hended

theorem State.answerAt_parts (s : State) (r : Nat) (head : CmdHead) (opcode status : Nat) (body : List Nat) :
    Same (partMask [.shared, .links, .sched, .faults]) s (s.answerAt r head opcode status body) :=
  State.answerAt_same same_refl (by decide)

end

/-! ### Health and activity -/

section
variable {s t : State} {f : FieldAt} {p : Plane} {v x : Nat}

set_option Elab.async false in
theorem State.setHealth_shows (h : s.Regs) (hx : x < 4) : (s.setHealth p x).Shows (healthField p) x := by
  cases p <;> exact (State.Shows.wr_self (s := s) h hx).of_reg rfl

/-- The health of a plane is neither that of the other plane nor a field of the roles. -/
theorem State.Shows.setHealth (h : s.Shows f v) (hf : f ∈ [healthField (other p), R.PL_ROLE_ACTIVE, R.PL_ROLE_LAST_RESORT]) :
    (s.setHealth p x).Shows f v := by
  have hwr : (s.wr (healthField p) x).Shows f v := by
    simp only [List.mem_cons, List.not_mem_nil, or_false] at hf
    rcases hf with rfl | rfl | rfl <;> cases p <;> exact h.wr_apart
  exact hwr.of_reg rfl

theorem State.Shows.setHealth_addr (h : s.Shows f v) (hf : f.addr ≠ A.PL_ROLE) : (s.setHealth p x).Shows f v :=
  State.Shows.of_reg (h.wr (g := healthField p) (by cases p <;> exact hf)) rfl

/-- The count of swaps of the state in which the planes' roles are exchanged. -/
theorem State.swapRoles_shows (h : s.Regs) : s.swapRoles.Shows R.PL_ROLE_ACTIVE (1 - s.rd R.PL_ROLE_ACTIVE) ∧
    s.swapRoles.Shows R.PL_ROLE_SWAPS (satAdd R.PL_ROLE_SWAPS.top (s.rd R.PL_ROLE_SWAPS) 1) := by
  have hactive : (s.wr R.PL_ROLE_ACTIVE (1 - s.rd R.PL_ROLE_ACTIVE)).Shows R.PL_ROLE_ACTIVE (1 - s.rd R.PL_ROLE_ACTIVE) :=
    State.Shows.wr_self h (show 1 - s.rd R.PL_ROLE_ACTIVE < 2 by omega)
  have hswaps := ((State.Shows.of_rd h R.PL_ROLE_SWAPS).wr_apart (g := R.PL_ROLE_ACTIVE) (x := 1 - s.rd R.PL_ROLE_ACTIVE))
  have hcounted := State.Shows.wr_self hswaps.regs (FieldAt.satAdd_top_lt R.PL_ROLE_SWAPS (s.rd R.PL_ROLE_SWAPS) 1)
  refine ⟨(hactive.wr_apart (g := R.PL_ROLE_SWAPS)).of_reg rfl, State.Shows.of_reg (t := s.swapRoles) hcounted ?_⟩
  show ((s.wr R.PL_ROLE_ACTIVE (1 - s.rd R.PL_ROLE_ACTIVE)).bump R.PL_ROLE_SWAPS 1).reg = _
  rw [State.bump, hswaps.rd]

theorem State.Shows.swapRoles (h : s.Shows f v) (hf : f ∈ [healthField .A, healthField .B, R.PL_ROLE_LAST_RESORT]) : s.swapRoles.Shows f v := by
  have hactive : (s.wr R.PL_ROLE_ACTIVE (1 - s.rd R.PL_ROLE_ACTIVE)).Shows f v := by
    simp only [List.mem_cons, List.not_mem_nil, or_false] at hf
    rcases hf with rfl | rfl | rfl <;> exact h.wr_apart
  have hcounted : ((s.wr R.PL_ROLE_ACTIVE (1 - s.rd R.PL_ROLE_ACTIVE)).bump R.PL_ROLE_SWAPS 1).Shows f v := by
    simp only [List.mem_cons, List.not_mem_nil, or_false] at hf
    rcases hf with rfl | rfl | rfl <;> exact hactive.wr_apart
  exact hcounted.of_reg rfl

/-- The plane that is active where ACTIVE reads the other value. -/
theorem State.active_of_flip (h : t.rd R.PL_ROLE_ACTIVE = 1 - s.rd R.PL_ROLE_ACTIVE) : t.active = s.standby := by
  have hlt : s.rd R.PL_ROLE_ACTIVE < 2 := State.rd_lt s R.PL_ROLE_ACTIVE
  have hcases : s.rd R.PL_ROLE_ACTIVE = 0 ∨ s.rd R.PL_ROLE_ACTIVE = 1 := by omega
  rcases hcases with h0 | h1
  · simp [State.active, State.standby, State.on, h, h0, other]
  · simp [State.active, State.standby, State.on, h, h1, other]

theorem State.Shows.active (h : t.Shows R.PL_ROLE_ACTIVE (s.rd R.PL_ROLE_ACTIVE)) : t.active = s.active := State.active_of_rd h.rd

theorem other_ne (p : Plane) : other p ≠ p := by cases p <;> decide
theorem other_other (p : Plane) : other (other p) = p := by cases p <;> rfl
theorem eq_other_of_ne {p q : Plane} (h : q ≠ p) : q = other p := by cases p <;> cases q <;> first | rfl | exact absurd rfl h

end

/-! ### A fence that a supervisor asks for -/

section
variable {s u : State} {m : FaultMsg} {phi : Nat} {p : Plane}

/-- The fence that follows where the message's severity is SEVERE. -/
noncomputable def State.fenceIfSevere (s : State) (m : FaultMsg) (phi : Nat) (p : Plane) : State := if s.fencing m then s.fenceAt phi p false else s

theorem State.fenceIfSevere_same (s : State) (m : FaultMsg) (phi : Nat) (p : Plane) :
    Same (partMask [.faults]) s (s.fenceIfSevere m phi p) :=
  ite_same (State.fenceAt_same same_refl (by decide)) same_refl

set_option Elab.async false in
theorem State.Shows.raise {f : FieldAt} {v : Nat} (h : s.Shows f v) (m : FaultMsg) : (s.raise m).Shows f v := h.of_reg rfl
theorem State.Shows.setPl {f : FieldAt} {v : Nat} (h : s.Shows f v) (g : PlaneSt → PlaneSt) : (s.setPl g).Shows f v := h.of_reg rfl
theorem State.Shows.fenceIfSevere {f : FieldAt} {v : Nat} (h : s.Shows f v) (m : FaultMsg) (phi : Nat) (p : Plane) :
    (s.fenceIfSevere m phi p).Shows f v := h.of_same (s.fenceIfSevere_same m phi p)

theorem State.fenceIfSevere_faults (s : State) (m : FaultMsg) (phi : Nat) (p : Plane) : (s.fenceIfSevere m phi p).faults =
    { s.faults with fenceDue := s.faults.fenceDue ++ if s.severityOf m = 3 then [(phi, p, false)] else [] } := by
  unfold State.fenceIfSevere
  by_cases h : s.severityOf m = 3
  · rw [if_pos (by simpa [State.fencing] using h), if_pos h]
    rfl
  · rw [if_neg (by simpa [State.fencing] using h), if_neg h, List.append_nil]

/-- The severity of a message is an entry of the table. -/
theorem State.severityOf_of_rd (h : u.rd (sevField m.cls m.kind) = s.rd (sevField m.cls m.kind)) : u.severityOf m = s.severityOf m := by
  rw [State.severityOf, h, State.severityOf]

/-- The message is raised, and the fence follows that its severity asks for. -/
theorem State.raise_fenceIfSevere_faults (s : State) (m : FaultMsg) (phi : Nat) (p : Plane) : ((s.raise m).fenceIfSevere m phi p).faults =
    { s.faults with
      incoming := s.faults.incoming ++ [m]
      fenceDue := s.faults.fenceDue ++ if s.severityOf m = 3 then [(phi, p, false)] else [] } := by
  have hsev : (s.raise m).severityOf m = s.severityOf m := State.severityOf_of_rd rfl
  rw [State.fenceIfSevere_faults, hsev]
  rfl

end

end Sys2Proof.Machine
end

section
/-! SUPPORT. Who is judged, and what a plane fence leaves (R345, R346, R350, R351, R354, R363). -/

namespace Sys2Proof.Machine

open Sys2Proof

section
variable {s : State}

/-! ### The decision of a divergence -/

/-- The registers that a decision has written. -/
noncomputable def State.scored (s : State) (a b : Nat) (judged : Plane) : State :=
  let u := ((s.wr R.PL_DIV_SCORE_A_SCORE (min a (2 ^ 32 - 1))).wr R.PL_DIV_SCORE_B_SCORE (min b (2 ^ 32 - 1))).wr R.PL_DIV_LAST_JUDGED_PLANE (planeBit judged)
  if a = b then u.bump R.PL_DIV_STATUS_TIES 1 else u.bump R.PL_DIV_STATUS_JUDGED 1

set_option Elab.async false in
theorem planeBit_lt (p : Plane) : planeBit p < 2 := by cases p <;> decide

theorem State.Shows.scored {f : FieldAt} {v a b : Nat} {judged : Plane} (h : s.Shows f v) (hA : f.addr ≠ A.PL_DIV_SCORE_A)
    (hB : f.addr ≠ A.PL_DIV_SCORE_B) (hlast : f.addr ≠ A.PL_DIV_LAST) (hstatus : f.addr ≠ A.PL_DIV_STATUS) : (s.scored a b judged).Shows f v :=
  have hwritten := ((h.wr (g := R.PL_DIV_SCORE_A_SCORE) (x := min a (2 ^ 32 - 1)) hA).wr (g := R.PL_DIV_SCORE_B_SCORE) (x := min b (2 ^ 32 - 1)) hB).wr
    (g := R.PL_DIV_LAST_JUDGED_PLANE) (x := planeBit judged) hlast
  State.Shows.ite (hwritten.wr hstatus) (hwritten.wr hstatus)

theorem State.scored_shows {a b : Nat} {judged : Plane} (h : s.Regs) :
    (s.scored a b judged).Shows R.PL_DIV_SCORE_A_SCORE (min a (2 ^ 32 - 1)) ∧ (s.scored a b judged).Shows R.PL_DIV_SCORE_B_SCORE (min b (2 ^ 32 - 1)) ∧
      (s.scored a b judged).Shows R.PL_DIV_LAST_JUDGED_PLANE (planeBit judged) ∧
      (s.scored a b judged).Shows R.PL_DIV_LAST_TILE (s.rd R.PL_DIV_LAST_TILE) := by
  have hcount {u : State} {f : FieldAt} {v : Nat} (hu : u.Shows f v) (hf : f.addr ≠ A.PL_DIV_STATUS) :
      (if a = b then u.bump R.PL_DIV_STATUS_TIES 1 else u.bump R.PL_DIV_STATUS_JUDGED 1).Shows f v := State.Shows.ite (hu.wr hf) (hu.wr hf)
  have hfirst : (s.wr R.PL_DIV_SCORE_A_SCORE (min a (2 ^ 32 - 1))).Shows R.PL_DIV_SCORE_A_SCORE (min a (2 ^ 32 - 1)) :=
    State.Shows.wr_self h (show min a (2 ^ 32 - 1) < 2 ^ 32 by omega)
  have hsecond : ((s.wr R.PL_DIV_SCORE_A_SCORE (min a (2 ^ 32 - 1))).wr R.PL_DIV_SCORE_B_SCORE (min b (2 ^ 32 - 1))).Shows R.PL_DIV_SCORE_B_SCORE
      (min b (2 ^ 32 - 1)) := State.Shows.wr_self hfirst.regs (show min b (2 ^ 32 - 1) < 2 ^ 32 by omega)
  have htile := ((State.Shows.of_rd h R.PL_DIV_LAST_TILE).wr (g := R.PL_DIV_SCORE_A_SCORE) (x := min a (2 ^ 32 - 1)) (by decide)).wr
    (g := R.PL_DIV_SCORE_B_SCORE) (x := min b (2 ^ 32 - 1)) (by decide)
  exact ⟨hcount ((hfirst.wr (by decide)).wr (by decide)) (by decide), hcount (hsecond.wr (by decide)) (by decide),
    hcount (State.Shows.wr_self hsecond.regs (planeBit_lt judged)) (by decide), hcount htile.wr_apart (by decide)⟩

theorem State.scored_same (s : State) (a b : Nat) (judged : Plane) : Same (partMask [.shared]) s (s.scored a b judged) :=
  have hwritten : Same (partMask [.shared]) s (((s.wr R.PL_DIV_SCORE_A_SCORE (min a (2 ^ 32 - 1))).wr R.PL_DIV_SCORE_B_SCORE (min b (2 ^ 32 - 1))).wr
      R.PL_DIV_LAST_JUDGED_PLANE (planeBit judged)) :=
    State.wr_same (State.wr_same (State.wr_same same_refl (by decide)) (by decide)) (by decide)
  ite_same (State.bump_same hwritten (by decide)) (State.bump_same hwritten (by decide))

/-- The plane that a decision on scores a and b judges: the standby at equal scores. -/
noncomputable def State.judgedOf (s : State) (a b : Nat) : Plane := if a = b then s.standby else if b < a then .A else .B

theorem State.divDecide_due {a b : Nat} (hdue : s.pl.decideDue = true) (ha : a = sumOf ((s.pl.items.filter (·.waits)).map fun d => d.miss .A))
    (hb : b = sumOf ((s.pl.items.filter (·.waits)).map fun d => d.miss .B)) :
    ∃ resume, s.divDecide = (((s.scored a b (s.judgedOf a b)).raise (supMsg (s.judgedOf a b) 3 ((s.scored a b (s.judgedOf a b)).rd R.PL_DIV_LAST_TILE))).setPl
      fun x => { x with decideDue := false, resume := some resume }).fenceIfSevere
        (supMsg (s.judgedOf a b) 3 ((s.scored a b (s.judgedOf a b)).rd R.PL_DIV_LAST_TILE)) (((s.scored a b (s.judgedOf a b)).clk.frame + 1) * 64) (s.judgedOf a b) := by
  subst ha hb
  unfold State.divDecide
  rw [if_neg (by simp [hdue])]
  exact ⟨_, rfl⟩

theorem divergenceDecision_yields {a b : Nat} {judged : Plane} (hs : s.sound = true)
    (ha : a = sumOf ((s.pl.items.filter (·.waits)).map fun d => d.miss .A)) (hb : b = sumOf ((s.pl.items.filter (·.waits)).map fun d => d.miss .B))
    (hjudged : judged = s.judgedOf a b) (hdue : s.pl.decideDue = true) : Yields .divergenceDecision s fun t =>
      t.pl.decideDue = false ∧ t.rd R.PL_DIV_LAST_JUDGED_PLANE = planeBit judged ∧ t.rd R.PL_DIV_SCORE_A_SCORE = min a (2 ^ 32 - 1) ∧
      t.rd R.PL_DIV_SCORE_B_SCORE = min b (2 ^ 32 - 1) ∧
      t.faults = { s.faults with
        incoming := s.faults.incoming ++ [supMsg judged 3 (s.rd R.PL_DIV_LAST_TILE)]
        fenceDue := s.faults.fenceDue ++
          if s.severityOf (supMsg judged 3 (s.rd R.PL_DIV_LAST_TILE)) = 3 then [((s.clk.frame + 1) * 64, judged, false)] else [] } := by
  subst hjudged
  obtain ⟨hA, hB, hplane, htile⟩ := State.scored_shows (a := a) (b := b) (judged := s.judgedOf a b) (State.sound_regs hs)
  have htable := (State.Shows.of_rd (State.sound_regs hs) (sevField 14 3)).scored (a := a) (b := b) (judged := s.judgedOf a b)
    (by decide) (by decide) (by decide) (by decide)
  have hscored := s.scored_same a b (s.judgedOf a b)
  obtain ⟨resume, hdecide⟩ := State.divDecide_due hdue ha hb
  rw [htile.rd, show (s.scored a b (s.judgedOf a b)).clk = s.clk from hscored .clk (by decide)] at hdecide
  have hexec := exec_divergenceDecision s
  rw [hdecide] at hexec
  have hfence := State.fenceIfSevere_same (((s.scored a b (s.judgedOf a b)).raise (supMsg (s.judgedOf a b) 3 (s.rd R.PL_DIV_LAST_TILE))).setPl
    fun x => { x with decideDue := false, resume := some resume }) (supMsg (s.judgedOf a b) 3 (s.rd R.PL_DIV_LAST_TILE)) ((s.clk.frame + 1) * 64) (s.judgedOf a b)
  refine ⟨_, hexec, (congrArg PlaneSt.decideDue (hfence .pl (by decide))).trans rfl, (((hplane.raise _).setPl _).fenceIfSevere _ _ _).rd,
    (((hA.raise _).setPl _).fenceIfSevere _ _ _).rd, (((hB.raise _).setPl _).fenceIfSevere _ _ _).rd, ?_⟩
  have hfaults : (s.scored a b (s.judgedOf a b)).faults = s.faults := hscored .faults (by decide)
  rw [State.fenceIfSevere_faults, State.severityOf_of_rd (((htable.raise _).setPl _).rd)]
  simp only [State.setPl, State.raise, hfaults]

theorem exec_divergenceDecision_waits (hdue : s.pl.decideDue = false) : exec .divergenceDecision s = .next s := by
  rw [exec_divergenceDecision, State.divDecide, if_pos (by simp [hdue])]

/-! ### The end of a central audit -/

theorem centralAuditEnd_yields {failA failB : Bool} {judged : Plane} (hs : s.sound = true) (hopen : s.pl.audit.isSome = true)
    (hjudged : judged = (if failA && !failB then .A else if failB && !failA then .B else s.standby)) : Yields (.centralAuditEnd failA failB) s fun t =>
      t.pl.audit = none ∧ t.rd R.PL_DIV_LAST_JUDGED_PLANE = planeBit judged ∧ t.faults = { s.faults with
        incoming := s.faults.incoming ++ [supMsg judged 5 127]
        fenceDue := s.faults.fenceDue ++ if s.severityOf (supMsg judged 5 127) = 3 then [((s.clk.frame + 1) * 64, judged, false)] else [] } := by
  let closed := s.setPl fun x => { x with audit := none, selFree := !s.fencing (supMsg judged 5 127) && !x.heldSel.isEmpty }
  let named := closed.wr R.PL_DIV_LAST_JUDGED_PLANE (planeBit judged)
  have hend : s.auditEnd failA failB = (named.raise (supMsg judged 5 127)).fenceIfSevere (supMsg judged 5 127) ((s.clk.frame + 1) * 64) judged := by
    subst hjudged
    unfold State.auditEnd
    rw [if_neg (by simp [State.auditOpen, hopen])]
    rfl
  have hclosed : closed.Regs := (State.sound_regs hs).of_reg rfl
  have hnamed : named.Shows R.PL_DIV_LAST_JUDGED_PLANE (planeBit judged) := State.Shows.wr_self hclosed (planeBit_lt judged)
  have hsev : named.severityOf (supMsg judged 5 127) = s.severityOf (supMsg judged 5 127) :=
    State.severityOf_of_rd ((State.Shows.of_rd hclosed (sevField 14 5)).wr (by decide)).rd
  have hfence := State.fenceIfSevere_same (named.raise (supMsg judged 5 127)) (supMsg judged 5 127) ((s.clk.frame + 1) * 64) judged
  refine ⟨_, (exec_centralAuditEnd failA failB s).trans (congrArg _ hend), (congrArg PlaneSt.audit (hfence .pl (by decide))).trans rfl,
    ((hnamed.raise _).fenceIfSevere _ _ _).rd, ?_⟩
  rw [State.raise_fenceIfSevere_faults, hsev]
  rfl

theorem exec_centralAuditEnd_idle {failA failB : Bool} (hidle : s.pl.audit = none) : exec (.centralAuditEnd failA failB) s = .next s := by
  rw [exec_centralAuditEnd, State.auditEnd, if_pos (by simp [State.auditOpen, hidle])]

/-! ### Heartbeats -/

theorem heartbeat_yields {p : Plane} (hclocked : s.clocked = true) (hp : s.inService p = true ∨ s.isReturning p = true) :
    Yields (.heartbeat p) s fun t => t.faults = { s.faults with
      incoming := s.faults.incoming ++ [supMsg p 6 0]
      fenceDue := s.faults.fenceDue ++ if s.severityOf (supMsg p 6 0) = 3 then [(s.now, p, false)] else [] } := by
  have hmissed : s.heartbeat p = (s.raise (supMsg p 6 0)).fenceIfSevere (supMsg p 6 0) s.now p := by
    unfold State.heartbeat
    rw [if_pos (by simpa using hp)]
    rfl
  have hexec := exec_heartbeat p s
  rw [State.when, if_pos hclocked, hmissed] at hexec
  exact ⟨_, hexec, State.raise_fenceIfSevere_faults s _ _ _⟩

theorem exec_heartbeat_idle {p : Plane} (hserv : s.inService p = false) (hret : s.isReturning p = false) : exec (.heartbeat p) s = .next s := by
  have hidle : s.heartbeat p = s := by
    unfold State.heartbeat
    rw [if_neg (by simp [hserv, hret])]
  rw [exec_heartbeat, State.when, hidle, ite_self]

end

/-! ### A plane fence -/

section
variable {s t : State} {f : FieldAt} {v : Nat} {p : Plane}

theorem State.noteMortem_quiet {before : State} (htrip : t.therm.trip = before.therm.trip) (hlast : t.lastResort = before.lastResort) :
    t.noteMortem before = t := by
  unfold State.noteMortem
  rw [if_neg (by rw [htrip]; cases before.therm.trip <;> simp), if_neg (by rw [hlast]; cases before.lastResort <;> simp)]

theorem State.endDrill_of_drill {d : DrillRec} (h : s.pl.drill = some d) :
    s.endDrill = (s.setPl fun x => { x with drill := none }).answerAt s.now d.head 0x3A Code.planeUnavailable [] := by
  unfold State.endDrill
  rw [h]
  rfl

set_option Elab.async false in
theorem State.endDrill_of_none (h : s.pl.drill = none) : s.endDrill = s := by
  unfold State.endDrill
  rw [h]

theorem State.Shows.endDrill (h : s.Shows f v) (hf : f.addr ≠ A.SCH_EVENTS2) : s.endDrill.Shows f v := by
  cases hdrill : s.pl.drill with
  | some d =>
    rw [State.endDrill_of_drill hdrill]
    exact (h.setPl _).answerAt _ _ _ _ _ hf
  | none => rwa [State.endDrill_of_none hdrill]

theorem State.endDrill_ends (s : State) : s.endDrill.pl = { s.pl with drill := none } ∧ s.endDrill.faults.fenceDue = s.faults.fenceDue := by
  cases hdrill : s.pl.drill with
  | some d =>
    rw [State.endDrill_of_drill hdrill]
    exact ⟨State.answerAt_parts (s.setPl fun x => { x with drill := none }) _ _ _ _ _ .pl (by decide), State.answerAt_fenceDue _ _ _ _ _ _⟩
  | none =>
    rw [State.endDrill_of_none hdrill, ← hdrill]
    exact ⟨rfl, rfl⟩

theorem State.endDrill_therm (s : State) : s.endDrill.therm = s.therm :=
  State.endDrill_same (o := partMask [.shared, .links, .sched, .faults, .pl]) same_refl (by decide) .therm (by decide)

/-- The state in which plane p reads fenced: its drill and sequence have ended, its return too. -/
noncomputable def State.putDown (s : State) (p : Plane) : State :=
  let ended := s.endDrill.endSequence
  if ended.isReturning p then ended.endReturn else ended.setHealth p 1

theorem State.endReturn_of_returning (h : s.isReturning p = true) : s.endReturn = (s.setPl fun x => { x with ret := none }).setHealth p 1 := by
  unfold State.isReturning at h
  unfold State.endReturn
  cases hret : s.pl.ret with
  | none => simp [hret] at h
  | some r =>
    simp only [hret, decide_eq_true_eq] at h
    simp [h]

/-- Either way the plane reads fenced, and its drill and sequence have ended. -/
theorem State.putDown_fenced (s : State) (p : Plane) : ∃ ret, s.putDown p =
    (s.endDrill.setPl fun x => { x with items := [], first := none, decideDue := false, resume := none, ret := ret }).setHealth p 1 := by
  unfold State.putDown
  extract_lets ended
  split
  next h => exact ⟨none, State.endReturn_of_returning h⟩
  next => exact ⟨ended.pl.ret, rfl⟩

/-- Plane p put down, its lanes silent, and what its fence ends with it. -/
noncomputable def State.takenOut (s : State) (p : Plane) : State :=
  ((s.putDown p).silence p).setPl fun x => { x with audit := none, selFree := !x.heldSel.isEmpty, expRuns := [] }

theorem State.Shows.silence (h : s.Shows f v) (p : Plane) : (s.silence p).Shows f v :=
  h.of_same (o := partMask [.links]) (State.silence_same same_refl (by decide))

theorem State.takenOut_shows (h : s.Regs) (p : Plane) : (s.takenOut p).Shows (healthField p) 1 := by
  obtain ⟨ret, hdown⟩ := s.putDown_fenced p
  have hended : s.endDrill.Regs := ((State.Shows.of_rd h R.PL_ROLE_ACTIVE).endDrill (by decide)).regs
  unfold State.takenOut
  rw [hdown]
  have hset := State.setHealth_shows (s := s.endDrill.setPl fun x => { x with items := [], first := none, decideDue := false, resume := none, ret := ret })
    (p := p) (x := 1) (hended.of_reg rfl) (by decide)
  exact (hset.silence p).setPl _

theorem State.Shows.takenOut (h : s.Shows f v) (hf : f ∈ [healthField (other p), R.PL_ROLE_ACTIVE, R.PL_ROLE_LAST_RESORT]) :
    (s.takenOut p).Shows f v := by
  obtain ⟨ret, hdown⟩ := s.putDown_fenced p
  have haddr : f.addr ≠ A.SCH_EVENTS2 := by
    simp only [List.mem_cons, List.not_mem_nil, or_false] at hf
    rcases hf with rfl | rfl | rfl <;> cases p <;> decide
  unfold State.takenOut
  rw [hdown]
  exact ((((h.endDrill haddr).setPl _).setHealth hf).silence p).setPl _

/-- What the fence has ended in the planes' state, and what it leaves as it was. -/
theorem State.takenOut_parts (s : State) (p : Plane) :
    ((s.takenOut p).pl.items = [] ∧ (s.takenOut p).pl.drill = none ∧ (s.takenOut p).pl.audit = none) ∧
    (s.takenOut p).faults.fenceDue = s.faults.fenceDue ∧ (s.takenOut p).therm = s.therm := by
  obtain ⟨ret, hdown⟩ := s.putDown_fenced p
  obtain ⟨hpl, hdue⟩ := s.endDrill_ends
  unfold State.takenOut
  rw [hdown]
  have hsilent := State.silence_same (o := partMask [.links]) (p := p) (same_refl (s :=
    (s.endDrill.setPl fun x => { x with items := [], first := none, decideDue := false, resume := none, ret := ret }).setHealth p 1)) (by decide)
  have hplanes := hsilent .pl (by decide)
  refine ⟨⟨(congrArg PlaneSt.items hplanes).trans rfl, (congrArg PlaneSt.drill hplanes).trans (congrArg PlaneSt.drill hpl), rfl⟩,
    (congrArg Faults.fenceDue (hsilent .faults (by decide))).trans hdue, (hsilent .therm (by decide)).trans s.endDrill_therm⟩

/-- An automatic return of plane p that its fence lets follow. -/
noncomputable def State.returnsLater (s : State) (p : Plane) (auto : Bool) : State :=
  if auto then s.setPl fun x => { x with autoAt := x.autoAt ++ [(p, s.clk.frame + 50000)] } else s

theorem State.fencePlane_eq (auto : Bool) (hlast : s.lastResort = false) (hserv : s.inService p = true) (hother : s.inService (other p) = true) :
    s.fencePlane p auto = if s.active = p then ((s.takenOut p).returnsLater p auto).swapRoles else (s.takenOut p).returnsLater p auto := by
  have hgo : ¬ (s.lastResort = true ∨ ¬ (s.inService p = true ∨ s.isReturning p = true) ∨ s.inService p = true ∧ s.fenceLeavesNone p = true) := by
    simp [hlast, hserv, State.fenceLeavesNone, hother]
  unfold State.fencePlane
  rw [if_neg hgo]
  simp only [decide_eq_true_eq]
  rfl

/-- What the fence of a plane leaves of the planes' state and of the fences that wait. -/
theorem State.fencePlane_leaves (hs : s.Regs) (auto : Bool) (hlast : s.lastResort = false) (hserv : s.inService p = true)
    (hother : s.inService (other p) = true) :
    ((s.fencePlane p auto).health p = 1 ∧ (s.fencePlane p auto).inService (other p) = true ∧ (s.fencePlane p auto).active = other p ∧
      (s.fencePlane p auto).lastResort = false) ∧
    ((s.fencePlane p auto).pl.items = [] ∧ (s.fencePlane p auto).pl.drill = none ∧ (s.fencePlane p auto).pl.audit = none) ∧
    (s.fencePlane p auto).faults.fenceDue = s.faults.fenceDue ∧ (s.fencePlane p auto).therm = s.therm := by
  obtain ⟨⟨hitems, hdrill, haudit⟩, hdue, htherm⟩ := s.takenOut_parts p
  have hdown := State.takenOut_shows hs p
  have hup := (State.Shows.of_rd hs (healthField (other p))).takenOut (p := p) (by simp)
  have hrole := (State.Shows.of_rd hs R.PL_ROLE_ACTIVE).takenOut (p := p) (by simp)
  have hresort := (State.Shows.of_rd hs R.PL_ROLE_LAST_RESORT).takenOut (p := p) (by simp)
  rw [State.fencePlane_eq auto hlast hserv hother]
  generalize s.takenOut p = u at *
  have hlater : (u.returnsLater p auto).reg = u.reg ∧ (u.returnsLater p auto).pl.items = u.pl.items ∧ (u.returnsLater p auto).pl.drill = u.pl.drill ∧
      (u.returnsLater p auto).pl.audit = u.pl.audit ∧ (u.returnsLater p auto).faults = u.faults ∧ (u.returnsLater p auto).therm = u.therm := by
    cases auto <;> exact ⟨rfl, rfl, rfl, rfl, rfl, rfl⟩
  obtain ⟨hreg, hitems', hdrill', haudit', hfaults', htherm'⟩ := hlater
  generalize u.returnsLater p auto = w at *
  replace hdown := hdown.of_reg hreg
  replace hup := hup.of_reg hreg
  replace hrole := hrole.of_reg hreg
  replace hresort := hresort.of_reg hreg
  have hparts : (w.pl.items = [] ∧ w.pl.drill = none ∧ w.pl.audit = none) ∧ w.faults.fenceDue = s.faults.fenceDue ∧ w.therm = s.therm :=
    ⟨⟨hitems'.trans hitems, hdrill'.trans hdrill, haudit'.trans haudit⟩, (congrArg Faults.fenceDue hfaults').trans hdue, htherm'.trans htherm⟩
  have hserves {x : State} (hx : x.Shows (healthField (other p)) (s.rd (healthField (other p)))) : x.inService (other p) = true := by
    rw [State.inService, State.health, hx.rd]
    exact hother
  have hcalm {x : State} (hx : x.Shows R.PL_ROLE_LAST_RESORT (s.rd R.PL_ROLE_LAST_RESORT)) : x.lastResort = false := by
    rw [State.lastResort, State.on, hx.rd]
    exact hlast
  by_cases hactive : s.active = p
  · rw [if_pos hactive]
    obtain ⟨hflip, -⟩ := State.swapRoles_shows hdown.regs
    rw [hrole.rd] at hflip
    exact ⟨⟨(hdown.swapRoles (by cases p <;> decide)).rd, hserves (hup.swapRoles (by cases p <;> decide)),
      (State.active_of_flip hflip.rd).trans (congrArg other hactive), hcalm (hresort.swapRoles (by decide))⟩, hparts⟩
  · rw [if_neg hactive]
    exact ⟨⟨hdown.rd, hserves hup, (State.Shows.active hrole).trans (eq_other_of_ne hactive), hcalm hresort⟩, hparts⟩

/-! ### The fences that have been handed over -/

/-- The fences of plane p whose admission point has come, and those that stay. -/
noncomputable def State.fencesNow (s : State) (p : Plane) : List (Nat × Plane × Bool) := s.faults.fenceDue.filter fun f => f.1 ≤ s.now + 1 && decide (f.2.1 = p)
noncomputable def State.withoutFencesNow (s : State) (p : Plane) : State :=
  { s with faults := { s.faults with fenceDue := s.faults.fenceDue.filter fun f => !(f.1 ≤ s.now + 1 && decide (f.2.1 = p)) } }

set_option Elab.async false in
theorem State.fenceRow_eq (s : State) (p : Plane) : ∃ told : Bool, s.fenceRow p = if (s.fencesNow p).isEmpty then s else
    (if s.inService p && (s.withoutFencesNow p).fenceLeavesNone p && !s.lastResort && !told then (s.withoutFencesNow p).dueResort
      else s.withoutFencesNow p).fencePlane p ((s.fencesNow p).any (·.2.2)) := ⟨_, rfl⟩

theorem State.fenceRow_due (hdue : s.fencesNow p ≠ []) (hother : s.inService (other p) = true) :
    s.fenceRow p = (s.withoutFencesNow p).fencePlane p ((s.fencesNow p).any (·.2.2)) := by
  have hleaves : (s.withoutFencesNow p).fenceLeavesNone p = false := by
    rw [State.fenceLeavesNone, show (s.withoutFencesNow p).inService (other p) = true from hother]
    rfl
  obtain ⟨told, hrow⟩ := s.fenceRow_eq p
  rw [hrow, if_neg (mt List.isEmpty_iff.mp hdue), if_neg (by simp [hleaves])]

theorem planeFence_yields (hs : s.sound = true) (hdue : s.fencesNow p ≠ []) (hlast : s.lastResort = false) (hserv : s.inService p = true)
    (hother : s.inService (other p) = true) : Yields (.planeFence p) s fun t =>
      t.health p = 1 ∧ t.inService (other p) = true ∧ t.active = other p ∧ t.pl.items = [] ∧ t.pl.drill = none ∧
        t.pl.audit = none ∧ ∀ g ∈ t.faults.fenceDue, g.1 ≤ s.now + 1 → g.2.1 ≠ p := by
  obtain ⟨⟨hfenced, hserves, hactive, hcalm⟩, ⟨hitems, hdrill, haudit⟩, hrest, htherm⟩ :=
    State.fencePlane_leaves (s := s.withoutFencesNow p) (State.sound_regs hs) ((s.fencesNow p).any (·.2.2)) hlast hserv hother
  have hexec := exec_planeFence p s
  rw [State.fenceRow_due hdue hother, State.noteMortem_quiet (by rw [htherm]; rfl) (by rw [hcalm, hlast])] at hexec
  refine ⟨_, hexec, hfenced, hserves, hactive, hitems, hdrill, haudit, ?_⟩
  intro g hg hcome
  rw [hrest] at hg
  have hstays := (List.mem_filter.mp hg).2
  simpa [hcome] using hstays

theorem exec_planeFence_idle (hidle : s.fencesNow p = []) : exec (.planeFence p) s = .next s := by
  obtain ⟨told, hrow⟩ := s.fenceRow_eq p
  rw [exec_planeFence, hrow, if_pos (List.isEmpty_iff.mpr hidle), State.noteMortem_self]

end

/-- Settles O50. Which messages fence a plane, and that the heartbeat's fence is handed over for the instant it is missed at, is the model's own choice
(log entry 80). -/
theorem planesAreJudged : Obligations.PlanesAreJudged := by
  unfold Obligations.PlanesAreJudged
  intro s hs
  refine ⟨fun a b judged ha hb hjudged hdue => divergenceDecision_yields hs ha hb hjudged hdue, exec_divergenceDecision_waits,
    fun failA failB judged hopen hjudged => centralAuditEnd_yields hs hopen hjudged, fun _ _ hidle => exec_centralAuditEnd_idle hidle, ?_, ?_,
    fun p hclocked hp => heartbeat_yields hclocked hp, fun p hserv hret => exec_heartbeat_idle hserv hret⟩
  · intro p f hf hcome hplane hlast hserv hother
    have hdue : s.fencesNow p ≠ [] := List.ne_nil_of_mem (List.mem_filter.mpr ⟨hf, by simp [hcome, hplane]⟩)
    exact planeFence_yields hs hdue hlast hserv hother
  · intro p hnone
    refine exec_planeFence_idle (List.filter_eq_nil_iff.mpr fun f hf => ?_)
    simpa using hnone f hf

end Sys2Proof.Machine
end

section
/-! TESTS. States in which the planes differ, a fence is due, or a heartbeat is missed. -/

namespace Sys2Proof.Machine

open Sys2Proof

/-- One waiting item whose measurement 5 is where plane A predicted it, and away from plane B's prediction. -/
noncomputable def divergedItem : DivItem :=
  { ctx := 0, frame := 0, key := 0, held := 0, y := 5, words := (0, 64), us := (0, 0), models := (0, 3), upd := ⟨0, true, 64, 0, 0, 0, false, false, false, 0, false, false⟩,
    waits := true, app := 64, meas := some 5 }

/-- A running block whose divergence is decided now, and whose active plane's fence is due at the next admission point. -/
noncomputable def divergedBlock : State :=
  { runningBlock with
    pl := { runningBlock.pl with items := [divergedItem], decideDue := true }
    faults := { runningBlock.faults with fenceDue := [(1, .A, false)] } }

set_option Elab.async false in
theorem divergedBlock_sound : divergedBlock.sound = true := by decide +kernel

theorem divergedBlock_judges : Yields .divergenceDecision divergedBlock fun t => t.rd R.PL_DIV_LAST_JUDGED_PLANE = 1 ∧ t.rd R.PL_DIV_SCORE_B_SCORE = 3 :=
  (divergenceDecision_yields (a := 0) (b := 3) (judged := .B) divergedBlock_sound (by decide +kernel) (by decide +kernel) (by decide +kernel) rfl).imp
    fun t ⟨_, hlast, _, hB, _⟩ => ⟨hlast, hB⟩

theorem divergedBlock_fence : Yields (.planeFence .A) divergedBlock fun t => t.health .A = 1 ∧ t.active = .B :=
  (planeFence_yields divergedBlock_sound (by decide +kernel) (by decide +kernel) (by decide +kernel) (by decide +kernel)).imp
    fun t ⟨hhealth, _, hactive, _⟩ => ⟨hhealth, hactive⟩

end Sys2Proof.Machine
end


section
/-! SUPPORT. Drills: the exchange, its check and the reminder (R356 to R358). -/

namespace Sys2Proof.Machine

open Sys2Proof

section
variable {s u : State} {d : DrillRec}

/-- The response to a command whose effect has left the clock, the mode and the lists of items. -/
theorem State.answer_completed_of_same {o : Nat} {h : CmdHead} (opcode code : Nat) (body : List Nat) (hs : s.sound = true) (hu : Same o s u)
    (hp : isPrincipal h.principal = true) (hat : s.atOnce h = true) (hclk : o.testBit Part.clk.ix = false := by decide)
    (hmode : o.testBit Part.mode.ix = false := by decide) (hlinks : o.testBit Part.links.ix = false := by decide) :
    Same (partMask [.links, .sched]) u (u.answer h opcode code body) ∧
      ((u.answer h opcode code body).prin h.principal).completed = (s.prin h.principal).completed ++ [s.itemOf h opcode code body] := by
  have hclk : u.clk = s.clk := hu .clk hclk
  have hlinks : u.links = s.links := hu .links hlinks
  have hmode : u.mode = s.mode := hu .mode hmode
  have hat' : u.atOnce h = true := by rw [State.atOnce, State.isMode, hmode]; exact hat
  have hidx : pIdx h.principal < u.links.prin.length := by rw [hlinks, (State.sound_kept hs).prin]; exact pIdx_of_isPrincipal hp
  refine ⟨State.answer_same_of_atOnce _ _ _ hat', ?_⟩
  rw [State.answer_completed _ _ _ hat' hidx, State.prin, hlinks, State.itemOf, State.now, hclk]
  rfl

/-! ### The exchange -/

theorem drillSwap_yields (hs : s.sound = true) (hdrill : s.pl.drill = some d) (hbefore : d.swapped = false) (hdue : d.x ≤ s.clk.frame) :
    Yields .drillSwap s fun t => t.active = s.standby ∧ t.pl = { s.pl with drill := some { d with swapped := true } } ∧
      t.rd R.PL_ROLE_SWAPS = satAdd R.PL_ROLE_SWAPS.top (s.rd R.PL_ROLE_SWAPS) 1 := by
  have hswap : s.drillSwap = s.swapRoles.setPl fun p => { p with drill := some { d with swapped := true } } := by
    unfold State.drillSwap
    simp only [hdrill]
    exact if_neg (by simp [hbefore, hdue])
  obtain ⟨hactive, hswaps⟩ := State.swapRoles_shows (State.sound_regs hs)
  exact ⟨_, (exec_drillSwap s).trans (congrArg _ hswap), State.active_of_flip (hactive.setPl _).rd, rfl, (hswaps.setPl _).rd⟩

theorem exec_drillSwap_waits (hwait : (s.pl.drill.all fun d => d.swapped || decide (s.clk.frame < d.x)) = true) :
    exec .drillSwap s = .next s := by
  rw [exec_drillSwap]
  unfold State.drillSwap
  split
  next d hdrill =>
    rw [hdrill] at hwait
    rw [if_pos (by simpa using hwait)]
  next => rfl

/-! ### The check -/

/-- A drill that all tiles pass: what it leaves before its answer. -/
noncomputable def State.drillPassed (s : State) : State :=
  let u := s.setPl fun p => { p with drill := none }
  let u := match u.pl.dueRaised with | some p => u.endReport (supMsg p 8 0) | none => u
  (u.wr R.PL_DRILL_LAST_OK 1).setPl fun p => { p with ageSec := 0, dueRaised := none }

/-- The tiles whose check failed have counted it. -/
noncomputable def State.drillCounted (s : State) (failed : List Nat) : State :=
  (s.setPl fun p => { p with drill := none }).over (dedup failed) fun s t => s.bump (R.TL_CMP_STATUS_SEL_FAIL t) 1

/-- A drill that fails in the plane that has become active: its roles revert, the plane is raised and may be fenced. -/
noncomputable def State.drillReverted (s : State) (failed : List Nat) : State :=
  let u := s.drillCounted failed
  let u := ((u.wr R.PL_ROLE_ACTIVE (1 - u.rd R.PL_ROLE_ACTIVE)).alertState).wr R.PL_DRILL_LAST_OK 0
  let u := u.raise (supMsg s.active 7 0)
  u.fenceIfSevere (supMsg s.active 7 0) u.now s.active

theorem State.drillCheck_passed (hdrill : s.pl.drill = some d) (hswapped : d.swapped = true) (hdue : d.x < s.clk.frame) :
    s.drillCheck [] false = s.drillPassed.answer d.head 0x3A Code.ok (drillBody d.x s.drillPassed.active 0 0) := by
  unfold State.drillCheck
  simp only [hdrill]
  rw [if_neg (by simp [hswapped, hdue])]
  rfl

theorem State.drillCheck_failed (failed : List Nat) (hdrill : s.pl.drill = some d) (hswapped : d.swapped = true) (hdue : d.x < s.clk.frame) :
    s.drillCheck failed true =
      (s.drillReverted failed).answer d.head 0x3A Code.drillFailed (drillBody d.x (s.drillReverted failed).active 1 0xFFFF) := by
  unfold State.drillCheck
  simp only [hdrill]
  rw [if_neg (by simp [hswapped, hdue]), if_neg (by simp)]
  rfl

/-- The counts of the tiles are no fields of the planes' registers. -/
theorem State.Shows.drillCounted {f : FieldAt} {v : Nat} {failed : List Nat} (h : s.Shows f v) (hf : f.addr < 0x1000) :
    (s.drillCounted failed).Shows f v :=
  State.Shows.over (h.setPl _) fun u t _ hu => hu.wr (g := R.TL_CMP_STATUS_SEL_FAIL t) (show f.addr ≠ 0x107000 + 0x10000 * t by omega)

theorem State.drillCounted_same (s : State) (failed : List Nat) :
    Same (partMask [.shared]) (s.setPl fun p => { p with drill := none }) (s.drillCounted failed) :=
  State.over_same (fun _ _ hu => State.bump_same hu (by decide)) same_refl

theorem State.drillReverted_shows (hs : s.Regs) (failed : List Nat) :
    (s.drillReverted failed).Shows R.PL_ROLE_ACTIVE (1 - s.rd R.PL_ROLE_ACTIVE) ∧ (s.drillReverted failed).Shows R.PL_DRILL_LAST_OK 0 := by
  have hrole := (State.Shows.of_rd hs R.PL_ROLE_ACTIVE).drillCounted (failed := failed) (by decide)
  have hflip := State.Shows.wr_self (s := s.drillCounted failed) (f := R.PL_ROLE_ACTIVE) (v := 1 - (s.drillCounted failed).rd R.PL_ROLE_ACTIVE)
    hrole.regs (show 1 - _ < 2 by omega)
  have hfailed : (((s.drillCounted failed).wr R.PL_ROLE_ACTIVE (1 - (s.drillCounted failed).rd R.PL_ROLE_ACTIVE)).alertState.wr R.PL_DRILL_LAST_OK 0).Shows
      R.PL_DRILL_LAST_OK 0 := State.Shows.wr_self (hflip.regs.of_reg rfl) (by decide)
  have hactive : (s.drillReverted failed).Shows R.PL_ROLE_ACTIVE (1 - (s.drillCounted failed).rd R.PL_ROLE_ACTIVE) :=
    (State.Shows.raise (State.Shows.wr (s := ((s.drillCounted failed).wr R.PL_ROLE_ACTIVE _).alertState) (g := R.PL_DRILL_LAST_OK) (x := 0)
      (hflip.of_reg rfl) (by decide)) _).fenceIfSevere _ _ _
  rw [hrole.rd] at hactive
  exact ⟨hactive, (hfailed.raise _).fenceIfSevere _ _ _⟩

theorem State.drillReverted_parts (s : State) (failed : List Nat) : (s.drillReverted failed).pl = { s.pl with drill := none } ∧
    (s.drillReverted failed).faults.incoming = s.faults.incoming ++ [supMsg s.active 7 0] := by
  have hcounted := s.drillCounted_same failed
  unfold State.drillReverted
  extract_lets u v w
  refine ⟨(w.fenceIfSevere_same (supMsg s.active 7 0) w.now s.active .pl (by decide)).trans (hcounted .pl (by decide)), ?_⟩
  rw [State.fenceIfSevere_faults]
  exact congrArg (fun x => x.incoming ++ [supMsg s.active 7 0]) (hcounted .faults (by decide))

theorem State.drillPassed_shows (hs : s.Regs)
    : s.drillPassed.Shows R.PL_ROLE_ACTIVE (s.rd R.PL_ROLE_ACTIVE) ∧ s.drillPassed.Shows R.PL_DRILL_LAST_OK 1 := by
  unfold State.drillPassed
  extract_lets u v
  have hreg : v.reg = s.reg := by
    show (match s.pl.dueRaised with | some p => u.endReport (supMsg p 8 0) | none => u).reg = _
    split <;> rfl
  exact ⟨(((State.Shows.of_rd hs R.PL_ROLE_ACTIVE).of_reg hreg).wr (by decide)).setPl _,
    (State.Shows.wr_self (hs.of_reg hreg) (by decide)).setPl _⟩

set_option Elab.async false in
theorem State.drillPassed_pl (s : State) : s.drillPassed.pl = { s.pl with drill := none, ageSec := 0, dueRaised := none } := by
  unfold State.drillPassed
  extract_lets u v
  have hpl : v.pl = { s.pl with drill := none } := by
    show (match s.pl.dueRaised with | some p => u.endReport (supMsg p 8 0) | none => u).pl = _
    split <;> rfl
  show { v.pl with ageSec := 0, dueRaised := none } = _
  rw [hpl]

theorem drillCheck_passes (hs : s.sound = true) (hdrill : s.pl.drill = some d) (hswapped : d.swapped = true) (hdue : d.x < s.clk.frame)
    (hp : isPrincipal d.head.principal = true) (hat : s.atOnce d.head = true) :
    Yields (.drillCheck [] false) s fun t => t.pl.drill = none ∧ t.pl.ageSec = 0 ∧ t.pl.dueRaised = none ∧ t.active = s.active ∧
      t.rd R.PL_DRILL_LAST_OK = 1 ∧ (t.prin d.head.principal).completed =
        (s.prin d.head.principal).completed ++ [s.itemOf d.head 0x3A Code.ok (drillBody d.x s.active 0 0)] := by
  obtain ⟨hrole, hok⟩ := State.drillPassed_shows (State.sound_regs hs)
  have hsame : Same (partMask [.shared, .faults, .pl]) s s.drillPassed := by
    unfold State.drillPassed
    extract_lets u v
    have hu : Same (partMask [.shared, .faults, .pl]) s u := State.setPl_same same_refl (by decide)
    have hv : Same (partMask [.shared, .faults, .pl]) s v := by
      show Same _ s (match s.pl.dueRaised with | some p => u.endReport (supMsg p 8 0) | none => u)
      split
      · exact State.endReport_same hu (by decide)
      · exact hu
    exact State.setPl_same (State.wr_same hv (by decide)) (by decide)
  obtain ⟨hanswer, hcompleted⟩ := State.answer_completed_of_same 0x3A Code.ok (drillBody d.x s.active 0 0) hs hsame hp hat
  have hexec := exec_drillCheck [] false s rfl
  rw [State.drillCheck_passed hdrill hswapped hdue, State.Shows.active hrole] at hexec
  have hpl := (hanswer .pl (by decide)).trans s.drillPassed_pl
  exact ⟨_, hexec, congrArg PlaneSt.drill hpl, congrArg PlaneSt.ageSec hpl, congrArg PlaneSt.dueRaised hpl,
    State.Shows.active (hrole.of_same hanswer), (hok.of_same hanswer).rd, hcompleted⟩

theorem drillCheck_fails (hs : s.sound = true) {failed : List Nat} (hwf : (Instr.drillCheck failed true).wf = true) (hdrill : s.pl.drill = some d)
    (hswapped : d.swapped = true) (hdue : d.x < s.clk.frame) (hp : isPrincipal d.head.principal = true) (hat : s.atOnce d.head = true) :
    Yields (.drillCheck failed true) s fun t => t.pl.drill = none ∧ t.active = s.standby ∧
      t.rd R.PL_DRILL_LAST_OK = 0 ∧ supMsg s.active 7 0 ∈ t.faults.incoming ∧
      (t.prin d.head.principal).completed =
        (s.prin d.head.principal).completed ++ [s.itemOf d.head 0x3A Code.drillFailed (drillBody d.x s.standby 1 0xFFFF)] := by
  obtain ⟨hrole, hfailed⟩ := State.drillReverted_shows (State.sound_regs hs) failed
  obtain ⟨hpl, hraised⟩ := s.drillReverted_parts failed
  have hsame : Same (partMask [.shared, .sb, .faults, .pl]) s (s.drillReverted failed) := by
    have hcounted : Same (partMask [.shared, .sb, .faults, .pl]) s (s.drillCounted failed) :=
      State.over_same (fun _ _ hu => State.bump_same hu (by decide)) (State.setPl_same same_refl (by decide))
    exact Same.trans (State.raise_same (State.wr_same (State.alertState_same (State.wr_same hcounted (by decide)) (by decide)) (by decide)) (by decide))
      ((State.fenceIfSevere_same _ _ _ _).mono (by decide))
  obtain ⟨hanswer, hcompleted⟩ := State.answer_completed_of_same 0x3A Code.drillFailed (drillBody d.x s.standby 1 0xFFFF) hs hsame hp hat
  have hexec := exec_drillCheck failed true s hwf
  rw [State.drillCheck_failed failed hdrill hswapped hdue, State.active_of_flip hrole.rd] at hexec
  refine ⟨_, hexec, (congrArg PlaneSt.drill (hanswer .pl (by decide))).trans (congrArg PlaneSt.drill hpl),
    State.active_of_flip (hrole.of_same hanswer).rd, (hfailed.of_same hanswer).rd, ?_, hcompleted⟩
  rw [show (State.answer _ _ _ _ _).faults = _ from hanswer .faults (by decide), hraised]
  exact List.mem_append_right _ (List.mem_singleton.mpr rfl)

theorem exec_drillCheck_waits {failed : List Nat} {sup : Bool} (hwf : (Instr.drillCheck failed sup).wf = true)
    (hwait : (s.pl.drill.all fun d => !d.swapped || decide (s.clk.frame ≤ d.x)) = true) : exec (.drillCheck failed sup) s = .next s := by
  rw [exec_drillCheck failed sup s hwf]
  unfold State.drillCheck
  split
  next => rfl
  next d hdrill =>
    rw [hdrill] at hwait
    rw [if_pos (by simpa using hwait)]

/-! ### The reminder -/

theorem drillDue_yields (hclocked : s.clocked = true) (hage : 30 ≤ s.pl.ageSec / 86400) (hquiet : s.pl.dueRaised = none) :
    Yields .drillDue s fun t => t.pl = { s.pl with dueRaised := some s.active } ∧
      t.faults = { s.faults with incoming := s.faults.incoming ++ [supMsg s.active 8 0] } := by
  have hexec := exec_drillDue s
  rw [State.when, if_pos hclocked, State.drillDue, if_pos ⟨hage, by simp [hquiet]⟩] at hexec
  exact ⟨_, hexec, rfl, rfl⟩

theorem exec_drillDue_idle (hidle : s.pl.ageSec / 86400 < 30 ∨ s.pl.dueRaised.isSome = true) : exec .drillDue s = .next s := by
  have hrow : s.drillDue = s := by
    unfold State.drillDue
    refine if_neg fun ⟨hage, hquiet⟩ => ?_
    rcases hidle with hlow | hraised
    · omega
    · simp [Option.isNone_iff_eq_none.mp hquiet] at hraised
  rw [exec_drillDue, State.when, hrow, ite_self]

end

/-- Settles O51. -/
theorem drills : Obligations.Drills := by
  unfold Obligations.Drills
  intro s hs
  refine ⟨fun d hdrill hbefore hdue => drillSwap_yields hs hdrill hbefore hdue, exec_drillSwap_waits, ?_, fun _ _ => exec_drillCheck_waits,
    drillDue_yields, exec_drillDue_idle⟩
  intro d hdrill hswapped hdue hp hat
  exact ⟨drillCheck_passes hs hdrill hswapped hdue hp hat, fun failed hwf => drillCheck_fails hs hwf hdrill hswapped hdue hp hat⟩

end Sys2Proof.Machine
end

section
/-! TESTS. A drill of the owner, before and after its exchange. -/

namespace Sys2Proof.Machine

open Sys2Proof

/-- A running block at frame `frame` with a drill for boundary 9. -/
noncomputable def drillBlock (frame : Nat) (swapped : Bool) : State :=
  { runningBlock with
    clk := { runningBlock.clk with frame := frame }
    pl := { runningBlock.pl with drill := some { head := ownerHead 1, x := 9, swapped := swapped } } }

theorem drillBlock_swap : Yields .drillSwap (drillBlock 9 false) fun t => t.active = .B ∧ t.rd R.PL_ROLE_SWAPS = 1 :=
  (drillSwap_yields (by decide +kernel) rfl rfl (by decide)).imp fun t ⟨hactive, _, hswaps⟩ => ⟨hactive, hswaps⟩

theorem drillBlock_check : Yields (.drillCheck [] false) (drillBlock 10 true) fun t => t.pl.drill = none ∧ t.active = .A :=
  (drillCheck_passes (by decide +kernel) rfl rfl (by decide) (by decide) (by decide +kernel)).imp fun t ⟨hdrill, _, _, hactive, _⟩ => ⟨hdrill, hactive⟩

end Sys2Proof.Machine
end


section
/-! SUPPORT. The return of a fenced plane (R359 to R361). -/

namespace Sys2Proof.Machine

open Sys2Proof

/-! ### What a write that passes its checks asks for -/

section
variable {s : State} {r : Requester} {a w : Nat} {h : RegHit}

/-- Every code of a list whose first other code is OK is OK. -/
theorem eq_ok_of_firstCode {l : List Nat} (h : firstCode l = Code.ok) {c : Nat} (hc : c ∈ l) : c = Code.ok := by
  by_contra hne
  cases hfind : l.find? (· != Code.ok) with
  | none => exact absurd (List.find?_eq_none.mp hfind c hc) (by simpa using hne)
  | some d =>
    rw [firstCode, hfind, Option.getD_some] at h
    exact absurd h (by simpa using List.find?_some hfind)

/-- The action of a word that may be written is accepted. -/
theorem State.actionCode_of_mayWrite (hmay : s.mayWrite r a w = true) (hat : regAt a = some h) (hcap : inCapture a = false) (halign : a % 4 = 0) :
    s.actionCode r h a w = Code.ok := by
  rw [State.mayWrite, Bool.and_eq_true, decide_eq_true_eq] at hmay
  have hcode := hmay.2
  unfold State.writeCode at hcode
  simp only [halign, hcap, hat, ne_eq, not_true_eq_false, if_false, Bool.false_eq_true] at hcode
  exact eq_ok_of_firstCode hcode (by simp)

end

/-! ### The domains' bits -/

section
variable {s : State} {d e v : Nat} {on : Bool}

/-- The bit of PW_DOMAIN_ON of a domain. -/
noncomputable def domainField (d : Nat) : FieldAt := ⟨A.PW_DOMAIN_ON (d / 32), d % 32, d % 32⟩

theorem domainField_fits (d : Nat) : decide ((domainField d).hi < 32 ∧ (domainField d).lo ≤ (domainField d).hi) = true :=
  decide_eq_true ⟨Nat.mod_lt d (by decide), Nat.le_refl _⟩

set_option Elab.async false in
theorem State.powerDomain_eq (s : State) (d : Nat) (on : Bool) : s.powerDomain d on = s.wr (domainField d) (b01 on) := rfl

theorem State.domainOn_of_shows (h : s.Shows (domainField d) (b01 on)) : s.domainOn d = on := by
  have hbit : s.domainOn d = true ↔ s.rd (domainField d) = 1 := testBit_iff_bits _ _
  rw [h.rd] at hbit
  cases on with
  | true => exact hbit.mpr rfl
  | false => exact Bool.eq_false_iff.mpr fun hon => absurd (hbit.mp hon) (by decide)

theorem State.powerDomain_shows (h : s.Regs) (d : Nat) (on : Bool) : (s.powerDomain d on).Shows (domainField d) (b01 on) := by
  refine State.Shows.wr_self h ?_ (domainField_fits d)
  rw [show (domainField d).hi + 1 - (domainField d).lo = 1 from Nat.add_sub_cancel_left _ _]
  cases on <;> decide

theorem State.Shows.powerDomain (h : s.Shows (domainField d) v) (hne : d ≠ e) : (s.powerDomain e on).Shows (domainField d) v := by
  by_cases hword : d / 32 = e / 32
  · have hbit : d % 32 ≠ e % 32 := fun heq => hne (by omega)
    refine State.Shows.wr_apart (g := domainField e) (x := b01 on) h (domainField_fits e) (decide_eq_true ⟨Nat.le_refl _, ?_⟩)
    show d % 32 < e % 32 ∨ e % 32 < d % 32
    omega
  · exact State.Shows.wr (g := domainField e) (x := b01 on) h (by show 0x70010 + 4 * (d / 32) ≠ 0x70010 + 4 * (e / 32); omega)

/-- Domains of a list that are powered, or powered off, read so. -/
theorem State.powerDomains_shows (h : s.Regs) {l : List Nat} (hd : d ∈ l) (on : Bool) :
    (s.over l fun s d => s.powerDomain d on).Shows (domainField d) (b01 on) := by
  refine State.over_establishes (I := State.Regs) (Q := fun u => u.Shows (domainField d) (b01 on)) hd
    (fun u e hu => State.Regs.wr (f := domainField e) (v := b01 on) hu) ?_
    (fun u hu => State.powerDomain_shows hu d on) h
  intro u e hu hon
  by_cases hne : d = e
  · exact hne ▸ State.powerDomain_shows hu d on
  · exact hon.powerDomain hne

end

/-! ### The start of a return -/

section
variable {s : State} {p : Plane}

theorem State.startReturn_leaves (hs : s.Regs) (p : Plane) : (s.startReturn p).health p = 3 ∧
    (s.startReturn p).pl = { s.pl with ret := some { plane := p, step := 1, since := s.now }, autoAt := s.pl.autoAt.filter fun a => decide (a.1 ≠ p) } ∧
    (∀ d ∈ planeDomains p, (s.startReturn p).Shows (domainField d) (b01 false)) ∧
    (s.startReturn p).faults.incoming = s.faults.incoming ++ [supMsg p 10 0] ∧ (s.startReturn p).clk = s.clk := by
  have hsame : Same (partMask [.shared]) s (s.over (planeDomains p) fun s d => s.powerDomain d false) :=
    State.over_same (fun _ _ hu => State.powerDomain_same hu (by decide)) same_refl
  have hdomains := fun d (hd : d ∈ planeDomains p) => State.powerDomains_shows hs hd false
  unfold State.startReturn
  generalize (s.over (planeDomains p) fun s d => s.powerDomain d false) = u at *
  have hregs : u.Regs := by cases p <;> exact (hdomains _ (List.mem_cons_self ..)).regs
  have hpl : u.pl = s.pl := hsame .pl (by decide)
  have hfaults : u.faults = s.faults := hsame .faults (by decide)
  have hclk : u.clk = s.clk := hsame .clk (by decide)
  refine ⟨((State.setHealth_shows hregs (by decide)).of_reg rfl).rd, ?_, fun d hd => ?_, ?_, hclk⟩
  · show { u.pl with ret := some { plane := p, step := 1, since := u.now }, autoAt := u.pl.autoAt.filter fun a => decide (a.1 ≠ p) } = _
    rw [State.now, hclk, hpl]
    rfl
  · have haddr : (domainField d).addr ≠ A.PL_ROLE := show 0x70010 + 4 * (d / 32) ≠ 0x700 by omega
    exact ((hdomains d hd).setHealth_addr (p := p) (x := 3) haddr).of_reg rfl
  · show u.faults.incoming ++ _ = _
    rw [hfaults]

/-! ### RETURN -/

/-- The entry of PL_CTRL in the table of chapter 14. -/
noncomputable def plCtrlSpec : RegSpec := ⟨.PL_CTRL, 0x704, [], .shared,
  [⟨31, 31, .w1s, .live, 0, .number, false⟩, ⟨30, 30, .rw, .framed, 0, .image, false⟩, ⟨23, 16, .ro, .fixed, 0, .number, false⟩]⟩

set_option Elab.async false in
theorem regAt_plCtrl : regAt A.PL_CTRL = some ⟨plCtrlSpec, []⟩ := by decide +kernel

theorem planeReturn_yields {r : Requester} (hs : s.sound = true) (hwf : r.wf = true)
    (hmay : s.mayWrite r A.PL_CTRL (s.setting A.PL_CTRL [(R.PL_CTRL_RETURN, 1)]) = true) (hfenced : s.fencedOne = some p) :
    Yields (.planeReturn r) s fun t => t.health p = 3 ∧ t.pl.ret = some { plane := p, step := 1, since := s.now } ∧
      (∀ d ∈ planeDomains p, t.domainOn d = false) ∧ t.faults.incoming = s.faults.incoming ++ [supMsg p 10 0] := by
  have hset : (s.setting A.PL_CTRL [(R.PL_CTRL_RETURN, 1)]).testBit 31 = true := State.testBit_setting s _ _ _
  have hcode : s.returnCode = Code.ok := by
    have haction := State.actionCode_of_mayWrite hmay regAt_plCtrl rfl rfl
    simpa [State.actionCode, plCtrlSpec, hset] using haction
  let u := (s.dropHeld r).addShadow R.PL_CTRL_AUTO_RETURN (R.PL_CTRL_AUTO_RETURN.get (s.setting A.PL_CTRL [(R.PL_CTRL_RETURN, 1)])) false
  have hreturn : u.returnPlane = u.startReturn p := by
    unfold State.returnPlane
    rw [show u.fencedOne = some p from hfenced]
    exact if_pos hcode
  have hwrite : s.writeFields r A.PL_CTRL [(R.PL_CTRL_RETURN, 1)] = (u.startReturn p).noteStatus r Code.ok := by
    rw [← hreturn]
    refine (State.regWrite_plain hmay regAt_plCtrl rfl rfl rfl).trans ?_
    show (if (s.setting A.PL_CTRL [(R.PL_CTRL_RETURN, 1)]).testBit 31 then u.returnPlane else u).noteStatus r Code.ok = _
    rw [if_pos hset]
  obtain ⟨hhealth, hpl, hdomains, hraised, -⟩ := State.startReturn_leaves (s := u) ⟨(State.sound_regs hs).shared, (State.sound_regs hs).privA, (State.sound_regs hs).privB⟩ p
  have hnote : Same (partMask [.sb]) (u.startReturn p) ((u.startReturn p).noteStatus r Code.ok) := State.noteStatus_same same_refl (by decide)
  refine ⟨_, (exec_planeReturn r s hwf).trans (congrArg _ hwrite), ?_, ?_, ?_, ?_⟩
  · exact (State.rd_of_same (healthField p) hnote (by decide)).trans hhealth
  · exact (congrArg PlaneSt.ret (hnote .pl (by decide))).trans (congrArg PlaneSt.ret hpl)
  · exact fun d hd => State.domainOn_of_shows ((hdomains d hd).of_same hnote)
  · exact (congrArg Faults.incoming (hnote .faults (by decide))).trans hraised

/-! ### The bank test -/

theorem returnBankTest_passes {q : Returning} (hret : s.pl.ret = some q) (hstep : q.step = 2) (hdue : q.since + pointsIn 1300 ≤ s.now) :
    Yields (.returnBankTest none) s fun t => t.pl = { s.pl with ret := some { q with step := 3, bound := s.clk.frame + 1 } } := by
  have hexec := exec_returnBankTest none s rfl
  simp only [State.returnTest, hret] at hexec
  rw [if_neg (by simp [hstep, hdue])] at hexec
  exact ⟨_, hexec, rfl⟩

theorem State.endReturn_of_ret {q : Returning} (hret : s.pl.ret = some q) :
    s.endReturn = (s.setPl fun x => { x with ret := none }).setHealth q.plane 1 := by
  unfold State.endReturn
  rw [hret]

theorem returnBankTest_fails {q : Returning} {k ix : Nat} (hs : s.sound = true) (hwf : (Instr.returnBankTest (some (k, ix))).wf = true)
    (hret : s.pl.ret = some q) (hstep : q.step = 2) (hdue : q.since + pointsIn 1300 ≤ s.now) :
    Yields (.returnBankTest (some (k, ix))) s fun t => t.pl.ret = none ∧
      t.health q.plane = 1 ∧ t.faults.incoming = s.faults.incoming ++ [planeMsg 7 k 5 q.plane ix] := by
  have hexec := exec_returnBankTest (some (k, ix)) s hwf
  simp only [State.returnTest, hret] at hexec
  rw [if_neg (by simp [hstep, hdue]), State.endReturn_of_ret hret] at hexec
  have hhealth := State.setHealth_shows (s := s.setPl fun x => { x with ret := none }) (p := q.plane) (x := 1) (State.sound_regs hs) (by decide)
  exact ⟨_, hexec, rfl, (hhealth.raise _).rd, rfl⟩

theorem exec_returnBankTest_waits {f : Option (Nat × Nat)} (hwf : (Instr.returnBankTest f).wf = true)
    (hwait : (s.pl.ret.all fun r => r.step != 2 || decide (s.now < r.since + pointsIn 1300)) = true) :
    exec (.returnBankTest f) s = .next s := by
  rw [exec_returnBankTest f s hwf]
  unfold State.returnTest
  split
  next q hret =>
    rw [hret] at hwait
    rw [if_pos (by simpa using hwait)]
  next => rfl

/-! ### LOCKSTEP and probation -/

/-- The plane's generators take what those of the other plane hold. -/
theorem State.gen_copyPlane (s : State) (p q : Plane) {g : Nat} (hg : g < 8) : (s.copyPlane p).gen (genInst q g) = s.gen (genInst (other p) g) := by
  have hsplit : (s.copyPlane p).gens = ((List.range 8).map fun g => s.gen (genInst (other p) g)) ++ (List.range 8).map fun g => s.gen (genInst (other p) g) :=
    rfl
  rw [State.gen, hsplit]
  have hmap : ((List.range 8).map fun g => s.gen (genInst (other p) g)).getD g {} = s.gen (genInst (other p) g) := by
    simp [List.getD, hg]
  have hlen : ((List.range 8).map fun g => s.gen (genInst (other p) g)).length = 8 := by simp
  cases q with
  | A => rw [List.getD_append _ _ _ _ (by rw [hlen]; exact hg)]; exact hmap
  | B => rw [show genInst .B g = 8 + g from Nat.add_comm g 8, List.getD_append_right _ _ _ _ (by omega), hlen, Nat.add_sub_cancel_left]; exact hmap

theorem RegState.file_setFile (x : RegState) (p : Plane) (m : List (Nat × Word)) :
    (x.setFile p m).file p = m ∧ (x.setFile p m).file (other p) = x.file (other p) := by cases p <;> exact ⟨rfl, rfl⟩

theorem lockstep_yields {q : Returning} (hret : s.pl.ret = some q) (hstep : q.step = 3) (hdue : q.bound < s.clk.frame) :
    Yields .lockstep s fun t => t.pl = { s.pl with ret := some { q with step := 4, bound := s.clk.frame } } ∧
      t.reg.file q.plane = s.reg.file (other q.plane) ∧ t.reg.file (other q.plane) = s.reg.file (other q.plane) ∧
      ∀ g, g < 8 → t.gen (genInst q.plane g) = s.gen (genInst (other q.plane) g) := by
  have hexec := exec_lockstep s
  simp only [State.lockstep, hret] at hexec
  rw [if_neg (by simp [hstep, hdue])] at hexec
  obtain ⟨hown, hother⟩ := s.reg.file_setFile q.plane (s.reg.file (other q.plane))
  exact ⟨_, hexec, rfl, hown, hother, fun g hg => s.gen_copyPlane q.plane q.plane hg⟩

theorem exec_lockstep_waits (hwait : (s.pl.ret.all fun r => r.step != 3 || decide (s.clk.frame ≤ r.bound)) = true) :
    exec .lockstep s = .next s := by
  rw [exec_lockstep]
  unfold State.lockstep
  split
  next q hret =>
    rw [hret] at hwait
    rw [if_pos (by simpa using hwait)]
  next => rfl

theorem returnEnd_yields {q : Returning} (hs : s.sound = true) (hret : s.pl.ret = some q) (hstep : q.step = 4) (hdue : q.bound + 50000 ≤ s.clk.frame) :
    Yields .returnEnd s fun t => t.pl = { s.pl with ret := none } ∧
      t.health q.plane = 0 ∧ t.faults = { s.faults with incoming := s.faults.incoming ++ [supMsg q.plane 11 0] } := by
  have hexec := exec_returnEnd s
  simp only [State.returnEnd, hret] at hexec
  rw [if_neg (by simp [hstep, hdue])] at hexec
  have hhealth := State.setHealth_shows (s := s.setPl fun x => { x with ret := none }) (p := q.plane) (x := 0) (State.sound_regs hs) (by decide)
  exact ⟨_, hexec, rfl, (hhealth.raise _).rd, rfl⟩

theorem exec_returnEnd_waits (hwait : (s.pl.ret.all fun r => r.step != 4 || decide (s.clk.frame < r.bound + 50000)) = true) :
    exec .returnEnd s = .next s := by
  rw [exec_returnEnd]
  unfold State.returnEnd
  split
  next q hret =>
    rw [hret] at hwait
    rw [if_pos (by simpa using hwait)]
  next => rfl

/-! ### The automatic return -/

/-- The automatic return of plane p at boundary b is taken off the list. -/
noncomputable def State.withoutAuto (s : State) (p : Plane) (b : Nat) : State :=
  s.setPl fun x => { x with autoAt := x.autoAt.filter fun a => decide (a ≠ (p, b)) }

set_option Elab.async false in
theorem State.autoReturn_of_due {b : Nat} (hdue : s.pl.autoAt.find? (fun a => decide (a.2 ≤ s.clk.frame)) = some (p, b)) : s.autoReturn =
    if s.on R.PL_CTRL_AUTO_RETURN && s.returnCode == Code.ok && s.health p == 1 && s.autoCount < 3 then
      ((s.withoutAuto p b).startReturn p).setPl fun x =>
        { x with autoLog := x.autoLog.filter (fun f => s.clk.frame < f + 86400 * 50000) ++ [s.clk.frame] }
    else s.withoutAuto p b := by
  unfold State.autoReturn
  rw [hdue]
  rfl

theorem autoReturn_starts {b : Nat} (hs : s.sound = true) (hdue : s.pl.autoAt.find? (fun a => decide (a.2 ≤ s.clk.frame)) = some (p, b))
    (hauto : s.on R.PL_CTRL_AUTO_RETURN = true) (hcode : s.returnCode = Code.ok) (hhealth : s.health p = 1) (hcount : s.autoCount < 3) :
    Yields .autoReturn s fun t => t.health p = 3 ∧ t.pl.ret = some { plane := p, step := 1, since := s.now } ∧
      t.pl.autoLog.getLast? = some s.clk.frame := by
  obtain ⟨hreturns, hpl, -⟩ := State.startReturn_leaves (s := s.withoutAuto p b) (State.sound_regs hs) p
  have hexec := exec_autoReturn s
  rw [State.autoReturn_of_due hdue, if_pos (by simp [hauto, hcode, hhealth, hcount])] at hexec
  exact ⟨_, hexec, hreturns, congrArg PlaneSt.ret hpl, List.getLast?_concat⟩

theorem exec_autoReturn_drops {b : Nat} (hdue : s.pl.autoAt.find? (fun a => decide (a.2 ≤ s.clk.frame)) = some (p, b))
    (hrefused : s.on R.PL_CTRL_AUTO_RETURN = false ∨ s.returnCode ≠ Code.ok ∨ s.health p ≠ 1 ∨ 3 ≤ s.autoCount) :
    exec .autoReturn s = .next { s with pl := { s.pl with autoAt := s.pl.autoAt.filter fun a => decide (a ≠ (p, b)) } } := by
  rw [exec_autoReturn, State.autoReturn_of_due hdue, if_neg]
  · rfl
  · simp only [Bool.and_eq_true, beq_iff_eq, decide_eq_true_eq]
    rintro ⟨⟨⟨hauto, hcode⟩, hhealth⟩, hcount⟩
    rcases hrefused with h | h | h | h
    · exact absurd hauto (by simp [h])
    · exact h hcode
    · exact h hhealth
    · omega

theorem exec_autoReturn_waits (hwait : ∀ a ∈ s.pl.autoAt, s.clk.frame < a.2) : exec .autoReturn s = .next s := by
  have hnone : s.pl.autoAt.find? (fun a => decide (a.2 ≤ s.clk.frame)) = none :=
    List.find?_eq_none.mpr fun a ha => by simpa using hwait a ha
  rw [exec_autoReturn, State.autoReturn, hnone]

end

/-- Settles O52. -/
theorem planeReturns : Obligations.PlaneReturns := by
  unfold Obligations.PlaneReturns
  intro s hs
  refine ⟨fun r p hwf hmay hfenced => planeReturn_yields hs hwf hmay hfenced, ?_, fun _ => exec_returnBankTest_waits,
    fun r hret hstep hdue => lockstep_yields hret hstep hdue, exec_lockstep_waits, fun r hret hstep hdue => returnEnd_yields hs hret hstep hdue,
    exec_returnEnd_waits, fun p b hdue => ⟨autoReturn_starts hs hdue, exec_autoReturn_drops hdue⟩, exec_autoReturn_waits⟩
  exact fun r hret hstep hdue => ⟨returnBankTest_passes hret hstep hdue, fun k ix hwf => returnBankTest_fails hs hwf hret hstep hdue⟩

end Sys2Proof.Machine
end

section
/-! TESTS. Two stages of a return of plane B. -/

namespace Sys2Proof.Machine

open Sys2Proof

/-- A running block at frame 60000 whose plane B reads fenced, with automatic returns let; `ret` is the return in progress. -/
noncomputable def returningBlock (ret : Option Returning) : State :=
  { (runningBlock.wr (healthField .B) 1).wr R.PL_CTRL_AUTO_RETURN 1 with
    clk := { runningBlock.clk with frame := 60000 }
    power := .run
    pl := { runningBlock.pl with ret := ret, autoAt := [(.B, 60000)] } }

theorem returningBlock_sound (ret : Option Returning) : (returningBlock ret).sound = true := (by decide +kernel : (returningBlock none).sound = true)

theorem returningBlock_return : Yields (.planeReturn (.principal 30)) (returningBlock none) fun t => t.health .B = 3 :=
  (planeReturn_yields (returningBlock_sound _) (by decide +kernel) (by decide +kernel) (by decide +kernel)).imp fun t ⟨hhealth, _⟩ => hhealth

/-- The last frame of probation. -/
theorem returningBlock_end : Yields .returnEnd (returningBlock (some ⟨.B, 4, 0, 10000⟩)) fun t => t.pl.ret = none ∧ t.health .B = 0 :=
  (returnEnd_yields (returningBlock_sound _) rfl rfl (by decide)).imp fun t ⟨hpl, hhealth, _⟩ => ⟨congrArg PlaneSt.ret hpl, hhealth⟩

end Sys2Proof.Machine
end


section
/-! SUPPORT. Fault messages, the registers of the collectors, the management cores (R367 to R369, R377, R378, R381, R383, R384). -/

namespace Sys2Proof.Machine

open Sys2Proof

section
variable {s : State} {r : Requester} {p : Plane}

@[simp] theorem State.noteStatus_faults (s : State) (r : Requester) (code : Nat) : (s.noteStatus r code).faults = s.faults :=
  State.noteStatus_same (o := partMask [.sb]) same_refl (by decide) .faults (by decide)

/-! ### Messages -/

theorem exec_faultMessage_adds {cls inst kind plane count addr : Nat} {m : FaultMsg} (hm : m = ⟨cls, inst, kind, plane, count, addr⟩)
    (hwf : (Instr.faultMessage cls inst kind plane count addr).wf = true) :
    exec (.faultMessage cls inst kind plane count addr) s = .next (if s.clocked && knownMsg m then
      { s with faults := { s.faults with incoming := s.faults.incoming ++ [m] } } else s) := by
  subst hm
  exact exec_faultMessage cls inst kind plane count addr s hwf

theorem exec_endReport_adds {cls inst kind plane count addr : Nat} {m : FaultMsg} (hm : m = ⟨cls, inst, kind, plane, count, addr⟩)
    (hwf : (Instr.faultMessage cls inst kind plane count addr).wf = true) :
    exec (.endReport cls inst kind plane count addr) s = .next (if s.clocked && knownMsg m && isCondition cls kind then
      { s with faults := { s.faults with ended := s.faults.ended ++ [m] } } else s) := by
  subst hm
  exact exec_endReport cls inst kind plane count addr s hwf

/-! ### The registers of the collectors -/

/-- The entries of FC_CTRL, FC_ACK and FC_UNFENCE in the table of chapter 15. -/
noncomputable def fcCtrlSpec : RegSpec := ⟨.FC_CTRL, 0x60000, [], .faults, [⟨31, 31, .w1s, .live, 0, .number, false⟩, ⟨2, 0, .rw, .framed, 3, .number, false⟩]⟩

noncomputable def fcAckSpec : RegSpec := ⟨.FC_ACK, 0x60090, [], .faults, [⟨1, 1, .w1s, .live, 0, .number, false⟩, ⟨0, 0, .w1s, .live, 0, .number, false⟩]⟩

noncomputable def fcUnfenceSpec : RegSpec := ⟨.FC_UNFENCE, 0x600a0, [], .faults,
  [⟨31, 31, .w1s, .live, 0, .number, false⟩, ⟨26, 24, .rw, .live, 0, .number, false⟩, ⟨6, 0, .rw, .live, 0, .number, false⟩]⟩

set_option Elab.async false in
theorem regAt_fcCtrl : regAt A.FC_CTRL = some ⟨fcCtrlSpec, []⟩ := by decide +kernel
theorem regAt_fcAck : regAt A.FC_ACK = some ⟨fcAckSpec, []⟩ := by decide +kernel
theorem regAt_fcUnfence : regAt A.FC_UNFENCE = some ⟨fcUnfenceSpec, []⟩ := by decide +kernel

theorem clearFirst_yields (hwf : r.wf = true) (hmay : s.mayWrite r A.FC_CTRL (s.setting A.FC_CTRL [(R.FC_CTRL_CLEAR_FIRST, 1)]) = true) :
    Yields (.clearFirst r) s fun t => t.faults = { s.faults with first := none } := by
  have hset : (s.setting A.FC_CTRL [(R.FC_CTRL_CLEAR_FIRST, 1)]).testBit 31 = true := State.testBit_setting s _ _ _
  let u := (s.dropHeld r).addShadow R.FC_CTRL_PIN_SEV (R.FC_CTRL_PIN_SEV.get (s.setting A.FC_CTRL [(R.FC_CTRL_CLEAR_FIRST, 1)])) false
  have hwrite : s.writeFields r A.FC_CTRL [(R.FC_CTRL_CLEAR_FIRST, 1)] = u.clearFirst.noteStatus r Code.ok := by
    refine (State.regWrite_plain hmay regAt_fcCtrl rfl rfl rfl).trans ?_
    show (if (s.setting A.FC_CTRL [(R.FC_CTRL_CLEAR_FIRST, 1)]).testBit 31 then u.clearFirst else u).noteStatus r Code.ok = _
    rw [if_pos hset]
  exact ⟨_, (exec_clearFirst r s hwf).trans (congrArg _ hwrite), State.noteStatus_faults _ _ _⟩

/-- The acknowledgements that a word of FC_ACK brings. -/
theorem fcAck_yields {slots : Nat} (hwf : (Instr.fcAck r slots).wf = true) (hmay : s.mayWrite r A.FC_ACK slots = true) :
    Yields (.fcAck r slots) s fun t =>
      t.faults = { s.faults with acks := s.faults.acks ++ (if slots.testBit 0 then [0] else []) ++ if slots.testBit 1 then [1] else [] } := by
  let first : State := if slots.testBit 0 then (s.dropHeld r).ackSlot 0 else s.dropHeld r
  let both : State := if slots.testBit 1 then first.ackSlot 1 else first
  have hwrite : s.regWrite r A.FC_ACK [slots] = both.noteStatus r Code.ok := State.regWrite_plain hmay regAt_fcAck rfl rfl rfl
  have hfirst : first.faults = { s.faults with acks := s.faults.acks ++ if slots.testBit 0 then [0] else [] } := by
    show (if _ then _ else _ : State).faults = _
    split
    · rfl
    · rw [List.append_nil]
      rfl
  have hboth : both.faults = { first.faults with acks := first.faults.acks ++ if slots.testBit 1 then [1] else [] } := by
    show (if _ then _ else _ : State).faults = _
    split
    · rfl
    · rw [List.append_nil]
  refine ⟨_, (exec_fcAck r slots s hwf).trans (congrArg _ hwrite), ?_⟩
  refine (State.noteStatus_faults _ _ _).trans ?_
  rw [hboth, hfirst]

theorem State.setting_three (s : State) (a : Nat) (x y z : FieldAt × Nat) :
    s.setting a [x, y, z] = z.1.put (y.1.put (x.1.put (s.restWord a) x.2) y.2) z.2 := rfl

/-- The unit and the index that a word of FC_UNFENCE names, and its GO. -/
theorem fcUnfence_word {unit index rest w : Nat} (hunit : unit < 8) (hindex : index < 128)
    (hw : w = R.FC_UNFENCE_GO.put (R.FC_UNFENCE_INDEX.put (R.FC_UNFENCE_UNIT.put rest unit) index) 1) : w.testBit 31 = true ∧ bits w 26 24 = unit ∧ bits w 6 0 = index := by
  have hput : w = putBits (putBits (putBits rest 26 24 unit) 6 0 index) 31 31 1 := hw
  subst hput
  refine ⟨(testBit_iff_bits _ _).2 ((bits_putBits _ _ _ _).trans (by decide)), ?_, ?_⟩
  · rw [bits_putBits_below _ _ _ _ _ _ (by decide) (by decide), bits_putBits_above _ _ _ _ _ _ (by decide) (by decide), bits_putBits]
    exact Nat.mod_eq_of_lt hunit
  · rw [bits_putBits_below _ _ _ _ _ _ (by decide) (by decide), bits_putBits]
    exact Nat.mod_eq_of_lt hindex

/-- The state in which the fields of FC_UNFENCE have taken effect. -/
noncomputable def State.unfenceSet (s : State) (w : Nat) : State := (s.wr R.FC_UNFENCE_UNIT (bits w 26 24)).wr R.FC_UNFENCE_INDEX (bits w 6 0)

set_option Elab.async false in
theorem State.regWrite_fcUnfence {w : Nat} (hmay : s.mayWrite r A.FC_UNFENCE w = true) (hgo : w.testBit 31 = true) :
    s.regWrite r A.FC_UNFENCE [w] = (((s.dropHeld r).unfenceSet w).askUnfence (bits w 26 24) (bits w 6 0)).noteStatus r Code.ok := by
  refine (State.regWrite_plain hmay regAt_fcUnfence rfl rfl rfl).trans ?_
  show (if w.testBit 31 then ((s.dropHeld r).unfenceSet w).askUnfence (bits w 26 24) (bits w 6 0) else _).noteStatus r Code.ok = _
  rw [if_pos hgo]

theorem fcUnfence_yields {unit index : Nat} (hwf : (Instr.fcUnfence r unit index).wf = true)
    (hmay : s.mayWrite r A.FC_UNFENCE
      (s.setting A.FC_UNFENCE [(R.FC_UNFENCE_UNIT, unit), (R.FC_UNFENCE_INDEX, index), (R.FC_UNFENCE_GO, 1)]) = true) :
    Yields (.fcUnfence r unit index) s fun t => t.faults = { s.faults with unfence := s.faults.unfence ++ [(unit, index)] } := by
  have hbounds : (r.wf = true ∧ unit < 8) ∧ index < 128 := by simpa [Instr.wf] using hwf
  have hexec : exec (.fcUnfence r unit index) s = .next (s.regWrite r A.FC_UNFENCE
      [s.setting A.FC_UNFENCE [(R.FC_UNFENCE_UNIT, unit), (R.FC_UNFENCE_INDEX, index), (R.FC_UNFENCE_GO, 1)]]) := exec_fcUnfence r unit index s hwf
  obtain ⟨hgo, hunit, hindex⟩ := fcUnfence_word hbounds.1.2 hbounds.2 (s.setting_three A.FC_UNFENCE (R.FC_UNFENCE_UNIT, unit) (R.FC_UNFENCE_INDEX, index)
    (R.FC_UNFENCE_GO, 1))
  rw [State.regWrite_fcUnfence hmay hgo, hunit, hindex] at hexec
  exact ⟨_, hexec, State.noteStatus_faults _ _ _⟩

/-! ### The management cores -/

/-- The restarts of plane p's core within the 24 h before it stopped. -/
noncomputable def State.restartsOf (s : State) (p : Plane) (since : Nat) : List (Nat × Nat) :=
  s.faults.restarts.filter fun x => x.1 == planeBit p && since < x.2 + 86400 * 50000

theorem State.coreRestart_stopped {since : Nat} (hstopped : s.faults.stopped.find? (fun x => x.1 == planeBit p) = some (planeBit p, since)) :
    s.coreRestart p = if since + 1 ≤ s.clk.frame && (s.restartsOf p since).length < 3 then
      { s with faults := { s.faults with
          stopped := s.faults.stopped.filter fun x => x.1 != planeBit p
          restarts := (s.faults.restarts.filter fun x => x.1 != planeBit p) ++ s.restartsOf p since ++ [(planeBit p, s.clk.frame)] } }
    else s := by
  unfold State.coreRestart
  dsimp only
  rw [hstopped]
  rfl

theorem coreRestart_yields {since : Nat} (hstopped : s.faults.stopped.find? (fun x => x.1 == planeBit p) = some (planeBit p, since))
    (hheld : since + 1 ≤ s.clk.frame) (hfew : (s.restartsOf p since).length < 3) : Yields (.coreRestart p) s fun t =>
      (∀ x ∈ t.faults.stopped, x.1 ≠ planeBit p) ∧ t.faults.restarts.getLast? = some (planeBit p, s.clk.frame) ∧
      t.faults.held = s.faults.held := by
  have hexec := exec_coreRestart p s
  rw [State.coreRestart_stopped hstopped, if_pos (by simp [hheld, hfew])] at hexec
  exact ⟨_, hexec, fun x hx => by simpa using (List.mem_filter.mp hx).2, List.getLast?_concat, rfl⟩

theorem exec_coreRestart_stays {since : Nat} (hstopped : s.faults.stopped.find? (fun x => x.1 == planeBit p) = some (planeBit p, since))
    (hmany : 3 ≤ (s.restartsOf p since).length) : exec (.coreRestart p) s = .next s := by
  rw [exec_coreRestart, State.coreRestart_stopped hstopped, if_neg (by simp; omega)]

theorem exec_coreRestart_runs (hruns : ∀ x ∈ s.faults.stopped, x.1 ≠ planeBit p) : exec (.coreRestart p) s = .next s := by
  have hnone : s.faults.stopped.find? (fun x => x.1 == planeBit p) = none :=
    List.find?_eq_none.mpr fun x hx => by simpa using hruns x hx
  rw [exec_coreRestart]
  unfold State.coreRestart
  dsimp only
  rw [hnone]

theorem watchdog_yields (hruns : ∀ x ∈ s.faults.stopped, x.1 ≠ planeBit p) (hclocked : s.clocked = true) : Yields (.watchdog p) s fun t =>
    t.faults = { s.faults with incoming := s.faults.incoming ++ [planeMsg 12 0 1 p 0] } := by
  have hany : s.faults.stopped.any (fun x => x.1 == planeBit p) = false := List.any_eq_false.mpr fun x hx => by simpa using hruns x hx
  have hexec := exec_watchdog p s
  rw [State.watchdog, if_pos (by simp [hclocked, hany])] at hexec
  exact ⟨_, hexec, rfl⟩

theorem trngHealth_yields (hclocked : s.clocked = true) : Yields .trngHealth s fun t =>
    t.faults = { s.faults with incoming := s.faults.incoming ++ [{ cls := 13, inst := 0, kind := 2 }] } := by
  have hexec := exec_trngHealth s
  rw [State.trngHealth, if_pos hclocked] at hexec
  exact ⟨_, hexec, rfl⟩

end

/-- Settles O53. -/
theorem faultsAreCollected : Obligations.FaultsAreCollected := by
  unfold Obligations.FaultsAreCollected
  intro s _
  exact ⟨fun _ _ _ _ _ _ m hm hwf => ⟨exec_faultMessage_adds hm hwf, exec_endReport_adds hm hwf⟩, fun r hwf hmay => clearFirst_yields hwf hmay,
    fun r slots hwf hmay => fcAck_yields hwf hmay, fun r unit index hwf hmay => fcUnfence_yields hwf hmay,
    fun p since hstopped hheld hfew => coreRestart_yields hstopped hheld hfew, fun p since hstopped hmany => exec_coreRestart_stays hstopped hmany,
    fun p hruns => ⟨exec_coreRestart_runs hruns, watchdog_yields hruns⟩, trngHealth_yields⟩

end Sys2Proof.Machine
end

section
/-! TESTS. An acknowledgement and a stopped core. -/

namespace Sys2Proof.Machine

open Sys2Proof

/-- A running block at frame 9 whose plane A core stopped at frame 8, having restarted twice at frame 1. -/
noncomputable def coreBlock : State :=
  { runningBlock with
    clk := { runningBlock.clk with frame := 9 }
    power := .run
    faults := { runningBlock.faults with stopped := [(0, 8)], restarts := List.replicate 2 (0, 1) } }

theorem coreBlock_acks : Yields (.fcAck (.principal 30) 3) coreBlock fun t => t.faults.acks = [0, 1] :=
  (fcAck_yields (by decide +kernel) (by decide +kernel)).imp fun t ht => congrArg Faults.acks ht

/-- The third restart within 24 h is made. -/
theorem coreBlock_restart : Yields (.coreRestart .A) coreBlock fun t => t.faults.restarts.getLast? = some (0, 9) :=
  (coreRestart_yields (since := 8) rfl (by decide) (by decide +kernel)).imp fun t ⟨_, hlast, _⟩ => hlast

end Sys2Proof.Machine
end


section
/-! SUPPORT. Sensor rounds, sensor failures, trips (R389, R390, R395 to R397, R403). -/

namespace Sys2Proof.Machine

open Sys2Proof

/-! ### What goes on after the counts of a round have been taken -/

/-- The sensors' registers read as before, and the round counts as taken. -/
structure State.RoundKeeps (s t : State) : Prop where
  regs : t.Regs
  word : ∀ a, 0x80100 ≤ a → a < 0x80280 → t.word a = s.word a
  taken : t.therm.taken = s.therm.taken

section

variable {s t u : State} {g : FieldAt} {x : Nat}

set_option Elab.async false in
theorem State.RoundKeeps.refl (h : s.Regs) : s.RoundKeeps s := ⟨h, fun _ _ _ => rfl, rfl⟩

theorem State.RoundKeeps.of_reg (h : s.RoundKeeps t) (hreg : u.reg = t.reg) (htaken : u.therm.taken = t.therm.taken) : s.RoundKeeps u :=
  ⟨h.regs.of_reg hreg, fun a hlow hhigh => (by rw [State.word, hreg]; rfl : u.word a = t.word a).trans (h.word a hlow hhigh), htaken.trans h.taken⟩

theorem State.RoundKeeps.of_same {o : Nat} (h : s.RoundKeeps t) (hsame : Same o t u) (hshared : o.testBit Part.shared.ix = false := by decide)
    (hA : o.testBit Part.privA.ix = false := by decide) (hB : o.testBit Part.privB.ix = false := by decide)
    (htherm : o.testBit Part.therm.ix = false := by decide) : s.RoundKeeps u := by
  have hregs : u.reg.shared = t.reg.shared := hsame .shared hshared
  refine ⟨State.regs_of_same hsame hshared hA hB h.regs, fun a hlow hhigh => ?_, (congrArg Thermal.taken (hsame .therm htherm)).trans h.taken⟩
  rw [State.word, hregs]
  exact h.word a hlow hhigh

theorem State.RoundKeeps.wr (h : s.RoundKeeps t) (hg : g.addr < 0x80100 ∨ 0x80280 ≤ g.addr) : s.RoundKeeps (t.wr g x) := by
  refine ⟨h.regs.wr, fun a hlow hhigh => ?_, h.taken⟩
  rw [State.wr, State.word_setWord _ _ _ _ h.regs.shared, if_neg (by omega)]
  exact h.word a hlow hhigh

theorem State.RoundKeeps.over {α : Type} {l : List α} {step : State → α → State} (h : s.RoundKeeps t)
    (hstep : ∀ u, ∀ y ∈ l, s.RoundKeeps u → s.RoundKeeps (step u y)) : s.RoundKeeps (t.over l step) :=
  List.foldlRecOn l step h fun u hu y hy => hstep u y hy hu

theorem State.RoundKeeps.ite {c : Prop} [Decidable c] (ht : s.RoundKeeps t) (hu : s.RoundKeeps u) : s.RoundKeeps (if c then t else u) := by
  split <;> assumption

theorem State.RoundKeeps.powerDomain {d : Nat} {on : Bool} (h : s.RoundKeeps t) (hd : d < 96) : s.RoundKeeps (t.powerDomain d on) :=
  State.RoundKeeps.wr (g := domainField d) (x := b01 on) h (.inl (show 0x70010 + 4 * (d / 32) < 0x80100 by omega))

theorem State.RoundKeeps.setTherm {f : Thermal → Thermal} (h : s.RoundKeeps t) (hf : ∀ x, (f x).taken = x.taken) : s.RoundKeeps (t.setTherm f) :=
  ⟨h.regs.of_reg rfl, h.word, (hf t.therm).trans h.taken⟩

theorem State.RoundKeeps.setBoot (h : s.RoundKeeps t) (f : Boot → Boot) : s.RoundKeeps (t.setBoot f) :=
  h.of_same (o := partMask [.boot]) (State.setBoot_same same_refl (by decide))

theorem State.RoundKeeps.endReport {m : FaultMsg} (h : s.RoundKeeps t) : s.RoundKeeps (t.endReport m) :=
  h.of_same (o := partMask [.faults]) (State.endReport_same same_refl (by decide))

set_option Elab.async false in
theorem State.RoundKeeps.raise {m : FaultMsg} (h : s.RoundKeeps t) : s.RoundKeeps (t.raise m) :=
  h.of_same (o := partMask [.faults]) (State.raise_same same_refl (by decide))

theorem State.RoundKeeps.takeZones (h : s.RoundKeeps t) : s.RoundKeeps t.takeZones := by
  unfold State.takeZones
  extract_lets own
  split
  · exact h
  · extract_lets u
    have hzones : s.RoundKeeps u := h.over fun x z hz hx => by
      have hzone : 0x80020 + 4 * z < 0x80100 := by
        have hlt := List.mem_range.mp hz
        omega
      exact (((hx.wr (g := R.TH_ZONE_TEMP z) (.inl hzone)).wr (g := R.TH_ZONE_BAND z) (.inl hzone)).wr (g := R.TH_ZONE_SENSORS z) (.inl hzone)).wr
        (g := R.TH_ZONE_HOT_ASSUMED z) (.inl hzone)
    exact (((hzones.wr (g := R.TH_STATUS_TJ) (by decide)).wr (by decide)).wr (by decide)).wr (by decide)

theorem State.RoundKeeps.takeThrottle (h : s.RoundKeeps t) : s.RoundKeeps t.takeThrottle := by
  unfold State.takeThrottle
  extract_lets tj k top d raised moved told marked lowered ended
  split
  · have hraised : s.RoundKeeps raised := (h.wr (by decide)).wr (by decide)
    have htold : s.RoundKeeps told := by
      subst told
      split
      · exact State.RoundKeeps.ite hraised.endReport hraised
      · exact hraised
    have hmarked : s.RoundKeeps marked := htold.setTherm fun _ => rfl
    exact State.RoundKeeps.ite hmarked.raise hmarked
  · split
    · have hlowered : s.RoundKeeps lowered := h.wr (by decide)
      have hended : s.RoundKeeps ended := by
        subst ended
        split
        · exact hlowered.endReport
        · exact hlowered
      exact State.RoundKeeps.ite (hended.setTherm fun _ => rfl) hlowered
    · exact h

theorem State.RoundKeeps.tripNow {analog : Bool} (h : s.RoundKeeps t) : s.RoundKeeps (t.tripNow analog) := by
  unfold State.tripNow
  refine State.RoundKeeps.ite h ?_
  extract_lets shown tripped powered
  have hshown : s.RoundKeeps shown := (h.wr (by decide)).wr (by decide)
  have htripped : s.RoundKeeps tripped := hshown.setTherm fun _ => rfl
  have hpowered : s.RoundKeeps powered := htripped.over fun u d hd hu =>
    hu.powerDomain (by simp only [List.mem_cons, List.not_mem_nil, or_false] at hd; omega)
  split
  next v w hfree =>
    have hw : w = powered.free.2 := (congrArg Prod.snd hfree).symm
    subst hw
    exact hpowered.of_same (o := partMask [.free, .prot]) (State.setProt_same (State.free_same same_refl (by decide)) (by decide))

theorem State.RoundKeeps.showPm (h : s.RoundKeeps t) : s.RoundKeeps t.showPm := by
  unfold State.showPm
  split
  · exact h
  · exact (((h.wr (by decide)).wr (by decide)).wr (by decide)).wr (by decide)

theorem State.RoundKeeps.norProgram {a : Nat} {bytes : List Nat} (h : s.RoundKeeps t) : s.RoundKeeps (t.norProgram a bytes) :=
  h.of_same (o := partMask [.nor]) (State.norProgram_same same_refl (by decide))

theorem State.RoundKeeps.postMortem {cause : Nat} (h : s.RoundKeeps t) : s.RoundKeeps (t.postMortem cause) := by
  unfold State.postMortem
  refine State.RoundKeeps.ite h ?_
  split
  exact (h.norProgram.norProgram.setBoot _).showPm

theorem State.RoundKeeps.tripNor (h : s.RoundKeeps t) : s.RoundKeeps t.tripNor := by
  unfold State.tripNor
  split
  · split
    next v w hfree =>
      have hw : w = t.free.2 := (congrArg Prod.snd hfree).symm
      have hdrawn : s.RoundKeeps w := hw ▸ h.of_same (o := partMask [.free]) (State.free_same same_refl (by decide))
      exact (hdrawn.norProgram.wr (g := R.BT_NOR_CTRL_BUSY) (x := 0) (by decide)).setBoot _
  · exact h

theorem State.RoundKeeps.noteMortem (before : State) (h : s.RoundKeeps t) : s.RoundKeeps (t.noteMortem before) :=
  State.RoundKeeps.ite h.tripNor.postMortem (State.RoundKeeps.ite h.postMortem h)

theorem State.RoundKeeps.trySession (h : s.RoundKeeps t) : s.RoundKeeps t.trySession := by
  have hstarted (w : MtpWrite) : s.RoundKeeps (t.startMtp w) := h.of_same (o := partMask [.prot]) (State.startMtp_same same_refl (by decide))
  unfold State.trySession
  split
  · exact h
  · split
    · exact (hstarted _).wr (by decide)
    · exact h.wr (by decide)

end

/-! ### The counts of a round -/

/-- Sensor d is counted, and unless it reads Hot-Assumed its reading is v. -/
structure State.SensorTaken (s : State) (d v : Nat) : Prop where
  regs : s.Regs
  counted : s.rd (R.TH_SENSOR_COUNTED d) = 1
  temp : s.rd (R.TH_SENSOR_HOT_ASSUMED d) = 0 → s.rd (R.TH_SENSOR_TEMP d) = v

section
variable {s t : State} {d e v x : Nat} {g : FieldAt}

/-- The sensor's register reads as before. -/
theorem State.SensorTaken.of_word (h : s.SensorTaken d v) (hregs : t.Regs) (hword : t.word (A.TH_SENSOR d) = s.word (A.TH_SENSOR d)) :
    t.SensorTaken d v := by
  have hrd {f : FieldAt} (hf : f.addr = A.TH_SENSOR d) : t.rd f = s.rd f := by rw [State.rd, hf, hword, State.rd, hf]
  refine ⟨hregs, (hrd rfl).trans h.counted, fun hcool => (hrd rfl).trans (h.temp ((hrd rfl).symm.trans hcool))⟩

theorem State.SensorTaken.roundKeeps (h : s.SensorTaken d v) (hkeeps : s.RoundKeeps t) (hd : d < 96) : t.SensorTaken d v :=
  h.of_word hkeeps.regs (hkeeps.word _ (show 0x80100 ≤ 0x80100 + 4 * d by omega) (show 0x80100 + 4 * d < 0x80280 by omega))

theorem State.SensorTaken.wr (h : s.SensorTaken d v) (hg : g.addr ≠ A.TH_SENSOR d) : (s.wr g x).SensorTaken d v :=
  h.of_word h.regs.wr (by rw [State.wr, State.word_setWord _ _ _ _ h.regs.shared, if_neg (Ne.symm hg)])

set_option Elab.async false in
theorem State.SensorTaken.bump (h : s.SensorTaken d v) (hg : g.addr ≠ A.TH_SENSOR d) : (s.bump g x).SensorTaken d v := h.wr hg

theorem State.SensorTaken.raise (h : s.SensorTaken d v) (m : FaultMsg) : (s.raise m).SensorTaken d v := h.of_word (h.regs.of_reg rfl) rfl

theorem State.SensorTaken.over {α : Type} {l : List α} {step : State → α → State} (h : s.SensorTaken d v)
    (hstep : ∀ u y, u.SensorTaken d v → (step u y).SensorTaken d v) : (s.over l step).SensorTaken d v :=
  List.foldlRecOn l step h fun u hu y _ => hstep u y hu

theorem sensor_ne (h : e ≠ d) : A.TH_SENSOR e ≠ A.TH_SENSOR d := show 0x80100 + 4 * e ≠ 0x80100 + 4 * d by omega

/-- Counts make it so. -/
theorem State.sensorTaken_count (h : s.Regs) (d : Nat) (i : Int) :
    ((s.wr (R.TH_SENSOR_COUNTED d) 1).wrS (R.TH_SENSOR_TEMP d) i).SensorTaken d (unsigned 12 i) := by
  have hcounted : (s.wr (R.TH_SENSOR_COUNTED d) 1).Shows (R.TH_SENSOR_COUNTED d) 1 := State.Shows.wr_self h (show 1 < 2 by decide)
  have htemp := State.Shows.wr_self (f := R.TH_SENSOR_TEMP d) hcounted.regs (unsigned_lt 12 i)
  have hstill := hcounted.wr_apart (g := R.TH_SENSOR_TEMP d) (x := unsigned 12 i)
  exact ⟨htemp.regs, hstill.rd, fun _ => htemp.rd⟩

/-- A sensor that fails reads Hot-Assumed. -/
theorem State.failSensor_shows (h : s.Regs) (d : Nat) {cause : Nat} (hcause : cause < 4) : (s.failSensor d cause).Shows (R.TH_SENSOR_FAIL d) 1 ∧
    (s.failSensor d cause).Shows (R.TH_SENSOR_HOT_ASSUMED d) 1 ∧ (s.failSensor d cause).Shows (R.TH_SENSOR_CAUSE d) cause := by
  have hevents {u : State} {f : FieldAt} {v : Nat} (hu : u.Shows f v) (hf : f.addr = A.TH_SENSOR d) :
      ((u.bump R.TH_EVENTS_SENSOR_FAILS 1).raise { cls := 8, inst := d, kind := 1 }).Shows f v :=
    (hu.wr (g := R.TH_EVENTS_SENSOR_FAILS) (by rw [hf]; show 0x80100 + 4 * d ≠ 0x80008; omega)).raise _
  have hfail : (s.wr (R.TH_SENSOR_FAIL d) 1).Shows (R.TH_SENSOR_FAIL d) 1 := State.Shows.wr_self h (show 1 < 2 by decide)
  have hhot := State.Shows.wr_self (f := R.TH_SENSOR_HOT_ASSUMED d) (v := 1) hfail.regs (show 1 < 2 by decide)
  have hshown := State.Shows.wr_self (f := R.TH_SENSOR_CAUSE d) hhot.regs hcause
  exact ⟨hevents (hfail.wr_apart.wr_apart) rfl, hevents hhot.wr_apart rfl, hevents hshown rfl⟩

theorem State.SensorTaken.failSensor {cause : Nat} (h : s.SensorTaken d v) (e : Nat) (hcause : cause < 4) : (s.failSensor e cause).SensorTaken d v := by
  by_cases he : e = d
  · subst he
    obtain ⟨-, hhot, -⟩ := State.failSensor_shows h.regs e hcause
    have hcounted : (s.failSensor e cause).Shows (R.TH_SENSOR_COUNTED e) 1 :=
      ((((State.Shows.mk h.regs h.counted).wr_apart (g := R.TH_SENSOR_FAIL e) (x := 1)).wr_apart (g := R.TH_SENSOR_HOT_ASSUMED e) (x := 1)).wr_apart
        (g := R.TH_SENSOR_CAUSE e) (x := cause)).wr (g := R.TH_EVENTS_SENSOR_FAILS) (show 0x80100 + 4 * e ≠ 0x80008 by omega) |>.raise _
    exact ⟨hhot.regs, hcounted.rd, fun hcool => absurd (hcool.symm.trans hhot.rd) (by decide)⟩
  · have hthree := ((h.wr (g := R.TH_SENSOR_FAIL e) (x := 1) (sensor_ne he)).wr (g := R.TH_SENSOR_HOT_ASSUMED e) (x := 1) (sensor_ne he)).wr
      (g := R.TH_SENSOR_CAUSE e) (x := cause) (sensor_ne he)
    exact (hthree.bump (g := R.TH_EVENTS_SENSOR_FAILS) (x := 1) (show 0x80008 ≠ 0x80100 + 4 * d by omega)).raise _

/-- What a sensor that reads Hot-Assumed shows in place of a temperature leaves this. -/
theorem State.SensorTaken.hot (h : s.SensorTaken d v) (e : Nat) (i : Int) :
    (if s.on (R.TH_SENSOR_HOT_ASSUMED e) then s.wrS (R.TH_SENSOR_TEMP e) i else s).SensorTaken d v := by
  split
  next hon =>
    by_cases he : e = d
    · subst he
      have hhot := (State.Shows.of_rd h.regs (R.TH_SENSOR_HOT_ASSUMED e)).wr_apart (g := R.TH_SENSOR_TEMP e) (x := unsigned 12 i)
      have hcounted := (State.Shows.mk h.regs h.counted).wr_apart (g := R.TH_SENSOR_TEMP e) (x := unsigned 12 i)
      refine ⟨hhot.regs, hcounted.rd, fun hcool => absurd (hhot.rd.symm.trans hcool) ?_⟩
      simpa [State.on] using hon
    · exact h.wr (g := R.TH_SENSOR_TEMP e) (sensor_ne he)
  next => exact h

/-- An element of a list whose step establishes Q, while the steps of the others keep it. -/
theorem State.over_establishes_of_mem {α : Type} {I Q : State → Prop} {l : List α} {f : State → α → State} {x : α} (hx : x ∈ l)
    (hI : ∀ s y, I s → I (f s y)) (hQ : ∀ s, ∀ y ∈ l, I s → Q s → Q (f s y)) (hset : ∀ s, I s → Q (f s x)) (hs : I s) : Q (s.over l f) := by
  obtain ⟨l₁, l₂, rfl⟩ := List.append_of_mem hx
  unfold State.over
  rw [List.foldl_append, List.foldl_cons]
  have h₁ : I (l₁.foldl f s) := List.foldlRecOn l₁ f hs fun u hu y _ => hI u y hu
  refine (List.foldlRecOn (motive := fun u => I u ∧ Q u) l₂ f ⟨hI _ x h₁, hset _ h₁⟩ fun u hu y hy => ⟨hI u y hu.1, ?_⟩).2
  exact hQ u y (by simp [hy]) hu.1 hu.2

theorem State.takeCounts_taken {counts : List (Nat × Nat)} {c : Nat × Nat} (hs : s.Regs) (hc : c ∈ counts) (hlt : c.1 < 96)
    (hon : s.domainOn c.1 = true) (hone : (counts.map (·.1)).Nodup) :
    (s.takeCounts counts).SensorTaken c.1 (unsigned 12 (clamp (-2048) 2047 (countTemp c.1 c.2))) := by
  unfold State.takeCounts
  extract_lets mine cleared taken ranged judged runs noted failed
  have hcleared : cleared.Regs := List.foldlRecOn (motive := State.Regs) (List.range 96) _ hs fun u hu d _ => by split <;> [exact hu.wr; exact hu]
  have hmine : c ∈ mine := List.mem_filter.mpr ⟨hc, by simp [hlt, hon]⟩
  have htaken : taken.SensorTaken c.1 (unsigned 12 (clamp (-2048) 2047 (countTemp c.1 c.2))) := by
    refine State.over_establishes_of_mem (I := State.Regs)
      (Q := fun u => u.SensorTaken c.1 (unsigned 12 (clamp (-2048) 2047 (countTemp c.1 c.2)))) hmine (fun u y hu => hu.wr.wr) ?_ (fun u hu => State.sensorTaken_count hu _ _) hcleared
    intro u y hy hu h
    by_cases hsame : y.1 = c.1
    · have heq : y = c := List.inj_on_of_nodup_map hone (List.mem_of_mem_filter hy) hc hsame
      exact heq ▸ State.sensorTaken_count hu _ _
    · exact (h.wr (g := R.TH_SENSOR_COUNTED y.1) (sensor_ne hsame)).wr (g := R.TH_SENSOR_TEMP y.1) (sensor_ne hsame)
  have hranged : ranged.SensorTaken c.1 (unsigned 12 (clamp (-2048) 2047 (countTemp c.1 c.2))) :=
    htaken.over fun u y hu => by
      dsimp only
      split
      · exact hu.failSensor _ (by decide)
      · exact hu
  have hnoted : noted.SensorTaken c.1 (unsigned 12 (clamp (-2048) 2047 (countTemp c.1 c.2))) := hranged.of_word (hranged.regs.of_reg rfl) rfl
  have hfailed : failed.SensorTaken c.1 (unsigned 12 (clamp (-2048) 2047 (countTemp c.1 c.2))) :=
    hnoted.over fun u y hu => hu.failSensor _ (by decide)
  exact hfailed.over fun u y hu => hu.hot y _

end

/-! ### Signed fields -/

theorem signed_unsigned_twelve {i : Int} (hlow : -2048 ≤ i) (hhigh : i ≤ 2047) : signed 12 (unsigned 12 i) = i := by
  have hmod : ((unsigned 12 i : Nat) : Int) = i % 4096 := Int.toNat_of_nonneg (Int.emod_nonneg i (by decide))
  unfold signed
  rw [Nat.mod_eq_of_lt (unsigned_lt 12 i)]
  dsimp only
  split <;> omega

set_option Elab.async false in
theorem clamp_mem {lo hi : Int} (i : Int) (h : lo ≤ hi) : lo ≤ clamp lo hi i ∧ clamp lo hi i ≤ hi := by
  unfold clamp
  split
  · exact ⟨Int.le_refl lo, h⟩
  · split <;> omega

section
variable {s t : State} {d v : Nat}

theorem State.reading_of_rd {i : Int} (h : t.rd (R.TH_SENSOR_TEMP d) = unsigned 12 (clamp (-2048) 2047 i)) : t.reading d = clamp (-2048) 2047 i := by
  obtain ⟨hlow, hhigh⟩ := clamp_mem (lo := -2048) (hi := 2047) i (by decide)
  rw [State.reading, State.rdS, h]
  exact signed_unsigned_twelve hlow hhigh

/-! ### A round -/

theorem State.takeCounts_therm (s : State) (counts : List (Nat × Nat)) : (s.takeCounts counts).therm.taken = s.therm.taken := by
  unfold State.takeCounts
  extract_lets mine cleared taken ranged judged runs noted failed
  have hranged : Same (partMask [.shared, .faults]) s ranged := by
    refine State.over_same (fun u c hu => ?_) (State.over_same (fun u c hu => State.wrS_same (State.wr_same hu (by decide)) (by decide))
      (State.over_same (fun u d hu => ite_same (State.wr_same hu (by decide)) hu) same_refl))
    exact ite_same (State.failSensor_same hu (by decide)) hu
  have hend : Same (partMask [.shared, .faults]) noted (failed.over (List.range 96) fun s d =>
      if s.on (R.TH_SENSOR_HOT_ASSUMED d) then s.wrS (R.TH_SENSOR_TEMP d) (4 * s.rd R.TH_CFG_L3_ON : Nat) else s) :=
    State.over_same (fun u d hu => ite_same (State.wrS_same hu (by decide)) hu)
      (State.over_same (fun u c hu => State.failSensor_same hu (by decide)) same_refl)
  have hkept : ranged.therm.taken = s.therm.taken := congrArg Thermal.taken (hranged .therm (by decide))
  exact (congrArg Thermal.taken (hend .therm (by decide))).trans hkept

/-- The state in which the round counts as taken, with its counts. -/
noncomputable def State.roundCounted (s : State) (counts : List (Nat × Nat)) : State := (s.setTherm fun x => { x with taken := some s.clk.frame }).takeCounts counts

/-- What follows the counts of a round leaves the sensors' registers. -/
theorem State.roundKeeps_round {counts : List (Nat × Nat)} (hregs : (s.roundCounted counts).Regs) (hawake : s.awake = true) (hdue : s.roundDue = true)
    (htrip : s.therm.trip = none) : (s.roundCounted counts).RoundKeeps ((s.when s.awake (·.roundRow counts)).noteMortem s) := by
  have hround : (s.roundCounted counts).RoundKeeps (s.sensorRound counts) := by
    have hgo : ¬ (!s.roundDue || s.therm.trip.isSome || decide (s.power = .deepSleep)) = true := by
      have hpower : s.power ≠ .deepSleep := by
        rw [State.awake, Bool.and_eq_true] at hawake
        simpa using hawake.2
      simp [hdue, htrip, hpower]
    unfold State.sensorRound
    rw [if_neg hgo]
    extract_lets marked throttled shown triggered
    have hthrottled : (s.roundCounted counts).RoundKeeps throttled := (State.RoundKeeps.refl hregs).takeZones.takeThrottle
    have hshown : (s.roundCounted counts).RoundKeeps shown := hthrottled.wr (by decide)
    have htriggered : (s.roundCounted counts).RoundKeeps triggered :=
      hshown.of_same (o := partMask [.cal, .hka]) (State.calTriggers_same same_refl (by decide))
    exact State.RoundKeeps.ite htriggered.tripNow htriggered
  have hrow : (s.roundCounted counts).RoundKeeps (s.roundRow counts) := State.RoundKeeps.ite hround.trySession hround
  rw [State.when, if_pos hawake]
  exact hrow.noteMortem s

theorem sensorRound_yields {counts : List (Nat × Nat)} (hs : s.sound = true) (hwf : (Instr.sensorRound counts).wf = true) (hawake : s.awake = true)
    (hdue : s.roundDue = true) (htrip : s.therm.trip = none) (hone : (counts.map (·.1)).Nodup) : Yields (.sensorRound counts) s fun t =>
      t.therm.taken = some s.clk.frame ∧ ∀ x ∈ counts, s.domainOn x.1 = true → t.rd (R.TH_SENSOR_COUNTED x.1) = 1 ∧
        (t.rd (R.TH_SENSOR_HOT_ASSUMED x.1) = 0 → t.reading x.1 = clamp (-2048) 2047 (countTemp x.1 x.2)) := by
  have hmarked : (s.setTherm fun x => { x with taken := some s.clk.frame }).Regs := State.sound_regs hs
  have hregs : (s.roundCounted counts).Regs :=
    (State.takeCounts_kept (State.setTherm_kept (State.sound_kept hs))).regs
  have hkeeps := State.roundKeeps_round hregs hawake hdue htrip
  refine ⟨_, exec_sensorRound counts s hwf, hkeeps.taken.trans (State.takeCounts_therm _ _), fun x hx hon => ?_⟩
  have hbounds : x.1 < 96 ∧ x.2 < 65536 := by
    rw [Instr.wf, List.all_eq_true] at hwf
    simpa using hwf x hx
  have htaken := (State.takeCounts_taken hmarked hx hbounds.1 hon hone).roundKeeps hkeeps hbounds.1
  exact ⟨htaken.counted, fun hcool => State.reading_of_rd (htaken.temp hcool)⟩

theorem exec_sensorRound_waits {counts : List (Nat × Nat)} (hwf : (Instr.sensorRound counts).wf = true)
    (hidle : s.roundDue = false ∨ s.therm.trip.isSome = true) (hsession : s.on R.BT_STATUS_SESSION_WAIT = false) :
    exec (.sensorRound counts) s = .next s := by
  have hround : s.sensorRound counts = s := by
    unfold State.sensorRound
    rcases hidle with h | h <;> rw [if_pos (by simp [h])]
  have hrow : s.roundRow counts = s := by
    rw [State.roundRow, hround]
    exact if_neg (by simp [hsession])
  rw [exec_sensorRound counts s hwf, State.when, hrow, ite_self, State.noteMortem_self]

/-! ### Failures -/

theorem sensorFail_yields {cause : Nat} (hs : s.sound = true) (hwf : (Instr.sensorFail d cause).wf = true) (hawake : s.awake = true)
    (hworks : s.sensorFailed d = false) (hunmasked : s.masked d = false) : Yields (.sensorFail d cause) s fun t =>
      t.rd (R.TH_SENSOR_FAIL d) = 1 ∧ t.rd (R.TH_SENSOR_HOT_ASSUMED d) = 1 ∧ t.rd (R.TH_SENSOR_CAUSE d) = cause ∧
      t.faults = { s.faults with incoming := s.faults.incoming ++ [{ cls := 8, inst := d, kind := 1 }] } := by
  have hcause : cause < 4 := by
    rw [Instr.wf, Bool.and_eq_true] at hwf
    exact of_decide_eq_true hwf.2
  obtain ⟨hfail, hhot, hshown⟩ := State.failSensor_shows (State.sound_regs hs) d hcause
  have hexec := exec_sensorFail d cause s hwf
  rw [State.when, if_pos (by simp [hawake, hworks, hunmasked])] at hexec
  exact ⟨_, hexec, hfail.rd, hhot.rd, hshown.rd, rfl⟩

theorem exec_sensorFail_idle {cause : Nat} (hwf : (Instr.sensorFail d cause).wf = true) (hidle : s.sensorFailed d = true ∨ s.masked d = true) :
    exec (.sensorFail d cause) s = .next s := by
  rw [exec_sensorFail d cause s hwf, State.when]
  rcases hidle with h | h <;> rw [if_neg (by simp [h])]

/-! ### Trips -/

set_option Elab.async false in
theorem State.Shows.setTherm {f : FieldAt} (h : s.Shows f v) (g : Thermal → Thermal) : (s.setTherm g).Shows f v := h.of_reg rfl
theorem State.Shows.setProt {f : FieldAt} (h : s.Shows f v) (g : Protect → Protect) : (s.setProt g).Shows f v := h.of_reg rfl

/-- What TH_STATUS shows of an analog trip. -/
theorem State.tripShown (hs : s.Regs) : ((s.wr R.TH_STATUS_TRIPPED 1).wr R.TH_STATUS_ANALOG (b01 true)).Shows R.TH_STATUS_TRIPPED 1 ∧
    ((s.wr R.TH_STATUS_TRIPPED 1).wr R.TH_STATUS_ANALOG (b01 true)).Shows R.TH_STATUS_ANALOG (b01 true) := by
  have htripped : (s.wr R.TH_STATUS_TRIPPED 1).Shows R.TH_STATUS_TRIPPED 1 := State.Shows.wr_self hs (by decide)
  exact ⟨htripped.wr_apart, State.Shows.wr_self htripped.regs (by decide)⟩

/-- The registers and the state of the trip, before the pins' domains are powered. -/
theorem State.tripNow_analog (hs : s.Regs) (hnone : s.therm.trip = none) :
    (s.tripNow true).Shows R.TH_STATUS_TRIPPED 1 ∧ (s.tripNow true).Shows R.TH_STATUS_ANALOG 1 ∧
    (s.tripNow true).therm = { s.therm with trip := some 2, tripN := false } ∧ .tripCount (s.prot.tripCounter + 1) ∈ (s.tripNow true).prot.mtp := by
  unfold State.tripNow
  rw [if_neg (by simp [hnone])]
  extract_lets shown tripped powered
  have hpowers {f : FieldAt} {v : Nat} (hf : f.addr < 0x70010 ∨ 0x80000 ≤ f.addr) (h : shown.Shows f v) : powered.Shows f v :=
    State.Shows.over (s := tripped) (h.setTherm _) fun u d hd hu => by
      have hlt : d < 96 := by simp only [List.mem_cons, List.not_mem_nil, or_false] at hd; omega
      exact hu.wr (g := domainField d) (x := b01 true) (show f.addr ≠ 0x70010 + 4 * (d / 32) by omega)
  obtain ⟨htripped, hanalog⟩ := State.tripShown hs
  have hpowered : Same (partMask [.shared]) tripped powered := State.over_same (fun _ _ hu => State.powerDomain_same hu (by decide)) same_refl
  have htherm : powered.therm = { s.therm with trip := some 2, tripN := false } := hpowered .therm (by decide)
  have hprot : powered.prot = s.prot := hpowered .prot (by decide)
  split
  next v w hfree =>
    have hdrawn : w = powered.free.2 := (congrArg Prod.snd hfree).symm
    have hw : Same (partMask [.free]) powered w := hdrawn ▸ State.free_same same_refl (by decide)
    refine ⟨((hpowers (.inr (by decide)) htripped).of_same hw).setProt _, ((hpowers (.inr (by decide)) hanalog).of_same hw).setProt _,
      (hw .therm (by decide)).trans htherm, List.mem_append_left _ (List.mem_append_right _ (List.mem_singleton.mpr ?_))⟩
    rw [← hprot, ← hw .prot (by decide)]

/-- The registers that a record writes are those of start-up. -/
theorem State.Shows.showPm {f : FieldAt} (h : s.Shows f v) (hstatus : f.addr ≠ A.BT_PM_STATUS) (hseq : f.addr ≠ A.BT_PM_SEQ) : s.showPm.Shows f v := by
  unfold State.showPm
  split
  · exact h
  · exact (((h.wr hstatus).wr hstatus).wr hstatus).wr hseq

theorem State.Shows.norProgram {f : FieldAt} (h : s.Shows f v) (a : Nat) (bytes : List Nat) : (s.norProgram a bytes).Shows f v :=
  h.of_same (o := partMask [.nor]) (State.norProgram_same same_refl (by decide))

set_option Elab.async false in
theorem State.Shows.setBoot {f : FieldAt} (h : s.Shows f v) (g : Boot → Boot) : (s.setBoot g).Shows f v := h.of_reg rfl

theorem State.Shows.postMortem {f : FieldAt} (h : s.Shows f v) (hf : 0x20000 ≤ f.addr) (cause : Nat) : (s.postMortem cause).Shows f v := by
  unfold State.postMortem
  split
  · exact h
  · split
    exact (((h.norProgram _ _).norProgram _ _).setBoot _).showPm (show f.addr ≠ 0x10050 by omega) (show f.addr ≠ 0x10054 by omega)

theorem State.Shows.tripNor {f : FieldAt} (h : s.Shows f v) (hf : 0x20000 ≤ f.addr) : s.tripNor.Shows f v := by
  unfold State.tripNor
  split
  · split
    next w u hfree =>
      have hu : u = s.free.2 := (congrArg Prod.snd hfree).symm
      have hdrawn : u.Shows f v := hu ▸ h.of_same (o := partMask [.free]) (State.free_same same_refl (by decide))
      exact ((hdrawn.norProgram _ _).wr (g := R.BT_NOR_CTRL_BUSY) (show f.addr ≠ 0x10080 by omega)).setBoot _
  · exact h

theorem State.Shows.noteMortem {f : FieldAt} (h : s.Shows f v) (hf : 0x20000 ≤ f.addr) (before : State) : (s.noteMortem before).Shows f v :=
  State.Shows.ite ((h.tripNor hf).postMortem hf _) (State.Shows.ite (h.postMortem hf _) h)

theorem analogTrip_yields (hs : s.sound = true) (hanswers : s.sbAnswers = true) (hnone : s.therm.trip = none) : Yields .analogTrip s fun t =>
    t.therm = { s.therm with trip := some 2, tripN := false } ∧
      t.rd R.TH_STATUS_TRIPPED = 1 ∧ t.rd R.TH_STATUS_ANALOG = 1 ∧ .tripCount (s.prot.tripCounter + 1) ∈ t.prot.mtp := by
  obtain ⟨htripped, hanalog, htherm, hcount⟩ := State.tripNow_analog (State.sound_regs hs) hnone
  have hnote : Same (partMask [.shared, .boot, .nor, .free]) (s.tripNow true) ((s.tripNow true).noteMortem s) :=
    State.noteMortem_same same_refl (by decide)
  have hexec := exec_analogTrip s
  rw [State.when, if_pos hanswers] at hexec
  refine ⟨_, hexec, (hnote .therm (by decide)).trans htherm, (htripped.noteMortem (by decide) s).rd, (hanalog.noteMortem (by decide) s).rd, ?_⟩
  rw [show ((s.tripNow true).noteMortem s).prot = (s.tripNow true).prot from hnote .prot (by decide)]
  exact hcount

theorem exec_analogTrip_again (htrip : s.therm.trip.isSome = true) : exec .analogTrip s = .next s := by
  rw [exec_analogTrip, State.when, State.tripNow, if_pos htrip, ite_self, State.noteMortem_self]

theorem exec_tripHalt_halts (htrip : s.therm.trip.isSome = true) :
    exec .tripHalt s = .next { s with therm := { s.therm with halted := true }, prot := { s.prot with mtp := [] } } := by
  rw [exec_tripHalt, State.tripHalt, if_pos htrip]
  rfl

theorem exec_tripHalt_idle (hnone : s.therm.trip = none) : exec .tripHalt s = .next s := by
  rw [exec_tripHalt, State.tripHalt, if_neg (by simp [hnone])]

/-! ### The sensor of DEEP SLEEP -/

theorem deepSleepSensor_yields {count : Nat} (hs : s.sound = true) (hcount : count < 65536) (hpower : s.power = .deepSleep) :
    Yields (.deepSleepSensor count) s fun t => t.rd (R.TH_SENSOR_COUNTED 95) = 1 ∧
      t.reading 95 = clamp (-2048) 2047 (countTemp 95 count) ∧ t.therm = s.therm := by
  have hcounted : (s.wr (R.TH_SENSOR_COUNTED 95) 1).Shows (R.TH_SENSOR_COUNTED 95) 1 := State.Shows.wr_self (State.sound_regs hs) (by decide)
  have htemp := State.Shows.wr_self (f := R.TH_SENSOR_TEMP 95) hcounted.regs (unsigned_lt 12 (clamp (-2048) 2047 (countTemp 95 count)))
  have hexec := exec_deepSleepSensor count s (decide_eq_true hcount)
  rw [State.when, if_pos (decide_eq_true hpower)] at hexec
  exact ⟨_, hexec, (hcounted.wr_apart (g := R.TH_SENSOR_TEMP 95)).rd, State.reading_of_rd htemp.rd, rfl⟩

theorem exec_deepSleepSensor_awake {count : Nat} (hcount : count < 65536) (hpower : s.power ≠ .deepSleep) :
    exec (.deepSleepSensor count) s = .next s := by
  rw [exec_deepSleepSensor count s (decide_eq_true hcount), State.when, if_neg (by simpa using hpower)]

end

/-- Settles O54. A temperature between two steps of 0.25 °C rounds to the nearest, ties away from zero: log entry 83. -/
theorem temperaturesAndTrips : Obligations.TemperaturesAndTrips := by
  unfold Obligations.TemperaturesAndTrips
  intro s hs
  exact ⟨fun counts hwf hawake hdue htrip hone => sensorRound_yields hs hwf hawake hdue htrip hone,
    fun counts hwf _ hidle hsession => exec_sensorRound_waits hwf hidle hsession,
    fun d cause hwf hawake hworks hunmasked => sensorFail_yields hs hwf hawake hworks hunmasked,
    fun d cause hwf hidle => exec_sensorFail_idle hwf hidle, analogTrip_yields hs,
    fun htrip => ⟨exec_analogTrip_again htrip, exec_tripHalt_halts htrip⟩, exec_tripHalt_idle,
    fun count hcount hpower => deepSleepSensor_yields hs hcount hpower, fun count hcount hpower => exec_deepSleepSensor_awake hcount hpower⟩

end Sys2Proof.Machine
end

section
/-! TESTS. A round and a trip. -/

namespace Sys2Proof.Machine

open Sys2Proof

/-- A running block at frame 53, three frames after the boundary whose round is due, with every sensor's domain on. -/
noncomputable def warmBlock : State :=
  { ((runningBlock.setWord (A.PW_DOMAIN_ON 0) (2 ^ 32 - 1)).setWord (A.PW_DOMAIN_ON 1) (2 ^ 32 - 1)).setWord (A.PW_DOMAIN_ON 2) (2 ^ 32 - 1) with
    clk := { runningBlock.clk with frame := 53 }
    power := .run }

theorem warmBlock_sound : warmBlock.sound = true := by decide +kernel

theorem warmBlock_round : Yields (.sensorRound [(0, 30000), (95, 30000)]) warmBlock fun t => t.rd (R.TH_SENSOR_COUNTED 95) = 1 :=
  (sensorRound_yields warmBlock_sound (by decide +kernel) (by decide +kernel) (by decide +kernel) rfl (by decide +kernel)).imp
    fun t ⟨_, hcounts⟩ => (hcounts (95, 30000) (by decide) (by decide +kernel)).1

theorem warmBlock_trip : Yields .analogTrip warmBlock fun t => t.therm.trip = some 2 ∧ t.therm.tripN = false :=
  (analogTrip_yields warmBlock_sound (by decide +kernel) rfl).imp fun t ⟨htherm, _⟩ => ⟨congrArg Thermal.trip htherm, congrArg Thermal.tripN htherm⟩

end Sys2Proof.Machine
end


section
/-! SUPPORT. Power states, wakes, domains on demand (R399, R401 to R405). -/

namespace Sys2Proof.Machine

open Sys2Proof

set_option Elab.async false in
theorem State.Shows.setPw {s : State} {f : FieldAt} {v : Nat} (h : s.Shows f v) (g : PowerSt → PowerSt) : (s.setPw g).Shows f v := h.of_reg rfl
theorem State.Shows.alertState {s : State} {f : FieldAt} {v : Nat} (h : s.Shows f v) : s.alertState.Shows f v := h.of_reg rfl

/-- The power state. -/
noncomputable def State.setPower (s : State) (p : PowerState) : State := { s with power := p }
theorem State.Shows.setPower {s : State} {f : FieldAt} {v : Nat} (h : s.Shows f v) (p : PowerState) : (s.setPower p).Shows f v := h.of_reg rfl

theorem State.enterOff_of_power {s : State} (h : s.power ≠ .off) : s.enterOff = s := if_neg fun hoff => h hoff.1

/-! ### A domain that refuses -/

/-- A domain that can refuse has a number of seven bits. -/
theorem State.refuses_lt {s : State} {d : Nat} {target : PowerState} {veto : Bool} (h : s.refuses target d veto = true) : d < 128 := by
  by_contra hlt
  unfold State.refuses at h
  rw [if_neg (by omega), if_neg (by omega), if_neg (by omega), if_neg (by omega), if_neg (by omega), if_neg (by omega), if_neg (by omega),
    if_neg (by omega)] at h
  exact absurd h (by decide)

/-- What PW_STATE shows of an abort. -/
noncomputable def State.abortShown (s : State) (d : Nat) : State :=
  (((s.wr R.PW_STATE_BUSY 0).wr R.PW_STATE_ABORTED 1).wr R.PW_STATE_REFUSER d).wr R.PW_STATE_STATE 0

theorem State.abortShown_shows {s : State} {d : Nat} (hs : s.Regs) (hd : d < 128)
    : (s.abortShown d).Shows R.PW_STATE_BUSY 0 ∧ (s.abortShown d).Shows R.PW_STATE_ABORTED 1 ∧
    (s.abortShown d).Shows R.PW_STATE_REFUSER d ∧ (s.abortShown d).Shows R.PW_STATE_STATE 0 := by
  have hbusy := State.Shows.wr_self (f := R.PW_STATE_BUSY) (v := 0) hs (by decide)
  have haborted := State.Shows.wr_self (f := R.PW_STATE_ABORTED) (v := 1) hbusy.regs (by decide)
  have hrefuser := State.Shows.wr_self (f := R.PW_STATE_REFUSER) haborted.regs hd
  exact ⟨hbusy.wr_apart.wr_apart.wr_apart, haborted.wr_apart.wr_apart, hrefuser.wr_apart, State.Shows.wr_self hrefuser.regs (by decide)⟩

/-- The state in which a transition has been aborted, before its answer. -/
noncomputable def State.aborted (s : State) (d : Nat) : State :=
  (((((s.abortShown d).setPw fun x => { x with trans := none, held := [] }).setPower .run).raise { cls := 9, inst := d, kind := 2 })).alertState

theorem State.Shows.aborted {s : State} {f : FieldAt} {v d : Nat} (h : (s.abortShown d).Shows f v)
    : (s.aborted d).Shows f v := (((h.setPw _).setPower _).raise _).alertState

theorem State.aborted_same (s : State) (d : Nat) : Same (partMask [.shared, .pw, .power, .faults, .sb]) s (s.aborted d) := by
  have hshown : Same (partMask [.shared, .pw, .power, .faults, .sb]) s (s.abortShown d) :=
    State.wr_same (State.wr_same (State.wr_same (State.wr_same same_refl (by decide)) (by decide)) (by decide)) (by decide)
  exact State.alertState_same (State.raise_same (Same.power_ (State.setPw_same hshown (by decide)) (by decide)) (by decide)) (by decide)

set_option Elab.async false in
theorem State.abortTransition_eq (s : State) (t : Transition) (d : Nat) :
    s.abortTransition t d = (s.aborted d).answer t.head 0x39 Code.powerAborted := rfl

/-! ### Stops -/

/-- The transition stands at the question to domain d. -/
theorem State.domainStop_asks {s : State} {d : Nat} {tr : Transition} {rest : List Nat} {veto : Bool} (htr : s.pw.trans = some tr)
    (hdue : tr.entry * 64 ≤ s.now) (hlanes : tr.lanes = false)
    (hask : (tr.ask.dropWhile fun d => !s.domainOn d) = d :: rest) : s.domainStop veto =
      if s.refuses tr.target d veto then s.abortTransition tr d
      else if d = 92 ∧ ¬ s.prot.mtp.isEmpty then s
      else
        let u := if losesPower tr.target d then s.powerDomain d false else s
        let later := rest.dropWhile fun d => !u.domainOn d
        if later.isEmpty then u.lanesAgreed { tr with ask := later } else u.setPw fun x => { x with trans := some { tr with ask := later } } := by
  unfold State.domainStop
  simp only [htr]
  rw [if_neg (by simp [hdue, hlanes])]
  simp only [hask, hlanes]
  rfl

theorem domainStop_refused {s : State} {d : Nat} {tr : Transition} {rest : List Nat} {veto : Bool} (hs : s.sound = true)
    (htr : s.pw.trans = some tr) (hdue : tr.entry * 64 ≤ s.now) (hlanes : tr.lanes = false)
    (hask : (tr.ask.dropWhile fun d => !s.domainOn d) = d :: rest) (hrefuses : s.refuses tr.target d veto = true)
    (hp : isPrincipal tr.head.principal = true) (hat : s.atOnce tr.head = true) : Yields (.domainStop veto) s fun t =>
      t.power = .run ∧ t.pw.trans = none ∧ t.rd R.PW_STATE_STATE = 0 ∧ t.rd R.PW_STATE_BUSY = 0 ∧ t.rd R.PW_STATE_ABORTED = 1 ∧
      t.rd R.PW_STATE_REFUSER = d ∧ t.faults = { s.faults with incoming := s.faults.incoming ++ [{ cls := 9, inst := d, kind := 2 }] } ∧
      (t.prin tr.head.principal).completed = (s.prin tr.head.principal).completed ++ [s.itemOf tr.head 0x39 Code.powerAborted []] := by
  obtain ⟨hbusy, haborted, hrefuser, hstate⟩ := State.abortShown_shows (State.sound_regs hs) (State.refuses_lt hrefuses)
  obtain ⟨hanswer, hcompleted⟩ := State.answer_completed_of_same 0x39 Code.powerAborted [] hs (s.aborted_same d) hp hat
  have hpower : ((s.aborted d).answer tr.head 0x39 Code.powerAborted).power = .run := hanswer .power (by decide)
  have hexec := exec_domainStop veto s
  rw [State.domainStop_asks htr hdue hlanes hask, if_pos hrefuses, State.abortTransition_eq, State.enterOff_of_power (by rw [hpower]; decide)] at hexec
  exact ⟨_, hexec, hpower, congrArg PowerSt.trans (hanswer .pw (by decide)), (hstate.aborted.of_same hanswer).rd, (hbusy.aborted.of_same hanswer).rd,
    (haborted.aborted.of_same hanswer).rd, (hrefuser.aborted.of_same hanswer).rd, hanswer .faults (by decide), hcompleted⟩

/-- An answer to the lanes' agreement, and IDLE, are shown by registers of their own. -/
theorem State.Shows.lanesAgreed {s : State} {f : FieldAt} {v : Nat} {tr : Transition} (h : s.Shows f v) (hlate : f.addr ≠ A.SCH_EVENTS2)
    (hstate : f.addr ≠ A.PW_STATE) : (s.lanesAgreed tr).Shows f v := by
  have hanswered : (s.answer tr.head 0x39 Code.ok).Shows f v := h.answerAt _ _ _ _ _ hlate
  unfold State.lanesAgreed
  exact State.Shows.ite (((((hanswered.setPw _).wr hstate).wr hstate).setPower _).setPw _).alertState ((hanswered.setPw _).setPw _)

theorem State.lanesAgreed_power {s : State} {tr : Transition} (hon : s.power ≠ .off) : (s.lanesAgreed tr).power ≠ .off := by
  have hanswered : (s.answer tr.head 0x39 Code.ok).power = s.power := State.answerAt_parts s _ _ _ _ _ .power (by decide)
  unfold State.lanesAgreed
  generalize s.answer tr.head 0x39 Code.ok = u at hanswered
  dsimp only
  split
  · exact fun h => nomatch (show PowerState.idle = .off from h)
  · exact fun h => hon (hanswered ▸ h)

theorem domainStop_stops {s : State} {d : Nat} {tr : Transition} {rest : List Nat} {veto : Bool} (hs : s.sound = true) (htr : s.pw.trans = some tr)
    (hdue : tr.entry * 64 ≤ s.now) (hlanes : tr.lanes = false)
    (hask : (tr.ask.dropWhile fun d => !s.domainOn d) = d :: rest) (hagrees : s.refuses tr.target d veto = false) (hd : d < 92)
    (hloses : losesPower tr.target d = true) (hon : s.power ≠ .off) :
    Yields (.domainStop veto) s fun t => t.domainOn d = false := by
  have hstopped := State.powerDomain_shows (State.sound_regs hs) d false
  have hpower : (s.powerDomain d false).power ≠ .off := hon
  have hlate : (domainField d).addr ≠ A.SCH_EVENTS2 := show 0x70010 + 4 * (d / 32) ≠ 0x4000c by omega
  have hstate : (domainField d).addr ≠ A.PW_STATE := show 0x70010 + 4 * (d / 32) ≠ 0x70000 by omega
  have hexec := exec_domainStop veto s
  rw [State.domainStop_asks htr hdue hlanes hask, if_neg (by simp [hagrees]), if_neg (by omega)] at hexec
  simp only [hloses, if_true] at hexec
  generalize s.powerDomain d false = u at *
  split at hexec
  · exact ⟨_, hexec.trans (congrArg _ (State.enterOff_of_power (State.lanesAgreed_power hpower))),
      State.domainOn_of_shows (hstopped.lanesAgreed hlate hstate)⟩
  · exact ⟨_, hexec.trans (congrArg _ (State.enterOff_of_power hpower)), State.domainOn_of_shows (hstopped.setPw _)⟩

theorem exec_domainStop_idle {s : State} {veto : Bool} (hnone : s.pw.trans = none) (hon : s.power ≠ .off) : exec (.domainStop veto) s = .next s := by
  have hstop : s.domainStop veto = s := by
    unfold State.domainStop
    rw [hnone]
  rw [exec_domainStop, hstop, State.enterOff_of_power hon]

/-! ### Wakes -/

theorem wakeNLow_idle {s : State} {us : Nat} (hs : s.sound = true) (hphase : s.boot.phase ≠ .off) (hpower : s.power = .idle)
    : Yields (.wakeNLow us) s fun t =>
    t.power = .run ∧ t.rd R.PW_STATE_STATE = 0 ∧ t.rd R.PW_STATE_WAKE_CAUSE = 2 ∧ t.pw = { s.pw with held := [] } := by
  have hstate := State.Shows.wr_self (s := s.setPower .run) (f := R.PW_STATE_STATE) (v := 0) (State.sound_regs hs) (by decide)
  have hcause := State.Shows.wr_self (f := R.PW_STATE_WAKE_CAUSE) (v := 2) hstate.regs (by decide)
  have hwake : s.wakeN us = ((((s.setPower .run).wr R.PW_STATE_STATE 0).wr R.PW_STATE_WAKE_CAUSE 2).setPw fun x => { x with held := [] }).alertState := by
    unfold State.wakeN
    rw [if_neg hphase, hpower]
    rfl
  exact ⟨_, (exec_wakeNLow us s).trans (congrArg _ hwake), rfl, ((hstate.wr_apart.setPw _).alertState).rd, ((hcause.setPw _).alertState).rd, rfl⟩

/-- The domains that a wake powers. -/
noncomputable def State.wakePowered (s : State) : State :=
  s.over (List.range 80 ++ [92, 93, 95] ++ ([Plane.A, .B].filter fun p => s.health p != 2).flatMap fun p => (planeDomains p).take 2) fun s d =>
    if s.domainOn d then s else s.powerDomain d true

/-- Fabric time as a wake from DEEP SLEEP leaves it. -/
noncomputable def State.wakeTimed (s : State) (deep : Bool) : State :=
  if !deep then s
  else (if s.time.refclkLost then (s.loadDomains s.rtc).setTime fun x => { x with refclkLost := false } else s).loadFabric

theorem State.startWake_eq {s : State} {cause : Nat} (hnone : s.pw.wake = none) : s.startWake cause =
    (s.wakePowered.wakeTimed (decide (s.power = .deepSleep))).setPw fun x => { x with wake := some cause, held := [] } := by
  unfold State.startWake
  rw [if_neg (by simp [hnone])]
  rfl

theorem State.startWake_power (s : State) (cause : Nat) : (s.startWake cause).power = s.power :=
  State.startWake_same (o := partMask [.clk, .shared, .time, .pw]) same_refl (by decide) .power (by decide)

set_option Elab.async false in
theorem State.startWake_wake {s : State} (hnone : s.pw.wake = none) (cause : Nat) : (s.startWake cause).pw.wake = some cause := by
  rw [State.startWake_eq hnone]
  rfl

theorem wakeNLow_wakes {s : State} {us : Nat} (hphase : s.boot.phase ≠ .off) (hpower : s.power = .sleep ∨ s.power = .deepSleep ∧ 10 ≤ us)
    (hnone : s.pw.wake = none) :
    Yields (.wakeNLow us) s fun t => t.pw.wake = some 2 ∧ t.power = s.power := by
  have hwake : s.wakeN us = s.startWake 2 := by
    unfold State.wakeN
    rw [if_neg hphase]
    rcases hpower with h | ⟨h, hlong⟩
    · rw [h]
    · rw [h]
      exact if_pos hlong
  exact ⟨_, (exec_wakeNLow us s).trans (congrArg _ hwake), State.startWake_wake hnone 2, s.startWake_power 2⟩

theorem exec_wakeNLow_ignored {s : State} {us : Nat} (hphase : s.boot.phase ≠ .off) (hpower : s.power = .run ∨ s.power = .deepSleep ∧ us < 10) :
    exec (.wakeNLow us) s = .next s := by
  have hwake : s.wakeN us = s := by
    unfold State.wakeN
    rw [if_neg hphase]
    rcases hpower with h | ⟨h, hshort⟩
    · rw [h]
    · rw [h]
      exact if_neg (by omega)
  rw [exec_wakeNLow, hwake]

theorem exec_wakeNLow_off {s : State} {us : Nat} (hphase : s.boot.phase = .off) (hlong : 1000 ≤ us) :
    exec (.wakeNLow us) s = .next { s with boot := { s.boot with phase := .reset } } := by
  rw [exec_wakeNLow, State.wakeN, if_pos hphase, if_pos hlong]

/-- Fabric time is loaded into the registers of chapter 12 alone. -/
theorem State.Shows.loadDomains {s : State} {f : FieldAt} {v : Nat} (h : s.Shows f v) (hf : f.addr < 0x30000 ∨ 0x70020 ≤ f.addr) (sec : Nat)
    : (s.loadDomains sec).Shows f v := by
  have htime {t w : State} (ht : t.Shows f v) (hw : Same (partMask [.time]) t w) : w.Shows f v := ht.of_same hw
  have hstatus : f.addr ≠ A.FT_STATUS := show f.addr ≠ 0x30004 by omega
  unfold State.loadDomains
  extract_lets loaded
  have hloaded : loaded.Shows f v := h.over fun t d hd ht => by
    have hpair : d = 0 ∨ d = 1 := by simpa using hd
    have hrate : (t.putIncr d 0x666666666).Shows f v :=
      (ht.wr (g := R.FT_TD_INCR_HI_INCR d) (show f.addr ≠ 0x30108 + 0x40 * d by omega)).wr
        (g := R.FT_TD_INCR_LO_INCR d) (show f.addr ≠ 0x30104 + 0x40 * d by omega)
    have hvalid : (validField d).addr = A.FT_STATUS := by rcases hpair with rfl | rfl <;> rfl
    have hhold : (holdField d).addr = A.FT_STATUS := by rcases hpair with rfl | rfl <;> rfl
    exact htime ((hrate.wr (hvalid ▸ hstatus)).wr (hhold ▸ hstatus)) (State.updDomain_same same_refl (by decide))
  exact htime ((hloaded.wr (g := ringField 0) hstatus).wr (g := ringField 1) hstatus) (State.ppsMarkNow_same same_refl (by decide))

theorem State.Shows.wakeTimed {s : State} {f : FieldAt} {v : Nat} (h : s.Shows f v) (hf : 0x70020 ≤ f.addr) (deep : Bool)
    : (s.wakeTimed deep).Shows f v := by
  have hfabric {t : State} (ht : t.Shows f v) : t.loadFabric.Shows f v :=
    ht.of_same (o := partMask [.clk, .time]) (State.loadFabric_same same_refl (by decide))
  have hcleared {t : State} (ht : t.Shows f v) (g : Time → Time) : (t.setTime g).Shows f v :=
    ht.of_same (o := partMask [.time]) (State.setTime_same same_refl (by decide))
  exact State.Shows.ite h (hfabric (State.Shows.ite (hcleared (h.loadDomains (.inr hf) _) _) h))

theorem State.Shows.wakePowered {s : State} {f : FieldAt} {v : Nat} (h : s.Shows f v) (hf : 0x70020 ≤ f.addr) : s.wakePowered.Shows f v := by
  refine h.over fun t d hd ht => State.Shows.ite ht ?_
  have hlt : d < 96 := by
    simp only [List.mem_append, List.mem_range, List.mem_flatMap] at hd
    rcases hd with (hlow | hmid) | ⟨p, -, hplane⟩
    · omega
    · simp only [List.mem_cons, List.not_mem_nil, or_false] at hmid
      omega
    · cases p <;> simp [planeDomains] at hplane <;> omega
  exact ht.wr (g := domainField d) (x := b01 true) (show f.addr ≠ 0x70010 + 4 * (d / 32) by omega)

theorem State.Shows.startWake {s : State} {f : FieldAt} {v : Nat} (h : s.Shows f v) (hf : 0x70020 ≤ f.addr) (cause : Nat)
    : (s.startWake cause).Shows f v := by
  by_cases hnone : s.pw.wake = none
  · rw [State.startWake_eq hnone]
    exact ((h.wakePowered hf).wakeTimed hf _).setPw _
  · rw [State.startWake, if_pos (Option.isSome_iff_ne_none.mpr hnone)]
    exact h

theorem clockAlarm_yields {s : State} (hs : s.sound = true) (hanswers : s.sbAnswers = true) (hdue : s.alarmDue = true) : Yields .clockAlarm s fun t =>
    t.on R.PW_ALARM_HI_ENABLE = false ∧ (s.power = .sleep ∨ s.power = .deepSleep → s.pw.wake = none → t.pw.wake = some 3) := by
  have hoff := State.Shows.wr_self (f := R.PW_ALARM_HI_ENABLE) (v := 0) (State.sound_regs hs) (by decide)
  have hpower : (s.wr R.PW_ALARM_HI_ENABLE 0).power = s.power := rfl
  have hpw : (s.wr R.PW_ALARM_HI_ENABLE 0).pw = s.pw := rfl
  have hexec := exec_clockAlarm s
  rw [State.when, if_pos hanswers, State.clockAlarm, if_neg (by simp [hdue])] at hexec
  dsimp only at hexec
  generalize s.wr R.PW_ALARM_HI_ENABLE 0 = u at *
  rw [hpower] at hexec
  have hshown {t : State} (ht : t.Shows R.PW_ALARM_HI_ENABLE 0) : t.on R.PW_ALARM_HI_ENABLE = false := by rw [State.on, ht.rd]; rfl
  by_cases hsleeps : s.power = .sleep ∨ s.power = .deepSleep
  · rw [if_pos hsleeps] at hexec
    exact ⟨_, hexec, hshown (hoff.startWake (by decide) 3), fun _ hnone => State.startWake_wake (hpw ▸ hnone) 3⟩
  · rw [if_neg hsleeps] at hexec
    exact ⟨_, hexec, hshown hoff, fun h => absurd h hsleeps⟩

theorem exec_clockAlarm_early {s : State} (hearly : s.alarmDue = false) : exec .clockAlarm s = .next s := by
  have hrow : s.clockAlarm = s := by
    unfold State.clockAlarm
    rw [if_pos (by simp [hearly])]
  rw [exec_clockAlarm, State.when, hrow, ite_self]

theorem laneWake_yields {s : State} {l : Nat} (hl : l < 8) (hpower : s.power = .sleep) (hlistens : l ∈ s.listeners) (hnone : s.pw.wake = none) :
    Yields (.laneWake l) s fun t => t.pw.wake = some 1 := by
  have hexec := exec_laneWake l s (decide_eq_true hl)
  rw [State.laneWake, if_pos (by simp [hpower, hlistens])] at hexec
  exact ⟨_, hexec, State.startWake_wake hnone 1⟩

theorem exec_laneWake_ignored {s : State} {l : Nat} (hl : l < 8) (hdeaf : s.power ≠ .sleep ∨ l ∉ s.listeners) : exec (.laneWake l) s = .next s := by
  rw [exec_laneWake l s (decide_eq_true hl), State.laneWake]
  rcases hdeaf with h | h <;> rw [if_neg (by simp [h])]

/-! ### The loops' resumption -/

/-- The state in which banks and sets are restored, before the power state shows. -/
noncomputable def State.restored (s : State) (banks : List (Plane × Nat)) (sets : List Nat) : State :=
  let u := if s.power = .deepSleep then s.loseCapture else s
  let u := u.over sets State.setFailed
  let u := u.banksFailed (dedup (banks ++ u.pw.missed.filter fun x => u.inService x.1))
  let u := u.setSlots (u.dith.slots.map fun h => { h with sums := [] })
  u.over ((u.listedCtx u.active).filter fun n => u.stateOf n == stActive) fun s n => s.setCx R.CTX_OUT_XFER n 1

theorem State.restored_regs {s : State} (hs : s.sound = true) (banks : List (Plane × Nat)) (sets : List Nat) : (s.restored banks sets).Regs := by
  have hk := State.sound_kept hs
  have hlost : Kept (Keep.of s) (if s.power = .deepSleep then s.loseCapture else s) := by
    split
    · exact State.loseCapture_kept hk
    · exact hk
  have hsets := State.over_kept (f := State.setFailed) (l := sets) (fun _ _ hu => State.setFailed_kept hu) hlost
  unfold State.restored
  exact (State.over_kept (fun _ _ hu => State.setCx_kept hu) (State.setSlots_kept (State.banksFailed_kept hsets))).regs

/-- What the power state then shows. -/
noncomputable def State.resumeShown (s : State) (cause : Nat) : State := (s.wr R.PW_STATE_STATE 0).wr R.PW_STATE_WAKE_CAUSE cause

/-- The loops run again, with nothing computed. -/
noncomputable def State.loopsOpened (s : State) : State :=
  let u := s.setPw fun x => { x with wake := none, missed := [] }
  let u := { u with power := .run, sense := { u.sense with prev := [], cur := [] } }
  (u.setLoop fun l => { l with ready := false, computed := [], suspect := (u.listedCtx u.active).filter u.live }).alertState

theorem State.loopsResume_eq {s : State} {cause : Nat} {banks : List (Plane × Nat)} {sets : List Nat} (hwake : s.pw.wake = some cause) :
    s.loopsResume banks sets = ((s.restored banks sets).resumeShown cause).loopsOpened := by
  unfold State.loopsResume
  simp only [hwake]
  rfl

set_option Elab.async false in
theorem State.Shows.loopsOpened {s : State} {f : FieldAt} {v : Nat} (h : s.Shows f v) : s.loopsOpened.Shows f v := h.of_reg rfl

theorem loopsResume_yields {s : State} {cause : Nat} {banks : List (Plane × Nat)} {sets : List Nat} (hs : s.sound = true)
    (hwf : (Instr.loopsResume banks sets).wf = true)
    (hwake : s.pw.wake = some cause) (hcause : cause < 5) : Yields (.loopsResume banks sets) s fun t =>
      t.power = .run ∧ t.rd R.PW_STATE_STATE = 0 ∧ t.rd R.PW_STATE_WAKE_CAUSE = cause ∧ t.pw.wake = none ∧ t.loop.computed = [] := by
  have hregs := State.restored_regs hs banks sets
  have hexec := exec_loopsResume banks sets s hwf
  rw [State.loopsResume_eq hwake] at hexec
  generalize s.restored banks sets = u at *
  have hstate := State.Shows.wr_self (f := R.PW_STATE_STATE) (v := 0) hregs (by decide)
  have hshown : (u.resumeShown cause).Shows R.PW_STATE_WAKE_CAUSE cause := State.Shows.wr_self hstate.regs (show cause < 8 by omega)
  have hrun : (u.resumeShown cause).Shows R.PW_STATE_STATE 0 := hstate.wr_apart
  exact ⟨_, hexec, rfl, hrun.loopsOpened.rd, hshown.loopsOpened.rd, rfl, rfl⟩

theorem exec_loopsResume_awake {s : State} {banks : List (Plane × Nat)} {sets : List Nat} (hwf : (Instr.loopsResume banks sets).wf = true)
    (hnone : s.pw.wake = none) : exec (.loopsResume banks sets) s = .next s := by
  rw [exec_loopsResume banks sets s hwf, State.loopsResume, hnone]

/-! ### Domains on demand -/

theorem exec_domainWakeOnDemand_wakes {s : State} {d : Nat} (hd : d < 96) (hawake : s.awake = true) (hoff : s.domainOn d = false)
    (hnew : d ∉ s.pw.waking) :
    exec (.domainWakeOnDemand d) s = .next { s with pw := { s.pw with waking := s.pw.waking ++ [d] } } := by
  rw [exec_domainWakeOnDemand d s (decide_eq_true hd), State.when, if_pos hawake, State.wakeDomain, if_neg (by simp [hoff, hnew])]
  rfl

theorem domainReady_yields {s : State} {d : Nat} (hs : s.sound = true) (hd : d < 96) (hawake : s.awake = true) (hwaking : d ∈ s.pw.waking) :
    Yields (.domainReady d) s fun t => t.domainOn d = true ∧ d ∉ t.pw.waking := by
  have hexec := exec_domainReady d s (decide_eq_true hd)
  rw [State.when, if_pos hawake, State.domainReady, if_pos hwaking] at hexec
  have hon := (State.powerDomain_shows (State.sound_regs hs) d true).setPw fun x => { x with waking := x.waking.filter (· != d) }
  exact ⟨_, hexec, State.domainOn_of_shows hon, fun hin => by simpa using (List.mem_filter.mp hin).2⟩

/-- What PW_STALL shows of the longest stall. -/
noncomputable def State.stallShown (s : State) (d us : Nat) : State :=
  if s.rd R.PW_STALL_LONGEST < us then (s.wr R.PW_STALL_LONGEST (min us 65535)).wr R.PW_STALL_DOMAIN d else s

theorem State.stallShown_longest {s : State} (h : s.Regs) (d us : Nat) :
    (s.stallShown d us).rd R.PW_STALL_LONGEST = max (s.rd R.PW_STALL_LONGEST) (min us 65535) := by
  have hlt : s.rd R.PW_STALL_LONGEST < 65536 := State.rd_lt s R.PW_STALL_LONGEST
  unfold State.stallShown
  split
  · rw [((State.Shows.wr_self (f := R.PW_STALL_LONGEST) h (show min us 65535 < 65536 by omega)).wr_apart (g := R.PW_STALL_DOMAIN) (x := d)).rd]
    omega
  · omega

theorem wakeStall_yields {s : State} {d : Nat} {us : Nat} (hs : s.sound = true) (hd : d < 96) (hawake : s.awake = true) (hlong : stallLimit d < us)
    : Yields (.wakeStall d us) s fun t =>
    t.rd R.PW_STALL_LONGEST = max (s.rd R.PW_STALL_LONGEST) (min us 65535) ∧
    t.rd R.PW_STALL_STALLS = satAdd R.PW_STALL_STALLS.top (s.rd R.PW_STALL_STALLS) 1 ∧
    t.faults = { s.faults with incoming := s.faults.incoming ++ [{ cls := 9, inst := d, kind := 1 }] } := by
  have hstalls : (s.bump R.PW_STALL_STALLS 1).Shows R.PW_STALL_STALLS (satAdd R.PW_STALL_STALLS.top (s.rd R.PW_STALL_STALLS) 1) :=
    State.Shows.wr_self (State.sound_regs hs) (FieldAt.satAdd_top_lt _ _ _)
  have hkept : (s.bump R.PW_STALL_STALLS 1).rd R.PW_STALL_LONGEST = s.rd R.PW_STALL_LONGEST :=
    ((State.Shows.of_rd (State.sound_regs hs) R.PW_STALL_LONGEST).wr_apart (g := R.PW_STALL_STALLS)).rd
  have hfaults : (s.bump R.PW_STALL_STALLS 1).faults = s.faults := rfl
  have hstall : s.wakeStall d us = ((s.bump R.PW_STALL_STALLS 1).stallShown d us).raise { cls := 9, inst := d, kind := 1 } := by
    unfold State.wakeStall
    rw [if_neg (by omega)]
    rfl
  have hexec := exec_wakeStall d us s (decide_eq_true hd)
  rw [State.when, if_pos hawake, hstall] at hexec
  generalize s.bump R.PW_STALL_STALLS 1 = u at *
  have hshown : (u.stallShown d us).Shows R.PW_STALL_STALLS (satAdd R.PW_STALL_STALLS.top (s.rd R.PW_STALL_STALLS) 1) :=
    State.Shows.ite hstalls.wr_apart.wr_apart hstalls
  have hsame : Same (partMask [.shared]) u (u.stallShown d us) := ite_same (State.wr_same (State.wr_same same_refl (by decide)) (by decide)) same_refl
  refine ⟨_, hexec, (u.stallShown_longest hstalls.regs d us).trans (congrArg (max · _) hkept), hshown.rd, ?_⟩
  rw [← hfaults, ← hsame .faults (by decide)]
  rfl

theorem exec_wakeStall_short {s : State} {d : Nat} {us : Nat} (hd : d < 96) (hshort : us ≤ stallLimit d) : exec (.wakeStall d us) s = .next s := by
  rw [exec_wakeStall d us s (decide_eq_true hd), State.when, State.wakeStall, if_pos hshort, ite_self]

/-- Settles O55. -/
theorem powerMoves : Obligations.PowerMoves := by
  unfold Obligations.PowerMoves
  intro s hs
  exact ⟨fun tr d rest veto htr hdue hlanes hask hrefuses hp hat => domainStop_refused hs htr hdue hlanes hask hrefuses hp hat,
    fun tr d rest veto htr hdue hlanes hask hagrees hd hloses _ hon => domainStop_stops hs htr hdue hlanes hask hagrees hd hloses hon,
    fun veto hnone hon => exec_domainStop_idle hnone hon, fun us hphase hpower => wakeNLow_idle hs hphase hpower,
    fun us hphase hpower hnone => wakeNLow_wakes hphase hpower hnone, fun us hphase hpower => exec_wakeNLow_ignored hphase hpower,
    fun us hphase hlong => exec_wakeNLow_off hphase hlong, clockAlarm_yields hs, exec_clockAlarm_early,
    fun l hl hpower hlistens hnone => laneWake_yields hl hpower hlistens hnone, fun l hl hdeaf => exec_laneWake_ignored hl hdeaf,
    fun banks sets cause hwf hwake hcause => loopsResume_yields hs hwf hwake hcause, fun banks sets hwf hnone => exec_loopsResume_awake hwf hnone,
    fun d hd hawake hoff hnew => exec_domainWakeOnDemand_wakes hd hawake hoff hnew,
    fun d hd hawake hwaking => domainReady_yields hs hd hawake hwaking, fun d us hd hawake hlong => wakeStall_yields hs hd hawake hlong,
    fun d us hd hshort => exec_wakeStall_short hd hshort⟩

end Sys2Proof.Machine
end

section
/-! TESTS. Wakes, and a domain on demand. -/

namespace Sys2Proof.Machine

open Sys2Proof

/-- A running block in power state `power`, with domain 95 being woken. -/
noncomputable def poweredBlock (power : PowerState) : State := { runningBlock with power := power, pw := { runningBlock.pw with waking := [95] } }

set_option Elab.async false in
theorem poweredBlock_sound (power : PowerState) : (poweredBlock power).sound = true := (by decide +kernel : (poweredBlock .run).sound = true)

theorem poweredBlock_wakeN : Yields (.wakeNLow 0) (poweredBlock .idle) fun t => t.power = .run ∧ t.rd R.PW_STATE_WAKE_CAUSE = 2 :=
  (wakeNLow_idle (poweredBlock_sound _) (by decide) rfl).imp fun t ⟨hpower, _, hcause, _⟩ => ⟨hpower, hcause⟩

/-- A stall of 51 μs is 1 μs too long. -/
theorem poweredBlock_stall : Yields (.wakeStall 95 51) (poweredBlock .run) fun t => t.rd R.PW_STALL_LONGEST = 51 :=
  (wakeStall_yields (poweredBlock_sound _) (by decide) (by decide +kernel) (by decide)).imp fun t ⟨hlongest, _⟩ => hlongest

end Sys2Proof.Machine
end

section
/-! SUPPORT. A written word, in its steps: the half that the requester holds, the mode that stays, the fields, the action; what of it may change what the
requesters hold (R445). -/

namespace Sys2Proof.Machine

open Sys2Proof

/-! ### What a requester holds -/

theorem State.heldWrite_of_heldHi {s t : State} {r : Requester} {a : Nat} (hheld : t.reg.heldHi = s.reg.heldHi)
    : t.heldWrite r a = s.heldWrite r a := by
  rw [State.heldWrite, hheld, State.heldWrite]

theorem State.heldHi_of_same {s t : State} {o : Nat} (hsame : Same o s t) (ho : o.testBit Part.access.ix = false := by decide)
    : t.reg.heldHi = s.reg.heldHi :=
  (hsame .access ho).2.2

set_option Elab.async false in
theorem State.heldHi_dropHeld (s : State) (r : Requester) : (s.dropHeld r).reg.heldHi = s.reg.heldHi.filter fun x => !decide (x.1 = r) := rfl

theorem State.heldWrite_dropHeld_self (s : State) (r : Requester) (a : Nat) : (s.dropHeld r).heldWrite r a = none := by
  rw [State.heldWrite, State.heldHi_dropHeld, List.find?_filter]
  refine Option.map_eq_none_iff.2 (List.find?_eq_none.2 fun x _ hx => ?_)
  simp only [Bool.not_eq_true', decide_eq_false_iff_not, decide_eq_true_eq] at hx
  exact hx.1 hx.2.1

theorem State.heldWrite_dropHeld_other {s : State} {r q : Requester} {a : Nat} (hne : q ≠ r) : (s.dropHeld r).heldWrite q a = s.heldWrite q a := by
  rw [State.heldWrite, State.heldHi_dropHeld, List.find?_filter, State.heldWrite]
  congr 2
  funext x
  by_cases hq : x.1 = q <;> simp [hq, hne]

/-- The word is held in place of what the requester held. -/
noncomputable def State.hold (s : State) (r : Requester) (a w : Nat) : State := (s.dropHeld r).setReg fun g => { g with heldHi := g.heldHi ++ [(r, a, w)] }

theorem State.heldWrite_hold (s : State) (r : Requester) (a w c : Nat) : (s.hold r a w).heldWrite r c = if c = a then some w else none := by
  have hnone : (s.dropHeld r).reg.heldHi.find? (fun x => decide (x.1 = r ∧ x.2.1 = c)) = none :=
    Option.map_eq_none_iff.1 (s.heldWrite_dropHeld_self r c)
  have happend : (s.hold r a w).reg.heldHi = (s.dropHeld r).reg.heldHi ++ [(r, a, w)] := rfl
  rw [State.heldWrite, happend, List.find?_append, hnone]
  by_cases hc : c = a
  · simp [hc]
  · simp [hc, Ne.symm hc]

/-! ### The steps of a written word -/

/-- The half that the requester holds takes effect in its fields. -/
noncomputable def State.highPut (s : State) (r : Requester) (h : RegHit) (a : Nat) : State :=
  match hiOf h a with
  | some b => match s.heldWrite r b, regAt b with
    | some v, some g => g.spec.fields.foldl (fun (s : State) f => s.putField r g b v false f) s
    | _, _ => s
  | none => s

/-- The mode in force stays until the next boundary (R206). -/
noncomputable def State.modeNoted (s : State) (h : RegHit) : State := if h.spec.reg = .TL_HTR_CFG then s.noteMode (256 * h.i 0 + h.i 1) else s

/-- The fields of the word. -/
noncomputable def State.fieldsPut (s : State) (r : Requester) (h : RegHit) (a w : Nat) (carry : Bool) : State :=
  h.spec.fields.foldl (fun (s : State) f => s.putField r h a w carry f) s

theorem State.writeOne_held {s : State} {r : Requester} {a w : Nat} {h : RegHit} {carry : Nat → Bool} (hcap : inCapture a = false)
    (hat : regAt a = some h) (hheld : heldReg h.spec.reg = true) :
    s.writeOne r carry a w = s.hold r a w := by
  simp [State.writeOne, hcap, hat, hheld, State.hold]

theorem State.writeOne_eq {s : State} {r : Requester} {a w : Nat} {h : RegHit} {carry : Nat → Bool} (hcap : inCapture a = false)
    (hat : regAt a = some h) (hheld : heldReg h.spec.reg = false) :
    s.writeOne r carry a w = ((((s.highPut r h a).modeNoted h).dropHeld r).fieldsPut r h a w (contextReg h.spec.reg && carry (h.i 0))).writeAction r h w := by
  simp only [State.writeOne, hcap, hat, hheld]
  rfl

theorem State.highPut_of_held {s : State} {r : Requester} {a c v : Nat} {h g : RegHit} (hhi : hiOf h a = some c) (hheld : s.heldWrite r c = some v)
    (hc : regAt c = some g) :
    s.highPut r h a = s.fieldsPut r g c v false := by
  simp only [State.highPut, hhi, hheld, hc]
  rfl

theorem State.fieldsPut_same {s b : State} {r : Requester} {a w : Nat} {h : RegHit} {o : Nat} {carry : Bool} (hk : Same o b s) (ho : 30 &&& o = 30)
    : Same o b (s.fieldsPut r h a w carry) :=
  foldl_same (fun _ _ hu => State.putField_same hu ho) hk

theorem State.highPut_same {s b : State} {r : Requester} {a : Nat} {h : RegHit} {o : Nat} (hk : Same o b s) (ho : 30 &&& o = 30)
    : Same o b (s.highPut r h a) := by
  unfold State.highPut
  split
  · split
    · exact State.fieldsPut_same hk ho
    · exact hk
  · exact hk

theorem State.modeNoted_same {s b : State} {h : RegHit} {o : Nat} (hk : Same o b s) (ho : 33554432 &&& o = 33554432) : Same o b (s.modeNoted h)
    := ite_same (State.noteMode_same hk ho) hk

/-! ### What an action leaves of what the requesters hold -/

/-- What an action may change, but for a plane's selection. -/
noncomputable def actionParts : List Part := [.shared, .privA, .privB, .route, .sb, .prot, .faults, .cap, .hka, .gens, .act, .cal, .time, .pl, .boot, .free]

theorem State.writeAction_same_of_ne {s : State} {r : Requester} {w : Nat} {h : RegHit} (hsel : h.spec.reg ≠ .GL_PLANE_SEL)
    : Same (partMask actionParts) s (s.writeAction r h w) := by
  have hs : Same (partMask actionParts) s s := same_refl
  unfold State.writeAction
  extract_lets i when_ both start abort
  split
  case h_1 hreg => exact absurd hreg hsel
  case h_2 => exact State.askRemap_same hs (by decide)
  case h_3 => exact State.writeRptr_same hs (by decide)
  case h_4 => exact State.writeRptr_same hs (by decide)
  case h_5 => exact State.updChan_same hs (by decide)
  case h_6 => exact State.updChan_same hs (by decide)
  case h_7 => exact ite_same (State.requestHkaCal_same hs (by decide)) hs
  case h_8 => exact State.inject_same hs (by decide)
  case h_9 => exact State.setAct_same hs (by decide)
  case h_10 => exact State.setAct_same hs (by decide)
  case h_11 =>
    have hrun : Same (partMask actionParts) s (when_ 31 (·.requestRun i) s) := ite_same (State.requestRun_same hs (by decide)) hs
    exact ite_same (State.requestTia_same hrun (by decide)) hrun
  case h_12 => exact ite_same (State.requestCals_same hs (by decide)) hs
  case h_13 =>
    have hstart : Same (partMask actionParts) s (when_ 31 State.sweepStart s) := ite_same (State.sweepStart_same hs (by decide)) hs
    exact ite_same (State.sweepAbort_same hstart (by decide)) hstart
  case h_14 =>
    have hhalt : Same (partMask actionParts) s (when_ 2 (both State.haltGen) s) :=
      ite_same (State.haltGen_same (State.haltGen_same hs (by decide)) (by decide)) hs
    have harm : Same (partMask actionParts) s (when_ 0 (both State.armGen) (when_ 2 (both State.haltGen) s)) :=
      ite_same (State.armGen_same (State.armGen_same hhalt (by decide)) (by decide)) hhalt
    exact ite_same (State.commandTrigger_same (State.commandTrigger_same harm (by decide)) (by decide)) harm
  case h_15 =>
    have hstart : Same (partMask actionParts) s (when_ 31 start s) := ite_same (State.over_same (fun _ _ hu => State.mtStart_same hu (by decide)) hs) hs
    exact ite_same (State.over_same (fun _ _ hu => State.mtAbort_same hu (by decide)) hstart) hstart
  case h_16 => exact ite_same (State.returnPlane_same hs (by decide)) hs
  case h_17 =>
    have halign : Same (partMask actionParts) s (when_ 29 (·.setTime fun x => { x with alignReq := true }) s) :=
      ite_same (State.setTime_same hs (by decide)) hs
    exact ite_same (State.captureTime_same halign (by decide)) halign
  case h_18 => exact State.writeRate_same hs (by decide)
  case h_19 => exact State.updDomain_same hs (by decide)
  case h_20 => exact State.updDomain_same hs (by decide)
  case h_21 => exact State.writeSet_same hs (by decide)
  case h_22 => exact State.writeAdjust_same hs (by decide)
  case h_23 => exact ite_same (State.clearFirst_same hs (by decide)) hs
  case h_24 =>
    have hfirst : Same (partMask actionParts) s (when_ 0 (·.ackSlot 0) s) := ite_same (State.ackSlot_same hs (by decide)) hs
    exact ite_same (State.ackSlot_same hfirst (by decide)) hfirst
  case h_25 => exact ite_same (State.askUnfence_same hs (by decide)) hs
  case h_26 => exact ite_same (State.askReboot_same hs (by decide)) hs
  case h_27 => exact ite_same (State.norStart_same hs (by decide)) hs
  case h_28 => exact ite_same hs (State.dropLink_same hs (by decide))
  case h_29 => exact State.writeProv_same hs (by decide)
  case h_30 => exact ite_same (State.provGo_same hs (by decide)) hs
  case h_31 => exact hs

theorem State.heldHi_writeAction (s : State) (r : Requester) (h : RegHit) (w : Nat) : (s.writeAction r h w).reg.heldHi = s.reg.heldHi := by
  by_cases hsel : h.spec.reg = .GL_PLANE_SEL
  · have hset : s.writeAction r h w = s.setSel r w := by simp only [State.writeAction, hsel]
    rw [hset]
    rfl
  · exact State.heldHi_of_same (State.writeAction_same_of_ne hsel)

/-- A word that is not held drops what the requester held, and no more. -/
theorem State.heldHi_writeOne {s : State} {r : Requester} {a w : Nat} {h : RegHit} {carry : Nat → Bool} (hcap : inCapture a = false)
    (hat : regAt a = some h) (hheld : heldReg h.spec.reg = false) :
    (s.writeOne r carry a w).reg.heldHi = (s.dropHeld r).reg.heldHi := by
  have hput : ((s.highPut r h a).modeNoted h).reg.heldHi = s.reg.heldHi :=
    State.heldHi_of_same (o := partMask [.shared, .privA, .privB, .shadows, .act])
      (State.modeNoted_same (State.highPut_same same_refl (by decide)) (by decide))
  calc (s.writeOne r carry a w).reg.heldHi
      = ((((s.highPut r h a).modeNoted h).dropHeld r).fieldsPut r h a w _).reg.heldHi := by
        rw [State.writeOne_eq hcap hat hheld, State.heldHi_writeAction]
    _ = (((s.highPut r h a).modeNoted h).dropHeld r).reg.heldHi :=
        State.heldHi_of_same (o := partMask [.shared, .privA, .privB, .shadows]) (State.fieldsPut_same same_refl (by decide))
    _ = (s.dropHeld r).reg.heldHi := by rw [State.heldHi_dropHeld, hput, State.heldHi_dropHeld]

/-- An accepted write of one word that touches neither the guard nor a transmit window: the word takes effect, then the state request that it makes. -/
theorem State.regWrite_one {s : State} {r : Requester} {a w : Nat} (hmay : s.mayWrite r a w = true) (hguard : guardWord a = false)
    (hlane : windowLane a = none) :
    s.regWrite r a [w] = (s.applyWords r none 0 [(a, w)]).noteStatus r Code.ok := by
  obtain ⟨haccess, hcode⟩ : s.mayAccess r a 1 = true ∧ s.writeCode r a w = Code.ok := by simpa [State.mayWrite] using hmay
  have hafter (t : State) : t.afterCode [(a, w)] = Code.ok := by simp [State.afterCode, hguard, hlane]
  have hwords : (wordsAt a 1).zip [w] = [(a, w)] := rfl
  have hfirst : firstCode [Code.ok] = Code.ok := rfl
  have hwrite : (s.writeMany r none 0 a [w]).1 = Code.ok ∧ (s.writeMany r none 0 a [w]).2.2 = s.applyWords r none 0 [(a, w)] := by
    simp [State.writeMany, hwords, hcode, hfirst, hafter]
  rw [State.regWrite, if_pos (show s.mayAccess r a [w].length = true from haccess)]
  show ((s.writeMany r none 0 a [w]).2.2).noteStatus r (s.writeMany r none 0 a [w]).1 = _
  rw [hwrite.1, hwrite.2]

theorem State.heldHi_applyWords {s : State} {r : Requester} {a w : Nat} {h : RegHit} (hcap : inCapture a = false) (hat : regAt a = some h)
    (hheld : heldReg h.spec.reg = false) :
    (s.applyWords r none 0 [(a, w)]).reg.heldHi = (s.dropHeld r).reg.heldHi := by
  have hrequests (l : List (Nat × Nat)) (u : State) :
      Same (partMask [.loop]) u (u.over l fun u x => u.makeRequest s r none 0 [(a, w)] x) :=
    State.over_same (fun _ _ hu => State.makeRequest_same hu (by decide)) same_refl
  have happly : s.applyWords r none 0 [(a, w)] = (s.writeOne r (fun n => (s.requested [(a, w)]).any (·.1 == n)) a w).over (s.requested [(a, w)])
      fun u x => u.makeRequest s r none 0 [(a, w)] x := by
    have hone (f : State → Nat × Nat → State) (u : State) : u.over [(a, w)] f = f u (a, w) := rfl
    rw [State.applyWords, hone]
  rw [happly, State.heldHi_of_same (hrequests _ _), State.heldHi_writeOne hcap hat hheld]

set_option Elab.async false in
theorem State.heldHi_noteStatus (s : State) (r : Requester) (code : Nat) : (s.noteStatus r code).reg.heldHi = s.reg.heldHi :=
  State.heldHi_of_same (o := partMask [.sb]) (State.noteStatus_same same_refl (by decide))

theorem heldWrites_of_other {s : State} {r : Requester} {a w : Nat} {h : RegHit} (hwf : (Instr.registerWrite r a [w]).wf = true)
    (hcap : inCapture a = false) (hat : regAt a = some h)
    (hmay : s.mayWrite r a w = true) (hheld : heldReg h.spec.reg = false) (hguard : guardWord a = false) (hlane : windowLane a = none) :
    Yields (.registerWrite r a [w]) s fun t => (∀ b, t.heldWrite r b = none) ∧ ∀ q b, q ≠ r → t.heldWrite q b = s.heldWrite q b := by
  have hafter : (s.regWrite r a [w]).reg.heldHi = (s.dropHeld r).reg.heldHi := by
    rw [State.regWrite_one hmay hguard hlane, State.heldHi_noteStatus, State.heldHi_applyWords hcap hat hheld]
  exact ⟨_, exec_registerWrite r a [w] s hwf, fun b => (State.heldWrite_of_heldHi hafter).trans (s.heldWrite_dropHeld_self r b),
    fun q b hne => (State.heldWrite_of_heldHi hafter).trans (State.heldWrite_dropHeld_other hne)⟩

/-! ### A high half is held -/

theorem apart_of_held {h : RegHit} (hheld : heldReg h.spec.reg = true)
    : guardReg h.spec.reg = false ∧ h.spec.reg ≠ .CTX_OUT ∧ h.spec.reg ≠ .LK_TXWIN := by
  generalize h.spec.reg = x at hheld ⊢
  unfold heldReg at hheld
  split at hheld
  case h_5 => exact absurd hheld (by decide)
  all_goals decide

theorem heldWrites_of_high {s : State} {r : Requester} {a w : Nat} {h : RegHit} (hwf : (Instr.registerWrite r a [w]).wf = true)
    (hcap : inCapture a = false) (hat : regAt a = some h)
    (hmay : s.mayWrite r a w = true) (hheld : heldReg h.spec.reg = true) : Yields (.registerWrite r a [w]) s fun t => t.heldWrite r a = some w ∧
      (∀ b, b ≠ a → t.heldWrite r b = none) ∧ t.reg.shared = s.reg.shared ∧ t.reg.privA = s.reg.privA ∧ t.reg.privB = s.reg.privB ∧
      t.reg.shadows = s.reg.shadows ∧ t.pw = s.pw ∧ t.time = s.time ∧ t.gens = s.gens := by
  obtain ⟨hguard, hctx, hwin⟩ := apart_of_held hheld
  have hwrite : s.regWrite r a [w] = (s.hold r a w).noteStatus r Code.ok := by
    rw [State.regWrite_word hmay (by simp [State.requested, hat, hctx]) (by simp [guardWord, hat, hguard]) (by simp [windowLane, hat, hwin]),
      State.writeOne_held hcap hat hheld]
  have hsame : Same (partMask [.sb]) (s.hold r a w) ((s.hold r a w).noteStatus r Code.ok) := State.noteStatus_same same_refl (by decide)
  have hholds (b : Nat) : ((s.hold r a w).noteStatus r Code.ok).heldWrite r b = if b = a then some w else none :=
    (State.heldWrite_of_heldHi (State.heldHi_noteStatus _ _ _)).trans (s.heldWrite_hold r a w b)
  exact ⟨_, (exec_registerWrite r a [w] s hwf).trans (congrArg _ hwrite), (hholds a).trans (if_pos rfl), fun b hb => (hholds b).trans (if_neg hb),
    hsame .shared (by decide), hsame .privA (by decide), hsame .privB (by decide), hsame .shadows (by decide), hsame .pw (by decide),
    hsame .time (by decide), hsame .gens (by decide)⟩

end Sys2Proof.Machine
end

section
/-! SUPPORT. The low half of a pair takes the held high half along (R445). -/

namespace Sys2Proof.Machine

open Sys2Proof

/-! ### Registers whose fields are stored at once -/

/-- Every field is plain storage in the one copy, and the fields do not overlap. -/
noncomputable def liveShared (x : RegSpec) : Bool :=
  decide (x.copies = .shared ∧ x.reg ≠ .TL_CAL_HTR ∧ x.reg ≠ .CTX_OUT ∧ x.reg ≠ .CAP_RPTR ∧ x.reg ≠ .RSP_RPTR) &&
    x.fields.all (fun f => decide (f.acc = .rw ∧ f.cls = .live ∧ f.hi < 32 ∧ f.lo ≤ f.hi)) &&
    decide (x.fields.Pairwise fun e f => e.hi < f.lo ∨ f.hi < e.lo)

/-- The fields of the word at address a, each with its bits of w. -/
noncomputable def State.storeFields (s : State) (a w : Nat) (l : List FieldSpec) : State := s.over l fun s f => s.wr (f.loc a) ((f.loc a).get w)

theorem State.fieldsPut_live {s : State} {r : Requester} {a w : Nat} {h : RegHit} {carry : Bool} (hlive : liveShared h.spec = true)
    : s.fieldsPut r h a w carry = s.storeFields a w h.spec.fields := by
  simp only [liveShared, Bool.and_eq_true, decide_eq_true_eq, List.all_eq_true] at hlive
  obtain ⟨⟨⟨hcopies, hhtr, hout, hcap, hrsp⟩, hall⟩, -⟩ := hlive
  refine List.foldl_ext _ _ _ fun u f hf => ?_
  obtain ⟨hacc, hcls, -, -⟩ := hall f hf
  simp [State.putField, hacc, hcls, hhtr, hout, hcap, hrsp, State.storeField, hcopies]

set_option Elab.async false in
theorem FieldAt.get_lt (f : FieldAt) (w : Nat) : f.get w < 2 ^ (f.hi + 1 - f.lo) := Nat.mod_lt _ (Nat.two_pow_pos _)

/-- A field of 32 bits is the word. -/
theorem FieldAt.get_whole (a w : Nat) : FieldAt.get ⟨a, 31, 0⟩ w = w % 2 ^ 32 := by
  show w / 2 ^ 0 % 2 ^ 32 = w % 2 ^ 32
  rw [Nat.pow_zero, Nat.div_one]

theorem State.Shows.storeFields {s : State} {a w v : Nat} {l : List FieldSpec} {x : FieldAt} (h : s.Shows x v) (hne : x.addr ≠ a)
    : (s.storeFields a w l).Shows x v :=
  h.over fun _ _ _ hu => hu.wr hne

theorem State.storeFields_shows {s : State} {a w : Nat} {f : FieldSpec} {l : List FieldSpec} (hregs : s.Regs)
    (hwidth : ∀ f ∈ l, f.hi < 32 ∧ f.lo ≤ f.hi)
    (hapart : l.Pairwise fun e f => e.hi < f.lo ∨ f.hi < e.lo) (hf : f ∈ l) : (s.storeFields a w l).Shows (f.loc a) ((f.loc a).get w) := by
  induction l generalizing s with
  | nil => exact absurd hf List.not_mem_nil
  | cons e l ih =>
    obtain ⟨hfirst, hrest⟩ := List.pairwise_cons.1 hapart
    rcases List.mem_cons.1 hf with rfl | hf
    · have hself : (s.wr (f.loc a) ((f.loc a).get w)).Shows (f.loc a) ((f.loc a).get w) :=
        .wr_self hregs (FieldAt.get_lt _ w) (decide_eq_true (hwidth f List.mem_cons_self))
      exact hself.over fun u y hy hu =>
        hu.wr_apart (decide_eq_true (hwidth y (List.mem_cons_of_mem _ hy))) (decide_eq_true ⟨(hwidth f List.mem_cons_self).2, hfirst y hy⟩)
    · exact ih hregs.wr (fun y hy => hwidth y (List.mem_cons_of_mem _ hy)) hrest hf

theorem State.fieldsPut_shows {s : State} {r : Requester} {a w : Nat} {h : RegHit} {f : FieldSpec} {carry : Bool} (hlive : liveShared h.spec = true)
    (hregs : s.Regs) (hf : f ∈ h.spec.fields) :
    (s.fieldsPut r h a w carry).Shows (f.loc a) ((f.loc a).get w) := by
  rw [State.fieldsPut_live hlive]
  simp only [liveShared, Bool.and_eq_true, decide_eq_true_eq, List.all_eq_true] at hlive
  obtain ⟨⟨-, hall⟩, hapart⟩ := hlive
  exact State.storeFields_shows hregs (fun f hf => (hall f hf).2.2) hapart hf

/-! ### The low half of a pair -/

/-- The two registers of a pair: the low one's address a, the high one's address c. -/
structure PairAt (a c : Nat) (h g : RegHit) : Prop where
  capture : inCapture a = false
  low : regAt a = some h
  high : regAt c = some g
  half : hiOf h a = some c
  plain : plainReg h.spec.reg = true
  apart : c ≠ a

theorem PairAt.regWrite {s : State} {r : Requester} {a c w v : Nat} {h g : RegHit} (hpair : PairAt a c h g) (hmay : s.mayWrite r a w = true)
    (hheld : s.heldWrite r c = some v) :
    s.regWrite r a [w] = ((((s.fieldsPut r g c v false).dropHeld r).fieldsPut r h a w false).writeAction r h w).noteStatus r Code.ok := by
  have hplain := hpair.plain
  simp only [plainReg, Bool.and_eq_true, Bool.not_eq_true', decide_eq_true_eq] at hplain
  obtain ⟨⟨hguard, hnot⟩, hctx, hwin, hmode⟩ := hplain
  rw [State.regWrite_word hmay (by simp [State.requested, hpair.low, hctx]) (by simp [guardWord, hpair.low, hguard])
      (by simp [windowLane, hpair.low, hwin]), State.writeOne_eq hpair.capture hpair.low hnot,
    State.highPut_of_held hpair.half hheld hpair.high, State.modeNoted, if_neg hmode, Bool.and_false]

theorem PairAt.releases {s : State} {r : Requester} {a c w : Nat} {h g : RegHit} (hpair : PairAt a c h g) (hmay : s.mayWrite r a w = true) (b : Nat)
    : (s.regWrite r a [w]).heldWrite r b = none := by
  have hplain := hpair.plain
  simp only [plainReg, Bool.and_eq_true, Bool.not_eq_true', decide_eq_true_eq] at hplain
  obtain ⟨⟨hguard, hnot⟩, -, hwin, -⟩ := hplain
  rw [State.regWrite_one hmay (by simp [guardWord, hpair.low, hguard]) (by simp [windowLane, hpair.low, hwin]),
    State.heldWrite_of_heldHi (State.heldHi_noteStatus _ _ _), State.heldWrite_of_heldHi (State.heldHi_applyWords hpair.capture hpair.low hnot)]
  exact s.heldWrite_dropHeld_self r b

/-- Both words show in the fields. -/
noncomputable def State.ShowsPair (u : State) (a c w v : Nat) (h g : RegHit) : Prop :=
  (∀ f ∈ h.spec.fields, u.Shows (f.loc a) ((f.loc a).get w)) ∧ ∀ f ∈ g.spec.fields, u.Shows (f.loc c) ((f.loc c).get v)

theorem PairAt.yields {s : State} {r : Requester} {a c w v : Nat} {h g : RegHit} (hpair : PairAt a c h g) (hs : s.sound = true)
    (hwf : (Instr.registerWrite r a [w]).wf = true)
    (hmay : s.mayWrite r a w = true) (hheld : s.heldWrite r c = some v) (hlow : liveShared h.spec = true) (hhigh : liveShared g.spec = true)
    (haction : ∀ u : State, u.ShowsPair a c w v h g → (u.writeAction r h w).ShowsPair a c w v h g) :
    Yields (.registerWrite r a [w]) s fun t => t.heldWrite r c = none ∧ (∀ f ∈ h.spec.fields, t.rd (f.loc a) = (f.loc a).get w) ∧
      ∀ f ∈ g.spec.fields, t.rd (f.loc c) = (f.loc c).get v := by
  have hregs : (s.fieldsPut r g c v false).Regs := by
    rw [State.fieldsPut_live hhigh]
    exact List.foldlRecOn (motive := State.Regs) _ _ (State.sound_regs hs) fun u hu _ _ => hu.wr
  have hput : (((s.fieldsPut r g c v false).dropHeld r).fieldsPut r h a w false).ShowsPair a c w v h g := by
    refine ⟨fun f hf => State.fieldsPut_shows hlow hregs.dropHeld hf, fun f hf => ?_⟩
    have hstored : ((s.fieldsPut r g c v false).dropHeld r).Shows (f.loc c) ((f.loc c).get v) :=
      ⟨hregs.dropHeld, (State.fieldsPut_shows hhigh (State.sound_regs hs) hf).rd⟩
    rw [State.fieldsPut_live hlow]
    exact hstored.storeFields hpair.apart
  obtain ⟨hw, hv⟩ := haction _ hput
  have hrd (f : FieldAt) : (s.regWrite r a [w]).rd f =
      ((((s.fieldsPut r g c v false).dropHeld r).fieldsPut r h a w false).writeAction r h w).rd f := by
    rw [hpair.regWrite hmay hheld, State.rd_noteStatus]
  exact ⟨_, exec_registerWrite r a [w] s hwf, hpair.releases hmay c, fun f hf => (hrd _).trans (hw f hf).rd, fun f hf => (hrd _).trans (hv f hf).rd⟩

/-! ### The clock, its alarm, the increments -/

noncomputable def rtcLow : RegHit := ⟨⟨.PW_RTC_LO, 0x70030, [], .shared, [⟨31, 0, .rw, .live, 0, .number, false⟩]⟩, []⟩
noncomputable def rtcHigh : RegHit := ⟨⟨.PW_RTC_HI, 0x70034, [], .shared, [⟨15, 0, .rw, .live, 0, .number, false⟩]⟩, []⟩

theorem rtc_pair : PairAt A.PW_RTC_LO A.PW_RTC_HI rtcLow rtcHigh := ⟨by decide +kernel, by decide +kernel, by decide +kernel, by decide +kernel, by decide +kernel, by decide +kernel⟩

noncomputable def alarmLow : RegHit := ⟨⟨.PW_ALARM_LO, 0x70038, [], .shared, [⟨31, 0, .rw, .live, 0, .number, false⟩]⟩, []⟩
noncomputable def alarmHigh : RegHit :=
  ⟨⟨.PW_ALARM_HI, 0x7003c, [], .shared, [⟨31, 31, .rw, .live, 0, .number, false⟩, ⟨15, 0, .rw, .live, 0, .number, false⟩]⟩, []⟩

theorem alarm_pair : PairAt A.PW_ALARM_LO A.PW_ALARM_HI alarmLow alarmHigh := ⟨by decide +kernel, by decide +kernel, by decide +kernel, by decide +kernel, by decide +kernel, by decide +kernel⟩

noncomputable def incrLow (d : Nat) : RegHit := ⟨⟨.FT_TD_INCR_LO, 0x30104, [(2, 0x40)], .shared, [⟨31, 0, .rw, .live, 0x66666666, .number, false⟩]⟩, [d]⟩
noncomputable def incrHigh (d : Nat) : RegHit := ⟨⟨.FT_TD_INCR_HI, 0x30108, [(2, 0x40)], .shared, [⟨31, 0, .rw, .live, 6, .number, false⟩]⟩, [d]⟩

theorem incr_pair {d : Nat} (hd : d < 2) : PairAt (A.FT_TD_INCR_LO d) (A.FT_TD_INCR_HI d) (incrLow d) (incrHigh d) :=
  ⟨(by decide +kernel : ∀ d < 2, inCapture (A.FT_TD_INCR_LO d) = false) d hd, (by decide +kernel : ∀ d < 2, regAt (A.FT_TD_INCR_LO d) = some (incrLow d)) d hd,
    (by decide +kernel : ∀ d < 2, regAt (A.FT_TD_INCR_HI d) = some (incrHigh d)) d hd,
    (by decide +kernel : ∀ d < 2, hiOf (incrLow d) (A.FT_TD_INCR_LO d) = some (A.FT_TD_INCR_HI d)) d hd, (by decide +kernel : plainReg .FT_TD_INCR_LO = true),
    (by decide +kernel : ∀ d < 2, A.FT_TD_INCR_HI d ≠ A.FT_TD_INCR_LO d) d hd⟩

theorem State.Shows.restartHold {s : State} {v d : Nat} {x : FieldAt} (h : s.Shows x v) (hne : x.addr ≠ A.FT_STATUS) : (s.restartHold d).Shows x v := by
  have hreport : (s.when (s.on (holdField d) && s.sel == d) (·.endReport (holdMsg d))).Shows x v := .ite (h.of_reg rfl) h
  exact (hreport.wr (g := holdField d) (x := 0) (holdField_addr d ▸ hne)).of_reg rfl

theorem State.Shows.putIncr_high {s : State} {w d n : Nat} (h : s.Shows (R.FT_TD_INCR_HI_INCR d) n) (hn : n < 2 ^ 32) (hw : w < 2 ^ 32) :
    (s.putIncr d (n * 2 ^ 32 + w)).Shows (R.FT_TD_INCR_HI_INCR d) n ∧ (s.putIncr d (n * 2 ^ 32 + w)).Shows (R.FT_TD_INCR_LO_INCR d) w := by
  have hhigh : (n * 2 ^ 32 + w) / 2 ^ 32 = n := by omega
  have hlow : (n * 2 ^ 32 + w) % 2 ^ 32 = w := by omega
  have hne : (R.FT_TD_INCR_HI_INCR d).addr ≠ (R.FT_TD_INCR_LO_INCR d).addr := by
    simp only [R.FT_TD_INCR_HI_INCR, R.FT_TD_INCR_LO_INCR, A.FT_TD_INCR_HI, A.FT_TD_INCR_LO]
    omega
  unfold State.putIncr
  rw [hhigh, hlow]
  exact ⟨State.Shows.wr (.wr_self h.regs hn) hne, .wr_self h.regs.wr hw⟩

/-- The action of an increment stores it once more, and restarts the holdover timer. -/
theorem State.ShowsPair.writeRate {u : State} {r : Requester} {w v d : Nat}
    (h : u.ShowsPair (A.FT_TD_INCR_LO d) (A.FT_TD_INCR_HI d) w v (incrLow d) (incrHigh d)) (hw : w < 2 ^ 32) :
    (u.writeAction r (incrLow d) w).ShowsPair (A.FT_TD_INCR_LO d) (A.FT_TD_INCR_HI d) w v (incrLow d) (incrHigh d) := by
  have hhigh : u.Shows (R.FT_TD_INCR_HI_INCR d) ((R.FT_TD_INCR_HI_INCR d).get v) := h.2 _ List.mem_cons_self
  have haction : u.writeAction r (incrLow d) w = (u.putIncr d ((R.FT_TD_INCR_HI_INCR d).get v * 2 ^ 32 + w)).restartHold d := by
    rw [← hhigh.rd]
    rfl
  have hget : (R.FT_TD_INCR_LO_INCR d).get w = w := (FieldAt.get_whole _ w).trans (Nat.mod_eq_of_lt hw)
  obtain ⟨hkept, hlow⟩ := hhigh.putIncr_high (FieldAt.get_lt (R.FT_TD_INCR_HI_INCR d) v) hw
  have hstatus : (R.FT_TD_INCR_HI_INCR d).addr ≠ A.FT_STATUS ∧ (R.FT_TD_INCR_LO_INCR d).addr ≠ A.FT_STATUS := by
    simp only [R.FT_TD_INCR_HI_INCR, R.FT_TD_INCR_LO_INCR, A.FT_TD_INCR_HI, A.FT_TD_INCR_LO, A.FT_STATUS]
    omega
  rw [haction]
  constructor
  · intro f hf
    obtain rfl := List.mem_singleton.1 hf
    show State.Shows _ (R.FT_TD_INCR_LO_INCR d) ((R.FT_TD_INCR_LO_INCR d).get w)
    rw [hget]
    exact hlow.restartHold hstatus.2
  · intro f hf
    obtain rfl := List.mem_singleton.1 hf
    exact hkept.restartHold hstatus.1

theorem sharedPairs_yield {s : State} {r : Requester} {a w v d : Nat} {h : RegHit} {b : Nat} (hs : s.sound = true)
    (hwf : (Instr.registerWrite r a [w]).wf = true) (hat : regAt a = some h)
    (hmay : s.mayWrite r a w = true) (hword : w < 2 ^ 32)
    (hpair : (a, b) ∈ [(A.PW_RTC_LO, A.PW_RTC_HI), (A.PW_ALARM_LO, A.PW_ALARM_HI), (A.FT_TD_INCR_LO (d % 2), A.FT_TD_INCR_HI (d % 2))])
    (hheld : s.heldWrite r b = some v) : Yields (.registerWrite r a [w]) s fun t => t.heldWrite r b = none ∧
      (∀ f ∈ h.spec.fields, t.rd (f.loc a) = (f.loc a).get w) ∧
      ∀ g, regAt b = some g → ∀ f ∈ g.spec.fields, t.rd (f.loc b) = (f.loc b).get v := by
  have hfit {low high : RegHit} (hpair : PairAt a b low high) (hy : Yields (.registerWrite r a [w]) s fun t => t.heldWrite r b = none ∧
      (∀ f ∈ low.spec.fields, t.rd (f.loc a) = (f.loc a).get w) ∧ ∀ f ∈ high.spec.fields, t.rd (f.loc b) = (f.loc b).get v) :
      Yields (.registerWrite r a [w]) s fun t => t.heldWrite r b = none ∧ (∀ f ∈ h.spec.fields, t.rd (f.loc a) = (f.loc a).get w) ∧
        ∀ g, regAt b = some g → ∀ f ∈ g.spec.fields, t.rd (f.loc b) = (f.loc b).get v := by
    obtain rfl : low = h := Option.some.inj (hpair.low.symm.trans hat)
    refine hy.imp fun t ⟨hnone, hlow, hhigh⟩ => ⟨hnone, hlow, fun g hg => ?_⟩
    obtain rfl : high = g := Option.some.inj (hpair.high.symm.trans hg)
    exact hhigh
  simp only [List.mem_cons, List.not_mem_nil, or_false, Prod.mk.injEq] at hpair
  rcases hpair with ⟨rfl, rfl⟩ | ⟨rfl, rfl⟩ | ⟨rfl, rfl⟩
  · exact hfit rtc_pair (rtc_pair.yields hs hwf hmay hheld (by decide) (by decide) fun _ hu => hu)
  · exact hfit alarm_pair (alarm_pair.yields hs hwf hmay hheld (by decide) (by decide) fun _ hu => hu)
  · have hincr := incr_pair (Nat.mod_lt d (show 0 < 2 by decide))
    exact hfit hincr (hincr.yields hs hwf hmay hheld rfl rfl fun _ hu => hu.writeRate hword)

/-! ### The start frame of a generator -/

noncomputable def trigLow (n : Nat) : RegHit := ⟨⟨.ST_TRIG_FRAME_LO, 0xa0008, [(8, 0x80)], .priv, [⟨31, 0, .rw, .quiesced, 0, .number, false⟩]⟩, [n]⟩
noncomputable def trigHigh (n : Nat) : RegHit := ⟨⟨.ST_TRIG_FRAME_HI, 0xa000c, [(8, 0x80)], .priv, [⟨31, 0, .rw, .quiesced, 0, .number, false⟩]⟩, [n]⟩

theorem trig_pair {n : Nat} (hn : n < 8) : PairAt (A.ST_TRIG_FRAME_LO n) (A.ST_TRIG_FRAME_HI n) (trigLow n) (trigHigh n) :=
  ⟨(by decide +kernel : ∀ n < 8, inCapture (A.ST_TRIG_FRAME_LO n) = false) n hn, (by decide +kernel : ∀ n < 8, regAt (A.ST_TRIG_FRAME_LO n) = some (trigLow n)) n hn,
    (by decide +kernel : ∀ n < 8, regAt (A.ST_TRIG_FRAME_HI n) = some (trigHigh n)) n hn,
    (by decide +kernel : ∀ n < 8, hiOf (trigLow n) (A.ST_TRIG_FRAME_LO n) = some (A.ST_TRIG_FRAME_HI n)) n hn, (by decide +kernel : plainReg .ST_TRIG_FRAME_LO = true),
    (by decide +kernel : ∀ n < 8, A.ST_TRIG_FRAME_HI n ≠ A.ST_TRIG_FRAME_LO n) n hn⟩

set_option Elab.async false in
/-- Both planes' copies take both halves. -/
theorem State.trigFrames_put (s : State) (r : Requester) (n w v : Nat) :
    (((s.fieldsPut r (trigHigh n) (A.ST_TRIG_FRAME_HI n) v false).dropHeld r).fieldsPut r (trigLow n) (A.ST_TRIG_FRAME_LO n) w false).writeAction r
        (trigLow n) w =
      ((s.wrB (R.ST_TRIG_FRAME_HI_FRAME n) ((R.ST_TRIG_FRAME_HI_FRAME n).get v)).dropHeld r).wrB (R.ST_TRIG_FRAME_LO_FRAME n)
        ((R.ST_TRIG_FRAME_LO_FRAME n).get w) := rfl

theorem trigFrame_yields {s : State} {r : Requester} {a w v n : Nat} (hs : s.sound = true) (hwf : (Instr.registerWrite r a [w]).wf = true)
    (hmay : s.mayWrite r a w = true) (hword : w < 2 ^ 32)
    (hn : n < 8) (ha : a = A.ST_TRIG_FRAME_LO n) (hheld : s.heldWrite r (A.ST_TRIG_FRAME_HI n) = some v) :
    Yields (.registerWrite r a [w]) s fun t => t.heldWrite r (A.ST_TRIG_FRAME_HI n) = none ∧ ∀ p : Plane,
      t.rdP p (R.ST_TRIG_FRAME_LO_FRAME n) = w ∧ t.rdP p (R.ST_TRIG_FRAME_HI_FRAME n) = v % 2 ^ 32 := by
  subst ha
  have hregs := State.sound_regs hs
  have hhigh : (s.wrB (R.ST_TRIG_FRAME_HI_FRAME n) ((R.ST_TRIG_FRAME_HI_FRAME n).get v)).Regs := hregs.wrB
  have hne : (R.ST_TRIG_FRAME_HI_FRAME n).addr ≠ (R.ST_TRIG_FRAME_LO_FRAME n).addr := (trig_pair hn).apart
  have hgetLow : (R.ST_TRIG_FRAME_LO_FRAME n).get w % 2 ^ 32 = w := by
    rw [R.ST_TRIG_FRAME_LO_FRAME, FieldAt.get_whole, Nat.mod_mod, Nat.mod_eq_of_lt hword]
  have hgetHigh : (R.ST_TRIG_FRAME_HI_FRAME n).get v % 2 ^ 32 = v % 2 ^ 32 := by
    rw [R.ST_TRIG_FRAME_HI_FRAME, FieldAt.get_whole, Nat.mod_mod]
  refine ⟨_, exec_registerWrite r _ [w] s hwf, (trig_pair hn).releases hmay _, fun p => ?_⟩
  have hrdP (f : FieldAt) : (s.regWrite r (A.ST_TRIG_FRAME_LO n) [w]).rdP p f =
      (((s.wrB (R.ST_TRIG_FRAME_HI_FRAME n) ((R.ST_TRIG_FRAME_HI_FRAME n).get v)).dropHeld r).wrB (R.ST_TRIG_FRAME_LO_FRAME n)
        ((R.ST_TRIG_FRAME_LO_FRAME n).get w)).rdP p f := by
    rw [(trig_pair hn).regWrite hmay hheld, State.trigFrames_put, State.rdP_noteStatus]
  constructor
  · exact (hrdP _).trans ((State.rdP_wrB p _ hhigh.dropHeld (by decide : 31 < 32) (Nat.zero_le _)).trans hgetLow)
  · have hkept : ((s.wrB (R.ST_TRIG_FRAME_HI_FRAME n) ((R.ST_TRIG_FRAME_HI_FRAME n).get v)).dropHeld r).rdP p (R.ST_TRIG_FRAME_HI_FRAME n) =
        (s.wrB (R.ST_TRIG_FRAME_HI_FRAME n) ((R.ST_TRIG_FRAME_HI_FRAME n).get v)).rdP p (R.ST_TRIG_FRAME_HI_FRAME n) :=
      State.rdP_of_same (o := partMask [.access]) p _ (State.dropHeld_same same_refl (by decide)) (by decide) (by decide)
    calc (s.regWrite r (A.ST_TRIG_FRAME_LO n) [w]).rdP p (R.ST_TRIG_FRAME_HI_FRAME n)
        = ((s.wrB (R.ST_TRIG_FRAME_HI_FRAME n) ((R.ST_TRIG_FRAME_HI_FRAME n).get v)).dropHeld r).rdP p (R.ST_TRIG_FRAME_HI_FRAME n) :=
          (hrdP _).trans (State.rdP_wrB_addr p _ hhigh.dropHeld hne)
      _ = (R.ST_TRIG_FRAME_HI_FRAME n).get v % 2 ^ 32 := hkept.trans (State.rdP_wrB p _ hregs (by decide : 31 < 32) (Nat.zero_le _))
      _ = v % 2 ^ 32 := hgetHigh

/-- Settles O60: a high half is held in place of what its requester held; the low half stores it along with its own fields; any other word leaves the
requester with nothing held. Which registers are held is the model's choice (log entry 66). -/
theorem pairedWrites : Obligations.PairedWrites := by
  unfold Obligations.PairedWrites
  intro s r a w h hs hwf hcap hat hmay
  have hword : w < 2 ^ 32 := by
    have hwords := hwf
    simp only [Instr.wf, Bool.and_eq_true, List.all_cons, isWord, decide_eq_true_eq] at hwords
    obtain ⟨⟨-, hw, -⟩, -⟩ := hwords
    exact hw
  exact ⟨fun hheld => heldWrites_of_high hwf hcap hat hmay hheld,
    fun b v d hpair hheld => sharedPairs_yield hs hwf hat hmay hword hpair hheld,
    fun n v hn ha hheld => trigFrame_yields hs hwf hmay hword hn ha hheld,
    fun hnot hguard hlane => heldWrites_of_other hwf hcap hat hmay hnot hguard hlane⟩

end Sys2Proof.Machine
end

section
/-! TESTS. The alarm's high half is held, and the clock's low half takes its own along. -/

namespace Sys2Proof.Machine

open Sys2Proof

/-- A running block whose owner holds 5 for the high half of the clock. -/
noncomputable def holdingBlock : State := { runningBlock with power := .run, reg := { runningBlock.reg with heldHi := [(.principal 30, A.PW_RTC_HI, 5)] } }

theorem holdingBlock_holds : Yields (.registerWrite (.principal 30) A.PW_ALARM_HI [2 ^ 31]) holdingBlock fun t =>
    t.heldWrite (.principal 30) A.PW_ALARM_HI = some (2 ^ 31) ∧ t.heldWrite (.principal 30) A.PW_RTC_HI = none :=
  (heldWrites_of_high (by decide +kernel) (by decide) alarm_pair.high (by decide +kernel) rfl).imp fun t ⟨hself, hother, _⟩ => ⟨hself, hother _ (by decide)⟩

theorem holdingBlock_clock : Yields (.registerWrite (.principal 30) A.PW_RTC_LO [7]) holdingBlock fun t => t.rd R.PW_RTC_LO_SEC = 7 ∧ t.rd R.PW_RTC_HI_SEC = 5 :=
  (sharedPairs_yield (d := 0) (b := A.PW_RTC_HI) (v := 5) (by decide +kernel) (by decide +kernel) rtc_pair.low (by decide +kernel) (by decide) (by decide) (by decide +kernel)).imp
    fun t ⟨_, hlow, hhigh⟩ => ⟨hlow _ List.mem_cons_self, hhigh _ rtc_pair.high _ List.mem_cons_self⟩

end Sys2Proof.Machine
end

section
/-! SUPPORT. A word that is read: what the read takes from its register, and what is left of it (R13, R436, R443, R444). -/

namespace Sys2Proof.Machine

open Sys2Proof

/-! ### Clearing bits -/

/-- A field's bits put to 0 set no bit. -/
theorem testBit_of_putBits_zero {w : Nat} {hi lo j : Nat} (hbit : (putBits w hi lo 0).testBit j = true) : w.testBit j = true := by
  have hsplit : putBits w hi lo 0 = 2 ^ (lo + (hi + 1 - lo)) * (w / 2 ^ (lo + (hi + 1 - lo))) + w % 2 ^ lo := by
    have hlow := Nat.div_add_mod w (2 ^ lo)
    have hhigh := Nat.div_add_mod (w / 2 ^ lo) (2 ^ (hi + 1 - lo))
    rw [putBits, bits, Nat.zero_mod, Nat.zero_mul, Nat.add_zero, Nat.pow_add, ← Nat.div_div_eq_div_mul]
    generalize hq : w / 2 ^ lo / 2 ^ (hi + 1 - lo) = q at hhigh ⊢
    generalize hb : w / 2 ^ lo % 2 ^ (hi + 1 - lo) = b at hhigh ⊢
    rw [← hhigh, Nat.mul_add, ← Nat.mul_assoc] at hlow
    rw [Nat.mul_comm b]
    omega
  have hlt : w % 2 ^ lo < 2 ^ (lo + (hi + 1 - lo)) :=
    (Nat.mod_lt _ (Nat.two_pow_pos _)).trans_le (Nat.pow_le_pow_right (by decide) (Nat.le_add_right ..))
  rw [hsplit, Nat.testBit_two_pow_mul_add _ hlt] at hbit
  split at hbit
  next hbelow =>
    rw [Nat.testBit_mod_two_pow, Bool.and_eq_true] at hbit
    exact hbit.2
  next habove =>
    rw [Nat.testBit_div_two_pow] at hbit
    rwa [Nat.sub_add_cancel (Nat.not_lt.1 habove)] at hbit

theorem bits_zero_mono {w x hi lo : Nat} (hzero : bits w hi lo = 0) (hsub : ∀ j, x.testBit j = true → w.testBit j = true) : bits x hi lo = 0 := by
  refine Nat.eq_of_testBit_eq fun j => ?_
  have hj := congrArg (·.testBit j) hzero
  simp only [bits, Nat.testBit_mod_two_pow, Nat.testBit_div_two_pow, Nat.zero_testBit] at hj ⊢
  rcases Bool.eq_false_or_eq_true (x.testBit (j + lo)) with hbit | hbit
  · rwa [hbit, ← hsub _ hbit]
  · rw [hbit, Bool.and_false]

set_option Elab.async false in
theorem FieldAt.get_put_zero_of_zero {w : Nat} {f : FieldAt} {x : FieldAt} (hzero : f.get w = 0) : f.get (x.put w 0) = 0 :=
  bits_zero_mono hzero fun _ => testBit_of_putBits_zero

theorem FieldAt.get_mod_of_zero {w : Nat} {f : FieldAt} (hzero : f.get w = 0) : f.get (w % 2 ^ 32) = 0 :=
  bits_zero_mono hzero fun j hj => by
    rw [Nat.testBit_mod_two_pow, Bool.and_eq_true] at hj
    exact hj.2

/-! ### The fields that a read clears -/

/-- The word with its RC fields at 0. -/
noncomputable def RegHit.cleared (h : RegHit) (a w : Nat) : Nat := h.spec.fields.foldl (fun w f => if f.acc = .rc then (f.loc a).put w 0 else w) w

theorem RegHit.get_cleared {a w : Nat} {h : RegHit} {e : FieldSpec} (he : e ∈ h.spec.fields) (hrc : e.acc = .rc)
    : (e.loc a).get (h.cleared a w) = 0 := by
  revert he
  have hstep (l : List FieldSpec) (w : Nat) (hzero : (e.loc a).get w = 0) :
      (e.loc a).get (l.foldl (fun w f => if f.acc = .rc then (f.loc a).put w 0 else w) w) = 0 := by
    refine List.foldlRecOn (motive := fun w => (e.loc a).get w = 0) l _ hzero fun x hx y _ => ?_
    split
    · exact FieldAt.get_put_zero_of_zero hx
    · exact hx
  unfold RegHit.cleared
  induction h.spec.fields generalizing w with
  | nil => exact fun he => absurd he List.not_mem_nil
  | cons y l ih =>
    intro he
    rcases List.mem_cons.1 he with rfl | hl
    · rw [List.foldl_cons, if_pos hrc]
      exact hstep l _ ((bits_putBits ..).trans (Nat.zero_mod _))
    · exact ih hl

/-- The word stored in the copy that the requester reads. -/
noncomputable def State.storeWord (s : State) (p : Plane) (c : Copies) (a w : Nat) : State := if c.isPriv then s.setWordP p a w else s.setWord a w

theorem State.stored_storeWord {s : State} {p : Plane} {a w : Nat} {c : Copies} (hregs : s.Regs) : (s.storeWord p c a w).stored p c a = w % 2 ^ 32 := by
  cases hc : c.isPriv
  · rw [State.storeWord, State.stored, hc]
    exact (State.word_setWord _ _ _ _ hregs.shared).trans (if_pos rfl)
  · rw [State.storeWord, State.stored, hc]
    exact (State.wordP_setWordP _ _ _ _ _ _ (hregs.file p)).trans (if_pos ⟨rfl, rfl⟩)

theorem State.Regs.storeWord {s : State} {p : Plane} {a w : Nat} {c : Copies} (h : s.Regs) : (s.storeWord p c a w).Regs := by
  unfold State.storeWord
  split
  · exact h.setWordP
  · exact h.setWord

theorem State.stored_of_reg {s t : State} {p : Plane} {a : Nat} {c : Copies} (ht : t.reg = s.reg) : t.stored p c a = s.stored p c a := by
  rw [State.stored, State.word, State.wordP, ht, State.stored, State.word, State.wordP]

/-- A field at 0 is still at 0 where some field of the shared copy is put to 0. -/
theorem State.get_stored_wr_zero {s : State} {p : Plane} {a : Nat} {c : Copies} {f : FieldAt} {x : FieldAt} (hregs : s.Regs)
    (hzero : f.get (s.stored p c a) = 0) : f.get ((s.wr x 0).stored p c a) = 0 := by
  cases hc : c.isPriv
  · rw [State.stored, hc] at hzero ⊢
    show f.get ((s.setWord x.addr (x.put (s.word x.addr) 0)).word a) = 0
    rw [State.word_setWord _ _ _ _ hregs.shared]
    split
    next ha => exact FieldAt.get_mod_of_zero (FieldAt.get_put_zero_of_zero (ha ▸ hzero))
    next => exact hzero
  · rw [State.stored, hc] at hzero ⊢
    show f.get ((s.setWord x.addr _).wordP p a) = 0
    rwa [State.wordP_setWord]

set_option Elab.async false in
theorem State.readEffect_of_other {s : State} {r : Requester} {p : Plane} {a : Nat} {h : RegHit} (hother : s.ownerLike r = false)
    : s.readEffect r p h a = s := by
  rw [State.readEffect, hother]
  rfl

/-- An RC field is at 0 after a read by a requester that may write the register. -/
theorem State.get_readEffect {s : State} {r : Requester} {p : Plane} {a : Nat} {h : RegHit} {e : FieldSpec} (howner : s.ownerLike r = true)
    (hregs : s.Regs) (he : e ∈ h.spec.fields) (hrc : e.acc = .rc) :
    (e.loc a).get ((s.readEffect r p h a).stored p h.spec.copies a) = 0 := by
  have hstored : (e.loc a).get ((s.storeWord p h.spec.copies a (h.cleared a (s.stored p h.spec.copies a))).stored p h.spec.copies a) = 0 := by
    rw [State.stored_storeWord hregs]
    exact FieldAt.get_mod_of_zero (RegHit.get_cleared he hrc)
  have hkept : (s.storeWord p h.spec.copies a (h.cleared a (s.stored p h.spec.copies a))).Regs := hregs.storeWord
  unfold State.readEffect
  rw [howner, if_neg (by decide)]
  extract_lets w v u
  change (e.loc a).get (u.stored p h.spec.copies a) = 0 at hstored
  change u.Regs at hkept
  clear_value u
  split
  · exact hstored
  · have hpop : (u.tsPop (h.i 0)).2.reg = u.reg := by
      unfold State.tsPop
      split <;> rfl
    split
    · rwa [State.stored_of_reg hpop]
    · exact hstored
  · exact State.get_stored_wr_zero hkept.wr (State.get_stored_wr_zero hkept hstored)
  · exact hstored

end Sys2Proof.Machine
end

section
/-! SUPPORT. One word is read: the value, and what the read leaves; an address that no register has (R436, R443). -/

namespace Sys2Proof.Machine

open Sys2Proof

/-- A register is not its own high half. -/
theorem hiOf_ne_self {a w : Nat} {h : RegHit} (hat : regAt a = some h) (hhi : hiOf h a = some w) : w ≠ a := by
  have hlast (hreg : h.spec.reg = .FT_CAP_SEC_LO) : a ≠ 0 := by
    rintro rfl
    obtain ⟨g, hg, hne⟩ : ∃ g, regAt 0 = some g ∧ g.spec.reg ≠ .FT_CAP_SEC_LO := ⟨_, rfl, by decide⟩
    exact hne (Option.some.inj (hg.symm.trans hat) ▸ hreg)
  unfold hiOf at hhi
  split at hhi
  case h_10 hreg =>
    have hne := hlast hreg
    obtain rfl := Option.some.inj hhi
    omega
  case h_19 | h_20 | h_21 | h_22 | h_23 =>
    obtain ⟨-, hsome⟩ := Option.ite_none_right_eq_some.1 hhi
    obtain rfl := Option.some.inj hsome
    omega
  case h_24 => exact absurd hhi nofun
  all_goals
    obtain rfl := Option.some.inj hhi
    omega

theorem State.coversHeld_one (s : State) (r : Requester) (a : Nat) : s.coversHeld r [a] = false := by
  simp only [State.coversHeld, List.any_cons, List.any_nil, Bool.or_false]
  split
  next c hc =>
    obtain ⟨h, hat, hhi⟩ := Option.bind_eq_some_iff.1 hc
    simp [hiOf_ne_self hat hhi]
  next => rfl

theorem State.readMany_one {s : State} {r : Requester} {a : Nat} (hcode : s.readCode r a = Code.ok) :
    s.readMany r none a 1 = (Code.ok, [(s.readWord r none a).1], (s.readWord r none a).2) := by
  have hone : wordsAt a 1 = [a] := rfl
  have hfirst : firstCode [Code.ok] = Code.ok := rfl
  simp [State.readMany, hone, hcode, hfirst, State.coversHeld_one, State.readAll]

theorem State.readMany_refused {s : State} {r : Requester} {a : Nat} (hcode : s.readCode r a ≠ Code.ok)
    : s.readMany r none a 1 = (s.readCode r a, [0], s) := by
  have hone : wordsAt a 1 = [a] := rfl
  have hfirst : firstCode [s.readCode r a] = s.readCode r a := by simp [firstCode, hcode]
  simp [State.readMany, hone, hfirst, hcode]

/-- What the requester's holder keeps of the pair whose low half is read (R444). -/
noncomputable def State.highTaken (s : State) (r : Requester) (p : Plane) (h : RegHit) (a : Nat) : State :=
  match hiOf h a with
  | some b => match regAt b with
    | some g => (s.dropHolder r).setReg fun x => { x with snapshot := x.snapshot ++ [(r, b, s.viewWord r p g b)] }
    | none => s
  | none => s

theorem State.highTaken_same {s : State} {r : Requester} {p : Plane} {a : Nat} {h : RegHit} : Same (partMask [.access]) s (s.highTaken r p h a) := by
  unfold State.highTaken
  split
  · split
    · exact State.setReg_same (State.dropHolder_same same_refl (by decide)) (fun _ => rfl) (fun _ => rfl) (fun _ => rfl) (fun _ => rfl)
        fun hoff => absurd hoff (by decide)
    · exact same_refl
  · exact same_refl

theorem State.readOne_of_none {s : State} {r : Requester} {p : Plane} {a : Nat} {h : RegHit} (hnone : s.heldRead r a = none)
    : (s.readOne r p h a).2 = (s.highTaken r p h a).readEffect r p h a := by
  rw [State.readOne]
  simp only [hnone]
  rfl

theorem State.readOne_value {s : State} {r : Requester} {p : Plane} {a : Nat} {h : RegHit} (hnone : s.heldRead r a = none)
    (hpop : h.spec.reg ≠ .FT_TS_POP) : (s.readOne r p h a).1 = s.viewWord r p h a := by
  rw [State.readOne]
  simp only [hnone]
  exact if_neg fun hreg => hpop hreg.1

theorem State.ownerLike_of_same {s t : State} {r : Requester} {o : Nat} (hsame : Same o s t) (hshared : o.testBit Part.shared.ix = false := by decide) :
    t.ownerLike r = s.ownerLike r := by
  cases r
  case sideband =>
    show (t.on _ && !t.locked 9) = (s.on _ && !s.locked 9)
    rw [State.on, State.locked, State.rd_of_same _ hsame hshared, State.rd_of_same _ hsame hshared, State.on, State.locked]
  all_goals rfl

theorem State.readWord_register {s : State} {r : Requester} {a : Nat} {h : RegHit} (hcap : inCapture a = false) (hat : regAt a = some h) :
    s.readWord r none a = s.readOne r (s.selPlane r) h a := by
  rw [State.readWord, hcap, hat]
  rfl

/-- A requester that may not write the register leaves nothing but its own holder. -/
theorem State.readWord_same_of_other {s : State} {r : Requester} {a : Nat} (hother : s.ownerLike r = false)
    : Same (partMask [.access]) s (s.readWord r none a).2 := by
  unfold State.readWord
  split
  · exact same_refl
  · split
    next h _ =>
      rcases hheld : s.heldRead r a with _ | held
      · rw [State.readOne_of_none hheld, State.readEffect_of_other ((State.ownerLike_of_same State.highTaken_same).trans hother)]
        exact State.highTaken_same
      · rw [State.readOne]
        simp only [hheld]
        exact State.dropHolder_same same_refl (by decide)
    next => exact same_refl

theorem State.readMany_same_of_other {s : State} {r : Requester} {a : Nat} (hother : s.ownerLike r = false)
    : Same (partMask [.access]) s (s.readMany r none a 1).2.2 := by
  by_cases hcode : s.readCode r a = Code.ok
  · rw [State.readMany_one hcode]
    exact State.readWord_same_of_other hother
  · rw [State.readMany_refused hcode]
    exact same_refl

/-- What the sideband is answered stands beside what the read leaves. -/
theorem State.regRead_answered {s : State} {r : Requester} {a : Nat} (hmay : s.mayAccess r a 1 = true) : Same (partMask [.sb])
    (s.readMany r none a 1).2.2 (s.regRead r a 1) := by
  rw [State.regRead, if_pos hmay]
  cases r
  case sideband => exact State.setSb_same same_refl (by decide)
  all_goals exact same_refl

/-! ### An address that no register has -/

set_option Elab.async false in
theorem State.readCode_unmapped {s : State} {r : Requester} {a : Nat} (hcap : inCapture a = false) (hat : regAt a = none)
    : s.readCode r a = Code.badAddress := by
  simp [State.readCode, hcap, hat]

theorem State.writeCode_unmapped {s : State} {r : Requester} {a w : Nat} (hcap : inCapture a = false) (hat : regAt a = none)
    : s.writeCode r a w = Code.badAddress := by
  simp [State.writeCode, hcap, hat]

theorem State.noteRefused_unmapped {s : State} {r : Requester} {a w : Nat} (hat : regAt a = none) : s.noteRefused r Code.badAddress [(a, w)] = s := by
  have hnor : a ≠ A.BT_NOR_CTRL := by
    rintro rfl
    exact absurd hat (by decide)
  have hcode : ¬(Code.badAddress = Code.notPermitted ∨ Code.badAddress = Code.locked) := by decide
  cases r <;> simp [State.noteRefused, hcode, hnor]

theorem State.writeMany_unmapped {s : State} {r : Requester} {a w : Nat} (hcap : inCapture a = false) (hat : regAt a = none) :
    s.writeMany r none 0 a [w] = (Code.badAddress, false, s) := by
  have hwords : (wordsAt a 1).zip [w] = [(a, w)] := rfl
  have hfirst : firstCode [Code.badAddress] = Code.badAddress := rfl
  have hbad : Code.badAddress ≠ Code.ok := by decide
  simp only [State.writeMany, List.length_singleton, hwords, List.map_cons, List.map_nil, State.writeCode_unmapped hcap hat, hfirst]
  rw [if_pos hbad, State.noteRefused_unmapped hat]

theorem unmappedRead_exec {s : State} {r : Requester} {a : Nat} (hwf : (Instr.rcRead r a 1).wf = true) (hmay : s.mayAccess r a 1 = true)
    (hcap : inCapture a = false)
    (hat : regAt a = none) : exec (.rcRead r a 1) s = .next (if r = .sideband then
      { s with sb := { s.sb with lastStatus := Code.badAddress, reply := [0, 0, 0, 0] } } else s) := by
  have hcode : s.readCode r a = Code.badAddress := State.readCode_unmapped hcap hat
  have hread : s.readMany r none a 1 = (Code.badAddress, [0], s) :=
    (State.readMany_refused (hcode.trans_ne (by decide))).trans (by rw [hcode])
  rw [exec_rcRead r a 1 s hwf, State.regRead, if_pos hmay, hread]
  cases r <;> rfl

theorem unmappedWrite_exec {s : State} {r : Requester} {a w : Nat} (hwf : (Instr.registerWrite r a [w]).wf = true) (hmay : s.mayAccess r a 1 = true)
    (hcap : inCapture a = false)
    (hat : regAt a = none) : exec (.registerWrite r a [w]) s = .next (if r = .sideband then
      { s with sb := { s.sb with lastStatus := Code.badAddress } } else s) := by
  rw [exec_registerWrite r a [w] s hwf, State.regWrite, if_pos (show s.mayAccess r a [w].length = true from hmay),
    State.writeMany_unmapped hcap hat]
  cases r <;> rfl

theorem wf_of_word {r : Requester} {a w : Nat} (hwf : (Instr.rcRead r a 1).wf = true) (hw : w < 2 ^ 32) : (Instr.registerWrite r a [w]).wf = true := by
  simp only [Instr.wf, Bool.and_eq_true] at hwf
  obtain ⟨⟨hr, ha⟩, -⟩ := hwf
  have hword : isWord w = true := decide_eq_true hw
  simp [Instr.wf, hr, ha, hword]

/-! ### RC fields -/

theorem rcRead_clears {s : State} {r : Requester} {a : Nat} {h : RegHit} {f : FieldSpec} (hs : s.sound = true)
    (hwf : (Instr.rcRead r a 1).wf = true) (hmay : s.mayAccess r a 1 = true) (hcap : inCapture a = false)
    (hcode : s.readCode r a = Code.ok) (howner : s.ownerLike r = true) (hnone : s.heldRead r a = none) (hat : regAt a = some h)
    (hf : f ∈ h.spec.fields) (hrc : f.acc = .rc) :
    Yields (.rcRead r a 1) s fun t => (f.loc a).get (t.stored (s.selPlane r) h.spec.copies a) = 0 := by
  have htaken : Same (partMask [.access]) s (s.highTaken r (s.selPlane r) h a) := State.highTaken_same
  have hregs : (s.highTaken r (s.selPlane r) h a).Regs := State.regs_of_same htaken (by decide) (by decide) (by decide) (State.sound_regs hs)
  have hread : (s.readMany r none a 1).2.2 = (s.highTaken r (s.selPlane r) h a).readEffect r (s.selPlane r) h a := by
    rw [State.readMany_one hcode, State.readWord_register hcap hat, State.readOne_of_none hnone]
  have hreg : (s.regRead r a 1).reg = (s.readMany r none a 1).2.2.reg := State.reg_of_same (State.regRead_answered hmay)
  refine ⟨_, exec_rcRead r a 1 s hwf, ?_⟩
  show (f.loc a).get ((s.regRead r a 1).stored _ _ _) = 0
  rw [State.stored_of_reg hreg, hread]
  exact State.get_readEffect ((State.ownerLike_of_same htaken).trans howner) hregs hf hrc

theorem rcRead_leaves {s : State} {r : Requester} {a : Nat} (hwf : (Instr.rcRead r a 1).wf = true) (hmay : s.mayAccess r a 1 = true)
    (hother : s.ownerLike r = false) :
    Yields (.rcRead r a 1) s fun t => t.reg.shared = s.reg.shared ∧ t.reg.privA = s.reg.privA ∧ t.reg.privB = s.reg.privB ∧ t.hka = s.hka ∧
      t.time = s.time := by
  have hsame : Same (partMask [.access, .sb]) s (s.regRead r a 1) :=
    ((State.readMany_same_of_other hother).mono (by decide)).trans ((State.regRead_answered hmay).mono (by decide))
  exact ⟨_, exec_rcRead r a 1 s hwf, hsame .shared (by decide), hsame .privA (by decide), hsame .privB (by decide), hsame .hka (by decide),
    hsame .time (by decide)⟩

/-- The sideband is answered the word. -/
theorem rcRead_replies {s : State} {a : Nat} {h : RegHit} (hwf : (Instr.rcRead .sideband a 1).wf = true) (hmay : s.mayAccess .sideband a 1 = true)
    (hcap : inCapture a = false)
    (hcode : s.readCode .sideband a = Code.ok) (hnone : s.heldRead .sideband a = none) (hat : regAt a = some h) (hpop : h.spec.reg ≠ .FT_TS_POP) :
    Yields (.rcRead .sideband a 1) s fun t => t.sb.reply = le 4 (s.viewWord .sideband (s.selPlane .sideband) h a) := by
  refine ⟨_, exec_rcRead .sideband a 1 s hwf, ?_⟩
  rw [State.regRead, if_pos hmay, State.readMany_one hcode, State.readWord_register hcap hat, State.readOne_value hnone hpop]
  rfl

set_option Elab.async false in
theorem not_ownerLike {s : State} {r : Requester}
    (hr : (∃ p, r = .principal p ∧ p ≠ 30) ∨ (∃ p, r = .firmware p) ∨ (r = .sideband ∧ s.sbTrusted = false)) :
    s.ownerLike r = false := by
  rcases hr with ⟨p, rfl, hp⟩ | ⟨p, rfl⟩ | ⟨rfl, htrusted⟩
  · exact beq_false_of_ne hp
  · rfl
  · exact htrusted

/-- Settles O59: an address of no register is refused on both ways; a read puts the RC fields to 0 for a requester with the owner's rights, and leaves the
registers for any other. That those rights decide is the model's choice (log entry 66). -/
theorem unmappedAndReadClear : Obligations.UnmappedAndReadClear := by
  unfold Obligations.UnmappedAndReadClear
  intro s r a hs hwf hmay
  refine ⟨fun hcap hat => ⟨State.readCode_unmapped hcap hat, unmappedRead_exec hwf hmay hcap hat, fun w hw =>
      ⟨State.writeCode_unmapped hcap hat, unmappedWrite_exec (wf_of_word hwf hw) hmay hcap hat⟩⟩,
    fun h f hcap hcode howner hnone hat hf hrc => rcRead_clears hs hwf hmay hcap hcode howner hnone hat hf hrc,
    fun hother => rcRead_leaves hwf hmay hother, fun h hcap hcode hsb _ hnone hat hpop => ?_, fun hr => not_ownerLike hr⟩
  subst hsb
  exact rcRead_replies hwf hmay hcap hcode hnone hat hpop

end Sys2Proof.Machine
end

section
/-! TESTS. An unmapped address, and a counter that a read clears. -/

namespace Sys2Proof.Machine

open Sys2Proof

/-- A running block with five central divergences counted. -/
noncomputable def countedBlock : State := { runningBlock with power := .run }.setWord A.PL_DIV_STATUS 5

/-- Below the clock's registers lies an address that no register has. -/
theorem countedBlock_unmapped : Yields (.rcRead .sideband 0x7fffc 1) countedBlock fun t => t.sb.lastStatus = Code.badAddress ∧ t.sb.reply = [0, 0, 0, 0] :=
  ⟨_, (unmappedRead_exec (by decide +kernel) (by decide +kernel) (by decide) (by decide +kernel)), rfl, rfl⟩

/-- The entry of PL_DIV_STATUS in the table of chapter 14. -/
noncomputable def divStatusHit : RegHit :=
  ⟨⟨.PL_DIV_STATUS, 0x714, [], .shared, [⟨31, 24, .rc, .fixed, 0, .number, false⟩, ⟨23, 16, .rc, .fixed, 0, .number, false⟩,
    ⟨15, 8, .rc, .fixed, 0, .number, false⟩, ⟨7, 0, .rc, .fixed, 0, .number, false⟩]⟩, []⟩

theorem countedBlock_counts : Yields (.rcRead (.principal 30) A.PL_DIV_STATUS 1) countedBlock fun t => t.rd R.PL_DIV_STATUS_CENTRAL = 0 :=
  rcRead_clears (h := divStatusHit) (f := ⟨7, 0, .rc, .fixed, 0, .number, false⟩) (by decide +kernel) (by decide +kernel) (by decide +kernel) (by decide) (by decide +kernel) rfl rfl
    (by decide +kernel) (by decide) rfl

end Sys2Proof.Machine
end

section
/-! SUPPORT. A device in reset: what it keeps (R407, R434). -/

namespace Sys2Proof.Machine

open Sys2Proof

/-- The device in reset whose real-time clock is lost. -/
noncomputable def State.resetBase (s : State) (resetN : Bool) (phase : BootPhase) : State := s.inReset false resetN phase

theorem State.resetBase_reg (s : State) (resetN : Bool) (phase : BootPhase) : (s.resetBase resetN phase).reg = {} := rfl

/-- With VAON the clock and its alarm keep their words. -/
noncomputable def State.clockKept (s r : State) : State := [A.PW_RTC_LO, A.PW_RTC_HI, A.PW_ALARM_LO, A.PW_ALARM_HI].foldl (fun r a => r.setWord a (s.word a)) r

theorem State.inReset_vaon (s : State) (resetN : Bool) (phase : BootPhase) :
    s.inReset true resetN phase = (s.clockKept (s.resetBase resetN phase)).setPw fun x => { x with rtcSub := s.pw.rtcSub } := rfl

theorem State.clockKept_word {s r : State} (h : r.Regs) : (s.clockKept r).word A.PW_RTC_LO = s.word A.PW_RTC_LO ∧
    (s.clockKept r).word A.PW_RTC_HI = s.word A.PW_RTC_HI := by
  have hstep {u : State} (hu : u.Regs) (a b : Nat) : (u.setWord a (s.word a)).word b = if b = a then s.word b else u.word b := by
    rw [State.word_setWord _ _ _ _ hu.shared]
    split
    next hba => rw [hba, Nat.mod_eq_of_lt (s.word_lt a)]
    next => rfl
  have hlo : (r.setWord A.PW_RTC_LO (s.word A.PW_RTC_LO)).Regs := h.setWord
  constructor
  · show ((((r.setWord _ _).setWord _ _).setWord _ _).setWord _ _).word A.PW_RTC_LO = _
    rw [hstep hlo.setWord.setWord, if_neg (by decide), hstep hlo.setWord, if_neg (by decide), hstep hlo, if_neg (by decide), hstep h, if_pos rfl]
  · show ((((r.setWord _ _).setWord _ _).setWord _ _).setWord _ _).word A.PW_RTC_HI = _
    rw [hstep hlo.setWord.setWord, if_neg (by decide), hstep hlo.setWord, if_neg (by decide), hstep hlo, if_pos rfl]

theorem State.rtc_of_words {u v : State} (hlo : u.word A.PW_RTC_LO = v.word A.PW_RTC_LO) (hhi : u.word A.PW_RTC_HI = v.word A.PW_RTC_HI) :
    u.rtc = v.rtc := by
  rw [State.rtc, State.rd, State.rd, R.PW_RTC_HI_SEC, R.PW_RTC_LO_SEC, hlo, hhi]
  rfl

theorem State.rtc_inReset (s : State) (resetN : Bool) (phase : BootPhase) : (s.inReset true resetN phase).rtc = s.rtc := by
  have hbase : (s.resetBase resetN phase).Regs := ⟨rfl, rfl, rfl⟩
  obtain ⟨hlo, hhi⟩ := State.clockKept_word (s := s) hbase
  exact State.rtc_of_words hlo hhi

/-- With and without VAON, what is not cleared. -/
theorem State.inReset_keeps (s : State) (vaon resetN : Bool) (phase : BootPhase)
    : (s.inReset vaon resetN phase).boot = { phase := phase, loadIn := s.boot.loadIn } ∧
    (s.inReset vaon resetN phase).imageApplied = false ∧ (s.inReset vaon resetN phase).nor = s.nor ∧
    (s.inReset vaon resetN phase).prot.provisioned = s.prot.provisioned ∧ (s.inReset vaon resetN phase).prot.floor = s.prot.floor ∧
    (s.inReset vaon resetN phase).prot.kek = s.prot.kek ∧ (s.inReset vaon resetN phase).therm.tripN = (resetN || s.therm.tripN) := by
  cases vaon <;> exact ⟨rfl, rfl, rfl, rfl, rfl, rfl, rfl⟩

end Sys2Proof.Machine
end

section
/-! SUPPORT. RUN, LOCKED, the ring's boot statuses, passes in service (R424, R426, R429, R430). -/

namespace Sys2Proof.Machine

open Sys2Proof

/-! ### RUN_ENTRY -/

/-- The state in which the mode is in force and PW_STATE reads RUN. -/
noncomputable def State.runBegun (s : State) (m : Mode) (ms : Nat) : State :=
  ((((({ s with mode := m, power := .run }.loadAmps m).wr R.PW_STATE_STATE 0).wr R.PW_STATE_WAKE_CAUSE 0).wr R.BT_TIMES_RUN_MS (min 65535 ms)).setBoot
    fun x => { x with phase := .run })

/-- The start-up's faults are raised, SOLO entered, the image's contexts started. -/
noncomputable def State.runContexts (s : State) (m : Mode) : State :=
  let u := s.over (s.boot.failed.map (·.2)) State.raise
  let v := if m = .solo then u.enterSolo else u
  v.over v.imageContexts State.startContext

/-- The contexts to watch are noted, the slots bound, the runs requested, the sets judged. -/
noncomputable def State.runTaken (s : State) : State :=
  let u := s.setBoot fun x => { x with
    watch := (s.imageContexts.filter fun n => bits (s.imagePriv (A.CTX_OUT n)).toNat 11 9 == stActive).map fun n => (n, 0) }
  ((u.bindSlots.clearChanged.requestCals (List.range 80) true).validityPass).alertState

/-- RUN is not entered yet. -/
noncomputable def State.runWaits (s : State) : Prop :=
  s.boot.phase ≠ .applied ∨ ((List.range 80).any fun k => (s.tileCal k).tia.isSome) = true ∨
    ¬(s.boot.session = true ∨ s.on R.BT_STATUS_SESSION_WAIT = true) ∨ s.act.loaded = false

theorem State.runEntry_of_waits {s : State} {ms : Nat} (h : s.runWaits) : s.runEntry ms = s := by
  unfold State.runEntry
  exact if_pos (by simpa [State.runWaits] using h)

theorem State.runEntry_of_ready {s : State} {ms : Nat} (h : ¬s.runWaits) :
    s.runEntry ms = ((s.runBegun ((Mode.ofCode? s.boot.mode).getD .balanced) ms).runContexts ((Mode.ofCode? s.boot.mode).getD .balanced)).runTaken := by
  unfold State.runEntry
  exact if_neg fun hc => h (by simpa [State.runWaits] using hc)

set_option Elab.async false in
theorem State.Shows.setCx {s : State} {f : FieldAt} {v : Nat} {n x : Nat} {g : Nat → FieldAt} (h : s.Shows f v) : (s.setCx g n x).Shows f v :=
  ⟨h.regs.setCx, (State.rd_wrB s (g n) f x).trans h.rd⟩

theorem State.Shows.startContext {s : State} {f : FieldAt} {v : Nat} (h : s.Shows f v) (hf : f.addr ≠ A.BT_REFUSED) (n : Nat)
    : (s.startContext n).Shows f v := by
  unfold State.startContext
  extract_lets want first
  split
  · exact h
  · split
    · exact h.setCx.setCx
    · split
      · exact .ite h.setCx.setCx h.setCx.setCx.setCx
      · have hfirst : first.Shows f v := .ite (h.wr hf) h
        exact hfirst.wr hf

/-- A register before the domains', other than the planes' and the late answers', stands as SOLO is entered. -/
theorem State.Shows.enterSolo {s : State} {f : FieldAt} {v : Nat} (h : s.Shows f v) (hdomain : f.addr < A.PW_DOMAIN_ON 0)
    (hevents : f.addr ≠ A.SCH_EVENTS2) (hrole : f.addr ≠ A.PL_ROLE) :
    s.enterSolo.Shows f v := by
  have hsilent : (s.endDrill.endSequence.silence s.standby).Shows f v :=
    State.Shows.of_same (o := partMask [.links]) ((h.endDrill hevents).setPl _) (State.silence_same same_refl (by decide))
  unfold State.enterSolo
  refine State.Shows.setHealth_addr (.over (hsilent.setPl _) fun u d _ hu => ?_) hrole
  exact State.Shows.wr (g := domainField d) (x := b01 false) hu (show f.addr ≠ 0x70010 + 4 * (d / 32) by unfold A.PW_DOMAIN_ON at hdomain; omega)

theorem State.Shows.runContexts {s : State} {f : FieldAt} {v : Nat} {m : Mode} (h : s.Shows f v) (hdomain : f.addr < A.PW_DOMAIN_ON 0)
    (hevents : f.addr ≠ A.SCH_EVENTS2) (hrole : f.addr ≠ A.PL_ROLE)
    (hrefused : f.addr ≠ A.BT_REFUSED) : (s.runContexts m).Shows f v := by
  have hraised : (s.over (s.boot.failed.map (·.2)) State.raise).Shows f v := .over h fun u x _ hu => hu.raise x
  exact .over (.ite (hraised.enterSolo hdomain hevents hrole) hraised) fun u n _ hu => hu.startContext hrefused n

/-- What the contexts' start may change. -/
noncomputable def runContextParts : List Part := [.shared, .privA, .privB, .links, .sb, .sched, .faults, .pl]

theorem State.runContexts_same {s : State} {m : Mode} : Same (partMask runContextParts) s (s.runContexts m) := by
  have hraised : Same (partMask runContextParts) s (s.over (s.boot.failed.map (·.2)) State.raise) :=
    State.over_same (fun _ _ hu => State.raise_same hu (by decide)) same_refl
  exact State.over_same (fun _ _ hu => State.startContext_same hu (by decide)) (ite_same (State.enterSolo_same hraised (by decide)) hraised)

/-- What the sets, slots and runs may change. -/
noncomputable def runTakenParts : List Part := [.privA, .privB, .sb, .hka, .dith, .loop, .cal]

theorem State.runTaken_same {s : State} : Same (partMask (.boot :: runTakenParts)) s s.runTaken ∧ s.runTaken.boot.phase = s.boot.phase := by
  have hrest {u : State} : Same (partMask runTakenParts) u ((u.bindSlots.clearChanged.requestCals (List.range 80) true).validityPass).alertState :=
    State.alertState_same (State.validityPass_same (State.requestCals_same
      (State.clearChanged_same (State.bindSlots_same same_refl (by decide)) (by decide)) (by decide)) (by decide)) (by decide)
  refine ⟨(State.setBoot_same same_refl (by decide)).trans (hrest.mono (by decide)), ?_⟩
  have hboot : s.runTaken.boot = (s.setBoot _).boot := hrest .boot (by decide)
  rw [hboot]
  rfl

theorem State.runBegun_shows {s : State} {ms : Nat} {m : Mode} (h : s.Regs)
    : (s.runBegun m ms).Shows R.PW_STATE_STATE 0 ∧ (s.runBegun m ms).Shows R.BT_TIMES_RUN_MS (min 65535 ms) := by
  have hamps : ({ s with mode := m, power := .run }.loadAmps m).Regs :=
    State.Regs.over (fun u t hu => hu.wr.wr) (s := { s with mode := m, power := .run }) ⟨h.shared, h.privA, h.privB⟩
  unfold State.runBegun
  generalize State.loadAmps _ m = u at hamps ⊢
  have hrun : ((u.wr R.PW_STATE_STATE 0).wr R.PW_STATE_WAKE_CAUSE 0).Shows R.PW_STATE_STATE 0 :=
    State.Shows.wr_apart (.wr_self hamps (by decide))
  exact ⟨State.Shows.setBoot (hrun.wr (by decide)) _,
    State.Shows.setBoot (.wr_self hamps.wr.wr ((Nat.min_le_left 65535 ms).trans_lt (by decide))) _⟩

theorem State.runBegun_mode {s : State} {ms : Nat} {m : Mode}
    : (s.runBegun m ms).mode = m ∧ (s.runBegun m ms).power = .run ∧ (s.runBegun m ms).boot.phase = .run := by
  have hsame : Same (partMask [.shared, .boot]) { s with mode := m, power := .run } (s.runBegun m ms) :=
    State.setBoot_same (State.wr_same (State.wr_same (State.wr_same (State.loadAmps_same same_refl (by decide)) (by decide)) (by decide)) (by decide))
      (by decide)
  exact ⟨hsame .mode (by decide), hsame .power (by decide), rfl⟩

theorem runEntry_yields {s : State} {ms : Nat} (hs : s.sound = true) (hphase : s.boot.phase = .applied)
    (htia : ((List.range 80).any fun k => (s.tileCal k).tia.isSome) = false) (hsession : s.boot.session = true ∨ s.on R.BT_STATUS_SESSION_WAIT = true)
    (hloaded : s.act.loaded = true) : Yields (.runEntry ms) s fun t => t.boot.phase = .run ∧ t.power = .run ∧
      t.mode = (Mode.ofCode? s.boot.mode).getD .balanced ∧ t.rd R.BT_TIMES_RUN_MS = min 65535 ms ∧ t.rd R.PW_STATE_STATE = 0 := by
  have hready : ¬s.runWaits := by simp [State.runWaits, hphase, htia, hsession, hloaded]
  generalize hm : (Mode.ofCode? s.boot.mode).getD .balanced = m
  obtain ⟨hstate, htime⟩ := State.runBegun_shows (m := m) (ms := ms) (State.sound_regs hs)
  obtain ⟨hmode, hpower, hrun⟩ := State.runBegun_mode (s := s) (m := m) (ms := ms)
  have hentry : s.runEntry ms = ((s.runBegun m ms).runContexts m).runTaken := by rw [State.runEntry_of_ready hready, hm]
  have hcontexts : Same (partMask runContextParts) (s.runBegun m ms) ((s.runBegun m ms).runContexts m) := State.runContexts_same
  have hstate := hstate.runContexts (m := m) (by decide) (by decide) (by decide) (by decide)
  have htime := htime.runContexts (m := m) (by decide) (by decide) (by decide) (by decide)
  generalize hu : (s.runBegun m ms).runContexts m = u at hentry hcontexts hstate htime
  obtain ⟨htaken, hphaseTaken⟩ := State.runTaken_same (s := u)
  have hboot : u.boot = (s.runBegun m ms).boot := hcontexts .boot (by decide)
  have hopen : Same (partMask [.links, .free]) u.runTaken u.runTaken.openLanes := State.openLanes_same same_refl (by decide)
  have hphaseRun : u.runTaken.boot.phase = .run := by rw [hphaseTaken, hboot, hrun]
  have hexec : exec (.runEntry ms) s = .next u.runTaken.openLanes := by
    rw [exec_runEntry, State.enterRun, hentry]
    exact congrArg _ (if_pos ⟨hphaseRun, by rw [hphase]; decide⟩)
  have hall : Same (partMask (.links :: .free :: .boot :: runTakenParts)) u u.runTaken.openLanes :=
    (htaken.mono (by decide)).trans (hopen.mono (by decide))
  have hopenBoot : u.runTaken.openLanes.boot = u.runTaken.boot := hopen .boot (by decide)
  exact ⟨_, hexec, by rw [hopenBoot, hphaseRun], (hall .power (by decide)).trans ((hcontexts .power (by decide)).trans hpower),
    (hall .mode (by decide)).trans ((hcontexts .mode (by decide)).trans hmode), (State.rd_of_same _ hall (by decide)).trans htime.rd,
    (State.rd_of_same _ hall (by decide)).trans hstate.rd⟩

set_option Elab.async false in
theorem runEntry_waits {s : State} {ms : Nat}
    (hwaits : s.boot.phase ≠ .applied ∨ s.act.loaded = false ∨ ((List.range 80).any fun k => (s.tileCal k).tia.isSome) = true) :
    exec (.runEntry ms) s = .next s := by
  have hnot : s.runWaits := by
    rcases hwaits with hphase | hloaded | htia
    · exact .inl hphase
    · exact .inr (.inr (.inr hloaded))
    · exact .inr (.inl htia)
  rw [exec_runEntry, State.enterRun, State.runEntry_of_waits hnot]
  exact congrArg _ (if_neg fun hboth => hboth.2 hboth.1)

/-! ### LOCKED -/

theorem locked_yields {s : State} {ms : Nat} (hs : s.sound = true) (hphase : s.boot.phase = .run) (hnot : s.on R.BT_STATUS_LOCKED = false)
    (hwatch : ∀ w ∈ s.boot.watch, s.stateOf w.1 = stActive ∧ w.2 = 16) :
    Yields (.locked ms) s fun t => t.rd R.BT_STATUS_LOCKED = 1 ∧ t.rd R.BT_TIMES_LOCK_MS = min 65535 ms := by
  have hregs := State.sound_regs hs
  have hdue : s.boot.phase = .run ∧ ¬s.on R.BT_STATUS_LOCKED ∧ (s.boot.watch.all fun w => s.stateOf w.1 == stActive && w.2 == 16) := by
    simpa [hphase, hnot] using hwatch
  have hlocked : (s.wr R.BT_STATUS_LOCKED 1).Shows R.BT_STATUS_LOCKED 1 := .wr_self hregs (by decide)
  refine ⟨_, (exec_locked ms s).trans (congrArg _ (if_pos hdue)), (hlocked.wr (by decide)).rd, ?_⟩
  exact State.rd_wr_of_lt hregs.wr ((Nat.min_le_left 65535 ms).trans_lt (by decide))

theorem locked_waits {s : State} {ms : Nat} (hnot : s.boot.phase ≠ .run ∨ s.on R.BT_STATUS_LOCKED = true) : exec (.locked ms) s = .next s :=
  (exec_locked ms s).trans (congrArg _ (if_neg fun ⟨hphase, hoff, _⟩ => hnot.elim (absurd hphase) hoff))

/-! ### The ring -/

/-- The status of position c is shown and the position noted. -/
noncomputable def State.statusShown (s : State) (c serial state slot sec digest : Nat) : State :=
  (((((s.setBoot fun x => { x with nodes := x.nodes.filter (fun n => n.1 != c) ++ [(c, serial, s.clk.frame)] }).wr (R.AP_RING_NODE_STATE c) state).wr
    (R.AP_RING_NODE_SLOT c) slot).wr (R.AP_RING_NODE_SEC_VERSION c) sec).wr (R.AP_RING_DIGEST_LO_DIGEST c) digest).wr (R.AP_RING_DIGEST_HI_DIGEST c)
    (digest / 2 ^ 32)

/-- The positions present, and the conflict that the status shows. -/
noncomputable def State.presentShown (s : State) (c : Nat) (clash : Bool) : State :=
  let u := s.wr R.AP_RING_STATUS_PRESENT (s.rd R.AP_RING_STATUS_PRESENT ||| 2 ^ c)
  if clash then u.wr R.AP_RING_STATUS_CONFLICT 1 else u

theorem State.bootStatus_eq {s : State} {c serial state slot sec digest : Nat}
    : s.bootStatus c serial state slot sec digest = (s.statusShown c serial state slot sec digest).presentShown c
    (s.boot.nodes.any (fun n => n.1 == c && n.2.1 != serial) || (c == s.chainPos && serial != Config.serial)) := rfl

theorem State.statusShown_shows {s : State} {c serial state slot sec digest : Nat} (h : s.Regs) (hc : c < 16) (hstate : state < 8)
    (hsec : sec < 65536) :
    (s.statusShown c serial state slot sec digest).Shows (R.AP_RING_NODE_STATE c) state ∧
    (s.statusShown c serial state slot sec digest).Shows (R.AP_RING_NODE_SLOT c) (slot % 2) ∧
    (s.statusShown c serial state slot sec digest).Shows (R.AP_RING_NODE_SEC_VERSION c) sec := by
  have hnoted : (s.setBoot fun x => { x with nodes := x.nodes.filter (fun n => n.1 != c) ++ [(c, serial, s.clk.frame)] }).Regs :=
    ⟨h.shared, h.privA, h.privB⟩
  unfold State.statusShown
  generalize (s.setBoot fun x => { x with nodes := x.nodes.filter (fun n => n.1 != c) ++ [(c, serial, s.clk.frame)] }) = u at hnoted ⊢
  have hdigest {y : State} {f : FieldAt} {v : Nat} (hy : y.Shows f v) (hf : f.addr = A.AP_RING_NODE c) :
      ((y.wr (R.AP_RING_DIGEST_LO_DIGEST c) digest).wr (R.AP_RING_DIGEST_HI_DIGEST c) (digest / 2 ^ 32)).Shows f v := by
    refine (hy.wr ?_).wr ?_ <;> rw [hf] <;>
      simp only [R.AP_RING_DIGEST_LO_DIGEST, R.AP_RING_DIGEST_HI_DIGEST, A.AP_RING_NODE, A.AP_RING_DIGEST_LO, A.AP_RING_DIGEST_HI] <;> omega
  have hstateShown : (u.wr (R.AP_RING_NODE_STATE c) state).Shows (R.AP_RING_NODE_STATE c) state := .wr_self hnoted hstate
  have hslotShown : ((u.wr (R.AP_RING_NODE_STATE c) state).wr (R.AP_RING_NODE_SLOT c) slot).Shows (R.AP_RING_NODE_SLOT c) (slot % 2) :=
    ⟨hnoted.wr.wr, State.rd_wr _ _ _ hnoted.wr.shared (by decide : 28 < 32) (Nat.le_refl 28)⟩
  exact ⟨hdigest hstateShown.wr_apart.wr_apart rfl, hdigest hslotShown.wr_apart rfl, hdigest (.wr_self hnoted.wr.wr hsec) rfl⟩

set_option Elab.async false in
theorem State.Shows.presentShown {s : State} {f : FieldAt} {v c : Nat} {clash : Bool} (h : s.Shows f v) (hf : f.addr ≠ A.AP_RING_STATUS)
    : (s.presentShown c clash).Shows f v :=
  .ite ((h.wr hf).wr hf) (h.wr hf)

theorem State.presentShown_present {s : State} {c : Nat} {clash : Bool} (h : s.Regs) (hc : c < 16) :
    ((s.presentShown c clash).rd R.AP_RING_STATUS_PRESENT).testBit c = true := by
  have hlt : s.rd R.AP_RING_STATUS_PRESENT ||| 2 ^ c < 2 ^ 16 :=
    Nat.or_lt_two_pow (State.rd_lt s R.AP_RING_STATUS_PRESENT) (Nat.pow_lt_pow_right (by decide) hc)
  have hpresent : (s.wr R.AP_RING_STATUS_PRESENT (s.rd R.AP_RING_STATUS_PRESENT ||| 2 ^ c)).Shows R.AP_RING_STATUS_PRESENT
      (s.rd R.AP_RING_STATUS_PRESENT ||| 2 ^ c) := .wr_self h hlt
  have hshown : (s.presentShown c clash).Shows R.AP_RING_STATUS_PRESENT (s.rd R.AP_RING_STATUS_PRESENT ||| 2 ^ c) := .ite hpresent.wr_apart hpresent
  rw [hshown.rd, Nat.testBit_or, Nat.testBit_two_pow_self, Bool.or_true]

theorem bootStatus_yields {s : State} {c serial state slot sec digest : Nat} (hs : s.sound = true)
    (hwf : (Instr.bootStatusRx c serial state slot sec digest).wf = true) (hclocked : s.clocked = true)
    (hup : s.ringUp = true) : Yields (.bootStatusRx c serial state slot sec digest) s fun t =>
      t.rd (R.AP_RING_NODE_STATE c) = state ∧ t.rd (R.AP_RING_NODE_SLOT c) = slot % 2 ∧ t.rd (R.AP_RING_NODE_SEC_VERSION c) = sec ∧
      (t.rd R.AP_RING_STATUS_PRESENT).testBit c = true ∧ (c, serial, s.clk.frame) ∈ t.boot.nodes := by
  have hbounds := hwf
  simp only [Instr.wf, Bool.and_eq_true, decide_eq_true_eq] at hbounds
  obtain ⟨⟨⟨⟨⟨hc, -⟩, hstate⟩, -⟩, hsec⟩, -⟩ := hbounds
  obtain ⟨hstateShown, hslotShown, hsecShown⟩ :=
    State.statusShown_shows (serial := serial) (slot := slot) (digest := digest) (State.sound_regs hs) hc hstate hsec
  have hne : A.AP_RING_NODE c ≠ A.AP_RING_STATUS := by
    unfold A.AP_RING_NODE A.AP_RING_STATUS
    omega
  refine ⟨_, (exec_bootStatusRx c serial state slot sec digest s hwf).trans (congrArg _ ((if_pos (by rw [hclocked, hup]; rfl)).trans State.bootStatus_eq)),
    (hstateShown.presentShown hne).rd, (hslotShown.presentShown hne).rd, (hsecShown.presentShown hne).rd,
    State.presentShown_present hstateShown.regs hc, ?_⟩
  have hnodes : (s.statusShown c serial state slot sec digest).boot.nodes = s.boot.nodes.filter (fun n => n.1 != c) ++ [(c, serial, s.clk.frame)] := rfl
  have hboot (u : State) (clash : Bool) : (u.presentShown c clash).boot = u.boot := by
    unfold State.presentShown
    split <;> rfl
  rw [hboot, hnodes]
  exact List.mem_append_right _ List.mem_cons_self

theorem bootStatus_alone {s : State} {c serial state slot sec digest : Nat} (hwf : (Instr.bootStatusRx c serial state slot sec digest).wf = true)
    (hdown : s.ringUp = false) :
    exec (.bootStatusRx c serial state slot sec digest) s = .next s :=
  (exec_bootStatusRx c serial state slot sec digest s hwf).trans (congrArg _ (if_neg (by simp [hdown])))

/-! ### Passes for devices of a chain in service -/

theorem passRetry_yields {s : State} (hs : s.sound = true) (hchain : s.inChain = true) (hhead : s.chainHead = false) (hready : s.boot.ready = true)
    (hphase : s.boot.phase = .loading) (hpass : s.boot.passing = false) (htried : s.boot.tried = []) : Yields .passRequestRetry s fun t =>
      t.boot = { s.boot with waitPass := some s.boot.prefer, wanted := s.boot.wanted + 1 } ∧ t.rd R.BT_STATUS_RESULT = bootWaitPass :=
  ⟨_, (exec_passRequestRetry s).trans (congrArg _ (if_pos (by simp [hchain, hhead, hready, hphase, hpass, htried]))), rfl,
    (State.Shows.setBoot (.wr_self (State.sound_regs hs) (by decide)) _).rd⟩

theorem passRetry_waits {s : State} (hnot : s.chainHead = true ∨ s.boot.phase ≠ .loading) : exec .passRequestRetry s = .next s := by
  refine (exec_passRequestRetry s).trans (congrArg _ (if_neg ?_))
  rcases hnot with hhead | hphase
  · simp [hhead]
  · simp [hphase]

end Sys2Proof.Machine
end

section
/-! SUPPORT. The NOR in service and REBOOT (R431, R433, R434). -/

namespace Sys2Proof.Machine

open Sys2Proof

/-! ### PM_ERASE -/

theorem pmErase_yields {s : State} (hphase : s.boot.phase = .run) (hnot : s.boot.pmErased = false) (hdrives : s.drivesNor = true)
    : Yields .pmErase s fun t =>
    t.boot = { s.boot with pmErased := true } ∧
      t.nor = (s.norPut (pmBase (match s.pmNewest with | some x => (x.1 + 1) % 8 | none => 0)) (List.replicate 8192 0xFF)).nor :=
  ⟨_, (exec_pmErase s).trans (congrArg _ (if_neg (by simp [hphase, hnot, hdrives]))), rfl, rfl⟩

theorem pmErase_waits {s : State} (hnot : s.boot.phase ≠ .run ∨ s.boot.pmErased = true) : exec .pmErase s = .next s :=
  (exec_pmErase s).trans (congrArg _ (if_pos (hnot.imp_right .inl)))

/-! ### An operation begins -/

theorem State.writeFields_eq (s : State) (r : Requester) (a : Nat) (l : List (FieldAt × Nat)) : s.writeFields r a l = s.regWrite r a [s.setting a l] :=
  rfl

theorem State.word_dropHeld (s : State) (r : Requester) (a : Nat) : (s.dropHeld r).word a = s.word a := rfl

/-- The entries of BT_NOR_CTRL and BT_CTRL in the table of chapter 17. -/
noncomputable def norCtrlSpec : RegSpec :=
  ⟨.BT_NOR_CTRL, 0x10080, [], .shared, [⟨31, 31, .w1s, .live, 0, .number, false⟩, ⟨30, 30, .ro, .fixed, 0, .number, false⟩,
    ⟨29, 29, .w1c, .fixed, 0, .number, false⟩, ⟨28, 28, .w1c, .fixed, 0, .number, false⟩, ⟨27, 26, .rw, .live, 0, .number, false⟩,
    ⟨8, 0, .rw, .live, 0x100, .number, false⟩]⟩
noncomputable def btCtrlSpec : RegSpec :=
  ⟨.BT_CTRL, 0x10040, [], .shared, [⟨31, 31, .w1s, .live, 0, .number, false⟩, ⟨1, 0, .rw, .live, 0, .number, false⟩]⟩

theorem regAt_norCtrl : regAt A.BT_NOR_CTRL = some ⟨norCtrlSpec, []⟩ := by decide +kernel
theorem regAt_btCtrl : regAt A.BT_CTRL = some ⟨btCtrlSpec, []⟩ := by decide +kernel

/-- A field's marks that the word has as 1 are cleared. -/
noncomputable def State.marksCleared (s : State) (f : FieldAt) (w : Nat) : State := s.wr f (s.rd f - (s.rd f &&& f.get w))

/-- The state in which the fields of BT_NOR_CTRL have taken effect. -/
noncomputable def State.norSet (s : State) (w : Nat) : State :=
  (((s.marksCleared R.BT_NOR_CTRL_DONE w).marksCleared R.BT_NOR_CTRL_REFUSED w).wr R.BT_NOR_CTRL_OP (R.BT_NOR_CTRL_OP.get w)).wr R.BT_NOR_CTRL_LENGTH
    (R.BT_NOR_CTRL_LENGTH.get w)

set_option Elab.async false in
theorem State.norSet_regs {s : State} {w : Nat} (h : s.Regs) : (s.norSet w).Regs := h.wr.wr.wr.wr

theorem State.norSet_addr {s : State} {w : Nat} (h : s.Regs) : (s.norSet w).word A.BT_NOR_ADDR = s.word A.BT_NOR_ADDR := by
  unfold State.norSet State.marksCleared
  rw [State.word_wr_of_ne h.wr.wr.wr (by decide), State.word_wr_of_ne h.wr.wr (by decide), State.word_wr_of_ne h.wr (by decide),
    State.word_wr_of_ne h (by decide)]

theorem State.regWrite_norCtrl {s : State} {r : Requester} {w : Nat} (hmay : s.mayWrite r A.BT_NOR_CTRL w = true) (hgo : w.testBit 31 = true) :
    s.regWrite r A.BT_NOR_CTRL [w] = (((s.dropHeld r).norSet w).norStart (R.BT_NOR_CTRL_OP.get w) (((s.dropHeld r).norSet w).word A.BT_NOR_ADDR)
      (norLength w)).noteStatus r Code.ok := by
  refine (State.regWrite_plain hmay regAt_norCtrl rfl rfl rfl).trans ?_
  show (if w.testBit 31 then ((s.dropHeld r).norSet w).norStart (R.BT_NOR_CTRL_OP.get w) (((s.dropHeld r).norSet w).word A.BT_NOR_ADDR)
    (norLength w) else _).noteStatus r Code.ok = _
  rw [if_pos hgo]

theorem State.norStart_norOp (s : State) (op addr len : Nat) : (s.norStart op addr len).boot.norOp = some (op, addr, len) := rfl
theorem State.norStart_nor (s : State) (op addr len : Nat) : (s.norStart op addr len).nor = s.nor := rfl

/-- The operation and the length that a word of BT_NOR_CTRL names, and its GO. -/
theorem norCtrl_word {w op length : Nat} {rest : Nat} (hop : op < 4) (hlength : length < 512)
    (hw : w = R.BT_NOR_CTRL_GO.put (R.BT_NOR_CTRL_LENGTH.put (R.BT_NOR_CTRL_OP.put rest op) length) 1) :
    w.testBit 31 = true ∧ R.BT_NOR_CTRL_OP.get w = op ∧ norLength w = norLength length := by
  have hput : w = putBits (putBits (putBits rest 27 26 op) 8 0 length) 31 31 1 := hw
  have hbits : bits w 8 0 = length := by
    rw [hput, bits_putBits_below _ _ _ _ _ _ (by decide) (by decide), bits_putBits]
    exact Nat.mod_eq_of_lt hlength
  have hmod : w % 512 = length := by
    rw [← hbits]
    show w % 2 ^ 9 = w / 2 ^ 0 % 2 ^ 9
    rw [Nat.pow_zero, Nat.div_one]
  refine ⟨?_, ?_, by rw [norLength, norLength, hmod, Nat.mod_eq_of_lt hlength]⟩
  · rw [hput]
    exact (testBit_iff_bits _ _).2 ((bits_putBits _ _ _ _).trans (by decide))
  · show bits w 27 26 = op
    rw [hput, bits_putBits_below _ _ _ _ _ _ (by decide) (by decide), bits_putBits_above _ _ _ _ _ _ (by decide) (by decide), bits_putBits]
    exact Nat.mod_eq_of_lt hop

theorem norOp_begins {s : State} {r : Requester} {op length : Nat} {i : Instr} (hs : s.sound = true) (hop : op < 4) (hlength : length < 512)
    (hexec : exec i s = .next (s.writeFields r A.BT_NOR_CTRL [(R.BT_NOR_CTRL_OP, op), (R.BT_NOR_CTRL_LENGTH, length), (R.BT_NOR_CTRL_GO, 1)]))
    (hmay : s.mayWrite r A.BT_NOR_CTRL
      (s.setting A.BT_NOR_CTRL [(R.BT_NOR_CTRL_OP, op), (R.BT_NOR_CTRL_LENGTH, length), (R.BT_NOR_CTRL_GO, 1)]) = true) :
    Yields i s fun t => t.boot.norOp = some (op, s.word A.BT_NOR_ADDR, norLength length) ∧ t.rd R.BT_NOR_CTRL_BUSY = 1 ∧ t.nor = s.nor := by
  obtain ⟨hgo, hopIs, hlen⟩ := norCtrl_word hop hlength
    (s.setting_three A.BT_NOR_CTRL (R.BT_NOR_CTRL_OP, op) (R.BT_NOR_CTRL_LENGTH, length) (R.BT_NOR_CTRL_GO, 1))
  have hdropped : (s.dropHeld r).Regs := (State.sound_regs hs).dropHeld
  have hwrite := State.regWrite_norCtrl hmay hgo
  rw [hopIs, hlen, State.norSet_addr hdropped, State.word_dropHeld] at hwrite
  rw [State.writeFields_eq, hwrite] at hexec
  generalize hw : s.setting A.BT_NOR_CTRL [(R.BT_NOR_CTRL_OP, op), (R.BT_NOR_CTRL_LENGTH, length), (R.BT_NOR_CTRL_GO, 1)] = w at hexec
  have hnote (u : State) : Same (partMask [.sb]) u (u.noteStatus r Code.ok) := State.noteStatus_same same_refl (by decide)
  have hset : Same (partMask [.shared, .access]) s ((s.dropHeld r).norSet w) :=
    State.wr_same (State.wr_same (State.wr_same (State.wr_same (State.dropHeld_same same_refl (by decide)) (by decide)) (by decide)) (by decide))
      (by decide)
  have hregs : ((s.dropHeld r).norSet w).Regs := State.norSet_regs hdropped
  generalize (s.dropHeld r).norSet w = u at hexec hset hregs
  have hbusy : (u.norStart op (s.word A.BT_NOR_ADDR) (norLength length)).Shows R.BT_NOR_CTRL_BUSY 1 :=
    State.Shows.setBoot (.wr_self hregs (by decide)) _
  have hnor : u.nor = s.nor := hset .nor (by decide)
  have hboot := State.norStart_norOp u op (s.word A.BT_NOR_ADDR) (norLength length)
  have hkept := State.norStart_nor u op (s.word A.BT_NOR_ADDR) (norLength length)
  generalize u.norStart op (s.word A.BT_NOR_ADDR) (norLength length) = v at hexec hbusy hboot hkept
  have hnoteBoot : (v.noteStatus r Code.ok).boot = v.boot := hnote v .boot (by decide)
  have hnoteNor : (v.noteStatus r Code.ok).nor = v.nor := hnote v .nor (by decide)
  exact ⟨_, hexec, by rw [hnoteBoot, hboot], (State.rd_noteStatus _ _ _ _).trans hbusy.rd, by rw [hnoteNor, hkept, hnor]⟩

theorem norOps_begin {s : State} {r : Requester} {op length : Nat} {i : Instr} (hs : s.sound = true)
    (hmem : (i, op) ∈ [(Instr.norRead r length, 0), (.norProgram r length, 1), (.norErase r length, 2)])
    (hwf : i.wf = true) (hmay : s.mayWrite r A.BT_NOR_CTRL
      (s.setting A.BT_NOR_CTRL [(R.BT_NOR_CTRL_OP, op), (R.BT_NOR_CTRL_LENGTH, length), (R.BT_NOR_CTRL_GO, 1)]) = true) :
    Yields i s fun t => t.boot.norOp = some (op, s.word A.BT_NOR_ADDR, norLength length) ∧ t.rd R.BT_NOR_CTRL_BUSY = 1 ∧ t.nor = s.nor := by
  simp only [List.mem_cons, List.not_mem_nil, or_false, Prod.mk.injEq] at hmem
  rcases hmem with ⟨rfl, rfl⟩ | ⟨rfl, rfl⟩ | ⟨rfl, rfl⟩
  · exact norOp_begins hs (by decide) (of_decide_eq_true (Bool.and_eq_true_iff.1 hwf).2) (exec_norRead r length s hwf) hmay
  · exact norOp_begins hs (by decide) (of_decide_eq_true (Bool.and_eq_true_iff.1 hwf).2) (exec_norProgram r length s hwf) hmay
  · exact norOp_begins hs (by decide) (of_decide_eq_true (Bool.and_eq_true_iff.1 hwf).2) (exec_norErase r length s hwf) hmay

/-! ### An operation ends -/

/-- The effect of an operation on a NOR that others have written. -/
noncomputable def State.norEffect (s : State) (op addr len : Nat) : State :=
  match op with
  | 0 => s.putBuffer (s.norBytes addr len)
  | 1 => s.norProgram addr (s.norBuffer len)
  | _ => s.norPut addr (List.replicate 4096 0xFF)

/-- The operation is over and DONE set. -/
noncomputable def State.norEnded (s : State) : State := ((s.wr R.BT_NOR_CTRL_BUSY 0).wr R.BT_NOR_CTRL_DONE 1).setBoot fun x => { x with norOp := none }

theorem State.norDone_of_op {s : State} {addr len op : Nat} {flash : List (Nat × List Nat)} (hop : s.boot.norOp = some (op, addr, len))
    : s.norDone flash = ((s.norOthers flash).norEffect op addr len).norEnded := by
  unfold State.norDone
  rw [hop]
  rfl

theorem State.norEffect_regs {s : State} {addr len op : Nat} (h : s.Regs) : (s.norEffect op addr len).Regs := by
  unfold State.norEffect
  split
  · exact State.Regs.over (fun u k hu => hu.setWord) h
  · exact ⟨h.shared, h.privA, h.privB⟩
  · exact ⟨h.shared, h.privA, h.privB⟩

theorem norOpDone_yields {s : State} {addr len op : Nat} {flash : List (Nat × List Nat)} (hs : s.sound = true)
    (hwf : (Instr.norOpDone flash).wf = true) (hop : s.boot.norOp = some (op, addr, len)) :
    Yields (.norOpDone flash) s fun t => t.boot.norOp = none ∧ t.rd R.BT_NOR_CTRL_BUSY = 0 ∧ t.rd R.BT_NOR_CTRL_DONE = 1 ∧
      (op = 2 → t.nor = ((s.norOthers flash).norPut addr (List.replicate 4096 0xFF)).nor) ∧ (op = 0 → t.nor = (s.norOthers flash).nor) := by
  have hothers : (s.norOthers flash).Regs := State.regs_of_same (o := partMask [.nor]) (State.norOthers_same same_refl (by decide)) (by decide) (by decide)
    (by decide) (State.sound_regs hs)
  have hregs : ((s.norOthers flash).norEffect op addr len).Regs := State.norEffect_regs hothers
  have hexec := (exec_norOpDone flash s hwf).trans (congrArg _ (State.norDone_of_op (flash := flash) hop))
  have herase (h : op = 2) : ((s.norOthers flash).norEffect op addr len).nor = ((s.norOthers flash).norPut addr (List.replicate 4096 0xFF)).nor := by
    rw [h]
    rfl
  have hread (h : op = 0) : ((s.norOthers flash).norEffect op addr len).nor = (s.norOthers flash).nor := by
    rw [h]
    exact State.putBuffer_same (o := partMask [.shared]) same_refl (by decide) .nor (by decide)
  generalize (s.norOthers flash).norEffect op addr len = u at hregs hexec herase hread
  have hbusy : (u.wr R.BT_NOR_CTRL_BUSY 0).Shows R.BT_NOR_CTRL_BUSY 0 := .wr_self hregs (by decide)
  exact ⟨_, hexec, rfl, (hbusy.wr_apart.setBoot _).rd, (State.Shows.setBoot (.wr_self hregs.wr (by decide)) _).rd, herase, hread⟩

theorem norOpDone_idle {s : State} {flash : List (Nat × List Nat)} (hwf : (Instr.norOpDone flash).wf = true) (hnone : s.boot.norOp = none)
    : exec (.norOpDone flash) s = .next s := by
  rw [exec_norOpDone flash s hwf, State.norDone, hnone]

/-! ### REBOOT -/

theorem State.regWrite_btCtrl {s : State} {r : Requester} {w : Nat} (hmay : s.mayWrite r A.BT_CTRL w = true) (hgo : w.testBit 31 = true) :
    s.regWrite r A.BT_CTRL [w] = (((s.dropHeld r).wr R.BT_CTRL_SLOT (R.BT_CTRL_SLOT.get w)).askReboot (w % 4)).noteStatus r Code.ok := by
  refine (State.regWrite_plain hmay regAt_btCtrl rfl rfl rfl).trans ?_
  show (if w.testBit 31 then ((s.dropHeld r).wr R.BT_CTRL_SLOT (R.BT_CTRL_SLOT.get w)).askReboot (w % 4) else _).noteStatus r Code.ok = _
  rw [if_pos hgo]

set_option Elab.async false in
theorem State.setting_two (s : State) (a : Nat) (x y : FieldAt × Nat) : s.setting a [x, y] = y.1.put (x.1.put (s.restWord a) x.2) y.2 := rfl

/-- The slot that a word of BT_CTRL names, and its REBOOT. -/
theorem btCtrl_word {w slot : Nat} {rest : Nat} (hslot : slot < 4) (hw : w = R.BT_CTRL_REBOOT.put (R.BT_CTRL_SLOT.put rest slot) 1) :
    w.testBit 31 = true ∧ w % 4 = slot := by
  have hput : w = putBits (putBits rest 1 0 slot) 31 31 1 := hw
  have hbits : bits w 1 0 = slot := by
    rw [hput, bits_putBits_below _ _ _ _ _ _ (by decide) (by decide), bits_putBits]
    exact Nat.mod_eq_of_lt hslot
  refine ⟨?_, ?_⟩
  · rw [hput]
    exact (testBit_iff_bits _ _).2 ((bits_putBits _ _ _ _).trans (by decide))
  · rw [← hbits]
    show w % 2 ^ 2 = w / 2 ^ 0 % 2 ^ 2
    rw [Nat.pow_zero, Nat.div_one]

theorem btReboot_yields {s : State} {r : Requester} {slot : Nat} (hwf : (Instr.btReboot r slot).wf = true)
    (hmay : s.mayWrite r A.BT_CTRL (s.setting A.BT_CTRL [(R.BT_CTRL_SLOT, slot), (R.BT_CTRL_REBOOT, 1)]) = true) :
    Yields (.btReboot r slot) s fun t => t.boot = { s.boot with reboot := some (slot % 3, s.clk.frame + 1) } := by
  have hslot : slot < 4 := of_decide_eq_true (Bool.and_eq_true_iff.1 hwf).2
  obtain ⟨hgo, hmod⟩ := btCtrl_word hslot (s.setting_two A.BT_CTRL (R.BT_CTRL_SLOT, slot) (R.BT_CTRL_REBOOT, 1))
  have hwrite := State.regWrite_btCtrl hmay hgo
  rw [hmod] at hwrite
  refine ⟨_, (exec_btReboot r slot s hwf).trans (congrArg _ hwrite), ?_⟩
  have hboot (u : State) : (u.noteStatus r Code.ok).boot = u.boot := State.noteStatus_same (o := partMask [.sb]) same_refl (by decide) .boot (by decide)
  have hasked : { s.boot with reboot := some (slot % 4 % 3, s.clk.frame + 1) } = { s.boot with reboot := some (slot % 3, s.clk.frame + 1) } := by
    rw [Nat.mod_eq_of_lt hslot]
  exact (hboot _).trans hasked

theorem rebootReset_yields {s : State} {slot at_ : Nat} (hreboot : s.boot.reboot = some (slot, at_)) (hdue : at_ ≤ s.clk.frame)
    : Yields .rebootReset s fun t =>
    t.boot.phase = .reset ∧ t.boot.prefer = slot ∧ t.boot.waitPass = some slot ∧ t.imageApplied = false ∧ t.nor = s.nor ∧ t.rtc = s.rtc := by
  obtain ⟨hboot, himage, hnor, -⟩ := s.inReset_keeps true true .reset
  have hreset : s.rebootReset = (s.inReset true true .reset).setBoot fun x => { x with prefer := slot, waitPass := some slot } := by
    unfold State.rebootReset
    rw [hreboot]
    exact if_pos hdue
  have hphase : (s.inReset true true .reset).boot.phase = .reset := congrArg Boot.phase hboot
  have hrtc : ((s.inReset true true .reset).setBoot fun x => { x with prefer := slot, waitPass := some slot }).rtc = (s.inReset true true .reset).rtc :=
    State.rtc_of_words rfl rfl
  exact ⟨_, (exec_rebootReset s).trans (congrArg _ hreset), hphase, rfl, rfl, himage, hnor, hrtc.trans (s.rtc_inReset true .reset)⟩

theorem rebootReset_waits {s : State} (hnot : (s.boot.reboot.all fun x => decide (s.clk.frame < x.2)) = true) : exec .rebootReset s = .next s := by
  rw [exec_rebootReset]
  unfold State.rebootReset
  split
  next slot b hreboot =>
    rw [hreboot] at hnot
    rw [if_neg (Nat.not_le.2 (of_decide_eq_true hnot))]
  next => rfl

/-- Settles O57: each command's effect by its own lemma. That an erased byte reads 0xFF is the model's choice (log entry 4). -/
theorem runsAndReboots : Obligations.RunsAndReboots := by
  unfold Obligations.RunsAndReboots
  intro s hs
  exact ⟨fun ms hphase htia hsession hloaded => runEntry_yields hs hphase htia hsession hloaded, fun ms hnot => runEntry_waits hnot,
    fun ms hphase hnot hwatch => locked_yields hs hphase hnot hwatch, fun ms hnot => locked_waits hnot,
    fun c serial state slot sec digest hwf hclocked hup => bootStatus_yields hs hwf hclocked hup,
    fun c serial state slot sec digest hwf hdown => bootStatus_alone hwf hdown, exec_passRequestRx s,
    fun hchain hhead hready hphase hpass htried => passRetry_yields hs hchain hhead hready hphase hpass htried, fun hnot => passRetry_waits hnot,
    fun hphase hnot hdrives => pmErase_yields hphase hnot hdrives, fun hnot => pmErase_waits hnot,
    fun i r op length hmem hwf hmay => norOps_begin hs hmem hwf hmay, fun flash op addr len hwf hop => norOpDone_yields hs hwf hop,
    fun flash hwf hnone => norOpDone_idle hwf hnone, fun r slot hwf hmay => btReboot_yields hwf hmay,
    fun slot b hreboot hdue => rebootReset_yields hreboot hdue, fun hnot => rebootReset_waits hnot⟩

end Sys2Proof.Machine
end

section
/-! TESTS. LOCKED, an erase of the NOR, REBOOT. -/

namespace Sys2Proof.Machine

open Sys2Proof

/-- In RUN, with context 0 ACTIVE for 16 sets. -/
noncomputable def watchedBlock : State :=
  { runningBlock with power := .run, boot := { runningBlock.boot with phase := .run, watch := [(0, 16)] } }.setCx R.CTX_OUT_STATE 0 stActive

set_option Elab.async false in
theorem watchedBlock_sound : watchedBlock.sound = true := by decide +kernel

theorem watchedBlock_locked : Yields (.locked 12) watchedBlock fun t => t.rd R.BT_STATUS_LOCKED = 1 ∧ t.rd R.BT_TIMES_LOCK_MS = 12 :=
  locked_yields watchedBlock_sound rfl (by decide +kernel) (by decide +kernel)

theorem watchedBlock_erase : Yields (.norErase (.principal 30) 511) watchedBlock fun t => t.rd R.BT_NOR_CTRL_BUSY = 1 :=
  (norOps_begin (r := .principal 30) (op := 2) (length := 511) watchedBlock_sound (by decide) (by decide +kernel) (by decide +kernel)).imp fun t ⟨_, hbusy, _⟩ => hbusy

theorem watchedBlock_reboot : Yields (.btReboot (.principal 30) 1) watchedBlock fun t => t.boot.reboot = some (1, 1) :=
  (btReboot_yields (by decide +kernel) (by decide +kernel)).imp fun t hboot => congrArg Boot.reboot hboot

end Sys2Proof.Machine
end

section
/-! SUPPORT. Reset, start-up, self-tests, the chain's pins, the reading of a slot (R407, R408, R413, R422 to R425). -/

namespace Sys2Proof.Machine

open Sys2Proof

/-! ### RESET -/

theorem reset_yields {s : State} {resetN vaon : Bool}
    : Yields (.reset resetN vaon) s fun t => t.boot.phase = .reset ∧ t.imageApplied = false ∧ t.nor = s.nor ∧
    t.prot.provisioned = s.prot.provisioned ∧ t.prot.floor = s.prot.floor ∧ t.prot.kek = s.prot.kek ∧ t.therm.tripN = (resetN || s.therm.tripN) ∧
      (vaon = true → t.rtc = s.rtc) ∧ (vaon = false → t.reg = State.reset.reg) := by
  obtain ⟨hboot, himage, hnor, hprovisioned, hfloor, hkek, htrip⟩ := s.inReset_keeps vaon resetN .reset
  exact ⟨_, exec_reset resetN vaon s, congrArg Boot.phase hboot, himage, hnor, hprovisioned, hfloor, hkek, htrip,
    fun h => h ▸ s.rtc_inReset resetN .reset, fun h => h ▸ s.resetBase_reg resetN .reset⟩

/-! ### START_UP -/

/-- The straps are taken. -/
noncomputable def State.strapped (s : State) (bootMode pos sba : Nat) (trust : Bool) (flash : List (Nat × List Nat)) : State :=
  let u := ((((s.norOthers flash).wr R.BT_STATUS_BOOT_MODE bootMode).wr R.BT_STATUS_CHAIN_POS pos).wr R.BT_STATUS_HEAD (b01 (pos == 0))).wr
    R.BT_STATUS_SB_TRUST (b01 trust)
  let u := u.wr R.PR_OWNER_SB_TRUSTED (b01 trust)
  { u with sb := { u.sb with sba := sba }, power := .run }

/-- Every domain is powered and fabric time runs. -/
noncomputable def State.powered (s : State) : State :=
  let u := s.over (List.range 96) fun s d => s.powerDomain d true
  (u.loadDomains u.rtc).loadFabric

/-- The newest post-mortem record shows where the device drives the NOR, and the device loads. -/
noncomputable def State.loading (s : State) (bootMode pos : Nat) : State :=
  (if s.drivesNor && bootMode ≤ 1 then s.showPm else s).setBoot fun x => { x with
    phase := .loading
    waitPass := if bootMode = 1 ∧ pos ≠ 0 then x.waitPass else none }

/-- The start-up ends before an image is read. -/
noncomputable def State.endedWith (s : State) (result : Nat) (g : Boot → Boot)
    : State := (s.wr R.BT_STATUS_RESULT result).setBoot fun x => { g x with phase := .ended }

theorem State.startUp_eq {s u : State} {bootMode pos sba : Nat} {trust : Bool} {flash : List (Nat × List Nat)} (hphase : s.boot.phase = .reset)
    (hu : u = (s.strapped bootMode pos sba trust flash).powered.loading bootMode pos) :
    s.startUp bootMode pos sba trust flash =
      if 2 ≤ bootMode then u.endedWith bootHalt fun x => { x with loadDone := x.loadIn }
      else if u.prot.imageKeyHash.isNone then u.endedWith bootUnprovisioned id else u :=
  hu ▸ if_neg (not_not.mpr hphase)

/-- The fields of BT_STATUS and the sideband's trust are not among what powering and the first time write. -/
theorem State.Shows.startedUp {s : State} {f : FieldAt} {v bootMode pos : Nat} (h : s.Shows f v) (hf : f.addr = A.BT_STATUS ∨ f.addr = A.PR_OWNER)
    : (s.powered.loading bootMode pos).Shows f v := by
  have hf : f.addr = 0x10000 ∨ f.addr = 0xb0008 := hf
  have hpowered : s.powered.Shows f v := by
    have hdomains : (s.over (List.range 96) fun s d => s.powerDomain d true).Shows f v := h.over fun u d hd hu => by
      have hlt : d < 96 := List.mem_range.1 hd
      exact hu.wr (g := domainField d) (x := b01 true) (show f.addr ≠ 0x70010 + 4 * (d / 32) by omega)
    exact (hdomains.loadDomains (by omega) _).of_same (o := partMask [.clk, .time]) (State.loadFabric_same same_refl (by decide))
  exact (State.Shows.ite (hpowered.showPm (show f.addr ≠ 0x10050 by omega) (show f.addr ≠ 0x10054 by omega)) hpowered).setBoot _

theorem State.startedUp_same {s : State} {bootMode pos : Nat} : Same (partMask [.clk, .time, .shared, .boot]) s (s.powered.loading bootMode pos) := by
  have hdomains : Same (partMask [.clk, .time, .shared, .boot]) s (s.over (List.range 96) fun s d => s.powerDomain d true) :=
    State.over_same (fun _ _ hu => State.powerDomain_same hu (by decide)) same_refl
  have hpowered : Same (partMask [.clk, .time, .shared, .boot]) s s.powered :=
    State.loadFabric_same (State.loadDomains_same hdomains (by decide)) (by decide)
  exact State.setBoot_same (ite_same (State.showPm_same hpowered (by decide)) hpowered) (by decide)

theorem State.Shows.strapped {s : State} {bootMode pos sba : Nat} {trust : Bool} {flash : List (Nat × List Nat)} (h : s.Regs) (hmode : bootMode < 4)
    (hpos : pos < 16) :
    (s.strapped bootMode pos sba trust flash).Shows R.BT_STATUS_BOOT_MODE bootMode ∧
    (s.strapped bootMode pos sba trust flash).Shows R.BT_STATUS_CHAIN_POS pos ∧
    (s.strapped bootMode pos sba trust flash).Shows R.PR_OWNER_SB_TRUSTED (b01 trust) := by
  have hothers : (s.norOthers flash).Regs :=
    State.regs_of_same (o := partMask [.nor]) (State.norOthers_same same_refl (by decide)) (by decide) (by decide) (by decide) h
  unfold State.strapped
  generalize s.norOthers flash = w at hothers
  have hmodeShown : (w.wr R.BT_STATUS_BOOT_MODE bootMode).Shows R.BT_STATUS_BOOT_MODE bootMode := .wr_self hothers hmode
  have hposShown : ((w.wr R.BT_STATUS_BOOT_MODE bootMode).wr R.BT_STATUS_CHAIN_POS pos).Shows R.BT_STATUS_CHAIN_POS pos := .wr_self hothers.wr hpos
  exact ⟨State.Shows.of_reg (hmodeShown.wr_apart.wr_apart.wr_apart.wr (by decide)) rfl,
    State.Shows.of_reg (hposShown.wr_apart.wr_apart.wr (by decide)) rfl,
    State.Shows.of_reg (.wr_self hothers.wr.wr.wr.wr (b01_lt trust)) rfl⟩

theorem State.strapped_same {s : State} {bootMode pos sba : Nat} {trust : Bool} {flash : List (Nat × List Nat)}
    : Same (partMask [.nor, .shared, .sb, .power]) s (s.strapped bootMode pos sba trust flash) ∧
    (s.strapped bootMode pos sba trust flash).sb.sba = sba ∧ (s.strapped bootMode pos sba trust flash).power = .run := by
  have hothers : Same (partMask [.nor, .shared, .sb, .power]) s (s.norOthers flash) := State.norOthers_same same_refl (by decide)
  unfold State.strapped
  extract_lets w u
  have hw : Same (partMask [.nor, .shared, .sb, .power]) s w := State.wr_same (State.wr_same (State.wr_same (State.wr_same hothers (by decide)) (by decide))
    (by decide)) (by decide)
  have hu : Same (partMask [.nor, .shared, .sb, .power]) s u := State.wr_same hw (by decide)
  clear_value u
  exact ⟨Same.power_ (x_power := .run) (Same.sb_ (x_sb := { u.sb with sba := sba }) hu (by decide)) (by decide), rfl, rfl⟩

theorem startUp_yields {s : State} {bootMode pos sba : Nat} {trust : Bool} {flash : List (Nat × List Nat)} (hs : s.sound = true)
    (hwf : (Instr.startUp bootMode pos sba trust flash).wf = true) (hphase : s.boot.phase = .reset) :
    Yields (.startUp bootMode pos sba trust flash) s fun t => t.rd R.BT_STATUS_BOOT_MODE = bootMode ∧ t.rd R.BT_STATUS_CHAIN_POS = pos ∧
        t.sb.sba = sba ∧ t.rd R.PR_OWNER_SB_TRUSTED = b01 trust ∧ t.power = .run ∧
        (2 ≤ bootMode → t.boot.phase = .ended ∧ t.rd R.BT_STATUS_RESULT = bootHalt) ∧
        (bootMode ≤ 1 → s.prot.imageKeyHash = none → t.boot.phase = .ended ∧ t.rd R.BT_STATUS_RESULT = bootUnprovisioned) ∧
        (bootMode ≤ 1 → s.prot.imageKeyHash.isSome = true → t.boot.phase = .loading) := by
  have hbounds : bootMode < 4 ∧ pos < 16 := by
    have h := hwf
    simp only [Instr.wf, Bool.and_eq_true, decide_eq_true_eq] at h
    exact ⟨by omega, by omega⟩
  obtain ⟨hmode, hpos, htrust⟩ := State.Shows.strapped (sba := sba) (trust := trust) (flash := flash) (State.sound_regs hs) hbounds.1 hbounds.2
  obtain ⟨hstraps, hsba, hpower⟩ := State.strapped_same (s := s) (bootMode := bootMode) (pos := pos) (sba := sba) (trust := trust) (flash := flash)
  have hmode := hmode.startedUp (bootMode := bootMode) (pos := pos) (.inl rfl)
  have hpos := hpos.startedUp (bootMode := bootMode) (pos := pos) (.inl rfl)
  have htrust := htrust.startedUp (bootMode := bootMode) (pos := pos) (.inr rfl)
  have hstarted := State.startedUp_same (s := s.strapped bootMode pos sba trust flash) (bootMode := bootMode) (pos := pos)
  have hloading : ((s.strapped bootMode pos sba trust flash).powered.loading bootMode pos).boot.phase = .loading := rfl
  have hexec := (exec_startUp bootMode pos sba trust flash s hwf).trans (congrArg _ (State.startUp_eq hphase rfl))
  have hprot := (hstarted .prot (by decide)).trans (hstraps .prot (by decide))
  have hsba := (congrArg Sideband.sba (hstarted .sb (by decide))).trans hsba
  have hpower := (hstarted .power (by decide)).trans hpower
  generalize (s.strapped bootMode pos sba trust flash).powered.loading bootMode pos = u at *
  have hended (result : Nat) (g : Boot → Boot) : (u.endedWith result g).rd R.BT_STATUS_BOOT_MODE = bootMode ∧
      (u.endedWith result g).rd R.BT_STATUS_CHAIN_POS = pos ∧ (u.endedWith result g).rd R.PR_OWNER_SB_TRUSTED = b01 trust :=
    ⟨(State.Shows.setBoot hmode.wr_apart _).rd, (State.Shows.setBoot hpos.wr_apart _).rd, (State.Shows.setBoot (htrust.wr (by decide)) _).rd⟩
  have hresult {result : Nat} (g : Boot → Boot) (hlt : result < 16) : (u.endedWith result g).rd R.BT_STATUS_RESULT = result :=
    (State.Shows.setBoot (.wr_self hmode.regs hlt) _).rd
  rw [hprot] at hexec
  by_cases hhalt : 2 ≤ bootMode
  · obtain ⟨hm, hp, ht⟩ := hended bootHalt fun x => { x with loadDone := x.loadIn }
    exact ⟨_, hexec.trans (congrArg _ (if_pos hhalt)), hm, hp, hsba, ht, hpower, fun _ => ⟨rfl, hresult _ (by decide)⟩, fun hle => absurd hle (by omega),
      fun hle => absurd hle (by omega)⟩
  · rw [if_neg hhalt] at hexec
    cases hkey : s.prot.imageKeyHash with
    | none =>
      obtain ⟨hm, hp, ht⟩ := hended bootUnprovisioned id
      exact ⟨_, hexec.trans (congrArg _ (if_pos (by rw [hkey]; rfl))), hm, hp, hsba, ht, hpower, fun hge => absurd hge hhalt,
        fun _ _ => ⟨rfl, hresult _ (by decide)⟩, fun _ hsome => absurd hsome (by decide)⟩
    | some key =>
      exact ⟨_, hexec.trans (congrArg _ (if_neg (by rw [hkey]; exact Bool.false_ne_true))), hmode.rd, hpos.rd, hsba, htrust.rd, hpower, fun hge => absurd hge hhalt,
        fun _ hnone => absurd hnone (by simp), fun _ _ => hloading⟩

set_option Elab.async false in
theorem startUp_ignored {s : State} {bootMode pos sba : Nat} {trust : Bool} {flash : List (Nat × List Nat)}
    (hwf : (Instr.startUp bootMode pos sba trust flash).wf = true) (hphase : s.boot.phase ≠ .reset) :
    exec (.startUp bootMode pos sba trust flash) s = .next s := (exec_startUp bootMode pos sba trust flash s hwf).trans (congrArg _ (if_pos hphase))

/-! ### SELFTEST_DONE -/

noncomputable def fencedField (p : Plane) : FieldAt := if p = .A then R.BT_STATUS_FENCED_A else R.BT_STATUS_FENCED_B

/-- A plane's tests are complete with these messages. -/
noncomputable def State.selftested (s : State) (p : Plane) (msgs : List (Plane × FaultMsg)) : State :=
  let s := s.setBoot fun x => { x with tested := x.tested ++ [p], failed := x.failed ++ msgs }
  let s := if msgs.isEmpty then s else s.wr (fencedField p) 1
  if s.on R.BT_STATUS_FENCED_A && s.on R.BT_STATUS_FENCED_B then
    (s.wr R.BT_STATUS_RESULT bootSelftest).setBoot fun x => { x with phase := .ended }
  else s

theorem State.selftestDone_eq {s : State} {core : Bool} {p : Plane} {bank : Option (Nat × Nat)} (hphase : s.boot.phase = .loading)
    (hnew : p ∉ s.boot.tested) :
    ∃ msgs, s.selftestDone p bank core = s.selftested p msgs ∧ (msgs = [] ↔ bank = none ∧ core = false) := by
  refine ⟨_, if_neg (by simp [hphase, hnew]), ?_⟩
  cases bank <;> cases core <;> simp

theorem State.selftested_of_none {s : State} {p : Plane} : (s.selftested p []).reg = s.reg ∨ (s.selftested p []).boot.phase = .ended := by
  unfold State.selftested
  extract_lets u w
  split
  · exact .inr rfl
  · exact .inl rfl

theorem State.selftested_tested (s : State) (p : Plane) (msgs : List (Plane × FaultMsg))
    : (s.selftested p msgs).boot.tested = s.boot.tested ++ [p] := by
  unfold State.selftested
  extract_lets u w
  have hw : w.boot = u.boot := by
    show (if msgs.isEmpty then u else u.wr (fencedField p) 1).boot = u.boot
    split <;> rfl
  have htested : w.boot.tested = s.boot.tested ++ [p] := congrArg Boot.tested hw
  split
  · exact htested
  · exact htested

theorem State.selftested_of_failed {s : State} {p : Plane} (hs : s.Regs) {msgs : List (Plane × FaultMsg)} (hmsgs : msgs ≠ [])
    : (s.selftested p msgs).rd (fencedField p) = 1 ∧
    (s.on (fencedField (other p)) = true → (s.selftested p msgs).boot.phase = .ended ∧ (s.selftested p msgs).rd R.BT_STATUS_RESULT = bootSelftest) := by
  unfold State.selftested
  extract_lets u w
  have hw : w = u.wr (fencedField p) 1 := if_neg (by simpa using hmsgs)
  have hregs : u.Regs := hs.of_reg rfl
  have hfenced : w.Shows (fencedField p) 1 := by
    rw [hw]
    cases p <;> exact .wr_self hregs (by decide)
  have hend : ((w.wr R.BT_STATUS_RESULT bootSelftest).setBoot fun x => { x with phase := .ended }).rd (fencedField p) = 1 := by
    refine (State.Shows.setBoot ?_ _).rd
    cases p <;> exact hfenced.wr_apart
  refine ⟨?_, fun hother => ?_⟩
  · split
    · exact hend
    · exact hfenced.rd
  · have hboth : (w.on R.BT_STATUS_FENCED_A && w.on R.BT_STATUS_FENCED_B) = true := by
      have hapart : w.Shows (fencedField (other p)) (s.rd (fencedField (other p))) := by
        have hshows : u.Shows (fencedField (other p)) (s.rd (fencedField (other p))) := .of_reg (.of_rd hs _) rfl
        rw [hw]
        cases p <;> exact hshows.wr_apart
      have hthis : w.on (fencedField p) = true := by rw [State.on, hfenced.rd]; rfl
      have hthat : w.on (fencedField (other p)) = true := by rw [State.on, hapart.rd]; exact hother
      cases p
      · exact Bool.and_eq_true_iff.2 ⟨hthis, hthat⟩
      · exact Bool.and_eq_true_iff.2 ⟨hthat, hthis⟩
    rw [if_pos hboth]
    exact ⟨rfl, (State.Shows.setBoot (.wr_self hfenced.regs (by decide)) _).rd⟩

theorem selftestDone_yields {s : State} {core : Bool} {p : Plane} {bank : Option (Nat × Nat)} (hs : s.sound = true)
    (hwf : (Instr.selftestDone p bank core).wf = true) (hphase : s.boot.phase = .loading)
    (hnew : p ∉ s.boot.tested) : Yields (.selftestDone p bank core) s fun t => t.boot.tested = s.boot.tested ++ [p] ∧
      (bank.isSome || core = true → t.rd (if p = .A then R.BT_STATUS_FENCED_A else R.BT_STATUS_FENCED_B) = 1 ∧
        (s.on (if p = .A then R.BT_STATUS_FENCED_B else R.BT_STATUS_FENCED_A) = true →
          t.boot.phase = .ended ∧ t.rd R.BT_STATUS_RESULT = bootSelftest)) ∧
      (bank = none → core = false → t.reg = s.reg ∨ t.boot.phase = .ended) := by
  obtain ⟨msgs, hdone, hnone⟩ := State.selftestDone_eq (bank := bank) (core := core) hphase hnew
  refine ⟨_, (exec_selftestDone p bank core s hwf).trans (congrArg _ hdone), s.selftested_tested p msgs, fun hfail => ?_, fun hbank hcore => ?_⟩
  · have hmsgs : msgs ≠ [] := fun hnil => by
      obtain ⟨hbank, hcore⟩ := hnone.1 hnil
      rw [hbank, hcore] at hfail
      exact absurd hfail (by decide)
    have hfailed := State.selftested_of_failed (p := p) (State.sound_regs hs) hmsgs
    cases p <;> exact hfailed
  · rw [hnone.2 ⟨hbank, hcore⟩]
    exact State.selftested_of_none

theorem selftestDone_ignored {s : State} {core : Bool} {p : Plane} {bank : Option (Nat × Nat)} (hwf : (Instr.selftestDone p bank core).wf = true)
    (hnot : s.boot.phase ≠ .loading ∨ p ∈ s.boot.tested) :
    exec (.selftestDone p bank core) s = .next s := (exec_selftestDone p bank core s hwf).trans (congrArg _ (if_pos hnot))

/-! ### The chain's pins -/

theorem deviceReady_yields {s : State} (hs : s.sound = true) (hreset : s.boot.phase ≠ .reset) (hoff : s.boot.phase ≠ .off) (hnew : s.boot.ready = false)
    (hrun : s.halted = false) : Yields .deviceReady s fun t => t.boot.ready = true ∧
      t.boot.passing = (!s.inChain && decide (s.boot.phase = .loading)) ∧ t.boot.loadDone = (s.chainHead || (s.inChain && s.boot.loadIn)) ∧
      (s.boot.waitPass.isSome = true → t.rd R.BT_STATUS_RESULT = bootWaitPass) := by
  have hnot : ¬(s.boot.phase = .reset ∨ s.boot.phase = .off ∨ s.boot.ready = true ∨ s.halted = true) := by simp [hreset, hoff, hnew, hrun]
  have hready := (exec_deviceReady s).trans (congrArg _ (if_neg hnot))
  cases hwait : s.boot.waitPass.isSome with
  | true =>
    exact ⟨_, hready.trans (congrArg _ (if_pos hwait)), rfl, rfl, rfl, fun _ => State.rd_wr_of_lt ((State.sound_regs hs).of_reg rfl) (by decide)⟩
  | false => exact ⟨_, hready.trans (congrArg _ (if_neg (show ¬s.boot.waitPass.isSome = true by rw [hwait]; decide))), rfl, rfl, rfl, fun h => absurd h (by decide)⟩

theorem deviceReady_ignored {s : State} (hnot : s.boot.ready = true ∨ s.halted = true) : exec .deviceReady s = .next s :=
  (exec_deviceReady s).trans (congrArg _ (if_pos (.inr (.inr hnot))))

theorem loadInRise_yields {s : State} : Yields .loadInRise s fun t => t.boot.loadIn = true ∧ (s.halted = true → t.boot.loadDone = true) ∧
    (s.halted = false → s.chainHead = true → s.boot.ready = true → s.boot.tried = [] → s.boot.passing = false → s.boot.phase ≠ .run →
      t.boot.passing = true ∧ t.boot.loadDone = false) := by
  refine ⟨_, exec_loadInRise s, ?_⟩
  unfold State.loadInRise
  extract_lets u
  have hhalted : u.halted = s.halted := rfl
  have hhead : u.chainHead = s.chainHead := rfl
  have hboot : u.boot = { s.boot with loadIn := true } := rfl
  clear_value u
  refine ⟨?_, fun hhalt => by rw [if_pos (hhalted.trans hhalt)]; rfl, fun hrun hfirst hready htried hpass hphase => ?_⟩
  · have hin : u.boot.loadIn = true := by rw [hboot]
    split_ifs <;> exact hin
  · have hchain : u.inChain = true := (Bool.and_eq_true_iff.1 (hhead.trans hfirst)).1
    rw [if_neg (by rw [hhalted, hrun]; decide), if_neg (by simp [hchain, hboot, hready]), if_pos (hhead.trans hfirst),
      if_pos (by simp [hboot, htried, hpass, hphase])]
    exact ⟨rfl, rfl⟩

theorem loadInFall_yields {s : State} : Yields .loadInFall s fun t => t.boot.loadIn = false ∧ (s.halted = true → t.boot.loadDone = false) ∧
    (s.inChain = true → s.chainHead = false → t.boot.loadDone = false) := by
  refine ⟨_, exec_loadInFall s, ?_⟩
  unfold State.loadInFall
  extract_lets u
  have hhalted : u.halted = s.halted := rfl
  have hchained : u.inChain = s.inChain := rfl
  have hhead : u.chainHead = s.chainHead := rfl
  have hin : u.boot.loadIn = false := rfl
  clear_value u
  refine ⟨by split_ifs <;> exact hin, fun hhalt => by rw [if_pos (hhalted.trans hhalt)]; rfl, fun hchain hlater => ?_⟩
  have hfollows : (u.inChain && !u.chainHead) = true := by rw [hchained, hchain, hhead, hlater]; rfl
  rw [if_pos hfollows]
  split <;> rfl

/-- A head that may begin a pass. -/
theorem chainHead_passes {s : State} (hhead : s.chainHead = true) (hpass : s.boot.passing = false) (hphase : s.boot.phase ≠ .run) :
    (s.boot.ready = true → s.boot.tried = [] → Yields .firstPassTimeout s fun t => t.boot = { s.boot with passing := true, loadDone := false }) ∧
    (∀ k, s.boot.tried = [k] → s.boot.loadIn = false → Yields .secondPass s fun t => t.boot = { s.boot with passing := true, loadDone := false }) :=
  ⟨fun hready htried => ⟨_, (exec_firstPassTimeout s).trans (congrArg _ (if_pos (by simp [hhead, hpass, hphase, hready, htried]))), rfl⟩,
    fun k htried hlow => ⟨_, (exec_secondPass s).trans (congrArg _ (if_pos (by simp [hhead, hpass, hphase, htried, hlow]))), rfl⟩⟩

theorem chainPasses_ignored {s : State} (hnot : s.chainHead = false ∨ s.boot.passing = true) :
    exec .firstPassTimeout s = .next s ∧ exec .secondPass s = .next s := by
  constructor
  · refine (exec_firstPassTimeout s).trans (congrArg _ (if_neg ?_))
    rcases hnot with hlater | hpassing
    · simp [hlater]
    · simp [hpassing]
  · refine (exec_secondPass s).trans (congrArg _ (if_neg ?_))
    rcases hnot with hlater | hpassing
    · simp [hlater]
    · simp [hpassing]

/-! ### The reading of a slot -/

set_option Elab.async false in
theorem State.slotResult_regs {s : State} {slot step sec off : Nat} (h : s.Regs) : (s.slotResult slot step sec off).Regs := h.wr.wr.wr

theorem State.slotResult_step {s : State} {slot step sec off : Nat} (h : s.Regs) (hstep : step < 16)
    : (s.slotResult slot step sec off).Shows (R.BT_FAIL_STEP slot) step :=
  (State.Shows.wr_self h hstep).wr_apart.wr_apart

/-- The record of a slot is no field of another register. -/
theorem State.Shows.slotResult {s : State} {f : FieldAt} {v slot step sec off : Nat} (h : s.Shows f v) (hf : f.addr ≠ A.BT_FAIL slot)
    : (s.slotResult slot step sec off).Shows f v := ((h.wr hf).wr hf).wr hf

theorem State.Shows.noImage {s : State} {f : FieldAt} {v : Nat} (h : s.Shows f v) (hf : f.addr ≠ A.BT_STATUS)
    : s.noImage.Shows f v := (h.wr hf).setBoot _

/-- What a read of the NOR leaves, with SFDP's answer shown. -/
noncomputable def State.sfdpShown (s : State) (flash : List (Nat × List Nat)) (ok density : Nat) : State :=
  ((s.norOthers flash).wr R.BT_NOR_INFO_SFDP_OK ok).wr R.BT_NOR_INFO_DENSITY density

theorem State.norOthers_boot {s : State} {flash : List (Nat × List Nat)}
    : (s.norOthers flash).boot = s.boot := State.norOthers_same (o := partMask [.nor]) same_refl (by decide) .boot (by decide)

theorem State.passReadEnd_unsupported {s : State} {slot : Nat} {flash : List (Nat × List Nat)} (hphase : s.boot.phase = .loading)
    (hready : s.boot.ready = true) (htested : 2 ≤ s.boot.tested.length) :
    s.passReadEnd slot none flash = (((s.sfdpShown flash 0 0).slotResult 0 0 0 0).slotResult 1 0 0 0).noImage := by
  unfold State.passReadEnd
  rw [if_neg (by rw [State.norOthers_boot, hphase]; decide), if_neg (by rw [State.norOthers_boot, hready]; simpa using Nat.lt_of_succ_le htested)]
  rfl

/-- A device of no chain reads the slot whose turn it is. -/
theorem State.passReadEnd_reads {s u : State} {slot : Nat} {flash : List (Nat × List Nat)} {density : Nat} (hphase : s.boot.phase = .loading)
    (hready : s.boot.ready = true) (htested : 2 ≤ s.boot.tested.length)
    (hlarge : 256 ≤ density) (hu : u = (s.sfdpShown flash 1 density).showHeaders) (hchain : u.inChain = false)
    (hturn : (u.slotOrder.filter fun k => decide (k ∉ u.boot.tried)).head? = some slot) : s.passReadEnd slot (some density) flash = u.readSlot slot := by
  unfold State.passReadEnd
  rw [if_neg (by rw [State.norOthers_boot, hphase]; decide), if_neg (by rw [State.norOthers_boot, hready]; simpa using Nat.lt_of_succ_le htested)]
  extract_lets good shown w order
  have hgood : good = true := decide_eq_true hlarge
  have hw : w = u := by
    rw [hu]
    show (((s.norOthers flash).wr R.BT_NOR_INFO_SFDP_OK (b01 good)).wr R.BT_NOR_INFO_DENSITY density).showHeaders = _
    rw [hgood]
    rfl
  have horder : order = u.slotOrder.filter fun k => decide (k ∉ u.boot.tried) := hw ▸ rfl
  clear_value good shown w order
  subst hw
  rw [hgood, if_neg (by decide), hchain, if_neg (by decide)]
  rw [← horder] at hturn
  cases order with
  | nil => cases hturn
  | cons k rest =>
    obtain rfl : k = slot := Option.some.inj hturn
    exact if_pos rfl

theorem passReadEnd_unsupported {s : State} {slot : Nat} {flash : List (Nat × List Nat)} (hs : s.sound = true)
    (hwf : (Instr.passReadEnd slot none flash).wf = true) (hphase : s.boot.phase = .loading)
    (hready : s.boot.ready = true) (htested : 2 ≤ s.boot.tested.length) : Yields (.passReadEnd slot none flash) s fun t => t.boot.phase = .ended ∧
      t.boot.passing = false ∧ t.rd R.BT_STATUS_RESULT = bootNoImage ∧ t.rd (R.BT_FAIL_STEP 0) = 0 ∧ t.rd (R.BT_FAIL_STEP 1) = 0 ∧
        t.rd R.BT_NOR_INFO_SFDP_OK = 0 := by
  have hothers : (s.norOthers flash).Regs :=
    State.regs_of_same (o := partMask [.nor]) (State.norOthers_same same_refl (by decide)) (by decide) (by decide) (by decide) (State.sound_regs hs)
  have hok : (s.sfdpShown flash 0 0).Shows R.BT_NOR_INFO_SFDP_OK 0 := (State.Shows.wr_self hothers (by decide)).wr_apart
  refine ⟨_, (exec_passReadEnd slot none flash s hwf).trans (congrArg _ (State.passReadEnd_unsupported hphase hready htested)), rfl, rfl, ?_⟩
  generalize s.sfdpShown flash 0 0 = u at hok
  have hfirst : ((u.slotResult 0 0 0 0).slotResult 1 0 0 0).Shows (R.BT_FAIL_STEP 0) 0 :=
    (State.slotResult_step hok.regs (by decide)).slotResult (by decide)
  have hsecond : ((u.slotResult 0 0 0 0).slotResult 1 0 0 0).Shows (R.BT_FAIL_STEP 1) 0 := State.slotResult_step (State.slotResult_regs hok.regs) (by decide)
  exact ⟨(State.Shows.setBoot (.wr_self hfirst.regs (by decide)) _).rd, (hfirst.noImage (by decide)).rd, (hsecond.noImage (by decide)).rd,
    (((hok.slotResult (by decide)).slotResult (by decide)).noImage (by decide)).rd⟩

/-- The words of BT_STATUS are not among what the headers' record writes. -/
theorem State.Shows.showHeaders {s : State} {f : FieldAt} {v : Nat} (h : s.Shows f v) (hf : f.addr = A.BT_STATUS) : s.showHeaders.Shows f v :=
  h.over fun u k _ hu => .ite hu (hu.slotResult (by rw [hf]; show 0x10000 ≠ 0x10004 + 4 * k; omega))

theorem State.showHeaders_inChain {s : State} {flash : List (Nat × List Nat)} {density : Nat} (h : s.Regs)
    : (s.sfdpShown flash 1 density).showHeaders.inChain = s.inChain := by
  have hothers : (s.norOthers flash).Shows R.BT_STATUS_BOOT_MODE (s.rd R.BT_STATUS_BOOT_MODE) :=
    (State.Shows.of_rd h _).of_same (o := partMask [.nor]) (State.norOthers_same same_refl (by decide))
  have hmode : (s.sfdpShown flash 1 density).Shows R.BT_STATUS_BOOT_MODE (s.rd R.BT_STATUS_BOOT_MODE) := (hothers.wr (by decide)).wr (by decide)
  rw [State.inChain, (hmode.showHeaders rfl).rd, State.inChain]

/-- An accepted image is applied. -/
theorem State.accept_applied {s : State} {slot : Nat} {img : List Nat} {g : Gift}
    : (s.accept_ slot img g).imageApplied = true ∧ (s.accept_ slot img g).boot.phase = .applied ∧
    (s.accept_ slot img g).boot.passing = false := by
  unfold State.accept_
  extract_lets digest shown version sequence digested booted held applied bad start role health prated tuned
  have hheld : Same (partMask [.privA, .privB, .act, .shared]) booted held :=
    State.fillBuckets_same (State.imageLevels_same (State.holdContexts_same same_refl (by decide)) (by decide)) (by decide)
  have hphase : booted.boot.phase = .applied ∧ booted.boot.passing = false := ⟨rfl, rfl⟩
  clear_value booted held
  have hboot : applied.boot = held.boot := rfl
  have himage : applied.imageApplied = true := rfl
  have hrole : Same (partMask [.shared, .faults, .cal, .prot]) applied role := State.wr_same same_refl (by decide)
  clear_value applied role
  have hhealth : Same (partMask [.shared, .faults, .cal, .prot]) applied health :=
    State.over_same (fun _ _ hu => State.wr_same hu (by decide)) hrole
  have hprated : Same (partMask [.shared, .faults, .cal, .prot]) applied prated :=
    State.over_same (fun _ _ hu => State.checkPrated_same hu (by decide)) hhealth
  have htuned : Same (partMask [.shared, .faults, .cal, .prot]) applied tuned :=
    State.over_same (fun _ _ hu => State.updCal_same hu (by decide)) hprated
  have hend : Same (partMask [.shared, .faults, .cal, .prot]) applied tuned.trySession := State.trySession_same htuned (by decide)
  have hkept : tuned.trySession.boot = booted.boot := (hend .boot (by decide)).trans (hboot.trans (hheld .boot (by decide)))
  exact ⟨(hend .image (by decide)).trans himage, hkept ▸ hphase⟩

set_option Elab.async false in
theorem State.headerStep_lt (s : State) (h : List Nat) : s.headerStep h < 16 := by
  unfold State.headerStep
  split_ifs <;> decide

/-- The step of a check is one of R413's seven. -/
theorem State.checkImage_step {s : State} {step : Nat} {img : List Nat} {place : Place} (h : s.checkImage img = .error (step, place)) : step < 16 := by
  unfold State.checkImage at h
  extract_lets len at h
  have hstep {a : Nat} {b : Place} (ha : a < 16) (heq : (Except.error (a, b) : Except (Nat × Place) (State × Gift)) = .error (step, place)) : step < 16 := by
    cases heq
    exact ha
  split at h
  · exact hstep (s.headerStep_lt img) h
  · split_ifs at h
    · exact hstep (by decide) h
    · exact hstep (by decide) h
    · exact hstep (by decide) h
    · split at h
      · cases h
      · exact hstep (by decide) h

/-- The state in which a slot's checks begin. -/
noncomputable def State.slotBegun (s : State) (slot : Nat) : State :=
  ((s.bump R.BT_STATUS_PASSES 1).setBoot fun x => { x with tried := x.tried ++ [slot], waitPass := none }).wr R.BT_STATUS_RESULT bootLoading

/-- The bytes of a slot's image with its signature. -/
noncomputable def State.slotImage (s : State) (slot : Nat) : List Nat := s.norBytes (slotBase slot) (min 0x800000 (leAt (s.header slot) 0x10 4 + 64))

theorem State.readSlot_accepted {s : State} {slot : Nat} {x : State × Gift} (h : (s.slotBegun slot).checkImage (s.slotImage slot) = .ok x) :
    s.readSlot slot = x.1.accept_ slot (s.slotImage slot) x.2 := by
  unfold State.readSlot
  extract_lets len img begun shown
  have hcheck : shown.checkImage img = .ok x := h
  rw [hcheck]
  rfl

/-- A slot that fails is recorded; the start-up ends where no slot is left. -/
noncomputable def State.slotFailed (s : State) (slot step sec off : Nat) : State :=
  let s := s.slotResult slot step sec off
  if s.inChain then
    let s := s.setBoot fun x => { x with passing := false }
    if 2 ≤ s.boot.tried.length then s.noImage else s
  else if (s.slotOrder.filter fun k => k ∉ s.boot.tried).isEmpty then s.noImage else s

theorem State.slotFailed_shows {s : State} {slot step sec off : Nat} (h : s.Regs) (hstep : step < 16)
    : (s.slotFailed slot step sec off).imageApplied = s.imageApplied ∧
    (s.slotFailed slot step sec off).rd (R.BT_FAIL_STEP slot) = step := by
  unfold State.slotFailed
  extract_lets u w
  have hshows : u.Shows (R.BT_FAIL_STEP slot) step := State.slotResult_step h hstep
  have hstatus : (R.BT_FAIL_STEP slot).addr ≠ A.BT_STATUS := show 0x10004 + 4 * slot ≠ 0x10000 by omega
  have hended {t : State} (ht : t.Shows (R.BT_FAIL_STEP slot) step) : t.noImage.rd (R.BT_FAIL_STEP slot) = step := (ht.noImage hstatus).rd
  have hsame : Same (partMask [.shared, .boot]) s u := State.slotResult_same same_refl (by decide)
  have himage {t : State} (ht : Same (partMask [.shared, .boot]) s t) : t.imageApplied = s.imageApplied := ht .image (by decide)
  have hw : Same (partMask [.shared, .boot]) s w := State.setBoot_same hsame (by decide)
  have hshown : w.Shows (R.BT_FAIL_STEP slot) step := hshows.setBoot _
  clear_value u w
  split_ifs
  · exact ⟨himage (State.noImage_same hw (by decide)), hended hshown⟩
  · exact ⟨himage hw, hshown.rd⟩
  · exact ⟨himage (State.noImage_same hsame (by decide)), hended hshows⟩
  · exact ⟨himage hsame, hshows.rd⟩

/-- A failure at no place is recorded at a free one. -/
theorem State.readSlot_refused {s : State} {slot step : Nat} {place : Place}
    (h : (s.slotBegun slot).checkImage (s.slotImage slot) = .error (step, place)) :
    ∃ w sec off, Same (partMask [.free]) (s.slotBegun slot) w ∧ s.readSlot slot = w.slotFailed slot step sec off := by
  unfold State.readSlot
  extract_lets len img begun shown
  have hcheck : shown.checkImage img = .error (step, place) := h
  rw [hcheck]
  cases place with
  | some at_ => exact ⟨shown, at_.1, at_.2, same_refl, rfl⟩
  | none => exact ⟨shown.free.2, _, _, State.free_same same_refl (by decide), rfl⟩

/-- A slot that fails: its step shows, and what is applied stays. -/
theorem State.readSlot_failed {s : State} {slot step : Nat} {place : Place} (hs : s.Regs)
    (h : (s.slotBegun slot).checkImage (s.slotImage slot) = .error (step, place)) :
    (s.readSlot slot).imageApplied = s.imageApplied ∧ (s.readSlot slot).rd (R.BT_FAIL_STEP slot) = step := by
  obtain ⟨w, sec, off, hsame, hread⟩ := State.readSlot_refused h
  have hregs : w.Regs := State.regs_of_same hsame (by decide) (by decide) (by decide) (State.Regs.wr (State.Regs.of_reg hs.wr rfl))
  obtain ⟨himage, hstep⟩ := State.slotFailed_shows (slot := slot) (sec := sec) (off := off) hregs (State.checkImage_step h)
  rw [hread]
  exact ⟨himage.trans (hsame .image (by decide)), hstep⟩

theorem passReadEnd_reads {s u : State} {slot : Nat} {flash : List (Nat × List Nat)} {density : Nat} (hs : s.sound = true)
    (hwf : (Instr.passReadEnd slot (some density) flash).wf = true)
    (hphase : s.boot.phase = .loading) (hready : s.boot.ready = true) (htested : 2 ≤ s.boot.tested.length) (hlarge : 256 ≤ density)
    (hchain : s.inChain = false) (hu : u = (s.sfdpShown flash 1 density).showHeaders)
    (hturn : (u.slotOrder.filter fun k => decide (k ∉ u.boot.tried)).head? = some slot) :
    (∀ r, (u.slotBegun slot).checkImage (u.slotImage slot) = .ok r → Yields (.passReadEnd slot (some density) flash) s fun t =>
      t.imageApplied = true ∧ t.boot.phase = .applied ∧ t.boot.passing = false) ∧
    (∀ step place, (u.slotBegun slot).checkImage (u.slotImage slot) = .error (step, place) →
      Yields (.passReadEnd slot (some density) flash) s fun t => t.imageApplied = s.imageApplied ∧ t.rd (R.BT_FAIL_STEP slot) = step) := by
  have hregs := State.sound_regs hs
  have hsame : Same (partMask [.nor, .shared]) s u :=
    hu ▸ State.showHeaders_same (State.wr_same (State.wr_same (State.norOthers_same same_refl (by decide)) (by decide)) (by decide)) (by decide)
  have hchainU : u.inChain = false := by rw [hu, State.showHeaders_inChain hregs, hchain]
  have hregsU : u.Regs := by
    have hothers : (s.norOthers flash).Regs :=
      State.regs_of_same (o := partMask [.nor]) (State.norOthers_same same_refl (by decide)) (by decide) (by decide) (by decide) hregs
    rw [hu]
    exact State.Regs.over (fun _ _ hw => by split; exacts [hw, State.slotResult_regs hw]) hothers.wr.wr
  have hexec := (exec_passReadEnd slot (some density) flash s hwf).trans
    (congrArg _ (State.passReadEnd_reads hphase hready htested hlarge hu hchainU hturn))
  refine ⟨fun r hok => ⟨_, hexec.trans (congrArg _ (State.readSlot_accepted hok)), State.accept_applied⟩, fun step place herr => ?_⟩
  obtain ⟨himage, hstep⟩ := State.readSlot_failed hregsU herr
  exact ⟨_, hexec, himage.trans (hsame .image (by decide)), hstep⟩

/-- Settles O56: each command's effect by its own lemma. -/
theorem startsUp : Obligations.StartsUp := by
  unfold Obligations.StartsUp
  intro s hs
  exact ⟨fun resetN vaon => reset_yields, fun bootMode pos sba trust flash hwf hphase => startUp_yields hs hwf hphase,
    fun bootMode pos sba trust flash hwf hphase => startUp_ignored hwf hphase,
    fun p bank core hwf hphase hnew => selftestDone_yields hs hwf hphase hnew, fun p bank core hwf hnot => selftestDone_ignored hwf hnot,
    fun hreset hoff hnew hrun => deviceReady_yields hs hreset hoff hnew hrun, fun hnot => deviceReady_ignored hnot, loadInRise_yields, loadInFall_yields,
    fun hhead hpass hphase => chainHead_passes hhead hpass hphase, fun hnot => chainPasses_ignored hnot,
    fun slot flash hwf hphase hready htested => passReadEnd_unsupported hs hwf hphase hready htested,
    fun slot density flash u v hwf hphase hready htested hlarge hchain hu hv hturn => by
      subst hv
      exact passReadEnd_reads hs hwf hphase hready htested hlarge hchain hu hturn⟩

end Sys2Proof.Machine
end

section
/-! TESTS. Concrete states that meet the hypotheses of the statement on the way to an image. -/

namespace Sys2Proof.Machine

open Sys2Proof

/-- A device in reset that has an image key, and one that has none. -/
noncomputable def keyedBlock (hash : Option (List Nat))
    : State := { State.reset with boot := { phase := .reset }, prot := { State.reset.prot with imageKeyHash := hash } }

set_option Elab.async false in
theorem keyedBlock_reset : Yields (.reset true false) (keyedBlock none) fun t => t.boot.phase = .reset ∧ t.therm.tripN = true :=
  reset_yields.imp fun _ ⟨hphase, _, _, _, _, _, htrip, _⟩ => ⟨hphase, htrip⟩

/-- The straps are taken; HALT, no key and a key end the start-up or begin the loading. -/
theorem keyedBlock_startUp : (Yields (.startUp 2 15 7 true []) (keyedBlock none) fun t => t.rd R.BT_STATUS_RESULT = bootHalt ∧ t.rd R.BT_STATUS_CHAIN_POS = 15) ∧
    (Yields (.startUp 1 0 0 false []) (keyedBlock none) fun t => t.rd R.BT_STATUS_RESULT = bootUnprovisioned) ∧
    Yields (.startUp 0 0 0 false []) (keyedBlock (some [])) fun t => t.boot.phase = .loading :=
  ⟨(startUp_yields (by decide +kernel) (by decide +kernel) rfl).imp fun t ⟨_, hpos, _, _, _, hhalt, _⟩ => ⟨(hhalt (by decide)).2, hpos⟩,
    (startUp_yields (by decide +kernel) (by decide +kernel) rfl).imp fun t ⟨_, _, _, _, _, _, hnone, _⟩ => (hnone (by decide) rfl).2,
    (startUp_yields (by decide +kernel) (by decide +kernel) rfl).imp fun _ ⟨_, _, _, _, _, _, _, hkey⟩ => hkey (by decide) rfl⟩

/-- A device that loads; plane A has been tested and has failed. -/
noncomputable def halfTestedBlock : State :=
  { State.reset with boot := { phase := .loading, tested := [.A] } }.wr R.BT_STATUS_FENCED_A 1

theorem halfTestedBlock_fails : Yields (.selftestDone .B (some (79, 0)) false) halfTestedBlock fun t => t.boot.phase = .ended ∧ t.rd R.BT_STATUS_RESULT = bootSelftest :=
  (selftestDone_yields (by decide +kernel) (by decide +kernel) rfl (by decide +kernel)).imp fun t ⟨_, hfails, _⟩ => (hfails rfl).2 (by decide +kernel)

theorem halfTestedBlock_ready : Yields .deviceReady halfTestedBlock fun t => t.boot.ready = true ∧ t.boot.passing = true :=
  (deviceReady_yields (by decide +kernel) (by decide +kernel) (by decide +kernel) rfl (by decide +kernel)).imp fun t ⟨hready, hpass, _⟩ => ⟨hready, hpass.trans (by decide +kernel)⟩

/-- The head of a chain, ready for its first pass, or for its second. -/
noncomputable def headBlock (tried : List Nat) : State :=
  { State.reset with boot := { phase := .loading, ready := true, tested := [.A, .B], tried := tried } }.wr R.BT_STATUS_BOOT_MODE 1

theorem headBlock_passes : (Yields .loadInRise (headBlock []) fun t => t.boot.passing = true) ∧
    (Yields .firstPassTimeout (headBlock []) fun t => t.boot.passing = true) ∧ Yields .secondPass (headBlock [1]) fun t => t.boot.loadDone = false :=
  ⟨loadInRise_yields.imp fun t ⟨_, _, hpass⟩ => (hpass (by decide +kernel) (by decide +kernel) rfl rfl rfl (by decide +kernel)).1,
    ((chainHead_passes (by decide +kernel) rfl (by decide +kernel)).1 rfl rfl).imp fun t hboot => congrArg Boot.passing hboot,
    ((chainHead_passes (by decide +kernel) rfl (by decide +kernel)).2 1 rfl rfl).imp fun t hboot => congrArg Boot.loadDone hboot⟩

theorem headBlock_noNor : Yields (.passReadEnd 0 none []) (headBlock []) fun t => t.rd R.BT_STATUS_RESULT = bootNoImage :=
  (passReadEnd_unsupported (by decide +kernel) (by decide +kernel) rfl rfl (by decide)).imp fun t ⟨_, _, hresult, _⟩ => hresult

end Sys2Proof.Machine
end
